-- ==== Sys2Proof/Word.lean ====
section
/-!
DEFINITION. The plainest helpers of the model: bytes of a list, saturating counters, updates of lists. Bytes and register values are
natural numbers, cut to their width where they are written.
-/
namespace Sys2Proof

/-- The byte at `i`; a missing byte reads zero. -/
def byteAt (bs : List Nat) (i : Nat) : Nat := bs.getD i 0

/-- Pad or cut to exactly `n` bytes. -/
def padTo (n : Nat) (bs : List Nat) : List Nat := (bs ++ List.replicate n 0).take n

/-- 1 for true, 0 for false. -/
def b2n (b : Bool) : Nat := if b then 1 else 0

/-- `v + k`, saturating at the largest `w`-bit number. -/
def satAdd (w v k : Nat) : Nat := min (v + k) (2 ^ w - 1)

/-- How many bits of `v` below `n` are set. -/
def popcount : Nat → Nat → Nat
  | 0, _ => 0
  | n + 1, v => (v % 2) + popcount n (v / 2)

/-- Update the entry at `i` of a list; nothing happens where there is none. -/
def modAt {α : Type} (l : List α) (i : Nat) (f : α → α) : List α :=
  match l, i with
  | [], _ => []
  | a :: t, 0 => f a :: t
  | a :: t, n + 1 => a :: modAt t n f

/-- Insert by a key that must rise; an entry of equal key goes behind those already there. -/
def insertBy {α : Type} (key : α → Nat) (x : α) : List α → List α
  | [] => [x]
  | a :: t => if key x < key a then x :: a :: t else a :: insertBy key x t

end Sys2Proof
end

