-- ==== Sys2Proof/Types.lean ====
section
/-!
DEFINITION. The plain data a command carries (Syntax.lean) and the records that leave the block (Machine/State.lean).
-/
namespace Sys2Proof

/-- The place of an operand that carries nothing: what the command would bring there (a proof, a fingerprint, a signature or a tag that
holds) is computed from the bytes and the keys in the state (notes/assumptions/4.md). -/
abbrev Computed : Type := Unit

/-- Order codes (R1, R6): the stall links and session contexts present. -/
inductive Variant where
  | esw48 | esw24 | esw12
  deriving DecidableEq, Repr

/-- Stall links present (R6). -/
def Variant.links : Variant → Nat
  | .esw48 => 48 | .esw24 => 24 | .esw12 => 12

/-- Session contexts present (R6). -/
def Variant.sessions : Variant → Nat
  | .esw48 => 128 | .esw24 => 64 | .esw12 => 32

/-- GLB_VARIANT.ORDER (R576). -/
def Variant.order : Variant → Nat
  | .esw48 => 0 | .esw24 => 1 | .esw12 => 2

/-- What a poll reads from one doorbell record (R54): the ring (0-7 SQ, 8-11 CQ, 12 EQ), HOST_INDEX, HOST_SEQ. -/
structure Doorbell where
  ring : Nat
  index : Nat
  seq : Nat
  deriving DecidableEq, Repr

/-- A submission slot of host memory as a poll finds it: the SQ, the slot and its 64 bytes. -/
structure SqSlot where
  sq : Nat
  slot : Nat
  bytes : List Nat
  deriving DecidableEq, Repr

/-- What the AFE of a feeder gives for a millisecond (R225, R232-R234): the voltage and current codes of paths A, B, C and N
at each of its 25 samples; the paths that take its reference meanwhile; the line frequency, 0.001 Hz. -/
structure FeederIn where
  samples : List (List (Int × Int))
  held : List Nat
  freq : Nat
  deriving DecidableEq, Repr

/-- A certificate of a chain a vehicle presents (R328): whether its signature verifies, and its validity in wall time. -/
structure Cert where
  sigOk : Bool
  from_ : Nat
  to_ : Nat
  deriving DecidableEq, Repr

/-- A chain (R328): its certificates, the root of the active DRO_SM bank it ends at if any, whether the leaf's usage fits. -/
structure CertChain where
  certs : List Cert
  root : Option Nat
  usage : Bool
  deriving DecidableEq, Repr

/-- A contract presented for authorization (R329): its chain, whether the signature over the challenge verifies, the EMAID. -/
structure Contract where
  chain : CertChain
  challenge : Bool
  emaid : List Nat
  deriving DecidableEq, Repr

/-- A TLS ClientHello (R326): version 12 or 13, the vehicle's suites, groups and signature schemes by name, the client chain it
presents if asked. -/
structure TlsHello where
  version : Nat
  suites : List String
  groups : List String
  sigs : List String
  chain : Option CertChain
  deriving DecidableEq, Repr

/-- What a vehicle's message carries (R320, R321, R324): absent parameters are `none`. Currents 0.1 A, voltages 0.1 V, power
0.1 kW. `cv` is GB/T constant-voltage mode. -/
structure V2gParams where
  evccid : Option (List Nat)
  vin : Option (List Nat)
  targetI : Option Nat
  targetV : Option Nat
  maxI : Option Nat
  maxV : Option Nat
  maxP : Option Int
  soc : Option Nat
  depart : Option Nat
  dynamic : Option Bool
  discharge : Option Bool
  cv : Option Bool
  deriving DecidableEq, Repr

/-- A decoded message (R320, R330): its DRO_EXI MSG_ID, its body, the deepest nesting and the longest string and binary value
in it, its parameters, the protocols of supportedAppProtocol in the vehicle's order, a contract it presents. -/
structure V2gMsg where
  id : Nat
  body : List Nat
  depth : Nat
  str : Nat
  bin : Nat
  params : V2gParams
  protocols : List Nat
  contract : Option Contract
  deriving DecidableEq, Repr

/-- What the transport, TLS and EXI layers make of a tunnel message (R309-R330): an SDP request with the security it asks
for, a SYN, a segment the layers handle themselves, a ClientHello, a message, something undecodable, the loss of the transport
(RST, TLS alert). -/
inductive DroView where
  | sdp (tls : Bool)
  | syn
  | segment
  | hello (h : TlsHello)
  | message (m : V2gMsg)
  | undecodable (msgId : Nat)
  | lost
  deriving DecidableEq, Repr

/-- A CAN frame (R402, R411): identifier, IDE, FDF, BRS, ESI, RTR, DLC as on the bus, its data bytes. -/
structure CanFrame where
  id : Nat
  ide : Bool
  fdf : Bool
  brs : Bool
  esi : Bool
  rtr : Bool
  dlc : Nat
  data : List Nat
  deriving DecidableEq, Repr

/-- What a housekeeping round reads (R556): the eight die sensors in 0.1 °C; VAUX and VHOLD in 10 mV; VCORE, VIO33, VIO18, VBAT in
mV; lowest VAUX in the round in 10 mV; estimated dissipation in 0.1 W;
what each path of each feeder read of its reference in the check, in millionths (R234); the levels of the GPIO pins (R587); the regulators at their valley limit and those
whose bootstrap top-up acted in the round (R387), one bit each. -/
structure HkIn where
  die : List Int
  vaux : Nat
  vauxLow : Nat
  vhold : Nat
  vcore : Nat
  vio33 : Nat
  vio18 : Nat
  vbat : Nat
  watts : Nat
  afe : List (List Nat)
  gpio : Nat
  climit : Nat
  bstLow : Nat
  deriving DecidableEq, Repr

/-- What leaves the block, in order: the model's own record of its outputs (notes/assumptions/5.md). -/
inductive Out where
  | readData (p : Nat) (off : Nat) (val : Nat)
  | unsupported (p : Nat)
  | cqe (p cq slot tag status flags result chrono : Nat)
  | eqe (p slot : Nat) (bytes : List Nat)
  | devIndex (p ring idx seq : Nat)
  | buffer (p addr : Nat) (bytes : List Nat)
  | ringSlot (p addr : Nat) (bytes : List Nat)
  | msix (p vector : Nat)
  | frame (stall : Nat) (bytes : List Nat)
  | canFrame (n : Nat) (bytes : List Nat)
  deriving DecidableEq, Repr

end Sys2Proof
end

