-- ==== Sys2Proof/Syntax.lean ====
section
/-!
DEFINITION. The commands: one constructor per row of spec/opcode_table.json, in the table's order, the rows without operands last
(so that every constructor can also be compiled and run). No row has bits, so the
operands are what the rule's own text says comes from outside with the command (notes/assumptions/4.md): the paddock and
the offset of a register access, the object a timer or an edge belongs to, the bytes of a frame, a measured value.
-/
namespace Sys2Proof

/-- The commands of the block, one per row of the table. -/
inductive Instr where
  /-- DOORBELL_POLL (R60). The DB_POLL interval of a paddock expires and the device reads every enabled doorbell record and fetches up to eight descriptors per SQ in round-robin order. -/
  | doorbellPoll (p : Nat) (dbs : List Doorbell) (slots : List SqSlot)
  /-- DESCRIPTOR_START (R67). A fetched descriptor whose FENCE or CHAIN predecessor has resolved makes check 6, completes with CHAIN_SKIPPED, or goes to its block. -/
  | descriptorStart (p tag : Nat)
  /-- INTERRUPT_COALESCE_TIMEOUT (R81). COALESCE_US passes since the first unsignalled record and the ring raises its MSI-X vector. -/
  | interruptCoalesceTimeout (p ring : Nat)
  /-- RING_DMA_ERROR (R90). A host read of a ring or doorbell returns an error completion, which stops the ring, sets the DMA error bits and signals vector 15. -/
  | ringDmaError (p ring : Nat)
  /-- RING_ENABLE_WRITE (R58). Setting ENABLE in a ring CFG register enables the ring, or refuses an invalid size or vector and sets PDK_RING_ERR.CFG. -/
  | ringEnableWrite (p ring val : Nat)
  /-- RING_DISABLE_WRITE (R59). Clearing ENABLE stops fetching from the ring at once, while descriptors already fetched run to completion. -/
  | ringDisableWrite (p ring val : Nat)
  /-- PDK_NUDGE (R61). A write to PDK_NUDGE starts a poll of the named rings within 1.0 µs and restarts the poll timer. -/
  | pdkNudge (p mask : Nat) (dbs : List Doorbell) (slots : List SqSlot)
  /-- PADDOCK_FLR (R82). A Function Level Reset of port n stops fetching, drops unstarted descriptors and clears the paddock's D, P settings. -/
  | paddockFlr (p : Nat)
  /-- PORT_PERST (R598). PEn_PERST_N, a hot reset or a link down makes the port's fundamental reset and clears its class P items. -/
  | portPerst (p : Nat)
  /-- BAR0_UNSUPPORTED_ACCESS (R46). A BAR0 access that is not an aligned single DWORD completes with Unsupported Request and has no effect. -/
  | bar0UnsupportedAccess (p : Nat)
  /-- OFF_DOMAIN_REGISTER_ACCESS (R86). A register access to a powered-off domain reads 0xFFFF_FFFF or discards the write, and the first such access is captured in GLB_OFFDOM_STATUS. -/
  | offDomainRegisterAccess (p off val : Nat) (write : Bool)
  /-- REGISTER_WRITE (R609). A setup-register write without behaviour of its own is checked for rights, access code and allowed values, then applied or discarded. -/
  | registerWrite (p off val : Nat)
  /-- RWP_REGISTER_WRITE (R583). A write to an RWP field inside the writer's change window is accepted and queued as a KIND 0 change-log entry. -/
  | rwpRegisterWrite (p off val : Nat)
  /-- LOCK_REGISTER_WRITE (R581). Writing 1 to a block's LOCK makes its RWL fields read-only until Device reset. -/
  | lockRegisterWrite (p off val : Nat)
  /-- GLB_LOCK_ALL_WRITE (R582). A write of ALL sets LOCK in every window whose setup right the writer holds, in one crossbar slot. -/
  | glbLockAllWrite (p val : Nat)
  /-- WIDE_LO_READ (R585). Reading a _LO register latches its _HI partner into the reading paddock's shadow. -/
  | wideLoRead (p off : Nat)
  /-- GPIO_SET_WRITE (R587). A write to GLB_GPIO_SET sets the output bits written as 1. -/
  | gpioSetWrite (p val : Nat)
  /-- GPIO_CLEAR_WRITE (R587). A write to GLB_GPIO_CLR clears the output bits written as 1. -/
  | gpioClearWrite (p val : Nat)
  /-- PWR_WAKE_NOW (R546). A write of PWR_WAKE.NOW by a SERVICE paddock wakes the device from QUIET or HIBERNATE. -/
  | pwrWakeNow (p val : Nat)
  /-- LANE_RESET_WRITE (R464). A write of RESET_A or RESET_B resets a standby at once, or first hands over from the active lane, or is discarded. -/
  | laneResetWrite (p val : Nat)
  /-- LANE_READMIT_WRITE (R463). A write of READMIT_A or READMIT_B takes a lane out of OUT and clears its loss count. -/
  | laneReadmitWrite (p val : Nat)
  /-- AUX_ENABLE_CLEAR_WRITE (R401). Writing ENABLE 0 to a switching regulator acts as AUX_SET MODE 0. -/
  | auxEnableClearWrite (p n val : Nat)
  /-- LSW_ENABLE_CLEAR_WRITE (R401). Writing ENABLE 0 to a channel that is on acts as LSW_SET MODE 0. -/
  | lswEnableClearWrite (p c val : Nat)
  /-- CAN_MODE_WRITE (R403). A write of CAN_Cn_CTRL.MODE changes the controller mode, and MODE 0 ends bus-off. -/
  | canModeWrite (p n val : Nat)
  /-- CVU_CONFIG_WRITE (R424). A CVU configuration write is checked and within 2 µs CVU_Un_CHECK shows the new check value. -/
  | cvuConfigWrite (p u k val : Nat)
  /-- CVU_ALIVE_CFG_WRITE (R430). A write of CVU_Un_ALIVE_CFG sets the unit's alive state to INIT. -/
  | cvuAliveCfgWrite (p u val : Nat)
  /-- DRO_RX_ENABLE_WRITE (R316). Setting DRO_RX_CFG.ENABLE makes the writing paddock the owner of the Drover receive ring. -/
  | droRxEnableWrite (p val : Nat)
  /-- CAN_RX_ENABLE_WRITE (R411). Setting CAN_RX_CFG.ENABLE makes the writing paddock the owner of the CAN receive ring. -/
  | canRxEnableWrite (p val : Nat)
  /-- NOP (R77). NOP completes with no effect. -/
  | nop (p tag : Nat)
  /-- LANE_HANDOVER (R469). LANE_HANDOVER runs a planned handover to the healthy standby. -/
  | laneHandover (p tag : Nat)
  /-- FW_ACTIVATE (R467). FW_ACTIVATE moves both lanes to the staged firmware image in five steps while charging continues. -/
  | fwActivate (p tag : Nat)
  /-- CHARTER_LOAD (R502). CHARTER_LOAD verifies a paddock charter, stores it durably and replaces the paddock's rights. -/
  | charterLoad (p tag : Nat) (img : List Nat) (keyBad : Bool)
  /-- STALL_CONFIG (R145). STALL_CONFIG sets a stall's configuration epoch, type and fingerprint and clears the matching quarantine causes. -/
  | stallConfig (p tag : Nat)
  /-- SEAL_ACK (R146). SEAL_ACK commits the reported seal inside the submitter's change window and writes a change-log entry. -/
  | sealAck (p tag : Nat)
  /-- LINK_RETRAIN (R147). LINK_RETRAIN stops an energised stall in order and returns its link to TRAINING. -/
  | linkRetrain (p tag : Nat)
  /-- LINK_DISABLE (R147). LINK_DISABLE stops an energised stall in order, clears ENABLE and takes the link to OFF. -/
  | linkDisable (p tag : Nat)
  /-- STALL_POLICY (R184). STALL_POLICY sets a stall's tier, weight, floor, cap and ramp, applied at the next freeze. -/
  | stallPolicy (p tag : Nat)
  /-- CABINET_ENABLE (R186). CABINET_ENABLE puts a cabinet into ENABLING, or cancels a running drain. -/
  | cabinetEnable (p tag : Nat)
  /-- CABINET_RETIRE (R186). CABINET_RETIRE starts a linear drain of an ACTIVE cabinet, or withdraws a pending enable. -/
  | cabinetRetire (p tag : Nat)
  /-- NODE_LIMIT (R185). NODE_LIMIT sets the runtime limits of a tree node, clamped to the table values. -/
  | nodeLimit (p tag : Nat)
  /-- ALLOC_QUERY (R187). ALLOC_QUERY writes the state of the last completed solve to the host buffer. -/
  | allocQuery (p tag : Nat)
  /-- STALL_STOP (R222). STALL_STOP stops a stall by a ramp stop or a two-step off, and the stall enters STOPPED. -/
  | stallStop (p tag : Nat)
  /-- LOOP_TUNE (R223). LOOP_TUNE overrides a stall's loop gains from the next computed period. -/
  | loopTune (p tag : Nat)
  /-- CAL_APPLY (R240). CAL_APPLY logs a path calibration and applies it from the next millisecond boundary, where a reading is taken. -/
  | calApply (p tag : Nat)
  /-- CHECKPOINT_NOW (R260). CHECKPOINT_NOW requests a Weighbridge store at the next allocation boundary. -/
  | checkpointNow (p tag : Nat)
  /-- PULSE_INPUT_MODE (R261). PULSE_INPUT_MODE sets an S0 input to OFF, COMPARE or SUBSTITUTE. -/
  | pulseInputMode (p tag : Nat)
  /-- TIME_SET (R269). TIME_SET steps or slews wall time, subject to range checks. -/
  | timeSet (p tag : Nat)
  /-- READING_TAKE (R304). READING_TAKE captures a signed reading of a channel at the next allocation boundary, optionally resetting MAX_DEMAND. -/
  | readingTake (p tag : Nat)
  /-- RECORD_FETCH (R305). RECORD_FETCH writes reading records or profile blocks to the host and may advance the export mark. -/
  | recordFetch (p tag : Nat)
  /-- PREPAY_CREDIT (R306). PREPAY_CREDIT adds to an account balance, optionally sets EMERG_LIMIT, and writes a PREPAY record. -/
  | prepayCredit (p tag : Nat)
  /-- PREPAY_DEBIT (R306). PREPAY_DEBIT subtracts from an account balance unless it would pass −EMERG_LIMIT. -/
  | prepayDebit (p tag : Nat)
  /-- PREPAY_QUERY (R307). PREPAY_QUERY writes an account's live balance and state to the host. -/
  | prepayQuery (p tag : Nat)
  /-- SESSION_AUTHORIZE (R338). SESSION_AUTHORIZE applies a host decision or a token lookup to a session awaiting authorization. -/
  | sessionAuthorize (p tag : Nat) (data : List Nat)
  /-- SESSION_STOP (R339). SESSION_STOP ends a session with a stop notification or an immediate RAMP_DOWN request. -/
  | sessionStop (p tag : Nat)
  /-- SESSION_QUERY (R340). SESSION_QUERY writes a 256-byte session record to the host. -/
  | sessionQuery (p tag : Nat)
  /-- TUNNEL_SEND (R341). TUNNEL_SEND sends a raw tunnel message, a V2G body or a control record to a stall. -/
  | tunnelSend (p tag : Nat) (data : List Nat)
  /-- ALLOW_LOOKUP (R343). ALLOW_LOOKUP looks an identifier up in the allow-list and returns its outcome. -/
  | allowLookup (p tag : Nat) (uncorr : Bool)
  /-- BRIDGE_SET (R374). BRIDGE_SET sets a bridge's mode, direction and duties, ramped at RAMP. -/
  | bridgeSet (p tag : Nat)
  /-- COOLING_SET (R375). COOLING_SET sets a floor or fixed command for a stall's pump and valve, or clears them. -/
  | coolingSet (p tag : Nat)
  /-- HRN_FAULT_CLEAR (R376). HRN_FAULT_CLEAR clears named bridge latches, BST_UV, DEVICE_LATCH or CHOP_OVERLOAD unless the cause persists. -/
  | hrnFaultClear (p tag : Nat)
  /-- AUX_SET (R398). AUX_SET turns a regulator on with a target, ramps it off, or stops it, after an optional fault clear. -/
  | auxSet (p tag : Nat)
  /-- LSW_SET (R399). LSW_SET turns a HOST load-switch channel on or off. -/
  | lswSet (p tag : Nat)
  /-- LSW_FAULT_CLEAR (R400). LSW_FAULT_CLEAR clears channel latches or the group over-temperature latch. -/
  | lswFaultClear (p tag : Nat)
  /-- CAN_SEND (R414). CAN_SEND queues a frame on a controller for transmission. -/
  | canSend (p tag : Nat) (data : List Nat)
  /-- CAN_RECOVER (R417). CAN_RECOVER starts bus-off recovery on a controller. -/
  | canRecover (p tag : Nat)
  /-- SAFETY_PROOF_TEST (R471). SAFETY_PROOF_TEST runs the Halter proof tests and enters HALT_SAFE on failure. -/
  | safetyProofTest (p tag : Nat)
  /-- SERVICE_CLEAR (R472). SERVICE_CLEAR clears a stall's edge latch, block, sensor lockout or weld block unless its cause persists. -/
  | serviceClear (p tag : Nat)
  /-- IMAGE_STAGE (R494). IMAGE_STAGE checks a Swioth image and writes it durably to the firmware slot or the staging area. -/
  | imageStage (p tag : Nat) (img : List Nat) (keyBad : Bool)
  /-- EPOCH_SWITCH (R495). EPOCH_SWITCH schedules the activation of the staged tables of an epoch at an allocation boundary. -/
  | epochSwitch (p tag : Nat)
  /-- CHANGE_WINDOW_OPEN (R498). CHANGE_WINDOW_OPEN verifies a passphrase proof and opens a change window owned by the paddock. -/
  | changeWindowOpen (p tag : Nat) (proof : Computed) (keyBad : Bool)
  /-- CHANGE_WINDOW_CLOSE (R499). CHANGE_WINDOW_CLOSE closes the submitting paddock's change window. -/
  | changeWindowClose (p tag : Nat)
  /-- SIGN (R506). SIGN signs a host message with a host key slot. -/
  | sign (p tag : Nat) (data : List Nat) (keyBad : Bool)
  /-- KEY_GENERATE (R505). KEY_GENERATE advances a host slot's generation, derives a new key and returns its public key. -/
  | keyGenerate (p tag : Nat)
  /-- ATTEST (R503). ATTEST writes a key-origin statement, a full quote or the identity record. -/
  | attest (p tag : Nat) (keyBad : Bool)
  /-- LIFECYCLE_SET (R476). LIFECYCLE_SET makes an authorised life-cycle transition and then a Device reset. -/
  | lifecycleSet (p tag : Nat) (img : List Nat) (keyBad : Bool)
  /-- HOST_READ (R529). HOST_READ reads a range of the HOST region to host memory. -/
  | hostRead (p tag : Nat) (bad : List Nat)
  /-- HOST_WRITE (R529). HOST_WRITE writes whole pages to the HOST region durably. -/
  | hostWrite (p tag : Nat) (data : List Nat)
  /-- LOG_FETCH (R528). LOG_FETCH writes event-log or change-log entries to the host and may advance the change-log export mark. -/
  | logFetch (p tag : Nat)
  /-- POWER_STATE (R541). POWER_STATE requests RUN, QUIET or HIBERNATE, holding new sessions while the refusers are checked. -/
  | powerState (p tag : Nat)
  /-- DEVICE_RESET (R78). DEVICE_RESET completes OK and then requests a Device reset. -/
  | deviceReset (p tag : Nat)
  /-- OUTPUT_ADOPT (R553). OUTPUT_ADOPT adopts or releases the outputs held after a Device reset. -/
  | outputAdopt (p tag : Nat)
  /-- TELEMETRY_READ (R559). TELEMETRY_READ writes the newest housekeeping telemetry records to the host. -/
  | telemetryRead (p tag : Nat)
  /-- CHECK_JOB (R426). CHECK_JOB computes a CRC and/or checks an alive counter on a check-value unit. -/
  | checkJob (p tag : Nat) (data : List Nat)
  /-- POWER_ON_RESET_RELEASE (R38). The release of POR starts the cold boot through the Halter test, clocks, keys, stores, firmware, tables and restore. -/
  | powerOnResetRelease (haltCause : Option Nat) (vbat : Bool) (ckpts slots lanes : Bool × Bool) (wall : Nat)
  /-- BOOT_RUN_REACHED (R38). The boot reaches RUN, sets PDK_STATUS.DEVICE_RUN, reapplies charters and starts servicing doorbells. -/
  | bootRunReached (slotA slotB laneA laneB acked : Bool)
  /-- VAUX_BELOW_WARN (R535). VAUX falls below WARN, which holds new sessions, requests a forced store and holds NAND work. -/
  | vauxBelowWarn (vaux : Nat)
  /-- VAUX_BELOW_COMMIT (R535). VAUX falls below COMMIT, which zeroes every setpoint and grant and requests the final store. -/
  | vauxBelowCommit (vaux : Nat)
  /-- VAUX_RECOVERY (R537). VAUX rises above WARN plus 0.5 V, ending the holds and the zero grant and raising SUPPLY_DIP. -/
  | vauxRecovery (vaux lowest : Nat)
  /-- RAIL_UNDERVOLTAGE (R533). VCORE, VIO33 or VIO18 below its threshold for 5 µs makes an immediate Cold reset. -/
  | railUndervoltage (rail : Nat)
  /-- THERMAL_SHUTDOWN (R558). A die sensor reaches 140 °C, which takes a final store and shutdown record and makes a Cold reset. -/
  | thermalShutdown (sensor : Nat) (temp : Int) (vaux : Nat)
  /-- AUX_RELEASE_DELAY_EXPIRY (R397). At the end of the window plus 20 ms plus OFF_DELAY, each regulator ramps off or slews to BOOT. -/
  | auxReleaseDelayExpiry (n : Nat)
  /-- LANE_REQUEST_SLOT_WRITE (R157). The active lane writes a stall's request slot. -/
  | laneRequestSlotWrite (n : Nat) (active discharge : Bool) (i v : Nat)
  /-- LANE_MODE_REQUEST (R200). The active lane requests a stall mode, which the Walker accepts or fails with cause ILLEGAL. -/
  | laneModeRequest (n mode vTarget : Nat)
  /-- LANE_SESSION_BIND (R289). The lane binds a session to its stall with handle, contract reference and account. -/
  | laneSessionBind (n : Nat)
  /-- LANE_FAULT_REPORT (R457). A lane reports an uncorrectable internal fault and is declared lost. -/
  | laneFaultReport (lane : Nat)
  /-- LANE_TAKEOVER_COMPLETE (R458). The standby takes control from its snapshot and resolves started descriptors by Re-exec class. -/
  | laneTakeoverComplete (gap : Nat)
  /-- LANE_REBOOT_READY (R462). A lost lane finishes its reboot and self-test and starts receiving snapshots. -/
  | laneRebootReady (lane : Nat) (ok : Bool)
  /-- TETHER_SNAPSHOT_ACK (R28). The standby acknowledges a snapshot and becomes current. -/
  | tetherSnapshotAck (slack : Int)
  /-- FW_STANDBY_VERIFIED (R467). The standby finishes rebooting from the staged slot and verifying it. -/
  | fwStandbyVerified (sigOk selfOk : Bool)
  /-- FW_OLD_LANE_REBOOTED (R467). The former active lane finishes its reboot into the new image and FW_ACTIVATE completes. -/
  | fwOldLaneRebooted (ok : Bool)
  /-- LINK_CYCLE_START (R95). At each link-cycle start the framer sends each downlink frame with COMMAND, edges, Halter word, cooling and tunnel slot. -/
  | linkCycleStart (vhold : Nat)
  /-- EDGE_BLOCK_LATCH (R19). At t(n) − 1.0 µs the framer latches the Walker's edge block for frame n and checks its legality. -/
  | edgeBlockLatch (n : Nat)
  /-- WALKER_PERIOD_COMPUTE (R204). At each period start of a stall the Walker runs the loops and turns the duties into edges. -/
  | walkerPeriodCompute (n : Nat) (slack : Int)
  /-- UPLINK_FRAME_RECEIVE (R99). A complete uplink frame is received and judged valid or invalid, and its samples, status and fields are used. -/
  | uplinkFrameReceive (n sync : Nat) (bytes : List Nat)
  /-- LINK_LOST_ENTRY (R141). Three consecutive invalid uplink frames, or a LINK_LOST_LATCH, take a RUN or QUARANTINE link to LOST with an emergency stop. -/
  | linkLostEntry (n why : Nat)
  /-- LINK_LOST_RECOVER (R142). 100 valid frames showing switches off and contactors open return the link from LOST after 8 RESUME frames. -/
  | linkLostRecover (n : Nat)
  /-- LINK_LOST_TIMEOUT (R142). 100 ms without a valid uplink frame take the link from LOST to TRAINING. -/
  | linkLostTimeout (n : Nat)
  /-- LINK_TRAIN_LOCK (R123). 16 consecutive valid TRAIN frames start the round-trip measurement with STEP 1. -/
  | linkTrainLock (n : Nat)
  /-- LINK_MEASURE_DONE (R123). After 64 measured cycles, D is computed and STEP 2 is sent, or RANGE is set. -/
  | linkMeasureDone (n total pipe : Nat)
  /-- LINK_TRIM_ECHOED (R124). 16 echoes of STEP 2 and LAT_TRIM start 16 cycles of STEP 3. -/
  | linkTrimEchoed (n : Nat)
  /-- LINK_STEP3_DONE (R124). After 16 STEP 3 cycles both ends switch to the IDENTIFY frame types. -/
  | linkStep3Done (n : Nat)
  /-- LINK_IDENT_DONE (R126). After 8 IDENT frames the device enters KEYING and sends KEY_OFFER. -/
  | linkIdentDone (n : Nat)
  /-- KEY_RESPONSE_RECEIVE (R128). A complete KEY_RESPONSE is received and handed to the Tack Room for dual verification. -/
  | keyResponseReceive (n : Nat)
  /-- KEYING_VERIFY_DONE (R128). Verification of the terminal identity ends, deriving link keys and sending KEY_CONFIRM, or failing keying. -/
  | keyingVerifyDone (n : Nat) (fp sig : Computed)
  /-- KEY_CONFIRM_ACK_RECEIVE (R130). KEY_CONFIRM_ACK is received and the device compares the terminal with the committed record. -/
  | keyConfirmAckReceive (n : Nat) (tag : Computed)
  /-- CONFIG_ACK_RECEIVE (R133). CONFIG_ACK is received and the device starts committing the record or enters QUARANTINE. -/
  | configAckReceive (n : Nat) (tag : Computed)
  /-- LINK_RECORD_COMMITTED (R133). The stall record's settings-journal entry becomes durable and the link enters RUN. -/
  | linkRecordCommitted (n : Nat)
  /-- MGMT_RETRY_TIMEOUT (R131). An unanswered management message is repeated after 20 ms, and after five attempts the link returns to TRAINING. -/
  | mgmtRetryTimeout (n : Nat)
  /-- KEYING_RETRY_TIMER (R128). 10 s after a keying failure the device retries from KEY_OFFER. -/
  | keyingRetryTimer (n : Nat)
  /-- REKEY_TIMER (R132). SLK_REKEY_CFG.HOURS elapses, or 60 s after a failed re-key, and a re-key starts. -/
  | rekeyTimer (n : Nat)
  /-- KEY_SWITCH (R132). At the start of SWITCH_MS both ends change K_MET, K_DN and K_UP. -/
  | keySwitch (n : Nat)
  /-- WEIGHBRIDGE_MS_COMMIT (R22). At cycle 7 of the next millisecond the metering MAC is checked and the millisecond is committed, split and routed, or counted unmetered. -/
  | weighbridgeMsCommit (slack : Int) (overs : List Nat) (fd : List FeederIn)
  /-- SOLVE_COMPLETE (R24). The scheduled solve ends, the hardware clamp acts and the setpoints are staged. -/
  | solveComplete (slack : Int)
  /-- SOLVE_DEADLINE_EXPIRY (R26). A solve overruns 250 µs and the previous setpoints are kept. -/
  | solveDeadlineExpiry (ticks : Nat)
  /-- EMERGENCY_RESOLVE_COMPLETE (R27). An emergency re-solve ends and its cuts start at the next link-cycle start at EMERG_RAMP. -/
  | emergencyResolveComplete (ticks : Nat)
  /-- EMERGENCY_RESOLVE_FALLBACK (R178). An emergency re-solve not done within 250 µs falls back to scaling targets below the affected node. -/
  | emergencyResolveFallback (ticks : Nat)
  /-- CABINET_SILENCE_TIMEOUT (R175). No valid report within 3 × REPORT_MS makes an ACTIVE or RETIRING cabinet LOST and triggers an emergency re-solve. -/
  | cabinetSilenceTimeout (c : Nat)
  /-- CABINET_ENABLE_TIMEOUT (R186). A cabinet not READY within WAIT_S returns to OFFLINE and its CABINET_ENABLE completes with TIMEOUT. -/
  | cabinetEnableTimeout (c : Nat)
  /-- CABINET_DRAIN_END (R174). DRAIN_MS ends, the cabinet becomes OFFLINE and the retire completes. -/
  | cabinetDrainEnd (c : Nat)
  /-- THROTTLE_GRACE_EXPIRY (R181). A throttle's grace time ends and its ceiling is enforced if the condition is unsatisfied. -/
  | throttleGraceExpiry (n : Nat)
  /-- HOUSEKEEPING_ROUND (R556). Each ROUND_MS the device reads sensors and rails, checks throttle thresholds, writes telemetry and resets slack registers. -/
  | housekeepingRound (hk : HkIn)
  /-- STORE_COMPLETE (R245). A Hayloft or MRAM store completes and its record or entry becomes durable. -/
  | storeComplete (id : Nat)
  /-- PULSE_OUTPUT_START (R253). A due pulse starts on its output once the least off time has passed. -/
  | pulseOutputStart (k : Nat)
  /-- S0_INPUT_EDGE (R255). A filtered leading edge on an S0 input is timestamped and used by COMPARE or SUBSTITUTE. -/
  | s0InputEdge (k at_ : Nat)
  /-- PULSE_COMPARE_TIMEOUT (R256). No edge for 60 s completes a COMPARE with TIMEOUT. -/
  | pulseCompareTimeout (k : Nat)
  /-- SESSION_METERING_OPEN (R289). At the first link-cycle start after the binding, a session's metering opens with a SESSION_START record, or Billing refuses it. -/
  | sessionMeteringOpen (n : Nat)
  /-- SESSION_METERING_CLOSE (R289). When the session has ended and the stall is idle with contactors open, its metering closes with a SESSION_END record. -/
  | sessionMeteringClose (n : Nat)
  /-- READING_SIGN (R295). The Tack Room signs durable journal readings in RECORD_SEQ order and appends them to READINGS. -/
  | readingSign (keyBad : Bool)
  /-- TAMPER_EDGE (R302). A tamper input holds a new level and the change is logged in the always-on log. -/
  | tamperEdge (input : Nat) (high vbat : Bool) (wall : Nat)
  /-- MODE_TIMEOUT (R201). A mode's time limit passes before REACHED and the mode fails with cause TIMEOUT. -/
  | modeTimeout (n : Nat)
  /-- CONTACTOR_CLOSE_TIMEOUT (R201). CONTACTOR_CLOSED not seen within 200 ms fails the mode with HALTER_VETO or CONTACTOR. -/
  | contactorCloseTimeout (n : Nat)
  /-- FF_LOST_TIMEOUT (R197). Index 9 invalid for 100 ms takes the stall out of ENERGY with cause FF_LOST. -/
  | ffLostTimeout (n : Nat)
  /-- PHASE_LOST (R215). An open or failed phase is removed, the rest are respaced and the Halter lowers the ceiling. -/
  | phaseLost (n k cause : Nat)
  /-- PHASE_DEGRADED_LIMIT (R216). 30 min of degraded running end and the Halter stops the stall in order and blocks it. -/
  | phaseDegradedLimit (n : Nat)
  /-- TWO_STEP_COMPLETE (R212). The uplink shows a completed two-step off and the Walker clears TWO_STEP_OFF after two all-off periods. -/
  | twoStepComplete (n : Nat)
  /-- ESTOP_CHANNEL_OPEN (R446). A channel of a mapped E-stop loop opens, causing emergency stops, SAFE_OUT de-energising, Harness disable and group drops. -/
  | estopChannelOpen (k ch : Nat)
  /-- ESTOP_DISCREPANCY_TIMEOUT (R446). One channel open and the other closed beyond DISCREP_MS latch DISCREPANCY. -/
  | estopDiscrepancyTimeout (k : Nat)
  /-- ESTOP_LOOP_CLOSE (R448). An open loop closes again and enters AWAIT_RESET. -/
  | estopLoopClose (k mask : Nat)
  /-- ESTOP_RESET_PULSE (R448). The falling edge of a valid reset pulse on RESET_GPIO re-arms the loop and releases its effects. -/
  | estopResetPulse (g len : Nat)
  /-- ESTOP_REARM_TIMEOUT (R448). With RESET_EN 0, a loop closed for 500 ms re-arms. -/
  | estopRearmTimeout (k : Nat)
  /-- ESTOP_INPUT_TEST (R446). Every 10 ms each closed channel is pulled low to test it, and a failure is a HALT_SAFE cause. -/
  | estopInputTest (followed : Bool)
  /-- SAFE_OUT_READBACK_FAULT (R449). A SAFE_OUT pin disagreeing with its command for 1 ms is a HALT_SAFE cause. -/
  | safeOutReadbackFault (a b : Bool)
  /-- EDM_MISMATCH (R450). An EDM loop not following the SAFE_OUT state within 100 ms is a HALT_SAFE cause. -/
  | edmMismatch (k : Nat)
  /-- HALTER_OSC_CHECK (R454). Every 10 ms the Halter oscillator is checked against the Chronobase. -/
  | halterOscCheck (dev : Int)
  /-- HALTER_SAMPLE_TRIP (R438). Three consecutive samples above the current or voltage trip level make an emergency stop. -/
  | halterSampleTrip (n : Nat)
  /-- SUSTAINED_OVER_TIMEOUT (R438). Current above 1.02 × the ceiling for 100 ms makes an orderly stop. -/
  | sustainedOverTimeout (n : Nat)
  /-- STOP_PERMIT_WITHDRAWAL (R442). During a stop, PERMIT is withdrawn at the first valid uplink below 5.0 A or at the time limit. -/
  | stopPermitWithdrawal (n : Nat)
  /-- STOP_END (R442). A stop's end conditions hold for 1 ms and the Halter clears STOP or ORDERLY. -/
  | stopEnd (n : Nat)
  /-- CONTACTOR_WELD_TIMEOUT (R443). Contactors not shown open 50 ms after PERMIT withdrawal make an emergency stop and a weld block. -/
  | contactorWeldTimeout (n : Nat)
  /-- SENSOR_LOSS_TIMEOUT (R452). A cable sensor missing for 1 ms counts as lost, halving the current ceiling or making a SENSORS_LOST stop. -/
  | sensorLossTimeout (n i : Nat)
  /-- SENSOR_DEGRADED_LIMIT (R452). 300 s of single-sensor running within a session end and the Halter makes an orderly stop. -/
  | sensorDegradedLimit (n : Nat)
  /-- SENSOR_LOCKOUT_RELEASE (R453). Both cable sensors valid for 10 s end the degraded mode or the lockout. -/
  | sensorLockoutRelease (n : Nat)
  /-- COOLANT_FLOW_LOW (R349). Flow below FLOW_LOW_PCT for FLOW_LOW_S raises COOLANT_FLOW_LOW and a stall throttle condition. -/
  | coolantFlowLow (n : Nat)
  /-- COOLANT_FLOW_RELEASE (R349). Flow at or above the threshold for 10 s releases the low-flow condition. -/
  | coolantFlowRelease (n : Nat)
  /-- HALL_EDGE (R360). A new valid Hall state applies its commutation pattern. -/
  | hallEdge (b hall : Nat)
  /-- HALL_INVALID_TIMEOUT (R363). An invalid Hall state lasting 1 ms makes a two-step off and latches HALL_INVALID. -/
  | hallInvalidTimeout (b : Nat)
  /-- ROTOR_STALL_TIMEOUT (R363). No Hall edge for STALL_MS above 5 % duty makes a two-step off and latches ROTOR_STALL. -/
  | rotorStallTimeout (b : Nat)
  /-- DIRECT_INPUT_EDGE (R365). An edge on a direct input drives its switch after the 20 ns filter, within the Harness limits. -/
  | directInputEdge (b sw : Nat) (level : Bool)
  /-- BOTH_ON_REJECTION (R358). A both-on command turns both switches off and is counted. -/
  | bothOnRejection (b half : Nat)
  /-- BOOTSTRAP_REFRESH_TIMER (R366). A high side on for 32 µs gets a bootstrap refresh. -/
  | bootstrapRefreshTimer (b half : Nat)
  /-- BOOTSTRAP_UNDERVOLTAGE (R367). BST − HS below 7.5 V turns the high side off, sets HB_BST_UV and limits duty to 97 %. -/
  | bootstrapUndervoltage (b half : Nat)
  /-- HARNESS_OVERCURRENT (R370). A drain–source voltage above OC_V turns the switch off for the rest of the period. -/
  | harnessOvercurrent (b sw : Nat)
  /-- DESAT_TRIP (R370). A drain–source voltage above DESAT_V makes a two-step off and latches DESAT. -/
  | desatTrip (b sw : Nat)
  /-- VMOT_OVERVOLTAGE (R370). VMOTg above OV_TRIP stops the group's bridges and latches VMOT_OV. -/
  | vmotOvervoltage (g v : Nat)
  /-- VMOT_UNDERVOLTAGE (R370). VMOTg below UV turns every switch of the group off without latching. -/
  | vmotUndervoltage (g v : Nat)
  /-- VMOT_UV_RECOVERY (R370). VMOTg above UV + 1.0 V lets the group's bridges resume. -/
  | vmotUvRecovery (g v : Nat)
  /-- CHOPPER_ON (R371). VMOTg above CHOP_ON turns the brake chopper on. -/
  | chopperOn (g v : Nat)
  /-- CHOPPER_OFF (R371). VMOTg below CHOP_ON − CHOP_HYST turns the chopper off. -/
  | chopperOff (g v : Nat)
  /-- CHOP_OVERLOAD_TIMEOUT (R371). A chopper on longer than CHOP_MAX_MS is turned off and its group's bridges are latched off. -/
  | chopOverloadTimeout (g : Nat)
  /-- AUX_START_TEST_END (R382). The 100 µs high-side short test ends, passing to the bootstrap pulse and soft start or latching HS_SHORT. -/
  | auxStartTestEnd (n vsw vout vin : Nat)
  /-- AUX_TARGET_REACHED (R381). The regulator reference reaches its target and regulation begins. -/
  | auxTargetReached (n vout vin : Nat)
  /-- AUX_RAMP_OFF_END (R385). An OFF ramp reaches zero and the regulator stops switching. -/
  | auxRampOffEnd (n vout vin : Nat)
  /-- AUX_SHORT_DETECT (R387). Current limit held with output below 50 % for 1 ms starts a hiccup. -/
  | auxShortDetect (n vout vin : Nat)
  /-- AUX_HICCUP_RESTART (R387). After 50 ms off a hiccup restarts the regulator, latching SHORT after 8 consecutive hiccups. -/
  | auxHiccupRestart (n vout vin : Nat)
  /-- AUX_OVERVOLTAGE (R387). Output above target by OV_TRIP for 20 µs turns the gates off and latches OV. -/
  | auxOvervoltage (n vout vin : Nat)
  /-- AUX_OV_BRAKE (R386). Output above target by OV_BRAKE turns both gates off for body-diode braking. -/
  | auxOvBrake (n vout vin : Nat)
  /-- AUX_BRAKE_END (R386). Output below target × (1 + OV_BRAKE / 2) resumes switching. -/
  | auxBrakeEnd (n vout vin : Nat)
  /-- AUX_VIN_UNDERVOLTAGE (R387). AUXn_VIN below 4.3 V turns both gates off. -/
  | auxVinUndervoltage (n vout vin : Nat)
  /-- AUX_VIN_RECOVERY (R387). AUXn_VIN at 4.6 V starts the regulator again. -/
  | auxVinRecovery (n vout vin : Nat)
  /-- AUX_PGOOD_LOSS (R388). Output outside the PGOOD band for 50 µs clears PGOOD and raises AUX_PGOOD. -/
  | auxPgoodLoss (n vout vin : Nat)
  /-- AUX_SET_TIMEOUT (R398). An ON request not reached with PGOOD within slew time plus 50 ms completes with TIMEOUT. -/
  | auxSetTimeout (n : Nat)
  /-- LSIN_EDGE (R389). A filtered edge on LSINn switches its PIN channel. -/
  | lsinEdge (c : Nat) (level : Bool)
  /-- LSW_CLAMP (R390). A channel reaching 10 A is clamped, latched off within 10 µs, and its group is disturbed. -/
  | lswClamp (c : Nat)
  /-- LSW_INRUSH_TRIP (R390). Current above IINRUSH for 200 µs in the inrush window latches the channel off. -/
  | lswInrushTrip (c : Nat)
  /-- LSW_INRUSH_WINDOW_END (R399). INRUSH_MS ends, the steady limit applies and a pending LSW_SET completes. -/
  | lswInrushWindowEnd (c : Nat)
  /-- LSW_OVERCURRENT_TRIP (R390). Current above ILATCH for TLATCH latches the channel off. -/
  | lswOvercurrentTrip (c : Nat)
  /-- LSW_GROUP_OT (R391). A group sensor at 150 °C latches all four channels off. -/
  | lswGroupOt (g temp : Nat)
  /-- LSW_GROUP_UV (R391). LSVg below 5.5 V turns the group's channels off without latching. -/
  | lswGroupUv (g lsv : Nat)
  /-- LSW_GROUP_UV_RECOVERY (R391). LSVg above 6.0 V turns commanded channels back on with a new inrush window. -/
  | lswGroupUvRecovery (g lsv : Nat)
  /-- LSW_GROUP_DISTURB_END (R394). 1 ms after the clamping channel latched off the group is no longer disturbed. -/
  | lswGroupDisturbEnd (g : Nat)
  /-- LSW_OPEN_LOAD (R395). An on channel below OPEN_MA for OPEN_MS sets OPEN_LOAD. -/
  | lswOpenLoad (c : Nat)
  /-- LSW_SHORT_SUPPLY (R395). An off channel above 50 % of LSVg for 10 ms sets SHORT_SUPPLY. -/
  | lswShortSupply (c : Nat) (present : Bool)
  /-- LSW_SET_UV_TIMEOUT (R399). LSW_SET MODE 1 waiting under group under-voltage for 1 s completes with TIMEOUT. -/
  | lswSetUvTimeout (c : Nat)
  /-- CAN_FRAME_RECEIVE (R409). A received frame is stamped, decoded for cabinet reports, filtered and stored in the receive FIFO. -/
  | canFrameReceive (n : Nat) (frame : CanFrame) (sof : Nat) (err : Bool)
  /-- CAN_FRAME_ACKNOWLEDGED (R414). A transmitted frame is acknowledged and its CAN_SEND completes OK. -/
  | canFrameAcknowledged (n sof delay : Nat)
  /-- CAN_ARBITRATION_LOSS (R413). Lost arbitration or an error leads to retransmission, or ONE_SHOT_FAILED. -/
  | canArbitrationLoss (n sof : Nat) (err : Bool)
  /-- CAN_TX_TIMEOUT (R414). A frame not started within TX_MS is withdrawn and completes with TIMEOUT. -/
  | canTxTimeout (n p num : Nat) (sof : Option Nat)
  /-- CAN_ERROR_STATE_CHANGE (R415). The error counters change the controller's error state and CAN_STATE is raised. -/
  | canErrorStateChange (n tec rec_ : Nat)
  /-- CAN_RECOVERY_DONE (R417). Bus-off recovery ends and the controller is error-active again. -/
  | canRecoveryDone (n : Nat)
  /-- CAN_RECOVER_TIMEOUT (R417). Recovery not ended within 1 s completes CAN_RECOVER with TIMEOUT. -/
  | canRecoverTimeout (n : Nat)
  /-- CAN_RATE_DETECT_RESULT (R406). Two error-free frames confirm a detected rate, which is stored before entering LISTEN_ONLY. -/
  | canRateDetectResult (n k : Nat)
  /-- CAN_RATE_DETECT_TIMEOUT (R406). No rate found within TIMEOUT returns the controller to INIT. -/
  | canRateDetectTimeout (n : Nat)
  /-- DRO_MESSAGE_RECEIVE (R318). A complete tunnel message from a stall is handled by the session machine or forwarded to the host. -/
  | droMessageReceive (n : Nat) (view : DroView)
  /-- DRO_TIMER_EXPIRY (R318). A session-machine timer expires and its transition runs, or the session fails with TIMEOUT. -/
  | droTimerExpiry (i k : Nat)
  /-- DRO_STALL_RESULT (R318). A stall result such as MODE_REACHED drives a session-machine transition. -/
  | droStallResult (i code : Nat)
  /-- AUTH_LOOKUP_DONE (R323). An allow-list lookup for a session ends and authorization is accepted, refused or passed to the host. -/
  | authLookupDone (i : Nat) (uncorr : Bool)
  /-- AUTH_HOST_TIMEOUT (R323). No host answer within HOST_WAIT refuses or falls back to the list. -/
  | authHostTimeout (i : Nat)
  /-- LINGER_EXPIRY (R312). LINGER ends and the context becomes FREE. -/
  | lingerExpiry (i : Nat)
  /-- TCP_RETRANSMIT_TIMEOUT (R311). A TCP retransmission timer expires and the segment is resent, or the connection is dropped after five. -/
  | tcpRetransmitTimeout (i : Nat)
  /-- SERVICE_UNLOCK (R480). A SERVICE_UNLOCK token on the debug port moves a BOOT_FAIL device into RETURNED. -/
  | serviceUnlock (img : List Nat)
  /-- HOLDUP_MEASUREMENT_END (R517). After 5 ms or a 1 V fall, C is computed and the diode closes. -/
  | holdupMeasurementEnd (dv iStore : Nat)
  /-- NAND_MIGRATION (R514). Staged items are migrated from MRAM to NAND in sequence order. -/
  | nandMigration (r : Nat)
  /-- NAND_SCRUB (R524). Written pages are read every SCRUB_DAYS and refreshed or recovered. -/
  | nandScrub (region page bits : Nat) (uncorr : Bool)
  /-- NAND_PROGRAM_FAIL (R525). A failed program or erase retires the block and ends in STORE_FAIL after three attempts. -/
  | nandProgramFail (id die block : Nat)
  /-- WEAR_LEVEL_MOVE (R525). Static data is moved when erase counts differ by more than 1,000. -/
  | wearLevelMove (hi lo mean : Nat)
  /-- WAKE_EVENT (R546). An enabled wake source ends QUIET or HIBERNATE. -/
  | wakeEvent (source : Nat)
  /-- PPS_EDGE (R586). A 1PPS edge is qualified and updates LOCKED and the Chronobase trim. -/
  | ppsEdge (qualifies : Bool) (err : Int)
  /-- LINK_RETRAIN_TIMEOUT (R147). 2 s after acceptance, a LINK_RETRAIN whose link has not reached RUN or QUARANTINE completes with TIMEOUT. -/
  | linkRetrainTimeout (n : Nat)
  /-- STALL_STOP_TIMEOUT (R222). 100 ms after acceptance, a STALL_STOP whose stop has not ended completes with TIMEOUT while the stop continues. -/
  | stallStopTimeout (n : Nat)
  /-- BRIDGE_RAMP_END (R374). A bridge's applied duty, ramped at RAMP, reaches its command, completing BRIDGE_SET, switching direction at zero duty, or taking a released bridge to OFF. -/
  | bridgeRampEnd (b : Nat)
  /-- LSW_CURRENT_SAMPLE (R393). A group converter samples one channel's current every 25 µs, updating LSW_Cn_CURRENT, marking GROUP_DISTURB and clearing OPEN_LOAD at a sample at or above OPEN_MA. -/
  | lswCurrentSample (c sample temp lsv : Nat)
  /-- PULSE_OUTPUT_END (R253). A pulse output's on time ends, the output turns off and the least off time starts. -/
  | pulseOutputEnd (k : Nat)
  /-- HOLDUP_WAIT_TIMEOUT (R494). Work held by a refused or held store for 1 s completes IMAGE_STAGE, CHARTER_LOAD or HOST_WRITE with HOLDUP_LOW. -/
  | holdupWaitTimeout (id : Nat)
  /-- SAFETY_PROOF_TEST_END (R471). The timed de-energising of each SAFE_OUT channel ends and the proof test completes OK or with PROOF_FAILED and HALT_SAFE. -/
  | safetyProofTestEnd (failed : Nat)
  /-- CAN_RX_RING_DELIVERY (R411). Frames waiting in the receive FIFOs pass to the CAN receive ring, oldest first, once it has room. -/
  | canRxRingDelivery
  /-- VAUX_BELOW_RESET (R535). VAUX falls below RESET, which asserts POR once any running store has ended. -/
  | vauxBelowReset
  /-- THERMAL_SHUTDOWN_EXIT (R558). Every sensor reads below 120 °C and the device leaves Cold reset to boot. -/
  | thermalShutdownExit
  /-- RESET_N_ASSERT (R551). RESET_N held low for 1 µs requests a Device reset. -/
  | resetNAssert
  /-- DEVICE_RESET_EFFECT (R15). Once any running store has completed, the Device reset takes effect and the lanes reboot from FIRMWARE. -/
  | deviceResetEffect
  /-- HOLD_WINDOW_EXPIRY (R552). HOLD_WINDOW ends without OUTPUT_ADOPT and the held outputs and class H items are released. -/
  | holdWindowExpiry
  /-- LSW_RELEASE_STEP (R397). One HOST channel with BOOT_ON 0 turns off per millisecond in ascending order. -/
  | lswReleaseStep
  /-- LANE_HEARTBEAT (R457). The active lane updates its heartbeat in the lane supervisor. -/
  | laneHeartbeat
  /-- LANE_HEARTBEAT_TIMEOUT (R457). No heartbeat arrives within 400 µs and the active lane is declared lost. -/
  | laneHeartbeatTimeout
  /-- REVERT_HOLDOFF_EXPIRY (R462). The revert hold-off ends and lane A takes control by planned handover. -/
  | revertHoldoffExpiry
  /-- HANDOVER_DRAIN_END (R466). A planned handover's drain ends and the next allocation boundary is chosen for the final snapshot. -/
  | handoverDrainEnd
  /-- HANDOVER_ACK_TIMEOUT (R466). The standby has not acknowledged by tA + 300 µs and the handover is abandoned. -/
  | handoverAckTimeout
  /-- NO_STANDBY_LIMIT (R465). After 86,400 s without a healthy standby, new sessions are held. -/
  | noStandbyLimit
  /-- FW_PROBATION_EXPIRY (R467). PROBATION_S ends, the staged slot becomes active and the former active lane reboots from it. -/
  | fwProbationExpiry
  /-- ALLOCATION_BOUNDARY (R24). At each allocation boundary the Yardmaster freezes inputs, applies staged setpoints and starts its solve, and the Tether captures a snapshot. -/
  | allocationBoundary
  /-- EMERGENCY_RAMP_STEP (R168). Every EMERG_STEP link cycles the applied setpoint is restaged by one emergency step. -/
  | emergencyRampStep
  /-- LEGAL_TICK_ADVANCE (R266). Each RTC second advances the legal tick by one. -/
  | legalTickAdvance
  /-- TIME_SLEW_END (R270). A running slew has absorbed DELTA and wall time returns to its normal rate. -/
  | timeSlewEnd
  /-- CHECKPOINT_STORE_START (R244). At a boundary a periodic, forced, requested or retried Weighbridge store is admitted and captures the committed state, or is refused. -/
  | checkpointStoreStart
  /-- FINAL_STORE_START (R244). After COMMIT, once every stall is below 5.0 A or 6 ms have passed, the final store is admitted or refused. -/
  | finalStoreStart
  /-- BILLING_BOUNDARY (R281). At a boundary instant Billing closes the demand interval, switches the tariff, queues the profile block and takes readings in order. -/
  | billingBoundary
  /-- TARIFF_FREEZE_END (R275). Wall time passes the last executed switch and tariff switching resumes. -/
  | tariffFreezeEnd
  /-- FRIENDLY_WINDOW_END (R301). A friendly window ends and exhausted accounts are handled under R300. -/
  | friendlyWindowEnd
  /-- HALTER_CHANNEL_MISMATCH (R454). The Halter's two channels disagree and the device enters HALT_SAFE. -/
  | halterChannelMismatch
  /-- HALTER_SUPPLY_FAIL (R454). The Halter's supply monitor forces the fail-safe state below its threshold. -/
  | halterSupplyFail
  /-- PROOF_TEST_DUE (R471). Once per day after HLT_PROOF_CFG.DAYS, PROOF_TEST_DUE is raised. -/
  | proofTestDue
  /-- TROUGH_EVALUATION (R347). Every 10 ms the Trough computes each stall's pump and valve commands and each central loop's duty. -/
  | troughEvaluation
  /-- ALLOW_MERGE_LEAF (R335). The background merge rewrites one leaf and commits the leaf index, ending with ALLOW_MERGED. -/
  | allowMergeLeaf
  /-- CHANGE_WINDOW_EXPIRY (R499). DURATION_S ends and the change window closes. -/
  | changeWindowExpiry
  /-- WINDOW_LOCKOUT_END (R498). The 900 s proof lockout ends. -/
  | windowLockoutEnd
  /-- EPOCH_SWITCH_BOUNDARY (R496). At the chosen boundary the staged tables are offered to their blocks and activate together, or the switch is refused. -/
  | epochSwitchBoundary
  /-- HOLDUP_MEASUREMENT_START (R517). Every CAL_S in NORMAL the device opens the diode and loads VHOLD to measure capacitance. -/
  | holdupMeasurementStart
  /-- HOLDUP_WEAK (R522). FINAL_OK at 0 for 1 s in RUN raises HOLDUP_WEAK. -/
  | holdupWeak
  /-- POWER_ENTRY_CHECK (R543). After up to 20 ms, the refusers are checked and the entry is refused or proceeds. -/
  | powerEntryCheck
  /-- QUIET_ENTRY (R544). At the first boundary after the check, ALLOC, DRO and CVU enter retention. -/
  | quietEntry
  /-- HIBERNATE_ENTRY (R545). Links go OFF, outputs are released and a final store is taken before the domains switch off. -/
  | hibernateEntry
  /-- WAKE_TIMER (R546). WAKE_AFTER_S elapses on the RTC and wakes the device. -/
  | wakeTimer
  /-- WAKE_REPLAY (R549). A wake latched during entry is replayed within 1 ms of reaching the state. -/
  | wakeReplay
  /-- PPS_ABSENCE_TIMEOUT (R586). No 1PPS edge for 3 s clears LOCKED and holds the trim. -/
  | ppsAbsenceTimeout
  /-- RESET_N_RELEASE (R551). RESET_N returns high and the lanes, held at the FIRMWARE phase while it was low, continue the boot toward RUN. -/
  | resetNRelease
  /-- FW_STEP_TIMEOUT (R467). An FW_ACTIVATE step exceeds its time limit and the activation fails, returning the standby to the old slot. -/
  | fwStepTimeout
  /-- TIME_SET_AT_CHRONOBASE (R271). The Chronobase reaches a future AT_CHRONOBASE of an accepted step and wall time is set to NEW_TIME. -/
  | timeSetAtChronobase
  deriving DecidableEq, Repr

end Sys2Proof
end

