-- ==== Sys2Proof/Decode.lean ====
section
/-!
DEFINITION. The commands that words spell. No row of spec/opcode_table.json has bits (every row's fields are empty), so no word
spells a command.
-/
namespace Sys2Proof

/-- The command that an `nbits`-bit word `w` spells by the table's bits: none, because the table gives none to any row. -/
def decodeTableWord (_nbits _w : Nat) : Option Instr := none

end Sys2Proof
end

