-- ==== Sys2Proof/Config.lean ====
section
/-!
DEFINITION. What the spec leaves open and one implementation fixes: opaque constants with no body, so that no proof can
use a value of theirs (notes/assumptions/2.md). A fresh value each time is `freeNat` applied to State's counter.
-/
namespace Sys2Proof.Config

/-- A value the spec leaves open, one for each use (the counter `State.free` is the argument). -/
opaque freeNat : Nat → Nat

/-- The bytes of a cryptographic result (a signature, a digest, a derived key): a function of what it is computed over.
`what` names the operation, so that two operations share nothing. -/
opaque crypto (what : Nat) (data : List Nat) : List Nat

/-- The device secret UDS in OTP (R482): drawn at manufacture, never readable. -/
opaque uds : List Nat

/-- The Luasyn public keys fixed in OTP, by signer key id (R491). -/
opaque luasyn (signer : Nat) : List Nat

/-- A number drawn by the TRNG, one for each draw. -/
opaque trng : Nat → Nat

/-- Byte `k` of the PRBS-7 fill of a TRAIN frame (R122): the spec names the sequence and its seed, not its polynomial or
bit order. -/
opaque prbs7 : Nat → Nat

/-- Where the spec gives a quotient and no rounding: whether this implementation rounds `num / den` up when it does not
come out even. -/
opaque roundUp (num : Int) (den : Nat) : Bool

/-- A step of a feeder path's Rogowski integrator (R232), whose filter the spec does not give: its output from HPF, FNOM, the
output before and the code. -/
opaque integrated (hpf fnom : Nat) (before code : Int) : Int

/-- A current code as a phase trim other than zero aligns it (R232), from the trim, the code before and the code: the spec gives
no interpolation. -/
opaque trimmed (phase before code : Int) : Int

/-- `num / den` under that rounding: one of the two neighbouring integers. -/
def rnd (num : Int) (den : Nat) : Int :=
  num / (den : Int) + (if num % (den : Int) ≠ 0 && roundUp num den then 1 else 0)

end Sys2Proof.Config
end

