-- ==== Sys2Proof/Machine/Fields.lean ====
section
/-!
DEFINITION. The names of the register fields, as the spec's register tables and field maps spell them. A field is its
register's window (R573), its offset in the window, its lowest bit and its width; a field of a `_LO`/`_HI` pair is one field of the
pair (R585). Paddock `p` sees its own copy of the PDK window (R44): its fields carry `p` as their page.
-/
namespace Sys2Proof.Machine

/-- A register field: page (the paddock of a PDK field, else 0), window, offset in the window, lowest bit, width. -/
structure Fld where
  page : Nat
  win : Nat
  reg : Nat
  lo : Nat
  w : Nat
  deriving DecidableEq, Repr

/-- The register's offset in BAR0, with the page above it. -/
def Fld.off (f : Fld) : Nat := (f.page * 256 + f.win % 256) * 0x10000 + f.reg % 0x10000

/-- The key a field is stored under: registers are 32 bits wide. -/
def Fld.key (f : Fld) : Nat := f.off * 32 + f.lo % 32

namespace F

def GLB_DEVICE_ID_PART : Fld := ⟨0, 0x0, 0x0, 16, 16⟩
def GLB_DEVICE_ID_STEP_MAJOR : Fld := ⟨0, 0x0, 0x0, 8, 8⟩
def GLB_DEVICE_ID_STEP_MINOR : Fld := ⟨0, 0x0, 0x0, 0, 8⟩
def GLB_VARIANT_ORDER : Fld := ⟨0, 0x0, 0x4, 24, 8⟩
def GLB_VARIANT_GRADE : Fld := ⟨0, 0x0, 0x4, 20, 4⟩
def GLB_VARIANT_SESSIONS : Fld := ⟨0, 0x0, 0x4, 8, 8⟩
def GLB_VARIANT_LINKS : Fld := ⟨0, 0x0, 0x4, 0, 6⟩
def GLB_SERIAL : Fld := ⟨0, 0x0, 0x8, 0, 64⟩
def GLB_BASE_MAC : Fld := ⟨0, 0x0, 0x10, 0, 48⟩
def GLB_FW_VER_A : Fld := ⟨0, 0x0, 0x18, 0, 32⟩
def GLB_FW_VER_B : Fld := ⟨0, 0x0, 0x1C, 0, 32⟩
def GLB_BOOT_STATUS_FAIL_CAUSE : Fld := ⟨0, 0x0, 0x20, 24, 8⟩
def GLB_BOOT_STATUS_PHASE : Fld := ⟨0, 0x0, 0x20, 20, 4⟩
def GLB_BOOT_STATUS_SLOT_FALLBACK : Fld := ⟨0, 0x0, 0x20, 19, 1⟩
def GLB_BOOT_STATUS_ACTIVE_SLOT : Fld := ⟨0, 0x0, 0x20, 18, 1⟩
def GLB_BOOT_STATUS_HISTORY : Fld := ⟨0, 0x0, 0x20, 0, 16⟩
def GLB_BOOT_COUNT : Fld := ⟨0, 0x0, 0x24, 0, 32⟩
def GLB_CHRONO : Fld := ⟨0, 0x0, 0x28, 0, 64⟩
def GLB_OFFDOM_STATUS_VALID : Fld := ⟨0, 0x0, 0x30, 31, 1⟩
def GLB_OFFDOM_STATUS_OVERFLOW : Fld := ⟨0, 0x0, 0x30, 30, 1⟩
def GLB_OFFDOM_STATUS_PADDOCK : Fld := ⟨0, 0x0, 0x30, 28, 2⟩
def GLB_OFFDOM_STATUS_WRITE : Fld := ⟨0, 0x0, 0x30, 27, 1⟩
def GLB_OFFDOM_STATUS_OFFSET : Fld := ⟨0, 0x0, 0x30, 0, 21⟩
def GLB_ATTN : Fld := ⟨0, 0x0, 0x34, 0, 17⟩
def GLB_LOCK : Fld := ⟨0, 0x0, 0x40, 0, 1⟩
def GLB_LOCK_MAP : Fld := ⟨0, 0x0, 0x44, 0, 17⟩
def GLB_LOCK_ALL : Fld := ⟨0, 0x0, 0x48, 0, 1⟩
def GLB_PPS_CFG_ENABLE : Fld := ⟨0, 0x0, 0x50, 31, 1⟩
def GLB_PPS_CFG_FALLING : Fld := ⟨0, 0x0, 0x50, 30, 1⟩
def GLB_PPS_CFG_TRIM_LIMIT : Fld := ⟨0, 0x0, 0x50, 0, 8⟩
def GLB_PPS_STATUS_LOCKED : Fld := ⟨0, 0x0, 0x54, 31, 1⟩
def GLB_PPS_STATUS_PRESENT : Fld := ⟨0, 0x0, 0x54, 30, 1⟩
def GLB_PPS_STATUS_TRIM : Fld := ⟨0, 0x0, 0x54, 0, 24⟩
def GLB_GPIO_DIR : Fld := ⟨0, 0x0, 0x60, 0, 32⟩
def GLB_GPIO_OUT : Fld := ⟨0, 0x0, 0x64, 0, 32⟩
def GLB_GPIO_SET : Fld := ⟨0, 0x0, 0x68, 0, 32⟩
def GLB_GPIO_CLR : Fld := ⟨0, 0x0, 0x6C, 0, 32⟩
def GLB_GPIO_IN : Fld := ⟨0, 0x0, 0x70, 0, 32⟩
def GLB_GPIO_CLAIM : Fld := ⟨0, 0x0, 0x74, 0, 32⟩
def GLB_LANE_STATUS_HEALTHY_STANDBY : Fld := ⟨0, 0x0, 0x400, 31, 1⟩
def GLB_LANE_STATUS_HANDOVER_BUSY : Fld := ⟨0, 0x0, 0x400, 30, 1⟩
def GLB_LANE_STATUS_PROBATION : Fld := ⟨0, 0x0, 0x400, 29, 1⟩
def GLB_LANE_STATUS_B_STATE : Fld := ⟨0, 0x0, 0x400, 20, 3⟩
def GLB_LANE_STATUS_A_STATE : Fld := ⟨0, 0x0, 0x400, 16, 3⟩
def GLB_LANE_STATUS_ACTIVE : Fld := ⟨0, 0x0, 0x400, 8, 1⟩
def GLB_LANE_STATUS_SNAP_AGE : Fld := ⟨0, 0x0, 0x400, 0, 8⟩
def GLB_LANE_CTRL_READMIT_B : Fld := ⟨0, 0x0, 0x404, 8, 1⟩
def GLB_LANE_CTRL_READMIT_A : Fld := ⟨0, 0x0, 0x404, 7, 1⟩
def GLB_LANE_CTRL_RESET_B : Fld := ⟨0, 0x0, 0x404, 1, 1⟩
def GLB_LANE_CTRL_RESET_A : Fld := ⟨0, 0x0, 0x404, 0, 1⟩
def GLB_REVERT_CFG_HOLDOFF_S : Fld := ⟨0, 0x0, 0x408, 0, 10⟩
def GLB_REVERT_REMAIN : Fld := ⟨0, 0x0, 0x40C, 0, 32⟩
def GLB_NOSTBY_TIME : Fld := ⟨0, 0x0, 0x410, 0, 32⟩
def GLB_LANE_CNT_TAKEOVERS : Fld := ⟨0, 0x0, 0x414, 16, 16⟩
def GLB_LANE_CNT_HANDOVERS : Fld := ⟨0, 0x0, 0x414, 0, 16⟩
def GLB_LANE_LOSS_B : Fld := ⟨0, 0x0, 0x418, 8, 8⟩
def GLB_LANE_LOSS_A : Fld := ⟨0, 0x0, 0x418, 0, 8⟩
def GLB_FW_STATE_STEP : Fld := ⟨0, 0x0, 0x41C, 24, 3⟩
def GLB_FW_STATE_SLOT_B : Fld := ⟨0, 0x0, 0x41C, 1, 1⟩
def GLB_FW_STATE_SLOT_A : Fld := ⟨0, 0x0, 0x41C, 0, 1⟩
def GLB_TETHER_SLACK_MIN : Fld := ⟨0, 0x0, 0x420, 0, 32⟩
def PDK_ID (p : Nat) : Fld := ⟨p, 0x1, 0x0, 0, 2⟩
def PDK_RIGHTS_SAFETY_ADMIN (p : Nat) : Fld := ⟨p, 0x1, 0x4, 4, 1⟩
def PDK_RIGHTS_OBSERVE (p : Nat) : Fld := ⟨p, 0x1, 0x4, 3, 1⟩
def PDK_RIGHTS_SERVICE (p : Nat) : Fld := ⟨p, 0x1, 0x4, 2, 1⟩
def PDK_RIGHTS_BILL (p : Nat) : Fld := ⟨p, 0x1, 0x4, 1, 1⟩
def PDK_RIGHTS_OPERATE (p : Nat) : Fld := ⟨p, 0x1, 0x4, 0, 1⟩
def PDK_STATUS_DMA_ERR (p : Nat) : Fld := ⟨p, 0x1, 0x8, 3, 1⟩
def PDK_STATUS_RING_ERR (p : Nat) : Fld := ⟨p, 0x1, 0x8, 2, 1⟩
def PDK_STATUS_CHARTER_NEW (p : Nat) : Fld := ⟨p, 0x1, 0x8, 1, 1⟩
def PDK_STATUS_DEVICE_RUN (p : Nat) : Fld := ⟨p, 0x1, 0x8, 0, 1⟩
def PDK_DB_POLL_INTERVAL (p : Nat) : Fld := ⟨p, 0x1, 0xC, 0, 8⟩
def PDK_NUDGE_CQ_EQ (p : Nat) : Fld := ⟨p, 0x1, 0x10, 8, 5⟩
def PDK_NUDGE_SQ (p : Nat) : Fld := ⟨p, 0x1, 0x10, 0, 8⟩
def PDK_INFLIGHT_HIGH (p : Nat) : Fld := ⟨p, 0x1, 0x14, 16, 7⟩
def PDK_INFLIGHT_COUNT (p : Nat) : Fld := ⟨p, 0x1, 0x14, 0, 7⟩
def PDK_EVT_BLOCK_MASK (p : Nat) : Fld := ⟨p, 0x1, 0x18, 0, 17⟩
def PDK_EVT_CFG_MIN_SEVERITY (p : Nat) : Fld := ⟨p, 0x1, 0x1C, 0, 3⟩
def PDK_EVT_LOST (p : Nat) : Fld := ⟨p, 0x1, 0x20, 0, 32⟩
def PDK_DENY_STATUS_VALID (p : Nat) : Fld := ⟨p, 0x1, 0x24, 31, 1⟩
def PDK_DENY_STATUS_OFFSET (p : Nat) : Fld := ⟨p, 0x1, 0x24, 0, 21⟩
def PDK_RING_ERR_RING (p : Nat) : Fld := ⟨p, 0x1, 0x28, 3, 13⟩
def PDK_RING_ERR_DMA (p : Nat) : Fld := ⟨p, 0x1, 0x28, 2, 1⟩
def PDK_RING_ERR_CFG (p : Nat) : Fld := ⟨p, 0x1, 0x28, 1, 1⟩
def PDK_RING_ERR_INDEX_RANGE (p : Nat) : Fld := ⟨p, 0x1, 0x28, 0, 1⟩
def PDK_SQi_BASE_ADDR (p i : Nat) : Fld := ⟨p, 0x1, 0x100 + 0x20 * i, 12, 52⟩
def PDK_SQi_DB_ADDR (p i : Nat) : Fld := ⟨p, 0x1, 0x108 + 0x20 * i, 6, 58⟩
def PDK_SQi_CFG_ENABLE (p i : Nat) : Fld := ⟨p, 0x1, 0x110 + 0x20 * i, 31, 1⟩
def PDK_SQi_CFG_CQ (p i : Nat) : Fld := ⟨p, 0x1, 0x110 + 0x20 * i, 16, 2⟩
def PDK_SQi_CFG_SIZE_LOG2 (p i : Nat) : Fld := ⟨p, 0x1, 0x110 + 0x20 * i, 12, 4⟩
def PDK_SQi_CONS (p i : Nat) : Fld := ⟨p, 0x1, 0x114 + 0x20 * i, 0, 32⟩
def PDK_CQj_BASE_ADDR (p i : Nat) : Fld := ⟨p, 0x1, 0x200 + 0x20 * i, 12, 52⟩
def PDK_CQj_DB_ADDR (p i : Nat) : Fld := ⟨p, 0x1, 0x208 + 0x20 * i, 6, 58⟩
def PDK_CQj_CFG_ENABLE (p i : Nat) : Fld := ⟨p, 0x1, 0x210 + 0x20 * i, 31, 1⟩
def PDK_CQj_CFG_VECTOR (p i : Nat) : Fld := ⟨p, 0x1, 0x210 + 0x20 * i, 24, 4⟩
def PDK_CQj_CFG_COALESCE_US (p i : Nat) : Fld := ⟨p, 0x1, 0x210 + 0x20 * i, 16, 8⟩
def PDK_CQj_CFG_SIZE_LOG2 (p i : Nat) : Fld := ⟨p, 0x1, 0x210 + 0x20 * i, 12, 4⟩
def PDK_CQj_CFG_COALESCE_CNT (p i : Nat) : Fld := ⟨p, 0x1, 0x210 + 0x20 * i, 0, 8⟩
def PDK_CQj_PROD (p i : Nat) : Fld := ⟨p, 0x1, 0x214 + 0x20 * i, 0, 32⟩
def PDK_EQ_BASE_ADDR (p : Nat) : Fld := ⟨p, 0x1, 0x280, 12, 52⟩
def PDK_EQ_DB_ADDR (p : Nat) : Fld := ⟨p, 0x1, 0x288, 6, 58⟩
def PDK_EQ_CFG_ENABLE (p : Nat) : Fld := ⟨p, 0x1, 0x290, 31, 1⟩
def PDK_EQ_CFG_VECTOR (p : Nat) : Fld := ⟨p, 0x1, 0x290, 24, 4⟩
def PDK_EQ_CFG_COALESCE_US (p : Nat) : Fld := ⟨p, 0x1, 0x290, 16, 8⟩
def PDK_EQ_CFG_SIZE_LOG2 (p : Nat) : Fld := ⟨p, 0x1, 0x290, 12, 4⟩
def PDK_EQ_CFG_COALESCE_CNT (p : Nat) : Fld := ⟨p, 0x1, 0x290, 0, 8⟩
def PDK_EQ_PROD (p : Nat) : Fld := ⟨p, 0x1, 0x294, 0, 32⟩
def PDK_MSIX_ADDR_LO (p i : Nat) : Fld := ⟨p, 0x1, 0x8000 + 0x10 * i, 0, 32⟩
def PDK_MSIX_ADDR_HI (p i : Nat) : Fld := ⟨p, 0x1, 0x8004 + 0x10 * i, 0, 32⟩
def PDK_MSIX_DATA (p i : Nat) : Fld := ⟨p, 0x1, 0x8008 + 0x10 * i, 0, 32⟩
def PDK_MSIX_CTRL (p i : Nat) : Fld := ⟨p, 0x1, 0x800C + 0x10 * i, 0, 32⟩
def PDK_MSIX_PBA (p : Nat) : Fld := ⟨p, 0x1, 0x9000, 0, 16⟩
def SLK_PRESENT : Fld := ⟨0, 0x2, 0x0, 0, 6⟩
def SLK_LOCK : Fld := ⟨0, 0x2, 0x4, 0, 1⟩
def SLK_REKEY_CFG_HOURS : Fld := ⟨0, 0x2, 0x8, 0, 8⟩
def SLK_RUN_MAP0 : Fld := ⟨0, 0x2, 0xC, 0, 32⟩
def SLK_RUN_MAP1 : Fld := ⟨0, 0x2, 0x10, 0, 16⟩
def SLK_QUAR_MAP0 : Fld := ⟨0, 0x2, 0x14, 0, 32⟩
def SLK_QUAR_MAP1 : Fld := ⟨0, 0x2, 0x18, 0, 16⟩
def SLK_Sn_CTRL_ENABLE (i : Nat) : Fld := ⟨0, 0x2, 0x1000 + 0x100 * i, 31, 1⟩
def SLK_Sn_CTRL_TUN_EN (i : Nat) : Fld := ⟨0, 0x2, 0x1000 + 0x100 * i, 1, 3⟩
def SLK_Sn_STATE_EDGE_LATCH (i : Nat) : Fld := ⟨0, 0x2, 0x1004 + 0x100 * i, 9, 1⟩
def SLK_Sn_STATE_CROSSED (i : Nat) : Fld := ⟨0, 0x2, 0x1004 + 0x100 * i, 8, 1⟩
def SLK_Sn_STATE_RANGE (i : Nat) : Fld := ⟨0, 0x2, 0x1004 + 0x100 * i, 7, 1⟩
def SLK_Sn_STATE_STATE (i : Nat) : Fld := ⟨0, 0x2, 0x1004 + 0x100 * i, 0, 4⟩
def SLK_Sn_QCAUSE (i : Nat) : Fld := ⟨0, 0x2, 0x1008 + 0x100 * i, 0, 7⟩
def SLK_Sn_SEAL_COMMITTED (i : Nat) : Fld := ⟨0, 0x2, 0x100C + 0x100 * i, 8, 8⟩
def SLK_Sn_SEAL_REPORTED (i : Nat) : Fld := ⟨0, 0x2, 0x100C + 0x100 * i, 0, 8⟩
def SLK_Sn_EPOCH_REC (i : Nat) : Fld := ⟨0, 0x2, 0x1010 + 0x100 * i, 0, 32⟩
def SLK_Sn_EPOCH_TERM (i : Nat) : Fld := ⟨0, 0x2, 0x1014 + 0x100 * i, 0, 32⟩
def SLK_Sn_SERIAL (i : Nat) : Fld := ⟨0, 0x2, 0x1018 + 0x100 * i, 0, 64⟩
def SLK_Sn_FP0 (i : Nat) : Fld := ⟨0, 0x2, 0x1020 + 0x100 * i, 0, 32⟩
def SLK_Sn_FP1 (i : Nat) : Fld := ⟨0, 0x2, 0x1024 + 0x100 * i, 0, 32⟩
def SLK_Sn_FP2 (i : Nat) : Fld := ⟨0, 0x2, 0x1028 + 0x100 * i, 0, 32⟩
def SLK_Sn_FP3 (i : Nat) : Fld := ⟨0, 0x2, 0x102C + 0x100 * i, 0, 32⟩
def SLK_Sn_FP4 (i : Nat) : Fld := ⟨0, 0x2, 0x1030 + 0x100 * i, 0, 32⟩
def SLK_Sn_FP5 (i : Nat) : Fld := ⟨0, 0x2, 0x1034 + 0x100 * i, 0, 32⟩
def SLK_Sn_FP6 (i : Nat) : Fld := ⟨0, 0x2, 0x1038 + 0x100 * i, 0, 32⟩
def SLK_Sn_FP7 (i : Nat) : Fld := ⟨0, 0x2, 0x103C + 0x100 * i, 0, 32⟩
def SLK_Sn_LATENCY_LAT_TRIM (i : Nat) : Fld := ⟨0, 0x2, 0x1040 + 0x100 * i, 16, 16⟩
def SLK_Sn_LATENCY_D (i : Nat) : Fld := ⟨0, 0x2, 0x1040 + 0x100 * i, 0, 16⟩
def SLK_Sn_CNT_CRC (i : Nat) : Fld := ⟨0, 0x2, 0x1044 + 0x100 * i, 0, 32⟩
def SLK_Sn_CNT_INVALID (i : Nat) : Fld := ⟨0, 0x2, 0x1048 + 0x100 * i, 0, 32⟩
def SLK_Sn_CNT_MACFAIL (i : Nat) : Fld := ⟨0, 0x2, 0x104C + 0x100 * i, 0, 32⟩
def SLK_Sn_CNT_EDGEREJ (i : Nat) : Fld := ⟨0, 0x2, 0x1050 + 0x100 * i, 0, 32⟩
def SLK_Sn_CNT_BOTHON (i : Nat) : Fld := ⟨0, 0x2, 0x1054 + 0x100 * i, 0, 32⟩
def SLK_Sn_CNT_DLMISS (i : Nat) : Fld := ⟨0, 0x2, 0x1058 + 0x100 * i, 0, 32⟩
def SLK_Sn_KEYGEN (i : Nat) : Fld := ⟨0, 0x2, 0x105C + 0x100 * i, 0, 8⟩
def YMS_CYCLE_CFG_SOLVE_EN : Fld := ⟨0, 0x3, 0x0, 31, 1⟩
def YMS_CYCLE_CFG_EMERG_STEP : Fld := ⟨0, 0x3, 0x0, 8, 8⟩
def YMS_LOCK : Fld := ⟨0, 0x3, 0x4, 0, 1⟩
def YMS_THROTTLE_CFG_GRACE : Fld := ⟨0, 0x3, 0x8, 0, 7⟩
def YMS_STATUS_EMERG_RAMP : Fld := ⟨0, 0x3, 0xC, 3, 1⟩
def YMS_STATUS_CLAMP_ACT : Fld := ⟨0, 0x3, 0xC, 2, 1⟩
def YMS_STATUS_FLOOR_SHORT : Fld := ⟨0, 0x3, 0xC, 1, 1⟩
def YMS_STATUS_OVERRUN : Fld := ⟨0, 0x3, 0xC, 0, 1⟩
def YMS_SLACK_MIN : Fld := ⟨0, 0x3, 0x10, 0, 32⟩
def YMS_CNT_SOLVE : Fld := ⟨0, 0x3, 0x14, 0, 32⟩
def YMS_CNT_OVERRUN : Fld := ⟨0, 0x3, 0x18, 0, 32⟩
def YMS_CNT_EMERG : Fld := ⟨0, 0x3, 0x1C, 0, 32⟩
def YMS_CNT_CLAMP : Fld := ⟨0, 0x3, 0x20, 0, 32⟩
def YMS_TREE_EPOCH : Fld := ⟨0, 0x3, 0x24, 0, 32⟩
def YMS_DERATE_EPOCH : Fld := ⟨0, 0x3, 0x28, 0, 32⟩
def YMS_TREE_INFO_NODES : Fld := ⟨0, 0x3, 0x2C, 16, 8⟩
def YMS_TREE_INFO_STALLS : Fld := ⟨0, 0x3, 0x2C, 8, 8⟩
def YMS_TREE_INFO_GROUPS : Fld := ⟨0, 0x3, 0x2C, 0, 8⟩
def YMS_CAB_STATE0 : Fld := ⟨0, 0x3, 0x30, 0, 32⟩
def YMS_CAB_STATE1 : Fld := ⟨0, 0x3, 0x34, 0, 32⟩
def YMS_SITE_LOAD : Fld := ⟨0, 0x3, 0x38, 0, 32⟩
def YMS_THROTTLE_DEV_ENFORCED : Fld := ⟨0, 0x3, 0x3C, 31, 1⟩
def YMS_THROTTLE_DEV_ARMED : Fld := ⟨0, 0x3, 0x3C, 30, 1⟩
def YMS_THROTTLE_DEV_CEIL : Fld := ⟨0, 0x3, 0x3C, 0, 30⟩
def YMS_SITE_IMPORT_CEIL : Fld := ⟨0, 0x3, 0x40, 0, 32⟩
def YMS_SITE_EXPORT_CEIL : Fld := ⟨0, 0x3, 0x44, 0, 32⟩
def YMS_Ff_IMPORT_CEIL (i : Nat) : Fld := ⟨0, 0x3, 0x48 + 0x8 * i, 0, 32⟩
def YMS_Ff_EXPORT_CEIL (i : Nat) : Fld := ⟨0, 0x3, 0x4C + 0x8 * i, 0, 32⟩
def YMS_Sn_GRANT_APPLIED (i : Nat) : Fld := ⟨0, 0x3, 0x1000 + 0x20 * i, 16, 16⟩
def YMS_Sn_GRANT_TARGET (i : Nat) : Fld := ⟨0, 0x3, 0x1000 + 0x20 * i, 0, 16⟩
def YMS_Sn_CEIL_HALTER (i : Nat) : Fld := ⟨0, 0x3, 0x1004 + 0x20 * i, 16, 16⟩
def YMS_Sn_CEIL_DERATE (i : Nat) : Fld := ⟨0, 0x3, 0x1004 + 0x20 * i, 0, 16⟩
def YMS_Sn_POLICY0_TIER (i : Nat) : Fld := ⟨0, 0x3, 0x1008 + 0x20 * i, 24, 2⟩
def YMS_Sn_POLICY0_WEIGHT (i : Nat) : Fld := ⟨0, 0x3, 0x1008 + 0x20 * i, 16, 8⟩
def YMS_Sn_POLICY0_FLOOR (i : Nat) : Fld := ⟨0, 0x3, 0x1008 + 0x20 * i, 0, 16⟩
def YMS_Sn_POLICY1_RAMP_UP (i : Nat) : Fld := ⟨0, 0x3, 0x100C + 0x20 * i, 16, 16⟩
def YMS_Sn_POLICY1_CAP (i : Nat) : Fld := ⟨0, 0x3, 0x100C + 0x20 * i, 0, 16⟩
def YMS_Sn_THROTTLE_ENFORCED (i : Nat) : Fld := ⟨0, 0x3, 0x1010 + 0x20 * i, 31, 1⟩
def YMS_Sn_THROTTLE_ARMED (i : Nat) : Fld := ⟨0, 0x3, 0x1010 + 0x20 * i, 30, 1⟩
def YMS_Sn_THROTTLE_CEIL (i : Nat) : Fld := ⟨0, 0x3, 0x1010 + 0x20 * i, 0, 16⟩
def WLK_LOCK : Fld := ⟨0, 0x4, 0x0, 0, 1⟩
def WLK_STATUS_OVERBOOK : Fld := ⟨0, 0x4, 0x4, 3, 1⟩
def WLK_STATUS_SLOT_REFUSED : Fld := ⟨0, 0x4, 0x4, 2, 1⟩
def WLK_STATUS_EDGE_REJECT : Fld := ⟨0, 0x4, 0x4, 1, 1⟩
def WLK_STATUS_MISS : Fld := ⟨0, 0x4, 0x4, 0, 1⟩
def WLK_SLACK_MIN : Fld := ⟨0, 0x4, 0x8, 0, 32⟩
def WLK_CNT_MISS : Fld := ⟨0, 0x4, 0xC, 0, 32⟩
def WLK_TYPE_EPOCH : Fld := ⟨0, 0x4, 0x10, 0, 32⟩
def WLK_SCHED : Fld := ⟨0, 0x4, 0x14, 0, 8⟩
def WLK_Sn_MODE_V_TARGET (i : Nat) : Fld := ⟨0, 0x4, 0x1000 + 0x40 * i, 16, 16⟩
def WLK_Sn_MODE_CAUSE (i : Nat) : Fld := ⟨0, 0x4, 0x1000 + 0x40 * i, 8, 8⟩
def WLK_Sn_MODE_STATE (i : Nat) : Fld := ⟨0, 0x4, 0x1000 + 0x40 * i, 4, 3⟩
def WLK_Sn_MODE_MODE (i : Nat) : Fld := ⟨0, 0x4, 0x1000 + 0x40 * i, 0, 3⟩
def WLK_Sn_TYPE_P (i : Nat) : Fld := ⟨0, 0x4, 0x1004 + 0x40 * i, 12, 4⟩
def WLK_Sn_TYPE_PHASES (i : Nat) : Fld := ⟨0, 0x4, 0x1004 + 0x40 * i, 8, 3⟩
def WLK_Sn_TYPE_TYPE (i : Nat) : Fld := ⟨0, 0x4, 0x1004 + 0x40 * i, 0, 8⟩
def WLK_Sn_SLOT_SLOT (i : Nat) : Fld := ⟨0, 0x4, 0x1008 + 0x40 * i, 0, 4⟩
def WLK_Sn_PHASE_LOST (i : Nat) : Fld := ⟨0, 0x4, 0x100C + 0x40 * i, 8, 6⟩
def WLK_Sn_PHASE_ACTIVE (i : Nat) : Fld := ⟨0, 0x4, 0x100C + 0x40 * i, 0, 6⟩
def WLK_Sn_DUTY_FF (i : Nat) : Fld := ⟨0, 0x4, 0x1010 + 0x40 * i, 16, 16⟩
def WLK_Sn_DUTY_D (i : Nat) : Fld := ⟨0, 0x4, 0x1010 + 0x40 * i, 0, 16⟩
def WLK_Sn_CURRENT_I_CMD (i : Nat) : Fld := ⟨0, 0x4, 0x1014 + 0x40 * i, 16, 16⟩
def WLK_Sn_CURRENT_I_OUT (i : Nat) : Fld := ⟨0, 0x4, 0x1014 + 0x40 * i, 0, 16⟩
def WLK_Sn_VOLTAGE_V_LIMIT (i : Nat) : Fld := ⟨0, 0x4, 0x1018 + 0x40 * i, 16, 16⟩
def WLK_Sn_VOLTAGE_V_OUT (i : Nat) : Fld := ⟨0, 0x4, 0x1018 + 0x40 * i, 0, 16⟩
def WLK_Sn_CNT_MISS (i : Nat) : Fld := ⟨0, 0x4, 0x101C + 0x40 * i, 0, 32⟩
def WLK_Sn_TUNE (i : Nat) : Fld := ⟨0, 0x4, 0x1020 + 0x40 * i, 0, 7⟩
def WLK_Sn_DEGRADE_DEGRADED (i : Nat) : Fld := ⟨0, 0x4, 0x1024 + 0x40 * i, 31, 1⟩
def WLK_Sn_DEGRADE_BLOCKED (i : Nat) : Fld := ⟨0, 0x4, 0x1024 + 0x40 * i, 30, 1⟩
def WLK_Sn_DEGRADE_CAUSE (i : Nat) : Fld := ⟨0, 0x4, 0x1024 + 0x40 * i, 16, 2⟩
def WLK_Sn_DEGRADE_REMAIN (i : Nat) : Fld := ⟨0, 0x4, 0x1024 + 0x40 * i, 0, 16⟩
def WBG_LOCK : Fld := ⟨0, 0x5, 0x0, 0, 1⟩
def WBG_STATUS_CKPT_STALE : Fld := ⟨0, 0x5, 0x4, 4, 1⟩
def WBG_STATUS_SPLIT_DEFERRED : Fld := ⟨0, 0x5, 0x4, 3, 1⟩
def WBG_STATUS_CKPT_REFUSED : Fld := ⟨0, 0x5, 0x4, 2, 1⟩
def WBG_STATUS_BUFFER_OVF : Fld := ⟨0, 0x5, 0x4, 1, 1⟩
def WBG_STATUS_OVERRANGE : Fld := ⟨0, 0x5, 0x4, 0, 1⟩
def WBG_SLACK_MIN : Fld := ⟨0, 0x5, 0x8, 0, 32⟩
def WBG_CKPT_CFG_PERIOD_MS : Fld := ⟨0, 0x5, 0xC, 0, 10⟩
def WBG_CKPT_SEQ : Fld := ⟨0, 0x5, 0x10, 0, 32⟩
def WBG_CKPT_AGE : Fld := ⟨0, 0x5, 0x14, 0, 32⟩
def WBG_S0_FILTER_MS : Fld := ⟨0, 0x5, 0x18, 0, 5⟩
def WBG_Ff_SENSOR_WIRING (i : Nat) : Fld := ⟨0, 0x5, 0x100 + 0x10 * i, 28, 2⟩
def WBG_Ff_SENSOR_HPF (i : Nat) : Fld := ⟨0, 0x5, 0x100 + 0x10 * i, 16, 8⟩
def WBG_Ff_SENSOR_FNOM (i : Nat) : Fld := ⟨0, 0x5, 0x100 + 0x10 * i, 8, 1⟩
def WBG_Ff_SENSOR_SENS_N (i : Nat) : Fld := ⟨0, 0x5, 0x100 + 0x10 * i, 6, 2⟩
def WBG_Ff_SENSOR_SENS_C (i : Nat) : Fld := ⟨0, 0x5, 0x100 + 0x10 * i, 4, 2⟩
def WBG_Ff_SENSOR_SENS_B (i : Nat) : Fld := ⟨0, 0x5, 0x100 + 0x10 * i, 2, 2⟩
def WBG_Ff_SENSOR_SENS_A (i : Nat) : Fld := ⟨0, 0x5, 0x100 + 0x10 * i, 0, 2⟩
def WBG_Ff_VSCALE (i : Nat) : Fld := ⟨0, 0x5, 0x104 + 0x10 * i, 0, 32⟩
def WBG_Ff_ISCALE (i : Nat) : Fld := ⟨0, 0x5, 0x108 + 0x10 * i, 0, 32⟩
def WBG_Ff_FREQ (i : Nat) : Fld := ⟨0, 0x5, 0x10C + 0x10 * i, 0, 32⟩
def WBG_POk_CFG_ENABLE (i : Nat) : Fld := ⟨0, 0x5, 0x200 + 0x20 * i, 31, 1⟩
def WBG_POk_CFG_DIRECTION (i : Nat) : Fld := ⟨0, 0x5, 0x200 + 0x20 * i, 30, 1⟩
def WBG_POk_CFG_CHANNEL (i : Nat) : Fld := ⟨0, 0x5, 0x200 + 0x20 * i, 24, 6⟩
def WBG_POk_CFG_ON_MS (i : Nat) : Fld := ⟨0, 0x5, 0x200 + 0x20 * i, 8, 8⟩
def WBG_POk_CFG_OFF_MS (i : Nat) : Fld := ⟨0, 0x5, 0x200 + 0x20 * i, 0, 8⟩
def WBG_POk_CONST (i : Nat) : Fld := ⟨0, 0x5, 0x204 + 0x20 * i, 0, 32⟩
def WBG_POk_RESIDUE (i : Nat) : Fld := ⟨0, 0x5, 0x208 + 0x20 * i, 0, 32⟩
def WBG_POk_BACKLOG (i : Nat) : Fld := ⟨0, 0x5, 0x20C + 0x20 * i, 0, 16⟩
def WBG_POk_AHEAD (i : Nat) : Fld := ⟨0, 0x5, 0x210 + 0x20 * i, 0, 16⟩
def WBG_S0k_CFG_MODE (i : Nat) : Fld := ⟨0, 0x5, 0x300 + 0x10 * i, 30, 2⟩
def WBG_S0k_CFG_CHANNEL (i : Nat) : Fld := ⟨0, 0x5, 0x300 + 0x10 * i, 24, 6⟩
def WBG_S0k_CFG_DIRECTION (i : Nat) : Fld := ⟨0, 0x5, 0x300 + 0x10 * i, 23, 1⟩
def WBG_S0k_CONST (i : Nat) : Fld := ⟨0, 0x5, 0x304 + 0x10 * i, 0, 32⟩
def WBG_S0k_COUNT (i : Nat) : Fld := ⟨0, 0x5, 0x308 + 0x10 * i, 0, 32⟩
def WBG_Mc_STATE_CAUSE (i : Nat) : Fld := ⟨0, 0x5, 0x1000 + 0x40 * i, 16, 8⟩
def WBG_Mc_STATE_SUBSTITUTE (i : Nat) : Fld := ⟨0, 0x5, 0x1000 + 0x40 * i, 7, 1⟩
def WBG_Mc_STATE_STATE (i : Nat) : Fld := ⟨0, 0x5, 0x1000 + 0x40 * i, 0, 3⟩
def WBG_Mc_START_I_START (i : Nat) : Fld := ⟨0, 0x5, 0x1004 + 0x40 * i, 0, 16⟩
def WBG_Mf_START_I_START (i : Nat) : Fld := ⟨0, 0x5, 0x1C04 + 0x40 * i, 0, 16⟩
def WBG_Mc_FWD (i : Nat) : Fld := ⟨0, 0x5, 0x1008 + 0x40 * i, 0, 64⟩
def WBG_Mc_FWD_FRAC (i : Nat) : Fld := ⟨0, 0x5, 0x1010 + 0x40 * i, 0, 32⟩
def WBG_Mc_REV (i : Nat) : Fld := ⟨0, 0x5, 0x1014 + 0x40 * i, 0, 64⟩
def WBG_Mc_REV_FRAC (i : Nat) : Fld := ⟨0, 0x5, 0x101C + 0x40 * i, 0, 32⟩
def WBG_Mc_UNMET_MS (i : Nat) : Fld := ⟨0, 0x5, 0x1020 + 0x40 * i, 0, 32⟩
def WBG_Mc_UNMET_EST (i : Nat) : Fld := ⟨0, 0x5, 0x1024 + 0x40 * i, 0, 32⟩
def WBG_Mc_CAL_GEN (i : Nat) : Fld := ⟨0, 0x5, 0x1028 + 0x40 * i, 0, 32⟩
def WBG_Mc_POWER (i : Nat) : Fld := ⟨0, 0x5, 0x102C + 0x40 * i, 0, 32⟩
def WBG_Mc_VI_V (i : Nat) : Fld := ⟨0, 0x5, 0x1030 + 0x40 * i, 16, 16⟩
def WBG_Mc_VI_I (i : Nat) : Fld := ⟨0, 0x5, 0x1030 + 0x40 * i, 0, 16⟩
def WBG_Mc_CAL_FP (i : Nat) : Fld := ⟨0, 0x5, 0x1034 + 0x40 * i, 0, 32⟩
def BIL_LOCK : Fld := ⟨0, 0x6, 0x0, 0, 1⟩
def BIL_STATUS_TAMPER : Fld := ⟨0, 0x6, 0x4, 4, 1⟩
def BIL_STATUS_STORE_FULL : Fld := ⟨0, 0x6, 0x4, 3, 1⟩
def BIL_STATUS_SIGN_BACKLOG : Fld := ⟨0, 0x6, 0x4, 2, 1⟩
def BIL_STATUS_TIME_FROZEN : Fld := ⟨0, 0x6, 0x4, 1, 1⟩
def BIL_STATUS_SESSIONS_HELD : Fld := ⟨0, 0x6, 0x4, 0, 1⟩
def BIL_TIME_STATUS_SLEW_REMAIN : Fld := ⟨0, 0x6, 0x8, 8, 16⟩
def BIL_TIME_STATUS_TICK_RESTARTED : Fld := ⟨0, 0x6, 0x8, 3, 1⟩
def BIL_TIME_STATUS_SLEWING : Fld := ⟨0, 0x6, 0x8, 2, 1⟩
def BIL_TIME_STATUS_TIME_BACK : Fld := ⟨0, 0x6, 0x8, 1, 1⟩
def BIL_TIME_STATUS_VALID : Fld := ⟨0, 0x6, 0x8, 0, 1⟩
def BIL_WALL : Fld := ⟨0, 0x6, 0xC, 0, 64⟩
def BIL_TICK : Fld := ⟨0, 0x6, 0x14, 0, 48⟩
def BIL_INTERVAL_CFG_MINUTES : Fld := ⟨0, 0x6, 0x1C, 0, 8⟩
def BIL_TARIFF_EPOCH : Fld := ⟨0, 0x6, 0x20, 0, 32⟩
def BIL_CALENDAR_EPOCH : Fld := ⟨0, 0x6, 0x24, 0, 32⟩
def BIL_LAST_SWITCH : Fld := ⟨0, 0x6, 0x28, 0, 64⟩
def BIL_REC_SEQ : Fld := ⟨0, 0x6, 0x30, 0, 64⟩
def BIL_REC_PENDING : Fld := ⟨0, 0x6, 0x38, 0, 11⟩
def BIL_STORE_FILL_PROFILES : Fld := ⟨0, 0x6, 0x3C, 16, 10⟩
def BIL_STORE_FILL_READINGS : Fld := ⟨0, 0x6, 0x3C, 0, 10⟩
def BIL_RETAIN_DAYS : Fld := ⟨0, 0x6, 0x40, 0, 12⟩
def BIL_PREPAY_CFG_LOW_WARN : Fld := ⟨0, 0x6, 0x44, 0, 32⟩
def BIL_TAMPER_CFG_TERM_HIGH : Fld := ⟨0, 0x6, 0x48, 3, 1⟩
def BIL_TAMPER_CFG_COVER_HIGH : Fld := ⟨0, 0x6, 0x48, 2, 1⟩
def BIL_TAMPER_CFG_TERM_EN : Fld := ⟨0, 0x6, 0x48, 1, 1⟩
def BIL_TAMPER_CFG_COVER_EN : Fld := ⟨0, 0x6, 0x48, 0, 1⟩
def BIL_TAMPER_STATE_DROPPED : Fld := ⟨0, 0x6, 0x4C, 16, 16⟩
def BIL_TAMPER_STATE_HELD : Fld := ⟨0, 0x6, 0x4C, 8, 5⟩
def BIL_TAMPER_STATE_OPEN : Fld := ⟨0, 0x6, 0x4C, 0, 2⟩
def BIL_Mc_ROUTE_OPEN (i : Nat) : Fld := ⟨0, 0x6, 0x1000 + 0x40 * i, 31, 1⟩
def BIL_Mc_ROUTE_TARIFF (i : Nat) : Fld := ⟨0, 0x6, 0x1000 + 0x40 * i, 0, 3⟩
def BIL_Mc_DEMAND (i : Nat) : Fld := ⟨0, 0x6, 0x1004 + 0x40 * i, 0, 32⟩
def BIL_Mc_DEMAND_MAX (i : Nat) : Fld := ⟨0, 0x6, 0x1008 + 0x40 * i, 0, 32⟩
def BIL_Mc_DISP_FWD (i : Nat) : Fld := ⟨0, 0x6, 0x100C + 0x40 * i, 0, 64⟩
def BIL_Mc_DISP_REV (i : Nat) : Fld := ⟨0, 0x6, 0x1014 + 0x40 * i, 0, 64⟩
def BIL_Mc_SESSION (i : Nat) : Fld := ⟨0, 0x6, 0x101C + 0x40 * i, 0, 32⟩
def DRO_LOCK : Fld := ⟨0, 0x7, 0x0, 0, 1⟩
def DRO_STATUS_RX_LOST : Fld := ⟨0, 0x7, 0x4, 4, 1⟩
def DRO_STATUS_CFG_REFUSED : Fld := ⟨0, 0x7, 0x4, 3, 1⟩
def DRO_STATUS_MERGE : Fld := ⟨0, 0x7, 0x4, 2, 1⟩
def DRO_STATUS_TABLE_REJECT : Fld := ⟨0, 0x7, 0x4, 1, 1⟩
def DRO_STATUS_HELD : Fld := ⟨0, 0x7, 0x4, 0, 1⟩
def DRO_QRES_MAX : Fld := ⟨0, 0x7, 0x8, 0, 32⟩
def DRO_SM_EPOCH : Fld := ⟨0, 0x7, 0xC, 0, 32⟩
def DRO_EXI_EPOCH : Fld := ⟨0, 0x7, 0x10, 0, 32⟩
def DRO_ALLOW_SERIAL : Fld := ⟨0, 0x7, 0x14, 0, 32⟩
def DRO_ALLOW_COUNT : Fld := ⟨0, 0x7, 0x18, 0, 32⟩
def DRO_ALLOW_MERGE_RUNNING : Fld := ⟨0, 0x7, 0x1C, 31, 1⟩
def DRO_ALLOW_MERGE_LEAVES : Fld := ⟨0, 0x7, 0x1C, 0, 20⟩
def DRO_CTX_USED : Fld := ⟨0, 0x7, 0x20, 0, 8⟩
def DRO_AUTH_CFG_LINGER : Fld := ⟨0, 0x7, 0x24, 8, 8⟩
def DRO_AUTH_CFG_HOST_WAIT : Fld := ⟨0, 0x7, 0x24, 0, 7⟩
def DRO_RX_CFG_ENABLE : Fld := ⟨0, 0x7, 0x28, 31, 1⟩
def DRO_RX_CFG_VECTOR : Fld := ⟨0, 0x7, 0x28, 24, 4⟩
def DRO_RX_CFG_SIZE_LOG2 : Fld := ⟨0, 0x7, 0x28, 16, 4⟩
def DRO_RX_CFG_OWNER : Fld := ⟨0, 0x7, 0x28, 0, 2⟩
def DRO_RX_LOST : Fld := ⟨0, 0x7, 0x2C, 0, 32⟩
def DRO_RX_BASE_ADDR : Fld := ⟨0, 0x7, 0x30, 12, 52⟩
def DRO_RX_DB_ADDR : Fld := ⟨0, 0x7, 0x38, 6, 58⟩
def DRO_Sn_CFG_ENABLE (i : Nat) : Fld := ⟨0, 0x7, 0x1000 + 0x20 * i, 31, 1⟩
def DRO_Sn_CFG_PROTO_EN (i : Nat) : Fld := ⟨0, 0x7, 0x1000 + 0x20 * i, 24, 6⟩
def DRO_Sn_CFG_AUTH_MODE (i : Nat) : Fld := ⟨0, 0x7, 0x1000 + 0x20 * i, 20, 3⟩
def DRO_Sn_CFG_PAYMENT (i : Nat) : Fld := ⟨0, 0x7, 0x1000 + 0x20 * i, 18, 2⟩
def DRO_Sn_CFG_TLS_REQ (i : Nat) : Fld := ⟨0, 0x7, 0x1000 + 0x20 * i, 17, 1⟩
def DRO_Sn_CFG_TUNNEL_MODE (i : Nat) : Fld := ⟨0, 0x7, 0x1000 + 0x20 * i, 16, 1⟩
def DRO_Sn_SECC_CHAIN_LENGTH (i : Nat) : Fld := ⟨0, 0x7, 0x1004 + 0x20 * i, 19, 13⟩
def DRO_Sn_SECC_CHAIN_OFFSET (i : Nat) : Fld := ⟨0, 0x7, 0x1004 + 0x20 * i, 0, 17⟩
def DRO_Sn_SECC_KEY_TLS13 (i : Nat) : Fld := ⟨0, 0x7, 0x1008 + 0x20 * i, 8, 8⟩
def DRO_Sn_SECC_KEY_TLS12 (i : Nat) : Fld := ⟨0, 0x7, 0x1008 + 0x20 * i, 0, 8⟩
def DRO_Sn_HANDLE (i : Nat) : Fld := ⟨0, 0x7, 0x100C + 0x20 * i, 0, 32⟩
def DRO_Sn_STATE_MACHINE (i : Nat) : Fld := ⟨0, 0x7, 0x1010 + 0x20 * i, 16, 8⟩
def DRO_Sn_STATE_PROTOCOL (i : Nat) : Fld := ⟨0, 0x7, 0x1010 + 0x20 * i, 8, 3⟩
def DRO_Sn_STATE_CTX (i : Nat) : Fld := ⟨0, 0x7, 0x1010 + 0x20 * i, 0, 3⟩
def DRO_Sn_CNT_SESS (i : Nat) : Fld := ⟨0, 0x7, 0x1014 + 0x20 * i, 0, 32⟩
def DRO_Sn_CNT_FAIL (i : Nat) : Fld := ⟨0, 0x7, 0x1018 + 0x20 * i, 0, 32⟩
def HRN_LOCK : Fld := ⟨0, 0x8, 0x0, 0, 1⟩
def HRN_STATUS_CHOP_OVERLOAD : Fld := ⟨0, 0x8, 0x4, 6, 2⟩
def HRN_STATUS_VMOT_UV : Fld := ⟨0, 0x8, 0x4, 4, 2⟩
def HRN_STATUS_CFG_REFUSED : Fld := ⟨0, 0x8, 0x4, 3, 1⟩
def HRN_STATUS_TABLE_REJECT : Fld := ⟨0, 0x8, 0x4, 2, 1⟩
def HRN_STATUS_HOLD : Fld := ⟨0, 0x8, 0x4, 1, 1⟩
def HRN_STATUS_DEVICE_LATCH : Fld := ⟨0, 0x8, 0x4, 0, 1⟩
def HRN_COMMUTE_EPOCH : Fld := ⟨0, 0x8, 0x8, 0, 32⟩
def HRN_TRG_EPOCH : Fld := ⟨0, 0x8, 0xC, 0, 32⟩
def HRN_VMOTg_CFG0_OV_TRIP (i : Nat) : Fld := ⟨0, 0x8, 0x10 + 0x8 * i, 16, 10⟩
def HRN_VMOTg_CFG0_CHOP_ON (i : Nat) : Fld := ⟨0, 0x8, 0x10 + 0x8 * i, 0, 10⟩
def HRN_VMOTg_CFG1_CHOP_MAX_MS (i : Nat) : Fld := ⟨0, 0x8, 0x14 + 0x8 * i, 20, 12⟩
def HRN_VMOTg_CFG1_CHOP_HYST (i : Nat) : Fld := ⟨0, 0x8, 0x14 + 0x8 * i, 16, 4⟩
def HRN_VMOTg_CFG1_UV (i : Nat) : Fld := ⟨0, 0x8, 0x14 + 0x8 * i, 0, 10⟩
def HRN_VMOTg_MEAS_CHOP (i : Nat) : Fld := ⟨0, 0x8, 0x20 + 0x4 * i, 31, 1⟩
def HRN_VMOTg_MEAS_V (i : Nat) : Fld := ⟨0, 0x8, 0x20 + 0x4 * i, 0, 10⟩
def HRN_HBb_CFG_ENABLE (i : Nat) : Fld := ⟨0, 0x8, 0x1000 + 0x40 * i, 31, 1⟩
def HRN_HBb_CFG_SOURCE (i : Nat) : Fld := ⟨0, 0x8, 0x1000 + 0x40 * i, 28, 3⟩
def HRN_HBb_CFG_INPUT_SRC (i : Nat) : Fld := ⟨0, 0x8, 0x1000 + 0x40 * i, 27, 1⟩
def HRN_HBb_CFG_COMMUTE_SET (i : Nat) : Fld := ⟨0, 0x8, 0x1000 + 0x40 * i, 24, 3⟩
def HRN_HBb_CFG_PWM_KHZ (i : Nat) : Fld := ⟨0, 0x8, 0x1000 + 0x40 * i, 16, 8⟩
def HRN_HBb_CFG_HALL_FILT (i : Nat) : Fld := ⟨0, 0x8, 0x1000 + 0x40 * i, 12, 4⟩
def HRN_HBb_CFG_CLASS (i : Nat) : Fld := ⟨0, 0x8, 0x1000 + 0x40 * i, 11, 1⟩
def HRN_HBb_CFG_RAMP (i : Nat) : Fld := ⟨0, 0x8, 0x1000 + 0x40 * i, 0, 8⟩
def HRN_HDb_CFG_ENABLE (i : Nat) : Fld := ⟨0, 0x8, 0x1180 + 0x40 * i, 31, 1⟩
def HRN_HDb_CFG_SOURCE (i : Nat) : Fld := ⟨0, 0x8, 0x1180 + 0x40 * i, 28, 3⟩
def HRN_HDb_CFG_INPUT_SRC (i : Nat) : Fld := ⟨0, 0x8, 0x1180 + 0x40 * i, 27, 1⟩
def HRN_HDb_CFG_COMMUTE_SET (i : Nat) : Fld := ⟨0, 0x8, 0x1180 + 0x40 * i, 24, 3⟩
def HRN_HDb_CFG_PWM_KHZ (i : Nat) : Fld := ⟨0, 0x8, 0x1180 + 0x40 * i, 16, 8⟩
def HRN_HDb_CFG_HALL_FILT (i : Nat) : Fld := ⟨0, 0x8, 0x1180 + 0x40 * i, 12, 4⟩
def HRN_HDb_CFG_CLASS (i : Nat) : Fld := ⟨0, 0x8, 0x1180 + 0x40 * i, 11, 1⟩
def HRN_HDb_CFG_RAMP (i : Nat) : Fld := ⟨0, 0x8, 0x1180 + 0x40 * i, 0, 8⟩
def HRN_HBb_TIMING_DT (i : Nat) : Fld := ⟨0, 0x8, 0x1004 + 0x40 * i, 16, 9⟩
def HRN_HBb_TIMING_MIN_PULSE (i : Nat) : Fld := ⟨0, 0x8, 0x1004 + 0x40 * i, 0, 11⟩
def HRN_HBb_PROT_OC_V (i : Nat) : Fld := ⟨0, 0x8, 0x1008 + 0x40 * i, 24, 8⟩
def HRN_HBb_PROT_DESAT_V (i : Nat) : Fld := ⟨0, 0x8, 0x1008 + 0x40 * i, 16, 8⟩
def HRN_HBb_PROT_BLANK (i : Nat) : Fld := ⟨0, 0x8, 0x1008 + 0x40 * i, 12, 4⟩
def HRN_HBb_PROT_TWO_STEP_NS (i : Nat) : Fld := ⟨0, 0x8, 0x1008 + 0x40 * i, 0, 11⟩
def HRN_HBb_LIMIT_DUTY_CAP (i : Nat) : Fld := ⟨0, 0x8, 0x100C + 0x40 * i, 16, 14⟩
def HRN_HBb_LIMIT_STALL_MS (i : Nat) : Fld := ⟨0, 0x8, 0x100C + 0x40 * i, 0, 13⟩
def HRN_HBb_CMD_MODE (i : Nat) : Fld := ⟨0, 0x8, 0x1010 + 0x40 * i, 30, 2⟩
def HRN_HBb_CMD_DIRECTION (i : Nat) : Fld := ⟨0, 0x8, 0x1010 + 0x40 * i, 29, 1⟩
def HRN_HBb_CMD_DUTY (i : Nat) : Fld := ⟨0, 0x8, 0x1010 + 0x40 * i, 0, 14⟩
def HRN_HBb_CMD_VW_DUTY_W (i : Nat) : Fld := ⟨0, 0x8, 0x1014 + 0x40 * i, 16, 14⟩
def HRN_HBb_CMD_VW_DUTY_V (i : Nat) : Fld := ⟨0, 0x8, 0x1014 + 0x40 * i, 0, 14⟩
def HRN_HBb_STATE_PHASES (i : Nat) : Fld := ⟨0, 0x8, 0x1018 + 0x40 * i, 8, 3⟩
def HRN_HBb_STATE_RUNNING (i : Nat) : Fld := ⟨0, 0x8, 0x1018 + 0x40 * i, 6, 1⟩
def HRN_HBb_STATE_RAMPING (i : Nat) : Fld := ⟨0, 0x8, 0x1018 + 0x40 * i, 5, 1⟩
def HRN_HBb_STATE_HELD (i : Nat) : Fld := ⟨0, 0x8, 0x1018 + 0x40 * i, 4, 1⟩
def HRN_HBb_STATE_HALL (i : Nat) : Fld := ⟨0, 0x8, 0x1018 + 0x40 * i, 0, 3⟩
def HRN_HBb_SPEED (i : Nat) : Fld := ⟨0, 0x8, 0x101C + 0x40 * i, 0, 32⟩
def HRN_HBb_FAULT_SWITCH (i : Nat) : Fld := ⟨0, 0x8, 0x1020 + 0x40 * i, 8, 3⟩
def HRN_HBb_FAULT_VMOT_OV (i : Nat) : Fld := ⟨0, 0x8, 0x1020 + 0x40 * i, 7, 1⟩
def HRN_HBb_FAULT_ROTOR_STALL (i : Nat) : Fld := ⟨0, 0x8, 0x1020 + 0x40 * i, 6, 1⟩
def HRN_HBb_FAULT_HALL_INVALID (i : Nat) : Fld := ⟨0, 0x8, 0x1020 + 0x40 * i, 5, 1⟩
def HRN_HBb_FAULT_OC_PERSIST (i : Nat) : Fld := ⟨0, 0x8, 0x1020 + 0x40 * i, 4, 1⟩
def HRN_HBb_FAULT_DESAT (i : Nat) : Fld := ⟨0, 0x8, 0x1020 + 0x40 * i, 3, 1⟩
def HRN_HBb_FAULT_CHOP_OVERLOAD (i : Nat) : Fld := ⟨0, 0x8, 0x1020 + 0x40 * i, 2, 1⟩
def HRN_HBb_FAULT_BST_UV (i : Nat) : Fld := ⟨0, 0x8, 0x1020 + 0x40 * i, 1, 1⟩
def HRN_HBb_FAULT_LATCHED (i : Nat) : Fld := ⟨0, 0x8, 0x1020 + 0x40 * i, 0, 1⟩
def HRN_HBb_CNT_OC (i : Nat) : Fld := ⟨0, 0x8, 0x1024 + 0x40 * i, 0, 32⟩
def HRN_HBb_CNT_BOTHON (i : Nat) : Fld := ⟨0, 0x8, 0x1028 + 0x40 * i, 0, 32⟩
def HRN_Sn_COOL_CFG_ENTRY (i : Nat) : Fld := ⟨0, 0x8, 0x2000 + 0x10 * i, 0, 5⟩
def HRN_Sn_COOL_FLOOR_MODE (i : Nat) : Fld := ⟨0, 0x8, 0x2004 + 0x10 * i, 30, 2⟩
def HRN_Sn_COOL_FLOOR_PUMP (i : Nat) : Fld := ⟨0, 0x8, 0x2004 + 0x10 * i, 16, 10⟩
def HRN_Sn_COOL_FLOOR_VALVE (i : Nat) : Fld := ⟨0, 0x8, 0x2004 + 0x10 * i, 0, 8⟩
def HRN_Sn_COOL_STATE_FLOW_TARGET (i : Nat) : Fld := ⟨0, 0x8, 0x2008 + 0x10 * i, 16, 16⟩
def HRN_Sn_COOL_STATE_COOL_MISSING (i : Nat) : Fld := ⟨0, 0x8, 0x2008 + 0x10 * i, 15, 1⟩
def HRN_Sn_COOL_STATE_FLOW_LOW (i : Nat) : Fld := ⟨0, 0x8, 0x2008 + 0x10 * i, 14, 1⟩
def HRN_Sn_COOL_STATE_SENSOR_LOST (i : Nat) : Fld := ⟨0, 0x8, 0x2008 + 0x10 * i, 13, 1⟩
def HRN_Sn_COOL_STATE_PUMP (i : Nat) : Fld := ⟨0, 0x8, 0x2008 + 0x10 * i, 0, 10⟩
def HRN_Sn_COOL_VALVE_TRIM (i : Nat) : Fld := ⟨0, 0x8, 0x200C + 0x10 * i, 16, 8⟩
def HRN_Sn_COOL_VALVE_VALVE (i : Nat) : Fld := ⟨0, 0x8, 0x200C + 0x10 * i, 0, 8⟩
def AUX_LOCK : Fld := ⟨0, 0x9, 0x0, 0, 1⟩
def AUX_STATUS_HOLD : Fld := ⟨0, 0x9, 0x4, 5, 1⟩
def AUX_STATUS_CFG_REFUSED : Fld := ⟨0, 0x9, 0x4, 4, 1⟩
def AUX_STATUS_LATCHES : Fld := ⟨0, 0x9, 0x4, 0, 4⟩
def AUXn_CFG_ENABLE (i : Nat) : Fld := ⟨0, 0x9, 0x1000 + 0x40 * i, 31, 1⟩
def AUXn_CFG_RIPPLE (i : Nat) : Fld := ⟨0, 0x9, 0x1000 + 0x40 * i, 24, 4⟩
def AUXn_CFG_FSW (i : Nat) : Fld := ⟨0, 0x9, 0x1000 + 0x40 * i, 16, 8⟩
def AUXn_CFG_OFF_DELAY (i : Nat) : Fld := ⟨0, 0x9, 0x1000 + 0x40 * i, 8, 8⟩
def AUXn_DIV_RATIO (i : Nat) : Fld := ⟨0, 0x9, 0x1004 + 0x40 * i, 0, 16⟩
def AUXn_RATE_SLEW (i : Nat) : Fld := ⟨0, 0x9, 0x1008 + 0x40 * i, 16, 16⟩
def AUXn_RATE_SS_RATE (i : Nat) : Fld := ⟨0, 0x9, 0x1008 + 0x40 * i, 0, 16⟩
def AUXn_PROT_ILIM (i : Nat) : Fld := ⟨0, 0x9, 0x100C + 0x40 * i, 24, 8⟩
def AUXn_PROT_OV_BRAKE (i : Nat) : Fld := ⟨0, 0x9, 0x100C + 0x40 * i, 16, 8⟩
def AUXn_PROT_PG_PCT (i : Nat) : Fld := ⟨0, 0x9, 0x100C + 0x40 * i, 8, 8⟩
def AUXn_PROT_OV_TRIP (i : Nat) : Fld := ⟨0, 0x9, 0x100C + 0x40 * i, 0, 8⟩
def AUXn_BOOT_TARGET (i : Nat) : Fld := ⟨0, 0x9, 0x1010 + 0x40 * i, 0, 16⟩
def AUXn_TARGET_REF (i : Nat) : Fld := ⟨0, 0x9, 0x1014 + 0x40 * i, 16, 16⟩
def AUXn_TARGET_TARGET (i : Nat) : Fld := ⟨0, 0x9, 0x1014 + 0x40 * i, 0, 16⟩
def AUXn_MEAS_V_IN (i : Nat) : Fld := ⟨0, 0x9, 0x1018 + 0x40 * i, 16, 16⟩
def AUXn_MEAS_V_OUT (i : Nat) : Fld := ⟨0, 0x9, 0x1018 + 0x40 * i, 0, 16⟩
def AUXn_STATE_MODE (i : Nat) : Fld := ⟨0, 0x9, 0x101C + 0x40 * i, 30, 2⟩
def AUXn_STATE_PHASE (i : Nat) : Fld := ⟨0, 0x9, 0x101C + 0x40 * i, 8, 4⟩
def AUXn_STATE_VIN_UV (i : Nat) : Fld := ⟨0, 0x9, 0x101C + 0x40 * i, 4, 1⟩
def AUXn_STATE_BST_LOW (i : Nat) : Fld := ⟨0, 0x9, 0x101C + 0x40 * i, 3, 1⟩
def AUXn_STATE_PGOOD (i : Nat) : Fld := ⟨0, 0x9, 0x101C + 0x40 * i, 2, 1⟩
def AUXn_STATE_CLIMIT (i : Nat) : Fld := ⟨0, 0x9, 0x101C + 0x40 * i, 1, 1⟩
def AUXn_STATE_DROPOUT (i : Nat) : Fld := ⟨0, 0x9, 0x101C + 0x40 * i, 0, 1⟩
def AUXn_FAULT_SHORT (i : Nat) : Fld := ⟨0, 0x9, 0x1020 + 0x40 * i, 3, 1⟩
def AUXn_FAULT_OV (i : Nat) : Fld := ⟨0, 0x9, 0x1020 + 0x40 * i, 2, 1⟩
def AUXn_FAULT_HS_SHORT (i : Nat) : Fld := ⟨0, 0x9, 0x1020 + 0x40 * i, 1, 1⟩
def AUXn_FAULT_LATCHED (i : Nat) : Fld := ⟨0, 0x9, 0x1020 + 0x40 * i, 0, 1⟩
def AUXn_CNT_HICCUP (i : Nat) : Fld := ⟨0, 0x9, 0x1024 + 0x40 * i, 0, 32⟩
def LSW_LOCK : Fld := ⟨0, 0xA, 0x0, 0, 1⟩
def LSW_STATUS_HOLD : Fld := ⟨0, 0xA, 0x4, 1, 1⟩
def LSW_STATUS_CFG_REFUSED : Fld := ⟨0, 0xA, 0x4, 0, 1⟩
def LSW_Gg_STATE_GROUP_OT (i : Nat) : Fld := ⟨0, 0xA, 0x100 + 0x10 * i, 31, 1⟩
def LSW_Gg_STATE_HALTER_DROP (i : Nat) : Fld := ⟨0, 0xA, 0x100 + 0x10 * i, 30, 1⟩
def LSW_Gg_STATE_UV (i : Nat) : Fld := ⟨0, 0xA, 0x100 + 0x10 * i, 29, 1⟩
def LSW_Gg_STATE_DISTURBED (i : Nat) : Fld := ⟨0, 0xA, 0x100 + 0x10 * i, 28, 1⟩
def LSW_Gg_STATE_TEMP (i : Nat) : Fld := ⟨0, 0xA, 0x100 + 0x10 * i, 0, 16⟩
def LSW_Gg_MEAS_LSV (i : Nat) : Fld := ⟨0, 0xA, 0x104 + 0x10 * i, 0, 16⟩
def LSW_Cn_CFG_ENABLE (i : Nat) : Fld := ⟨0, 0xA, 0x1000 + 0x20 * i, 31, 1⟩
def LSW_Cn_CFG_SOURCE (i : Nat) : Fld := ⟨0, 0xA, 0x1000 + 0x20 * i, 30, 1⟩
def LSW_Cn_CFG_INVERT (i : Nat) : Fld := ⟨0, 0xA, 0x1000 + 0x20 * i, 29, 1⟩
def LSW_Cn_CFG_BOOT_ON (i : Nat) : Fld := ⟨0, 0xA, 0x1000 + 0x20 * i, 28, 1⟩
def LSW_Cn_CFG_INRUSH_MS (i : Nat) : Fld := ⟨0, 0xA, 0x1000 + 0x20 * i, 16, 10⟩
def LSW_Cn_LIMIT_IINRUSH (i : Nat) : Fld := ⟨0, 0xA, 0x1004 + 0x20 * i, 24, 8⟩
def LSW_Cn_LIMIT_ILATCH (i : Nat) : Fld := ⟨0, 0xA, 0x1004 + 0x20 * i, 16, 8⟩
def LSW_Cn_LIMIT_TLATCH (i : Nat) : Fld := ⟨0, 0xA, 0x1004 + 0x20 * i, 0, 16⟩
def LSW_Cn_OPEN_OPEN_MS (i : Nat) : Fld := ⟨0, 0xA, 0x1008 + 0x20 * i, 16, 16⟩
def LSW_Cn_OPEN_OPEN_MA (i : Nat) : Fld := ⟨0, 0xA, 0x1008 + 0x20 * i, 0, 16⟩
def LSW_Cn_STATE_CMD_ON (i : Nat) : Fld := ⟨0, 0xA, 0x100C + 0x20 * i, 31, 1⟩
def LSW_Cn_STATE_OUT_ON (i : Nat) : Fld := ⟨0, 0xA, 0x100C + 0x20 * i, 30, 1⟩
def LSW_Cn_STATE_INRUSH (i : Nat) : Fld := ⟨0, 0xA, 0x100C + 0x20 * i, 29, 1⟩
def LSW_Cn_STATE_CLAMP (i : Nat) : Fld := ⟨0, 0xA, 0x100C + 0x20 * i, 28, 1⟩
def LSW_Cn_STATE_LSIN (i : Nat) : Fld := ⟨0, 0xA, 0x100C + 0x20 * i, 27, 1⟩
def LSW_Cn_STATE_PIN_DUTY (i : Nat) : Fld := ⟨0, 0xA, 0x100C + 0x20 * i, 0, 14⟩
def LSW_Cn_CURRENT_DISTURB (i : Nat) : Fld := ⟨0, 0xA, 0x1010 + 0x20 * i, 31, 1⟩
def LSW_Cn_CURRENT_MEAN (i : Nat) : Fld := ⟨0, 0xA, 0x1010 + 0x20 * i, 16, 12⟩
def LSW_Cn_CURRENT_SAMPLE (i : Nat) : Fld := ⟨0, 0xA, 0x1010 + 0x20 * i, 0, 12⟩
def LSW_Cn_FAULT_SHORT_SUPPLY (i : Nat) : Fld := ⟨0, 0xA, 0x1014 + 0x20 * i, 6, 1⟩
def LSW_Cn_FAULT_OPEN_LOAD (i : Nat) : Fld := ⟨0, 0xA, 0x1014 + 0x20 * i, 5, 1⟩
def LSW_Cn_FAULT_GROUP_OT (i : Nat) : Fld := ⟨0, 0xA, 0x1014 + 0x20 * i, 4, 1⟩
def LSW_Cn_FAULT_OVERCURRENT (i : Nat) : Fld := ⟨0, 0xA, 0x1014 + 0x20 * i, 3, 1⟩
def LSW_Cn_FAULT_INRUSH (i : Nat) : Fld := ⟨0, 0xA, 0x1014 + 0x20 * i, 2, 1⟩
def LSW_Cn_FAULT_CLAMP (i : Nat) : Fld := ⟨0, 0xA, 0x1014 + 0x20 * i, 1, 1⟩
def LSW_Cn_FAULT_LATCHED (i : Nat) : Fld := ⟨0, 0xA, 0x1014 + 0x20 * i, 0, 1⟩
def LSW_Cn_CNT_CLAMPS (i : Nat) : Fld := ⟨0, 0xA, 0x1018 + 0x20 * i, 16, 16⟩
def LSW_Cn_CNT_LATCHES (i : Nat) : Fld := ⟨0, 0xA, 0x1018 + 0x20 * i, 0, 16⟩
def CAN_LOCK : Fld := ⟨0, 0xB, 0x0, 0, 1⟩
def CAN_STATUS_TABLE_REJECT : Fld := ⟨0, 0xB, 0x4, 2, 1⟩
def CAN_STATUS_RX_LOST : Fld := ⟨0, 0xB, 0x4, 1, 1⟩
def CAN_STATUS_CFG_REFUSED : Fld := ⟨0, 0xB, 0x4, 0, 1⟩
def CAN_FORMAT_EPOCH : Fld := ⟨0, 0xB, 0x8, 0, 32⟩
def CAN_RX_CFG_ENABLE : Fld := ⟨0, 0xB, 0xC, 31, 1⟩
def CAN_RX_CFG_VECTOR : Fld := ⟨0, 0xB, 0xC, 24, 4⟩
def CAN_RX_CFG_SIZE_LOG2 : Fld := ⟨0, 0xB, 0xC, 16, 4⟩
def CAN_RX_CFG_OWNER : Fld := ⟨0, 0xB, 0xC, 0, 2⟩
def CAN_RX_LOST : Fld := ⟨0, 0xB, 0x10, 0, 32⟩
def CAN_RX_BASE_ADDR : Fld := ⟨0, 0xB, 0x14, 12, 52⟩
def CAN_RX_DB_ADDR : Fld := ⟨0, 0xB, 0x1C, 6, 58⟩
def CAN_FILT_W0 (i : Nat) : Fld := ⟨0, 0xB, 0x8000 + 0x8 * i, 0, 32⟩
def CAN_FILT_W1 (i : Nat) : Fld := ⟨0, 0xB, 0x8004 + 0x8 * i, 0, 32⟩
def CAN_Cn_CTRL_BRS_EN (i : Nat) : Fld := ⟨0, 0xB, 0x1000 + 0x40 * i, 9, 1⟩
def CAN_Cn_CTRL_FD_EN (i : Nat) : Fld := ⟨0, 0xB, 0x1000 + 0x40 * i, 8, 1⟩
def CAN_Cn_CTRL_NOMATCH (i : Nat) : Fld := ⟨0, 0xB, 0x1000 + 0x40 * i, 4, 1⟩
def CAN_Cn_CTRL_MODE (i : Nat) : Fld := ⟨0, 0xB, 0x1000 + 0x40 * i, 0, 3⟩
def CAN_Cn_NBT_NSJW (i : Nat) : Fld := ⟨0, 0xB, 0x1004 + 0x40 * i, 25, 7⟩
def CAN_Cn_NBT_NTSEG1 (i : Nat) : Fld := ⟨0, 0xB, 0x1004 + 0x40 * i, 16, 9⟩
def CAN_Cn_NBT_NTSEG2 (i : Nat) : Fld := ⟨0, 0xB, 0x1004 + 0x40 * i, 9, 7⟩
def CAN_Cn_NBT_NBRP (i : Nat) : Fld := ⟨0, 0xB, 0x1004 + 0x40 * i, 0, 9⟩
def CAN_Cn_DBT_DSJW (i : Nat) : Fld := ⟨0, 0xB, 0x1008 + 0x40 * i, 24, 4⟩
def CAN_Cn_DBT_DTSEG1 (i : Nat) : Fld := ⟨0, 0xB, 0x1008 + 0x40 * i, 16, 5⟩
def CAN_Cn_DBT_DTSEG2 (i : Nat) : Fld := ⟨0, 0xB, 0x1008 + 0x40 * i, 8, 4⟩
def CAN_Cn_DBT_DBRP (i : Nat) : Fld := ⟨0, 0xB, 0x1008 + 0x40 * i, 0, 5⟩
def CAN_Cn_TDC_TDC_EN (i : Nat) : Fld := ⟨0, 0xB, 0x100C + 0x40 * i, 31, 1⟩
def CAN_Cn_TDC_TDCF (i : Nat) : Fld := ⟨0, 0xB, 0x100C + 0x40 * i, 16, 7⟩
def CAN_Cn_TDC_TDCO (i : Nat) : Fld := ⟨0, 0xB, 0x100C + 0x40 * i, 0, 7⟩
def CAN_Cn_RATE_TIMEOUT (i : Nat) : Fld := ⟨0, 0xB, 0x1010 + 0x40 * i, 16, 8⟩
def CAN_Cn_RATE_CANDIDATES (i : Nat) : Fld := ⟨0, 0xB, 0x1010 + 0x40 * i, 0, 9⟩
def CAN_Cn_RATE_RESULT_FOUND (i : Nat) : Fld := ⟨0, 0xB, 0x1014 + 0x40 * i, 31, 1⟩
def CAN_Cn_RATE_RESULT_CANDIDATE (i : Nat) : Fld := ⟨0, 0xB, 0x1014 + 0x40 * i, 0, 4⟩
def CAN_Cn_FILT_STD_COUNT (i : Nat) : Fld := ⟨0, 0xB, 0x1018 + 0x40 * i, 16, 10⟩
def CAN_Cn_FILT_STD_START (i : Nat) : Fld := ⟨0, 0xB, 0x1018 + 0x40 * i, 0, 9⟩
def CAN_Cn_FILT_EXT_COUNT (i : Nat) : Fld := ⟨0, 0xB, 0x101C + 0x40 * i, 16, 10⟩
def CAN_Cn_FILT_EXT_START (i : Nat) : Fld := ⟨0, 0xB, 0x101C + 0x40 * i, 0, 9⟩
def CAN_Cn_BUF_TX_DEPTH (i : Nat) : Fld := ⟨0, 0xB, 0x1020 + 0x40 * i, 16, 6⟩
def CAN_Cn_BUF_RX_DEPTH (i : Nat) : Fld := ⟨0, 0xB, 0x1020 + 0x40 * i, 0, 7⟩
def CAN_Cn_ERR_STATE (i : Nat) : Fld := ⟨0, 0xB, 0x1024 + 0x40 * i, 24, 3⟩
def CAN_Cn_ERR_TDC_RANGE (i : Nat) : Fld := ⟨0, 0xB, 0x1024 + 0x40 * i, 20, 1⟩
def CAN_Cn_ERR_REC (i : Nat) : Fld := ⟨0, 0xB, 0x1024 + 0x40 * i, 8, 8⟩
def CAN_Cn_ERR_TEC (i : Nat) : Fld := ⟨0, 0xB, 0x1024 + 0x40 * i, 0, 8⟩
def CAN_Cn_TDCV (i : Nat) : Fld := ⟨0, 0xB, 0x1028 + 0x40 * i, 0, 7⟩
def CAN_Cn_CNT_RX (i : Nat) : Fld := ⟨0, 0xB, 0x102C + 0x40 * i, 0, 32⟩
def CAN_Cn_CNT_TX (i : Nat) : Fld := ⟨0, 0xB, 0x1030 + 0x40 * i, 0, 32⟩
def CAN_Cn_CNT_ERR_BUS_OFF (i : Nat) : Fld := ⟨0, 0xB, 0x1034 + 0x40 * i, 16, 16⟩
def CAN_Cn_CNT_ERR_ERRORS (i : Nat) : Fld := ⟨0, 0xB, 0x1034 + 0x40 * i, 0, 16⟩
def CAN_Cn_CNT_LOST (i : Nat) : Fld := ⟨0, 0xB, 0x1038 + 0x40 * i, 0, 32⟩
def HLT_LOCK : Fld := ⟨0, 0xC, 0x0, 0, 1⟩
def HLT_STATUS_HALT_SAFE : Fld := ⟨0, 0xC, 0x4, 31, 1⟩
def HLT_STATUS_SELFTEST_OK : Fld := ⟨0, 0xC, 0x4, 30, 1⟩
def HLT_STATUS_AWAIT : Fld := ⟨0, 0xC, 0x4, 8, 4⟩
def HLT_STATUS_DISCREP : Fld := ⟨0, 0xC, 0x4, 4, 4⟩
def HLT_STATUS_OPEN : Fld := ⟨0, 0xC, 0x4, 0, 4⟩
def HLT_FAULT_CAUSE : Fld := ⟨0, 0xC, 0x8, 0, 8⟩
def HLT_SAFE_OUT_B_READ : Fld := ⟨0, 0xC, 0xC, 5, 1⟩
def HLT_SAFE_OUT_A_READ : Fld := ⟨0, 0xC, 0xC, 4, 1⟩
def HLT_SAFE_OUT_B_ON : Fld := ⟨0, 0xC, 0xC, 1, 1⟩
def HLT_SAFE_OUT_A_ON : Fld := ⟨0, 0xC, 0xC, 0, 1⟩
def HLT_PROOF_CFG_DAYS : Fld := ⟨0, 0xC, 0x10, 0, 10⟩
def HLT_PROOF_LAST : Fld := ⟨0, 0xC, 0x14, 0, 64⟩
def HLT_ESTOPk_CFG_MODE (i : Nat) : Fld := ⟨0, 0xC, 0x20 + 0x10 * i, 30, 2⟩
def HLT_ESTOPk_CFG_SAFE_OUT (i : Nat) : Fld := ⟨0, 0xC, 0x20 + 0x10 * i, 29, 1⟩
def HLT_ESTOPk_CFG_HARNESS (i : Nat) : Fld := ⟨0, 0xC, 0x20 + 0x10 * i, 28, 1⟩
def HLT_ESTOPk_CFG_LSW_GROUPS (i : Nat) : Fld := ⟨0, 0xC, 0x20 + 0x10 * i, 24, 4⟩
def HLT_ESTOPk_CFG_RESET_EN (i : Nat) : Fld := ⟨0, 0xC, 0x20 + 0x10 * i, 23, 1⟩
def HLT_ESTOPk_CFG_RESET_GPIO (i : Nat) : Fld := ⟨0, 0xC, 0x20 + 0x10 * i, 16, 5⟩
def HLT_ESTOPk_CFG_DISCREP_MS (i : Nat) : Fld := ⟨0, 0xC, 0x20 + 0x10 * i, 0, 10⟩
def HLT_ESTOPk_STALL0 (i : Nat) : Fld := ⟨0, 0xC, 0x24 + 0x10 * i, 0, 32⟩
def HLT_ESTOPk_STALL1 (i : Nat) : Fld := ⟨0, 0xC, 0x28 + 0x10 * i, 0, 16⟩
def HLT_ESTOPk_STATE_DISCREPANCY (i : Nat) : Fld := ⟨0, 0xC, 0x2C + 0x10 * i, 3, 1⟩
def HLT_ESTOPk_STATE_AWAIT_RESET (i : Nat) : Fld := ⟨0, 0xC, 0x2C + 0x10 * i, 2, 1⟩
def HLT_ESTOPk_STATE_B_CLOSED (i : Nat) : Fld := ⟨0, 0xC, 0x2C + 0x10 * i, 1, 1⟩
def HLT_ESTOPk_STATE_A_CLOSED (i : Nat) : Fld := ⟨0, 0xC, 0x2C + 0x10 * i, 0, 1⟩
def HLT_Sn_STATE_PERMIT (i : Nat) : Fld := ⟨0, 0xC, 0x1000 + 0x20 * i, 31, 1⟩
def HLT_Sn_STATE_STOP (i : Nat) : Fld := ⟨0, 0xC, 0x1000 + 0x20 * i, 30, 1⟩
def HLT_Sn_STATE_ORDERLY (i : Nat) : Fld := ⟨0, 0xC, 0x1000 + 0x20 * i, 29, 1⟩
def HLT_Sn_STATE_ESTOP (i : Nat) : Fld := ⟨0, 0xC, 0x1000 + 0x20 * i, 28, 1⟩
def HLT_Sn_STATE_CAUSE (i : Nat) : Fld := ⟨0, 0xC, 0x1000 + 0x20 * i, 16, 8⟩
def HLT_Sn_STATE_REFUSE (i : Nat) : Fld := ⟨0, 0xC, 0x1000 + 0x20 * i, 0, 12⟩
def HLT_Sn_CEIL_V (i : Nat) : Fld := ⟨0, 0xC, 0x1004 + 0x20 * i, 16, 16⟩
def HLT_Sn_CEIL_I (i : Nat) : Fld := ⟨0, 0xC, 0x1004 + 0x20 * i, 0, 16⟩
def HLT_Sn_PROFILE_SEAL (i : Nat) : Fld := ⟨0, 0xC, 0x1008 + 0x20 * i, 8, 8⟩
def HLT_Sn_PROFILE_PROFILE (i : Nat) : Fld := ⟨0, 0xC, 0x1008 + 0x20 * i, 0, 4⟩
def HLT_Sn_DEGRADE_PHASE_MODE (i : Nat) : Fld := ⟨0, 0xC, 0x100C + 0x20 * i, 31, 1⟩
def HLT_Sn_DEGRADE_SENSOR_MODE (i : Nat) : Fld := ⟨0, 0xC, 0x100C + 0x20 * i, 30, 1⟩
def HLT_Sn_DEGRADE_SENSOR_LEFT (i : Nat) : Fld := ⟨0, 0xC, 0x100C + 0x20 * i, 16, 14⟩
def HLT_Sn_DEGRADE_PHASE_LEFT (i : Nat) : Fld := ⟨0, 0xC, 0x100C + 0x20 * i, 0, 12⟩
def HLT_Sn_LATCH_WELD (i : Nat) : Fld := ⟨0, 0xC, 0x1010 + 0x20 * i, 3, 1⟩
def HLT_Sn_LATCH_LOCKOUT (i : Nat) : Fld := ⟨0, 0xC, 0x1010 + 0x20 * i, 2, 1⟩
def HLT_Sn_LATCH_EDGE_LATCH (i : Nat) : Fld := ⟨0, 0xC, 0x1010 + 0x20 * i, 1, 1⟩
def HLT_Sn_LATCH_BLOCKED (i : Nat) : Fld := ⟨0, 0xC, 0x1010 + 0x20 * i, 0, 1⟩
def HLT_Sn_CNT_STOP_EMERG (i : Nat) : Fld := ⟨0, 0xC, 0x1014 + 0x20 * i, 16, 16⟩
def HLT_Sn_CNT_STOP_ORDERLY (i : Nat) : Fld := ⟨0, 0xC, 0x1014 + 0x20 * i, 0, 16⟩
def TCK_LOCK : Fld := ⟨0, 0xD, 0x0, 0, 1⟩
def TCK_STATUS_SWITCH_PENDING : Fld := ⟨0, 0xD, 0x4, 5, 1⟩
def TCK_STATUS_LOG_REFUSED : Fld := ⟨0, 0xD, 0x4, 4, 1⟩
def TCK_STATUS_WINDOW_LOCKED : Fld := ⟨0, 0xD, 0x4, 3, 1⟩
def TCK_STATUS_WINDOW_OPEN : Fld := ⟨0, 0xD, 0x4, 2, 1⟩
def TCK_STATUS_FW_STAGED : Fld := ⟨0, 0xD, 0x4, 1, 1⟩
def TCK_STATUS_KEY_FAULT : Fld := ⟨0, 0xD, 0x4, 0, 1⟩
def TCK_LIFECYCLE_CYCLES : Fld := ⟨0, 0xD, 0x8, 16, 8⟩
def TCK_LIFECYCLE_COUNT : Fld := ⟨0, 0xD, 0x8, 8, 8⟩
def TCK_LIFECYCLE_STATE : Fld := ⟨0, 0xD, 0x8, 0, 3⟩
def TCK_EPOCH : Fld := ⟨0, 0xD, 0xC, 0, 32⟩
def TCK_STAGED : Fld := ⟨0, 0xD, 0x10, 0, 16⟩
def TCK_SWITCH_EPOCH : Fld := ⟨0, 0xD, 0x14, 0, 32⟩
def TCK_SWITCH_MS : Fld := ⟨0, 0xD, 0x18, 0, 32⟩
def TCK_WIN_STATE_OPEN : Fld := ⟨0, 0xD, 0x1C, 31, 1⟩
def TCK_WIN_STATE_OWNER : Fld := ⟨0, 0xD, 0x1C, 28, 2⟩
def TCK_WIN_STATE_LEFT : Fld := ⟨0, 0xD, 0x1C, 0, 12⟩
def TCK_WIN_NONCE : Fld := ⟨0, 0xD, 0x20, 0, 64⟩
def TCK_WIN_FAIL_LOCK_LEFT : Fld := ⟨0, 0xD, 0x28, 16, 10⟩
def TCK_WIN_FAIL_WRONG : Fld := ⟨0, 0xD, 0x28, 0, 3⟩
def TCK_LOG_SEQ : Fld := ⟨0, 0xD, 0x2C, 0, 64⟩
def TCK_SIG_QUEUE_HOST : Fld := ⟨0, 0xD, 0x34, 8, 8⟩
def TCK_SIG_QUEUE_RECORDS : Fld := ⟨0, 0xD, 0x34, 0, 8⟩
def TCK_RBi (i : Nat) : Fld := ⟨0, 0xD, 0x100 + 0x4 * i, 0, 32⟩
def TCK_SLOTs_INFO_TYPE (i : Nat) : Fld := ⟨0, 0xD, 0x200 + 0x8 * i, 28, 4⟩
def TCK_SLOTs_INFO_ROOT (i : Nat) : Fld := ⟨0, 0xD, 0x200 + 0x8 * i, 25, 3⟩
def TCK_SLOTs_INFO_USAGE (i : Nat) : Fld := ⟨0, 0xD, 0x200 + 0x8 * i, 16, 9⟩
def TCK_SLOTs_GEN (i : Nat) : Fld := ⟨0, 0xD, 0x204 + 0x8 * i, 0, 32⟩
def HAY_LOCK : Fld := ⟨0, 0xE, 0x0, 0, 1⟩
def HAY_STATUS_FINAL_OK : Fld := ⟨0, 0xE, 0x4, 6, 1⟩
def HAY_STATUS_NAND_HELD : Fld := ⟨0, 0xE, 0x4, 5, 1⟩
def HAY_STATUS_NO_SPARE : Fld := ⟨0, 0xE, 0x4, 4, 1⟩
def HAY_STATUS_CAL_VALID : Fld := ⟨0, 0xE, 0x4, 3, 1⟩
def HAY_STATUS_STORE_FAIL : Fld := ⟨0, 0xE, 0x4, 2, 1⟩
def HAY_STATUS_UNCORR : Fld := ⟨0, 0xE, 0x4, 1, 1⟩
def HAY_STATUS_REFUSED : Fld := ⟨0, 0xE, 0x4, 0, 1⟩
def HAY_CFG_SCRUB_DAYS : Fld := ⟨0, 0xE, 0x8, 16, 5⟩
def HAY_CFG_MIN_SEVERITY : Fld := ⟨0, 0xE, 0x8, 0, 3⟩
def HAY_HOLDUP_CFG_CAL_S : Fld := ⟨0, 0xE, 0xC, 0, 12⟩
def HAY_HOLDUP_C : Fld := ⟨0, 0xE, 0x10, 0, 20⟩
def HAY_HOLDUP_E_VHOLD : Fld := ⟨0, 0xE, 0x14, 16, 16⟩
def HAY_HOLDUP_E_E : Fld := ⟨0, 0xE, 0x14, 0, 16⟩
def HAY_HOLDUP_NEED : Fld := ⟨0, 0xE, 0x18, 0, 16⟩
def HAY_CNT_REFUSED_C12 : Fld := ⟨0, 0xE, 0x1C, 16, 16⟩
def HAY_CNT_REFUSED_C34 : Fld := ⟨0, 0xE, 0x1C, 0, 16⟩
def HAY_FILL_CHANGELOG : Fld := ⟨0, 0xE, 0x20, 16, 10⟩
def HAY_FILL_HOST : Fld := ⟨0, 0xE, 0x20, 0, 10⟩
def HAY_SPARE_NOW : Fld := ⟨0, 0xE, 0x24, 16, 16⟩
def HAY_SPARE_INITIAL : Fld := ⟨0, 0xE, 0x24, 0, 16⟩
def HAY_BAD_GROWN : Fld := ⟨0, 0xE, 0x28, 16, 16⟩
def HAY_BAD_FACTORY : Fld := ⟨0, 0xE, 0x28, 0, 16⟩
def HAY_WEAR_HIGHEST : Fld := ⟨0, 0xE, 0x2C, 16, 16⟩
def HAY_WEAR_MEAN : Fld := ⟨0, 0xE, 0x2C, 0, 16⟩
def HAY_ECC_MOST : Fld := ⟨0, 0xE, 0x30, 16, 8⟩
def HAY_ECC_REFRESHED : Fld := ⟨0, 0xE, 0x30, 0, 16⟩
def HAY_CNT_UNCORR_LOST : Fld := ⟨0, 0xE, 0x34, 16, 16⟩
def HAY_CNT_UNCORR_RECOVERED : Fld := ⟨0, 0xE, 0x34, 0, 16⟩
def HAY_LOG_SEQ : Fld := ⟨0, 0xE, 0x38, 0, 64⟩
def HAY_CL_MARK : Fld := ⟨0, 0xE, 0x40, 0, 64⟩
def HAY_QUEUE_HOST : Fld := ⟨0, 0xE, 0x48, 8, 8⟩
def HAY_QUEUE_NAND : Fld := ⟨0, 0xE, 0x48, 0, 8⟩
def PWR_LOCK : Fld := ⟨0, 0xF, 0x0, 0, 1⟩
def PWR_STATE_SUPPLY : Fld := ⟨0, 0xF, 0x4, 8, 2⟩
def PWR_STATE_STATE : Fld := ⟨0, 0xF, 0x4, 0, 3⟩
def PWR_DOMAINS : Fld := ⟨0, 0xF, 0x8, 0, 16⟩
def PWR_SUPPLY_CFG_WARN : Fld := ⟨0, 0xF, 0xC, 16, 8⟩
def PWR_SUPPLY_CFG_COMMIT : Fld := ⟨0, 0xF, 0xC, 8, 8⟩
def PWR_SUPPLY_CFG_RESET : Fld := ⟨0, 0xF, 0xC, 0, 8⟩
def PWR_VAUX_MEAS_VAUX : Fld := ⟨0, 0xF, 0x10, 16, 16⟩
def PWR_VAUX_MEAS_LOWEST : Fld := ⟨0, 0xF, 0x10, 0, 16⟩
def PWR_VCORE_MEAS : Fld := ⟨0, 0xF, 0x14, 0, 16⟩
def PWR_VIO_MEAS_VIO33 : Fld := ⟨0, 0xF, 0x18, 16, 16⟩
def PWR_VIO_MEAS_VIO18 : Fld := ⟨0, 0xF, 0x18, 0, 16⟩
def PWR_VBAT_MEAS : Fld := ⟨0, 0xF, 0x1C, 0, 16⟩
def PWR_HK_CFG_ROUND_MS : Fld := ⟨0, 0xF, 0x20, 0, 9⟩
def PWR_HOLD_CFG_HOLD_S : Fld := ⟨0, 0xF, 0x24, 0, 6⟩
def PWR_HOLD_STATE_HOLD : Fld := ⟨0, 0xF, 0x28, 31, 1⟩
def PWR_HOLD_STATE_MS : Fld := ⟨0, 0xF, 0x28, 0, 16⟩
def PWR_WAKE_CFG_RISING : Fld := ⟨0, 0xF, 0x2C, 5, 1⟩
def PWR_WAKE_CFG_TAMPER : Fld := ⟨0, 0xF, 0x2C, 4, 1⟩
def PWR_WAKE_CFG_LINK : Fld := ⟨0, 0xF, 0x2C, 3, 1⟩
def PWR_WAKE_CFG_GPIO : Fld := ⟨0, 0xF, 0x2C, 2, 1⟩
def PWR_WAKE_CFG_TIMER : Fld := ⟨0, 0xF, 0x2C, 1, 1⟩
def PWR_WAKE_CFG_HOST : Fld := ⟨0, 0xF, 0x2C, 0, 1⟩
def PWR_WAKE_GPIO : Fld := ⟨0, 0xF, 0x30, 0, 32⟩
def PWR_WAKE_NOW : Fld := ⟨0, 0xF, 0x34, 0, 1⟩
def PWR_WAKE_CAUSE_REPLAYED : Fld := ⟨0, 0xF, 0x38, 8, 1⟩
def PWR_WAKE_CAUSE_SOURCE : Fld := ⟨0, 0xF, 0x38, 0, 3⟩
def PWR_RESET_CAUSE_DETAIL : Fld := ⟨0, 0xF, 0x3C, 8, 8⟩
def PWR_RESET_CAUSE_CAUSE : Fld := ⟨0, 0xF, 0x3C, 0, 8⟩
def PWR_REFUSE_CNT0_STALL_ACTIVE : Fld := ⟨0, 0xF, 0x40, 16, 16⟩
def PWR_REFUSE_CNT0_HAYLOFT_STORE : Fld := ⟨0, 0xF, 0x40, 0, 16⟩
def PWR_REFUSE_CNT1_LANE_HANDOVER : Fld := ⟨0, 0xF, 0x44, 16, 16⟩
def PWR_REFUSE_CNT1_PADDOCK_BUSY : Fld := ⟨0, 0xF, 0x44, 0, 16⟩
def PWR_REFUSE_CNT2_HALTER_NOT_SAFE : Fld := ⟨0, 0xF, 0x48, 16, 16⟩
def PWR_REFUSE_CNT2_TABLE_SWITCH : Fld := ⟨0, 0xF, 0x48, 0, 16⟩
def PWR_REFUSE_LAST_CODE : Fld := ⟨0, 0xF, 0x4C, 8, 8⟩
def PWR_REFUSE_LAST_WHO : Fld := ⟨0, 0xF, 0x4C, 0, 8⟩
def PWR_THR_DIE_TJ_THROTTLE : Fld := ⟨0, 0xF, 0x50, 16, 8⟩
def PWR_THR_DIE_DIE_HYST : Fld := ⟨0, 0xF, 0x50, 8, 8⟩
def PWR_THR_DIE_DEV_PCT : Fld := ⟨0, 0xF, 0x50, 0, 8⟩
def PWR_THR_CABLE_CABLE_THR : Fld := ⟨0, 0xF, 0x54, 16, 12⟩
def PWR_THR_CABLE_CONN_THR : Fld := ⟨0, 0xF, 0x54, 0, 12⟩
def PWR_THR_COOLANT_COOL_THR : Fld := ⟨0, 0xF, 0x58, 16, 12⟩
def PWR_THR_COOLANT_STALL_HYST : Fld := ⟨0, 0xF, 0x58, 8, 8⟩
def PWR_THR_COOLANT_STALL_PCT : Fld := ⟨0, 0xF, 0x58, 0, 8⟩
def PWR_DIE_TEMP_HOTTEST : Fld := ⟨0, 0xF, 0x5C, 16, 16⟩
def PWR_DIE_TEMP_SENSOR : Fld := ⟨0, 0xF, 0x5C, 0, 3⟩
def PWR_DIE_MAX : Fld := ⟨0, 0xF, 0x60, 0, 32⟩
def PWR_SHDN_COUNT : Fld := ⟨0, 0xF, 0x64, 0, 16⟩
def PWR_TJi (i : Nat) : Fld := ⟨0, 0xF, 0x80 + 0x4 * i, 0, 16⟩
def CVU_LOCK : Fld := ⟨0, 0x10, 0x0, 0, 1⟩
def CVU_STATUS_CFG_REFUSED : Fld := ⟨0, 0x10, 0x4, 8, 1⟩
def CVU_STATUS_MISMATCH : Fld := ⟨0, 0x10, 0x4, 0, 8⟩
def CVU_Un_CFG_IRQ_MISMATCH (i : Nat) : Fld := ⟨0, 0x10, 0x1000 + 0x20 * i, 31, 1⟩
def CVU_Un_CFG_REFOUT (i : Nat) : Fld := ⟨0, 0x10, 0x1000 + 0x20 * i, 30, 1⟩
def CVU_Un_CFG_REFIN (i : Nat) : Fld := ⟨0, 0x10, 0x1000 + 0x20 * i, 29, 1⟩
def CVU_Un_CFG_WIDTH (i : Nat) : Fld := ⟨0, 0x10, 0x1000 + 0x20 * i, 24, 5⟩
def CVU_Un_POLY (i : Nat) : Fld := ⟨0, 0x10, 0x1004 + 0x20 * i, 0, 32⟩
def CVU_Un_INIT (i : Nat) : Fld := ⟨0, 0x10, 0x1008 + 0x20 * i, 0, 32⟩
def CVU_Un_XOROUT (i : Nat) : Fld := ⟨0, 0x10, 0x100C + 0x20 * i, 0, 32⟩
def CVU_Un_CHECK (i : Nat) : Fld := ⟨0, 0x10, 0x1010 + 0x20 * i, 0, 32⟩
def CVU_Un_ALIVE_CFG_SYNC_COUNT (i : Nat) : Fld := ⟨0, 0x10, 0x1014 + 0x20 * i, 16, 4⟩
def CVU_Un_ALIVE_CFG_MAX_DELTA (i : Nat) : Fld := ⟨0, 0x10, 0x1014 + 0x20 * i, 8, 8⟩
def CVU_Un_ALIVE_CFG_CNT_BITS (i : Nat) : Fld := ⟨0, 0x10, 0x1014 + 0x20 * i, 0, 5⟩
def CVU_Un_ALIVE_STATE_STATE (i : Nat) : Fld := ⟨0, 0x10, 0x1018 + 0x20 * i, 24, 2⟩
def CVU_Un_ALIVE_STATE_N (i : Nat) : Fld := ⟨0, 0x10, 0x1018 + 0x20 * i, 16, 4⟩
def CVU_Un_ALIVE_STATE_REF (i : Nat) : Fld := ⟨0, 0x10, 0x1018 + 0x20 * i, 0, 16⟩
def CVU_Un_RUNNING (i : Nat) : Fld := ⟨0, 0x10, 0x101C + 0x20 * i, 0, 32⟩

end F

end Sys2Proof.Machine
end

