-- ==== Sys2Proof/Machine/RegTable.lean ====
section
/-!
DEFINITION. The register map: one row per register (or per family of registers with a stride), transcribed from the
register tables and field maps of the spec's chapters (R89, R148, R188, R224, R262, R308, R344, R377, R401, R430, R473,
R474, R508, R531, R560, R576): offset, access code (R12), reset value, retention class (R13, R555) and the values R609 allows.
A class K register whose table says Stored, Record, Table or Kept holds 0 as shipped (notes/assumptions/3.md).
-/
namespace Sys2Proof.Machine

/-- Access codes (R12). RWS is used by no register (R584). -/
inductive Access where
  | ro | rw | rw1c | wo | rwl | rwp
  deriving DecidableEq, Repr

/-- Retention classes (R13, R555); `dp` is the class "D, P"; `n` marks a write-only register that holds nothing. -/
inductive Retention where
  | k | h | d | e | l | p | dp | a | n
  deriving DecidableEq, Repr

/-- The values R609 allows in a field. -/
inductive Allowed where
  | any
  | range (lo hi stp : Nat)
  | oneOf (l : List Nat)
  deriving DecidableEq, Repr

/-- Is `v` allowed (R609)? -/
def Allowed.ok : Allowed → Nat → Bool
  | .any, _ => true
  | .range lo hi stp, v => decide (lo ≤ v) && decide (v ≤ hi) && decide ((v - lo) % stp = 0)
  | .oneOf l, v => l.contains v

/-- One field of a register: lowest bit, width, reset value, access, retention, allowed values. -/
structure FieldRow where
  lo : Nat
  w : Nat
  reset : Nat
  acc : Access
  ret : Retention
  ok : Allowed
  deriving DecidableEq, Repr

/-- One register, or `n` of them at a stride. `hi` is the offset of the `_HI` partner of a wide value (R585). -/
structure RegRow where
  off : Nat
  hi : Option Nat
  stride : Nat
  n : Nat
  fields : List FieldRow
  deriving DecidableEq, Repr

/-- Registers of the GLB window (R576/R474). -/
def regRowsGLB : List RegRow := [
  -- GLB_DEVICE_ID
  { off := 0x0, hi := none, stride := 0, n := 1, fields := [⟨16, 16, 0xe548, .ro, .k, .any⟩, ⟨8, 8, 1, .ro, .k, .any⟩, ⟨0, 8, 0, .ro, .k, .any⟩] },
  -- GLB_VARIANT
  { off := 0x4, hi := none, stride := 0, n := 1, fields := [⟨24, 8, 0, .ro, .k, .any⟩, ⟨20, 4, 1, .ro, .k, .any⟩, ⟨8, 8, 0x80, .ro, .k, .any⟩, ⟨0, 6, 0x30, .ro, .k, .any⟩] },
  -- GLB_SERIAL
  { off := 0x8, hi := some 0xC, stride := 0, n := 1, fields := [⟨0, 64, 0, .ro, .k, .any⟩] },
  -- GLB_BASE_MAC
  { off := 0x10, hi := some 0x14, stride := 0, n := 1, fields := [⟨0, 48, 0, .ro, .k, .any⟩] },
  -- GLB_FW_VER_A
  { off := 0x18, hi := none, stride := 0, n := 1, fields := [⟨0, 32, 0, .ro, .d, .any⟩] },
  -- GLB_FW_VER_B
  { off := 0x1C, hi := none, stride := 0, n := 1, fields := [⟨0, 32, 0, .ro, .d, .any⟩] },
  -- GLB_BOOT_STATUS
  { off := 0x20, hi := none, stride := 0, n := 1, fields := [⟨24, 8, 0, .ro, .d, .any⟩, ⟨20, 4, 0, .ro, .d, .any⟩, ⟨19, 1, 0, .ro, .d, .any⟩, ⟨18, 1, 0, .ro, .d, .any⟩, ⟨0, 16, 0, .ro, .d, .any⟩] },
  -- GLB_BOOT_COUNT
  { off := 0x24, hi := none, stride := 0, n := 1, fields := [⟨0, 32, 0, .ro, .k, .any⟩] },
  -- GLB_CHRONO
  { off := 0x28, hi := some 0x2C, stride := 0, n := 1, fields := [⟨0, 64, 0, .ro, .n, .any⟩] },
  -- GLB_OFFDOM_STATUS
  { off := 0x30, hi := none, stride := 0, n := 1, fields := [⟨31, 1, 0, .rw1c, .d, .any⟩, ⟨30, 1, 0, .ro, .d, .any⟩, ⟨28, 2, 0, .ro, .d, .any⟩, ⟨27, 1, 0, .ro, .d, .any⟩, ⟨0, 21, 0, .ro, .d, .any⟩] },
  -- GLB_ATTN
  { off := 0x34, hi := none, stride := 0, n := 1, fields := [⟨0, 17, 0, .ro, .d, .any⟩] },
  -- GLB_LOCK
  { off := 0x40, hi := none, stride := 0, n := 1, fields := [⟨0, 1, 0, .rw, .d, .any⟩] },
  -- GLB_LOCK_MAP
  { off := 0x44, hi := none, stride := 0, n := 1, fields := [⟨0, 17, 0, .ro, .d, .any⟩] },
  -- GLB_LOCK_ALL
  { off := 0x48, hi := none, stride := 0, n := 1, fields := [⟨0, 1, 0, .wo, .n, .any⟩] },
  -- GLB_PPS_CFG
  { off := 0x50, hi := none, stride := 0, n := 1, fields := [⟨31, 1, 0, .rw, .k, .any⟩, ⟨30, 1, 0, .rw, .k, .any⟩, ⟨0, 8, 0x32, .rw, .k, (.range 1 50 1)⟩] },
  -- GLB_PPS_STATUS
  { off := 0x54, hi := none, stride := 0, n := 1, fields := [⟨31, 1, 0, .ro, .d, .any⟩, ⟨30, 1, 0, .ro, .d, .any⟩, ⟨0, 24, 0, .ro, .d, .any⟩] },
  -- GLB_GPIO_DIR
  { off := 0x60, hi := none, stride := 0, n := 1, fields := [⟨0, 32, 0, .rwl, .h, .any⟩] },
  -- GLB_GPIO_OUT
  { off := 0x64, hi := none, stride := 0, n := 1, fields := [⟨0, 32, 0, .rw, .h, .any⟩] },
  -- GLB_GPIO_SET
  { off := 0x68, hi := none, stride := 0, n := 1, fields := [⟨0, 32, 0, .wo, .n, .any⟩] },
  -- GLB_GPIO_CLR
  { off := 0x6C, hi := none, stride := 0, n := 1, fields := [⟨0, 32, 0, .wo, .n, .any⟩] },
  -- GLB_GPIO_IN
  { off := 0x70, hi := none, stride := 0, n := 1, fields := [⟨0, 32, 0, .ro, .d, .any⟩] },
  -- GLB_GPIO_CLAIM
  { off := 0x74, hi := none, stride := 0, n := 1, fields := [⟨0, 32, 0, .ro, .d, .any⟩] },
  -- GLB_LANE_STATUS
  { off := 0x400, hi := none, stride := 0, n := 1, fields := [⟨31, 1, 0, .ro, .d, .any⟩, ⟨30, 1, 0, .ro, .d, .any⟩, ⟨29, 1, 0, .ro, .d, .any⟩, ⟨20, 3, 0, .ro, .d, .any⟩, ⟨16, 3, 0, .ro, .d, .any⟩, ⟨8, 1, 0, .ro, .d, .any⟩, ⟨0, 8, 0, .ro, .d, .any⟩] },
  -- GLB_LANE_CTRL
  { off := 0x404, hi := none, stride := 0, n := 1, fields := [⟨8, 1, 0, .wo, .n, .any⟩, ⟨7, 1, 0, .wo, .n, .any⟩, ⟨1, 1, 0, .wo, .n, .any⟩, ⟨0, 1, 0, .wo, .n, .any⟩] },
  -- GLB_REVERT_CFG
  { off := 0x408, hi := none, stride := 0, n := 1, fields := [⟨0, 10, 0x3c, .rwp, .k, (.range 10 600 1)⟩] },
  -- GLB_REVERT_REMAIN
  { off := 0x40C, hi := none, stride := 0, n := 1, fields := [⟨0, 32, 0, .ro, .d, .any⟩] },
  -- GLB_NOSTBY_TIME
  { off := 0x410, hi := none, stride := 0, n := 1, fields := [⟨0, 32, 0, .ro, .k, .any⟩] },
  -- GLB_LANE_CNT
  { off := 0x414, hi := none, stride := 0, n := 1, fields := [⟨16, 16, 0, .ro, .k, .any⟩, ⟨0, 16, 0, .ro, .k, .any⟩] },
  -- GLB_LANE_LOSS
  { off := 0x418, hi := none, stride := 0, n := 1, fields := [⟨8, 8, 0, .ro, .k, .any⟩, ⟨0, 8, 0, .ro, .k, .any⟩] },
  -- GLB_FW_STATE
  { off := 0x41C, hi := none, stride := 0, n := 1, fields := [⟨24, 3, 0, .ro, .d, .any⟩, ⟨1, 1, 0, .ro, .d, .any⟩, ⟨0, 1, 0, .ro, .d, .any⟩] },
  -- GLB_TETHER_SLACK_MIN
  { off := 0x420, hi := none, stride := 0, n := 1, fields := [⟨0, 32, 0x7fffffff, .ro, .d, .any⟩] } ]

/-- Registers of the PDK window (R89). -/
def regRowsPDK : List RegRow := [
  -- PDK_ID
  { off := 0x10000, hi := none, stride := 0, n := 1, fields := [⟨0, 2, 0, .ro, .k, .any⟩] },
  -- PDK_RIGHTS
  { off := 0x10004, hi := none, stride := 0, n := 1, fields := [⟨4, 1, 0, .ro, .k, .any⟩, ⟨3, 1, 0, .ro, .k, .any⟩, ⟨2, 1, 0, .ro, .k, .any⟩, ⟨1, 1, 0, .ro, .k, .any⟩, ⟨0, 1, 0, .ro, .k, .any⟩] },
  -- PDK_STATUS
  { off := 0x10008, hi := none, stride := 0, n := 1, fields := [⟨3, 1, 0, .rw1c, .dp, .any⟩, ⟨2, 1, 0, .rw1c, .dp, .any⟩, ⟨1, 1, 0, .rw1c, .dp, .any⟩, ⟨0, 1, 0, .rw1c, .dp, .any⟩] },
  -- PDK_DB_POLL
  { off := 0x1000C, hi := none, stride := 0, n := 1, fields := [⟨0, 8, 4, .rw, .dp, (.range 1 200 1)⟩] },
  -- PDK_NUDGE
  { off := 0x10010, hi := none, stride := 0, n := 1, fields := [⟨8, 5, 0, .wo, .n, .any⟩, ⟨0, 8, 0, .wo, .n, .any⟩] },
  -- PDK_INFLIGHT
  { off := 0x10014, hi := none, stride := 0, n := 1, fields := [⟨16, 7, 0, .ro, .dp, .any⟩, ⟨0, 7, 0, .ro, .dp, .any⟩] },
  -- PDK_EVT_BLOCK_MASK
  { off := 0x10018, hi := none, stride := 0, n := 1, fields := [⟨0, 17, 0x1ffff, .rw, .dp, .any⟩] },
  -- PDK_EVT_CFG
  { off := 0x1001C, hi := none, stride := 0, n := 1, fields := [⟨0, 3, 0, .rw, .dp, .any⟩] },
  -- PDK_EVT_LOST
  { off := 0x10020, hi := none, stride := 0, n := 1, fields := [⟨0, 32, 0, .ro, .dp, .any⟩] },
  -- PDK_DENY_STATUS
  { off := 0x10024, hi := none, stride := 0, n := 1, fields := [⟨31, 1, 0, .rw1c, .dp, .any⟩, ⟨0, 21, 0, .ro, .dp, .any⟩] },
  -- PDK_RING_ERR
  { off := 0x10028, hi := none, stride := 0, n := 1, fields := [⟨3, 13, 0, .rw1c, .dp, .any⟩, ⟨2, 1, 0, .rw1c, .dp, .any⟩, ⟨1, 1, 0, .rw1c, .dp, .any⟩, ⟨0, 1, 0, .rw1c, .dp, .any⟩] },
  -- PDK_SQi_BASE
  { off := 0x10100, hi := some 0x10104, stride := 32, n := 8, fields := [⟨12, 52, 0, .rw, .dp, .any⟩] },
  -- PDK_SQi_DB
  { off := 0x10108, hi := some 0x1010C, stride := 32, n := 8, fields := [⟨6, 58, 0, .rw, .dp, .any⟩] },
  -- PDK_SQi_CFG
  { off := 0x10110, hi := none, stride := 32, n := 8, fields := [⟨31, 1, 0, .rw, .dp, .any⟩, ⟨16, 2, 0, .rw, .dp, .any⟩, ⟨12, 4, 0, .rw, .dp, .any⟩] },
  -- PDK_SQi_CONS
  { off := 0x10114, hi := none, stride := 32, n := 8, fields := [⟨0, 32, 0, .ro, .dp, .any⟩] },
  -- PDK_CQj_BASE
  { off := 0x10200, hi := some 0x10204, stride := 32, n := 4, fields := [⟨12, 52, 0, .rw, .dp, .any⟩] },
  -- PDK_CQj_DB
  { off := 0x10208, hi := some 0x1020C, stride := 32, n := 4, fields := [⟨6, 58, 0, .rw, .dp, .any⟩] },
  -- PDK_CQj_CFG
  { off := 0x10210, hi := none, stride := 32, n := 4, fields := [⟨31, 1, 0, .rw, .dp, .any⟩, ⟨24, 4, 0, .rw, .dp, (.range 0 14 1)⟩, ⟨16, 8, 0, .rw, .dp, .any⟩, ⟨12, 4, 0, .rw, .dp, .any⟩, ⟨0, 8, 0, .rw, .dp, .any⟩] },
  -- PDK_CQj_PROD
  { off := 0x10214, hi := none, stride := 32, n := 4, fields := [⟨0, 32, 0, .ro, .dp, .any⟩] },
  -- PDK_EQ_BASE
  { off := 0x10280, hi := some 0x10284, stride := 0, n := 1, fields := [⟨12, 52, 0, .rw, .dp, .any⟩] },
  -- PDK_EQ_DB
  { off := 0x10288, hi := some 0x1028C, stride := 0, n := 1, fields := [⟨6, 58, 0, .rw, .dp, .any⟩] },
  -- PDK_EQ_CFG
  { off := 0x10290, hi := none, stride := 0, n := 1, fields := [⟨31, 1, 0, .rw, .dp, .any⟩, ⟨24, 4, 0, .rw, .dp, (.range 0 14 1)⟩, ⟨16, 8, 0, .rw, .dp, .any⟩, ⟨12, 4, 0, .rw, .dp, .any⟩, ⟨0, 8, 0, .rw, .dp, .any⟩] },
  -- PDK_EQ_PROD
  { off := 0x10294, hi := none, stride := 0, n := 1, fields := [⟨0, 32, 0, .ro, .dp, .any⟩] },
  -- PDK_MSIX_ADDR_LO
  { off := 0x18000, hi := none, stride := 16, n := 16, fields := [⟨0, 32, 0, .rw, .p, .any⟩] },
  -- PDK_MSIX_ADDR_HI
  { off := 0x18004, hi := none, stride := 16, n := 16, fields := [⟨0, 32, 0, .rw, .p, .any⟩] },
  -- PDK_MSIX_DATA
  { off := 0x18008, hi := none, stride := 16, n := 16, fields := [⟨0, 32, 0, .rw, .p, .any⟩] },
  -- PDK_MSIX_CTRL
  { off := 0x1800C, hi := none, stride := 16, n := 16, fields := [⟨0, 32, 0, .rw, .p, .any⟩] },
  -- PDK_MSIX_PBA
  { off := 0x19000, hi := none, stride := 0, n := 1, fields := [⟨0, 16, 0, .ro, .p, .any⟩] } ]

/-- Registers of the SLK window (R148). -/
def regRowsSLK : List RegRow := [
  -- SLK_PRESENT
  { off := 0x20000, hi := none, stride := 0, n := 1, fields := [⟨0, 6, 0x30, .ro, .k, .any⟩] },
  -- SLK_LOCK
  { off := 0x20004, hi := none, stride := 0, n := 1, fields := [⟨0, 1, 0, .rw, .d, .any⟩] },
  -- SLK_REKEY_CFG
  { off := 0x20008, hi := none, stride := 0, n := 1, fields := [⟨0, 8, 0x18, .rwl, .d, (.range 1 168 1)⟩] },
  -- SLK_RUN_MAP0
  { off := 0x2000C, hi := none, stride := 0, n := 1, fields := [⟨0, 32, 0, .ro, .e, .any⟩] },
  -- SLK_RUN_MAP1
  { off := 0x20010, hi := none, stride := 0, n := 1, fields := [⟨0, 16, 0, .ro, .e, .any⟩] },
  -- SLK_QUAR_MAP0
  { off := 0x20014, hi := none, stride := 0, n := 1, fields := [⟨0, 32, 0, .ro, .e, .any⟩] },
  -- SLK_QUAR_MAP1
  { off := 0x20018, hi := none, stride := 0, n := 1, fields := [⟨0, 16, 0, .ro, .e, .any⟩] },
  -- SLK_Sn_CTRL
  { off := 0x21000, hi := none, stride := 256, n := 48, fields := [⟨31, 1, 1, .rw, .k, .any⟩, ⟨1, 3, 7, .rw, .k, .any⟩] },
  -- SLK_Sn_STATE
  { off := 0x21004, hi := none, stride := 256, n := 48, fields := [⟨9, 1, 0, .ro, .e, .any⟩, ⟨8, 1, 0, .ro, .e, .any⟩, ⟨7, 1, 0, .ro, .e, .any⟩, ⟨0, 4, 1, .ro, .e, .any⟩] },
  -- SLK_Sn_QCAUSE
  { off := 0x21008, hi := none, stride := 256, n := 48, fields := [⟨0, 7, 0, .ro, .e, .any⟩] },
  -- SLK_Sn_SEAL
  { off := 0x2100C, hi := none, stride := 256, n := 48, fields := [⟨8, 8, 0, .ro, .k, .any⟩, ⟨0, 8, 0, .ro, .e, .any⟩] },
  -- SLK_Sn_EPOCH_REC
  { off := 0x21010, hi := none, stride := 256, n := 48, fields := [⟨0, 32, 0, .ro, .k, .any⟩] },
  -- SLK_Sn_EPOCH_TERM
  { off := 0x21014, hi := none, stride := 256, n := 48, fields := [⟨0, 32, 0, .ro, .e, .any⟩] },
  -- SLK_Sn_SERIAL
  { off := 0x21018, hi := some 0x2101C, stride := 256, n := 48, fields := [⟨0, 64, 0, .ro, .e, .any⟩] },
  -- SLK_Sn_FP0
  { off := 0x21020, hi := none, stride := 256, n := 48, fields := [⟨0, 32, 0, .ro, .e, .any⟩] },
  -- SLK_Sn_FP1
  { off := 0x21024, hi := none, stride := 256, n := 48, fields := [⟨0, 32, 0, .ro, .e, .any⟩] },
  -- SLK_Sn_FP2
  { off := 0x21028, hi := none, stride := 256, n := 48, fields := [⟨0, 32, 0, .ro, .e, .any⟩] },
  -- SLK_Sn_FP3
  { off := 0x2102C, hi := none, stride := 256, n := 48, fields := [⟨0, 32, 0, .ro, .e, .any⟩] },
  -- SLK_Sn_FP4
  { off := 0x21030, hi := none, stride := 256, n := 48, fields := [⟨0, 32, 0, .ro, .e, .any⟩] },
  -- SLK_Sn_FP5
  { off := 0x21034, hi := none, stride := 256, n := 48, fields := [⟨0, 32, 0, .ro, .e, .any⟩] },
  -- SLK_Sn_FP6
  { off := 0x21038, hi := none, stride := 256, n := 48, fields := [⟨0, 32, 0, .ro, .e, .any⟩] },
  -- SLK_Sn_FP7
  { off := 0x2103C, hi := none, stride := 256, n := 48, fields := [⟨0, 32, 0, .ro, .e, .any⟩] },
  -- SLK_Sn_LATENCY
  { off := 0x21040, hi := none, stride := 256, n := 48, fields := [⟨16, 16, 0, .ro, .e, .any⟩, ⟨0, 16, 0, .ro, .e, .any⟩] },
  -- SLK_Sn_CNT_CRC
  { off := 0x21044, hi := none, stride := 256, n := 48, fields := [⟨0, 32, 0, .ro, .e, .any⟩] },
  -- SLK_Sn_CNT_INVALID
  { off := 0x21048, hi := none, stride := 256, n := 48, fields := [⟨0, 32, 0, .ro, .e, .any⟩] },
  -- SLK_Sn_CNT_MACFAIL
  { off := 0x2104C, hi := none, stride := 256, n := 48, fields := [⟨0, 32, 0, .ro, .e, .any⟩] },
  -- SLK_Sn_CNT_EDGEREJ
  { off := 0x21050, hi := none, stride := 256, n := 48, fields := [⟨0, 32, 0, .ro, .e, .any⟩] },
  -- SLK_Sn_CNT_BOTHON
  { off := 0x21054, hi := none, stride := 256, n := 48, fields := [⟨0, 32, 0, .ro, .e, .any⟩] },
  -- SLK_Sn_CNT_DLMISS
  { off := 0x21058, hi := none, stride := 256, n := 48, fields := [⟨0, 32, 0, .ro, .e, .any⟩] },
  -- SLK_Sn_KEYGEN
  { off := 0x2105C, hi := none, stride := 256, n := 48, fields := [⟨0, 8, 0, .ro, .e, .any⟩] } ]

/-- Registers of the YMS window (R188). -/
def regRowsYMS : List RegRow := [
  -- YMS_CYCLE_CFG
  { off := 0x30000, hi := none, stride := 0, n := 1, fields := [⟨31, 1, 1, .rwl, .h, .any⟩, ⟨8, 8, 0xa, .rwl, .h, (.range 1 100 1)⟩] },
  -- YMS_LOCK
  { off := 0x30004, hi := none, stride := 0, n := 1, fields := [⟨0, 1, 0, .rw, .d, .any⟩] },
  -- YMS_THROTTLE_CFG
  { off := 0x30008, hi := none, stride := 0, n := 1, fields := [⟨0, 7, 0x14, .rwl, .h, (.range 5 100 1)⟩] },
  -- YMS_STATUS
  { off := 0x3000C, hi := none, stride := 0, n := 1, fields := [⟨3, 1, 0, .ro, .d, .any⟩, ⟨2, 1, 0, .rw1c, .d, .any⟩, ⟨1, 1, 0, .rw1c, .d, .any⟩, ⟨0, 1, 0, .rw1c, .d, .any⟩] },
  -- YMS_SLACK_MIN
  { off := 0x30010, hi := none, stride := 0, n := 1, fields := [⟨0, 32, 0x7fffffff, .ro, .d, .any⟩] },
  -- YMS_CNT_SOLVE
  { off := 0x30014, hi := none, stride := 0, n := 1, fields := [⟨0, 32, 0, .ro, .d, .any⟩] },
  -- YMS_CNT_OVERRUN
  { off := 0x30018, hi := none, stride := 0, n := 1, fields := [⟨0, 32, 0, .ro, .d, .any⟩] },
  -- YMS_CNT_EMERG
  { off := 0x3001C, hi := none, stride := 0, n := 1, fields := [⟨0, 32, 0, .ro, .d, .any⟩] },
  -- YMS_CNT_CLAMP
  { off := 0x30020, hi := none, stride := 0, n := 1, fields := [⟨0, 32, 0, .ro, .d, .any⟩] },
  -- YMS_TREE_EPOCH
  { off := 0x30024, hi := none, stride := 0, n := 1, fields := [⟨0, 32, 0, .ro, .k, .any⟩] },
  -- YMS_DERATE_EPOCH
  { off := 0x30028, hi := none, stride := 0, n := 1, fields := [⟨0, 32, 0, .ro, .k, .any⟩] },
  -- YMS_TREE_INFO
  { off := 0x3002C, hi := none, stride := 0, n := 1, fields := [⟨16, 8, 0, .ro, .k, .any⟩, ⟨8, 8, 0, .ro, .k, .any⟩, ⟨0, 8, 0, .ro, .k, .any⟩] },
  -- YMS_CAB_STATE0
  { off := 0x30030, hi := none, stride := 0, n := 1, fields := [⟨0, 32, 0, .ro, .h, .any⟩] },
  -- YMS_CAB_STATE1
  { off := 0x30034, hi := none, stride := 0, n := 1, fields := [⟨0, 32, 0, .ro, .h, .any⟩] },
  -- YMS_SITE_LOAD
  { off := 0x30038, hi := none, stride := 0, n := 1, fields := [⟨0, 32, 0, .ro, .d, .any⟩] },
  -- YMS_THROTTLE_DEV
  { off := 0x3003C, hi := none, stride := 0, n := 1, fields := [⟨31, 1, 0, .ro, .e, .any⟩, ⟨30, 1, 0, .ro, .e, .any⟩, ⟨0, 30, 0, .ro, .e, .any⟩] },
  -- YMS_SITE_IMPORT_CEIL
  { off := 0x30040, hi := none, stride := 0, n := 1, fields := [⟨0, 32, 0, .rwp, .k, (.range 0 2147483647 1)⟩] },
  -- YMS_SITE_EXPORT_CEIL
  { off := 0x30044, hi := none, stride := 0, n := 1, fields := [⟨0, 32, 0, .rwp, .k, (.range 0 2147483647 1)⟩] },
  -- YMS_Ff_IMPORT_CEIL
  { off := 0x30048, hi := none, stride := 8, n := 4, fields := [⟨0, 32, 0, .rwp, .k, (.range 0 2147483647 1)⟩] },
  -- YMS_Ff_EXPORT_CEIL
  { off := 0x3004C, hi := none, stride := 8, n := 4, fields := [⟨0, 32, 0, .rwp, .k, (.range 0 2147483647 1)⟩] },
  -- YMS_Sn_GRANT
  { off := 0x31000, hi := none, stride := 32, n := 48, fields := [⟨16, 16, 0, .ro, .d, .any⟩, ⟨0, 16, 0, .ro, .d, .any⟩] },
  -- YMS_Sn_CEIL
  { off := 0x31004, hi := none, stride := 32, n := 48, fields := [⟨16, 16, 0, .ro, .d, .any⟩, ⟨0, 16, 0, .ro, .d, .any⟩] },
  -- YMS_Sn_POLICY0
  { off := 0x31008, hi := none, stride := 32, n := 48, fields := [⟨24, 2, 0, .ro, .h, .any⟩, ⟨16, 8, 0, .ro, .h, .any⟩, ⟨0, 16, 0, .ro, .h, .any⟩] },
  -- YMS_Sn_POLICY1
  { off := 0x3100C, hi := none, stride := 32, n := 48, fields := [⟨16, 16, 0, .ro, .h, .any⟩, ⟨0, 16, 0, .ro, .h, .any⟩] },
  -- YMS_Sn_THROTTLE
  { off := 0x31010, hi := none, stride := 32, n := 48, fields := [⟨31, 1, 0, .ro, .e, .any⟩, ⟨30, 1, 0, .ro, .e, .any⟩, ⟨0, 16, 0, .ro, .e, .any⟩] } ]

/-- Registers of the WLK window (R224). -/
def regRowsWLK : List RegRow := [
  -- WLK_LOCK
  { off := 0x40000, hi := none, stride := 0, n := 1, fields := [⟨0, 1, 0, .rw, .d, .any⟩] },
  -- WLK_STATUS
  { off := 0x40004, hi := none, stride := 0, n := 1, fields := [⟨3, 1, 0, .ro, .d, .any⟩, ⟨2, 1, 0, .rw1c, .d, .any⟩, ⟨1, 1, 0, .rw1c, .d, .any⟩, ⟨0, 1, 0, .rw1c, .d, .any⟩] },
  -- WLK_SLACK_MIN
  { off := 0x40008, hi := none, stride := 0, n := 1, fields := [⟨0, 32, 0x7fffffff, .ro, .d, .any⟩] },
  -- WLK_CNT_MISS
  { off := 0x4000C, hi := none, stride := 0, n := 1, fields := [⟨0, 32, 0, .ro, .d, .any⟩] },
  -- WLK_TYPE_EPOCH
  { off := 0x40010, hi := none, stride := 0, n := 1, fields := [⟨0, 32, 0, .ro, .k, .any⟩] },
  -- WLK_SCHED
  { off := 0x40014, hi := none, stride := 0, n := 1, fields := [⟨0, 8, 0, .ro, .d, .any⟩] },
  -- WLK_Sn_MODE
  { off := 0x41000, hi := none, stride := 64, n := 48, fields := [⟨16, 16, 0, .ro, .l, .any⟩, ⟨8, 8, 0, .ro, .l, .any⟩, ⟨4, 3, 0, .ro, .l, .any⟩, ⟨0, 3, 0, .ro, .l, .any⟩] },
  -- WLK_Sn_TYPE
  { off := 0x41004, hi := none, stride := 64, n := 48, fields := [⟨12, 4, 0, .ro, .k, .any⟩, ⟨8, 3, 0, .ro, .k, .any⟩, ⟨0, 8, 0, .ro, .k, .any⟩] },
  -- WLK_Sn_SLOT
  { off := 0x41008, hi := none, stride := 64, n := 48, fields := [⟨0, 4, 0, .rwl, .k, .any⟩] },
  -- WLK_Sn_PHASE
  { off := 0x4100C, hi := none, stride := 64, n := 48, fields := [⟨8, 6, 0, .ro, .k, .any⟩, ⟨0, 6, 0, .ro, .d, .any⟩] },
  -- WLK_Sn_DUTY
  { off := 0x41010, hi := none, stride := 64, n := 48, fields := [⟨16, 16, 0, .ro, .d, .any⟩, ⟨0, 16, 0, .ro, .d, .any⟩] },
  -- WLK_Sn_CURRENT
  { off := 0x41014, hi := none, stride := 64, n := 48, fields := [⟨16, 16, 0, .ro, .d, .any⟩, ⟨0, 16, 0, .ro, .d, .any⟩] },
  -- WLK_Sn_VOLTAGE
  { off := 0x41018, hi := none, stride := 64, n := 48, fields := [⟨16, 16, 0, .ro, .d, .any⟩, ⟨0, 16, 0, .ro, .d, .any⟩] },
  -- WLK_Sn_CNT_MISS
  { off := 0x4101C, hi := none, stride := 64, n := 48, fields := [⟨0, 32, 0, .ro, .d, .any⟩] },
  -- WLK_Sn_TUNE
  { off := 0x41020, hi := none, stride := 64, n := 48, fields := [⟨0, 7, 0, .ro, .h, .any⟩] },
  -- WLK_Sn_DEGRADE
  { off := 0x41024, hi := none, stride := 64, n := 48, fields := [⟨31, 1, 0, .ro, .k, .any⟩, ⟨30, 1, 0, .ro, .k, .any⟩, ⟨16, 2, 0, .ro, .k, .any⟩, ⟨0, 16, 0, .ro, .d, .any⟩] } ]

/-- Registers of the WBG window (R262). -/
def regRowsWBG : List RegRow := [
  -- WBG_LOCK
  { off := 0x50000, hi := none, stride := 0, n := 1, fields := [⟨0, 1, 0, .rw, .d, .any⟩] },
  -- WBG_STATUS
  { off := 0x50004, hi := none, stride := 0, n := 1, fields := [⟨4, 1, 0, .ro, .e, .any⟩, ⟨3, 1, 0, .rw1c, .e, .any⟩, ⟨2, 1, 0, .rw1c, .e, .any⟩, ⟨1, 1, 0, .rw1c, .e, .any⟩, ⟨0, 1, 0, .rw1c, .e, .any⟩] },
  -- WBG_SLACK_MIN
  { off := 0x50008, hi := none, stride := 0, n := 1, fields := [⟨0, 32, 0x7fffffff, .ro, .d, .any⟩] },
  -- WBG_CKPT_CFG
  { off := 0x5000C, hi := none, stride := 0, n := 1, fields := [⟨0, 10, 0xfa, .rwp, .k, (.range 100 1000 10)⟩] },
  -- WBG_CKPT_SEQ
  { off := 0x50010, hi := none, stride := 0, n := 1, fields := [⟨0, 32, 0, .ro, .k, .any⟩] },
  -- WBG_CKPT_AGE
  { off := 0x50014, hi := none, stride := 0, n := 1, fields := [⟨0, 32, 0, .ro, .e, .any⟩] },
  -- WBG_S0_FILTER
  { off := 0x50018, hi := none, stride := 0, n := 1, fields := [⟨0, 5, 5, .rw, .k, (.range 1 20 1)⟩] },
  -- WBG_Ff_SENSOR
  { off := 0x50100, hi := none, stride := 16, n := 4, fields := [⟨28, 2, 0, .rwp, .k, (.range 0 1 1)⟩, ⟨16, 8, 0x32, .rwp, .k, (.range 10 200 1)⟩, ⟨8, 1, 0, .rwp, .k, .any⟩, ⟨6, 2, 0, .rwp, .k, .any⟩, ⟨4, 2, 2, .rwp, .k, .any⟩, ⟨2, 2, 2, .rwp, .k, .any⟩, ⟨0, 2, 2, .rwp, .k, .any⟩] },
  -- WBG_Ff_VSCALE
  { off := 0x50104, hi := none, stride := 16, n := 4, fields := [⟨0, 32, 0xfa0, .rwp, .k, (.range 1 16777215 1)⟩] },
  -- WBG_Ff_ISCALE
  { off := 0x50108, hi := none, stride := 16, n := 4, fields := [⟨0, 32, 0x4e20, .rwp, .k, (.range 1 16777215 1)⟩] },
  -- WBG_Ff_FREQ
  { off := 0x5010C, hi := none, stride := 16, n := 4, fields := [⟨0, 32, 0, .ro, .e, .any⟩] },
  -- WBG_POk_CFG
  { off := 0x50200, hi := none, stride := 32, n := 4, fields := [⟨31, 1, 0, .rwp, .k, .any⟩, ⟨30, 1, 0, .rwp, .k, .any⟩, ⟨24, 6, 0, .rwp, .k, (.range 0 51 1)⟩, ⟨8, 8, 0x28, .rwp, .k, (.range 30 255 1)⟩, ⟨0, 8, 0x28, .rwp, .k, (.range 30 255 1)⟩] },
  -- WBG_POk_CONST
  { off := 0x50204, hi := none, stride := 32, n := 4, fields := [⟨0, 32, 0x186a0, .rwp, .k, (.range 1000 100000000 1)⟩] },
  -- WBG_POk_RESIDUE
  { off := 0x50208, hi := none, stride := 32, n := 4, fields := [⟨0, 32, 0, .ro, .k, .any⟩] },
  -- WBG_POk_BACKLOG
  { off := 0x5020C, hi := none, stride := 32, n := 4, fields := [⟨0, 16, 0, .ro, .k, .any⟩] },
  -- WBG_POk_AHEAD
  { off := 0x50210, hi := none, stride := 32, n := 4, fields := [⟨0, 16, 0, .ro, .a, .any⟩] },
  -- WBG_S0k_CFG
  { off := 0x50300, hi := none, stride := 16, n := 4, fields := [⟨30, 2, 0, .ro, .k, .any⟩, ⟨24, 6, 0, .ro, .k, .any⟩, ⟨23, 1, 0, .ro, .k, .any⟩] },
  -- WBG_S0k_CONST
  { off := 0x50304, hi := none, stride := 16, n := 4, fields := [⟨0, 32, 0, .ro, .k, .any⟩] },
  -- WBG_S0k_COUNT
  { off := 0x50308, hi := none, stride := 16, n := 4, fields := [⟨0, 32, 0, .ro, .e, .any⟩] },
  -- WBG_Mc_STATE
  { off := 0x51000, hi := none, stride := 64, n := 52, fields := [⟨16, 8, 0, .ro, .e, .any⟩, ⟨7, 1, 0, .ro, .k, .any⟩, ⟨0, 3, 0, .ro, .e, .any⟩] },
  -- WBG_Mc_START
  { off := 0x51004, hi := none, stride := 64, n := 48, fields := [⟨0, 16, 0xa, .rwp, .k, (.range 1 100 1)⟩] },
  -- WBG_Mf_START
  { off := 0x51C04, hi := none, stride := 64, n := 4, fields := [⟨0, 16, 0x14, .rwp, .k, (.range 1 500 1)⟩] },
  -- WBG_Mc_FWD
  { off := 0x51008, hi := some 0x5100C, stride := 64, n := 52, fields := [⟨0, 64, 0, .ro, .k, .any⟩] },
  -- WBG_Mc_FWD_FRAC
  { off := 0x51010, hi := none, stride := 64, n := 52, fields := [⟨0, 32, 0, .ro, .k, .any⟩] },
  -- WBG_Mc_REV
  { off := 0x51014, hi := some 0x51018, stride := 64, n := 52, fields := [⟨0, 64, 0, .ro, .k, .any⟩] },
  -- WBG_Mc_REV_FRAC
  { off := 0x5101C, hi := none, stride := 64, n := 52, fields := [⟨0, 32, 0, .ro, .k, .any⟩] },
  -- WBG_Mc_UNMET_MS
  { off := 0x51020, hi := none, stride := 64, n := 52, fields := [⟨0, 32, 0, .ro, .k, .any⟩] },
  -- WBG_Mc_UNMET_EST
  { off := 0x51024, hi := none, stride := 64, n := 52, fields := [⟨0, 32, 0, .ro, .e, .any⟩] },
  -- WBG_Mc_CAL_GEN
  { off := 0x51028, hi := none, stride := 64, n := 52, fields := [⟨0, 32, 0, .ro, .k, .any⟩] },
  -- WBG_Mc_POWER
  { off := 0x5102C, hi := none, stride := 64, n := 52, fields := [⟨0, 32, 0, .ro, .e, .any⟩] },
  -- WBG_Mc_VI
  { off := 0x51030, hi := none, stride := 64, n := 52, fields := [⟨16, 16, 0, .ro, .e, .any⟩, ⟨0, 16, 0, .ro, .e, .any⟩] },
  -- WBG_Mc_CAL_FP
  { off := 0x51034, hi := none, stride := 64, n := 52, fields := [⟨0, 32, 0, .ro, .k, .any⟩] } ]

/-- Registers of the BIL window (R308). -/
def regRowsBIL : List RegRow := [
  -- BIL_LOCK
  { off := 0x60000, hi := none, stride := 0, n := 1, fields := [⟨0, 1, 0, .rw, .d, .any⟩] },
  -- BIL_STATUS
  { off := 0x60004, hi := none, stride := 0, n := 1, fields := [⟨4, 1, 0, .rw1c, .e, .any⟩, ⟨3, 1, 0, .ro, .e, .any⟩, ⟨2, 1, 0, .ro, .e, .any⟩, ⟨1, 1, 0, .ro, .e, .any⟩, ⟨0, 1, 0, .ro, .e, .any⟩] },
  -- BIL_TIME_STATUS
  { off := 0x60008, hi := none, stride := 0, n := 1, fields := [⟨8, 16, 0, .ro, .e, .any⟩, ⟨3, 1, 0, .ro, .e, .any⟩, ⟨2, 1, 0, .ro, .e, .any⟩, ⟨1, 1, 0, .ro, .e, .any⟩, ⟨0, 1, 0, .ro, .e, .any⟩] },
  -- BIL_WALL
  { off := 0x6000C, hi := some 0x60010, stride := 0, n := 1, fields := [⟨0, 64, 0, .ro, .a, .any⟩] },
  -- BIL_TICK
  { off := 0x60014, hi := some 0x60018, stride := 0, n := 1, fields := [⟨0, 48, 0, .ro, .a, .any⟩] },
  -- BIL_INTERVAL_CFG
  { off := 0x6001C, hi := none, stride := 0, n := 1, fields := [⟨0, 8, 0xf, .rwp, .k, (.oneOf [5, 10, 15, 30, 60])⟩] },
  -- BIL_TARIFF_EPOCH
  { off := 0x60020, hi := none, stride := 0, n := 1, fields := [⟨0, 32, 0, .ro, .k, .any⟩] },
  -- BIL_CALENDAR_EPOCH
  { off := 0x60024, hi := none, stride := 0, n := 1, fields := [⟨0, 32, 0, .ro, .k, .any⟩] },
  -- BIL_LAST_SWITCH
  { off := 0x60028, hi := some 0x6002C, stride := 0, n := 1, fields := [⟨0, 64, 0, .ro, .k, .any⟩] },
  -- BIL_REC_SEQ
  { off := 0x60030, hi := some 0x60034, stride := 0, n := 1, fields := [⟨0, 64, 0, .ro, .k, .any⟩] },
  -- BIL_REC_PENDING
  { off := 0x60038, hi := none, stride := 0, n := 1, fields := [⟨0, 11, 0, .ro, .k, .any⟩] },
  -- BIL_STORE_FILL
  { off := 0x6003C, hi := none, stride := 0, n := 1, fields := [⟨16, 10, 0, .ro, .k, .any⟩, ⟨0, 10, 0, .ro, .k, .any⟩] },
  -- BIL_RETAIN
  { off := 0x60040, hi := none, stride := 0, n := 1, fields := [⟨0, 12, 0x448, .rwp, .k, (.range 0 4000 1)⟩] },
  -- BIL_PREPAY_CFG
  { off := 0x60044, hi := none, stride := 0, n := 1, fields := [⟨0, 32, 0x186a0, .rwp, .k, .any⟩] },
  -- BIL_TAMPER_CFG
  { off := 0x60048, hi := none, stride := 0, n := 1, fields := [⟨3, 1, 0, .rwp, .k, .any⟩, ⟨2, 1, 0, .rwp, .k, .any⟩, ⟨1, 1, 1, .rwp, .k, .any⟩, ⟨0, 1, 1, .rwp, .k, .any⟩] },
  -- BIL_TAMPER_STATE
  { off := 0x6004C, hi := none, stride := 0, n := 1, fields := [⟨16, 16, 0, .ro, .a, .any⟩, ⟨8, 5, 0, .ro, .a, .any⟩, ⟨0, 2, 0, .ro, .a, .any⟩] },
  -- BIL_Mc_ROUTE
  { off := 0x61000, hi := none, stride := 64, n := 52, fields := [⟨31, 1, 0, .ro, .e, .any⟩, ⟨0, 3, 0, .ro, .e, .any⟩] },
  -- BIL_Mc_DEMAND
  { off := 0x61004, hi := none, stride := 64, n := 52, fields := [⟨0, 32, 0, .ro, .e, .any⟩] },
  -- BIL_Mc_DEMAND_MAX
  { off := 0x61008, hi := none, stride := 64, n := 52, fields := [⟨0, 32, 0, .ro, .k, .any⟩] },
  -- BIL_Mc_DISP_FWD
  { off := 0x6100C, hi := some 0x61010, stride := 64, n := 52, fields := [⟨0, 64, 0, .ro, .k, .any⟩] },
  -- BIL_Mc_DISP_REV
  { off := 0x61014, hi := some 0x61018, stride := 64, n := 52, fields := [⟨0, 64, 0, .ro, .k, .any⟩] },
  -- BIL_Mc_SESSION
  { off := 0x6101C, hi := none, stride := 64, n := 52, fields := [⟨0, 32, 0xffffffff, .ro, .e, .any⟩] } ]

/-- Registers of the DRO window (R344). -/
def regRowsDRO : List RegRow := [
  -- DRO_LOCK
  { off := 0x70000, hi := none, stride := 0, n := 1, fields := [⟨0, 1, 0, .rw, .d, .any⟩] },
  -- DRO_STATUS
  { off := 0x70004, hi := none, stride := 0, n := 1, fields := [⟨4, 1, 0, .rw1c, .d, .any⟩, ⟨3, 1, 0, .rw1c, .d, .any⟩, ⟨2, 1, 0, .ro, .d, .any⟩, ⟨1, 1, 0, .rw1c, .d, .any⟩, ⟨0, 1, 0, .ro, .d, .any⟩] },
  -- DRO_QRES_MAX
  { off := 0x70008, hi := none, stride := 0, n := 1, fields := [⟨0, 32, 0, .ro, .d, .any⟩] },
  -- DRO_SM_EPOCH
  { off := 0x7000C, hi := none, stride := 0, n := 1, fields := [⟨0, 32, 0, .ro, .k, .any⟩] },
  -- DRO_EXI_EPOCH
  { off := 0x70010, hi := none, stride := 0, n := 1, fields := [⟨0, 32, 0, .ro, .k, .any⟩] },
  -- DRO_ALLOW_SERIAL
  { off := 0x70014, hi := none, stride := 0, n := 1, fields := [⟨0, 32, 0, .ro, .k, .any⟩] },
  -- DRO_ALLOW_COUNT
  { off := 0x70018, hi := none, stride := 0, n := 1, fields := [⟨0, 32, 0, .ro, .k, .any⟩] },
  -- DRO_ALLOW_MERGE
  { off := 0x7001C, hi := none, stride := 0, n := 1, fields := [⟨31, 1, 0, .ro, .k, .any⟩, ⟨0, 20, 0, .ro, .k, .any⟩] },
  -- DRO_CTX_USED
  { off := 0x70020, hi := none, stride := 0, n := 1, fields := [⟨0, 8, 0, .ro, .d, .any⟩] },
  -- DRO_AUTH_CFG
  { off := 0x70024, hi := none, stride := 0, n := 1, fields := [⟨8, 8, 0x3c, .rw, .k, (.range 10 255 1)⟩, ⟨0, 7, 0x1e, .rw, .k, (.range 1 120 1)⟩] },
  -- DRO_RX_CFG
  { off := 0x70028, hi := none, stride := 0, n := 1, fields := [⟨31, 1, 0, .rw, .dp, .any⟩, ⟨24, 4, 0, .rw, .dp, (.range 0 14 1)⟩, ⟨16, 4, 0, .rw, .dp, .any⟩, ⟨0, 2, 0, .ro, .dp, .any⟩] },
  -- DRO_RX_LOST
  { off := 0x7002C, hi := none, stride := 0, n := 1, fields := [⟨0, 32, 0, .ro, .dp, .any⟩] },
  -- DRO_RX_BASE
  { off := 0x70030, hi := some 0x70034, stride := 0, n := 1, fields := [⟨12, 52, 0, .rw, .dp, .any⟩] },
  -- DRO_RX_DB
  { off := 0x70038, hi := some 0x7003C, stride := 0, n := 1, fields := [⟨6, 58, 0, .rw, .dp, .any⟩] },
  -- DRO_Sn_CFG
  { off := 0x71000, hi := none, stride := 32, n := 48, fields := [⟨31, 1, 1, .rw, .k, .any⟩, ⟨24, 6, 0x3f, .rw, .k, .any⟩, ⟨20, 3, 2, .rw, .k, (.range 0 4 1)⟩, ⟨18, 2, 0, .rw, .k, (.range 0 2 1)⟩, ⟨17, 1, 0, .rw, .k, .any⟩, ⟨16, 1, 0, .rw, .k, .any⟩] },
  -- DRO_Sn_SECC_CHAIN
  { off := 0x71004, hi := none, stride := 32, n := 48, fields := [⟨19, 13, 0, .rw, .k, (.range 0 4096 1)⟩, ⟨0, 17, 0, .rw, .k, .any⟩] },
  -- DRO_Sn_SECC_KEY
  { off := 0x71008, hi := none, stride := 32, n := 48, fields := [⟨8, 8, 0, .rw, .k, .any⟩, ⟨0, 8, 0, .rw, .k, .any⟩] },
  -- DRO_Sn_HANDLE
  { off := 0x7100C, hi := none, stride := 32, n := 48, fields := [⟨0, 32, 0xffffffff, .ro, .d, .any⟩] },
  -- DRO_Sn_STATE
  { off := 0x71010, hi := none, stride := 32, n := 48, fields := [⟨16, 8, 0, .ro, .d, .any⟩, ⟨8, 3, 0, .ro, .d, .any⟩, ⟨0, 3, 0, .ro, .d, .any⟩] },
  -- DRO_Sn_CNT_SESS
  { off := 0x71014, hi := none, stride := 32, n := 48, fields := [⟨0, 32, 0, .ro, .d, .any⟩] },
  -- DRO_Sn_CNT_FAIL
  { off := 0x71018, hi := none, stride := 32, n := 48, fields := [⟨0, 32, 0, .ro, .d, .any⟩] } ]

/-- Registers of the HRN window (R377). -/
def regRowsHRN : List RegRow := [
  -- HRN_LOCK
  { off := 0x80000, hi := none, stride := 0, n := 1, fields := [⟨0, 1, 0, .rw, .d, .any⟩] },
  -- HRN_STATUS
  { off := 0x80004, hi := none, stride := 0, n := 1, fields := [⟨6, 2, 0, .ro, .k, .any⟩, ⟨4, 2, 0, .ro, .d, .any⟩, ⟨3, 1, 0, .rw1c, .d, .any⟩, ⟨2, 1, 0, .rw1c, .d, .any⟩, ⟨1, 1, 0, .ro, .d, .any⟩, ⟨0, 1, 0, .ro, .k, .any⟩] },
  -- HRN_COMMUTE_EPOCH
  { off := 0x80008, hi := none, stride := 0, n := 1, fields := [⟨0, 32, 0, .ro, .k, .any⟩] },
  -- HRN_TRG_EPOCH
  { off := 0x8000C, hi := none, stride := 0, n := 1, fields := [⟨0, 32, 0, .ro, .k, .any⟩] },
  -- HRN_VMOTg_CFG0
  { off := 0x80010, hi := none, stride := 8, n := 2, fields := [⟨16, 10, 0x244, .rw, .k, (.range 100 650 1)⟩, ⟨0, 10, 0x208, .rw, .k, (.range 100 650 1)⟩] },
  -- HRN_VMOTg_CFG1
  { off := 0x80014, hi := none, stride := 8, n := 2, fields := [⟨20, 12, 0x1f4, .rw, .k, (.range 10 4000 1)⟩, ⟨16, 4, 4, .rw, .k, (.range 1 15 1)⟩, ⟨0, 10, 0xa0, .rw, .k, (.range 100 650 1)⟩] },
  -- HRN_VMOTg_MEAS
  { off := 0x80020, hi := none, stride := 4, n := 2, fields := [⟨31, 1, 0, .ro, .d, .any⟩, ⟨0, 10, 0, .ro, .d, .any⟩] },
  -- HRN_HBb_CFG
  { off := 0x81000, hi := none, stride := 64, n := 6, fields := [⟨31, 1, 0, .rw, .k, .any⟩, ⟨28, 3, 0, .rw, .k, (.range 0 4 1)⟩, ⟨27, 1, 0, .rw, .k, (.range 0 0 1)⟩, ⟨24, 3, 0, .rw, .k, .any⟩, ⟨16, 8, 0x19, .rw, .k, (.range 16 50 1)⟩, ⟨12, 4, 4, .rw, .k, (.range 1 15 1)⟩, ⟨11, 1, 0, .ro, .k, .any⟩, ⟨0, 8, 0x64, .rw, .k, .any⟩] },
  -- HRN_HDb_CFG
  { off := 0x81180, hi := none, stride := 64, n := 2, fields := [⟨31, 1, 0, .rw, .k, .any⟩, ⟨28, 3, 0, .rw, .k, (.range 0 4 1)⟩, ⟨27, 1, 0, .rw, .k, .any⟩, ⟨24, 3, 0, .rw, .k, .any⟩, ⟨16, 8, 0x19, .rw, .k, (.range 16 50 1)⟩, ⟨12, 4, 4, .rw, .k, (.range 1 15 1)⟩, ⟨11, 1, 1, .ro, .k, .any⟩, ⟨0, 8, 0x64, .rw, .k, .any⟩] },
  -- HRN_HBb_TIMING
  { off := 0x81004, hi := none, stride := 64, n := 8, fields := [⟨16, 9, 0x19, .rw, .k, (.range 13 500 1)⟩, ⟨0, 11, 0x64, .rw, .k, (.range 25 1250 1)⟩] },
  -- HRN_HBb_PROT
  { off := 0x81008, hi := none, stride := 64, n := 8, fields := [⟨24, 8, 0xa, .rw, .k, (.range 2 30 1)⟩, ⟨16, 8, 0x14, .rw, .k, (.range 5 80 1)⟩, ⟨12, 4, 4, .rw, .k, (.range 1 15 1)⟩, ⟨0, 11, 0x1f4, .rw, .k, (.range 200 2000 1)⟩] },
  -- HRN_HBb_LIMIT
  { off := 0x8100C, hi := none, stride := 64, n := 8, fields := [⟨16, 14, 0x26ac, .rw, .k, (.range 5000 9900 1)⟩, ⟨0, 13, 0x1f4, .rw, .k, (.range 0 5000 1)⟩] },
  -- HRN_HBb_CMD
  { off := 0x81010, hi := none, stride := 64, n := 8, fields := [⟨30, 2, 0, .ro, .h, .any⟩, ⟨29, 1, 0, .ro, .h, .any⟩, ⟨0, 14, 0, .ro, .h, .any⟩] },
  -- HRN_HBb_CMD_VW
  { off := 0x81014, hi := none, stride := 64, n := 8, fields := [⟨16, 14, 0, .ro, .h, .any⟩, ⟨0, 14, 0, .ro, .h, .any⟩] },
  -- HRN_HBb_STATE
  { off := 0x81018, hi := none, stride := 64, n := 8, fields := [⟨8, 3, 0, .ro, .d, .any⟩, ⟨6, 1, 0, .ro, .d, .any⟩, ⟨5, 1, 0, .ro, .d, .any⟩, ⟨4, 1, 0, .ro, .d, .any⟩, ⟨0, 3, 0, .ro, .d, .any⟩] },
  -- HRN_HBb_SPEED
  { off := 0x8101C, hi := none, stride := 64, n := 8, fields := [⟨0, 32, 0, .ro, .d, .any⟩] },
  -- HRN_HBb_FAULT
  { off := 0x81020, hi := none, stride := 64, n := 8, fields := [⟨8, 3, 0, .ro, .k, .any⟩, ⟨7, 1, 0, .ro, .k, .any⟩, ⟨6, 1, 0, .ro, .k, .any⟩, ⟨5, 1, 0, .ro, .k, .any⟩, ⟨4, 1, 0, .ro, .k, .any⟩, ⟨3, 1, 0, .ro, .k, .any⟩, ⟨2, 1, 0, .ro, .k, .any⟩, ⟨1, 1, 0, .ro, .k, .any⟩, ⟨0, 1, 0, .ro, .k, .any⟩] },
  -- HRN_HBb_CNT_OC
  { off := 0x81024, hi := none, stride := 64, n := 8, fields := [⟨0, 32, 0, .ro, .d, .any⟩] },
  -- HRN_HBb_CNT_BOTHON
  { off := 0x81028, hi := none, stride := 64, n := 8, fields := [⟨0, 32, 0, .ro, .d, .any⟩] },
  -- HRN_Sn_COOL_CFG
  { off := 0x82000, hi := none, stride := 16, n := 48, fields := [⟨0, 5, 0x1f, .rw, .k, (.oneOf [0, 1, 2, 3, 4, 5, 6, 7, 8, 9, 10, 11, 12, 13, 14, 15, 31])⟩] },
  -- HRN_Sn_COOL_FLOOR
  { off := 0x82004, hi := none, stride := 16, n := 48, fields := [⟨30, 2, 0, .ro, .h, .any⟩, ⟨16, 10, 0, .ro, .h, .any⟩, ⟨0, 8, 0, .ro, .h, .any⟩] },
  -- HRN_Sn_COOL_STATE
  { off := 0x82008, hi := none, stride := 16, n := 48, fields := [⟨16, 16, 0, .ro, .d, .any⟩, ⟨15, 1, 0, .ro, .d, .any⟩, ⟨14, 1, 0, .ro, .d, .any⟩, ⟨13, 1, 0, .ro, .d, .any⟩, ⟨0, 10, 0, .ro, .d, .any⟩] },
  -- HRN_Sn_COOL_VALVE
  { off := 0x8200C, hi := none, stride := 16, n := 48, fields := [⟨16, 8, 0, .ro, .d, .any⟩, ⟨0, 8, 0, .ro, .d, .any⟩] } ]

/-- Registers of the AUX window (R401). -/
def regRowsAUX : List RegRow := [
  -- AUX_LOCK
  { off := 0x90000, hi := none, stride := 0, n := 1, fields := [⟨0, 1, 0, .rw, .d, .any⟩] },
  -- AUX_STATUS
  { off := 0x90004, hi := none, stride := 0, n := 1, fields := [⟨5, 1, 0, .ro, .d, .any⟩, ⟨4, 1, 0, .rw1c, .d, .any⟩, ⟨0, 4, 0, .ro, .d, .any⟩] },
  -- AUX_n_CFG
  { off := 0x91000, hi := none, stride := 64, n := 4, fields := [⟨31, 1, 0, .rw, .k, .any⟩, ⟨24, 4, 8, .rw, .k, (.range 1 15 1)⟩, ⟨16, 8, 0x32, .rw, .k, (.range 20 200 1)⟩, ⟨8, 8, 0, .rw, .k, .any⟩] },
  -- AUX_n_DIV
  { off := 0x91004, hi := none, stride := 64, n := 4, fields := [⟨0, 16, 0x1000, .rwl, .k, (.range 4096 65535 1)⟩] },
  -- AUX_n_RATE
  { off := 0x91008, hi := none, stride := 64, n := 4, fields := [⟨16, 16, 0x64, .rw, .k, (.range 1 1000 1)⟩, ⟨0, 16, 0x64, .rw, .k, (.range 1 1000 1)⟩] },
  -- AUX_n_PROT
  { off := 0x9100C, hi := none, stride := 64, n := 4, fields := [⟨24, 8, 0x64, .rw, .k, (.range 20 200 1)⟩, ⟨16, 8, 0x32, .rw, .k, (.range 10 200 1)⟩, ⟨8, 8, 0x4b, .rw, .k, (.range 25 200 1)⟩, ⟨0, 8, 0x14, .rw, .k, (.range 10 50 1)⟩] },
  -- AUX_n_BOOT
  { off := 0x91010, hi := none, stride := 64, n := 4, fields := [⟨0, 16, 0, .rw, .k, .any⟩] },
  -- AUX_n_TARGET
  { off := 0x91014, hi := none, stride := 64, n := 4, fields := [⟨16, 16, 0, .ro, .h, .any⟩, ⟨0, 16, 0, .ro, .h, .any⟩] },
  -- AUX_n_MEAS
  { off := 0x91018, hi := none, stride := 64, n := 4, fields := [⟨16, 16, 0, .ro, .d, .any⟩, ⟨0, 16, 0, .ro, .d, .any⟩] },
  -- AUX_n_STATE
  { off := 0x9101C, hi := none, stride := 64, n := 4, fields := [⟨30, 2, 0, .ro, .h, .any⟩, ⟨8, 4, 0, .ro, .h, .any⟩, ⟨4, 1, 0, .ro, .d, .any⟩, ⟨3, 1, 0, .ro, .d, .any⟩, ⟨2, 1, 0, .ro, .d, .any⟩, ⟨1, 1, 0, .ro, .d, .any⟩, ⟨0, 1, 0, .ro, .d, .any⟩] },
  -- AUX_n_FAULT
  { off := 0x91020, hi := none, stride := 64, n := 4, fields := [⟨3, 1, 0, .ro, .k, .any⟩, ⟨2, 1, 0, .ro, .k, .any⟩, ⟨1, 1, 0, .ro, .k, .any⟩, ⟨0, 1, 0, .ro, .k, .any⟩] },
  -- AUX_n_CNT_HICCUP
  { off := 0x91024, hi := none, stride := 64, n := 4, fields := [⟨0, 32, 0, .ro, .d, .any⟩] } ]

/-- Registers of the LSW window (R401). -/
def regRowsLSW : List RegRow := [
  -- LSW_LOCK
  { off := 0xA0000, hi := none, stride := 0, n := 1, fields := [⟨0, 1, 0, .rw, .d, .any⟩] },
  -- LSW_STATUS
  { off := 0xA0004, hi := none, stride := 0, n := 1, fields := [⟨1, 1, 0, .ro, .d, .any⟩, ⟨0, 1, 0, .rw1c, .d, .any⟩] },
  -- LSW_Gg_STATE
  { off := 0xA0100, hi := none, stride := 16, n := 4, fields := [⟨31, 1, 0, .ro, .k, .any⟩, ⟨30, 1, 0, .ro, .d, .any⟩, ⟨29, 1, 0, .ro, .d, .any⟩, ⟨28, 1, 0, .ro, .d, .any⟩, ⟨0, 16, 0, .ro, .d, .any⟩] },
  -- LSW_Gg_MEAS
  { off := 0xA0104, hi := none, stride := 16, n := 4, fields := [⟨0, 16, 0, .ro, .d, .any⟩] },
  -- LSW_Cn_CFG
  { off := 0xA1000, hi := none, stride := 32, n := 16, fields := [⟨31, 1, 0, .rw, .k, .any⟩, ⟨30, 1, 0, .rw, .k, .any⟩, ⟨29, 1, 0, .rw, .k, .any⟩, ⟨28, 1, 0, .rw, .k, .any⟩, ⟨16, 10, 0x32, .rw, .k, (.range 1 500 1)⟩] },
  -- LSW_Cn_LIMIT
  { off := 0xA1004, hi := none, stride := 32, n := 16, fields := [⟨24, 8, 0x50, .rw, .k, (.range 5 95 1)⟩, ⟨16, 8, 0x14, .rw, .k, (.range 1 80 1)⟩, ⟨0, 16, 0xa, .rw, .k, (.range 1 1000 1)⟩] },
  -- LSW_Cn_OPEN
  { off := 0xA1008, hi := none, stride := 32, n := 16, fields := [⟨16, 16, 0x64, .rw, .k, (.range 10 10000 1)⟩, ⟨0, 16, 0x14, .rw, .k, (.range 0 1000 1)⟩] },
  -- LSW_Cn_STATE
  { off := 0xA100C, hi := none, stride := 32, n := 16, fields := [⟨31, 1, 0, .ro, .h, .any⟩, ⟨30, 1, 0, .ro, .d, .any⟩, ⟨29, 1, 0, .ro, .d, .any⟩, ⟨28, 1, 0, .ro, .d, .any⟩, ⟨27, 1, 0, .ro, .d, .any⟩, ⟨0, 14, 0, .ro, .d, .any⟩] },
  -- LSW_Cn_CURRENT
  { off := 0xA1010, hi := none, stride := 32, n := 16, fields := [⟨31, 1, 0, .ro, .d, .any⟩, ⟨16, 12, 0, .ro, .d, .any⟩, ⟨0, 12, 0, .ro, .d, .any⟩] },
  -- LSW_Cn_FAULT
  { off := 0xA1014, hi := none, stride := 32, n := 16, fields := [⟨6, 1, 0, .ro, .d, .any⟩, ⟨5, 1, 0, .ro, .d, .any⟩, ⟨4, 1, 0, .ro, .k, .any⟩, ⟨3, 1, 0, .ro, .k, .any⟩, ⟨2, 1, 0, .ro, .k, .any⟩, ⟨1, 1, 0, .ro, .k, .any⟩, ⟨0, 1, 0, .ro, .k, .any⟩] },
  -- LSW_Cn_CNT
  { off := 0xA1018, hi := none, stride := 32, n := 16, fields := [⟨16, 16, 0, .ro, .d, .any⟩, ⟨0, 16, 0, .ro, .d, .any⟩] } ]

/-- Registers of the CAN window (R430). -/
def regRowsCAN : List RegRow := [
  -- CAN_LOCK
  { off := 0xB0000, hi := none, stride := 0, n := 1, fields := [⟨0, 1, 0, .rw, .d, .any⟩] },
  -- CAN_STATUS
  { off := 0xB0004, hi := none, stride := 0, n := 1, fields := [⟨2, 1, 0, .rw1c, .d, .any⟩, ⟨1, 1, 0, .rw1c, .d, .any⟩, ⟨0, 1, 0, .rw1c, .d, .any⟩] },
  -- CAN_FORMAT_EPOCH
  { off := 0xB0008, hi := none, stride := 0, n := 1, fields := [⟨0, 32, 0, .ro, .k, .any⟩] },
  -- CAN_RX_CFG
  { off := 0xB000C, hi := none, stride := 0, n := 1, fields := [⟨31, 1, 0, .rw, .dp, .any⟩, ⟨24, 4, 0, .rw, .dp, (.range 0 14 1)⟩, ⟨16, 4, 0, .rw, .dp, .any⟩, ⟨0, 2, 0, .ro, .dp, .any⟩] },
  -- CAN_RX_LOST
  { off := 0xB0010, hi := none, stride := 0, n := 1, fields := [⟨0, 32, 0, .ro, .dp, .any⟩] },
  -- CAN_RX_BASE
  { off := 0xB0014, hi := some 0xB0018, stride := 0, n := 1, fields := [⟨12, 52, 0, .rw, .dp, .any⟩] },
  -- CAN_RX_DB
  { off := 0xB001C, hi := some 0xB0020, stride := 0, n := 1, fields := [⟨6, 58, 0, .rw, .dp, .any⟩] },
  -- CAN_FILT_W0
  { off := 0xB8000, hi := none, stride := 8, n := 512, fields := [⟨0, 32, 0, .rw, .d, .any⟩] },
  -- CAN_FILT_W1
  { off := 0xB8004, hi := none, stride := 8, n := 512, fields := [⟨0, 32, 0, .rw, .d, .any⟩] },
  -- CAN_Cn_CTRL
  { off := 0xB1000, hi := none, stride := 64, n := 8, fields := [⟨9, 1, 0, .rw, .d, .any⟩, ⟨8, 1, 0, .rw, .d, .any⟩, ⟨4, 1, 0, .rw, .d, .any⟩, ⟨0, 3, 0, .rw, .d, (.range 0 3 1)⟩] },
  -- CAN_Cn_NBT
  { off := 0xB1004, hi := none, stride := 64, n := 8, fields := [⟨25, 7, 0x1f, .rw, .d, .any⟩, ⟨16, 9, 0x7e, .rw, .d, .any⟩, ⟨9, 7, 0x1f, .rw, .d, .any⟩, ⟨0, 9, 0, .rw, .d, .any⟩] },
  -- CAN_Cn_DBT
  { off := 0xB1008, hi := none, stride := 64, n := 8, fields := [⟨24, 4, 7, .rw, .d, .any⟩, ⟨16, 5, 0x1e, .rw, .d, .any⟩, ⟨8, 4, 7, .rw, .d, .any⟩, ⟨0, 5, 0, .rw, .d, .any⟩] },
  -- CAN_Cn_TDC
  { off := 0xB100C, hi := none, stride := 64, n := 8, fields := [⟨31, 1, 1, .rw, .d, .any⟩, ⟨16, 7, 0, .rw, .d, .any⟩, ⟨0, 7, 0x20, .rw, .d, .any⟩] },
  -- CAN_Cn_RATE
  { off := 0xB1010, hi := none, stride := 64, n := 8, fields := [⟨16, 8, 0xa, .rw, .d, .any⟩, ⟨0, 9, 0x1ff, .rw, .d, .any⟩] },
  -- CAN_Cn_RATE_RESULT
  { off := 0xB1014, hi := none, stride := 64, n := 8, fields := [⟨31, 1, 0, .ro, .d, .any⟩, ⟨0, 4, 0, .ro, .d, .any⟩] },
  -- CAN_Cn_FILT_STD
  { off := 0xB1018, hi := none, stride := 64, n := 8, fields := [⟨16, 10, 0, .rw, .d, .any⟩, ⟨0, 9, 0, .rw, .d, .any⟩] },
  -- CAN_Cn_FILT_EXT
  { off := 0xB101C, hi := none, stride := 64, n := 8, fields := [⟨16, 10, 0, .rw, .d, .any⟩, ⟨0, 9, 0, .rw, .d, .any⟩] },
  -- CAN_Cn_BUF
  { off := 0xB1020, hi := none, stride := 64, n := 8, fields := [⟨16, 6, 8, .rw, .d, .any⟩, ⟨0, 7, 0x20, .rw, .d, .any⟩] },
  -- CAN_Cn_ERR
  { off := 0xB1024, hi := none, stride := 64, n := 8, fields := [⟨24, 3, 0, .ro, .d, .any⟩, ⟨20, 1, 0, .ro, .d, .any⟩, ⟨8, 8, 0, .ro, .d, .any⟩, ⟨0, 8, 0, .ro, .d, .any⟩] },
  -- CAN_Cn_TDCV
  { off := 0xB1028, hi := none, stride := 64, n := 8, fields := [⟨0, 7, 0, .ro, .d, .any⟩] },
  -- CAN_Cn_CNT_RX
  { off := 0xB102C, hi := none, stride := 64, n := 8, fields := [⟨0, 32, 0, .ro, .d, .any⟩] },
  -- CAN_Cn_CNT_TX
  { off := 0xB1030, hi := none, stride := 64, n := 8, fields := [⟨0, 32, 0, .ro, .d, .any⟩] },
  -- CAN_Cn_CNT_ERR
  { off := 0xB1034, hi := none, stride := 64, n := 8, fields := [⟨16, 16, 0, .ro, .d, .any⟩, ⟨0, 16, 0, .ro, .d, .any⟩] },
  -- CAN_Cn_CNT_LOST
  { off := 0xB1038, hi := none, stride := 64, n := 8, fields := [⟨0, 32, 0, .ro, .d, .any⟩] } ]

/-- Registers of the HLT window (R473). -/
def regRowsHLT : List RegRow := [
  -- HLT_LOCK
  { off := 0xC0000, hi := none, stride := 0, n := 1, fields := [⟨0, 1, 0, .rw, .d, .any⟩] },
  -- HLT_STATUS
  { off := 0xC0004, hi := none, stride := 0, n := 1, fields := [⟨31, 1, 0, .ro, .e, .any⟩, ⟨30, 1, 0, .ro, .e, .any⟩, ⟨8, 4, 0, .ro, .e, .any⟩, ⟨4, 4, 0, .ro, .e, .any⟩, ⟨0, 4, 0, .ro, .e, .any⟩] },
  -- HLT_FAULT
  { off := 0xC0008, hi := none, stride := 0, n := 1, fields := [⟨0, 8, 0, .ro, .k, .any⟩] },
  -- HLT_SAFE_OUT
  { off := 0xC000C, hi := none, stride := 0, n := 1, fields := [⟨5, 1, 0, .ro, .e, .any⟩, ⟨4, 1, 0, .ro, .e, .any⟩, ⟨1, 1, 0, .ro, .e, .any⟩, ⟨0, 1, 0, .ro, .e, .any⟩] },
  -- HLT_PROOF_CFG
  { off := 0xC0010, hi := none, stride := 0, n := 1, fields := [⟨0, 10, 0x16d, .rw, .k, (.range 30 730 1)⟩] },
  -- HLT_PROOF_LAST
  { off := 0xC0014, hi := some 0xC0018, stride := 0, n := 1, fields := [⟨0, 64, 0, .ro, .k, .any⟩] },
  -- HLT_ESTOPk_CFG
  { off := 0xC0020, hi := none, stride := 16, n := 4, fields := [⟨30, 2, 0, .rwp, .k, (.range 0 2 1)⟩, ⟨29, 1, 0, .rwp, .k, .any⟩, ⟨28, 1, 0, .rwp, .k, .any⟩, ⟨24, 4, 0, .rwp, .k, .any⟩, ⟨23, 1, 0, .rwp, .k, .any⟩, ⟨16, 5, 0, .rwp, .k, .any⟩, ⟨0, 10, 0x64, .rwp, .k, (.range 20 1000 1)⟩] },
  -- HLT_ESTOPk_STALL0
  { off := 0xC0024, hi := none, stride := 16, n := 4, fields := [⟨0, 32, 0, .rwp, .k, .any⟩] },
  -- HLT_ESTOPk_STALL1
  { off := 0xC0028, hi := none, stride := 16, n := 4, fields := [⟨0, 16, 0, .rwp, .k, .any⟩] },
  -- HLT_ESTOPk_STATE
  { off := 0xC002C, hi := none, stride := 16, n := 4, fields := [⟨3, 1, 0, .ro, .e, .any⟩, ⟨2, 1, 0, .ro, .e, .any⟩, ⟨1, 1, 0, .ro, .e, .any⟩, ⟨0, 1, 0, .ro, .e, .any⟩] },
  -- HLT_Sn_STATE
  { off := 0xC1000, hi := none, stride := 32, n := 48, fields := [⟨31, 1, 0, .ro, .e, .any⟩, ⟨30, 1, 0, .ro, .e, .any⟩, ⟨29, 1, 0, .ro, .e, .any⟩, ⟨28, 1, 0, .ro, .e, .any⟩, ⟨16, 8, 0, .ro, .e, .any⟩, ⟨0, 12, 0, .ro, .e, .any⟩] },
  -- HLT_Sn_CEIL
  { off := 0xC1004, hi := none, stride := 32, n := 48, fields := [⟨16, 16, 0, .ro, .e, .any⟩, ⟨0, 16, 0, .ro, .e, .any⟩] },
  -- HLT_Sn_PROFILE
  { off := 0xC1008, hi := none, stride := 32, n := 48, fields := [⟨8, 8, 0, .ro, .k, .any⟩, ⟨0, 4, 0, .ro, .k, .any⟩] },
  -- HLT_Sn_DEGRADE
  { off := 0xC100C, hi := none, stride := 32, n := 48, fields := [⟨31, 1, 0, .ro, .k, .any⟩, ⟨30, 1, 0, .ro, .e, .any⟩, ⟨16, 14, 0, .ro, .e, .any⟩, ⟨0, 12, 0, .ro, .k, .any⟩] },
  -- HLT_Sn_LATCH
  { off := 0xC1010, hi := none, stride := 32, n := 48, fields := [⟨3, 1, 0, .ro, .k, .any⟩, ⟨2, 1, 0, .ro, .e, .any⟩, ⟨1, 1, 0, .ro, .k, .any⟩, ⟨0, 1, 0, .ro, .k, .any⟩] },
  -- HLT_Sn_CNT_STOP
  { off := 0xC1014, hi := none, stride := 32, n := 48, fields := [⟨16, 16, 0, .ro, .e, .any⟩, ⟨0, 16, 0, .ro, .e, .any⟩] } ]

/-- Registers of the TCK window (R508). -/
def regRowsTCK : List RegRow := [
  -- TCK_LOCK
  { off := 0xD0000, hi := none, stride := 0, n := 1, fields := [⟨0, 1, 0, .rw, .d, .any⟩] },
  -- TCK_STATUS
  { off := 0xD0004, hi := none, stride := 0, n := 1, fields := [⟨5, 1, 0, .ro, .d, .any⟩, ⟨4, 1, 0, .rw1c, .d, .any⟩, ⟨3, 1, 0, .ro, .d, .any⟩, ⟨2, 1, 0, .ro, .d, .any⟩, ⟨1, 1, 0, .ro, .d, .any⟩, ⟨0, 1, 0, .rw1c, .d, .any⟩] },
  -- TCK_LIFECYCLE
  { off := 0xD0008, hi := none, stride := 0, n := 1, fields := [⟨16, 8, 7, .ro, .k, .any⟩, ⟨8, 8, 0, .ro, .k, .any⟩, ⟨0, 3, 1, .ro, .k, .any⟩] },
  -- TCK_EPOCH
  { off := 0xD000C, hi := none, stride := 0, n := 1, fields := [⟨0, 32, 0, .ro, .k, .any⟩] },
  -- TCK_STAGED
  { off := 0xD0010, hi := none, stride := 0, n := 1, fields := [⟨0, 16, 0, .ro, .k, .any⟩] },
  -- TCK_SWITCH_EPOCH
  { off := 0xD0014, hi := none, stride := 0, n := 1, fields := [⟨0, 32, 0, .ro, .d, .any⟩] },
  -- TCK_SWITCH_MS
  { off := 0xD0018, hi := none, stride := 0, n := 1, fields := [⟨0, 32, 0, .ro, .d, .any⟩] },
  -- TCK_WIN_STATE
  { off := 0xD001C, hi := none, stride := 0, n := 1, fields := [⟨31, 1, 0, .ro, .d, .any⟩, ⟨28, 2, 0, .ro, .d, .any⟩, ⟨0, 12, 0, .ro, .d, .any⟩] },
  -- TCK_WIN_NONCE
  { off := 0xD0020, hi := some 0xD0024, stride := 0, n := 1, fields := [⟨0, 64, 0, .ro, .d, .any⟩] },
  -- TCK_WIN_FAIL
  { off := 0xD0028, hi := none, stride := 0, n := 1, fields := [⟨16, 10, 0, .ro, .k, .any⟩, ⟨0, 3, 0, .ro, .k, .any⟩] },
  -- TCK_LOG_SEQ
  { off := 0xD002C, hi := some 0xD0030, stride := 0, n := 1, fields := [⟨0, 64, 0, .ro, .k, .any⟩] },
  -- TCK_SIG_QUEUE
  { off := 0xD0034, hi := none, stride := 0, n := 1, fields := [⟨8, 8, 0, .ro, .d, .any⟩, ⟨0, 8, 0, .ro, .d, .any⟩] },
  -- TCK_RBi
  { off := 0xD0100, hi := none, stride := 4, n := 32, fields := [⟨0, 32, 0, .ro, .k, .any⟩] },
  -- TCK_SLOTs_INFO
  { off := 0xD0200, hi := none, stride := 8, n := 256, fields := [⟨28, 4, 0, .ro, .k, .any⟩, ⟨25, 3, 0, .ro, .k, .any⟩, ⟨16, 9, 0, .ro, .k, .any⟩] },
  -- TCK_SLOTs_GEN
  { off := 0xD0204, hi := none, stride := 8, n := 256, fields := [⟨0, 32, 0, .ro, .k, .any⟩] } ]

/-- Registers of the HAY window (R531). -/
def regRowsHAY : List RegRow := [
  -- HAY_LOCK
  { off := 0xE0000, hi := none, stride := 0, n := 1, fields := [⟨0, 1, 0, .rw, .d, .any⟩] },
  -- HAY_STATUS
  { off := 0xE0004, hi := none, stride := 0, n := 1, fields := [⟨6, 1, 0, .ro, .d, .any⟩, ⟨5, 1, 0, .ro, .d, .any⟩, ⟨4, 1, 0, .ro, .d, .any⟩, ⟨3, 1, 0, .ro, .d, .any⟩, ⟨2, 1, 0, .rw1c, .d, .any⟩, ⟨1, 1, 0, .rw1c, .d, .any⟩, ⟨0, 1, 0, .rw1c, .d, .any⟩] },
  -- HAY_CFG
  { off := 0xE0008, hi := none, stride := 0, n := 1, fields := [⟨16, 5, 7, .rw, .k, (.range 1 30 1)⟩, ⟨0, 3, 1, .rw, .k, (.range 0 4 1)⟩] },
  -- HAY_HOLDUP_CFG
  { off := 0xE000C, hi := none, stride := 0, n := 1, fields := [⟨0, 12, 0x3c, .rw, .k, (.range 10 3600 1)⟩] },
  -- HAY_HOLDUP_C
  { off := 0xE0010, hi := none, stride := 0, n := 1, fields := [⟨0, 20, 0, .ro, .d, .any⟩] },
  -- HAY_HOLDUP_E
  { off := 0xE0014, hi := none, stride := 0, n := 1, fields := [⟨16, 16, 0, .ro, .d, .any⟩, ⟨0, 16, 0, .ro, .d, .any⟩] },
  -- HAY_HOLDUP_NEED
  { off := 0xE0018, hi := none, stride := 0, n := 1, fields := [⟨0, 16, 0, .ro, .d, .any⟩] },
  -- HAY_CNT_REFUSED
  { off := 0xE001C, hi := none, stride := 0, n := 1, fields := [⟨16, 16, 0, .ro, .d, .any⟩, ⟨0, 16, 0, .ro, .d, .any⟩] },
  -- HAY_FILL
  { off := 0xE0020, hi := none, stride := 0, n := 1, fields := [⟨16, 10, 0, .ro, .k, .any⟩, ⟨0, 10, 0, .ro, .k, .any⟩] },
  -- HAY_SPARE
  { off := 0xE0024, hi := none, stride := 0, n := 1, fields := [⟨16, 16, 0, .ro, .k, .any⟩, ⟨0, 16, 0, .ro, .k, .any⟩] },
  -- HAY_BAD
  { off := 0xE0028, hi := none, stride := 0, n := 1, fields := [⟨16, 16, 0, .ro, .k, .any⟩, ⟨0, 16, 0, .ro, .k, .any⟩] },
  -- HAY_WEAR
  { off := 0xE002C, hi := none, stride := 0, n := 1, fields := [⟨16, 16, 0, .ro, .k, .any⟩, ⟨0, 16, 0, .ro, .k, .any⟩] },
  -- HAY_ECC
  { off := 0xE0030, hi := none, stride := 0, n := 1, fields := [⟨16, 8, 0, .ro, .d, .any⟩, ⟨0, 16, 0, .ro, .d, .any⟩] },
  -- HAY_CNT_UNCORR
  { off := 0xE0034, hi := none, stride := 0, n := 1, fields := [⟨16, 16, 0, .ro, .k, .any⟩, ⟨0, 16, 0, .ro, .k, .any⟩] },
  -- HAY_LOG_SEQ
  { off := 0xE0038, hi := some 0xE003C, stride := 0, n := 1, fields := [⟨0, 64, 0, .ro, .k, .any⟩] },
  -- HAY_CL_MARK
  { off := 0xE0040, hi := some 0xE0044, stride := 0, n := 1, fields := [⟨0, 64, 0, .ro, .k, .any⟩] },
  -- HAY_QUEUE
  { off := 0xE0048, hi := none, stride := 0, n := 1, fields := [⟨8, 8, 0, .ro, .d, .any⟩, ⟨0, 8, 0, .ro, .d, .any⟩] } ]

/-- Registers of the PWR window (R560). -/
def regRowsPWR : List RegRow := [
  -- PWR_LOCK
  { off := 0xF0000, hi := none, stride := 0, n := 1, fields := [⟨0, 1, 0, .rw, .d, .any⟩] },
  -- PWR_STATE
  { off := 0xF0004, hi := none, stride := 0, n := 1, fields := [⟨8, 2, 0, .ro, .d, .any⟩, ⟨0, 3, 0, .ro, .d, .any⟩] },
  -- PWR_DOMAINS
  { off := 0xF0008, hi := none, stride := 0, n := 1, fields := [⟨0, 16, 0xffff, .ro, .d, .any⟩] },
  -- PWR_SUPPLY_CFG
  { off := 0xF000C, hi := none, stride := 0, n := 1, fields := [⟨16, 8, 0xb4, .rwp, .k, (.range 170 220 1)⟩, ⟨8, 8, 0xa0, .rwp, .k, (.range 150 200 1)⟩, ⟨0, 8, 0x8c, .rwp, .k, (.range 120 180 1)⟩] },
  -- PWR_VAUX_MEAS
  { off := 0xF0010, hi := none, stride := 0, n := 1, fields := [⟨16, 16, 0, .ro, .d, .any⟩, ⟨0, 16, 0, .ro, .d, .any⟩] },
  -- PWR_VCORE_MEAS
  { off := 0xF0014, hi := none, stride := 0, n := 1, fields := [⟨0, 16, 0, .ro, .d, .any⟩] },
  -- PWR_VIO_MEAS
  { off := 0xF0018, hi := none, stride := 0, n := 1, fields := [⟨16, 16, 0, .ro, .d, .any⟩, ⟨0, 16, 0, .ro, .d, .any⟩] },
  -- PWR_VBAT_MEAS
  { off := 0xF001C, hi := none, stride := 0, n := 1, fields := [⟨0, 16, 0, .ro, .d, .any⟩] },
  -- PWR_HK_CFG
  { off := 0xF0020, hi := none, stride := 0, n := 1, fields := [⟨0, 9, 0x64, .rw, .d, (.range 20 500 10)⟩] },
  -- PWR_HOLD_CFG
  { off := 0xF0024, hi := none, stride := 0, n := 1, fields := [⟨0, 6, 0xa, .rw, .k, (.range 1 60 1)⟩] },
  -- PWR_HOLD_STATE
  { off := 0xF0028, hi := none, stride := 0, n := 1, fields := [⟨31, 1, 0, .ro, .d, .any⟩, ⟨0, 16, 0, .ro, .d, .any⟩] },
  -- PWR_WAKE_CFG
  { off := 0xF002C, hi := none, stride := 0, n := 1, fields := [⟨5, 1, 0, .rw, .k, .any⟩, ⟨4, 1, 0, .rw, .k, .any⟩, ⟨3, 1, 1, .rw, .k, .any⟩, ⟨2, 1, 0, .rw, .k, .any⟩, ⟨1, 1, 1, .rw, .k, .any⟩, ⟨0, 1, 1, .ro, .k, .any⟩] },
  -- PWR_WAKE_GPIO
  { off := 0xF0030, hi := none, stride := 0, n := 1, fields := [⟨0, 32, 0, .rw, .k, .any⟩] },
  -- PWR_WAKE
  { off := 0xF0034, hi := none, stride := 0, n := 1, fields := [⟨0, 1, 0, .wo, .n, .any⟩] },
  -- PWR_WAKE_CAUSE
  { off := 0xF0038, hi := none, stride := 0, n := 1, fields := [⟨8, 1, 0, .ro, .d, .any⟩, ⟨0, 3, 0, .ro, .d, .any⟩] },
  -- PWR_RESET_CAUSE
  { off := 0xF003C, hi := none, stride := 0, n := 1, fields := [⟨8, 8, 0, .ro, .d, .any⟩, ⟨0, 8, 0, .ro, .d, .any⟩] },
  -- PWR_REFUSE_CNT0
  { off := 0xF0040, hi := none, stride := 0, n := 1, fields := [⟨16, 16, 0, .ro, .d, .any⟩, ⟨0, 16, 0, .ro, .d, .any⟩] },
  -- PWR_REFUSE_CNT1
  { off := 0xF0044, hi := none, stride := 0, n := 1, fields := [⟨16, 16, 0, .ro, .d, .any⟩, ⟨0, 16, 0, .ro, .d, .any⟩] },
  -- PWR_REFUSE_CNT2
  { off := 0xF0048, hi := none, stride := 0, n := 1, fields := [⟨16, 16, 0, .ro, .d, .any⟩, ⟨0, 16, 0, .ro, .d, .any⟩] },
  -- PWR_REFUSE_LAST
  { off := 0xF004C, hi := none, stride := 0, n := 1, fields := [⟨8, 8, 0, .ro, .d, .any⟩, ⟨0, 8, 0, .ro, .d, .any⟩] },
  -- PWR_THR_DIE
  { off := 0xF0050, hi := none, stride := 0, n := 1, fields := [⟨16, 8, 0x73, .rw, .k, (.range 95 130 1)⟩, ⟨8, 8, 5, .rw, .k, (.range 1 20 1)⟩, ⟨0, 8, 0x4b, .rw, .k, (.range 10 90 1)⟩] },
  -- PWR_THR_CABLE
  { off := 0xF0054, hi := none, stride := 0, n := 1, fields := [⟨16, 12, 0x320, .rw, .k, (.range 400 1200 1)⟩, ⟨0, 12, 0x352, .rw, .k, (.range 400 1200 1)⟩] },
  -- PWR_THR_COOLANT
  { off := 0xF0058, hi := none, stride := 0, n := 1, fields := [⟨16, 12, 0x258, .rw, .k, (.range 300 1000 1)⟩, ⟨8, 8, 0x32, .rw, .k, (.range 10 200 1)⟩, ⟨0, 8, 0x32, .rw, .k, (.range 10 90 1)⟩] },
  -- PWR_DIE_TEMP
  { off := 0xF005C, hi := none, stride := 0, n := 1, fields := [⟨16, 16, 0, .ro, .d, .any⟩, ⟨0, 3, 0, .ro, .d, .any⟩] },
  -- PWR_DIE_MAX
  { off := 0xF0060, hi := none, stride := 0, n := 1, fields := [⟨0, 32, 0, .ro, .k, .any⟩] },
  -- PWR_SHDN_COUNT
  { off := 0xF0064, hi := none, stride := 0, n := 1, fields := [⟨0, 16, 0, .ro, .k, .any⟩] },
  -- PWR_TJi
  { off := 0xF0080, hi := none, stride := 4, n := 8, fields := [⟨0, 16, 0x8000, .ro, .d, .any⟩] } ]

/-- Registers of the CVU window (R430). -/
def regRowsCVU : List RegRow := [
  -- CVU_LOCK
  { off := 0x100000, hi := none, stride := 0, n := 1, fields := [⟨0, 1, 0, .rw, .d, .any⟩] },
  -- CVU_STATUS
  { off := 0x100004, hi := none, stride := 0, n := 1, fields := [⟨8, 1, 0, .rw1c, .d, .any⟩, ⟨0, 8, 0, .rw1c, .d, .any⟩] },
  -- CVU_Un_CFG
  { off := 0x101000, hi := none, stride := 32, n := 8, fields := [⟨31, 1, 0, .rw, .d, .any⟩, ⟨30, 1, 1, .rw, .d, .any⟩, ⟨29, 1, 1, .rw, .d, .any⟩, ⟨24, 5, 0x1f, .rw, .d, (.range 2 31 1)⟩] },
  -- CVU_Un_POLY
  { off := 0x101004, hi := none, stride := 32, n := 8, fields := [⟨0, 32, 0x1edc6f41, .rw, .d, .any⟩] },
  -- CVU_Un_INIT
  { off := 0x101008, hi := none, stride := 32, n := 8, fields := [⟨0, 32, 0xffffffff, .rw, .d, .any⟩] },
  -- CVU_Un_XOROUT
  { off := 0x10100C, hi := none, stride := 32, n := 8, fields := [⟨0, 32, 0xffffffff, .rw, .d, .any⟩] },
  -- CVU_Un_CHECK
  { off := 0x101010, hi := none, stride := 32, n := 8, fields := [⟨0, 32, 0xe3069283, .ro, .d, .any⟩] },
  -- CVU_Un_ALIVE_CFG
  { off := 0x101014, hi := none, stride := 32, n := 8, fields := [⟨16, 4, 2, .rw, .d, (.range 1 15 1)⟩, ⟨8, 8, 2, .rw, .d, .any⟩, ⟨0, 5, 4, .rw, .d, (.range 1 16 1)⟩] },
  -- CVU_Un_ALIVE_STATE
  { off := 0x101018, hi := none, stride := 32, n := 8, fields := [⟨24, 2, 0, .ro, .d, .any⟩, ⟨16, 4, 0, .ro, .d, .any⟩, ⟨0, 16, 0, .ro, .d, .any⟩] },
  -- CVU_Un_RUNNING
  { off := 0x10101C, hi := none, stride := 32, n := 8, fields := [⟨0, 32, 0, .ro, .d, .any⟩] } ]

/-- The rows of window `b` (R573); a reserved window has none (R574). -/
def regRowsOf : Nat → List RegRow
  | 0x0 => regRowsGLB
  | 0x1 => regRowsPDK
  | 0x2 => regRowsSLK
  | 0x3 => regRowsYMS
  | 0x4 => regRowsWLK
  | 0x5 => regRowsWBG
  | 0x6 => regRowsBIL
  | 0x7 => regRowsDRO
  | 0x8 => regRowsHRN
  | 0x9 => regRowsAUX
  | 0xA => regRowsLSW
  | 0xB => regRowsCAN
  | 0xC => regRowsHLT
  | 0xD => regRowsTCK
  | 0xE => regRowsHAY
  | 0xF => regRowsPWR
  | 0x10 => regRowsCVU
  | _ => []

/-- Every row of the map. -/
def allRegRows : List RegRow :=
  regRowsOf 0x0 ++ regRowsOf 0x1 ++ regRowsOf 0x2 ++ regRowsOf 0x3 ++ regRowsOf 0x4 ++ regRowsOf 0x5 ++ regRowsOf 0x6 ++ regRowsOf 0x7 ++ regRowsOf 0x8 ++ regRowsOf 0x9 ++ regRowsOf 0xA ++ regRowsOf 0xB ++ regRowsOf 0xC ++ regRowsOf 0xD ++ regRowsOf 0xE ++ regRowsOf 0xF ++ regRowsOf 0x10

end Sys2Proof.Machine
end

