-- ==== Sys2Proof/Machine/Bits.lean ====
section
/-!
DEFINITION. Bit fields, two's-complement fields, little-endian byte strings (R8), integer square root, CRC-32C (R97).
-/
namespace Sys2Proof

/-- A little-endian field of `n` bytes holding `v` (R8). -/
def le : Nat → Nat → List Nat
  | 0, _ => []
  | n + 1, v => (v % 256) :: le n (v / 256)

/-- The number a little-endian byte string holds (R8). -/
def leVal : List Nat → Nat
  | [] => 0
  | b :: t => b % 256 + 256 * leVal t

/-- The `n`-byte little-endian field at byte `i` of `bs`; missing bytes read zero. -/
def leAt (bs : List Nat) (i n : Nat) : Nat := leVal ((bs.drop i).take n)

/-- Bit `i` of `v`. -/
def bitOf (v i : Nat) : Bool := v / 2 ^ i % 2 == 1

/-- Bits `[hi:lo]` of `v`. -/
def bitsOf (v hi lo : Nat) : Nat := v / 2 ^ lo % 2 ^ (hi + 1 - lo)

/-- `v` with bit `i` set or cleared. -/
def setBitOf (v i : Nat) (b : Bool) : Nat :=
  if bitOf v i then (if b then v else v - 2 ^ i) else (if b then v + 2 ^ i else v)

/-- The signed number a `w`-bit two's-complement field holds. -/
def toSigned (w v : Nat) : Int := if v % 2 ^ w < 2 ^ (w - 1) then (v % 2 ^ w : Nat) else (v % 2 ^ w : Nat) - (2 ^ w : Nat)

/-- The `w`-bit two's-complement field that holds `i`, wrapping. -/
def ofSigned (w : Nat) (i : Int) : Nat := (i % (2 ^ w : Nat)).toNat

/-- `i` saturated to what a `w`-bit two's-complement field can hold, then encoded. -/
def ofSignedSat (w : Nat) (i : Int) : Nat :=
  ofSigned w (max (-(2 ^ (w - 1) : Nat)) (min i ((2 ^ (w - 1) : Nat) - 1)))

/-- Integer square root by binary digits, from bit `n` down: the largest `r` with `r * r ≤ v`. -/
def isqrtFrom (v : Nat) : Nat → Nat → Nat
  | 0, r => r
  | n + 1, r => if (r + 2 ^ n) * (r + 2 ^ n) ≤ v then isqrtFrom v n (r + 2 ^ n) else isqrtFrom v n r

/-- Integer square root of a number below 2^128. -/
def isqrt (v : Nat) : Nat := isqrtFrom v 64 0

/-- One step of a reflected CRC register of any width: shift right one bit, take `poly` (bit-reversed) when a 1 falls out. -/
def crcStepR (poly c : Nat) : Nat := if c % 2 = 1 then (c / 2) ^^^ poly else c / 2

/-- A byte enters a reflected CRC register. -/
def crcByteR (poly c b : Nat) : Nat :=
  let s := crcStepR poly
  s (s (s (s (s (s (s (s (c ^^^ (b % 256)))))))))

/-- CRC-32C (R97): polynomial 0x1EDC_6F41 reflected, initial value and final XOR 0xFFFF_FFFF. -/
def crc32c (bs : List Nat) : Nat := (bs.foldl (crcByteR 0x82F63B78) 0xFFFFFFFF) ^^^ 0xFFFFFFFF

end Sys2Proof
end

