-- ==== Sys2Proof/Machine/State.lean ====
section
/-!
DEFINITION. The block's state as plain data, and the state right after reset.

Registers are held in ONE sparse list `regs` of (field key, value) pairs (Fields.lean, RegTable.lean): a field the list
does not name holds its reset value. Everything else the spec gives the block (queues, timers, tables, received frames,
captures) is in the structures below, one per block, each `deriving DecidableEq, Repr`.
-/
namespace Sys2Proof.Machine

/-- Why a step stops with a fault. No command of this block does: the spec gives every command an effect, so nobody
raises this constructor; it is here because the host's interface asks for a type of faults. Safe. -/
inductive Fault where
  | unreachable
  deriving DecidableEq, Repr

/-- Why a step is refused. -/
inductive Refusal where
  /-- The command has no meaning in this model yet; raised by its arm in Dispatch.lean. Safe: the model stops. -/
  | notModelled (mnemonic : String)
  deriving DecidableEq, Repr

/-! ### Paddocks (R43-R91) -/

/-- Where a descriptor in flight stands (R64, R67, R73): fetched and waiting, given to its block's queue, taken by its
block, or finished with its completion held. -/
inductive DescPhase where
  | fetched | queued | taken | finished
  deriving DecidableEq, Repr

/-- A descriptor in flight (R64), its fields as in the descriptor table, with what the paddock keeps about it: its SQ,
its fetch number, its place in fetch order (a re-execution takes a new number and keeps its place, R88), the predecessor CHAIN makes it wait for and how that one ended, whether a handover re-executed it, and
how long its block has been waiting. `aux` is a number its block keeps with it (its start number while queued, then a sequence number or
an operation id); `at_` is the Chronobase at which it joined its block's queue; `started` says that it was given to its block (R88). -/
structure Desc where
  sq : Nat
  num : Nat
  ord : Nat
  opcode : Nat
  flags : Nat
  prio : Nat
  tag : Nat
  target : Nat
  epoch : Nat
  length : Nat
  bufaddr : Nat
  param : List Nat
  phase : DescPhase
  dep : Option Nat
  depOk : Option Bool
  retried : Bool
  started : Bool
  aux : Nat
  at_ : Nat
  deriving DecidableEq, Repr

/-- A completion not yet written (R73): CQ, fetch number of its descriptor, TAG, STATUS, FLAGS, RESULT, whether
EVENT_ON_DONE is set, and the Chronobase at completion (R71). -/
structure Cpl where
  cq : Nat
  num : Nat
  tag : Nat
  status : Nat
  flags : Nat
  result : Nat
  onDone : Bool
  chrono : Nat
  deriving DecidableEq, Repr

/-- What the device keeps about one ring besides its registers: the last HOST_SEQ acted on (R55), the last HOST_INDEX
(R54), whether it is stopped until re-enabled (R57, R90), and the records not yet signalled (R81). -/
structure Ring where
  hostSeq : Nat
  hostIdx : Nat
  stopped : Bool
  unsig : Nat
  /-- Producer index of a receive ring, which no register shows. -/
  prod : Nat
  deriving DecidableEq, Repr

def Ring.init : Ring := { hostSeq := 0, hostIdx := 0, stopped := false, unsig := 0, prod := 0 }

/-- The descriptor last fetched from an SQ: its fetch number, whether it has CHAIN, and its outcome once it has one
(true for OK and OK_PARTIAL) (R68). -/
structure LastFetch where
  num : Nat
  chain : Bool
  ok : Option Bool
  deriving DecidableEq, Repr

/-- A paddock, besides its registers: rings 0-7 SQ, 8-11 CQ, 12 EQ, 13 the DRO and
14 the CAN receive ring of the paddock that owns it (R316, R412); the in-flight table in fetch order (R64); held
completions in completion order (R73); the next fetch number, which all paddocks count together (R66); the round-robin pointer (R63); the last fetch of each SQ
(R68); event SEQ and the drops since the last EVENTS_LOST (R76); a held DEVICE_RUN payload (R84); the shadows of R585
as (offset of the _HI register, value); completions and events of descriptors cut loose by an FLR are not delivered
(`orphans` are the started descriptors of R82 that run on without a completion). -/
structure Pdk where
  rings : List Ring
  table : List Desc
  held : List Cpl
  nextNum : Nat
  rr : Nat
  last : List (Option LastFetch)
  evSeq : Nat
  lostSince : Nat
  runHeld : Option (List Nat)
  shadows : List (Nat × Nat)
  orphans : List Desc
  deriving DecidableEq, Repr

def Pdk.init : Pdk :=
  { rings := List.replicate 15 Ring.init, table := [], held := [], nextNum := 0, rr := 0, last := List.replicate 8 none,
    evSeq := 0, lostSince := 0, runHeld := none, shadows := [], orphans := [] }

/-! ### Stall links, Walker and Halter, per stall (R92-R148, R189-R224, R431-R473) -/

/-- One switching edge (R108): offset in 250 ps within its cycle, the cycle, the state (0 off, 1 high, 2 low, 3 both). -/
structure Edge where
  cyc : Nat
  off : Nat
  st : Nat
  deriving DecidableEq, Repr

/-- What the Walker hands the framer for a period (R108, R111, R210, R211). -/
inductive Block where
  /-- EDGES_VALID with up to two edges for each of the six phases. -/
  | edges (ph : List (List Edge))
  /-- HOLD_LAST. -/
  | hold
  /-- Neither bit: an all-zero block. -/
  | none
  deriving DecidableEq, Repr

/-- The samples of one uplink cycle (R114, R115): whether the frame was valid, the ADC codes and phase currents. -/
structure Sample where
  valid : Bool
  v : Int
  i : Int
  iph : List Int
  deriving DecidableEq, Repr

/-- The latest housekeeping value of an index (R117): its value, whether valid, and when it came. -/
structure Hk where
  value : Nat
  valid : Bool
  at_ : Nat
  deriving DecidableEq, Repr

/-- What the terminal reported in IDENT (R126). -/
structure Ident where
  serial : Nat
  maker : Nat
  model : Nat
  hw : Nat
  fw : Nat
  sealW : Nat
  phases : Nat
  epoch : Nat
  vfs : Nat
  ifs : Nat
  frontEnds : Nat
  hkMap : Nat
  fp : List Nat
  /-- Bytes 8 to 71 as sent, which keying signs (R127). -/
  raw : List Nat
  deriving DecidableEq, Repr

def Ident.none : Ident :=
  { serial := 0, maker := 0, model := 0, hw := 0, fw := 0, sealW := 0, phases := 0, epoch := 0, vfs := 0, ifs := 0,
    frontEnds := 0, hkMap := 0, fp := [], raw := [] }

/-- A tunnel channel's receive side (R118): the message gathered so far and the next SEQ expected; transmit side: the
messages waiting, the bytes of the first already sent, the next SEQ. -/
structure Tun where
  rx : Option (List Nat)
  rxSeq : Nat
  tx : List (List Nat)
  txSent : Nat
  txSeq : Nat
  deriving DecidableEq, Repr

def Tun.init : Tun := { rx := none, rxSeq := 0, tx := [], txSent := 0, txSeq := 0 }

/-- The committed record of a stall kept through everything (R133): whether there is one, the fingerprint; seal, epoch and
type are in SLK_Sn_SEAL, SLK_Sn_EPOCH_REC and WLK_Sn_TYPE. `nextEpoch`, `nextType`, `nextFp` are what STALL_CONFIG asked for. -/
structure StallRec where
  committed : Bool
  fp : List Nat
  nextEpoch : Nat
  nextType : Nat
  nextFp : List Nat
  deriving DecidableEq, Repr

def StallRec.init : StallRec := { committed := false, fp := [], nextEpoch := 0, nextType := 0, nextFp := [] }

/-- The settings-journal entry of a stall's record (R133): epoch, type, fingerprint and seal committed. -/
structure RecEntry where
  epoch : Nat
  type : Nat
  fp : List Nat
  sealW : Nat
  deriving DecidableEq, Repr

/-- The device side of a stall link (class E). -/
structure Slk where
  /-- Link state held before LOST (R141). -/
  before : Nat
  /-- Consecutive valid and consecutive invalid uplink frames (R123, R141, R142). -/
  validRun : Nat
  invalidRun : Nat
  /-- Last valid ALIVE and cycles since it (R99); ALIVE of the next downlink frame (R98). -/
  lastAlive : Option Nat
  since : Nat
  aliveDown : Nat
  /-- CYCLE of the last downlink frame and of the one before (R100). -/
  cycle : Nat
  cyclePrev : Nat
  /-- Training (R122-R124): STEP, measured round trips (ns), TURN_NS, echoes seen, STEP 3 cycles sent, IDENT frames. -/
  step : Nat
  trips : List Nat
  turn : Nat
  echoes : Nat
  identRun : Nat
  /-- RESUME frames still to send (R142). -/
  resume : Nat
  ident : Ident
  /-- Last valid STATUS and HALTER_STATUS (R115, R116). -/
  status : Nat
  hstat : Nat
  /-- The newest samples, newest first, at most 16. -/
  samples : List Sample
  /-- Metering: VOLTAGE and CURRENT (six bytes) and CONTACTOR_CLOSED of the frames of the running and of the past
  millisecond by cycle, the MAC fragments of the running one (R136-R138), the keys in force at the start of each. -/
  msNow : List (Option (List Nat))
  msPast : List (Option (List Nat))
  mac : List (Option Nat)
  keyNow : Option (List Nat)
  keyPast : Option (List Nat)
  hk : List (Nat × Hk)
  tun : List Tun
  tunRr : Nat
  /-- Tunnel messages held in QUIET, oldest first (R544). -/
  heldTun : List (Nat × List Nat × Nat)
  /-- The body of the last KEY_OFFER (R127). Keys in force: K_MET, K_DN and K_UP in the 96 bytes derived (R129); at a re-key the
  new set, its SWITCH_MS, and whether the terminal has confirmed it (R132). -/
  offer : List Nat
  keys : Option (List Nat)
  newKeys : Option (List Nat × Nat × Bool)
  ctrDown : Nat
  ctrUp : Nat
  /-- The unanswered management message, as type, PROTECTED and body, and its attempts (R131). -/
  mgmt : Option (List Nat)
  attempts : Nat
  /-- The KEY_RESPONSE waiting for verification (R128), and whether keying has failed and waits to retry. -/
  response : Option (List Nat)
  /-- Complete channel-0 messages received and not yet handled, oldest first. -/
  mgmtIn : List (List Nat)
  keyFailed : Bool
  rekeying : Bool
  /-- CONFIG is accepted, so that the record's entry brings RUN, and that entry was refused and waits (R133). -/
  accepted : Bool
  commitWait : Bool
  /-- The edge block latched for the next frame, and what the terminal plays: per phase its state and the time since its
  last transition at the period start, in 250 ps (R112). -/
  latched : Block
  phState : List Nat
  phLast : List Nat
  /-- Link cycles at which edges were rejected, both-on and other, within the last 1,000 (R113). -/
  rejBoth : List Nat
  rejOther : List Nat
  macFailFirst : Nat
  macFailRound : Nat
  /-- LINK_RETRAINs that wait (R147): paddock, fetch number, whether the link has gone back to TRAINING for it; LINK_DISABLEs that wait. -/
  retrain : List (Nat × Nat × Bool)
  disable : List (Nat × Nat)
  /-- Since when the stall's link is in RUN, in entries to RUN (R194). -/
  runOrder : Nat
  termFaultRound : Bool
  deriving DecidableEq, Repr

def Slk.init : Slk :=
  { before := 0, validRun := 0, invalidRun := 0, lastAlive := none, since := 0, aliveDown := 0, cycle := 0, cyclePrev := 0,
    step := 0, trips := [], turn := 0, echoes := 0, identRun := 0, resume := 0, ident := Ident.none, status := 0, hstat := 0,
    samples := [], msNow := List.replicate 100 none, msPast := List.replicate 100 none, mac := List.replicate 8 none,
    keyNow := none, keyPast := none,
    hk := [], tun := List.replicate 4 Tun.init, tunRr := 1, heldTun := [], offer := [], keys := none, newKeys := none, ctrDown := 0,
    ctrUp := 0, mgmt := none, attempts := 0, response := none, mgmtIn := [], keyFailed := false, rekeying := false, accepted := false, commitWait := false,
    latched := .none, phState := List.replicate 6 0, phLast := List.replicate 6 0, rejBoth := [], rejOther := [],
    macFailFirst := 0, macFailRound := 0, retrain := [], disable := [], runOrder := 0, termFaultRound := false }

/-- A stall type of the active WLK_STALLTYPE table (R189). -/
structure StallType where
  topology : Nat
  phases : Nat
  period : Nat
  dt : Nat
  minPulse : Nat
  maxDuty : Nat
  twoStep : Nat
  iRated : Nat
  vRated : Nat
  iPhMax : Nat
  phArm : Nat
  iPre : Nat
  ccTimeout : Nat
  preTimeout : Nat
  kpI : Nat
  kiI : Nat
  kpV : Nat
  kiV : Nat
  kb : Nat
  vm : Nat
  xiLim : Nat
  deriving DecidableEq, Repr

/-- The Walker's state of one stall besides its registers. -/
structure Wlk where
  /-- Loop states (Q16.16, class H) and LOOP_TUNE overrides in field order (R204, R223). -/
  xv : Int
  xi : Int
  tune : List (Option Nat)
  /-- Ramp: starting current command in 0.1 A, periods run since (R211); none when no ramp runs. -/
  ramp : Option (Int × Nat)
  /-- Pulse-skipping carry and wrapped-pulse ends per phase (R207). -/
  carry : List Nat
  endPrev : List (Option Nat)
  /-- Edges computed for the coming period, and whether the computation was late (R195). -/
  out_ : Block
  late : Bool
  /-- The slack of a late computation (R195), and the link cycle in which the stall's period was last taken up (R194). -/
  lateBy : Int
  computed : Option Nat
  misses : Nat
  /-- CONTACTOR_CLOSE as sent (R199), whether the mode's contactor wait is over (R201), its voltage reference, 0.1 V. -/
  closeReq : Bool
  closed : Bool
  vref : Int
  /-- Chronobase since which the REACHED condition has held (R199). -/
  okSince : Option Nat
  /-- Was RAMP_DOWN requested by the lane (R202)? -/
  requested : Bool
  /-- Did RAMP_DOWN follow a failure (R202)? What stopped the stall, as STALL_STOPPED reports it; Chronobase of the stop. -/
  failed : Bool
  stopWhy : Option Nat
  stopAt : Nat
  /-- The loops start afresh at the next computed period (R206). -/
  afresh : Bool
  /-- Two-step off ordered by the Walker (R211): running, and all-off periods still to send (R212). -/
  twoStep : Bool
  allOff : Nat
  /-- Phase-check counters (R214): open per phase, sense. -/
  openCnt : List Nat
  senseCnt : Nat
  /-- The voltage limit of a ramp that a Device reset leaves running, 0.1 V (R220). -/
  vHold : Option Nat
  /-- |i_out| summed over the periods since the last Trough evaluation, 0.1 A, and how many (R347). -/
  iSum : Nat
  iCnt : Nat
  /-- STALL_STOPs waiting: paddock, fetch number, Chronobase of acceptance, Halter stop already running (R222). -/
  stops : List (Nat × Nat × Nat × Bool)
  /-- LOOP_TUNEs waiting for the next period. -/
  tuneWait : List (Nat × Nat)
  deriving DecidableEq, Repr

def Wlk.init : Wlk :=
  { xv := 0, xi := 0, tune := List.replicate 7 none, ramp := none, carry := List.replicate 6 0,
    endPrev := List.replicate 6 none, out_ := .none, late := false, lateBy := 0, computed := none, misses := 0,
    closeReq := false, closed := false, vref := 0, okSince := none, requested := false, failed := false, stopWhy := none,
    stopAt := 0, afresh := false, twoStep := false,
    allOff := 0, openCnt := List.replicate 6 0, senseCnt := 0, vHold := none, iSum := 0, iCnt := 0, stops := [], tuneWait := [] }

/-- The kind of a Halter stop (R441, R442). -/
inductive StopKind where
  | none | orderly | emergency
  deriving DecidableEq, Repr

/-- The Halter's state of one stall besides its registers (class E). -/
structure Halt where
  stop : StopKind
  /-- Chronobase of the running stop's decision (R441, R442, R444). -/
  stopAt : Nat
  /-- PERMIT has been withdrawn under the running stop (R441, R442). -/
  withdrawn : Bool
  /-- Two all-off periods still to be sent before STOP clears (R442). -/
  allOff : Nat
  /-- Consecutive samples over the current and the voltage trip levels, and since when above 1.02 times (R438). -/
  overI : Nat
  overV : Nat
  sustained : Option Nat
  /-- Consecutive insulation values below the limit (R445 0x04). -/
  imd : Nat
  /-- The ceiling in force before the last fall, and when it fell (R438). -/
  prevCeil : Nat
  fellAt : Nat
  /-- Cable sensors 0 and 1 lost (R452), since when both valid again (R453), SENSORS_LOST pending. -/
  lost0 : Bool
  lost1 : Bool
  sensorsLost : Bool
  /-- Chronobase at which the phase-degraded limit started (R216), and since when one sensor has been lost (R452). -/
  phaseAt : Nat
  sensorAt : Option Nat
  /-- Cable temperature stop pending its release (R445 0x05, 0x06). -/
  hot : Bool
  refusedRound : Bool
  deriving DecidableEq, Repr

def Halt.init : Halt :=
  { stop := .none, stopAt := 0, withdrawn := false, allOff := 0, overI := 0, overV := 0, sustained := none, imd := 0, prevCeil := 0,
    fellAt := 0, lost0 := false, lost1 := false, sensorsLost := false, phaseAt := 0, sensorAt := none, hot := false, refusedRound := false }

/-- The mapping of an E-stop loop as the Halter has it in force (R447): a new one applies at an allocation boundary. -/
structure LoopMap where
  mode : Nat
  safeOut : Bool
  harness : Bool
  groups : Nat
  resetEn : Bool
  resetGpio : Nat
  discrepMs : Nat
  stalls : Nat
  deriving DecidableEq, Repr

def LoopMap.init : LoopMap :=
  { mode := 0, safeOut := false, harness := false, groups := 0, resetEn := false, resetGpio := 0, discrepMs := 100, stalls := 0 }

/-- The Halter's site-wide state besides its registers: mappings in force; per loop whether both channels have been open
together since the latch (R446) and the Chronobase at which it closed; a running proof test as (paddock, fetch number,
TESTS), and the Chronobase at which it started; whether the Harness is disabled. -/
structure Hlt where
  maps : List LoopMap
  bothOpen : List Bool
  closedAt : List Nat
  proof : Option (Nat × Nat × Nat)
  proofAt : Nat
  harnessOff : Bool
  deriving DecidableEq, Repr

def Hlt.init : Hlt :=
  { maps := List.replicate 4 LoopMap.init, bothOpen := List.replicate 4 false,
    closedAt := List.replicate 4 0, proof := none, proofAt := 0, harnessOff := false }

/-! ### Yardmaster (R149-R188) -/

/-- A stall's request slot (R157), class L. -/
structure Req where
  active : Bool
  discharge : Bool
  i : Nat
  v : Nat
  deriving DecidableEq, Repr

def Req.none : Req := { active := false, discharge := false, i := 0, v := 0 }

/-- A node of the active YM_TREE (R153): kinds 0 SITE, 1 FEEDER, 2 CABINET, 3 BUS, 4 STALL, 5 GROUP. -/
structure TreeNode where
  kind : Nat
  index : Nat
  parent : Nat
  imp : Nat
  exp : Nat
  loss : Nat
  cabMask : Nat
  reportMs : Nat
  iLim : Nat
  tier : Nat
  weight : Nat
  floor : Nat
  cap : Nat
  rampUp : Nat
  rampDown : Nat
  derate : Nat
  deriving DecidableEq, Repr

structure Tree where
  nodes : List TreeNode
  vEstMin : Nat
  emergRamp : Nat
  deriving DecidableEq, Repr

def Tree.empty : Tree := { nodes := [], vEstMin := 0, emergRamp := 0 }

/-- A YM_DERATE curve (R162): input and its points (raw encoding of the index, 0.1 A). -/
structure DerateCurve where
  input : Nat
  points : List (Nat × Nat)
  deriving DecidableEq, Repr

/-- What the host asked of a stall with STALL_POLICY (R158); `none` is the table's default. Class H. -/
structure Policy where
  tier : Option Nat
  weight : Option Nat
  floor : Option Nat
  cap : Option Nat
  rampUp : Option Nat
  deriving DecidableEq, Repr

def Policy.init : Policy := { tier := none, weight := none, floor := none, cap := none, rampUp := none }

/-- A node's runtime limits (R185), already clamped to the table; `none` is the table's value. -/
structure NodeLim where
  imp : Option Nat
  exp : Option Nat
  iLim : Option Nat
  deriving DecidableEq, Repr

def NodeLim.init : NodeLim := { imp := none, exp := none, iLim := none }

/-- A cabinet besides its state nibble (R172-R175): the last report, whether a READY report came since the pending ENABLE,
the descriptors that wait, the retirement's start, length and starting AVAIL_OUT, and an ENABLE that cancels it. -/
structure Cab where
  avail : Nat
  store : Nat
  ready : Bool
  enable : List (Nat × Nat)
  retire : List (Nat × Nat)
  retireAt : Nat
  drainMs : Nat
  drainFrom : Nat
  cancel : List (Nat × Nat)
  deriving DecidableEq, Repr

def Cab.init : Cab :=
  { avail := 0, store := 0, ready := false, enable := [], retire := [], retireAt := 0, drainMs := 0, drainFrom := 0,
    cancel := [] }

/-- A throttle of a stall or of the device besides its register (R180-R182): whether the grace time runs and when it ends,
whether the last freeze found it satisfied, the housekeeping indices whose conditions hold: above their threshold and not yet below the release (R557), 6 the flow (R349). Class E. -/
structure Throttle where
  grace : Bool
  ends : Nat
  satisfied : Bool
  overs : List Nat
  deriving DecidableEq, Repr

def Throttle.init : Throttle := { grace := false, ends := 0, satisfied := true, overs := [] }

/-- A stall's inputs as frozen (R160): its node, demand and effective floor in 0.1 A, V_est in 0.1 V, policy, the least
ceiling. -/
structure FStall where
  stall : Nat
  node : Nat
  active : Bool
  discharge : Bool
  dem : Nat
  floor : Nat
  vEst : Nat
  tier : Nat
  weight : Nat
  rampUp : Nat
  rampDown : Nat
  ceil : Nat
  throttled : Bool
  derated : Bool
  deriving DecidableEq, Repr

/-- The inputs of a freeze (R24): the tree and its epoch; stalls; each node's import capacity without its cabinets, export
capacity, current limit (0.1 kW, 0.1 A), its cabinets' AVAIL_OUT and STORE_AVAIL and whether one of them is RETIRING; the
privileged ceilings, which nodes they clamp and which have a runtime limit; whether the scheduled solve over them still runs. -/
structure Frozen where
  at_ : Nat
  epoch : Nat
  nodes : List TreeNode
  stalls : List FStall
  imp : List Nat
  exp : List Nat
  iLim : List Nat
  avail : List Nat
  store : List Nat
  taper : List Bool
  priv : List (Option (Nat × Nat))
  clamped : List Bool
  limited : List Bool
  solving : Bool
  deriving DecidableEq, Repr

def Frozen.blank : Frozen :=
  { at_ := 0, epoch := 0, nodes := [], stalls := [], imp := [], exp := [], iLim := [], avail := [], store := [], taper := [],
    priv := [], clamped := [], limited := [], solving := false }

/-- A record of the last solve for ALLOC_QUERY (R187): per frozen stall its power (0.01 W, negative for discharge) and whether
its floor was short, and per node capacity, load, export (0.1 kW) and whether it is full. -/
structure SolveRec where
  power : List Int
  short : List Bool
  capacity : List Nat
  load : List Nat
  expo : List Nat
  full : List Bool
  deriving DecidableEq, Repr

def SolveRec.init : SolveRec := { power := [], short := [], capacity := [], load := [], expo := [], full := [] }

/-- What a STALL_POLICY sets (R184): per field none where it leaves it unchanged. -/
structure PolicyChange where
  tier : Option (Option Nat)
  weight : Option (Option Nat)
  floor : Option (Option Nat)
  cap : Option (Option Nat)
  rampUp : Option (Option Nat)
  deriving DecidableEq, Repr

def PolicyChange.none : PolicyChange :=
  { tier := Option.none, weight := Option.none, floor := Option.none, cap := Option.none, rampUp := Option.none }

/-- A policy after a change. -/
def PolicyChange.on (c : PolicyChange) (q : Policy) : Policy :=
  { tier := c.tier.getD q.tier, weight := c.weight.getD q.weight, floor := c.floor.getD q.floor, cap := c.cap.getD q.cap
    rampUp := c.rampUp.getD q.rampUp }

/-- A STALL_POLICY or NODE_LIMIT that waits for its solve (R179, R184, R185): whether a freeze has used it, whether it asks for
more power and a cabinet was lost or retired since, the target or capacity at acceptance, what it sets, and what a withdrawal
restores. -/
structure Ask where
  p : Nat
  num : Nat
  node : Bool
  target : Nat
  used : Bool
  more : Bool
  hit : Bool
  atAccept : Nat
  clamped : Bool
  change : PolicyChange
  newLim : NodeLim
  oldPolicy : Policy
  oldLim : NodeLim
  deriving DecidableEq, Repr

/-- An emergency re-solve that runs (R176): node, cause, and the triggers that came since (R177). -/
structure Emerg where
  node : Nat
  cause : Nat
  next : List (Nat × Nat)
  deriving DecidableEq, Repr

structure Yms where
  tree : Tree
  derate : List (List DerateCurve)
  req : List Req
  /-- Applied setpoints staged for the next allocation boundary, 0.1 A (R167, R198). -/
  staged : List (Option Int)
  policy : List Policy
  lims : List NodeLim
  cabs : List Cab
  throttle : List Throttle
  throttleDev : Throttle
  /-- The last freeze, and the frozen inputs and record of the last completed solve. -/
  frozen : Option Frozen
  solved : Option Frozen
  rec_ : SolveRec
  asks : List Ask
  emerg : Option Emerg
  /-- Stalls on an emergency ramp (R168). -/
  emRamp : List Nat
  /-- Emergency since the last boundary, floor short, clamp acted, overrun: the FLAGS of ALLOC_QUERY. -/
  flags : Nat
  floorRound : Bool
  deriving DecidableEq, Repr

def Yms.init : Yms :=
  { tree := Tree.empty, derate := [], req := List.replicate 48 Req.none, staged := List.replicate 48 none,
    policy := List.replicate 48 Policy.init, lims := List.replicate 96 NodeLim.init, cabs := List.replicate 16 Cab.init,
    throttle := List.replicate 48 Throttle.init, throttleDev := Throttle.init, frozen := none, solved := none,
    rec_ := SolveRec.init, asks := [], emerg := none, emRamp := [], flags := 0, floorRound := false }


/-! ### Harness and Trough (R345-R377) -/

/-- A TRG_CURVE stall entry (R346); points as (input raw, flow in 0.01 L/min). -/
structure Curve where
  flowTrim : Bool
  iPts : List (Nat × Nat)
  tPts : List (Nat × Nat)
  tInput : Nat
  flowMax : Nat
  pumpMin : Nat
  pumpMax : Nat
  fsPump : Nat
  fsValve : Nat
  valveOn : Nat
  valveIdle : Nat
  trimStep : Nat
  lowPct : Nat
  lowS : Nat
  flowCeil : Nat
  deriving DecidableEq, Repr

/-- A TRG_CURVE central entry (R353); points as (input raw, duty in 0.01 %). -/
structure Central where
  input : Nat
  mask : Nat
  fsDuty : Nat
  pts : List (Nat × Nat)
  deriving DecidableEq, Repr

/-- A bridge besides its registers: commanded and applied duties U, V, W (0.01 %; Hall3 uses the first), the commanded
direction, PHASE_MASK, whether it goes to OFF at the end of its ramp; from which duties and when the running ramp started; the
pattern in force and whether the Hall state is invalid; Chronobase of the last valid Hall edge; direct inputs (UH, UL, VH, VL,
WH, WL from bit 0); until when each switch stays off; consecutive OC periods per switch and the last one; the BRIDGE_SETs that wait. -/
structure Bridge where
  want : List Nat
  applied : List Nat
  dir : Nat
  mask : Nat
  toOff : Bool
  rampFrom : List Nat
  rampAt : Nat
  pattern : Option Nat
  hallBad : Bool
  lastEdge : Nat
  inputs : Nat
  offUntil : List Nat
  ocRun : List Nat
  ocLast : List Nat
  waits : List (Nat × Nat × Bool)
  deriving DecidableEq, Repr

def Bridge.init : Bridge :=
  { want := [0, 0, 0], applied := [0, 0, 0], dir := 0, mask := 0, toOff := false, rampFrom := [0, 0, 0], rampAt := 0, pattern := none, hallBad := false,
    lastEdge := 0, inputs := 0, offUntil := List.replicate 6 0, ocRun := List.replicate 6 0,
    ocLast := List.replicate 6 0, waits := [] }

/-- The Harness and Trough besides their registers: the active tables, per-stall trims (0.1 %, class H), cable
sensors last seen valid (bits 0, 1), COOLING_SETs waiting for a frame as (stall, paddock, fetch number, evaluated), both-on rejections of the last
10 ms. -/
structure Hrn where
  curves : List Curve
  central : List Central
  commute : List (List Nat × List Nat)
  trim : List Int
  seen : List Nat
  coolWait : List (Nat × Nat × Nat × Bool)
  bridges : List Bridge
  bothOn : List Nat
  deriving DecidableEq, Repr

def Hrn.init : Hrn :=
  { curves := [], central := [], commute := [], trim := List.replicate 48 0, seen := List.replicate 48 0, coolWait := [],
    bridges := List.replicate 8 Bridge.init, bothOn := [] }

/-! ### Auxiliary regulators, load switches, the release of held outputs (R378-R401) -/

/-- A regulator besides its registers: the slew in force (0.01 V/ms), from which reference (mV, output-referred) and when the
running slew started, the phase braking interrupted, hiccups since PGOOD, whether it is wanted on, the AUX_SET in flight. -/
structure Aux where
  slew : Nat
  slewFrom : Nat
  slewAt : Nat
  braked : Nat
  hiccups : Nat
  wanted : Bool
  wait : Option (Nat × Nat)
  deriving DecidableEq, Repr

def Aux.init : Aux := { slew := 0, slewFrom := 0, slewAt := 0, braked := 0, hiccups := 0, wanted := false, wait := none }

/-- A load-switch channel besides its registers: since when it is off, the LSW_SET in flight, the peak of the inrush window,
samples of the housekeeping round (sum, count), and the last edges of its pin (rising, falling). -/
structure Lsw where
  offAt : Option Nat
  wait : Option (Nat × Nat)
  peak : Nat
  sum : Nat
  cnt : Nat
  rise : Option Nat
  fall : Option Nat
  deriving DecidableEq, Repr

def Lsw.init : Lsw := { offAt := none, wait := none, peak := 0, sum := 0, cnt := 0, rise := none, fall := none }

/-- A release of held outputs that runs (R373, R397, R553): `off` when every output ends off; the bridges, channels and
regulators still to do, the masks of what was done, the OUTPUT_ADOPTs that wait for its end. -/
structure Release where
  running : Bool
  off : Bool
  bridges : List Nat
  chans : List Nat
  auxes : List Nat
  bridgeMask : Nat
  chanMask : Nat
  auxOff : Nat
  auxBoot : Nat
  waits : List (Nat × Nat)
  deriving DecidableEq, Repr

def Release.init : Release :=
  { running := false, off := false, bridges := [], chans := [], auxes := [], bridgeMask := 0, chanMask := 0, auxOff := 0,
    auxBoot := 0, waits := [] }

/-! ### Weighbridge and Billing (R225-R308) -/

/-- A path's calibration record (R239), as CAL_APPLY gives it. -/
structure Cal where
  vGain : Nat
  vOfs : Int
  iGain : Nat
  iOfs : Int
  phase : Int
  refId : Nat
  deriving DecidableEq, Repr

/-- Unity gain, no offset (notes/assumptions/41.md). -/
def Cal.init : Cal := { vGain := 2 ^ 30, vOfs := 0, iGain := 2 ^ 30, iOfs := 0, phase := 0, refId := 0 }

/-- What a session binding carries (R289, R325): handle, CONTRACT_REF (16 bytes), the prepay account if any. -/
structure Bind where
  handle : Nat
  contract : List Nat
  account : Option Nat
  deriving DecidableEq, Repr

/-- An open session of a channel (R283, R289): its binding, its number, the RECORD_SEQ of its START record once a store carries
it, its unmetered milliseconds, whether it has ended and waits for its contactors, whether a Device reset ended it. -/
structure Sess where
  bind : Bind
  id : Nat
  start : Nat
  unmet : Nat
  ending : Bool
  reset : Bool
  deriving DecidableEq, Repr

/-- The AFE of a feeder (R231, R232, R234, R243): VSCALE, ISCALE and SENSOR as the running millisecond uses them; the samples
of the line cycle that runs and of the last complete one, codes of paths A, B, C and N after integrator and trim; the
integrators; the current codes of the sample before, for the trim. -/
structure Afe where
  vs : Nat
  is : Nat
  sens : Nat
  cyc : List (List (Int × Int))
  last : List (List (Int × Int))
  integ : List Int
  lastI : List Int
  deriving DecidableEq, Repr

def Afe.init : Afe :=
  { vs := 4000, is := 20000, sens := 0x32002A, cyc := [], last := [], integ := List.replicate 4 0, lastI := List.replicate 4 0 }

/-- A metering channel besides its registers. Energies are in 2^-32 mWh. -/
structure Met where
  /-- FWD and REV tariff registers T0 to T7 with their residues (R263). -/
  tf : List Nat
  tr : List Nat
  /-- The open interval: import and export sums with the residues carried over, unmetered milliseconds, channel flags of
  the block (bits 8 to 11, R285). -/
  ivF : Nat
  ivR : Nat
  ivUnmet : Nat
  ivFlags : Nat
  /-- START_WALL of the block that holds MAX_DEMAND (R286). -/
  maxStart : Nat
  /-- Residue of the diagnostic estimate (R228). -/
  est : Nat
  /-- Calibration by path (R239) and the fingerprint it is bound to (R242). -/
  cal : List Cal
  calFp : List Nat
  /-- Feeder: its AFE; has the AFE reference check failed (R234)? Its alarms present now (bits 0 to 3 over-range of a path,
  4 neutral mismatch, 5 frequency), and for how many milliseconds the neutral mismatch has lasted. -/
  afe : Afe
  fault : Bool
  alarm : Nat
  neutral : Nat
  /-- A binding that waits for its opening (R289), and the open session. -/
  bind : Option Bind
  sess : Option Sess
  deriving DecidableEq, Repr

def Met.init : Met :=
  { tf := List.replicate 8 0, tr := List.replicate 8 0, ivF := 0, ivR := 0, ivUnmet := 0, ivFlags := 0, maxStart := 0, est := 0,
    cal := List.replicate 4 Cal.init, calFp := [], afe := Afe.init, fault := false, alarm := 0, neutral := 0, bind := none, sess := none }

/-- A pulse output (R252-R254): residue in 2^-32 mWh, the due times of the pulses not started, when the pulse that is on
ends, when the last one ended. -/
structure Pulse where
  res : Nat
  queue : List Nat
  on : Option Nat
  lastEnd : Option Nat
  deriving DecidableEq, Repr

def Pulse.init : Pulse := { res := 0, queue := [], on := none, lastEnd := none }

/-- A COMPARE on an S0 input (R256): its descriptor, the reference pulses to count, the edges after the first, the instants
of the opening and the closing edge, the channel's energy in 2^-32 mWh up to the samples of the last 21 ms, and those samples:
an edge is recognised up to 20 ms after its instant (R255). -/
structure Compare where
  p : Nat
  num : Nat
  window : Nat
  edges : Nat
  open_ : Option Nat
  close : Option Nat
  e : Nat
  hist : List (Nat × Nat)
  deriving DecidableEq, Repr

/-- A calibration that waits for its millisecond (R240, R243): channel, path (0xFF for scale registers), the record, the
millisecond from which it applies, its descriptor if any. -/
structure CalWait where
  ch : Nat
  path : Nat
  cal : Cal
  from_ : Nat
  desc : Option (Nat × Nat)
  deriving DecidableEq, Repr

/-- Wall time as a function of the Chronobase (R267, R270): at Chronobase `at_` it was `val`, in 2^-16 s divided by
2.5 * 10^14; it runs `ppm` fast until `total` of the same unit is absorbed. -/
structure Clock where
  val : Int
  at_ : Nat
  ppm : Int
  total : Int
  deriving DecidableEq, Repr

def Clock.init : Clock := { val := 0, at_ := 0, ppm := 0, total := 0 }

/-- What holds at an instant that a reading, a block or a store captures (R281, R292, R295): the Chronobase, wall time, legal
tick and wall clock, the flags TIME_INVALID, TARIFF_FROZEN and TAMPER_OPEN as FLAGS of R292 numbers them, the open tamper
inputs, and each channel's state and whether an S0 input feeds it. -/
structure Moment where
  at_ : Nat
  wall : Nat
  tick : Nat
  clk : Clock
  flags : Nat
  tamper : Nat
  states : List Nat
  subs : List Bool
  deriving DecidableEq, Repr

/-- The open interval as it stands (R283): wall time, legal tick and Chronobase at opening, the wall time that ends it, its
length in force, block flags so far, the tariff at opening, the end of the last closed interval, its BLOCK_SEQ. -/
structure Interval where
  wall : Nat
  tick : Nat
  at_ : Int
  end_ : Nat
  min_ : Nat
  flags : Nat
  tariff : Nat
  lastEnd : Nat
  seq : Nat
  deriving DecidableEq, Repr

/-- What Billing does at a split point (R237, R281). Until the point is reached, a store captures what stood before it. -/
inductive Step where
  /-- The interval `was` closes: the 64 bytes of its block's header (R285). -/
  | interval (head : List Nat) (was : Interval) (x : Moment)
  /-- The tariff that the samples from here on go to; BIL_LAST_SWITCH before. -/
  | tariff (new last : Nat)
  /-- The channel's session closes or opens (R289). -/
  | closeSess (ch : Nat) (x : Moment)
  | openSess (ch : Nat) (x : Moment)
  /-- The sealing of a midnight (R287), and the last one sealed before. -/
  | seal (midnight was : Nat) (x : Moment)
  deriving DecidableEq, Repr

/-- A split point (R237): its instant, the stall channel it belongs to (none for a site-wide one), what happens there,
whether it was deferred (R238). -/
structure Split where
  at_ : Nat
  ch : Option Nat
  steps : List Step
  deferred : Bool
  deriving DecidableEq, Repr

/-- The Weighbridge besides its channels. -/
structure Wbg where
  met : List Met
  pulses : List Pulse
  /-- COMPARE by S0 input, and the instants of SUBSTITUTE edges not yet added (R257). -/
  cmp : List (Option Compare)
  edges : List (List Nat)
  cals : List CalWait
  splits : List Split
  /-- The first millisecond not yet committed, the Chronobase of the newest durable capture (R247), and what held at the last
  allocation boundary. -/
  nextMs : Nat
  capAt : Nat
  edge : Option Moment
  deriving DecidableEq, Repr

def Wbg.init : Wbg :=
  { met := List.replicate 52 Met.init, pulses := List.replicate 4 Pulse.init, cmp := List.replicate 4 none,
    edges := List.replicate 4 [], cals := [], splits := [], nextMs := 0, capAt := 0, edge := none }

/-- A prepay account that is not as shipped (R298): balance, EMERG_LIMIT, whether the live balance stands below LOW_WARN and
at or below -EMERG_LIMIT (R300), the wall time of the last durable change (R307). -/
structure Acct where
  n : Nat
  bal : Int
  lim : Nat
  low : Bool
  exh : Bool
  changed : Nat
  deriving DecidableEq, Repr

/-- The debit of a session on an account (R299), in 2^-32 of 0.0001 unit, and the whole units already moved into the
balance; kept until a durable checkpoint carries the session's end. -/
structure Debit where
  id : Nat
  account : Option Nat
  amt : Int
  moved : Int
  closed : Bool
  deriving DecidableEq, Repr

/-- What a durable reading does besides being signed: completes a descriptor with RECORD_SEQ, or adds to an account and sets
its limit and then completes. -/
structure After where
  desc : Option (Nat × Nat)
  account : Option (Nat × Int × Option Nat)
  deriving DecidableEq, Repr

/-- A reading captured and not yet durable (R295): the fields of R292 that its capture fixes. `bind`, `debit` and
`sessUnmet` are what an energy body takes from a session; `again` says that its store was refused. -/
structure Reading where
  kind : Nat
  seq : Nat
  flags : Nat
  ch : Option Nat
  wall : Nat
  tick : Nat
  chrono : Nat
  boot : Nat
  body : List Nat
  bind : Option Bind
  debit : Int
  sessUnmet : Nat
  after_ : After
  again : Bool
  deriving DecidableEq, Repr

/-- A READING_TAKE accepted at Chronobase `at_` and waiting for its boundary (R304). -/
structure Take where
  at_ : Nat
  ch : Nat
  resetMax : Bool
  p : Nat
  num : Nat
  deriving DecidableEq, Repr

/-- An entry of the always-on tamper log (R302) and the entries dropped just before it. -/
structure TamperEntry where
  input : Nat
  edge : Nat
  vbat : Bool
  wall : Nat
  tick : Nat
  dropped : Nat
  deriving DecidableEq, Repr

/-- A GAP window that a restore opened and the first committed millisecond ends (R248): is there a record it starts at; that
record's wall time, legal tick, Chronobase and sequence; the cause; the sessions closed; whether the RTC ran. -/
structure Reopen where
  gap : Bool
  wall : Nat
  tick : Nat
  at_ : Nat
  seq : Nat
  cause : Nat
  closed : Nat
  vbat : Bool
  deriving DecidableEq, Repr

/-- Billing besides its registers and the channels. -/
structure Bil where
  clk : Clock
  /-- The tariff in force, and the one that the next sample to be committed goes to (R23). -/
  tariff : Nat
  route : Nat
  /-- The tariff switches of the last 21 ms: instant and tariff before; the wall time up to which the calendar's switches are
  done or passed over; a BIL_TARIFF payload replaced at Chronobase `.1`, until the samples before that are committed. -/
  routes : List (Nat × Nat)
  switched : Nat
  oldPrices : Option (Nat × List Nat)
  /-- The active BIL_TARIFF and BIL_CALENDAR payloads (R276, R277); empty before the first. -/
  tariffTab : List Nat
  calTab : List Nat
  /-- The open interval (R283): wall time, legal tick and Chronobase at opening, the wall time of the boundary that ends it,
  its length in force, its block flags so far, the tariff at opening, the end of the last closed interval. -/
  ivWall : Nat
  ivTick : Nat
  ivAt : Int
  ivEnd : Nat
  ivMin : Nat
  ivFlags : Nat
  ivTariff : Nat
  lastEnd : Nat
  /-- BLOCK_SEQ of the next block, blocks queued and not yet written (R283), blocks since the last seal, the BLOCK_SEQ of the
  first of them, the last midnight sealed (R287). -/
  blockSeq : Nat
  blocks : List (List Nat)
  unsealed : List (List Nat)
  sealFrom : Nat
  lastSeal : Nat
  frozen : Bool
  accounts : List Acct
  debits : List Debit
  nextSess : Nat
  /-- Has GENESIS been captured in this chain (R294), and its wall time (R269)? -/
  genesis : Bool
  genesisWall : Nat
  waiting : List Reading
  takes : List Take
  /-- The reading journal (R295): durable and unsigned; the last signed record of the chain. -/
  journal : List Reading
  lastRec : List Nat
  tlog : List TamperEntry
  tdrop : Nat
  /-- The levels that the tamper inputs last held: bit 0 cover, bit 1 terminal block. -/
  levels : Nat
  /-- A store is asked for (R244, R246): when one was forced, the kind of a refused one to retry; CHECKPOINT_NOWs waiting,
  with the Chronobase of their acceptance; the boundary of the last store. -/
  ckForced : Option Nat
  ckRetry : Option Nat
  ckWaits : List (Nat × Nat × Nat)
  ckAt : Nat
  /-- FINAL_OK has read 1 since RUN (R40); a GAP record is not yet durable. -/
  finalSeen : Bool
  gapWait : Bool
  reopen : Option Reopen
  /-- Steps waiting for their instants (R271): AT_CHRONOBASE, NEW_TIME, descriptor. -/
  stepWait : List (Nat × Nat × Nat × Nat)
  deriving DecidableEq, Repr

def Bil.init : Bil :=
  { clk := .init, tariff := 0, route := 0, routes := [], switched := 0, oldPrices := none, tariffTab := [], calTab := [], ivWall := 0, ivTick := 0, ivAt := 0, ivEnd := 0, ivMin := 15,
    ivFlags := 0, ivTariff := 0, lastEnd := 0, blockSeq := 0, blocks := [], unsealed := [], sealFrom := 0, lastSeal := 0,
    frozen := false, accounts := [], debits := [], nextSess := 0, genesis := false, genesisWall := 0, waiting := [],
    takes := [], journal := [], lastRec := [], tlog := [], tdrop := 0, levels := 0, ckForced := none, ckRetry := none,
    ckWaits := [], ckAt := 0, finalSeen := false, gapWait := false, reopen := none, stepWait := [] }

/-- A Weighbridge store's capture (R245, R283): sequence, what holds at its boundary, the class K values of the WBG and BIL
windows that hardware writes, the boot count, the channels, the outputs with the time left of a pulse that is on, PULSES_AHEAD
then, Billing, and how many of the waiting readings it carries. `final` marks a final store (R248); `ok` is false once a
power-up has found that the record fails its check. -/
structure Ckpt where
  seq : Nat
  edge : Moment
  regs : List (Nat × Nat)
  boot : Nat
  met : List Met
  pulses : List Pulse
  ahead : List Nat
  bil : Bil
  readings : Nat
  final : Bool
  ok : Bool
  deriving DecidableEq, Repr

/-! ### Drover (R309-R344) -/

/-- An allow-list entry (R332); ID_HASH as the big-endian number of its 32 bytes, so that order is byte order. -/
structure Entry where
  hash : Nat
  kind : Nat
  status : Nat
  cls : Nat
  flags : Nat
  account : Nat
  from_ : Nat
  to_ : Nat
  deriving DecidableEq, Repr

/-- A leaf (R332): the least first-8-bytes value it may hold (the leaf index), its entries in order, whether it is lost
(R523). -/
structure Leaf where
  low : Nat
  entries : List Entry
  lost : Bool
  deriving DecidableEq, Repr

/-- A delta being merged (R334, R335). -/
structure Overlay where
  clear : Bool
  serial : Nat
  entries : List Entry
  /-- The leaf to rewrite next, and what runs for it: 0 nothing, 1 its store, 2 nothing but its index is to be stored, 3 the
  store of its index. -/
  next : Nat
  busy : Nat
  deriving DecidableEq, Repr

/-- Why a session's lookup runs (R323, R338): the first decision, the fallback of mode 3, a host's token with its descriptor. -/
inductive LookFor where
  | first | fallback
  | token (p num kind : Nat) (ident hash : List Nat)
  deriving DecidableEq, Repr

/-- An allow-list lookup running or waiting for a place (R333): a session's, or an ALLOW_LOOKUP's, with what its leaf read
turns out to be (R523). -/
inductive Look where
  | ctx (i : Nat)
  | op (p num : Nat) (uncorr : Bool)
  deriving DecidableEq, Repr

/-- A control record whose completion waits (R342): for the slot write, for the mode request, or for LINGER. -/
structure Ctrl where
  p : Nat
  num : Nat
  wait : Nat
  deriving DecidableEq, Repr

/-- A session context (R312, R340). `state` as the context states number it; the generation is kept when it is FREE. -/
structure Ctx where
  state : Nat
  gen : Nat
  stall : Nat
  chan : Nat
  host : Bool
  proto : Nat
  mstate : Nat
  bank : Nat
  auth : Nat
  source : Nat
  tls : Nat
  flags : Nat
  cause : Nat
  evccid : List Nat
  maxI : Nat
  maxV : Nat
  maxP : Int
  iReq : Nat
  vReq : Nat
  tgtV : Nat
  soc : Nat
  depart : Nat
  openAt : Nat
  lingerAt : Nat
  contract : List Nat
  account : Option Nat
  cls : Nat
  idKind : Nat
  idHash : List Nat
  ident : List Nat
  timers : List Nat
  /-- The security the vehicle's last SDP request before its connection asked for (R309). -/
  ask : Option Bool
  /-- TCP: whether a connection stands, retransmissions of the segment now (R311). -/
  conn : Bool
  retries : Nat
  /-- The mode the lane is asked for, with V_TARGET (R321). -/
  want : Option (Nat × Nat)
  /-- The host has answered the message routed to it (guard HOST_ANSWERED). -/
  answered : Bool
  look : Option LookFor
  stops : List (Nat × Nat)
  ctrls : List Ctrl
  deriving DecidableEq, Repr

def Ctx.init : Ctx :=
  { state := 0, gen := 0, stall := 0, chan := 0, host := false, proto := 0, mstate := 0, bank := 0, auth := 0, source := 0,
    tls := 0, flags := 0, cause := 0, evccid := [], maxI := 0, maxV := 0, maxP := 0, iReq := 0, vReq := 0, tgtV := 0, soc := 0xFF,
    depart := 0, openAt := 0, lingerAt := 0, contract := [], account := none, cls := 0, idKind := 0, idHash := [], ident := [],
    timers := [], ask := none, conn := false, retries := 0, want := none, answered := false, look := none, stops := [], ctrls := [] }

/-- A TUNNEL_SEND of KIND 0 or 1 waiting for its last fragment to leave (R341): messages of its channel still ahead of and
including it. -/
structure Send where
  p : Nat
  num : Nat
  stall : Nat
  chan : Nat
  left : Nat
  handle : Nat
  deriving DecidableEq, Repr

/-- The Drover, besides its registers. -/
structure Dro where
  ctxs : List Ctx
  leaves : List Leaf
  overlay : Option Overlay
  /-- The two banks of DRO_SM and DRO_EXI payloads (R319) and the active one. -/
  banks : List (List Nat × List Nat)
  active : Nat
  sends : List Send
  /-- Lookups in order of arrival: the first 16 run, the others wait (R333). -/
  looks : List Look
  deriving DecidableEq, Repr

def Dro.init : Dro :=
  { ctxs := List.replicate 128 Ctx.init, leaves := [⟨0, [], false⟩], overlay := none, banks := [([], []), ([], [])], active := 0,
    sends := [], looks := [] }

/-! ### CAN channels and check-value units (R402-R430) -/

/-- Where an alive counter stands (R425). -/
inductive AlivePhase where
  | fresh | resync | valid
  deriving DecidableEq, Repr

/-- An alive state (R425): state, reference value, sync count. -/
structure Alive where
  phase : AlivePhase
  ref : Nat
  n : Nat
  deriving DecidableEq, Repr

def Alive.init : Alive := { phase := .fresh, ref := 0, n := 0 }

/-- A signal record of a CAN_FORMAT entry (R418). -/
structure CanSignal where
  start : Nat
  len : Nat
  big : Bool
  signed : Bool
  scale : Int
  deriving DecidableEq, Repr

/-- A CAN_FORMAT entry (R418): `sigs` are READY, TRIP, AVAIL_OUT and STORE_AVAIL; with the alive state of its decoder. -/
structure CanEntry where
  ctrl : Nat
  flags : Nat
  cab : Nat
  minLen : Nat
  id : Nat
  crcW : Nat
  crcFlags : Nat
  crcByte : Nat
  cntBits : Nat
  poly : Nat
  crcInit : Nat
  xorOut : Nat
  dataId : Nat
  cntStart : Nat
  maxDelta : Nat
  sync : Nat
  sigs : List CanSignal
  alive : Alive
  deriving DecidableEq, Repr

/-- A frame in a receive FIFO (R410, R411): its controller, start-of-frame stamp, the matching element or none for NOMATCH,
whether an element with ACTION 2 stored it. -/
structure CanRx where
  ctrl : Nat
  frame : CanFrame
  stamp : Nat
  filter : Option Nat
  prio : Bool
  deriving DecidableEq, Repr

/-- A frame in a transmit queue (R413): its descriptor, when it was accepted, ONE_SHOT. -/
structure CanTx where
  p : Nat
  num : Nat
  at_ : Nat
  oneShot : Bool
  frame : CanFrame
  deriving DecidableEq, Repr

/-- A controller besides its registers: transmit queue in acceptance order, frames dropped since its previous receive slot,
whether CAN_RX_LOST has been raised this round, whether a recovery runs (R417), the CAN_RECOVERs that wait and when each
started. -/
structure CanCtl where
  tx : List CanTx
  lost : Nat
  lostTold : Bool
  recovering : Bool
  waits : List (Nat × Nat × Nat)
  deriving DecidableEq, Repr

def CanCtl.init : CanCtl := { tx := [], lost := 0, lostTold := false, recovering := false, waits := [] }

/-- CAN and CVU besides their registers: the receive FIFOs as one list, oldest first, with controller numbers; the table;
the faults told this round as (cabinet, cause); for each unit the paddock, TAG, status and RESULT of its last alive update
(R428). -/
structure Can where
  ctls : List CanCtl
  fifo : List CanRx
  table : List CanEntry
  told : List (Nat × Nat)
  last : List (Option (Nat × Nat × Nat × Nat))
  deriving DecidableEq, Repr

def Can.init : Can :=
  { ctls := List.replicate 8 CanCtl.init, fifo := [], table := [], told := [], last := List.replicate 8 none }

/-! ### Tack Room (R475-R508) -/

/-- A table in the staging area (R494), by image kind: its EPOCH, RB_VALUE and payload in plaintext. -/
structure Staged where
  kind : Nat
  epoch : Nat
  rb : Nat
  payload : List Nat
  deriving DecidableEq, Repr

/-- A firmware slot (R467, R488, R493): its image's EPOCH, RB_VALUE, snapshot formats (written, least and greatest read) and
header, and whether it is marked bad (R468) or lost (R523). -/
structure FwSlot where
  version : Nat
  rb : Nat
  snapWrite : Nat
  snapMin : Nat
  snapMax : Nat
  header : List Nat
  bad : Bool
  deriving DecidableEq, Repr

/-- The image as shipped is not described: every field zero (DESIGN CHOICE, notes/assumptions/43.md). -/
def FwSlot.init : FwSlot :=
  { version := 0, rb := 0, snapWrite := 0, snapMin := 0, snapMax := 0, header := List.replicate 256 0, bad := false }

/-- A paddock's stored charter (R501). -/
structure Charter where
  rights : Nat
  holder : List Nat
  deriving DecidableEq, Repr

/-- What a power loss before the activation record is durable restores (R496): epoch, active payloads with their epochs, staged
tables, counters 1 to 11, overlay and entry count of the allow-list. -/
structure Before where
  epoch : Nat
  active : List (Nat × List Nat)
  staged : List Staged
  counters : List Nat
  overlay : Option Overlay
  count : Nat
  deriving DecidableEq, Repr

/-- The Tack Room besides its registers: staged and active tables (kind 0x10 + k at place k, with its epoch); the pending switch
(paddock, fetch number, Chronobase of its boundary; R495); the activation record not yet durable (R496), whose descriptor may
have ended; firmware slots, and the slot a boot tries first; charters; the owner seed, the fingerprints of the seeds accepted
(R479), PASS_SALT, PPK, the owner's two signer keys; a window opening whose entry is not yet durable (paddock, fetch number; R500);
the Chronobase at which the open window and the proof lockout end (R498); whether the last signing of a reading found slot 1 bad, so
that the signature engines (R507) do not wait for it. -/
structure Tck where
  staged : List Staged
  active : List (Nat × List Nat)
  switch : Option (Nat × Nat × Nat)
  record : Option (Nat × Nat)
  recordRuns : Bool
  before : Option Before
  fw : List FwSlot
  fwActive : Nat
  charters : List (Option Charter)
  seed : Option (List Nat)
  seeds : List (List Nat)
  salt : List Nat
  ppk : List Nat
  tableKey : List Nat
  charterKey : List Nat
  opening : Option (Nat × Nat)
  winEnd : Nat
  lockEnd : Nat
  signBad : Bool
  deriving DecidableEq, Repr

def Tck.init : Tck :=
  { staged := [], active := List.replicate 11 (0, []), switch := none, record := none, recordRuns := false, before := none,
    fw := [FwSlot.init, FwSlot.init], fwActive := 0, charters := List.replicate 4 none, seed := none, seeds := [], salt := [],
    ppk := [], tableKey := [], charterKey := [], opening := none, winEnd := 0, lockEnd := 0, signBad := false }

/-! ### Hayloft (R509-R531) -/

/-- An append-only or circular region (R511, R512): the items still held, oldest first, each as its bytes; the sequence
number of the first of them; the sequence number of the first item not yet migrated from MRAM to NAND (R514); the export
mark, the sequence number after the last exported item (R513, R297). -/
structure Region where
  items : List (List Nat)
  base : Nat
  nand : Nat
  mark : Nat
  deriving DecidableEq, Repr

def Region.init : Region := { items := [], base := 0, nand := 0, mark := 0 }

/-- What applies once a change-log entry is durable (R500): nothing; an RWP write (paddock, offset, word; R583); a window
opening (paddock, fetch number, seconds; R498); SEAL_ACK, CAL_APPLY, PULSE_INPUT_MODE, LIFECYCLE_SET and a PASSPHRASE with the paddock and
fetch number of their descriptors. -/
inductive ChangeAct where
  | nothing
  | rwp (p off val : Nat)
  | winOpen (p num dur : Nat)
  | sealAck (p num n v : Nat)
  | cal (p num ch : Nat) (args : List Nat)
  | input (p num k : Nat) (args : List Nat)
  | life (p num new : Nat) (rb : Option Nat) (owner : List Nat)
  | pass (p num rb : Nat) (body : List Nat)
  deriving DecidableEq, Repr

/-- A change-log entry on its way (R500): KIND, paddock, body, what it does when durable. -/
structure Change where
  kind : Nat
  p : Nat
  body : List Nat
  act : ChangeAct
  deriving DecidableEq, Repr

/-- What becomes durable when a store ends (R518): an event-log entry, a change-log entry, a stall record, a checkpoint, a
profile block in append staging, pages of larger work, items migrated to NAND (region id), items erased with the oldest block
(region id), a page rewritten, an allow-list leaf, its entry in the leaf index (R335), a key-slot record (R505), the activation
record (R496), a thermal shutdown record (R558). -/
inductive Job where
  | event (bytes : List Nat)
  | change (c : Change) (bytes : List Nat)
  | stallRec (n : Nat) (e : RecEntry)
  | ckpt (c : Ckpt)
  | block (bytes : List Nat)
  | work (id pages : Nat)
  | migrate (region n : Nat)
  | erase (region n : Nat)
  | rewrite
  | leaf
  | leafIdx
  | keySlot (p num slot type usage : Nat)
  | activation
  | shutdown (bytes : List Nat)
  deriving DecidableEq, Repr

/-- Work larger than one store (R519), by what it becomes durable as: a HOST_WRITE of bytes at an offset (R529), a staged
table or a firmware slot (R494), the charter of paddock `q` with its RB_VALUE (R502); each with the paddock and fetch number of its
descriptor. -/
inductive WorkKind where
  | host (p num off : Nat) (data : List Nat)
  | table (p num : Nat) (st : Staged)
  | firmware (p num slot : Nat) (fw : FwSlot)
  | charter (p num q rb : Nat) (c : Charter)
  deriving DecidableEq, Repr

/-- Its pages still to store and stored, whether a store of it runs, and since when it is held (R519). -/
structure Work where
  id : Nat
  kind : WorkKind
  left : Nat
  done : Nat
  busy : Bool
  held : Option Nat
  deriving DecidableEq, Repr

/-- A store that runs (R518, R521). -/
structure Store where
  id : Nat
  cls : Nat
  need : Nat
  job : Job
  /-- Failed attempts so far (R525). -/
  fails : Nat
  deriving DecidableEq, Repr

/-- The Hayloft, besides its registers. -/
structure Hay where
  running : List Store
  nextId : Nat
  measuring : Option Nat
  events : Region
  changelog : Region
  profiles : Region
  readings : Region
  /-- The HOST region (R529) as (address, byte) pairs in canonical form, and its unreadable pages (R523). -/
  host : List Host.Cell
  badPages : List Nat
  work : List Work
  /-- The two MRAM slots (R245): the one that holds the newest durable checkpoint, and the other. -/
  ckpt : Option Ckpt
  ckptOld : Option Ckpt
  /-- The last four valid capacitance measurements, newest first (R517). -/
  meas : List Nat
  logQueue : List (List Nat × Nat × Nat × Nat)
  logDropped : Nat
  /-- Window-close entries refused and waiting for the next allocation boundary (R499). -/
  closeWait : List Nat
  deriving DecidableEq, Repr

def Hay.init : Hay :=
  { running := [], nextId := 0, measuring := none, events := .init, changelog := .init, profiles := .init,
    readings := .init, host := [], badPages := [], work := [], ckpt := none, ckptOld := none, meas := [], logQueue := [],
    logDropped := 0, closeWait := [] }

/-! ### Control lanes (R456-R471) -/

/-- A planned handover that runs (R466): why, as LANE_HANDOVER_DONE numbers it (0 request, 1 revert, 2 firmware, 3 reset); the
LANE_HANDOVER it completes; 0 while it drains, 1 while it waits for its boundary, 2 once the final snapshot is captured; the
Chronobase of that boundary. -/
structure Handover where
  why : Nat
  desc : Option (Nat × Nat)
  phase : Nat
  at_ : Nat
  deriving DecidableEq, Repr

/-- A running FW_ACTIVATE (R467): its descriptor, PROBATION_S, the staged slot, the snapshots acknowledged in a row in step 2. -/
structure FwRun where
  p : Nat
  num : Nat
  prob : Nat
  slot : Nat
  acks : Nat
  deriving DecidableEq, Repr

/-- The lane supervisor, besides its registers: whether a lane is in control (R88), whether a handover drains (R469), more than
24 h without a healthy standby (R465), the last heartbeat (R457); the cause of a loss whose takeover has not come (0 heartbeat,
1 fault, 2 reset); the running handover and FW_ACTIVATE; per lane whether its last self-test passed, whether it is OUT, and the
legal ticks of its losses (R463, class K); a captured snapshot not yet acknowledged (R28); the Chronobase at which the revert hold-off that runs ends (R462), and since when
no healthy standby has existed in this RUN (R465). -/
structure Lan where
  control : Bool
  drain : Bool
  noStandby : Bool
  beat : Nat
  takeover : Option Nat
  handover : Option Handover
  fw : Option FwRun
  selfOk : List Bool
  out : List Bool
  losses : List (List Nat)
  snapWait : Bool
  holdoff : Option Nat
  noSince : Option Nat
  deriving DecidableEq, Repr

def Lan.init : Lan :=
  { control := false, drain := false, noStandby := false, beat := 0, takeover := none, handover := none, fw := none,
    selfOk := [false, false], out := [false, false], losses := [[], []], snapWait := false, holdoff := none, noSince := none }

/-! ### Power and resets (R532-R572) -/

/-- A POWER_STATE on its way (R541-R545): descriptor, target, WAKE_AFTER_S, whether its refusers have been checked, whether the steps of a
HIBERNATE entry have begun. -/
structure PowerEntry where
  p : Nat
  num : Nat
  target : Nat
  wake : Nat
  checked : Bool
  begun : Bool
  deriving DecidableEq, Repr

/-- Power and reset state besides the registers: POR asserted (Cold reset); the Cold reset holds for cooling (R558), or waits for
a store after VAUX fell below RESET (R521); a Device reset requested and not yet in effect (R551); RESET_N low; a POWER_STATE on
its way; HIBERNATE's final store asked for; the cause a GAP window opened now would carry (R248); a restore still owed, with whether the
RTC ran at the release of POR; the wake that is ending HIBERNATE and whether it was replayed; WAKE_AFTER_S in force (seconds; 0 none); a wake source latched during an entry
(R549); the wake source that ended HIBERNATE; Chronobase at which NORMAL was left, and the deepest state since (R537); the Chronobase of COMMIT (R244); the zero
grant in force (R536, R537); lowest VAUX in the round; the telemetry records, newest first (R556); rounds since boot; the
shutdown record to report at RUN (R558, class K); the excluded die sensors (R556); consecutive qualifying 1PPS edges (R586); the
Chronobase at which HOLD_WINDOW ends. -/
structure Pwr where
  cold : Bool
  thermal : Bool
  falling : Bool
  reset : Bool
  resetLow : Bool
  entry : Option PowerEntry
  final : Bool
  gapCause : Nat
  boot : Option Bool
  wakeFrom : Option (Nat × Bool)
  wakeAfter : Nat
  latched : Option Nat
  dipAt : Nat
  dipDeep : Nat
  commitAt : Nat
  zeroGrant : Bool
  telemetry : List (List Nat)
  rounds : Nat
  shutdown : Option (List Nat)
  excl : Nat
  ppsRun : Nat
  holdEnd : Nat
  deriving DecidableEq, Repr

def Pwr.init : Pwr :=
  { cold := true, thermal := false, falling := false, reset := false, resetLow := false, entry := none, final := false,
    gapCause := 2, boot := none, wakeFrom := none, wakeAfter := 0, latched := none, dipAt := 0, dipDeep := 0, commitAt := 0, zeroGrant := false, telemetry := [], rounds := 0,
    shutdown := none, excl := 0, ppsRun := 0, holdEnd := 0 }

/-! ### The whole state -/

structure State where
  variant : Variant
  chrono : Nat
  regs : List (Nat × Nat)
  out : List Out
  free : Nat
  pdk : List Pdk
  slk : List Slk
  wlk : List Wlk
  haltS : List Halt
  stallRec : List StallRec
  types : List StallType
  runSeq : Nat
  hlt : Hlt
  yms : Yms
  hrn : Hrn
  aux : List Aux
  lsw : List Lsw
  rel : Release
  wbg : Wbg
  bil : Bil
  dro : Dro
  can : Can
  hay : Hay
  lan : Lan
  tck : Tck
  pwr : Pwr
  /-- How many descriptors have started: their order in the blocks' queues (R66). -/
  startNum : Nat
  pending : List Instr
  deriving DecidableEq, Repr

def State.reset : State :=
  { variant := .esw48, chrono := 0, regs := [], out := [], free := 0, pdk := List.replicate 4 Pdk.init,
    slk := List.replicate 48 Slk.init, wlk := List.replicate 48 Wlk.init, haltS := List.replicate 48 Halt.init,
    stallRec := List.replicate 48 StallRec.init, types := [], runSeq := 0, hlt := .init, yms := .init, hrn := .init,
    aux := List.replicate 4 Aux.init, lsw := List.replicate 16 Lsw.init, rel := .init, wbg := .init, bil := .init, dro := .init, can := .init, hay := .init, lan := .init,
    tck := .init, pwr := .init, startNum := 0,
    pending := [] }

end Sys2Proof.Machine
end

