-- ==== Sys2Proof/Machine/Ops.lean ====
section
/-!
DEFINITION. The named operations over the state that every family shares: register fields, events (R75, R76), MSI-X
signalling (R80, R81), completions (R68-R74), the hold-up check and stores (R518, R519), the in-flight table (R64).
-/
namespace Sys2Proof.Machine

/-! ### Register fields -/

/-- The value a sparse list gives a key, `d` where it lists none. -/
def regFind {α : Type} (d : α) : List (Nat × α) → Nat → α
  | [], _ => d
  | (a, v) :: t, k => if a = k then v else regFind d t k

/-- Insert a key that the list does not hold, keeping keys rising. -/
def regIns {α : Type} (k : Nat) (v : α) : List (Nat × α) → List (Nat × α)
  | [] => [(k, v)]
  | (a, b) :: t => if k < a then (k, v) :: (a, b) :: t else (a, b) :: regIns k v t

/-- The canonical update: no entry equal to the default `d`. -/
def regPut {α : Type} [DecidableEq α] (d : α) (k : Nat) (v : α) (l : List (Nat × α)) : List (Nat × α) :=
  if v = d then l.filter (fun e => e.1 ≠ k) else regIns k v (l.filter (fun e => e.1 ≠ k))

/-- The canonical form of a sparse list: keys rising, no entry at the default `d` of its key. -/
def sparseWf {α : Type} [DecidableEq α] (d : Nat → α) : List (Nat × α) → Bool
  | [] => true
  | (a, v) :: t => decide (v ≠ d a) && (match t with | [] => true | (b, _) :: _ => decide (a < b)) && sparseWf d t

/-- The row a BAR0 offset belongs to, either as the register itself or as the `_HI` half of a pair (R573, R574).
The bits above 2 MiB name the paddock of a PDK register and are dropped. -/
def regRowAt (off : Nat) : Option RegRow :=
  let o := off % 0x1000000
  (regRowsOf (o / 0x10000)).find? fun r =>
    let hit := fun base => decide (base ≤ o) &&
      (if r.stride = 0 then decide (o = base) else decide ((o - base) % r.stride = 0) && decide ((o - base) / r.stride < r.n))
    hit r.off || (match r.hi with | some h => hit h | none => false)

/-- Is `off` the `_HI` half of its row? -/
def RegRow.isHi (r : RegRow) (off : Nat) : Bool :=
  match r.hi with
  | none => false
  | some h =>
    let o := off % 0x1000000
    if r.stride = 0 then decide (o = h) else decide (h ≤ o) && decide ((o - h) % r.stride = 0)

/-- The field row stored under a key. -/
def fieldRowAt (key : Nat) : Option FieldRow :=
  match regRowAt (key / 32) with
  | none => none
  | some r => r.fields.find? fun f => f.lo = key % 32

/-- The reset value of the field stored under a key (R10, R555). -/
def resetOf (key : Nat) : Nat :=
  match fieldRowAt key with
  | some f => f.reset
  | none => 0

/-- The value of a register field. -/
def State.get (s : State) (f : Fld) : Nat := regFind (resetOf f.key) s.regs f.key

/-- Write a register field, cut to its width. -/
def State.set (s : State) (f : Fld) (v : Nat) : State :=
  { s with regs := regPut (resetOf f.key) f.key (v % 2 ^ f.w) s.regs }

/-- Is a one-bit field set? -/
def State.flag (s : State) (f : Fld) : Bool := s.get f != 0

/-- Write a one-bit field. -/
def State.setB (s : State) (f : Fld) (b : Bool) : State := s.set f (b2n b)

/-- A wrapping counter steps. -/
def State.inc (s : State) (f : Fld) : State := s.set f (s.get f + 1)

/-- A saturating counter adds `n`. -/
def State.addSat (s : State) (f : Fld) (n : Nat) : State := s.set f (satAdd f.w (s.get f) n)

/-- A saturating counter steps. -/
def State.incSat (s : State) (f : Fld) : State := s.addSat f 1

/-- A signed register field. -/
def State.getS (s : State) (f : Fld) : Int := toSigned f.w (s.get f)

/-- Write a signed register field. -/
def State.setS (s : State) (f : Fld) (i : Int) : State := s.set f (ofSigned f.w i)

/-- Set bit `i` of a bit-mapped field. -/
def State.setBit (s : State) (f : Fld) (i : Nat) (b : Bool) : State := s.set f (setBitOf (s.get f) i b)

/-- Apply `f` to the state for every number of a list, in order. -/
def forAll (l : List Nat) (f : Nat → State → State) (s : State) : State := l.foldl (fun t i => f i t) s

/-- The canonical form of the register list: keys rising, no entry at its reset value (notes/assumptions/6.md). -/
abbrev State.wf (s : State) : Prop := sparseWf resetOf s.regs = true

/-! ### The HOST region (R511, R529) -/

/-- What a byte of HOST that nothing has written reads as (notes/assumptions/42.md). -/
def Memory.blank : BitVec 8 := 0xFF#8

/-- One byte of HOST. -/
def Memory.get (m : List Host.Cell) (a : Nat) : BitVec 8 := regFind Memory.blank m a

/-- Write one byte, keeping the canonical form: addresses rising, no blank entry. -/
def Memory.put (a : Nat) (v : BitVec 8) (m : List Host.Cell) : List Host.Cell := regPut Memory.blank a v m

/-- Write bytes from an address on. -/
def Memory.write : List Nat → Nat → List Host.Cell → List Host.Cell
  | [], _, m => m
  | b :: t, a, m => Memory.write t (a + 1) (Memory.put a (BitVec.ofNat 8 b) m)

/-- The canonical form of HOST. -/
def Memory.wf (m : List Host.Cell) : Bool := sparseWf (fun _ => Memory.blank) m

/-- A fresh free value below `2 ^ w` (a value the spec leaves open), and the state with the counter stepped. -/
def State.fresh (s : State) (w : Nat) : Nat × State := (Config.freeNat s.free % 2 ^ w, { s with free := s.free + 1 })

/-- A fresh TRNG draw. -/
def State.draw (s : State) (w : Nat) : Nat × State := (Config.trng s.free % 2 ^ w, { s with free := s.free + 1 })

/-- Record something that leaves the block. -/
def State.emit (s : State) (o : Out) : State := { s with out := s.out ++ [o] }

/-! ### Updates of one block -/

def State.modHay (s : State) (f : Hay → Hay) : State := { s with hay := f s.hay }
def State.modDro (s : State) (f : Dro → Dro) : State := { s with dro := f s.dro }
def State.modPwr (s : State) (f : Pwr → Pwr) : State := { s with pwr := f s.pwr }
def State.modTck (s : State) (f : Tck → Tck) : State := { s with tck := f s.tck }
def State.modHrn (s : State) (f : Hrn → Hrn) : State := { s with hrn := f s.hrn }
def State.modBil (s : State) (f : Bil → Bil) : State := { s with bil := f s.bil }
def State.modWbg (s : State) (f : Wbg → Wbg) : State := { s with wbg := f s.wbg }
def State.modRel (s : State) (f : Release → Release) : State := { s with rel := f s.rel }
def State.modHlt (s : State) (f : Hlt → Hlt) : State := { s with hlt := f s.hlt }
def State.modYms (s : State) (f : Yms → Yms) : State := { s with yms := f s.yms }
def State.modLan (s : State) (f : Lan → Lan) : State := { s with lan := f s.lan }
def State.modCan (s : State) (f : Can → Can) : State := { s with can := f s.can }

/-! ### Stalls, paddocks and other numbered objects -/

/-- Is stall link `n` present on the variant (R3, R6)? -/
def State.hasStall (s : State) (n : Nat) : Bool := decide (n < s.variant.links)

/-- The stalls present. -/
def State.stallNums (s : State) : List Nat := List.range s.variant.links

def State.pd (s : State) (p : Nat) : Pdk := s.pdk.getD p Pdk.init

def State.modPd (s : State) (p : Nat) (f : Pdk → Pdk) : State := { s with pdk := modAt s.pdk p f }

/-- Ring `r` of a paddock: 0-7 SQ, 8-11 CQ, 12 EQ. -/
def Pdk.ring (d : Pdk) (r : Nat) : Ring := d.rings.getD r Ring.init

def Pdk.modRing (d : Pdk) (r : Nat) (f : Ring → Ring) : Pdk := { d with rings := modAt d.rings r f }

/-! ### Rights (R48-R51) -/

/-- The right bits of PDK_RIGHTS (R48): the numbers are the bit places. -/
def State.hasRight (s : State) (p bit : Nat) : Bool :=
  match bit with
  | 0 => s.flag (F.PDK_RIGHTS_OPERATE p)
  | 1 => s.flag (F.PDK_RIGHTS_BILL p)
  | 2 => s.flag (F.PDK_RIGHTS_SERVICE p)
  | 3 => s.flag (F.PDK_RIGHTS_OBSERVE p)
  | 4 => s.flag (F.PDK_RIGHTS_SAFETY_ADMIN p)
  | _ => false

/-- Does the paddock hold any right? Every right implies OBSERVE (R50). -/
def State.anyRight (s : State) (p : Nat) : Bool := s.flag (F.PDK_RIGHTS_OBSERVE p)

/-- The right that setup writes of window `b` need (R51, R573): none for PDK, its own paddock's. -/
def setupRight : Nat → Option Nat
  | 0x0 => some 2 | 0x1 => none | 0x2 => some 0 | 0x3 => some 0 | 0x4 => some 0 | 0x5 => some 1 | 0x6 => some 1
  | 0x7 => some 0 | 0x8 => some 0 | 0x9 => some 0 | 0xA => some 0 | 0xB => some 0 | 0xC => some 4 | 0xD => some 2
  | 0xE => some 2 | 0xF => some 2 | 0x10 => some 0 | _ => none

/-! ### MSI-X (R80, R81) -/

/-- Signal vector `v` of paddock `p`: the message leaves, or the pending bit is set while the entry is masked. -/
def State.signal (s : State) (p v : Nat) : State :=
  if s.get (F.PDK_MSIX_CTRL p v) % 2 = 1 then s.setBit (F.PDK_MSIX_PBA p) v true else s.emit (.msix p v)

/-- A record was written to ring `r` (8-11 CQ, 12 EQ): signal at once, at the count, or leave it to the timer (R81). -/
def State.coalesce (s : State) (p r : Nat) : State :=
  let cnt := if r = 12 then s.get (F.PDK_EQ_CFG_COALESCE_CNT p) else s.get (F.PDK_CQj_CFG_COALESCE_CNT p (r - 8))
  let us := if r = 12 then s.get (F.PDK_EQ_CFG_COALESCE_US p) else s.get (F.PDK_CQj_CFG_COALESCE_US p (r - 8))
  let v := if r = 12 then s.get (F.PDK_EQ_CFG_VECTOR p) else s.get (F.PDK_CQj_CFG_VECTOR p (r - 8))
  let n := ((s.pd p).ring r).unsig + 1
  if cnt = 0 ∨ us = 0 ∨ cnt ≤ n then (s.modPd p (·.modRing r fun x => { x with unsig := 0 })).signal p v
  else s.modPd p (·.modRing r fun x => { x with unsig := n })

/-! ### Wall time (R267, R270) -/

/-- 2^-16 s in the unit of `Clock.val`: one Chronobase tick of 4 ns is 65,536 * 10^6 of it. -/
def wallUnit : Int := 250000000000000

/-- Wall time at a Chronobase instant, in the fine unit. -/
def Clock.fine (k : Clock) (c : Nat) : Int := k.val + ((c : Int) - k.at_) * 65536 * (1000000 + k.ppm)

/-- Wall time at a Chronobase instant: 48-bit seconds and a 16-bit fraction. -/
def State.wallAt (s : State) (c : Nat) : Nat := (s.bil.clk.fine c / wallUnit).toNat % 2 ^ 64

def State.wall (s : State) : Nat := s.wallAt s.chrono

/-- SLEW_REMAIN: milliseconds of slew still to absorb (R270). -/
def State.slewRemain (s : State) : Int :=
  let k := s.bil.clk
  if s.flag F.BIL_TIME_STATUS_SLEWING then
    Config.rnd ((k.total - ((s.chrono : Int) - k.at_) * 65536 * k.ppm) * 1000) (65536 * 250000000000000)
  else 0

/-! ### The hold-up check and stores (R515-R521) -/

/-- The need of a store by class, in microjoules (R518); `n` counts journal records (C1) or pages (C3) or records (C2). -/
def storeNeed (cls n : Nat) : Nat :=
  match cls with
  | 1 => 2300 + 25 * n
  | 2 => 500 * n
  | 3 => 1500 * n
  | _ => 12500

/-- R519, exactly: E_hold, which is C * (V^2 - 8100) / 200 microjoules with C in microfarads and V in 0.1 V (R516), is at
least 1.5 times `total`. -/
def State.holdupCovers (s : State) (total : Nat) : Bool :=
  let v := s.get F.HAY_HOLDUP_E_VHOLD
  decide (300 * total ≤ s.get F.HAY_HOLDUP_C * (v * v - 8100))

/-- The needs of the stores running. -/
def State.runningNeed (s : State) : Nat := (s.hay.running.map Store.need).foldl (· + ·) 0

/-- Would a store of this class and need start now (R519, R520)? None starts once the device has entered Cold reset (R521). -/
def State.admits (s : State) (cls need : Nat) : Bool :=
  !s.pwr.falling && bitOf (s.get F.PWR_DOMAINS) 5 && (decide (cls ≤ 2) || decide (s.get F.PWR_STATE_SUPPLY = 0)) && s.holdupCovers (need + s.runningNeed)

/-- Start a store, or count the refusal (R519; HAY_STATUS.REFUSED, HAY_CNT_REFUSED). A store that starts discards a running
capacitance measurement (R517). -/
def State.tryStore (s : State) (cls n : Nat) (job : Job) : Bool × State :=
  if s.admits cls (storeNeed cls n) then
    (true, s.modHay fun h => { h with
      running := h.running ++ [{ id := h.nextId, cls := cls, need := storeNeed cls n, job := job, fails := 0 }]
      nextId := h.nextId + 1, measuring := none })
  else
    (false, (s.setB F.HAY_STATUS_REFUSED true).incSat
      (if cls ≤ 2 then F.HAY_CNT_REFUSED_C12 else F.HAY_CNT_REFUSED_C34))

/-- E_hold in mJ as HAY_HOLDUP_E shows it (R516). -/
def State.eHold (s : State) : Nat :=
  let v := s.get F.HAY_HOLDUP_E_VHOLD
  min (Config.rnd (s.get F.HAY_HOLDUP_C * (v * v - 8100) : Nat) 200000).toNat 65535

/-- The need of a final store now, in microjoules: every reading not yet durable goes with it (R522). -/
def State.finalNeed (s : State) : Nat := storeNeed 1 (s.bil.waiting.length + s.bil.takes.length)

/-- Would a final store be admitted now, with no other store running (R522)? -/
def State.finalOk (s : State) : Bool := s.holdupCovers s.finalNeed

/-- FINAL_OK is seen once in RUN (R40). -/
def State.seeFinal (s : State) : State :=
  if s.finalOk && bitOf (s.get F.GLB_BOOT_STATUS_HISTORY) 8 then (s.modBil fun b => { b with finalSeen := true }) else s

/-- Are the spare blocks below 5 % of their initial count (R525)? -/
def State.noSpare (s : State) : Bool := decide (20 * s.get F.HAY_SPARE_NOW < s.get F.HAY_SPARE_INITIAL)

/-! ### Events (R75, R76) and the event log (R527) -/

/-- An event: code, severity (0 INFO to 4 CRITICAL), source, payload bytes 16 to 31. -/
structure Ev where
  code : Nat
  sev : Nat
  src : Nat
  payload : List Nat
  deriving DecidableEq, Repr

/-- The 32 bytes of an event record. -/
def Ev.bytes (e : Ev) (flags seq chrono : Nat) : List Nat :=
  le 2 e.code ++ [e.sev, flags] ++ le 2 e.src ++ le 2 seq ++ le 8 chrono ++ padTo 16 e.payload

/-- Is there room in the event ring (R54, R57)? -/
def State.eqRoom (s : State) (p : Nat) : Bool :=
  let r := (s.pd p).ring 12
  !r.stopped && decide ((s.get (F.PDK_EQ_PROD p) + 2 ^ 32 - r.hostIdx) % 2 ^ 32 < 2 ^ s.get (F.PDK_EQ_CFG_SIZE_LOG2 p))

/-- Write one record to the event ring: phase bit, SEQ, DEV_INDEX (R56, R76), then the interrupt (R81). -/
def State.eqWrite (s : State) (p : Nat) (e : Ev) : State :=
  let prod := s.get (F.PDK_EQ_PROD p)
  let size := 2 ^ s.get (F.PDK_EQ_CFG_SIZE_LOG2 p)
  let ph := 128 * ((prod / size + 1) % 2)
  let s := s.emit (.eqe p (prod % size) (e.bytes ph (s.pd p).evSeq s.chrono))
  let s := s.modPd p fun d => { d with evSeq := (d.evSeq + 1) % 65536 }
  let s := s.inc (F.PDK_EQ_PROD p)
  let s := s.emit (.devIndex p 12 (s.get (F.PDK_EQ_PROD p)) ((s.pd p).ring 12).hostSeq)
  s.coalesce p 12

/-- EVENTS_LOST (0x0102): written first once the ring has room again (R76). -/
def State.eqLost (s : State) (p : Nat) : State :=
  if (s.pd p).lostSince ≠ 0 ∧ s.eqRoom p = true then
    (s.eqWrite p ⟨0x0102, 2, 0xFFFF, le 4 (min (s.pd p).lostSince 0xFFFFFFFF)⟩).modPd p fun d => { d with lostSince := 0 }
  else s

/-- Put an event that is due to paddock `p` into its ring: written, dropped and counted while the ring is full, or
discarded while the ring is disabled (R76). -/
def State.deliver (s : State) (p : Nat) (e : Ev) : State :=
  if s.flag (F.PDK_EQ_CFG_ENABLE p) = false then s
  else
    let s := s.eqLost p
    if s.eqRoom p then s.eqWrite p e
    else (s.modPd p fun d => { d with evSeq := (d.evSeq + 1) % 65536, lostSince := d.lostSince + 1 }).incSat (F.PDK_EVT_LOST p)

/-- Which right a block's events need (R75): `none` for PDK. HLT's are handled in `dueTo`. -/
def eventRight (block : Nat) : Nat :=
  if block = 0x5 ∨ block = 0x6 then 1
  else if block = 0x0 ∨ block = 0xD ∨ block = 0xE ∨ block = 0xF then 2 else 0

/-- Is the event due to paddock `p` (R75)? -/
def State.dueTo (s : State) (p : Nat) (e : Ev) : Bool :=
  let b := e.code / 256
  let unmasked := bitOf (s.get (F.PDK_EVT_BLOCK_MASK p)) b && decide (s.get (F.PDK_EVT_CFG_MIN_SEVERITY p) ≤ e.sev)
  let right := if b = 0xC then s.hasRight p 0 || s.hasRight p 4 else s.hasRight p (eventRight b)
  if e.code = 0x0301 then s.hasRight p 0
  else (decide (3 ≤ e.sev) && s.anyRight p) || (right && unmasked)

/-- An event-log entry (R527), 64 bytes: LOG_SEQ and the dropped count are filled in when it is stored. -/
def logBytes (rec : List Nat) (seq wall tick boot dropped : Nat) : List Nat :=
  padTo 32 rec ++ le 8 seq ++ le 8 wall ++ le 6 tick ++ le 4 boot ++ le 2 (min dropped 65535) ++ le 4 0

/-- How much of append staging (4 MiB, R510, R514) the items not yet in NAND take: entries of 64, 3,608 and 1,728 bytes. -/
def State.stagingUsed (s : State) : Nat :=
  let n := fun (r : Region) => r.base + r.items.length - r.nand
  64 * n s.hay.events + 3608 * n s.hay.changelog + 1728 * n s.hay.profiles

/-- Try to store the oldest waiting event-log entry (a C2 store); it stays queued when refused (R527), and nothing is
written to EVENTS while the spare blocks are below 5 % (R525). -/
def State.pumpLog (s : State) : State :=
  match s.hay.logQueue with
  | [] => s
  | q :: t =>
    if s.noSpare ∨ 4194304 < s.stagingUsed + 64 ∨ s.pwr.falling ∨ bitOf (s.get F.PWR_DOMAINS) 5 = false then s
    else
      let seq := s.get F.HAY_LOG_SEQ
      let r := s.tryStore 2 1 (.event (logBytes q.1 seq q.2.1 q.2.2.1 q.2.2.2 s.hay.logDropped))
      if r.1 then
        ((r.2.inc F.HAY_LOG_SEQ).modHay fun h => { h with logQueue := t, logDropped := 0 })
      else r.2

/-- Write an event to the event log when its severity asks for it (R527), `force` for the entries always written. -/
def State.logEvent (s : State) (e : Ev) (force : Bool) : State :=
  if force ∨ s.get F.HAY_CFG_MIN_SEVERITY ≤ e.sev then
    let q := (e.bytes 0 0 s.chrono, s.wall, s.get F.BIL_TICK, s.get F.GLB_BOOT_COUNT)
    if s.hay.logQueue.length < 256 then (s.modHay fun h => { h with logQueue := s.hay.logQueue ++ [q] }).pumpLog
    else (s.modHay fun h => { h with logDropped := s.hay.logDropped + 1 }).pumpLog
  else s

/-- Raise an event: to every paddock it is due to, in port order, and to the log. -/
def State.raise (s : State) (code sev src : Nat) (payload : List Nat) : State :=
  let e : Ev := ⟨code, sev, src, payload⟩
  ((List.range 4).foldl (fun t p => if t.dueTo p e then t.deliver p e else t) s).logEvent e false

/-- Raise an event of one paddock (a PDK event, R75): to that paddock under its mask, to the others only when FAULT. -/
def State.raisePdk (s : State) (p code sev : Nat) (payload : List Nat) : State :=
  let e : Ev := ⟨code, sev, 0xFFFF, payload⟩
  let own := bitOf (s.get (F.PDK_EVT_BLOCK_MASK p)) 1 && decide (s.get (F.PDK_EVT_CFG_MIN_SEVERITY p) ≤ sev)
  ((List.range 4).foldl (fun t q =>
    if (decide (q = p) && own) || (decide (3 ≤ sev) && t.anyRight q) then t.deliver q e else t) s).logEvent e false

/-- An event that reaches one paddock whatever its mask and rights (OFF_DOMAIN_ACCESS, R75). -/
def State.raiseOwn (s : State) (p code sev : Nat) (payload : List Nat) : State :=
  let e : Ev := ⟨code, sev, 0xFFFF, payload⟩
  (s.deliver p e).logEvent e false

/-! ### Ring errors (R57, R58, R90) -/

/-- Ring `r` of paddock `p` fails: its bits, vector 15 and RING_ERROR (0x0104); `cause` 0 INDEX_RANGE, 1 CFG, 2 DMA. A receive ring (13,
14) follows R57 and R90 too, but has no ring bit and no number in the event, so it raises none (notes/assumptions/19.md). -/
def State.ringError (s : State) (p r cause : Nat) : State :=
  let s := (s.setBit (F.PDK_RING_ERR_RING p) r true).setB (F.PDK_STATUS_RING_ERR p) true
  let s := if cause = 0 then s.setB (F.PDK_RING_ERR_INDEX_RANGE p) true
           else if cause = 1 then s.setB (F.PDK_RING_ERR_CFG p) true
           else (s.setB (F.PDK_RING_ERR_DMA p) true).setB (F.PDK_STATUS_DMA_ERR p) true
  if r < 13 then (s.signal p 15).raisePdk p 0x0104 3 [r, cause] else s.signal p 15

/-! ### Completions (R68-R74) -/

/-- Is there room in CQ `j` of paddock `p` (R73)? -/
def State.cqRoom (s : State) (p j : Nat) : Bool :=
  let r := (s.pd p).ring (8 + j)
  s.flag (F.PDK_CQj_CFG_ENABLE p j) && !r.stopped &&
    decide ((s.get (F.PDK_CQj_PROD p j) + 2 ^ 32 - r.hostIdx) % 2 ^ 32 < 2 ^ s.get (F.PDK_CQj_CFG_SIZE_LOG2 p j))

/-- Is the status a success for CHAIN (R68)? -/
def statusOk (st : Nat) : Bool := decide (st ≤ 1)

/-- The successor of fetch number `num` learns how it ended (R68). -/
def Pdk.resolve (d : Pdk) (num : Nat) (ok : Bool) : Pdk :=
  { d with
    table := d.table.map fun x => if x.dep = some num then { x with depOk := some ok } else x
    last := d.last.map fun l => match l with
      | some y => if y.num = num then some { y with ok := some ok } else some y
      | none => none }

/-- Write one completion record (R71): the record, DEV_INDEX (R74), the end of the in-flight state (R64), DESC_DONE
(R69) and the interrupt (R81). -/
def State.cqWrite (s : State) (p : Nat) (c : Cpl) : State :=
  let prod := s.get (F.PDK_CQj_PROD p c.cq)
  let size := 2 ^ s.get (F.PDK_CQj_CFG_SIZE_LOG2 p c.cq)
  let ph := 128 * ((prod / size + 1) % 2)
  let s := s.emit (.cqe p c.cq (prod % size) c.tag c.status (ph + c.flags) c.result c.chrono)
  let s := s.inc (F.PDK_CQj_PROD p c.cq)
  let s := s.emit (.devIndex p (8 + c.cq) (s.get (F.PDK_CQj_PROD p c.cq)) ((s.pd p).ring (8 + c.cq)).hostSeq)
  let s := s.modPd p fun d => ({ d with table := d.table.filter fun x => x.num ≠ c.num }).resolve c.num (statusOk c.status)
  let s := s.set (F.PDK_INFLIGHT_COUNT p) (s.pd p).table.length
  let s := if c.onDone then s.raisePdk p 0x0101 0 (le 2 c.tag ++ [c.status]) else s
  s.coalesce p (8 + c.cq)

/-- Write what is held, in completion order, as far as the CQs have room; what does not fit stays held (R73). -/
def flushHeld (p : Nat) : List Cpl → State → List Cpl × State
  | [], s => ([], s)
  | c :: t, s =>
    if s.cqRoom p c.cq then flushHeld p t (s.cqWrite p c)
    else let r := flushHeld p t s; (c :: r.1, r.2)

def State.flush (s : State) (p : Nat) : State :=
  let r := flushHeld p (s.pd p).held s
  r.2.modPd p fun d => { d with held := r.1 }

/-- A descriptor finishes: its completion is written, or held until its CQ has room (R73). `buf` is BUFFER_WRITTEN. -/
def State.completeD (s : State) (p : Nat) (d : Desc) (status result : Nat) (buf : Bool) : State :=
  let c : Cpl :=
    { cq := s.get (F.PDK_SQi_CFG_CQ p d.sq), num := d.num, tag := d.tag, status := status,
      flags := b2n d.retried + 2 * b2n buf, result := result % 2 ^ 32, onDone := bitOf d.flags 1,
      chrono := s.chrono }
  let s := s.modPd p fun x => { x with
    table := x.table.map fun y => if y.num = d.num then { y with phase := .finished } else y
    held := x.held ++ [c] }
  s.flush p

/-- The descriptor of a TAG that its block has started and not finished. -/
def State.desc? (s : State) (p tag : Nat) : Option Desc :=
  ((s.pd p).table ++ (s.pd p).orphans).find? fun d => d.tag = tag ∧ (d.phase = .queued ∨ d.phase = .taken)

/-- The descriptor with a fetch number, wherever it runs (R82: an FLR cuts a started one loose). -/
def State.descNum? (s : State) (p num : Nat) : Option Desc :=
  ((s.pd p).table ++ (s.pd p).orphans).find? fun d => d.num = num ∧ d.phase ≠ .finished

/-- Finish the descriptor with fetch number `num`: a completion, or nothing for one an FLR cut loose (R82). -/
def State.finish (s : State) (p num status result : Nat) (buf : Bool := false) : State :=
  match (s.pd p).table.find? fun d => d.num = num ∧ d.phase ≠ .finished with
  | some d => s.completeD p d status result buf
  | none => s.modPd p fun x => { x with orphans := x.orphans.filter fun d => d.num ≠ num }

/-- Write an opcode's output to BUFADDR, never beyond LENGTH (R70), unless an FLR cut the descriptor loose (R82). -/
def State.bufWrite (s : State) (p : Nat) (d : Desc) (bytes : List Nat) : State :=
  if (s.pd p).table.any fun x => x.num = d.num then s.emit (.buffer p d.bufaddr (bytes.take d.length)) else s

/-- Finish with buffer output (R70): OK with the bytes written, or OK_PARTIAL with the full length needed. -/
def State.finishBuf (s : State) (p : Nat) (d : Desc) (bytes : List Nat) : State :=
  let wr := !bytes.isEmpty && decide (d.length ≠ 0)
  let s := if wr then s.bufWrite p d bytes else s
  s.finish p d.num (if bytes.length ≤ d.length then 0x00 else 0x01) bytes.length wr

/-- The block id of an opcode (R8 descriptor table: the high byte). -/
def Desc.block (d : Desc) : Nat := d.opcode / 256

/-- The queued descriptors of a block at one PRIO, each with its paddock. -/
def State.queuedAt (s : State) (block prio : Nat) : List (Nat × Desc) :=
  ((List.range 4).map fun q => (((s.pd q).table ++ (s.pd q).orphans).filter fun x =>
    decide (x.phase = .queued) && decide (x.block = block) && decide (x.prio = prio)).map fun x => (q, x)).flatten

/-- Insert by start number, which `aux` holds while a descriptor is queued. -/
def startIns (x : Nat × Desc) : List (Nat × Desc) → List (Nat × Desc)
  | [] => [x]
  | y :: t => if x.2.aux < y.2.aux then x :: y :: t else y :: startIns x t

/-- A descriptor that starts joins a queue in fetch order, but stays behind one of another paddock with its TARGET that started before
(R66). -/
def queueIns (x : Nat × Desc) : List (Nat × Desc) → List (Nat × Desc)
  | [] => [x]
  | y :: t =>
    let behind := (y :: t).any fun z => decide (z.1 ≠ x.1) && decide (z.2.target = x.2.target) && decide (x.2.target ≠ 0xFFFF)
    if x.2.ord < y.2.ord ∧ behind = false then x :: y :: t else y :: queueIns x t

/-- A block's queue at one PRIO (R66). -/
def State.blockQueue (s : State) (block prio : Nat) : List (Nat × Desc) :=
  ((s.queuedAt block prio).foldr startIns []).foldl (fun q x => queueIns x q) []

/-- Is the descriptor next in its block's queue: nothing of a lower PRIO number is queued, and it is the oldest of its own PRIO (R66)? -/
def State.isFront (s : State) (d : Desc) : Bool :=
  ((List.range d.prio).all fun k => (s.queuedAt d.block k).isEmpty) &&
    ((s.blockQueue d.block d.prio).head?.all fun x => x.2.num = d.num)

/-- An item leaves the Drover's queue: the longest residence of the round (R35). -/
def State.resided (s : State) (since : Nat) : State :=
  s.set F.DRO_QRES_MAX (max (s.get F.DRO_QRES_MAX) (min (s.chrono - since) (2 ^ 32 - 1)))

/-- The queued descriptor with this TAG and opcode that stands at the front of its block's queue; a TAG may name one that an FLR cut loose
beside a new one (R82). -/
def State.startable? (s : State) (p tag opcode : Nat) : Option Desc :=
  ((s.pd p).table ++ (s.pd p).orphans).find? fun d =>
    d.tag = tag ∧ (d.phase = .queued ∨ d.phase = .taken) ∧ d.opcode = opcode ∧ d.phase = .queued ∧ s.isFront d = true

/-- The block takes a queued descriptor with this TAG and opcode from the front of its queue (R66): its meaning runs with
the descriptor marked taken. Where none is there, nothing happens. -/
def State.take (s : State) (p tag opcode : Nat) (f : Desc → State → State) : State :=
  match s.startable? p tag opcode with
  | none => s
  | some d =>
    let d' := { d with phase := .taken }
    let up := fun (x : Desc) => if x.num = d.num then d' else x
    let s := s.modPd p fun x => { x with table := x.table.map up, orphans := x.orphans.map up }
    f d' (if d.block = 7 then s.resided d.at_ else s)

/-- Keep a number with a taken descriptor, for its block. -/
def State.setAux (s : State) (p num v : Nat) : State :=
  let up := fun (x : Desc) => if x.num = num then { x with aux := v } else x
  s.modPd p fun x => { x with table := x.table.map up, orphans := x.orphans.map up }

/-- A PARAM field of `n` bytes at descriptor byte `i` (24 to 63), little-endian (R8). -/
def Desc.arg (d : Desc) (i n : Nat) : Nat := leAt d.param (i - 24) n

/-! ### Power domains (R538, R573) -/

/-- The domain bit of a BAR0 offset (R538, R573): GLB_CHRONO lies in CLK, GLB from 0x0400 in LANE. -/
def domainOf (off : Nat) : Nat :=
  let o := off % 0x200000
  match o / 0x10000 with
  | 0x0 => if o = 0x28 ∨ o = 0x2C then 3 else if 0x400 ≤ o then 6 else 4
  | 0x1 => 4 | 0x2 => 8 | 0x3 => 9 | 0x4 => 9 | 0x5 => 8 | 0x6 => 8 | 0x7 => 10 | 0x8 => 13 | 0x9 => 14 | 0xA => 15
  | 0xB => 11 | 0xC => 2 | 0xD => 7 | 0xE => 5 | 0xF => 4 | 0x10 => 12
  | _ => 4

/-- Is domain `d` powered? In Cold reset only AON and MON are (R538). -/
def State.domainOn (s : State) (d : Nat) : Bool := bitOf (s.get F.PWR_DOMAINS) d && (!s.pwr.cold || decide (d ≤ 1))

/-- Do the Weighbridge and Billing run: powered, and with no restore owed (R41, R248)? -/
def State.metersOn (s : State) : Bool := s.domainOn 8 && s.pwr.boot.isNone

/-- The device has reached RUN since the last reset (R38; HISTORY bit 8, R576) and is not at BOOT_FAIL. -/
def State.inRun (s : State) : Bool := !s.pwr.cold && bitOf (s.get F.GLB_BOOT_STATUS_HISTORY) 8 && decide (s.get F.GLB_BOOT_STATUS_PHASE ≠ 15)

end Sys2Proof.Machine
end

