-- ==== Sys2Proof/Machine/DriveView.lean ====
section
/-!
DEFINITION. The duties that the Harness applies and delivers and the references that the auxiliary regulators hold at an instant
(R357, R358, R364-R367, R373, R374, R381-R386): they move with time between the commands, and the registers show them as they are.
-/
namespace Sys2Proof.Machine

/-! ### Bridges -/

def State.hb (s : State) (b : Nat) : Bridge := s.hrn.bridges.getD b Bridge.init

/-- The VMOT group of a bridge (R356). -/
def vmotGroup (b : Nat) : Nat := if b < 4 then 0 else 1

/-- Hall3 bridges are HB0 to HB5 (R356). -/
def isHall (b : Nat) : Bool := decide (b < 6)

/-- The highest duty applied: DUTY_CAP, and 97.00 % under BST_UV (R358, R367). -/
def State.dutyLimit (s : State) (b : Nat) : Nat :=
  let cap := s.get (F.HRN_HBb_LIMIT_DUTY_CAP b)
  if s.flag (F.HRN_HBb_FAULT_BST_UV b) then min cap 9700 else cap

/-- The duties the bridge ramps to: zero while it goes to OFF or waits for zero duty to change direction (R364). -/
def State.goal (s : State) (b : Nat) : List Nat :=
  let h := s.hb b
  if s.get (F.HRN_HBb_CMD_MODE b) ≠ 1 ∨ h.toOff = true ∨ h.dir ≠ s.get (F.HRN_HBb_CMD_DIRECTION b) then [0, 0, 0]
  else h.want.map fun d => min d (s.dutyLimit b)

/-- One duty on its way from `a` to `g` by `step`. -/
def toward (a g step : Nat) : Nat := if a ≤ g then min g (a + step) else max g (a - step)

/-- The duties applied now: from where the ramp started, at RAMP (0.1 %/ms), or at once when RAMP is 0 (R374; 5.0 %/ms then
in a release, R373). -/
def State.dutyNow (s : State) (b : Nat) : List Nat :=
  let h := s.hb b
  let cfg := s.get (F.HRN_HBb_CFG_RAMP b)
  let ramp := if cfg = 0 ∧ b ∈ s.rel.bridges then 50 else cfg
  if ramp = 0 then s.goal b
  else List.zipWith (fun a g => toward a g (ramp * 10 * (s.chrono - h.rampAt) / 250000)) h.rampFrom (s.goal b)

/-- Nothing may switch: not enabled, latched, the group under-voltage, disabled by the Halter, or the domain off. -/
def State.blocked (s : State) (b : Nat) : Bool :=
  !s.flag (F.HRN_HBb_CFG_ENABLE b) || s.flag (F.HRN_HBb_FAULT_LATCHED b) ||
    bitOf (s.get F.HRN_STATUS_VMOT_UV) (vmotGroup b) || s.hlt.harnessOff || !s.domainOn 13

/-- Does the bridge switch: MODE RUN, not blocked, and for Hall3 with a pattern in force? -/
def State.running (s : State) (b : Nat) : Bool :=
  decide (s.get (F.HRN_HBb_CMD_MODE b) = 1) && !s.blocked b && (!isHall b || (s.hb b).pattern.isSome)

/-- The duty delivered for a duty applied (R357, R358, R366), 0.01 %, after MIN_PULSE, the widened off interval and the centre
refresh below 31.25 kHz; lengths in 4 ns times PWM_KHZ, of a period of 250,000. -/
def State.delivered (s : State) (b duty : Nat) : Nat :=
  let khz := s.get (F.HRN_HBb_CFG_PWM_KHZ b)
  let refresh := (100 + 2 * s.get (F.HRN_HBb_TIMING_DT b)) * khz
  let minPulse := s.get (F.HRN_HBb_TIMING_MIN_PULSE b) * khz
  if duty = 0 ∨ duty * 25 < minPulse then 0
  else
    let off0 := (10000 - duty) * 25
    let off := if off0 < minPulse then 0 else off0
    let high : Int := 250000 - max off refresh - (if 4 * khz < 125 then refresh else 0)
    (Config.rnd (max high 0) 25).toNat

/-- The delivered duty that HRN_HBb_CMD and _CMD_VW show for a phase (R366): zero where it does not switch by PWM of its own. -/
def State.shownDuty (s : State) (b i : Nat) : Nat :=
  if s.running b && (isHall b || bitOf (s.hb b).mask i) && (isHall b || !s.flag (F.HRN_HBb_CFG_INPUT_SRC b)) then
    s.delivered b ((s.dutyNow b).getD i 0)
  else 0

/-- Is the bridge's duty on its way to its goal? -/
def State.ramping (s : State) (b : Nat) : Bool := s.running b && decide (s.dutyNow b ≠ s.goal b)

/-! ### Auxiliary regulators -/

def State.au (s : State) (n : Nat) : Aux := s.aux.getD n Aux.init
def State.auxPhase (s : State) (n : Nat) : Nat := s.get (F.AUXn_STATE_PHASE n)

/-- The phase under braking (R386). -/
def State.auxRunPhase (s : State) (n : Nat) : Nat := if s.auxPhase n = 8 then (s.au n).braked else s.auxPhase n

/-- Is the regulator switching: soft start, regulating, slewing, ramp-down or braking? -/
def State.auxSwitching (s : State) (n : Nat) : Bool := decide (3 ≤ s.auxRunPhase n) && decide (s.auxRunPhase n ≤ 6)

/-- The present reference, output-referred, mV: on its way to the target at the slew in force (R381, R384, R385). -/
def State.auxRef (s : State) (n : Nat) : Nat :=
  let a := s.au n
  if s.auxSwitching n then
    toward a.slewFrom (s.get (F.AUXn_TARGET_TARGET n)) (a.slew * 10 * (s.chrono - a.slewAt) / 250000)
  else 0

/-- Does a target need a reference within 0.300 V to 1.200 V (R380)? -/
def State.auxFits (s : State) (n t : Nat) : Bool :=
  let div := s.get (F.AUXn_DIV_RATIO n)
  decide (300 * div ≤ t * 4096) && decide (t * 4096 ≤ 1200 * div)

/-- The BOOT target (R397, R401), none where it is 0 or needs a reference out of range. -/
def State.auxBoot? (s : State) (n : Nat) : Option Nat :=
  let t := s.get (F.AUXn_BOOT_TARGET n)
  if t ≠ 0 ∧ s.auxFits n t = true then some t else none

end Sys2Proof.Machine
end

