-- ==== Sys2Proof/Machine/RegAccess.lean ====
section
/-!
DEFINITION. Register access as BAR0 sees it (R46-R51, R86, R573-R585): the 32-bit word a register reads as, the effect of a
write on its fields by access code, denied writes, off-domain capture, clearing by retention class (R555).
-/
namespace Sys2Proof.Machine

/-- The field `f` of a row at the offset of its register (the LO offset for a pair). -/
def FieldRow.fld (f : FieldRow) (base : Nat) : Fld := ⟨base / 0x1000000, base / 0x10000 % 256, base % 0x10000, f.lo, f.w⟩

/-- The offset a register's fields are stored under, for an access at `off` (the LO half of a pair). -/
def RegRow.baseOf (r : RegRow) (off : Nat) : Nat :=
  if r.isHi off then off - (r.hi.getD 0 - r.off) else off

/-- The whole value of the register at `off`: 32 bits, or 64 for a pair, WO fields reading zero (R12). -/
def State.rowVal (s : State) (r : RegRow) (base : Nat) : Nat :=
  (r.fields.map fun f => if f.acc = .wo then 0 else s.get (f.fld base) * 2 ^ f.lo).foldl (· + ·) 0

/-- The stall or metering channel a per-object offset of SLK, YMS, WLK, WBG, BIL, DRO, HRN or HLT belongs to (R573). -/
def objectOf (off : Nat) : Option Nat :=
  let o := off % 0x10000
  match off % 0x200000 / 0x10000 with
  | 0x2 => if 0x1000 ≤ o then some ((o - 0x1000) / 0x100) else none
  | 0x3 => if 0x1000 ≤ o then some ((o - 0x1000) / 0x20) else none
  | 0x4 => if 0x1000 ≤ o then some ((o - 0x1000) / 0x40) else none
  | 0x5 => if 0x1000 ≤ o then some ((o - 0x1000) / 0x40) else none
  | 0x6 => if 0x1000 ≤ o then some ((o - 0x1000) / 0x40) else none
  | 0x7 => if 0x1000 ≤ o then some ((o - 0x1000) / 0x20) else none
  | 0x8 => if 0x2000 ≤ o then some ((o - 0x2000) / 0x10) else none
  | 0xC => if 0x1000 ≤ o then some ((o - 0x1000) / 0x20) else none
  | _ => none

/-- R3: a register of an absent stall, or of its metering channel (channels 48 to 51 are feeders and present). -/
def State.absent (s : State) (off : Nat) : Bool :=
  match objectOf off with
  | some n => decide (s.variant.links ≤ n) && decide (n < 48)
  | none => false

/-- A bitmap of the stalls `lo` to `lo + 31` whose link state is `v` (R148). -/
def State.linkMap (s : State) (lo n v : Nat) : Nat :=
  ((List.range n).map fun i => if s.hasStall (lo + i) ∧ s.get (F.SLK_Sn_STATE_STATE (lo + i)) = v then 2 ^ i else 0).foldl (· + ·) 0

/-- Is any RW1C bit of window `b` set, as paddock `p` sees it (R576 GLB_ATTN)? -/
def State.attnBit (s : State) (p b : Nat) : Bool :=
  s.domainOn (domainOf (b * 0x10000)) && (regRowsOf b).any fun r =>
    r.fields.any fun f => f.acc = .rw1c && s.get (f.fld (r.off + if b = 1 then 0x1000000 * p else 0)) != 0

/-- LOCK of window `b` (R581); PDK has none. -/
def lockFld : Nat → Option Fld
  | 0x0 => some F.GLB_LOCK | 0x2 => some F.SLK_LOCK | 0x3 => some F.YMS_LOCK | 0x4 => some F.WLK_LOCK
  | 0x5 => some F.WBG_LOCK | 0x6 => some F.BIL_LOCK | 0x7 => some F.DRO_LOCK | 0x8 => some F.HRN_LOCK
  | 0x9 => some F.AUX_LOCK | 0xA => some F.LSW_LOCK | 0xB => some F.CAN_LOCK | 0xC => some F.HLT_LOCK
  | 0xD => some F.TCK_LOCK | 0xE => some F.HAY_LOCK | 0xF => some F.PWR_LOCK | 0x10 => some F.CVU_LOCK | _ => none

def State.locked (s : State) (b : Nat) : Bool :=
  match lockFld b with
  | some f => s.flag f
  | none => false

/-- A display register (R264): 34 display bits and the wrap count, from the accumulator. -/
def dispVal (acc : Nat) : Nat := acc / 1000 % 10 ^ 10 + acc / 10 ^ 13 % 65536 * 2 ^ 48

/-- The registers of Weighbridge and Billing that are views (R250-R308): backlog, wall time, time status, journal, fills, route,
displays, session. -/
def State.meterVal (s : State) (r : RegRow) (base : Nat) : Nat :=
  let o := base % 0x10000
  let c := (o - 0x1000) / 0x40
  let bil := decide (base / 0x10000 = 6)
  if base = 0x6000C then s.wall
  else if base = 0x60008 then s.rowVal r base + ofSignedSat 16 s.slewRemain * 256
  else if base = 0x60038 then s.bil.journal.length
  else if base = 0x6003C then
    (Config.rnd (s.hay.profiles.items.length * 1000 : Nat) 155344).toNat * 0x10000 +
      (Config.rnd (s.hay.readings.items.length * 1000 : Nat) 285569).toNat
  else if base = 0x6004C then s.rowVal r base + s.bil.tlog.length * 256
  else if bil && decide (0x1000 ≤ o) then
    let m := s.wbg.met.getD c Met.init
    match o % 0x40 with
    | 0x00 => b2n m.sess.isSome * 2 ^ 31 + s.bil.tariff
    | 0x0C => dispVal (s.get (F.WBG_Mc_FWD c))
    | 0x14 => dispVal (s.get (F.WBG_Mc_REV c))
    | 0x1C => (m.sess.map fun x => x.bind.handle).getD 0xFFFFFFFF
    | _ => s.rowVal r base
  else if !bil && decide (0x20C ≤ o) && decide (o ≤ 0x26C) && decide (o % 0x20 = 0xC) then
    (((s.wbg.pulses.getD ((o - 0x20C) / 0x20) Pulse.init).queue.filter fun t => t ≤ s.chrono).length) % 65536
  else s.rowVal r base

/-- The Hayloft's views (R516-R531): status, hold-up energy and need, fill, queue. -/
def State.hayVal (s : State) (r : RegRow) (base : Nat) : Nat :=
  match base % 0x10000 with
  | 0x04 => s.rowVal r base + 64 * b2n s.finalOk + 32 * b2n (decide (s.get F.PWR_STATE_SUPPLY ≠ 0)) + 16 * b2n s.noSpare
  | 0x14 => s.get F.HAY_HOLDUP_E_VHOLD * 65536 + s.eHold
  | 0x18 => min (Config.rnd (s.finalNeed : Nat) 100).toNat 65535
  | 0x20 =>
    (Config.rnd (s.hay.changelog.items.length * 1000 : Nat) 18600).toNat * 65536 +
      (Config.rnd (((s.hay.host.map fun x => x.1 / 4096).eraseDups).length * 1000 : Nat) 114688).toNat
  | 0x48 =>
    let held := s.hay.work.filter fun w => !w.busy
    let host := ((List.range 4).map fun p => (((s.pd p).table ++ (s.pd p).orphans).filter fun d =>
      d.phase = .queued ∧ 0x0E01 ≤ d.opcode ∧ d.opcode ≤ 0x0E03).length).foldl (· + ·) 0
    let own := held.filter fun w => match w.kind with
      | .host _ _ _ _ => true
      | _ => false
    min (host + own.length) 255 * 256 + min (held.length - own.length) 255
  | _ => s.rowVal r base

/-! ### Session contexts as the registers show them (R312, R313, R344) -/

def State.ctx (s : State) (i : Nat) : Ctx := s.dro.ctxs.getD i Ctx.init

/-- The context indices of the order code (R1). -/
def State.ctxNums (s : State) : List Nat := List.range s.variant.sessions

/-- Is the context in a state from OPEN to ENDING? -/
def Ctx.live (c : Ctx) : Bool := decide (1 ≤ c.state) && decide (c.state ≤ 5)

/-- The stall's context from OPEN to ENDING. -/
def State.stallCtx (s : State) (n : Nat) : Option Nat := s.ctxNums.find? fun i => (s.ctx i).live ∧ (s.ctx i).stall = n

def State.handle (s : State) (i : Nat) : Nat := (s.ctx i).gen * 128 + i

/-- The Drover's views (R344): a merge, contexts in use, the handle and the state of a stall's context. -/
def State.droVal (s : State) (r : RegRow) (base : Nat) : Nat :=
  let o := base % 0x10000
  match o with
  | 0x04 => s.rowVal r base + 4 * b2n s.dro.overlay.isSome
  | 0x1C => (s.dro.overlay.map fun x => 2 ^ 31 + x.next % 2 ^ 20).getD 0
  | 0x20 => (s.ctxNums.filter fun i => (s.ctx i).state ≠ 0).length
  | _ =>
    if 0x1000 ≤ o ∧ o % 0x20 = 0x0C then ((s.stallCtx ((o - 0x1000) / 0x20)).map s.handle).getD 0xFFFFFFFF
    else if 0x1000 ≤ o ∧ o % 0x20 = 0x10 then
      ((s.stallCtx ((o - 0x1000) / 0x20)).map fun i => (s.ctx i).mstate * 65536 + (s.ctx i).proto * 256 + (s.ctx i).state).getD 0
    else s.rowVal r base

/-- The type, root, usage bits and generation of slot `k` (R475, R484): the system slots as the spec fixes them, the host's from their
registers. -/
def State.slotOf (s : State) (k : Nat) : Nat × Nat × Nat × Nat :=
  let st := s.get F.TCK_LIFECYCLE_STATE
  if 16 ≤ k then (s.get (F.TCK_SLOTs_INFO_TYPE k), s.get (F.TCK_SLOTs_INFO_ROOT k), s.get (F.TCK_SLOTs_INFO_USAGE k), s.get (F.TCK_SLOTs_GEN k))
  else if k = 1 then (if st = 2 ∨ st = 3 then (1, 1, 2, s.get F.TCK_LIFECYCLE_COUNT) else (0, 0, 0, 0))
  else if st = 5 then (0, 0, 0, 0)
  else if k = 6 then (if s.tck.ppk = [] then (0, 0, 0, 0) else (8, 4, 0x100, 0))
  else match k with
    | 0 => (1, 3, 1, 0)
    | 2 => (1, 3, 4, 0)
    | 3 => (6, 3, 0x20, 0)
    | 4 => (6, 3, 0x40, 0)
    | 5 => (7, 3, 0x80, 0)
    | _ => (0, 0, 0, 0)

/-- Whole seconds left to a Chronobase instant, rounded up. -/
def State.secsLeft (s : State) (end_ : Nat) : Nat := (end_ - s.chrono + 249999999) / 250000000

/-- The Tack Room's views (R498, R507, R508): seconds left, waiting work, slots. -/
def State.tckVal (s : State) (r : RegRow) (base : Nat) : Nat :=
  let o := base % 0x10000
  if o = 0x1C then s.rowVal r base + (if s.flag F.TCK_WIN_STATE_OPEN then s.secsLeft s.tck.winEnd else 0)
  else if o = 0x28 then s.rowVal r base + (if s.flag F.TCK_STATUS_WINDOW_LOCKED then s.secsLeft s.tck.lockEnd * 65536 else 0)
  else if o = 0x34 then
    let host := ((List.range 4).map fun p => (((s.pd p).table ++ (s.pd p).orphans).filter fun d =>
      d.phase = .queued ∧ 0x0D05 ≤ d.opcode ∧ d.opcode ≤ 0x0D07).length).foldl (· + ·) 0
    min host 255 * 256 + min s.bil.journal.length 255
  else if 0x200 ≤ o ∧ o < 0xA00 then
    let k := s.slotOf ((o - 0x200) / 8)
    if o % 8 = 0 then k.1 * 2 ^ 28 + k.2.1 * 2 ^ 25 + k.2.2.1 * 2 ^ 16 else k.2.2.2
  else s.rowVal r base

/-- Does a proof test of the SAFE_OUT paths hold channel `ch` (0 A, 1 B) de-energised: A in its first 10 ms, B in the next (R471)? -/
def State.proofOff (s : State) (ch : Nat) : Bool :=
  match s.hlt.proof with
  | some (_, _, tests) =>
    bitOf tests 0 && decide (s.hlt.proofAt + 2500000 * ch ≤ s.chrono) && decide (s.chrono < s.hlt.proofAt + 2500000 * (ch + 1))
  | none => false

/-- Is SAFE_OUT channel `ch` energised (R449, R471)? -/
def State.safeOut (s : State) (ch : Nat) : Bool :=
  s.flag (if ch = 0 then F.HLT_SAFE_OUT_A_ON else F.HLT_SAFE_OUT_B_ON) && !s.proofOff ch

/-- HLT_SAFE_OUT (R473): command and readback of a channel under test read de-energised. -/
def State.safeOutVal (s : State) (v : Nat) : Nat :=
  let one := fun (v ch : Nat) => if s.proofOff ch then setBitOf (setBitOf v ch false) (4 + ch) false else v
  one (one v 0) 1

/-- The lane supervisor's views (R462, R463, R465), the safety outputs' (R471) and the hold window's (R552). -/
def State.laneVal (s : State) (r : RegRow) (base : Nat) : Nat :=
  match base with
  | 0x40C => (s.lan.holdoff.map s.secsLeft).getD 0
  | 0x410 => min (s.rowVal r base + (s.lan.noSince.map fun t => (s.chrono - t) / 250000000).getD 0) (2 ^ 32 - 1)
  | 0x418 =>
    let n := fun (k : Nat) => min ((s.lan.losses.getD k []).filter fun t => s.get F.BIL_TICK < t + 86400).length 255
    n 1 * 256 + n 0
  | 0xC000C => s.safeOutVal (s.rowVal r base)
  | 0xF0028 => s.rowVal r base + (if s.flag F.PWR_HOLD_STATE_HOLD then (s.pwr.holdEnd - s.chrono + 249999) / 250000 else 0)
  | _ => s.rowVal r base

/-- The seconds left that count down, of a stall on fewer phases (R216) or on one cable sensor (R452), as WLK_Sn_DEGRADE and
HLT_Sn_DEGRADE show them. -/
def State.degradeVal (s : State) (r : RegRow) (base : Nat) : Nat :=
  let o := base % 0x10000 - 0x1000
  let n := if base / 0x10000 = 4 then o / 0x40 else o / 0x20
  let h := s.haltS.getD n Halt.init
  let spent := fun (t : Nat) => (s.chrono - t) / 250000000
  let phase := if s.flag (F.HLT_Sn_DEGRADE_PHASE_MODE n) && !s.flag (F.WLK_Sn_DEGRADE_BLOCKED n) then spent h.phaseAt else 0
  let sensor := match h.sensorAt with
    | some t => if s.get (F.WLK_Sn_MODE_MODE n) = 0 ∨ s.get (F.WLK_Sn_MODE_MODE n) = 5 then 0 else spent t
    | none => 0
  if base / 0x10000 = 4 then s.rowVal r base - min phase (s.get (F.WLK_Sn_DEGRADE_REMAIN n))
  else s.rowVal r base - min phase (s.get (F.HLT_Sn_DEGRADE_PHASE_LEFT n)) - 65536 * min sensor (s.get (F.HLT_Sn_DEGRADE_SENSOR_LEFT n))

/-- What the registers of the Harness and of the auxiliary regulators show of a running ramp or slew (R366, R377, R381, R401), and the
latches as AUX_STATUS shows them. -/
def State.driveVal (s : State) (r : RegRow) (base : Nat) : Nat :=
  let v := s.rowVal r base
  let o := base % 0x10000
  if base / 0x10000 = 8 ∧ 0x1000 ≤ o ∧ o < 0x1200 then
    let b := (o - 0x1000) / 0x40
    if o % 0x40 = 0x10 then v / 2 ^ 14 * 2 ^ 14 + s.shownDuty b 0
    else if o % 0x40 = 0x14 then (if isHall b then v else s.shownDuty b 2 * 65536 + s.shownDuty b 1)
    else if o % 0x40 = 0x18 then setBitOf v 5 (s.ramping b)
    else v
  else if base = 0x90004 then
    v / 16 * 16 + ((List.range 4).map fun n => if s.flag (F.AUXn_FAULT_LATCHED n) then 2 ^ n else 0).foldl (· + ·) 0
  else if base / 0x10000 = 9 ∧ 0x1000 ≤ o ∧ o % 0x40 = 0x14 then s.auxRef ((o - 0x1000) / 0x40) % 65536 * 65536 + v % 65536
  else v

/-- The whole value (32 or 64 bits) of the register at `off`, with the registers that are views of other state computed
from it: GLB_VARIANT (R576), GLB_CHRONO, GLB_ATTN, GLB_LOCK_MAP, PDK_ID, SLK_PRESENT and the link maps (R148). -/
def State.liveVal (s : State) (p : Nat) (r : RegRow) (base : Nat) : Nat :=
  match base % 0x1000000 with
  | 0x4 => s.variant.order * 0x1000000 + 0x100000 + s.variant.sessions * 0x100 + s.variant.links
  | 0x28 => s.chrono % 2 ^ 64
  | 0x34 => ((List.range 17).map fun b => if s.attnBit p b then 2 ^ b else 0).foldl (· + ·) 0
  | 0x70 =>
    let dir := s.get F.GLB_GPIO_DIR
    (s.get F.GLB_GPIO_OUT &&& dir) ||| (s.get F.GLB_GPIO_IN - (s.get F.GLB_GPIO_IN &&& dir))
  | 0x44 => ((List.range 17).map fun b => if s.locked b then 2 ^ b else 0).foldl (· + ·) 0
  | 0x10000 => p
  | 0x20000 => s.variant.links
  | 0x2000C => s.linkMap 0 32 6
  | 0x20010 => s.linkMap 32 16 6
  | 0x20014 => s.linkMap 0 32 5
  | 0x20018 => s.linkMap 32 16 5
  | _ =>
    let w := base / 0x10000
    if w = 5 ∨ w = 6 then s.meterVal r base else if w = 7 then s.droVal r base else if w = 0xE then s.hayVal r base
    else if w = 0xD then s.tckVal r base else if w = 8 ∨ w = 9 then s.driveVal r base
    else if (w = 4 ∧ 0x41000 ≤ base ∧ base % 0x40 = 0x24) ∨ (w = 0xC ∧ 0xC1000 ≤ base ∧ base % 0x20 = 0xC) then s.degradeVal r base
    else s.laneVal r base

/-- The key offset of an access: paddock `p` sees its own copy of the PDK window (R44). -/
def keyOff (p off : Nat) : Nat :=
  let o := off % 0x200000
  if o / 0x10000 = 1 then o + 0x1000000 * p else o

/-- What a read of `off` by paddock `p` returns, its shadow aside: zero where nothing is assigned (R574) or the stall is
absent (R3), else 0xFFFF_FFFF in a powered-off domain (R86). -/
def State.readWord (s : State) (p off : Nat) : Nat :=
  if s.absent off then 0
  else
    match regRowAt off with
    | none => 0
    | some r =>
      if s.domainOn (domainOf off) = false then 0xFFFFFFFF
      else
      let v := s.liveVal p r (r.baseOf (keyOff p off))
      if r.isHi off then v / 2 ^ 32 % 2 ^ 32 else v % 2 ^ 32

/-- A denied write (R51): PDK_DENY_STATUS captures the offset and WRITE_DENIED (0x0103) goes to the paddock. -/
def State.deny (s : State) (p off : Nat) : State :=
  ((s.setB (F.PDK_DENY_STATUS_VALID p) true).set (F.PDK_DENY_STATUS_OFFSET p) off).raisePdk p 0x0103 2 (le 4 off)

/-- The 32-bit word `val` as it lands in the register's value, for the half `off` names. -/
def mergeHalf (r : RegRow) (off old val : Nat) : Nat :=
  match r.hi with
  | none => val % 2 ^ 32
  | some _ => if r.isHi off then old % 2 ^ 32 + (val % 2 ^ 32) * 2 ^ 32 else old / 2 ^ 32 * 2 ^ 32 + val % 2 ^ 32

/-- R609: does every writable field get an allowed value? -/
def rowAllowed (r : RegRow) (w : Nat) : Bool :=
  r.fields.all fun f => match f.acc with
    | .rw => f.ok.ok (w / 2 ^ f.lo % 2 ^ f.w)
    | .rwl => f.ok.ok (w / 2 ^ f.lo % 2 ^ f.w)
    | .rwp => f.ok.ok (w / 2 ^ f.lo % 2 ^ f.w)
    | _ => true

/-- Apply a word to the fields of a register by access code: RW and RWL take it, RW1C clears where it is 1 (R12). -/
def State.writeFields (s : State) (r : RegRow) (base w : Nat) : State :=
  r.fields.foldl (fun t f =>
    let v := w / 2 ^ f.lo % 2 ^ f.w
    match f.acc with
    | .rw => t.set (f.fld base) v
    | .rwl => t.set (f.fld base) v
    | .rw1c => t.set (f.fld base) (t.get (f.fld base) - (t.get (f.fld base) &&& v))
    | _ => t) s

/-- Apply a word to the RWP fields of a register (R583). -/
def State.writeRwp (s : State) (r : RegRow) (base w : Nat) : State :=
  r.fields.foldl (fun t f => if f.acc = .rwp then t.set (f.fld base) (w / 2 ^ f.lo % 2 ^ f.w) else t) s

/-- Does the register hold a field of access code `a`? -/
def RegRow.has (r : RegRow) (a : Access) : Bool := r.fields.any fun f => f.acc = a

/-- Does the paddock hold the right a setup write of this offset needs (R51)? -/
def State.mayWrite (s : State) (p off : Nat) : Bool :=
  match setupRight (off % 0x200000 / 0x10000) with
  | some bit => s.hasRight p bit
  | none => true

/-- Is `off` a register that an access finds off-domain when its domain has no power: assigned (R574) and not of an absent stall (R3)? -/
def State.offAccess (s : State) (off : Nat) : Bool := !s.absent off && (regRowAt off).isSome

/-- The first access to a powered-off domain since the last clear is captured, a further one sets OVERFLOW (R86, R579), and
the paddock receives OFF_DOMAIN_ACCESS (0x0002). -/
def State.offDomain (s : State) (p off : Nat) (write : Bool) : State :=
  let s := if s.flag F.GLB_OFFDOM_STATUS_VALID then s.setB F.GLB_OFFDOM_STATUS_OVERFLOW true
    else (((s.setB F.GLB_OFFDOM_STATUS_VALID true).set F.GLB_OFFDOM_STATUS_PADDOCK p).setB F.GLB_OFFDOM_STATUS_WRITE write).set
      F.GLB_OFFDOM_STATUS_OFFSET off
  s.raiseOwn p 0x0002 2 (le 4 off ++ [p])

/-- What a setup write meets before its own behaviour: discarded where nothing is assigned or the stall is absent (R3, R574); captured in an off domain (R86); denied without the right (R51) or on a locked RWL field (R581); discarded
whole for a value not allowed (R609). Then `f` gets the row, its base and the merged word. -/
def State.setupWrite (s : State) (p off val : Nat) (f : RegRow → Nat → Nat → State → State) : State :=
  if s.domainOn 4 = false then s
  else if s.absent off then s
  else
    match regRowAt off with
    | none => s
    | some r =>
      if s.domainOn (domainOf off) = false then s.offDomain p (off % 0x200000) true
      else if s.mayWrite p off = false then s.deny p (off % 0x200000)
      else if r.has .rwl && s.locked (off % 0x200000 / 0x10000) then s.deny p (off % 0x200000)
      else
        let base := r.baseOf (keyOff p off)
        let w := mergeHalf r off (s.rowVal r base) val
        if rowAllowed r w then f r base w s else s

/-! ### Clearing by retention class (R555) -/

/-- The retention class of a stored field. -/
def retOf (key : Nat) : Retention :=
  match fieldRowAt key with
  | some f => f.ret
  | none => .n

/-- Return the fields that `which` picks (by key and class) to their reset values. -/
def State.clearRegs (s : State) (which : Nat → Retention → Bool) : State :=
  { s with regs := s.regs.filter fun e => !(which e.1 (retOf e.1)) }

/-- Is the stored field one of paddock `p`'s own (R44)? -/
def ofPaddock (p key : Nat) : Bool :=
  decide (key / 32 / 0x10000 = 0x100 * p + 1)

end Sys2Proof.Machine
end

