-- ==== Sys2Proof/Machine/HalterOps.lean ====
section
/-!
DEFINITION. Shared operations of the Walker's modes and the Halter's stops (R199-R217, R435-R445): the newest sample of a
stall, its ceilings, the permit conditions, failing a mode, starting an orderly or emergency stop.
-/
namespace Sys2Proof.Machine

/-! ### Per-stall state -/

def State.link (s : State) (n : Nat) : Slk := s.slk.getD n Slk.init
def State.modLink (s : State) (n : Nat) (f : Slk → Slk) : State := { s with slk := modAt s.slk n f }
def State.walk (s : State) (n : Nat) : Wlk := s.wlk.getD n Wlk.init
def State.modWalk (s : State) (n : Nat) (f : Wlk → Wlk) : State := { s with wlk := modAt s.wlk n f }
def State.halt (s : State) (n : Nat) : Halt := s.haltS.getD n Halt.init
def State.modHalt (s : State) (n : Nat) (f : Halt → Halt) : State := { s with haltS := modAt s.haltS n f }
def State.rec? (s : State) (n : Nat) : StallRec := s.stallRec.getD n StallRec.init
def State.modRec (s : State) (n : Nat) (f : StallRec → StallRec) : State := { s with stallRec := modAt s.stallRec n f }

/-- Link states (R121). -/
abbrev Link.off := 0
abbrev Link.training := 1
abbrev Link.identify := 2
abbrev Link.keying := 3
abbrev Link.configuring := 4
abbrev Link.quarantine := 5
abbrev Link.run := 6
abbrev Link.lost := 7

def State.linkState (s : State) (n : Nat) : Nat := s.get (F.SLK_Sn_STATE_STATE n)

/-- The stall's type entry in the active WLK_STALLTYPE table (R189). -/
def State.stallType? (s : State) (n : Nat) : Option StallType := s.types[s.get (F.WLK_Sn_TYPE_TYPE n)]?

def stallTypeAt (t : List Nat) (i : Nat) : StallType :=
  let b := t.drop (16 + 64 * i)
  { topology := byteAt b 0, phases := byteAt b 1, period := byteAt b 2, dt := leAt b 4 2, minPulse := leAt b 6 2
    maxDuty := leAt b 8 2, twoStep := leAt b 10 2, iRated := leAt b 12 2, vRated := leAt b 14 2, iPhMax := leAt b 16 2
    phArm := leAt b 18 2, iPre := leAt b 20 2, ccTimeout := byteAt b 22, preTimeout := byteAt b 23, kpI := leAt b 24 4
    kiI := leAt b 28 4, kpV := leAt b 32 4, kiV := leAt b 36 4, kb := leAt b 40 4, vm := leAt b 44 4, xiLim := leAt b 48 4 }

def readTypes (t : List Nat) : List StallType := (List.range (byteAt t 1)).map (stallTypeAt t)

/-- The types in force at link cycle `c` (R191): those of a WLK_STALLTYPE table whose switch comes at or before its start. -/
def State.typesAt (s : State) (c : Nat) : List StallType :=
  match s.tck.switch, s.tck.staged.find? fun x => x.kind = 0x12 ∧ x.epoch = s.get F.TCK_SWITCH_EPOCH with
  | some w, some x => if w.2.2 ≤ 2500 * c then readTypes x.payload else s.types
  | _, _ => s.types

/-- The newest valid sample, if any frame came. -/
def State.sample? (s : State) (n : Nat) : Option Sample := (s.link n).samples.find? fun x => x.valid

/-- |i| of the newest valid sample in 0.1 A, rounded down (R115). -/
def State.absI (s : State) (n : Nat) : Nat :=
  match s.sample? n with
  | some x => x.i.natAbs * (s.link n).ident.ifs / 2 ^ 23
  | none => 0

/-- |i| below 5.0 A in the newest sample, which must be valid (R441, R442). -/
def State.below5A (s : State) (n : Nat) : Bool :=
  match (s.link n).samples with
  | x :: _ => x.valid && decide (x.i.natAbs * (s.link n).ident.ifs < 50 * 2 ^ 23)
  | [] => false

/-- Bits of the last valid STATUS and HALTER_STATUS (R115). -/
def State.contactorClosed (s : State) (n : Nat) : Bool := bitOf (s.link n).status 3
def State.switchesOff (s : State) (n : Nat) : Bool := bitOf (s.link n).status 2
def State.twoStepDone (s : State) (n : Nat) : Bool := bitOf (s.link n).status 12

/-- The valid housekeeping value of an index (R117). -/
def State.hkVal (s : State) (n i : Nat) : Option Nat :=
  match (s.link n).hk.find? fun e => e.1 = i with
  | some e => if e.2.valid then some e.2.value else none
  | none => none

/-! ### Walker modes (R199-R202, R213, R216) -/

def State.mode (s : State) (n : Nat) : Nat := s.get (F.WLK_Sn_MODE_MODE n)

/-- IDLE or STOPPED. -/
def State.modeRest (s : State) (n : Nat) : Bool := decide (s.mode n = 0) || decide (s.mode n = 5)

/-- Seconds left of the 30 min of degraded running (R216). -/
def State.phaseLeft (s : State) (n : Nat) : Nat := 1800 - (s.chrono - (s.halt n).phaseAt) / 250000000

/-- The stall becomes blocked (R216, R217) with STALL_BLOCKED (0x0403); what is left of the degraded time stands. -/
def State.block (s : State) (n cause : Nat) : State :=
  if s.flag (F.WLK_Sn_DEGRADE_BLOCKED n) then s
  else
    let s := if s.flag (F.HLT_Sn_DEGRADE_PHASE_MODE n) then
        (s.set (F.WLK_Sn_DEGRADE_REMAIN n) (min (s.get (F.WLK_Sn_DEGRADE_REMAIN n)) (s.phaseLeft n))).set (F.HLT_Sn_DEGRADE_PHASE_LEFT n)
          (min (s.get (F.HLT_Sn_DEGRADE_PHASE_LEFT n)) (s.phaseLeft n))
      else s
    ((s.setB (F.WLK_Sn_DEGRADE_BLOCKED n) true).setB (F.HLT_Sn_LATCH_BLOCKED n) true).raise 0x0403 3 n [cause]

/-- The mode reached IDLE or STOPPED: the session ends, so a degraded stall, or one stopped under R217, is blocked (R216)
and the cable-sensor time of the session is no longer spent (R452). -/
def State.sessionRest (s : State) (n : Nat) : State :=
  let c := s.get (F.WLK_Sn_DEGRADE_CAUSE n)
  let s := if s.flag (F.WLK_Sn_DEGRADE_DEGRADED n) ∨ 2 ≤ c then s.block n (c - 1) else s
  s.set (F.HLT_Sn_DEGRADE_SENSOR_LEFT n) (if s.flag (F.HLT_Sn_DEGRADE_SENSOR_MODE n) then 300 else 0)

/-- Set the stall's mode; leaving IDLE or STOPPED ends a fixed cooling command (R352). `st` is the STATE field (0 none, 1 running, 2 REACHED, 3 failed). -/
def State.setMode (s : State) (n m st : Nat) : State :=
  let s := (s.set (F.WLK_Sn_MODE_MODE n) m).set (F.WLK_Sn_MODE_STATE n) st
  if m = 0 ∨ m = 5 then s.sessionRest n
  else if s.get (F.HRN_Sn_COOL_FLOOR_MODE n) = 2 then
    ((s.set (F.HRN_Sn_COOL_FLOOR_MODE n) 0).set (F.HRN_Sn_COOL_FLOOR_PUMP n) 0).set (F.HRN_Sn_COOL_FLOOR_VALVE n) 0
  else s

/-- Start the ramp stop from the present current (R211). -/
def State.startRamp (s : State) (n : Nat) : State :=
  s.modWalk n fun w => { w with
    ramp := some (s.getS (F.WLK_Sn_CURRENT_I_OUT n), 0), okSince := none, stopAt := s.chrono }

/-- A mode fails: MODE_FAIL (0x0404), CAUSE kept, and the stall passes to RAMP_DOWN (R202). -/
def State.failMode (s : State) (n cause : Nat) : State :=
  let m := s.mode n
  let s := (s.set (F.WLK_Sn_MODE_CAUSE n) cause).raise 0x0404 2 n [m, cause]
  if m = 1 ∨ m = 2 ∨ m = 3 then
    ((s.setMode n 4 1).modWalk n fun w => { w with requested := false, failed := true }).startRamp n
  else if m = 4 then s.modWalk n fun w => { w with requested := false, failed := true }
  else s

/-- A mode request is refused: MODE_FAIL, and the mode stays (R200). -/
def State.refuseMode (s : State) (n m cause : Nat) : State :=
  (s.set (F.WLK_Sn_MODE_CAUSE n) cause).raise 0x0404 2 n [m, cause]

/-- A two-step off of the Walker starts (R211): both loop states go to zero (R206). -/
def State.startTwoStep (s : State) (n : Nat) : State :=
  s.modWalk n fun w => { w with twoStep := true, allOff := 0, xv := 0, xi := 0, out_ := .none, ramp := none,
                                carry := List.replicate 6 0, endPrev := List.replicate 6 none, stopAt := s.chrono }

/-! ### Halter profiles and ceilings (R435-R437) -/

/-- Profile table (R435): current 0.1 A, voltage 0.1 V, insulation kΩ, cable and connector limits 0.1 °C, cable class. -/
def profileRow : Nat → Option (Nat × Nat × Nat × Nat × Nat × Nat)
  | 1 => some (1250, 5000, 50, 900, 900, 0)
  | 2 => some (2000, 9200, 92, 900, 900, 0)
  | 3 => some (3500, 9200, 92, 900, 900, 0)
  | 4 => some (4000, 10000, 100, 900, 900, 0)
  | 5 => some (5000, 10000, 100, 900, 900, 0)
  | 6 => some (5000, 12500, 125, 900, 900, 0)
  | 8 => some (10000, 12500, 125, 900, 1000, 1)
  | 9 => some (15000, 12500, 125, 900, 1000, 1)
  | 10 => some (20000, 12500, 125, 900, 1000, 1)
  | 11 => some (24000, 10000, 100, 900, 1000, 1)
  | 12 => some (24000, 12500, 125, 900, 1000, 1)
  | 13 => some (30000, 10000, 100, 900, 1000, 1)
  | 14 => some (30000, 12500, 125, 900, 1000, 1)
  | _ => none

/-- The committed seal (R435) and its bits: COOL_REQ 6, IMD_REQ 5, CABLE_CLASS 4. -/
def State.sealWord (s : State) (n : Nat) : Nat := s.get (F.SLK_Sn_SEAL_COMMITTED n)

/-- The profile allows a permit: 1 to 6 or 8 to 14, with the seal's CABLE_CLASS (R436). -/
def State.profile? (s : State) (n : Nat) : Option (Nat × Nat × Nat × Nat × Nat × Nat) :=
  match profileRow (s.sealWord n % 16) with
  | some r => if r.2.2.2.2.2 = b2n (bitOf (s.sealWord n) 4) then some r else none
  | none => none

/-- Phases lost. -/
def State.lostPhases (s : State) (n : Nat) : Nat := popcount 6 (s.get (F.WLK_Sn_PHASE_LOST n))

/-- The Halter current ceiling (R437): profile times F_phase times F_sensor, rounded down to 0.1 A. -/
def State.ceilNow (s : State) (n : Nat) : Nat :=
  match profileRow (s.sealWord n % 16) with
  | none => 0
  | some r =>
    let np := s.get (F.WLK_Sn_TYPE_PHASES n)
    let fp := if s.lostPhases n = 0 ∨ np = 0 then (1, 1) else (np - 1, np)
    let fs := if (s.halt n).lost0 != (s.halt n).lost1 then (1, 2) else (1, 1)
    r.1 * fp.1 * fs.1 / (fp.2 * fs.2)

/-- Take the ceilings of R437 into HLT_Sn_CEIL; a fall keeps the old current ceiling for the 50 ms of R438. -/
def State.refreshCeil (s : State) (n : Nat) : State :=
  let c := s.ceilNow n
  let old := s.get (F.HLT_Sn_CEIL_I n)
  let s := if c < old then s.modHalt n fun h => { h with prevCeil := old, fellAt := s.chrono } else s
  let v := match profileRow (s.sealWord n % 16) with
    | some r => r.2.1
    | none => 0
  (((s.set (F.HLT_Sn_CEIL_I n) c).set (F.HLT_Sn_CEIL_V n) v).set (F.HLT_Sn_PROFILE_SEAL n) (s.sealWord n)).set
    (F.HLT_Sn_PROFILE_PROFILE n) (s.sealWord n % 16)

/-- The ceiling the sample checks use: the previous one for 50 ms after a fall (R438). -/
def State.checkCeil (s : State) (n : Nat) : Nat :=
  if (s.halt n).prevCeil > s.get (F.HLT_Sn_CEIL_I n) ∧ s.chrono < (s.halt n).fellAt + 12500000 then (s.halt n).prevCeil
  else s.get (F.HLT_Sn_CEIL_I n)

/-- The ceiling handed to the Yardmaster: zero during an orderly stop (R441, R169). -/
def State.allocCeil (s : State) (n : Nat) : Nat :=
  if (s.halt n).stop = .orderly then 0 else s.get (F.HLT_Sn_CEIL_I n)

/-! ### E-stop loops (R446-R448) -/

def State.loopMap (s : State) (k : Nat) : LoopMap := s.hlt.maps.getD k LoopMap.init

/-- Open: a channel open, or a discrepancy latched (R446). -/
def State.loopOpen (s : State) (k : Nat) : Bool :=
  !s.flag (F.HLT_ESTOPk_STATE_A_CLOSED k) || !s.flag (F.HLT_ESTOPk_STATE_B_CLOSED k) || s.flag (F.HLT_ESTOPk_STATE_DISCREPANCY k)

/-- A loop in MODE E-stop that is open or awaits its reset: its effects stand (R447, R448). -/
def State.loopActs (s : State) (k : Nat) : Bool :=
  decide ((s.loopMap k).mode = 1) && (s.loopOpen k || s.flag (F.HLT_ESTOPk_STATE_AWAIT_RESET k))

/-- Does a loop that acts map stall `n`? -/
def State.estopOn (s : State) (n : Nat) : Bool :=
  (List.range 4).any fun k => s.loopActs k && bitOf (s.loopMap k).stalls n

def State.haltSafe (s : State) : Bool := s.flag F.HLT_STATUS_HALT_SAFE

/-- SAFE_OUT_A and SAFE_OUT_B follow R449; both stay de-energised in HIBERNATE (R455). -/
def State.refreshSafeOut (s : State) : State :=
  let on := s.flag F.HLT_STATUS_SELFTEST_OK && !s.haltSafe && decide (s.get F.PWR_STATE_STATE ≠ 2) &&
    (List.range 4).all fun k => !((s.loopMap k).safeOut && s.loopActs k)
  (s.setB F.HLT_SAFE_OUT_A_ON on).setB F.HLT_SAFE_OUT_B_ON on

/-! ### Permit (R439, R440) -/

/-- A temperature field at or above a limit (signed 0.1 °C), when valid. -/
def State.hotAt (s : State) (n i limit : Nat) : Bool :=
  match s.hkVal n i with
  | some v => decide ((limit : Int) ≤ toSigned 16 v)
  | none => false

/-- Some cable or connector value at or above its hard limit plus `extra` (R439 bit 9, R445); limits by index. -/
def State.cableHot (s : State) (n extra : Nat) : Bool :=
  match profileRow (s.sealWord n % 16) with
  | none => false
  | some r => s.hotAt n 0 (r.2.2.2.1 + extra) || s.hotAt n 1 (r.2.2.2.1 + extra) ||
      s.hotAt n 2 (r.2.2.2.2.1 + extra) || s.hotAt n 3 (r.2.2.2.2.1 + extra)

/-- CONTACTOR_CLOSE is cleared once |i_out| is below 5.0 A (`low`) while the stall stops, and at the latest 20 ms after a ramp (of 5 ms)
or the start of a two-step off (R199, R211). -/
def State.dropClose (s : State) (n : Nat) (low : Bool) : State :=
  let w := s.walk n
  let two := w.twoStep || decide ((s.halt n).stop = .emergency)
  let late := decide (w.stopAt + (if two then 5000000 else 6250000) ≤ s.chrono)
  if (low || late) ∧ (s.mode n = 4 ∨ s.modeRest n = true ∨ two = true) then s.modWalk n fun w => { w with closeReq := false } else s

/-- Some value above its limit less 5.0 °C: the release of 0x05 and 0x06 does not hold yet (R445). -/
def State.cableWarm (s : State) (n : Nat) : Bool :=
  match profileRow (s.sealWord n % 16) with
  | none => false
  | some r => s.hotAt n 0 (r.2.2.2.1 - 49) || s.hotAt n 1 (r.2.2.2.1 - 49) ||
      s.hotAt n 2 (r.2.2.2.2.1 - 49) || s.hotAt n 3 (r.2.2.2.2.1 - 49)

/-- Has the stall a TRG_CURVE entry in the active table (R351)? -/
def State.hasCurve (s : State) (n : Nat) : Bool := decide (s.get (F.HRN_Sn_COOL_CFG_ENTRY n) < s.hrn.curves.length)

/-- The failing permit conditions, as bits of HLT_Sn_STATE.REFUSE (R439). -/
def State.refuseBits (s : State) (n : Nat) : Nat :=
  let h := (s.link n).hstat
  let sw := s.sealWord n
  let map := (s.link n).ident.hkMap
  let c0 := !(s.flag F.HLT_STATUS_SELFTEST_OK) || s.haltSafe
  let c1 := decide (s.linkState n ≠ Link.run)
  let c2 := (s.profile? n).isNone
  let c3 := s.estopOn n
  let c4 := bitOf h 8 || bitOf h 9 || bitOf h 11 || bitOf h 12 || bitOf h 10 || bitOf h 13 || (bitOf sw 6 && bitOf h 14)
  let c5 := bitOf sw 6 && !(s.hasCurve n && bitOf map 0 && bitOf map 1)
  let c6 := bitOf sw 5 && !bitOf map 8
  let c7 := s.flag (F.HLT_Sn_LATCH_BLOCKED n) || s.flag (F.HLT_Sn_LATCH_WELD n)
  let c8 := s.flag (F.SLK_Sn_STATE_EDGE_LATCH n)
  let c9 := s.cableHot n 0 || (s.halt n).hot
  let c10 := decide ((s.halt n).stop ≠ .none)
  let c11 := s.flag (F.HLT_Sn_LATCH_LOCKOUT n) ||
    (bitOf map 0 && bitOf map 1 && (((s.halt n).lost0 && (s.halt n).lost1) || (s.halt n).sensorsLost))
  b2n c0 + 2 * b2n c1 + 4 * b2n c2 + 8 * b2n c3 + 16 * b2n c4 + 32 * b2n c5 + 64 * b2n c6 + 128 * b2n c7 + 256 * b2n c8 +
    512 * b2n c9 + 1024 * b2n c10 + 2048 * b2n c11

/-- PERMIT for the next frame (R440): given while every condition holds; with the contactors closed and a condition
failing it stays as it was until the stop withdraws it. -/
def State.permitNext (s : State) (n : Nat) : Bool :=
  if s.refuseBits n = 0 then true
  else s.contactorClosed n && s.flag (F.HLT_Sn_STATE_PERMIT n) && !(s.halt n).withdrawn &&
    decide (s.linkState n = Link.run ∨ (s.halt n).stop ≠ .none)

/-- PERMIT_REFUSED (0x0C04): while the mode sets CONTACTOR_CLOSE and PERMIT is withheld, once per round (R440). -/
def State.permitRefused (s : State) (n : Nat) : State :=
  if (s.walk n).closeReq ∧ s.permitNext n = false ∧ (s.halt n).refusedRound = false then
    (s.modHalt n fun h => { h with refusedRound := true }).raise 0x0C04 1 n (le 2 (s.refuseBits n))
  else s

/-! ### Stops (R441-R445) -/

/-- Start a stop, or turn an orderly one into an emergency stop; the same kind again, or an orderly cause during an
emergency stop, changes nothing; HALT_SAFE replaces any stop (R444). A stall in IDLE is STOPPED by it (R213). -/
def State.stopStall (s : State) (n : Nat) (kind : StopKind) (cause : Nat) : State :=
  let cur := (s.halt n).stop
  let takes := decide (cause = 0x15) || decide (cur = .none) || (decide (cur = .orderly) && decide (kind = .emergency))
  if !takes || !s.hasStall n then s
  else
    let i := s.absI n
    let s := s.modHalt n fun h => { h with stop := kind, stopAt := s.chrono, withdrawn := false, allOff := 0 }
    let s := s.set (F.HLT_Sn_STATE_CAUSE n) cause
    let s := if kind = .emergency then s.incSat (F.HLT_Sn_CNT_STOP_EMERG n) else s.incSat (F.HLT_Sn_CNT_STOP_ORDERLY n)
    let s := s.raise 0x0C01 (if kind = .emergency then 3 else 2) n
      ([cause, if kind = .emergency then 1 else 0] ++ le 2 (min i 65535))
    let m := s.mode n
    let s := if m = 1 ∨ m = 2 ∨ m = 3 then s.failMode n 8
             else if m = 4 then s.modWalk n fun w => { w with requested := false }
             else if m = 0 then (s.setMode n 5 0).raise 0x0405 1 n [if kind = .emergency then 2 else 1]
             else s
    if kind = .emergency then
      s.modWalk n fun w => { w with xv := 0, xi := 0, ramp := none, carry := List.replicate 6 0, stopAt := s.chrono,
                                    endPrev := List.replicate 6 none,
                                    stopWhy := if m = 0 ∨ m = 5 then w.stopWhy else some 2 }
    else if m = 0 ∨ m = 5 then s
    else s.modWalk n fun w => { w with stopWhy := some 1 }

/-- Is the stall energised: contactors closed, or current at or above 5.0 A? -/
def State.energised (s : State) (n : Nat) : Bool := s.contactorClosed n || decide (50 ≤ s.absI n)

/-- Whole seconds of a single-sensor mode that have passed within a session are taken from the 300 s (R452). -/
def State.sensorTick (s : State) (n : Nat) : State :=
  match (s.halt n).sensorAt with
  | some t =>
    let k := (s.chrono - t) / 250000000
    if s.modeRest n then s.modHalt n fun h => { h with sensorAt := some s.chrono }
    else (s.modHalt n fun h => { h with sensorAt := some (t + 250000000 * k) }).set (F.HLT_Sn_DEGRADE_SENSOR_LEFT n)
      (s.get (F.HLT_Sn_DEGRADE_SENSOR_LEFT n) - k)
  | none => s

/-- DEGRADED_MODE (0x0C03) with the present ceiling. -/
def State.degradedEvent (s : State) (n kind what : Nat) : State :=
  s.raise 0x0C03 2 n ([kind, what] ++ le 2 (s.get (F.HLT_Sn_CEIL_I n)))

/-- Cable sensor `i` (0 or 1) counts as lost (R452): half the ceiling with one lost, a SENSORS_LOST stop with both. A sensor
that HK_MAP does not hold cannot be lost. -/
def State.sensorLost (s : State) (n i : Nat) : State :=
  let h := s.halt n
  if bitOf (s.link n).ident.hkMap i = false ∨ (if i = 0 then h.lost0 else h.lost1) = true then s
  else
    let s := s.modHalt n fun h => if i = 0 then { h with lost0 := true } else { h with lost1 := true }
    let h := s.halt n
    if h.lost0 && h.lost1 then
      let s := ((s.modHalt n fun h => { h with sensorsLost := true }).sensorTick n).modHalt n fun h => { h with sensorAt := none }
      let s := s.refreshCeil n
      if s.energised n then s.stopStall n .orderly 0x13 else s
    else
      let s := s.modHalt n fun h => { h with sensorAt := some s.chrono }
      let s := if s.flag (F.HLT_Sn_DEGRADE_SENSOR_MODE n) = false ∧ s.get (F.HLT_Sn_DEGRADE_SENSOR_LEFT n) = 0 then
          s.set (F.HLT_Sn_DEGRADE_SENSOR_LEFT n) 300 else s
      ((s.setB (F.HLT_Sn_DEGRADE_SENSOR_MODE n) true).refreshCeil n).degradedEvent n 1 0

/-- Every stall present makes the stop. -/
def State.stopAll (s : State) (kind : StopKind) (cause : Nat) : State :=
  forAll s.stallNums (fun n t => t.stopStall n kind cause) s

end Sys2Proof.Machine
end

