-- ==== Sys2Proof/Machine/Ratio.lean ====
section
/-!
DEFINITION. Exact fractions as plain data, for the Yardmaster's solve (R164 finds its step exactly). They are computed with
and never kept in the state.
-/
namespace Sys2Proof

/-- A fraction; the denominator of every one built here is positive. -/
structure Q where
  num : Int
  den : Nat
  deriving DecidableEq, Repr

def Q.ofInt (i : Int) : Q := ⟨i, 1⟩

/-- Cancel the common factor. -/
def Q.norm (a : Q) : Q :=
  let g := Nat.gcd a.num.natAbs a.den
  if g ≤ 1 then a else ⟨a.num / (g : Int), a.den / g⟩

def Q.add (a b : Q) : Q := Q.norm ⟨a.num * b.den + b.num * a.den, a.den * b.den⟩
def Q.sub (a b : Q) : Q := Q.norm ⟨a.num * b.den - b.num * a.den, a.den * b.den⟩
def Q.mul (a b : Q) : Q := Q.norm ⟨a.num * b.num, a.den * b.den⟩

/-- Division; by zero it gives zero, and no caller divides by zero. -/
def Q.div (a b : Q) : Q :=
  if b.num = 0 then ⟨0, 1⟩
  else if 0 < b.num then Q.norm ⟨a.num * b.den, a.den * b.num.natAbs⟩
  else Q.norm ⟨-(a.num * b.den), a.den * b.num.natAbs⟩

def Q.lt (a b : Q) : Bool := decide (a.num * b.den < b.num * a.den)
def Q.le (a b : Q) : Bool := decide (a.num * b.den ≤ b.num * a.den)
def Q.min (a b : Q) : Q := if a.le b then a else b
def Q.max (a b : Q) : Q := if a.le b then b else a

/-- The largest integer not above. -/
def Q.floor (a : Q) : Int := a.num / (a.den : Int)

def Q.sum (l : List Q) : Q := l.foldl Q.add ⟨0, 1⟩

end Sys2Proof
end

