-- ==== Sys2Proof/Machine/Solve.lean ====
section
/-!
DEFINITION. The Yardmaster's solve (R149-R152, R164-R167) as exact arithmetic over a tree. Powers are fractions of 0.01 W
(0.1 A times 0.1 V); node limits of 0.1 kW count 10,000 of them.
-/
namespace Sys2Proof.Machine

/-- What the constraints of a pass are over: nodes, capacity in 0.01 W per node, current limit in 0.1 A per node (0 none),
storage offset in 0.01 W per node, and whether LOSS and storage apply (not for export, R166). -/
structure Net where
  nodes : List TreeNode
  cap : List Q
  iLim : List Nat
  store : List Q
  lossy : Bool
  deriving DecidableEq, Repr

/-- Does node `i` lie above node `j` (on its way to the site)? Parents have lower numbers (R150). -/
def isAbove (nodes : List TreeNode) (i j : Nat) : Nat → Bool
  | 0 => false
  | k + 1 =>
    match nodes[j]? with
    | some nd => if nd.parent = i then true else if j ≤ nd.parent then false else isAbove nodes i nd.parent k
    | none => false

def above (nodes : List TreeNode) (i j : Nat) : Bool := isAbove nodes i j 96

/-- The power a stall of `st` holds at node `i` of the tree. -/
def powerAt (st : List FStall) (g : List Q) (i : Nat) : Q :=
  match st.findIdx? fun x => x.node = i with
  | some k => g.getD k (Q.ofInt 0)
  | none => Q.ofInt 0

/-- The load of node `i` before a CABINET's storage offset, from the loads `l` of nodes `i + 1` and up (R151). -/
def rawLoad (net : Net) (st : List FStall) (g : List Q) (i : Nat) (l : List Q) : Q :=
  match net.nodes[i]? with
  | none => Q.ofInt 0
  | some nd =>
    let kids := (List.range l.length).map fun k =>
      match net.nodes[i + 1 + k]? with
      | some c => if c.parent = i ∧ i + 1 + k ≠ 0 then l.getD k (Q.ofInt 0) else Q.ofInt 0
      | none => Q.ofInt 0
    let own := if nd.kind = 4 then powerAt st g i else Q.sum kids
    if net.lossy then own.mul ⟨1000 + nd.loss, 1000⟩ else own

/-- A node's load: for a CABINET the greater of 0 and the load less its storage (R151). -/
def nodeLoad (net : Net) (i : Nat) (raw : Q) : Q :=
  match net.nodes[i]? with
  | some nd => if nd.kind = 2 ∧ net.lossy = true then (raw.sub (net.store.getD i (Q.ofInt 0))).max (Q.ofInt 0) else raw
  | none => raw

/-- Loads of the nodes from `n` up, computed from the leaves; `n` counts down. -/
def loadsFrom (net : Net) (st : List FStall) (g : List Q) : Nat → List Q → List Q
  | 0, l => l
  | n + 1, l => loadsFrom net st g n (nodeLoad net n (rawLoad net st g n l) :: l)

def loads (net : Net) (st : List FStall) (g : List Q) : List Q := loadsFrom net st g net.nodes.length []

/-- The current below a BUS node, 0.1 A: each stall's power over its V_est (R152). -/
def busCurrent (net : Net) (st : List FStall) (g : List Q) (i : Nat) : Q :=
  Q.sum ((List.range st.length).map fun k =>
    match st[k]? with
    | some x => if above net.nodes i x.node then (g.getD k (Q.ofInt 0)).div (Q.ofInt x.vEst) else Q.ofInt 0
    | none => Q.ofInt 0)

/-- Every constraint as (amount used, limit): the nodes' loads, then the current-limited buses. -/
def usage (net : Net) (st : List FStall) (g : List Q) : List (Q × Q) :=
  let l := loads net st g
  ((List.range net.nodes.length).map fun i => (l.getD i (Q.ofInt 0), net.cap.getD i (Q.ofInt 0))) ++
    ((List.range net.nodes.length).filter fun i => net.iLim.getD i 0 ≠ 0).map fun i =>
      (busCurrent net st g i, Q.ofInt (net.iLim.getD i 0))

/-- `g + x w`, stall by stall. -/
def along (g w : List Q) (x : Q) : List Q := List.zipWith (fun a b => a.add (x.mul b)) g w

/-- Where the storage offset of some CABINET stops covering its load on the way from `g` to `g + upper w`: the points at
which a load bends. -/
def bends (net : Net) (st : List FStall) (g w : List Q) (upper : Q) : List Q :=
  let free : Net := { net with store := [] }
  let a := loads free st g
  let b := loads free st (along g w upper)
  (List.range net.nodes.length).filterMap fun i =>
    match net.nodes[i]? with
    | some nd =>
      if nd.kind = 2 ∧ net.lossy = true then
        let s := net.store.getD i (Q.ofInt 0)
        let p := a.getD i (Q.ofInt 0)
        let q := b.getD i (Q.ofInt 0)
        if p.lt s && s.lt q then some (upper.mul ((s.sub p).div (q.sub p))) else none
      else none
    | none => none

def insertQ (x : Q) : List Q → List Q
  | [] => [x]
  | a :: t => if x.le a then x :: a :: t else a :: insertQ x t

/-- Walk the straight pieces between the bends; in the first in which a rising constraint passes its limit, the step is
where the first such constraint meets it. -/
def walkSteps (net : Net) (st : List FStall) (g w : List Q) : Q → List Q → Q
  | lo, [] => lo
  | lo, hi :: t =>
    let a := usage net st (along g w lo)
    let b := usage net st (along g w hi)
    let cuts := (List.zip a b).filterMap fun e =>
      let u := e.1.1
      let v := e.2.1
      if u.lt v && e.1.2.lt v then some ((lo.add ((hi.sub lo).mul ((e.1.2.sub u).div (v.sub u)))).max lo) else none
    match cuts with
    | [] => walkSteps net st g w hi t
    | c :: cs => cs.foldl Q.min c

/-- The largest step in [0, upper] along `w` that keeps every rising node at or below its capacity. -/
def maxStep (net : Net) (st : List FStall) (g w : List Q) (upper : Q) : Q :=
  walkSteps net st g w (Q.ofInt 0) ((bends net st g w upper).foldl (fun l x => insertQ x l) [upper])

/-- Is some node above stall `k`, or a current-limited bus above it, full (R164)? -/
def underFull (net : Net) (st : List FStall) (g : List Q) (k : Nat) : Bool :=
  match st[k]? with
  | none => true
  | some x =>
    let l := loads net st g
    (List.range net.nodes.length).any fun i => above net.nodes i x.node &&
      ((net.cap.getD i (Q.ofInt 0)).le (l.getD i (Q.ofInt 0)) ||
        (decide (net.iLim.getD i 0 ≠ 0) && (Q.ofInt (net.iLim.getD i 0)).le (busCurrent net st g i)))

/-- Pass 2 for one tier (R164, R165): raise every active stall by its weight until it reaches its demand or a node above it
is full; each round removes at least one stall. -/
def fillTier (net : Net) (st : List FStall) (d : List Q) (tier : Nat) : Nat → List Q → List Q
  | 0, g => g
  | n + 1, g =>
    let act := fun k => match st[k]? with
      | some x => decide (x.tier = tier) && (g.getD k (Q.ofInt 0)).lt (d.getD k (Q.ofInt 0)) && !underFull net st g k
      | none => false
    let ks := (List.range st.length).filter act
    match ks with
    | [] => g
    | k0 :: _ =>
      let wt := fun k => match st[k]? with
        | some x => Q.ofInt x.weight
        | none => Q.ofInt 0
      let room := fun k => ((d.getD k (Q.ofInt 0)).sub (g.getD k (Q.ofInt 0))).div (wt k)
      let upper := ks.foldl (fun m k => m.min (room k)) (room k0)
      let w := (List.range st.length).map fun k => if act k then wt k else Q.ofInt 0
      fillTier net st d tier n (along g w (maxStep net st g w upper))

/-- Pass 2 over the tiers 0 to 3. -/
def fillAll (net : Net) (st : List FStall) (d g : List Q) : List Q :=
  (List.range 4).foldl (fun g t => fillTier net st d t (2 * st.length + 2) g) g

/-- Pass 1 (R164): the floors of each tier scaled by one common fraction; answers the powers and each tier's fraction, none
where no stall of the tier has a floor. -/
def floorPass (net : Net) (st : List FStall) (f : List Q) : List Q × List (Option Q) :=
  (List.range 4).foldl (fun acc t =>
    let w := (List.range st.length).map fun k => match st[k]? with
      | some x => if x.tier = t then f.getD k (Q.ofInt 0) else Q.ofInt 0
      | none => Q.ofInt 0
    if w.all fun x => x.num = 0 then (acc.1, acc.2 ++ [none])
    else
      let k := maxStep net st acc.1 w (Q.ofInt 1)
      (along acc.1 w k, acc.2 ++ [some k])) ((List.range st.length).map fun _ => Q.ofInt 0, [])

/-- The discharge powers below one node scaled by one fraction where their amount `sum` exceeds `c`. -/
def scaleBelow (below : Nat → Bool) (sum c : Q) (e : List Q) : List Q :=
  if c.lt sum then
    (List.range e.length).map fun k => if below k then ((e.getD k (Q.ofInt 0)).mul c).div sum else e.getD k (Q.ofInt 0)
  else e

/-- Export (R166, R152): nodes from the leaves upward; where the plain sum of the discharge powers below exceeds EXPORT_LIMIT,
or their currents a BUS's I_LIMIT, all of them are scaled by one fraction. -/
def exportAt (net : Net) (st : List FStall) : Nat → List Q → List Q
  | 0, e => e
  | n + 1, e =>
    let below := fun k => match st[k]? with
      | some x => decide (x.node = n) || above net.nodes n x.node
      | none => false
    let sum := Q.sum ((List.range e.length).map fun k => if below k then e.getD k (Q.ofInt 0) else Q.ofInt 0)
    let e := scaleBelow below sum (net.cap.getD n (Q.ofInt 0)) e
    let i := net.iLim.getD n 0
    exportAt net st n (if i = 0 then e else scaleBelow below (busCurrent net st e n) (Q.ofInt i) e)

end Sys2Proof.Machine
end

