-- ==== Sys2Proof/Machine/YmsOps.lean ====
section
/-!
DEFINITION. Operations of the Yardmaster (R149-R188): curves, throttles, cabinets, freezing, solving, staging, emergencies.
-/
namespace Sys2Proof.Machine

/-! ### Curves over housekeeping values (R163, R347) -/

/-- Is a housekeeping index a signed quantity (R117 table)? -/
def hkSigned (i : Nat) : Bool := decide (i ≤ 5) || decide (i = 11) || (decide (12 ≤ i) && decide (i ≤ 17))

def hkDecode (i v : Nat) : Int := if hkSigned i then toSigned 16 v else (v : Int)

/-- The valid value of one index, decoded. -/
def State.hkInt (s : State) (n i : Nat) : Option Int := (s.hkVal n i).map (hkDecode i)

/-- The larger of two optional values; whichever is there where only one is. -/
def maxOpt (a b : Option Int) : Option Int :=
  match a, b with
  | some x, some y => some (max x y)
  | some x, none => some x
  | none, y => y

/-- A curve input: an index, 0x80 the larger of 0 and 1, 0x81 of 2 and 3, 0x82 the largest of 0 to 3. -/
def State.hkInput (s : State) (n code : Nat) : Option Int :=
  if code = 0x80 then maxOpt (s.hkInt n 0) (s.hkInt n 1)
  else if code = 0x81 then maxOpt (s.hkInt n 2) (s.hkInt n 3)
  else if code = 0x82 then maxOpt (maxOpt (s.hkInt n 0) (s.hkInt n 1)) (maxOpt (s.hkInt n 2) (s.hkInt n 3))
  else s.hkInt n code

/-- A piecewise-linear curve: the first value at or below the first point, the last at or above the last, interpolated
between and rounded down. -/
def curveAt : List (Int × Int) → Int → Int
  | [], _ => 0
  | [a], _ => a.2
  | a :: b :: t, x =>
    if x ≤ a.1 then a.2
    else if x < b.1 then a.2 + (b.2 - a.2) * (x - a.1) / (b.1 - a.1)
    else curveAt (b :: t) x

def DerateCurve.pts (c : DerateCurve) : List (Int × Int) :=
  c.points.map fun q => (hkDecode (if 0x80 ≤ c.input then 0 else c.input) q.1, (q.2 : Int))

/-- The ceiling of one curve for a stall; its last value where the input is invalid. -/
def State.derateCurve (s : State) (n : Nat) (c : DerateCurve) : Nat :=
  match s.hkInput n c.input with
  | some x => (curveAt c.pts x).toNat
  | none => match c.points.getLast? with
    | some q => q.2
    | none => 0

/-- The derating ceiling of a stall's set (R162): the least of its curves' values; with no curve in use there is no ceiling,
shown as the field's largest value. -/
def State.derateCeil (s : State) (n set : Nat) : Nat :=
  ((s.yms.derate.getD set []).filter fun c => c.input ≠ 0xFF).foldl (fun m c => min m (s.derateCurve n c)) 65535

/-! ### The active tree and its settings -/

def State.treeNodes (s : State) : List TreeNode := s.yms.tree.nodes

/-- The node of a stall. -/
def State.stallNode? (s : State) (n : Nat) : Option Nat :=
  s.treeNodes.findIdx? fun nd => nd.kind = 4 ∧ nd.index = n


/-- The policy in force: what the host set, else the table (R158); the registers show it. -/
def State.refreshPolicy (s : State) (n : Nat) : State :=
  match s.stallNode? n with
  | none => (((((s.set (F.YMS_Sn_POLICY0_TIER n) 0).set (F.YMS_Sn_POLICY0_WEIGHT n) 0).set (F.YMS_Sn_POLICY0_FLOOR n) 0).set
      (F.YMS_Sn_POLICY1_RAMP_UP n) 0).set (F.YMS_Sn_POLICY1_CAP n) 0)
  | some i =>
    match s.treeNodes[i]? with
    | none => s
    | some nd =>
      let q := s.yms.policy.getD n Policy.init
      (((((s.set (F.YMS_Sn_POLICY0_TIER n) (q.tier.getD nd.tier)).set (F.YMS_Sn_POLICY0_WEIGHT n) (q.weight.getD nd.weight)).set
        (F.YMS_Sn_POLICY0_FLOOR n) (q.floor.getD nd.floor)).set (F.YMS_Sn_POLICY1_RAMP_UP n) (q.rampUp.getD nd.rampUp)).set
        (F.YMS_Sn_POLICY1_CAP n) (q.cap.getD nd.cap))

/-! ### Throttles (R180-R182) -/

/-- A throttle condition with its ceiling on stall `n`: it arms the throttle or replaces the ceiling and keeps the running grace
time (R180, R182). THROTTLE_REQUEST (0x0301) carries the housekeeping index. -/
def State.throttleArm (s : State) (n ceil idx : Nat) : State :=
  let t := s.yms.throttle.getD n Throttle.init
  let armed := s.flag (F.YMS_Sn_THROTTLE_ARMED n)
  let ends := if armed then t.ends else s.chrono + s.get F.YMS_THROTTLE_CFG_GRACE * 25000000
  let s := s.modYms fun y => { y with throttle := modAt y.throttle n fun x => { x with ends := ends, grace := x.grace || !armed } }
  let s := (s.setB (F.YMS_Sn_THROTTLE_ARMED n) true).set (F.YMS_Sn_THROTTLE_CEIL n) ceil
  s.raise 0x0301 2 n (le 4 ceil ++ le 8 ends ++ [idx])

/-- The release threshold is crossed: the ceiling is removed (R182). -/
def State.throttleRelease (s : State) (n : Nat) : State :=
  let c := s.get (F.YMS_Sn_THROTTLE_CEIL n)
  let s := s.modYms fun y => { y with throttle := modAt y.throttle n fun _ => Throttle.init }
  let s := ((s.setB (F.YMS_Sn_THROTTLE_ARMED n) false).setB (F.YMS_Sn_THROTTLE_ENFORCED n) false).set (F.YMS_Sn_THROTTLE_CEIL n) 0
  s.raise 0x0303 1 n (le 4 c)

/-- A condition of index `idx` with its ceiling begins on stall `n` (R180). -/
def State.throttleRaise (s : State) (n ceil idx : Nat) : State :=
  if (s.yms.throttle.getD n Throttle.init).overs.contains idx then s
  else (s.modYms fun y => { y with throttle := modAt y.throttle n fun x => { x with overs := x.overs ++ [idx] } }).throttleArm n ceil idx

/-- The condition of index `idx` ends: with none left the throttle is released. -/
def State.throttleDrop (s : State) (n idx : Nat) : State :=
  let t := s.yms.throttle.getD n Throttle.init
  if t.overs.contains idx = false then s
  else if (t.overs.filter fun i => i ≠ idx).isEmpty then s.throttleRelease n
  else s.modYms fun y => { y with throttle := modAt y.throttle n fun x => { x with overs := x.overs.filter fun i => i ≠ idx } }

/-- The same for the device: a site power ceiling in 0.1 kW. -/
def State.throttleDevArm (s : State) (ceil idx : Nat) : State :=
  let ends := s.chrono + s.get F.YMS_THROTTLE_CFG_GRACE * 25000000
  let s := s.modYms fun y => { y with throttleDev := { y.throttleDev with ends := ends, grace := true } }
  let s := (s.setB F.YMS_THROTTLE_DEV_ARMED true).set F.YMS_THROTTLE_DEV_CEIL ceil
  s.raise 0x0301 2 0xFFFF (le 4 ceil ++ le 8 ends ++ [idx])

def State.throttleDevRelease (s : State) : State :=
  let c := s.get F.YMS_THROTTLE_DEV_CEIL
  let s := s.modYms fun y => { y with throttleDev := Throttle.init }
  let s := ((s.setB F.YMS_THROTTLE_DEV_ARMED false).setB F.YMS_THROTTLE_DEV_ENFORCED false).set F.YMS_THROTTLE_DEV_CEIL 0
  s.raise 0x0303 1 0xFFFF (le 4 c)

/-- THROTTLE_ENFORCED (0x0302) for stall `n`, or the device. -/
def State.enforce (s : State) (n : Nat) : State :=
  (s.setB (F.YMS_Sn_THROTTLE_ENFORCED n) true).raise 0x0302 2 n (le 4 (s.get (F.YMS_Sn_THROTTLE_CEIL n)))

def State.enforceDev (s : State) : State :=
  (s.setB F.YMS_THROTTLE_DEV_ENFORCED true).raise 0x0302 2 0xFFFF (le 4 (s.get F.YMS_THROTTLE_DEV_CEIL))

/-! ### Cabinets (R172-R176) -/

def State.cab (s : State) (c : Nat) : Cab := s.yms.cabs.getD c Cab.init
def State.modCab (s : State) (c : Nat) (f : Cab → Cab) : State := s.modYms fun y => { y with cabs := modAt y.cabs c f }

/-- The state nibble of a cabinet: 0 ABSENT, 1 OFFLINE, 2 ENABLING, 3 ACTIVE, 4 RETIRING, 5 LOST. -/
def State.cabState (s : State) (c : Nat) : Nat :=
  (if c < 8 then s.get F.YMS_CAB_STATE0 else s.get F.YMS_CAB_STATE1) / 16 ^ (c % 8) % 16

def State.putCab (s : State) (c v : Nat) : State :=
  let f := if c < 8 then F.YMS_CAB_STATE0 else F.YMS_CAB_STATE1
  s.set f (s.get f + v * 16 ^ (c % 8) - s.cabState c * 16 ^ (c % 8))

/-- A change of a cabinet's state with CABINET_STATE (0x0306). -/
def State.setCab (s : State) (c v cause : Nat) : State :=
  let old := s.cabState c
  (s.putCab c v).raise 0x0306 (if v = 5 then 3 else 1) c [v, old, cause]

/-- Cabinets of the tree that were ABSENT are OFFLINE; those of no node are ABSENT (R172). -/
def State.showCabs (s : State) : State :=
  forAll (List.range 16) (fun c s =>
    let on := s.treeNodes.any fun nd => decide (nd.kind = 2) && bitOf nd.cabMask c
    if on && decide (s.cabState c = 0) then s.putCab c 1 else if !on && decide (s.cabState c ≠ 0) then s.putCab c 0 else s) s

/-- What a cabinet adds to its node's capacity, 0.1 kW (R172, R174): its AVAIL_OUT, tapering to zero while RETIRING. -/
def State.cabAvail (s : State) (c : Nat) : Nat :=
  let k := s.cab c
  match s.cabState c with
  | 3 => k.avail
  | 4 =>
    let total := k.drainMs * 250000
    let left := total - (s.chrono - k.retireAt)
    min k.avail (Config.rnd ((k.drainFrom * left : Nat) : Int) total).toNat
  | _ => 0

/-- The sum over a node's cabinets of AVAIL_OUT, and of STORE_AVAIL over the ACTIVE ones (R149, R151). -/
def State.nodeAvail (s : State) (mask : Nat) : Nat :=
  ((List.range 16).filter fun c => bitOf mask c).foldl (fun a c => a + s.cabAvail c) 0

def State.nodeStore (s : State) (mask : Nat) : Nat :=
  ((List.range 16).filter fun c => bitOf mask c && decide (s.cabState c = 3)).foldl (fun a c => a + (s.cab c).store) 0

/-- The CABINET node of a cabinet. -/
def State.cabNode (s : State) (c : Nat) : Nat :=
  (s.treeNodes.findIdx? fun nd => nd.kind = 2 ∧ bitOf nd.cabMask c).getD 0

/-! ### Capacities (R149, R152, R170) -/

/-- The privileged import and export ceilings of a SITE or FEEDER node. -/
def State.privOf (s : State) (nd : TreeNode) : Option (Nat × Nat) :=
  if nd.kind = 0 then some (s.get F.YMS_SITE_IMPORT_CEIL, s.get F.YMS_SITE_EXPORT_CEIL)
  else if nd.kind = 1 then some (s.get (F.YMS_Ff_IMPORT_CEIL nd.index), s.get (F.YMS_Ff_EXPORT_CEIL nd.index))
  else none

/-- A node's import capacity without its cabinets, 0.1 kW: the table, NODE_LIMIT, the privileged ceiling, and at node 0 an
enforced device throttle. -/
def State.nodeImp (s : State) (i : Nat) (nd : TreeNode) : Nat :=
  let c := ((s.yms.lims.getD i NodeLim.init).imp).getD nd.imp
  let c := match s.privOf nd with
    | some q => min c q.1
    | none => c
  if i = 0 ∧ s.flag F.YMS_THROTTLE_DEV_ENFORCED then min c (s.get F.YMS_THROTTLE_DEV_CEIL) else c

def State.nodeExp (s : State) (i : Nat) (nd : TreeNode) : Nat :=
  let c := ((s.yms.lims.getD i NodeLim.init).exp).getD nd.exp
  match s.privOf nd with
  | some q => min c q.2
  | none => c

def State.nodeILim (s : State) (i : Nat) (nd : TreeNode) : Nat :=
  if nd.kind = 3 then ((s.yms.lims.getD i NodeLim.init).iLim).getD nd.iLim else 0

/-- A frozen node's import capacity, 0.1 kW. -/
def Frozen.cap (fz : Frozen) (i : Nat) : Nat :=
  match fz.nodes[i]? with
  | some nd => if nd.kind = 2 then min (fz.imp.getD i 0) (fz.avail.getD i 0) else fz.imp.getD i 0
  | none => 0

/-- The constraints of an import solve over frozen inputs. A STALL node has no limit of its own in power: its current limits
are in its demand (R160). -/
def Frozen.importNet (fz : Frozen) : Net :=
  { nodes := fz.nodes
    cap := (List.range fz.nodes.length).map fun i =>
      if (fz.nodes[i]?.map TreeNode.kind) = some 4 then Q.ofInt (2 ^ 64) else Q.ofInt (fz.cap i * 10000 : Nat)
    iLim := fz.iLim
    store := fz.store.map fun v => Q.ofInt (v * 10000 : Nat)
    lossy := true }

def Frozen.exportNet (fz : Frozen) : Net :=
  { nodes := fz.nodes, cap := fz.exp.map fun c => Q.ofInt (c * 10000 : Nat), iLim := fz.iLim, store := [], lossy := false }

/-- A value of every node of the active tree. -/
def State.perNode {α : Type} (s : State) (f : Nat → TreeNode → α) (z : α) : List α :=
  (List.range s.treeNodes.length).map fun i => match s.treeNodes[i]? with
    | some nd => f i nd
    | none => z

/-- The cabinets of every node as they stand: AVAIL_OUT and STORE_AVAIL of a CABINET node's own, zero elsewhere. -/
def State.availNow (s : State) : List Nat := s.perNode (fun _ nd => if nd.kind = 2 then s.nodeAvail nd.cabMask else 0) 0
def State.storeNow (s : State) : List Nat := s.perNode (fun _ nd => if nd.kind = 2 then s.nodeStore nd.cabMask else 0) 0

/-- The inputs of an emergency re-solve (R176): those frozen, with the cabinets as they stand; capacity is never added (R173). -/
def State.frozenNow (s : State) (fz : Frozen) : Frozen :=
  { fz with avail := List.zipWith min fz.avail s.availNow, store := List.zipWith min fz.store s.storeNow }

/-! ### Freeze (R24, R160, R181) -/

/-- A stall's demand current without its throttle, and the least ceiling of R160 other than I_REQ and CAP. -/
def State.demand (s : State) (n : Nat) (nd : TreeNode) : Nat × Nat :=
  let r := s.yms.req.getD n Req.none
  let c := min (min nd.iLim (s.allocCeil n)) (s.derateCeil n nd.derate)
  (if r.active ∧ s.linkState n = Link.run then min (min r.i (s.get (F.YMS_Sn_POLICY1_CAP n))) c else 0, c)

/-- One stall's throttle at a freeze (R181, R182). -/
def State.throttleFreeze (s : State) (n : Nat) : State :=
  if s.flag (F.YMS_Sn_THROTTLE_ARMED n) = false ∨ s.flag (F.YMS_Sn_THROTTLE_ENFORCED n) = true then s
  else
    match s.stallNode? n with
    | none => s
    | some i =>
      match s.treeNodes[i]? with
      | none => s
      | some nd =>
        let ok := decide ((s.demand n nd).1 ≤ s.get (F.YMS_Sn_THROTTLE_CEIL n))
        let g := (s.yms.throttle.getD n Throttle.init).grace
        let s := s.modYms fun y => { y with throttle := modAt y.throttle n fun t => { t with satisfied := ok } }
        if g = false ∧ ok = false then s.enforce n else s

def State.throttleDevFreeze (s : State) : State :=
  if s.flag F.YMS_THROTTLE_DEV_ARMED = false ∨ s.flag F.YMS_THROTTLE_DEV_ENFORCED = true then s
  else
    let ok := decide (s.get F.YMS_SITE_LOAD ≤ s.get F.YMS_THROTTLE_DEV_CEIL)
    let g := s.yms.throttleDev.grace
    let s := s.modYms fun y => { y with throttleDev := { y.throttleDev with satisfied := ok } }
    if g = false ∧ ok = false then s.enforceDev else s

/-- A stall's frozen inputs. -/
def State.freezeStall (s : State) (n i : Nat) (nd : TreeNode) : FStall :=
  let q := s.demand n nd
  let thr := s.flag (F.YMS_Sn_THROTTLE_ENFORCED n)
  let ceil := if thr then min q.2 (s.get (F.YMS_Sn_THROTTLE_CEIL n)) else q.2
  let dem := min q.1 ceil
  let r := s.yms.req.getD n Req.none
  { stall := n, node := i, active := r.active && decide (s.linkState n = Link.run), discharge := r.discharge, dem := dem
    floor := min (s.get (F.YMS_Sn_POLICY0_FLOOR n)) dem
    vEst := max 1 (max s.yms.tree.vEstMin (s.get (F.WBG_Mc_VI_V n)))
    tier := s.get (F.YMS_Sn_POLICY0_TIER n), weight := max 1 (s.get (F.YMS_Sn_POLICY0_WEIGHT n))
    rampUp := s.get (F.YMS_Sn_POLICY1_RAMP_UP n), rampDown := nd.rampDown, ceil := ceil, throttled := thr
    derated := decide (s.derateCeil n nd.derate ≤ dem) }

def State.freeze (s : State) : Frozen :=
  let lim := fun (i : Nat) => s.yms.lims.getD i NodeLim.init
  { at_ := s.chrono
    epoch := s.get F.YMS_TREE_EPOCH
    nodes := s.treeNodes
    stalls := (List.range s.treeNodes.length).filterMap fun i => match s.treeNodes[i]? with
      | some nd => if nd.kind = 4 then some (s.freezeStall nd.index i nd) else none
      | none => none
    imp := s.perNode s.nodeImp 0
    exp := s.perNode s.nodeExp 0
    iLim := s.perNode s.nodeILim 0
    avail := s.availNow
    store := s.storeNow
    taper := s.perNode (fun _ nd => decide (nd.kind = 2) &&
      (List.range 16).any fun c => bitOf nd.cabMask c && decide (s.cabState c = 4)) false
    priv := s.perNode (fun _ nd => s.privOf nd) none
    clamped := s.perNode (fun i nd => match s.privOf nd with
      | some q => decide (q.1 < (lim i).imp.getD nd.imp)
      | none => false) false
    limited := s.perNode (fun i _ => decide (lim i ≠ NodeLim.init)) false
    solving := true }

/-! ### Solving (R164-R166, R171) -/

def FStall.watt (x : FStall) (i : Nat) : Q := Q.ofInt (i * x.vEst : Nat)

/-- The solve over demands and floors `d`, `f` in 0.1 A: each stall's target in 0.1 A, negative when discharging, and each
tier's floor fraction. -/
def Frozen.solve (fz : Frozen) (d f : List Nat) : List Int × List (Option Q) :=
  let st := fz.stalls
  let imp := fun (k : Nat) (l : List Nat) => match st[k]? with
    | some x => if x.discharge then Q.ofInt 0 else x.watt (l.getD k 0)
    | none => Q.ofInt 0
  let idx := List.range st.length
  let net := fz.importNet
  let p1 := floorPass net st (idx.map fun k => imp k f)
  let g := fillAll net st (idx.map fun k => imp k d) p1.1
  let e0 := idx.map fun k => match st[k]? with
    | some x => if x.discharge then x.watt (d.getD k 0) else Q.ofInt 0
    | none => Q.ofInt 0
  let e := exportAt fz.exportNet st net.nodes.length e0
  (idx.map fun k => match st[k]? with
    | some x => if x.discharge then -(((e.getD k (Q.ofInt 0)).div (Q.ofInt x.vEst)).floor)
                else ((g.getD k (Q.ofInt 0)).div (Q.ofInt x.vEst)).floor
    | none => 0, p1.2)

/-- Powers of targets in 0.01 W: import and export parts. -/
def importOf (st : List FStall) (t : List Int) : List Q :=
  List.zipWith (fun (x : FStall) (i : Int) => if 0 ≤ i then Q.ofInt (i * x.vEst) else Q.ofInt 0) st t
def exportOf (st : List FStall) (t : List Int) : List Q :=
  List.zipWith (fun (x : FStall) (i : Int) => if i < 0 then Q.ofInt (-i * x.vEst) else Q.ofInt 0) st t

/-- 0.01 W in 0.1 kW; the spec gives no rounding. -/
def toTenthKw (q : Q) : Nat := (Config.rnd q.num (q.den * 10000)).toNat

/-- The clamp of R171 at one SITE or FEEDER node: targets below it scaled by ceiling over sum, with CLAMP_ACT (0x0307). -/
def State.clampNode (fz : Frozen) (i : Nat) (acc : List Int × State) : List Int × State :=
  match fz.nodes[i]? with
  | none => acc
  | some nd =>
    match fz.priv.getD i none with
    | none => acc
    | some q =>
      let st := fz.stalls
      let l := (loads fz.importNet st (importOf st acc.1)).getD i (Q.ofInt 0)
      let e := (loads fz.exportNet st (exportOf st acc.1)).getD i (Q.ofInt 0)
      let below := fun (x : FStall) => decide (x.node = i) || above fz.nodes i x.node
      let scale := fun (pos : Bool) (sum : Q) (c : Nat) (acc : List Int × State) =>
        let t := List.zipWith (fun (x : FStall) (v : Int) =>
          if below x && decide (if pos then 0 < v else v < 0) then
            (if pos then (((Q.ofInt v).mul (Q.ofInt (c * 10000 : Nat))).div sum).floor
             else -((((Q.ofInt (-v)).mul (Q.ofInt (c * 10000 : Nat))).div sum).floor))
          else v) st acc.1
        let s := ((acc.2.setB F.YMS_STATUS_CLAMP_ACT true).incSat F.YMS_CNT_CLAMP).modYms fun y => { y with flags := setBitOf y.flags 2 true }
        (t, s.raise 0x0307 3 (if nd.kind = 0 then 0xFFFF else nd.index) (le 4 (toTenthKw sum) ++ le 4 c))
      let acc := if (Q.ofInt (q.1 * 10000 : Nat)).lt l then scale true l q.1 acc else acc
      if (Q.ofInt (q.2 * 10000 : Nat)).lt e then scale false e q.2 acc else acc

/-- The clamp at every feeder, then at the site. -/
def State.clampAll (s : State) (fz : Frozen) (t : List Int) : List Int × State :=
  (List.range fz.nodes.length).reverse.foldl (fun a i => State.clampNode fz i a) (t, s)

/-- What is granted of a solve's targets: zero while the grant of COMMIT holds (R536, R537). -/
def State.granted (s : State) (t : List Int) : List Int := if s.pwr.zeroGrant then t.map fun _ => 0 else t

/-- What ALLOC_QUERY reports of targets (R187): a STALL node's capacity is its least ceiling at its V_est, and it is full where
its current reaches that ceiling. -/
def Frozen.record (fz : Frozen) (t : List Int) (short : List Bool) : SolveRec :=
  let st := fz.stalls
  let net := fz.importNet
  let l := loads net st (importOf st t)
  let idx := List.range fz.nodes.length
  let own := fun (i : Nat) => (List.zip st t).find? fun q => q.1.node = i
  { power := (List.zip st t).map fun q => q.2 * q.1.vEst
    short := st.map fun x => short.getD x.tier false && decide (x.floor ≠ 0)
    capacity := idx.map fun i => match own i with
      | some q => toTenthKw (Q.ofInt (q.1.ceil * q.1.vEst : Nat))
      | none => fz.cap i
    load := l.map toTenthKw
    expo := (loads fz.exportNet st (exportOf st t)).map toTenthKw
    full := idx.map fun i => match own i with
      | some q => decide (q.1.ceil ≤ q.2.natAbs)
      | none => (net.cap.getD i (Q.ofInt 0)).le (l.getD i (Q.ofInt 0)) ||
        (decide (fz.iLim.getD i 0 ≠ 0) &&
          (Q.ofInt (fz.iLim.getD i 0)).le (busCurrent net st (importOf st t) i)) }

/-- Write the targets and YMS_SITE_LOAD, and keep the record that ALLOC_QUERY reports (R187). -/
def State.putTargets (s : State) (fz : Frozen) (t : List Int) (short : List Bool) : State :=
  let t := s.granted t
  let s := (List.zip fz.stalls t).foldl (fun s q => s.setS (F.YMS_Sn_GRANT_TARGET q.1.stall) q.2) s
  let r := fz.record t short
  (s.set F.YMS_SITE_LOAD (r.load.getD 0 0)).modYms fun y => { y with rec_ := r, solved := some fz }

/-! ### Ramps and staging (R167, R168, R174) -/

/-- The downward part of a setpoint's move: toward zero or toward a smaller target, by at most `step`. -/
def moveDown (a t : Int) (step : Nat) : Int :=
  let goal : Nat := if decide (0 ≤ a) = decide (0 ≤ t) ∨ t = 0 then min a.natAbs t.natAbs else 0
  let m := max goal (a.natAbs - step)
  if 0 ≤ a then m else -(m : Int)

/-- Where an upward move may go this millisecond: the same sign, or from zero. -/
def upGoal (a t : Int) (step : Nat) : Int :=
  if t.natAbs ≤ a.natAbs ∨ (a < 0 ∧ 0 < t) ∨ (0 < a ∧ t < 0) then a
  else
    let m := min t.natAbs (a.natAbs + step)
    if 0 ≤ t then m else -(m : Int)

/-- Stalls below a CABINET node with a RETIRING cabinet whose load stays above its capacity after the normal downward moves
(R174). -/
def Frozen.tapered (fz : Frozen) (a : List Int) : List Bool :=
  let net := fz.importNet
  let l := loads net fz.stalls (importOf fz.stalls a)
  let hot := (List.range fz.nodes.length).filter fun i =>
    fz.taper.getD i false && (net.cap.getD i (Q.ofInt 0)).lt (l.getD i (Q.ofInt 0))
  fz.stalls.map fun x => hot.any fun i => above fz.nodes i x.node

/-- The applied setpoints for the next boundary (R167): downward moves first, then upward moves by tier and weight within
the headroom left; stalls on an emergency ramp keep their own steps (R168). -/
def State.nextApplied (s : State) (fz : Frozen) (t : List Int) : List Int :=
  let st := fz.stalls
  let a0 := st.map fun x => s.getS (F.YMS_Sn_GRANT_APPLIED x.stall)
  let em := fun (x : FStall) => decide (x.stall ∈ s.yms.emRamp)
  let idx := List.range st.length
  let at3 := fun (k : Nat) => (st[k]?, a0.getD k 0, t.getD k 0)
  let down := fun (fast : List Bool) => idx.map fun k => match at3 k with
    | (some x, a, g) => if em x then a else moveDown a g (if fast.getD k false then max x.rampDown s.yms.tree.emergRamp else x.rampDown)
    | (none, a, _) => a
  let a1 := down []
  let a1 := down (fz.tapered a1)
  let goal := idx.map fun k => match st[k]? with
    | some x => if em x ∨ a1.getD k 0 ≠ a0.getD k 0 then a1.getD k 0 else upGoal (a1.getD k 0) (t.getD k 0) x.rampUp
    | none => 0
  let g := fillAll fz.importNet st (importOf st goal) (importOf st a1)
  let e := fillAll fz.exportNet st (exportOf st goal) (exportOf st a1)
  idx.map fun k => match st[k]? with
    | some x =>
      let a := a1.getD k 0
      if goal.getD k 0 = a then a
      else if 0 < goal.getD k 0 then ((g.getD k (Q.ofInt 0)).div (Q.ofInt x.vEst)).floor
      else -(((e.getD k (Q.ofInt 0)).div (Q.ofInt x.vEst)).floor)
    | none => 0

/-- Stage the setpoints of the next boundary; a stall outside the tree is granted zero (R150). -/
def State.stage (s : State) (fz : Frozen) (t : List Int) : State :=
  let a := s.nextApplied fz (s.granted t)
  let staged := (List.range 48).map fun n =>
    if n ∈ s.yms.emRamp then none
    else match fz.stalls.findIdx? fun x => x.stall = n with
      | some k => some (a.getD k 0)
      | none => some 0
  s.modYms fun y => { y with staged := staged }

/-- A later solve that raises a target ends that stall's emergency ramp (R168). -/
def State.endRamps (s : State) (fz : Frozen) (t : List Int) : State :=
  let raised := (List.zip fz.stalls t).filterMap fun q =>
    if (s.getS (F.YMS_Sn_GRANT_TARGET q.1.stall)).natAbs < q.2.natAbs then some q.1.stall else none
  let em := s.yms.emRamp.filter fun n => n ∉ raised
  (s.modYms fun y => { y with emRamp := em }).setB F.YMS_STATUS_EMERG_RAMP (em ≠ [])

/-- FLOOR_SHORT (0x0308): the status bit, and one event per housekeeping round, for the first tier whose floors are scaled
(R164). -/
def State.floorShort (s : State) (k : List (Option Q)) : State :=
  let short := (List.range 4).filter fun t => match k.getD t none with
    | some q => q.lt (Q.ofInt 1)
    | none => false
  match short with
  | [] => s
  | t :: _ =>
    let s := (s.setB F.YMS_STATUS_FLOOR_SHORT true).modYms fun y => { y with flags := setBitOf y.flags 1 true }
    if s.yms.floorRound then s
    else
      let s := s.modYms fun y => { y with floorRound := true }
      match k.getD t none with
      | some q => s.raise 0x0308 2 t (le 4 (Config.rnd (q.num * 65536) q.den).toNat)
      | none => s

/-! ### Descriptors that wait for a solve (R179, R184, R185) -/

/-- What a waiting descriptor asks for more of: the node's capacity of the last solve, or the size of the stall's target. -/
def State.askNow (s : State) (a : Ask) : Nat :=
  if a.node then s.yms.rec_.capacity.getD a.target 0 else (s.getS (F.YMS_Sn_GRANT_TARGET a.target)).natAbs

/-- Withdraw the change of `a` alone (R179): the descriptors accepted after it that still wait, and what they set, stand on
the value before it. Answers the value in force and those descriptors. -/
def withdrawLim (a : Ask) : NodeLim → List Ask → NodeLim × List Ask
  | q, [] => (q, [])
  | q, b :: t =>
    if b.node = true ∧ b.target = a.target then
      let r := withdrawLim a b.newLim t
      (r.1, { b with oldLim := q } :: r.2)
    else
      let r := withdrawLim a q t
      (r.1, b :: r.2)

def withdrawPolicy (a : Ask) : Policy → List Ask → Policy × List Ask
  | q, [] => (q, [])
  | q, b :: t =>
    if b.node = false ∧ b.target = a.target then
      let r := withdrawPolicy a (b.change.on q) t
      (r.1, { b with oldPolicy := q } :: r.2)
    else
      let r := withdrawPolicy a q t
      (r.1, b :: r.2)

def State.withdraw (s : State) (a : Ask) : State :=
  if a.node then
    let r := withdrawLim a a.oldLim s.yms.asks
    s.modYms fun y => { y with lims := modAt y.lims a.target fun _ => r.1, asks := r.2 }
  else
    let r := withdrawPolicy a a.oldPolicy s.yms.asks
    (s.modYms fun y => { y with policy := modAt y.policy a.target fun _ => r.1, asks := r.2 }).refreshPolicy a.target

/-- RESULT of a waiting descriptor (R184, R185): target and demand current, or the applied import limit. -/
def State.askResult (s : State) (fz : Frozen) (a : Ask) : Nat :=
  if a.node then match fz.nodes[a.target]? with
    | some nd => a.newLim.imp.getD nd.imp
    | none => 0
  else s.get (F.YMS_Sn_GRANT_TARGET a.target) * 65536 + match fz.stalls.find? fun x => x.stall = a.target with
    | some x => x.dem
    | none => 0

/-- Complete the oldest waiting descriptor at the end of a staged scheduled solve. -/
def State.askDone (s : State) (fz : Frozen) (a : Ask) : State :=
  let res := s.askResult fz a
  if a.more && a.hit then
    if a.atAccept < s.askNow a then s.finish a.p a.num 0x01 res
    else (s.withdraw a).finish a.p a.num 0x11 res
  else s.finish a.p a.num (if a.clamped then 0x01 else 0x00) res

/-- Complete the descriptors this solve used, oldest first; those accepted since its freeze stay behind them. -/
def State.asksFrom (fz : Frozen) : Nat → State → State
  | 0, s => s
  | n + 1, s => match s.yms.asks.find? Ask.used with
    | some a => State.asksFrom fz n ((s.modYms fun y => { y with asks := y.asks.eraseP Ask.used }).askDone fz a)
    | none => s

def State.asksDone (s : State) (fz : Frozen) : State := State.asksFrom fz s.yms.asks.length s

/-! ### Emergencies (R175-R178) -/

/-- A trigger of R176: an emergency re-solve starts, pre-empting a scheduled solve (R27), or waits for the one running. -/
def State.trigger (s : State) (node cause : Nat) : State :=
  let s := s.modYms fun y => { y with frozen := y.frozen.map fun f => { f with solving := false } }
  match s.yms.emerg with
  | some e => s.modYms fun y => { y with emerg := some { e with next := e.next ++ [(node, cause)] } }
  | none => s.modYms fun y => { y with emerg := some { node := node, cause := cause, next := [] } }

/-- Waiting descriptors learn that a cabinet became LOST or RETIRING (R179). -/
def State.hitAsks (s : State) : State := s.modYms fun y => { y with asks := y.asks.map fun a => { a with hit := true } }

/-- Descriptors in a list complete. -/
def State.finishAll (s : State) (l : List (Nat × Nat)) (status result : Nat) : State :=
  l.foldl (fun s d => s.finish d.1 d.2 status result) s

/-- A cabinet becomes LOST (R175): `cause` 1 silence, 2 trip. Its retirement completes with RESULT bit 0 (R186), and the
emergency re-solve is triggered. -/
def State.loseCab (s : State) (c cause : Nat) : State :=
  let k := s.cab c
  let s := ((s.setCab c 5 cause).modCab c fun x => { x with retire := [], cancel := [] }).hitAsks
  let s := (s.finishAll k.retire 0x00 1).finishAll k.cancel 0x00 0
  s.trigger (s.cabNode c) 0

/-- The load of a node under the present targets, 0.01 W, and its capacity, with the cabinets as they stand. -/
def State.capNow (s : State) (fz : Frozen) (i : Nat) : Nat := (s.frozenNow fz).cap i

def State.loadNow (s : State) (fz : Frozen) (i : Nat) : Q :=
  (loads (s.frozenNow fz).importNet fz.stalls (importOf fz.stalls (fz.stalls.map fun x => s.getS (F.YMS_Sn_GRANT_TARGET x.stall)))).getD i
    (Q.ofInt 0)

/-- The emergency re-solve has ended; a waiting trigger starts the next (R177). -/
def State.emergNext (s : State) : State :=
  s.modYms fun y => { y with emerg := match y.emerg with
    | some e => match e.next with
      | q :: t => some { node := q.1, cause := q.2, next := t }
      | [] => none
    | none => none }

/-- Take cut targets over the inputs `fz` of the re-solve: every stall whose target it cut below its applied setpoint starts
its emergency ramp (R168); the moves of the others are staged anew within the capacity left (R167). -/
def State.cutTargets (s : State) (fz : Frozen) (t : List Int) (short : List Bool) : State :=
  let t := s.granted t
  let em := (List.zip fz.stalls t).filterMap fun q =>
    if q.2.natAbs < (s.getS (F.YMS_Sn_GRANT_TARGET q.1.stall)).natAbs ∧
        q.2.natAbs < (s.getS (F.YMS_Sn_GRANT_APPLIED q.1.stall)).natAbs then some q.1.stall else none
  let s := s.putTargets fz t short
  let ramp := s.yms.emRamp ++ em.filter fun n => n ∉ s.yms.emRamp
  ((s.modYms fun y => { y with emRamp := ramp, flags := setBitOf y.flags 0 true }).setB F.YMS_STATUS_EMERG_RAMP (ramp ≠ [])).stage fz t

/-- A valid cabinet report (R173, R175, R176, R421): READY for a pending ENABLE, TRIP, AVAIL_OUT and STORE_AVAIL in 0.1 kW. -/
def State.cabReport (s : State) (c : Nat) (ready trip : Bool) (avail store : Nat) : State :=
  let st := s.cabState c
  let old := s.cab c
  let s := s.modCab c fun k => { k with
    avail := avail, store := store, ready := k.ready || (decide (st = 2) && ready && !trip) }
  if st ≠ 3 ∧ st ≠ 4 then s
  else if trip then s.loseCab c 2
  else
    match s.yms.frozen with
    | none => s
    | some fz =>
      let i := s.cabNode c
      if avail < old.avail ∧ (Q.ofInt (s.capNow fz i * 10000 : Nat)).lt (s.loadNow fz i) then s.trigger i 1
      else if store < old.store then
        let overs := (List.range fz.nodes.length).find? fun j =>
          match fz.nodes[j]? with
          | some nd => decide (nd.kind ≠ 4) && (Q.ofInt (s.capNow fz j * 10000 : Nat)).lt (s.loadNow fz j)
          | none => false
        match overs with
        | some j => s.trigger j 2
        | none => s
      else s

end Sys2Proof.Machine
end

