-- ==== Sys2Proof/Machine/HrnOps.lean ====
section
/-!
DEFINITION. Operations of the Harness and Trough (R345-R377): bridge duties, ramps, commutation, latches, stall cooling,
central loops; and the end of a release of held outputs (R373, R397, R553).
-/
namespace Sys2Proof.Machine

def State.modHb (s : State) (b : Nat) (f : Bridge → Bridge) : State :=
  s.modHrn fun h => { h with bridges := modAt h.bridges b f }

/-! ### Release of held outputs -/


/-- When the last held output has been released: AUX_RELEASED, LSW_RELEASED and OUTPUTS_RELEASED (R373, R397), and the
OUTPUT_ADOPTs that asked for it complete (R553). -/
def State.releaseCheck (s : State) : State :=
  let r := s.rel
  if r.running ∧ r.bridges = [] ∧ r.chans = [] ∧ r.auxes = [] then
    let s := s.modRel fun _ => Release.init
    let s := s.raise 0x0903 1 0xFFFF [r.auxOff, r.auxBoot]
    let s := s.raise 0x0A04 1 0xFFFF (le 2 r.chanMask)
    let s := s.raise 0x0807 1 0xFFFF [r.bridgeMask]
    r.waits.foldl (fun s w => s.finish w.1 w.2 0x00 1) s
  else s

/-! ### Bridges: limits, ramps, commutation -/

/-- Take the present duties as the start of a new ramp. -/
def State.rebase (s : State) (b : Nat) : State :=
  let d := s.dutyNow b
  s.modHb b fun h => { h with applied := d, rampFrom := d, rampAt := s.chrono }

/-- The pattern byte of a Hall state in the bridge's set and direction; none for an invalid state or an absent set. -/
def State.patternOf (s : State) (b hall : Nat) : Option Nat :=
  match s.hrn.commute[s.get (F.HRN_HBb_CFG_COMMUTE_SET b)]? with
  | none => none
  | some set =>
    let v := (if s.flag (F.HRN_HBb_CMD_DIRECTION b) then set.2 else set.1).getD hall 0x80
    if bitOf v 7 then none else some v

/-- Are the phases of a pattern byte (U in bits 1:0) switching or low? One bit per phase (R361, HRN_HBb_STATE). -/
def patternPhases (v : Nat) : Nat :=
  b2n (v % 4 ≠ 0) + 2 * b2n (v / 4 % 4 ≠ 0) + 4 * b2n (v / 16 % 4 ≠ 0)

/-- Bring the bridge's registers up to date (R377). -/
def State.showBridge (s : State) (b : Nat) : State :=
  let run := s.running b
  let d := s.dutyNow b
  let h := s.hb b
  let hall := isHall b
  let u := s.shownDuty b 0
  let v := s.shownDuty b 1
  let w := s.shownDuty b 2
  let ramp := s.ramping b
  let s := s.modHb b fun h => { h with applied := d }
  let s := s.set (F.HRN_HBb_CMD_DUTY b) u
  let s := if hall then s else (s.set (F.HRN_HBb_CMD_VW_DUTY_V b) v).set (F.HRN_HBb_CMD_VW_DUTY_W b) w
  let phases := if !run then (if s.get (F.HRN_HBb_CMD_MODE b) = 3 ∧ s.blocked b = false then 7 else 0)
    else if hall then patternPhases (h.pattern.getD 0) else if s.flag (F.HRN_HBb_CFG_INPUT_SRC b) then 7 else h.mask
  let s := ((s.set (F.HRN_HBb_STATE_PHASES b) phases).setB (F.HRN_HBb_STATE_RUNNING b) run).setB
    (F.HRN_HBb_STATE_RAMPING b) ramp
  s.setB (F.HRN_HBb_STATE_HELD b) (s.flag F.HRN_STATUS_HOLD && decide (s.get (F.HRN_HBb_CMD_MODE b) ≠ 0))

/-- LATCHED: any latch of the bridge, or DEVICE_LATCH (R377). -/
def State.anyLatch (s : State) (b : Nat) : Bool :=
  s.flag (F.HRN_HBb_FAULT_CHOP_OVERLOAD b) || s.flag (F.HRN_HBb_FAULT_DESAT b) || s.flag (F.HRN_HBb_FAULT_OC_PERSIST b) ||
    s.flag (F.HRN_HBb_FAULT_HALL_INVALID b) || s.flag (F.HRN_HBb_FAULT_ROTOR_STALL b) || s.flag (F.HRN_HBb_FAULT_VMOT_OV b) ||
    s.flag F.HRN_STATUS_DEVICE_LATCH

def State.showLatch (s : State) (b : Nat) : State := (s.setB (F.HRN_HBb_FAULT_LATCHED b) (s.anyLatch b)).showBridge b

/-- Every BRIDGE_SET waiting on the bridge completes. -/
def State.bridgeDone (s : State) (b status : Nat) : State :=
  let ws := (s.hb b).waits
  let res := if status ≤ 1 then
      (if isHall b then min 65535 (Config.rnd (s.get (F.HRN_HBb_SPEED b)) 10).toNat else 0) * 65536 + (s.hb b).applied.getD 0 0
    else 0
  let s := s.modHb b fun h => { h with waits := [] }
  ws.foldl (fun s w => s.finish w.1 w.2.1 (if status = 0 ∧ w.2.2 = true then 1 else status) res) s

/-- A bridge being released has reached OFF (R373). -/
def State.bridgeReleased (s : State) (b : Nat) : State :=
  if b ∈ s.rel.bridges then
    (s.modRel fun r => { r with bridges := r.bridges.filter (· ≠ b), bridgeMask := r.bridgeMask + 2 ^ b }).releaseCheck
  else s

/-- A new command ends the release of this bridge. -/
def State.bridgeUnrelease (s : State) (b : Nat) : State :=
  if b ∈ s.rel.bridges then (s.modRel fun r => { r with bridges := r.bridges.filter (· ≠ b) }).releaseCheck else s

/-- All switches off and MODE OFF: the end of a two-step off (R369), COAST at a stop, or a bridge no longer enabled. The
BRIDGE_SETs that wait end with `status`. -/
def State.bridgeOff (s : State) (b status : Nat) : State :=
  let s := (s.set (F.HRN_HBb_CMD_MODE b) 0).modHb b fun h => { h with
    want := [0, 0, 0], applied := [0, 0, 0], rampFrom := [0, 0, 0], toOff := false,
    dir := s.get (F.HRN_HBb_CMD_DIRECTION b), ocRun := List.replicate 6 0 }
  (((s.showBridge b).bridgeDone b status).bridgeReleased b)

/-- HB_FAULT (0x0801). -/
def State.hbFault (s : State) (b cause sw : Nat) : State :=
  s.raise 0x0801 (if cause = 5 then 2 else 3) b ([cause, sw] ++ le 2 (s.get (F.HRN_VMOTg_MEAS_V (vmotGroup b))))

/-- Latch a bridge fault with its two-step off (R369, R370). -/
def State.tripBridge (s : State) (b : Nat) (f : Fld) (cause sw : Nat) : State :=
  if s.flag f then s
  else
    let first := !s.flag (F.HRN_HBb_FAULT_DESAT b) && !s.flag (F.HRN_HBb_FAULT_OC_PERSIST b)
    let s := if first ∧ sw < 6 then s.set (F.HRN_HBb_FAULT_SWITCH b) sw else s
    let s := ((s.setB f true).setB (F.HRN_HBb_FAULT_LATCHED b) true).bridgeOff b 0x41
    s.hbFault b cause sw

/-- Put the pattern of the present Hall state in force, or note that the state is invalid (R360, R363). -/
def State.commutate (s : State) (b : Nat) : State :=
  match s.patternOf b (s.get (F.HRN_HBb_STATE_HALL b)) with
  | some v => s.modHb b fun h => { h with pattern := some v, hallBad := false }
  | none => s.modHb b fun h => { h with hallBad := true }

/-- What the bridge does once its duty stands at its goal (R364, R373, R374): OFF, the new direction and its ramp, or the end of
the BRIDGE_SETs. -/
def State.atGoal (s : State) (b : Nat) : State :=
  let s := s.modHb b fun h => { h with applied := s.goal b, rampFrom := s.goal b, rampAt := s.chrono }
  let h := s.hb b
  if h.toOff then s.bridgeOff b 0x00
  else if h.dir ≠ s.get (F.HRN_HBb_CMD_DIRECTION b) then
    let s := (s.set (F.HRN_HBb_CMD_DIRECTION b) h.dir).commutate b
    if s.dutyNow b = s.goal b then ((s.modHb b fun h => { h with applied := s.goal b, rampFrom := s.goal b }).showBridge b).bridgeDone b 0
    else s.showBridge b
  else (s.showBridge b).bridgeDone b 0

/-- After a change of the command: finish at once where there is no way to go. -/
def State.settle (s : State) (b : Nat) : State :=
  if s.dutyNow b = s.goal b then s.atGoal b else s.showBridge b

/-- MODE RUN from OFF, COAST or BRAKE starts at zero duty with the pattern of the present Hall state (R363, R366). -/
def State.startBridge (s : State) (b : Nat) : State :=
  if s.get (F.HRN_HBb_CMD_MODE b) = 1 then s
  else
    let s := (s.set (F.HRN_HBb_CMD_MODE b) 1).modHb b fun h => { h with
      applied := [0, 0, 0], rampFrom := [0, 0, 0], rampAt := s.chrono, toOff := false, pattern := none, lastEdge := s.chrono }
    if isHall b then s.commutate b else s

/-- The Harness is disabled (R451): a two-step off of every bridge without a latch; host-sourced ones stay at MODE OFF. -/
def State.harnessStop (s : State) : State := forAll (List.range 8) (fun b s => s.bridgeOff b 0x10) s

/-- The start of the PWM period after the running one (R357), in Chronobase ticks. -/
def State.nextPeriod (s : State) (b : Nat) : Nat :=
  let khz := s.get (F.HRN_HBb_CFG_PWM_KHZ b)
  ((s.chrono * khz / 250000 + 1) * 250000 + khz - 1) / khz

/-- The switch of half `half` (0 U, 1 V, 2 W): high side 2·half, low side 2·half + 1. Hold it off until `t`. -/
def State.holdOff (s : State) (b sw t : Nat) : State :=
  s.modHb b fun h => { h with offUntil := modAt h.offUntil sw fun x => max x t }

/-- Which switches a Direct bridge's own inputs turn on now (R358, R365): neither of a half-bridge whose inputs are both high. -/
def State.directOn (s : State) (b : Nat) : Nat :=
  let h := s.hb b
  if s.running b && s.flag (F.HRN_HBb_CFG_INPUT_SRC b) then
    ((List.range 6).map fun sw =>
      if bitOf h.inputs sw && !bitOf h.inputs (sw / 2 * 2 + (1 - sw % 2)) && decide (h.offUntil.getD sw 0 ≤ s.chrono)
      then 2 ^ sw else 0).foldl (· + ·) 0
  else 0

/-! ### Trough (R345-R354) -/

def natPts (l : List (Nat × Nat)) (signed : Bool) : List (Int × Int) :=
  l.map fun p => (if signed then toSigned 16 p.1 else (p.1 : Int), (p.2 : Int))

/-- The stall's TRG_CURVE entry. -/
def State.curve? (s : State) (n : Nat) : Option Curve := s.hrn.curves[s.get (F.HRN_Sn_COOL_CFG_ENTRY n)]?

/-- Mean |i_out| of the last 10 ms, 0.1 A, and the sums cleared (R347). -/
def State.meanI (s : State) (n : Nat) : Int :=
  let w := s.walk n
  if w.iCnt = 0 then (s.getS (F.WLK_Sn_CURRENT_I_OUT n)).natAbs else Config.rnd w.iSum w.iCnt

/-- COOLING_SENSOR_LOST (R348): a cable sensor seen valid has become invalid. -/
def State.coolSensors (s : State) (n : Nat) : State :=
  let seen := s.hrn.seen.getD n 0
  let now := b2n (s.hkVal n 0).isSome + 2 * b2n (s.hkVal n 1).isSome
  let s := s.modHrn fun h => { h with seen := modAt h.seen n fun _ => now }
  let gone := (List.range 2).filter fun i => bitOf seen i && !bitOf now i
  let s := gone.foldl (fun s i => s.raise 0x0805 2 n [i]) s
  if gone ≠ [] then s.setB (F.HRN_Sn_COOL_STATE_SENSOR_LOST n) true
  else if now = 3 then s.setB (F.HRN_Sn_COOL_STATE_SENSOR_LOST n) false else s

/-- Pump and valve after the COOLING_SET floor or fixed command (R347, R352). -/
def State.coolFloor (s : State) (n : Nat) (pump valve : Nat) : Nat × Nat :=
  let m := s.get (F.HRN_Sn_COOL_FLOOR_MODE n)
  let fp := s.get (F.HRN_Sn_COOL_FLOOR_PUMP n)
  let fv := s.get (F.HRN_Sn_COOL_FLOOR_VALVE n)
  if m = 2 ∧ s.modeRest n = true ∧ s.contactorClosed n = false then (fp, fv)
  else if m = 1 then (max pump fp, max valve fv) else (pump, valve)

/-- The trim register: 8 bits, signed; it cannot show a trim beyond them, and the spec does not say what it shows then. -/
def State.showTrim (s : State) (n : Nat) (t : Int) : State :=
  if -128 ≤ t ∧ t ≤ 127 then s.set (F.HRN_Sn_COOL_VALVE_TRIM n) (ofSigned 8 t)
  else let r := s.fresh 8; r.2.set (F.HRN_Sn_COOL_VALVE_TRIM n) r.1

/-- R347 for one stall. -/
def State.troughStall (s : State) (n : Nat) : State :=
  let s := s.setB (F.HRN_Sn_COOL_STATE_COOL_MISSING n) (bitOf (s.sealWord n) 6 && !s.hasCurve n)
  let i := s.meanI n
  let s := s.modWalk n fun w => { w with iSum := 0, iCnt := 0 }
  match s.curve? n with
  | none =>
    let full := bitOf (s.sealWord n) 6
    let s := ((s.set (F.HRN_Sn_COOL_STATE_FLOW_TARGET n) 0).set (F.HRN_Sn_COOL_STATE_PUMP n) (if full then 1000 else 0)).set
      (F.HRN_Sn_COOL_VALVE_VALVE n) (if full then 200 else 0)
    s
  | some e =>
    let s := s.coolSensors n
    let f : Int := match s.hkInput n e.tInput with
      | none => e.flowMax
      | some t => max (curveAt (natPts e.iPts false) i) (curveAt (natPts e.tPts true) t)
    let trim := s.hrn.trim.getD n 0
    let r : Int × Int × Nat :=
      if 0 < f then
        let ff : Int := e.pumpMin + Config.rnd (((e.pumpMax : Int) - e.pumpMin) * min f e.flowMax) e.flowMax
        let trim := match s.hkVal n 6 with
          | some flow =>
            let d := f - (flow : Int)
            if e.flowTrim ∧ f < 50 * (d.natAbs : Int) then max (-200) (min 200 (trim + e.trimStep * d.sign)) else trim
          | none => trim
        (trim, max 0 (min 1000 (ff + trim)), e.valveOn)
      else (0, 0, e.valveIdle)
    let s := s.modHrn fun h => { h with trim := modAt h.trim n fun _ => r.1 }
    let out := s.coolFloor n r.2.1.toNat r.2.2
    (((s.set (F.HRN_Sn_COOL_STATE_FLOW_TARGET n) f.toNat).set (F.HRN_Sn_COOL_STATE_PUMP n) out.1).set
      (F.HRN_Sn_COOL_VALVE_VALVE n) out.2).showTrim n r.1

/-- The duty of a central loop (R353, R354). -/
def State.loopDuty (s : State) (c : Central) : Nat :=
  let ms := s.stallNums.filter fun n => bitOf c.mask n
  if c.input = 2 then
    let sum := (ms.map fun n => s.get (F.HRN_Sn_COOL_STATE_FLOW_TARGET n)).foldl (· + ·) 0
    (curveAt (natPts c.pts false) (sum / 10 : Nat)).toNat
  else
    let idx := if c.input = 0 then 5 else 4
    let best := ms.foldl (fun a n => if s.linkState n = Link.run then maxOpt a (s.hkInt n idx) else a) none
    match best with
    | none => c.fsDuty
    | some x => (curveAt (natPts c.pts true) x).toNat

/-- A Trough-sourced bridge takes its loop's duty (R353, R372): enabled and neither latched nor disabled by the Halter. -/
def State.troughBridge (s : State) (b : Nat) : State :=
  let src := s.get (F.HRN_HBb_CFG_SOURCE b)
  if src = 0 ∨ b ∈ s.rel.bridges ∨ s.flag (F.HRN_HBb_CFG_ENABLE b) = false ∨ s.flag (F.HRN_HBb_FAULT_LATCHED b) = true ∨ s.hlt.harnessOff = true
  then s.showBridge b
  else
    match s.hrn.central[src - 1]? with
    | none => s.showBridge b
    | some c =>
      let d := s.loopDuty c
      let s := (s.startBridge b).rebase b
      (s.modHb b fun h => { h with want := [d, d, d], mask := 7, toOff := false }).settle b

end Sys2Proof.Machine
end

