-- ==== Sys2Proof/Machine/AuxOps.lean ====
section
/-!
DEFINITION. Operations of the auxiliary regulators and the load switches (R378-R401), and the start of a release of held
outputs (R373, R397).
-/
namespace Sys2Proof.Machine

/-! ### Auxiliary regulators -/

def State.modAux (s : State) (n : Nat) (f : Aux → Aux) : State := { s with aux := modAt s.aux n f }

def State.showAux (s : State) (n : Nat) : State := s.set (F.AUXn_TARGET_REF n) (s.auxRef n)

/-- Put the regulator in a phase, under braking when it brakes. -/
def State.setAuxPhase (s : State) (n ph : Nat) : State :=
  if s.auxPhase n = 8 ∧ 3 ≤ ph ∧ ph ≤ 6 then s.modAux n fun a => { a with braked := ph }
  else s.set (F.AUXn_STATE_PHASE n) ph

/-- Start a slew from the present reference. -/
def State.auxSlew (s : State) (n target slew : Nat) : State :=
  let r := s.auxRef n
  (s.modAux n fun a => { a with slewFrom := r, slewAt := s.chrono, slew := slew }).set (F.AUXn_TARGET_TARGET n) target

/-- RESULT of AUX_SET (R398): V_OUT and the reference, mV. -/
def State.auxResult (s : State) (n : Nat) : Nat := s.get (F.AUXn_MEAS_V_OUT n) * 65536 + s.auxRef n

/-- The AUX_SET in flight ends. -/
def State.auxDone (s : State) (n status : Nat) : State :=
  match (s.au n).wait with
  | some w => (s.modAux n fun a => { a with wait := none }).finish w.1 w.2 status (s.auxResult n)
  | none => s

/-- A regulator has done its part of a release (R397). -/
def State.auxReleased (s : State) (n : Nat) : State :=
  if n ∈ s.rel.auxes then (s.modRel fun r => { r with auxes := r.auxes.filter (· ≠ n) }).releaseCheck else s

/-- PGOOD changes (R388), with AUX_PGOOD. -/
def State.setPgood (s : State) (n : Nat) (b : Bool) : State :=
  if s.flag (F.AUXn_STATE_PGOOD n) = b then s
  else (s.setB (F.AUXn_STATE_PGOOD n) b).raise 0x0902 1 n [b2n b]

/-- Is V_OUT within PG_PCT (0.1 %) of the present reference? -/
def State.auxInBand (s : State) (n : Nat) : Bool :=
  let r := s.auxRef n
  let v := s.get (F.AUXn_MEAS_V_OUT n)
  decide (((v : Int) - r).natAbs * 1000 ≤ r * s.get (F.AUXn_PROT_PG_PCT n))

/-- What a change of the reference or of V_OUT brings (R379, R388, R398): DROPOUT, PGOOD, the end of an ON. -/
def State.auxSettle (s : State) (n : Nat) : State :=
  let s := s.showAux n
  let vin := s.get (F.AUXn_MEAS_V_IN n) * 10
  let t := s.get (F.AUXn_TARGET_TARGET n)
  let s := s.setB (F.AUXn_STATE_DROPOUT n)
    (s.auxSwitching n && decide (100000 * ((vin : Int) - t) < 150 * (s.get (F.AUXn_CFG_FSW n) : Int) * vin))
  let ph := s.auxRunPhase n
  let s := if (ph = 4 ∨ ph = 5) ∧ s.auxInBand n = true ∧ s.flag (F.AUXn_STATE_PGOOD n) = false then
      (s.setPgood n true).modAux n fun a => { a with hiccups := 0 } else s
  let s := if ph = 4 ∧ s.flag (F.AUXn_STATE_PGOOD n) = true ∧ s.get (F.AUXn_STATE_MODE n) = 1 then s.auxDone n 0x00 else s
  if ph = 4 then s.auxReleased n else s

/-- New values of V_OUT (mV) and V_IN (10 mV). -/
def State.auxMeasure (s : State) (n vout vin : Nat) : State :=
  ((s.set (F.AUXn_MEAS_V_OUT n) vout).set (F.AUXn_MEAS_V_IN n) vin).auxSettle n

/-- Both gates off; `keep` keeps the target (R385, R387). -/
def State.auxGatesOff (s : State) (n phase : Nat) (keep : Bool) : State :=
  let s := s.set (F.AUXn_STATE_PHASE n) phase
  let s := if keep then s else (s.set (F.AUXn_TARGET_TARGET n) 0).modAux n fun a => { a with wanted := false, hiccups := 0 }
  ((s.showAux n).setB (F.AUXn_STATE_DROPOUT n) false).setB (F.AUXn_STATE_CLIMIT n) false

/-- Switching has stopped for good: an OFF or STOP completes, a release is done. -/
def State.auxStopped (s : State) (n status : Nat) : State :=
  (((s.auxGatesOff n 0 false).setPgood n false).auxDone n status).auxReleased n

/-- Latch a fault (R382, R387). -/
def State.auxLatch (s : State) (n : Nat) (f : Fld) (cause : Nat) : State :=
  let s := ((s.setB f true).setB (F.AUXn_FAULT_LATCHED n) true).setBit F.AUX_STATUS_LATCHES n true
  let s := (((s.auxGatesOff n 0 true).modAux n fun a => { a with wanted := false }).setPgood n false).auxDone n 0x41
  (s.raise 0x0901 3 n ([cause] ++ le 2 (s.get (F.AUXn_MEAS_V_OUT n) / 10) ++ le 2 (s.get (F.AUXn_MEAS_V_IN n)))).auxReleased n

/-- A start under R381, unless the input is below its limit. -/
def State.auxStart (s : State) (n : Nat) : State :=
  if s.flag (F.AUXn_STATE_VIN_UV n) then s else s.set (F.AUXn_STATE_PHASE n) 1

/-- Ask for a target (R381, R384): a start where nothing switches, else a slew. -/
def State.auxOn (s : State) (n target slew : Nat) : State :=
  let ph := s.auxRunPhase n
  let s := s.modAux n fun a => { a with wanted := true }
  if s.auxSwitching n then
    let s := (s.auxSlew n target slew).setAuxPhase n (if ph = 3 then 3 else 5)
    if s.auxRef n = target ∧ ph ≠ 3 then (s.setAuxPhase n 4).auxSettle n else s.auxSettle n
  else
    let s := s.set (F.AUXn_TARGET_TARGET n) target
    if ph = 0 then (s.modAux n fun a => { a with hiccups := 0 }).auxStart n else s

/-- Ramp off (R385): PGOOD goes at once; where nothing switches it is off now. -/
def State.auxOff (s : State) (n slew : Nat) : State :=
  let s := s.modAux n fun a => { a with wanted := false }
  if s.auxSwitching n then (((s.auxSlew n 0 slew).setAuxPhase n 6).setPgood n false).showAux n
  else s.auxStopped n 0x00

/-! ### Load switches -/

def State.ch (s : State) (c : Nat) : Lsw := s.lsw.getD c Lsw.init
def State.modCh (s : State) (c : Nat) (f : Lsw → Lsw) : State := { s with lsw := modAt s.lsw c f }

/-- The LSW_SET in flight ends. -/
def State.lswDone (s : State) (c status result : Nat) : State :=
  match (s.ch c).wait with
  | some w => (s.modCh c fun x => { x with wait := none }).finish w.1 w.2 status result
  | none => s

/-- May the channel turn on: enabled, unlatched, its group neither dropped nor under voltage? -/
def State.lswMay (s : State) (c : Nat) : Bool :=
  s.flag (F.LSW_Cn_CFG_ENABLE c) && !s.flag (F.LSW_Cn_FAULT_LATCHED c) && !s.flag (F.LSW_Gg_STATE_HALTER_DROP (c / 4)) &&
    !s.flag (F.LSW_Gg_STATE_UV (c / 4)) && s.domainOn 15

/-- Turn the output on where it may; the inrush window opens after at least 20 ms off, or always when `fresh` (R390, R391). -/
def State.lswOn (s : State) (c : Nat) (afresh : Bool) : State :=
  if s.flag (F.LSW_Cn_STATE_OUT_ON c) = true ∨ s.lswMay c = false then s
  else
    let win := afresh || (match (s.ch c).offAt with
      | some t => decide (t + 5000000 ≤ s.chrono)
      | none => true)
    let s := (s.setB (F.LSW_Cn_STATE_OUT_ON c) true).setB (F.LSW_Cn_STATE_INRUSH c) win
    let s := s.modCh c fun x => { x with peak := 0 }
    if s.flag (F.LSW_Cn_FAULT_SHORT_SUPPLY c) then (s.setB (F.LSW_Cn_FAULT_SHORT_SUPPLY c) false).raise 0x0A02 2 c [3] else s

/-- Turn the output off; the command is another matter. -/
def State.lswOff (s : State) (c : Nat) : State :=
  if s.flag (F.LSW_Cn_STATE_OUT_ON c) then
    (((s.setB (F.LSW_Cn_STATE_OUT_ON c) false).setB (F.LSW_Cn_STATE_INRUSH c) false).setB (F.LSW_Cn_STATE_CLAMP c) false).modCh c
      fun x => { x with offAt := some s.chrono }
  else s

/-- A channel has done its part of a release (R397). -/
def State.lswReleased (s : State) (c : Nat) : State :=
  if c ∈ s.rel.chans then (s.modRel fun r => { r with chans := r.chans.filter (· ≠ c) }).releaseCheck else s

/-- LSW_SET MODE 0. -/
def State.lswSetOff (s : State) (c : Nat) : State :=
  ((s.lswDone c 0x42 0).setB (F.LSW_Cn_STATE_CMD_ON c) false).lswOff c

/-- Latch a channel off (R390-R392): the command is cleared, so that it stays off after the clear. -/
def State.lswLatch (s : State) (c : Nat) (f : Fld) (cause : Nat) : State :=
  let s := ((s.setB f true).setB (F.LSW_Cn_FAULT_LATCHED c) true).incSat (F.LSW_Cn_CNT_LATCHES c)
  let s := (((s.setB (F.LSW_Cn_STATE_CMD_ON c) false).lswOff c).lswDone c 0x41 0)
  (s.raise 0x0A01 3 c ([cause] ++ le 2 (s.get (F.LSW_Cn_CURRENT_SAMPLE c)))).lswReleased c

/-- Is LSINn at the level that commands its channel on (R389)? -/
def State.pinActive (s : State) (c : Nat) : Bool := s.flag (F.LSW_Cn_STATE_LSIN c) != s.flag (F.LSW_Cn_CFG_INVERT c)

/-- A PIN channel takes the level of its input (R389). -/
def State.lswFollow (s : State) (c : Nat) : State :=
  if s.pinActive c then
    if s.flag (F.LSW_Cn_FAULT_LATCHED c) ∨ s.flag (F.LSW_Gg_STATE_HALTER_DROP (c / 4)) ∨ s.flag (F.LSW_Cn_CFG_ENABLE c) = false then s
    else (s.setB (F.LSW_Cn_STATE_CMD_ON c) true).lswOn c false
  else (s.setB (F.LSW_Cn_STATE_CMD_ON c) false).lswOff c

/-- The channels of group `g`. -/
def groupChans (g : Nat) : List Nat := [4 * g, 4 * g + 1, 4 * g + 2, 4 * g + 3]

/-- The Halter drops a group (R396): its channels turn off and stay off after the release as after a clear (R392). -/
def State.lswDrop (s : State) (g : Nat) : State :=
  if s.flag (F.LSW_Gg_STATE_HALTER_DROP g) then s
  else forAll (groupChans g) (fun c s => (((s.setB (F.LSW_Cn_STATE_CMD_ON c) false).lswOff c).lswDone c 0x10 0).lswReleased c)
    (s.setB (F.LSW_Gg_STATE_HALTER_DROP g) true)

/-- The Halter releases a group. -/
def State.lswUndrop (s : State) (g : Nat) : State := s.setB (F.LSW_Gg_STATE_HALTER_DROP g) false

/-! ### The release of held outputs (R373, R397, R553) -/

/-- The next HOST channel of a release turns off. -/
def State.releaseChan (s : State) : State :=
  match s.rel.chans with
  | [] => s
  | c :: t =>
    ((s.lswSetOff c).modRel fun r => { r with chans := t, chanMask := r.chanMask + 2 ^ c }).releaseCheck

/-- Start the release: floors, fixed cooling and trims clear, bridges ramp to zero, the first channel turns off; the regulators
follow with AUX_RELEASE_DELAY_EXPIRY. With `off` every output ends off. -/
def State.startRelease (s : State) (off : Bool) (waits : List (Nat × Nat)) : State :=
  let s := forAll s.stallNums (fun n s => ((s.set (F.HRN_Sn_COOL_FLOOR_MODE n) 0).set (F.HRN_Sn_COOL_FLOOR_PUMP n) 0).set
    (F.HRN_Sn_COOL_FLOOR_VALVE n) 0) s
  let s := s.modHrn fun h => { h with trim := List.replicate 48 0 }
  let bs := (List.range 8).filter fun b => decide (s.get (F.HRN_HBb_CMD_MODE b) ≠ 0) &&
    (off || decide (s.get (F.HRN_HBb_CFG_SOURCE b) = 0))
  let cs := (List.range 16).filter fun c => s.flag (F.LSW_Cn_STATE_CMD_ON c) &&
    (off || (!s.flag (F.LSW_Cn_CFG_SOURCE c) && !s.flag (F.LSW_Cn_CFG_BOOT_ON c)))
  let as := (List.range 4).filter fun n =>
    match (if off then none else s.auxBoot? n) with
    | none => (s.au n).wanted || decide (s.auxPhase n ≠ 0)
    | some boot => s.flag (F.AUXn_CFG_ENABLE n) && !s.flag (F.AUXn_FAULT_LATCHED n) &&
      (decide (s.get (F.AUXn_TARGET_TARGET n) ≠ boot) || decide (s.auxPhase n = 0))
  let s := s.modRel fun r =>
    { r with running := true, off := off, bridges := bs, chans := cs, auxes := as, waits := r.waits ++ waits }
  let s := forAll bs (fun b s =>
    if s.get (F.HRN_HBb_CMD_MODE b) = 1 then ((s.rebase b).modHb b fun h => { h with toOff := true }).settle b
    else s.bridgeOff b 0x00) s
  s.releaseChan.releaseCheck

end Sys2Proof.Machine
end

