-- ==== Sys2Proof/Machine/AuxLsw.lean ====
section
/-!
DEFINITION. The commands of the auxiliary regulators and load switches (R378-R401). V_OUT operands are in mV, V_IN in 10 mV,
LSVg and currents in 10 mV and 10 mA.
-/
namespace Sys2Proof.Machine

/-! ### Auxiliary regulators -/

/-- Does the cause of an OV latch persist (R398)? -/
def State.auxOvStill (s : State) (n : Nat) : Bool :=
  s.flag (F.AUXn_FAULT_OV n) &&
    decide (s.get (F.AUXn_TARGET_TARGET n) * (100 + s.get (F.AUXn_PROT_OV_TRIP n)) < s.get (F.AUXn_MEAS_V_OUT n) * 100)

/-- Clear the latches of a regulator (R388, R398). -/
def State.auxClear (s : State) (n : Nat) : State :=
  (((((s.setB (F.AUXn_FAULT_SHORT n) false).setB (F.AUXn_FAULT_OV n) false).setB (F.AUXn_FAULT_HS_SHORT n) false).setB
    (F.AUXn_FAULT_LATCHED n) false).setBit F.AUX_STATUS_LATCHES n false).modAux n fun a => { a with hiccups := 0 }

/-- AUX_SET (R380, R384, R385, R398). -/
def execAuxSet (p tag : Nat) (s : State) : Host.Outcome State Fault Refusal :=
  .next (s.take p tag 0x0901 fun d s =>
    let n := d.target
    let mode := d.arg 24 1
    let flags := d.arg 25 1
    let slew := if d.arg 26 2 = 0 then s.get (F.AUXn_RATE_SLEW n) else d.arg 26 2
    let t := d.arg 28 4
    let bad := decide (2 < mode) || decide (1 < flags) || decide (1000 < d.arg 26 2) || (decide (mode ≠ 1) && decide (t ≠ 0)) ||
      (decide (mode = 1) && !s.auxFits n t)
    if bad then s.finish p d.num 0x40 (s.auxResult n)
    else if flags = 1 ∧ s.auxOvStill n = true then s.finish p d.num 0x44 (s.auxResult n)
    else
      let s := if flags = 1 then s.auxClear n else s
      if s.flag (F.AUXn_FAULT_LATCHED n) then s.finish p d.num 0x41 (s.auxResult n)
      else if s.flag (F.AUXn_CFG_ENABLE n) = false then s.finish p d.num 0x43 (s.auxResult n)
      else
        let s := ((s.auxDone n 0x42).auxReleased n).set (F.AUXn_STATE_MODE n) mode
        let s := s.modAux n fun a => { a with wait := some (p, d.num) }
        if mode = 1 then s.auxOn n t slew
        else if mode = 0 then s.auxOff n slew
        else s.auxStopped n 0x00)

/-- AUX_SET_TIMEOUT (R398): the ON has not reached its target with PGOOD within the slew time plus 50 ms. -/
def execAuxSetTimeout (n : Nat) (s : State) : Host.Outcome State Fault Refusal :=
  .next (if s.get (F.AUXn_STATE_MODE n) = 1 then s.auxDone n 0x06 else s)

/-- AUX_START_TEST_END (R381-R383): the test fails, or the bootstrap pulse and the soft start from V(VOS) follow. `vsw` is the
least V(SW) of the 100 µs, mV. -/
def execAuxStartTestEnd (n vsw vout vin : Nat) (s : State) : Host.Outcome State Fault Refusal :=
  .next (
    if s.auxPhase n = 1 then
      let s := s.auxMeasure n vout vin
      if vout + max 2000 (2 * vin) < vsw then s.auxLatch n (F.AUXn_FAULT_HS_SHORT n) 1
      else
        let s := s.set (F.AUXn_STATE_PHASE n) 3
        (s.modAux n fun a => { a with slewFrom := vout, slewAt := s.chrono, slew := s.get (F.AUXn_RATE_SS_RATE n) }).showAux n
    else s)

/-- AUX_TARGET_REACHED (R379, R381, R388, R398): the reference has reached its target; sent again while regulating it reports
V_OUT. -/
def execAuxTargetReached (n vout vin : Nat) (s : State) : Host.Outcome State Fault Refusal :=
  .next (
    let ph := s.auxRunPhase n
    if ph = 3 ∨ ph = 4 ∨ ph = 5 then
      let s := s.modAux n fun a => { a with slewFrom := s.get (F.AUXn_TARGET_TARGET n), slewAt := s.chrono }
      (s.setAuxPhase n 4).auxMeasure n vout vin
    else s)

/-- AUX_RAMP_OFF_END (R385): the OFF ramp is at zero and switching stops. -/
def execAuxRampOffEnd (n vout vin : Nat) (s : State) : Host.Outcome State Fault Refusal :=
  .next (if s.auxRunPhase n = 6 then
      ((s.set (F.AUXn_MEAS_V_OUT n) vout).set (F.AUXn_MEAS_V_IN n) vin).auxStopped n 0x00
    else s)

/-- AUX_SHORT_DETECT (R387, R388): after soft start the current limit has held for 1 ms with V_OUT below half the reference. -/
def execAuxShortDetect (n vout vin : Nat) (s : State) : Host.Outcome State Fault Refusal :=
  .next (
    let ph := s.auxRunPhase n
    let s := if 4 ≤ ph ∧ ph ≤ 6 then (s.set (F.AUXn_MEAS_V_OUT n) vout).set (F.AUXn_MEAS_V_IN n) vin else s
    if 4 ≤ ph ∧ ph ≤ 6 ∧ 2 * vout < s.auxRef n then
      let s := ((s.incSat (F.AUXn_CNT_HICCUP n)).modAux n fun a => { a with hiccups := a.hiccups + 1 })
      if ph = 6 then s.auxStopped n 0x00 else (s.auxGatesOff n 7 true).setPgood n false
    else s)

/-- AUX_HICCUP_RESTART (R387): 50 ms off are over; the eighth hiccup in a row without PGOOD latches SHORT. -/
def execAuxHiccupRestart (n vout vin : Nat) (s : State) : Host.Outcome State Fault Refusal :=
  .next (
    if s.auxPhase n = 7 then
      let s := (s.set (F.AUXn_MEAS_V_OUT n) vout).set (F.AUXn_MEAS_V_IN n) vin
      if 8 ≤ (s.au n).hiccups then s.auxLatch n (F.AUXn_FAULT_SHORT n) 2 else (s.set (F.AUXn_STATE_PHASE n) 0).auxStart n
    else s)

/-- AUX_OVERVOLTAGE (R387): V_OUT has been above the present reference by OV_TRIP for 20 µs. -/
def execAuxOvervoltage (n vout vin : Nat) (s : State) : Host.Outcome State Fault Refusal :=
  .next (
    if s.auxSwitching n then
      let s := s.auxMeasure n vout vin
      if s.auxRef n * (100 + s.get (F.AUXn_PROT_OV_TRIP n)) < vout * 100 then s.auxLatch n (F.AUXn_FAULT_OV n) 3 else s
    else s)

/-- AUX_OV_BRAKE (R386): V_OUT above the present reference by OV_BRAKE turns both gates off. -/
def execAuxOvBrake (n vout vin : Nat) (s : State) : Host.Outcome State Fault Refusal :=
  .next (
    if s.auxSwitching n ∧ s.auxPhase n ≠ 8 then
      let s := s.auxMeasure n vout vin
      if s.auxRef n * (1000 + s.get (F.AUXn_PROT_OV_BRAKE n)) < vout * 1000 then
        (s.modAux n fun a => { a with braked := s.auxPhase n }).set (F.AUXn_STATE_PHASE n) 8
      else s
    else s)

/-- AUX_BRAKE_END (R386): V_OUT below the reference times 1 + OV_BRAKE / 2; switching resumes. -/
def execAuxBrakeEnd (n vout vin : Nat) (s : State) : Host.Outcome State Fault Refusal :=
  .next (
    if s.auxPhase n = 8 then
      let s := s.auxMeasure n vout vin
      if vout * 2000 < s.auxRef n * (2000 + s.get (F.AUXn_PROT_OV_BRAKE n)) then
        (s.set (F.AUXn_STATE_PHASE n) (s.au n).braked).auxSettle n
      else s
    else s)

/-- AUX_VIN_UNDERVOLTAGE (R387): AUXn_VIN below 4.3 V; the target is kept. -/
def execAuxVinUndervoltage (n vout vin : Nat) (s : State) : Host.Outcome State Fault Refusal :=
  .next (
    if 4 ≤ n ∨ s.domainOn 14 = false then s
    else
      let s := (s.set (F.AUXn_MEAS_V_OUT n) vout).set (F.AUXn_MEAS_V_IN n) vin
      if vin < 430 ∧ s.flag (F.AUXn_STATE_VIN_UV n) = false then
        let s := s.setB (F.AUXn_STATE_VIN_UV n) true
        if s.auxRunPhase n = 6 then s.auxStopped n 0x00 else s.auxGatesOff n 0 true
      else s)

/-- AUX_VIN_RECOVERY (R387): AUXn_VIN at 4.6 V; a regulator that is wanted on starts again. -/
def execAuxVinRecovery (n vout vin : Nat) (s : State) : Host.Outcome State Fault Refusal :=
  .next (
    if 4 ≤ n ∨ s.domainOn 14 = false then s
    else
      let s := (s.set (F.AUXn_MEAS_V_OUT n) vout).set (F.AUXn_MEAS_V_IN n) vin
      if 460 ≤ vin ∧ s.flag (F.AUXn_STATE_VIN_UV n) = true then
        let s := s.setB (F.AUXn_STATE_VIN_UV n) false
        if (s.au n).wanted then s.auxStart n else s
      else s)

/-- AUX_PGOOD_LOSS (R388): V_OUT has been out of the band for 50 µs. -/
def execAuxPgoodLoss (n vout vin : Nat) (s : State) : Host.Outcome State Fault Refusal :=
  .next (
    if s.flag (F.AUXn_STATE_PGOOD n) then
      let s := ((s.set (F.AUXn_MEAS_V_OUT n) vout).set (F.AUXn_MEAS_V_IN n) vin).showAux n
      if s.auxInBand n && s.auxSwitching n then s else s.setPgood n false
    else s)

/-- AUX_RELEASE_DELAY_EXPIRY (R397): 20 ms and OFF_DELAY after the window the regulator ramps off, or slews to BOOT. -/
def execAuxReleaseDelayExpiry (n : Nat) (s : State) : Host.Outcome State Fault Refusal :=
  .next (
    if n ∈ s.rel.auxes then
      let slew := s.get (F.AUXn_RATE_SLEW n)
      let s := s.auxDone n 0x42
      match (if s.rel.off then none else s.auxBoot? n) with
      | none => (s.modRel fun r => { r with auxOff := setBitOf r.auxOff n true }).auxOff n slew
      | some boot => (s.modRel fun r => { r with auxBoot := setBitOf r.auxBoot n true }).auxOn n boot slew
    else s)

/-- A write of AUXn_CFG (R401): FSW and RIPPLE of a switching regulator may not change; ENABLE 0 acts as AUX_SET MODE 0. -/
def State.auxCfgWrite (n : Nat) (r : RegRow) (base w : Nat) (s : State) : State :=
  if s.auxSwitching n ∧ bitsOf w 27 16 ≠ bitsOf (s.rowVal r base) 27 16 then s.setB F.AUX_STATUS_CFG_REFUSED true
  else
    let s := s.writeFields r base w
    if s.flag (F.AUXn_CFG_ENABLE n) = false ∧ ((s.au n).wanted = true ∨ s.auxPhase n ≠ 0) then
      ((s.auxDone n 0x42).set (F.AUXn_STATE_MODE n) 0).auxOff n (s.get (F.AUXn_RATE_SLEW n))
    else s

/-- AUX_ENABLE_CLEAR_WRITE (R401): a write of AUXn_CFG. -/
def execAuxEnableClearWrite (p n val : Nat) (s : State) : Host.Outcome State Fault Refusal :=
  .next (s.setupWrite p (0x91000 + 0x40 * (n % 4)) val (State.auxCfgWrite (n % 4)))

/-! ### Load switches -/

/-- LSW_SET (R392, R396, R399). -/
def execLswSet (p tag : Nat) (s : State) : Host.Outcome State Fault Refusal :=
  .next (s.take p tag 0x0A01 fun d s =>
    let c := d.target
    let mode := d.arg 24 1
    if 1 < mode then s.finish p d.num 0x40 0
    else if s.flag (F.LSW_Gg_STATE_HALTER_DROP (c / 4)) then s.finish p d.num 0x10 0
    else if s.flag (F.LSW_Cn_CFG_ENABLE c) = false then s.finish p d.num 0x43 0
    else if s.flag (F.LSW_Cn_CFG_SOURCE c) then s.finish p d.num 0x45 0
    else if s.flag (F.LSW_Cn_FAULT_LATCHED c) then s.finish p d.num 0x41 0
    else if mode = 0 then ((s.lswSetOff c).finish p d.num 0x00 0).lswReleased c
    else
      let s := ((s.lswDone c 0x42 0).lswReleased c).setB (F.LSW_Cn_STATE_CMD_ON c) true
      let s := s.lswOn c false
      if s.flag (F.LSW_Cn_STATE_OUT_ON c) = true ∧ s.flag (F.LSW_Cn_STATE_INRUSH c) = false then
        let a := s.fresh 16
        let b := a.2.fresh 16
        b.2.finish p d.num 0x00 (a.1 * 65536 + b.1)
      else s.modCh c fun x => { x with wait := some (p, d.num) })

/-- LSW_FAULT_CLEAR (R392, R400). -/
def execLswFaultClear (p tag : Nat) (s : State) : Host.Outcome State Fault Refusal :=
  .next (s.take p tag 0x0A02 fun d s =>
    let c := d.target
    let m := d.arg 24 1
    let g := c / 4
    if 3 < m then s.finish p d.num 0x40 0
    else
      let hot := bitOf m 1 && s.flag (F.LSW_Gg_STATE_GROUP_OT g) && decide (1300 ≤ s.getS (F.LSW_Gg_STATE_TEMP g))
      let s := if bitOf m 0 then ((s.setB (F.LSW_Cn_FAULT_OVERCURRENT c) false).setB (F.LSW_Cn_FAULT_INRUSH c) false).setB
          (F.LSW_Cn_FAULT_CLAMP c) false else s
      let s := if bitOf m 1 ∧ hot = false then
          forAll (groupChans g) (fun x s => s.setB (F.LSW_Cn_FAULT_GROUP_OT x) false) (s.setB (F.LSW_Gg_STATE_GROUP_OT g) false)
        else s
      let s := forAll (groupChans g) (fun x s => s.setB (F.LSW_Cn_FAULT_LATCHED x)
        (s.flag (F.LSW_Cn_FAULT_GROUP_OT x) || s.flag (F.LSW_Cn_FAULT_OVERCURRENT x) || s.flag (F.LSW_Cn_FAULT_INRUSH x) ||
          s.flag (F.LSW_Cn_FAULT_CLAMP x))) s
      s.finish p d.num (if hot then 0x44 else 0x00) 0)

/-- LSIN_EDGE (R389, R392): a filtered edge on LSINn. The pin duty is taken over the last period of the pin. -/
def execLsinEdge (c : Nat) (level : Bool) (s : State) : Host.Outcome State Fault Refusal :=
  .next (
    if 16 ≤ c ∨ s.domainOn 15 = false ∨ s.flag (F.LSW_Cn_STATE_LSIN c) = level then s
    else
      let x := s.ch c
      let s := s.setB (F.LSW_Cn_STATE_LSIN c) level
      let s := match level, x.rise, x.fall with
        | true, some r, some f =>
          if r < f ∧ r < s.chrono then s.set (F.LSW_Cn_STATE_PIN_DUTY c) (Config.rnd ((f - r) * 10000 : Nat) (s.chrono - r)).toNat else s
        | _, _, _ => s
      let s := s.modCh c fun x => if level then { x with rise := some s.chrono } else { x with fall := some s.chrono }
      if s.flag (F.LSW_Cn_CFG_SOURCE c) then s.lswFollow c else s)

/-- LSW_CLAMP (R390, R394): the channel reaches 10 A: clamped, latched off within 10 µs, its group disturbed. -/
def execLswClamp (c : Nat) (s : State) : Host.Outcome State Fault Refusal :=
  .next (
    if c < 16 ∧ s.flag (F.LSW_Cn_STATE_OUT_ON c) = true then
      ((s.setB (F.LSW_Gg_STATE_DISTURBED (c / 4)) true).incSat (F.LSW_Cn_CNT_CLAMPS c)).lswLatch c (F.LSW_Cn_FAULT_CLAMP c) 1
    else s)

/-- LSW_INRUSH_TRIP (R390): above IINRUSH for 200 µs in the window. -/
def execLswInrushTrip (c : Nat) (s : State) : Host.Outcome State Fault Refusal :=
  .next (
    if c < 16 ∧ s.flag (F.LSW_Cn_STATE_OUT_ON c) = true ∧ s.flag (F.LSW_Cn_STATE_INRUSH c) = true then
      s.lswLatch c (F.LSW_Cn_FAULT_INRUSH c) 2
    else s)

/-- LSW_INRUSH_WINDOW_END (R390, R399). -/
def execLswInrushWindowEnd (c : Nat) (s : State) : Host.Outcome State Fault Refusal :=
  .next (
    if c < 16 ∧ s.flag (F.LSW_Cn_STATE_INRUSH c) = true then
      (s.setB (F.LSW_Cn_STATE_INRUSH c) false).lswDone c 0x00 ((s.ch c).peak * 65536 + s.get (F.LSW_Cn_CURRENT_SAMPLE c))
    else s)

/-- LSW_OVERCURRENT_TRIP (R390): above ILATCH for TLATCH outside the window. -/
def execLswOvercurrentTrip (c : Nat) (s : State) : Host.Outcome State Fault Refusal :=
  .next (
    if c < 16 ∧ s.flag (F.LSW_Cn_STATE_OUT_ON c) = true ∧ s.flag (F.LSW_Cn_STATE_INRUSH c) = false then
      s.lswLatch c (F.LSW_Cn_FAULT_OVERCURRENT c) 3
    else s)

/-- LSW_GROUP_OT (R391): the group sensor reads `temp` (signed, 0.1 °C), at or above 150 °C. -/
def execLswGroupOt (g temp : Nat) (s : State) : Host.Outcome State Fault Refusal :=
  .next (
    if 4 ≤ g ∨ s.domainOn 15 = false then s
    else
      let s := s.set (F.LSW_Gg_STATE_TEMP g) temp
      if 1500 ≤ s.getS (F.LSW_Gg_STATE_TEMP g) ∧ s.flag (F.LSW_Gg_STATE_GROUP_OT g) = false then
        forAll (groupChans g) (fun c s => s.lswLatch c (F.LSW_Cn_FAULT_GROUP_OT c) 4) (s.setB (F.LSW_Gg_STATE_GROUP_OT g) true)
      else s)

/-- LSW_GROUP_UV (R391): LSVg below 5.5 V; the commands are kept. -/
def execLswGroupUv (g lsv : Nat) (s : State) : Host.Outcome State Fault Refusal :=
  .next (
    if 4 ≤ g ∨ s.domainOn 15 = false then s
    else
      let s := s.set (F.LSW_Gg_MEAS_LSV g) lsv
      if lsv < 550 ∧ s.flag (F.LSW_Gg_STATE_UV g) = false then
        (forAll (groupChans g) (fun c s => s.lswOff c) (s.setB (F.LSW_Gg_STATE_UV g) true)).raise 0x0A03 2 g ([0] ++ le 2 lsv)
      else s)

/-- LSW_GROUP_UV_RECOVERY (R391): LSVg above 6.0 V; commanded channels turn on with a new inrush window. -/
def execLswGroupUvRecovery (g lsv : Nat) (s : State) : Host.Outcome State Fault Refusal :=
  .next (
    if 4 ≤ g ∨ s.domainOn 15 = false then s
    else
      let s := s.set (F.LSW_Gg_MEAS_LSV g) lsv
      if 600 < lsv ∧ s.flag (F.LSW_Gg_STATE_UV g) = true then
        let s := s.setB (F.LSW_Gg_STATE_UV g) false
        let s := forAll (groupChans g) (fun c s => if s.flag (F.LSW_Cn_STATE_CMD_ON c) then s.lswOn c true else s) s
        s.raise 0x0A03 2 g ([1] ++ le 2 lsv)
      else s)

/-- LSW_GROUP_DISTURB_END (R394). -/
def execLswGroupDisturbEnd (g : Nat) (s : State) : Host.Outcome State Fault Refusal :=
  .next (if g < 4 then s.setB (F.LSW_Gg_STATE_DISTURBED g) false else s)

/-- LSW_OPEN_LOAD (R395): only samples below OPEN_MA for OPEN_MS. -/
def execLswOpenLoad (c : Nat) (s : State) : Host.Outcome State Fault Refusal :=
  .next (
    if c < 16 ∧ s.flag (F.LSW_Cn_STATE_OUT_ON c) = true ∧ s.get (F.LSW_Cn_OPEN_OPEN_MA c) ≠ 0 ∧
        s.flag (F.LSW_Cn_FAULT_OPEN_LOAD c) = false then
      (s.setB (F.LSW_Cn_FAULT_OPEN_LOAD c) true).raise 0x0A02 2 c [0]
    else s)

/-- LSW_SHORT_SUPPLY (R395): an off channel has shown more than half of LSVg for 10 ms, or that has ended. -/
def execLswShortSupply (c : Nat) (present : Bool) (s : State) : Host.Outcome State Fault Refusal :=
  .next (
    if 16 ≤ c ∨ s.domainOn 15 = false ∨ s.flag (F.LSW_Cn_FAULT_SHORT_SUPPLY c) = present ∨
        (present = true ∧ s.flag (F.LSW_Cn_STATE_OUT_ON c) = true) then s
    else (s.setB (F.LSW_Cn_FAULT_SHORT_SUPPLY c) present).raise 0x0A02 2 c [if present then 2 else 3])

/-- LSW_SET_UV_TIMEOUT (R399): MODE 1 has waited under group under-voltage for 1 s; the command stays on. -/
def execLswSetUvTimeout (c : Nat) (s : State) : Host.Outcome State Fault Refusal :=
  .next (if c < 16 ∧ s.flag (F.LSW_Gg_STATE_UV (c / 4)) = true then s.lswDone c 0x06 0 else s)

/-- LSW_CURRENT_SAMPLE (R393-R395): the converter of the group samples channel `c` when it is on, and reports the group's
temperature and supply. -/
def execLswCurrentSample (c sample temp lsv : Nat) (s : State) : Host.Outcome State Fault Refusal :=
  .next (
    if 16 ≤ c ∨ s.domainOn 15 = false then s
    else
      let g := c / 4
      let s := (s.set (F.LSW_Gg_STATE_TEMP g) temp).set (F.LSW_Gg_MEAS_LSV g) lsv
      if s.flag (F.LSW_Cn_STATE_OUT_ON c) then
        let s := (s.set (F.LSW_Cn_CURRENT_SAMPLE c) sample).setB (F.LSW_Cn_CURRENT_DISTURB c) (s.flag (F.LSW_Gg_STATE_DISTURBED g))
        let s := s.modCh c fun x => { x with sum := x.sum + sample % 4096, cnt := x.cnt + 1, peak := max x.peak (sample % 4096) }
        if s.get (F.LSW_Cn_OPEN_OPEN_MA c) ≤ 10 * (sample % 4096) ∧ s.flag (F.LSW_Cn_FAULT_OPEN_LOAD c) = true then
          (s.setB (F.LSW_Cn_FAULT_OPEN_LOAD c) false).raise 0x0A02 2 c [1]
        else s
      else s)

/-- LSW_RELEASE_STEP (R397): the next channel of the release turns off. -/
def execLswReleaseStep (s : State) : Host.Outcome State Fault Refusal := .next s.releaseChan

/-- A write of LSW_Cn_CFG (R389, R401): SOURCE of a channel that is on may not change; ENABLE 0 acts as LSW_SET MODE 0; a PIN
channel follows its input. -/
def State.lswCfgWrite (c : Nat) (r : RegRow) (base w : Nat) (s : State) : State :=
  let on := s.flag (F.LSW_Cn_STATE_OUT_ON c)
  if on = true ∧ bitOf w 30 ≠ s.flag (F.LSW_Cn_CFG_SOURCE c) then s.setB F.LSW_STATUS_CFG_REFUSED true
  else
    let pin := s.flag (F.LSW_Cn_CFG_SOURCE c) && s.flag (F.LSW_Cn_CFG_ENABLE c)
    let inv := s.flag (F.LSW_Cn_CFG_INVERT c)
    let s := s.writeFields r base w
    if s.flag (F.LSW_Cn_CFG_ENABLE c) = false then (s.lswSetOff c).lswReleased c
    else if s.flag (F.LSW_Cn_CFG_SOURCE c) = true ∧ (pin = false ∨ inv ≠ s.flag (F.LSW_Cn_CFG_INVERT c)) then s.lswFollow c
    else s

/-- LSW_ENABLE_CLEAR_WRITE (R401): a write of LSW_Cn_CFG. -/
def execLswEnableClearWrite (p c val : Nat) (s : State) : Host.Outcome State Fault Refusal :=
  .next (s.setupWrite p (0xA1000 + 0x20 * (c % 16)) val (State.lswCfgWrite (c % 16)))

end Sys2Proof.Machine
end

