-- ==== Sys2Proof/Machine/Crypto.lean ====
section
/-!
DEFINITION. The cryptographic functions the spec names, each over exactly the inputs it gives (R127-R129, R136, R479-R506).
What each computes is an opaque constant (`Config.crypto`); how keys, nonces, associated data and messages go in is not.
-/
namespace Sys2Proof.Machine

/-- Exactly `n` bytes of a cryptographic result (opaque, notes/assumptions/2.md). -/
def cryptoBytes (what n : Nat) (data : List Nat) : List Nat := padTo n ((Config.crypto what data).map fun b => b % 256)

/-- The inputs of a function, set apart by their lengths. -/
def pack (l : List (List Nat)) : List Nat := (l.map fun x => le 8 x.length ++ x).flatten

/-- The bytes of an ASCII text. -/
def ascii (t : String) : List Nat := t.toList.map Char.toNat

/-- The big-endian number of a byte string, and the `n` big-endian bytes of a number. -/
def beVal (b : List Nat) : Nat := b.foldl (fun a x => a * 256 + x % 256) 0
def be (n v : Nat) : List Nat := (le n v).reverse

def sha512 (m : List Nat) : List Nat := cryptoBytes 11 64 m
def sha3 (m : List Nat) : List Nat := cryptoBytes 54 32 m
def sha256 (m : List Nat) : List Nat := cryptoBytes 65 32 m
def sha384 (m : List Nat) : List Nat := cryptoBytes 66 48 m
def shake256 (n : Nat) (m : List Nat) : List Nat := cryptoBytes 67 n m

/-- KMAC256 with a customisation string, `n` bytes (R129). -/
def kmac256 (key data : List Nat) (cust : String) (n : Nat) : List Nat := cryptoBytes 24 n (pack [key, data, ascii cust])

/-- AES-256-CMAC (R136, R245). -/
def aesCmac (key m : List Nat) : List Nat := cryptoBytes 59 16 (pack [key, m])

/-- The shared secret of an ML-KEM-768 encapsulation `ct` to the key `ek` (R127). -/
def kemSecret (ek ct : List Nat) : List Nat := cryptoBytes 64 32 (pack [ek, ct])

def xorBytes (a b : List Nat) : List Nat := List.zipWith (fun x y => x ^^^ y) a b

/-- AES-256-GCM (R129): the key stream hides the text, the tag covers associated data and hidden text. -/
def gcmStream (key nonce : List Nat) (n : Nat) : List Nat := cryptoBytes 60 n (pack [key, nonce])

def gcmTag (key nonce aad ct : List Nat) : List Nat := cryptoBytes 61 16 (pack [key, nonce, aad, ct])

def gcmSeal (key nonce aad text : List Nat) : List Nat :=
  let ct := xorBytes text (gcmStream key nonce text.length)
  ct ++ gcmTag key nonce aad ct

/-- The text of `n` hidden bytes and their tag; none where the tag does not fit. -/
def gcmOpen (key nonce aad : List Nat) (n : Nat) (m : List Nat) : Option (List Nat) :=
  let ct := m.take n
  if ct.length = n ∧ m.drop n = gcmTag key nonce aad ct then some (xorBytes ct (gcmStream key nonce n)) else none

/-- Does a signature verify: its head is what key, context, message and the rest of it make (notes/assumptions/2.md)? -/
def sigValid (what : Nat) (pk ctx m sig : List Nat) : Bool :=
  decide (sig.take 32 = cryptoBytes what 32 (pack [pk, ctx, m, sig.drop 32]))

/-- A signature of `n` bytes that verifies: `tail` is what only the signer can make. -/
def signWith (what : Nat) (pk ctx m tail : List Nat) : List Nat := cryptoBytes what 32 (pack [pk, ctx, m, tail]) ++ tail

/-- Public keys of private keys (R483, R503). -/
def edPub (sk : List Nat) : List Nat := cryptoBytes 70 32 sk
def mldsaPub (xi : List Nat) : List Nat := cryptoBytes 71 1952 xi
def ed448Pub (sk : List Nat) : List Nat := cryptoBytes 72 57 sk
def kemPub (d z : List Nat) : List Nat := cryptoBytes 73 1184 (pack [d, z])

/-- Bytes of a coordinate of P-256, P-384 and P-521 (slot types 2 to 4, R484). -/
def ecLen (type : Nat) : Nat := if type = 2 then 32 else if type = 3 then 48 else 66

/-- The orders of the three curves (PRESUMED: FIPS 186-5, notes/assumptions/2.md). -/
def ecOrder (type : Nat) : Nat :=
  if type = 2 then 0xFFFFFFFF00000000FFFFFFFFFFFFFFFFBCE6FAADA7179E84F3B9CAC2FC632551
  else if type = 3 then 0xFFFFFFFFFFFFFFFFFFFFFFFFFFFFFFFFFFFFFFFFFFFFFFFFC7634D81F4372DDF581A0DB248B0A77AECEC196ACCC52973
  else 0x1FFFFFFFFFFFFFFFFFFFFFFFFFFFFFFFFFFFFFFFFFFFFFFFFFFFFFFFFFFFFFFFFFFFA51868783BF2F966B7FCC0148F709A5D03BB5C9B8899C47AEBB6FB71E91386409

/-- An uncompressed SEC1 point (R503). -/
def ecPub (type d : Nat) : List Nat := 0x04 :: cryptoBytes (73 + type) (2 * ecLen type) (be 66 d)

/-- An Ed25519 signature; an ML-DSA-65 signature under a context string, over randomness of its own. -/
def edSign (sk m : List Nat) : List Nat := signWith 62 (edPub sk) [] m (cryptoBytes 80 32 (pack [sk, m]))
def mldsaSign (xi : List Nat) (ctx : String) (m rnd : List Nat) : List Nat :=
  signWith 63 (mldsaPub xi) (ascii ctx) m (cryptoBytes 81 3277 (pack [xi, ascii ctx, m, rnd]))

/-- ECDSA over a hash, as r ‖ s; Ed448, pure (R506). -/
def ecdsaSign (type d : Nat) (hash rnd : List Nat) : List Nat := cryptoBytes (80 + type) (2 * ecLen type) (pack [be 66 d, hash, rnd])
def ed448Sign (sk m : List Nat) : List Nat := cryptoBytes 85 114 (pack [sk, m])

def ed25519Valid (pk m sig : List Nat) : Bool := sigValid 62 pk [] m sig
def mldsaValid (pk : List Nat) (ctx : String) (m sig : List Nat) : Bool := sigValid 63 pk (ascii ctx) m sig

end Sys2Proof.Machine
end

