-- ==== Sys2Proof/Machine/Keys.lean ====
section
/-!
DEFINITION. The keys of the Tack Room (R482-R485, R487): roots, slot seeds, public keys, dual signatures.
-/
namespace Sys2Proof.Machine

/-- The 256-bit UDS. -/
def deviceSecret : List Nat := padTo 32 (Config.uds.map fun b => b % 256)

/-- A key root (R482): 0 factory, 1 owner, 2 service, 3 device, as the key-origin body numbers them. -/
def State.keyRoot (s : State) (root : Nat) : List Nat :=
  let data := match root with
    | 0 => ascii "F"
    | 1 => ascii "O" ++ s.tck.seed.getD []
    | 2 => ascii "S"
    | _ => ascii "D"
  kmac256 deviceSecret data "ESW-ROOT" 32

/-- The seed S of a slot (R483). -/
def State.slotSeed (s : State) (k : Nat) : List Nat :=
  let x := s.slotOf k
  kmac256 (s.keyRoot x.2.1) (le 2 k ++ le 4 x.2.2.2 ++ [x.1]) "ESW-SLOT" 64

/-- Private keys by type (R483). -/
def edSecret (seed : List Nat) : List Nat := seed.take 32
def mldsaSeed (seed : List Nat) : List Nat := seed.drop 32
def ecScalar (type : Nat) (seed : List Nat) : Nat := beVal seed % (ecOrder type - 1) + 1
def ed448Secret (seed : List Nat) : List Nat := shake256 57 seed

/-- A slot's public key (R503); symmetric types and an empty slot have none. -/
def State.publicKey (s : State) (k : Nat) : List Nat :=
  let seed := s.slotSeed k
  match (s.slotOf k).1 with
  | 1 => edPub (edSecret seed) ++ mldsaPub (mldsaSeed seed)
  | 2 => ecPub 2 (ecScalar 2 seed)
  | 3 => ecPub 3 (ecScalar 3 seed)
  | 4 => ecPub 4 (ecScalar 4 seed)
  | 5 => ed448Pub (ed448Secret seed)
  | 7 => kemPub (seed.take 32) (seed.drop 32)
  | _ => []

/-- The dual signature of slot `k` over a hash (R487): SIG_ED and SIG_MLDSA, whose randomness is drawn. -/
def State.signDual (s : State) (k : Nat) (ctx : String) (hash : List Nat) : List Nat × State :=
  let seed := s.slotSeed k
  let r := s.draw 256
  (edSign (edSecret seed) hash ++ mldsaSign (mldsaSeed seed) ctx hash (le 32 r.1), r.2)

/-- Do both signatures verify under a public key pair (R487)? -/
def dualValid (pk : List Nat) (ctx : String) (hash sigs : List Nat) : Bool :=
  ed25519Valid (pk.take 32) hash (sigs.take 64) && mldsaValid (pk.drop 32) ctx hash (sigs.drop 64)

/-- PK_ED ‖ PK_MLDSA of a signer (R491): the owner's from the bundle, Luasyn's from OTP. -/
def State.signerKey (s : State) (id : Nat) : List Nat :=
  if id = 0x100 then s.tck.tableKey
  else if id = 0x101 then s.tck.charterKey
  else padTo 1984 ((Config.luasyn id).map fun b => b % 256)

/-- A fingerprint of an owner seed (R479). -/
def State.seedPrint (s : State) (seed : List Nat) : List Nat := kmac256 (s.keyRoot 3) seed "ESW-SEEDFP" 32

end Sys2Proof.Machine
end

