-- ==== Sys2Proof/Machine/Regions.lean ====
section
/-!
DEFINITION. The regions of NAND that grow by appending (R297, R511-R514, R527): their items, sizes and erase blocks.
-/
namespace Sys2Proof.Machine

/-- The regions of R511 that grow by appending: 1 READINGS, 2 PROFILES, 3 EVENTS, else CHANGELOG. -/
def State.region (s : State) (r : Nat) : Region :=
  if r = 1 then s.hay.readings else if r = 2 then s.hay.profiles else if r = 3 then s.hay.events else s.hay.changelog

def State.setRegion (s : State) (r : Nat) (x : Region) : State :=
  if r = 1 then (s.modHay fun h => { h with readings := x })
  else if r = 2 then (s.modHay fun h => { h with profiles := x })
  else if r = 3 then (s.modHay fun h => { h with events := x })
  else s.modHay fun h => { h with changelog := x }

/-- Append an item to a region. -/
def State.append (s : State) (r : Nat) (item : List Nat) : State :=
  s.setRegion r { s.region r with items := (s.region r).items ++ [item] }

/-- Items that fit (R511), bytes of an item. -/
def regionCap (r : Nat) : Nat := if r = 1 then 285569 else if r = 2 then 155344 else if r = 3 then 4194304 else 18600
def itemSize (r : Nat) : Nat := if r = 1 then 3760 else if r = 2 then 1728 else if r = 3 then 64 else 3608

/-- How many of the oldest items the erase block of 256 KiB that holds the oldest one takes with it (R297, R513): items stand back
to back, and one that ends in the next block is lost too. -/
def State.blockItems (s : State) (r : Nat) : Nat :=
  let p := (s.region r).base % regionCap r
  min (((p * itemSize r / 262144 + 1) * 262144 + itemSize r - 1) / itemSize r) (regionCap r) - p

/-- May the oldest erase block of a region be erased (R297, R513, R527)? -/
def State.erasable (s : State) (r : Nat) : Bool :=
  let x := s.region r
  let n := s.blockItems r
  let old := (x.items.take n).all fun b =>
    decide (leAt b (if r = 1 then 40 else 38) 6 + 86400 * s.get F.BIL_RETAIN_DAYS < s.get F.BIL_TICK)
  decide (n ≤ x.items.length) &&
    (if r = 3 then true else decide (x.base + n ≤ x.mark) && (decide (3 < r) || old))

/-- Is a region full with no block to erase (R297, R513)? -/
def State.regionFull (s : State) (r : Nat) : Bool :=
  decide (regionCap r ≤ (s.region r).items.length) && !s.erasable r

end Sys2Proof.Machine
end

