-- ==== Sys2Proof/Machine/ChangeLog.lean ====
section
/-!
DEFINITION. Change windows and the change log (R498-R500, R513, R583): who owns the window, building and storing an entry,
closing a window.
-/
namespace Sys2Proof.Machine

/-- Is a change window open that paddock `p` opened (R51, R499)? -/
def State.ownsWindow (s : State) (p : Nat) : Bool :=
  s.flag F.TCK_WIN_STATE_OPEN && decide (s.get F.TCK_WIN_STATE_OWNER = p)

/-- Is CHANGELOG full with no block free to erase (R513)? -/
def State.changelogFull (s : State) : Bool := s.regionFull 5

/-- The last entry made: the newest on its way to CHANGELOG, else the newest in it (R500). -/
def State.lastEntry (s : State) : Option (List Nat) :=
  match (s.hay.running.filterMap fun x => match x.job with
    | .change _ bytes => some bytes
    | _ => none).getLast? with
  | some b => some b
  | none => s.hay.changelog.items.getLast?

/-- The 3,608 bytes of a change-log entry (R500); the two signatures are made with slot 2. -/
def State.changeBytes (s : State) (kind p : Nat) (body : List Nat) : List Nat × State :=
  let prev := match s.lastEntry with
    | some b => sha512 b
    | none => List.replicate 64 0
  let head := [0x45, 0x53, 0x57, 0x43, 0x01, kind] ++ le 2 p ++ le 8 (s.get F.TCK_LOG_SEQ) ++ le 8 (s.wall) ++
    le 6 (if s.bil.genesis then s.get F.BIL_TICK else 0) ++ [0, 0] ++ le 8 s.chrono ++ prev ++ padTo 128 body
  let r := s.signDual 2 "ESW-LOG" (sha512 head)
  (head ++ r.1 ++ [0, 0, 0], r.2)

/-- CHANGE_REFUSED (0x0D04) and LOG_REFUSED: a change is discarded (R500). -/
def State.changeRefused (s : State) (what : Nat) : State :=
  (s.setB F.TCK_STATUS_LOG_REFUSED true).raise 0x0D04 2 0xFFFF (le 4 what)

/-- CHANGELOG_FULL (0x0E04): FAULT when full, WARNING at 90 % (R513). -/
def State.raiseFull (s : State) : State :=
  let n := s.hay.changelog.items.length
  if s.changelogFull then s.raise 0x0E04 3 0xFFFF [100]
  else if 16740 ≤ n then s.raise 0x0E04 2 0xFFFF [n * 100 / 18600] else s

/-- Store a change-log entry (R500): 0 accepted (its action follows when durable), 0x20 HOLDUP_LOW refused, 0x21
STORE_FAILED with the region or the staging area full (R513, R514). `what` is the offset or opcode of CHANGE_REFUSED. -/
def State.logChange (s : State) (kind p what : Nat) (body : List Nat) (act : ChangeAct) : Nat × State :=
  if s.changelogFull then (0x21, (s.raiseFull).changeRefused what)
  else if 4194304 < s.stagingUsed + 3608 then (0x21, s.changeRefused what)
  else
    let e := s.changeBytes kind p body
    let r := e.2.tryStore 2 1 (.change ⟨kind, p, body, act⟩ e.1)
    if r.1 then (0, r.2.inc F.TCK_LOG_SEQ) else (0x20, r.2.changeRefused what)

/-- A new nonce: after every attempt and at every close (R498). -/
def State.newNonce (s : State) : State :=
  let r := s.draw 64
  r.2.set F.TCK_WIN_NONCE r.1

/-- Try the close entry (KIND 2); refused, it waits for the next allocation boundary (R499). -/
def State.closeEntry (s : State) (p : Nat) : State :=
  let e := s.changeBytes 2 p []
  let r := e.2.tryStore 2 1 (.change ⟨2, p, [], .nothing⟩ e.1)
  if r.1 then r.2.inc F.TCK_LOG_SEQ
  else (r.2.modHay fun h => { h with closeWait := r.2.hay.closeWait ++ [p] })

/-- The window closes at once (R499); `how` is the CHANGE_WINDOW byte: 1 closed, 2 expired. -/
def State.closeWindow (s : State) (how : Nat) : State :=
  if s.flag F.TCK_WIN_STATE_OPEN then
    let p := s.get F.TCK_WIN_STATE_OWNER
    let s := ((s.setB F.TCK_WIN_STATE_OPEN false).set F.TCK_WIN_STATE_LEFT 0).setB F.TCK_STATUS_WINDOW_OPEN false
    ((s.newNonce).raise 0x0D03 1 0xFFFF [how, p]).closeEntry p
  else s

end Sys2Proof.Machine
end

