-- ==== Sys2Proof/Machine/MeterOps.lean ====
section
/-!
DEFINITION. Operations of the Weighbridge and Billing: the energy of a sample (R229-R233), routing into registers (R263), the
calendar (R277-R279), prepay accounts (R298-R301), capturing a reading (R292-R295).
-/
namespace Sys2Proof.Machine

def State.met (s : State) (c : Nat) : Met := s.wbg.met.getD c Met.init

def State.modMet (s : State) (c : Nat) (f : Met → Met) : State :=
  s.modWbg fun w => { w with met := modAt s.wbg.met c f }



/-! ### Channels (R227, R242) -/

/-- Is the stall's calibration bound to its committed fingerprint (R242)? -/
def State.calBound (s : State) (n : Nat) : Bool :=
  (s.rec? n).committed && !(s.met n).calFp.isEmpty && decide ((s.met n).calFp = (s.rec? n).fp)

/-- The channel's state as its link, calibration and AFE make it (R227). -/
def State.chanState (s : State) (c : Nat) : Nat :=
  if 48 ≤ c then (if (s.met c).fault then 3 else 1)
  else if s.hasStall c = false then 0
  else if s.linkState c = Link.run ∨ s.linkState c = Link.lost then (if s.calBound c then 1 else 2)
  else 0

/-- Show the channel's state; CHANNEL_STATE (0x0503) when it changed. -/
def State.showChan (s : State) (c : Nat) : State :=
  let new := s.chanState c
  let old := s.get (F.WBG_Mc_STATE_STATE c)
  if new = old then s
  else (s.set (F.WBG_Mc_STATE_STATE c) new).raise 0x0503 (if 2 ≤ new then 2 else 1) c [new, old]

/-- The channel's I_START, 0.1 A (R231). -/
def State.iStart (s : State) (c : Nat) : Nat :=
  if c < 48 then s.get (F.WBG_Mc_START_I_START c) else s.get (F.WBG_Mf_START_I_START (c - 48))

def Met.path (m : Met) (k : Nat) : Cal := m.cal.getD k Cal.init

/-! ### The energy of a sample (R229, R230), in 2^-32 mWh -/

/-- A code with offset and gain applied, in 2^-53 of the full scale. -/
def scaled (code ofs : Int) (gain : Nat) : Int := (code - ofs) * gain

/-- What a stall sample gives: its energy, whether it contributes (R231), v and i in 2^-53 of the full scales. -/
structure SampleOut where
  e : Int
  on : Bool
  v : Int
  i : Int

/-- A stall sample (R229, R230): six bytes and CONTACTOR_CLOSED. -/
def stallSample (cal : Cal) (vfs ifs start : Nat) (b : List Nat) : SampleOut :=
  let v := scaled (toSigned 24 (leAt b 0 3)) cal.vOfs cal.vGain
  let i := scaled (toSigned 24 (leAt b 3 3)) cal.iOfs cal.iGain
  { e := (v * i * vfs * ifs).tdiv (2 ^ 74 * 36000000), v := v, i := i
    on := decide (byteAt b 6 = 1) && decide (start * 2 ^ 53 ≤ i.natAbs * ifs) }

/-- Which sensor class a feeder path has (R232): 0 NONE, 3 ROGOWSKI. -/
def Afe.sensor (a : Afe) (k : Nat) : Nat := a.sens / 4 ^ k % 4

/-- Is the feeder wired as 3-wire Aron (R232)? -/
def Afe.aron (a : Afe) : Bool := decide (bitsOf a.sens 29 28 = 1)

/-- Is path `k` used: its sensor is fitted, and it is not path B of the Aron wiring (R232)? -/
def Afe.used (a : Afe) (k : Nat) : Bool := decide (a.sensor k ≠ 0) && !(decide (k = 1) && a.aron)

/-- The voltage or current of path `k` in a sample, in 2^-53 of the full scale. -/
def Met.volt (m : Met) (k : Nat) (x : List (Int × Int)) : Int := scaled (x.getD k (0, 0)).1 (m.path k).vOfs (m.path k).vGain

def Met.amp (m : Met) (k : Nat) (x : List (Int × Int)) : Int := scaled (x.getD k (0, 0)).2 (m.path k).iOfs (m.path k).iGain

/-- Sum of the squares of a value over the last complete line cycle. -/
def Met.squares (m : Met) (g : List (Int × Int) → Int) : Nat := (m.afe.last.map fun x => (g x).natAbs ^ 2).foldl (· + ·) 0

/-- Does path `k` take part in the product: it is used, and its RMS current over the last complete line cycle is at or above
I_START (R231), `start` in 0.1 A? -/
def Met.pathOn (m : Met) (start k : Nat) : Bool :=
  m.afe.used k && !m.afe.last.isEmpty &&
    decide (m.afe.last.length * start ^ 2 * 2 ^ 106 ≤ m.squares (m.amp k) * m.afe.is ^ 2)

/-- A feeder sample (R230): the products of the paths that take part, summed before the sign is taken. -/
def Met.feederSample (m : Met) (start : Nat) (x : List (Int × Int)) : Int :=
  let sum : Int := ((List.range 3).map fun k => if m.pathOn start k then m.volt k x * m.amp k x else 0).foldl (· + ·) 0
  (sum * m.afe.vs * m.afe.is).tdiv (2 ^ 74 * 9000000)

/-- A path's codes as the AFE hands them on (R232, R234): while the path takes the reference, what it read at the same place of
the last line cycle; else the current integrated where the sensor is a Rogowski coil, then trimmed. -/
def Met.afePath (m : Met) (held : List Nat) (x : List (Int × Int)) (k : Nat) : (Int × Int) × Int × Int :=
  let a := m.afe
  let v := x.getD k (0, 0)
  let y := a.integ.getD k 0
  let before := a.lastI.getD k 0
  if held.contains k then ((a.last.getD (min a.cyc.length (a.last.length - 1)) []).getD k (0, 0), y, before)
  else
    let y' := if a.sensor k = 3 then Config.integrated (bitsOf a.sens 23 16) (bitsOf a.sens 8 8) y v.2 else y
    let i := if a.sensor k = 3 then y' else v.2
    ((v.1, if (m.path k).phase = 0 then i else Config.trimmed (m.path k).phase before i), y', i)

/-- A sample passes the AFE: a line cycle is complete where the voltage of path A turns positive, at the latest after 600
samples. -/
def Met.afeStep (m : Met) (held : List Nat) (x : List (Int × Int)) : List (Int × Int) × Met :=
  let l := (List.range 4).map (m.afePath held x)
  let y := l.map Prod.fst
  let a := m.afe
  let turn := match a.cyc.getLast? with
    | some z => decide (m.volt 0 z < 0) && decide (0 ≤ m.volt 0 y)
    | none => false
  let a := if turn || decide (600 ≤ a.cyc.length) then { a with last := a.cyc, cyc := [y] } else { a with cyc := a.cyc ++ [y] }
  (y, { m with afe := { a with integ := l.map fun z => z.2.1, lastI := l.map fun z => z.2.2 } })

/-- The samples of a millisecond in order: what each gives, and the channel after them. -/
def Met.afeRun (m : Met) (start : Nat) (held : List Nat) : List (List (Int × Int)) → List Int × Met
  | [] => ([], m)
  | x :: t =>
    let r := m.afeStep held x
    let q := r.2.afeRun start held t
    (r.2.feederSample start r.1 :: q.1, q.2)

/-- The integer part of a square root below 2^32. -/
def isqrt (n : Nat) : Nat := (List.range 32).foldr (fun k (r : Nat) => if (r + 2 ^ k) ^ 2 ≤ n then r + 2 ^ k else r) 0

/-- The RMS of a value over the last line cycle at a full scale of `full`. -/
def Met.rms (m : Met) (g : List (Int × Int) → Int) (full : Nat) : Nat :=
  isqrt (Config.rnd ((m.squares g * full ^ 2 : Nat) : Int) (max 1 m.afe.last.length * 2 ^ 106)).toNat

/-! ### Registers (R230, R263) -/

/-- The FWD or REV accumulator with its residue, in 2^-32 mWh. -/
def State.acc (s : State) (c : Nat) (rev : Bool) : Nat :=
  if rev then s.get (F.WBG_Mc_REV c) * 2 ^ 32 + s.get (F.WBG_Mc_REV_FRAC c)
  else s.get (F.WBG_Mc_FWD c) * 2 ^ 32 + s.get (F.WBG_Mc_FWD_FRAC c)

def State.setAcc (s : State) (c : Nat) (rev : Bool) (v : Nat) : State :=
  if rev then (s.set (F.WBG_Mc_REV c) (v / 2 ^ 32)).set (F.WBG_Mc_REV_FRAC c) (v % 2 ^ 32)
  else (s.set (F.WBG_Mc_FWD c) (v / 2 ^ 32)).set (F.WBG_Mc_FWD_FRAC c) (v % 2 ^ 32)

/-- A tariff's prices (R276): import and export, zero before the first table. -/
def priceAt (tab : List Nat) (k : Nat) : Nat × Nat := (leAt tab (16 + 16 * k + 8) 4, leAt tab (16 + 16 * k + 12) 4)

/-- The table whose prices hold for the samples before Chronobase `hi` (R280, R299). -/
def State.priceTab (s : State) (hi : Nat) : List Nat :=
  match s.bil.oldPrices with
  | some x => if hi ≤ x.1 then x.2 else s.bil.tariffTab
  | none => s.bil.tariffTab

/-- The cost of a segment (R299), in 2^-32 of 0.0001 unit. -/
def costOf (tab : List Nat) (k f r : Nat) : Int :=
  ((f : Int) * (priceAt tab k).1 - (r : Int) * (priceAt tab k).2).tdiv 1000000

/-- Add the import and export sums of a segment that ends by Chronobase `hi`, in tariff `k`, to the accumulator, the tariff
register, the interval and the session's debit (R263, R283, R299). -/
def State.addEnergy (s : State) (c k hi f r : Nat) : State :=
  let s := (s.setAcc c false (s.acc c false + f)).setAcc c true (s.acc c true + r)
  let s := s.modMet c fun m => { m with
    tf := modAt m.tf k (· + f), tr := modAt m.tr k (· + r), ivF := m.ivF + f, ivR := m.ivR + r }
  match (s.met c).sess with
  | some x =>
    let d := costOf (s.priceTab hi) k f r
    s.modBil fun b => { b with debits := b.debits.map fun y => if y.id = x.id then { y with amt := y.amt + d } else y }
  | none => s

/-! ### Civil time and the calendar (R277-R279) -/

/-- Year, month and day of a day number since 1970-01-01. -/
def civil (days : Nat) : Nat × Nat × Nat :=
  let z := days + 719468
  let era := z / 146097
  let doe := z % 146097
  let yoe := (doe - doe / 1460 + doe / 36524 - doe / 146096) / 365
  let doy := doe - (365 * yoe + yoe / 4 - yoe / 100)
  let mp := (5 * doy + 2) / 153
  let m := if mp < 10 then mp + 3 else mp - 9
  (yoe + era * 400 + (if m ≤ 2 then 1 else 0), m, doy - (153 * mp + 2) / 5 + 1)

def calOffsets (t : List Nat) : List (Nat × Int) :=
  (List.range (byteAt t 1)).map fun i => (leAt t (32 + 16 * i) 8, toSigned 16 (leAt t (32 + 16 * i + 8) 2))

/-- Byte offset of season `i`, day type `i`, special day `i`. -/
def calSeason (t : List Nat) (i : Nat) : Nat := 32 + 16 * byteAt t 1 + 12 * i
def calDay (t : List Nat) (i : Nat) : Nat := calSeason t (byteAt t 2) + 48 * i
def calSpecial (t : List Nat) (i : Nat) : Nat := calDay t (byteAt t 3) + 8 * i

/-- Local time of a wall time, in 2^-16 s: UTC plus the last offset at or before the instant (R278). -/
def calLocal (t : List Nat) (wall : Nat) : Nat :=
  match ((calOffsets t).filter fun o => o.1 ≤ wall).getLast? with
  | some o => ((wall : Int) + o.2 * 60 * 65536).toNat
  | none => wall

/-- The latest local time reached by an instant: a backward offset change repeats local minutes, and a switch executes at the
first (R279). -/
def calReached (t : List Nat) (wall : Nat) : Nat :=
  let l := (calOffsets t).filter fun o => o.1 ≤ wall
  let ends := (l.zip (l.drop 1)).map fun x => ((x.2.1 : Int) - 1 + x.1.2 * 60 * 65536).toNat
  ends.foldl max (calLocal t wall)

/-- The day type of a local date (R278): a special day with the exact year, then one with year 0, then the week of the season. -/
def calDayType (t : List Nat) (days : Nat) : Nat :=
  let d := civil days
  let sp := fun (y : Nat) => (List.range (byteAt t 4)).find? fun i =>
    let o := calSpecial t i
    leAt t o 2 = y ∧ byteAt t (o + 2) = d.2.1 ∧ byteAt t (o + 3) = d.2.2
  match sp d.1 with
  | some i => byteAt t (calSpecial t i + 4)
  | none =>
    match sp 0 with
    | some i => byteAt t (calSpecial t i + 4)
    | none =>
      let ss := List.range (byteAt t 2)
      let before := ss.filter fun i =>
        let o := calSeason t i
        byteAt t o * 32 + byteAt t (o + 1) ≤ d.2.1 * 32 + d.2.2
      let i := match before.getLast? with
        | some i => i
        | none => byteAt t 2 - 1
      byteAt t (calSeason t i + 2 + (days + 3) % 7)

/-- The first instant at which local time reaches `l` (R279): where a forward offset change skips it, the change. -/
def calInstant (t : List Nat) (l : Nat) : Nat :=
  let o := calOffsets t
  let nexts := (o.drop 1).map fun x => some x.1
  let cand := (o.zip (nexts ++ [none])).filterMap fun x =>
    let c := max x.1.1 ((l : Int) - x.1.2 * 60 * 65536).toNat
    match x.2 with
    | some u => if c < u then some c else none
    | none => some c
  cand.headD 0

/-- The last switch at or before a wall time and its tariff (R278, R279); none before the first calendar. -/
def calSwitch (t : List Nat) (wall : Nat) : Option (Nat × Nat) :=
  if t.isEmpty then none
  else
    let l := calReached t wall
    let o := calDay t (calDayType t (l / 65536 / 86400))
    let minute := l / 65536 % 86400 / 60
    let past := (List.range (byteAt t o)).filter fun j => leAt t (o + 4 + 3 * j) 2 ≤ minute
    match past.getLast? with
    | some j => some (calInstant t ((l / 65536 / 86400 * 86400 + leAt t (o + 4 + 3 * j) 2 * 60) * 65536), byteAt t (o + 6 + 3 * j) % 8)
    | none => none

/-- Is the wall time inside a friendly window of its local date (R301)? -/
def calFriendly (t : List Nat) (wall : Nat) : Bool :=
  let l := calLocal t wall
  let o := calDay t (calDayType t (l / 65536 / 86400))
  let minute := l / 65536 % 86400 / 60
  !t.isEmpty && (List.range (byteAt t (o + 1))).any fun w =>
    decide (leAt t (o + 40 + 4 * w) 2 ≤ minute) && decide (minute < leAt t (o + 42 + 4 * w) 2)

/-- The first interval boundary strictly after a wall time (R29): a multiple of the length from 00:00 UTC. -/
def nextBoundary (minutes wall : Nat) : Nat :=
  let u := minutes * 60 * 65536
  (wall / u + 1) * u

/-! ### The order of the Hayloft's work (R333, R529) -/

/-- Allow-list reads are due, which the Hayloft serves ahead of everything but stores (R333). -/
def State.listReads (s : State) : Bool := !s.dro.looks.isEmpty

/-- Host access waits for allow-list reads, migration and merges (R529). -/
def State.hostWaits (s : State) : Bool :=
  s.listReads || s.hay.running.any fun x => match x.job with
    | .migrate _ _ => true
    | .leaf => true
    | _ => false

/-! ### The signature engines (R507) -/

/-- Do durable readings wait to be signed, as READINGS can take them and slot 1 can sign? -/
def State.readingsWait (s : State) : Bool := !s.bil.journal.isEmpty && !s.regionFull 1 && !s.tck.signBad

/-- Link keyings whose signatures wait to be verified. -/
def State.keyingsWait (s : State) : Nat := (s.slk.filter fun l => l.response.isSome).length

/-- SIGN and ATTEST descriptors that wait. -/
def State.signsWait (s : State) : Nat :=
  ((List.range 4).map fun p => (((s.pd p).table ++ (s.pd p).orphans).filter fun d =>
    d.phase = .queued ∧ (d.opcode = 0x0D05 ∨ d.opcode = 0x0D07)).length).foldl (· + ·) 0

/-- Are both signature engines due to work that comes before class `c`: 1 TLS and link keying, 2 SIGN and ATTEST, 3 image
verification (R507)? A reading's two signatures take both engines; every other operation one. -/
def State.sigBusy (s : State) (c : Nat) : Bool :=
  s.readingsWait || decide (2 ≤ (if 1 < c then s.keyingsWait else 0) + (if 2 < c then s.signsWait else 0))

/-! ### Hold causes (R290, R478) -/

/-- The causes for which Billing holds session opens (R290, R478), as SESSIONS_HELD numbers them. -/
def State.heldCauses (s : State) : Nat :=
  b2n (!s.flag F.BIL_TIME_STATUS_VALID) + 2 * b2n (s.regionFull 1 || s.regionFull 2) +
    4 * b2n (decide (1024 ≤ s.bil.journal.length) || decide (s.get F.TCK_LIFECYCLE_STATE ≠ 3)) + 8 * b2n s.bil.gapWait

/-- Bring SESSIONS_HELD and STORE_FULL up to date, with their events when newly set. -/
def State.refreshHeld (s : State) : State :=
  let h := s.heldCauses
  let full := s.regionFull 1 || s.regionFull 2 || decide (1024 ≤ s.bil.journal.length)
  let s := if full && !s.flag F.BIL_STATUS_STORE_FULL then
      s.raise 0x0609 3 0xFFFF [if s.regionFull 1 then 0 else if s.regionFull 2 then 1 else 2] else s
  let s := (s.setB F.BIL_STATUS_STORE_FULL full).setB F.DRO_STATUS_HELD
    (decide (h ≠ 0) || !s.bil.finalSeen || decide (s.get F.PWR_STATE_SUPPLY ≠ 0) || s.lan.noStandby || s.pwr.entry.isSome)
  let s := if h ≠ 0 ∧ s.flag F.BIL_STATUS_SESSIONS_HELD = false then s.raise 0x060C 2 0xFFFF [h] else s
  s.setB F.BIL_STATUS_SESSIONS_HELD (decide (h ≠ 0))

/-! ### Prepay accounts (R298-R301) -/

/-- An account as shipped (R298): zero, which is below LOW_WARN wherever that is above zero. -/
def State.acctShipped (s : State) (a : Nat) : Acct := ⟨a, 0, 0, decide (0 < s.get F.BIL_PREPAY_CFG_LOW_WARN), false, 0⟩

def State.acct (s : State) (a : Nat) : Acct := (s.bil.accounts.find? fun x => x.n = a).getD (s.acctShipped a)

/-- Store an account; one in the state it is shipped in is not listed. -/
def State.setAcct (s : State) (x : Acct) : State :=
  let rest := s.bil.accounts.filter fun y => y.n ≠ x.n
  s.modBil fun b => { b with accounts := if x = s.acctShipped x.n then rest else insertBy Acct.n x rest }

/-- Debits of an account not yet in its balance, in 2^-32 of 0.0001 unit. -/
def State.pendingDebit (s : State) (a : Nat) : Int :=
  (s.bil.debits.map fun d => if d.account = some a then d.amt - d.moved * 2 ^ 32 else 0).foldl (· + ·) 0

/-- The live balance (R299), in 2^-32 of 0.0001 unit. -/
def State.liveFine (s : State) (a : Nat) : Int := (s.acct a).bal * 2 ^ 32 - s.pendingDebit a

/-- The live balance as records and events show it. -/
def State.live (s : State) (a : Nat) : Int := Config.rnd (s.liveFine a) (2 ^ 32)

/-- The stall channels whose open session is on an account. -/
def State.sessionsOn (s : State) (a : Nat) : List Nat :=
  (List.range 48).filter fun c => match (s.met c).sess with
    | some x => decide (x.bind.account = some a)
    | none => false

/-! ### Readings (R292-R295) -/

/-- Is any tamper input open (R303)? -/
def State.tamperOpen (s : State) : Bool := decide (s.get F.BIL_TAMPER_STATE_OPEN ≠ 0)

/-- What holds now, as an instant `at_` captures it. -/
def State.edgeNow (s : State) (at_ : Nat) : Moment :=
  { at_ := at_, wall := s.wallAt at_, tick := s.get F.BIL_TICK, clk := s.bil.clk
    flags := b2n (!s.flag F.BIL_TIME_STATUS_VALID) + 2 * b2n s.bil.frozen + 8 * b2n s.tamperOpen
    tamper := s.get F.BIL_TAMPER_STATE_OPEN, states := (List.range 52).map s.chanState
    subs := (List.range 52).map fun c => s.flag (F.WBG_Mc_STATE_SUBSTITUTE c) }

/-- What held at an allocation boundary, where it was noted; else what holds now. -/
def State.edgeAt (s : State) (at_ : Nat) : Moment :=
  match s.wbg.edge with
  | some x => if x.at_ = at_ then x else s.edgeNow at_
  | none => s.edgeNow at_

/-- FLAGS of a reading captured at `x` (R292), without those its kind adds. -/
def Moment.flagsOf (x : Moment) (ch : Option Nat) : Nat :=
  match ch with
  | some c => x.flags + 4 * b2n (x.subs.getD c false) + 64 * b2n (decide (x.states.getD c 0 = 2))
  | none => x.flags

def optHandle (b : Option Bind) : Nat :=
  match b with
  | some x => x.handle
  | none => 0xFFFFFFFF

def optAccount (b : Option Bind) : Nat :=
  match b with
  | some x => x.account.getD 0xFFFFFFFF
  | none => 0xFFFFFFFF

/-- An energy body (R292): registers as they stand at the sample before the capture, the tariff from there on (R281), the channel's
state `st`. -/
def State.energyBody (s : State) (c st : Nat) (b : Option Bind) (debit : Int) (unmet : Nat) : List Nat :=
  let m := s.met c
  let fwd := s.get (F.WBG_Mc_FWD c)
  let rev := s.get (F.WBG_Mc_REV c)
  le 8 fwd ++ le 4 (s.get (F.WBG_Mc_FWD_FRAC c)) ++ le 8 rev ++ le 4 (s.get (F.WBG_Mc_REV_FRAC c)) ++
    le 8 (fwd / 1000 % 10 ^ 10) ++ le 8 (rev / 1000 % 10 ^ 10) ++ le 2 (fwd / 10 ^ 13 % 65536) ++ le 2 (rev / 10 ^ 13 % 65536) ++
    le 4 (s.get (F.WBG_Mc_CAL_GEN c)) ++ le 4 (s.get (F.WBG_Mc_UNMET_MS c)) ++ [s.bil.route, st, 0, 0] ++
    (m.tf.map fun x => le 8 (x / 2 ^ 32)).flatten ++ (m.tr.map fun x => le 8 (x / 2 ^ 32)).flatten ++
    le 4 (optHandle b) ++ le 4 unmet ++ le 4 (s.get F.BIL_TARIFF_EPOCH) ++ le 4 (s.get F.BIL_CALENDAR_EPOCH) ++
    padTo 16 (match b with
      | some x => x.contract
      | none => []) ++
    le 4 (optAccount b) ++ le 8 (ofSigned 64 debit) ++ le 4 (s.get (F.BIL_Mc_DEMAND_MAX c)) ++ le 8 m.maxStart

/-- Is the kind's body an energy body? -/
def energyKind (k : Nat) : Bool := decide (2 ≤ k) && decide (k ≤ 5)

/-- Take the values a reading shows at a capture instant (R295): wall time, legal tick, Chronobase, flags, energy body. -/
def State.takeValues (s : State) (r : Reading) (x : Moment) : Reading :=
  { r with
    wall := x.wall, tick := x.tick, chrono := x.at_
    flags := x.flagsOf r.ch + r.flags / 16 % 4 * 16 + r.flags / 128 * 128
    body := if energyKind r.kind then
        match r.ch with
        | some c => s.energyBody c (x.states.getD c 0) r.bind r.debit r.sessUnmet
        | none => r.body
      else r.body }

/-- The values of a reading whose instant is now. -/
def State.takeNow (s : State) (r : Reading) : Reading := s.takeValues r (s.edgeNow s.chrono)

/-- Was a reading captured before another? -/
def Reading.before (r y : Reading) : Bool := decide (r.boot < y.boot) || (decide (r.boot = y.boot) && decide (r.chrono < y.chrono))

/-- Insert a reading in the order of the capture instants (R294), after those of the same instant. -/
def putReading (r : Reading) : List Reading → List Reading
  | [] => [r]
  | y :: t => if r.before y then r :: y :: t else y :: putReading r t

/-- Give the readings waiting their numbers, the last of which precede BIL_REC_SEQ (R294). -/
def State.numbered (s : State) (l : List Reading) : List Reading :=
  l.zipIdx.map fun x => { x.1 with seq := s.get F.BIL_REC_SEQ - l.length + x.2 }

/-- Capture a reading of boot `boot` (R294, R295): RECORD_SEQ follows the order of the instants. Nothing is written before GENESIS
(R478). -/
def State.captureIn (s : State) (boot : Nat) (r : Reading) : State :=
  if s.bil.genesis ∨ r.kind = 1 then
    let s := s.inc F.BIL_REC_SEQ
    s.modBil fun b => { b with waiting := s.numbered (putReading { r with boot := boot } b.waiting) }
  else s

def State.capture (s : State) (r : Reading) : State := s.captureIn (s.get F.GLB_BOOT_COUNT) r

/-- Do the values of a reading lie at or before an allocation boundary, so that the store of that boundary carries it (R295)? -/
def State.dueReading (s : State) (at_ : Nat) (r : Reading) : Bool :=
  decide (r.boot ≠ s.get F.GLB_BOOT_COUNT) || decide (r.chrono ≤ at_)

/-- A reading of a kind at an instant, its flags, session fields and what it completes still plain. -/
def Reading.plain (kind : Nat) (ch : Option Nat) (body : List Nat) : Reading :=
  { kind := kind, seq := 0, flags := 0, ch := ch, wall := 0, tick := 0, chrono := 0, boot := 0, body := body, bind := none,
    debit := 0, sessUnmet := 0, after_ := ⟨none, none⟩, again := false }

/-- A PREPAY body (R292). -/
def prepayBody (a op : Nat) (amount after limit ref handle : Nat) : List Nat :=
  le 4 a ++ [op, 0, 0, 0] ++ le 8 amount ++ le 8 after ++ le 8 limit ++ le 8 ref ++ le 4 handle

/-- The live balance of an account against LOW_WARN and -EMERG_LIMIT (R300, R301): CREDIT_LOW once per crossing; exhausted
outside a friendly window, CREDIT_EXHAUSTED and a PREPAY record for each open session. -/
def State.checkAcct (s : State) (a : Nat) : State :=
  let x := s.acct a
  let fine := s.liveFine a
  let low := decide (fine < (s.get F.BIL_PREPAY_CFG_LOW_WARN : Int) * 2 ^ 32)
  let out := decide (fine ≤ -(x.lim : Int) * 2 ^ 32)
  let exh := out && (x.exh || !calFriendly s.bil.calTab s.wall)
  let on := s.sessionsOn a
  let s := s.setAcct { x with low := low, exh := exh && !on.isEmpty }
  let s := if low && !x.low then s.raise 0x0606 2 0xFFFF (le 4 a ++ le 8 (ofSigned 64 (s.live a))) else s
  if exh && !x.exh then
    forAll on (fun c s =>
      let s := s.raise 0x0607 2 c (le 4 a ++ le 8 (ofSigned 64 (s.live a)))
      s.capture (s.takeNow (Reading.plain 0x0A none (prepayBody a 3 0 (ofSigned 64 (s.live a)) x.lim 0
        (optHandle ((s.met c).sess.map Sess.bind)))))) s
  else s

/-- Every account with a debit (R300). -/
def State.checkAccts (s : State) : State :=
  forAll ((s.bil.debits.filterMap Debit.account).eraseDups) (fun a s => s.checkAcct a) s

end Sys2Proof.Machine
end

