-- ==== Sys2Proof/Machine/MeterCommit.lean ====
section
/-!
DEFINITION. Split points (R237, R238) and what Billing does at them (R281-R287): the block of an interval, the seal of a day,
opening and closing a session; the commit of one millisecond (R22, R227-R238).
-/
namespace Sys2Proof.Machine

/-! ### Split points -/

/-- Insert a split point: boundary kinds that share an instant form one point. -/
def splitIns (x : Split) : List Split → List Split
  | [] => [x]
  | y :: t =>
    if y.at_ = x.at_ ∧ y.ch = x.ch then { y with steps := y.steps ++ x.steps, deferred := y.deferred || x.deferred } :: t
    else if x.at_ < y.at_ then x :: y :: t
    else y :: splitIns x t

/-- Is there a place for a split point at `at_` (R238): one of its instant stands already, or its millisecond holds fewer than four
site-wide points, or two of its stall? -/
def State.splitFits (s : State) (at_ : Nat) (ch : Option Nat) : Bool :=
  (s.wbg.splits.any fun x => decide (x.at_ = at_) && decide (x.ch = ch)) ||
    decide ((s.wbg.splits.filter fun x => x.at_ / 250000 = at_ / 250000 ∧ x.ch = ch).length < (if ch.isSome then 2 else 4))

/-- The start of the first millisecond from `ms` on that has a place; `n` milliseconds are looked at. -/
def State.splitPlace (s : State) (ch : Option Nat) : Nat → Nat → Nat
  | 0, ms => ms * 250000
  | n + 1, ms => if s.splitFits (ms * 250000) ch then ms * 250000 else s.splitPlace ch n (ms + 1)

/-- What a step captures moves with its split point. -/
def Moment.moved (x : Moment) (at_ wall : Nat) : Moment := { x with at_ := at_, wall := wall }

def Step.moved (at_ wall : Nat) : Step → Step
  | .interval head was x => .interval head was x
  | .tariff k last => .tariff k last
  | .closeSess c x => .closeSess c (x.moved at_ wall)
  | .openSess c x => .openSess c (x.moved at_ wall)
  | .seal m was x => .seal m was (x.moved at_ wall)

/-- Hand a split point to the Weighbridge (R238): beyond four site-wide points, or two of a stall, in its millisecond it
moves to the start of the next with SPLIT_DEFERRED (0x0508). -/
def State.addSplit (s : State) (at_ : Nat) (ch : Option Nat) (steps : List Step) : State :=
  if s.splitFits at_ ch then s.modWbg fun w => { w with splits := splitIns ⟨at_, ch, steps, false⟩ w.splits }
  else
    let to_ := s.splitPlace ch s.wbg.splits.length (at_ / 250000 + 1)
    let steps := steps.map (Step.moved to_ (s.wallAt to_))
    let s := (s.setB F.WBG_STATUS_SPLIT_DEFERRED true).raise 0x0508 2 (ch.getD 0xFFFF) (le 8 at_)
    let s := forAll (match ch with
        | some c => [c]
        | none => List.range 52) (fun c s => s.modMet c fun m => { m with ivFlags := setBitOf m.ivFlags 9 true }) s
    s.modWbg fun w => { w with splits := splitIns ⟨to_, ch, steps, true⟩ w.splits }

/-! ### What happens at a split point (R281) -/

/-- The entry of a channel in a profile block (R285, R286) whose header is `head` and which closes at `x`, and the channel's next
interval. -/
def State.blockEntry (s : State) (c : Nat) (head : List Nat) (x : Moment) : List Nat × State :=
  let m := s.met c
  let dur := leAt head 44 4
  let flags := leAt head 6 2
  let f : Nat := m.ivF / 2 ^ 32
  let r : Nat := m.ivR / 2 ^ 32
  let q := if dur = 0 then s.fresh 32 else (ofSigned 32 ((((f : Int) - (r : Int)) * 36).tdiv dur), s)
  let s := q.2.set (F.BIL_Mc_DEMAND c) q.1
  let clean := !(bitOf flags 0 || bitOf flags 2 || bitOf flags 3 || bitOf flags 4)
  let top := clean && decide (s.getS (F.BIL_Mc_DEMAND_MAX c) < toSigned 32 q.1)
  let s := if top then s.set (F.BIL_Mc_DEMAND_MAX c) q.1 else s
  let s := s.modMet c fun x => { x with
    ivF := x.ivF % 2 ^ 32, ivR := x.ivR % 2 ^ 32, ivUnmet := 0, ivFlags := 0
    maxStart := if top then leAt head 16 8 else x.maxStart }
  let cf := m.ivFlags / 512 * 512 + 256 * b2n (decide (m.ivUnmet ≠ 0)) +
    (if bitOf m.ivFlags 11 then 0 else 2048 * b2n (x.subs.getD c false))
  (le 8 f ++ le 8 r ++ le 4 q.1 ++ le 4 m.ivUnmet ++ le 2 cf ++ [x.states.getD c 0] ++ List.replicate 5 0, s)

/-- Queue the block of an interval that closes at `x` (R285). -/
def State.queueBlock (s : State) (head : List Nat) (x : Moment) : State :=
  let r := (List.range 52).foldl (fun (a : List Nat × State) c =>
    let e := a.2.blockEntry c head x
    (a.1 ++ e.1, e.2)) (head, s)
  r.2.modBil fun b => { b with blocks := b.blocks ++ [r.1], unsealed := b.unsealed ++ [r.1] }

/-- DAY_SEAL and DAY_SEALED (0x060A) (R287). -/
def State.sealDay (s : State) (midnight : Nat) (x : Moment) : State :=
  let n := s.bil.unsealed.length
  let body := le 8 midnight ++ le 8 s.bil.sealFrom ++ le 8 (s.bil.sealFrom + n - 1) ++ sha512 s.bil.unsealed.flatten
  let seq := s.get F.BIL_REC_SEQ
  let s1 := s.capture (s.takeValues (Reading.plain 0x07 none body) x)
  let s1 := if s.bil.genesis then s1.raise 0x060A 0 0xFFFF (le 8 seq ++ le 8 midnight) else s1
  s1.modBil fun b => { b with unsealed := [], sealFrom := b.sealFrom + n }

/-- Close a channel's session (R289): SESSION_END, with the debit truncated and the RESET flag of R291. -/
def State.endSession (s : State) (c : Nat) (e : Moment) : State :=
  match (s.met c).sess with
  | none => s
  | some x =>
    let amt := ((s.bil.debits.find? fun d => d.id = x.id).map Debit.amt).getD 0
    let r := { Reading.plain 0x03 (some c) [] with
      flags := 32 * b2n x.reset, bind := some x.bind, debit := amt.tdiv (2 ^ 32), sessUnmet := x.unmet }
    let s := s.capture (s.takeValues r e)
    let s := s.modBil fun b => { b with debits := b.debits.map fun d => if d.id = x.id then { d with closed := true } else d }
    s.modMet c fun m => { m with sess := none }

/-- Is the context of a session handle ENDING (R312)? -/
def State.handleEnding (s : State) (h : Nat) : Bool :=
  match s.dro.ctxs[h % 128]? with
  | some c => decide (c.gen = h / 128) && decide (c.state = 5)
  | none => false

/-- Open the session that a channel's binding names (R289): SESSION_START. -/
def State.startSession (s : State) (c : Nat) (e : Moment) : State :=
  match (s.met c).bind with
  | none => s
  | some b =>
    let id := s.bil.nextSess
    let s := s.modMet c fun m => { m with bind := none, sess := some ⟨b, id, 0, 0, s.handleEnding b.handle, false⟩ }
    let s := s.modBil fun x => { x with nextSess := id + 1, debits := x.debits ++ [⟨id, b.account, 0, 0, false⟩] }
    s.capture (s.takeValues { Reading.plain 0x02 (some c) [] with bind := some b } e)

/-- The rank of a step (R281): intervals and their blocks, tariff, seal, closes, opens. -/
def Step.rank : Step → Nat
  | .interval _ _ _ => 0 | .tariff _ _ => 1 | .seal _ _ _ => 2 | .closeSess _ _ => 3 | .openSess _ _ => 4

/-- Does a step open a session of channel `c`? -/
def Step.opens (c : Nat) : Step → Bool
  | .openSess k _ => decide (k = c)
  | _ => false

/-- One step at the instant of its split point. -/
def State.runStep (s : State) (at_ : Nat) (x : Step) : State :=
  match x with
  | .interval head _ e => s.queueBlock head e
  | .tariff k _ => s.modBil fun b => { b with
      route := k, routes := (b.routes.filter fun y => at_ < y.1 + 5250000) ++ [(at_, b.route)] }
  | .seal d _ e => s.sealDay d e
  | .closeSess c e => s.endSession c e
  | .openSess c e => s.startSession c e

/-- The steps of each instant, site-wide points and those of stalls together (R281). -/
def byInstant : List Split → List (Nat × List Step)
  | [] => []
  | x :: t =>
    match byInstant t with
    | y :: r => if y.1 = x.at_ then (y.1, x.steps ++ y.2) :: r else (x.at_, x.steps) :: y :: r
    | [] => [(x.at_, x.steps)]

/-- All steps of an instant, in the order of R281. -/
def State.runSplit (s : State) (x : Nat × List Step) : State :=
  (List.range 5).foldl (fun t k => (x.2.filter fun y => y.rank = k).foldl (fun u y => u.runStep x.1 y) t) s

/-! ### The commit of a millisecond -/

/-- What a channel's millisecond gives: whether it is committed, the cause if it is counted unmetered (0 when neither), its
samples' instants and energies, and the energy of its valid samples for the estimate. -/
structure MsOut where
  done : Bool
  cause : Nat
  samples : List (Nat × Int)
  est : Nat

/-- Sum of the magnitudes. -/
def absSum (l : List Int) : Nat := (l.map Int.natAbs).foldl (· + ·) 0

/-- Do the MAC fragments received in the running millisecond make AES-256-CMAC(K_MET, M) of the past one (R136-R138)? -/
def State.macOk (s : State) (n ms : Nat) : Bool :=
  let l := s.link n
  match l.keyPast with
  | none => false
  | some k =>
    let msg := le 4 ms ++ [n, k.headD 0, 0, 0] ++ (l.msPast.map fun x => (x.getD []).take 6).flatten
    decide ((l.mac.map fun x => le 2 (x.getD 0)).flatten = aesCmac (k.tail.take 32) msg)

/-- A stall's millisecond (R228-R231). -/
def State.stallMs (s : State) (n ms : Nat) (overs : Bool) : MsOut :=
  let l := s.link n
  let f := stallSample ((s.met n).path 0) l.ident.vfs l.ident.ifs (s.iStart n)
  let outs := (l.msPast.zipIdx).map fun x => (ms * 250000 + 2500 * x.2, x.1.map f)
  let on := outs.filterMap fun x => match x.2 with
    | some y => if y.on then some (x.1, y.e) else none
    | none => none
  let est := absSum (on.map Prod.snd)
  let st := s.chanState n
  if st = 1 then
    if overs then ⟨false, 3, [], est⟩
    else if l.msPast.any Option.isNone || l.mac.any Option.isNone then ⟨false, 1, [], est⟩
    else if s.macOk n ms then ⟨true, 0, on, 0⟩
    else ⟨false, 2, [], est⟩
  else if st = 2 ∧ on.isEmpty = false then ⟨false, 4, [], est⟩
  else ⟨false, 0, [], 0⟩

/-- The SUBSTITUTE edges of a feeder in the millisecond before `fin` (R257), as samples. -/
def State.subEdges (s : State) (c fin : Nat) : List (Nat × Int) :=
  ((List.range 4).map fun k =>
    if s.get (F.WBG_S0k_CFG_MODE k) = 2 ∧ s.get (F.WBG_S0k_CFG_CHANNEL k) = c then
      let e : Int := (s.get (F.WBG_S0k_CONST k) : Int) * 2 ^ 32
      ((s.wbg.edges.getD k []).filter fun t => t < fin).map fun t => (t, if s.flag (F.WBG_S0k_CFG_DIRECTION k) then -e else e)
    else []).flatten

/-- The samples of a feeder's millisecond through its AFE. -/
def State.feederRun (s : State) (f : Nat) (x : FeederIn) : List Int × Met :=
  (s.met (48 + f)).afeRun (s.iStart (48 + f)) x.held x.samples

/-- A feeder's millisecond (R228, R230, R231, R257). -/
def State.feederMs (s : State) (f ms : Nat) (x : FeederIn) (overs : Bool) : MsOut :=
  let c := 48 + f
  if s.flag (F.WBG_Mc_STATE_SUBSTITUTE c) then ⟨true, 0, s.subEdges c ((ms + 1) * 250000), 0⟩
  else
    let es := ((s.feederRun f x).1.zipIdx).map fun y => (ms * 250000 + 10000 * y.2, y.1)
    let est := absSum (es.map Prod.snd)
    if (s.met c).fault ∨ x.samples.length ≠ 25 then ⟨false, 5, [], est⟩
    else if overs then ⟨false, 3, [], est⟩
    else ⟨true, 0, es, 0⟩

/-- The tariff in force at an instant of the last 21 ms. -/
def State.tariffAt (s : State) (at_ : Nat) : Nat :=
  match s.bil.routes.find? fun x => at_ < x.1 with
  | some x => x.2
  | none => s.bil.route

/-- SUBSTITUTE edges of milliseconds already committed (R257), each in the tariff of its instant. -/
def State.routeLate (s : State) (outs : List (Nat × MsOut)) (start : Nat) : State :=
  outs.foldl (fun t o => (o.2.samples.filter fun x => x.1 < start).foldl (fun u x =>
    u.addEnergy o.1 (u.tariffAt x.1) start (if 0 < x.2 then x.2.natAbs else 0) (if x.2 < 0 then x.2.natAbs else 0)) t) s

/-- Add the energies of the samples of an instant range to every committed channel. -/
def State.routeSeg (s : State) (outs : List (Nat × MsOut)) (lo hi : Nat) : State :=
  outs.foldl (fun t o =>
    let es := (o.2.samples.filter fun x => lo ≤ x.1 ∧ x.1 < hi).map Prod.snd
    let f := absSum (es.filter fun e => 0 < e)
    let r := absSum (es.filter fun e => e < 0)
    if f = 0 ∧ r = 0 then t else t.addEnergy o.1 t.bil.route hi f r) s

/-- The segments of a millisecond and the steps between them, for the split points up to `fin` in order (R237). -/
def State.routeMs (s : State) (outs : List (Nat × MsOut)) (fin : Nat) : Nat → List (Nat × List Step) → State
  | lo, [] => s.routeSeg outs lo fin
  | lo, x :: t => ((s.routeSeg outs lo x.1).runSplit x).routeMs outs fin (max lo x.1) t

/-- Count an unmetered millisecond (R228, R265). -/
def State.unmetered (s : State) (c : Nat) (o : MsOut) : State :=
  let s := (s.incSat (F.WBG_Mc_UNMET_MS c)).set (F.WBG_Mc_STATE_CAUSE c) o.cause
  let tot := (s.met c).est + o.est
  let s := s.addSat (F.WBG_Mc_UNMET_EST c) (tot / 2 ^ 32)
  s.modMet c fun m => { m with
    est := tot % 2 ^ 32, ivUnmet := m.ivUnmet + 1, sess := m.sess.map fun x => { x with unmet := x.unmet + 1 } }

/-- An unmetered millisecond of a link (R138, R148): counted, and kept for the round's MAC_FAIL. -/
def State.macFailed (s : State) (n ms : Nat) : State :=
  (s.incSat (F.SLK_Sn_CNT_MACFAIL n)).modLink n fun l => { l with
    macFailFirst := if l.macFailRound = 0 then ms % 2 ^ 32 else l.macFailFirst, macFailRound := l.macFailRound + 1 }

/-- MAC_FAIL (0x0205) of the housekeeping round that ends: its first unmetered millisecond and their count. -/
def State.macReport (s : State) (n : Nat) : State :=
  let l := s.link n
  if l.macFailRound = 0 then s else s.raise 0x0205 2 n (le 4 l.macFailFirst ++ le 4 (min l.macFailRound (2 ^ 32 - 1)))

/-- The pulses a millisecond makes due at an output (R253): residue, due times. -/
def pulseFold (const : Nat) : List (Nat × Int) → Nat → List Nat × Nat
  | [], r => ([], r)
  | x :: t, r =>
    let r := r + x.2.natAbs
    let q := pulseFold const t (r % const)
    (List.replicate (r / const) (x.1 + 500000) ++ q.1, q.2)

/-- A pulse output follows its channel (R253, R254): pulses beyond a backlog of 65,535 are dropped with PULSE_BACKLOG
(0x0505). -/
def State.pulseMs (s : State) (outs : List (Nat × MsOut)) (k : Nat) : State :=
  if s.flag (F.WBG_POk_CFG_ENABLE k) = false then s
  else
    match outs.find? fun o => o.1 = s.get (F.WBG_POk_CFG_CHANNEL k) with
    | none => s
    | some o =>
      let rev := s.flag (F.WBG_POk_CFG_DIRECTION k)
      let es := o.2.samples.filter fun x => if rev then x.2 < 0 else 0 < x.2
      let p := s.wbg.pulses.getD k Pulse.init
      let q := pulseFold (max 1 (s.get (F.WBG_POk_CONST k)) * 2 ^ 32) es p.res
      let all := p.queue ++ q.1
      let s := (s.modWbg fun w => { w with pulses := modAt w.pulses k fun x => { x with res := q.2, queue := all.take 65535 } }).set
        (F.WBG_POk_RESIDUE k) (q.2 / 2 ^ 32)
      if 65535 < all.length then s.raise 0x0505 2 k (le 4 (all.length - 65535)) else s

/-- Sum of the energies of the samples in an instant range. -/
def histSum (h : List (Nat × Nat)) (lo hi : Nat) : Nat :=
  ((h.filter fun y => decide (lo ≤ y.1) && decide (y.1 < hi)).map Prod.snd).foldl (· + ·) 0

/-- End a COMPARE whose closing edge lies before `fin` (R256): the error in units of 0.0001 %. -/
def State.compareEnd (s : State) (fin k : Nat) : State :=
  match s.wbg.cmp.getD k none with
  | none => s
  | some x =>
    match x.open_, x.close with
    | some a, some b =>
      if b < fin then
        let e := x.e + histSum x.hist a b
        let ref : Nat := x.window * s.get (F.WBG_S0k_CONST k) * 2 ^ 32
        let err := Config.rnd (((e : Int) - ref) * 1000000) (max 1 ref)
        let s := (s.modWbg fun w => { w with cmp := modAt w.cmp k fun _ => none }).set (F.WBG_S0k_CFG_MODE k) 0
        s.finish x.p x.num 0x00 (ofSigned 32 (max (-(2 ^ 31 - 1)) (min err (2 ^ 31 - 1))))
      else s
    | _, _ => s

/-- A COMPARE takes the energy of its channel in a committed millisecond (R256), keeping the samples of the last 21 ms apart. -/
def State.compareMs (s : State) (outs : List (Nat × MsOut)) (fin k : Nat) : State :=
  match s.wbg.cmp.getD k none with
  | none => s
  | some x =>
    let rev := s.flag (F.WBG_S0k_CFG_DIRECTION k)
    let new := match outs.find? fun o => o.1 = s.get (F.WBG_S0k_CFG_CHANNEL k) with
      | some o => o.2.samples.filterMap fun y =>
          if (if rev then decide (y.2 < 0) else decide (0 < y.2)) then some (y.1, y.2.natAbs) else none
      | none => []
    let all := x.hist ++ new
    let cut := fin - 21 * 250000
    let e := match x.open_, x.close with
      | some a, none => x.e + histSum all a cut
      | _, _ => x.e
    let keep := if x.close.isSome then all else all.filter fun y => cut ≤ y.1
    (s.modWbg fun w => { w with cmp := modAt w.cmp k fun _ => some { x with e := e, hist := keep } }).compareEnd fin k

/-- WBG_Ff_SENSOR as it stands. -/
def State.sensorWord (s : State) (f : Nat) : Nat :=
  s.get (F.WBG_Ff_SENSOR_SENS_A f) + 4 * s.get (F.WBG_Ff_SENSOR_SENS_B f) + 16 * s.get (F.WBG_Ff_SENSOR_SENS_C f) +
    64 * s.get (F.WBG_Ff_SENSOR_SENS_N f) + 256 * s.get (F.WBG_Ff_SENSOR_FNOM f) + 65536 * s.get (F.WBG_Ff_SENSOR_HPF f) +
    2 ^ 28 * s.get (F.WBG_Ff_SENSOR_WIRING f)

/-- Apply the calibration that starts with millisecond `ms` (R240, R243): CAL_GEN, CAL_APPLIED (0x0506), the CAL reading
captured at its start, the descriptor. -/
def State.applyCal (s : State) (x : CalWait) : State :=
  let s := if x.path = 0xFF then s.modMet x.ch fun m => { m with afe := { m.afe with
      vs := s.get (F.WBG_Ff_VSCALE (x.ch - 48)), is := s.get (F.WBG_Ff_ISCALE (x.ch - 48)), sens := s.sensorWord (x.ch - 48) } }
    else s.modMet x.ch fun m => { m with
      cal := modAt m.cal x.path fun _ => x.cal, calFp := if x.ch < 48 then (s.rec? x.ch).fp else m.calFp }
  let s := if x.path ≠ 0xFF ∧ x.ch < 48 then s.set (F.WBG_Mc_CAL_FP x.ch) (leAt (s.rec? x.ch).fp 0 4) else s
  let s := (s.inc (F.WBG_Mc_CAL_GEN x.ch)).modMet x.ch fun m => { m with ivFlags := setBitOf m.ivFlags 10 true }
  let g := s.get (F.WBG_Mc_CAL_GEN x.ch)
  let s := (s.raise 0x0506 1 x.ch ([x.path] ++ le 4 g)).showChan x.ch
  let b := (s.met x.ch).sess.map Sess.bind
  let s := s.capture (s.takeValues { Reading.plain 0x05 (some x.ch) [] with bind := b } (s.edgeAt (x.from_ * 250000)))
  match x.desc with
  | some d => s.finish d.1 d.2 0x00 g
  | none => s

def State.applyCals (s : State) (ms : Nat) : State :=
  let due := s.wbg.cals.filter fun x => x.from_ ≤ ms
  due.foldl (fun t x => t.applyCal x) (s.modWbg fun w => { w with cals := w.cals.filter fun x => ms < x.from_ })

/-- The registers of the last committed millisecond: mean power, voltage and current. -/
def State.showPower (s : State) (c : Nat) (o : MsOut) : State :=
  if o.done = false then s
  else
    let sum := (o.samples.map Prod.snd).foldl (· + ·) 0
    let s := s.setS (F.WBG_Mc_POWER c) (Config.rnd (sum * 36) (2 ^ 32))
    if 48 ≤ c then
      let m := s.met c
      (s.set (F.WBG_Mc_VI_V c) (min (m.rms (m.volt 0) m.afe.vs) 65535)).set (F.WBG_Mc_VI_I c) (min (m.rms (m.amp 0) m.afe.is) 65535)
    else
      let l := s.link c
      let xs := l.msPast.filterMap fun b => b.map (stallSample ((s.met c).path 0) l.ident.vfs l.ident.ifs (s.iStart c))
      let v := (xs.map SampleOut.v).foldl (· + ·) 0
      let i := absSum (xs.map SampleOut.i)
      let d := 2 ^ 53 * max 1 xs.length
      (s.set (F.WBG_Mc_VI_V c) (min (Config.rnd (v * l.ident.vfs) d).toNat 65535)).set (F.WBG_Mc_VI_I c)
        (min (Config.rnd ((i * l.ident.ifs : Nat) : Int) d).toNat 65535)

/-- A feeder's alarms (R233, R234): FEEDER_ALARM (0x0507) when one begins. -/
def State.feederAlarms (s : State) (f : Nat) (x : FeederIn) : State :=
  let c := 48 + f
  let m := s.met c
  let full := fun (v : Int) => decide (v = 8388607) || decide (v = -8388608)
  let overs := (List.range 4).filter fun k => m.afe.used k &&
    (x.samples.any fun y => full (y.getD k (0, 0)).1 || full (y.getD k (0, 0)).2)
  let top := ((List.range 3).map fun k => m.squares (m.amp k)).foldl max 0
  let sum := m.squares fun y => ((List.range 4).map fun k => m.amp k y).foldl (· + ·) 0
  let mis := !m.afe.aron && decide (m.afe.sensor 3 ≠ 0) && decide (top < 100 * sum)
  let cnt := if mis then m.neutral + 1 else 0
  let out := decide (x.freq < 45000) || decide (66000 < x.freq)
  let s := (s.set (F.WBG_Ff_FREQ f) x.freq).modMet c fun m => { m with
    neutral := min cnt 1000
    alarm := (overs.map fun k => 2 ^ k).foldl (· + ·) 0 + 16 * b2n (decide (1000 ≤ cnt)) + 32 * b2n out }
  let s := if overs.isEmpty then s else s.setB F.WBG_STATUS_OVERRANGE true
  let s := forAll (overs.filter fun k => !bitOf m.alarm k) (fun k s => s.raise 0x0507 2 c [0, k]) s
  let s := if 1000 ≤ cnt ∧ bitOf m.alarm 4 = false then s.raise 0x0507 2 c [1, 3] else s
  if out && !bitOf m.alarm 5 then
    let r := s.fresh 8
    r.2.raise 0x0507 2 c [3, r.1]
  else s

/-- The age of the newest durable capture (R247). -/
def State.showAge (s : State) : State :=
  let s := s.set F.WBG_CKPT_AGE (min ((s.chrono - s.wbg.capAt) / 250000) 0xFFFFFFFF)
  s.setB F.WBG_STATUS_CKPT_STALE (decide (2 * s.get F.WBG_CKPT_CFG_PERIOD_MS < s.get F.WBG_CKPT_AGE))

/-- The open interval, and Billing with another one. -/
def Bil.interval (b : Bil) : Interval :=
  ⟨b.ivWall, b.ivTick, b.ivAt, b.ivEnd, b.ivMin, b.ivFlags, b.ivTariff, b.lastEnd, b.blockSeq⟩

def Bil.withInterval (b : Bil) (i : Interval) : Bil :=
  { b with ivWall := i.wall, ivTick := i.tick, ivAt := i.at_, ivEnd := i.end_, ivMin := i.min_, ivFlags := i.flags, ivTariff := i.tariff,
           lastEnd := i.lastEnd, blockSeq := i.seq }

/-- The interval that opens at the first committed millisecond after a restore (R282, R572): INCOMPLETE, and TIME_BACK where wall time
lies before the end of the last closed interval. -/
def State.openInterval (s : State) (x : Moment) : State :=
  let w := x.wall
  let back := decide (w < s.bil.lastEnd)
  let min' := if s.bil.ivWall / 65536 / 86400 < w / 65536 / 86400 then s.get F.BIL_INTERVAL_CFG_MINUTES else s.bil.ivMin
  let s := s.modBil fun b => { b with
    ivWall := w, ivTick := x.tick, ivAt := x.at_, ivMin := min', ivEnd := nextBoundary min' (if back then b.lastEnd else w)
    ivTariff := b.tariff, ivFlags := setBitOf (setBitOf 1 2 back) 6 s.tamperOpen }
  s.setB F.BIL_TIME_STATUS_TIME_BACK back

/-- The GAP window ends (R248): GAP_WINDOW (0x0504) and the GAP record, at `x`. -/
def State.endGap (s : State) (g : Reopen) (x : Moment) : State :=
  if g.gap = false then s
  else
    let body := le 8 g.wall ++ le 8 x.wall ++ le 6 g.tick ++ le 6 x.tick ++ [g.cause, g.closed, 0, 0] ++
      ((List.range 4).map fun k => le 2 (s.get (F.WBG_POk_AHEAD k))).flatten ++ le 8 g.seq
    let s := s.raise 0x0504 2 0xFFFF (le 6 g.tick ++ le 6 x.tick ++ [g.cause, 0, 0, 0])
    s.capture (s.takeValues { Reading.plain 0x06 none body with flags := if g.vbat then 0 else 256 } x)

/-- The first committed millisecond after a restore (R248, R282) starts at `at_`. -/
def State.firstMs (s : State) (at_ : Nat) : State :=
  match s.bil.reopen with
  | none => s
  | some g =>
    let x := s.edgeNow at_
    let s := (s.endGap g x).modBil fun b => { b with reopen := none }
    if g.vbat then s.openInterval x else s

/-- Before the samples of the millisecond from `at_` count: a GAP window ends with it (R248), the channels' states show, and the split
points up to its start are reached. -/
def State.msBegin (s : State) (at_ : Nat) : State :=
  let s := forAll (List.range 52) (fun c s => s.showChan c) (s.firstMs at_)
  let early := s.wbg.splits.filter fun x => x.at_ ≤ at_
  (byInstant early).foldl (fun t x => t.runSplit x) (s.modWbg fun w => { w with splits := w.splits.filter fun x => at_ < x.at_ })

/-- What millisecond `ms` gives on channel `c`: `overs` are the channels whose samples overflowed the buffer (R36), `fd` what the feeders'
AFEs gave. -/
def State.msOut (s : State) (ms : Nat) (overs : List Nat) (fd : List FeederIn) (c : Nat) : MsOut :=
  if c < 48 then s.stallMs c ms (overs.contains c) else s.feederMs (c - 48) ms (fd.getD (c - 48) ⟨[], [], 0⟩) (overs.contains c)

/-- Commit the millisecond that ended (R22, R235). A split point at its end is reached with it: every sample before it is in. -/
def State.commitMs (s : State) (overs : List Nat) (fd : List FeederIn) : State :=
  let fin := s.chrono / 250000
  let ms := fin - 1
  let s := s.msBegin (ms * 250000)
  let s := if overs.isEmpty then s else s.setB F.WBG_STATUS_BUFFER_OVF true
  let due := s.wbg.splits.filter fun x => x.at_ ≤ fin * 250000
  let s := s.modWbg fun w => { w with splits := w.splits.filter fun x => fin * 250000 < x.at_ }
  let outs := (List.range 52).map fun c => (c, s.msOut ms overs fd c)
  let s := forAll (List.range 4) (fun f s => match fd[f]? with
    | some x => (s.modMet (48 + f) fun _ => (s.feederRun f x).2).feederAlarms f x
    | none => s) s
  let s := outs.foldl (fun t o =>
    if o.2.cause ≠ 0 then (if o.1 < 48 then t.macFailed o.1 ms else t).unmetered o.1 o.2 else t) s
  let s := (s.routeLate outs (ms * 250000)).routeMs outs (fin * 250000) (ms * 250000) (byInstant due)
  let opened := fun c => due.any fun x => decide (x.at_ < fin * 250000) && x.steps.any (Step.opens c)
  let s := outs.foldl (fun t o => if o.2.cause = 0 ∨ opened o.1 = false then t else t.modMet o.1 fun m => { m with
    sess := m.sess.map fun x => { x with unmet := x.unmet + 1 } }) s
  let s := outs.foldl (fun t o => t.showPower o.1 o.2) s
  let live := outs.filter fun o => o.2.done
  let s := forAll (List.range 4) (fun k s => s.pulseMs live k) s
  let s := forAll (List.range 4) (fun k s => s.compareMs live (fin * 250000) k) s
  let s := s.modWbg fun w => { w with
    edges := w.edges.map fun l => l.filter fun t => fin * 250000 ≤ t, nextMs := fin }
  let s := s.modBil fun b => { b with oldPrices := match b.oldPrices with
    | some x => if x.1 < fin * 250000 then none else some x
    | none => none }
  ((s.checkAccts).applyCals fin).showAge

end Sys2Proof.Machine
end

