-- ==== Sys2Proof/Machine/Weighbridge.lean ====
section
/-!
DEFINITION. The Weighbridge's commands (R225-R262): the millisecond commit, calibration, checkpoints, pulse outputs and S0
inputs.
-/
namespace Sys2Proof.Machine

/-- WEIGHBRIDGE_MS_COMMIT (R22): at cycle 7 of the next millisecond. `slack` is the engine's (R33); `over` are the channels
whose samples overflowed the buffer (R36); `fd` is what the AFEs of F0 to F3 gave. -/
def execWeighbridgeMsCommit (slack : Int) (overs : List Nat) (fd : List FeederIn) (s : State) :
    Host.Outcome State Fault Refusal :=
  .next (
    if s.metersOn = false ∨ s.chrono / 250000 = 0 ∨ s.chrono / 250000 ≤ s.wbg.nextMs then s
    else (s.setS F.WBG_SLACK_MIN (min slack (s.getS F.WBG_SLACK_MIN))).commitMs overs fd)

/-! ### Calibration (R239-R243) -/

/-- A signed field of a byte string. -/
def sAt (b : List Nat) (i n : Nat) : Int := toSigned (8 * n) (leAt b i n)

/-- The record that CAL_APPLY's PARAM gives; byte 0 of `b` is PARAM byte 24 (R239). -/
def calOf (b : List Nat) : Cal :=
  { vGain := leAt b 4 4, vOfs := sAt b 8 4, iGain := leAt b 12 4, iOfs := sAt b 16 4, phase := sAt b 20 2, refId := leAt b 24 8 }

/-- The PARAM layout of a record, for the change log (R500). -/
def Cal.bytes (c : Cal) (path : Nat) : List Nat :=
  padTo 40 ([path, 0, 0, 0] ++ le 4 c.vGain ++ le 4 (ofSigned 32 c.vOfs) ++ le 4 c.iGain ++ le 4 (ofSigned 32 c.iOfs) ++
    le 2 (ofSigned 16 c.phase) ++ [0, 0] ++ le 8 c.refId)

/-- 0.900 to 1.100 as unsigned Q2.30. -/
def gainOk (g : Nat) : Bool := decide (900 * 2 ^ 30 ≤ 1000 * g) && decide (1000 * g ≤ 1100 * 2 ^ 30)

/-- Every field of CAL_APPLY in its range for channel `ch` (R239). -/
def calOk (ch path : Nat) (c : Cal) : Bool :=
  let ofs := fun (i : Int) => decide (-65536 ≤ i) && decide (i ≤ 65536)
  gainOk c.vGain && gainOk c.iGain && ofs c.vOfs && ofs c.iOfs &&
    (if ch < 48 then decide (path = 0) && decide (c.phase = 0)
     else decide (path < 4) && decide (-4096 ≤ c.phase) && decide (c.phase ≤ 4096))

/-- The body of a change-log entry of KIND 3 (R500): opcode, TARGET, old and new state in PARAM layout. -/
def opcodeBody (opcode target : Nat) (old new : List Nat) : List Nat :=
  le 2 opcode ++ le 2 target ++ padTo 40 old ++ padTo 40 new

/-- CAL_APPLY (R240). -/
def execCalApply (p tag : Nat) (s : State) : Host.Outcome State Fault Refusal :=
  .next (s.take p tag 0x0501 fun d s =>
    let c := d.target
    let path := d.arg 24 1
    let cal := calOf d.param
    if s.ownsWindow p = false then s.finish p d.num 0x40 0
    else if calOk c path cal = false then s.finish p d.num 0x41 0
    else if c < 48 ∧ (s.rec? c).committed = false then s.finish p d.num 0x44 0
    else if c < 48 ∧ s.contactorClosed c = true then s.finish p d.num 0x42 0
    else
      let r := s.logChange 3 p 0x0501 (opcodeBody 0x0501 c (((s.met c).path path).bytes path) d.param) (.cal p d.num c d.param)
      if r.1 = 0 then r.2 else r.2.finish p d.num r.1 0)

/-- The entry of a CAL_APPLY is durable (R240): the record applies from the next millisecond. -/
def State.calDurable (s : State) (p num ch : Nat) (param : List Nat) : State :=
  s.modWbg fun w => { w with
    cals := w.cals ++ [⟨ch, byteAt param 0, calOf param, s.chrono / 250000 + 1, some (p, num)⟩] }

/-- A feeder's scale register was written (R243): CAL_GEN and a reading at the next millisecond. -/
def State.scaleWritten (s : State) (f : Nat) : State :=
  s.modWbg fun w => { w with cals := w.cals ++ [⟨48 + f, 0xFF, Cal.init, s.chrono / 250000 + 1, none⟩] }

/-! ### Checkpoints (R244-R247, R295) -/

/-- CHECKPOINT_NOW (R260). -/
def execCheckpointNow (p tag : Nat) (s : State) : Host.Outcome State Fault Refusal :=
  .next (s.take p tag 0x0502 fun d s => s.modBil fun b => { b with ckWaits := b.ckWaits ++ [(p, d.num, s.chrono)] })

/-- Capture a READING_TAKE at its boundary (R304): with RESET_MAX the record carries the old MAX_DEMAND, then it clears. -/
def State.captureTake (s : State) (at_ : Nat) (x : Take) : State :=
  let b := (s.met x.ch).sess.map Sess.bind
  let r := { Reading.plain 0x04 (some x.ch) [] with
    flags := 128 * b2n x.resetMax, bind := b, after_ := ⟨some (x.p, x.num), none⟩ }
  let s := s.capture (s.takeValues r (s.edgeAt at_))
  if x.resetMax then (s.set (F.BIL_Mc_DEMAND_MAX x.ch) 0).modMet x.ch fun m => { m with maxStart := 0 } else s

/-- Does a Weighbridge store run? -/
def State.ckptRuns (s : State) : Bool := s.hay.running.any fun x => match x.job with
  | .ckpt _ => true
  | _ => false

/-- Is a stored field one that a checkpoint holds: class K of WBG or BIL, written by hardware only (R245, R283)? -/
def ckptKey (key : Nat) : Bool :=
  let w := key / 32 / 0x10000
  (decide (w = 5) || decide (w = 6)) && (match fieldRowAt key with
    | some f => decide (f.acc = .ro) && decide (f.ret = .k)
    | none => false)

/-- The outputs as a capture at Chronobase `at_` holds them: the time left of a pulse that is on (R254). -/
def Pulse.captured (x : Pulse) (at_ : Nat) : Pulse := { x with on := x.on.map fun t => t - at_ }

/-- Billing as it stood at boundary `at_` (R282, R283): what happens at split points beyond it has not happened yet. -/
def State.bilAt (s : State) (at_ : Nat) (x : Moment) : Bil :=
  let todo := (s.wbg.splits.filter fun y => at_ < y.at_).flatMap Split.steps
  let b := { s.bil with tariff := s.bil.route, frozen := bitOf x.flags 1, clk := x.clk }
  let b := match todo.findSome? fun y => match y with
      | .interval _ was _ => some was
      | _ => none with
    | some i => b.withInterval i
    | none => b
  match todo.findSome? fun y => match y with
      | .seal _ was _ => some was
      | _ => none with
  | some m => { b with lastSeal := m }
  | none => b

/-- The class K values of WBG and BIL at boundary `at_`: the last switch beyond it has not happened yet. -/
def State.regsAt (s : State) (at_ : Nat) : List (Nat × Nat) :=
  let s' := match ((s.wbg.splits.filter fun y => at_ < y.at_).flatMap Split.steps).findSome? fun y => match y with
      | .tariff _ last => some last
      | _ => none with
    | some w => s.set F.BIL_LAST_SWITCH w
    | none => s
  s'.regs.filter fun e => ckptKey e.1

/-- The capture of a store (R245, R283). -/
def State.snapshot (s : State) (at_ n : Nat) (final : Bool) : Ckpt :=
  let x := s.edgeAt at_
  { seq := s.get F.WBG_CKPT_SEQ + 1, edge := x, regs := s.regsAt at_, boot := s.get F.GLB_BOOT_COUNT
    met := s.wbg.met, pulses := s.wbg.pulses.map fun x => x.captured at_
    ahead := (List.range 4).map fun k => s.get (F.WBG_POk_AHEAD k), bil := s.bilAt at_ x, readings := n, final := final, ok := true }

/-- CKPT_REFUSED (0x0501): `kind` 0 periodic, 1 forced, 2 final, 3 requested (R246). What was to go with the store of boundary `at_`
ends with HOLDUP_LOW (R260, R304) or is captured again at the retry (R295). -/
def State.ckptRefused (s : State) (at_ kind need : Nat) : State :=
  let s := (s.setB F.WBG_STATUS_CKPT_REFUSED true).raise 0x0501 2 0xFFFF
    ([kind] ++ le 4 s.eHold ++ le 4 (Config.rnd (need : Nat) 1000).toNat)
  let ends := ((s.bil.ckWaits.filter fun x => x.2.2 < at_).map fun x => (x.1, x.2.1)) ++
    (s.bil.takes.filter fun x => x.at_ < at_).map fun x => (x.p, x.num)
  let s := s.modBil fun b => { b with
    ckWaits := b.ckWaits.filter fun x => at_ ≤ x.2.2, takes := b.takes.filter fun x => at_ ≤ x.at_
    waiting := b.waiting.map fun r => if s.dueReading at_ r then { r with again := true } else r
    ckRetry := if kind = 2 then b.ckRetry else some kind }
  let s := if kind = 2 then (s.modPwr fun w => { w with gapCause := 1 }) else s
  ends.foldl (fun t x => t.finish x.1 x.2 0x20 0) s

/-- A reading whose store was refused takes its values afresh at a boundary (R295). What a restore closed keeps those of the capture
(R282), and a MAX_DEMAND already reset stays in its record (R304). -/
def State.retaken (s : State) (r : Reading) (x : Moment) : Reading :=
  let y := s.takeValues r x
  if bitOf r.flags 4 then { r with again := false }
  else if bitOf r.flags 7 then { y with again := false, body := y.body.take 228 ++ (r.body.drop 228).take 12 ++ y.body.drop 240 }
  else { y with again := false }

/-- Every reading whose store was refused is captured again at boundary `at_`. -/
def State.recapture (s : State) (at_ : Nat) : State :=
  let x := s.edgeAt at_
  let l := (s.bil.waiting.filter fun r => r.again).foldl (fun l r => putReading (s.retaken r x) l) (s.bil.waiting.filter fun r => !r.again)
  s.modBil fun b => { b with waiting := s.numbered l }

/-- The sessions whose START record waits take its number (R283). -/
def State.noteStarts (s : State) : State :=
  s.bil.waiting.foldl (fun t r => match r.kind, r.ch with
    | 2, some c => t.modMet c fun m => { m with sess := m.sess.map fun x => if some x.bind = r.bind then { x with start := r.seq } else x }
    | _, _ => t) s

/-- The readings that a store of boundary `at_` carries (R295, R296): as many as the journal holds. -/
def State.carried (s : State) (at_ : Nat) : Nat :=
  min ((s.bil.waiting.filter fun r => s.dueReading at_ r).length + (s.bil.takes.filter fun x => x.at_ < at_).length) (1024 - s.bil.journal.length)

/-- Try a store that captures boundary `at_` (R244, R246, R295). -/
def State.ckptStart (s : State) (at_ kind : Nat) : State :=
  let n := s.carried at_
  if s.admits 1 (storeNeed 1 n) then
    let due := s.bil.takes.filter fun x => x.at_ < at_
    let s := (due.foldl (fun t x => t.captureTake at_ x)
      ((s.recapture at_).modBil fun b => { b with takes := b.takes.filter fun x => at_ ≤ x.at_ })).noteStarts
    let r := s.tryStore 1 n (.ckpt (s.snapshot at_ n (decide (kind = 2))))
    r.2.modBil fun b => { b with
      ckForced := b.ckForced.filter fun t => at_ ≤ t, ckRetry := none, ckAt := at_ / 250000 }
  else
    let r := s.tryStore 1 n (.ckpt (s.snapshot at_ n (decide (kind = 2))))
    (r.2.modBil fun b => { b with ckForced := b.ckForced.filter fun t => at_ ≤ t, ckAt := at_ / 250000 }).ckptRefused at_ kind (storeNeed 1 n)

/-- May a store that captures boundary `b` (its millisecond count) start: the Weighbridge and the Hayloft are powered, the millisecond that
ends there is committed (R31), at least one has been since the restore, and no other store of the Weighbridge runs? -/
def State.ckptMay (s : State) (b : Nat) : Bool :=
  s.metersOn && s.domainOn 5 && decide (s.wbg.nextMs = b) && s.bil.reopen.isNone && !s.ckptRuns

/-- Is a store requested (R244, R260, R295, R304) for boundary `at_`: a reading the journal has room for, a CHECKPOINT_NOW, a
READING_TAKE accepted before it? -/
def State.ckptAsked (s : State) (at_ : Nat) : Bool :=
  (decide (s.bil.journal.length < 1024) && s.bil.waiting.any fun r => s.dueReading at_ r) ||
    (s.bil.ckWaits.any fun x => decide (x.2.2 < at_)) || s.bil.takes.any fun x => decide (x.at_ < at_)

/-- CHECKPOINT_STORE_START (R244): once the millisecond that ends at the last allocation boundary is committed, the store due
at that boundary starts or is refused. -/
def execCheckpointStoreStart (s : State) : Host.Outcome State Fault Refusal :=
  .next (
    let b := s.chrono / 250000
    if s.ckptMay b = false ∨ s.bil.ckAt = b then s
    else if b % s.get F.WBG_CKPT_CFG_PERIOD_MS = 0 then s.ckptStart (b * 250000) 0
    else if s.bil.ckForced.any fun t => decide (t < b * 250000) then s.ckptStart (b * 250000) 1
    else if s.ckptAsked (b * 250000) then s.ckptStart (b * 250000) 3
    else
      match s.bil.ckRetry with
      | some k => s.ckptStart (b * 250000) k
      | none => s)

/-- Is a stall's |i| below 5.0 A (R244): its newest sample shows it, or its link brings none? -/
def State.quiet5A (s : State) (n : Nat) : Bool :=
  s.below5A n || !(decide (s.linkState n = Link.run) || decide (s.linkState n = Link.lost) || decide (s.linkState n = Link.quarantine))

/-- Does the newest durable record capture boundary `at_` of this boot? -/
def State.storedAt (s : State) (at_ : Nat) : Bool :=
  match s.hay.ckpt with
  | some c => decide (c.edge.at_ = at_) && decide (c.boot = s.get F.GLB_BOOT_COUNT)
  | none => false

/-- A store that runs becomes the final store too (R244: one store serves two kinds). -/
def State.runsFinal (s : State) : State :=
  s.modHay fun h => { h with running := h.running.map fun x => match x.job with
    | .ckpt c => { x with job := .ckpt { c with final := true } }
    | _ => x }

/-- The final store of boundary `at_` (R244): the store already durable that captured it serves, else one is tried. -/
def State.finalStore (s : State) (at_ : Nat) : State :=
  if s.storedAt at_ then s.modPwr fun w => { w with gapCause := 0 } else s.ckptStart at_ 2

/-- FINAL_STORE_START (R244): after COMMIT, once every stall is below 5.0 A or 6 ms have passed, the store that captures the
last allocation boundary. -/
def execFinalStoreStart (s : State) : Host.Outcome State Fault Refusal :=
  .next (
    let b := s.chrono / 250000
    if s.get F.PWR_STATE_SUPPLY ≠ 2 then s
    else if !(s.stallNums.all fun n => s.quiet5A n) && decide (s.chrono < s.pwr.commitAt + 1500000) then s
    else if s.ckptRuns = true ∧ s.bil.ckAt = b then s.runsFinal
    else if s.ckptMay b then s.finalStore (b * 250000)
    else s)

/-- A reading is durable (R295, R306): its account and limit, its descriptor. -/
def State.readingDurable (s : State) (r : Reading) : State :=
  let s := s.modBil fun b => { b with journal := b.journal ++ [r], gapWait := b.gapWait && decide (r.kind ≠ 6) }
  let s := match r.after_.account with
    | some a =>
      let x := s.acct a.1
      (s.setAcct { x with bal := x.bal + a.2.1, lim := a.2.2.getD x.lim, changed := s.wall }).checkAcct a.1
    | none => s
  match r.after_.desc with
  | some d => s.finish d.1 d.2 0x00 (if r.kind = 8 then 0 else r.seq % 2 ^ 32)
  | none => s

/-- A debit as a durable checkpoint carries it moves into its account's balance (R299); a session that ended before the
capture is done. -/
def State.settleDebit (s : State) (c : Debit) : State :=
  match s.bil.debits.find? fun d => d.id = c.id with
  | none => s
  | some d =>
    let u := c.amt.tdiv (2 ^ 32) - d.moved
    let s := match c.account with
      | some a =>
        let x := s.acct a
        if u = 0 then s else s.setAcct { x with bal := x.bal - u, changed := s.wall }
      | none => s
    s.modBil fun b => { b with
      debits := if c.closed then b.debits.filter fun y => y.id ≠ c.id
                else b.debits.map fun y => if y.id = c.id then { y with moved := y.moved + u } else y }

/-- A Weighbridge store is durable (R245, R250, R260, R295, R299). -/
def State.ckptDurable (s : State) (c : Ckpt) : State :=
  let s := (s.set F.WBG_CKPT_SEQ c.seq).modHay fun h => { h with ckpt := some c, ckptOld := h.ckpt }
  let s := if c.final then (s.modPwr fun w => { w with gapCause := 0 }) else s
  let s := forAll (List.range 4) (fun k s => s.set (F.WBG_POk_AHEAD k) (s.get (F.WBG_POk_AHEAD k) - c.ahead.getD k 0)) s
  let s := (s.modWbg fun w => { w with capAt := c.edge.at_ }).showAge
  let done := s.bil.waiting.take c.readings
  let met := s.bil.ckWaits.filter fun x => x.2.2 < c.edge.at_
  let s := s.modBil fun b => { b with
    waiting := b.waiting.drop c.readings, ckWaits := b.ckWaits.filter fun x => c.edge.at_ ≤ x.2.2 }
  let s := done.foldl (fun t r => t.readingDurable r) s
  let s := c.bil.debits.foldl (fun t d => t.settleDebit d) s
  let s := met.foldl (fun t x => t.finish x.1 x.2.1 0x00 (c.seq % 2 ^ 32)) s
  (s.setB F.BIL_STATUS_SIGN_BACKLOG (decide (256 < s.bil.journal.length))).refreshHeld

/-! ### Pulse outputs (R250, R253) -/

/-- PULSE_OUTPUT_START (R253): the pulse at the head of output `k` is due and the least off time has passed. -/
def execPulseOutputStart (k : Nat) (s : State) : Host.Outcome State Fault Refusal :=
  .next (
    let x := s.wbg.pulses.getD k Pulse.init
    let free := match x.lastEnd with
      | some t => decide (t + s.get (F.WBG_POk_CFG_OFF_MS k) * 250000 ≤ s.chrono)
      | none => true
    match x.queue with
    | [] => s
    | due :: t =>
      if 4 ≤ k ∨ s.metersOn = false ∨ s.flag (F.WBG_POk_CFG_ENABLE k) = false ∨ x.on.isSome ∨ s.chrono < due ∨ free = false then s
      else
        (s.modWbg fun w => { w with pulses := modAt w.pulses k fun y => { y with
          queue := t, on := some (s.chrono + s.get (F.WBG_POk_CFG_ON_MS k) * 250000) } }).incSat (F.WBG_POk_AHEAD k))

/-- PULSE_OUTPUT_END (R253): the on time ends, and the least off time starts. -/
def execPulseOutputEnd (k : Nat) (s : State) : Host.Outcome State Fault Refusal :=
  .next (
    match (s.wbg.pulses.getD k Pulse.init).on with
    | some t =>
      if s.chrono < t then s
      else s.modWbg fun w => { w with pulses := modAt w.pulses k fun y => { y with on := none, lastEnd := some s.chrono } }
    | none => s)

/-- An output is disabled (R262): it goes off, and the residue stays. -/
def State.pulseOff (s : State) (k : Nat) : State :=
  s.modWbg fun w => { w with pulses := modAt w.pulses k fun y =>
    if y.on.isSome then { y with on := none, lastEnd := some s.chrono } else y }

/-- An output's channel, direction or constant changes (R252): residue and backlog clear. -/
def State.pulseCleared (s : State) (k : Nat) : State :=
  (s.modWbg fun w => { w with pulses := modAt w.pulses k fun y => { y with res := 0, queue := [] } }).set (F.WBG_POk_RESIDUE k) 0

/-! ### S0 inputs (R255-R257, R261) -/

/-- Show SUBSTITUTE on the feeders that an input stands in for (R257). -/
def State.showSubstitute (s : State) : State :=
  forAll (List.range 4) (fun f s =>
    let on := (List.range 4).any fun k => s.get (F.WBG_S0k_CFG_MODE k) = 2 ∧ s.get (F.WBG_S0k_CFG_CHANNEL k) = 48 + f
    let s := if on && !s.flag (F.WBG_Mc_STATE_SUBSTITUTE (48 + f)) then
        s.modMet (48 + f) fun m => { m with ivFlags := setBitOf m.ivFlags 11 true } else s
    let s := if !on && s.flag (F.WBG_Mc_STATE_SUBSTITUTE (48 + f)) then
        s.modMet (48 + f) fun m => { m with ivFlags := setBitOf m.ivFlags 11 true } else s
    s.setB (F.WBG_Mc_STATE_SUBSTITUTE (48 + f)) on) s

/-- A COMPARE that runs ends with `status` and its window is discarded (R256, R261). -/
def State.compareStop (s : State) (k status : Nat) : State :=
  match s.wbg.cmp.getD k none with
  | some x => (s.modWbg fun w => { w with cmp := modAt w.cmp k fun _ => none }).finish x.p x.num status 0
  | none => s

/-- The input takes the mode, channel, direction and constant of a PULSE_INPUT_MODE PARAM (byte 0 is PARAM byte 24). -/
def State.setInput (s : State) (k : Nat) (b : List Nat) : State :=
  let s := s.compareStop k 0x45
  let s := (s.set (F.WBG_S0k_CFG_MODE k) (byteAt b 0)).set (F.WBG_S0k_CFG_CHANNEL k) (byteAt b 1)
  let s := (s.set (F.WBG_S0k_CFG_DIRECTION k) (byteAt b 2)).set (F.WBG_S0k_CONST k) (leAt b 4 4)
  (s.modWbg fun w => { w with edges := modAt w.edges k fun _ => [] }).showSubstitute

/-- The input's setting in the PARAM layout. -/
def State.inputBytes (s : State) (k : Nat) : List Nat :=
  [s.get (F.WBG_S0k_CFG_MODE k), s.get (F.WBG_S0k_CFG_CHANNEL k), s.get (F.WBG_S0k_CFG_DIRECTION k), 0] ++ le 4 (s.get (F.WBG_S0k_CONST k))

/-- PULSE_INPUT_MODE (R255, R257, R261). -/
def execPulseInputMode (p tag : Nat) (s : State) : Host.Outcome State Fault Refusal :=
  .next (s.take p tag 0x0503 fun d s =>
    let k := d.target
    let mode := d.arg 24 1
    let ch := d.arg 25 1
    let win := d.arg 32 4
    let sub := decide (s.get (F.WBG_S0k_CFG_MODE k) = 2)
    let ok := decide (mode ≤ 2) && decide (ch ≤ 51) && decide (d.arg 26 1 ≤ 1) && decide (1 ≤ d.arg 28 4) &&
      decide (d.arg 28 4 ≤ 100000000) && (if mode = 1 then decide (10 ≤ win) && decide (win ≤ 100000) else decide (win = 0))
    if ok = false then s.finish p d.num 0x41 0
    else if mode = 2 ∧ ch < 48 then s.finish p d.num 0x43 0
    else if (mode = 2 ∨ sub = true) ∧ (s.ownsWindow p = false ∨ mode = 1) then s.finish p d.num 0x40 0
    else if mode = 2 ∨ sub = true then
      let r := s.logChange 3 p 0x0503 (opcodeBody 0x0503 k (s.inputBytes k) d.param) (.input p d.num k d.param)
      if r.1 = 0 then r.2 else r.2.finish p d.num r.1 0
    else if mode = 1 then
      (s.setInput k d.param).modWbg fun w => { w with cmp := modAt w.cmp k fun _ => some ⟨p, d.num, win, 0, none, none, 0, []⟩ }
    else (s.setInput k d.param).finish p d.num 0x00 0)

/-- The entry of a window-bound PULSE_INPUT_MODE is durable (R257). -/
def State.inputDurable (s : State) (p num k : Nat) (param : List Nat) : State := (s.setInput k param).finish p num 0x00 0

/-- S0_INPUT_EDGE (R255): a leading edge on input `k` has stood for the filter time; `at_` is its first transition. -/
def execS0InputEdge (k at_ : Nat) (s : State) : Host.Outcome State Fault Refusal :=
  .next (
    if 4 ≤ k ∨ s.metersOn = false then s
    else
      let s := s.inc (F.WBG_S0k_COUNT k)
      let m := s.get (F.WBG_S0k_CFG_MODE k)
      if m = 2 then s.modWbg fun w => { w with edges := modAt w.edges k fun l => l ++ [at_] }
      else
        match s.wbg.cmp.getD k none with
        | none => s
        | some x =>
          let y := if x.close.isSome then x
            else if x.open_.isNone then { x with open_ := some at_ }
            else if x.edges + 1 = x.window then { x with edges := x.edges + 1, close := some at_ }
            else { x with edges := x.edges + 1 }
          (s.modWbg fun w => { w with cmp := modAt w.cmp k fun _ => some y }).compareEnd (s.wbg.nextMs * 250000) k)

/-- PULSE_COMPARE_TIMEOUT (R256): no edge for 60 s. -/
def execPulseCompareTimeout (k : Nat) (s : State) : Host.Outcome State Fault Refusal :=
  .next (
    match s.wbg.cmp.getD k none with
    | some x => if x.close.isSome then s else (s.set (F.WBG_S0k_CFG_MODE k) 0).compareStop k 0x06
    | none => s)

end Sys2Proof.Machine
end

