-- ==== Sys2Proof/Machine/Billing.lean ====
section
/-!
DEFINITION. Billing's commands (R263-R308): wall time and the legal tick, intervals and tariff switches, readings, prepay,
tamper.
-/
namespace Sys2Proof.Machine

/-! ### Intervals and tariff switches (R272-R287) -/

/-- Close the open interval now and open the next with block flags `new` (R273, R284, R285): INTERVAL_CLOSED (0x0602); the
block's header goes with the split point. -/
def State.closeInterval (s : State) (flags new : Nat) : Step × State :=
  let b := s.bil
  let fl := setBitOf (setBitOf (setBitOf b.ivFlags 5 b.frozen) 3 (bitOf b.ivFlags 3 || bitOf flags 3)) 6
    (bitOf b.ivFlags 6 || s.tamperOpen)
  let w := s.wall
  let tick := s.get F.BIL_TICK
  let dur := (Config.rnd ((s.chrono : Int) - b.ivAt) 250000).toNat
  let head := [0x45, 0x53, 0x57, 0x50, 0x01, b.ivMin] ++ le 2 fl ++ le 8 b.blockSeq ++ le 8 b.ivWall ++ le 8 w ++ le 6 b.ivTick ++
    le 6 tick ++ le 4 dur ++ le 4 (s.get F.BIL_TARIFF_EPOCH) ++ [b.ivTariff, b.tariff] ++ List.replicate 10 0
  let min' := if b.ivWall / 65536 / 86400 < w / 65536 / 86400 then s.get F.BIL_INTERVAL_CFG_MINUTES else b.ivMin
  let s := s.modBil fun b => { b with
    ivWall := w, ivTick := tick, ivAt := s.chrono, ivMin := min', ivEnd := nextBoundary min' w, ivTariff := b.tariff
    ivFlags := setBitOf new 6 s.tamperOpen, lastEnd := w, blockSeq := b.blockSeq + 1 }
  (.interval head b.interval (s.edgeNow s.chrono), (s.setB F.BIL_TIME_STATUS_TIME_BACK false).raise 0x0602 0 0xFFFF (le 8 b.blockSeq ++ le 2 fl))

/-- A switch executes (R279): LAST_SWITCH, and TARIFF_SWITCH (0x0601) where the tariff changes, `cause` 0 calendar, 1 step, 2 freeze
end, 3 epoch, 4 restore. -/
def State.switchTariff (s : State) (k cause : Nat) : State :=
  let old := s.bil.tariff
  let s := (s.modBil fun b => { b with
    tariff := k, ivTariff := (if b.ivAt = (s.chrono : Int) then k else b.ivTariff), switched := s.wall }).set F.BIL_LAST_SWITCH s.wall
  if k = old then s else s.raise 0x0601 1 0xFFFF ([old, k, cause, 0, 0, 0, 0, 0] ++ le 8 s.wall)

/-- The step that a switch to `k` is at its split point. -/
def State.tariffStep (s : State) (k : Nat) : Step := .tariff k (s.get F.BIL_LAST_SWITCH)

/-- The last switch of the calendar, where switching is not frozen (R275) and wall time is valid (R268). -/
def State.lastSwitch (s : State) : Option (Nat × Nat) :=
  if s.bil.frozen ∨ s.flag F.BIL_TIME_STATUS_VALID = false then none else calSwitch s.bil.calTab s.wall

/-- The calendar's tariff for now where it differs from the one in force (R280). -/
def State.newTariff (s : State) : Option Nat :=
  match s.lastSwitch with
  | some x => if x.2 = s.bil.tariff then none else some x.2
  | none => none

/-- The tariff that a switch reached by now gives (R279), be it the one in force already; where none is due, `newTariff`. -/
def State.dueTariff (s : State) : Option Nat :=
  match s.lastSwitch with
  | some x => if s.bil.switched < x.1 then some x.2 else s.newTariff
  | none => none

/-- The calendar's switches up to now are done or passed over. -/
def State.passSwitches (s : State) : State := s.modBil fun b => { b with switched := s.wall }

/-- Switch to the calendar's tariff if it differs, at a split point of its own. -/
def State.applyTariff (s : State) (cause : Nat) : State :=
  match s.newTariff with
  | some k => (s.switchTariff k cause).addSplit s.chrono none [s.tariffStep k]
  | none => s.passSwitches

/-- Has the interval that a restore opens not opened yet (R282)? -/
def State.noInterval (s : State) : Bool :=
  match s.bil.reopen with
  | some g => g.vbat
  | none => false

/-- BILLING_BOUNDARY (R272, R281): what falls at this instant: the interval's end, a tariff switch, the seal of the day. -/
def execBillingBoundary (s : State) : Host.Outcome State Fault Refusal :=
  .next (
    if s.metersOn = false ∨ s.flag F.BIL_TIME_STATUS_VALID = false then s
    else
      let w := s.wall
      let close := decide (s.bil.ivEnd ≤ w) && !s.noInterval
      let midnight := w / 65536 / 86400 * 86400 * 65536
      let sealing := close && decide (s.bil.ivEnd = midnight) && decide (s.bil.lastSeal < midnight)
      let r := if close then
          let c := s.closeInterval 0 0
          ([c.1], c.2)
        else ([], s)
      let q := match r.2.dueTariff with
        | some k => (r.1 ++ [r.2.tariffStep k], r.2.switchTariff k 0)
        | none => r
      let t := if sealing then (q.1 ++ [Step.seal midnight s.bil.lastSeal (s.edgeNow s.chrono)], q.2.modBil fun b => { b with lastSeal := midnight }) else q
      if t.1.isEmpty then t.2 else t.2.addSplit s.chrono none t.1)

/-- TARIFF_FREEZE_END (R275): wall time passes the last executed switch. -/
def execTariffFreezeEnd (s : State) : Host.Outcome State Fault Refusal :=
  .next (
    if s.bil.frozen = false ∨ s.metersOn = false ∨ s.flag F.BIL_TIME_STATUS_VALID = false ∨ s.wall < s.get F.BIL_LAST_SWITCH then s
    else ((s.modBil fun b => { b with frozen := false }).setB F.BIL_STATUS_TIME_FROZEN false).applyTariff 2)

/-! ### Wall time and the legal tick (R266-R275) -/

/-- LEGAL_TICK_ADVANCE (R266): a second of the RTC. -/
def execLegalTickAdvance (s : State) : Host.Outcome State Fault Refusal :=
  .next (s.inc F.BIL_TICK)

/-- Raise an event that is written to the event log whatever MIN_SEVERITY says (R271, R527). -/
def State.raiseLogged (s : State) (code sev src : Nat) (payload : List Nat) : State :=
  if s.get F.HAY_CFG_MIN_SEVERITY ≤ sev then s.raise code sev src payload
  else (s.raise code sev src payload).logEvent ⟨code, sev, src, payload⟩ true

/-- 2 s, in the unit of `Clock.val`. -/
def twoSeconds : Int := 2 * 65536 * wallUnit

/-- A step of wall time (R271, R273-R275): at Chronobase `at_` it is `new`. The descriptor ends once the TIME record is
durable, or at once when none is needed. -/
def State.timeStep (s : State) (at_ new p num : Nat) : State :=
  let old := s.wallAt at_
  let delta := (new : Int) * wallUnit - s.bil.clk.fine at_
  let big := decide (twoSeconds < delta) || decide (delta < -twoSeconds)
  let s := s.modBil fun b => { b with clk := ⟨(new : Int) * wallUnit, at_, 0, 0⟩ }
  let s := (s.setB F.BIL_TIME_STATUS_SLEWING false).setB F.BIL_TIME_STATUS_VALID true
  let w := s.wall
  let frozen := decide (w < s.get F.BIL_LAST_SWITCH)
  let s := (s.modBil fun b => { b with frozen := frozen }).setB F.BIL_STATUS_TIME_FROZEN frozen
  let r := if s.noInterval then ([], s)
    else if 0 ≤ delta then
      if s.bil.ivEnd ≤ w then
        let c := s.closeInterval 8 8
        ([c.1], c.2)
      else ([], s.modBil fun b => { b with ivFlags := setBitOf b.ivFlags 3 (decide (0 < delta) || bitOf b.ivFlags 3) })
    else ([], (s.modBil fun b => { b with
      ivFlags := setBitOf b.ivFlags 2 true, ivEnd := nextBoundary b.ivMin b.lastEnd, switched := min b.switched w }).setB F.BIL_TIME_STATUS_TIME_BACK true)
  let q := match r.2.dueTariff with
    | some k => (r.1 ++ [r.2.tariffStep k], r.2.switchTariff k 1)
    | none => r
  let s := if q.1.isEmpty then q.2 else q.2.addSplit q.2.chrono none q.1
  let s := (s.raiseLogged 0x0603 1 0xFFFF (le 8 old ++ le 8 new)).refreshHeld
  if big then
    s.capture (s.takeNow { Reading.plain 0x08 none (le 8 old ++ le 8 new ++ le 8 at_ ++ [p]) with
      after_ := ⟨some (p, num), none⟩ })
  else s.finish p num 0x00 0

/-- TIME_SET (R268-R271). -/
def execTimeSet (p tag : Nat) (s : State) : Host.Outcome State Fault Refusal :=
  .next (s.take p tag 0x0601 fun d s =>
    let new := d.arg 24 8
    let mode := d.arg 32 1
    let rate := d.arg 33 1
    let at_ := if d.arg 40 8 = 0 then s.chrono else d.arg 40 8
    let delta := (new : Int) * wallUnit - s.bil.clk.fine at_
    let bad := decide (1 < mode) || (if mode = 1 then decide (200 < rate) else decide (rate ≠ 0)) ||
      decide (s.chrono + 250000000 < at_) || decide (at_ + 250000000 < s.chrono) ||
      (s.bil.genesis && decide (new < s.bil.genesisWall)) ||
      (decide (mode = 1) && (decide (5 * twoSeconds < delta) || decide (delta < -(5 * twoSeconds))))
    if bad then s.finish p d.num 0x40 0
    else if mode = 1 then
      let ppm : Nat := if rate = 0 then 200 else rate
      let s := s.modBil fun b => { b with clk :=
        ⟨b.clk.fine s.chrono, s.chrono, if delta < 0 then -(ppm : Int) else if delta = 0 then 0 else ppm, delta⟩ }
      (s.setB F.BIL_TIME_STATUS_SLEWING (decide (delta ≠ 0))).finish p d.num 0x00
        (Config.rnd ((delta.natAbs : Int) * 1000000) (65536 * 250000000000000 * ppm)).toNat
    else if (twoSeconds < delta ∨ delta < -twoSeconds) ∧ (s.get F.TCK_LIFECYCLE_STATE ≠ 3 ∨ s.bil.genesis = false) then
      s.finish p d.num 0x05 0
    else
      let s := (s.modBil fun b => { b with clk := ⟨b.clk.fine s.chrono, s.chrono, 0, 0⟩ }).setB F.BIL_TIME_STATUS_SLEWING false
      if s.chrono < at_ then s.modBil fun b => { b with stepWait := b.stepWait ++ [(at_, new, p, d.num)] }
      else s.timeStep at_ new p d.num)

/-- TIME_SET_AT_CHRONOBASE (R271): the Chronobase reaches the AT_CHRONOBASE of the first step that waits. -/
def execTimeSetAtChronobase (s : State) : Host.Outcome State Fault Refusal :=
  .next (
    match s.bil.stepWait with
    | [] => s
    | x :: t => if s.chrono < x.1 then s else (s.modBil fun b => { b with stepWait := t }).timeStep x.1 x.2.1 x.2.2.1 x.2.2.2)

/-- TIME_SLEW_END (R270): DELTA is absorbed. -/
def execTimeSlewEnd (s : State) : Host.Outcome State Fault Refusal :=
  .next (
    if s.flag F.BIL_TIME_STATUS_SLEWING then
      (s.modBil fun b => { b with clk :=
        ⟨b.clk.val + ((s.chrono : Int) - b.clk.at_) * 65536 * 1000000 + b.clk.total, s.chrono, 0, 0⟩ }).setB
        F.BIL_TIME_STATUS_SLEWING false
    else s)

/-! ### Readings (R293-R297, R304, R305) -/

/-- May a record be written (R478)? -/
def State.mayRecord (s : State) : Bool := decide (s.get F.TCK_LIFECYCLE_STATE = 3) && s.bil.genesis

/-- READING_TAKE (R304): captured at the next allocation boundary. -/
def execReadingTake (p tag : Nat) (s : State) : Host.Outcome State Fault Refusal :=
  .next (s.take p tag 0x0602 fun d s =>
    if s.mayRecord = false ∨ 1024 ≤ s.bil.journal.length + s.bil.waiting.length + s.bil.takes.length then s.finish p d.num 0x05 0
    else s.modBil fun b => { b with takes := b.takes ++ [⟨s.chrono, d.target, bitOf (d.arg 24 1) 0, p, d.num⟩] })

/-- Bytes 0 to 383 of a record (R292). -/
def State.recordHead (s : State) (r : Reading) : List Nat :=
  [0x45, 0x53, 0x57, 0x52, 0x01, r.kind] ++ le 2 r.flags ++ le 8 r.seq ++ le 8 (s.get F.GLB_SERIAL) ++
    le 4 (s.get F.TCK_LIFECYCLE_COUNT * 256 + 1) ++ le 2 (r.ch.getD 0xFFFF) ++ [0, 0] ++ le 8 r.wall ++
    le 6 r.tick ++ [0, 0] ++ le 8 r.chrono ++ le 4 r.boot ++ [0, 0, 0, 0] ++
    (if r.kind = 1 then List.replicate 64 0 else sha512 (s.bil.lastRec.take 3760)) ++ padTo 256 r.body

/-- READING_SIGN (R293, R295): the oldest durable reading is signed and appended to READINGS: READING_SIGNED (0x0605).
Where slot 1 fails its integrity check, KEY_FAULT (0x0D05) is raised and nothing is signed (R486). -/
def execReadingSign (keyBad : Bool) (s : State) : Host.Outcome State Fault Refusal :=
  .next (
    if keyBad = true ∧ s.domainOn 7 = true then
      ((s.modTck fun t => { t with signBad := true }).setB F.TCK_STATUS_KEY_FAULT true).raise 0x0D05 3 0xFFFF (le 2 1)
    else match s.bil.journal with
    | [] => s
    | r :: t =>
      if s.domainOn 7 = false ∨ s.domainOn 5 = false ∨ s.regionFull 1 = true then s
      else
        let head := s.recordHead r
        let g := s.signDual 1 "ESW-READ" (sha512 head)
        let rec_ := head ++ g.1 ++ [0, 0, 0]
        let s := (g.2.append 1 rec_).modBil fun b => { b with journal := t, lastRec := rec_ }
        let s := s.modTck fun t => { t with signBad := false }
        let s := s.raise 0x0605 0 (r.ch.getD 0xFFFF) (le 8 r.seq ++ [r.kind])
        (s.setB F.BIL_STATUS_SIGN_BACKLOG (decide (256 < t.length))).refreshHeld)

/-- Whole items of a region from a sequence number, at most `count` and as many as `len` bytes hold. -/
def fetchItems (r : Region) (size from_ count len : Nat) : List (List Nat) :=
  ((r.items.drop (from_ - r.base)).take count).take (len / size)

/-- RECORD_FETCH (R305). -/
def execRecordFetch (p tag : Nat) (s : State) : Host.Outcome State Fault Refusal :=
  .next (if s.listReads then s else s.take p tag 0x0603 fun d s =>
    let rid := d.arg 24 1 + 1
    let mark := bitOf (d.arg 25 1) 0
    let from_ := d.arg 32 8
    let count := d.arg 40 4
    let x := s.region rid
    let top := x.base + x.items.length
    let head := if rid = 1 then s.get F.BIL_REC_SEQ else top
    if 2 < rid ∨ 1 < d.arg 25 1 ∨ count = 0 ∨ 1024 < count then s.finish p d.num 0x40 0
    else if mark = true ∧ s.hasRight p 1 = false then s.finish p d.num 0x02 0
    else if head < from_ ∨ from_ < x.base then s.finish p d.num 0x42 0
    else if from_ = head then s.finish p d.num 0x00 0
    else if top ≤ from_ then s.finish p d.num 0x05 0
    else
      let all := (x.items.drop (from_ - x.base)).take count
      let out := fetchItems x (itemSize rid) from_ count d.length
      let s := if mark && !out.isEmpty then s.setRegion rid { x with mark := max x.mark (from_ + out.length) } else s
      let s := if out.isEmpty then s else s.bufWrite p d out.flatten
      (s.finish p d.num (if out.length = all.length then 0x00 else 0x01) (all.length * itemSize rid) (!out.isEmpty)).refreshHeld)

/-! ### Prepay (R306, R307) -/

/-- Operations captured or waiting that are not yet in an account's balance. -/
def State.pendingOps (s : State) (a : Nat) : Int :=
  (s.bil.waiting.map fun r => match r.after_.account with
    | some x => if x.1 = a then x.2.1 else 0
    | none => 0).foldl (· + ·) 0

/-- Capture a PREPAY record that changes an account (R306). -/
def State.prepayOp (s : State) (p num a op amount : Nat) (delta : Int) (limit : Option Nat) (ref : Nat) : State :=
  let after := s.live a + s.pendingOps a + delta
  s.capture (s.takeNow { Reading.plain 0x0A none
      (prepayBody a op amount (ofSigned 64 after) (limit.getD (s.acct a).lim) ref 0xFFFFFFFF) with
    after_ := ⟨some (p, num), some (a, delta, limit)⟩ })

/-- PREPAY_CREDIT (R306). -/
def execPrepayCredit (p tag : Nat) (s : State) : Host.Outcome State Fault Refusal :=
  .next (s.take p tag 0x0604 fun d s =>
    let a := d.arg 24 4
    let set := bitOf (d.arg 28 1) 0
    let amt := d.arg 32 8
    let lim := d.arg 40 8
    if 65535 < a ∨ 1 < d.arg 28 1 ∨ 2 ^ 62 < amt ∨ (amt = 0 ∧ set = false) ∨ 2 ^ 62 < lim ∨ (set = false ∧ lim ≠ 0) then s.finish p d.num 0x40 0
    else if s.mayRecord = false then s.finish p d.num 0x05 0
    else s.prepayOp p d.num a (if set then 2 else 0) amt amt (if set then some lim else none) (d.arg 48 8))

/-- PREPAY_DEBIT (R306). -/
def execPrepayDebit (p tag : Nat) (s : State) : Host.Outcome State Fault Refusal :=
  .next (s.take p tag 0x0605 fun d s =>
    let a := d.arg 24 4
    let amt := d.arg 32 8
    if 65535 < a ∨ d.arg 28 1 ≠ 0 ∨ 2 ^ 62 < amt ∨ amt = 0 ∨ d.arg 40 8 ≠ 0 then s.finish p d.num 0x40 0
    else if s.mayRecord = false then s.finish p d.num 0x05 0
    else if s.liveFine a + (s.pendingOps a - amt) * 2 ^ 32 < -((s.acct a).lim : Int) * 2 ^ 32 then s.finish p d.num 0x41 0
    else s.prepayOp p d.num a 1 amt (-(amt : Int)) none (d.arg 48 8))

/-- PREPAY_QUERY (R307). -/
def execPrepayQuery (p tag : Nat) (s : State) : Host.Outcome State Fault Refusal :=
  .next (s.take p tag 0x0606 fun d s =>
    let a := d.arg 24 4
    if 65535 < a then s.finish p d.num 0x40 0
    else
      let x := s.acct a
      let fine := s.liveFine a
      let st := b2n (decide (fine < (s.get F.BIL_PREPAY_CFG_LOW_WARN : Int) * 2 ^ 32)) + 2 * b2n (decide (fine < 0)) +
        4 * b2n (decide (fine ≤ -(x.lim : Int) * 2 ^ 32))
      s.finishBuf p d (le 8 (ofSigned 64 (s.live a)) ++ le 8 x.lim ++ [st, (s.sessionsOn a).length, 0, 0] ++ le 8 x.changed ++
        [0, 0, 0, 0]))

/-- FRIENDLY_WINDOW_END (R301): accounts exhausted in the window are handled under R300. -/
def execFriendlyWindowEnd (s : State) : Host.Outcome State Fault Refusal :=
  .next (if calFriendly s.bil.calTab s.wall then s else s.checkAccts)

/-! ### Sessions (R289, R290) -/

/-- Does Billing refuse to open a session on this binding (R40, R290)? -/
def State.refuses (s : State) (b : Bind) : Bool :=
  decide (s.heldCauses ≠ 0) || !s.bil.finalSeen || (match b.account with
    | some a => decide (s.liveFine a + ((s.acct a).lim : Int) * 2 ^ 32 ≤ 0)
    | none => false)

/-! ### Tamper (R302, R303) -/

/-- TAMPER (0x0608) and its status bit (R303). -/
def State.raiseTamper (s : State) (input edge : Nat) (vbat : Bool) : State :=
  (s.setB F.BIL_STATUS_TAMPER true).raise 0x0608 3 0xFFFF [input, edge, b2n vbat]

/-- The TAMPER record of one log entry (R303). An edge sensed on VBAT alone raises TAMPER only now. -/
def State.tamperRecord (s : State) (x : TamperEntry) : State :=
  let body := [x.input, x.edge, b2n x.vbat, 0, 0, 0, 0, 0] ++ le 8 x.wall ++ le 6 x.tick ++ le 2 (min x.dropped 65535)
  let s := if x.vbat then s.raiseTamper x.input x.edge true else s
  s.capture (s.takeNow (Reading.plain 0x09 none body))

/-- Turn the log's entries into records, in order (R303). -/
def State.drainTamper (s : State) : State :=
  let l := s.bil.tlog
  l.foldl (fun t x => t.tamperRecord x) (s.modBil fun b => { b with tlog := [] })

/-- Is tamper input `i` open: enabled, and not at its closed level (R302)? -/
def State.inputOpen (s : State) (i : Nat) : Bool :=
  if i = 0 then s.flag F.BIL_TAMPER_CFG_COVER_EN && (bitOf s.bil.levels 0 != s.flag F.BIL_TAMPER_CFG_COVER_HIGH)
  else s.flag F.BIL_TAMPER_CFG_TERM_EN && (bitOf s.bil.levels 1 != s.flag F.BIL_TAMPER_CFG_TERM_HIGH)

/-- The inputs open now. -/
def State.showTamper (s : State) : State := s.set F.BIL_TAMPER_STATE_OPEN (b2n (s.inputOpen 0) + 2 * b2n (s.inputOpen 1))

/-- TAMPER_EDGE (R302, R303): input 0 (cover) or 1 (terminal block) holds the level `high`, sensed with main power or on VBAT alone;
`wall` is the RTC's while the device is off. -/
def execTamperEdge (input : Nat) (high vbat : Bool) (wall : Nat) (s : State) : Host.Outcome State Fault Refusal :=
  .next (
    if 1 < input then s
    else
      let was := s.inputOpen input
      let s := (s.modBil fun b => { b with levels := setBitOf b.levels input high }).showTamper
      let opened := s.inputOpen input
      if opened = was then s
      else
      let s := if vbat then s else s.raiseTamper input (b2n (!opened)) false
      let s := if opened then s.modBil fun b => { b with ivFlags := setBitOf b.ivFlags 6 true } else s
      if 16 ≤ s.bil.tlog.length then (s.incSat F.BIL_TAMPER_STATE_DROPPED).modBil fun b => { b with tdrop := b.tdrop + 1 }
      else
        let e : TamperEntry := ⟨input, b2n (!opened), vbat, if vbat then wall else s.wall, s.get F.BIL_TICK, s.bil.tdrop⟩
        let s := s.modBil fun b => { b with tlog := b.tlog ++ [e], tdrop := 0 }
        if s.inRun then s.drainTamper else s)

end Sys2Proof.Machine
end

