-- ==== Sys2Proof/Machine/Opcodes.lean ====
section
/-!
DEFINITION. The master opcode table (R77): right, handover class, target and executing domain (R87) of every opcode, and what
check 1 of R65 asks of each opcode's PARAM and LENGTH (R610 sends the other ranges to the block).
-/
namespace Sys2Proof.Machine

/-- Handover class (R77): Y re-executed, N ended, F re-executed when IDEMPOTENT is set. -/
inductive ReExec where
  | y | n | f
  deriving DecidableEq, Repr

/-- What TARGET names (R77). -/
inductive TargetKind where
  | none | stall | range (n : Nat) | channel
  deriving DecidableEq, Repr

/-- A row of the opcode table: right bit (none for no right), class, target, domain bit (R87, R538). -/
structure OpRow where
  code : Nat
  right : Option Nat
  re : ReExec
  target : TargetKind
  domain : Nat
  deriving DecidableEq, Repr

def opRowsA : List OpRow := [
  ⟨0x0001, none, .y, .none, 4⟩, ⟨0x0002, some 2, .n, .none, 6⟩, ⟨0x0003, some 2, .n, .none, 6⟩,
  ⟨0x0101, none, .y, .none, 7⟩, ⟨0x0201, some 0, .y, .stall, 8⟩, ⟨0x0202, some 4, .n, .stall, 8⟩,
  ⟨0x0203, some 0, .y, .stall, 8⟩, ⟨0x0204, some 0, .y, .stall, 8⟩, ⟨0x0301, some 0, .y, .stall, 9⟩,
  ⟨0x0302, some 0, .y, .range 16, 9⟩, ⟨0x0303, some 0, .y, .range 16, 9⟩, ⟨0x0304, some 0, .y, .range 96, 9⟩,
  ⟨0x0305, some 3, .y, .none, 9⟩, ⟨0x0401, some 0, .y, .stall, 9⟩, ⟨0x0402, some 0, .y, .stall, 9⟩,
  ⟨0x0501, some 1, .n, .channel, 8⟩, ⟨0x0502, some 1, .y, .none, 8⟩, ⟨0x0503, some 1, .y, .range 4, 8⟩,
  ⟨0x0601, some 1, .n, .none, 8⟩, ⟨0x0602, some 1, .n, .channel, 8⟩, ⟨0x0603, some 3, .y, .none, 8⟩,
  ⟨0x0604, some 1, .n, .none, 8⟩, ⟨0x0605, some 1, .n, .none, 8⟩, ⟨0x0606, some 3, .y, .none, 8⟩,
  ⟨0x0701, some 0, .y, .stall, 10⟩, ⟨0x0702, some 0, .y, .stall, 10⟩, ⟨0x0703, some 3, .y, .stall, 10⟩,
  ⟨0x0704, some 0, .f, .stall, 10⟩, ⟨0x0705, some 0, .y, .none, 10⟩ ]

def opRowsB : List OpRow := [
  ⟨0x0801, some 0, .y, .range 8, 13⟩, ⟨0x0802, some 0, .y, .stall, 13⟩, ⟨0x0803, some 0, .y, .range 8, 13⟩,
  ⟨0x0901, some 0, .y, .range 4, 14⟩, ⟨0x0A01, some 0, .y, .range 16, 15⟩, ⟨0x0A02, some 0, .y, .range 16, 15⟩,
  ⟨0x0B01, some 0, .f, .range 8, 11⟩, ⟨0x0B02, some 0, .y, .range 8, 11⟩, ⟨0x0C01, some 4, .n, .none, 2⟩,
  ⟨0x0C02, some 4, .n, .stall, 2⟩, ⟨0x0D01, some 2, .y, .none, 7⟩, ⟨0x0D02, some 2, .n, .none, 7⟩,
  ⟨0x0D03, some 4, .n, .none, 7⟩, ⟨0x0D04, some 4, .y, .none, 7⟩, ⟨0x0D05, some 2, .n, .range 256, 7⟩,
  ⟨0x0D06, some 2, .n, .range 256, 7⟩, ⟨0x0D07, some 3, .n, .none, 7⟩, ⟨0x0D08, some 4, .n, .none, 7⟩,
  ⟨0x0E01, some 2, .y, .none, 5⟩, ⟨0x0E02, some 2, .f, .none, 5⟩, ⟨0x0E03, some 3, .y, .none, 5⟩,
  ⟨0x0F01, some 2, .n, .none, 4⟩, ⟨0x0F02, some 2, .n, .none, 4⟩, ⟨0x0F03, some 0, .y, .none, 4⟩,
  ⟨0x0F04, some 3, .y, .none, 4⟩, ⟨0x1001, some 0, .y, .range 8, 12⟩ ]

def opRow? (code : Nat) : Option OpRow := (opRowsA ++ opRowsB).find? fun r => r.code = code

/-- Are the descriptor bytes `i` to `j` zero? -/
def Desc.zeros (d : Desc) (i j : Nat) : Bool := ((d.param.drop (i - 24)).take (j + 1 - i)).all fun b => b = 0

/-- Check 4 (R4, R65): TARGET in the opcode's range and present; 0xFFFF where the opcode takes none. -/
def targetOk (v : Variant) (k : TargetKind) (t : Nat) : Bool :=
  match k with
  | .none => decide (t = 0xFFFF)
  | .stall => decide (t < v.links)
  | .range n => decide (t < n)
  | .channel => decide (t < v.links) || (decide (48 ≤ t) && decide (t < 52))

end Sys2Proof.Machine
end

