-- ==== Sys2Proof/Machine/DescCheck.lean ====
section
/-!
DEFINITION. Check 1 of R65 for PARAM and LENGTH: reserved bytes, the sets that each opcode's PARAM table states for blocks
without a status OUT_OF_RANGE (R610), the variant (R5), and the session handle of check 4 (R4).
-/
namespace Sys2Proof.Machine

/-- Data bytes of a DLC (R412, ISO 11898-1). -/
def dlcLen (fdf rtr : Bool) (dlc : Nat) : Nat :=
  if rtr then 0
  else if dlc ≤ 8 then dlc
  else if fdf = false then 8
  else [12, 16, 20, 24, 32, 48, 64].getD (dlc - 9) 64

/-- Is a CAN_SEND well formed (R412)? -/
def State.canSendOk (s : State) (d : Desc) : Bool :=
  let fl := d.arg 28 1
  let fdf := bitOf fl 1
  let len := dlcLen fdf (bitOf fl 3) (d.arg 29 1)
  (if d.length = 0 then decide (len ≤ 32) else decide (d.length = len)) && (!fdf || s.flag (F.CAN_Cn_CTRL_FD_EN d.target)) &&
    !(bitOf fl 3 && fdf) && !(bitOf fl 2 && !fdf)

/-- The PARAM bytes of an opcode that its table leaves reserved, as ranges of descriptor bytes; all of PARAM where the opcode takes
none (R63). -/
def reservedBytes : Nat → List (Nat × Nat)
  | 0x0003 => [(26, 63)]
  | 0x0201 => [(29, 31)]
  | 0x0202 => [(25, 63)]
  | 0x0301 => [(32, 63)]
  | 0x0302 => [(28, 63)]
  | 0x0303 => [(28, 63)]
  | 0x0304 => [(34, 63)]
  | 0x0401 => [(25, 63)]
  | 0x0402 => [(52, 63)]
  | 0x0501 => [(25, 27), (46, 47), (56, 63)]
  | 0x0503 => [(27, 27), (36, 63)]
  | 0x0601 => [(34, 39), (48, 63)]
  | 0x0602 => [(25, 63)]
  | 0x0603 => [(26, 31), (44, 63)]
  | 0x0604 => [(29, 31), (56, 63)]
  | 0x0605 => [(29, 31), (56, 63)]
  | 0x0606 => [(28, 63)]
  | 0x0701 => [(30, 31)]
  | 0x0702 => [(29, 63)]
  | 0x0703 => [(28, 63)]
  | 0x0704 => [(32, 63)]
  | 0x0705 => [(26, 27)]
  | 0x0801 => [(35, 63)]
  | 0x0802 => [(25, 25), (29, 63)]
  | 0x0803 => [(25, 63)]
  | 0x0901 => [(32, 63)]
  | 0x0A01 => [(25, 63)]
  | 0x0A02 => [(25, 63)]
  | 0x0B01 => []
  | 0x0C01 => [(25, 63)]
  | 0x0C02 => [(25, 63)]
  | 0x0D02 => [(32, 63)]
  | 0x0D03 => [(26, 31)]
  | 0x0D05 => [(28, 63)]
  | 0x0D06 => [(28, 63)]
  | 0x0D07 => [(25, 25), (28, 31)]
  | 0x0D08 => [(25, 63)]
  | 0x0E01 => [(32, 63)]
  | 0x0E02 => [(32, 63)]
  | 0x0E03 => [(26, 31), (44, 63)]
  | 0x0F01 => [(25, 27), (32, 63)]
  | 0x0F03 => [(25, 63)]
  | 0x0F04 => [(25, 63)]
  | 0x1001 => [(26, 27), (34, 63)]
  | _ => [(24, 63)]

/-- A field that is zero unless a condition gives it a meaning. -/
def Desc.only (d : Desc) (c : Bool) (i j : Nat) : Bool := c || d.zeros i j

/-- PARAM fields and LENGTH in their stated ranges and sets, for the opcodes whose block has no status for them (R610); of the
other blocks only the bits that a chapter says are zero outside any field. -/
def State.paramSets (s : State) (d : Desc) : Bool :=
  let a := d.arg
  match d.opcode with
  | 0x0003 => decide (a 24 2 = 0) || (decide (10 ≤ a 24 2) && decide (a 24 2 ≤ 600))
  | 0x0201 => decide (a 24 4 ≠ 0)
  | 0x0301 =>
    let r := a 30 2
    (decide (a 24 1 ≤ 3) || decide (a 24 1 = 0xFF)) && (decide (r = 0) || decide (r = 0xFFFF) || (decide (10 ≤ r) && decide (r ≤ 6000)))
  | 0x0302 => decide (a 24 4 ≤ 600)
  | 0x0303 => decide (10 ≤ a 24 4) && decide (a 24 4 ≤ 600000)
  | 0x0602 => decide (a 24 1 ≤ 1)
  | 0x0701 =>
    let k := a 28 1
    let n := a 29 1
    decide (k ≤ 2) && (if k = 2 then decide (1 ≤ n) && decide (n ≤ 32) && decide (d.length = n - 12) else decide (n = 0)) &&
      (decide (a 32 4 ≤ 65535) || decide (a 32 4 = 0xFFFFFFFF)) && d.only (decide (k = 0)) 36 51 && d.only (decide (k = 2)) 52 63
  | 0x0702 => decide (a 28 1 ≤ 1)
  | 0x0704 =>
    let k := a 28 1
    decide (k ≤ 2) && (if k = 0 then decide (1 ≤ a 29 1) && decide (a 29 1 ≤ 3) else decide (a 29 1 = 0)) &&
      d.only (decide (k = 1)) 30 31
  | 0x0705 =>
    let n := a 25 1
    decide (1 ≤ a 24 1) && decide (a 24 1 ≤ 3) && decide (n ≤ 36) && ((d.param.drop (if n = 0 then 36 else 4 + n)).all fun b => b = 0)
  | 0x0B01 =>
    let fl := a 28 1
    decide (fl ≤ 31) && decide (a 29 1 ≤ 15) && decide (a 30 2 ≤ 10000) && decide (a 24 4 < 2 ^ (if bitOf fl 0 then 29 else 11)) &&
      d.only (decide (d.length = 0)) 32 63 && s.canSendOk d
  | 0x0C01 => decide (a 24 1 ≤ 7)
  | 0x0C02 => decide (a 24 1 ≤ 15)
  | 0x0D07 => (decide (a 24 1 ≠ 1) || decide (s.variant = .esw48)) && d.only (decide (a 24 1 = 0)) 26 27
  | 0x0F01 => decide (a 24 1 ≤ 2) && decide (a 28 4 ≤ 604800)
  | 0x0F03 => decide (a 24 1 ≤ 1)
  | 0x0F04 => decide (1 ≤ a 24 1) && decide (a 24 1 ≤ 16)
  | 0x1001 =>
    decide (a 24 1 ≤ 3) && decide (a 25 1 ≤ 3) &&
      (if a 24 1 = 2 then decide (d.length = 0) else decide (1 ≤ d.length) && decide (d.length ≤ 1048576))
  | _ => true

/-- The part of check 1 that reads PARAM and LENGTH (R65). -/
def State.paramOk (s : State) (d : Desc) : Bool :=
  ((reservedBytes d.opcode).all fun r => d.zeros r.1 r.2) && s.paramSets d

/-- Does the descriptor name a session handle whose context index the variant lacks (R4, R313)? -/
def State.handleBad (s : State) (d : Desc) : Bool :=
  let named := match d.opcode with
    | 0x0701 => true
    | 0x0702 => true
    | 0x0703 => true
    | 0x0704 => decide (d.arg 28 1 ≠ 0)
    | _ => false
  named && decide (d.arg 24 4 ≠ 0xFFFFFFFF) && decide (s.variant.sessions ≤ d.arg 24 4 % 128)

end Sys2Proof.Machine
end

