-- ==== Sys2Proof/Machine/LinkOps.lean ====
section
/-!
DEFINITION. Operations of the stall link (R92-R147): frames, tunnel slots, management messages, and the link's states.
-/
namespace Sys2Proof.Machine

/-- The CYCLE field of the frame that starts now (R100). -/
def State.cycleField (s : State) : Nat := s.chrono / 250000 % 512 * 128 + s.chrono / 2500 % 100

/-- The device's 32-bit millisecond count (R100). -/
def State.msCount (s : State) : Nat := s.chrono / 250000 % 2 ^ 32

/-! ### Schedule (R193, R194) -/

/-- Period starts in link cycle `c` among stalls in RUN. -/
def State.startsAt (s : State) (c : Nat) : Nat :=
  (s.stallNums.filter fun n => decide (s.linkState n = Link.run) && decide (s.get (F.WLK_Sn_TYPE_P n) ≠ 0) &&
    decide ((c + 2520 - s.get (F.WLK_Sn_SLOT_SLOT n)) % s.get (F.WLK_Sn_TYPE_P n) = 0)).length

/-- The most period starts in one link cycle; 2,520 is a multiple of every period length 4 to 10. -/
def State.worstStarts (s : State) : Nat := ((List.range 2520).map s.startsAt).foldl max 0

/-- The stall whose link entered RUN last. -/
def State.lastRun (s : State) : Nat :=
  (s.stallNums.filter fun n => decide (s.linkState n = Link.run)).foldl
    (fun b n => if (s.link b).runOrder < (s.link n).runOrder then n else b) 0

/-- Recount the schedule (R194): WLK_SCHED, OVERBOOK and SCHEDULE_OVERBOOK (0x0406) when it is newly set. -/
def State.refreshSched (s : State) : State :=
  let w := s.worstStarts
  let was := s.flag F.WLK_STATUS_OVERBOOK
  let s := (s.set F.WLK_SCHED w).setB F.WLK_STATUS_OVERBOOK (decide (12 < w))
  if 12 < w ∧ was = false then s.raise 0x0406 2 0xFFFF [w, s.lastRun] else s

/-- Set the link state; leaving LOST or reaching TRAINING starts the counts of R123 and R142 afresh, and a link that leaves RUN leaves the
schedule (R194). -/
def State.setLink (s : State) (n st : Nat) : State :=
  let was := s.linkState n
  let s := (s.set (F.SLK_Sn_STATE_STATE n) st).modLink n fun l => { l with validRun := 0, invalidRun := 0 }
  if was = Link.run ∧ st ≠ Link.run then s.refreshSched else s

/-- The LINK_DISABLEs that wait take effect (R147): ENABLE 0, the link OFF with TX undriven, and each completes OK. -/
def State.disableNow (s : State) (n : Nat) : State :=
  let ws := (s.link n).disable
  let s := ((s.setB (F.SLK_Sn_CTRL_ENABLE n) false).setLink n Link.off).modLink n fun l => { l with disable := [] }
  ws.foldl (fun t x => t.finish x.1 x.2 0x00 0) s

/-- The link returns to TRAINING: STEP 0, no management message waiting (R122, R131, R141). The messages of channels 1 to 3 go on
with the fragment due and the SEQ due, since no fragment is sent again (R118). A LINK_DISABLE that waits for it goes on to OFF. -/
def State.toTraining (s : State) (n : Nat) : State :=
  let s := (s.setLink n Link.training).modLink n fun l => { l with
    step := 0, trips := [], echoes := 0, identRun := 0, mgmt := none, attempts := 0, response := none, mgmtIn := [],
    newKeys := none, keyFailed := false, rekeying := false, accepted := false, commitWait := false, resume := 0
    latched := .none, lastAlive := none, since := 0,
    tun := l.tun.zipIdx.map fun x => if x.2 = 0 then { x.1 with rx := none, tx := [], txSent := 0 } else { x.1 with rx := none }
    phState := List.replicate 6 0, phLast := List.replicate 6 0, retrain := l.retrain.map fun x => (x.1, x.2.1, true) }
  if (s.link n).disable.isEmpty then s else s.disableNow n

/-- Is the stall energised as a link command sees it (R147)? Below QUARANTINE no energy can flow (R121). -/
def State.linkEnergised (s : State) (n : Nat) : Bool := decide (Link.quarantine ≤ s.linkState n) && s.energised n

/-- A LINK_RETRAIN or LINK_DISABLE that waited for the stall's stop takes the link to TRAINING once the stall is not energised (R147). -/
def State.linkCommanded (s : State) (n : Nat) : State :=
  let l := s.link n
  if s.linkEnergised n then s
  else if !l.disable.isEmpty || l.retrain.any (fun x => !x.2.2) then s.toTraining n
  else s

/-! ### Tunnel (R118, R119) -/

/-- Queue a message on a tunnel channel. -/
def State.tunSend (s : State) (n ch : Nat) (msg : List Nat) : State :=
  s.modLink n fun l => { l with tun := modAt l.tun ch fun t => { t with tx := t.tx ++ [msg] } }

/-- May a channel's fragments pass (SLK_Sn_CTRL.TUN_EN)? -/
def State.tunEnabled (s : State) (n ch : Nat) : Bool := decide (ch = 0) || bitOf (s.get (F.SLK_Sn_CTRL_TUN_EN n)) (ch - 1)

/-- The channel served next: 0 first, else 1 to 3 in turn from the round-robin pointer (R119). -/
def State.tunNext (s : State) (n : Nat) : Option Nat :=
  let l := s.link n
  let has := fun c => !(l.tun.getD c Tun.init).tx.isEmpty
  if has 0 then some 0
  else
    let o := fun k => (l.tunRr - 1 + k) % 3 + 1
    [o 0, o 1, o 2].find? fun c => has c && s.tunEnabled n c

/-- The last fragment of a message has left on a channel: a TUNNEL_SEND that waited for it completes (R341). -/
def State.sendLeft (s : State) (n ch : Nat) : State :=
  let mine := fun (x : Send) => decide (x.stall = n) && decide (x.chan = ch)
  let done := s.dro.sends.filter fun x => mine x && decide (x.left ≤ 1)
  let rest := (s.dro.sends.filter fun x => !(mine x && decide (x.left ≤ 1))).map fun x =>
    if mine x then { x with left := x.left - 1 } else x
  done.foldl (fun t x => t.finish x.p x.num 0x00 x.handle) (s.modDro fun d => { d with sends := rest })

/-- The nonce of a protected message (R129): 0x44 down or 0x55 up, three zero bytes, MSG_CTR. -/
def gcmNonce (dir ctr : Nat) : List Nat := [dir, 0, 0, 0] ++ le 8 ctr

/-- The first 12 bytes of a management message. -/
def mgmtHead (type flags len ctr : Nat) : List Nat := [type, flags] ++ le 2 len ++ le 8 ctr

/-- KEY_CONFIRM's body (R130, R132): MS_REF is the millisecond in which it leaves; SWITCH_MS the next one, at a re-key more than
100 ms on. -/
def State.confirmBody (s : State) (n : Nat) : List Nat :=
  let l := s.link n
  le 4 s.msCount ++ le 4 (s.msCount + if l.rekeying then 101 else 1) ++
    [(s.get (F.SLK_Sn_KEYGEN n) + b2n l.rekeying) % 256, 0, 0, 0]

/-- The management message that leaves now (R127-R130), from its type, PROTECTED and body: KEY_CONFIRM takes the present
millisecond, a protected one the next MSG_CTR, and its body is sealed under K_DN. -/
def State.sealHead (s : State) (n : Nat) : State :=
  let t := (s.link n).tun.getD 0 Tun.init
  let m := t.tx.headD []
  let confirm := decide (byteAt m 0 = 3)
  let body := if confirm then s.confirmBody n else m.drop 2
  let raw := m.take 2 ++ body
  let ctr := if byteAt m 1 = 1 then (s.link n).ctrDown + 1 else 0
  let head := mgmtHead (byteAt m 0) (byteAt m 1) body.length ctr
  let out := head ++ if byteAt m 1 = 1 then
      gcmSeal ((((s.link n).keys.getD []).drop 32).take 32) (gcmNonce 0x44 ctr) head body
    else body
  s.modLink n fun l => { l with
    tun := modAt l.tun 0 fun x => { x with tx := out :: x.tx.tail }
    ctrDown := if byteAt m 1 = 1 then ctr else l.ctrDown
    mgmt := if l.mgmt = some m then some raw else l.mgmt
    newKeys := l.newKeys.map fun k => if confirm then (k.1, leAt body 4 4, k.2.2) else k }

/-- The tunnel part of the next downlink frame (71 bytes) and the state with the fragment taken. -/
def State.tunSlot (s : State) (n : Nat) : List Nat × State :=
  match s.tunNext n with
  | none => ([0x0F, 0, 0, 0] ++ List.replicate 67 0, s)
  | some c =>
    let s := if c = 0 ∧ ((s.link n).tun.getD 0 Tun.init).txSent = 0 then s.sealHead n else s
    let t := (s.link n).tun.getD c Tun.init
    let m := t.tx.headD []
    let frag := (m.drop t.txSent).take 67
    let last := decide (m.length ≤ t.txSent + 67)
    let hdr := c + 16 * b2n (decide (t.txSent = 0)) + 32 * b2n last
    let t' : Tun := { t with txSeq := (t.txSeq + 1) % 65536, txSent := if last then 0 else t.txSent + 67
                             tx := if last then t.tx.tail else t.tx }
    ([hdr, frag.length] ++ le 2 t.txSeq ++ padTo 67 frag,
     let s := s.modLink n fun l => { l with tun := modAt l.tun c fun _ => t', tunRr := if c = 0 then l.tunRr else c % 3 + 1 }
     if last then s.sendLeft n c else s)

/-- A received fragment (R118): the message it completes, if any, and the channel's new receive side. -/
def Tun.receive (t : Tun) (first last : Bool) (seq : Nat) (data : List Nat) : Option (List Nat) × Tun :=
  let t' := { t with rxSeq := (seq + 1) % 65536 }
  if first then
    if last then (some data, { t' with rx := none }) else (none, { t' with rx := some data })
  else
    match t.rx with
    | some m =>
      if seq = t.rxSeq then
        if last then (some (m ++ data), { t' with rx := none }) else (none, { t' with rx := some (m ++ data) })
      else (none, { t' with rx := none })
    | none => (none, t')

/-! ### Management messages (R127-R133) -/

/-- Send a management message and wait for its answer (R131). -/
def State.sendMgmt (s : State) (n type : Nat) (prot : Bool) (body : List Nat) : State :=
  let m := [type, b2n prot] ++ body
  (s.tunSend n 0 m).modLink n fun l => { l with mgmt := some m, attempts := 1 }

/-- The message is answered: nothing of it is repeated, and a copy that has not begun to leave is dropped. -/
def State.mgmtAnswered (s : State) (n : Nat) : State :=
  s.modLink n fun l => { l with
    mgmt := none, attempts := 0
    tun := modAt l.tun 0 fun x => { x with tx := if x.txSent = 0 then [] else x.tx.take 1 } }

/-- Is the message that waits for its answer of this type? -/
def State.awaits (s : State) (n type : Nat) : Bool :=
  match (s.link n).mgmt with
  | some m => decide (byteAt m 0 = type)
  | none => false

/-- The body of a protected message under K_UP whose counter has gone up; none for any other (R129, R130). -/
def State.mgmtOpen (s : State) (n : Nat) (m : List Nat) : Option (List Nat) :=
  let ctr := leAt m 4 8
  match (s.link n).keys with
  | some k => if byteAt m 1 = 1 ∧ (s.link n).ctrUp < ctr then
      gcmOpen ((k.drop 64).take 32) (gcmNonce 0x55 ctr) (m.take 12) (leAt m 2 2) (m.drop 12)
    else none
  | none => none

/-- KEY_OFFER with a fresh nonce and encapsulation key (R127). -/
def State.sendOffer (s : State) (n : Nat) : State :=
  let r := s.draw 64
  let body := [n, 0, 0, 0] ++ le 8 (s.get F.GLB_SERIAL) ++ cryptoBytes 22 32 [n, r.1] ++ cryptoBytes 23 1184 [n, r.1]
  (r.2.sendMgmt n 0x01 false body).modLink n fun l => { l with offer := body }

/-- H of R127 over a KEY_RESPONSE: IDENT bytes 8 to 71, the offer, N_T, CT and the terminal's keys. -/
def State.keyingHash (s : State) (n : Nat) (m : List Nat) : List Nat :=
  sha512 ((s.link n).ident.raw ++ (s.link n).offer ++ (m.drop 12).take 3104)

/-- Is SHA3-256 of the response's keys the ID_FP of IDENT (R128)? -/
def State.fpMatches (s : State) (n : Nat) (m : List Nat) : Bool :=
  decide (sha3 ((m.drop 1132).take 1984) = (s.link n).ident.fp)

/-- Do both of the response's signatures verify over H (R127, R128)? -/
def State.sigsValid (s : State) (n : Nat) (m : List Nat) : Bool :=
  dualValid ((m.drop 1132).take 1984) "ESW-LINK" (s.keyingHash n m) ((m.drop 3116).take 3373)

/-- The 96 bytes both ends derive (R129): K_MET, K_DN, K_UP. -/
def State.linkKeys (s : State) (n : Nat) (m : List Nat) : List Nat :=
  kmac256 (kemSecret ((s.link n).offer.drop 44) ((m.drop 44).take 1088)) (s.keyingHash n m) "ESWLINK v1" 96

/-- KEYING_FAIL (0x0206): byte 16 0 signature, 1 fingerprint, 2 timeout; a re-key raises REKEY_FAIL (0x0207) instead (R132). -/
def State.keyingFail (s : State) (n why : Nat) : State :=
  if (s.link n).rekeying then
    (s.modLink n fun l => { l with rekeying := false, mgmt := none, attempts := 0, response := none, newKeys := none }).raise
      0x0207 2 n [s.get (F.SLK_Sn_KEYGEN n)]
  else
    (s.modLink n fun l => { l with keyFailed := true, mgmt := none, attempts := 0, response := none }).raise 0x0206 3 n [why]

/-- A re-key that the terminal has not confirmed fails when another management exchange takes its place (R132). -/
def State.rekeyBroken (s : State) (n : Nat) : State :=
  let done := match (s.link n).newKeys with
    | some k => k.2.2
    | none => false
  if (s.link n).rekeying ∧ done = false then s.keyingFail n 2 else s

/-- A type's dead time: DT_NS 0 selects 100 ns (R189). -/
def StallType.dtNs (t : StallType) : Nat := if t.dt = 0 then 100 else t.dt

/-- Fail-safe cooling of a stall: its TRG_CURVE entry's, or 1,000 and 200 (R133, R351). -/
def State.failSafe (s : State) (n : Nat) : Nat × Nat :=
  match s.hrn.curves[s.get (F.HRN_Sn_COOL_CFG_ENTRY n)]? with
  | some c => (c.fsPump, c.fsValve)
  | none => (1000, 200)

/-- The record's configuration in use: what STALL_CONFIG asked for, else the committed one. -/
def State.cfgEpoch (s : State) (n : Nat) : Nat :=
  if (s.rec? n).nextEpoch ≠ 0 then (s.rec? n).nextEpoch else s.get (F.SLK_Sn_EPOCH_REC n)

def State.cfgType (s : State) (n : Nat) : Nat :=
  if (s.rec? n).nextEpoch ≠ 0 then (s.rec? n).nextType else s.get (F.WLK_Sn_TYPE_TYPE n)

/-- CONFIG (40 bytes) from the stall's type and cooling entry (R133), and the link enters CONFIGURING. -/
def State.sendConfig (s : State) (n : Nat) : State :=
  let body := match s.types[s.cfgType n]? with
    | some t => [t.period, t.phases] ++ le 2 t.dtNs ++ le 2 t.minPulse ++ le 2 t.maxDuty ++ le 2 t.twoStep
    | none => List.replicate 10 0
  let fs := s.failSafe n
  (((s.rekeyBroken n).setLink n Link.configuring).modLink n fun l => { l with accepted := false, commitWait := false }).sendMgmt n 0x10 true
    (padTo 40 (le 4 (s.cfgEpoch n) ++ body ++ le 2 fs.1 ++ [fs.2]))

/-- A LINK_RETRAIN whose retraining has run completes once the link is in RUN or QUARANTINE (R147). -/
def State.retrainDone (s : State) (n : Nat) : State :=
  let ws := (s.link n).retrain.filter fun x => x.2.2
  ws.foldl (fun t x => t.finish x.1 x.2.1 0x00 0) (s.modLink n fun l => { l with retrain := l.retrain.filter fun x => !x.2.2 })

/-- Enter QUARANTINE with the causes found (R134): STALL_QUARANTINE (0x0203). -/
def State.quarantine (s : State) (n causes : Nat) : State :=
  let s := ((s.rekeyBroken n).setLink n Link.quarantine).set (F.SLK_Sn_QCAUSE n) causes
  let s := s.modLink n fun l => { l with mgmt := none, attempts := 0, accepted := false, commitWait := false, latched := .none }
  (s.raise 0x0203 2 n ([causes, s.get (F.SLK_Sn_SEAL_REPORTED n)] ++ (s.link n).ident.fp.take 8)).retrainDone n

/-- QUARANTINE is left by CONFIG once every cause is clear (R135). -/
def State.quarantineExit (s : State) (n : Nat) : State :=
  if s.linkState n = Link.quarantine ∧ s.get (F.SLK_Sn_QCAUSE n) = 0 then s.sendConfig n else s

/-- The comparison of R133 after keying, as quarantine causes (R134): bit 0 NEW, 1 FP_MISMATCH, 2 SEAL_CHANGED,
3 EPOCH_MISMATCH, 4 SEAL_INVALID. A pending STALL_CONFIG stands for the record's fingerprint and epoch. -/
def State.compareCauses (s : State) (n : Nat) : Nat :=
  let r := s.rec? n
  let id := (s.link n).ident
  let inv := 16 * b2n (bitOf id.sealW 7)
  let pend := decide (r.nextEpoch ≠ 0)
  if !r.committed then b2n (!pend) + 2 * b2n (pend && decide (r.nextFp ≠ id.fp)) + inv
  else
    2 * b2n (decide ((if pend then r.nextFp else r.fp) ≠ id.fp)) + 4 * b2n (decide (s.sealWord n ≠ id.sealW)) +
      8 * b2n (!pend && decide (id.epoch ≠ s.get (F.SLK_Sn_EPOCH_REC n))) + inv

/-- The record CONFIG_ACK commits (R133): what STALL_CONFIG asked for, else what is committed; a first record takes the reported
seal. -/
def State.recordNow (s : State) (n : Nat) : RecEntry :=
  let r := s.rec? n
  { epoch := s.cfgEpoch n, type := s.cfgType n, fp := if r.nextEpoch ≠ 0 then r.nextFp else r.fp
    sealW := if r.committed then s.sealWord n else s.get (F.SLK_Sn_SEAL_REPORTED n) }

/-- The settings-journal store of the record; refused, it is retried at each allocation boundary (R133). -/
def State.commitRecord (s : State) (n : Nat) : State :=
  let r := s.tryStore 2 1 (.stallRec n (s.recordNow n))
  r.2.modLink n fun l => { l with accepted := true, commitWait := !r.1 }

/-- A calibration bound to another fingerprint than the one committed now is bound no more (R242). -/
def State.calUnbound (s : State) (n : Nat) (fp : List Nat) : State :=
  if (s.wbg.met.getD n Met.init).calFp = fp then s
  else (s.modWbg fun w => { w with met := modAt w.met n fun m => { m with calFp := [] } }).set (F.WBG_Mc_CAL_FP n) 0

/-- The entry is durable: the record is committed, and its type gives period and default slot (R193). -/
def State.recordCommitted (s : State) (n : Nat) (e : RecEntry) : State :=
  let r := s.rec? n
  let s := (s.set (F.SLK_Sn_EPOCH_REC n) e.epoch).set (F.WLK_Sn_TYPE_TYPE n) e.type
  let s := match s.types[e.type]? with
    | some ty =>
      let s := (s.set (F.WLK_Sn_TYPE_P n) ty.period).set (F.WLK_Sn_TYPE_PHASES n) ty.phases
      if r.committed = false ∨ ty.period ≤ s.get (F.WLK_Sn_SLOT_SLOT n) then s.set (F.WLK_Sn_SLOT_SLOT n) (n % ty.period)
      else s
    | none => s
  let s := if r.committed then s else s.set (F.SLK_Sn_SEAL_COMMITTED n) e.sealW
  let s := s.calUnbound n e.fp
  s.modRec n fun x =>
    let x := { x with committed := true, fp := e.fp }
    if x.nextEpoch = e.epoch then { x with nextEpoch := 0, nextFp := [] } else x

/-- The link enters RUN with its record committed (R133): LINK_UP (0x0201). -/
def State.enterRun (s : State) (n : Nat) : State :=
  let s := (s.setLink n Link.run).modLink n fun l =>
    { l with runOrder := s.runSeq + 1, mgmt := none, attempts := 0, accepted := false, commitWait := false
             phState := List.replicate 6 0, phLast := List.replicate 6 0 }
  let s := { s with runSeq := s.runSeq + 1 }
  let s := (s.set (F.SLK_Sn_QCAUSE n) 0).refreshCeil n
  let s := s.modWalk n fun w => { w with carry := List.replicate 6 0, endPrev := List.replicate 6 none, out_ := .none }
  let np := s.get (F.WLK_Sn_TYPE_PHASES n)
  let lost := s.get (F.WLK_Sn_PHASE_LOST n)
  let s := s.set (F.WLK_Sn_PHASE_ACTIVE n) ((List.range np).foldl (fun a k => if bitOf lost k then a else a + 2 ^ k) 0)
  let s := s.raise 0x0201 1 n ([s.get (F.SLK_Sn_SEAL_REPORTED n)] ++ le 4 (s.get (F.SLK_Sn_EPOCH_REC n)) ++
    [s.get (F.SLK_Sn_KEYGEN n)])
  (s.refreshSched).retrainDone n

/-- A stall record is durable (R133): it is committed, and a link whose CONFIG was accepted enters RUN. -/
def State.recDurable (s : State) (n : Nat) (e : RecEntry) : State :=
  let s := s.recordCommitted n e
  if s.linkState n = Link.configuring ∧ (s.link n).accepted = true then s.enterRun n else s

/-- Entry to LOST with LINK_LOST (0x0202) and the Halter's emergency stop (R141); before RUN the link only returns to
TRAINING. -/
def State.linkLost (s : State) (n why : Nat) : State :=
  let st := s.linkState n
  if st = Link.run ∨ st = Link.quarantine then
    let s := (s.modLink n fun l => { l with before := st, resume := 0 }).setLink n Link.lost
    (s.raise 0x0202 3 n ([why] ++ le 2 (s.link n).cycle)).stopStall n .emergency 0x0E
  else if st = Link.identify ∨ st = Link.keying ∨ st = Link.configuring then s.toTraining n
  else s

end Sys2Proof.Machine
end

