-- ==== Sys2Proof/Machine/DroOps.lean ====
section
/-!
DEFINITION. Operations of the Drover (R309-R337): contexts and handles, the receive ring, the session machines, authorization,
the allow-list.
-/
namespace Sys2Proof.Machine

def State.modCtx (s : State) (i : Nat) (f : Ctx → Ctx) : State :=
  s.modDro fun d => { d with ctxs := modAt s.dro.ctxs i f }

/-! ### Contexts and handles (R312, R313) -/

/-- The context a handle names, unless it has been freed or reallocated (R313). -/
def State.byHandle (s : State) (h : Nat) : Option Nat :=
  if h % 128 < s.variant.sessions ∧ (s.ctx (h % 128)).gen = h / 128 ∧ (s.ctx (h % 128)).state ≠ 0 then some (h % 128) else none

/-- The stall's newest context (R340). -/
def State.newestCtx (s : State) (n : Nat) : Option Nat :=
  (s.ctxNums.filter fun i => (s.ctx i).state ≠ 0 ∧ (s.ctx i).stall = n).foldl (fun b i => match b with
    | none => some i
    | some j => if (s.ctx j).openAt ≤ (s.ctx i).openAt then some i else some j) none

/-- The generation after `g` for index `i`: 25 bits, without the value that would make the handle 0xFFFF_FFFF (R313). -/
def nextGen (g i : Nat) : Nat :=
  let g' := (g + 1) % 2 ^ 25
  if g' * 128 + i = 0xFFFFFFFF then (g' + 1) % 2 ^ 25 else g'

/-- A context becomes FREE; its generation stays. -/
def State.freeCtx (s : State) (i : Nat) : State := s.modCtx i fun c => { Ctx.init with gen := c.gen }

/-- Open a context (R312): the stall's older LINGER context goes when this is the third; the lowest free index. -/
def State.openCtx (s : State) (n chan proto : Nat) (host : Bool) : Option Nat × State :=
  let mine := s.ctxNums.filter fun i => (s.ctx i).state ≠ 0 ∧ (s.ctx i).stall = n
  let s := if 2 ≤ mine.length then
      match mine.find? fun i => mine.all fun j => (s.ctx i).lingerAt ≤ (s.ctx j).lingerAt with
      | some i => s.freeCtx i
      | none => s
    else s
  match s.ctxNums.find? fun i => (s.ctx i).state = 0 with
  | none => (none, s)
  | some i =>
    (some i, s.modCtx i fun c => { Ctx.init with
      state := 1, gen := nextGen c.gen i, stall := n, chan := chan, proto := proto, host := host, bank := s.dro.active, openAt := s.chrono })

/-- SESSION_OPENED (0x0701). -/
def State.opened (s : State) (i : Nat) : State :=
  let c := s.ctx i
  (s.inc (F.DRO_Sn_CNT_SESS c.stall)).raise 0x0701 0 c.stall (le 4 (s.handle i) ++ [c.proto])

/-- Are new sessions held on the stall (R322)? -/
def State.held (s : State) (n : Nat) : Bool :=
  decide (s.heldCauses ≠ 0) || !s.bil.finalSeen || decide (s.get F.PWR_STATE_SUPPLY ≠ 0) || s.lan.noStandby || s.pwr.entry.isSome ||
    s.flag (F.WLK_Sn_DEGRADE_BLOCKED n) || decide (s.chanState n = 2)

/-- May a context open on the stall: sessions allowed, the link in RUN (R567)? -/
def State.mayOpen (s : State) (n : Nat) : Bool := s.flag (F.DRO_Sn_CFG_ENABLE n) && decide (s.linkState n = Link.run)

/-! ### The allow-list (R332-R335, R343) -/

/-- ID_HASH: SHA3-256(KIND ‖ LEN ‖ normalised identifier). -/
def idHash (kind : Nat) (ident : List Nat) : List Nat := sha3 ([kind, ident.length] ++ ident)

/-- First eight bytes of a hash number. -/
def hash8 (h : Nat) : Nat := h / 2 ^ 192

/-- The leaf that may hold a hash: the largest index entry not above it. -/
def leafOf (l : List Leaf) (h : Nat) : Option Nat :=
  ((List.range l.length).filter fun i => (l.getD i ⟨0, [], false⟩).low ≤ hash8 h).getLast?

/-- A lookup (R332): 0 ALLOWED, 1 BLOCKED, 2 NOT_FOUND, 3 EXPIRED, 4 NOT_YET_VALID, and the entry. -/
def State.lookup (s : State) (h : Nat) : Nat × Option Entry :=
  let overs := s.dro.overlay.bind fun o => o.entries.find? fun e => e.hash = h
  let cleared := match s.dro.overlay with
    | some o => o.clear
    | none => false
  let leaf := (leafOf s.dro.leaves h).bind fun i => s.dro.leaves[i]?
  let lost := !cleared && (match leaf with
    | some l => l.lost
    | none => false)
  let old := if cleared then none else leaf.bind fun l => l.entries.find? fun e => e.hash = h
  let e := match overs with
    | some o => if o.status = 0 then none else some o
    | none => old
  let today := s.wall / 65536 / 86400
  if lost then (2, none)
  else
    match e with
    | none => (2, none)
    | some x =>
      if x.status = 2 then (1, some x)
      else if x.from_ ≠ 0 ∧ today < x.from_ then (4, some x)
      else if x.to_ ≠ 0 ∧ x.to_ < today then (3, some x)
      else (0, some x)

/-- A leaf read that turns out uncorrectable (R523): the leaf is lost, HAY_UNCORRECTABLE (0x0E02). -/
def State.leafLost (s : State) (h : Nat) : State :=
  match leafOf s.dro.leaves h with
  | none => s
  | some i =>
    let s := s.modDro fun d => { d with leaves := modAt s.dro.leaves i fun l => { l with lost := true } }
    let s := (s.setB F.HAY_STATUS_UNCORR true).incSat F.HAY_CNT_UNCORR_LOST
    s.raise 0x0E02 3 0xFFFF ([0] ++ le 4 i ++ [1])

/-- The 48 bytes of an entry (R332). -/
def Entry.bytes (e : Entry) : List Nat :=
  (le 32 e.hash).reverse ++ [e.kind, e.status, e.cls, e.flags] ++ le 4 e.account ++ le 4 e.from_ ++ le 4 e.to_

/-! ### The places for lookups (R333) -/

/-- A lookup whose leaf turns out uncorrectable finds nothing (R523). -/
def State.lookupNow (s : State) (h : Nat) (uncorr : Bool) : (Nat × Option Entry) × State :=
  let s := if uncorr then s.leafLost h else s
  (s.lookup h, s)

/-- The lookup of an ALLOW_LOOKUP that has its place (R343). -/
def State.lookOp (s : State) (p num : Nat) (uncorr : Bool) : State :=
  match s.descNum? p num with
  | none => s
  | some d =>
    let len := d.arg 25 1
    let hash := if len = 0 then (d.param.drop 4).take 32 else idHash (d.arg 24 1) ((d.param.drop 4).take len)
    let r := s.lookupNow (beVal hash) uncorr
    let s := r.2
    let res := match r.1.2 with
      | some e => r.1.1 + 256 * e.cls + 65536 * e.flags
      | none => r.1.1
    let wr := decide (48 ≤ d.length)
    let s := if wr then s.bufWrite p d ((r.1.2.map Entry.bytes).getD (List.replicate 48 0)) else s
    s.finish p num 0x00 res wr

/-- Go through the lookups in their order: a session's that has ended leaves, an ALLOW_LOOKUP with a place runs at once and
leaves. `run` is what holds a place so far. -/
def State.lookServe (s : State) (run : List Look) : List Look → List Look × State
  | [] => (run, s)
  | .ctx i :: t => if (s.ctx i).look.isSome then s.lookServe (run ++ [.ctx i]) t else s.lookServe run t
  | .op p num u :: t => if run.length < 16 then (s.lookOp p num u).lookServe run t else s.lookServe (run ++ [.op p num u]) t

/-- A lookup has come or gone: whoever has a place now runs (R333). -/
def State.lookPlaces (s : State) : State :=
  let r := s.lookServe [] s.dro.looks
  r.2.modDro fun d => { d with looks := r.1 }

/-- A session asks for a lookup. -/
def State.lookAsk (s : State) (i : Nat) (why : LookFor) : State :=
  let s := s.modCtx i fun c => { c with look := some why }
  s.modDro fun d => { d with looks := s.dro.looks ++ [.ctx i] }

/-- Does a session's lookup run: one of the 16 (R333)? -/
def State.lookRuns (s : State) (i : Nat) : Bool := (s.dro.looks.take 16).contains (.ctx i)

/-! ### The end of a session (R312, R314, R339, R342) -/

/-- The context enters LINGER: SESSION_CLOSED (0x0703), and what waited for it completes with the close cause. -/
def State.toLinger (s : State) (i : Nat) : State :=
  let c := s.ctx i
  let s := s.modCtx i fun c => { c with
    state := 6, lingerAt := s.chrono, timers := [], look := none, want := none, stops := [], ctrls := [], conn := false }
  let s := s.raise 0x0703 0 c.stall (le 4 (s.handle i) ++ [c.cause])
  let h := s.handle i
  let s := c.stops.foldl (fun t x => t.finish x.1 x.2 0x00 c.cause) s
  c.ctrls.foldl (fun t x => t.finish x.p x.num (if x.wait = 2 then 0x00 else 0x40) h) s

/-- Is the opening of a session on the channel waiting for its commit (R289)? -/
def State.openingOn (s : State) (c : Nat) : Bool :=
  s.wbg.splits.any fun x => x.steps.any fun y => match y with
    | .openSess k _ => decide (k = c)
    | _ => false

/-- The same for the closing. -/
def State.closingOn (s : State) (c : Nat) : Bool :=
  s.wbg.splits.any fun x => x.steps.any fun y => match y with
    | .closeSess k _ => decide (k = c)
    | _ => false

/-- Is a metering session of this context open or bound? -/
def State.metered (s : State) (i : Nat) : Bool :=
  let m := s.met (s.ctx i).stall
  let h := s.handle i
  (match m.sess with
    | some x => decide (x.bind.handle = h)
    | none => false) || (match m.bind with
    | some x => decide (x.handle = h)
    | none => false)

/-- The session ends (R312): ENDING with a close cause, RAMP_DOWN asked of the lane unless the mode is at rest, its metering
ended; SESSION_FAULT (0x0704) for a fault. Where nothing is metered it goes to LINGER at once. -/
def State.endCtx (s : State) (i cause msgId : Nat) : State :=
  let c := s.ctx i
  if c.live = false ∨ c.state = 5 then s
  else
    let n := c.stall
    let rest := decide (s.mode n = 0) || decide (s.mode n = 5)
    let s := s.modCtx i fun c => { c with
      state := 5, cause := cause, timers := [], want := if rest then none else some (4, 0), look := none }
    let s := match c.look with
      | some (.token p num _ _ _) => s.finish p num 0x41 0
      | _ => s
    let s := if 5 ≤ cause then s.raise 0x0704 2 n (le 4 (s.handle i) ++ [cause] ++ le 2 msgId) else s
    let s := if cause = 1 ∨ cause = 2 then s else s.incSat (F.DRO_Sn_CNT_FAIL n)
    let h := s.handle i
    let s := s.modMet n fun m => { m with
      sess := m.sess.map fun x => if x.bind.handle = h then { x with ending := true } else x
      bind := if s.openingOn n then m.bind else m.bind.filter fun b => b.handle ≠ h }
    let s := s.lookPlaces
    if s.metered i then s else s.toLinger i

/-! ### Sending and the receive ring (R315, R316) -/

/-- A byte string in pieces of at most `k` bytes. -/
def chunks (k : Nat) : Nat → List Nat → List (List Nat)
  | 0, l => [l.take k]
  | f + 1, l => if l.length ≤ k then [l] else l.take k :: chunks k f (l.drop k)

/-- The MAC address of a stall's charging controller: BASE_MAC + s, its first octet first (R311, R577). -/
def State.stallMac (s : State) (n : Nat) : List Nat := be 6 (s.get F.GLB_BASE_MAC + n)

/-- The IPv6 link-local address that modified EUI-64 forms from a MAC address (R311). -/
def linkLocal (mac : List Nat) : List Nat :=
  [0xFE, 0x80, 0, 0, 0, 0, 0, 0, byteAt mac 0 ^^^ 2] ++ (mac.drop 1).take 2 ++ [0xFF, 0xFE] ++ (mac.drop 3).take 3

/-- An Ethernet message (R120) with an IPv6 packet from the stall to its vehicle. The vehicle's own addresses, `peer`, and the
hop limit are opaque. -/
def State.ipFrame (s : State) (n next : Nat) (peer l4 : List Nat) : List Nat :=
  let mac := s.stallMac n
  cryptoBytes 42 6 peer ++ mac ++ [0x86, 0xDD, 0x60, 0, 0, 0] ++ be 2 l4.length ++ [next] ++ cryptoBytes 44 1 peer ++ linkLocal mac ++
    cryptoBytes 43 16 peer ++ l4

/-- The TCP options of an opening segment: MSS 1,440, no window scaling (R311). -/
def mssOption : List Nat := [2, 4] ++ be 2 1440

/-- A TCP segment with window 16,384 (R311); its ports, sequence numbers and checksum are opaque. -/
def tcpSegment (what : List Nat) (flags : Nat) (opts payload : List Nat) : List Nat :=
  cryptoBytes 45 12 what ++ [(5 + opts.length / 4) * 16, flags] ++ be 2 16384 ++ cryptoBytes 46 2 (what ++ payload) ++ [0, 0] ++ opts ++
    payload

/-- Send one TCP segment to the vehicle on a stall's channel; `h` names the connection. -/
def State.tcpSend (s : State) (n ch h flags : Nat) (opts payload : List Nat) : State :=
  s.tunSend n ch (s.ipFrame n 6 [h, n] (tcpSegment ([h, n, s.chrono, flags] ++ payload) flags opts payload))

/-- The answer to an SDP request, from UDP port 15118 (R311): 28 bytes that its standard makes. -/
def State.sdpReply (s : State) (n ch : Nat) (tls : Bool) : State :=
  let peer := [0xFFFFFFFF, n]
  s.tunSend n ch (s.ipFrame n 17 peer (be 2 15118 ++ cryptoBytes 47 2 peer ++ be 2 36 ++ cryptoBytes 47 2 (n :: peer) ++
    cryptoBytes 48 28 [n, b2n tls]))

/-- A RST for a segment of a connection the Drover does not have, or a SYN it refuses (R311, R337). -/
def State.sendRst (s : State) (n ch : Nat) : State := s.tcpSend n ch 0xFFFFFFFF 0x04 [] []

/-- A CAN record (R120). -/
def canRecord (id : Nat) (ext : Bool) (data : List Nat) : List Nat :=
  le 4 (id % 2 ^ 29 + 2 ^ 31 * b2n ext) ++ [min 8 data.length] ++ List.replicate 7 0 ++ padTo 8 data

/-- A CAN message: one record for each eight bytes (SAE J1939 packets, whose extended identifiers are opaque; R309, R120). -/
def canMessage (data : List Nat) : List Nat :=
  ((chunks 8 data.length data).map fun x => canRecord (leAt (cryptoBytes 49 4 x) 0 4) true x).flatten

/-- Is a message one or more CAN records (R120)? -/
def canWellFormed (m : List Nat) : Bool :=
  decide (m ≠ []) && decide (m.length % 20 = 0) && (List.range (m.length / 20)).all fun k =>
    let x := (m.drop (20 * k)).take 20
    decide (leAt x 0 4 / 2 ^ 29 % 4 = 0) && decide (byteAt x 4 ≤ 8) && ((x.drop 5).take 7).all (fun b => decide (b = 0)) &&
      ((x.drop (12 + byteAt x 4)).all fun b => decide (b = 0))

/-- Send what the standards make of a reply (opaque: R309 leaves their encodings to them); `data` is what it says. It leaves as
CAN records for GB/T, else as TCP segments of at most the MSS. -/
def State.droSend (s : State) (i : Nat) (data : List Nat) : State :=
  let c := s.ctx i
  let m := (Config.crypto 41 ([s.handle i, c.proto, c.tls] ++ data)).map fun b => b % 256
  if c.chan = 3 then s.tunSend c.stall 3 (canMessage m)
  else (chunks 1440 m.length m).foldl (fun t x => t.tcpSend c.stall c.chan (s.handle i) 0x18 [] x) s

/-- Drop a message routed to the ring (R316): RX_LOST (0x0706) when STATUS.RX_LOST is newly set. -/
def State.rxDrop (s : State) : State :=
  let was := s.flag F.DRO_STATUS_RX_LOST
  let s := (s.incSat F.DRO_RX_LOST).setB F.DRO_STATUS_RX_LOST true
  if was then s else s.raise 0x0706 2 0xFFFF (le 4 (s.get F.DRO_RX_LOST))

/-- The slots of a message (R316): 2,016 data bytes each, FIRST to LAST. -/
def rxSlots (handle kind ch stall msgId total chrono : Nat) (first : Bool) : Nat → List Nat → List (List Nat)
  | 0, _ => []
  | k + 1, data =>
    let part := data.take 2016
    let last := decide (data.length ≤ 2016)
    let slot := le 4 handle ++ [kind, ch, b2n first + 2 * b2n last, stall] ++ le 2 part.length ++ le 2 msgId ++ le 4 total ++
      le 8 chrono ++ List.replicate 8 0 ++ padTo 2016 part
    if last then [slot] else slot :: rxSlots handle kind ch stall msgId total chrono false k (data.drop 2016)

/-- Set the phase bit in FLAGS of a slot (R71, R316). -/
def slotPhase (slot : List Nat) (ph : Nat) : List Nat := modAt slot 6 fun b => b + 128 * ph

/-- Write a message to the receive ring, with HOST_MESSAGE (0x0705) to its owner, or drop it (R316); `arr` is when its last
fragment arrived. -/
def State.rxWrite (s : State) (handle kind ch n msgId : Nat) (data : List Nat) (arr : Nat) : State :=
  let p := s.get F.DRO_RX_CFG_OWNER
  let r := (s.pd p).ring 13
  let size := 2 ^ s.get F.DRO_RX_CFG_SIZE_LOG2
  let slots := rxSlots handle kind ch n msgId data.length arr true 10 data
  if s.flag F.DRO_RX_CFG_ENABLE = false ∨ r.stopped = true ∨ size < (r.prod + 2 ^ 32 - r.hostIdx) % 2 ^ 32 + slots.length then s.rxDrop
  else
    let base := s.get F.DRO_RX_BASE_ADDR * 4096
    let s := (slots.zipIdx).foldl (fun t x =>
      let k := (r.prod + x.2) % 2 ^ 32
      t.emit (.ringSlot p (base + k % size * 2048) (slotPhase x.1 ((k / size + 1) % 2)))) s
    let new := (r.prod + slots.length) % 2 ^ 32
    let s := (s.modPd p (·.modRing 13 fun x => { x with prod := new })).emit (.devIndex p 13 new r.hostSeq)
    let s := s.signal p (s.get F.DRO_RX_CFG_VECTOR)
    let e : Ev := ⟨0x0705, 0, n, le 4 handle ++ le 4 r.prod⟩
    (if s.dueTo p e then s.deliver p e else s).logEvent e false

/-! ### Authorization (R323-R325) -/

/-- AUTH_NEEDED (0x0702): the session waits for the host. -/
def State.askHost (s : State) (i outcome : Nat) : State :=
  let s := s.modCtx i fun c => { c with auth := 1 }
  let c := s.ctx i
  s.raise 0x0702 1 c.stall (le 4 (s.handle i) ++ [c.idKind, outcome] ++ padTo 8 c.idHash)

/-- Authorization is accepted (R325): the lane then binds the session. -/
def State.accept (s : State) (i source : Nat) (contract : List Nat) (account : Option Nat) (cls : Nat) : State :=
  s.modCtx i fun c => { c with auth := 2, source := source, contract := contract, account := account, cls := cls, look := none }

/-- Authorization is refused (R325): the machine's refusal response, and the session closes with cause REFUSED. -/
def State.refuse (s : State) (i source : Nat) : State :=
  let s := (s.modCtx i fun c => { c with auth := 3, source := source, look := none }).droSend i [3]
  s.endCtx i 3 0xFFFF

/-- Accept by an allow-list entry. -/
def State.acceptEntry (s : State) (i : Nat) (hash : List Nat) (e : Entry) : State :=
  s.accept i 1 (hash.take 16) (if bitOf e.flags 0 then some e.account else none) e.cls

/-- The list's outcome decides (R323): `list` as mode LIST, else as LIST_THEN_HOST. -/
def State.decideList (s : State) (i : Nat) (list : Bool) (r : Nat × Option Entry) : State :=
  match r with
  | (0, some e) => s.acceptEntry i (s.ctx i).idHash e
  | (o, _) => if list = false ∧ o = 2 then (s.modCtx i fun c => { c with look := none }).askHost i 2 else s.refuse i 1

/-- Start authorization (R323, R324), unless it has been started or new sessions are held. -/
def State.authorize (s : State) (i : Nat) : State :=
  let c := s.ctx i
  let s := if c.state = 1 then s.modCtx i fun c => { c with state := 2 } else s
  if c.auth ≠ 0 ∨ c.look.isSome = true then s
  else if s.held c.stall then s.modCtx i fun c => { c with flags := setBitOf c.flags 2 true }
  else
    let s := s.modCtx i fun c => { c with flags := setBitOf c.flags 2 false }
    let mode := s.get (F.DRO_Sn_CFG_AUTH_MODE c.stall)
    if mode = 4 then s.accept i 2 (List.replicate 16 0) none 0
    else if mode = 0 ∨ mode = 3 then s.askHost i 0xFF
    else if c.idKind ≠ 0 then s.lookAsk i .first
    else s.decideList i (decide (mode = 1)) (2, none)

/-! ### Session machines (R317, R318) -/

/-- The directory entry of a protocol's machine in a DRO_SM payload: its byte offset. -/
def machineAt (sm : List Nat) (proto : Nat) : Option Nat :=
  ((List.range (byteAt sm 1)).map fun k => 32 + 16 * k).find? fun o => byteAt sm o = proto

def State.smOf (s : State) (i : Nat) : List Nat := (s.dro.banks.getD (s.ctx i).bank ([], [])).1
def State.exiOf (s : State) (i : Nat) : List Nat := (s.dro.banks.getD (s.ctx i).bank ([], [])).2

/-- MSG_KIND of a message in a DRO_EXI payload (R331). -/
def msgKind (exi : List Nat) (id : Nat) : Option Nat :=
  let base := 32 + 16 * byteAt exi 1
  ((List.range (leAt exi 2 2)).find? fun k => leAt exi (base + 8 * k) 2 = id).map fun k => byteAt exi (base + 8 * k + 3)

/-- Does a guard hold (R317, R321)? -/
def State.guardOk (s : State) (i g : Nat) : Bool :=
  let c := s.ctx i
  let n := c.stall
  let st := s.get (F.WLK_Sn_MODE_STATE n)
  match g with
  | 0x00 => true
  | 0x01 => decide (c.auth = 2)
  | 0x02 => decide (c.auth = 1) || c.look.isSome || (decide (c.state = 2) && decide (c.auth = 0))
  | 0x03 => decide (c.auth = 3)
  | 0x04 => decide (st = 2)
  | 0x05 => decide (st = 1)
  | 0x06 => decide (st = 3)
  | 0x07 => s.held n
  | 0x08 => match s.hkVal n 8, profileRow (s.sealWord n % 16) with
    | some v, some r => decide ((r.2.2.1 : Int) < v)
    | _, _ => false
  | 0x09 => bitOf c.flags 0
  | 0x0A => c.answered
  | _ => false

/-- Copy a message's parameters into the context (R320, R321). -/
def State.store (s : State) (i : Nat) (m : V2gParams) : State :=
  s.modCtx i fun c =>
    let dyn := m.dynamic.getD (bitOf c.flags 1)
    let maxI := m.maxI.getD c.maxI
    let maxV := m.maxV.getD c.maxV
    let maxP := m.maxP.getD c.maxP
    let v := s.get (F.WBG_Mc_VI_V c.stall)
    let byP := if v = 0 then maxI else min maxI (maxP.natAbs * 10000 / v)
    let tgtV := m.targetV.getD c.tgtV
    { c with
      evccid := m.evccid.getD c.evccid, maxI := maxI, maxV := maxV, maxP := maxP, tgtV := tgtV
      soc := m.soc.getD c.soc, depart := m.depart.getD c.depart
      flags := setBitOf (setBitOf c.flags 0 (m.discharge.getD (bitOf c.flags 0))) 1 dyn
      iReq := if c.proto = 6 then (if m.cv.getD false then maxI else m.targetI.getD c.iReq)
              else if dyn then byP else m.targetI.getD c.iReq
      vReq := if c.proto = 6 then (if m.cv.getD false then maxV else tgtV) else if dyn then maxV else tgtV }

/-- An action of a transition (R317, R321); `byTimer` when a timer's expiry runs it. -/
def State.act (s : State) (i a msgId : Nat) (m : Option V2gParams) (byTimer : Bool) : State :=
  let c := s.ctx i
  let ask := fun (md v : Nat) => s.modCtx i fun c => { c with want := some (md, v) }
  match a with
  | 0x01 => match m with
    | some x => s.store i x
    | none => s
  | 0x02 => s.authorize i
  | 0x03 => ask 1 (min c.maxV (s.get (F.HLT_Sn_CEIL_V c.stall)))
  | 0x04 => ask 2 c.tgtV
  | 0x05 => ask 3 0
  | 0x06 => match m with
    | some x => s.store i x
    | none => s
  | 0x07 => ask 4 0
  | 0x08 => s.modCtx i fun c => { c with iReq := 0 }
  | 0x09 => s.endCtx i (if c.stops.isEmpty then 1 else 2) msgId
  | 0x0A => s.endCtx i (if byTimer then (if decide (c.auth = 0) && decide (c.state = 2) && s.held c.stall then 4 else 5) else 6) msgId
  | _ => s

/-- The transition record taken for an event (R318): its byte offset. -/
def State.findTrans (s : State) (i o cls id : Nat) : Option Nat :=
  let sm := s.smOf i
  let base := leAt sm (o + 8) 4
  ((List.range (leAt sm (o + 4) 2)).map fun k => base + 16 * k).find? fun t =>
    byteAt sm t = (s.ctx i).mstate ∧ byteAt sm (t + 1) = cls ∧ leAt sm (t + 2) 2 = id ∧ s.guardOk i (byteAt sm (t + 4)) = true

/-- The values of a response that come from the stall (R321). -/
def State.stallValues (s : State) (n : Nat) : List Nat :=
  [s.get (F.WBG_Mc_VI_V n), s.get (F.WBG_Mc_VI_I n), s.get (F.YMS_Sn_GRANT_TARGET n),
    (match s.yms.solved.bind fun z => z.stalls.findIdx? fun x => x.stall = n with
      | some k => (s.yms.rec_.power.getD k 0).natAbs
      | none => 0),
    s.get (F.HLT_Sn_CEIL_V n)]

/-- What a response says besides its code (R321): the stall's values, the current-limit-achieved flag, "ongoing" while a
requested mode runs. -/
def State.replyValues (s : State) (i : Nat) : List Nat :=
  let c := s.ctx i
  s.stallValues c.stall ++ [b2n (decide ((s.getS (F.YMS_Sn_GRANT_TARGET c.stall)).natAbs < c.iReq)),
    b2n (decide (s.get (F.WLK_Sn_MODE_STATE c.stall) = 1))]

/-- The first timer of a kind in a machine (R317). -/
def timerOf (sm : List Nat) (o kind : Nat) : Option Nat :=
  (List.range (byteAt sm (o + 2))).find? fun k => decide (byteAt sm (leAt sm (o + 12) 4 + 4 * k + 2) = kind)

/-- Start the machine's first timer of a kind, unless one of that kind runs (R318, R339). -/
def State.startTimer (s : State) (i kind : Nat) : State :=
  let c := s.ctx i
  let sm := s.smOf i
  match machineAt sm c.proto with
  | none => s
  | some o =>
    if c.timers.any fun k => byteAt sm (leAt sm (o + 12) 4 + 4 * k + 2) = kind then s
    else match timerOf sm o kind with
      | some k => s.modCtx i fun c => { c with timers := c.timers ++ [k] }
      | none => s

/-- A session event (R318): `cls` 0 a message, 1 a timer's expiry, 2 a stall result; `arr` is when the message arrived. The
expiry of a GB/T timer in READY or ENERGY is a loss of transport, whatever else its record does (R314). -/
def State.droEvent (s : State) (i cls id : Nat) (m : Option V2gMsg) (arr : Nat) : State :=
  let c := s.ctx i
  let sm := s.smOf i
  let loss := decide (cls = 1) && decide (c.proto = 6) && (decide (c.state = 3) || decide (c.state = 4))
  match machineAt sm c.proto with
  | none => if cls = 0 then s.endCtx i 6 id else s
  | some o =>
    match s.findTrans i o cls id with
    | none =>
      if cls = 0 then (s.droSend i ([id, byteAt sm (o + 3)] ++ s.replyValues i)).endCtx i 6 id
      else if cls = 1 then
        let cause := if loss then 8
          else if c.stops.isEmpty = false then 2
          else if c.auth = 0 ∧ c.state = 2 ∧ s.held c.stall = true then 4 else 5
        s.endCtx i cause 0xFFFF
      else s
    | some t =>
      let start := byteAt sm (t + 11)
      let stop := byteAt sm (t + 12)
      let s := s.modCtx i fun c => { c with
        timers := (c.timers.filter fun k => k ≠ stop ∧ k ≠ start) ++ (if start = 0xFF then [] else [start])
        mstate := byteAt sm (t + 5) }
      let route := byteAt sm (t + 7)
      let s := match m with
        | some x => if route = 0 then s
                    else
                      let s := (s.modCtx i fun c => { c with answered := false }).rxWrite (s.handle i) 1 c.chan c.stall x.id x.body arr
                      if route = 1 then s.startTimer i 1 else s
        | none => s
      let s := if leAt sm (t + 8) 2 = 0xFFFF then s
        else s.droSend i ([leAt sm (t + 8) 2, byteAt sm (t + 10)] ++ s.replyValues i)
      let a := byteAt sm (t + 6)
      if loss then (if a = 0x09 ∨ a = 0x0A then s else s.act i a id none true).endCtx i 8 0xFFFF
      else s.act i a id (m.map V2gMsg.params) (decide (cls = 1))

/-! ### What the lane does for a session (R321, R342) -/

/-- The lane wrote the stall's request slot: control records that waited for it complete (R342). -/
def State.droSlot (s : State) (n : Nat) : State :=
  match s.stallCtx n with
  | none => s
  | some i =>
    let l := (s.ctx i).ctrls.filter fun x => x.wait = 0
    let s := s.modCtx i fun c => { c with ctrls := c.ctrls.filter fun x => x.wait ≠ 0 }
    l.foldl (fun t x => t.finish x.p x.num 0x00 (s.handle i)) s

/-- The lane made a mode request, taken or refused by the Walker: a control record that waited for it completes OK or
MODE_REFUSED; with ENERGY the context enters ENERGY (R312, R342). -/
def State.droMode (s : State) (n mode : Nat) (ok : Bool) : State :=
  match s.stallCtx n with
  | none => s
  | some i =>
    let l := (s.ctx i).ctrls.filter fun x => x.wait = 1
    let s := s.modCtx i fun c => { c with
      ctrls := c.ctrls.filter fun x => x.wait ≠ 1, want := none
      state := if ok && decide (mode = 3) && decide (c.state < 5) then 4 else c.state }
    l.foldl (fun t x => t.finish x.p x.num (if ok then 0x00 else 0x45) (s.handle i)) s

end Sys2Proof.Machine
end

