-- ==== Sys2Proof/Machine/Drover.lean ====
section
/-!
DEFINITION. The Drover's commands (R309-R344, R567): tunnel messages, timers and stall results of sessions, authorization, the
session opcodes, the allow-list, and the opening and closing of a session's metering (R289).
-/
namespace Sys2Proof.Machine

/-! ### What a stall offers (R309, R310) -/

/-- Is a protocol usable on a channel under a TLS version (0 none, 1 1.2, 2 1.3), `ask` being whether the vehicle asked for TLS in
SDP? Protocol 4 runs over TLS 1.2 if it did, else bare. -/
def State.protoOk (s : State) (n ch : Nat) (ask : Bool) (tls proto : Nat) : Bool :=
  let req := s.flag (F.DRO_Sn_CFG_TLS_REQ n)
  decide (1 ≤ proto) && decide (proto ≤ 6) && bitOf (s.get (F.DRO_Sn_CFG_PROTO_EN n)) (proto - 1) &&
    bitOf (s.link n).ident.frontEnds (ch - 1) &&
    (match proto with
      | 1 => (decide (ch = 1) || decide (ch = 2)) && decide (tls = 2)
      | 2 => (decide (ch = 1) || decide (ch = 2)) && decide (tls = 2) &&
          decide ((s.types[s.get (F.WLK_Sn_TYPE_TYPE n)]?.map StallType.topology) = some 1)
      | 3 => decide (ch = 1) && decide (tls = 2)
      | 4 => decide (ch = 2) && (if ask then decide (tls = 1) else decide (tls = 0) && !req)
      | 5 => decide (ch = 2) && decide (tls = 0) && !req
      | _ => decide (ch = 3) && decide (tls = 0))

/-- Is any protocol usable so? -/
def State.anyProto (s : State) (n ch : Nat) (ask : Bool) (tls : Nat) : Bool := (List.range 7).any fun p => s.protoOk n ch ask tls p

/-- Is any protocol offered to a vehicle that asks in SDP for TLS, or for none? -/
def State.sdpFits (s : State) (n ch : Nat) (tls : Bool) : Bool :=
  if tls then s.anyProto n ch true 1 || s.anyProto n ch true 2 else s.anyProto n ch false 0

/-! ### TLS (R326-R329) -/

/-- The TLS type of a key slot for server signing: scheme name, if its slot is usable (R327, R485). -/
def slotScheme : Nat → Option String
  | 2 => some "ecdsa_secp256r1_sha256"
  | 3 => some "ecdsa_secp384r1_sha384"
  | 4 => some "ecdsa_secp521r1_sha512"
  | 5 => some "ed448"
  | _ => none

/-- The signature scheme the stall's SECC key signs with under a TLS version, none where the slot or the chain is unusable. -/
def State.secc (s : State) (n version : Nat) : Option String :=
  let k := if version = 13 then s.get (F.DRO_Sn_SECC_KEY_TLS13 n) else s.get (F.DRO_Sn_SECC_KEY_TLS12 n)
  let len := s.get (F.DRO_Sn_SECC_CHAIN_LENGTH n)
  let off := s.get (F.DRO_Sn_SECC_CHAIN_OFFSET n)
  let chain := decide (1 ≤ len) && decide (len ≤ 4096) && decide (off * 4096 + len ≤ 448 * 1048576) && !s.hay.badPages.contains off
  if chain = false ∨ bitOf (s.get (F.TCK_SLOTs_INFO_USAGE k)) 4 = false then none
  else
    match slotScheme (s.get (F.TCK_SLOTs_INFO_TYPE k)) with
    | some x => if version = 13 ∨ s.get (F.TCK_SLOTs_INFO_TYPE k) = 2 then some x else none
    | none => none

def suites13 : List String := ["TLS_AES_128_GCM_SHA256", "TLS_AES_256_GCM_SHA384"]
def suites12 : List String := ["TLS_ECDH_ECDSA_WITH_AES_128_CBC_SHA256", "TLS_ECDHE_ECDSA_WITH_AES_128_CBC_SHA256"]
def groups13 : List String := ["x25519", "x448", "secp256r1", "secp384r1", "secp521r1"]

/-- Does a chain pass (R328)? -/
def State.chainOk (s : State) (bank : Nat) (c : CertChain) : Bool :=
  s.flag F.BIL_TIME_STATUS_VALID && decide (1 ≤ c.certs.length) && decide (c.certs.length ≤ 4) && c.usage &&
    (c.certs.all fun x => x.sigOk && decide (x.from_ ≤ s.wall / 65536) && decide (s.wall / 65536 ≤ x.to_)) &&
    (match c.root with
      | some r => decide (r < byteAt (s.dro.banks.getD bank ([], [])).1 2)
      | none => false)

/-- Does a contract pass (R329)? -/
def State.contractOk (s : State) (bank : Nat) (c : Contract) : Bool := s.chainOk bank c.chain && c.challenge

/-- Is a client certificate asked for: a state-0 message record with ROUTE 2 (R326)? -/
def State.asksClient (s : State) (i : Nat) : Bool :=
  let sm := s.smOf i
  (List.range (byteAt sm 1)).any fun k =>
    let o := 32 + 16 * k
    decide (byteAt sm o ≤ 3) && (List.range (leAt sm (o + 4) 2)).any fun j =>
      let t := leAt sm (o + 8) 4 + 16 * j
      decide (byteAt sm t = 0) && decide (byteAt sm (t + 1) = 0) && decide (byteAt sm (t + 7) = 2)

/-- A ClientHello (R326-R328): the handshake completes, or it fails with an alert and the session ends, cause SECC where the
key or chain is unusable. -/
def State.tlsHello (s : State) (i : Nat) (h : TlsHello) : State :=
  let c := s.ctx i
  let v13 := decide (h.version = 13)
  let ask := c.ask.getD false
  let offered := if v13 then s.anyProto c.stall c.chan ask 2 else decide (h.version = 12) && s.anyProto c.stall c.chan ask 1
  let fail := fun (cause : Nat) => (s.droSend i [0x15, 40]).endCtx i cause 0xFFFF
  if c.conn = false ∨ c.tls ≠ 0 ∨ offered = false then fail 8
  else
    match s.secc c.stall h.version with
    | none => fail 9
    | some sc =>
      let suite := h.suites.any fun x => (if v13 then suites13 else suites12).contains x
      let group := h.groups.any fun x => (if v13 then groups13 else ["secp256r1"]).contains x
      let client := !v13 || !s.asksClient i || (match h.chain with
        | some x => s.chainOk c.bank x
        | none => false)
      if suite && group && h.sigs.contains sc && client then
        (s.modCtx i fun c => { c with tls := if v13 then 2 else 1 }).droSend i [0x16]
      else fail 8

/-! ### Messages (R318, R320, R330) -/

/-- Uppercase ASCII: a normalised VIN (R332). -/
def upper (l : List Nat) : List Nat := l.map fun b => if 0x61 ≤ b ∧ b ≤ 0x7A then b - 32 else b

/-- Normalised EMAID (R332): uppercase ASCII without hyphens. -/
def normEmaid (l : List Nat) : List Nat := upper (l.filter fun b => b ≠ 0x2D)

/-- Give a context an identifier (R324). -/
def State.identify (s : State) (i kind : Nat) (ident : List Nat) : State :=
  s.modCtx i fun c => { c with idKind := kind, ident := ident, idHash := idHash kind ident }

/-- Is a message within the decoder's limits (R330)? -/
def msgSmall (m : V2gMsg) : Bool :=
  decide (m.body.length ≤ 8192) && decide (m.depth ≤ 32) && decide (m.str ≤ 1024) && decide (m.bin ≤ 4096)

/-- Is a message routed to the host alone? -/
def State.toHost (s : State) (i : Nat) (m : V2gMsg) : Bool :=
  match machineAt (s.smOf i) (s.ctx i).proto with
  | none => false
  | some o => match s.findTrans i o 0 m.id with
    | some t => decide (byteAt (s.smOf i) (t + 7) = 1)
    | none => false

/-- What a message's kind leaves in the context before its event (R310, R320, R324). -/
def State.absorb (s : State) (i : Nat) (m : V2gMsg) : State :=
  let c := s.ctx i
  match msgKind (s.exiOf i) m.id with
  | some 0x02 => (s.modCtx i fun c => { c with evccid := m.params.evccid.getD c.evccid }).opened i
  | some k =>
    if 0x06 ≤ k ∧ k ≤ 0x08 then
      match m.contract with
      | some x =>
        if s.get (F.DRO_Sn_CFG_PAYMENT c.stall) ≠ 1 ∧ s.contractOk c.bank x = true then
          (s.identify i 1 (normEmaid x.emaid)).modCtx i fun c => { c with flags := setBitOf c.flags 3 true }
        else s
      | none => s
    else if 0x20 ≤ k ∧ k ≤ 0x2A then
      match m.params.vin with
      | some v => s.identify i 3 (upper v)
      | none => s
    else s
  | none => s

/-- A message to a device-terminated session: supportedAppProtocol chooses the protocol (R310), then its event runs. -/
def State.droMessage (s : State) (i : Nat) (m : V2gMsg) (arr : Nat) : State :=
  let c := s.ctx i
  if c.proto = 0 then
    match m.protocols.find? fun p => s.protoOk c.stall c.chan (c.ask.getD false) c.tls p with
    | none => (s.droSend i [2]).endCtx i 6 m.id
    | some p => (s.modCtx i fun c => { c with proto := p, mstate := 0 }).droEvent i 0 m.id (some m) arr
  else if s.toHost i m then (if m.body.length ≤ 16384 then s.droEvent i 0 m.id (some m) arr else s.endCtx i 7 m.id)
  else if msgSmall m then (s.absorb i m).droEvent i 0 m.id (some m) arr
  else s.endCtx i 7 m.id

/-- A GB/T handshake message (R312)? -/
def State.gbtOpens (s : State) (m : V2gMsg) : Bool :=
  decide (msgKind (s.dro.banks.getD s.dro.active ([], [])).2 m.id = some 0x20)

/-- Open a context for the stall where that may be (R312, R567). -/
def State.tryOpen (s : State) (n ch proto : Nat) (f : Nat → State → State) : State :=
  if s.mayOpen n then
    let r := s.openCtx n ch proto false
    match r.1 with
    | some i => f i r.2
    | none => r.2
  else s

/-- A SYN is taken (R311): the connection stands, with the MSS in the answer. -/
def State.takeSyn (s : State) (i : Nat) : State :=
  let c := s.ctx i
  (s.modCtx i fun c => { c with conn := true, retries := 0 }).tcpSend c.stall c.chan (s.handle i) 0x12 mssOption []

/-- An Ethernet message for a stall that has no context from OPEN to ENDING (R309, R311, R312, R337). -/
def State.viewNew (s : State) (n ch : Nat) (v : DroView) : State :=
  match v with
  | .sdp tls =>
    if s.sdpFits n ch tls then s.tryOpen n ch 0 fun i s => (s.modCtx i fun c => { c with ask := some tls }).sdpReply n ch tls else s
  | .syn =>
    if s.anyProto n ch false 0 || s.anyProto n ch false 2 then s.tryOpen n ch 0 fun i s => s.takeSyn i else s.sendRst n ch
  | .lost => s
  | _ => s.sendRst n ch

/-- An Ethernet message for a context: only the channel that opened it has its connection, and an ending context takes none. -/
def State.viewCtx (s : State) (i n ch : Nat) (v : DroView) (arr : Nat) : State :=
  let c := s.ctx i
  let mine := decide (c.chan = ch)
  let conn := mine && c.conn
  match v with
  | .sdp tls =>
    if s.sdpFits n ch tls then
      (if mine && !c.conn then s.modCtx i fun c => { c with ask := some tls } else s).sdpReply n ch tls
    else s
  | .syn => if mine && !c.conn && decide (c.state < 5) then s.takeSyn i else s.sendRst n ch
  | .segment => if conn then s.modCtx i fun c => { c with retries := 0 } else s.sendRst n ch
  | .hello h => if conn then s.tlsHello i h else s.sendRst n ch
  | .message m => if conn then (if c.state < 5 then s.droMessage i m arr else s) else s.sendRst n ch
  | .undecodable id => if conn then (if c.state < 5 then s.endCtx i 7 id else s) else s.sendRst n ch
  | .lost => if conn then (s.modCtx i fun c => { c with conn := false }).endCtx i 8 0xFFFF else s

/-- A CAN message for the Drover (R120, R309, R312): one that is no run of CAN records is undecodable. -/
def State.viewCan (s : State) (n : Nat) (raw : List Nat) (v : DroView) (arr : Nat) : State :=
  let v := if canWellFormed raw then v else .undecodable 0xFFFF
  match s.stallCtx n, v with
  | none, .message m =>
    if s.protoOk n 3 false 0 6 && s.gbtOpens m then s.tryOpen n 3 6 fun i s => (s.opened i).droMessage i m arr else s
  | some i, .message m => if (s.ctx i).chan = 3 ∧ (s.ctx i).state < 5 then s.droMessage i m arr else s
  | some i, .undecodable id => if (s.ctx i).chan = 3 ∧ (s.ctx i).state < 5 then s.endCtx i 7 id else s
  | _, _ => s

/-- A message for the Drover on a device-terminated stall; beyond 1,514 bytes there is no Ethernet message (R120). -/
def State.droView (s : State) (n ch : Nat) (raw : List Nat) (v : DroView) (arr : Nat) : State :=
  if ch = 3 then s.viewCan n raw v arr
  else if 1514 < raw.length then s
  else match s.stallCtx n with
    | none => s.viewNew n ch v
    | some i => s.viewCtx i n ch v arr

/-- Is the message a ClientHello, whose signature work waits while readings wait to be signed (R507)? -/
def isHello : DroView → Bool
  | .hello _ => true
  | _ => false

/-- DRO_MESSAGE_RECEIVE (R120, R315, R318, R544, R567): the oldest tunnel message the stall's link holds; `v` is what the
layers below make of it on a device-terminated stall. In QUIET the messages stay held; a ClientHello waits for a signature engine
(R507). -/
def execDroMessageReceive (n : Nat) (v : DroView) (s : State) : Host.Outcome State Fault Refusal :=
  .next (
    let host := s.flag (F.DRO_Sn_CFG_TUNNEL_MODE n)
    if s.domainOn 10 = false ∨ s.hasStall n = false ∨ s.get F.PWR_STATE_STATE = 1 ∨
        (host = false ∧ isHello v = true ∧ s.sigBusy 1 = true) then s
    else
      match (s.link n).heldTun with
      | [] => s
      | (ch, m, at_) :: t =>
        let s := (s.modLink n fun l => { l with heldTun := t }).resided at_
        if s.linkState n ≠ Link.run then (if host then s.rxDrop else s)
        else if host then s.rxWrite (((s.stallCtx n).map s.handle).getD 0xFFFFFFFF) 0 ch n 0 m at_
        else s.droView n ch m v at_)

/-- DRO_TIMER_EXPIRY (R314, R318): timer `k` of a context expires. -/
def execDroTimerExpiry (i k : Nat) (s : State) : Host.Outcome State Fault Refusal :=
  .next (
    let c := s.ctx i
    if s.domainOn 10 = false ∨ c.live = false ∨ c.state = 5 ∨ k ∉ c.timers then s
    else (s.modCtx i fun c => { c with timers := c.timers.filter fun x => x ≠ k }).droEvent i 1 k none s.chrono)

/-- DRO_STALL_RESULT (R318, R340): a guard of the stall comes to hold; a failed mode that no record matches ends the session,
with cause 11 where a Halter stop or the link is the reason and 10 otherwise. -/
def execDroStallResult (i code : Nat) (s : State) : Host.Outcome State Fault Refusal :=
  .next (
    let c := s.ctx i
    if s.domainOn 10 = false ∨ c.live = false ∨ c.state = 5 ∨ c.host = true ∨ s.guardOk i code = false then s
    else
      let s := s.droEvent i 2 code none s.chrono
      let n := c.stall
      if code = 6 ∧ (s.ctx i).state < 5 then
        s.endCtx i (if s.linkState n ≠ Link.run ∨ (s.halt n).stop ≠ .none then 11 else 10) 0xFFFF
      else s)

/-- TCP_RETRANSMIT_TIMEOUT (R311, R314): resend, or after five retransmissions drop the connection. -/
def execTcpRetransmitTimeout (i : Nat) (s : State) : Host.Outcome State Fault Refusal :=
  .next (
    let c := s.ctx i
    if s.domainOn 10 = false ∨ c.live = false ∨ c.conn = false then s
    else if 5 ≤ c.retries then (s.modCtx i fun c => { c with conn := false }).endCtx i 8 0xFFFF
    else (s.modCtx i fun c => { c with retries := c.retries + 1 }).tcpSend c.stall c.chan (s.handle i) 0x18 []
      ((Config.crypto 41 [s.handle i, c.proto, c.tls, 0x11]).take 1440))

/-- LINGER_EXPIRY (R312). -/
def execLingerExpiry (i : Nat) (s : State) : Host.Outcome State Fault Refusal :=
  .next (if s.domainOn 10 = false ∨ (s.ctx i).state ≠ 6 then s else s.freeCtx i)

/-! ### Authorization (R323-R325, R338) -/

/-- A session's lookup ends (R323, R332, R338). -/
def State.lookDone (s : State) (i : Nat) (uncorr : Bool) : State :=
  let c := s.ctx i
  match c.look with
  | none => s
  | some .first =>
    let r := s.lookupNow (beVal c.idHash) uncorr
    r.2.decideList i (decide (s.get (F.DRO_Sn_CFG_AUTH_MODE c.stall) = 1)) r.1
  | some .fallback =>
    let r := s.lookupNow (beVal c.idHash) uncorr
    r.2.decideList i true r.1
  | some (.token p num kind ident hash) =>
    let r := s.lookupNow (beVal hash) uncorr
    let s := r.2.modCtx i fun c => { c with idKind := kind, ident := ident, idHash := hash, look := none }
    (s.decideList i true r.1).finish p num 0x00 r.1.1

/-- AUTH_LOOKUP_DONE (R323, R332, R333, R338): a running lookup ends, and a waiting one takes its place. -/
def execAuthLookupDone (i : Nat) (uncorr : Bool) (s : State) : Host.Outcome State Fault Refusal :=
  .next (
    if s.domainOn 10 = false ∨ (s.ctx i).live = false ∨ s.lookRuns i = false then s
    else (s.lookDone i uncorr).lookPlaces)

/-- AUTH_HOST_TIMEOUT (R323): no host answer within HOST_WAIT. -/
def execAuthHostTimeout (i : Nat) (s : State) : Host.Outcome State Fault Refusal :=
  .next (
    let c := s.ctx i
    if s.domainOn 10 = false ∨ c.live = false ∨ c.auth ≠ 1 ∨ c.look ≠ none then s
    else if s.get (F.DRO_Sn_CFG_AUTH_MODE c.stall) = 3 then
      (if c.idKind = 0 then s.decideList i true (2, none)
       else (s.modCtx i fun c => { c with auth := 0 }).lookAsk i .fallback)
    else s.refuse i 0)

/-- SESSION_AUTHORIZE (R338); `data` is what host memory holds at BUFADDR. -/
def execSessionAuthorize (p tag : Nat) (data : List Nat) (s : State) : Host.Outcome State Fault Refusal :=
  .next (s.take p tag 0x0701 fun d s =>
    match s.byHandle (d.arg 24 4) with
    | none => s.finish p d.num 0x40 0
    | some i =>
      let c := s.ctx i
      if c.auth ≠ 1 ∨ c.look ≠ none ∨ c.live = false then s.finish p d.num 0x41 0
      else if d.arg 28 1 = 0 then
        let a := d.arg 32 4
        (s.accept i 0 ((d.param.drop 12).take 16) (if a = 0xFFFFFFFF then none else some a) 0).finish p d.num 0x00 0
      else if d.arg 28 1 = 1 then (s.refuse i 0).finish p d.num 0x00 0
      else
        let len := d.arg 29 1
        let tok := padTo len (((d.param.drop 28).take 12) ++ data.take (len - 12))
        s.lookAsk i (.token p d.num 2 tok (idHash 2 tok)))

/-! ### Stopping and showing a session (R339, R340) -/

/-- SESSION_STOP (R339, R342). -/
def execSessionStop (p tag : Nat) (s : State) : Host.Outcome State Fault Refusal :=
  .next (s.take p tag 0x0702 fun d s =>
    match s.byHandle (d.arg 24 4) with
    | none => s.finish p d.num 0x40 0
    | some i =>
      let c := s.ctx i
      if c.live = false then s.finish p d.num 0x00 c.cause
      else
        let s := s.modCtx i fun c => { c with stops := c.stops ++ [(p, d.num)] }
        if c.host then s.endCtx i 1 0xFFFF
        else if d.arg 28 1 = 1 then s.endCtx i 2 0xFFFF
        else if c.state = 5 then s
        else (s.droSend i [4]).startTimer i 0)

/-- The 256 bytes of a session record (R340). -/
def State.sessionRecord (s : State) (i : Nat) : List Nat :=
  let c := s.ctx i
  let held := decide (c.state ≤ 2) && decide (c.auth = 0) && s.held c.stall
  le 4 (s.handle i) ++ [c.state, c.proto, c.mstate, c.auth, c.source, c.tls, setBitOf c.flags 2 held, c.cause] ++ padTo 6 c.evccid ++ [0, 0] ++
    le 2 c.maxI ++ le 2 c.maxV ++ le 2 c.iReq ++ le 2 c.vReq ++ le 4 (ofSigned 32 c.maxP) ++ [c.soc] ++ List.replicate 7 0 ++
    le 8 c.depart ++ le 8 c.openAt ++ le 8 c.lingerAt ++ padTo 16 c.contract ++ le 4 (c.account.getD 0xFFFFFFFF) ++
    [c.cls, c.idKind, 0, 0] ++ padTo 32 c.idHash ++ padTo 36 c.ident ++ List.replicate 100 0

/-- SESSION_QUERY (R340). -/
def execSessionQuery (p tag : Nat) (s : State) : Host.Outcome State Fault Refusal :=
  .next (s.take p tag 0x0703 fun d s =>
    match (if d.arg 24 4 = 0xFFFFFFFF then s.newestCtx d.target else s.byHandle (d.arg 24 4)) with
    | none => s.finish p d.num 0x40 0
    | some i => s.finishBuf p d (s.sessionRecord i))

/-! ### TUNNEL_SEND (R341, R342) -/

/-- Copy a control record's request into the context. -/
def ctrlCopy (data : List Nat) (c : Ctx) : Ctx :=
  { c with flags := setBitOf c.flags 0 (decide (byteAt data 1 = 1)), iReq := leAt data 4 2, vReq := leAt data 6 2 }

/-- A control record (R342). -/
def State.control (s : State) (p : Nat) (d : Desc) (data : List Nat) : State :=
  let h := d.arg 24 4
  let q := byteAt data 0
  let zero := fun a k => (List.range k).all fun j => decide (byteAt data (a + j) = 0)
  let w : Ctrl := { p := p, num := d.num, wait := if q = 0 then 0 else if q = 5 then 2 else 1 }
  let want := if q = 0 then none else some (q, leAt data 2 2)
  if 5 < q ∨ 1 < byteAt data 1 ∨ zero 28 36 = false then s.finish p d.num 0x03 0
  else if h = 0xFFFFFFFF then
    let n := d.target
    if 3 ≤ q then s.finish p d.num 0x03 0
    else if s.held n = true ∨ s.mayOpen n = false then s.finish p d.num 0x44 0
    else if (s.stallCtx n).isSome then s.finish p d.num 0x05 0
    else
      let r := s.openCtx n 0 0 true
      match r.1 with
      | none => r.2.finish p d.num 0x05 0
      | some i =>
        let a := leAt data 24 4
        let s := r.2.modCtx i fun c => { ctrlCopy data c with
          contract := (data.drop 8).take 16, account := if a = 0xFFFFFFFF then none else some a, ctrls := [w], want := want
          auth := 2, source := 0 }
        s.opened i
  else
    match s.byHandle h with
    | none => s.finish p d.num 0x40 0
    | some i =>
      if (s.ctx i).live = false then s.finish p d.num 0x40 0
      else if zero 8 20 = false then s.finish p d.num 0x03 0
      else
        let s := s.modCtx i fun c => { c with ctrls := c.ctrls ++ [w] }
        if q = 5 then s.endCtx i 1 0xFFFF
        else s.modCtx i fun c => { ctrlCopy data c with want := if q = 0 then c.want else want }

/-- TUNNEL_SEND (R341); `data` is what host memory holds at BUFADDR. -/
def execTunnelSend (p tag : Nat) (data : List Nat) (s : State) : Host.Outcome State Fault Refusal :=
  .next (s.take p tag 0x0704 fun d s =>
    let n := d.target
    let host := s.flag (F.DRO_Sn_CFG_TUNNEL_MODE n)
    let kind := d.arg 28 1
    let data := padTo d.length data
    let wait := fun (n ch h : Nat) (s : State) =>
      let x : Send := { p := p, num := d.num, stall := n, chan := ch, handle := h
                        left := (((s.link n).tun.getD ch Tun.init).tx).length }
      s.modDro fun d => { d with sends := s.dro.sends ++ [x] }
    if (if kind = 2 then d.length ≠ 64 else d.length = 0 ∨ 16384 < d.length) then s.finish p d.num 0x43 0
    else if (if kind = 1 then host = true else host = false) then s.finish p d.num 0x42 0
    else if kind = 2 then s.control p d data
    else if kind = 0 then
      wait n (d.arg 29 1) (((s.stallCtx n).map s.handle).getD 0xFFFFFFFF) (s.tunSend n (d.arg 29 1) data)
    else
      match s.byHandle (d.arg 24 4) with
      | none => s.finish p d.num 0x40 0
      | some i =>
        if (s.ctx i).live = false then s.finish p d.num 0x40 0
        else
          let c := s.ctx i
          let sm := s.smOf i
          let resp := match machineAt sm c.proto with
            | some o => fun k => decide (byteAt sm (leAt sm (o + 12) 4 + 4 * k + 2) = 1)
            | none => fun _ => false
          let s := s.modCtx i fun c => { c with answered := true, timers := c.timers.filter fun k => !resp k }
          wait c.stall c.chan (d.arg 24 4) (s.droSend i ([0, d.arg 30 2] ++ data)))

/-! ### The allow-list (R333-R335, R343) -/

/-- ALLOW_LOOKUP (R333, R343): it runs at once where a place is free; `uncorr` is whether its leaf read is uncorrectable (R523). -/
def execAllowLookup (p tag : Nat) (uncorr : Bool) (s : State) : Host.Outcome State Fault Refusal :=
  .next (s.take p tag 0x0705 fun d s =>
    (s.modDro fun x => { x with looks := s.dro.looks ++ [.op p d.num uncorr] }).lookPlaces)

def State.modOverlay (s : State) (f : Overlay → Overlay) : State :=
  s.modDro fun d => { d with overlay := s.dro.overlay.map f }

/-- Cut a sorted run of entries into leaves of at most 64, entries of one first-8-bytes value together (R332). -/
def cutLeaves : Nat → List Entry → List (List Entry)
  | 0, l => [l]
  | k + 1, l =>
    if l.length ≤ 64 then [l]
    else
      let at_ := match l[64]? with
        | some e => ((l.take 64).reverse.dropWhile fun x => hash8 x.hash = hash8 e.hash).length
        | none => 64
      let n := if at_ = 0 then 64 else at_
      l.take n :: cutLeaves k (l.drop n)

/-- A leaf rewritten with the overlay's entries that belong to it (R335): one leaf, or more where it overflows. -/
def mergeLeaf (o : Overlay) (leaf : Leaf) (next : Option Nat) : List Leaf :=
  let mine := o.entries.filter fun e => decide (leaf.low ≤ hash8 e.hash) && (match next with
    | some x => decide (hash8 e.hash < x)
    | none => true)
  let old := if o.clear then [] else leaf.entries.filter fun e => !(mine.any fun x => x.hash = e.hash)
  let all := (mine.filter fun e => e.status ≠ 0).foldl (fun l e => insertBy Entry.hash e l) old
  let cuts := cutLeaves (all.length / 32 + 1) all
  (cuts.zipIdx).map fun x =>
    { low := if x.2 = 0 then leaf.low else hash8 ((x.1.head?.map Entry.hash).getD 0), entries := x.1, lost := leaf.lost && !o.clear }

/-- ALLOW_MERGE_LEAF (R335): the merge starts the store of its next leaf (C3), or of its index (C2) once the leaf is written;
a refused store is tried by the next of these commands. -/
def execAllowMergeLeaf (s : State) : Host.Outcome State Fault Refusal :=
  .next (
    if s.domainOn 10 = false then s
    else
      match s.dro.overlay with
      | none => s
      | some o =>
        if o.busy = 0 then
          let r := s.tryStore 3 1 .leaf
          if r.1 then r.2.modOverlay fun o => { o with busy := 1 } else r.2
        else if o.busy = 2 then
          let r := s.tryStore 2 1 .leafIdx
          if r.1 then r.2.modOverlay fun o => { o with busy := 3 } else r.2
        else s)

/-- The leaf is written: its index follows. -/
def State.leafDurable (s : State) : State :=
  let s := s.modOverlay fun o => { o with busy := 2 }
  let r := s.tryStore 2 1 .leafIdx
  if r.1 then r.2.modOverlay fun o => { o with busy := 3 } else r.2

/-- The leaf index is committed (R335): the new leaves are in force; after the last the serial is, with ALLOW_MERGED (0x0707). -/
def State.leafIdxDurable (s : State) : State :=
  match s.dro.overlay with
  | none => s
  | some o =>
    match s.dro.leaves[o.next]? with
    | none => s
    | some leaf =>
      let new := mergeLeaf o leaf ((s.dro.leaves[o.next + 1]?).map Leaf.low)
      let leaves := s.dro.leaves.take o.next ++ new ++ s.dro.leaves.drop (o.next + 1)
      let k := o.next + new.length
      let s := s.modDro fun d => { d with leaves := leaves }
      if k < leaves.length then s.modOverlay fun o => { o with next := k, busy := 0 }
      else
        let s := s.modDro fun d => { d with overlay := none }
        let s := s.set F.DRO_ALLOW_SERIAL o.serial
        s.raise 0x0707 1 0xFFFF (le 4 o.serial ++ le 4 (s.get F.DRO_ALLOW_COUNT))

/-! ### The receive rings' registers (R316) -/

/-- A write to a receive ring's CFG register (`dro`, else the CAN's): the ring is the paddock's that enables it; another
paddock's write is discarded, and so is one with a size outside 4-12 while the ring is disabled (R609); SIZE_LOG2 and the restart
as R58. -/
def State.rxCfgWrite (s : State) (p : Nat) (dro : Bool) (val : Nat) : State :=
  let fe := if dro then F.DRO_RX_CFG_ENABLE else F.CAN_RX_CFG_ENABLE
  let fo := if dro then F.DRO_RX_CFG_OWNER else F.CAN_RX_CFG_OWNER
  let fs := if dro then F.DRO_RX_CFG_SIZE_LOG2 else F.CAN_RX_CFG_SIZE_LOG2
  let fv := if dro then F.DRO_RX_CFG_VECTOR else F.CAN_RX_CFG_VECTOR
  let off := if dro then 0x70028 else 0xB000C
  s.setupWrite p off val fun _ _ w s =>
    let was := s.flag fe
    if (was ∧ s.get fo ≠ p) ∨ (was = false ∧ (bitsOf w 19 16 < 4 ∨ 12 < bitsOf w 19 16)) then s
    else
      let en := bitOf w 31
      let s := s.set fv (bitsOf w 27 24)
      let s := if was then s else s.set fs (bitsOf w 19 16)
      let s := s.setB fe en
      if en && !was then (s.set fo p).modPd p (·.modRing (if dro then 13 else 14) fun _ => Ring.init) else s

/-- DRO_RX_ENABLE_WRITE (R316, R344): DRO_RX_CFG is written with ENABLE set. -/
def execDroRxEnableWrite (p val : Nat) (s : State) : Host.Outcome State Fault Refusal :=
  .next (s.rxCfgWrite p true (setBitOf (val % 2 ^ 32) 31 true))

/-! ### The metering of a session (R289-R291, R325) -/

/-- LANE_SESSION_BIND (R289, R325): the lane binds the stall's accepted session to its channel; a device-terminated context is
then READY (R312). -/
def execLaneSessionBind (n : Nat) (s : State) : Host.Outcome State Fault Refusal :=
  .next (
    match s.stallCtx n with
    | none => s
    | some i =>
      let c := s.ctx i
      if s.domainOn 10 = false ∨ c.auth ≠ 2 ∨ 2 < c.state ∨ s.metered i = true ∨ s.openingOn n = true then s
      else
        let b : Bind := { handle := s.handle i, contract := c.contract, account := c.account }
        let s := s.modMet n fun m => { m with bind := some b }
        if c.host then s else s.modCtx i fun c => { c with state := 3 })

/-- SESSION_METERING_OPEN (R40, R289, R290): the first link-cycle start after the binding. Billing opens the session's
metering at this split point, or refuses, and the Drover refuses the session. -/
def execSessionMeteringOpen (n : Nat) (s : State) : Host.Outcome State Fault Refusal :=
  .next (
    let m := s.met n
    match m.bind with
    | none => s
    | some b =>
      if s.domainOn 8 = false ∨ s.openingOn n = true ∨ (m.sess.isSome = true ∧ s.closingOn n = false) then s
      else
        match s.byHandle b.handle with
        | none => s.modMet n fun m => { m with bind := none }
        | some i =>
          if s.refuses b then
            (if (s.ctx i).host then s else (s.modMet n fun m => { m with bind := none }).refuse i (s.ctx i).source)
          else
            let s := s.addSplit s.chrono (some n) [.openSess n (s.edgeNow s.chrono)]
            if (s.ctx i).host ∧ (s.ctx i).state < 3 then s.modCtx i fun c => { c with state := 3 } else s)

/-- SESSION_METERING_CLOSE (R289, R291, R312): at this link-cycle start the session has ended, the mode is IDLE or STOPPED and
the contactor is open. -/
def execSessionMeteringClose (n : Nat) (s : State) : Host.Outcome State Fault Refusal :=
  .next (
    match (s.met n).sess with
    | none => s
    | some x =>
      if s.domainOn 8 = false ∨ x.ending = false ∨ (s.mode n ≠ 0 ∧ s.mode n ≠ 5) ∨ s.contactorClosed n = true then s
      else
        let s := s.addSplit s.chrono (some n) [.closeSess n (s.edgeNow s.chrono)]
        let s := s.modMet n fun m => { m with sess := m.sess.map fun y => { y with ending := false } }
        match s.byHandle x.bind.handle with
        | some i => if (s.ctx i).state = 5 then s.toLinger i else s
        | none => s)

end Sys2Proof.Machine
end

