-- ==== Sys2Proof/Machine/Hayloft.lean ====
section
/-!
DEFINITION. The Hayloft's commands (R509-R531): host access, the logs, the hold-up measurement, NAND upkeep.
-/
namespace Sys2Proof.Machine

/-! ### The HOST region -/

/-- Bytes of HOST in the whole region (R511). -/
def hostSize : Nat := 448 * 1048576

/-- HAY_UNCORRECTABLE (0x0E02): a region's page, recovered from its mirror or lost (R523). -/
def State.uncorrectable (s : State) (region page : Nat) (lost : Bool) : State :=
  let s := (s.setB F.HAY_STATUS_UNCORR true).incSat (if lost then F.HAY_CNT_UNCORR_LOST else F.HAY_CNT_UNCORR_RECOVERED)
  s.raise 0x0E02 3 0xFFFF ([region] ++ le 4 page ++ [b2n lost])

/-- HOST_READ (R529): `bad` are the pages that this read finds uncorrectable (R523). -/
def execHostRead (p tag : Nat) (bad : List Nat) (s : State) : Host.Outcome State Fault Refusal :=
  .next (if s.hostWaits then s else s.take p tag 0x0E01 fun d s =>
    let off := d.arg 24 8
    if off % 8 ≠ 0 ∨ d.length % 8 ≠ 0 ∨ d.length = 0 ∨ 1048576 < d.length ∨ hostSize < off + d.length then s.finish p d.num 0x40 0
    else
      let within := fun (g : Nat) => decide (off / 4096 ≤ g) && decide (g ≤ (off + d.length - 1) / 4096)
      let new := (bad.filter fun g => within g && !s.hay.badPages.contains g).eraseDups
      let s := new.foldl (fun t g => t.uncorrectable 6 g true)
        (s.modHay fun h => { h with badPages := s.hay.badPages ++ new })
      if s.hay.badPages.any within then s.finish p d.num 0x41 0
      else s.finishBuf p d ((List.range d.length).map fun i => (Memory.get s.hay.host (off + i)).toNat))

/-! ### Work larger than one store (R519) -/

def State.modWork (s : State) (id : Nat) (f : Work → Work) : State :=
  (s.modHay fun h => { h with work := s.hay.work.map fun w => if w.id = id then f w else w })

/-- Does the limit of a piece of work run from its first refusal (R494, R502), or only while it is held (R529)? -/
def WorkKind.fromFirst : WorkKind → Bool
  | .host _ _ _ _ => false
  | _ => true

/-- Start the next store of a piece of work, at most 16 pages; refused, the work is held. -/
def State.workStart (s : State) (id : Nat) : State :=
  match s.hay.work.find? fun w => w.id = id with
  | none => s
  | some w =>
    if w.busy then s
    else
      let n := min w.left 16
      let r := s.tryStore 3 n (.work id n)
      if r.1 then r.2.modWork id fun w => { w with busy := true, held := if w.kind.fromFirst then w.held else none }
      else r.2.modWork id fun w => { w with held := some (w.held.getD s.chrono) }

/-- A new piece of work of `pages` pages. -/
def State.newWork (s : State) (kind : WorkKind) (pages : Nat) : State :=
  let id := s.hay.nextId
  let w : Work := { id := id, kind := kind, left := pages, done := 0, busy := false, held := none }
  let s := s.modHay fun h => { h with nextId := id + 1, work := s.hay.work ++ [w] }
  s.workStart id

/-- Held work is tried again at each allocation boundary (R519). -/
def State.retryWork (s : State) : State := forAll (s.hay.work.map Work.id) (fun id s => s.workStart id) s

/-- HOST_WRITE (R529): `data` is what host memory holds at BUFADDR. -/
def execHostWrite (p tag : Nat) (data : List Nat) (s : State) : Host.Outcome State Fault Refusal :=
  .next (if s.hostWaits then s else s.take p tag 0x0E02 fun d s =>
    let off := d.arg 24 8
    if off % 4096 ≠ 0 ∨ d.length % 4096 ≠ 0 ∨ d.length = 0 ∨ 1048576 < d.length ∨ hostSize < off + d.length then
      s.finish p d.num 0x40 0
    else if s.noSpare then s.finish p d.num 0x43 0
    else s.newWork (.host p d.num off (padTo d.length data)) (d.length / 4096))

/-! ### The logs (R527, R528) -/

/-- LOG_FETCH (R528). -/
def execLogFetch (p tag : Nat) (s : State) : Host.Outcome State Fault Refusal :=
  .next (if s.listReads then s else s.take p tag 0x0E03 fun d s =>
    let rid := if d.arg 24 1 = 0 then 3 else 5
    let mark := bitOf (d.arg 25 1) 0
    let from_ := d.arg 32 8
    let count := d.arg 40 4
    let x := s.region rid
    let head := x.base + x.items.length
    if 1 < d.arg 24 1 ∨ 1 < d.arg 25 1 ∨ count = 0 ∨ 4096 < count ∨ (mark = true ∧ rid = 3) then s.finish p d.num 0x40 0
    else if mark = true ∧ s.hasRight p 4 = false then s.finish p d.num 0x02 0
    else if head < from_ ∨ from_ < x.base then s.finish p d.num 0x42 0
    else if from_ = head then s.finish p d.num 0x00 0
    else
      let all := (x.items.drop (from_ - x.base)).take count
      let size := itemSize rid
      let out := (all.filter fun b => !b.isEmpty).take (d.length / size)
      let full := (all.filter fun b => !b.isEmpty).length
      let last := if out.length = full then from_ + all.length else from_ + out.length
      let s := if mark && !out.isEmpty then
          (s.setRegion rid { x with mark := max x.mark last }).set F.HAY_CL_MARK (max x.mark last)
        else s
      let s := if out.isEmpty then s else s.bufWrite p d out.flatten
      s.finish p d.num (if out.length = full then 0x00 else 0x01) (full * size) (!out.isEmpty))

/-! ### Hold-up energy (R515-R522) -/

/-- HOLDUP_MEASUREMENT_START (R517): only in NORMAL and with no store running. -/
def execHoldupMeasurementStart (s : State) : Host.Outcome State Fault Refusal :=
  .next (
    if s.domainOn 5 = false ∨ s.get F.PWR_STATE_SUPPLY ≠ 0 ∨ s.hay.running.isEmpty = false then s
    else (s.modHay fun h => { h with measuring := some s.chrono }))

/-- HOLDUP_MEASUREMENT_END (R517): VHOLD has fallen by `dv` mV since the start, and the store domain draws `iStore` mA; the C
in force is the lowest of the last four measurements. -/
def execHoldupMeasurementEnd (dv iStore : Nat) (s : State) : Host.Outcome State Fault Refusal :=
  .next (
    match s.hay.measuring with
    | none => s
    | some t =>
      let s := s.modHay fun h => { h with measuring := none }
      if dv = 0 then s
      else
        let c := min (Config.rnd ((200 + iStore) * (s.chrono - t) : Nat) (250 * dv)).toNat 0xFFFFF
        let l := (c :: s.hay.meas).take 4
        let s := s.modHay fun h => { h with meas := l }
        ((s.set F.HAY_HOLDUP_C (l.foldl min c)).setB F.HAY_STATUS_CAL_VALID true).seeFinal)

/-- HOLDUP_WEAK (R522): FINAL_OK has read 0 for 1 s in RUN. -/
def execHoldupWeak (s : State) : Host.Outcome State Fault Refusal :=
  .next (
    if s.finalOk ∨ s.inRun = false ∨ s.domainOn 5 = false then s
    else s.raise 0x0E01 2 0xFFFF (le 4 (s.get F.HAY_HOLDUP_C) ++ le 4 s.eHold ++ le 4 (Config.rnd (s.finalNeed : Nat) 100).toNat))

/-! ### NAND upkeep (R514, R523-R525) -/

/-- Is a region kept on two dies (R511)? -/
def mirrored (r : Nat) : Bool := decide (r ≠ 3)

/-- Does a migration or an erase of a region run? -/
def State.regionBusy (s : State) (r : Nat) : Bool := s.hay.running.any fun x => match x.job with
  | .migrate k _ => decide (k = r)
  | .erase k _ => decide (k = r)
  | _ => false

/-- NAND_MIGRATION (R514): the next items of region `r` (1 READINGS, 2 PROFILES, 3 EVENTS, 5 CHANGELOG) go to NAND in sequence
order, at most 16 pages with their mirror; where the region is full, its oldest block is erased first if it may be. -/
def execNandMigration (r : Nat) (s : State) : Host.Outcome State Fault Refusal :=
  .next (
    let x := s.region r
    let unmoved := x.base + x.items.length - x.nand
    let room := regionCap r - (x.nand - x.base)
    let per := if mirrored r then 2 else 1
    let n := min (min unmoved room) (65536 / per / itemSize r)
    if s.domainOn 5 = false ∨ ¬(r = 1 ∨ r = 2 ∨ r = 3 ∨ r = 5) ∨ s.regionBusy r = true ∨ unmoved = 0 then s
    else if room = 0 then
      if s.erasable r then (s.tryStore 4 1 (.erase r (s.blockItems r))).2
      else if r = 5 then s.raiseFull else s.refreshHeld
    else (s.tryStore 3 (per * ((n * itemSize r + 4095) / 4096)) (.migrate r n)).2)

/-- Items are in NAND, or the oldest block is erased. -/
def State.migrated (s : State) (r n : Nat) : State := s.setRegion r { s.region r with nand := (s.region r).nand + n }

def State.erased (s : State) (r n : Nat) : State :=
  let x := s.region r
  (s.setRegion r { x with items := x.items.drop n, base := x.base + n, nand := max x.nand (x.base + n) }).refreshHeld

/-- WEAR_LEVEL_MOVE (R525): the highest and lowest erase counts and the mean wear; static data moves when they differ by more
than 1,000. -/
def execWearLevelMove (hi lo mean : Nat) (s : State) : Host.Outcome State Fault Refusal :=
  .next (
    if s.domainOn 5 = false then s
    else
      let s := (s.set F.HAY_WEAR_HIGHEST (min hi 65535)).set F.HAY_WEAR_MEAN (min mean 65535)
      if lo + 1000 < hi then (s.tryStore 3 16 .rewrite).2 else s)

/-- A block is retired (R525): SPARE_LOW (0x0E03) as the spare blocks fall below 25 % and below 5 %. -/
def State.retireBlock (s : State) : State :=
  let was := s.get F.HAY_SPARE_NOW
  let init' := s.get F.HAY_SPARE_INITIAL
  let s := (s.incSat F.HAY_BAD_GROWN).set F.HAY_SPARE_NOW (was - 1)
  let now := was - 1
  if (init' ≤ 20 * was ∧ 20 * now < init') then s.raise 0x0E03 3 0xFFFF (le 2 now)
  else if init' ≤ 4 * was ∧ 4 * now < init' then s.raise 0x0E03 2 0xFFFF (le 2 now) else s

end Sys2Proof.Machine
end

