-- ==== Sys2Proof/Machine/HltOps.lean ====
section
/-!
DEFINITION. Operations of the Halter beyond the stalls (R446-R455): E-stop loops, safety outputs, the Harness and the
load-switch groups they take away, HALT_SAFE.
-/
namespace Sys2Proof.Machine


/-- A four-bit map over the loops. -/
def loopBits (f : Nat → Bool) : Nat := b2n (f 0) + 2 * b2n (f 1) + 4 * b2n (f 2) + 8 * b2n (f 3)

/-- The loops as HLT_STATUS shows them. -/
def State.showLoops (s : State) : State :=
  ((s.set F.HLT_STATUS_OPEN (loopBits fun k => s.loopOpen k)).set F.HLT_STATUS_DISCREP
    (loopBits fun k => s.flag (F.HLT_ESTOPk_STATE_DISCREPANCY k))).set F.HLT_STATUS_AWAIT
    (loopBits fun k => s.flag (F.HLT_ESTOPk_STATE_AWAIT_RESET k))

/-- Does the Halter disable the Harness (R447, R451, R454)? -/
def State.wantHarnessOff (s : State) : Bool :=
  s.haltSafe || (List.range 4).any fun k => (s.loopMap k).harness && s.loopActs k

/-- Does the Halter drop load-switch group `g` (R396, R447, R454)? -/
def State.wantDrop (s : State) (g : Nat) : Bool :=
  s.haltSafe || (List.range 4).any fun k => bitOf (s.loopMap k).groups g && s.loopActs k

/-- The site-wide effects of the loops and of HALT_SAFE follow their causes: SAFE_OUT with its readback, Harness, groups. -/
def State.actLoops (s : State) : State :=
  let s := s.showLoops.refreshSafeOut
  let s := (s.setB F.HLT_SAFE_OUT_A_READ (s.flag F.HLT_SAFE_OUT_A_ON)).setB F.HLT_SAFE_OUT_B_READ (s.flag F.HLT_SAFE_OUT_B_ON)
  let off := s.wantHarnessOff
  let was := s.hlt.harnessOff
  let s := s.modHlt fun h => { h with harnessOff := off }
  let s := if off && !was then s.harnessStop
    else if was && !off then forAll (List.range 8) (fun b s => s.showBridge b) s else s
  forAll (List.range 4) (fun g s => if s.wantDrop g then s.lswDrop g else s.lswUndrop g) s

/-- The emergency stop of every stall that loop `k` maps (R447). -/
def State.loopStops (s : State) (k : Nat) : State :=
  forAll (s.stallNums.filter fun n => bitOf (s.loopMap k).stalls n) (fun n s => s.stopStall n .emergency 0x01) s

/-- ESTOP_LOOP (0x0C02). -/
def State.loopEvent (s : State) (k what : Nat) : State := s.raise 0x0C02 (if what = 2 then 1 else 3) k [what]

/-- A loop in MODE E-stop has opened (R447). -/
def State.loopOpened (s : State) (k : Nat) : State :=
  if (s.loopMap k).mode = 1 then
    (((s.setB (F.HLT_ESTOPk_STATE_AWAIT_RESET k) false).loopStops k).actLoops).loopEvent k 0
  else s.showLoops

/-- Loop `k` re-arms (R448). -/
def State.rearm (s : State) (k : Nat) : State :=
  ((s.setB (F.HLT_ESTOPk_STATE_AWAIT_RESET k) false).actLoops).loopEvent k 2

/-- HALT_SAFE (R454). -/
def State.enterHaltSafe (s : State) (cause : Nat) : State :=
  if s.haltSafe then s
  else
    let s := (s.setB F.HLT_STATUS_HALT_SAFE true).set F.HLT_FAULT_CAUSE cause
    let s := (s.stopAll .emergency 0x15).actLoops
    let s := ((s.set F.GLB_BOOT_STATUS_PHASE 14).setBit F.GLB_BOOT_STATUS_HISTORY 14 true).set F.GLB_BOOT_STATUS_FAIL_CAUSE 4
    s.raise 0x0C05 4 0xFFFF [cause]

/-- The mapping registers of loop `k` as data. -/
def State.mapOf (s : State) (k : Nat) : LoopMap :=
  { mode := s.get (F.HLT_ESTOPk_CFG_MODE k), safeOut := s.flag (F.HLT_ESTOPk_CFG_SAFE_OUT k),
    harness := s.flag (F.HLT_ESTOPk_CFG_HARNESS k), groups := s.get (F.HLT_ESTOPk_CFG_LSW_GROUPS k),
    resetEn := s.flag (F.HLT_ESTOPk_CFG_RESET_EN k), resetGpio := s.get (F.HLT_ESTOPk_CFG_RESET_GPIO k),
    discrepMs := s.get (F.HLT_ESTOPk_CFG_DISCREP_MS k),
    stalls := s.get (F.HLT_ESTOPk_STALL0 k) + 2 ^ 32 * s.get (F.HLT_ESTOPk_STALL1 k) }

/-- The GPIOs claimed for manual resets (R448); a claimed GPIO is an input (R588). -/
def State.claimGpios (s : State) : State :=
  let c := ((List.range 4).filter fun k => decide ((s.loopMap k).mode = 1) && (s.loopMap k).resetEn).foldl
    (fun a k => setBitOf a (s.loopMap k).resetGpio true) 0
  (s.set F.GLB_GPIO_CLAIM c).set F.GLB_GPIO_DIR (s.get F.GLB_GPIO_DIR - (s.get F.GLB_GPIO_DIR &&& c))

/-- The mappings that are durable apply, at an allocation boundary (R447); a loop newly mapped that is open stops its stalls. -/
def State.applyMaps (s : State) : State :=
  let new := (List.range 4).map s.mapOf
  if new = s.hlt.maps then s
  else
    let old := s.hlt.maps
    let s := (s.modHlt fun h => { h with maps := new }).claimGpios
    let s := forAll ((List.range 4).filter fun k => decide (new.getD k LoopMap.init ≠ old.getD k LoopMap.init) && s.loopActs k)
      (fun k s => s.loopStops k) s
    s.actLoops

/-- Every stall in IDLE or STOPPED with its contactors shown open (R471). -/
def State.allAtRest (s : State) : Bool := s.stallNums.all fun n => s.modeRest n && !s.contactorClosed n

/-- Do valid uplink frames of a terminal in step with the device show its conditions: not in OFF, TRAINING or LOST (R442)? -/
def State.uplinkLive (s : State) (n : Nat) : Bool := decide (2 ≤ s.linkState n) && decide (s.linkState n ≤ 6)

/-- Has the cause of the running emergency stop cleared (R442, R445)? -/
def State.causeCleared (s : State) (n : Nat) : Bool :=
  let h := (s.link n).hstat
  match s.get (F.HLT_Sn_STATE_CAUSE n) with
  | 0x01 => !s.estopOn n
  | 0x02 => !bitOf h 8
  | 0x03 => !bitOf h 13
  | 0x04 => !bitOf h 11
  | 0x05 => !(s.halt n).hot && !bitOf h 10
  | 0x0A => !s.flag (F.HLT_Sn_LATCH_WELD n)
  | 0x0E => decide (3 ≤ s.linkState n) && decide (s.linkState n ≤ 6)
  | 0x0F => !s.flag (F.SLK_Sn_STATE_EDGE_LATCH n)
  | 0x15 => false
  | _ => true

end Sys2Proof.Machine
end

