-- ==== Sys2Proof/Machine/Paddock.lean ====
section
/-!
DEFINITION. The paddocks (R43-R91): doorbell polls and fetching, starting descriptors, rings, interrupts, FLR and PERST.
-/
namespace Sys2Proof.Machine

/-! ### Ring registers -/

def State.ringEnabled (s : State) (p r : Nat) : Bool :=
  if r < 8 then s.flag (F.PDK_SQi_CFG_ENABLE p r)
  else if r < 12 then s.flag (F.PDK_CQj_CFG_ENABLE p (r - 8))
  else if r = 12 then s.flag (F.PDK_EQ_CFG_ENABLE p)
  else if r = 13 then s.flag F.DRO_RX_CFG_ENABLE && decide (s.get F.DRO_RX_CFG_OWNER = p)
  else if r = 14 then s.flag F.CAN_RX_CFG_ENABLE && decide (s.get F.CAN_RX_CFG_OWNER = p)
  else false

def State.ringSize (s : State) (p r : Nat) : Nat :=
  2 ^ (if r < 8 then s.get (F.PDK_SQi_CFG_SIZE_LOG2 p r)
       else if r < 12 then s.get (F.PDK_CQj_CFG_SIZE_LOG2 p (r - 8))
       else if r = 12 then s.get (F.PDK_EQ_CFG_SIZE_LOG2 p)
       else if r = 13 then s.get F.DRO_RX_CFG_SIZE_LOG2 else s.get F.CAN_RX_CFG_SIZE_LOG2)

/-- The device's own index of a ring: the consumer index of an SQ, the producer index of another. -/
def State.devIndex (s : State) (p r : Nat) : Nat :=
  if r < 8 then s.get (F.PDK_SQi_CONS p r)
  else if r < 12 then s.get (F.PDK_CQj_PROD p (r - 8))
  else if r = 12 then s.get (F.PDK_EQ_PROD p)
  else ((s.pd p).ring r).prod

def State.vectorOf (s : State) (p r : Nat) : Nat :=
  if r = 12 then s.get (F.PDK_EQ_CFG_VECTOR p)
  else if r = 13 then s.get F.DRO_RX_CFG_VECTOR
  else if r = 14 then s.get F.CAN_RX_CFG_VECTOR
  else s.get (F.PDK_CQj_CFG_VECTOR p (r - 8))

/-! ### Doorbell records (R54-R57) -/

/-- Is the host index out of range (R57): an SQ producer more than a ring ahead, or a consumer ahead of the device? -/
def State.indexBad (s : State) (p r idx : Nat) : Bool :=
  let diff := if r < 8 then (idx + 2 ^ 32 - s.devIndex p r) % 2 ^ 32 else (s.devIndex p r + 2 ^ 32 - idx) % 2 ^ 32
  decide (s.ringSize p r < diff)

/-- One doorbell record as read (R55, R57); a freed CQ takes held completions (R73), a freed EQ EVENTS_LOST (R76). -/
def State.pollRecord (s : State) (p : Nat) (d : Doorbell) : State :=
  let r := (s.pd p).ring d.ring
  if s.ringEnabled p d.ring = false ∨ r.stopped = true ∨ d.seq = r.hostSeq then s
  else
    let s := s.modPd p (·.modRing d.ring fun x => { x with hostSeq := d.seq, hostIdx := d.index })
    if s.indexBad p d.ring d.index then
      let s := s.modPd p (·.modRing d.ring fun x => { x with stopped := true })
      s.ringError p d.ring 0
    else if d.ring < 8 then s
    else if d.ring < 12 then s.flush p
    else if d.ring = 12 then s.eqLost p
    else s

/-! ### Fetch (R63-R65) -/

/-- A descriptor as its 64 bytes give it. -/
def descOf (sq num : Nat) (b : List Nat) (dep : Option Nat) (depOk : Option Bool) : Desc :=
  { sq := sq, num := num, ord := num, opcode := leAt b 0 2, flags := byteAt b 2, prio := byteAt b 3, tag := leAt b 4 2,
    target := leAt b 6 2, epoch := leAt b 8 4, length := leAt b 12 4, bufaddr := leAt b 16 8,
    param := padTo 40 (b.drop 24), phase := .fetched, dep := dep, depOk := depOk, retried := false, started := false, aux := 0, at_ := 0 }

/-- FLAGS bits. -/
def Desc.fence (d : Desc) : Bool := bitOf d.flags 0
def Desc.chain (d : Desc) : Bool := bitOf d.flags 2
def Desc.idempotent (d : Desc) : Bool := bitOf d.flags 3

/-- LENGTH and BUFADDR consistent and aligned: both zero or neither, BUFADDR on 8 bytes. -/
def Desc.bufOk (d : Desc) : Bool :=
  (decide (d.length = 0) == decide (d.bufaddr = 0)) && decide (d.bufaddr % 8 = 0)

/-- Checks 1 to 5 of R65, made at fetch: the status of the first that fails. -/
def State.fetchStatus (s : State) (p : Nat) (d : Desc) : Option Nat :=
  match opRow? d.opcode with
  | none => some 0x03
  | some r =>
    if !(decide (d.flags < 16) && decide (d.prio < 4) && d.bufOk && s.paramOk d) then some 0x03
    else if (s.pd p).table.any fun x => x.tag = d.tag then some 0x08
    else if !(match r.right with
      | some b => s.hasRight p b
      | none => true) then some 0x02
    else if !(targetOk s.variant r.target d.target) || s.handleBad d then some 0x04
    else if s.domainOn r.domain = false then some 0x0D
    else none

/-- A fetch number is used: the next one is the same for every paddock (R66). -/
def State.countFetch (s : State) : State := { s with pdk := s.pdk.map fun x => { x with nextNum := x.nextNum + 1 } }

/-- Fetch one descriptor of SQ `i`: the consumer index, the in-flight table (R64), CHAIN (R68), checks 1 to 5. -/
def State.fetchOne (s : State) (p i : Nat) (bytes : List Nat) : State :=
  let l := (s.pd p).last.getD i none
  let dep := match l with
    | some y => if y.chain then some y.num else none
    | none => none
  let depOk := match l with
    | some y => if y.chain then y.ok else none
    | none => none
  let d := descOf i (s.pd p).nextNum bytes dep depOk
  let st := s.fetchStatus p d
  let s := s.inc (F.PDK_SQi_CONS p i)
  let s := s.countFetch.modPd p fun x => { x with
    table := x.table ++ [d], last := modAt x.last i fun _ => some ⟨d.num, d.chain, none⟩ }
  let n := (s.pd p).table.length
  let s := (s.set (F.PDK_INFLIGHT_COUNT p) n).set (F.PDK_INFLIGHT_HIGH p) (max n (s.get (F.PDK_INFLIGHT_HIGH p)))
  match st with
  | some c => s.completeD p d c 0 false
  | none => s

/-- Fetch up to `k` descriptors of SQ `i`: only while fewer than 64 are in flight (R64), as far as host memory answers, and not between a
reset request and its effect: R78 leaves no completion for them. -/
def fetchSq (p i : Nat) (slots : List SqSlot) : Nat → State → State
  | 0, s => s
  | k + 1, s =>
    let r := (s.pd p).ring i
    let cons := s.get (F.PDK_SQi_CONS p i)
    if s.ringEnabled p i = false ∨ r.stopped = true ∨ r.hostIdx = cons ∨ 64 ≤ (s.pd p).table.length ∨ s.pwr.reset = true then s
    else
      match slots.find? fun x => x.sq = i ∧ x.slot = cons % s.ringSize p i with
      | some x => fetchSq p i slots k (s.fetchOne p i x.bytes)
      | none => s

/-- One SQ of a poll pass: up to eight descriptors (R63), then DEV_INDEX (R56). -/
def State.passSq (s : State) (p : Nat) (slots : List SqSlot) (i : Nat) : State :=
  let before := s.get (F.PDK_SQi_CONS p i)
  let s := fetchSq p i slots 8 s
  if s.get (F.PDK_SQi_CONS p i) = before then s
  else
    let s := s.modPd p fun d => { d with rr := (i + 1) % 8 }
    s.emit (.devIndex p i (s.get (F.PDK_SQi_CONS p i)) ((s.pd p).ring i).hostSeq)

/-- A poll (R60, R61): the records of the rings that `which` picks, then a fetch pass in round-robin order (R63). Nothing is
polled before RUN (R39); in HIBERNATE polling goes on (R87). -/
def State.poll (s : State) (p : Nat) (which : Nat → Bool) (dbs : List Doorbell) (slots : List SqSlot) : State :=
  if (s.inRun = false ∧ s.get F.PWR_STATE_STATE ≠ 2) ∨ s.domainOn 4 = false ∨ s.pdk.length ≤ p then s
  else
    let s := (dbs.filter fun d => which d.ring).foldl (fun t d => t.pollRecord p d) s
    let rr := (s.pd p).rr
    (((List.range 8).map fun k => (rr + k) % 8).filter which).foldl (fun t i => t.passSq p slots i) s

/-- DOORBELL_POLL (R60): the poll interval of paddock `p` expires; `dbs` and `slots` are what host memory holds. -/
def execDoorbellPoll (p : Nat) (dbs : List Doorbell) (slots : List SqSlot) (s : State) : Host.Outcome State Fault Refusal :=
  .next (s.poll p (fun _ => true) dbs slots)

/-- PDK_NUDGE (R61): a poll of the rings named in the mask, bits 0-7 SQ, 8-12 CQ and EQ. -/
def execPdkNudge (p mask : Nat) (dbs : List Doorbell) (slots : List SqSlot) (s : State) : Host.Outcome State Fault Refusal :=
  .next (s.poll p (fun r => decide (r < 13) && bitOf mask r) dbs slots)

/-! ### Starting descriptors (R65-R68, R88) -/

/-- Has every FENCE it waits for resolved (R67)? -/
def State.fenceDone (s : State) (p : Nat) (d : Desc) : Bool :=
  (s.pd p).table.all fun x => !(decide (x.sq = d.sq) && decide (x.ord < d.ord) && (d.fence || x.fence))

/-- Does anything hold starts: no lane in control (R88), a handover draining (R469), a Device reset requested (R551)? -/
def State.startsHeld (s : State) : Bool := !s.lan.control || s.lan.drain || s.pwr.reset

/-- DESCRIPTOR_START (R67): a fetched descriptor whose FENCE and CHAIN predecessors have resolved completes CHAIN_SKIPPED
(R68) or STALE_EPOCH (check 6), or goes to its block's queue. -/
def execDescriptorStart (p tag : Nat) (s : State) : Host.Outcome State Fault Refusal :=
  .next (
    match (s.pd p).table.find? fun d => d.tag = tag ∧ d.phase = .fetched with
    | none => s
    | some d =>
      if s.startsHeld ∨ s.fenceDone p d = false ∨ (d.dep.isSome ∧ d.depOk.isNone) then s
      else if d.dep.isSome ∧ d.depOk = some false then s.completeD p d 0x07 0 false
      else if d.epoch ≠ 0 ∧ d.epoch ≠ s.get F.TCK_EPOCH then s.completeD p d 0x0E 0 false
      else
        let s := s.modPd p fun x => { x with
          table := x.table.map fun y => if y.num = d.num then { y with phase := .queued, started := true, aux := s.startNum, at_ := s.chrono } else y }
        { s with startNum := s.startNum + 1 })

/-- NOP (0x0001). -/
def execNop (p tag : Nat) (s : State) : Host.Outcome State Fault Refusal :=
  .next (s.take p tag 0x0001 fun d s => s.finish p d.num 0x00 0)

/-! ### Interrupts and errors (R81, R90, R46) -/

/-- INTERRUPT_COALESCE_TIMEOUT (R81): COALESCE_US passed since the first record of ring 8-12 not yet signalled. -/
def execInterruptCoalesceTimeout (p ring : Nat) (s : State) : Host.Outcome State Fault Refusal :=
  .next (
    if ring < 8 ∨ 12 < ring ∨ ((s.pd p).ring ring).unsig = 0 then s
    else (s.modPd p (·.modRing ring fun x => { x with unsig := 0 })).signal p (s.vectorOf p ring))

/-- RING_DMA_ERROR (R90): a host read of the ring or its doorbell returned an error completion. -/
def execRingDmaError (p ring : Nat) (s : State) : Host.Outcome State Fault Refusal :=
  .next (
    if s.ringEnabled p ring = false then s
    else (s.modPd p (·.modRing ring fun x => { x with stopped := true })).ringError p ring 2)

/-- BAR0_UNSUPPORTED_ACCESS (R46). -/
def execBar0UnsupportedAccess (p : Nat) (s : State) : Host.Outcome State Fault Refusal :=
  .next (s.emit (.unsupported p))

/-- OFF_DOMAIN_REGISTER_ACCESS (R86): a read answers 0xFFFF_FFFF, a write is discarded, and the access is captured; where nothing is
assigned or the stall is absent, a read answers 0 and nothing is captured (R3, R574). -/
def execOffDomainRegisterAccess (p off _val : Nat) (write : Bool) (s : State) : Host.Outcome State Fault Refusal :=
  .next (
    if s.domainOn (domainOf off) then s
    else if s.offAccess off = false then (if write then s else s.emit (.readData p off 0))
    else (if write then s else s.emit (.readData p off 0xFFFFFFFF)).offDomain p (off % 0x200000) write)

/-! ### Enabling and disabling rings (R58, R59, R73, R76, R84) -/

/-- The ring restarts: its device index at zero, nothing seen of its doorbell, no record unsignalled. -/
def State.ringRestart (s : State) (p r : Nat) : State :=
  let s := s.modPd p (·.modRing r fun _ => Ring.init)
  if r < 8 then (s.set (F.PDK_SQi_CONS p r) 0).modPd p fun d => { d with last := modAt d.last r fun _ => none }
  else if r < 12 then s.set (F.PDK_CQj_PROD p (r - 8)) 0
  else ((s.set (F.PDK_EQ_PROD p) 0).set (F.PDK_EVT_LOST p) 0).modPd p fun d => { d with lostSince := 0 }

/-- DEVICE_RUN (0x0001) is the first record once the ring is enabled (R84). -/
def State.heldRun (s : State) (p : Nat) : State :=
  match (s.pd p).runHeld with
  | some pay => (s.modPd p fun d => { d with runHeld := none }).deliver p ⟨0x0001, 1, 0xFFFF, pay⟩
  | none => s

/-- What follows a ring's start: held completions (R73), a held DEVICE_RUN (R84). -/
def State.ringStarted (s : State) (p r : Nat) : State :=
  if r < 8 then s else if r < 12 then s.flush p else s.heldRun p

/-- A write of `val` to the CFG register of ring 0-12: SIZE_LOG2 only while disabled (R58). VECTOR 15, or a size outside R53 while the ring is
disabled, discards the write (R609); the first, and the second where it sets ENABLE, sets RING_ERR.CFG. -/
def State.cfgWrite (s : State) (p r val : Nat) : State :=
  let en := bitOf val 31
  let was := s.ringEnabled p r
  let k := bitsOf val 15 12
  let vec := bitsOf val 27 24
  let badSize := !was && (decide (k < 4) || decide (12 < k))
  if 8 ≤ r ∧ vec = 15 then s.ringError p r 1
  else if badSize then (if en then s.ringError p r 1 else s)
  else
    let on := en
    let s :=
      if r < 8 then
        let s := (s.set (F.PDK_SQi_CFG_CQ p r) (bitsOf val 17 16)).setB (F.PDK_SQi_CFG_ENABLE p r) on
        if was then s else s.set (F.PDK_SQi_CFG_SIZE_LOG2 p r) k
      else if r < 12 then
        let j := r - 8
        let s := (s.set (F.PDK_CQj_CFG_VECTOR p j) vec).set (F.PDK_CQj_CFG_COALESCE_US p j) (bitsOf val 23 16)
        let s := (s.set (F.PDK_CQj_CFG_COALESCE_CNT p j) (val % 256)).setB (F.PDK_CQj_CFG_ENABLE p j) on
        if was then s else s.set (F.PDK_CQj_CFG_SIZE_LOG2 p j) k
      else
        let s := (s.set (F.PDK_EQ_CFG_VECTOR p) vec).set (F.PDK_EQ_CFG_COALESCE_US p) (bitsOf val 23 16)
        let s := (s.set (F.PDK_EQ_CFG_COALESCE_CNT p) (val % 256)).setB (F.PDK_EQ_CFG_ENABLE p) on
        if was then s else s.set (F.PDK_EQ_CFG_SIZE_LOG2 p) k
    if on && !was then (s.ringRestart p r).ringStarted p r
    else s

/-- RING_ENABLE_WRITE (R58): the CFG register of ring 0-12 is written with ENABLE set. -/
def execRingEnableWrite (p ring val : Nat) (s : State) : Host.Outcome State Fault Refusal :=
  .next (if s.domainOn 4 = false ∨ 13 ≤ ring then s else s.cfgWrite p ring (setBitOf (val % 2 ^ 32) 31 true))

/-- RING_DISABLE_WRITE (R59): the CFG register of ring 0-12 is written with ENABLE clear; what was fetched runs on. -/
def execRingDisableWrite (p ring val : Nat) (s : State) : Host.Outcome State Fault Refusal :=
  .next (if s.domainOn 4 = false ∨ 13 ≤ ring then s else s.cfgWrite p ring (setBitOf (val % 2 ^ 32) 31 false))

/-! ### FLR and PERST (R82, R85, R550) -/

/-- The D, P fields of a paddock: its own, and the receive rings it owns. -/
def State.clearDp (s : State) (p : Nat) : State :=
  let dro := decide (s.get F.DRO_RX_CFG_OWNER = p)
  let can := decide (s.get F.CAN_RX_CFG_OWNER = p)
  s.clearRegs fun key ret => decide (ret = .dp) &&
    (ofPaddock p key || (dro && decide (key / 32 / 0x10000 = 7)) || (can && decide (key / 32 / 0x10000 = 0xB)))

/-- FLR of paddock `p` (R82): fetched descriptors and held completions are dropped, started ones run on without a
completion, class P and the D, P settings return to reset (R13, R555), and a change window it opened closes (R499). -/
def State.flr (s : State) (p : Nat) : State :=
  let s := s.modPd p fun d => { Pdk.init with
    nextNum := d.nextNum, evSeq := d.evSeq, runHeld := d.runHeld
    orphans := d.orphans ++ d.table.filter fun x => x.phase = .queued ∨ x.phase = .taken }
  let s := (s.clearDp p).clearRegs fun key ret => decide (ret = .p) && ofPaddock p key
  let s := s.modTck fun t => { t with opening := s.tck.opening.filter fun x => x.1 ≠ p }
  if s.ownsWindow p then s.closeWindow 1 else s

/-- PADDOCK_FLR (R82, R550): FLR, a PCIe hot reset or link down of port `p`. -/
def execPaddockFlr (p : Nat) (s : State) : Host.Outcome State Fault Refusal :=
  .next (s.flr p)

/-- PORT_PERST (R550, R598): the port's fundamental reset acts as its FLR, with its class P items. -/
def execPortPerst (p : Nat) (s : State) : Host.Outcome State Fault Refusal :=
  .next (s.flr p)

end Sys2Proof.Machine
end

