-- ==== Sys2Proof/Machine/PwrOps.lean ====
section
/-!
DEFINITION. The request of a Device reset (R83, R455, R497, R499, R551, R552), and what waits for a reset.
-/
namespace Sys2Proof.Machine


/-- A pending epoch switch is cancelled (R497); its descriptor ends with `status`. -/
def State.cancelSwitch (s : State) (status : Nat) : State :=
  match s.tck.switch with
  | none => s
  | some x =>
    let s := (((s.modTck fun t => { t with switch := none }).set F.TCK_SWITCH_EPOCH 0).set F.TCK_SWITCH_MS 0).setB
      F.TCK_STATUS_SWITCH_PENDING false
    s.finish x.1 x.2.1 status 0

/-- HOLD_STATE (0x0F05). -/
def State.holdEvent (s : State) (what : Nat) : State := s.raise 0x0F05 1 0xFFFF [what, s.get F.PWR_HOLD_CFG_HOLD_S]

/-- The HOLD flags of PWR, HRN, AUX and LSW. -/
def State.showHold (s : State) (b : Bool) : State :=
  (((s.setB F.PWR_HOLD_STATE_HOLD b).setB F.HRN_STATUS_HOLD b).setB F.AUX_STATUS_HOLD b).setB F.LSW_STATUS_HOLD b

/-- The outputs are held and HOLD_WINDOW starts (R551, R552), where the Harness is powered. -/
def State.startHold (s : State) : State :=
  if s.domainOn 13 then
    ((s.modPwr fun w => { w with holdEnd := s.chrono + s.get F.PWR_HOLD_CFG_HOLD_S * 250000000 }).showHold true).holdEvent 0
  else s

/-- A paddock starts over: rings, in-flight table and D, P settings; fetch numbers and event SEQ go on. -/
def State.paddockReset (s : State) (p : Nat) : State :=
  (s.modPd p fun d => { Pdk.init with nextNum := d.nextNum, evSeq := d.evSeq }).clearDp p

/-- ABORTED_RESET for every descriptor of a paddock in flight whose CQ has room; then its D, P settings clear (R83). -/
def State.abortPaddock (s : State) (p : Nat) : State :=
  let s := ((s.pd p).table.filter fun d => d.phase ≠ .finished).foldl (fun t d =>
    if t.cqRoom p (t.get (F.PDK_SQi_CFG_CQ p d.sq)) then t.completeD p d 0x12 0 false else t) s
  s.paddockReset p

/-- A COMPARE ends with its descriptor (R255). -/
def State.endCompares (s : State) : State :=
  let s := s.modWbg fun w => { w with cmp := w.cmp.map fun _ => none }
  forAll [0, 1, 2, 3] (fun k s => if s.get (F.WBG_S0k_CFG_MODE k) = 1 then s.set (F.WBG_S0k_CFG_MODE k) 0 else s) s

/-- A Device reset is requested (R551): cause, Halter stops, hold, ABORTED_RESET; the window and the pending switch end.
A Cold reset wins over it (R550). -/
def State.requestReset (s : State) (cause detail : Nat) : State :=
  if s.pwr.cold then s
  else
    let s := (s.set F.PWR_RESET_CAUSE_CAUSE cause).set F.PWR_RESET_CAUSE_DETAIL detail
    let s := s.modPwr fun w => { w with reset := true, entry := none, final := false }
    let s := (s.stopAll .orderly 0x14).startHold
    let s := forAll [0, 1, 2, 3] (fun p s => s.abortPaddock p) s
    (s.endCompares.cancelSwitch 0x12).closeWindow 1

end Sys2Proof.Machine
end

