-- ==== Sys2Proof/Machine/CanCvu.lean ====
section
/-!
DEFINITION. CAN channels and check-value units (R402-R430): controllers, filters and FIFOs, transmission, bus-off, cabinet reports,
check jobs.
-/
namespace Sys2Proof.Machine

def State.ctl (s : State) (n : Nat) : CanCtl := s.can.ctls.getD n CanCtl.init
def State.modCtl (s : State) (n : Nat) (f : CanCtl → CanCtl) : State := s.modCan fun c => { c with ctls := modAt c.ctls n f }

/-- CAN_STATUS.CFG_REFUSED: a discarded write (R403, R404, R408, R410). -/
def State.canRefused (s : State) : State := s.setB F.CAN_STATUS_CFG_REFUSED true

/-! ### Controller states (R403, R415-R417) -/

/-- A controller's state as CAN_Cn_ERR shows it (0 INIT, 1 error-active, 2 error-passive, 3 bus-off): CAN_STATE (0x0B01) when it
changes. -/
def State.canState (s : State) (n new : Nat) : State :=
  let old := s.get (F.CAN_Cn_ERR_STATE n)
  if new = old then s
  else
    let s := s.set (F.CAN_Cn_ERR_STATE n) new
    s.raise 0x0B01 (if new = 3 then 3 else if new = 2 then 2 else 1) n
      [new, old, s.get (F.CAN_Cn_ERR_TEC n), s.get (F.CAN_Cn_ERR_REC n)]

/-- Every queued CAN_SEND of a controller completes with a status. -/
def State.dropTx (s : State) (n status : Nat) : State :=
  let l := (s.ctl n).tx
  l.foldl (fun t x => t.finish x.p x.num status 0) (s.modCtl n fun c => { c with tx := [] })

/-- CAN_Cn_CTRL is written (R403, R406, R416). -/
def State.canCtrl (s : State) (n w : Nat) : State :=
  let old := s.get (F.CAN_Cn_CTRL_MODE n)
  let new := w % 8
  let s := (s.setB (F.CAN_Cn_CTRL_BRS_EN n) (bitOf w 9)).setB (F.CAN_Cn_CTRL_FD_EN n) (bitOf w 8)
  let s := (s.setB (F.CAN_Cn_CTRL_NOMATCH n) (bitOf w 4)).set (F.CAN_Cn_CTRL_MODE n) new
  if new = old then s
  else
    let s := if old = 1 then s.dropTx n 0x41 else s
    if new = 0 then
      (((s.set (F.CAN_Cn_ERR_TEC n) 0).set (F.CAN_Cn_ERR_REC n) 0).modCtl n fun c => { c with recovering := false }).canState n 0
    else
      let s := if new = 3 then (s.setB (F.CAN_Cn_RATE_RESULT_FOUND n) false).set (F.CAN_Cn_RATE_RESULT_CANDIDATE n) 0 else s
      if old = 0 then s.canState n 1 else s

/-- Is a nominal or data bit timing allowed (R404): `brp`, `seg1`, `seg2`, `sjw` as the fields hold them, `least` kernel clocks? -/
def timingOk (brp seg1 seg2 sjw least1 least : Nat) : Bool :=
  decide (least1 ≤ seg1 + 1) && decide (seg1 ≤ 255) && decide (sjw ≤ seg2) && decide (least ≤ (brp + 1) * (seg1 + seg2 + 3))

/-- RX_DEPTH + TX_DEPTH of all controllers but `n` (R410). -/
def State.bufOthers (s : State) (n : Nat) : Nat :=
  (((List.range 8).filter fun k => k ≠ n).map fun k => s.get (F.CAN_Cn_BUF_RX_DEPTH k) + s.get (F.CAN_Cn_BUF_TX_DEPTH k)).foldl
    (· + ·) 0

/-- Does filter element `e` lie in the list of a controller not in INIT (R408)? -/
def State.filterHeld (s : State) (e : Nat) : Bool :=
  (List.range 8).any fun n =>
    let inL := fun (st c : Nat) => decide (st ≤ e) && decide (e < st + c)
    decide (s.get (F.CAN_Cn_CTRL_MODE n) ≠ 0) &&
      (inL (s.get (F.CAN_Cn_FILT_STD_START n)) (s.get (F.CAN_Cn_FILT_STD_COUNT n)) ||
        inL (s.get (F.CAN_Cn_FILT_EXT_START n)) (s.get (F.CAN_Cn_FILT_EXT_COUNT n)))

/-- A write of `val` to a register of the CAN window (R403, R404, R408, R410, R411). The mode is checked before the ranges (R609). -/
def State.canWrite (s : State) (p off val : Nat) : State :=
  let o := off % 0x10000
  if o = 0x0C then s.rxCfgWrite p false val
  else
    s.setupWrite p off val fun r base w s =>
      let plain := s.writeFields r base w
      let n := (o - 0x1000) / 0x40
      let k := o % 0x40
      if 0x14 ≤ o ∧ o ≤ 0x20 then (if s.flag F.CAN_RX_CFG_ENABLE then s else plain)
      else if 0x8000 ≤ o then
        (if s.filterHeld ((o - 0x8000) / 8) then s.canRefused
         else if o % 8 = 4 ∧ w / 2 ^ 30 = 3 then s else plain)
      else if o < 0x1000 then plain
      else if k = 0 then s.canCtrl n w
      else if s.get (F.CAN_Cn_CTRL_MODE n) ≠ 0 then s.canRefused
      else if k = 4 then
        (if timingOk (bitsOf w 8 0) (bitsOf w 24 16) (bitsOf w 15 9) (bitsOf w 31 25) 2 80 then plain else s.canRefused)
      else if k = 8 then
        (if timingOk (bitsOf w 4 0) (bitsOf w 20 16) (bitsOf w 11 8) (bitsOf w 27 24) 1 10 then plain else s.canRefused)
      else if k = 0x10 then (if decide (bitsOf w 23 16 = 0) || decide (100 < bitsOf w 23 16) then s else plain)
      else if k = 0x18 ∨ k = 0x1C then (if 512 < bitsOf w 25 16 then s else plain)
      else if k = 0x20 then
        (if decide (bitsOf w 6 0 = 0) || decide (64 < bitsOf w 6 0) || decide (bitsOf w 21 16 = 0) || decide (32 < bitsOf w 21 16) then s
         else if 512 < s.bufOthers n + bitsOf w 6 0 + bitsOf w 21 16 then s.canRefused else plain)
      else plain

/-- CAN_MODE_WRITE (R403, R406, R416, R609). -/
def execCanModeWrite (p n val : Nat) (s : State) : Host.Outcome State Fault Refusal :=
  .next (if 8 ≤ n then s else s.canWrite p (0xB1000 + 0x40 * n) val)

/-- CAN_RX_ENABLE_WRITE (R411): CAN_RX_CFG is written with ENABLE set. -/
def execCanRxEnableWrite (p val : Nat) (s : State) : Host.Outcome State Fault Refusal :=
  .next (s.rxCfgWrite p false (setBitOf (val % 2 ^ 32) 31 true))

/-! ### The receive ring (R411) -/

/-- A receive slot (128 bytes), its phase bit apart. -/
def canSlot (x : CanRx) (lost : Nat) : List Nat :=
  let f := x.frame
  let flags := b2n f.ide + 2 * b2n f.fdf + 4 * b2n f.brs + 8 * b2n f.esi + 16 * b2n f.rtr + 32 * b2n x.prio +
    64 * b2n x.filter.isNone
  le 4 f.id ++ [x.ctrl, flags, f.dlc, 0] ++ le 8 x.stamp ++ le 2 (x.filter.getD 0xFFFF) ++ le 2 (min lost 65535) ++
    List.replicate 12 0 ++ padTo 64 f.data ++ List.replicate 32 0

/-- Deliver the oldest waiting frames while the ring has room; a frame an ACTION 2 element stored raises CAN_PRIO_RX (0x0B03). -/
def State.canDeliver : Nat → State → State
  | 0, s => s
  | k + 1, s =>
    match s.can.fifo with
    | [] => s
    | x :: t =>
      let p := s.get F.CAN_RX_CFG_OWNER
      let r := (s.pd p).ring 14
      let size := 2 ^ s.get F.CAN_RX_CFG_SIZE_LOG2
      if s.flag F.CAN_RX_CFG_ENABLE = false ∨ r.stopped = true ∨ size ≤ (r.prod + 2 ^ 32 - r.hostIdx) % 2 ^ 32 then s
      else
        let slot := modAt (canSlot x (s.ctl x.ctrl).lost) 7 fun b => b + 128 * ((r.prod / size + 1) % 2)
        let s := (s.modCan fun c => { c with fifo := t }).modCtl x.ctrl fun c => { c with lost := 0 }
        let s := s.emit (.ringSlot p (s.get F.CAN_RX_BASE_ADDR * 4096 + r.prod % size * 128) slot)
        let new := (r.prod + 1) % 2 ^ 32
        let s := (s.modPd p (·.modRing 14 fun y => { y with prod := new })).emit (.devIndex p 14 new r.hostSeq)
        let s := s.signal p (s.get F.CAN_RX_CFG_VECTOR)
        let s := if x.prio then s.raise 0x0B03 0 x.ctrl (le 4 x.frame.id ++ le 4 r.prod) else s
        State.canDeliver k s

/-- CAN_RX_RING_DELIVERY (R411). -/
def execCanRxRingDelivery (s : State) : Host.Outcome State Fault Refusal :=
  .next (if s.domainOn 11 = false then s else s.canDeliver 512)

/-! ### CRC (R423) -/

/-- `w` bits of `v` reversed. -/
def revBits : Nat → Nat → Nat
  | 0, _ => 0
  | w + 1, v => v % 2 * 2 ^ w + revBits w (v / 2)

/-- A bit enters a CRC register of `w` bits. -/
def crcBit (w poly reg : Nat) (b : Bool) : Nat :=
  let out := reg * 2 % 2 ^ w
  if bitOf reg (w - 1) ≠ b then out ^^^ poly else out

/-- The CRC register after a byte string. -/
def crcReg (w poly reg : Nat) (refin : Bool) (bytes : List Nat) : Nat :=
  bytes.foldl (fun r x => (List.range 8).foldl (fun r i => crcBit w poly r (bitOf x (if refin then i else 7 - i))) r) reg

/-- The CRC that a register gives. -/
def crcOut (w reg xorOut : Nat) (refout : Bool) : Nat := (if refout then revBits w reg else reg) ^^^ xorOut

/-! ### Alive counters (R425) -/

inductive AliveRes where
  | ok | okSkip | again | wrong | resync
  deriving DecidableEq, Repr

/-- Check a counter: the outcome, the delta where one is formed, the new state. -/
def Alive.check (a : Alive) (c m maxDelta sync : Nat) : AliveRes × Option Nat × Alive :=
  match a.phase with
  | .fresh =>
    if sync ≤ 1 then (.ok, none, { phase := .valid, ref := c, n := 1 }) else (.resync, none, { phase := .resync, ref := c, n := 1 })
  | ph =>
    let d := (c + m - a.ref) % m
    if d = 0 then (.again, some 0, a)
    else if maxDelta < d then (.wrong, some d, { phase := .resync, ref := c, n := 1 })
    else if ph = .resync ∧ a.n + 1 < sync then (.resync, some d, { phase := .resync, ref := c, n := a.n + 1 })
    else
      let n := if ph = .resync then a.n + 1 else a.n
      (if d = 1 then .ok else .okSkip, some d, { phase := .valid, ref := c, n := n })

/-! ### Cabinet reports (R418-R422) -/

/-- Bit `b` of the data bytes (R418). -/
def dataBit (data : List Nat) (b : Nat) : Nat := byteAt data (b / 8) / 2 ^ (b % 8) % 2

/-- The bit positions of a big-endian signal from its most significant bit down (R418). -/
def bigBits : Nat → Nat → List Nat
  | 0, _ => []
  | n + 1, b => b :: bigBits n (if b % 8 = 0 then b + 15 else b - 1)

/-- A signal's bit positions, least significant bit first. -/
def CanSignal.bits (g : CanSignal) : List Nat :=
  if g.big then (bigBits g.len g.start).reverse else (List.range g.len).map fun i => g.start + i

/-- A signal's raw value. -/
def CanSignal.raw (g : CanSignal) (data : List Nat) : Int :=
  let v := ((g.bits).zipIdx.map fun x => dataBit data x.1 * 2 ^ x.2).foldl (· + ·) 0
  if g.signed ∧ g.len ≠ 0 then toSigned g.len v else (v : Int)

/-- A power in 0.1 kW (R421): raw × SCALE truncated, at least 0. -/
def CanSignal.power (g : CanSignal) (data : List Nat) : Nat := ((g.raw data * g.scale).tdiv 65536).toNat

/-- CAN_REPORT_FAULT (0x0B05), at most once a round for each cabinet and cause (R420). -/
def State.reportFault (s : State) (cab cause cnt : Nat) : State :=
  if (cab, cause) ∈ s.can.told then s
  else (s.modCan fun c => { c with told := c.told ++ [(cab, cause)] }).raise 0x0B05 2 cab [cause, cnt % 256]

/-- The decoder sees a frame (R420, R421); a remote frame has no data. -/
def State.canDecode (s : State) (n : Nat) (f : CanFrame) : State :=
  match s.can.table.findIdx? fun e => e.ctrl = n ∧ bitOf e.flags 0 = f.ide ∧ e.id = f.id with
  | none => s
  | some k =>
    match s.can.table[k]? with
    | none => s
    | some e =>
      let cnt := ((List.range e.cntBits).map fun i => dataBit f.data (e.cntStart + i) * 2 ^ i).foldl (· + ·) 0
      if f.rtr = true ∨ f.data.length < e.minLen then s.reportFault e.cab 4 cnt
      else
        let nb := (e.crcW + 7) / 8
        let body := (if bitOf e.flags 3 then le 2 e.dataId else []) ++ f.data.take e.crcByte ++
          (f.data.take e.minLen).drop (e.crcByte + nb)
        let crc := crcOut e.crcW (crcReg e.crcW e.poly e.crcInit (bitOf e.crcFlags 0) body) e.xorOut (bitOf e.crcFlags 1)
        if bitOf e.flags 1 ∧ leAt f.data e.crcByte nb % 2 ^ e.crcW ≠ crc then s.reportFault e.cab 1 cnt
        else
          let chk := e.alive.check cnt (2 ^ e.cntBits) e.maxDelta e.sync
          let alive := bitOf e.flags 2
          let s := if alive then s.modCan fun c => { c with table := modAt c.table k fun y => { y with alive := chk.2.2 } } else s
          if alive ∧ chk.1 = .again then s.reportFault e.cab 2 cnt
          else if alive ∧ chk.1 = .wrong then s.reportFault e.cab 3 cnt
          else if alive ∧ chk.1 = .resync then s
          else
            let g := fun (i : Nat) => e.sigs.getD i ⟨0, 0, false, false, 0⟩
            s.cabReport e.cab (decide ((g 0).raw f.data ≠ 0)) (decide ((g 1).raw f.data ≠ 0)) ((g 2).power f.data) ((g 3).power f.data)

/-! ### Reception (R407-R410) -/

/-- Does a filter element match an identifier of `bits` bits (R408)? -/
def filterHit (bits w0 w1 id : Nat) : Bool :=
  let a := w0 % 2 ^ bits
  let b := w1 % 2 ^ bits
  match w0 / 2 ^ 30 with
  | 0 => decide (a ≤ id) && decide (id ≤ b)
  | 1 => decide (id = a) || decide (id = b)
  | 2 => decide (id &&& b = a &&& b)
  | _ => false

/-- The first matching element of the frame's list (R409); a list that runs past element 511 ends there. -/
def State.canFilter (s : State) (n : Nat) (f : CanFrame) : Option Nat :=
  let st := if f.ide then s.get (F.CAN_Cn_FILT_EXT_START n) else s.get (F.CAN_Cn_FILT_STD_START n)
  let c := if f.ide then s.get (F.CAN_Cn_FILT_EXT_COUNT n) else s.get (F.CAN_Cn_FILT_STD_COUNT n)
  ((List.range c).map fun i => st + i).find? fun e =>
    decide (e < 512) && filterHit (if f.ide then 29 else 11) (s.get (F.CAN_FILT_W0 e)) (s.get (F.CAN_FILT_W1 e)) f.id

/-- A stored frame enters its FIFO, or is dropped and counted, with CAN_RX_LOST (0x0B04) once a round (R410). -/
def State.canStore (s : State) (x : CanRx) : State :=
  let n := x.ctrl
  if (s.can.fifo.filter fun y => y.ctrl = n).length < s.get (F.CAN_Cn_BUF_RX_DEPTH n) then
    (s.modCan fun c => { c with fifo := c.fifo ++ [x] }).canDeliver 512
  else
    let s := ((s.incSat (F.CAN_Cn_CNT_LOST n)).incSat F.CAN_RX_LOST).setB F.CAN_STATUS_RX_LOST true
    let told := (s.ctl n).lostTold
    let s := s.modCtl n fun c => { c with lost := c.lost + 1, lostTold := true }
    if told then s else s.raise 0x0B04 2 n (le 4 (s.get (F.CAN_Cn_CNT_LOST n)))

/-- CAN_FRAME_RECEIVE (R402, R407-R410, R420): a frame another node sent ends at `n`, its start of frame stamped `sof`; `err` says
that it met an error instead. -/
def execCanFrameReceive (n : Nat) (f : CanFrame) (sof : Nat) (err : Bool) (s : State) : Host.Outcome State Fault Refusal :=
  .next (
    let mode := s.get (F.CAN_Cn_CTRL_MODE n)
    if 8 ≤ n ∨ s.domainOn 11 = false ∨ mode = 0 ∨ s.get (F.CAN_Cn_ERR_STATE n) = 3 then s
    else if err then s.incSat (F.CAN_Cn_CNT_ERR_ERRORS n)
    else if mode = 3 then s
    else
      let s := (s.inc (F.CAN_Cn_CNT_RX n)).canDecode n f
      match s.canFilter n f with
      | none => if s.flag (F.CAN_Cn_CTRL_NOMATCH n) then s.canStore ⟨n, f, sof, none, false⟩ else s
      | some e =>
        let act := s.get (F.CAN_FILT_W1 e) / 2 ^ 30
        if act = 1 ∨ act = 2 then s.canStore ⟨n, f, sof, some e, decide (act = 2)⟩ else s)

/-! ### Transmission (R412-R414) -/

/-- CAN_SEND (R413, R414); `data` is what host memory holds at BUFADDR. -/
def execCanSend (p tag : Nat) (data : List Nat) (s : State) : Host.Outcome State Fault Refusal :=
  .next (s.take p tag 0x0B01 fun d s =>
    let n := d.target
    let fl := d.arg 28 1
    if s.canSendOk d = false then s.finish p d.num 0x03 0
    else if s.get (F.CAN_Cn_CTRL_MODE n) ≠ 1 then s.finish p d.num 0x41 0
    else if s.get (F.CAN_Cn_ERR_STATE n) = 3 then s.finish p d.num 0x40 0
    else if s.get (F.CAN_Cn_BUF_TX_DEPTH n) ≤ (s.ctl n).tx.length then s.finish p d.num 0x05 0
    else
      let len := dlcLen (bitOf fl 1) (bitOf fl 3) (d.arg 29 1)
      let bytes := padTo len (if d.length = 0 then d.param.drop 8 else data)
      let ide := bitOf fl 0
      let f : CanFrame := { id := if ide then d.arg 24 4 % 2 ^ 29 else d.arg 24 4 % 2 ^ 11, ide := ide, fdf := bitOf fl 1
                            brs := bitOf fl 2 && s.flag (F.CAN_Cn_CTRL_BRS_EN n), esi := decide (s.get (F.CAN_Cn_ERR_STATE n) = 2)
                            rtr := bitOf fl 3, dlc := d.arg 29 1, data := bytes }
      s.modCtl n fun c => { c with tx := c.tx ++ [⟨p, d.num, s.chrono, bitOf fl 4, f⟩] })

/-- The arbitration field as a number, the winner least (ISO 11898-1): base identifier, RTR or SRR, IDE, extension, RTR. -/
def arbKey (f : CanFrame) : Nat :=
  if f.ide then f.id / 2 ^ 18 * 2 ^ 21 + 2 ^ 20 + 2 ^ 19 + f.id % 2 ^ 18 * 2 + b2n f.rtr
  else f.id * 2 ^ 21 + b2n f.rtr * 2 ^ 20

/-- The frame that was offered at `sof`: among those accepted by then the one that wins, the oldest of equals (R413). -/
def State.canOffered (s : State) (n sof : Nat) : Option CanTx :=
  ((s.ctl n).tx.filter fun x => x.at_ ≤ sof).foldl (fun b x => match b with
    | none => some x
    | some y => if arbKey x.frame < arbKey y.frame then some x else some y) none

/-- The transmitter delay measured at the FDF-to-res transition of an FD frame (R405). -/
def State.canTdc (s : State) (n : Nat) (x : CanTx) (delay : Nat) : State :=
  if x.frame.fdf = false ∨ s.flag (F.CAN_Cn_TDC_TDC_EN n) = false ∨ 1 < s.get (F.CAN_Cn_DBT_DBRP n) then s
  else
    let s := s.set (F.CAN_Cn_TDCV n) (min delay 127)
    if 127 < delay then (s.setB (F.CAN_Cn_ERR_TDC_RANGE n) true).raise 0x0B07 2 n [min delay 255] else s

/-- Take a frame out of a transmit queue. -/
def State.canUnqueue (s : State) (n : Nat) (x : CanTx) : State := s.modCtl n fun c => { c with tx := c.tx.filter fun y => y ≠ x }

/-- CAN_FRAME_ACKNOWLEDGED (R405, R407, R414): the frame started at `sof` is acknowledged; `delay` is the transmitter delay measured
in it, kernel clocks. -/
def execCanFrameAcknowledged (n sof delay : Nat) (s : State) : Host.Outcome State Fault Refusal :=
  .next (
    if 8 ≤ n ∨ s.domainOn 11 = false then s
    else
      match s.canOffered n sof with
      | none => s
      | some x =>
        let f := x.frame
        let s := (s.canTdc n x delay).canUnqueue n x
        let flags := b2n f.ide + 2 * b2n f.fdf + 4 * b2n f.brs + 8 * b2n f.rtr
        let s := (s.emit (.canFrame n (le 4 f.id ++ [flags, f.dlc] ++ f.data))).inc (F.CAN_Cn_CNT_TX n)
        s.finish x.p x.num 0x00 (sof % 2 ^ 32))

/-- CAN_ARBITRATION_LOSS (R413): the frame started at `sof` loses arbitration, or meets an error (`err`). -/
def execCanArbitrationLoss (n sof : Nat) (err : Bool) (s : State) : Host.Outcome State Fault Refusal :=
  .next (
    if 8 ≤ n ∨ s.domainOn 11 = false then s
    else
      match s.canOffered n sof with
      | none => s
      | some x =>
        let s := if err then s.incSat (F.CAN_Cn_CNT_ERR_ERRORS n) else s
        if x.oneShot then (s.canUnqueue n x).finish x.p x.num 0x42 0 else s)

/-- CAN_TX_TIMEOUT (R414): TX_MS of the frame of a descriptor expires; `sof` is when the frame on the bus from this controller
started, if one is: that one completes on its outcome. -/
def execCanTxTimeout (n p num : Nat) (sof : Option Nat) (s : State) : Host.Outcome State Fault Refusal :=
  .next (
    match (s.ctl n).tx.find? fun x => x.p = p ∧ x.num = num with
    | none => s
    | some x =>
      let onBus := match sof with
        | some t => decide (s.canOffered n t = some x)
        | none => false
      if s.domainOn 11 = false ∨ onBus = true then s else (s.canUnqueue n x).finish p num 0x06 0)

/-! ### Error states and bus-off (R415-R417) -/

/-- CAN_ERROR_STATE_CHANGE (R415, R416): the error counters of a controller are now `tec` and `rec`. -/
def execCanErrorStateChange (n tec rec_ : Nat) (s : State) : Host.Outcome State Fault Refusal :=
  .next (
    let m := s.get (F.CAN_Cn_CTRL_MODE n)
    if 8 ≤ n ∨ s.domainOn 11 = false ∨ m = 0 ∨ s.get (F.CAN_Cn_ERR_STATE n) = 3 then s
    else
      let s := (s.set (F.CAN_Cn_ERR_TEC n) (min tec 255)).set (F.CAN_Cn_ERR_REC n) (min rec_ 255)
      if 255 < tec then ((s.incSat (F.CAN_Cn_CNT_ERR_BUS_OFF n)).canState n 3).dropTx n 0x40
      else s.canState n (if 127 < tec ∨ 127 < rec_ then 2 else 1))

/-- CAN_RECOVER (R417). -/
def execCanRecover (p tag : Nat) (s : State) : Host.Outcome State Fault Refusal :=
  .next (s.take p tag 0x0B02 fun d s =>
    let n := d.target
    if s.get (F.CAN_Cn_ERR_STATE n) ≠ 3 then s.finish p d.num 0x00 0
    else s.modCtl n fun c => { c with recovering := true, waits := c.waits ++ [(p, d.num, s.chrono)] })

/-- CAN_RECOVERY_DONE (R417). -/
def execCanRecoveryDone (n : Nat) (s : State) : Host.Outcome State Fault Refusal :=
  .next (
    if 8 ≤ n ∨ s.domainOn 11 = false ∨ s.get (F.CAN_Cn_ERR_STATE n) ≠ 3 ∨ (s.ctl n).recovering = false then s
    else
      let l := (s.ctl n).waits
      let s := ((s.set (F.CAN_Cn_ERR_TEC n) 0).set (F.CAN_Cn_ERR_REC n) 0).canState n 1
      let s := s.modCtl n fun c => { c with recovering := false, waits := [] }
      l.foldl (fun t x => t.finish x.1 x.2.1 0x00 ((s.chrono - x.2.2) / 250)) s)

/-- CAN_RECOVER_TIMEOUT (R417): the oldest CAN_RECOVER of a controller completes with TIMEOUT; the recovery goes on. -/
def execCanRecoverTimeout (n : Nat) (s : State) : Host.Outcome State Fault Refusal :=
  .next (
    match (s.ctl n).waits with
    | [] => s
    | x :: t => (s.modCtl n fun c => { c with waits := t }).finish x.1 x.2.1 0x06 0)

/-! ### Rate detection (R406) -/

/-- NBRP, NTSEG1, NTSEG2 and NSJW of a candidate, as the table of R406 gives them. -/
def rateSetting (k : Nat) : Nat × Nat × Nat × Nat :=
  if k = 7 then (1, 79, 20, 20) else if k = 8 then (1, 63, 16, 16) else ([50, 25, 10, 5, 4, 2, 1].getD k 1, 127, 32, 32)

/-- CAN_RATE_DETECT_RESULT (R406): two frames without error confirm candidate `k`: CAN_RATE_FOUND (0x0B02). -/
def execCanRateDetectResult (n k : Nat) (s : State) : Host.Outcome State Fault Refusal :=
  .next (
    if 8 ≤ n ∨ s.domainOn 11 = false ∨ s.get (F.CAN_Cn_CTRL_MODE n) ≠ 3 ∨ 8 < k ∨
        bitOf (s.get (F.CAN_Cn_RATE_CANDIDATES n)) k = false then s
    else
      let r := rateSetting k
      let s := ((s.set (F.CAN_Cn_NBT_NBRP n) (r.1 - 1)).set (F.CAN_Cn_NBT_NTSEG1 n) (r.2.1 - 1)).set (F.CAN_Cn_NBT_NTSEG2 n)
        (r.2.2.1 - 1)
      let s := (s.set (F.CAN_Cn_NBT_NSJW n) (r.2.2.2 - 1)).setB (F.CAN_Cn_RATE_RESULT_FOUND n) true
      let s := (s.set (F.CAN_Cn_RATE_RESULT_CANDIDATE n) k).set (F.CAN_Cn_CTRL_MODE n) 2
      s.raise 0x0B02 1 n [k])

/-- CAN_RATE_DETECT_TIMEOUT (R406). -/
def execCanRateDetectTimeout (n : Nat) (s : State) : Host.Outcome State Fault Refusal :=
  .next (
    if 8 ≤ n ∨ s.domainOn 11 = false ∨ s.get (F.CAN_Cn_CTRL_MODE n) ≠ 3 then s
    else ((s.set (F.CAN_Cn_CTRL_MODE n) 0).canState n 0).raise 0x0B02 1 n [0xFF])

/-! ### Check-value units (R423-R428) -/

def State.cvuWidth (s : State) (u : Nat) : Nat := s.get (F.CVU_Un_CFG_WIDTH u) + 1

/-- The CRC register of a unit after bytes, from a start value. -/
def State.cvuReg (s : State) (u start : Nat) (bytes : List Nat) : Nat :=
  crcReg (s.cvuWidth u) (s.get (F.CVU_Un_POLY u)) start (s.flag (F.CVU_Un_CFG_REFIN u)) bytes

def State.cvuOut (s : State) (u reg : Nat) : Nat :=
  crcOut (s.cvuWidth u) reg (s.get (F.CVU_Un_XOROUT u)) (s.flag (F.CVU_Un_CFG_REFOUT u))

/-- The ASCII string "123456789" (R424). -/
def checkString : List Nat := [0x31, 0x32, 0x33, 0x34, 0x35, 0x36, 0x37, 0x38, 0x39]

/-- Does a job run on unit `u`: one that has started and stands at the front of the block's queue (R424, R426)? -/
def State.jobOn (s : State) (u : Nat) : Bool :=
  (List.range 4).any fun p => ((s.pd p).table ++ (s.pd p).orphans).any fun d =>
    decide (d.phase = .queued) && decide (d.opcode = 0x1001) && decide (d.target = u) && s.isFront d

/-- A write of `val` to a register of the CVU window (R423, R424, R430). -/
def State.cvuWrite (s : State) (p off val : Nat) : State :=
  s.setupWrite p off val fun r base w s =>
    let o := off % 0x10000
    let u := (o - 0x1000) / 0x20
    let k := o % 0x20
    let t := s.writeFields r base w
    if o < 0x1000 then t
    else if s.jobOn u then s.setB F.CVU_STATUS_CFG_REFUSED true
    else if k = 0x14 then
      let md := bitsOf w 15 8
      if md = 0 ∨ 2 ^ (w % 32) ≤ md then s.setB F.CVU_STATUS_CFG_REFUSED true
      else ((t.set (F.CVU_Un_ALIVE_STATE_STATE u) 0).set (F.CVU_Un_ALIVE_STATE_N u) 0).set (F.CVU_Un_ALIVE_STATE_REF u) 0
    else if k ≤ 0x0C then
      let lim := 2 ^ t.cvuWidth u
      if lim ≤ t.get (F.CVU_Un_POLY u) ∨ lim ≤ t.get (F.CVU_Un_INIT u) ∨ lim ≤ t.get (F.CVU_Un_XOROUT u) then
        s.setB F.CVU_STATUS_CFG_REFUSED true
      else t.set (F.CVU_Un_CHECK u) (t.cvuOut u (t.cvuReg u (t.get (F.CVU_Un_INIT u)) checkString))
    else t

/-- CVU_CONFIG_WRITE (R423, R424, R609): register `k` (0 CFG, 1 POLY, 2 INIT, 3 XOROUT) of unit `u`. -/
def execCvuConfigWrite (p u k val : Nat) (s : State) : Host.Outcome State Fault Refusal :=
  .next (if 8 ≤ u ∨ 4 ≤ k then s else s.cvuWrite p (0x101000 + 0x20 * u + 4 * k) val)

/-- CVU_ALIVE_CFG_WRITE (R430). -/
def execCvuAliveCfgWrite (p u val : Nat) (s : State) : Host.Outcome State Fault Refusal :=
  .next (if 8 ≤ u then s else s.cvuWrite p (0x101014 + 0x20 * u) val)

/-- A unit's alive state from its register, and back. -/
def State.cvuAlive (s : State) (u : Nat) : Alive :=
  { phase := match s.get (F.CVU_Un_ALIVE_STATE_STATE u) with
      | 0 => .fresh
      | 1 => .resync
      | _ => .valid
    ref := s.get (F.CVU_Un_ALIVE_STATE_REF u), n := s.get (F.CVU_Un_ALIVE_STATE_N u) }

def AlivePhase.code : AlivePhase → Nat
  | .fresh => 0 | .resync => 1 | .valid => 2

def State.putAlive (s : State) (u : Nat) (a : Alive) : State :=
  ((s.set (F.CVU_Un_ALIVE_STATE_STATE u) a.phase.code).set (F.CVU_Un_ALIVE_STATE_REF u) a.ref).set (F.CVU_Un_ALIVE_STATE_N u) a.n

/-- The status of an alive outcome (R427). -/
def AliveRes.status : AliveRes → Nat
  | .ok => 0x00 | .okSkip => 0x00 | .again => 0x41 | .wrong => 0x42 | .resync => 0x43

/-- Check the counter and record the outcome (R425, R427). A delta that R425 does not form, or that does not fit bits [15:8], is
a free value. -/
def State.jobRun (s : State) (u p : Nat) (d : Desc) (crc op : Nat) : State :=
  let m := 2 ^ s.get (F.CVU_Un_ALIVE_CFG_CNT_BITS u)
  let a := if bitOf (d.arg 25 1) 0 then Alive.init else s.cvuAlive u
  let r := a.check (d.arg 32 2 % m) m (s.get (F.CVU_Un_ALIVE_CFG_MAX_DELTA u)) (s.get (F.CVU_Un_ALIVE_CFG_SYNC_COUNT u))
  let s := s.putAlive u r.2.2
  let fr := s.fresh 8
  let dl := match r.2.1 with
    | some x => if x < 256 then (x, s) else fr
    | none => fr
  let res := if op = 2 then dl.1 * 256 + r.2.2.phase.code else crc
  let s := if op = 2 then dl.2 else s
  let s := s.modCan fun c => { c with last := modAt c.last u fun _ => some (p, d.tag, r.1.status, res) }
  s.finish p d.num r.1.status res

/-- The recorded outcome of a job that is executed again after a takeover and matches the unit's last alive update (R428). -/
def State.jobDone? (s : State) (u p : Nat) (d : Desc) : Option (Nat × Nat) :=
  match (s.can.last.getD u none : Option (Nat × Nat × Nat × Nat)) with
  | some (lp, lt, ls, lr) => if d.retried = true ∧ lp = p ∧ lt = d.tag then some (ls, lr) else none
  | none => none

/-- The CRC of a job, and its compare (R426, R427). -/
def State.jobCrc (s : State) (u p : Nat) (d : Desc) (data : List Nat) : State :=
  let op := d.arg 24 1
  let start := if bitOf (d.arg 25 1) 1 then s.get (F.CVU_Un_RUNNING u) else s.get (F.CVU_Un_INIT u)
  let reg := s.cvuReg u start (padTo d.length data)
  let s := s.set (F.CVU_Un_RUNNING u) reg
  let crc := s.cvuOut u reg
  let exp := d.arg 28 4 % 2 ^ s.cvuWidth u
  if op ≠ 0 ∧ crc ≠ exp then
    let s := s.setBit F.CVU_STATUS_MISMATCH u true
    let s := if s.flag (F.CVU_Un_CFG_IRQ_MISMATCH u) then s.raise 0x1001 2 u (le 4 crc ++ le 4 exp ++ le 2 d.tag) else s
    s.finish p d.num 0x40 crc
  else if op = 3 then s.jobRun u p d crc op
  else s.finish p d.num 0x00 crc

/-- CHECK_JOB (R425-R428); `data` is what host memory holds at BUFADDR. -/
def execCheckJob (p tag : Nat) (data : List Nat) (s : State) : Host.Outcome State Fault Refusal :=
  .next (s.take p tag 0x1001 fun d s =>
    let u := d.target
    match (if 2 ≤ d.arg 24 1 then s.jobDone? u p d else none) with
    | some r => s.finish p d.num r.1 r.2
    | none => if d.arg 24 1 = 2 then s.jobRun u p d 0 2 else s.jobCrc u p d data)

end Sys2Proof.Machine
end

