-- ==== Sys2Proof/Machine/Tables.lean ====
section
/-!
DEFINITION. The signed tables: what the owning blocks check at staging (R149-R154, R162, R189, R190, R276, R277, R280, R317,
R319, R331, R334, R346, R353, R355, R361, R362, R418, R419), and the tables read out of their payloads. Every check answers
none when it passes, or the number of the record that fails (for the Drover's tables, the byte offset).
-/
namespace Sys2Proof.Machine

/-- Are bytes `a` to `b` zero? -/
def zeros (t : List Nat) (a b : Nat) : Bool := ((t.take (b + 1)).drop a).all fun x => x = 0

def within (v lo hi : Nat) : Bool := decide (lo ≤ v) && decide (v ≤ hi)

/-- Do the values rise strictly? -/
def rising : List Int → Bool
  | a :: b :: t => decide (a < b) && rising (b :: t)
  | _ => true

/-- The first number below `n` for which the check fails. -/
def firstBad (n : Nat) (ok : Nat → Bool) : Option Nat := (List.range n).find? fun i => !ok i

/-- A header check before the records' checks. -/
def headThen (ok : Bool) (rest : Option Nat) : Option Nat := if ok then rest else some 0

/-- Is no value in the list twice? -/
def distinct (l : List Nat) : Bool := decide (l.eraseDups.length = l.length)

/-! ### YM_TREE and YM_DERATE (R149-R154, R162) -/

/-- A node record (R153). -/
def treeNode (t : List Nat) (i : Nat) : TreeNode :=
  let b := t.drop (32 + 32 * i)
  { kind := byteAt b 0, index := byteAt b 1, parent := byteAt b 2, imp := leAt b 4 4, exp := leAt b 8 4, loss := leAt b 12 2
    cabMask := leAt b 14 2, reportMs := leAt b 16 2, iLim := leAt b 18 2, tier := byteAt b 20, weight := byteAt b 21
    floor := leAt b 22 2, cap := leAt b 24 2, rampUp := leAt b 26 2, rampDown := leAt b 28 2, derate := byteAt b 30 }

def readTree (t : List Nat) : Tree :=
  { nodes := (List.range (byteAt t 1)).map (treeNode t), vEstMin := leAt t 4 2, emergRamp := leAt t 6 2 }

/-- The kinds other than GROUP on the path from node `i` up, itself first; `fuel` bounds the path. -/
def pathKinds (l : List TreeNode) : Nat → Nat → List Nat
  | 0, _ => []
  | f + 1, i => match l[i]? with
    | none => []
    | some nd => (if nd.kind = 5 then [] else [nd.kind]) ++ (if i = 0 then [] else pathKinds l f nd.parent)

/-- One node's fields and its place (R150, R153). -/
def nodeOk (links : Nat) (t : List Nat) (l : List TreeNode) (i : Nat) : Bool :=
  match l[i]? with
  | none => false
  | some nd =>
    let b := t.drop (32 + 32 * i)
    let st := decide (nd.kind = 4)
    let cab := decide (nd.kind = 2)
    let par := (l.getD nd.parent nd).kind
    decide (nd.kind ≤ 5) && decide ((nd.kind = 0) ↔ (i = 0)) && decide (byteAt b 3 = 0) && decide (byteAt b 31 = 0) &&
      (if i = 0 then decide (nd.parent = 0xFF) else decide (nd.parent < i) && decide (par ≠ 4)) &&
      (match nd.kind with
        | 1 => decide (nd.index ≤ 3)
        | 3 => decide (nd.index ≤ 7)
        | 4 => decide (nd.index < links)
        | _ => decide (nd.index = 0)) &&
      (if st then decide (nd.imp = 0) else decide (0 < nd.imp)) && decide (nd.loss ≤ 200) &&
      (cab || decide (nd.cabMask = 0)) && (if cab then within nd.reportMs 10 1000 else decide (nd.reportMs = 0)) &&
      (st || decide (nd.kind = 3) || decide (nd.iLim = 0)) &&
      (!st || (decide (nd.tier ≤ 3) && decide (1 ≤ nd.weight) && within nd.rampUp 10 6000 && within nd.rampDown 10 30000 &&
        (decide (nd.derate ≤ 31) || decide (nd.derate = 0xFF)) &&
        (let k := pathKinds l 97 i
         decide (k = [4, 2, 1, 0]) || decide (k = [4, 3, 2, 1, 0]))))

/-- Does a node repeat an index or a cabinet bit of an earlier node, or exceed the CABINET nodes of R149? -/
def nodeRepeats (l : List TreeNode) (i : Nat) : Bool :=
  match l[i]? with
  | none => false
  | some nd =>
    let before := (l.take i).filter fun x => x.kind = nd.kind
    match nd.kind with
    | 1 | 3 | 4 => before.any fun x => x.index = nd.index
    | 2 => decide (16 ≤ before.length) || before.any fun x => (List.range 16).any fun c => bitOf x.cabMask c && bitOf nd.cabMask c
    | _ => false

/-- No index and no cabinet bit is used twice, and the counts of R149 hold: none, or the offending node, 0 for a kind the tree
lacks. -/
def treeWhole (l : List TreeNode) : Option Nat :=
  match firstBad l.length fun i => !nodeRepeats l i with
  | some i => some i
  | none => if [1, 2, 4].all fun k => l.any fun nd => nd.kind = k then none else some 0

def checkTree (links : Nat) (t : List Nat) : Option Nat :=
  let n := byteAt t 1
  let l := (readTree t).nodes
  headThen (decide (byteAt t 0 = 1) && within n 1 96 && decide (t.length = 32 + 32 * n) && zeros t 2 3 && zeros t 8 31 &&
      within (leAt t 4 2) 500 12500 && within (leAt t 6 2) 1000 30000)
    (match firstBad n (nodeOk links t l) with
      | some i => some i
      | none => treeWhole l)

/-- A curve of YM_DERATE (R162). -/
def derateCurveAt (t : List Nat) (set k : Nat) : DerateCurve :=
  let b := t.drop (144 * set + 36 * k)
  { input := byteAt b 0, points := (List.range (byteAt b 1)).map fun j => (leAt b (4 + 4 * j) 2, leAt b (6 + 4 * j) 2) }

def readDerate (t : List Nat) : List (List DerateCurve) :=
  (List.range 32).map fun set => (List.range 4).map fun k => derateCurveAt t set k

def derateOk (t : List Nat) (set k : Nat) : Bool :=
  let b := t.drop (144 * set + 36 * k)
  let c := derateCurveAt t set k
  if c.input = 0xFF then true
  else
    (decide (c.input ≤ 19) || decide (c.input = 0x80) || decide (c.input = 0x81)) && within (byteAt b 1) 2 8 && zeros b 2 3 &&
      rising (c.pts.map fun q => q.1) && ((c.points.zip (c.points.drop 1)).all fun q => decide (q.2.2 ≤ q.1.2)) &&
      zeros (b.take 36) (4 + 4 * byteAt b 1) 35

def checkDerate (t : List Nat) : Option Nat :=
  headThen (decide (t.length = 4608)) (firstBad 32 fun set => (List.range 4).all fun k => derateOk t set k)

/-! ### WLK_STALLTYPE (R189, R190) -/

def stallTypeOk (t : List Nat) (i : Nat) : Bool :=
  let b := t.drop (16 + 64 * i)
  let x := stallTypeAt t i
  let q := fun v => decide (v ≤ 0x00FFFFFF)
  decide (x.topology ≤ 1) && within x.phases 1 6 && within x.period 4 10 && decide (byteAt b 3 = 0) &&
    (decide (x.dt = 0) || within x.dt 50 2000) && within x.minPulse 100 5000 && within x.maxDuty 5000 9900 &&
    within x.twoStep 200 2000 && within x.iRated 100 30000 && within x.vRated 500 12500 && within x.iPre 5 200 &&
    within x.ccTimeout 1 60 && within x.preTimeout 1 60 && q x.kpI && q x.kiI && q x.kpV && q x.kiV && q x.kb && q x.vm &&
    q x.xiLim && zeros (b.take 64) 52 63 && decide (x.iRated ≤ x.phases * x.iPhMax) && decide (x.phArm ≤ x.iRated) &&
    decide ((if x.dt = 0 then 100 else x.dt) + x.minPulse ≤ (10000 - x.maxDuty) * x.period)

def checkTypes (t : List Nat) : Option Nat :=
  let n := byteAt t 1
  headThen (decide (byteAt t 0 = 1) && within n 1 16 && decide (t.length = 16 + 64 * n) && zeros t 2 15) (firstBad n (stallTypeOk t))

/-! ### BIL_TARIFF and BIL_CALENDAR (R276, R277, R280) -/

/-- Is a NAME ASCII and zero-padded (R276)? -/
def nameOk (l : List Nat) : Bool := l.all (fun c => decide (c < 128)) && (l.dropWhile fun c => c ≠ 0).all fun c => decide (c = 0)

def checkTariff (t : List Nat) : Option Nat :=
  headThen (decide (t.length = 144) && decide (byteAt t 0 = 1) && zeros t 4 15 &&
      ((t.take 4).drop 1).all fun c => within c 0x41 0x5A)
    (firstBad 8 fun k =>
      let b := t.drop (16 + 16 * k)
      nameOk (b.take 8) && decide (leAt b 8 4 ≤ 100000000) && decide (leAt b 12 4 ≤ 100000000))

/-- Days of a month, February's longest. -/
def monthLen (m : Nat) : Nat := [31, 29, 31, 30, 31, 30, 31, 31, 30, 31, 30, 31].getD (m - 1) 0

def checkCalendar (t : List Nat) : Option Nat :=
  let no := byteAt t 1
  let ns := byteAt t 2
  let nd := byteAt t 3
  let np := byteAt t 4
  let os := 32
  let ss := os + 16 * no
  let ds := ss + 12 * ns
  let ps := ds + 48 * nd
  let offs := (List.range no).all fun i =>
    let b := t.drop (os + 16 * i)
    let m := toSigned 16 (leAt b 8 2)
    decide (m % 15 = 0) && decide (-840 ≤ m) && decide (m ≤ 840) && zeros b 10 15
  let seas := (List.range ns).all fun i =>
    let b := t.drop (ss + 12 * i)
    within (byteAt b 0) 1 12 && within (byteAt b 1) 1 (monthLen (byteAt b 0)) && zeros b 9 11 &&
      ((b.take 9).drop 2).all fun d => decide (d < nd)
  let days := (List.range nd).all fun i =>
    let b := t.drop (ds + 48 * i)
    let n := byteAt b 0
    let w := byteAt b 1
    within n 1 12 && decide (w ≤ 2) && zeros b 2 3 && decide (leAt b 4 2 = 0) &&
      rising ((List.range n).map fun j => (leAt b (4 + 3 * j) 2 : Int)) &&
      ((List.range n).all fun j => decide (leAt b (4 + 3 * j) 2 ≤ 1439) && decide (byteAt b (6 + 3 * j) ≤ 7)) &&
      zeros b (4 + 3 * n) 39 &&
      ((List.range w).all fun j => decide (leAt b (40 + 4 * j) 2 < leAt b (42 + 4 * j) 2) && decide (leAt b (42 + 4 * j) 2 ≤ 1440)) &&
      zeros b (40 + 4 * w) 47
  let specs := (List.range np).all fun i =>
    let b := t.drop (ps + 8 * i)
    within (byteAt b 2) 1 12 && within (byteAt b 3) 1 31 && decide (byteAt b 4 < nd) && zeros b 5 7
  headThen (decide (byteAt t 0 = 1) && within no 1 64 && within ns 1 12 && within nd 1 8 && decide (np ≤ 128) && zeros t 5 31 &&
      decide (t.length = ps + 8 * np) && decide (leAt t os 8 = 0) &&
      rising ((List.range no).map fun i => (leAt t (os + 16 * i) 8 : Int)) &&
      rising ((List.range ns).map fun i => (byteAt t (ss + 12 * i) * 32 + byteAt t (ss + 12 * i + 1) : Int)) &&
      offs && seas && days && specs) none

/-! ### DRO_SM and DRO_EXI (R317, R319, R331) -/

/-- The MSG_IDs of a DRO_EXI payload. -/
def exiIds (t : List Nat) : List Nat := (List.range (leAt t 2 2)).map fun k => leAt t (32 + 16 * byteAt t 1 + 8 * k) 2

/-- A transition of a machine with `sc` states and `tc` timers. -/
def transOk (b : List Nat) (sc tc : Nat) : Bool :=
  let c := byteAt b 1
  let id := leAt b 2 2
  let tm := fun k => decide (k < tc) || decide (k = 0xFF)
  decide (byteAt b 0 < sc) && decide (c ≤ 2) && (decide (c ≠ 1) || decide (id < tc)) && (decide (c ≠ 2) || decide (id ≤ 0x0A)) &&
    decide (byteAt b 4 ≤ 0x0A) && decide (byteAt b 5 < sc) && decide (byteAt b 6 ≤ 0x0A) && decide (byteAt b 7 ≤ 2) &&
    tm (byteAt b 11) && tm (byteAt b 12) && zeros b 13 15

/-- The offset of the first record of a DRO_SM payload that breaks R317; `ids`, where given, are the MSG_IDs it must resolve in. -/
def checkSm (ids : Option (List Nat)) (t : List Nat) : Option Nat :=
  let nm := byteAt t 1
  let nr := byteAt t 2
  let mach := fun k => 32 + 16 * k
  let known := fun id => match ids with
    | some l => l.contains id
    | none => true
  let machOk := fun k =>
    let b := t.drop (mach k)
    within (byteAt b 0) 1 6 && within (byteAt b 1) 2 64 && decide (byteAt b 2 ≤ 16) && within (leAt b 4 2) 1 1024 && zeros b 6 7 &&
      decide (leAt b 8 4 + 16 * leAt b 4 2 ≤ t.length) && decide (leAt b 12 4 + 4 * byteAt b 2 ≤ t.length)
  let badTrans := fun k =>
    let b := t.drop (mach k)
    ((List.range (leAt b 4 2)).map fun j => leAt b 8 4 + 16 * j).find? fun o =>
      let r := t.drop o
      !(transOk r (byteAt b 1) (byteAt b 2) && (decide (byteAt r 1 ≠ 0) || known (leAt r 2 2)) &&
        (decide (leAt r 8 2 = 0xFFFF) || known (leAt r 8 2)))
  let badTimer := fun k =>
    let b := t.drop (mach k)
    ((List.range (byteAt b 2)).map fun j => leAt b 12 4 + 4 * j).find? fun o =>
      let r := t.drop o
      !(decide (1 ≤ leAt r 0 2) && decide (byteAt r 2 ≤ 3) && decide (byteAt r 3 = 0))
  let badRoot := ((List.range nr).map fun k => mach nm + 8 * k).find? fun o =>
    let r := t.drop o
    !(within (leAt r 4 4) 1 2048 && decide (leAt r 0 4 + leAt r 4 4 ≤ t.length))
  if !(decide (byteAt t 0 = 1) && within nm 1 6 && decide (nr ≤ 16) && decide (byteAt t 3 = 0) && decide (leAt t 4 4 = t.length) &&
      decide (t.length ≤ 262144) && zeros t 8 31 && decide (mach nm + 8 * nr ≤ t.length) &&
      distinct ((List.range nm).map fun k => byteAt t (mach k))) then some 0
  else
    match firstBad nm machOk with
    | some k => some (mach k)
    | none => ((List.range nm).filterMap badTrans ++ (List.range nm).filterMap badTimer ++ badRoot.toList).head?

/-- MSG_KIND codes of R320. -/
def kindKnown (k : Nat) : Bool := within k 0x01 0x13 || within k 0x20 0x2A || decide (k = 0x80)

/-- The offset of the first record of a DRO_EXI payload that breaks R331. -/
def checkExi (t : List Nat) : Option Nat :=
  let ns := byteAt t 1
  let nm := leAt t 2 2
  let np := leAt t 4 4
  let ms := 32 + 16 * ns
  let ps := ms + 8 * nm
  let str := leAt t 12 4
  let badSchema := ((List.range ns).map fun k => 32 + 16 * k).find? fun o =>
    let r := t.drop o
    !(within (byteAt r 0) 1 6 && decide (byteAt r 1 = 0) && decide (leAt r 2 2 < str) && decide (leAt r 4 2 < np) && zeros r 6 15)
  let badMsg := ((List.range nm).map fun k => ms + 8 * k).find? fun o =>
    let r := t.drop o
    !(within (byteAt r 2) 1 6 && kindKnown (byteAt r 3) && decide (leAt r 4 2 < np) && decide (byteAt r 6 ≤ 1) && decide (byteAt r 7 = 0))
  let badProd := ((List.range np).map fun k => ps + 8 * k).find? fun o =>
    let r := t.drop o
    !(decide (byteAt r 0 % 128 ≤ 6) && decide (byteAt r 2 ≤ 8) && decide (byteAt r 3 ≤ 9) &&
      (decide (leAt r 6 2 < np) || decide (leAt r 6 2 = 0xFFFF)))
  if !(decide (byteAt t 0 = 1) && within ns 1 8 && within nm 1 512 && within np 1 32768 && decide (t.length ≤ 524288) &&
      decide (leAt t 8 4 + str ≤ t.length) && zeros t 16 31 && decide (ps + 8 * np ≤ t.length) && distinct (exiIds t)) then some 0
  else (badSchema.toList ++ badMsg.toList ++ badProd.toList).head?

/-! ### CAN_FORMAT (R418, R419) -/

def canSignalAt (b : List Nat) : CanSignal :=
  { start := leAt b 0 2, len := byteAt b 2, big := bitOf (byteAt b 3) 0, signed := bitOf (byteAt b 3) 1, scale := toSigned 32 (leAt b 4 4) }

def canEntryAt (t : List Nat) (i : Nat) : CanEntry :=
  let b := t.drop (16 + 64 * i)
  { ctrl := byteAt b 0, flags := byteAt b 1, cab := byteAt b 2, minLen := byteAt b 3, id := leAt b 4 4, crcW := byteAt b 8
    crcFlags := byteAt b 9, crcByte := byteAt b 10, cntBits := byteAt b 11, poly := leAt b 12 4, crcInit := leAt b 16 4
    xorOut := leAt b 20 4, dataId := leAt b 24 2, cntStart := leAt b 26 2, maxDelta := byteAt b 28, sync := byteAt b 29
    sigs := (List.range 4).map fun k => canSignalAt (b.drop (32 + 8 * k)), alive := .init }

def readCan (t : List Nat) : List CanEntry := (List.range (byteAt t 1)).map (canEntryAt t)

def canEntryOk (t : List Nat) (i : Nat) : Bool :=
  let b := t.drop (16 + 64 * i)
  let e := canEntryAt t i
  let chk := bitOf e.flags 1
  let alv := bitOf e.flags 2
  let lim := 2 ^ e.crcW
  let sig := fun (g : CanSignal) (r : List Nat) => decide (g.start ≤ 511) && decide (g.len ≤ 32) && decide (byteAt r 3 ≤ 3) &&
    (g.bits).all fun x => decide (x < 8 * e.minLen)
  decide (e.ctrl ≤ 7) && decide (e.flags ≤ 15) && decide (e.cab ≤ 15) && within e.minLen 1 64 &&
    decide (e.id < if bitOf e.flags 0 then 2 ^ 29 else 2 ^ 11) && (if chk then within e.crcW 3 32 else decide (e.crcW = 0)) &&
    decide (e.crcFlags ≤ 3) && (if alv then within e.cntBits 1 16 else decide (e.cntBits = 0)) &&
    (!chk || (decide (e.poly < lim) && decide (e.crcInit < lim) && decide (e.xorOut < lim) &&
      decide (e.crcByte + (e.crcW + 7) / 8 ≤ e.minLen))) &&
    (!alv || (within e.maxDelta 1 (min 255 (2 ^ e.cntBits - 1)) && within e.sync 1 15 &&
      decide (e.cntStart + e.cntBits ≤ 8 * e.minLen))) && zeros b 30 31 &&
    ((List.range 4).all fun k => sig (e.sigs.getD k ⟨0, 0, false, false, 0⟩) (b.drop (32 + 8 * k))) &&
    decide (byteAt b 34 ≠ 0) && decide (byteAt b 50 ≠ 0)

def checkCan (t : List Nat) : Option Nat :=
  let n := byteAt t 1
  let l := readCan t
  headThen (decide (byteAt t 0 = 1) && within n 1 16 && decide (t.length = 16 + 64 * n) && zeros t 2 15)
    (match firstBad n (canEntryOk t) with
      | some i => some i
      | none => firstBad n fun i => match l[i]? with
        | some e => (l.take i).all fun x => decide (x.cab ≠ e.cab) &&
            !(decide (x.ctrl = e.ctrl) && decide (bitOf x.flags 0 = bitOf e.flags 0) && decide (x.id = e.id))
        | none => false)

/-! ### HRN_COMMUTE and TRG_CURVE (R346, R353, R361, R362) -/

def readCommute (t : List Nat) : List (List Nat × List Nat) :=
  (List.range (byteAt t 1)).map fun j => let b := t.drop (16 + 16 * j); (padTo 8 b, padTo 8 (b.drop 8))

/-- A pattern byte (R361, R362). -/
def patternOk (v : Nat) : Bool :=
  if bitOf v 7 then decide (v = 0x80)
  else decide (v < 64) && ([v % 4, v / 4 % 4, v / 16].all fun x => decide (x ≤ 2)) && distinct [v % 4, v / 4 % 4, v / 16]

def checkCommute (t : List Nat) : Option Nat :=
  let n := byteAt t 1
  headThen (decide (byteAt t 0 = 1) && within n 1 8 && decide (t.length = 16 + 16 * n) && zeros t 2 15)
    (firstBad n fun j =>
      let b := (t.drop (16 + 16 * j)).take 16
      let valid := fun (l : List Nat) => (l.filter fun v => !bitOf v 7).length
      b.all patternOk && decide (6 ≤ valid (b.take 8)) && decide (6 ≤ valid (b.drop 8)))

def trgCurveAt (t : List Nat) (i : Nat) : Curve :=
  let b := t.drop (16 + 64 * i)
  { flowTrim := bitOf (byteAt b 0) 0
    iPts := (List.range (byteAt b 1)).map fun k => (leAt b (24 + 4 * k) 2, leAt b (26 + 4 * k) 2)
    tPts := (List.range (byteAt b 2)).map fun k => (leAt b (44 + 4 * k) 2, leAt b (46 + 4 * k) 2)
    tInput := byteAt b 3, flowMax := leAt b 4 2, pumpMin := leAt b 6 2, pumpMax := leAt b 8 2, fsPump := leAt b 10 2
    fsValve := byteAt b 12, valveOn := byteAt b 13, valveIdle := byteAt b 14, trimStep := byteAt b 15, lowPct := byteAt b 16
    lowS := byteAt b 17, flowCeil := leAt b 18 2 }

def centralAt (t : List Nat) (k : Nat) : Central :=
  let b := t.drop (16 + 64 * byteAt t 1 + 32 * k)
  { input := byteAt b 0, mask := leAt b 4 6, fsDuty := leAt b 10 2
    pts := (List.range (byteAt b 1)).map fun j => (leAt b (12 + 4 * j) 2, leAt b (14 + 4 * j) 2) }

def readCurves (t : List Nat) : List Curve := (List.range (byteAt t 1)).map (trgCurveAt t)
def readCentral (t : List Nat) : List Central := (List.range (byteAt t 2)).map (centralAt t)

def trgCurveOk (t : List Nat) (i : Nat) : Bool :=
  let b := (t.drop (16 + 64 * i)).take 64
  let c := trgCurveAt t i
  decide (byteAt b 0 ≤ 1) && within (byteAt b 1) 2 5 && within (byteAt b 2) 2 5 && (decide (c.tInput ≤ 5) || within c.tInput 0x80 0x82) &&
    decide (c.flowMax ≠ 0) && decide (c.pumpMin ≤ 1000) && within c.pumpMax c.pumpMin 1000 && decide (c.fsPump ≤ 1000) &&
    decide (c.fsValve ≤ 200) && decide (c.valveOn ≤ 200) && decide (c.valveIdle ≤ 200) && decide (c.trimStep ≤ 20) &&
    within c.lowPct 10 90 && within c.lowS 1 60 && zeros b 20 23 && rising (c.iPts.map fun q => (q.1 : Int)) &&
    rising (c.tPts.map fun q => toSigned 16 q.1) && zeros b (24 + 4 * byteAt b 1) 43 && zeros b (44 + 4 * byteAt b 2) 63

def centralOk (t : List Nat) (k : Nat) : Bool :=
  let b := (t.drop (16 + 64 * byteAt t 1 + 32 * k)).take 32
  let c := centralAt t k
  let x := fun (v : Nat) => if c.input = 2 then (v : Int) else toSigned 16 v
  decide (c.input ≤ 2) && within (byteAt b 1) 2 5 && zeros b 2 3 && decide (c.fsDuty ≤ 9900) && rising (c.pts.map fun q => x q.1) &&
    (c.pts.all fun q => decide (q.2 ≤ 9900)) && zeros b (12 + 4 * byteAt b 1) 31

def checkTrg (t : List Nat) : Option Nat :=
  let n := byteAt t 1
  let m := byteAt t 2
  headThen (decide (byteAt t 0 = 1) && within n 1 16 && decide (m ≤ 4) && decide (t.length = 16 + 64 * n + 32 * m) && zeros t 3 15)
    (match firstBad n (trgCurveOk t) with
      | some i => some i
      | none => (firstBad m (centralOk t)).map fun k => n + k)

/-! ### ALLOW_DELTA (R332, R334) -/

def deltaEntryAt (t : List Nat) (i : Nat) : Entry :=
  let b := (t.drop (64 + 48 * i)).take 48
  { hash := beVal (b.take 32), kind := byteAt b 32, status := byteAt b 33, cls := byteAt b 34, flags := byteAt b 35
    account := leAt b 36 4, from_ := leAt b 40 4, to_ := leAt b 44 4 }

def readDelta (t : List Nat) : List Entry := (List.range (leAt t 4 4)).map (deltaEntryAt t)

/-- Check a delta against the list's entry count: the byte offset of the failure. -/
def checkDelta (count : Nat) (t : List Nat) : Option Nat :=
  let n := leAt t 4 4
  let clear := bitOf (byteAt t 1) 0
  let l := readDelta t
  let adds := (l.filter fun e => e.status ≠ 0).length
  if !(decide (byteAt t 0 = 1) && decide (byteAt t 1 ≤ 1) && zeros t 2 3 && decide (n ≤ 4194304) && (clear || decide (n ≠ 0)) &&
      decide (t.length = 64 + 48 * n) && (clear || decide (leAt t 12 4 = (leAt t 8 4 + 1) % 2 ^ 32)) && zeros t 16 63) then some 0
  else
    match (List.range n).find? fun i => !(within (l.getD i ⟨0, 0, 0, 0, 0, 0, 0, 0⟩).kind 1 3 &&
        decide ((l.getD i ⟨0, 0, 0, 0, 0, 0, 0, 0⟩).status ≤ 2) && decide ((l.getD i ⟨0, 0, 0, 0, 0, 0, 0, 0⟩).flags ≤ 1)) with
    | some i => some (64 + 48 * i)
    | none =>
      match ((l.zip (l.drop 1)).zipIdx).find? fun x => !decide (x.1.1.hash < x.1.2.hash) with
      | some x => some (64 + 48 * (x.2 + 1))
      | none => if count + adds ≤ 33554432 then none else some 4

end Sys2Proof.Machine
end

