-- ==== Sys2Proof/Machine/TackImages.lean ====
section
/-!
DEFINITION. The Tack Room's images (R487-R496, R501, R502): the checks of R492 in order, staging, charters, and what is in force once
they are durable.
-/
namespace Sys2Proof.Machine

/-! ### The header (R488) -/

def imgKind (b : List Nat) : Nat := byteAt b 5
def imgEnc (b : List Nat) : Bool := bitOf (leAt b 6 2) 0
def imgEpoch (b : List Nat) : Nat := leAt b 8 4
def imgRbId (b : List Nat) : Nat := leAt b 12 2
def imgRb (b : List Nat) : Nat := leAt b 16 4
def imgLen (b : List Nat) : Nat := leAt b 20 4

/-- Bytes of the plaintext: an ENCRYPTED payload is 1,104 bytes longer (R490). -/
def imgPlainLen (b : List Nat) : Nat := if imgEnc b then imgLen b - 1104 else imgLen b

/-- PAYLOAD as transmitted, and the signature block behind it. -/
def imgPayload (b : List Nat) : List Nat := (b.drop 256).take (imgLen b)
def imgSigs (b : List Nat) : List Nat := b.drop (256 + imgLen b)

/-- The plaintext, where there is one: an ENCRYPTED payload opens with the transport key of slot 5 (R490). -/
def State.imgPlain (s : State) (b : List Nat) : Option (List Nat) :=
  let pl := imgPayload b
  if imgEnc b then
    let ss := kemSecret (s.publicKey 5) (pl.take 1088)
    gcmOpen (kmac256 ss (b.take 32) "ESW-IMG" 32) (List.replicate 12 0) (b.take 256) (imgPlainLen b) (pl.drop 1088)
  else some pl

/-- Both signatures over SHA-512 of the header, and the hash of the payload (R488, R489). -/
def State.imgSigned (s : State) (b : List Nat) : Bool :=
  dualValid (s.signerKey (leAt b 96 4)) "ESW-SWTH" (sha512 (b.take 256)) (imgSigs b) &&
    decide (sha512 (imgPayload b) = (b.drop 32).take 64)

def isTable (k : Nat) : Bool := within k 0x10 0x1A

/-- The payload size a kind asks for (R153-R501); the tables' own checks see to theirs. -/
def sizeOk (k n : Nat) : Bool :=
  match k with
  | 0x01 => decide (n ≤ 67108864)
  | 0x20 => decide (n = 64)
  | 0x21 => decide (n = 4096)
  | 0x22 => decide (n = 64)
  | 0x23 => decide (n = 16)
  | 0x24 => decide (n = 16)
  | 0x25 => decide (n = 16)
  | _ => true

/-- RB_ID as R491 names it; a charter's counter also depends on its payload. -/
def rbIdOk (k id : Nat) : Bool :=
  match k with
  | 0x01 => decide (id = 0)
  | 0x20 => within id 16 19
  | 0x22 => decide (id = 20)
  | _ => if isTable k then decide (id = k - 0x0F) else decide (id = 21)

/-- Check 1 of R492 on everything but the payload's own fields. -/
def imgForm (b : List Nat) (kinds : Nat → Bool) : Bool :=
  let k := imgKind b
  decide (b.length = 256 + imgLen b + 3373) && decide (b.take 4 = [0x53, 0x57, 0x54, 0x48]) && decide (byteAt b 4 = 1) && kinds k &&
    decide (leAt b 6 2 ≤ 1) && zeros b 14 15 && zeros b 106 127 && zeros b 192 255 && (decide (k = 1) || zeros b 100 105) &&
    (decide (k < 0x20) || decide (imgEpoch b = 0)) && (imgEnc b || !(decide (k = 0x21) || decide (k = 0x22))) &&
    (!imgEnc b || decide (1104 ≤ imgLen b)) && sizeOk k (imgPlainLen b) && rbIdOk k (imgRbId b)

/-- What a payload's own fields say (R476, R501): BAD_DESCRIPTOR, WRONG_BINDING or nothing. `port` is the paddock a charter came
from, `new` the life-cycle state a token must name. -/
def State.payStatus (s : State) (port new : Nat) (b pl : List Nat) : Option Nat :=
  let other := decide (leAt pl 0 8 ≠ s.get F.GLB_SERIAL)
  let k := imgKind b
  if k = 0x20 then
    if !(zeros pl 10 15 && zeros pl 48 63 && decide (byteAt pl 8 ≤ 3) && decide (byteAt pl 9 < 32) && decide (imgRbId b = 16 + byteAt pl 8)) then
      some 0x03
    else if other ∨ byteAt pl 8 ≠ port then some 0x49 else none
  else if k = 0x21 then if zeros pl 96 127 then none else some 0x03
  else if 0x23 ≤ k ∧ k ≤ 0x25 then
    if !(zeros pl 9 15 && decide (byteAt pl 8 = new)) then some 0x03 else if other then some 0x49 else none
  else none

/-- The signer that R475 and R491 name for a kind in the present state. -/
def State.signerOk (s : State) (k id : Nat) : Bool :=
  let st := s.get F.TCK_LIFECYCLE_STATE
  let owner := decide (id = 0x101) && !s.tck.charterKey.isEmpty
  let byState := fun (own : Nat) => decide (id = if st ≤ 1 then 3 else if st ≤ 3 then own else 4)
  if st = 5 then false
  else match k with
    | 0x01 => decide (id = 1)
    | 0x20 => byState 0x101
    | 0x21 => decide (id = 2)
    | 0x22 => owner
    | 0x23 => owner || decide (id = 4)
    | 0x24 => owner || decide (id = 4)
    | 0x25 => decide (id = 4)
    | _ => byState 0x100

/-- The rollback rule (R493). -/
def State.rbOk (s : State) (b : List Nat) : Bool :=
  let c := s.get (F.TCK_RBi (imgRbId b))
  if imgRbId b = 21 then decide (c < imgRb b) else decide (c ≤ imgRb b)

/-- Checks 1 to 6 of R492: the status of the first that fails. `port` is the submitting paddock; `keyBad` says that the transport
key's slot failed its integrity check (R486). An encrypted payload's own fields are checked once it is decrypted. -/
def State.imgStatus (s : State) (port new : Nat) (b : List Nat) (kinds : Nat → Bool) (keyBad : Bool) : Option Nat :=
  let k := imgKind b
  let ps := match s.imgPlain b with
    | some pl => s.payStatus port new b pl
    | none => none
  let early := if imgEnc b then none else ps
  let serial := leAt b 24 8
  if !imgForm b kinds then some 0x03
  else if early = some 0x03 then some 0x03
  else if ((serial ≠ 0 ∨ 0x20 ≤ k) ∧ serial ≠ s.get F.GLB_SERIAL) ∨ early = some 0x49 then some 0x49
  else if k = 0x22 ∧ s.flag F.TCK_WIN_STATE_OPEN = false then some 0x4C
  else if k = 0x22 ∧ s.ownsWindow port = false then some 0x45
  else if !(s.signerOk k (leAt b 96 4) && s.imgSigned b) then some 0x30
  else if !s.rbOk b then some 0x31
  else if isTable k ∧ imgEpoch b ≤ s.get F.TCK_EPOCH then some 0x4A
  else if imgEnc b ∧ keyBad then some 0x3F
  else if imgEnc b ∧ (s.imgPlain b).isNone then some 0x30
  else ps

/-- KEY_FAULT (0x0D05): a slot failed its integrity check (R486). -/
def State.keyFault (s : State) (slot : Nat) : State := (s.setB F.TCK_STATUS_KEY_FAULT true).raise 0x0D05 3 0xFFFF (le 2 slot)

/-- An image's refusal by checks 1 to 6. -/
def State.imgRefused (s : State) (p num st : Nat) : State := (if st = 0x3F then s.keyFault 5 else s).finish p num st 0

/-! ### Staging (R154, R162, R190, R280, R319, R334, R355, R362, R419, R494) -/

/-- The block that owns a table kind. -/
def kindBlock (k : Nat) : Nat :=
  if k ≤ 0x11 then 3 else if k = 0x12 then 4 else if k ≤ 0x14 then 7 else if k ≤ 0x16 then 6 else if k = 0x17 then 0xB else if k ≤ 0x19 then 8
  else 7

/-- The staged table of a kind. -/
def State.stagedOf (s : State) (k : Nat) : Option Staged := s.tck.staged.find? fun x => x.kind = k

/-- The owning block's staging check: none, or the kind whose record fails and that record. DRO_SM and DRO_EXI of one epoch are
checked against each other (R319). -/
def State.tableFail (s : State) (k epoch : Nat) (pl : List Nat) : Option (Nat × Nat) :=
  let partner := fun (q : Nat) => (s.stagedOf q).filter fun x => x.epoch = epoch
  match k with
  | 0x10 => (checkTree s.variant.links pl).map fun i => (k, i)
  | 0x11 => (checkDerate pl).map fun i => (k, i)
  | 0x12 => (checkTypes pl).map fun i => (k, i)
  | 0x13 => (checkSm ((partner 0x14).map fun x => exiIds x.payload) pl).map fun i => (k, i)
  | 0x14 =>
    match checkExi pl, partner 0x13 with
    | some i, _ => some (k, i)
    | none, some x => (checkSm (some (exiIds pl)) x.payload).map fun i => (0x13, i)
    | none, none => none
  | 0x15 => (checkTariff pl).map fun i => (k, i)
  | 0x16 => (checkCalendar pl).map fun i => (k, i)
  | 0x17 => (checkCan pl).map fun i => (k, i)
  | 0x18 => (checkCommute pl).map fun i => (k, i)
  | 0x19 => (checkTrg pl).map fun i => (k, i)
  | _ => (checkDelta (s.get F.DRO_ALLOW_COUNT) pl).map fun i => (k, i)

/-- The owning block's report of a rejected table. Which number a failed check has is open: a free value. -/
def State.tableReject (s : State) (x : Nat × Nat) : State :=
  let f := s.fresh 8
  let s := f.2
  match x.1 with
  | 0x10 => s.raise 0x0309 2 x.2 [0, f.1]
  | 0x11 => s.raise 0x0309 2 x.2 [1, f.1]
  | 0x12 => s.raise 0x0407 2 0xFFFF [x.2, f.1]
  | 0x13 => (s.setB F.DRO_STATUS_TABLE_REJECT true).raise 0x0708 2 0xFFFF (0 :: le 4 x.2)
  | 0x14 => (s.setB F.DRO_STATUS_TABLE_REJECT true).raise 0x0708 2 0xFFFF (1 :: le 4 x.2)
  | 0x15 => s
  | 0x16 => s
  | 0x17 => (s.setB F.CAN_STATUS_TABLE_REJECT true).raise 0x0B06 2 0xFFFF [x.2, f.1]
  | 0x18 => (s.setB F.HRN_STATUS_TABLE_REJECT true).raise 0x0806 2 0xFFFF [0, x.2, f.1]
  | 0x19 => (s.setB F.HRN_STATUS_TABLE_REJECT true).raise 0x0806 2 0xFFFF [1, x.2, f.1]
  | _ => (s.setB F.DRO_STATUS_TABLE_REJECT true).raise 0x0708 2 0xFFFF (2 :: le 4 x.2)

/-- IMAGE_STAGED (0x0D01) and the completion, RESULT as R494 gives it. -/
def State.imageStaged (s : State) (p num kind epoch : Nat) : State :=
  (s.raise 0x0D01 1 0xFFFF (kind :: le 4 epoch)).finish p num 0x00 (kind * 2 ^ 24 + epoch % 2 ^ 24)

/-- TCK_STAGED shows the staged tables; bit 15 is the firmware's. -/
def State.showStaged (s : State) (fw : Bool) : State :=
  (s.set F.TCK_STAGED ((s.tck.staged.foldl (fun v x => setBitOf v (x.kind - 0x10) true) 0) + 32768 * b2n fw)).setB F.TCK_STATUS_FW_STAGED fw

/-- Is a firmware image staged? -/
def State.fwStaged (s : State) : Bool := bitOf (s.get F.TCK_STAGED) 15

/-- The slot that is not in use. -/
def State.idleSlot (s : State) : Nat := 1 - s.get F.GLB_BOOT_STATUS_ACTIVE_SLOT

/-- A staged table is durable: it replaces the one of its kind (R494). -/
def State.tableDurable (s : State) (p num : Nat) (x : Staged) : State :=
  let s := s.modTck fun t => { t with staged := (t.staged.filter fun y => y.kind ≠ x.kind) ++ [x] }
  (s.showStaged s.fwStaged).imageStaged p num x.kind x.epoch

/-- A firmware image is durable in its slot. -/
def State.fwDurable (s : State) (p num slot : Nat) (x : FwSlot) : State :=
  let s := s.modTck fun t => { t with fw := modAt t.fw slot fun _ => x }
  (s.showStaged true).imageStaged p num 0x01 x.version

/-- A PASSPHRASE's entry is durable (R491, R493): PASS_SALT, PPK, counter 20. -/
def State.passDurable (s : State) (p num rb : Nat) (body : List Nat) : State :=
  let s := s.modTck fun t => { t with salt := body.take 32, ppk := body.drop 32 }
  (s.set (F.TCK_RBi 20) rb).imageStaged p num 0x22 0

/-- What a firmware image's header says (R488). -/
def fwOf (b : List Nat) : FwSlot :=
  { version := imgEpoch b, rb := imgRb b, snapWrite := leAt b 100 2, snapMin := leAt b 102 2, snapMax := leAt b 104 2
    header := b.take 256, bad := false }

/-- IMAGE_STAGE (R494). -/
def execImageStage (p tag : Nat) (img : List Nat) (keyBad : Bool) (s : State) : Host.Outcome State Fault Refusal :=
  .next (if s.sigBusy 3 then s else s.take p tag 0x0D01 fun d s =>
    let b := padTo d.length img
    let k := imgKind b
    let pages := (d.length + 4095) / 4096
    match s.imgStatus p 0 b (fun k => decide (k = 1) || isTable k || decide (k = 0x22)) keyBad with
    | some st => s.imgRefused p d.num st
    | none =>
      let pl := (s.imgPlain b).getD []
      if k = 0x22 then
        let r := s.logChange 5 p 0x0D01 [] (.pass p d.num (imgRb b) pl)
        if r.1 = 0 then r.2 else r.2.finish p d.num r.1 0
      else if k = 1 then
        if s.lan.fw.isSome then s.finish p d.num 0x05 0
        else s.newWork (.firmware p d.num s.idleSlot (fwOf b)) pages
      else
        match s.tableFail k (imgEpoch b) pl with
        | some x => (s.tableReject x).finish p d.num 0x40 (kindBlock k)
        | none => s.newWork (.table p d.num ⟨k, imgEpoch b, imgRb b, pl⟩) pages)

/-! ### Charters (R49, R50, R501, R502) -/

/-- PDK_RIGHTS shows the stored charter; every right implies OBSERVE (R50). -/
def State.showRights (s : State) (q : Nat) : State :=
  let r := match s.tck.charters.getD q none with
    | some c => c.rights
    | none => 0
  ((((s.setB (F.PDK_RIGHTS_OPERATE q) (bitOf r 0)).setB (F.PDK_RIGHTS_BILL q) (bitOf r 1)).setB (F.PDK_RIGHTS_SERVICE q) (bitOf r 2)).setB
    (F.PDK_RIGHTS_OBSERVE q) (decide (r ≠ 0))).setB (F.PDK_RIGHTS_SAFETY_ADMIN q) (bitOf r 4)

/-- A charter is durable: it replaces the paddock's rights at once; its counter advances; a window whose owner loses SAFETY_ADMIN
closes (R499). -/
def State.charterDurable (s : State) (p num q rb : Nat) (c : Charter) : State :=
  let s := s.modTck fun t => { t with charters := modAt t.charters q fun _ => some c }
  let s := (((s.set (F.TCK_RBi (16 + q)) rb).showRights q).setB (F.PDK_STATUS_CHARTER_NEW q) true).signal q 15
  let s := if bitOf c.rights 4 then s
    else
      let s := s.modTck fun t => { t with opening := t.opening.filter fun x => x.1 ≠ q }
      if s.ownsWindow q then s.closeWindow 1 else s
  s.finish p num 0x00 0

/-- CHARTER_LOAD (R502). -/
def execCharterLoad (p tag : Nat) (img : List Nat) (keyBad : Bool) (s : State) : Host.Outcome State Fault Refusal :=
  .next (if s.sigBusy 3 then s else s.take p tag 0x0101 fun d s =>
    let b := padTo d.length img
    match s.imgStatus p 0 b (fun k => decide (k = 0x20)) keyBad with
    | some st => s.imgRefused p d.num st
    | none =>
      let pl := (s.imgPlain b).getD []
      s.newWork (.charter p d.num (byteAt pl 8) (imgRb b) ⟨byteAt pl 9, (pl.drop 16).take 32⟩) 1)

end Sys2Proof.Machine
end

