-- ==== Sys2Proof/Machine/Walker.lean ====
section
/-!
DEFINITION. The Walker (R189-R224): the period computation with its control law and edges, modes, phase faults, stops, and the
WLK opcodes. Currents, voltages and duties of the control law are Q16.16 integers (65,536 is one unit).
-/
namespace Sys2Proof.Machine

/-! ### Q16.16 arithmetic (R204) -/

/-- `num / den` in Q16.16. The spec gives no rounding (notes/assumptions/2.md). -/
def qDiv (num : Int) (den : Nat) : Int := Config.rnd (num * 65536) den

/-- A product of two Q16.16 numbers. -/
def qMul (a b : Int) : Int := Config.rnd (a * b) 65536

def clampI (x lo hi : Int) : Int := max lo (min x hi)

/-! ### What a period is computed from (R196-R198) -/

/-- The frames of a period: the `P` newest, and the valid ones among them. -/
def State.framesOf (s : State) (n : Nat) (ty : StallType) : List Sample :=
  ((s.link n).samples.take ty.period).filter fun x => x.valid

def sumI (l : List Int) : Int := l.foldl (· + ·) 0

/-- Sums over the frames: v and i in 0.1 V and 0.1 A times 2^23 times the number of frames, each phase in 0.1 A times it. -/
structure Means where
  cnt : Nat
  v : Int
  i : Int
  ph : List Int
  deriving DecidableEq, Repr

def State.means (s : State) (n : Nat) (ty : StallType) : Means :=
  let fs := s.framesOf n ty
  let id := (s.link n).ident
  { cnt := fs.length
    v := sumI (fs.map fun x => x.v) * id.vfs
    i := sumI (fs.map fun x => x.i) * id.ifs
    ph := (List.range 6).map fun k => sumI (fs.map fun x => x.iph.getD k 0) }

def Means.phase (m : Means) (k : Nat) : Int := m.ph.getD k 0

/-- v_out in 0.1 V and i_out in 0.1 A. -/
def Means.v01 (m : Means) : Int := Config.rnd m.v (2 ^ 23 * m.cnt)
def Means.i01 (m : Means) : Int := Config.rnd m.i (2 ^ 23 * m.cnt)

/-- The active phases, ascending. -/
def State.activePhases (s : State) (n : Nat) : List Nat :=
  (List.range 6).filter fun k => bitOf (s.get (F.WLK_Sn_PHASE_ACTIVE n)) k

/-- The link cycle at which the period computed now starts: the frame of the next cycle carries it (R19). -/
def State.startCycle (s : State) : Nat := s.chrono / 2500 + 2

/-- The applied setpoint in force at the start of the period that is computed; at or after an allocation boundary to come that is the
staged value (R198). -/
def State.setpoint (s : State) (n : Nat) : Int :=
  if s.chrono / 250000 ≠ s.startCycle / 100 then (s.yms.staged.getD n none).getD (s.getS (F.YMS_Sn_GRANT_APPLIED n))
  else s.getS (F.YMS_Sn_GRANT_APPLIED n)

/-- The voltage limit, 0.1 V: the lesser of V_REQ and the Halter ceiling (R161), or the reference of R201 below it. -/
def State.vLimit (s : State) (n : Nat) : Int :=
  let c : Int := s.get (F.HLT_Sn_CEIL_V n)
  match (s.walk n).vHold with
  | some v => min (v : Int) c
  | none => if s.mode n = 1 ∨ s.mode n = 2 then min (s.walk n).vref c else min ((s.yms.req.getD n Req.none).v : Int) c

/-! ### Phase faults (R214-R217) -/

/-- An active phase is lost: off and out of the active list, the ceiling lowered, PHASE_LOST (0x0402); the first loss of
several phases runs degraded for 30 min, any other stops the stall in order (R215-R217). -/
def State.phaseLost (s : State) (n k cause : Nat) : State :=
  if !bitOf (s.get (F.WLK_Sn_PHASE_ACTIVE n)) k then s
  else
    let again := s.flag (F.WLK_Sn_DEGRADE_DEGRADED n)
    let s := (s.setBit (F.WLK_Sn_PHASE_ACTIVE n) k false).setBit (F.WLK_Sn_PHASE_LOST n) k true
    let left := (s.activePhases n).length
    let s := s.modWalk n fun w => { w with openCnt := List.replicate 6 0, senseCnt := 0 }
    let s := s.refreshCeil n
    let s := s.raise 0x0402 3 n ([k, cause, left] ++ le 2 (s.get (F.HLT_Sn_CEIL_I n)))
    let s := s.setB (F.WLK_Sn_DEGRADE_DEGRADED n) true
    if again ∨ left = 0 then (s.set (F.WLK_Sn_DEGRADE_CAUSE n) 2).stopStall n .orderly 0x11
    else
      let s := (s.set (F.WLK_Sn_DEGRADE_CAUSE n) 1).set (F.WLK_Sn_DEGRADE_REMAIN n) 1800
      let s := (s.setB (F.HLT_Sn_DEGRADE_PHASE_MODE n) true).set (F.HLT_Sn_DEGRADE_PHASE_LEFT n) 1800
      let s := s.raise 0x0C03 2 n ([2, 0] ++ le 2 (s.get (F.HLT_Sn_CEIL_I n)))
      s.modHalt n fun h => { h with phaseAt := s.chrono }

/-- A sense failure that cannot be placed stops the stall (R217). -/
def State.senseUnplaced (s : State) (n : Nat) : State :=
  ((s.modWalk n fun w => { w with senseCnt := 0 }).set (F.WLK_Sn_DEGRADE_CAUSE n) 3).stopStall n .orderly 0x11

/-- The largest and second-largest of the distances |n i_k - sum|, with the phase of the largest. -/
def suspect (act : List Nat) (m : Means) : Nat × Int × Int :=
  let tot := sumI (act.map m.phase)
  let d := fun k => ((act.length : Int) * m.phase k - tot).natAbs
  act.foldl (fun b k =>
    if b.2.1 < (d k : Int) then (k, (d k : Int), b.2.1) else if b.2.2 < (d k : Int) then (b.1, b.2.1, (d k : Int)) else b)
    (0, -1, -1)

/-- The phase checks of a computed period in ENERGY (R214). -/
def State.phaseChecks (s : State) (n : Nat) (ty : StallType) (m : Means) : State :=
  let act := s.activePhases n
  let np : Int := act.length
  if s.mode n ≠ 3 ∨ m.i < ty.phArm * m.cnt * 2 ^ 23 then
    s.modWalk n fun w => { w with openCnt := List.replicate 6 0, senseCnt := 0 }
  else
    let low := fun k => decide (k ∈ act) && decide (m.phase k * 20 * np * 2 ^ 23 < m.i)
    let off := decide (((sumI (act.map m.phase) * 2 ^ 23 - m.i).natAbs : Int) * 10 > (m.i.natAbs : Int))
    let s := s.modWalk n fun w => { w with
      openCnt := (List.range 6).map fun k => if low k then w.openCnt.getD k 0 + 1 else 0
      senseCnt := if off then w.senseCnt + 1 else 0 }
    let opened := act.filter fun k => decide (4 ≤ (s.walk n).openCnt.getD k 0)
    if opened ≠ [] then forAll opened (fun k t => t.phaseLost n k 0) s
    else if 8 ≤ (s.walk n).senseCnt then
      let d := suspect act m
      if act.length = 1 then s.phaseLost n (act.headD 0) 1
      else if (d.2.1 - d.2.2) * 20 * np * 2 ^ 23 ≤ (np - 1) * m.i then s.senseUnplaced n
      else s.phaseLost n d.1 1
    else s

/-! ### The control law (R204-R206) -/

/-- The loop fields in force: LOOP_TUNE overrides over the type's (R223), KP_I to XI_LIM. -/
def State.gains (s : State) (n : Nat) (ty : StallType) : List Int :=
  let t := [ty.kpI, ty.kiI, ty.kpV, ty.kiV, ty.kb, ty.vm, ty.xiLim]
  (List.range 7).map fun i => (((s.walk n).tune.getD i none).getD (t.getD i 0) : Nat)

/-- The current command before the loops, in units of I_RATED: the setpoint of the mode or the ramp, clamped to the Halter's
ceiling (R198) and to the phases' limits (R204). -/
def State.iSet (s : State) (n : Nat) (ty : StallType) (np : Nat) : Int :=
  let m := s.mode n
  let raw :=
    match (s.walk n).ramp with
    | some r => Config.rnd (r.1 * (500 - r.2 * ty.period) * 65536) (500 * ty.iRated)
    | none =>
      if m = 1 ∨ m = 2 then qDiv ty.iPre ty.iRated
      else
        let a := s.setpoint n
        qDiv (if ty.topology = 0 ∧ a < 0 then 0 else a) ty.iRated
  let c := qDiv (s.get (F.HLT_Sn_CEIL_I n)) ty.iRated
  let l := qDiv (np * ty.iPhMax : Nat) ty.iRated
  clampI (clampI raw (-c) c) (-l) l

/-- The dead-time adjustment of R205 in 250 ps. -/
def dtAdjust (ty : StallType) (iOut : Int) : Int :=
  if ty.topology = 0 then 0 else if 0 ≤ iOut then ty.dtNs * 4 else -(ty.dtNs * 4)

/-- The largest duty, chosen so that no interval exceeds MAX_DUTY times the period with its adjustment (R205). -/
def dutyMax (ty : StallType) (adj : Int) : Int :=
  let T : Int := ty.period * 40000
  (ty.maxDuty * T / 10000 - max adj 0) * 65536 / T

/-- v_in in units of V_RATED: the last valid value of index 9; a free value where none has come (R197). -/
def State.vIn (s : State) (n : Nat) (ty : StallType) : Int × State :=
  let v := match (s.link n).hk.find? fun e => e.1 = 9 with
    | some e => e.2.value
    | none => 0
  if v = 0 then let r := s.fresh 31; ((r.1 + 1 : Nat), r.2) else (qDiv v ty.vRated, s)

/-- The interval of a phase in 250 ps (R205): its duty and the dead-time adjustment, rounded, within zero and MAX_DUTY. -/
def phaseLen (ty : StallType) (adj dk : Int) : Nat :=
  let T : Int := ty.period * 40000
  (min (max ((dk * T * 2 + 65536) / 131072 + adj) 0) (ty.maxDuty * T / 10000)).toNat

/-- One period's control law (R204): the high-side intervals of the active phases, and the state with the loop states and
the WLK registers updated. -/
def State.controlLaw (s : State) (n : Nat) (ty : StallType) (m : Means) : List Nat × State :=
  let act := s.activePhases n
  let np := act.length
  let g := s.gains n ty
  let gi := fun i => g.getD i 0
  let vOut := Config.rnd (m.v * 65536) (2 ^ 23 * m.cnt * ty.vRated)
  let iOut := Config.rnd (m.i * 65536) (2 ^ 23 * m.cnt * ty.iRated)
  let ik := fun k => Config.rnd (m.phase k * 65536) (m.cnt * ty.iRated)
  let iset := s.iSet n ty np
  let vl := s.vLimit n
  let xi := if (s.walk n).afresh then 0 else (s.walk n).xi
  let xv := if (s.walk n).afresh then iset else (s.walk n).xv
  let ev := qDiv vl ty.vRated - vOut
  let pv := qMul (gi 2) ev
  let icmd := if 0 ≤ iset then min iset (pv + xv) else iset
  let xv' := if 0 ≤ iset then clampI (xv + qMul (gi 3) ev) 0 (iset - pv + gi 5) else 0
  let ei := icmd - iOut
  let vin := s.vIn n ty
  let s := vin.2
  let ff := Config.rnd (vOut * 65536) vin.1.toNat
  let d := ff + qMul (gi 0) ei + xi
  let adj := dtAdjust ty iOut
  let dmax := dutyMax ty adj
  let iphm := qDiv ty.iPhMax ty.iRated
  let held := (decide (dmax ≤ d) && decide (0 < ei)) || (decide (d ≤ 0) && decide (ei < 0)) ||
    (decide (0 < ei) && act.any fun k => decide (iphm ≤ ik k))
  let xi' := if held then xi else clampI (xi + qMul (gi 1) ei) (-(gi 6)) (gi 6)
  let d := clampI d 0 dmax
  let share := Config.rnd iOut np
  let lens := act.map fun k =>
    let dk := d + Config.rnd (gi 4 * (share - ik k)) iphm.toNat
    let dk := if iphm < ik k then dk - Config.rnd (gi 4 * (ik k - iphm)) iphm.toNat else dk
    phaseLen ty adj (clampI dk 0 dmax)
  let s := s.modWalk n fun w => { w with xi := xi', xv := xv', afresh := false }
  let s := (s.set (F.WLK_Sn_DUTY_FF n) (clampI ff 0 65535).toNat).set (F.WLK_Sn_DUTY_D n) (clampI d 0 65535).toNat
  let s := s.set (F.WLK_Sn_CURRENT_I_CMD n) (ofSignedSat 16 (Config.rnd (icmd * ty.iRated) 65536))
  (lens, s.set (F.WLK_Sn_VOLTAGE_V_LIMIT n) vl.toNat)

/-! ### Edges (R207-R210) -/

def edgeAt (t st : Nat) : Edge := ⟨t / 40000, t % 40000, st⟩

/-- The edges of one active phase (R207): (edges, carry, end of its wrapped pulse in the next period). -/
def phaseEdges (T g off theta len carry : Nat) (endPrev : Option Nat) : List Edge × Nat × Option Nat :=
  let r := if len < g then (if g ≤ carry + len then (carry + len, 0) else (0, carry + len)) else (len, 0)
  let len := r.1
  let carry := r.2
  match endPrev with
  | some e =>
    if 0 < len ∧ T < theta + len ∧ e + g ≤ theta then
      ([edgeAt e off, edgeAt theta 1], carry, some (theta + len - T))
    else ([edgeAt e off], carry + len, none)
  | none =>
    if len = 0 then ([], carry, none)
    else if theta + len < T then ([edgeAt theta 1, edgeAt (theta + len) off], carry, none)
    else ([edgeAt theta 1], carry, some (theta + len - T))

/-- Turning a phase off (R210): at the end of its wrapped pulse, else at the first time at least g after its last
transition, `since` being how long ago that was at the period start. -/
def offEdges (T g st since : Nat) (endPrev : Option Nat) : List Edge :=
  match endPrev with
  | some e => [edgeAt e 0]
  | none => if st = 0 ∨ T ≤ g - since then [] else [edgeAt (g - since) 0]

/-- theta_j = round(j T / n). -/
def thetaOf (T np j : Nat) : Nat := (2 * j * T + np) / (2 * np)

/-- Build the period's edges: R207 for the phases of `act` (empty when nothing drives), R210 for every other. -/
def State.buildEdges (s : State) (n : Nat) (ty : StallType) (act lens : List Nat) : State :=
  let T := ty.period * 40000
  let g := (ty.dtNs + ty.minPulse) * 4
  let off := if ty.topology = 0 then 0 else 2
  let w := s.walk n
  let l := s.link n
  let rs := (List.range 6).map fun k =>
    match act.findIdx? (· = k) with
    | some j => phaseEdges T g off (thetaOf T act.length j) (lens.getD j 0) (w.carry.getD k 0) (w.endPrev.getD k none)
    | none => (offEdges T g (l.phState.getD k 0) (l.phLast.getD k 0) (w.endPrev.getD k none), 0, none)
  s.modWalk n fun w => { w with
    out_ := .edges (rs.map fun r => r.1), carry := rs.map fun r => r.2.1, endPrev := rs.map fun r => r.2.2 }

/-- Every phase switched off at the period start (R212, R442). -/
def allOffBlock : Block := .edges (List.replicate 6 [⟨0, 0, 0⟩])

/-! ### Mode progress (R199-R202, R212, R222) -/

/-- Are all phases off: the edges sent leave every one at 0b00 and none is wrapped, or the terminal holds them off? -/
def State.phasesOff (s : State) (n : Nat) : Bool :=
  s.switchesOff n || ((s.link n).phState.all (· = 0) && (s.walk n).endPrev.all (·.isNone))

/-- STALL_STOPs that wait complete OK, RESULT the elapsed microseconds (R222). -/
def State.stopsDone (s : State) (n : Nat) : State :=
  let ws := (s.walk n).stops
  let s := s.modWalk n fun w => { w with stops := [] }
  ws.foldl (fun t d => t.finish d.1 d.2.1 0x00
    ((t.chrono - d.2.2.1) / 250 % 2 ^ 31 + (if d.2.2.2 then 2 ^ 31 else 0))) s

/-- Does a ramp still drive the phases (R211)? -/
def State.rampOn (s : State) (n : Nat) (ty : StallType) : Bool :=
  match (s.walk n).ramp with
  | some r => decide (r.2 * ty.period < 500)
  | none => false

/-- RAMP_DOWN is REACHED: the stall passes to IDLE when the lane requested it, else to STOPPED with STALL_STOPPED (0x0405)
(R202, R213). -/
def State.rampReached (s : State) (n : Nat) : State :=
  let w := s.walk n
  let s := s.modWalk n fun w => { w with ramp := none, closeReq := false, stopWhy := none, failed := false, requested := false }
  if w.requested ∧ w.stopWhy = none then s.setMode n 0 0
  else
    let s := s.setMode n 5 (if w.failed then 3 else 0)
    match w.stopWhy with
    | some k => s.raise 0x0405 1 n [k]
    | none => s

/-- What a mode waits for: the contactors (R201), the REACHED conditions held for 2 ms (R199), the end of RAMP_DOWN. -/
def State.modeProgress (s : State) (n : Nat) (ty : StallType) (m : Means) : State :=
  let md := s.mode n
  let open_ := !s.contactorClosed n
  let s := if open_ && s.phasesOff n then s.stopsDone n else s
  if md = 1 ∨ md = 2 then
    if (s.walk n).closed = false then
      if open_ then s else s.modWalk n fun w => { w with closed := true, vref := m.v01, okSince := none }
    else
      let vt : Int := s.get (F.WLK_Sn_MODE_V_TARGET n)
      let step : Int := 10 * ty.period
      let s := s.modWalk n fun w => { w with
        vref := if w.vref < vt then min vt (w.vref + step) else max vt (w.vref - step) }
      let k : Int := (2 ^ 23 * m.cnt : Nat)
      let ok := decide (((m.v - vt * k).natAbs : Int) ≤ 200 * k) &&
        (decide (md = 1) || decide ((m.i.natAbs : Int) ≤ ty.iPre * k))
      let since := (s.walk n).okSince.getD s.chrono
      let s := s.modWalk n fun w => { w with okSince := if ok then some since else none }
      if ok ∧ since + 500000 ≤ s.chrono then s.set (F.WLK_Sn_MODE_STATE n) 2 else s
  else if md = 4 ∧ open_ = true ∧ s.phasesOff n = true ∧ s.rampOn n ty = false then s.rampReached n
  else s

/-- A two-step off runs: nothing is sent until its end, then two all-off periods with TWO_STEP_OFF still set; in the third
period TWO_STEP_OFF, or the Halter's STOP, is cleared (R212, R442). Answers whether the period is taken. -/
def State.twoStepPeriod (s : State) (n : Nat) : Bool × State :=
  let em := decide ((s.halt n).stop = .emergency)
  let tw := (s.walk n).twoStep
  if !em && !tw then (false, s)
  else
    let s := if em && decide ((s.halt n).allOff = 1) then s.modHalt n fun h => { h with stop := .none, allOff := 0 } else s
    let s := if tw && decide ((s.walk n).allOff = 1) then s.modWalk n fun w => { w with twoStep := false, allOff := 0 } else s
    let em := decide ((s.halt n).stop = .emergency)
    let tw := (s.walk n).twoStep
    if !em && !tw then (false, s)
    else
      let send := (em && decide (1 < (s.halt n).allOff)) || (tw && decide (1 < (s.walk n).allOff))
      let s := s.modHalt n fun h => { h with allOff := if em && decide (1 < h.allOff) then h.allOff - 1 else h.allOff }
      let s := s.modWalk n fun w => { w with
        out_ := if send then allOffBlock else .none
        allOff := if tw && decide (1 < w.allOff) then w.allOff - 1 else w.allOff }
      (true, if send then s else s.modLink n fun l => { l with phState := List.replicate 6 0, phLast := List.replicate 6 0 })

/-- Is the Walker driving phases in this mode? -/
def State.drives (s : State) (n : Nat) (ty : StallType) : Bool :=
  let m := s.mode n
  let ramping := (s.walk n).ramp.isSome
  if ramping then s.rampOn n ty
  else decide (m = 3) || (decide (m = 1 ∨ m = 2) && (s.walk n).closed)

/-- Record a work item's slack in WLK_SLACK_MIN (R33). -/
def slackMin (s : State) (f : Fld) (slack : Int) : State :=
  if slack < s.getS f then s.setS f slack else s

/-- Is i_out below 5.0 A (R196, R211)? -/
def Means.low (m : Means) : Bool := decide (0 < m.cnt) && decide (m.i.natAbs < 50 * 2 ^ 23 * m.cnt)

/-- A computed period (R196-R215): LOOP_TUNEs take effect (R223), then the mode, the checks, the loops and the edges. -/
def State.computePeriod (s : State) (n : Nat) (ty : StallType) : State :=
  let ws := (s.walk n).tuneWait
  let s := s.modWalk n fun w => { w with tuneWait := [], late := false }
  let s := ws.foldl (fun t d => t.finish d.1 d.2 0x00 0) s
  let m := s.means n ty
  let s := (s.set (F.WLK_Sn_CURRENT_I_OUT n) (ofSignedSat 16 m.i01)).set (F.WLK_Sn_VOLTAGE_V_OUT n) (clampI m.v01 0 65535).toNat
  let s := s.modWalk n fun w => { w with iSum := w.iSum + m.i01.natAbs, iCnt := w.iCnt + 1 }
  let s := (s.modeProgress n ty m).dropClose n m.low
  let t := s.twoStepPeriod n
  let s := t.2
  if t.1 then s
  else
    let s := s.phaseChecks n ty m
    let act := s.activePhases n
    let s :=
      if s.drives n ty ∧ act ≠ [] then
        let r := s.controlLaw n ty m
        r.2.buildEdges n ty act r.1
      else
        let s := ((s.set (F.WLK_Sn_DUTY_FF n) 0).set (F.WLK_Sn_DUTY_D n) 0).set (F.WLK_Sn_CURRENT_I_CMD n) 0
        s.buildEdges n ty [] []
    s

/-- Does a period of stall `n` start at the cycle that is computed for (R193)? -/
def State.periodDue (s : State) (n : Nat) : Bool :=
  let P := s.get (F.WLK_Sn_TYPE_P n)
  decide (s.linkState n = Link.run) && s.hasStall n && (s.stallType? n).isSome && decide (P ≠ 0) &&
    decide ((s.startCycle + 2520 - s.get (F.WLK_Sn_SLOT_SLOT n)) % P = 0)

/-- Has the Walker taken up a period of stall `n` in this link cycle? -/
def State.periodTaken (s : State) (n : Nat) : Bool := decide ((s.walk n).computed = some (s.chrono / 2500))

/-- Does stall `m` come before stall `n` within a cycle (R194): orderly stops first, then ascending? -/
def State.periodBefore (s : State) (m n : Nat) : Bool :=
  let o := fun k => decide ((s.halt k).stop = .orderly)
  (o m && !o n) || ((o m == o n) && decide (m < n))

/-- Is the period of stall `n` the next that the Walker takes up in this cycle (R193, R194)? -/
def State.walkerTurn (s : State) (n : Nat) : Bool :=
  s.periodDue n && !s.periodTaken n && s.stallNums.all fun m => !(s.periodDue m && !s.periodTaken m && s.periodBefore m n)

/-- Have 12 periods been computed in this link cycle (R194)? -/
def State.walkerFull (s : State) : Bool := decide (12 ≤ (s.stallNums.filter fun m => s.periodTaken m).length)

/-- WALKER_PERIOD_COMPUTE (R204): the period of stall `n`, when its turn has come; `slack` is the deadline minus the completion time in
ticks, negative for a computation that misses its latch (R195). A thirteenth period of a cycle is not computed, which is a miss (R194). -/
def execWalkerPeriodCompute (n : Nat) (slack : Int) (s : State) : Host.Outcome State Fault Refusal :=
  .next (
    if s.walkerTurn n = false ∨ s.domainOn 9 = false then s
    else
      match (s.typesAt s.startCycle)[s.get (F.WLK_Sn_TYPE_TYPE n)]? with
      | none => s
      | some ty =>
        let full := s.walkerFull
        let s := if full then s else slackMin s F.WLK_SLACK_MIN slack
        let s := s.modWalk n fun w => { w with computed := some (s.chrono / 2500) }
        let s :=
          if full = true ∨ slack < 0 then s.modWalk n fun w => { w with late := true, lateBy := if full then -1 else slack }
          else
            match (s.link n).samples with
            | x :: _ => if x.valid then s.computePeriod n ty else s.modWalk n fun w => { w with out_ := .hold, late := false }
            | [] => s.modWalk n fun w => { w with out_ := .hold, late := false }
        s.modWalk n fun w => { w with ramp := w.ramp.map fun r => (r.1, r.2 + 1) })

/-! ### Timers and events -/

/-- MODE_TIMEOUT (R201, R202): the time limit of the stall's mode passes. -/
def execModeTimeout (n : Nat) (s : State) : Host.Outcome State Fault Refusal :=
  .next (
    let m := s.mode n
    if (m = 1 ∨ m = 2) ∧ s.get (F.WLK_Sn_MODE_STATE n) = 1 then s.failMode n 1
    else if m = 4 then (s.failMode n 1).modWalk n fun w => { w with closeReq := false }
    else s)

/-- CONTACTOR_CLOSE_TIMEOUT (R201): 200 ms pass without CONTACTOR_CLOSED; HALTER_VETO while PERMIT is withheld. -/
def execContactorCloseTimeout (n : Nat) (s : State) : Host.Outcome State Fault Refusal :=
  .next (
    let m := s.mode n
    if (m = 1 ∨ m = 2) ∧ (s.walk n).closed = false ∧ s.contactorClosed n = false then
      s.failMode n (if s.flag (F.HLT_Sn_STATE_PERMIT n) then 3 else 2)
    else s)

/-- FF_LOST_TIMEOUT (R197): index 9 has been invalid for more than 100 ms in ENERGY. -/
def execFfLostTimeout (n : Nat) (s : State) : Host.Outcome State Fault Refusal :=
  .next (if s.mode n = 3 ∧ s.hkVal n 9 = none then s.failMode n 7 else s)

/-- PHASE_LOST (R215): phase `k` is found open (`cause` 0) or failed (1). -/
def execPhaseLost (n k cause : Nat) (s : State) : Host.Outcome State Fault Refusal :=
  .next (s.phaseLost n k cause)

/-- PHASE_DEGRADED_LIMIT (R216, R452): 30 min of degraded running are over. -/
def execPhaseDegradedLimit (n : Nat) (s : State) : Host.Outcome State Fault Refusal :=
  .next (
    if s.flag (F.WLK_Sn_DEGRADE_DEGRADED n) ∧ s.flag (F.WLK_Sn_DEGRADE_BLOCKED n) = false then
      let s := s.raise 0x0C03 2 n ([2, 2] ++ le 2 (s.get (F.HLT_Sn_CEIL_I n)))
      (((s.set (F.WLK_Sn_DEGRADE_REMAIN n) 0).set (F.HLT_Sn_DEGRADE_PHASE_LEFT n) 0).stopStall n .orderly 0x12).block n 0
    else s)

/-- TWO_STEP_COMPLETE (R212): TWO_STEP_DONE and SWITCHES_OFF are shown with the contactors open; the two all-off periods
follow, or the two-step off ends at once on a link that carries no edges. -/
def execTwoStepComplete (n : Nat) (s : State) : Host.Outcome State Fault Refusal :=
  .next (
    if (s.walk n).twoStep ∧ (s.walk n).allOff = 0 ∧ s.twoStepDone n ∧ s.switchesOff n ∧ s.contactorClosed n = false then
      if s.linkState n = Link.run then s.modWalk n fun w => { w with allOff := 3 }
      else s.modWalk n fun w => { w with twoStep := false }
    else s)

/-! ### Mode requests (R200, R206, R213, R216) -/

/-- Is the request allowed from the present mode (R200, R201)? -/
def State.modeLegal (s : State) (n req : Nat) : Bool :=
  let m := s.mode n
  match req with
  | 0 => decide (m = 5) || (decide (m = 4) && decide (s.get (F.WLK_Sn_MODE_STATE n) = 2))
  | 1 => decide (m = 0) || decide (m = 1)
  | 2 => decide (m = 0) || decide (m = 1) || decide (m = 2)
  | 3 => decide (m = 2) && decide (s.get (F.WLK_Sn_MODE_STATE n) = 2)
  | 4 => decide (m = 1) || decide (m = 2) || decide (m = 3) || decide (m = 4)
  | _ => false

/-- The mode is entered. -/
def State.enterMode (s : State) (n req vt : Nat) : State :=
  let m := s.mode n
  match req with
  | 0 => s.setMode n 0 0
  | 4 => if m = 4 then s else ((s.setMode n 4 1).modWalk n fun w => { w with requested := true, failed := false }).startRamp n
  | 3 => (s.setMode n 3 1).modWalk n fun w => { w with okSince := none }
  | _ =>
    if m = req then
      if s.get (F.WLK_Sn_MODE_V_TARGET n) = vt then s
      else ((s.set (F.WLK_Sn_MODE_V_TARGET n) vt).set (F.WLK_Sn_MODE_STATE n) 1).modWalk n fun w => { w with okSince := none }
    else
      ((s.setMode n req 1).set (F.WLK_Sn_MODE_V_TARGET n) vt).modWalk n fun w => { w with
        closeReq := true, okSince := none, ramp := none, requested := false, failed := false
        stopWhy := none
        closed := false, vHold := none, afresh := w.afresh || decide (m = 0) }

/-- LANE_MODE_REQUEST (R200): the active lane writes a mode slot with MODE and V_TARGET. -/
def execLaneModeRequest (n mode vTarget : Nat) (s : State) : Host.Outcome State Fault Refusal :=
  .next (
    if s.hasStall n = false then s
    else if s.modeLegal n mode = false then (s.refuseMode n mode 4).droMode n mode false
    else if (mode = 1 ∨ mode = 2 ∨ mode = 3) ∧ s.flag (F.WLK_Sn_DEGRADE_BLOCKED n) then (s.refuseMode n mode 5).droMode n mode false
    else if mode = 3 ∧ s.flag F.WLK_STATUS_OVERBOOK ∧ s.lastRun = n then (s.refuseMode n mode 6).droMode n mode false
    else (s.enterMode n mode (vTarget % 65536)).droMode n mode true)

/-! ### Opcodes (R222, R223) -/

/-- STALL_STOP (R222): KIND 0 a ramp stop, which a running Halter stop outranks, 1 a two-step off. -/
def execStallStop (p tag : Nat) (s : State) : Host.Outcome State Fault Refusal :=
  .next (s.take p tag 0x0401 fun d s =>
    let n := d.target
    let kind := d.arg 24 1
    let m := s.mode n
    if 1 < kind then s.finish p d.num 0x40 0
    else if m = 0 ∨ m = 5 then s.finish p d.num 0x00 (if (s.halt n).stop = .none then 0 else 2 ^ 31)
    else if s.linkState n ≠ Link.run then s.finish p d.num 0x41 0
    else
      let running := decide ((s.halt n).stop ≠ .none)
      let s := s.modWalk n fun w => { w with
        stops := w.stops ++ [(p, d.num, s.chrono, running)], requested := false
        stopWhy := if running then w.stopWhy else some 0 }
      let s := if m = 4 then s else (s.setMode n 4 1).modWalk n fun w => { w with failed := false }
      if kind = 1 then s.startTwoStep n else if m = 4 then s else s.startRamp n)

/-- STALL_STOP_TIMEOUT (R222): 100 ms pass; the oldest STALL_STOP still waiting completes with TIMEOUT, the stop continues. -/
def execStallStopTimeout (n : Nat) (s : State) : Host.Outcome State Fault Refusal :=
  .next (
    match (s.walk n).stops with
    | d :: t => (s.modWalk n fun w => { w with stops := t }).finish d.1 d.2.1 0x06 0
    | [] => s)

/-- LOOP_TUNE (R223): the seven loop fields; it completes at the first period computed after acceptance. -/
def execLoopTune (p tag : Nat) (s : State) : Host.Outcome State Fault Refusal :=
  .next (s.take p tag 0x0402 fun d s =>
    let n := d.target
    let vs := (List.range 7).map fun i => d.arg (24 + 4 * i) 4
    if vs.any fun v => decide (0x00FFFFFF < v) && decide (v ≠ 0xFFFFFFFF) then s.finish p d.num 0x40 0
    else if s.linkState n ≠ Link.run then s.finish p d.num 0x41 0
    else
      let tune := vs.map fun v => if v = 0xFFFFFFFF then none else some v
      let mask := ((List.range 7).map fun i => if (tune.getD i none).isSome then 2 ^ i else 0).foldl (· + ·) 0
      (s.set (F.WLK_Sn_TUNE n) mask).modWalk n fun w => { w with tune := tune, tuneWait := w.tuneWait ++ [(p, d.num)] })

end Sys2Proof.Machine
end

