-- ==== Sys2Proof/Machine/Lanes.lean ====
section
/-!
DEFINITION. The control lanes (R28, R33, R36, R88, R456-R470): heartbeat and loss, takeover, planned handover, FW_ACTIVATE, the Tether.
-/
namespace Sys2Proof.Machine

/-! ### Lane states -/

def State.activeLane (s : State) : Nat := s.get F.GLB_LANE_STATUS_ACTIVE
def State.standbyLane (s : State) : Nat := 1 - s.activeLane

def laneFld (k : Nat) : Fld := if k = 0 then F.GLB_LANE_STATUS_A_STATE else F.GLB_LANE_STATUS_B_STATE

/-- 0 ACTIVE, 1 STANDBY, 2 SYNCING, 3 BOOTING, 4 RESET, 5 OUT. -/
def State.laneState (s : State) (k : Nat) : Nat := s.get (laneFld k)
def State.setLane (s : State) (k v : Nat) : State := s.set (laneFld k) v

/-- The slot a lane runs from. -/
def State.laneSlot (s : State) (k : Nat) : Nat := s.get (if k = 0 then F.GLB_FW_STATE_SLOT_A else F.GLB_FW_STATE_SLOT_B)
def State.setSlot (s : State) (k v : Nat) : State := s.set (if k = 0 then F.GLB_FW_STATE_SLOT_A else F.GLB_FW_STATE_SLOT_B) v

def State.fwSlot (s : State) (i : Nat) : FwSlot := s.tck.fw.getD i FwSlot.init

/-- GLB_FW_VER shows the image's epoch, 0 while the lane boots. -/
def State.showVer (s : State) (k : Nat) : State :=
  s.set (if k = 0 then F.GLB_FW_VER_A else F.GLB_FW_VER_B) (if s.laneState k < 3 then (s.fwSlot (s.laneSlot k)).version else 0)

def State.laneIs (s : State) (k v : Nat) : State := (s.setLane k v).showVer k

def State.isOut (s : State) (k : Nat) : Bool := s.lan.out.getD k false

/-- Do two images read each other's snapshot format (R468)? -/
def State.compatible (s : State) (a b : Nat) : Bool :=
  let x := s.fwSlot a
  let y := s.fwSlot b
  decide (a = b) || (within y.snapWrite x.snapMin x.snapMax && within x.snapWrite y.snapMin y.snapMax)

/-- R460: the standby is healthy. -/
def State.standbyOk (s : State) : Bool :=
  let k := s.standbyLane
  decide (s.laneState k = 1) && decide (s.get F.GLB_LANE_STATUS_SNAP_AGE < 2) && s.lan.selfOk.getD k false &&
    s.compatible (s.laneSlot s.activeLane) (s.laneSlot k) && !s.isOut k

/-- HEALTHY_STANDBY with STANDBY_STATE (0x0005), and what hangs on it: the revert hold-off (R462), the time without a healthy
standby in RUN (R465). -/
def State.refreshLane (s : State) : State :=
  let ok := s.standbyOk
  let was := s.flag F.GLB_LANE_STATUS_HEALTHY_STANDBY
  let s := s.setB F.GLB_LANE_STATUS_HEALTHY_STANDBY ok
  let s := if ok = was then s else s.raise 0x0005 (if ok then 1 else 2) s.standbyLane [b2n ok]
  let revert := ok && decide (s.activeLane = 1) && s.lan.fw.isNone && s.lan.handover.isNone
  let s := s.modLan fun l => { l with
    holdoff := if revert then some (l.holdoff.getD (s.chrono + s.get F.GLB_REVERT_CFG_HOLDOFF_S * 250000000)) else none }
  if ok then (s.modLan fun l => { l with noSince := none, noStandby := false }).set F.GLB_NOSTBY_TIME 0
  else if s.inRun then s.modLan fun l => { l with noSince := some (l.noSince.getD s.chrono) }
  else s

/-- A lane starts to boot from a slot, unless it is OUT (R463). -/
def State.bootLane (s : State) (k slot : Nat) : State :=
  if s.isOut k then s.laneIs k 5
  else ((s.modLan fun l => { l with selfOk := modAt l.selfOk k fun _ => false }).setSlot k slot).laneIs k 3

/-- A lane loss counts (R463): the third within 24 h puts the lane OUT, with LANE_OUT (0x0007). Counted in legal ticks. -/
def State.countLoss (s : State) (k : Nat) : State :=
  let now := s.get F.BIL_TICK
  let s := s.modLan fun l => { l with losses := modAt l.losses k fun t => (t.filter fun x => now < x + 86400) ++ [now] }
  let n := (s.lan.losses.getD k []).length
  if n < 3 ∨ s.isOut k = true then s
  else (s.modLan fun l => { l with out := modAt l.out k fun _ => true }).raise 0x0007 3 k [n]

/-! ### Descriptors across a handover (R88) -/

/-- Whose descriptor a piece of work belongs to. -/
def WorkKind.owner : WorkKind → Nat × Nat
  | .host p num _ _ => (p, num)
  | .table p num _ => (p, num)
  | .firmware p num _ _ => (p, num)
  | .charter p num _ _ _ => (p, num)

/-- What a block still held for an execution that is repeated ends: a wait for a solve, stores not made, a frame not sent. -/
def State.dropStale (s : State) (p num : Nat) : State :=
  let s := s.modYms fun y => { y with asks := y.asks.filter fun a => !(decide (a.p = p) && decide (a.num = num)) }
  let s := s.modHay fun h => { h with work := s.hay.work.filter fun w => w.kind.owner ≠ (p, num) }
  s.modCan fun c => { c with ctls := c.ctls.map fun k => { k with tx := k.tx.filter fun x => !(decide (x.p = p) && decide (x.num = num)) } }

/-- Re-execute a started descriptor: back into its block's queue with RETRIED, under a new number that cuts the old execution loose. -/
def State.reexec (s : State) (p : Nat) (d : Desc) : State :=
  let new := (s.pd p).nextNum
  let at_ := s.startNum
  let s := s.countFetch.modPd p fun x => { x with
    held := x.held.filter fun c => c.num ≠ d.num
    table := x.table.map fun y =>
      if y.num = d.num then { y with num := new, phase := .queued, retried := true, aux := at_, at_ := s.chrono }
      else if y.dep = some d.num then { y with dep := some new } else y
    last := x.last.map fun l => l.map fun y => if y.num = d.num then { y with num := new } else y }
  ({ s with startNum := at_ + 1 }).dropStale p d.num

/-- End a started descriptor with ABORTED_HANDOVER; a completion held and not yet written gives way (R88). -/
def State.abortHandover (s : State) (p : Nat) (d : Desc) : State :=
  (s.modPd p fun x => { x with held := x.held.filter fun c => c.num ≠ d.num }).completeD p d 0x13 0 false

/-- Resolve one started descriptor by its class (R77, R88). -/
def State.resolveDesc (s : State) (p : Nat) (d : Desc) : State :=
  match (opRow? d.opcode).map OpRow.re with
  | some .y => s.reexec p d
  | some .f => if d.idempotent then s.reexec p d else s.abortHandover p d
  | _ => s.abortHandover p d

/-- Resolve every started descriptor whose completion is not yet written, but those that run the handover themselves. -/
def State.resolveStarted (s : State) (keep : List (Nat × Nat)) : State :=
  forAll [0, 1, 2, 3] (fun p s =>
    ((s.pd p).table.filter fun d => d.started = true ∧ (p, d.num) ∉ keep).foldl (fun s d => s.resolveDesc p d) s) s

/-! ### FW_ACTIVATE (R467, R468, R470) -/

/-- FW_STEP (0x0009): outcome 0 running, 1 done, 2 failed. -/
def State.fwEvent (s : State) (step outcome : Nat) : State := s.raise 0x0009 1 0xFFFF [step, outcome]

/-- A step starts. -/
def State.fwStep (s : State) (n : Nat) : State :=
  ((s.set F.GLB_FW_STATE_STEP n).setB F.GLB_LANE_STATUS_PROBATION (decide (n = 4))).fwEvent n 0

/-- FW_ACTIVATE ends. -/
def State.fwEnd (s : State) (status result : Nat) : State :=
  match s.lan.fw with
  | none => s
  | some f =>
    let s := ((s.modLan fun l => { l with fw := none }).set F.GLB_FW_STATE_STEP 0).setB F.GLB_LANE_STATUS_PROBATION false
    s.finish f.p f.num status result

/-- A step fails: the standby returns to the slot in force (R468). -/
def State.fwFail (s : State) (status : Nat) : State :=
  let s := s.fwEvent (s.get F.GLB_FW_STATE_STEP) 2
  ((s.bootLane s.standbyLane s.tck.fwActive).fwEnd status 0).refreshLane

/-! ### Planned handover (R466) -/

/-- A planned handover starts: the active lane stops starting descriptors. -/
def State.startHandover (s : State) (why : Nat) (desc : Option (Nat × Nat)) : State :=
  (s.modLan fun l => { l with handover := some ⟨why, desc, 0, 0⟩, drain := true, holdoff := none }).setB
    F.GLB_LANE_STATUS_HANDOVER_BUSY true

def State.endHandover (s : State) : State :=
  (s.modLan fun l => { l with handover := none, drain := false }).setB F.GLB_LANE_STATUS_HANDOVER_BUSY false

/-- The handover is abandoned: NO_STANDBY for what asked for it. -/
def State.abandonHandover (s : State) : State :=
  match s.lan.handover with
  | none => s
  | some h =>
    let s := s.endHandover
    let s := match h.desc with
      | some x => s.finish x.1 x.2 0x40 0
      | none => s
    if h.why = 2 then s.fwFail 0x40 else s.refreshLane

/-- The standby takes control by plan: LANE_HANDOVER_DONE (0x0004); a pending switch is cancelled (R497), started descriptors follow
R88, LANE_HANDOVER and FW_ACTIVATE go on by their own rules. -/
def State.handoverDone (s : State) (h : Handover) : State :=
  let new := s.standbyLane
  let old := s.activeLane
  let keep := h.desc.toList ++ (s.lan.fw.map fun f => (f.p, f.num)).toList
  let s := (s.endHandover.set F.GLB_LANE_STATUS_ACTIVE new).laneIs new 0
  let s := if h.why = 3 ∨ (s.lan.fw.isNone ∧ s.laneSlot old ≠ s.tck.fwActive) then s.bootLane old s.tck.fwActive else s.laneIs old 2
  let s := s.modLan fun l => { l with control := true, beat := s.chrono, snapWait := false }
  let s := (s.incSat F.GLB_LANE_CNT_HANDOVERS).raise 0x0004 1 0xFFFF [new, h.why]
  let s := (s.cancelSwitch 0x13).resolveStarted keep
  let s := match h.desc with
    | some x => s.finish x.1 x.2 0x00 (new * 65536 + min ((s.chrono - h.at_) / 250) 65535)
    | none => s
  let s := if h.why = 2 then (s.fwEvent 3 1).fwStep 4 else s
  s.refreshLane

/-- LANE_HANDOVER (R469). -/
def execLaneHandover (p tag : Nat) (s : State) : Host.Outcome State Fault Refusal :=
  .next (s.take p tag 0x0002 fun d s =>
    if s.lan.handover.isSome ∨ s.lan.fw.isSome then s.finish p d.num 0x41 0
    else if s.standbyOk = false then s.finish p d.num 0x40 0
    else s.startHandover 0 (some (p, d.num)))

/-- FW_ACTIVATE (R467, R470). -/
def execFwActivate (p tag : Nat) (s : State) : Host.Outcome State Fault Refusal :=
  .next (s.take p tag 0x0003 fun d s =>
    let prob := if d.arg 24 2 = 0 then 60 else d.arg 24 2
    if s.fwStaged = false then s.finish p d.num 0x42 0
    else if s.lan.handover.isSome ∨ s.lan.fw.isSome then s.finish p d.num 0x41 0
    else if s.standbyOk = false then s.finish p d.num 0x40 0
    else
      let slot := 1 - s.tck.fwActive
      let s := s.modLan fun l => { l with fw := some ⟨p, d.num, prob, slot, 0⟩ }
      ((s.bootLane s.standbyLane slot).fwStep 1).refreshLane)

/-- FW_STANDBY_VERIFIED (R467, R468): step 1 ends; whether the staged image verified and the standby passed its self-test. -/
def execFwStandbyVerified (sigOk selfOk : Bool) (s : State) : Host.Outcome State Fault Refusal :=
  .next (
    match s.lan.fw with
    | none => s
    | some f =>
      if s.get F.GLB_FW_STATE_STEP ≠ 1 ∨ s.laneState s.standbyLane ≠ 3 ∨ s.laneSlot s.standbyLane ≠ f.slot then s
      else if sigOk = false then s.fwFail 0x30
      else if (s.fwSlot f.slot).rb < s.get (F.TCK_RBi 0) then s.fwFail 0x31
      else if selfOk = false then s.fwFail 0x40
      else
        let k := s.standbyLane
        let s := (s.modLan fun l => { l with selfOk := modAt l.selfOk k fun _ => true }).laneIs k 2
        let s := (s.fwEvent 1 1).fwStep 2
        if s.compatible (s.laneSlot s.activeLane) f.slot then s else s.fwFail 0x43)

/-- FW_PROBATION_EXPIRY (R467, R493): the staged slot becomes active and counter 0 advances; the former active lane reboots. -/
def execFwProbationExpiry (s : State) : Host.Outcome State Fault Refusal :=
  .next (
    match s.lan.fw with
    | none => s
    | some f =>
      if s.get F.GLB_FW_STATE_STEP ≠ 4 then s
      else
        let s := (s.fwEvent 4 1).fwStep 5
        let s := (s.modTck fun t => { t with fwActive := f.slot }).set F.GLB_BOOT_STATUS_ACTIVE_SLOT f.slot
        let s := (s.set (F.TCK_RBi 0) (s.fwSlot f.slot).rb).showStaged false
        (s.bootLane s.standbyLane f.slot).refreshLane)

/-- FW_OLD_LANE_REBOOTED (R467, R470): step 5 ends, and FW_ACTIVATE with the image's epoch. -/
def execFwOldLaneRebooted (ok : Bool) (s : State) : Host.Outcome State Fault Refusal :=
  .next (
    match s.lan.fw with
    | none => s
    | some f =>
      if s.get F.GLB_FW_STATE_STEP ≠ 5 then s
      else if ok = false then ((s.fwEvent 5 2).fwEnd 0x40 0).refreshLane
      else
        let k := s.standbyLane
        let s := (s.modLan fun l => { l with selfOk := modAt l.selfOk k fun _ => true }).laneIs k 2
        ((s.fwEvent 5 1).fwEnd 0x00 (s.fwSlot f.slot).version).refreshLane)

/-- FW_STEP_TIMEOUT (R467): a step is over its limit. -/
def execFwStepTimeout (s : State) : Host.Outcome State Fault Refusal :=
  .next (
    let n := s.get F.GLB_FW_STATE_STEP
    if s.lan.fw.isNone then s
    else if n = 1 ∨ n = 2 then s.fwFail 0x40
    else if n = 5 then ((s.fwEvent 5 2).fwEnd 0x40 0).refreshLane
    else s)

/-! ### Heartbeat, loss and takeover (R457, R458) -/

/-- The active lane is lost, `cause` 0 heartbeat, 1 fault, 2 reset: the standby takes over if healthy, else a Device reset. -/
def State.loseActive (s : State) (cause : Nat) : State :=
  let ok := s.standbyOk
  let k := s.activeLane
  let s := (s.countLoss k).laneIs k 4
  let s := s.modLan fun l => { l with control := false, drain := false, takeover := some cause, holdoff := none }
  if ok then s else s.requestReset 0x12 0

/-- The standby fails: it counts as a loss (notes/assumptions/121.md) and reboots. -/
def State.loseStandby (s : State) (k : Nat) : State := ((s.countLoss k).bootLane k s.tck.fwActive).refreshLane

/-- LANE_HEARTBEAT (R457). -/
def execLaneHeartbeat (s : State) : Host.Outcome State Fault Refusal :=
  .next (if s.lan.control then s.modLan fun l => { l with beat := s.chrono } else s)

/-- LANE_HEARTBEAT_TIMEOUT (R457): 400 µs without a heartbeat. -/
def execLaneHeartbeatTimeout (s : State) : Host.Outcome State Fault Refusal :=
  .next (if s.lan.control ∧ s.lan.beat + 100000 ≤ s.chrono then s.loseActive 0 else s)

/-- LANE_FAULT_REPORT (R457). -/
def execLaneFaultReport (lane : Nat) (s : State) : Host.Outcome State Fault Refusal :=
  .next (
    if s.domainOn 6 = false ∨ 2 ≤ lane then s
    else if lane = s.activeLane then (if s.lan.control then s.loseActive 1 else s)
    else if s.lan.takeover.isSome ∧ s.lan.control = false then s.requestReset 0x12 0
    else if s.isOut lane then s else s.loseStandby lane)

/-- What an unplanned takeover does to a running FW_ACTIVATE (R468): probation has failed when the updated lane was lost in it, else
it was aborted; the lane lost returns to the slot in force. -/
def State.fwTakeover (s : State) : State :=
  match s.lan.fw with
  | none => s
  | some f =>
    if s.get F.GLB_FW_STATE_STEP = 4 then
      let s := (s.modTck fun t => { t with fw := modAt t.fw f.slot fun x => { x with bad := true } }).showStaged false
      (s.fwEvent 4 2).fwEnd 0x44 0
    else (s.fwEvent (s.get F.GLB_FW_STATE_STEP) 2).fwEnd 0x13 0

/-- LANE_TAKEOVER_COMPLETE (R458): the standby is in control `gap` µs after the loss; LANE_TAKEOVER (0x0003). -/
def execLaneTakeoverComplete (gap : Nat) (s : State) : Host.Outcome State Fault Refusal :=
  .next (
    match s.lan.takeover with
    | none => s
    | some cause =>
      if s.lan.control ∨ s.pwr.reset then s
      else
        let new := s.standbyLane
        let old := s.activeLane
        let s := (s.set F.GLB_LANE_STATUS_ACTIVE new).laneIs new 0
        let s := s.modLan fun l => { l with control := true, beat := s.chrono, takeover := none, snapWait := false }
        let s := (s.incSat F.GLB_LANE_CNT_TAKEOVERS).raise 0x0003 2 0xFFFF ([new, cause] ++ le 4 gap)
        let s := match s.lan.handover with
          | some h => match h.desc with
            | some x => s.endHandover.finish x.1 x.2 0x13 0
            | none => s.endHandover
          | none => s
        let s := ((s.fwTakeover.bootLane old s.tck.fwActive).cancelSwitch 0x13).resolveStarted []
        s.refreshLane)

/-- Lane `k` is in control. -/
def State.laneUp (s : State) (k : Nat) : State :=
  ((s.set F.GLB_LANE_STATUS_ACTIVE k).laneIs k 0).modLan fun l => { l with control := true, beat := s.chrono, snapWait := false }

/-- A lane's self-test of a boot is done (R38, R42): the first that passes is in control, lane A before lane B, and the other receives
snapshots. -/
def State.laneTested (s : State) (k : Nat) (ok : Bool) : State :=
  let s := s.modLan fun l => { l with selfOk := modAt l.selfOk k fun _ => ok }
  let s := if ok = false then s.laneIs k 4
    else if s.lan.control = false ∨ (k = 0 ∧ s.activeLane = 1) then
      (if s.lan.control then s.laneIs 1 2 else s).laneUp k
    else s.laneIs k 2
  s.refreshLane

/-- LANE_REBOOT_READY (R38, R462): a lane has rebooted, with the outcome of its self-test; it receives snapshots from the next boundary on. -/
def execLaneRebootReady (lane : Nat) (ok : Bool) (s : State) : Host.Outcome State Fault Refusal :=
  .next (
    let n := s.get F.GLB_FW_STATE_STEP
    if s.domainOn 6 = false ∨ 2 ≤ lane ∨ s.laneState lane ≠ 3 ∨ n = 1 ∨ n = 5 then s
    else if s.inRun = false then (if s.pwr.resetLow ∨ s.pwr.reset then s else s.laneTested lane ok)
    else if lane ≠ s.standbyLane then s
    else
      let s := s.modLan fun l => { l with selfOk := modAt l.selfOk lane fun _ => ok }
      (s.laneIs lane (if ok then 2 else 4)).refreshLane)

/-! ### The Tether (R28, R33, R36) -/

/-- A snapshot is captured at an allocation boundary, for a standby that receives it; the last one not acknowledged is a miss with
the most negative slack. A handover that waits for its boundary captures its final one. -/
def State.captureSnapshot (s : State) : State :=
  if s.lan.control = false then s
  else
    let k := s.laneState s.standbyLane
    let miss := s.lan.snapWait
    let s := if miss then s.set F.GLB_TETHER_SLACK_MIN 0x80000000 else s
    let s := s.set F.GLB_LANE_STATUS_SNAP_AGE (min (s.get F.GLB_LANE_STATUS_SNAP_AGE + 1) 255)
    let s := s.modLan fun l => { l with
      snapWait := decide (k = 1) || decide (k = 2)
      fw := l.fw.map fun f => if miss then { f with acks := 0 } else f
      handover := l.handover.map fun h => if h.phase = 1 then { h with phase := 2, at_ := s.chrono } else h }
    s.refreshLane

/-- TETHER_SNAPSHOT_ACK (R28): the standby acknowledges with `slack` ticks left. -/
def execTetherSnapshotAck (slack : Int) (s : State) : Host.Outcome State Fault Refusal :=
  .next (
    if s.lan.snapWait = false ∨ s.lan.control = false then s
    else
      let k := s.standbyLane
      let s := slackMin (s.modLan fun l => { l with snapWait := false }) F.GLB_TETHER_SLACK_MIN slack
      let s := s.set F.GLB_LANE_STATUS_SNAP_AGE 0
      let s := if s.laneState k = 2 then s.laneIs k 1 else s
      let s := (s.modLan fun l => { l with fw := l.fw.map fun f => { f with acks := f.acks + 1 } }).refreshLane
      let s : State := match s.lan.handover with
        | some h => if h.phase = 2 ∧ s.standbyOk = true then s.handoverDone h else s
        | none => s
      match s.lan.fw with
      | some f =>
        if s.get F.GLB_FW_STATE_STEP = 2 ∧ 2 ≤ f.acks ∧ s.standbyOk = true ∧ s.laneSlot s.standbyLane = f.slot then
          ((s.fwEvent 2 1).fwStep 3).startHandover 2 none
        else s
      | none => if s.standbyOk = true ∧ s.lan.handover.isNone ∧ s.laneSlot s.activeLane ≠ s.tck.fwActive then s.startHandover 3 none else s)

/-- HANDOVER_DRAIN_END (R466): the next allocation boundary is chosen. -/
def execHandoverDrainEnd (s : State) : Host.Outcome State Fault Refusal :=
  .next (s.modLan fun l => { l with handover := l.handover.map fun h =>
    if h.phase = 0 then { h with phase := 1, at_ := (s.chrono / 250000 + 1) * 250000 } else h })

/-- HANDOVER_ACK_TIMEOUT (R466): no acknowledgement by tA + 300 µs. -/
def execHandoverAckTimeout (s : State) : Host.Outcome State Fault Refusal :=
  .next (
    match s.lan.handover with
    | some h => if h.phase = 2 then s.abandonHandover else s
    | none => s)

/-- REVERT_HOLDOFF_EXPIRY (R462). -/
def execRevertHoldoffExpiry (s : State) : Host.Outcome State Fault Refusal :=
  .next (
    if s.lan.holdoff.isNone ∨ s.lan.handover.isSome ∨ s.lan.fw.isSome ∨ s.standbyOk = false then s
    else s.startHandover 1 none)

/-- NO_STANDBY_LIMIT (R465). -/
def execNoStandbyLimit (s : State) : Host.Outcome State Fault Refusal :=
  .next (
    if s.lan.noSince.isNone ∨ s.lan.noStandby then s
    else (s.modLan fun l => { l with noStandby := true }).raise 0x0006 3 0xFFFF [])

/-! ### GLB_LANE_CTRL (R463, R464) -/

/-- Writes of GLB_LANE_CTRL: captured while the LANE domain is off (R86), denied without SERVICE (R51). -/
def State.laneCtrl (s : State) (p : Nat) (f : State → State) : State :=
  if 3 < p ∨ s.domainOn 4 = false then s
  else if s.domainOn 6 = false then s.offDomain p 0x404 true
  else if s.hasRight p 2 = false then s.deny p 0x404 else f s

/-- RESET of lane `k`: the standby at once; the active lane by planned handover first, discarded where that cannot be. -/
def State.resetLane (s : State) (k : Nat) : State :=
  if k = s.activeLane then
    if s.lan.control = false ∨ s.lan.handover.isSome ∨ s.lan.fw.isSome ∨ s.standbyOk = false then s else s.startHandover 3 none
  else (s.bootLane k s.tck.fwActive).refreshLane

/-- The RESET bits of a write: the bit of the standby first, which it resets at once. -/
def State.laneResets (s : State) (val : Nat) : State :=
  let a := s.activeLane
  let s := if bitOf val (1 - a) then s.resetLane (1 - a) else s
  if bitOf val a then s.resetLane a else s

/-- LANE_RESET_WRITE (R464). -/
def execLaneResetWrite (p val : Nat) (s : State) : Host.Outcome State Fault Refusal :=
  .next (s.laneCtrl p fun s => s.laneResets val)

/-- READMIT of lane `k`: it leaves OUT and its count is cleared. -/
def State.readmit (s : State) (k : Nat) : State :=
  let was := s.isOut k
  let s := s.modLan fun l => { l with out := modAt l.out k fun _ => false, losses := modAt l.losses k fun _ => [] }
  if was then (s.bootLane k s.tck.fwActive).refreshLane else s

/-- The READMIT bits of a write. -/
def State.laneReadmits (s : State) (val : Nat) : State :=
  let s := if bitOf val 7 then s.readmit 0 else s
  if bitOf val 8 then s.readmit 1 else s

/-- LANE_READMIT_WRITE (R463). -/
def execLaneReadmitWrite (p val : Nat) (s : State) : Host.Outcome State Fault Refusal :=
  .next (s.laneCtrl p fun s => s.laneReadmits val)

/-- A whole write of GLB_LANE_CTRL: READMIT, then RESET. -/
def State.laneCtrlWrite (s : State) (p val : Nat) : State := s.laneCtrl p fun s => (s.laneReadmits val).laneResets val

end Sys2Proof.Machine
end

