-- ==== Sys2Proof/Machine/TackOps.lean ====
section
/-!
DEFINITION. The Tack Room's other commands (R475-R486, R498-R500, R503-R506): change windows, host keys and signatures, attestation, the
life cycle.
-/
namespace Sys2Proof.Machine

/-! ### Change windows (R498-R500) -/

/-- CHANGE_WINDOW (0x0D03). -/
def State.windowEvent (s : State) (what p : Nat) : State := s.raise 0x0D03 (if what = 4 then 2 else 1) 0xFFFF [what, p]

/-- A wrong proof: from the fifth in a row on, each starts a lockout of 900 s. -/
def State.wrongProof (s : State) (p : Nat) : State :=
  let n := s.get F.TCK_WIN_FAIL_WRONG + 1
  let s := (s.incSat F.TCK_WIN_FAIL_WRONG).windowEvent 3 p
  if n < 5 then s
  else ((s.modTck fun t => { t with lockEnd := s.chrono + 225000000000 }).setB F.TCK_STATUS_WINDOW_LOCKED true).windowEvent 4 p

/-- PROOF as the present nonce, the serial and the paddock make it (R498). -/
def State.windowProof (s : State) (p : Nat) : List Nat :=
  kmac256 s.tck.ppk (le 8 (s.get F.TCK_WIN_NONCE) ++ le 8 (s.get F.GLB_SERIAL) ++ [p]) "ESW-WINDOW" 32

/-- CHANGE_WINDOW_OPEN (R498): `keyBad`, slot 6 failed its integrity check. -/
def execChangeWindowOpen (p tag : Nat) (_proof : Computed) (keyBad : Bool) (s : State) : Host.Outcome State Fault Refusal :=
  .next (s.take p tag 0x0D03 fun d s =>
    let dur := if d.arg 24 2 = 0 then 900 else d.arg 24 2
    if dur < 60 ∨ 3600 < dur then s.finish p d.num 0x4A 0
    else
      let good := !s.tck.ppk.isEmpty && decide (d.param.drop 8 = s.windowProof p)
      let s := s.newNonce
      if s.flag F.TCK_WIN_STATE_OPEN ∨ s.tck.opening.isSome then s.finish p d.num 0x45 0
      else if s.flag F.TCK_STATUS_WINDOW_LOCKED then s.finish p d.num 0x44 0
      else if keyBad then (s.keyFault 6).finish p d.num 0x3F 0
      else if good = false then (s.wrongProof p).finish p d.num 0x43 0
      else
        let s := s.set F.TCK_WIN_FAIL_WRONG 0
        let r := s.logChange 1 p 0x0D03 [] (.winOpen p d.num dur)
        if r.1 = 0 then r.2.modTck fun t => { t with opening := some (p, d.num) } else r.2.finish p d.num r.1 0)

/-- The entry of an opening is durable: the window opens, unless its opener has lost it meanwhile (R499). -/
def State.winOpened (s : State) (p num dur : Nat) : State :=
  let s := if s.tck.opening = some (p, num) then
      let s := s.modTck fun t => { t with opening := none, winEnd := s.chrono + dur * 250000000 }
      (((s.setB F.TCK_WIN_STATE_OPEN true).set F.TCK_WIN_STATE_OWNER p).setB F.TCK_STATUS_WINDOW_OPEN true).windowEvent 0 p
    else s
  s.finish p num 0x00 0

/-- CHANGE_WINDOW_CLOSE (R499). -/
def execChangeWindowClose (p tag : Nat) (s : State) : Host.Outcome State Fault Refusal :=
  .next (s.take p tag 0x0D04 fun d s =>
    if s.flag F.TCK_WIN_STATE_OPEN ∧ s.ownsWindow p = false then s.finish p d.num 0x45 0
    else (s.closeWindow 1).finish p d.num 0x00 0)

/-- CHANGE_WINDOW_EXPIRY (R499): the end of DURATION_S. -/
def execChangeWindowExpiry (s : State) : Host.Outcome State Fault Refusal := .next (s.closeWindow 2)

/-- WINDOW_LOCKOUT_END (R498): the count of wrong proofs stays. -/
def execWindowLockoutEnd (s : State) : Host.Outcome State Fault Refusal := .next (s.setB F.TCK_STATUS_WINDOW_LOCKED false)

/-! ### Keys (R482-R486, R505, R506) -/

/-- KEY_GENERATE (R485, R505). -/
def execKeyGenerate (p tag : Nat) (s : State) : Host.Outcome State Fault Refusal :=
  .next (s.take p tag 0x0D06 fun d s =>
    let k := d.target
    let type := d.arg 24 1
    let fl := d.arg 25 1
    let usage := d.arg 26 2
    if 5 < type ∨ 1 < fl then s.finish p d.num 0x4A 0
    else if k < 16 ∨ usage % 8 ≠ 0 ∨ 32 ≤ usage ∨ (bitOf usage 4 = true ∧ type < 2) then s.finish p d.num 0x47 0
    else if (s.slotOf k).1 ≠ 0 ∧ fl = 0 then s.finish p d.num 0x48 0
    else
      let r := s.tryStore 2 1 (.keySlot p d.num k type usage)
      if r.1 then r.2 else r.2.finish p d.num 0x20 0)

/-- The key root of the host's slots (R475). -/
def State.hostRoot (s : State) : Nat :=
  let st := s.get F.TCK_LIFECYCLE_STATE
  if st ≤ 1 then 0 else if st ≤ 3 then 1 else 2

/-- A slot record is durable (R505): the generation advances, TYPE 0 empties the slot; the public key goes to BUFADDR. -/
def State.keySlotDurable (s : State) (p num k type usage : Nat) : State :=
  let s := s.inc (F.TCK_SLOTs_GEN k)
  let s := ((s.set (F.TCK_SLOTs_INFO_TYPE k) type).set (F.TCK_SLOTs_INFO_ROOT k) (if type = 0 then 0 else s.hostRoot)).set
    (F.TCK_SLOTs_INFO_USAGE k) (if type = 0 then 0 else usage)
  let pk := s.publicKey k
  match s.descNum? p num with
  | none => s
  | some d =>
    let wr := !pk.isEmpty && decide (d.length ≠ 0)
    let s := if wr then s.bufWrite p d pk else s
    if pk.length ≤ d.length then s.finish p num 0x00 (s.get (F.TCK_SLOTs_GEN k)) wr else s.finish p num 0x01 pk.length wr

/-- Bytes of a host signature by slot type (R506). -/
def sigLen : Nat → Nat
  | 1 => 3373 | 2 => 64 | 3 => 96 | 4 => 132 | 5 => 114 | _ => 0

/-- The signature of host slot `k` over a message (R506), and the state after its draw. -/
def State.hostSign (s : State) (k : Nat) (m : List Nat) : List Nat × State :=
  let seed := s.slotSeed k
  let type := (s.slotOf k).1
  let r := s.draw 256
  match type with
  | 1 => s.signDual k "ESW-HOST" (sha512 m)
  | 2 => (ecdsaSign 2 (ecScalar 2 seed) (sha256 m) (le 32 r.1), r.2)
  | 3 => (ecdsaSign 3 (ecScalar 3 seed) (sha384 m) (le 32 r.1), r.2)
  | 4 => (ecdsaSign 4 (ecScalar 4 seed) (sha512 m) (le 32 r.1), r.2)
  | 5 => (ed448Sign (ed448Secret seed) m, s)
  | _ => ([], s)

/-- SIGN (R485, R486, R506): `data` is the message at BUFADDR; `keyBad`, the slot failed its integrity check. -/
def execSign (p tag : Nat) (data : List Nat) (keyBad : Bool) (s : State) : Host.Outcome State Fault Refusal :=
  .next (if s.sigBusy 2 then s else s.take p tag 0x0D05 fun d s =>
    let k := d.target
    let x := s.slotOf k
    let n := d.arg 24 4
    if n = 0 ∨ 1048576 < n then s.finish p d.num 0x4A 0
    else if bitOf x.2.2.1 3 = false then s.finish p d.num 0x47 0
    else if d.length < max n (sigLen x.1) then s.finish p d.num 0x03 0
    else if keyBad then (s.keyFault k).finish p d.num 0x3F 0
    else
      let r := s.hostSign k (padTo n data)
      (r.2.bufWrite p d r.1).finish p d.num 0x00 (sigLen x.1) true)

/-! ### Attestation (R503, R504) -/

/-- OWNER_ID: zero outside PROVISIONED and FIELD. -/
def State.ownerId (s : State) : List Nat :=
  let st := s.get F.TCK_LIFECYCLE_STATE
  if st = 2 ∨ st = 3 then sha3 (s.tck.tableKey ++ s.tck.charterKey) else List.replicate 32 0

/-- A statement: header, body, the signature block of slot 0. -/
def State.statement (s : State) (kind : Nat) (nonce body : List Nat) : List Nat × State :=
  let head := [0x45, 0x53, 0x57, 0x41, 0x01, kind, 0, 0] ++ le 4 (128 + body.length + 3373) ++ [0, 0, 0, 0] ++ le 8 (s.get F.GLB_SERIAL) ++
    [s.get F.TCK_LIFECYCLE_STATE, s.get F.TCK_LIFECYCLE_COUNT, s.variant.order, 0] ++ le 4 (s.get F.GLB_BOOT_COUNT) ++ le 8 s.chrono ++
    padTo 32 nonce ++ s.ownerId ++ List.replicate 24 0
  let r := s.signDual 0 "ESW-ATTEST" (sha512 (head ++ body))
  (head ++ body ++ r.1, r.2)

/-- The key-origin body of slot `k`. -/
def State.originBody (s : State) (k : Nat) : List Nat :=
  let x := s.slotOf k
  let pk := s.publicKey k
  le 2 k ++ [x.1, x.2.1] ++ le 2 x.2.2.1 ++ le 2 pk.length ++ le 4 x.2.2.2 ++ [0, 0, 0, 0] ++ padTo ((pk.length + 7) / 8 * 8) pk

/-- One slot of the full quote: the digest of its public key, zero where it has none. -/
def State.quoteSlot (s : State) (k : Nat) : List Nat :=
  let x := s.slotOf k
  [x.1, x.2.1] ++ le 2 x.2.2.1 ++ le 4 x.2.2.2 ++
    (if s.publicKey k = [] then List.replicate 32 0 else sha3 (s.publicKey k))

/-- The full quote's body (R504): the images the lanes run, epochs and payloads, counters, the Halter profile ROM, every slot. -/
def State.quoteBody (s : State) : List Nat :=
  let lane := fun (slot : Nat) => sha512 (s.tck.fw.getD slot FwSlot.init).header
  lane (s.get F.GLB_FW_STATE_SLOT_A) ++ lane (s.get F.GLB_FW_STATE_SLOT_B) ++ le 4 (s.get F.TCK_EPOCH) ++ [0, 0, 0, 0] ++
    ((List.range 11).map fun i => le 4 (s.tck.active.getD i (0, [])).1 ++ sha512 (s.tck.active.getD i (0, [])).2).flatten ++
    ((List.range 32).map fun i => le 4 (s.get (F.TCK_RBi i))).flatten ++ sha3 (Config.crypto 55 []) ++ [0, 0, 0, 0] ++
    ((List.range 256).map s.quoteSlot).flatten ++ List.replicate 8 0

/-- The identity record, written at manufacture (R504): its wall time and the signature of Luasyn's identity signer are opaque. -/
def State.identityRecord (s : State) : List Nat :=
  let head := [0x45, 0x53, 0x57, 0x49, 0x01, s.variant.order, 0, 0] ++ le 8 (s.get F.GLB_SERIAL) ++ cryptoBytes 57 8 [] ++ s.publicKey 0 ++
    List.replicate 8 0
  head ++ cryptoBytes 58 3373 head

/-- ATTEST (R503, R504). The smaller variants give no full quote: check 1 of R65 refuses it (R5). -/
def execAttest (p tag : Nat) (keyBad : Bool) (s : State) : Host.Outcome State Fault Refusal :=
  .next (if s.sigBusy 2 then s else s.take p tag 0x0D07 fun d s =>
    let kind := d.arg 24 1
    let k := d.arg 26 2
    let nonce := d.param.drop 8
    if 2 < kind ∨ (kind = 0 ∧ 256 ≤ k) then s.finish p d.num 0x4A 0
    else if kind = 0 ∧ (s.slotOf k).1 = 0 then s.finish p d.num 0x4B 0
    else if kind = 2 then s.finishBuf p d s.identityRecord
    else if keyBad then (s.keyFault 0).finish p d.num 0x3F 0
    else
      let r := s.statement kind nonce (if kind = 0 then s.originBody k else s.quoteBody)
      r.2.finishBuf p d r.1)

/-! ### The life cycle (R475-R481) -/

/-- The image that authorises a transition (R476): its kind, 0 for none; no answer where R476 has no such transition. -/
def lifeImage (old new : Nat) : Option Nat :=
  if old = 1 ∧ new = 2 then some 0x21
  else if old = 2 ∧ new = 3 then some 0
  else if (old = 2 ∨ old = 3) ∧ new = 4 then some 0x23
  else if old = 4 ∧ new = 2 then some 0x21
  else if old ≠ 5 ∧ new = 5 then some 0x24
  else none

/-- Every stall at rest, no session open, no reading unsigned (R476). -/
def State.siteQuiet (s : State) : Bool :=
  (s.stallNums.all fun n => s.modeRest n && !s.contactorClosed n) && (s.ctxNums.all fun i => !(s.ctx i).live) &&
    (s.wbg.met.all fun m => m.sess.isNone) && s.bil.journal.isEmpty

/-- The further conditions of a transition (R476). -/
def State.lifeMay (s : State) (p old new : Nat) : Bool :=
  if old = 2 ∧ new = 3 then s.ownsWindow p
  else if 4 ≤ new then s.siteQuiet
  else if old = 4 then decide (0 < s.get F.TCK_LIFECYCLE_CYCLES)
  else true

/-- LIFECYCLE_SET (R476). -/
def execLifecycleSet (p tag : Nat) (img : List Nat) (keyBad : Bool) (s : State) : Host.Outcome State Fault Refusal :=
  .next (if s.sigBusy 3 then s else s.take p tag 0x0D08 fun d s =>
    let old := s.get F.TCK_LIFECYCLE_STATE
    let new := d.arg 24 1
    let b := padTo d.length img
    match lifeImage old new with
    | none => s.finish p d.num (if 5 < new then 0x4A else 0x46) 0
    | some k =>
      let st := if k = 0 then (if d.length = 0 then none else some 0x4A) else s.imgStatus p new b (fun x => decide (x = k)) keyBad
      let owner := if k = 0x21 then (s.imgPlain b).getD [] else []
      match st with
      | some x => s.imgRefused p d.num x
      | none =>
        if s.lifeMay p old new = false then s.finish p d.num 0x05 0
        else if k = 0x21 ∧ s.tck.seeds.getLast? = some (s.seedPrint (owner.take 32)) then s.finish p d.num 0x4A 0
        else
          let r := s.logChange 4 p 0x0D08 [old, new] (.life p d.num new (if k = 0 then none else some (imgRb b)) owner)
          if r.1 = 0 then r.2 else r.2.finish p d.num r.1 0)

/-- What an OWNER_BUNDLE leaves: seed, passphrase values, the owner's signers (R476). -/
def Tck.owned (t : Tck) (b : List Nat) : Tck :=
  if b = [] then t
  else { t with seed := some (b.take 32), salt := (b.drop 32).take 32, ppk := (b.drop 64).take 32, tableKey := (b.drop 128).take 1984,
                charterKey := (b.drop 2112).take 1984 }

/-- A transition's entry is durable (R477-R481): the new state in OTP, its effects, the completion, then the Device reset. Paddock
0xFF stands for the service route, which also clears the checkpoints (R480). -/
def State.lifeDurable (s : State) (p num new : Nat) (rb : Option Nat) (owner : List Nat) : State :=
  let old := s.get F.TCK_LIFECYCLE_STATE
  let s := (s.set F.TCK_LIFECYCLE_STATE new).inc F.TCK_LIFECYCLE_COUNT
  let s := s.clearRegs fun key _ => decide (0xD0280 ≤ key / 32) && decide (key / 32 < 0xD0A00)
  let s := s.modTck fun t => { t.owned owner with charters := List.replicate 4 none }
  let s := match rb with
    | some v => s.set (F.TCK_RBi 21) v
    | none => s
  let s := if old = 4 ∧ new = 2 then
      forAll ((List.range 20).map (· + 1)) (fun i s => s.set (F.TCK_RBi i) 0) (s.set F.TCK_LIFECYCLE_CYCLES (s.get F.TCK_LIFECYCLE_CYCLES - 1))
    else s
  let s := if 4 ≤ new then
      let fp := s.seedPrint
      s.modTck fun t => { t with seed := none, seeds := if new = 4 then t.seeds ++ (t.seed.map fp).toList else t.seeds }
    else s
  let s := if new ≠ 3 then s.modBil fun b => { b with genesis := false } else s
  let s := if p = 0xFF then (s.modHay fun h => { h with ckpt := none, ckptOld := none }) else s
  let s := s.raise 0x0D06 4 0xFFFF [old, new]
  let s := s.refreshHeld.finish p num 0x00 0
  s.requestReset 0x13 new

/-- SERVICE_UNLOCK (R480): a token on the debug port of a device at BOOT_FAIL with METER_STATE or both firmware slots failed. -/
def execServiceUnlock (img : List Nat) (s : State) : Host.Outcome State Fault Refusal :=
  .next (
    let b := img
    let cause := s.get F.GLB_BOOT_STATUS_FAIL_CAUSE
    if s.pwr.cold ∨ s.get F.GLB_BOOT_STATUS_PHASE ≠ 15 ∨ ¬(cause = 1 ∨ cause = 2) ∨ s.get F.TCK_LIFECYCLE_STATE = 5 then s
    else if (s.imgStatus 0xFF 4 b (fun k => decide (k = 0x25)) false).isSome then s
    else (s.logChange 4 0xFF 0x0D08 [s.get F.TCK_LIFECYCLE_STATE, 4] (.life 0xFF 0 4 (some (imgRb b)) [])).2)

end Sys2Proof.Machine
end

