-- ==== Sys2Proof/Machine/Yardmaster.lean ====
section
/-!
DEFINITION. The commands of the Yardmaster (R149-R188): request slots, solves, emergencies, cabinets, throttles, its opcodes,
and its part of an allocation boundary.
-/
namespace Sys2Proof.Machine

/-- LANE_REQUEST_SLOT_WRITE (R157): the active lane writes stall `n`'s request slot (0.1 A, 0.1 V). -/
def execLaneRequestSlotWrite (n : Nat) (active discharge : Bool) (i v : Nat) (s : State) : Host.Outcome State Fault Refusal :=
  .next (
    if s.hasStall n = false then s
    else (s.modYms fun y => { y with req := modAt y.req n fun _ =>
      { active := active, discharge := discharge, i := i % 65536, v := v % 65536 } }).droSlot n)

/-! ### The allocation boundary (R24, R167, R173, R186) -/

/-- Staged setpoints apply, never above the ceiling in force (R169). -/
def State.applyStaged (s : State) : State :=
  let s := forAll (List.range 48) (fun n s => match s.yms.staged.getD n none with
    | some v =>
      let c : Int := s.allocCeil n
      s.setS (F.YMS_Sn_GRANT_APPLIED n) (max (-c) (min v c))
    | none => s) s
  s.modYms fun y => { y with staged := List.replicate 48 none }

/-- A cabinet joins, or an ENABLE cancels its drain (R173, R186). -/
def State.cabBoundary (s : State) (c : Nat) : State :=
  let k := s.cab c
  match s.cabState c with
  | 2 =>
    if k.ready then
      ((s.setCab c 3 0).modCab c fun x => { x with enable := [], ready := false }).finishAll k.enable 0x00 0
    else s
  | 4 =>
    if k.cancel = [] then s
    else
      let s := (s.setCab c 3 0).modCab c fun x => { x with retire := [], cancel := [] }
      (s.finishAll k.retire 0x42 0).finishAll k.cancel 0x00 0
  | _ => s

/-- The Yardmaster's boundary: setpoints apply, cabinets join, throttles are judged, inputs freeze. With SOLVE_EN 0 every
target is zero and the ramps down are staged at once. A zero grant ends at the first boundary in NORMAL (R537). -/
def State.ymsBoundary (s : State) : State :=
  let s := s.applyStaged
  let s := s.modPwr fun w => { w with zeroGrant := s.pwr.zeroGrant && decide (s.get F.PWR_STATE_SUPPLY ≠ 0) }
  let s := forAll (List.range 16) (fun c s => s.cabBoundary c) s
  let s := forAll s.stallNums (fun n s => s.throttleFreeze n) s
  let s := s.throttleDevFreeze
  let s := s.modYms fun y => { y with flags := setBitOf y.flags 0 false }
  let fz := s.freeze
  let s := fz.stalls.foldl (fun s x => match s.treeNodes[x.node]? with
    | some nd => s.set (F.YMS_Sn_CEIL_DERATE x.stall) (s.derateCeil x.stall nd.derate)
    | none => s) s
  if s.flag F.YMS_CYCLE_CFG_SOLVE_EN then
    s.modYms fun y => { y with
      frozen := some { fz with solving := y.emerg.isNone }, asks := y.asks.map fun a => { a with used := true } }
  else
    let t := fz.stalls.map fun _ => (0 : Int)
    let s := s.modYms fun y => { y with frozen := some { fz with solving := false } }
    (s.putTargets fz t []).stage fz t

/-! ### Solves -/

/-- SOLVE_COMPLETE (R24): the scheduled solve over the last freeze ends with `slack` ticks left; the clamp acts (R171), the
setpoints are staged and waiting descriptors complete. A pre-empted solve's results are discarded (R27). -/
def execSolveComplete (slack : Int) (s : State) : Host.Outcome State Fault Refusal :=
  .next (if s.domainOn 9 = false then s else
    let s := slackMin s F.YMS_SLACK_MIN slack
    match s.yms.frozen with
    | none => s
    | some fz =>
      if fz.solving = false ∨ slack < 0 then s
      else
        let s := s.modYms fun y => { y with frozen := some { fz with solving := false }, flags := y.flags % 2 }
        let r := fz.solve (fz.stalls.map FStall.dem) (fz.stalls.map FStall.floor)
        let s := s.floorShort r.2
        let short := r.2.map fun k => match k with
          | some q => q.lt (Q.ofInt 1)
          | none => false
        let c := s.clampAll fz r.1
        let s := (c.2.endRamps fz c.1).putTargets fz c.1 short
        ((s.inc F.YMS_CNT_SOLVE).stage fz c.1).asksDone fz)

/-- SOLVE_DEADLINE_EXPIRY (R26): the solve has run 250 µs without ending; the previous setpoints stay. `ticks` is its time. -/
def execSolveDeadlineExpiry (ticks : Nat) (s : State) : Host.Outcome State Fault Refusal :=
  .next (
    match s.yms.frozen with
    | none => s
    | some fz =>
      if fz.solving = false then s
      else
        let s := s.modYms fun y => { y with frozen := some { fz with solving := false }, flags := setBitOf y.flags 3 true }
        ((s.setB F.YMS_STATUS_OVERRUN true).incSat F.YMS_CNT_OVERRUN).raise 0x0304 2 0xFFFF ([0] ++ le 4 ticks))

/-- The smaller of a frozen amount and what the present target leaves (R176: the re-solve cuts only). -/
def State.cutDemand (s : State) (x : FStall) (v : Nat) : Nat :=
  let t := s.getS (F.YMS_Sn_GRANT_TARGET x.stall)
  min v (if x.discharge then (-t).toNat else t.toNat)

/-- EMERGENCY_RESOLVE_COMPLETE (R27, R176): the re-solve ends after `ticks`; the cuts start at the next link cycle. The time
is no work item of YMS_SLACK_MIN (DESIGN CHOICE: R33 names no deadline slack of a re-solve). -/
def execEmergencyResolveComplete (ticks : Nat) (s : State) : Host.Outcome State Fault Refusal :=
  .next (
    match s.yms.emerg, s.yms.frozen with
    | some e, some fz =>
      let short := ((s.loadNow fz e.node).sub (Q.ofInt (s.capNow fz e.node * 10000 : Nat))).max (Q.ofInt 0)
      let fz := s.frozenNow fz
      let r := fz.solve (fz.stalls.map fun x => s.cutDemand x x.dem) (fz.stalls.map fun x => s.cutDemand x x.floor)
      let s := s.floorShort r.2
      let c := s.clampAll fz r.1
      let s := c.2.cutTargets fz c.1 (r.2.map fun k => match k with
        | some q => q.lt (Q.ofInt 1)
        | none => false)
      let s := (s.incSat F.YMS_CNT_EMERG).raise 0x0305 2 e.node ([e.cause] ++ le 4 (toTenthKw short) ++ le 4 ticks)
      s.emergNext
    | some _, none => s.emergNext
    | none, _ => s)

/-- EMERGENCY_RESOLVE_FALLBACK (R178): 250 µs have passed; every target below the affected node is scaled by the ratio of
its new capacity to its load. -/
def execEmergencyResolveFallback (ticks : Nat) (s : State) : Host.Outcome State Fault Refusal :=
  .next (
    match s.yms.emerg, s.yms.frozen with
    | some e, some fz =>
      let load := s.loadNow fz e.node
      let cap := Q.ofInt (s.capNow fz e.node * 10000 : Nat)
      let t := fz.stalls.map fun x =>
        let v := s.getS (F.YMS_Sn_GRANT_TARGET x.stall)
        let m := (((Q.ofInt v.natAbs).mul cap).div load).floor
        if above fz.nodes e.node x.node && cap.lt load then (if 0 ≤ v then m else -m) else v
      let s := s.cutTargets (s.frozenNow fz) t []
      let s := (s.setB F.YMS_STATUS_OVERRUN true).incSat F.YMS_CNT_OVERRUN
      (s.raise 0x0304 2 0xFFFF ([1] ++ le 4 ticks)).emergNext
    | some _, none => s.emergNext
    | none, _ => s)

/-- EMERGENCY_RAMP_STEP (R168): every EMERG_STEP link cycles each ramping setpoint moves by EMERG_RAMP x EMERG_STEP x 10 µs. -/
def execEmergencyRampStep (s : State) : Host.Outcome State Fault Refusal :=
  .next (
    let k := (Config.rnd ((s.yms.tree.emergRamp * s.get F.YMS_CYCLE_CFG_EMERG_STEP : Nat) : Int) 100).toNat
    let s := s.yms.emRamp.foldl (fun s n =>
      s.setS (F.YMS_Sn_GRANT_APPLIED n)
        (moveDown (s.getS (F.YMS_Sn_GRANT_APPLIED n)) (s.getS (F.YMS_Sn_GRANT_TARGET n)) k)) s
    let left := s.yms.emRamp.filter fun n =>
      decide ((s.getS (F.YMS_Sn_GRANT_TARGET n)).natAbs < (s.getS (F.YMS_Sn_GRANT_APPLIED n)).natAbs)
    (s.modYms fun y => { y with emRamp := left }).setB F.YMS_STATUS_EMERG_RAMP (left ≠ []))

/-! ### Cabinets and throttles -/

/-- CABINET_SILENCE_TIMEOUT (R175): no valid report for 3 x REPORT_MS. -/
def execCabinetSilenceTimeout (c : Nat) (s : State) : Host.Outcome State Fault Refusal :=
  .next (if s.cabState c = 3 ∨ s.cabState c = 4 then s.loseCab c 1 else s)

/-- CABINET_ENABLE_TIMEOUT (R186): not READY within WAIT_S. -/
def execCabinetEnableTimeout (c : Nat) (s : State) : Host.Outcome State Fault Refusal :=
  .next (
    if s.cabState c = 2 then
      let k := s.cab c
      ((s.setCab c 1 4).modCab c fun x => { x with enable := [], ready := false }).finishAll k.enable 0x06 0
    else s)

/-- CABINET_DRAIN_END (R174): DRAIN_MS is over; a drain that an ENABLE has cancelled does not end. -/
def execCabinetDrainEnd (c : Nat) (s : State) : Host.Outcome State Fault Refusal :=
  .next (
    if s.cabState c = 4 ∧ (s.cab c).cancel = [] then
      let k := s.cab c
      ((s.setCab c 1 3).modCab c fun x => { x with retire := [] }).finishAll k.retire 0x00 0
    else s)

/-- THROTTLE_GRACE_EXPIRY (R181): the grace time of stall `n`, or of the device (0xFFFF), ends; unsatisfied, it is enforced. -/
def execThrottleGraceExpiry (n : Nat) (s : State) : Host.Outcome State Fault Refusal :=
  .next (
    if n = 0xFFFF then
      if s.yms.throttleDev.grace then
        let ok := s.yms.throttleDev.satisfied
        let s := s.modYms fun y => { y with throttleDev := { y.throttleDev with grace := false } }
        if ok then s else s.enforceDev
      else s
    else if (s.yms.throttle.getD n Throttle.init).grace then
      let ok := (s.yms.throttle.getD n Throttle.init).satisfied
      let s := s.modYms fun y => { y with throttle := modAt y.throttle n fun t => { t with grace := false } }
      if ok then s else s.enforce n
    else s)

/-! ### Opcodes (R184-R187) -/

/-- STALL_POLICY (R184): used from the next freeze; completes after the first staged solve that uses it. -/
def execStallPolicy (p tag : Nat) (s : State) : Host.Outcome State Fault Refusal :=
  .next (s.take p tag 0x0301 fun d s =>
    let n := d.target
    match s.stallNode? n with
    | none => s.finish p d.num 0x40 0
    | some _ =>
      let old := s.yms.policy.getD n Policy.init
      let sets := fun (unchanged : Nat) (v : Nat) => if v = unchanged then none else some (some v)
      let ru := d.arg 30 2
      let change : PolicyChange :=
        { tier := sets 0xFF (d.arg 24 1), weight := sets 0 (d.arg 25 1), floor := sets 0xFFFF (d.arg 26 2)
          cap := sets 0xFFFF (d.arg 28 2), rampUp := if ru = 0 then some none else sets 0xFFFF ru }
      let now := (s.getS (F.YMS_Sn_GRANT_TARGET n)).natAbs
      let t0 := s.get (F.YMS_Sn_POLICY0_TIER n)
      let f0 := s.get (F.YMS_Sn_POLICY0_FLOOR n)
      let c0 := s.get (F.YMS_Sn_POLICY1_CAP n)
      let r0 := s.get (F.YMS_Sn_POLICY1_RAMP_UP n)
      let s := (s.modYms fun y => { y with policy := modAt y.policy n fun _ => change.on old }).refreshPolicy n
      let more := decide (s.get (F.YMS_Sn_POLICY0_TIER n) < t0) || decide (f0 < s.get (F.YMS_Sn_POLICY0_FLOOR n)) ||
        decide (c0 < s.get (F.YMS_Sn_POLICY1_CAP n)) || decide (r0 < s.get (F.YMS_Sn_POLICY1_RAMP_UP n))
      s.modYms fun y => { y with asks := y.asks ++ [
        { p := p, num := d.num, node := false, target := n, used := false, more := more, hit := false, atAccept := now
          clamped := false, change := change, newLim := NodeLim.init, oldPolicy := old, oldLim := NodeLim.init }] })

/-- One NODE_LIMIT value: 0xF..F restores the table value; above it, it is clamped (R152). -/
def limitOf (all v table : Nat) : Option Nat := if v = all then none else some (min v table)

/-- NODE_LIMIT (R152, R185). -/
def execNodeLimit (p tag : Nat) (s : State) : Host.Outcome State Fault Refusal :=
  .next (s.take p tag 0x0304 fun d s =>
    let i := d.target
    match s.treeNodes[i]? with
    | none => s.finish p d.num 0x04 0
    | some nd =>
      let imp := d.arg 24 4
      let exp := d.arg 28 4
      let il := d.arg 32 2
      if nd.kind ≠ 3 ∧ il ≠ 0 ∧ il ≠ 0xFFFF then s.finish p d.num 0x41 0
      else
        let old := s.yms.lims.getD i NodeLim.init
        let cap0 := s.yms.rec_.capacity.getD i 0
        let iNew := if nd.kind ≠ 3 ∨ il = 0 ∨ il = 0xFFFF then none
                    else if nd.iLim = 0 then some il else some (min il nd.iLim)
        let new : NodeLim := { imp := limitOf 0xFFFFFFFF imp nd.imp, exp := limitOf 0xFFFFFFFF exp nd.exp, iLim := iNew }
        let clamped := (decide (imp ≠ 0xFFFFFFFF) && decide (nd.imp < imp)) ||
          (decide (exp ≠ 0xFFFFFFFF) && decide (nd.exp < exp)) || (iNew.isSome && decide (nd.iLim ≠ 0) && decide (nd.iLim < il))
        let big := fun (o : Option Nat) (t : Nat) => o.getD (if t = 0 then 2 ^ 32 else t)
        let more := decide (old.imp.getD nd.imp < new.imp.getD nd.imp) || decide (old.exp.getD nd.exp < new.exp.getD nd.exp) ||
          decide (big old.iLim nd.iLim < big new.iLim nd.iLim)
        let s := s.modYms fun y => { y with lims := modAt y.lims i fun _ => new }
        s.modYms fun y => { y with asks := y.asks ++ [
          { p := p, num := d.num, node := true, target := i, used := false, more := more, hit := false, atAccept := cap0
            clamped := clamped, change := .none, newLim := new, oldPolicy := Policy.init, oldLim := old }] })

/-- CABINET_ENABLE (R172, R186). -/
def execCabinetEnable (p tag : Nat) (s : State) : Host.Outcome State Fault Refusal :=
  .next (s.take p tag 0x0302 fun d s =>
    let c := d.target
    match s.cabState c with
    | 0 => s.finish p d.num 0x40 0
    | 1 => (s.setCab c 2 0).modCab c fun k => { k with enable := [(p, d.num)], ready := false }
    | 5 => (s.setCab c 2 0).modCab c fun k => { k with enable := [(p, d.num)], ready := false }
    | 4 => s.modCab c fun k => { k with cancel := k.cancel ++ [(p, d.num)] }
    | _ => s.finish p d.num 0x00 0)

/-- CABINET_RETIRE (R174, R186). -/
def execCabinetRetire (p tag : Nat) (s : State) : Host.Outcome State Fault Refusal :=
  .next (s.take p tag 0x0303 fun d s =>
    let c := d.target
    match s.cabState c with
    | 0 => s.finish p d.num 0x40 0
    | 2 =>
      let k := s.cab c
      let s := (s.setCab c 1 0).modCab c fun x => { x with enable := [], ready := false }
      (s.finishAll k.enable 0x43 0).finish p d.num 0x00 0
    | 3 =>
      ((s.setCab c 4 0).modCab c fun k => { k with
        retire := [(p, d.num)], retireAt := s.chrono, drainMs := d.arg 24 4, drainFrom := k.avail }).hitAsks
    | _ => s.finish p d.num 0x00 0)

/-- The stall record of ALLOC_QUERY. -/
def State.queryStall (s : State) (fz : Frozen) (n : Nat) : List Nat :=
  match fz.stalls.findIdx? fun x => x.stall = n with
  | none => List.replicate 16 0
  | some k =>
    match fz.stalls[k]? with
    | none => List.replicate 16 0
    | some x =>
      let fl := b2n x.active + 2 * b2n (s.yms.rec_.short.getD k false) + 4 * b2n x.throttled +
        8 * b2n (decide (n ∈ s.yms.emRamp)) + 16 * b2n x.discharge + 32 * b2n x.derated
      le 2 (ofSigned 16 (s.yms.rec_.power.getD k 0 / x.vEst)) ++ le 2 (s.get (F.YMS_Sn_GRANT_APPLIED n)) ++ le 2 x.dem ++ le 2 x.ceil ++
        [x.tier, x.weight, fl, 0] ++ le 4 (ofSigned 32 (Config.rnd (s.yms.rec_.power.getD k 0) 10000))

/-- The node record of ALLOC_QUERY. -/
def State.queryNode (s : State) (fz : Frozen) (i : Nat) : List Nat :=
  match fz.nodes[i]? with
  | none => List.replicate 16 0
  | some nd =>
    let r := s.yms.rec_
    [nd.kind, nd.index, nd.parent, b2n (r.full.getD i false) + 2 * b2n (fz.clamped.getD i false) +
      4 * b2n (fz.limited.getD i false)] ++
      le 4 (r.capacity.getD i 0) ++ le 4 (r.load.getD i 0) ++ le 4 (r.expo.getD i 0)

/-- The 2,336 bytes of ALLOC_QUERY (R187). -/
def State.queryBytes (s : State) : List Nat :=
  let fz := s.yms.solved.getD Frozen.blank
  let r := s.yms.rec_
  le 8 fz.at_ ++ le 4 fz.epoch ++ [fz.nodes.length, s.variant.links] ++ le 2 s.yms.flags ++
    le 4 (r.load.getD 0 0) ++ le 4 (r.expo.getD 0 0) ++ List.replicate 8 0 ++
    ((List.range 48).map fun n => s.queryStall fz n).flatten ++ ((List.range 96).map fun i => s.queryNode fz i).flatten

/-- ALLOC_QUERY (R187): the state of the last completed solve. -/
def execAllocQuery (p tag : Nat) (s : State) : Host.Outcome State Fault Refusal :=
  .next (s.take p tag 0x0305 fun d s => s.finishBuf p d s.queryBytes)

end Sys2Proof.Machine
end

