-- ==== Sys2Proof/Machine/TackSwitch.lean ====
section
/-!
DEFINITION. The epoch switch (R155, R156, R191, R192, R280, R319, R335, R355, R419, R422, R495-R497): the refusals, what each block
does with a table that activates, the activation record.
-/
namespace Sys2Proof.Machine

/-! ### The switch is asked for (R495) -/

/-- The Chronobase of the boundary that AT_MS names: 0 is the first at least 1 ms ahead. -/
def State.switchAt (s : State) (at_ : Nat) : Nat :=
  if at_ = 0 then (s.chrono + 499999) / 250000 * 250000
  else (s.chrono / 250000 + (at_ + 2 ^ 32 - s.msCount) % 2 ^ 32) * 250000

/-- EPOCH_SWITCH (R495). A further one is also refused while an activation record is not durable (notes/assumptions/120.md). -/
def execEpochSwitch (p tag : Nat) (s : State) : Host.Outcome State Fault Refusal :=
  .next (s.take p tag 0x0D02 fun d s =>
    let new := d.arg 24 4
    let t := s.switchAt (d.arg 28 4)
    if t < s.chrono + 250000 ∨ s.chrono + 150000000000 < t then s.finish p d.num 0x4A 0
    else if new ≤ s.get F.TCK_EPOCH ∨ (s.tck.staged.all fun x => x.epoch ≠ new) then s.finish p d.num 0x42 0
    else if s.tck.switch.isSome ∨ s.tck.record.isSome then s.finish p d.num 0x05 0
    else
      let s := s.modTck fun k => { k with switch := some (p, d.num, t) }
      ((s.set F.TCK_SWITCH_EPOCH new).set F.TCK_SWITCH_MS (t / 250000)).setB F.TCK_STATUS_SWITCH_PENDING true)

/-! ### Refusals at the boundary -/

/-- The cabinets that a switch must not leave out: ENABLING, ACTIVE, RETIRING (R156, R419). -/
def State.cabsInUse (s : State) : List Nat := (List.range 16).filter fun c => within (s.cabState c) 2 4

/-- Stalls with a committed record (R133). -/
def State.committedStalls (s : State) : List Nat := (List.range 48).filter fun n => (s.rec? n).committed

/-- Does the new type table change a field that CONFIG carries, or TOPOLOGY or PHASES, of type `i` (R192)? -/
def typeChanges (old new : List StallType) (i : Nat) : Bool :=
  let key := fun (x : StallType) => [x.topology, x.phases, x.period, x.dt, x.minPulse, x.maxDuty, x.twoStep]
  decide ((old[i]?).map key ≠ (new[i]?).map key)

/-- The payload now active for a kind. -/
def State.activeOf (s : State) (k : Nat) : List Nat := (s.tck.active.getD (k - 0x10) (0, [])).2

/-- The tables offered at a switch to epoch `e`, in the order of their kinds. -/
def State.offered (s : State) (e : Nat) : List Staged :=
  (List.range 11).filterMap fun i => (s.stagedOf (0x10 + i)).filter fun x => x.epoch = e

/-- Does the owning block refuse a table (R496)? `all` are the tables offered with it. -/
def State.refusesTable (s : State) (all : List Staged) (x : Staged) : Bool :=
  let t := x.payload
  let other := fun (k : Nat) => match all.find? fun y => y.kind = k with
    | some y => y.payload
    | none => s.activeOf k
  let dro := (s.ctxNums.any fun i => decide ((s.ctx i).state ≠ 0) && decide ((s.ctx i).bank = 1 - s.dro.active)) ||
    ((other 0x13).length ≠ 0 && (other 0x14).length ≠ 0 && (checkSm (some (exiIds (other 0x14))) (other 0x13)).isSome)
  match x.kind with
  | 0x10 =>
    let l := (readTree t).nodes
    s.cabsInUse.any fun c => !(l.any fun nd => nd.kind = 2 && bitOf nd.cabMask c)
  | 0x12 =>
    let new := readTypes t
    s.committedStalls.any fun n => typeChanges s.types new (s.get (F.WLK_Sn_TYPE_TYPE n))
  | 0x13 => dro
  | 0x14 => dro
  | 0x17 => s.cabsInUse.any fun c => (s.can.table.any fun e => e.cab = c) && !((readCan t).any fun e => e.cab = c)
  | 0x19 =>
    let new := readCurves t
    s.committedStalls.any fun n =>
      let i := s.get (F.HRN_Sn_COOL_CFG_ENTRY n)
      match s.hrn.curves[i]? with
      | some c => decide ((new[i]?).map (fun y => (y.fsPump, y.fsValve)) ≠ some (c.fsPump, c.fsValve))
      | none => false
  | 0x1A =>
    s.dro.overlay.isSome ||
      (if bitOf (byteAt t 1) 0 then decide (leAt t 12 4 ≤ s.get F.DRO_ALLOW_SERIAL) else decide (leAt t 8 4 ≠ s.get F.DRO_ALLOW_SERIAL))
  | _ => false

/-! ### Activation -/

/-- The epoch register of a table kind. -/
def epochFld : Nat → Option Fld
  | 0x10 => some F.YMS_TREE_EPOCH | 0x11 => some F.YMS_DERATE_EPOCH | 0x12 => some F.WLK_TYPE_EPOCH | 0x13 => some F.DRO_SM_EPOCH
  | 0x14 => some F.DRO_EXI_EPOCH | 0x15 => some F.BIL_TARIFF_EPOCH | 0x16 => some F.BIL_CALENDAR_EPOCH | 0x17 => some F.CAN_FORMAT_EPOCH
  | 0x18 => some F.HRN_COMMUTE_EPOCH | 0x19 => some F.HRN_TRG_EPOCH | _ => none

/-- An entry of a new CAN_FORMAT keeps its alive state with its CONTROLLER, IDE, ID and alive settings (R422). -/
def keepAlive (old : List CanEntry) (e : CanEntry) : CanEntry :=
  let key := fun (x : CanEntry) => [x.ctrl, b2n (bitOf x.flags 0), x.id, b2n (bitOf x.flags 2), x.cntBits, x.cntStart, x.maxDelta, x.sync]
  match old.find? fun x => decide (key x = key e) with
  | some x => { e with alive := x.alive }
  | none => e

/-- Load the payload of a kind into its block. The Drover's tables are loaded by `loadBank`, an ALLOW_DELTA by `takeDelta`. -/
def State.loadTable (s : State) (k : Nat) (t : List Nat) : State :=
  if t = [] then s
  else match k with
    | 0x10 => s.modYms fun y => { y with tree := readTree t }
    | 0x11 => s.modYms fun y => { y with derate := readDerate t }
    | 0x12 => { s with types := readTypes t }
    | 0x15 => s.modBil fun b => { b with
        tariffTab := t, oldPrices := if b.oldPrices.isSome then b.oldPrices else some (s.chrono / 250000 * 250000, b.tariffTab) }
    | 0x16 => s.modBil fun b => { b with calTab := t }
    | 0x17 => s.modCan fun c => { c with table := (readCan t).map (keepAlive c.table) }
    | 0x18 => s.modHrn fun h => { h with commute := readCommute t }
    | 0x19 => s.modHrn fun h => { h with curves := readCurves t, central := readCentral t }
    | _ => s

/-- Load the Drover's other bank and make it the active one (R319). -/
def State.loadBank (s : State) (sm exi : List Nat) : State :=
  s.modDro fun d => { d with banks := modAt s.dro.banks (1 - s.dro.active) fun _ => (sm, exi), active := 1 - s.dro.active }

/-- A delta becomes the overlay (R335); DRO_ALLOW_COUNT includes it. -/
def State.takeDelta (s : State) (t : List Nat) : State :=
  let o : Overlay := { clear := bitOf (byteAt t 1) 0, serial := leAt t 12 4, entries := readDelta t, next := 0, busy := 0 }
  let kept := if o.clear then 0
    else (s.dro.leaves.map fun l => (l.entries.filter fun e => o.entries.all fun x => x.hash ≠ e.hash).length).foldl (· + ·) 0
  let s := s.modDro fun d => { d with overlay := some o }
  s.set F.DRO_ALLOW_COUNT (kept + (o.entries.filter fun e => e.status ≠ 0).length)

/-- What a new tree does to the Yardmaster besides replacing the tree (R155): node limits go, stalls outside it are granted zero and
lose their policies, a stall that joins starts at zero, what names nodes of the old tree ends. -/
def State.treeSwitched (s : State) (old : List TreeNode) : State :=
  let inOld := fun (n : Nat) => old.any fun nd => nd.kind = 4 && nd.index = n
  let s := s.modYms fun y => { y with
    lims := List.replicate 96 NodeLim.init, frozen := none, emerg := none
    emRamp := y.emRamp.filter fun n => (s.stallNode? n).isSome && inOld n
    asks := y.asks.map fun a => { a with newLim := NodeLim.init, oldLim := NodeLim.init }
    policy := (List.range 48).map fun n => if (s.stallNode? n).isSome then y.policy.getD n Policy.init else Policy.init }
  let s := forAll (List.range 48) (fun n s =>
    if (s.stallNode? n).isSome ∧ inOld n = true then s
    else ((s.setS (F.YMS_Sn_GRANT_TARGET n) 0).setS (F.YMS_Sn_GRANT_APPLIED n) 0).modYms fun y => { y with
      staged := modAt y.staged n fun _ => none }) s
  forAll s.stallNums (fun n s => s.refreshPolicy n) (s.showCabs.setB F.YMS_STATUS_EMERG_RAMP (s.yms.emRamp ≠ []))

/-- What is put back when a power loss comes before the activation record is durable (R496). -/
def State.beforeNow (s : State) : Before :=
  { epoch := s.get F.TCK_EPOCH, active := s.tck.active, staged := s.tck.staged, counters := (List.range 11).map fun i => s.get (F.TCK_RBi (i + 1))
    overlay := s.dro.overlay, count := s.get F.DRO_ALLOW_COUNT }

/-- Try the activation record (R496). -/
def State.tryRecord (s : State) : State :=
  if s.tck.record.isSome ∧ s.tck.recordRuns = false then
    let r := s.tryStore 2 1 .activation
    if r.1 then r.2.modTck fun t => { t with recordRuns := true } else r.2
  else s

/-- The activation record is durable: the descriptor completes. -/
def State.activationDurable (s : State) : State :=
  match s.tck.record with
  | some x => (s.modTck fun t => { t with record := none, recordRuns := false, before := none }).finish x.1 x.2 0x00 0
  | none => s

/-- One offered table activates: its block, its epoch register, its counter. -/
def State.activate (s : State) (e : Nat) (x : Staged) : State :=
  let s := s.loadTable x.kind x.payload
  let s := s.modTck fun t => { t with active := modAt t.active (x.kind - 0x10) fun _ => (e, x.payload) }
  let s := s.set (F.TCK_RBi (x.kind - 0x0F)) x.rb
  match epochFld x.kind with
  | some f => s.set f e
  | none => s.takeDelta x.payload

/-- The tables of epoch `e` activate (R496). -/
def State.activateAll (s : State) (p num e : Nat) (all : List Staged) : State :=
  let has := fun (k : Nat) => all.any fun x => x.kind = k
  let oldTree := s.treeNodes
  let tariff := s.get F.BIL_TARIFF_EPOCH
  let cal := s.get F.BIL_CALENDAR_EPOCH
  let refreeze := match s.yms.frozen with
    | some fz => decide (fz.at_ = s.chrono)
    | none => false
  let s := s.modTck fun t => { t with before := some s.beforeNow, record := some (p, num), recordRuns := false }
  let s := (all.foldl (fun s x => s.activate e x) s).set F.TCK_EPOCH e
  let s := if has 0x13 || has 0x14 then s.loadBank (s.activeOf 0x13) (s.activeOf 0x14) else s
  let s := if has 0x10 then s.treeSwitched oldTree else s
  let s := if has 0x10 && refreeze then
      let fz := s.freeze
      s.modYms fun y => { y with frozen := some { fz with solving := s.flag F.YMS_CYCLE_CFG_SOLVE_EN } }
    else s
  let s := if has 0x15 || has 0x16 then
      let s := s.applyTariff 3
      s.capture (s.takeNow (Reading.plain 0x0B none (le 4 tariff ++ le 4 (s.get F.BIL_TARIFF_EPOCH) ++ le 4 cal ++
        le 4 (s.get F.BIL_CALENDAR_EPOCH) ++ sha512 (s.activeOf 0x15) ++ sha512 (s.activeOf 0x16))))
    else s
  let s := s.modTck fun t => { t with staged := t.staged.filter fun x => e < x.epoch }
  let s := s.showStaged s.fwStaged
  let s := s.raise 0x0D02 1 0xFFFF (le 4 e ++ le 2 (all.foldl (fun v x => setBitOf v (x.kind - 0x10) true) 0))
  s.tryRecord

/-- EPOCH_SWITCH_BOUNDARY (R496). -/
def execEpochSwitchBoundary (s : State) : Host.Outcome State Fault Refusal :=
  .next (
    match s.tck.switch with
    | none => s
    | some x =>
      let e := s.get F.TCK_SWITCH_EPOCH
      let all := s.offered e
      match all.find? fun y => s.refusesTable all y with
      | some y =>
        let s := (((s.modTck fun t => { t with switch := none }).set F.TCK_SWITCH_EPOCH 0).set F.TCK_SWITCH_MS 0).setB
          F.TCK_STATUS_SWITCH_PENDING false
        s.finish x.1 x.2.1 0x41 (kindBlock y.kind + 256 * y.kind)
      | none =>
        let s := (((s.modTck fun t => { t with switch := none }).set F.TCK_SWITCH_EPOCH 0).set F.TCK_SWITCH_MS 0).setB
          F.TCK_STATUS_SWITCH_PENDING false
        s.activateAll x.1 x.2.1 e all)

end Sys2Proof.Machine
end

