-- ==== Sys2Proof/Machine/Durable.lean ====
section
/-!
DEFINITION. What is in force once a store is durable (R494, R500, R511-R514, R518, R583): change-log entries, work of many pages, the
blocks and logs in append staging.
-/
namespace Sys2Proof.Machine

/-- An RWP write applies (R583): its fields, and what R243 and R252 say follows. -/
def State.rwpDurable (s : State) (off val : Nat) : State :=
  match regRowAt off with
  | none => s
  | some r =>
    let old := s.rowVal r off
    let s := s.writeRwp r off val
    let new := s.rowVal r off
    if 0x50100 ≤ off ∧ off < 0x50140 then s.scaleWritten ((off - 0x50100) / 16)
    else if 0x50200 ≤ off ∧ off < 0x50280 then
      let k := (off - 0x50200) / 32
      let key := fun (v : Nat) => if off % 0x20 = 0 then (bitsOf v 30 30, bitsOf v 29 24) else (0, v)
      let s := if key old = key new then s else s.pulseCleared k
      if s.flag (F.WBG_POk_CFG_ENABLE k) then s else s.pulseOff k
    else if off = 0x60040 then s.refreshHeld
    else if off = 0x60048 then s.showTamper
    else s

/-- SEAL_ACK's entry is durable (R146): the seal is committed, which clears SEAL_CHANGED (R134). -/
def State.sealDurable (s : State) (p num n v : Nat) : State :=
  let s := (s.set (F.SLK_Sn_SEAL_COMMITTED n) v).setBit (F.SLK_Sn_QCAUSE n) 2 false
  (s.finish p num 0x00 0).quarantineExit n

/-- The action of a durable change (R500). -/
def State.changeDurable (s : State) (a : ChangeAct) : State :=
  match a with
  | .nothing => s
  | .rwp _ off val => s.rwpDurable off val
  | .winOpen p num dur => s.winOpened p num dur
  | .sealAck p num n v => s.sealDurable p num n v
  | .cal p num ch args => s.calDurable p num ch args
  | .input p num k args => s.inputDurable p num k args
  | .life p num new rb owner => s.lifeDurable p num new rb owner
  | .pass p num rb body => s.passDurable p num rb body

/-- A change-log entry reaches CHANGELOG (R500, R513): CHANGELOG_FULL as the region reaches 90 % and as it fills. -/
def State.changeStored (s : State) (c : Change) (bytes : List Nat) : State :=
  let s := s.append 5 bytes
  let s := if s.hay.changelog.items.length = 16740 ∨ s.changelogFull = true then s.raiseFull else s
  s.changeDurable c.act

/-- Blocks of the profile queue go to append staging in order (R283, R514), once a durable checkpoint has carried them. -/
def State.pumpBlock (s : State) : State :=
  match s.bil.blocks, s.hay.ckpt with
  | b :: _, some c =>
    if leAt b 8 8 < c.bil.blockSeq ∧ c.bil.genesis = s.bil.genesis ∧ c.bil.genesisWall = s.bil.genesisWall ∧
        (s.hay.running.all fun x => decide (x.job ≠ .block b)) ∧ s.stagingUsed + 1728 ≤ 4194304 ∧ s.regionFull 2 = false then
      (s.tryStore 2 1 (.block b)).2
    else s
  | _, _ => s

/-- A block is in staging. -/
def State.blockDurable (s : State) (b : List Nat) : State :=
  ((s.append 2 b).modBil fun x => { x with blocks := x.blocks.filter fun y => y ≠ b }).refreshHeld

/-- A piece of work is done: what it becomes durable as (R494, R502, R529). -/
def State.workDurable (s : State) (k : WorkKind) : State :=
  match k with
  | .host p num _ data => s.finish p num 0x00 data.length
  | .table p num st => s.tableDurable p num st
  | .firmware p num slot fw => s.fwDurable p num slot fw
  | .charter p num q rb c => s.charterDurable p num q rb c

/-- Pages of HOST are durable (R529): their bytes, and an unreadable page is readable again. -/
def State.hostStored (s : State) (at_ : Nat) (data : List Nat) : State :=
  { s with hay := { s.hay with
    host := Memory.write data at_ s.hay.host
    badPages := s.hay.badPages.filter fun g => !(decide (at_ / 4096 ≤ g) && decide (g < (at_ + data.length) / 4096)) } }

/-- A store of `n` pages of a piece of work is durable; the work goes on or is done. Work discarded meanwhile has no effect. -/
def State.workStored (s : State) (id n : Nat) : State :=
  match s.hay.work.find? fun w => w.id = id with
  | none => s
  | some w =>
    let s := match w.kind with
      | .host _ _ off data => s.hostStored (off + w.done * 4096) ((data.drop (w.done * 4096)).take (n * 4096))
      | _ => s
    if w.left ≤ n then
      (s.modHay fun h => { h with work := s.hay.work.filter fun x => x.id ≠ id }).workDurable w.kind
    else (s.modWork id fun w => { w with left := w.left - n, done := w.done + n, busy := false }).workStart id

/-- What becomes durable as a store ends. -/
def State.jobDurable (s : State) (j : Job) : State :=
  match j with
  | .event bytes => (s.append 3 bytes).pumpLog
  | .change c bytes => s.changeStored c bytes
  | .stallRec n e => s.recDurable n e
  | .ckpt c => (s.ckptDurable c).pumpBlock
  | .block b => (s.blockDurable b).pumpBlock
  | .work id pages => s.workStored id pages
  | .migrate r n => s.migrated r n
  | .erase r n => s.erased r n
  | .rewrite => s
  | .leaf => s.leafDurable
  | .leafIdx => s.leafIdxDurable
  | .keySlot p num k type usage => s.keySlotDurable p num k type usage
  | .activation => s.activationDurable
  | .shutdown bytes => (s.modPwr fun w => { w with shutdown := some bytes })

/-- The log a store appends to: 3 EVENTS, 5 CHANGELOG, 0 none. -/
def logOf : Job → Nat
  | .event _ => 3
  | .change _ _ => 5
  | _ => 0

/-- Is every earlier entry of the same log in place (R512, R514)? -/
def State.logTurn (s : State) (x : Store) : Bool :=
  decide (logOf x.job = 0) || s.hay.running.all fun y => decide (x.id ≤ y.id) || decide (logOf y.job ≠ logOf x.job)

/-- The effect of the store with this number; the entries of a log become durable in their order. -/
def State.storeDurable (s : State) (id : Nat) : State :=
  match s.hay.running.find? fun x => x.id = id with
  | none => s
  | some x =>
    if s.logTurn x then ((s.modHay fun h => { h with running := s.hay.running.filter fun y => y.id ≠ id }).jobDurable x.job).seeFinal
    else s

/-- A piece of work ends without becoming durable; a HOST_WRITE's RESULT gives the bytes that are. -/
def State.workFailed (s : State) (id status : Nat) : State :=
  match s.hay.work.find? fun w => w.id = id with
  | none => s
  | some w =>
    let s := s.modHay fun h => { h with work := s.hay.work.filter fun x => x.id ≠ id }
    match w.kind with
    | .host p num _ _ => s.finish p num status (w.done * 4096)
    | k => s.finish k.owner.1 k.owner.2 status 0

/-- A store has failed three times (R525): the work or the merge it was part of. -/
def State.jobFailed (s : State) (j : Job) : State :=
  match j with
  | .work id _ => s.workFailed id 0x21
  | .leaf => s.modOverlay fun o => { o with busy := 0 }
  | _ => s

/-- A program or an erase fails (R525): the block is retired, and after the third attempt the store fails with STORE_FAIL (0x0E05). -/
def State.programFail (s : State) (id die block : Nat) : State :=
  match s.hay.running.find? fun x => x.id = id with
  | none => s
  | some x =>
    if x.cls < 3 then s
    else
      let s := s.retireBlock
      if x.fails < 2 then
        (s.modHay fun h => { h with running := s.hay.running.map fun y => if y.id = id then { y with fails := y.fails + 1 } else y })
      else
        let s := s.modHay fun h => { h with running := s.hay.running.filter fun y => y.id ≠ id }
        let s := (s.setB F.HAY_STATUS_STORE_FAIL true).raise 0x0E05 3 0xFFFF ([x.cls, die] ++ le 4 block)
        s.jobFailed x.job

/-! ### Scrubbing (R523, R524) -/

/-- Pages of a region (R511). -/
def regionPages (r : Nat) : Nat :=
  match r with
  | 0 => 393216 | 1 => 262144 | 2 => 65536 | 3 => 65536 | 4 => 131072 | 5 => 16384 | 6 => 114688 | _ => 0

/-- A page of ALLOWLIST is lost: every leaf of 3,072 bytes that touches it. -/
def State.leavesLost (s : State) (page : Nat) : State :=
  (s.modDro fun d => { d with leaves := (s.dro.leaves.zipIdx).map fun x =>
      if 4096 * page < 3072 * (x.2 + 1) ∧ 3072 * x.2 < 4096 * (page + 1) then { x.1 with lost := true } else x.1 })

/-- A page of EVENTS is lost: its entries in NAND are skipped by LOG_FETCH. -/
def State.eventsLost (s : State) (page : Nat) : State :=
  let x := s.hay.events
  s.setRegion 3 { x with items := (x.items.zipIdx).map fun y =>
    if x.base + y.2 < x.nand ∧ (x.base + y.2) % 4194304 / 64 = page then [] else y.1 }

/-- A page of IMAGES is uncorrectable: slots A and B and the staging area are lost, the settings part is mirrored. Which staged table
a page belongs to is open: a free value. -/
def State.imagesLost (s : State) (page : Nat) : State :=
  if page < 32768 then (s.modTck fun t => { t with fw := modAt t.fw (page / 16384) fun x => { x with bad := true } }).uncorrectable 4 page true
  else if page < 114688 then
    let f := s.fresh 32
    let gone := (f.2.tck.staged[f.1 % max 1 f.2.tck.staged.length]?).map Staged.kind
    let s := f.2.modTck fun t => { t with staged := t.staged.filter fun x => some x.kind ≠ gone }
    (s.showStaged s.fwStaged).uncorrectable 4 page true
  else ((s.uncorrectable 4 page false).tryStore 3 2 .rewrite).2

/-- The controller reads a written page (R524): 24 corrected bits or more rewrite it; uncorrectable, R523 applies. -/
def State.scrub (s : State) (region page bits : Nat) (uncorr : Bool) : State :=
  if s.domainOn 5 = false ∨ regionPages region ≤ page then s
  else if uncorr = false then
    let s := s.set F.HAY_ECC_MOST (max (s.get F.HAY_ECC_MOST) (min bits 40))
    if bits < 24 then s
    else
      let r := s.tryStore 3 1 .rewrite
      if r.1 then r.2.incSat F.HAY_ECC_REFRESHED else r.2
  else match region with
    | 0 => (s.leavesLost page).uncorrectable 0 page true
    | 3 => (s.eventsLost page).uncorrectable 3 page true
    | 4 => s.imagesLost page
    | 6 => (s.modHay fun h => { h with badPages := (s.hay.badPages.filter fun g => g ≠ page) ++ [page] }).uncorrectable 6 page true
    | r => ((s.uncorrectable r page false).tryStore 3 2 .rewrite).2

end Sys2Proof.Machine
end

