-- ==== Sys2Proof/Machine/Cold.lean ====
section
/-!
DEFINITION. What a Cold reset, HIBERNATE and a Device reset clear (R14, R42, R496, R545, R550, R551, R555), and what a boot loads and
restores (R38, R248, R254, R268, R282, R571, R572).
-/
namespace Sys2Proof.Machine

/-! ### Losing state -/

/-- The time without a healthy standby goes into GLB_NOSTBY_TIME (class K). -/
def State.bankNoStandby (s : State) : State :=
  match s.lan.noSince with
  | some t => s.set F.GLB_NOSTBY_TIME (min (s.get F.GLB_NOSTBY_TIME + (s.chrono - t) / 250000000) (2 ^ 32 - 1))
  | none => s

/-- What is left of the proof lockout is class K; its seconds stand still while the Tack Room is off. -/
def State.bankLockout (s : State) : State :=
  if s.flag F.TCK_STATUS_WINDOW_LOCKED then s.set F.TCK_WIN_FAIL_LOCK_LEFT (s.secsLeft s.tck.lockEnd) else s

/-- An epoch switch whose activation record is not durable is undone (R496). -/
def State.undoSwitch (s : State) : State :=
  match s.tck.before with
  | none => s
  | some b =>
    let s := s.modTck fun t => { t with active := b.active, staged := b.staged }
    let s := (s.set F.TCK_EPOCH b.epoch).set F.DRO_ALLOW_COUNT b.count
    let s := b.counters.zipIdx.foldl (fun t x => t.set (F.TCK_RBi (x.2 + 1)) x.1) s
    s.modDro fun d => { d with overlay := b.overlay }

/-- What every block but the Halter, the paddocks and the meters loses with its power, besides its registers. Contexts keep their
generations; the journals, regions, images and the lanes' OUT are kept. -/
def State.blocksOff (s : State) : State :=
  { s with
    slk := List.replicate 48 Slk.init, wlk := List.replicate 48 Wlk.init, types := [], runSeq := 0, yms := .init, hrn := .init
    aux := List.replicate 4 Aux.init, lsw := List.replicate 16 Lsw.init, rel := .init, can := .init
    stallRec := s.stallRec.map fun r => { StallRec.init with committed := r.committed, fp := r.fp }
    dro := { s.dro with
      ctxs := s.dro.ctxs.map fun (c : Ctx) => { Ctx.init with gen := c.gen }, overlay := s.dro.overlay.map fun o => { o with busy := 0 }
      banks := Dro.init.banks, active := 0, sends := [], looks := [] }
    hay := { s.hay with measuring := none, work := [], meas := [], logQueue := [], closeWait := [] }
    lan := { Lan.init with out := s.lan.out, losses := s.lan.losses }
    tck := { s.tck with switch := none, record := none, recordRuns := false, before := none, opening := none, winEnd := 0 } }

/-- The paddocks lose rings and in-flight work; event SEQ and fetch numbers go on. -/
def State.paddocksOff (s : State) : State :=
  { s with pdk := s.pdk.map fun d => { Pdk.init with nextNum := d.nextNum, evSeq := d.evSeq } }

/-- The Halter loses its own state, the paddocks theirs, and the Chronobase starts over (R16). -/
def State.halterOff (s : State) : State :=
  { s with chrono := 0, pdk := List.replicate 4 Pdk.init, haltS := List.replicate 48 Halt.init, hlt := .init }

/-- The paddocks start over. -/
def State.paddocksAfresh (s : State) : State := { s with pdk := List.replicate 4 Pdk.init }

/-- Cold reset (R550, R555): everything but classes K and A clears, and the Chronobase (R16). The cause stays for the boot. The
meters' own state is left for the restore, which takes the checkpoint instead. -/
def State.coldReset (s : State) : State :=
  let s := s.bankNoStandby.bankLockout.undoSwitch
  let cause := s.get F.PWR_RESET_CAUSE_CAUSE
  let detail := s.get F.PWR_RESET_CAUSE_DETAIL
  let s := s.clearRegs fun _ ret => decide (ret ≠ .k) && decide (ret ≠ .a)
  let s := (s.set F.PWR_RESET_CAUSE_CAUSE cause).set F.PWR_RESET_CAUSE_DETAIL detail
  let s := (s.blocksOff.modHay fun h => { h with logDropped := 0 }).modPwr fun w => { Pwr.init with
    shutdown := w.shutdown, gapCause := w.gapCause, thermal := w.thermal, resetLow := w.resetLow }
  s.halterOff

/-- A Cold reset is caused (R550): it wins over every other, and takes effect once the running stores have ended (R521). -/
def State.goCold (s : State) (cause detail : Nat) : State :=
  if s.pwr.cold then s
  else
    let s := (s.set F.PWR_RESET_CAUSE_CAUSE cause).set F.PWR_RESET_CAUSE_DETAIL detail
    if s.hay.running.isEmpty then s.coldReset
    else s.paddocksAfresh.modPwr fun w => { w with cold := true, falling := true, reset := false, entry := none }

/-- The Halter's own items that carry on through HIBERNATE: self-test, loops and safety outputs (R455, R548). What it keeps of a stall
returns to reset with class E (R555), the sensor lockout among it (R453). -/
def haltCarries (key : Nat) : Bool := decide (key / 32 / 0x10000 = 0xC) && decide (key / 32 < 0xC1000)

/-- HIBERNATE turns off every domain but AON, MON, HLT, CLK and PCI (R538, R545): classes D, H, L, E and D, P clear, the
Halter's site-wide items and the supply state apart, which carry on (R535, R548). -/
def State.hibernateOff (s : State) : State :=
  let cause := s.get F.PWR_RESET_CAUSE_CAUSE
  let detail := s.get F.PWR_RESET_CAUSE_DETAIL
  let supply := s.get F.PWR_STATE_SUPPLY
  let s := s.bankNoStandby.bankLockout.undoSwitch
  let s := s.clearRegs fun key ret => (decide (ret = .d) || decide (ret = .h) || decide (ret = .l) || decide (ret = .e) || decide (ret = .dp)) &&
    !(decide (ret = .e) && haltCarries key) && !(decide (key = F.GLB_GPIO_IN.key) || decide (key = F.GLB_GPIO_CLAIM.key))
  let s := ((s.set F.PWR_RESET_CAUSE_CAUSE cause).set F.PWR_RESET_CAUSE_DETAIL detail).set F.PWR_STATE_SUPPLY supply
  let s := (s.set F.PWR_STATE_STATE 2).set F.PWR_DOMAINS 0x1F
  let s := s.blocksOff.paddocksOff
  let s : State := { s with haltS := s.haltS.map fun h => { Halt.init with phaseAt := h.phaseAt } }
  let s := forAll s.stallNums (fun n s => s.refreshCeil n) s
  (s.modPwr fun w => { w with entry := none, final := false, gapCause := 3, telemetry := [], rounds := 0 }).refreshSafeOut

/-! ### Loading the tables (R38 TABLES) -/

/-- The active tables go into their blocks, the lockout runs on, a nonce is drawn, a stall found degraded is
blocked (R216), links that are present train, or stay OFF with ENABLE 0 (R121, R122). -/
def State.bootTables (s : State) : State :=
  let s := forAll ((List.range 11).map (· + 0x10)) (fun k s =>
    let a := s.tck.active.getD (k - 0x10) (0, [])
    match epochFld k with
    | some f => (s.loadTable k a.2).set f a.1
    | none => s) s
  let s := if s.activeOf 0x13 = [] ∧ s.activeOf 0x14 = [] then s else s.loadBank (s.activeOf 0x13) (s.activeOf 0x14)
  let s := forAll s.stallNums (fun n s => s.refreshPolicy n) s.showCabs
  let left := s.get F.TCK_WIN_FAIL_LOCK_LEFT
  let s := if left = 0 then s
    else ((s.modTck fun t => { t with lockEnd := s.chrono + left * 250000000 }).setB F.TCK_STATUS_WINDOW_LOCKED true).set F.TCK_WIN_FAIL_LOCK_LEFT 0
  let s := s.newNonce.showStaged (bitOf (s.get F.TCK_STAGED) 15)
  let s := forAll (s.stallNums.filter fun n => s.flag (F.WLK_Sn_DEGRADE_DEGRADED n))
    (fun n s => s.block n (s.get (F.WLK_Sn_DEGRADE_CAUSE n) - 1)) s
  forAll s.stallNums (fun n s => if s.flag (F.SLK_Sn_CTRL_ENABLE n) then s.toTraining n else s.setLink n Link.off) s

/-- The Halter's self-test at power-up (R38, R454): loop mappings in force, loops with a manual reset wait for it (R448). -/
def State.bootHalter (s : State) : State :=
  let s := s.modHlt fun h => { h with maps := (List.range 4).map s.mapOf }
  let s := forAll [0, 1, 2, 3] (fun k s =>
    s.setB (F.HLT_ESTOPk_STATE_AWAIT_RESET k) (decide ((s.loopMap k).mode = 1) && (s.loopMap k).resetEn)) s
  ((s.setB F.HLT_STATUS_SELFTEST_OK true).claimGpios).actLoops

/-- The first hold-up measurement (R517), at the end of STORES; outside NORMAL it waits for the recovery. -/
def State.firstMeasure (s : State) : State :=
  if s.get F.PWR_STATE_SUPPLY = 0 then (s.modHay fun h => { h with measuring := some s.chrono }) else s

/-! ### The restore (R38 RESTORE) -/

/-- The phases reached, in order; the last is the present one (R38, R576). -/
def State.phases (s : State) (l : List Nat) : State :=
  l.foldl (fun t ph => (t.set F.GLB_BOOT_STATUS_PHASE ph).setBit F.GLB_BOOT_STATUS_HISTORY ph true) s

/-- BOOT_FAIL (R41). -/
def State.bootFail (s : State) (cause : Nat) : State := (s.phases [15]).set F.GLB_BOOT_STATUS_FAIL_CAUSE cause

/-- What the device was shipped with stands in for a checkpoint where none was ever durable. -/
def Ckpt.shipped : Ckpt :=
  { seq := 0, edge := ⟨0, 0, 0, .init, 0, 0, [], []⟩, regs := [], boot := 0, met := Wbg.init.met, pulses := Wbg.init.pulses
    ahead := [0, 0, 0, 0], bil := Bil.init, readings := 0, final := false, ok := true }

/-- What the power-up check of the two slots finds (R245, R248). -/
def State.checkSlots (s : State) (new old : Bool) : State :=
  s.modHay fun h => { h with
    ckpt := h.ckpt.map fun c => { c with ok := c.ok && new }, ckptOld := h.ckptOld.map fun c => { c with ok := c.ok && old } }

/-- The newer valid slot (R248). -/
def State.validSlot (s : State) : Option Ckpt :=
  match s.hay.ckpt.filter Ckpt.ok with
  | some c => some c
  | none => s.hay.ckptOld.filter Ckpt.ok

/-- The checkpoint that a restore takes. -/
def State.saved (s : State) : Ckpt := s.validSlot.getD Ckpt.shipped

/-- Do the slots hold records of which none is valid (R248)? -/
def State.slotsFail (s : State) : Bool := (s.hay.ckpt.isSome || s.hay.ckptOld.isSome) && s.validSlot.isNone

/-- The wall clock at power-up: from the RTC, or, where VBAT was lost, invalid from the checkpoint's (R267, R268), with the legal tick
one above the checkpoint's; class A is lost with VBAT (R555). -/
def State.startClock (s : State) (vbat : Bool) (wall : Nat) : State :=
  if vbat then s.modBil fun b => { b with clk := ⟨(wall : Int) * wallUnit, s.chrono, 0, 0⟩ }
  else
    let c := s.saved
    let s := s.clearRegs fun _ ret => decide (ret = .a)
    let s := if s.validSlot.isSome then s.set F.BIL_TICK (c.edge.tick + 1) else s
    s.modBil fun b => { b with clk := ⟨(c.edge.wall : Int) * wallUnit, s.chrono, 0, 0⟩, tlog := [⟨0xFF, 0, false, c.edge.wall, s.get F.BIL_TICK, 0⟩], tdrop := 0 }

/-- Store a value under a key, whatever field it belongs to. -/
def State.putKey (s : State) (e : Nat × Nat) : State := { s with regs := regPut (resetOf e.1) e.1 e.2 s.regs }

/-- Put the checkpoint's registers back; the reading sequence follows what is durable (R295). -/
def State.restoreRegs (s : State) (c : Ckpt) : State :=
  let s := s.clearRegs fun key _ => ckptKey key
  let s := c.regs.foldl (fun t e => t.putKey e) s
  let same := s.bil.genesis && c.bil.genesis && decide (s.bil.genesisWall = c.bil.genesisWall)
  (s.set F.WBG_CKPT_SEQ c.seq).set F.BIL_REC_SEQ (if same then s.hay.readings.base + s.hay.readings.items.length + s.bil.journal.length else 0)

/-- The channels and paths whose calibration has changed since the capture: its entry was durable, so it applies again (R240). -/
def State.calsSince (s : State) (c : Ckpt) (cur : List Met) (gens : List Nat) : List CalWait :=
  ((List.range 52).map fun ch =>
    let now := cur.getD ch Met.init
    let was := c.met.getD ch Met.init
    let l := (List.range 4).filterMap fun k =>
      if now.path k ≠ was.path k ∨ (k = 0 ∧ now.calFp ≠ was.calFp ∧ now.calFp ≠ []) then some (⟨ch, k, now.path k, 0, none⟩ : CalWait) else none
    if l.isEmpty && decide (gens.getD ch 0 ≠ s.get (F.WBG_Mc_CAL_GEN ch)) then [⟨ch, 0xFF, Cal.init, 0, none⟩] else l).flatten

/-- The Weighbridge takes the checkpoint's channels, outputs and inputs (R248, R254); metering goes on with the first whole
millisecond. `gens` are the calibration generations before. -/
def State.restoreWbg (s : State) (c : Ckpt) (gens : List Nat) : State :=
  let cals := (s.wbg.cals.map fun x => { x with from_ := 0, desc := none }) ++ s.calsSince c s.wbg.met gens
  let s := s.modWbg fun _ => { Wbg.init with
    met := c.met.zipIdx.map fun x => { x.1 with
      bind := none, fault := false, alarm := 0, neutral := 0, est := 0, afe := { Afe.init with vs := x.1.afe.vs, is := x.1.afe.is, sens := x.1.afe.sens }
      calFp := if (s.met x.2).calFp = [] then [] else x.1.calFp }
    pulses := c.pulses.map fun x => { x with on := x.on.map fun t => s.chrono + t, queue := x.queue.map fun _ => 0, lastEnd := none }
    cals := cals, nextMs := (s.chrono + 249999) / 250000, capAt := s.chrono }
  let s := forAll [0, 1, 2, 3] (fun k s => if s.get (F.WBG_S0k_CFG_MODE k) = 1 then s.set (F.WBG_S0k_CFG_MODE k) 0 else s) s
  s.showSubstitute

/-- Billing takes the checkpoint's items (R283). What is in MRAM or the always-on domain by itself stays: the accounts, the journal,
the last record, the tamper log. The debits captured are in the balances (R299). -/
def State.restoreBil (s : State) (c : Ckpt) : State :=
  let top := s.hay.profiles.base + s.hay.profiles.items.length
  let same := s.bil.genesis && c.bil.genesis && decide (s.bil.genesisWall = c.bil.genesisWall)
  let now := s.bil
  let rest := c.bil.clk.total - ((c.edge.at_ : Int) - c.bil.clk.at_) * 65536 * c.bil.clk.ppm
  let slew := decide (c.bil.clk.ppm ≠ 0) && decide (0 < rest * c.bil.clk.ppm) && s.flag F.BIL_TIME_STATUS_VALID
  let s := s.modBil fun _ => { c.bil with
    clk := if slew then { now.clk with ppm := c.bil.clk.ppm, total := rest } else now.clk
    route := c.bil.tariff, routes := [], oldPrices := none, levels := now.levels, tariffTab := now.tariffTab, calTab := now.calTab
    blocks := c.bil.blocks.filter fun b => !same || decide (top ≤ leAt b 8 8)
    accounts := now.accounts, debits := c.bil.debits.map fun d => { d with moved := d.amt.tdiv (2 ^ 32) }
    nextSess := now.nextSess, genesis := same, genesisWall := now.genesisWall, waiting := [], takes := [], journal := now.journal
    lastRec := now.lastRec, tlog := now.tlog, tdrop := now.tdrop, ckForced := none, ckRetry := none, ckWaits := []
    ckAt := 0, finalSeen := false, gapWait := false, reopen := none, stepWait := [] }
  s.setB F.BIL_TIME_STATUS_SLEWING slew

/-- SESSION_END with POWER_FAIL for a session open at the capture (R282): the registers, flags and channel state as of then; TIME_INVALID
where wall time is invalid now (R268). -/
def State.restoreEnd (s : State) (c : Ckpt) (ch : Nat) : State :=
  match (s.met ch).sess with
  | none => s
  | some x =>
    let amt := ((s.bil.debits.find? fun d => d.id = x.id).map Debit.amt).getD 0
    let r := s.takeValues { Reading.plain 0x03 (some ch) [] with
      flags := 16 + 32 * b2n x.reset, bind := some x.bind, debit := amt.tdiv (2 ^ 32), sessUnmet := x.unmet } c.edge
    let s := s.captureIn c.boot { r with flags := setBitOf r.flags 0 (bitOf r.flags 0 || !s.flag F.BIL_TIME_STATUS_VALID) }
    let s := s.modBil fun b => { b with debits := b.debits.map fun d => if d.id = x.id then { d with closed := true } else d }
    s.modMet ch fun m => { m with sess := none }

/-- The interval open at the capture closes at it, with INCOMPLETE and POWER_FAIL (R282). -/
def State.restoreInterval (s : State) (c : Ckpt) : State :=
  let b := s.bil
  let x := c.edge
  let fl := setBitOf (setBitOf (setBitOf (setBitOf b.ivFlags 0 true) 1 true) 5 (bitOf x.flags 1)) 6 (bitOf b.ivFlags 6 || bitOf x.flags 3)
  let head := [0x45, 0x53, 0x57, 0x50, 0x01, b.ivMin] ++ le 2 fl ++ le 8 b.blockSeq ++ le 8 b.ivWall ++ le 8 x.wall ++ le 6 b.ivTick ++
    le 6 x.tick ++ le 4 (Config.rnd ((x.at_ : Int) - b.ivAt) 250000).toNat ++ le 4 (s.get F.BIL_TARIFF_EPOCH) ++ [b.ivTariff, b.tariff] ++
    List.replicate 10 0
  let s := (s.queueBlock head x).modBil fun y => { y with blockSeq := y.blockSeq + 1, lastEnd := x.wall }
  s.raise 0x0602 0 0xFFFF (le 8 b.blockSeq ++ le 2 fl)

/-- The GAP window opens (R248): it ends with the first committed millisecond. -/
def State.openGap (s : State) (c : Ckpt) (vbat : Bool) (closed : Nat) : State :=
  let had := s.validSlot.isSome
  s.modBil fun b => { b with
    reopen := some ⟨had, c.edge.wall, c.edge.tick, c.edge.at_, c.seq, s.pwr.gapCause, closed, vbat⟩, gapWait := had && b.genesis }

/-- The TIME record of a restore (R571): the RTC against the checkpoint's wall time and the legal ticks since. -/
def State.restoreTime (s : State) (c : Ckpt) : State :=
  let elapsed := s.get F.BIL_TICK - c.edge.tick
  let expected := c.edge.wall + 65536 * elapsed
  let off := ((s.wall : Int) - expected).natAbs
  if 2 * 65536 * 1000000 + 200 * 65536 * elapsed < off * 1000000 then
    s.capture (s.takeNow (Reading.plain 0x08 none (le 8 expected ++ le 8 s.wall ++ le 8 s.chrono ++ [0xFF])))
  else s

/-- The tariff at a restore (R282, R572): frozen where wall time lies before the last switch, else the calendar's, cause 4. -/
def State.restoreTariff (s : State) : State :=
  let frozen := decide (s.wall < s.get F.BIL_LAST_SWITCH)
  let s := (s.modBil fun b => { b with frozen := frozen }).setB F.BIL_STATUS_TIME_FROZEN frozen
  match s.newTariff with
  | some k => (s.switchTariff k 4).modBil fun b => { b with route := k }
  | none => s.passSwitches

/-- The DEMAND of the last closed block (R308): of the newest block queued or in PROFILES. -/
def State.showDemand (s : State) : State :=
  match (s.hay.profiles.items ++ s.bil.blocks).getLast? with
  | some b => forAll (List.range 52) (fun c s => s.set (F.BIL_Mc_DEMAND c) (leAt b (64 + 32 * c + 16) 4)) s
  | none => s

/-- While wall time is invalid the restored interval stays open, flagged TIME_INVALID (R268); its length so far is kept. -/
def State.keepInterval (s : State) (c : Ckpt) : State :=
  let s := s.modBil fun b => { b with
    ivFlags := setBitOf b.ivFlags 4 true, ivAt := (s.wbg.nextMs * 250000 : Int) - ((c.edge.at_ : Int) - b.ivAt) }
  ((s.setB F.BIL_STATUS_TIME_FROZEN s.bil.frozen).setB F.BIL_TIME_STATUS_TIME_BACK (bitOf s.bil.ivFlags 2)).showDemand

/-- The RESTORE phase of a Cold power-up or a wake from HIBERNATE (R38, R248): the checkpoint's state, then what R282 says: sessions
close, the interval of the capture closes, the tariff applies, the GAP window opens. -/
def State.restoreMeters (s : State) (vbat : Bool) : State :=
  let c := s.saved
  let had := s.validSlot.isSome
  let gens := (List.range 52).map fun ch => s.get (F.WBG_Mc_CAL_GEN ch)
  let s := (((s.restoreRegs c).bootTables).setB F.BIL_TIME_STATUS_VALID vbat).restoreWbg c gens
  let s := (s.restoreBil c).setB F.BIL_TIME_STATUS_TICK_RESTARTED (!vbat)
  let s := s.modHay fun h => { h with ckpt := s.validSlot, ckptOld := if s.hay.ckpt = s.validSlot then h.ckptOld else none }
  let s := if vbat then s else s.raise 0x0604 3 0xFFFF []
  let open_ := (List.range 52).filter fun ch => (s.met ch).sess.isSome
  let s := forAll open_ (fun ch s => s.restoreEnd c ch) s
  let s := if vbat && had then s.restoreInterval c else s
  let s := s.openGap c vbat open_.length
  let s := if vbat && had then s.restoreTime c else s
  let s := if vbat then s.restoreTariff else s.keepInterval c
  let s := forAll (List.range 52) (fun ch s => s.showChan ch) s
  let s := (s.setB F.BIL_STATUS_SIGN_BACKLOG (decide (256 < s.bil.journal.length))).showTamper
  (s.modPwr fun w => { w with boot := none, gapCause := 2 }).refreshHeld

/-- The restore; where no slot is valid, BOOT_FAIL with METER_STATE, and nothing is restored (R248). -/
def State.restoreOrFail (s : State) (vbat : Bool) : State :=
  if s.slotsFail then (s.modPwr fun w => { w with boot := some vbat }).bootFail 2 else s.restoreMeters vbat

/-! ### A Device reset takes effect (R14, R15, R42, R551) -/

/-- Class D fields that Device reset leaves because they show what carries on: supply, hold and reset cause, the hold-up capacitance,
the window lockout and the staged firmware, GPIO pins and claims, the site load and ceilings, the schedule, phases and remaining time of
degraded stalls, and the live values of the held outputs. -/
def liveField (key : Nat) (f : FieldRow) : Bool :=
  let o := key / 32
  let w := o / 0x10000
  let keys := [F.PWR_STATE_SUPPLY.key, F.PWR_RESET_CAUSE_CAUSE.key, F.PWR_RESET_CAUSE_DETAIL.key, F.PWR_HOLD_STATE_HOLD.key, F.HAY_HOLDUP_C.key,
    F.HAY_HOLDUP_E_VHOLD.key, F.HAY_STATUS_CAL_VALID.key, F.TCK_STATUS_WINDOW_LOCKED.key, F.TCK_STATUS_FW_STAGED.key, F.GLB_GPIO_IN.key,
    F.GLB_GPIO_CLAIM.key, F.YMS_SITE_LOAD.key, F.WLK_STATUS_OVERBOOK.key, F.WLK_SCHED.key]
  keys.contains key ||
    (decide (w = 3) && decide (0x31000 ≤ o) && decide (o % 0x20 = 4)) ||
    (decide (w = 4) && decide (0x41000 ≤ o) && (decide (o % 0x40 = 0xC) || decide (o % 0x40 = 0x24))) ||
    (decide (8 ≤ w) && decide (w ≤ 10) && decide (f.acc = .ro) &&
      !((decide (w = 8) && decide (0x81000 ≤ o) && decide (o < 0x82000) && (decide (o % 0x40 = 0x24) || decide (o % 0x40 = 0x28))) ||
        (decide (w = 9) && decide (0x91000 ≤ o) && decide (o % 0x40 = 0x24)) ||
        (decide (w = 10) && decide (0xA1000 ≤ o) && decide (o % 0x20 = 0x18))))

/-- The registers that a Device reset clears: classes D and L; D, P is cleared at the request (R83) and again at the effect (R85). -/
def State.clearDevice (s : State) : State :=
  s.clearRegs fun key ret => decide (ret = .l) || (decide (ret = .d) && (match fieldRowAt key with
    | some f => !liveField key f
    | none => true))

/-- Contexts are invalidated and the Drover's work is gone; allow-list and merge stay (R337). Sessions close as ended by a Device
reset (R291). -/
def State.resetDrover (s : State) : State :=
  let s : State := (s.modDro fun d => { d with ctxs := s.dro.ctxs.map fun (c : Ctx) => { Ctx.init with gen := c.gen }, sends := [], looks := [] })
  let s := s.modWbg fun w => { w with met := w.met.map fun (m : Met) => { m with
    bind := none, sess := m.sess.map fun (x : Sess) => { x with ending := true, reset := true } } }
  { s with slk := s.slk.map fun (l : Slk) => { l with
    tun := l.tun.zipIdx.map fun x => if x.2 = 0 then x.1 else { Tun.init with txSeq := x.1.txSeq, rxSeq := x.1.rxSeq }
    heldTun := [] } }

/-- The engines keep running on their last parameters: a ramp goes on to its end with its contactor command and its voltage limit (R220),
staged setpoints and emergency ramps stand; requests, what waits for a descriptor and the modes clear (R183, R220). -/
def State.resetEngines (s : State) : State :=
  let limit := fun n => (s.vLimit n).toNat
  let s := s.modYms fun y => { y with
    req := List.replicate 48 Req.none, asks := []
    cabs := y.cabs.map fun (k : Cab) => { k with enable := [], retire := [], cancel := [] } }
  { s with wlk := s.wlk.zipIdx.map fun (x : Wlk × Nat) => { x.1 with
    closed := false, requested := false, failed := false, stopWhy := none, okSince := none, stops := [], tuneWait := []
    vHold := if x.1.ramp.isSome then some (limit x.2) else none } }

/-- What waits in the blocks for a descriptor that the reset ended has nobody to answer; Tack Room and Drover work stops, a
HOST_WRITE under way goes on. -/
def State.resetWork (s : State) : State :=
  let s := (s.modHay fun h => { h with work := s.hay.work.filter fun w => match w.kind with
    | .host _ _ _ _ => true
    | _ => false })
  let s := s.modTck fun t => { t with opening := none }
  s.modCan fun _ => { Can.init with table := s.can.table.map fun e => { e with alive := .init } }

/-- The lanes boot from the slot in force; OUT and the loss counts stay (R463). -/
def State.resetLanes (s : State) : State :=
  let s := s.bankNoStandby
  let s := s.modLan fun l => { Lan.init with out := l.out, losses := l.losses }
  (s.bootLane 0 s.tck.fwActive).bootLane 1 s.tck.fwActive

/-- The phase a Device reset starts at (R42, R578): FIRMWARE, unless HALT_SAFE or BOOT_FAIL stands. -/
def State.resetPhase (s : State) : State :=
  let go := fun (t : State) (ph cause : Nat) =>
    ((t.set F.GLB_BOOT_STATUS_PHASE ph).set F.GLB_BOOT_STATUS_HISTORY (2 ^ ph)).set F.GLB_BOOT_STATUS_FAIL_CAUSE cause
  if s.haltSafe then go s 14 4
  else if s.get F.TCK_LIFECYCLE_STATE = 5 then go s 15 3
  else go s 4 0

/-- DEVICE_RESET_EFFECT's work. From HIBERNATE the tables load and the meters restore as well (R552: it ends in RUN). -/
def State.deviceEffect (s : State) : State :=
  let asleep := decide (s.get F.PWR_STATE_STATE = 2)
  let meter := decide (s.get F.GLB_BOOT_STATUS_PHASE = 15) && decide (s.get F.GLB_BOOT_STATUS_FAIL_CAUSE = 2) && s.slotsFail
  let moving := s.stallNums.filter fun n => !s.modeRest n
  let s := (forAll [0, 1, 2, 3] (fun p s => s.paddockReset p) s).clearDevice.resetDrover.resetEngines.resetWork.resetLanes
  let s := forAll moving (fun n s => s.sessionRest n) s
  let s := s.modPwr fun w => { w with
    reset := false, entry := none, rounds := 0, ppsRun := 0, latched := none, wakeAfter := 0, wakeFrom := none }
  let s := (s.set F.PWR_STATE_STATE 0).set F.PWR_DOMAINS 0xFFFF
  let s := s.resetPhase
  let s := if meter then ((s.set F.GLB_BOOT_STATUS_PHASE 15).set F.GLB_BOOT_STATUS_HISTORY 0x8000).set F.GLB_BOOT_STATUS_FAIL_CAUSE 2 else s
  let s := s.newNonce.showStaged (bitOf (s.get F.TCK_STAGED) 15)
  (if asleep then s.firstMeasure.restoreOrFail true else s).actLoops.refreshHeld

/-- DEVICE_RESET_EFFECT (R15, R551): once no store runs. -/
def execDeviceResetEffect (s : State) : Host.Outcome State Fault Refusal :=
  .next (if s.pwr.reset = false ∨ s.pwr.cold ∨ s.hay.running.isEmpty = false then s else s.deviceEffect)

end Sys2Proof.Machine
end

