-- ==== Sys2Proof/Machine/Boot.lean ====
section
/-!
DEFINITION. The boot (R38-R42, R84, R269, R294, R303, R381, R397, R558): the release of POR, and RUN.
-/
namespace Sys2Proof.Machine

/-- Does a firmware slot pass: hash and signatures (`ok`), not marked bad (R468), not below counter 0 (R493)? -/
def State.slotUsable (s : State) (ok : Bool) (i : Nat) : Bool :=
  ok && !(s.fwSlot i).bad && decide (s.get (F.TCK_RBi 0) ≤ (s.fwSlot i).rb)

/-- The lanes start to boot from the slot in force. -/
def State.bootLanes (s : State) : State := (s.bootLane 0 s.tck.fwActive).bootLane 1 s.tck.fwActive

/-- The slot that a boot takes: the active one where it passes, else the other (R41). -/
def State.bootSlot (s : State) (slotA slotB : Bool) : Nat :=
  let act := s.tck.fwActive
  if s.slotUsable (if act = 0 then slotA else slotB) act then act else 1 - act

/-- The self-tests of the lanes that have not reported one: the self-test of a lane that is OUT does not count. -/
def State.lanesTested (s : State) (laneA laneB : Bool) : State :=
  let s := if s.laneState 0 = 3 then s.laneTested 0 laneA else s
  if s.laneState 1 = 3 then s.laneTested 1 laneB else s

/-- POWER_ON_RESET_RELEASE (R28, R38, R41, R248): the boot from HALTER_TEST to RESTORE. `haltCause` is what the Halter's self-test found
wrong, `vbat` whether the RTC ran while the device was off, `wall` its time, `ckpts` whether the newest checkpoint and the one in the
other slot pass their checks, `slots` whether firmware slots A and B verify, `lanes` whether lanes A and B pass their self-tests. The first tether snapshot comes
with PHASE TABLES. -/
def execPowerOnResetRelease (haltCause : Option Nat) (vbat : Bool) (ckpts slots lanes : Bool × Bool) (wall : Nat) (s : State) :
    Host.Outcome State Fault Refusal :=
  .next (
    if s.pwr.cold = false ∨ s.pwr.falling ∨ s.pwr.thermal then s
    else
      let s := s.modPwr fun w => { w with cold := false, boot := some vbat }
      let s := if s.get F.PWR_RESET_CAUSE_CAUSE = 0 then s.set F.PWR_RESET_CAUSE_CAUSE 1 else s
      let s := ((s.inc F.GLB_BOOT_COUNT).startClock vbat wall).phases [0]
      match haltCause with
      | some c => s.enterHaltSafe c
      | none =>
        let s := s.bootHalter.phases [1, 2]
        if s.get F.TCK_LIFECYCLE_STATE = 5 then s.bootFail 3
        else
          let s := (s.phases [3]).firstMeasure
          let s := (s.phases [4]).bootLanes
          if s.slotUsable slots.1 0 = false ∧ s.slotUsable slots.2 1 = false then s.bootFail 1
          else
            let slot := s.bootSlot slots.1 slots.2
            let s := (((s.setSlot 0 slot).setSlot 1 slot).lanesTested lanes.1 lanes.2).captureSnapshot.phases [5, 6]
            (s.checkSlots ckpts.1 ckpts.2).restoreOrFail vbat)

/-! ### RUN -/

/-- GENESIS (R294, R269, R285): at the first RUN in FIELD after provisioning. RECORD_SEQ, BLOCK_SEQ, the legal tick and BOOT_COUNT
start at zero, and so do READINGS and PROFILES. -/
def State.genesisAtRun (s : State) : State :=
  if s.get F.TCK_LIFECYCLE_STATE ≠ 3 ∨ s.bil.genesis = true then s
  else
    let now := s.get F.BIL_TICK
    let s := s.modLan fun l => { l with losses := l.losses.map fun t => (t.filter fun x => now < x + 86400).map fun _ => 0 }
    let s := ((s.set F.BIL_TICK 0).set F.BIL_REC_SEQ 0).set F.GLB_BOOT_COUNT 0
    let s := (s.setRegion 1 Region.init).setRegion 2 Region.init
    let s := s.modBil fun b => { b with
      genesis := true, genesisWall := s.wall, ivTick := 0, blockSeq := 0, blocks := [], unsealed := [], sealFrom := 0, waiting := [], journal := []
      lastRec := [] }
    s.capture (s.takeNow (Reading.plain 0x01 none (le 4 (s.get F.TCK_LIFECYCLE_COUNT) ++ sha3 (s.publicKey 1) ++
      le 4 (s.get F.BIL_TARIFF_EPOCH) ++ le 4 (s.get F.BIL_CALENDAR_EPOCH))))

/-- DEVICE_RUN (R84, R578): to every paddock whatever its rights, held until its event ring is enabled. -/
def State.deviceRun (s : State) : State :=
  let pay := le 2 (s.get F.GLB_BOOT_STATUS_HISTORY) ++ [s.get F.PWR_RESET_CAUSE_CAUSE, s.get F.PWR_RESET_CAUSE_DETAIL]
  let s := forAll [0, 1, 2, 3] (fun p s =>
    let s := ((s.setB (F.PDK_STATUS_DEVICE_RUN p) true).signal p 15).modPd p fun d => { d with runHeld := some pay }
    if s.flag (F.PDK_EQ_CFG_ENABLE p) then s.heldRun p else s) s
  s.logEvent ⟨0x0001, 1, 0xFFFF, pay⟩ false

/-- What starts at the RUN of a boot that lost the outputs (R381, R397): regulators with a BOOT target, HOST channels with BOOT_ON. -/
def State.bootOutputs (s : State) : State :=
  let s := forAll [0, 1, 2, 3] (fun n s =>
    match s.auxBoot? n with
    | some t => if s.flag (F.AUXn_CFG_ENABLE n) = true ∧ s.flag (F.AUXn_FAULT_LATCHED n) = false then
        s.auxOn n t (s.get (F.AUXn_RATE_SLEW n)) else s
    | none => s) s
  forAll (List.range 16) (fun c s =>
    if s.flag (F.LSW_Cn_CFG_SOURCE c) = false ∧ s.flag (F.LSW_Cn_CFG_BOOT_ON c) = true ∧ s.lswMay c = true then
      (s.setB (F.LSW_Cn_STATE_CMD_ON c) true).lswOn c true
    else s) s

/-- THERMAL_SHUTDOWN (0x0F06) reports the shutdown record once (R558). -/
def State.reportShutdown (s : State) : State :=
  match s.pwr.shutdown with
  | some pay => (s.modPwr fun w => { w with shutdown := none }).raise 0x0F06 4 0xFFFF (pay.take 12)
  | none => s

/-- The lanes at RUN, each from `slot`; a SYNCING lane that has acknowledged a snapshot of one of the last two boundaries is STANDBY. -/
def State.lanesRun (s : State) (slot : Nat) (acked : Bool) : State :=
  let s := ((s.setSlot 0 slot).setSlot 1 slot).modLan fun l => { l with
    beat := s.chrono, noStandby := decide (86400 ≤ s.get F.GLB_NOSTBY_TIME) }
  let b := s.standbyLane
  let s := if acked = true ∧ s.laneState b = 2 then
      ((s.laneIs b 1).set F.GLB_LANE_STATUS_SNAP_AGE 0).modLan fun l => { l with snapWait := false }
    else s
  ((s.showVer 0).showVer 1).refreshLane

/-- BOOT_RUN_REACHED (R38, R41, R42, R84): the firmware slots that verify, the self-tests of the lanes that have not reported theirs, and
whether the standby has acknowledged a snapshot of one of the last two boundaries. A SCRAPPED device stops at BOOT_FAIL (R475). -/
def execBootRunReached (slotA slotB laneA laneB acked : Bool) (s : State) : Host.Outcome State Fault Refusal :=
  .next (
    let ph := s.get F.GLB_BOOT_STATUS_PHASE
    let act := s.tck.fwActive
    let ok := fun (i : Nat) => s.slotUsable (if i = 0 then slotA else slotB) i
    let pass := fun (k : Nat) => (if s.laneState k = 3 then (if k = 0 then laneA else laneB) else s.lan.selfOk.getD k false) && !s.isOut k
    if s.pwr.cold ∨ s.pwr.resetLow ∨ s.pwr.reset ∨ s.domainOn 6 = false ∨ ph = 14 ∨ ph = 15 ∨ s.inRun = true then s
    else if s.get F.TCK_LIFECYCLE_STATE = 5 then s.bootFail 3
    else if ok act = false ∧ ok (1 - act) = false then s.bootFail 1
    else if pass 0 = false ∧ pass 1 = false then s
    else
      let slot := s.bootSlot slotA slotB
      let s := match s.pwr.boot with
        | some v => s.restoreOrFail v
        | none => s
      if s.get F.GLB_BOOT_STATUS_PHASE = 15 then s else
      let cold := bitOf (s.get F.GLB_BOOT_STATUS_HISTORY) 2
      let s := (s.phases [4, 5, 6, 8]).modTck fun t => { t with fwActive := slot }
      let s := (s.set F.GLB_BOOT_STATUS_ACTIVE_SLOT slot).setB F.GLB_BOOT_STATUS_SLOT_FALLBACK (decide (slot ≠ act))
      let s := forAll [0, 1, 2, 3] (fun q s => s.showRights q) s
      let s := ((s.set F.PWR_STATE_STATE 0).modBil fun b => { b with finalSeen := false }).deviceRun
      let s := (s.lanesTested laneA laneB).lanesRun slot acked
      let s := if slot ≠ act then s.raise 0x0008 2 0xFFFF [slot] else s
      let s := match s.pwr.wakeFrom with
        | some w => (s.modPwr fun x => { x with wakeFrom := none }).raise 0x0F03 1 0xFFFF [0, 2, w.1, b2n w.2]
        | none => s
      let s := s.reportShutdown.genesisAtRun.drainTamper
      let s := if cold then s.bootOutputs else s
      s.seeFinal.refreshHeld.actLoops)

end Sys2Proof.Machine
end

