-- ==== Sys2Proof/Machine/Power.lean ====
section
/-!
DEFINITION. Supplies, power states, wake, the hold window, resets and thermal shutdown (R533-R537, R541-R554, R558, R559).
-/
namespace Sys2Proof.Machine

/-! ### Supplies (R533-R537) -/

/-- SUPPLY_STATE (0x0F01): `vaux` in 10 mV. -/
def State.supplyEvent (s : State) (new old vaux : Nat) : State :=
  s.raise 0x0F01 (if new = 0 then 1 else 2) 0xFFFF ([new, old] ++ le 2 vaux)

/-- VAUX as measured, with the lowest of the dip. -/
def State.showVaux (s : State) (vaux lowest : Nat) : State :=
  (s.set F.PWR_VAUX_MEAS_VAUX (min vaux 65535)).set F.PWR_VAUX_MEAS_LOWEST (min lowest 65535)

/-- Billing and the Drover show what holds sessions, where they are powered. -/
def State.showSessionsHeld (s : State) : State := if s.domainOn 8 then s.refreshHeld else s

/-- The thresholds in force, 0.1 V (R534): those of PWR_SUPPLY_CFG, but the defaults from a Cold reset to the end of STORES. -/
def State.vauxLimit (s : State) (f : Fld) (default : Nat) : Nat :=
  if s.pwr.cold ∨ (s.get F.PWR_STATE_STATE ≠ 2 ∧ bitOf (s.get F.GLB_BOOT_STATUS_HISTORY) 4 = false ∧ bitOf (s.get F.GLB_BOOT_STATUS_HISTORY) 0 = true)
  then default else s.get f

def State.warnLimit (s : State) : Nat := s.vauxLimit F.PWR_SUPPLY_CFG_WARN 180
def State.commitLimit (s : State) : Nat := s.vauxLimit F.PWR_SUPPLY_CFG_COMMIT 160

/-- Can VAUX of `vaux` 10 mV have fallen below, or risen above, a level of the monitor (in 10 mV), to its 1 % (R534)? -/
def mayBelow (vaux level : Nat) : Bool := decide (100 * vaux < 101 * level)
def mayAbove (vaux level : Nat) : Bool := decide (99 * level < 100 * vaux)

/-- WARN (R535): a forced store, sessions and NAND work held; a running capacitance measurement ends (R517). -/
def State.supplyWarn (s : State) (vaux : Nat) : State :=
  let s := (s.set F.PWR_STATE_SUPPLY 1).showVaux vaux vaux
  let s := s.modPwr fun w => { w with dipAt := s.chrono, dipDeep := 1 }
  let s : State := (s.modHay fun h => { h with measuring := none })
  let s := if s.domainOn 8 then s.modBil fun b => { b with ckForced := some s.chrono } else s
  (s.supplyEvent 1 0 vaux).showSessionsHeld

/-- VAUX_BELOW_WARN (R535). -/
def execVauxBelowWarn (vaux : Nat) (s : State) : Host.Outcome State Fault Refusal :=
  .next (if s.pwr.cold ∨ s.get F.PWR_STATE_SUPPLY ≠ 0 ∨ mayBelow vaux (10 * s.warnLimit) = false then s else s.supplyWarn vaux)

/-- The zero grant of COMMIT (R536): applied setpoints and targets are zero from the next link-cycle start, and what was staged is dropped. -/
def State.grantZero (s : State) : State :=
  (s.modPwr fun w => { w with zeroGrant := true }).modYms fun y => { y with staged := List.replicate 48 none }

/-- VAUX_BELOW_COMMIT (R535, R536); a dip that skips WARN takes both steps. -/
def execVauxBelowCommit (vaux : Nat) (s : State) : Host.Outcome State Fault Refusal :=
  .next (
    if s.pwr.cold ∨ 1 < s.get F.PWR_STATE_SUPPLY ∨ mayBelow vaux (10 * s.commitLimit) = false then s
    else
      let s := if s.get F.PWR_STATE_SUPPLY = 0 then s.supplyWarn vaux else s
      let s := (s.set F.PWR_STATE_SUPPLY 2).showVaux vaux (min vaux (s.get F.PWR_VAUX_MEAS_LOWEST))
      let s := s.modPwr fun w => { w with dipDeep := 2, commitAt := s.chrono }
      (s.grantZero.supplyEvent 2 1 vaux).showSessionsHeld)

/-- VAUX_RECOVERY (R535, R537): VAUX above WARN + 0.5 V; `lowest` is the dip's lowest. The zero grant ends at the next allocation
boundary. -/
def execVauxRecovery (vaux lowest : Nat) (s : State) : Host.Outcome State Fault Refusal :=
  .next (
    let old := s.get F.PWR_STATE_SUPPLY
    if s.pwr.cold ∨ old = 0 ∨ mayAbove vaux (10 * s.warnLimit + 50) = false then s
    else
      let low := min lowest (s.get F.PWR_VAUX_MEAS_LOWEST)
      let ms := min ((s.chrono - s.pwr.dipAt) / 250000) (2 ^ 32 - 1)
      let s := (s.set F.PWR_STATE_SUPPLY 0).showVaux vaux low
      let s := (s.supplyEvent 0 old vaux).raise 0x0F02 2 0xFFFF (le 2 low ++ [s.pwr.dipDeep, 0] ++ le 4 ms)
      let s := s.modPwr fun w => { w with dipDeep := 0, gapCause := if s.get F.PWR_STATE_STATE = 2 then w.gapCause else 2 }
      let s := if s.domainOn 5 && !s.flag F.HAY_STATUS_CAL_VALID && s.hay.measuring.isNone then s.firstMeasure else s
      s.showSessionsHeld)

/-- VAUX_BELOW_RESET (R535, R521). -/
def execVauxBelowReset (s : State) : Host.Outcome State Fault Refusal := .next (s.goCold 2 0)

/-- RAIL_UNDERVOLTAGE (R533): rail 0 VCORE, 1 VIO33, 2 VIO18. -/
def execRailUndervoltage (rail : Nat) (s : State) : Host.Outcome State Fault Refusal :=
  .next (if 2 < rail then s else s.goCold 3 rail)

/-! ### Power states: entry (R541-R545) -/

/-- The refuser that holds and the stall or paddock it names (R542); `stores` whether a running store counts. -/
def State.refuser (s : State) (e : PowerEntry) (stores : Bool) : Option (Nat × Nat) :=
  let stall := s.stallNums.find? fun n => !s.modeRest n || s.contactorClosed n || (s.stallCtx n).isSome
  let pdk := [0, 1, 2, 3].find? fun q => (s.pd q).table.any fun d => !(decide (q = e.p) && decide (d.num = e.num))
  let halter := s.haltSafe || s.stallNums.any fun n => s.flag (F.HLT_Sn_STATE_PERMIT n) || decide ((s.halt n).stop ≠ .none)
  match stall with
  | some n => some (1, n)
  | none =>
    if stores && !s.hay.running.isEmpty then some (2, 0)
    else if s.lan.handover.isSome || s.lan.fw.isSome then some (3, 0)
    else
      match pdk with
      | some q => some (4, q)
      | none => if halter then some (5, 0) else if s.tck.switch.isSome then some (6, 0) else none

/-- The counter of a refuser. -/
def refuseCount (code : Nat) : Fld :=
  match code with
  | 1 => F.PWR_REFUSE_CNT0_STALL_ACTIVE
  | 2 => F.PWR_REFUSE_CNT0_HAYLOFT_STORE
  | 3 => F.PWR_REFUSE_CNT1_LANE_HANDOVER
  | 4 => F.PWR_REFUSE_CNT1_PADDOCK_BUSY
  | 5 => F.PWR_REFUSE_CNT2_HALTER_NOT_SAFE
  | _ => F.PWR_REFUSE_CNT2_TABLE_SWITCH

/-- The state shown once an entry is over: QUIET where its domains are still in retention, else RUN. -/
def State.restState (s : State) : Nat := if s.domainOn 9 then 0 else 1

/-- An entry is refused at its check or aborted after it (R542, R543). Links that a HIBERNATE entry turned off train again. -/
def State.entryRefused (s : State) (e : PowerEntry) (r : Nat × Nat) : State :=
  let s := ((s.incSat (refuseCount r.1)).set F.PWR_REFUSE_LAST_CODE r.1).set F.PWR_REFUSE_LAST_WHO r.2
  let s := (s.modPwr fun w => { w with entry := none, final := false, latched := none }).set F.PWR_STATE_STATE s.restState
  let s := if e.begun then
      forAll (s.stallNums.filter fun n => s.flag (F.SLK_Sn_CTRL_ENABLE n)) (fun n s => s.toTraining n) s
    else s
  let s := s.raise 0x0F04 1 0xFFFF [e.target, r.1, r.2, b2n e.checked]
  (s.finish e.p e.num (if e.checked then 0x41 else 0x40) (r.1 * 256 + r.2)).showSessionsHeld

/-- POWER_STATE_CHANGED (0x0F03). -/
def State.stateEvent (s : State) (new old src : Nat) (replayed : Bool) : State :=
  s.raise 0x0F03 1 0xFFFF [new, old, src, b2n replayed]

/-- POWER_ENTRY_CHECK (R543): refusers 2 and 4 have cleared, or 20 ms have passed. -/
def execPowerEntryCheck (s : State) : Host.Outcome State Fault Refusal :=
  .next (
    match s.pwr.entry with
    | none => s
    | some e =>
      if e.checked then s
      else
        match s.refuser e true with
        | some r => s.entryRefused e r
        | none => (s.modPwr fun w => { w with entry := some { e with checked := true } }).set F.PWR_STATE_STATE (e.target + 2))

/-- QUIET_ENTRY (R544): the first allocation boundary after the check. -/
def execQuietEntry (s : State) : Host.Outcome State Fault Refusal :=
  .next (
    match s.pwr.entry with
    | none => s
    | some e =>
      if e.checked = false ∨ e.target ≠ 1 then s
      else
        match s.refuser e true with
        | some r => s.entryRefused e r
        | none =>
          let s := s.modPwr fun w => { w with entry := none, wakeAfter := e.wake }
          let s := s.modYms fun y => { y with frozen := y.frozen.map fun f => { f with solving := false } }
          let s := (s.set F.PWR_DOMAINS 0xE9FF).set F.PWR_STATE_STATE 1
          ((s.stateEvent 1 0 0 false).finish e.p e.num 0x00 0).showSessionsHeld)

/-- The first steps of a HIBERNATE entry (R545): links OFF, every output released to off. -/
def State.hibernateBegin (s : State) (e : PowerEntry) : State :=
  let s := forAll (s.stallNums.filter fun n => s.flag (F.SLK_Sn_CTRL_ENABLE n)) (fun n s => (s.toTraining n).setLink n Link.off) s
  let s := (s.showHold false).modPwr fun w => { w with entry := some { e with begun := true } }
  s.startRelease true []

/-- HIBERNATE is reached (R545): POWER_STATE completes and the domains switch off. -/
def State.enterHibernate (s : State) (e : PowerEntry) : State :=
  let old := s.restState
  let s := (s.finish e.p e.num 0x00 0).stateEvent 2 old 0 false
  (s.modPwr fun w => { w with wakeAfter := e.wake }).hibernateOff

/-- A store has ended: a Cold reset that waits for it takes effect (R521), HIBERNATE is reached once the final store is durable. -/
def State.afterStore (s : State) : State :=
  if s.hay.running.isEmpty = false then s
  else if s.pwr.falling then s.coldReset
  else if s.pwr.final then
    match s.pwr.entry with
    | none => s.modPwr fun w => { w with final := false }
    | some e =>
      match s.refuser e false with
      | some r => s.entryRefused e r
      | none => s.enterHibernate e
  else s

/-- HIBERNATE_ENTRY (R545): the next step of the entry. Once every output is off, the final store; refused, the entry is aborted. -/
def execHibernateEntry (s : State) : Host.Outcome State Fault Refusal :=
  .next (
    match s.pwr.entry with
    | none => s
    | some e =>
      if e.checked = false ∨ e.target ≠ 2 ∨ s.pwr.final then s
      else
        match s.refuser e false with
        | some r => s.entryRefused e r
        | none =>
          if e.begun = false then s.hibernateBegin e
          else if s.rel.running ∨ s.ckptMay (s.chrono / 250000) = false then s
          else
            let s := s.finalStore (s.chrono / 250000 * 250000)
            if s.ckptRuns then s.modPwr fun w => { w with final := true }
            else if s.storedAt (s.chrono / 250000 * 250000) then (s.modPwr fun w => { w with final := true }).afterStore
            else s.entryRefused e (2, 0))

/-! ### Stores end (R245, R494, R524, R525) -/

/-- STORE_COMPLETE (R245): the store with this number is durable. -/
def execStoreComplete (id : Nat) (s : State) : Host.Outcome State Fault Refusal :=
  .next (if s.hay.running.any fun x => decide (x.id = id) then (s.storeDurable id).afterStore else s)

/-- NAND_PROGRAM_FAIL (R525): the program or erase of the store with this number fails on a die's block. -/
def execNandProgramFail (id die block : Nat) (s : State) : Host.Outcome State Fault Refusal :=
  .next (if s.hay.running.any fun x => decide (x.id = id) then (s.programFail id (die % 256) (block % 2 ^ 32)).afterStore else s)

/-- NAND_SCRUB (R523, R524): the controller reads page `page` of a region with `bits` corrected, or uncorrectable. -/
def execNandScrub (region page bits : Nat) (uncorr : Bool) (s : State) : Host.Outcome State Fault Refusal :=
  .next (if s.listReads then s else s.scrub region page bits uncorr)

/-- HOLDUP_WAIT_TIMEOUT (R494, R502, R529): work has been held for 1 s. -/
def execHoldupWaitTimeout (id : Nat) (s : State) : Host.Outcome State Fault Refusal :=
  .next (
    match s.hay.work.find? fun w => w.id = id with
    | none => s
    | some w => if w.held.isNone ∨ s.domainOn 5 = false ∨ (w.kind.fromFirst = false ∧ w.busy = true) then s else s.workFailed id 0x20)

/-! ### Exit and wake (R546-R549) -/

/-- Is a wake source enabled (R546)? `quiet` for QUIET, else HIBERNATE. -/
def State.wakeEnabled (s : State) (src : Nat) (quiet : Bool) : Bool :=
  match src with
  | 0 => true
  | 1 => s.flag F.PWR_WAKE_CFG_TIMER
  | 2 => quiet && s.flag F.PWR_WAKE_CFG_LINK
  | 3 => s.flag F.PWR_WAKE_CFG_GPIO && decide (s.get F.PWR_WAKE_GPIO ≠ 0)
  | 4 => s.flag F.PWR_WAKE_CFG_TAMPER
  | _ => false

def State.wakeCause (s : State) (src : Nat) (replayed : Bool) : State :=
  ((s.set F.PWR_WAKE_CAUSE_SOURCE src).setB F.PWR_WAKE_CAUSE_REPLAYED replayed).modPwr fun w => { w with wakeAfter := 0, latched := none }

/-- QUIET exits (R547): ALLOC, DRO and CVU resume from their retained state. -/
def State.quietExit (s : State) (src : Nat) (replayed : Bool) : State :=
  let s := (((s.set F.PWR_DOMAINS 0xFFFF).set F.PWR_STATE_STATE 0).wakeCause src replayed)
  (s.stateEvent 0 1 src replayed).showSessionsHeld

/-- HIBERNATE exits through the boot flow from KEYS (R548), to RESTORE; BOOT_RUN_REACHED ends it. -/
def State.hibernateExit (s : State) (src : Nat) (replayed : Bool) : State :=
  let s := ((s.set F.PWR_DOMAINS 0xFFFF).set F.PWR_STATE_STATE 5).wakeCause src replayed
  let s := (s.set F.PWR_RESET_CAUSE_CAUSE 0x20).set F.PWR_RESET_CAUSE_DETAIL src
  let s := s.modPwr fun w => { w with boot := some true, wakeFrom := some (src, replayed) }
  let s := (s.phases [2, 3]).firstMeasure
  let s := ((((s.phases [4]).bootLanes).phases [5, 6]).restoreOrFail true).actLoops
  if s.haltSafe then (s.phases [14]).set F.GLB_BOOT_STATUS_FAIL_CAUSE 4 else s

/-- A wake source acts: it is latched during an entry (R549), else it ends QUIET or HIBERNATE. -/
def State.wake (s : State) (src : Nat) (replayed : Bool) : State :=
  match s.pwr.entry with
  | some e => if s.wakeEnabled src (decide (e.target = 1)) then s.modPwr fun w => { w with latched := some (w.latched.getD src) } else s
  | none =>
    match s.get F.PWR_STATE_STATE with
    | 1 => if s.wakeEnabled src true then s.quietExit src replayed else s
    | 2 => if s.wakeEnabled src false then s.hibernateExit src replayed else s
    | _ => s

/-- Is nothing in the way of a wake: the device is out of Cold reset and no Device reset is on its way? -/
def State.mayWake (s : State) : Bool := !s.pwr.cold && !s.pwr.reset

/-- WAKE_EVENT (R546): source 2 LINK, 3 GPIO, 4 TAMPER; also 0 and 1 as the host's write and the timer act. -/
def execWakeEvent (source : Nat) (s : State) : Host.Outcome State Fault Refusal :=
  .next (if s.mayWake then s.wake source false else s)

/-- WAKE_TIMER (R546): WAKE_AFTER_S has elapsed on the RTC. -/
def execWakeTimer (s : State) : Host.Outcome State Fault Refusal :=
  .next (
    let set := decide (s.pwr.wakeAfter ≠ 0) || (match s.pwr.entry with
      | some e => decide (e.wake ≠ 0)
      | none => false)
    if s.mayWake && set then s.wake 1 false else s)

/-- WAKE_REPLAY (R549): the event latched during the entry is replayed once the state is reached. -/
def execWakeReplay (s : State) : Host.Outcome State Fault Refusal :=
  .next (
    match s.pwr.latched with
    | some src => if s.mayWake && s.pwr.entry.isNone then (s.modPwr fun w => { w with latched := none }).wake src true else s
    | none => s)

/-- A write of PWR_WAKE: NOW wakes (R546); SERVICE (R51). -/
def State.wakeWrite (s : State) (p val : Nat) : State :=
  if 3 < p ∨ s.domainOn 4 = false then s
  else if s.hasRight p 2 = false then s.deny p 0xF0034
  else if bitOf val 0 && s.mayWake then s.wake 0 false else s

/-- PWR_WAKE_NOW (R546): a paddock with SERVICE writes PWR_WAKE.NOW. -/
def execPwrWakeNow (p val : Nat) (s : State) : Host.Outcome State Fault Refusal := .next (s.wakeWrite p val)

/-- POWER_STATE (R541, R543, R546). -/
def execPowerState (p tag : Nat) (s : State) : Host.Outcome State Fault Refusal :=
  .next (s.take p tag 0x0F01 fun d s =>
    let target := d.arg 24 1
    if s.pwr.entry.isSome then s.finish p d.num 0x05 0
    else if target = s.get F.PWR_STATE_STATE then s.finish p d.num 0x00 0
    else if target = 0 then (s.wake 0 false).finish p d.num 0x00 0
    else if s.get F.PWR_STATE_SUPPLY ≠ 0 then s.finish p d.num 0x42 0
    else
      (s.modPwr fun w => { w with
        latched := none
        entry := some { p := p, num := d.num, target := target, wake := d.arg 28 4, checked := false, begun := false } }).showSessionsHeld)

/-! ### Held outputs (R551-R553) -/

/-- Class H returns to its defaults in GLB, YMS and WLK (R183, R221, R588): GPIOs are inputs, policies and limits as the tables have
them, cabinets not LOST are OFFLINE, tuning overrides and integrators gone. What the output blocks hold is the release's work. -/
def State.holdClear (s : State) : State :=
  let s := s.clearRegs fun key ret =>
    let w := key / 32 / 0x10000
    decide (ret = .h) && (decide (w = 0) || decide (w = 3) || decide (w = 4)) && !(decide (key = F.YMS_CAB_STATE0.key) || decide (key = F.YMS_CAB_STATE1.key))
  let s := s.modYms fun y => { y with
    policy := List.replicate 48 Policy.init, lims := List.replicate 96 NodeLim.init
    asks := y.asks.map fun a => { a with
      change := .none, newLim := NodeLim.init, oldPolicy := Policy.init, oldLim := NodeLim.init } }
  let s := forAll s.stallNums (fun n s => s.refreshPolicy n) s
  let s := forAll (List.range 16) (fun c s =>
    let v := s.cabState c
    if v = 0 ∨ v = 1 ∨ v = 5 then s
    else
      let k := s.cab c
      let s := (s.setCab c 1 5).modCab c fun x => { x with enable := [], retire := [], cancel := [], ready := false }
      ((s.finishAll k.enable 0x43 0).finishAll k.retire 0x00 0).finishAll k.cancel 0x43 0) s
  let s : State := { s with wlk := s.wlk.map fun (w : Wlk) => { w with tune := List.replicate 7 none, xv := 0, xi := 0 } }
  s.claimGpios

/-- The end of the hold without adoption (R553): HOLD_STATE and the releases. -/
def State.holdRelease (s : State) (waits : List (Nat × Nat)) : State :=
  (((s.showHold false).holdEvent 2).holdClear).startRelease false waits

/-- HOLD_WINDOW_EXPIRY (R552). -/
def execHoldWindowExpiry (s : State) : Host.Outcome State Fault Refusal :=
  .next (if s.flag F.PWR_HOLD_STATE_HOLD = true ∧ s.pwr.cold = false then s.holdRelease [] else s)

/-- OUTPUT_ADOPT (R553). -/
def execOutputAdopt (p tag : Nat) (s : State) : Host.Outcome State Fault Refusal :=
  .next (s.take p tag 0x0F03 fun d s =>
    if s.flag F.PWR_HOLD_STATE_HOLD = false then s.finish p d.num 0x00 0
    else if d.arg 24 1 = 0 then ((s.showHold false).holdEvent 1).finish p d.num 0x00 1
    else s.holdRelease [(p, d.num)])

/-! ### Resets (R78, R551) -/

/-- DEVICE_RESET (R78): it completes, and the reset is requested. -/
def execDeviceReset (p tag : Nat) (s : State) : Host.Outcome State Fault Refusal :=
  .next (s.take p tag 0x0F02 fun d s => (s.finish p d.num 0x00 0).requestReset 0x11 p)

/-- RESET_N_ASSERT (R551): low for 1 µs. -/
def execResetNAssert (s : State) : Host.Outcome State Fault Refusal :=
  .next ((s.modPwr fun w => { w with resetLow := true }).requestReset 0x10 0)

/-- RESET_N_RELEASE (R551): the lanes leave the FIRMWARE phase. -/
def execResetNRelease (s : State) : Host.Outcome State Fault Refusal :=
  .next (s.modPwr fun w => { w with resetLow := false })

/-! ### Thermal shutdown (R558) -/

/-- The store that a shutdown takes: one that already runs becomes the final one; else the last boundary whose milliseconds are all
committed is captured (R31). Answers whether it is refused. -/
def State.thermalStore (s : State) : Bool × State :=
  if s.metersOn = false ∨ s.domainOn 5 = false then (!s.hay.ckpt.isSome || decide (s.get F.PWR_STATE_STATE ≠ 2), s)
  else if s.ckptRuns then (false, s.runsFinal)
  else if s.bil.reopen.isSome then (true, s)
  else
    let at_ := min (s.chrono / 250000) s.wbg.nextMs * 250000
    let s := s.finalStore at_
    (!s.ckptRuns && !s.storedAt at_, s)

/-- THERMAL_SHUTDOWN (R558): `temp` in 0.1 °C, `vaux` in 10 mV. Final store and shutdown record, then a Cold reset. The record is
the event's payload, the legal tick and VAUX. -/
def execThermalShutdown (sensor : Nat) (temp : Int) (vaux : Nat) (s : State) : Host.Outcome State Fault Refusal :=
  .next (
    if 7 < sensor then s
    else if s.pwr.cold then s.modPwr fun w => { w with thermal := true }
    else
      let r := s.thermalStore
      let pay := le 8 s.wall ++ [sensor] ++ le 2 (temp % 65536).toNat ++ [b2n r.1]
      let s := (r.2.tryStore 2 1 (.shutdown (pay ++ le 6 (s.get F.BIL_TICK) ++ le 2 vaux))).2
      let s := (s.logEvent ⟨0x0F06, 4, 0xFFFF, pay⟩ true).incSat F.PWR_SHDN_COUNT
      (s.modPwr fun w => { w with thermal := true }).goCold 4 sensor)

/-- THERMAL_SHUTDOWN_EXIT (R558): every sensor reads below 120 °C. -/
def execThermalShutdownExit (s : State) : Host.Outcome State Fault Refusal :=
  .next (s.modPwr fun w => { w with thermal := false })

/-! ### Telemetry (R559) -/

/-- TELEMETRY_READ (R559): the newest COUNT records; RESULT is their number, or the length needed where the buffer is short (R70). -/
def execTelemetryRead (p tag : Nat) (s : State) : Host.Outcome State Fault Refusal :=
  .next (s.take p tag 0x0F04 fun d s =>
    let recs := s.pwr.telemetry.take (d.arg 24 1)
    let bytes := recs.flatten
    let wr := !bytes.isEmpty && decide (d.length ≠ 0)
    let s := if wr then s.bufWrite p d bytes else s
    if bytes.length ≤ d.length then s.finish p d.num 0x00 recs.length wr else s.finish p d.num 0x01 bytes.length wr)

end Sys2Proof.Machine
end

