-- ==== Sys2Proof/Machine/Housekeeping.lean ====
section
/-!
DEFINITION. The housekeeping round (R556, R557, R559) with what is due once a round (R34, R35, R234, R247, R296, R393, R452), and
the 1PPS discipline (R586).
-/
namespace Sys2Proof.Machine

/-! ### Die sensors -/

/-- Put a temperature into a rising list. -/
def putRising (x : Int) : List Int → List Int
  | [] => [x]
  | y :: t => if x ≤ y then x :: y :: t else y :: putRising x t

/-- The median of the other seven readings. -/
def medianOthers (die : List Int) (i : Nat) : Int :=
  (((List.range 8).filter fun k => k ≠ i).foldl (fun l k => putRising (die.getD k 0) l) []).getD 3 0

/-- Is a die sensor excluded (R556): outside -55 to +160 °C, or more than 20 °C from the median of the others? -/
def dieExcluded (die : List Int) (i : Nat) : Bool :=
  let t := die.getD i 0
  decide (t < -550) || decide (1600 < t) || decide (200 < (t - medianOthers die i).natAbs)

/-- The hottest sensor that is not excluded: its number and temperature. -/
def hottest (die : List Int) : Option (Nat × Int) :=
  (List.range 8).foldl (fun b i =>
    if dieExcluded die i then b
    else match b with
      | some x => if x.2 < die.getD i 0 then some (i, die.getD i 0) else b
      | none => some (i, die.getD i 0)) none

/-- The die sensors' registers; DIE_SENSOR_FAULT (0x0F07) when a sensor becomes excluded. -/
def State.readDie (s : State) (die : List Int) : State :=
  let s := forAll (List.range 8) (fun i s =>
    let bad := dieExcluded die i
    let was := bitOf s.pwr.excl i
    let s := s.modPwr fun w => { w with excl := setBitOf w.excl i bad }
    let s := if bad then s.set (F.PWR_TJi i) 0x8000 else s.setS (F.PWR_TJi i) (die.getD i 0)
    if bad && !was then s.raise 0x0F07 2 0xFFFF [i] else s) s
  match hottest die with
  | some x =>
    let s := (s.setS F.PWR_DIE_TEMP_HOTTEST x.2).set F.PWR_DIE_TEMP_SENSOR x.1
    if s.getS F.PWR_DIE_MAX < x.2 then s.setS F.PWR_DIE_MAX x.2 else s
  | none => s

/-- Every rail as sampled; VAUX and VHOLD in 10 mV, the others in mV. -/
def State.readRails (s : State) (hk : HkIn) : State :=
  let s := (s.set F.PWR_VAUX_MEAS_VAUX (min hk.vaux 65535)).set F.PWR_VCORE_MEAS (min hk.vcore 65535)
  ((s.set F.PWR_VIO_MEAS_VIO33 (min hk.vio33 65535)).set F.PWR_VIO_MEAS_VIO18 (min hk.vio18 65535)).set F.PWR_VBAT_MEAS (min hk.vbat 65535)

/-- The levels of the input GPIOs (R587), and CLIMIT and BST_LOW of the regulators that switch (R387). -/
def State.readPins (s : State) (hk : HkIn) : State :=
  let dir := s.get F.GLB_GPIO_DIR
  let s := s.set F.GLB_GPIO_IN ((s.get F.GLB_GPIO_OUT &&& dir) ||| (hk.gpio &&& (dir ^^^ 0xFFFFFFFF)))
  if s.domainOn 14 then
    forAll (List.range 4) (fun n s => (s.setB (F.AUXn_STATE_CLIMIT n) (s.auxSwitching n && bitOf hk.climit n)).setB
      (F.AUXn_STATE_BST_LOW n) (s.auxSwitching n && bitOf hk.bstLow n)) s
  else s

/-! ### Throttle thresholds (R557) -/

/-- The latest valid value of an index on a stall, where one has come. -/
def State.hkLast (s : State) (n i : Nat) : Option Int := ((s.link n).hk.find? fun e => e.1 = i).map fun e => hkDecode i e.2.value

/-- The indices that can raise a stall's condition. -/
def throttleIndices : List Nat := [0, 1, 2, 3, 5]

/-- The indices of the condition that an index can raise: cable, connector, coolant (R557). -/
def throttleGroup (i : Nat) : List Nat := if i < 2 then [0, 1] else if i < 4 then [2, 3] else [i]

/-- The threshold of an index, 0.1 °C. -/
def State.throttleLimit (s : State) (i : Nat) : Int :=
  if i < 2 then s.get F.PWR_THR_CABLE_CABLE_THR else if i < 4 then s.get F.PWR_THR_CABLE_CONN_THR else s.get F.PWR_THR_COOLANT_COOL_THR

/-- Is the value of an index at its threshold less `hyst` or above? -/
def State.throttleOver (s : State) (n hyst i : Nat) : Bool :=
  match s.hkLast n i with
  | some v => decide (s.throttleLimit i - (hyst : Int) ≤ v)
  | none => false

/-- One stall's thresholds: a new crossing raises a condition, if the stall is not armed or the ceiling is lower; a condition is
released once every value that could raise it is below its release threshold. The Trough's flow condition (index 6) is not among these. -/
def State.throttleStall (s : State) (n : Nat) : State :=
  let t := s.yms.throttle.getD n Throttle.init
  let keep := t.overs.filter fun i => decide (i = 6) || (throttleGroup i).any (s.throttleOver n (s.get F.PWR_THR_COOLANT_STALL_HYST))
  let new := throttleIndices.filter fun i => s.throttleOver n 0 i && !t.overs.contains i
  let s := s.modYms fun y => { y with throttle := modAt y.throttle n fun x => { x with overs := keep ++ new } }
  let armed := s.flag (F.YMS_Sn_THROTTLE_ARMED n)
  match new with
  | i :: _ =>
    let ceil := s.get F.PWR_THR_COOLANT_STALL_PCT * (s.getS (F.YMS_Sn_GRANT_APPLIED n)).natAbs / 100
    if armed = false ∨ ceil < s.get (F.YMS_Sn_THROTTLE_CEIL n) then s.throttleArm n ceil i else s
  | [] => if armed && !t.overs.isEmpty && keep.isEmpty then s.throttleRelease n else s

/-- The die's threshold. -/
def State.throttleDie (s : State) (die : List Int) : State :=
  match hottest die with
  | none => s
  | some x =>
    let tj : Int := 10 * s.get F.PWR_THR_DIE_TJ_THROTTLE
    let armed := s.flag F.YMS_THROTTLE_DEV_ARMED
    if armed = false ∧ tj ≤ x.2 then
      s.throttleDevArm (s.get F.PWR_THR_DIE_DEV_PCT * (s.getS F.YMS_SITE_LOAD).toNat / 100) 0xFF
    else if armed = true ∧ x.2 < tj - 10 * (s.get F.PWR_THR_DIE_DIE_HYST : Int) then s.throttleDevRelease
    else s

/-! ### What is due once a round -/

/-- ENGINE_SLACK_LOW (R34): worst slack of the round below 10 % of the deadline (R32: 5 µs, 250 µs, 10 µs and 1 ms). -/
def State.slackLow (s : State) (f : Fld) (tenth : Int) (code : Nat) : State :=
  if s.getS f < tenth then s.raise code 2 0xFFFF (le 4 (s.get f)) else s

def State.slackRound (s : State) : State :=
  let s := ((s.slackLow F.WLK_SLACK_MIN 125 0x0408).slackLow F.YMS_SLACK_MIN 6250 0x030A).slackLow F.WBG_SLACK_MIN 250 0x0509
  s.slackLow F.GLB_TETHER_SLACK_MIN 25000 0x000B

/-- The slack registers start afresh (R33), and the Drover's queue residence (R35) and the ECC counts. -/
def State.slackReset (s : State) : State :=
  let s := ((s.set F.WLK_SLACK_MIN 0x7FFFFFFF).set F.YMS_SLACK_MIN 0x7FFFFFFF).set F.WBG_SLACK_MIN 0x7FFFFFFF
  (((s.set F.GLB_TETHER_SLACK_MIN 0x7FFFFFFF).set F.DRO_QRES_MAX 0).set F.HAY_ECC_MOST 0).set F.HAY_ECC_REFRESHED 0

/-- The used paths of a feeder that read more than 0.5 % from the reference; `x` is what each read, in millionths (R234). -/
def Afe.badPaths (a : Afe) (x : List Nat) : List Nat :=
  (List.range 4).filter fun k => a.used k && decide (5000 < ((x.getD k 1000000 : Int) - 1000000).natAbs)

/-- The AFE reference checks (R234): a feeder with a bad path fails, with FEEDER_ALARM (0x0507) for each, or returns at the first check
that passes. -/
def State.afeRound (s : State) (read : List (List Nat)) : State :=
  forAll [0, 1, 2, 3] (fun f s =>
    let c := 48 + f
    let bad := (s.met c).afe.badPaths (read.getD f [])
    let now := !bad.isEmpty
    if now = (s.met c).fault then s
    else forAll bad (fun k s => s.raise 0x0507 2 c [2, k]) ((s.modMet c fun m => { m with fault := now }).showChan c)) s

/-- CKPT_STALE (R247) and SIGN_BACKLOG (R296). -/
def State.meterRound (s : State) (hk : HkIn) : State :=
  if s.metersOn = false then s
  else
    let s := (s.afeRound hk.afe).showAge
    let s := if s.flag F.WBG_STATUS_CKPT_STALE then s.raise 0x0502 3 0xFFFF (le 4 (s.get F.WBG_CKPT_AGE)) else s
    if 256 < s.bil.journal.length then s.raise 0x060B 2 0xFFFF (le 4 s.bil.journal.length) else s

/-- The mean current of each load switch over the round (R393); without a sample it is open. -/
def State.lswRound (s : State) : State :=
  forAll (List.range 16) (fun c s =>
    let x := s.ch c
    let r := if x.cnt = 0 then s.fresh 12 else ((Config.rnd (x.sum : Nat) x.cnt).toNat, s)
    (r.2.set (F.LSW_Cn_CURRENT_MEAN c) r.1).modCh c fun x => { x with sum := 0, cnt := 0 }) s

/-- What a round reports once may be raised again in the new one. -/
def State.roundFlags (s : State) : State := { s with
  slk := s.slk.map fun (l : Slk) => { l with macFailRound := 0, termFaultRound := false }
  haltS := s.haltS.map fun (h : Halt) => { h with refusedRound := false }
  yms := { s.yms with floorRound := false }
  can := { s.can with told := [], ctls := s.can.ctls.map fun (k : CanCtl) => { k with lostTold := false } } }

/-! ### Telemetry (R559) -/

/-- A mask of 48 stalls. -/
def stallMask (f : Nat → Bool) : Nat := (List.range 48).foldl (fun a n => setBitOf a n (f n)) 0

/-- The record of the round. -/
def State.telemetryRecord (s : State) (hk : HkIn) : List Nat :=
  let head := le 8 s.chrono ++ le 8 s.wall ++ le 4 s.pwr.rounds ++ le 2 (s.get F.PWR_HK_CFG_ROUND_MS) ++
    [s.get F.PWR_STATE_STATE, s.get F.PWR_STATE_SUPPLY] ++ le 2 hk.vaux ++ le 2 hk.vauxLow ++ le 2 hk.vhold ++ le 2 hk.vcore ++
    le 2 hk.vio33 ++ le 2 hk.vio18 ++ le 2 hk.vbat ++ [0, 0]
  let temps := ((List.range 8).map fun i => le 2 (s.get (F.PWR_TJi i))).flatten
  let slack := [s.get F.PWR_DIE_TEMP_SENSOR, 0] ++ le 2 hk.watts ++ le 4 (s.get F.WLK_SLACK_MIN) ++ le 4 (s.get F.YMS_SLACK_MIN) ++
    le 4 (s.get F.WBG_SLACK_MIN) ++ le 4 (s.get F.GLB_TETHER_SLACK_MIN) ++ le 4 (s.get F.DRO_QRES_MAX)
  let site := le 4 s.eHold ++ le 4 (s.get F.YMS_SITE_LOAD) ++
    [(s.stallNums.filter fun n => s.linkState n = Link.run).length, (s.ctxNums.filter fun i => (s.ctx i).live).length,
     b2n (s.flag F.YMS_THROTTLE_DEV_ARMED) + 2 * b2n (s.flag F.YMS_THROTTLE_DEV_ENFORCED), 0]
  let masks := le 6 (stallMask fun n => s.flag (F.YMS_Sn_THROTTLE_ARMED n)) ++ le 6 (stallMask fun n => s.flag (F.YMS_Sn_THROTTLE_ENFORCED n))
  padTo 128 (head ++ temps ++ slack ++ site ++ masks)

/-- Write the record; the last 16 are kept, newest first. -/
def State.telemetry (s : State) (hk : HkIn) : State :=
  let s := s.modPwr fun w => { w with rounds := (w.rounds + 1) % 2 ^ 32 }
  s.modPwr fun w => { w with telemetry := (s.telemetryRecord hk :: w.telemetry).take 16 }

/-- HOUSEKEEPING_ROUND (R556): `hk` is what it reads. Blocks that are not powered take no part. -/
def execHousekeepingRound (hk : HkIn) (s : State) : Host.Outcome State Fault Refusal :=
  .next (
    if s.domainOn 4 = false then s
    else
      let s := ((s.readDie hk.die).readRails hk).readPins hk
      let s := if s.domainOn 9 then (forAll s.stallNums (fun n s => s.throttleStall n) s).throttleDie hk.die else s
      let s := if s.domainOn 2 then forAll s.stallNums (fun n s => s.sensorTick n) s else s
      let s := s.meterRound hk
      let s := if s.domainOn 15 then s.lswRound else s
      (forAll s.stallNums (fun n s => s.macReport n) ((s.slackRound.telemetry hk).slackReset)).roundFlags)

/-! ### 1PPS (R586) -/

/-- PPS_STATE (0x000A) when LOCKED changes. -/
def State.setLocked (s : State) (b : Bool) : State :=
  if s.flag F.GLB_PPS_STATUS_LOCKED = b then s else (s.setB F.GLB_PPS_STATUS_LOCKED b).raise 0x000A 1 0xFFFF [b2n b]

/-- The trim moves toward the measured error, by at most 0.1 ppm a second (how much is open) and within TRIM_LIMIT; in 0.001 ppm. -/
def State.trim (s : State) (err : Int) : State :=
  let lim : Int := 1000 * s.get F.GLB_PPS_CFG_TRIM_LIMIT
  let now := s.getS F.GLB_PPS_STATUS_TRIM
  let goal := max (-lim) (min lim err)
  let r := s.fresh 32
  let step : Int := ((r.1 % 101 : Nat) : Int)
  r.2.setS F.GLB_PPS_STATUS_TRIM (if now ≤ goal then min goal (now + step) else max goal (now - step))

/-- PPS_EDGE (R586): `qualifies` when it came 1 s ± 100 µs after the previous edge; `err` is the measured frequency error. -/
def execPpsEdge (qualifies : Bool) (err : Int) (s : State) : Host.Outcome State Fault Refusal :=
  .next (
    if s.domainOn 3 = false ∨ s.flag F.GLB_PPS_CFG_ENABLE = false then s
    else
      let run := if qualifies then min (s.pwr.ppsRun + 1) 8 else 0
      let s := (s.modPwr fun w => { w with ppsRun := run }).setB F.GLB_PPS_STATUS_PRESENT qualifies
      if qualifies = false then s.setLocked false
      else
        let s := if s.flag F.GLB_PPS_STATUS_LOCKED then s.trim err else s
        if run = 8 then s.setLocked true else s)

/-- PPS_ABSENCE_TIMEOUT (R586): no edge for 3 s. -/
def execPpsAbsenceTimeout (s : State) : Host.Outcome State Fault Refusal :=
  .next (
    if s.domainOn 3 = false ∨ s.flag F.GLB_PPS_CFG_ENABLE = false then s
    else ((s.modPwr fun w => { w with ppsRun := 0 }).setB F.GLB_PPS_STATUS_PRESENT false).setLocked false)

end Sys2Proof.Machine
end

