-- ==== Sys2Proof/Machine/Boundary.lean ====
section
/-!
DEFINITION. The allocation boundary (R24): every 250,000 Chronobase ticks.
-/
namespace Sys2Proof.Machine

/-- Close entries of change windows that were refused are tried again (R499). -/
def State.retryCloses (s : State) : State :=
  let ps := s.hay.closeWait
  ps.foldl (fun t p => t.closeEntry p) (s.modHay fun h => { h with closeWait := [] })

/-- Stall records that wait for their store (R133). -/
def State.retryRecords (s : State) : State :=
  forAll (s.stallNums.filter fun n => (s.link n).commitWait) (fun n s => s.commitRecord n) s

/-- What was refused by the hold-up check is tried again at each boundary (R519): records, work, the logs, blocks. -/
def State.retryStores (s : State) : State :=
  if s.domainOn 5 then
    let s := (if s.domainOn 7 then s.tryRecord.retryCloses else s)
    let s := (if s.domainOn 8 then s.retryRecords else s).retryWork.pumpLog
    if s.metersOn then s.pumpBlock else s
  else s

/-- ALLOCATION_BOUNDARY (R24): the Yardmaster's part, unless ALLOC is in retention; the Tether's snapshot; E-stop mappings that have
become durable (R447); stores tried again. -/
def execAllocationBoundary (s : State) : Host.Outcome State Fault Refusal :=
  .next (
    if s.domainOn 3 = false then s
    else
      let s := if s.domainOn 9 then s.ymsBoundary else s
      let s := if s.domainOn 6 then s.captureSnapshot else s
      let s := if s.metersOn then s.modWbg fun w => { w with edge := some (s.edgeNow (s.chrono / 250000 * 250000)) } else s
      (s.applyMaps).retryStores)

end Sys2Proof.Machine
end

