-- ==== Sys2Proof/Machine/Halter.lean ====
section
/-!
DEFINITION. The commands of the Halter (R431-R473).
-/
namespace Sys2Proof.Machine

/-! ### E-stop loops and safety outputs (R446-R450) -/

/-- ESTOP_CHANNEL_OPEN (R446, R447): channel `ch` (0 A, 1 B) of loop `k` has opened, past its filter. -/
def execEstopChannelOpen (k ch : Nat) (s : State) : Host.Outcome State Fault Refusal :=
  .next (
    if 4 ≤ k ∨ 2 ≤ ch then s
    else
      let was := s.loopOpen k
      let s := s.setB (if ch = 0 then F.HLT_ESTOPk_STATE_A_CLOSED k else F.HLT_ESTOPk_STATE_B_CLOSED k) false
      let both := !s.flag (F.HLT_ESTOPk_STATE_A_CLOSED k) && !s.flag (F.HLT_ESTOPk_STATE_B_CLOSED k)
      let s := if both then s.modHlt fun h => { h with bothOpen := modAt h.bothOpen k fun _ => true } else s
      if was then s else s.loopOpened k)

/-- ESTOP_DISCREPANCY_TIMEOUT (R446): one channel open and the other closed beyond DISCREP_MS. -/
def execEstopDiscrepancyTimeout (k : Nat) (s : State) : Host.Outcome State Fault Refusal :=
  .next (
    if k < 4 ∧ s.flag (F.HLT_ESTOPk_STATE_A_CLOSED k) ≠ s.flag (F.HLT_ESTOPk_STATE_B_CLOSED k) ∧
        s.flag (F.HLT_ESTOPk_STATE_DISCREPANCY k) = false then
      let s := (s.setB (F.HLT_ESTOPk_STATE_DISCREPANCY k) true).modHlt fun h => { h with bothOpen := modAt h.bothOpen k fun _ => false }
      if (s.loopMap k).mode = 0 then s.showLoops else s.showLoops.loopEvent k 3
    else s)

/-- ESTOP_LOOP_CLOSE (R446, R448): channels of loop `k` close, `mask` 1 A, 2 B, 3 both together. -/
def execEstopLoopClose (k mask : Nat) (s : State) : Host.Outcome State Fault Refusal :=
  .next (
    if 4 ≤ k then s
    else
      let was := s.loopOpen k
      let s := if bitOf mask 0 then s.setB (F.HLT_ESTOPk_STATE_A_CLOSED k) true else s
      let s := if bitOf mask 1 then s.setB (F.HLT_ESTOPk_STATE_B_CLOSED k) true else s
      let s := if mask % 4 = 3 ∧ (s.hlt.bothOpen.getD k false) = true then s.setB (F.HLT_ESTOPk_STATE_DISCREPANCY k) false else s
      if was = true ∧ s.loopOpen k = false then
        let s := s.modHlt fun h => { h with
          bothOpen := modAt h.bothOpen k (fun _ => false), closedAt := modAt h.closedAt k fun _ => s.chrono }
        if (s.loopMap k).mode = 1 then ((s.setB (F.HLT_ESTOPk_STATE_AWAIT_RESET k) true).actLoops).loopEvent k 1 else s.showLoops
      else s.showLoops)

/-- ESTOP_RESET_PULSE (R448): the falling edge of a pulse of `len` Chronobase ticks on GPIO `g`; it re-arms the loops that await
it, when it lasted 50 ms to 5 s and began after the loop closed. -/
def execEstopResetPulse (g len : Nat) (s : State) : Host.Outcome State Fault Refusal :=
  .next (
    if len < 12500000 ∨ 1250000000 < len then s
    else
      forAll ((List.range 4).filter fun k =>
        decide ((s.loopMap k).mode = 1) && (s.loopMap k).resetEn && decide ((s.loopMap k).resetGpio = g) &&
        s.flag (F.HLT_ESTOPk_STATE_AWAIT_RESET k) && !s.loopOpen k && decide (s.hlt.closedAt.getD k 0 + len ≤ s.chrono))
        (fun k s => s.rearm k) s)

/-- ESTOP_REARM_TIMEOUT (R448): with RESET_EN 0 the loop has been closed for 500 ms. -/
def execEstopRearmTimeout (k : Nat) (s : State) : Host.Outcome State Fault Refusal :=
  .next (
    if k < 4 ∧ (s.loopMap k).mode = 1 ∧ (s.loopMap k).resetEn = false ∧ s.flag (F.HLT_ESTOPk_STATE_AWAIT_RESET k) = true ∧
        s.loopOpen k = false then s.rearm k
    else s)

/-- ESTOP_INPUT_TEST (R446, R454): the inputs of the closed channels followed the test pull, or not. -/
def execEstopInputTest (followed : Bool) (s : State) : Host.Outcome State Fault Refusal :=
  .next (if followed then s else s.enterHaltSafe 5)

/-- SAFE_OUT_READBACK_FAULT (R449): the pins have read `a` and `b` for 1 ms. -/
def execSafeOutReadbackFault (a b : Bool) (s : State) : Host.Outcome State Fault Refusal :=
  .next (
    let s := (s.setB F.HLT_SAFE_OUT_A_READ a).setB F.HLT_SAFE_OUT_B_READ b
    if a ≠ s.safeOut 0 ∨ b ≠ s.safeOut 1 then s.enterHaltSafe 4 else s)

/-- EDM_MISMATCH (R450): for 100 ms loop `k` in MODE EDM has not been open with the outputs energised, closed with them
de-energised. -/
def execEdmMismatch (k : Nat) (s : State) : Host.Outcome State Fault Refusal :=
  .next (
    let on := s.safeOut 0 || s.safeOut 1
    if k < 4 ∧ (s.loopMap k).mode = 2 ∧ s.loopOpen k ≠ on then s.enterHaltSafe 6 else s)

/-! ### Self-test (R454) -/

/-- HALTER_OSC_CHECK (R454): the oscillator deviates by `dev` (0.1 %) from the Chronobase. -/
def execHalterOscCheck (dev : Int) (s : State) : Host.Outcome State Fault Refusal :=
  .next (if 60 < dev.natAbs then s.enterHaltSafe 2 else s)

/-- HALTER_CHANNEL_MISMATCH (R454). -/
def execHalterChannelMismatch (s : State) : Host.Outcome State Fault Refusal := .next (s.enterHaltSafe 1)

/-- HALTER_SUPPLY_FAIL (R454). -/
def execHalterSupplyFail (s : State) : Host.Outcome State Fault Refusal := .next (s.enterHaltSafe 3)

/-! ### Stall stops (R438, R441-R443) -/

/-- HALTER_SAMPLE_TRIP (R438): the third sample in a row above the current or voltage trip level. -/
def execHalterSampleTrip (n : Nat) (s : State) : Host.Outcome State Fault Refusal :=
  .next (
    let s := if 3 ≤ (s.halt n).overI then s.stopStall n .emergency 0x07 else s
    if 3 ≤ (s.halt n).overV then s.stopStall n .emergency 0x08 else s)

/-- SUSTAINED_OVER_TIMEOUT (R438): above 1.02 times the current ceiling for 100 ms. -/
def execSustainedOverTimeout (n : Nat) (s : State) : Host.Outcome State Fault Refusal :=
  .next (if (s.halt n).sustained.isSome then s.stopStall n .orderly 0x09 else s)

/-- Does PERMIT go under the running stop: at the first valid uplink with |i| below 5.0 A, at latest 25 ms after the decision of an orderly
stop and 20 ms after that of an emergency stop (R441, R442); HALT_SAFE checks no current (R445)? -/
def State.withdrawDue (s : State) (n : Nat) : Bool :=
  let h := s.halt n
  (s.below5A n && decide (s.get (F.HLT_Sn_STATE_CAUSE n) ≠ 0x15)) ||
    decide (h.stopAt + (if h.stop = .orderly then 6250000 else 5000000) ≤ s.chrono)

/-- STOP_PERMIT_WITHDRAWAL (R441, R442): PERMIT goes in the next frame. -/
def execStopPermitWithdrawal (n : Nat) (s : State) : Host.Outcome State Fault Refusal :=
  .next (if (s.halt n).stop ≠ .none ∧ s.withdrawDue n = true then s.modHalt n fun h => { h with withdrawn := true } else s)

/-- STOP_END (R441, R442): the end conditions have held for 1 ms. An emergency stop on a link in RUN has two all-off periods
still to send. -/
def execStopEnd (n : Nat) (s : State) : Host.Outcome State Fault Refusal :=
  .next (
    match (s.halt n).stop with
    | .none => s
    | .orderly =>
      if (s.halt n).withdrawn ∧ s.contactorClosed n = false then
        s.modHalt n fun h => { h with stop := .none, withdrawn := false } else s
    | .emergency =>
      if s.causeCleared n && s.uplinkLive n && s.twoStepDone n && s.switchesOff n && !s.contactorClosed n && decide ((s.halt n).allOff = 0) then
        if s.linkState n = Link.run then s.modHalt n fun h => { h with allOff := 3 }
        else s.modHalt n fun h => { h with stop := .none, withdrawn := false }
      else s)

/-- CONTACTOR_WELD_TIMEOUT (R443): 50 ms after the withdrawal the contactors are not shown open. -/
def execContactorWeldTimeout (n : Nat) (s : State) : Host.Outcome State Fault Refusal :=
  .next (
    if (s.halt n).withdrawn ∧ s.contactorClosed n = true then
      (s.setB (F.HLT_Sn_LATCH_WELD n) true).stopStall n .emergency 0x0A
    else s)

/-! ### Cable sensors (R452, R453) -/

/-- SENSOR_LOSS_TIMEOUT (R452): cable sensor `i` has not arrived for 1 ms. -/
def execSensorLossTimeout (n i : Nat) (s : State) : Host.Outcome State Fault Refusal :=
  .next (if s.hasStall n = true ∧ i ≤ 1 then s.sensorLost n i else s)

/-- SENSOR_DEGRADED_LIMIT (R452): the 300 s of the session are spent. -/
def execSensorDegradedLimit (n : Nat) (s : State) : Host.Outcome State Fault Refusal :=
  .next (
    if s.flag (F.HLT_Sn_DEGRADE_SENSOR_MODE n) = true ∧ s.flag (F.HLT_Sn_LATCH_LOCKOUT n) = false then
      let s := (s.set (F.HLT_Sn_DEGRADE_SENSOR_LEFT n) 0).setB (F.HLT_Sn_LATCH_LOCKOUT n) true
      let s := s.modHalt n fun h => { h with sensorAt := none }
      (s.stopStall n .orderly 0x12).degradedEvent n 1 2
    else s)

/-- SENSOR_LOCKOUT_RELEASE (R453): the sensors have been valid for 10 s; the mode and the lockout end. -/
def execSensorLockoutRelease (n : Nat) (s : State) : Host.Outcome State Fault Refusal :=
  .next (
    let ok := fun i => !bitOf (s.link n).ident.hkMap i || (s.hkVal n i).isSome
    if s.hasStall n = true ∧ ok 0 = true ∧ ok 1 = true then
      let mode := s.flag (F.HLT_Sn_DEGRADE_SENSOR_MODE n)
      let s := (s.sensorTick n).modHalt n fun h => { h with lost0 := false, lost1 := false, sensorsLost := false, sensorAt := none }
      let s := ((s.setB (F.HLT_Sn_LATCH_LOCKOUT n) false).setB (F.HLT_Sn_DEGRADE_SENSOR_MODE n) false).refreshCeil n
      if mode then s.degradedEvent n 1 1 else s
    else s)

/-! ### Proof test and service (R471, R472) -/

/-- SAFETY_PROOF_TEST (R471): with every stall at rest the tests start, SAFE_OUT_A de-energised for 10 ms and then SAFE_OUT_B. One test
runs at a time. -/
def execSafetyProofTest (p tag : Nat) (s : State) : Host.Outcome State Fault Refusal :=
  .next (
    if s.hlt.proof.isSome then s
    else s.take p tag 0x0C01 fun d s =>
      if s.allAtRest = false then s.finish p d.num 0x40 0
      else
        s.modHlt fun h => { h with proof := some (p, d.num, d.arg 24 1), proofAt := s.chrono })

/-- SAFETY_PROOF_TEST_END (R471): the tests end with a failure bit for each. -/
def execSafetyProofTestEnd (failed : Nat) (s : State) : Host.Outcome State Fault Refusal :=
  .next (
    match s.hlt.proof with
    | none => s
    | some (p, num, tests) =>
      let s := (s.modHlt fun h => { h with proof := none }).actLoops
      let bad := failed % 8 &&& tests
      if bad = 0 then (s.set F.HLT_PROOF_LAST (s.wall)).finish p num 0x00 0
      else (s.finish p num 0x43 bad).enterHaltSafe 7)

/-- PROOF_TEST_DUE (R471): once per day after DAYS days. -/
def execProofTestDue (s : State) : Host.Outcome State Fault Refusal :=
  .next (
    let days := (s.wall - s.get F.HLT_PROOF_LAST) / 65536 / 86400
    if s.get F.HLT_PROOF_CFG_DAYS ≤ days then s.raise 0x0C06 2 0xFFFF (le 2 (min days 65535)) else s)

/-- SERVICE_CLEAR (R472). -/
def execServiceClear (p tag : Nat) (s : State) : Host.Outcome State Fault Refusal :=
  .next (s.take p tag 0x0C02 fun d s =>
    let n := d.target
    let c := d.arg 24 1
    if s.modeRest n = false ∨ s.contactorClosed n = true then s.finish p d.num 0x41 0
    else
      let ok := fun i => !bitOf (s.link n).ident.hkMap i || (s.hkVal n i).isSome
      let sens := ok 0 && ok 1
      let weld := bitOf (s.link n).hstat 12
      let s := if bitOf c 0 then ((s.setB (F.SLK_Sn_STATE_EDGE_LATCH n) false).setB (F.HLT_Sn_LATCH_EDGE_LATCH n) false).modLink n
          fun l => { l with rejBoth := [], rejOther := [] } else s
      let s := if bitOf c 1 then
          let was := s.flag (F.HLT_Sn_DEGRADE_PHASE_MODE n)
          let s := ((s.setB (F.WLK_Sn_DEGRADE_BLOCKED n) false).setB (F.WLK_Sn_DEGRADE_DEGRADED n) false).set (F.WLK_Sn_DEGRADE_CAUSE n) 0
          let s := ((s.set (F.WLK_Sn_DEGRADE_REMAIN n) 0).setB (F.HLT_Sn_LATCH_BLOCKED n) false).set (F.WLK_Sn_PHASE_LOST n) 0
          let s := s.set (F.WLK_Sn_PHASE_ACTIVE n) (2 ^ s.get (F.WLK_Sn_TYPE_PHASES n) - 1)
          let s := ((s.setB (F.HLT_Sn_DEGRADE_PHASE_MODE n) false).set (F.HLT_Sn_DEGRADE_PHASE_LEFT n) 0).refreshCeil n
          if was then s.degradedEvent n 2 1 else s
        else s
      let s := if bitOf c 2 && sens then
          let s := (s.setB (F.HLT_Sn_LATCH_LOCKOUT n) false).modHalt n fun h => { h with
            lost0 := false, lost1 := false, sensorsLost := false, sensorAt := none }
          (s.setB (F.HLT_Sn_DEGRADE_SENSOR_MODE n) false).refreshCeil n
        else s
      let s := if bitOf c 3 && !weld then s.setB (F.HLT_Sn_LATCH_WELD n) false else s
      let kept := (if bitOf c 2 && !sens then 4 else 0) + (if bitOf c 3 && weld then 8 else 0)
      let s := s.raise 0x0C07 1 n [c % 16 - kept]
      s.finish p d.num (if kept = 0 then 0x00 else 0x42) 0)

end Sys2Proof.Machine
end

