-- ==== Sys2Proof/Machine/Harness.lean ====
section
/-!
DEFINITION. The commands of the Harness and Trough (R345-R377). A command that reports a detection or the end of a time asserts
it; it does nothing where the state rules it out (notes/assumptions/4.md).
-/
namespace Sys2Proof.Machine

/-! ### Opcodes -/

/-- Does a PARAM field not suit the bridge's class or input source (R374)? -/
def State.classMismatch (s : State) (b : Nat) (d : Desc) : Bool :=
  let direct := decide (d.arg 28 2 ≠ 0) || decide (d.arg 30 2 ≠ 0) || decide (d.arg 32 2 ≠ 0) || decide (d.arg 34 1 ≠ 0)
  if isHall b then direct
  else decide (d.arg 25 1 ≠ 0) || decide (d.arg 26 2 ≠ 0) || (s.flag (F.HRN_HBb_CFG_INPUT_SRC b) && direct)

/-- BRIDGE_SET (R364, R365, R374). -/
def execBridgeSet (p tag : Nat) (s : State) : Host.Outcome State Fault Refusal :=
  .next (s.take p tag 0x0801 fun d s =>
    let b := d.target
    let mode := d.arg 24 1
    let duties := [d.arg 28 2, d.arg 30 2, d.arg 32 2]
    if 3 < mode ∨ 1 < d.arg 25 1 ∨ 9900 < d.arg 26 2 ∨ (duties.any fun x => decide (9900 < x)) = true ∨ 7 < d.arg 34 1 then
      s.finish p d.num 0x40 0
    else if s.flag (F.HRN_HBb_CFG_ENABLE b) = false then s.finish p d.num 0x46 0
    else if s.flag (F.HRN_HBb_FAULT_LATCHED b) ∨ s.flag F.HRN_STATUS_DEVICE_LATCH then s.finish p d.num 0x41 0
    else if s.hlt.harnessOff then s.finish p d.num 0x10 0
    else if s.get (F.HRN_HBb_CFG_SOURCE b) ≠ 0 then s.finish p d.num 0x42 0
    else if s.classMismatch b d then s.finish p d.num 0x43 0
    else
      let s := (s.rebase b).bridgeUnrelease b
      if mode = 1 then
        let want := if isHall b then [d.arg 26 2, 0, 0] else duties
        let part := want.any fun x => decide (s.dutyLimit b < x)
        let s := s.startBridge b
        let s := if s.dutyNow b = [0, 0, 0] ∧ isHall b = true ∧ d.arg 25 1 ≠ s.get (F.HRN_HBb_CMD_DIRECTION b) then
            (s.set (F.HRN_HBb_CMD_DIRECTION b) (d.arg 25 1)).commutate b else s
        (s.modHb b fun h => { h with
          want := want, dir := d.arg 25 1, mask := d.arg 34 1, toOff := false, waits := h.waits ++ [(p, d.num, part)] }).settle b
      else
        let s := s.modHb b fun h => { h with waits := h.waits ++ [(p, d.num, false)] }
        if mode = 0 then
          if s.get (F.HRN_HBb_CMD_MODE b) = 1 then (s.modHb b fun h => { h with toOff := true }).settle b
          else s.bridgeOff b 0x00
        else
          let s := (s.set (F.HRN_HBb_CMD_MODE b) mode).modHb b fun h => { h with
            want := [0, 0, 0], applied := [0, 0, 0], rampFrom := [0, 0, 0], toOff := false, dir := s.get (F.HRN_HBb_CMD_DIRECTION b) }
          (s.showBridge b).bridgeDone b 0x00)

/-- COOLING_SET (R352, R375): it completes once its value is in a downlink frame. -/
def execCoolingSet (p tag : Nat) (s : State) : Host.Outcome State Fault Refusal :=
  .next (s.take p tag 0x0802 fun d s =>
    let n := d.target
    let mode := d.arg 24 1
    if 2 < mode ∨ 1000 < d.arg 26 2 ∨ 200 < d.arg 28 1 then s.finish p d.num 0x40 0
    else if s.hasCurve n = false then s.finish p d.num 0x47 0
    else if mode = 2 ∧ (s.modeRest n = false ∨ s.contactorClosed n = true) then s.finish p d.num 0x44 0
    else
      let s := ((s.set (F.HRN_Sn_COOL_FLOOR_MODE n) mode).set (F.HRN_Sn_COOL_FLOOR_PUMP n) (if mode = 0 then 0 else d.arg 26 2)).set
        (F.HRN_Sn_COOL_FLOOR_VALVE n) (if mode = 0 then 0 else d.arg 28 1)
      s.modHrn fun h => { h with coolWait := h.coolWait ++ [(n, p, d.num, false)] })

/-- Clear a latch bit of a bridge. -/
def State.clearIf (s : State) (c : Bool) (f : Fld) : State := if c then s.setB f false else s

/-- HRN_FAULT_CLEAR (R372, R376). -/
def execHrnFaultClear (p tag : Nat) (s : State) : Host.Outcome State Fault Refusal :=
  .next (s.take p tag 0x0803 fun d s =>
    let b := d.target
    let c := d.arg 24 1
    let g := vmotGroup b
    if 15 < c then s.finish p d.num 0x40 0
    else
      let overs := decide (s.get (F.HRN_VMOTg_CFG0_OV_TRIP g) < s.get (F.HRN_VMOTg_MEAS_V g))
      let bad := isHall b && (s.patternOf b (s.get (F.HRN_HBb_STATE_HALL b))).isNone
      let stuck := bitOf c 0 && ((s.flag (F.HRN_HBb_FAULT_VMOT_OV b) && overs) || (s.flag (F.HRN_HBb_FAULT_HALL_INVALID b) && bad))
      let s := if bitOf c 3 then
          forAll ((List.range 8).filter fun x => vmotGroup x = g) (fun x s => s.setB (F.HRN_HBb_FAULT_CHOP_OVERLOAD x) false)
            (s.setBit F.HRN_STATUS_CHOP_OVERLOAD g false)
        else s
      let s := if bitOf c 0 then
          let s := ((s.setB (F.HRN_HBb_FAULT_ROTOR_STALL b) false).setB (F.HRN_HBb_FAULT_OC_PERSIST b) false).setB
            (F.HRN_HBb_FAULT_DESAT b) false
          let s := (s.set (F.HRN_HBb_FAULT_SWITCH b) 0).setB (F.HRN_HBb_FAULT_CHOP_OVERLOAD b) false
          (s.clearIf (!overs) (F.HRN_HBb_FAULT_VMOT_OV b)).clearIf (!bad) (F.HRN_HBb_FAULT_HALL_INVALID b)
        else s
      let s := if bitOf c 1 then ((s.rebase b).setB (F.HRN_HBb_FAULT_BST_UV b) false) else s
      let s := if bitOf c 2 then (s.setB F.HRN_STATUS_DEVICE_LATCH false).modHrn fun h => { h with bothOn := [] } else s
      (forAll (List.range 8) (fun x s => s.showLatch x) s).finish p d.num (if stuck then 0x45 else 0x00) 0)

/-! ### Trough -/

/-- TROUGH_EVALUATION (R345, R347, R353, R354): every stall, then every Trough-sourced bridge. -/
def execTroughEvaluation (s : State) : Host.Outcome State Fault Refusal :=
  .next (
    if s.domainOn 13 = false then s
    else
      let s := forAll s.stallNums (fun n s => s.troughStall n) s
      let s := s.modHrn fun h => { h with coolWait := h.coolWait.map fun w => (w.1, w.2.1, w.2.2.1, true) }
      forAll (List.range 8) (fun b s => s.troughBridge b) s)

/-- Is the flow below FLOW_LOW_PCT of the target (R349)? None where index 6 is not valid. -/
def State.flowLow (s : State) (n : Nat) (e : Curve) : Option Bool :=
  (s.hkVal n 6).map fun flow => decide (flow * 100 < s.get (F.HRN_Sn_COOL_STATE_FLOW_TARGET n) * e.lowPct)

/-- COOLANT_FLOW_LOW (R180, R349): the flow has stayed low for FLOW_LOW_S. -/
def execCoolantFlowLow (n : Nat) (s : State) : Host.Outcome State Fault Refusal :=
  .next (
    match s.curve? n with
    | some e =>
      if s.flowLow n e = some true ∧ s.flag (F.HRN_Sn_COOL_STATE_FLOW_LOW n) = false then
        let s := (s.setB (F.HRN_Sn_COOL_STATE_FLOW_LOW n) true).raise 0x0804 2 n
          (le 2 (s.get (F.HRN_Sn_COOL_STATE_FLOW_TARGET n)) ++ le 2 ((s.hkVal n 6).getD 0))
        s.throttleRaise n e.flowCeil 6
      else s
    | none => s)

/-- COOLANT_FLOW_RELEASE (R182, R349): the flow has held at or above the threshold for 10 s. -/
def execCoolantFlowRelease (n : Nat) (s : State) : Host.Outcome State Fault Refusal :=
  .next (
    match s.curve? n with
    | some e =>
      if s.flowLow n e = some false ∧ s.flag (F.HRN_Sn_COOL_STATE_FLOW_LOW n) = true then
        (s.setB (F.HRN_Sn_COOL_STATE_FLOW_LOW n) false).throttleDrop n 6
      else s
    | none => s)

/-! ### Hall3 commutation (R360-R364) -/

/-- HALL_EDGE (R360, R362): the filtered Hall state changes; a valid one applies its pattern. -/
def execHallEdge (b hall : Nat) (s : State) : Host.Outcome State Fault Refusal :=
  .next (
    if isHall b = false ∨ s.domainOn 13 = false ∨ s.get (F.HRN_HBb_STATE_HALL b) = hall % 8 then s
    else
      let s := s.set (F.HRN_HBb_STATE_HALL b) hall
      match s.patternOf b (hall % 8) with
      | none => (s.modHb b fun h => { h with hallBad := true }).showBridge b
      | some v =>
        let dt := s.chrono - (s.hb b).lastEdge
        let r := if dt = 0 then s.fresh 32 else ((Config.rnd 2500000000 (6 * dt)).toNat, s)
        let s := r.2.set (F.HRN_HBb_SPEED b) r.1
        (s.modHb b fun h => { h with pattern := some v, hallBad := false, lastEdge := s.chrono }).showBridge b)

/-- HALL_INVALID_TIMEOUT (R363): the invalid state has lasted 1 ms on a bridge that runs or is to start. -/
def execHallInvalidTimeout (b : Nat) (s : State) : Host.Outcome State Fault Refusal :=
  .next (
    if isHall b ∧ (s.hb b).hallBad ∧ s.get (F.HRN_HBb_CMD_MODE b) = 1 ∧ s.blocked b = false then
      s.tripBridge b (F.HRN_HBb_FAULT_HALL_INVALID b) 3 0xFF
    else s)

/-- ROTOR_STALL_TIMEOUT (R363): above 5 % duty no valid Hall edge has come for STALL_MS. -/
def execRotorStallTimeout (b : Nat) (s : State) : Host.Outcome State Fault Refusal :=
  .next (
    if isHall b ∧ s.running b ∧ 500 < (s.dutyNow b).getD 0 0 ∧ s.get (F.HRN_HBb_LIMIT_STALL_MS b) ≠ 0 then
      s.tripBridge b (F.HRN_HBb_FAULT_ROTOR_STALL b) 4 0xFF
    else s)

/-! ### Direct inputs, both-on, bootstrap -/

/-- DIRECT_INPUT_EDGE (R358, R365): switch `sw` of HB6 or HB7 gets a new input level; where both inputs of a half-bridge were
high, both switches stay off for MIN_PULSE after the overlap. -/
def execDirectInputEdge (b sw : Nat) (level : Bool) (s : State) : Host.Outcome State Fault Refusal :=
  .next (
    if isHall b = true ∨ 8 ≤ b ∨ 6 ≤ sw ∨ s.domainOn 13 = false then s
    else
      let h := s.hb b
      let mate := sw / 2 * 2 + (1 - sw % 2)
      let until_ := s.chrono + s.get (F.HRN_HBb_TIMING_MIN_PULSE b)
      let s := if level = false ∧ bitOf h.inputs sw = true ∧ bitOf h.inputs mate = true then
          (s.holdOff b sw until_).holdOff b mate until_ else s
      s.modHb b fun h => { h with inputs := setBitOf h.inputs sw level })

/-- BOTH_ON_REJECTION (R358, R359): half-bridge `half` was commanded both on; the 17th within 10 ms sets DEVICE_LATCH. -/
def execBothOnRejection (b half : Nat) (s : State) : Host.Outcome State Fault Refusal :=
  .next (
    if 8 ≤ b ∨ 3 ≤ half ∨ s.domainOn 13 = false then s
    else
      let s := s.incSat (F.HRN_HBb_CNT_BOTHON b)
      let until_ := if isHall b || !s.flag (F.HRN_HBb_CFG_INPUT_SRC b) then s.nextPeriod b
        else s.chrono + s.get (F.HRN_HBb_TIMING_MIN_PULSE b)
      let s := (s.holdOff b (2 * half) until_).holdOff b (2 * half + 1) until_
      let l := (s.hrn.bothOn.filter fun t => decide (s.chrono < t + 2500000)) ++ [s.chrono]
      let s := s.modHrn fun h => { h with bothOn := l }
      if 16 < l.length ∧ s.flag F.HRN_STATUS_DEVICE_LATCH = false then
        let s := s.setB F.HRN_STATUS_DEVICE_LATCH true
        let s := forAll (List.range 8) (fun x s => (s.setB (F.HRN_HBb_FAULT_LATCHED x) true).bridgeOff x 0x41) s
        s.raise 0x0802 4 0xFFFF ([b] ++ le 2 l.length)
      else s)

/-- BOOTSTRAP_REFRESH_TIMER (R366): the high side of a half-bridge, on for 32 µs, is off for a refresh of 400 ns and two dead
times. -/
def execBootstrapRefreshTimer (b half : Nat) (s : State) : Host.Outcome State Fault Refusal :=
  .next (
    if b < 8 ∧ half < 3 ∧ s.running b = true then
      s.holdOff b (2 * half) (s.chrono + 100 + 2 * s.get (F.HRN_HBb_TIMING_DT b))
    else s)

/-- BOOTSTRAP_UNDERVOLTAGE (R367): the high side is off for the rest of the period and the duty limited to 97.00 %. -/
def execBootstrapUndervoltage (b half : Nat) (s : State) : Host.Outcome State Fault Refusal :=
  .next (
    if b < 8 ∧ half < 3 ∧ s.running b = true then
      let new := !s.flag (F.HRN_HBb_FAULT_BST_UV b)
      let d := (s.dutyNow b).map fun x => min x 9700
      let s := s.setB (F.HRN_HBb_FAULT_BST_UV b) true
      let s := s.modHb b fun h => { h with applied := d, rampFrom := d, rampAt := s.chrono }
      let s := (s.holdOff b (2 * half) (s.nextPeriod b)).showBridge b
      if new then s.hbFault b 5 (2 * half) else s
    else s)

/-! ### Gate faults (R369-R371) -/

/-- HARNESS_OVERCURRENT (R370): the switch is off for the rest of the period; the 1,000th period in a row latches OC_PERSIST. -/
def execHarnessOvercurrent (b sw : Nat) (s : State) : Host.Outcome State Fault Refusal :=
  .next (
    if b < 8 ∧ sw < 6 ∧ s.blocked b = false ∧ (s.get (F.HRN_HBb_CMD_MODE b) = 1 ∨ s.get (F.HRN_HBb_CMD_MODE b) = 3) then
      let period := s.chrono * s.get (F.HRN_HBb_CFG_PWM_KHZ b) / 250000 + 1
      let h := s.hb b
      let run := if h.ocLast.getD sw 0 + 1 = period then h.ocRun.getD sw 0 + 1
        else if h.ocLast.getD sw 0 = period then h.ocRun.getD sw 0 else 1
      let s := if period ∈ h.ocLast then s else s.incSat (F.HRN_HBb_CNT_OC b)
      let s := (s.modHb b fun h => { h with
        ocRun := modAt h.ocRun sw fun _ => run, ocLast := modAt h.ocLast sw fun _ => period }).holdOff b sw (s.nextPeriod b)
      if 1000 ≤ run then s.tripBridge b (F.HRN_HBb_FAULT_OC_PERSIST b) 1 sw else s
    else s)

/-- DESAT_TRIP (R369, R370). -/
def execDesatTrip (b sw : Nat) (s : State) : Host.Outcome State Fault Refusal :=
  .next (
    if b < 8 ∧ sw < 6 ∧ s.blocked b = false ∧ (s.get (F.HRN_HBb_CMD_MODE b) = 1 ∨ s.get (F.HRN_HBb_CMD_MODE b) = 3) then
      s.tripBridge b (F.HRN_HBb_FAULT_DESAT b) 2 sw
    else s)

/-- The bridges of VMOT group `g`. -/
def groupBridges (g : Nat) : List Nat := (List.range 8).filter fun b => vmotGroup b = g

/-- VMOT_OVERVOLTAGE (R370): VMOTg is `v` (0.1 V), above OV_TRIP. -/
def execVmotOvervoltage (g v : Nat) (s : State) : Host.Outcome State Fault Refusal :=
  .next (
    if 2 ≤ g ∨ s.domainOn 13 = false then s
    else
      let s := s.set (F.HRN_VMOTg_MEAS_V g) v
      if s.get (F.HRN_VMOTg_CFG0_OV_TRIP g) < v then
        forAll (groupBridges g) (fun b s => s.tripBridge b (F.HRN_HBb_FAULT_VMOT_OV b) 6 0xFF) s
      else s)

/-- VMOT_UNDERVOLTAGE (R370): every switch of the group off, without the two-step and without a latch. -/
def execVmotUndervoltage (g v : Nat) (s : State) : Host.Outcome State Fault Refusal :=
  .next (
    if 2 ≤ g ∨ s.domainOn 13 = false then s
    else
      let s := s.set (F.HRN_VMOTg_MEAS_V g) v
      if v < s.get (F.HRN_VMOTg_CFG1_UV g) ∧ bitOf (s.get F.HRN_STATUS_VMOT_UV) g = false then
        (forAll (groupBridges g) (fun b s => s.showBridge b) (s.setBit F.HRN_STATUS_VMOT_UV g true)).raise 0x0803 2 g [0]
      else s)

/-- VMOT_UV_RECOVERY (R370): above UV + 1.0 V the group resumes. -/
def execVmotUvRecovery (g v : Nat) (s : State) : Host.Outcome State Fault Refusal :=
  .next (
    if 2 ≤ g ∨ s.domainOn 13 = false then s
    else
      let s := s.set (F.HRN_VMOTg_MEAS_V g) v
      if s.get (F.HRN_VMOTg_CFG1_UV g) + 10 < v ∧ bitOf (s.get F.HRN_STATUS_VMOT_UV) g = true then
        (forAll (groupBridges g) (fun b s => s.showBridge b) (s.setBit F.HRN_STATUS_VMOT_UV g false)).raise 0x0803 2 g [1]
      else s)

/-- CHOPPER_ON (R371): VMOTg has risen above CHOP_ON. -/
def execChopperOn (g v : Nat) (s : State) : Host.Outcome State Fault Refusal :=
  .next (
    if 2 ≤ g ∨ s.domainOn 13 = false then s
    else
      let s := s.set (F.HRN_VMOTg_MEAS_V g) v
      if s.get (F.HRN_VMOTg_CFG0_CHOP_ON g) < v ∧ bitOf (s.get F.HRN_STATUS_CHOP_OVERLOAD) g = false then
        s.setB (F.HRN_VMOTg_MEAS_CHOP g) true
      else s)

/-- CHOPPER_OFF (R371): VMOTg has fallen below CHOP_ON less CHOP_HYST. -/
def execChopperOff (g v : Nat) (s : State) : Host.Outcome State Fault Refusal :=
  .next (
    if 2 ≤ g ∨ s.domainOn 13 = false then s
    else
      let s := s.set (F.HRN_VMOTg_MEAS_V g) v
      if v + 5 * s.get (F.HRN_VMOTg_CFG1_CHOP_HYST g) < s.get (F.HRN_VMOTg_CFG0_CHOP_ON g) then
        s.setB (F.HRN_VMOTg_MEAS_CHOP g) false
      else s)

/-- CHOP_OVERLOAD_TIMEOUT (R370, R371): the chopper has been on for CHOP_MAX_MS. -/
def execChopOverloadTimeout (g : Nat) (s : State) : Host.Outcome State Fault Refusal :=
  .next (
    if g < 2 ∧ s.flag (F.HRN_VMOTg_MEAS_CHOP g) = true then
      let s := (s.setB (F.HRN_VMOTg_MEAS_CHOP g) false).setBit F.HRN_STATUS_CHOP_OVERLOAD g true
      forAll (groupBridges g) (fun b s => s.tripBridge b (F.HRN_HBb_FAULT_CHOP_OVERLOAD b) 7 0xFF) s
    else s)

/-- BRIDGE_RAMP_END (R364, R373, R374): the applied duty reaches its command. -/
def execBridgeRampEnd (b : Nat) (s : State) : Host.Outcome State Fault Refusal :=
  .next (if b < 8 ∧ s.get (F.HRN_HBb_CMD_MODE b) = 1 ∧ s.domainOn 13 = true then s.atGoal b else s)

end Sys2Proof.Machine
end

