-- ==== Sys2Proof/Machine/RegWrite.lean ====
section
/-!
DEFINITION. Writes of setup registers (R12, R46-R58, R583-R588, R609) with what each window's registers do, locks (R581, R582),
wide reads (R585).
-/
namespace Sys2Proof.Machine

/-- A write of a register without behaviour of its own. -/
def State.plainWrite (s : State) (p off val : Nat) : State := s.setupWrite p off val fun r base w s => s.writeFields r base w

/-! ### Locks (R581, R582) -/

/-- Is `off` a LOCK register? -/
def isLock (off : Nat) : Bool :=
  match lockFld (off / 0x10000) with
  | some f => decide (f.off = off)
  | none => false

/-- Writing 1 sets LOCK; writing 0 has no effect. -/
def State.lockWrite (s : State) (p off val : Nat) : State :=
  s.setupWrite p off val fun r base _ s => if bitOf val 0 then s.writeFields r base 1 else s

/-- LOCK of every powered window whose setup right the paddock holds. -/
def State.lockAll (s : State) (p : Nat) : State :=
  forAll (List.range 17) (fun w s =>
    match lockFld w, setupRight w with
    | some f, some right => if s.domainOn (domainOf (w * 0x10000)) && s.hasRight p right then s.setB f true else s
    | _, _ => s) s

/-- A write of GLB_LOCK_ALL (R582): any right is enough. -/
def State.lockAllWrite (s : State) (p val : Nat) : State :=
  if 3 < p ∨ s.domainOn 4 = false then s
  else if s.anyRight p = false then s.deny p 0x48
  else if bitOf val 0 then s.lockAll p else s

/-! ### RWP writes (R583, R584) -/

/-- The right beside SAFETY_ADMIN that an RWP register needs (R584). -/
def rwpRight (off : Nat) : Option Nat :=
  match off / 0x10000 with
  | 0x0 => some 2
  | 0x5 => some 1
  | 0x6 => some 1
  | 0xF => some 2
  | _ => none

/-- Conditions between fields of one RWP register: the spacing of the supply thresholds (R534). -/
def rwpFits (off w : Nat) : Bool :=
  if off = 0xF000C then decide (bitsOf w 15 8 + 10 ≤ bitsOf w 23 16) && decide (bitsOf w 7 0 + 10 ≤ bitsOf w 15 8) else true

/-- The body of a KIND 0 entry: offset, old and new value; for a pulse output also the residue and backlog that the write discards
(R252). -/
def State.rwpBody (s : State) (off old val : Nat) : List Nat :=
  let more := if 0x50200 ≤ off ∧ off < 0x50280 then
      let x := s.wbg.pulses.getD ((off - 0x50200) / 32) Pulse.init
      le 12 x.res ++ le 2 x.queue.length
    else []
  le 4 off ++ le 4 old ++ le 4 (val % 2 ^ 32) ++ more

/-- A write of an RWP register: captured in an off domain, discarded for a value not allowed, denied outside the writer's window or
without the rights, else logged; it applies when its entry is durable. -/
def State.rwpWrite (s : State) (p off val : Nat) : State :=
  if s.domainOn 4 = false then s
  else if s.absent off then s
  else
    match regRowAt off with
    | none => s
    | some r =>
      let w := val % 2 ^ 32
      if s.domainOn (domainOf off) = false then s.offDomain p off true
      else if r.has .rwp = false then s
      else if rowAllowed r w = false ∨ rwpFits off w = false then s
      else if s.ownsWindow p && s.hasRight p 4 && (match rwpRight off with
          | some b => s.hasRight p b
          | none => true) then
        (s.logChange 0 p off (s.rwpBody off (s.rowVal r off) w) (.rwp p off w)).2
      else s.deny p off

/-! ### The windows' own behaviour -/

/-- GLB: clearing the off-domain capture (R579), 1PPS switched off (R586), claimed GPIOs stay inputs (R587), set and clear, lane control. -/
def State.glbWrite (s : State) (p off val : Nat) : State :=
  match off with
  | 0x30 => s.setupWrite p off val fun _ _ _ s => if bitOf val 31 then s.clearRegs fun key _ => decide (key / 32 = 0x30) else s
  | 0x48 => s.lockAllWrite p val
  | 0x50 => s.setupWrite p off val fun r base w s =>
      let s := s.writeFields r base w
      if s.flag F.GLB_PPS_CFG_ENABLE then s
      else ((s.modPwr fun x => { x with ppsRun := 0 }).setB F.GLB_PPS_STATUS_PRESENT false).setLocked false
  | 0x60 => s.setupWrite p off val fun r base w s =>
      s.writeFields r base (w - (w &&& s.get F.GLB_GPIO_CLAIM))
  | 0x68 => s.setupWrite p off val fun _ _ _ s => s.set F.GLB_GPIO_OUT (s.get F.GLB_GPIO_OUT ||| val % 2 ^ 32)
  | 0x6C => s.setupWrite p off val fun _ _ _ s =>
      s.set F.GLB_GPIO_OUT (s.get F.GLB_GPIO_OUT - (s.get F.GLB_GPIO_OUT &&& val % 2 ^ 32))
  | _ => s.plainWrite p off val

/-- A CFG register of ring `r`. -/
def State.ringCfg (s : State) (p r val : Nat) : State := if s.domainOn 4 then s.cfgWrite p r (val % 2 ^ 32) else s

/-- Base or doorbell address of ring `r` (R58): only while it is disabled. -/
def State.ringAddr (s : State) (p off r val : Nat) : State := if s.ringEnabled p r then s else s.plainWrite p off val

/-- PDK: ring registers (R58), the MSI-X table: unmasking a vector that is pending sends it. -/
def State.pdkWrite (s : State) (p off val : Nat) : State :=
  let k := off % 0x10000
  if 0x100 ≤ k ∧ k < 0x200 then
    let i := (k - 0x100) / 0x20
    if k % 0x20 = 0x10 then s.ringCfg p i val else s.ringAddr p off i val
  else if 0x200 ≤ k ∧ k < 0x280 then
    let j := (k - 0x200) / 0x20
    if k % 0x20 = 0x10 then s.ringCfg p (8 + j) val else s.ringAddr p off (8 + j) val
  else if 0x280 ≤ k ∧ k < 0x2A0 then
    if k = 0x290 then s.ringCfg p 12 val else s.ringAddr p off 12 val
  else
    let s := s.plainWrite p off val
    if 0x8000 ≤ k ∧ k < 0x8100 ∧ k % 16 = 12 ∧ s.domainOn 4 = true then
      let v := (k - 0x8000) / 16
      if s.get (F.PDK_MSIX_CTRL p v) % 2 = 0 ∧ bitOf (s.get (F.PDK_MSIX_PBA p)) v = true then
        (s.setBit (F.PDK_MSIX_PBA p) v false).emit (.msix p v)
      else s
    else s

/-- SLK_Sn_CTRL (R121): ENABLE takes the link to TRAINING or OFF; an energised stall loses its permit as at a link loss. -/
def State.slkWrite (s : State) (p off val : Nat) : State :=
  let k := off % 0x10000
  if 0x1000 ≤ k ∧ k % 0x100 = 0 then
    s.setupWrite p off val fun r base w s =>
      let n := (k - 0x1000) / 0x100
      let was := s.flag (F.SLK_Sn_CTRL_ENABLE n)
      let s := s.writeFields r base w
      let now := s.flag (F.SLK_Sn_CTRL_ENABLE n)
      if now = was then s
      else if now then s.toTraining n
      else ((if s.energised n then s.stopStall n .emergency 0x0E else s).toTraining n).setLink n Link.off
  else s.plainWrite p off val

/-- WLK_Sn_SLOT (R193): only in IDLE or STOPPED and below the period. -/
def State.wlkWrite (s : State) (p off val : Nat) : State :=
  let k := off % 0x10000
  if 0x1000 ≤ k ∧ k % 0x40 = 8 then
    s.setupWrite p off val fun r base w s =>
      let n := (k - 0x1000) / 0x40
      if s.modeRest n = false then s.setB F.WLK_STATUS_SLOT_REFUSED true
      else if s.get (F.WLK_Sn_TYPE_P n) ≤ w % 16 then s
      else (s.writeFields r base w).refreshSched
  else s.plainWrite p off val

/-- DRO: the receive ring (R316), TUNNEL_MODE (R315). -/
def State.droWrite (s : State) (p off val : Nat) : State :=
  let k := off % 0x10000
  if k = 0x28 then s.rxCfgWrite p true val
  else if 0x30 ≤ k ∧ k < 0x40 then
    s.setupWrite p off val fun r base w s => if s.flag F.DRO_RX_CFG_ENABLE then s else s.writeFields r base w
  else if 0x1000 ≤ k ∧ k % 0x20 = 0 then
    s.setupWrite p off val fun r base w s =>
      let n := (k - 0x1000) / 0x20
      if bitOf w 16 ≠ s.flag (F.DRO_Sn_CFG_TUNNEL_MODE n) ∧ (s.stallCtx n).isSome = true then s.setB F.DRO_STATUS_CFG_REFUSED true
      else s.writeFields r base w
  else s.plainWrite p off val

/-- HRN_HBb_CFG (R377): ENABLE, SOURCE and RAMP at any time, the rest not in RUN; ENABLE 0 ends the drive. -/
def State.bridgeCfg (b : Nat) (r : RegRow) (base w : Nat) (s : State) : State :=
  let run := decide (s.get (F.HRN_HBb_CMD_MODE b) = 1)
  if run && decide (bitsOf w 27 8 ≠ bitsOf (s.rowVal r base) 27 8) then s.setB F.HRN_STATUS_CFG_REFUSED true
  else
    let s := (if run then s.rebase b else s).writeFields r base w
    if s.flag (F.HRN_HBb_CFG_ENABLE b) = false ∧ s.get (F.HRN_HBb_CMD_MODE b) ≠ 0 then s.bridgeOff b 0x46
    else if run then s.settle b else s.showBridge b

/-- HRN: a bridge in RUN keeps its timing; DESAT_V is at least OC_V and CHOP_ON below OV_TRIP (R370, R377, R609). -/
def State.hrnWrite (s : State) (p off val : Nat) : State :=
  let k := off % 0x10000
  let b := (k - 0x1000) / 0x40
  if 0x1000 ≤ k ∧ k < 0x1200 then
    if k % 0x40 = 0 then s.setupWrite p off val (State.bridgeCfg b)
    else
      s.setupWrite p off val fun r base w s =>
        let run := decide (s.get (F.HRN_HBb_CMD_MODE b) = 1)
        if run && decide (k % 0x40 = 4) && decide (w ≠ s.rowVal r base) then s.setB F.HRN_STATUS_CFG_REFUSED true
        else if decide (k % 0x40 = 8) && decide (bitsOf w 23 16 < bitsOf w 31 24) then s
        else
          let s := (if run then s.rebase b else s).writeFields r base w
          if run then s.settle b else s.showBridge b
  else if k = 0x10 ∨ k = 0x18 then
    s.setupWrite p off val fun r base w s => if bitsOf w 25 16 ≤ bitsOf w 9 0 then s else s.writeFields r base w
  else s.plainWrite p off val

/-- AUX (R401): FSW, RIPPLE and DIV of a switching regulator stay. -/
def State.auxWrite (s : State) (p off val : Nat) : State :=
  let k := off % 0x10000
  let n := (k - 0x1000) / 0x40
  if 0x1000 ≤ k ∧ k < 0x1100 then
    if k % 0x40 = 0 then s.setupWrite p off val (State.auxCfgWrite n)
    else
      s.setupWrite p off val fun r base w s =>
        if s.auxSwitching n && decide (k % 0x40 = 4) && decide (w ≠ s.rowVal r base) then s.setB F.AUX_STATUS_CFG_REFUSED true
        else s.writeFields r base w
  else s.plainWrite p off val

/-- LSW (R401). -/
def State.lswWrite (s : State) (p off val : Nat) : State :=
  let k := off % 0x10000
  if 0x1000 ≤ k ∧ k % 0x20 = 0 then s.setupWrite p off val (State.lswCfgWrite ((k - 0x1000) / 0x20)) else s.plainWrite p off val

/-- A write by window. -/
def State.windowWrite (s : State) (p off val : Nat) : State :=
  match off / 0x10000 with
  | 0x0 => s.glbWrite p off val
  | 0x1 => s.pdkWrite p off val
  | 0x2 => s.slkWrite p off val
  | 0x4 => s.wlkWrite p off val
  | 0x7 => s.droWrite p off val
  | 0x8 => s.hrnWrite p off val
  | 0x9 => s.auxWrite p off val
  | 0xA => s.lswWrite p off val
  | 0xB => s.canWrite p off val
  | 0x10 => s.cvuWrite p off val
  | _ => s.plainWrite p off val

/-- Does the register at `off` hold an RWP field? -/
def isRwp (off : Nat) : Bool :=
  match regRowAt off with
  | some r => r.has .rwp
  | none => false

/-! ### The commands -/

/-- REGISTER_WRITE (R46, R51, R574, R609): an aligned 32-bit write of any register by paddock `p`. A register whose writes have a
command of its own does the same here; PDK_NUDGE, whose poll reads host memory, only has its own. -/
def execRegisterWrite (p off val : Nat) (s : State) : Host.Outcome State Fault Refusal :=
  .next (
    if 3 < p then s
    else if off % 4 ≠ 0 ∨ 0x200000 ≤ off then (if s.domainOn 4 then s.emit (.unsupported p) else s)
    else if isLock off then s.lockWrite p off val
    else if isRwp off then s.rwpWrite p off val
    else if off = 0x404 then s.laneCtrlWrite p val
    else if off = 0xF0034 then s.wakeWrite p val
    else if off = 0x10010 then s
    else s.windowWrite p off (val % 2 ^ 32))

/-- RWP_REGISTER_WRITE (R583). -/
def execRwpRegisterWrite (p off val : Nat) (s : State) : Host.Outcome State Fault Refusal :=
  .next (if 3 < p ∨ off % 4 ≠ 0 ∨ 0x200000 ≤ off then s else s.rwpWrite p off val)

/-- LOCK_REGISTER_WRITE (R581): a write of a LOCK register. -/
def execLockRegisterWrite (p off val : Nat) (s : State) : Host.Outcome State Fault Refusal :=
  .next (if 3 < p ∨ isLock off = false then s else s.lockWrite p off val)

/-- GLB_LOCK_ALL_WRITE (R582). -/
def execGlbLockAllWrite (p val : Nat) (s : State) : Host.Outcome State Fault Refusal :=
  .next (s.lockAllWrite p val)

/-- GPIO_SET_WRITE (R587). -/
def execGpioSetWrite (p val : Nat) (s : State) : Host.Outcome State Fault Refusal :=
  .next (if 3 < p then s else s.glbWrite p 0x68 val)

/-- GPIO_CLEAR_WRITE (R587). -/
def execGpioClearWrite (p val : Nat) (s : State) : Host.Outcome State Fault Refusal :=
  .next (if 3 < p then s else s.glbWrite p 0x6C val)

/-- WBG_Mc_FWD_FRAC and WBG_Mc_REV_FRAC, which a read of the _LO latches with _HI (R236). -/
def isFrac (off : Nat) : Bool := decide (0x51000 ≤ off) && decide (off < 0x51D00) && (decide (off % 0x40 = 0x10) || decide (off % 0x40 = 0x1C))

/-- A read of a _HI register: the shadow, once, else the live value (R585). -/
def State.readHi (s : State) (p off : Nat) : State :=
  match (s.pd p).shadows.find? fun x => x.1 = off with
  | some x => (s.modPd p fun d => { d with shadows := d.shadows.filter fun y => y.1 ≠ off }).emit (.readData p off x.2)
  | none => s.emit (.readData p off (s.readWord p off))

/-- WIDE_LO_READ (R585, R236): a read of a _LO register latches its _HI partner into the paddock's shadow; the next read of the _HI
register returns it. Any other register reads as it stands; an off domain is captured (R86). -/
def execWideLoRead (p off : Nat) (s : State) : Host.Outcome State Fault Refusal :=
  .next (
    if 3 < p ∨ s.domainOn 4 = false then s
    else if off % 4 ≠ 0 ∨ 0x200000 ≤ off then s.emit (.unsupported p)
    else if s.domainOn (domainOf off) = false ∧ s.offAccess off = true then (s.emit (.readData p off 0xFFFFFFFF)).offDomain p off false
    else
      match regRowAt off with
      | some r =>
        match r.hi with
        | some h =>
          if r.isHi off then s.readHi p off
          else
            let ho := off + (h - r.off)
            let latch := (ho :: (if isFrac (ho + 4) then [ho + 4] else [])).map fun o => (o, s.readWord p o)
            (s.modPd p fun d => { d with shadows := (d.shadows.filter fun y => !(latch.map Prod.fst).contains y.1) ++ latch }).emit
              (.readData p off (s.readWord p off))
        | none => if isFrac off then s.readHi p off else s.emit (.readData p off (s.readWord p off))
      | none => s.emit (.readData p off 0))

end Sys2Proof.Machine
end

