-- ==== Sys2Proof/Machine/StallLink.lean ====
section
/-!
DEFINITION. The commands of the stall link (R92-R148): the link cycle, the framer's edge check, uplink frames, LOST, training,
keying, configuration, and the SLK opcodes.
-/
namespace Sys2Proof.Machine

/-! ### Downlink (R95-R104) -/

/-- Three bytes of an edge entry (R108). -/
def edgeBytes (e : Option Edge) : List Nat :=
  match e with
  | some x => le 2 x.off ++ [x.cyc * 16 + x.st * 4 + 2]
  | none => [0, 0, 0]

/-- The 36 bytes of an edge block; with HOLD_LAST they are zero too (DESIGN CHOICE, notes/assumptions/134.md: R102 gives only the
frame with neither bit). -/
def blockBytes : Block → List Nat
  | .edges ph => ((List.range 6).map fun k => edgeBytes ((ph.getD k [])[0]?) ++ edgeBytes ((ph.getD k [])[1]?)).flatten
  | .hold => List.replicate 36 0
  | .none => List.replicate 36 0

/-- Must TWO_STEP_OFF be set: edge latch (R113), a Walker two-step off (R211, or a third consecutive miss, R195), or a
Halter emergency stop? -/
def State.twoStepNow (s : State) (n : Nat) : Bool :=
  s.flag (F.SLK_Sn_STATE_EDGE_LATCH n) || (s.walk n).twoStep || decide ((s.halt n).stop = .emergency)

/-- What the frame carries for edges: nothing outside RUN or under EDGE_LATCH (R113); under a two-step off only the two all-off
periods of R212 and R442; in QUIET an empty valid block (R544); else the latched block. -/
def State.frameBlock (s : State) (n : Nat) : Block :=
  if s.linkState n ≠ Link.run ∨ s.flag (F.SLK_Sn_STATE_EDGE_LATCH n) = true then .none
  else if s.twoStepNow n ∧ (s.walk n).allOff = 0 ∧ (s.halt n).allOff = 0 then .none
  else if s.get F.PWR_STATE_STATE = 1 then .edges (List.replicate 6 [])
  else (s.link n).latched

/-- LINK_STATE of the COMMAND word (R121, R141). -/
def State.linkField (s : State) (n : Nat) : Nat :=
  let st := s.linkState n
  if st = Link.lost then (if (s.link n).before = Link.run then 5 else 4) else st - 1

/-- The COMMAND word. -/
def State.command (s : State) (n : Nat) : Nat :=
  let b := s.frameBlock n
  let m := s.mode n
  let run := decide (s.linkState n = Link.run)
  s.linkField n + 8 * b2n (match b with | .edges _ => true | _ => false) + 16 * b2n (decide (b = .hold)) +
    32 * b2n (s.twoStepNow n) + 256 * b2n (run && (s.walk n).closeReq) + 512 * b2n (run && decide (m = 2)) +
    1024 * b2n (run && decide (m = 1)) + 4096 * b2n (decide ((s.link n).resume ≠ 0))

/-- The Halter word (R103): PERMIT, STOP, ORDERLY, ESTOP and the complement; undriven it is 0xFD02 (R454). -/
def State.halterWord (s : State) (n : Nat) : Nat :=
  if s.get F.HLT_FAULT_CAUSE = 3 ∧ s.haltSafe = true then 0xFD02
  else
    let v := b2n (s.flag (F.HLT_Sn_STATE_PERMIT n)) + 2 * b2n (s.flag (F.HLT_Sn_STATE_STOP n)) +
      4 * b2n (s.flag (F.HLT_Sn_STATE_ORDERLY n)) + 16 * b2n (s.flag (F.HLT_Sn_STATE_ESTOP n))
    (255 - v) * 256 + v

/-- PUMP_CMD and VALVE_CMD by link state (R350, R351). -/
def State.cooling (s : State) (n : Nat) : Nat × Nat :=
  let st := s.linkState n
  if !s.hasCurve n && bitOf (s.sealWord n) 6 then (1000, 200)
  else if st = Link.run ∨ st = Link.lost then
    (s.get (F.HRN_Sn_COOL_STATE_PUMP n), s.get (F.HRN_Sn_COOL_VALVE_VALVE n))
  else s.failSafe n

/-- The Halter's decisions as the frame that starts now carries them (R21, R439-R442). -/
def State.halterFrame (s : State) (n : Nat) : State :=
  let p := s.permitNext n
  let h := s.halt n
  let s := s.permitRefused n
  let s := (s.setB (F.HLT_Sn_STATE_PERMIT n) p).setB (F.HLT_Sn_STATE_STOP n) (decide (h.stop = .emergency))
  let s := s.setB (F.HLT_Sn_STATE_ORDERLY n) (decide (h.stop = .orderly) && h.withdrawn)
  (s.setB (F.HLT_Sn_STATE_ESTOP n) (s.estopOn n)).set (F.HLT_Sn_STATE_REFUSE n) (s.refuseBits n)

/-- Applied setpoint and target step down to a fallen ceiling (R169), to zero under the zero grant of COMMIT (R536). -/
def State.clampSet (s : State) (n : Nat) : State :=
  let c := s.allocCeil n
  let a := s.getS (F.YMS_Sn_GRANT_APPLIED n)
  let t := s.getS (F.YMS_Sn_GRANT_TARGET n)
  let cut := fun (x : Int) => if s.pwr.zeroGrant then 0 else if (c : Int) < x then (c : Int) else if x < -(c : Int) then -(c : Int) else x
  let s := s.set (F.YMS_Sn_CEIL_HALTER n) c
  let s := if cut a ≠ a then s.setS (F.YMS_Sn_GRANT_APPLIED n) (cut a) else s
  if cut t ≠ t then s.setS (F.YMS_Sn_GRANT_TARGET n) (cut t) else s

/-- Wrap a frame: sync K28.5 K27.7 as 0xBC 0xFB, type and version, ALIVE, 117 payload bytes, CRC (R95-R98). -/
def wrapFrame (type alive : Nat) (payload : List Nat) : List Nat :=
  let body := [type * 16 + 1, alive] ++ padTo 117 payload
  [0xBC, 0xFB] ++ body ++ le 4 (crc32c body)

/-- COOLING_SETs evaluated since acceptance complete once their values are in a frame (R375). -/
def State.coolSent (s : State) (n : Nat) : State :=
  let ws := s.hrn.coolWait.filter fun w => w.1 = n ∧ w.2.2.2 = true
  let s := (s.modHrn fun h => { h with coolWait := s.hrn.coolWait.filter fun w => !(decide (w.1 = n) && w.2.2.2) })
  ws.foldl (fun s w => s.finish w.2.1 w.2.2.1 0x00 0) s

/-- One stall's link cycle: the ceiling step of R169, the Halter word, the frame of the link state, ALIVE and CYCLE. -/
def State.sendFrame (s : State) (n : Nat) : State :=
  let s := (s.clampSet n).halterFrame n
  let st := s.linkState n
  let alive := (s.link n).aliveDown
  let cyc := s.cycleField
  let s :=
    if st = Link.off ∨ s.domainOn 8 = false then s
    else if st = Link.training then
      let l := s.link n
      let trim := if 2 ≤ l.step then s.get (F.SLK_Sn_LATENCY_LAT_TRIM n) else 0
      s.emit (.frame n (wrapFrame 2 alive ([l.step, 0] ++ le 2 cyc ++ le 2 trim ++ [0, 0] ++ (List.range 109).map Config.prbs7)))
    else
      let t := s.tunSlot n
      let c := t.2.cooling n
      let s := t.2.emit (.frame n (wrapFrame 1 alive (le 2 (t.2.command n) ++ le 2 cyc ++ blockBytes (t.2.frameBlock n) ++
        le 2 (t.2.halterWord n) ++ le 2 c.1 ++ [c.2, 0] ++ t.1)))
      if st = Link.run ∨ st = Link.lost then s.coolSent n else s
  s.modLink n fun l => { l with
    aliveDown := (l.aliveDown + 1) % 256, cyclePrev := l.cycle, cycle := cyc, latched := .none, resume := l.resume - 1 }

/-- LINK_CYCLE_START (R95, R516): VHOLD is sampled (0.1 V), and every present stall's frame leaves, in ascending stall number. -/
def execLinkCycleStart (vhold : Nat) (s : State) : Host.Outcome State Fault Refusal :=
  .next (if s.domainOn 3 = false then s
    else ((forAll s.stallNums (fun n t => t.sendFrame n) s).set F.HAY_HOLDUP_E_VHOLD (min vhold 65535)).seeFinal)

/-! ### The framer's check of an edge block (R112, R113) -/

/-- Time of an edge in 250 ps from the period start. -/
def Edge.time (e : Edge) : Nat := e.cyc * 40000 + e.off

/-- Follow a phase through a period: (both-on seen, other failure, state at the end, last transition time, HS-on time).
`last` and times are integers from the period start; an edge that keeps the state is no transition (R209). -/
def walkEdges (g : Int) : List Edge → Nat → Int → Int → Bool → Bool → Bool × Bool × Nat × Int × Int
  | [], st, last, on, bo, bad => (bo, bad, st, last, on)
  | e :: t, st, last, on, bo, bad =>
    let tm : Int := e.time
    if e.st = st then walkEdges g t st last on bo bad
    else
      let on' := if st = 1 then on + (tm - max last 0) else on
      walkEdges g t e.st tm on' (bo || decide (e.st = 3)) (bad || decide (tm - last < g))

/-- Check one phase (R112): (both-on, other failure, state at the period's end, time since its last transition then). -/
def checkPhase (ty : StallType) (st since : Nat) (es : List Edge) : Bool × Bool × Nat × Nat :=
  let T : Int := ty.period * 40000
  let g : Int := (ty.dtNs + ty.minPulse) * 4
  let range := es.any fun e => decide (40000 ≤ e.off) || decide (ty.period ≤ e.cyc)
  let order := match es with
    | a :: b :: _ => decide (b.time < a.time)
    | _ => false
  let r := walkEdges g es st (-(since : Int)) 0 false false
  let on := if r.2.2.1 = 1 then r.2.2.2.2 + (T - max r.2.2.2.1 0) else r.2.2.2.2
  let long := decide (ty.maxDuty * T < on * 10000)
  (r.1 || es.any (fun e => e.st = 3), range || order || r.2.1 || long, r.2.2.1, (T - r.2.2.2.1).toNat)

/-- A phase switched off at the period start: its time since a transition. -/
def offSince (ty : StallType) (st since : Nat) : Nat := if st = 0 then since + ty.period * 40000 else ty.period * 40000

/-- Latch EDGE_LATCH when more than 16 rejections of either kind fell within the last 1,000 link cycles (R113). -/
def State.edgeLatch (s : State) (n : Nat) : State :=
  let l := s.link n
  if 16 < l.rejBoth.length + l.rejOther.length ∧ s.flag (F.SLK_Sn_STATE_EDGE_LATCH n) = false then
    let s := (s.setB (F.SLK_Sn_STATE_EDGE_LATCH n) true).setB (F.HLT_Sn_LATCH_EDGE_LATCH n) true
    let s := s.raise 0x0204 3 n (le 2 l.rejBoth.length ++ le 2 l.rejOther.length)
    s.stopStall n .emergency 0x0F
  else s

/-- Check every phase of a block; a failed phase becomes one all-off edge and is counted (R112, R113, R208). -/
def State.checkBlock (s : State) (n : Nat) (ty : StallType) (ph : List (List Edge)) : State :=
  let l := s.link n
  let cyc := s.chrono / 2500
  let rs := (List.range 6).map fun k => checkPhase ty (l.phState.getD k 0) (l.phLast.getD k 0) (ph.getD k [])
  let ph' := (List.range 6).map fun k =>
    let r := rs.getD k (false, false, 0, 0)
    if r.1 || r.2.1 then [(⟨0, 0, 0⟩ : Edge)] else ph.getD k []
  let st' := (List.range 6).map fun k => let r := rs.getD k (false, false, 0, 0); if r.1 || r.2.1 then 0 else r.2.2.1
  let la' := (List.range 6).map fun k =>
    let r := rs.getD k (false, false, 0, 0)
    if r.1 || r.2.1 then offSince ty (l.phState.getD k 0) (l.phLast.getD k 0) else r.2.2.2
  let nb := (rs.filter fun r => r.1).length
  let no := (rs.filter fun r => !r.1 && r.2.1).length
  let keep := fun (x : List Nat) => x.filter fun c => decide (cyc < c + 1000)
  let s := s.modLink n fun l => { l with
    latched := .edges ph', phState := st', phLast := la'
    rejBoth := keep l.rejBoth ++ List.replicate nb cyc, rejOther := keep l.rejOther ++ List.replicate no cyc }
  let s := (s.addSat (F.SLK_Sn_CNT_BOTHON n) nb).addSat (F.SLK_Sn_CNT_EDGEREJ n) no
  let s := if nb + no = 0 then s else s.setB F.WLK_STATUS_EDGE_REJECT true
  s.edgeLatch n

/-- A repeated period (R111, R195): a phase that switched in the last period switches again, another only waits on. -/
def State.holdPeriod (s : State) (n : Nat) : State :=
  match s.stallType? n with
  | some ty => s.modLink n fun l => { l with
      latched := .hold, phLast := l.phLast.map fun t => if t < ty.period * 40000 then t else t + ty.period * 40000 }
  | none => s.modLink n fun l => { l with latched := .hold }

/-- A period computation missed its latch (R36, R195): HOLD_LAST, DEADLINE_MISS (0x0401), a stop after two, TWO_STEP_OFF
after three. -/
def State.walkerMiss (s : State) (n : Nat) : State :=
  let k := min ((s.walk n).misses + 1) 3
  let third := decide ((s.walk n).misses = 2)
  let s := s.modWalk n fun w => { w with misses := k, late := false, out_ := .none }
  let s := ((s.incSat (F.WLK_Sn_CNT_MISS n)).incSat F.WLK_CNT_MISS).setB F.WLK_STATUS_MISS true
  let s := s.raise 0x0401 2 n ([k] ++ le 4 (ofSigned 32 (s.walk n).lateBy))
  let s := s.holdPeriod n
  if k = 2 then s.stopStall n .orderly 0x10 else if third then s.startTwoStep n else s

/-- EDGE_BLOCK_LATCH (R19): at t(n) - 1.0 µs the framer latches what the Walker finished, or takes the miss.
With ALLOC in retention the block has no valid edge (R544). -/
def execEdgeBlockLatch (n : Nat) (s : State) : Host.Outcome State Fault Refusal :=
  .next (
    if s.linkState n ≠ Link.run then s
    else if s.domainOn 9 = false then s.modLink n fun l => { l with latched := .edges (List.replicate 6 []), phState := List.replicate 6 0 }
    else if (s.walk n).late then s.walkerMiss n
    else
      match (s.walk n).out_, s.stallType? n with
      | .edges ph, some ty =>
        (s.checkBlock n ty ph).modWalk n fun w => { w with misses := 0, out_ := .none }
      | .hold, _ => (s.holdPeriod n).modWalk n fun w => { w with out_ := .none }
      | b, _ => (s.modLink n fun l => { l with latched := b }).modWalk n fun w => { w with out_ := .none })

/-! ### Uplink (R99, R114-R117, R141, R142) -/

/-- The type a frame must have in the present link state (R99, R121). -/
def acceptsType (st ty : Nat) : Bool :=
  if st = Link.training then decide (ty = 2) else if st = Link.identify then decide (ty = 3) else decide (ty = 1)

/-- Is the received frame valid (R99)? `bytes` are its 125 characters; 0-1 are the sync. -/
def State.frameValid (s : State) (n : Nat) (bytes : List Nat) : Bool :=
  let l := s.link n
  let ty := byteAt bytes 2 / 16
  let alive := match l.lastAlive with
    | some a => decide (byteAt bytes 3 = (a + l.since + 1) % 256)
    | none => true
  acceptsType (s.linkState n) ty && decide (byteAt bytes 2 % 16 = 1) && alive &&
    (decide (ty ≠ 1) || decide (leAt bytes 6 2 = l.cyclePrev))

/-- The CRC of a received frame (R97). -/
def frameCrcOk (bytes : List Nat) : Bool :=
  decide (bytes.length = 125) && decide (crc32c ((bytes.drop 2).take 119) = leAt bytes 121 4)

/-- Keep what a frame of cycle `k` of a millisecond brings to metering (R136, R137): its sample, in RUN only (R135), and its MAC
fragment, or neither. Cycle 0 starts the next millisecond, whose key (after its generation) is the one in force then. -/
def Slk.meter (l : Slk) (k : Nat) (x : Option (List Nat)) (frag : Option Nat) (gen : Nat) : Slk :=
  let l := if k = 0 then { l with
      msPast := l.msNow, keyPast := l.keyNow, msNow := List.replicate 100 none, mac := List.replicate 8 none, keyNow := l.keys.map (gen :: ·) }
    else l
  { l with
    msNow := modAt l.msNow k fun _ => x
    mac := if k < 8 then modAt l.mac k (fun _ => frag) else l.mac }

/-- An invalid frame or none (R118, R138, R141): a message in progress is lost, the sample is missing, and the third
consecutive one loses the link. -/
def State.uplinkInvalid (s : State) (n : Nat) : State :=
  let k := (s.link n).cyclePrev % 128
  let s := s.modLink n fun l => { l with
    since := l.since + 1, validRun := 0, invalidRun := l.invalidRun + 1, samples := (⟨false, 0, 0, []⟩ :: l.samples).take 16
    echoes := 0, identRun := 0
    tun := l.tun.map fun t => { t with rx := none } }
  let s := s.modLink n (·.meter k none none (s.get (F.SLK_Sn_KEYGEN n)))
  if 3 ≤ (s.link n).invalidRun then s.linkLost n 0 else s

/-- Stop a stall where a cause holds. -/
def State.stopIf (s : State) (c : Bool) (n : Nat) (kind : StopKind) (cause : Nat) : State :=
  if c then s.stopStall n kind cause else s

/-- The causes the Halter reads from a valid frame (R438, R445), each made as its row says. -/
def State.halterChecks (s : State) (n : Nat) : State :=
  let h := (s.link n).hstat
  let e := s.energised n
  let sw := s.sealWord n
  let s := s.modHalt n fun x => { x with hot := s.cableHot n 0 || (s.cableWarm n && x.hot) }
  let s := s.stopIf (bitOf h 8 && e) n .emergency 0x02
  let s := s.stopIf (bitOf h 13 && e) n .emergency 0x03
  let s := s.stopIf (bitOf h 11 && s.contactorClosed n) n .emergency 0x04
  let s := s.stopIf (bitOf sw 5 && decide (3 ≤ (s.halt n).imd) && s.contactorClosed n && decide (s.mode n ≠ 1)) n .emergency 0x04
  let s := s.stopIf ((bitOf h 10 || s.cableHot n 100) && e) n .emergency 0x05
  let s := s.stopIf (s.cableHot n 0 && e) n .orderly 0x06
  let s := if bitOf h 12 then (s.setB (F.HLT_Sn_LATCH_WELD n) true).stopIf e n .emergency 0x0A else s
  let s := s.stopIf (bitOf sw 6 && bitOf h 14 && e) n .orderly 0x0B
  let s := s.stopIf (bitOf h 9 && e) n .orderly 0x0C
  let s := s.stopIf (decide (3 ≤ (s.halt n).overI)) n .emergency 0x07
  s.stopIf (decide (3 ≤ (s.halt n).overV)) n .emergency 0x08

/-- The sample checks of R438: consecutive samples above 1.10 times the current ceiling and 1.05 times the voltage
ceiling, and since when above 1.02 times. -/
def State.sampleChecks (s : State) (n : Nat) (x : Sample) : State :=
  let id := (s.link n).ident
  let c := s.checkCeil n
  let i := x.i.natAbs * id.ifs * 100
  let v := x.v.toNat * id.vfs * 100
  s.modHalt n fun h => { h with
    overI := if 110 * c * 2 ^ 23 < i then h.overI + 1 else 0
    overV := if 105 * s.get (F.HLT_Sn_CEIL_V n) * 2 ^ 23 < v then h.overV + 1 else 0
    sustained := if 102 * c * 2 ^ 23 < i then some (h.sustained.getD s.chrono) else none }

/-- Take the housekeeping value of a frame (R117) and count insulation values below the limit with the contactors closed and IMD_ENABLE 0 (R445 0x04). -/
def State.takeHk (s : State) (n idx flags val : Nat) : State :=
  let ok := decide (flags % 2 = 0)
  let old := match (s.link n).hk.find? fun e => e.1 = idx with
    | some e => e.2.value
    | none => 0
  let s := s.modLink n fun l => { l with
    hk := (idx, ⟨if ok then val else old, ok, s.chrono⟩) :: l.hk.filter fun e => e.1 ≠ idx }
  if idx = 8 ∧ ok then
    let lim := match profileRow (s.sealWord n % 16) with
      | some r => r.2.2.1
      | none => 0
    let live := s.contactorClosed n && decide (s.mode n ≠ 1)
    s.modHalt n fun h => { h with imd := if val < lim ∧ live = true then h.imd + 1 else 0 }
  else if idx ≤ 1 ∧ ok = false then s.sensorLost n idx
  else s

/-- Take the tunnel fragment of a frame (R118): the message it completes goes to link management (channel 0), is held in
QUIET (R544), or waits for the Drover (channels 1 to 3, in RUN only, R567). -/
def State.takeTun (s : State) (n : Nat) (bytes : List Nat) : State :=
  let h := byteAt bytes 16
  let ch := h % 16
  if 3 < ch ∨ s.tunEnabled n ch = false then s
  else
    let r := ((s.link n).tun.getD ch Tun.init).receive (bitOf h 4) (bitOf h 5) (leAt bytes 18 2)
      ((bytes.drop 20).take (min (byteAt bytes 17) 83))
    let s := s.modLink n fun l => { l with tun := modAt l.tun ch fun _ => r.2 }
    match r.1 with
    | none => s
    | some m =>
      if ch = 0 then s.modLink n fun l => { l with mgmtIn := l.mgmtIn ++ [m] }
      else if s.linkState n ≠ Link.run then
        if s.flag (F.DRO_Sn_CFG_TUNNEL_MODE n) then s.incSat F.DRO_RX_LOST else s
      else
        let cut := if s.get F.PWR_STATE_STATE = 1 then (s.link n).heldTun.length - 3 else 0
        s.modLink n fun l => { l with heldTun := (l.heldTun ++ [(ch, m, s.chrono)]).drop cut }

/-- SEAL in RUN (R116) and the re-derived causes in QUARANTINE (R134, R135). -/
def State.sealCheck (s : State) (n sealIn : Nat) : State :=
  let st := s.linkState n
  if st = Link.run ∧ sealIn ≠ s.sealWord n then
    (s.stopStall n .orderly 0x0D).quarantine n (4 + 16 * b2n (bitOf sealIn 7))
  else if st = Link.quarantine then
    let c := s.get (F.SLK_Sn_QCAUSE n)
    let c := setBitOf c 2 ((s.rec? n).committed && decide (sealIn ≠ s.sealWord n))
    let c := setBitOf c 4 (bitOf sealIn 7)
    (s.set (F.SLK_Sn_QCAUSE n) c).quarantineExit n
  else s

/-- A valid RUN frame: samples, status, housekeeping, MAC fragment, tunnel and the checks made from them. While RESUME frames are
still to be sent LINK_LOST_LATCH is the latch they clear (R142). -/
def State.uplinkRun (s : State) (n : Nat) (bytes : List Nat) : State :=
  let st := leAt bytes 4 2
  let hs := leAt bytes 8 2
  let k := leAt bytes 6 2 % 128
  let x : Sample := { valid := true, v := toSigned 24 (leAt bytes 115 3), i := toSigned 24 (leAt bytes 118 3)
                      iph := (List.range 6).map fun j => toSigned 16 (leAt bytes (103 + 2 * j) 2) }
  let old := (s.link n).status
  let quiet := bitOf st 2 && !bitOf st 3
  let s := s.modLink n fun l => { l with
    status := st, hstat := hs, samples := (x :: l.samples).take 16
    validRun := if s.linkState n = Link.lost && !quiet then 0 else l.validRun
  }
  let legal := (bytes.drop 115).take 6 ++ [b2n (bitOf st 3)]
  let s := s.modLink n (·.meter k (if s.linkState n = Link.run then some legal else none) (some (leAt bytes 14 2))
    (s.get (F.SLK_Sn_KEYGEN n)))
  let s := s.set (F.SLK_Sn_SEAL_REPORTED n) (hs % 256)
  let s := if bitOf st 0 then s.incSat (F.SLK_Sn_CNT_DLMISS n) else s
  let s := s.takeHk n (byteAt bytes 10 % 32) (byteAt bytes 11) (leAt bytes 12 2)
  let s := s.takeTun n bytes
  let s := if (bitOf old 7 != bitOf st 7 || bitOf old 6 != bitOf st 6) && !(s.link n).termFaultRound then
      (s.modLink n fun l => { l with termFaultRound := true }).raise 0x0409 2 n (le 2 st)
    else s
  let s := (s.sampleChecks n x).sealCheck n (hs % 256)
  let s := (s.halterChecks n).dropClose n false
  let s := if bitOf st 1 && decide (s.linkState n ≠ Link.lost) && decide ((s.link n).resume = 0) then s.linkLost n 1 else s
  s.linkCommanded n

/-- A valid IDENT frame (R126); with LINK_LOST_LATCH set it takes the link back to TRAINING (R141). -/
def State.uplinkIdent (s : State) (n : Nat) (b : List Nat) : State :=
  let id : Ident := { serial := leAt b 8 8, maker := leAt b 16 2, model := leAt b 18 2, hw := leAt b 20 2, fw := leAt b 22 2,
                      sealW := byteAt b 24, phases := byteAt b 25 % 8, epoch := leAt b 26 4, vfs := leAt b 30 2,
                      ifs := leAt b 32 2, frontEnds := leAt b 34 2, hkMap := leAt b 36 4, fp := (b.drop 40).take 32
                      raw := (b.drop 8).take 64 }
  let s := s.modLink n fun l => { l with ident := id, identRun := l.identRun + 1, status := leAt b 4 2 }
  let s := ((s.set (F.SLK_Sn_SEAL_REPORTED n) id.sealW).set (F.SLK_Sn_EPOCH_TERM n) id.epoch).set (F.SLK_Sn_SERIAL n) id.serial
  let w := fun i => leAt id.fp (4 * i) 4
  let s := ((((((((s.set (F.SLK_Sn_FP0 n) (w 0)).set (F.SLK_Sn_FP1 n) (w 1)).set (F.SLK_Sn_FP2 n) (w 2)).set (F.SLK_Sn_FP3 n) (w 3)).set
    (F.SLK_Sn_FP4 n) (w 4)).set (F.SLK_Sn_FP5 n) (w 5)).set (F.SLK_Sn_FP6 n) (w 6)).set (F.SLK_Sn_FP7 n) (w 7))
  if bitOf (leAt b 4 2) 1 then s.linkLost n 1 else s

/-- A valid TRAIN frame (R122-R124): the echoed STEP and LAT_TRIM, and TURN_NS. -/
def State.uplinkTrain (s : State) (n : Nat) (b : List Nat) : State :=
  let l := s.link n
  let echo := decide (byteAt b 4 = 2) && decide (leAt b 8 2 = s.get (F.SLK_Sn_LATENCY_LAT_TRIM n)) && decide (l.step = 2)
  s.modLink n fun l => { l with turn := leAt b 10 2, echoes := if echo then l.echoes + 1 else 0 }

/-- UPLINK_FRAME_RECEIVE (R99): a frame arrives on stall `n`, or its time passes without one. `sync` is 0 for the uplink
sync at its place, 1 for the downlink pattern (R96), 2 for none. CROSSED stands until a Cold reset (DESIGN CHOICE,
notes/assumptions/134.md: R96 does not say what clears it). -/
def execUplinkFrameReceive (n sync : Nat) (bytes : List Nat) (s : State) : Host.Outcome State Fault Refusal :=
  .next (
    if s.hasStall n = false ∨ s.domainOn 8 = false ∨ s.linkState n = Link.off then s
    else if sync = 1 then ((s.setB (F.SLK_Sn_STATE_CROSSED n) true).incSat (F.SLK_Sn_CNT_INVALID n)).uplinkInvalid n
    else if sync ≠ 0 then (s.incSat (F.SLK_Sn_CNT_INVALID n)).uplinkInvalid n
    else if frameCrcOk bytes = false then (s.incSat (F.SLK_Sn_CNT_CRC n)).uplinkInvalid n
    else if s.linkState n = Link.lost ∧ byteAt bytes 2 / 16 = 2 then s.toTraining n
    else if s.frameValid n bytes = false then (s.incSat (F.SLK_Sn_CNT_INVALID n)).uplinkInvalid n
    else
      let s := s.modLink n fun l => { l with
        lastAlive := some (byteAt bytes 3), since := 0, validRun := l.validRun + 1, invalidRun := 0 }
      let ty := byteAt bytes 2 / 16
      if ty = 2 then s.uplinkTrain n bytes else if ty = 3 then s.uplinkIdent n bytes else s.uplinkRun n bytes)

/-- LINK_LOST_ENTRY (R141): `why` 0 three consecutive invalid uplink frames, 1 LINK_LOST_LATCH. -/
def execLinkLostEntry (n why : Nat) (s : State) : Host.Outcome State Fault Refusal :=
  .next (s.linkLost n why)

/-- LINK_LOST_RECOVER (R142): after 100 consecutive valid frames with switches off and contactors open the link returns to
the state it held, with RESUME in the next 8 frames. -/
def execLinkLostRecover (n : Nat) (s : State) : Host.Outcome State Fault Refusal :=
  .next (
    if s.linkState n = Link.lost ∧ 100 ≤ (s.link n).validRun then
      let b := (s.link n).before
      let s := (s.setLink n b).modLink n fun l => { l with resume := 8 }
      if b = Link.quarantine then s.quarantineExit n else s.refreshSched
    else s)

/-- LINK_LOST_TIMEOUT (R142): 100 ms without a valid uplink frame take the link from LOST to TRAINING. -/
def execLinkLostTimeout (n : Nat) (s : State) : Host.Outcome State Fault Refusal :=
  .next (if s.linkState n = Link.lost then s.toTraining n else s)

/-! ### Training (R122-R126) -/

/-- LINK_TRAIN_LOCK (R123): after 16 consecutive valid TRAIN frames STEP 1 starts. -/
def execLinkTrainLock (n : Nat) (s : State) : Host.Outcome State Fault Refusal :=
  .next (
    if s.linkState n = Link.training ∧ (s.link n).step = 0 ∧ 16 ≤ (s.link n).validRun then
      s.modLink n fun l => { l with step := 1, trips := [] }
    else s)

/-- LINK_MEASURE_DONE (R123, R124): 64 round trips are measured (`total` is their sum in ns) and `pipe` is the device's own
pipeline in ns; D is half of what is left of the mean after TURN_NS, LAT_TRIM is 2,000 - D. Above 1,900 ns training starts again
with STEP 0, and a good measurement clears RANGE (DESIGN CHOICE, notes/assumptions/134.md). -/
def execLinkMeasureDone (n total pipe : Nat) (s : State) : Host.Outcome State Fault Refusal :=
  .next (
    if s.linkState n = Link.training ∧ (s.link n).step = 1 then
      let d := (Config.rnd ((total : Int) - 64 * (s.link n).turn - 64 * pipe) 128).toNat
      let s := s.set (F.SLK_Sn_LATENCY_D n) (min d 65535)
      if 1900 < d then (s.setB (F.SLK_Sn_STATE_RANGE n) true).modLink n fun l => { l with step := 0, validRun := 0 }
      else
        ((s.setB (F.SLK_Sn_STATE_RANGE n) false).set (F.SLK_Sn_LATENCY_LAT_TRIM n) (2000 - d)).modLink n
          fun l => { l with step := 2, echoes := 0 }
    else s)

/-- LINK_TRIM_ECHOED (R124): 16 echoes of STEP 2 and LAT_TRIM start STEP 3. -/
def execLinkTrimEchoed (n : Nat) (s : State) : Host.Outcome State Fault Refusal :=
  .next (
    if s.linkState n = Link.training ∧ (s.link n).step = 2 ∧ 16 ≤ (s.link n).echoes then
      s.modLink n fun l => { l with step := 3 }
    else s)

/-- LINK_STEP3_DONE (R124): after 16 cycles of STEP 3 both ends switch to the frame types of IDENTIFY. -/
def execLinkStep3Done (n : Nat) (s : State) : Host.Outcome State Fault Refusal :=
  .next (
    if s.linkState n = Link.training ∧ (s.link n).step = 3 then
      (s.setLink n Link.identify).modLink n fun l => { l with identRun := 0 }
    else s)

/-- LINK_IDENT_DONE (R126, R127): after 8 IDENT frames the device enters KEYING and sends KEY_OFFER. -/
def execLinkIdentDone (n : Nat) (s : State) : Host.Outcome State Fault Refusal :=
  .next (
    if s.linkState n = Link.identify ∧ 8 ≤ (s.link n).identRun then
      ((s.setLink n Link.keying).modLink n fun l => { l with ctrDown := 0, ctrUp := 0, keys := none }).sendOffer n
    else s)

/-! ### Keying and configuration (R127-R135) -/

/-- Take the first waiting management message of a type. -/
def State.mgmtTake (s : State) (n type : Nat) : Option (List Nat) × State :=
  match (s.link n).mgmtIn.find? fun m => byteAt m 0 = type with
  | some m => (some m, s.modLink n fun l => { l with mgmtIn := l.mgmtIn.erase m })
  | none => (none, s)

/-- KEY_RESPONSE_RECEIVE (R128): the response goes to the Tack Room for dual verification; only one that answers an offer
counts. -/
def execKeyResponseReceive (n : Nat) (s : State) : Host.Outcome State Fault Refusal :=
  .next (
    let r := s.mgmtTake n 0x02
    match r.1 with
    | some m =>
      if s.awaits n 0x01 = true ∧ (s.linkState n = Link.keying ∨ (s.link n).rekeying) then
        (r.2.mgmtAnswered n).modLink n fun l => { l with response := some m }
      else r.2
    | none => s)

/-- KEYING_VERIFY_DONE (R128-R130, R132): the response's keys must have the fingerprint of IDENT and both signatures must
verify over H; the keys are then derived and KEY_CONFIRM is sent, otherwise keying fails. -/
def execKeyingVerifyDone (n : Nat) (_fp _sig : Computed) (s : State) : Host.Outcome State Fault Refusal :=
  .next (
    match (s.link n).response with
    | none => s
    | some m =>
      if s.sigBusy 1 then s
      else if s.fpMatches n m = false then s.keyingFail n 1
      else if s.sigsValid n m = false then s.keyingFail n 0
      else
        let keys := s.linkKeys n m
        let re := (s.link n).rekeying
        let s := s.modLink n fun l => { l with
          response := none
          keys := if re then l.keys else some keys
          newKeys := if re then some (keys, 0, false) else none }
        let s := if re then s else s.set (F.SLK_Sn_KEYGEN n) ((s.get (F.SLK_Sn_KEYGEN n) + 1) % 256)
        s.sendMgmt n 0x03 true (s.confirmBody n))

/-- KEY_CONFIRM_ACK_RECEIVE (R130, R133, R134): a copy of the KEY_CONFIRM body under the keys in force. At a re-key the new keys
wait for SWITCH_MS; otherwise the terminal is compared with the committed record and gets CONFIG or QUARANTINE. -/
def execKeyConfirmAckReceive (n : Nat) (_tag : Computed) (s : State) : Host.Outcome State Fault Refusal :=
  .next (
    let r := s.mgmtTake n 0x04
    match r.1 with
    | none => s
    | some m =>
      if s.awaits n 0x03 = false ∨ s.mgmtOpen n m ≠ (s.link n).mgmt.map (List.drop 2) then r.2
      else
        let s := (r.2.mgmtAnswered n).modLink n fun l => { l with ctrUp := leAt m 4 8 }
        if (s.link n).rekeying then s.modLink n fun l => { l with newKeys := l.newKeys.map fun k => (k.1, k.2.1, true) }
        else if s.linkState n ≠ Link.keying then s
        else
          let c := s.compareCauses n
          if c = 0 then s.sendConfig n else s.quarantine n c)

/-- CONFIG_ACK_RECEIVE (R133, R134): result 0 commits the record, 1 and 2 quarantine the stall. -/
def execConfigAckReceive (n : Nat) (_tag : Computed) (s : State) : Host.Outcome State Fault Refusal :=
  .next (
    let r := s.mgmtTake n 0x11
    match r.1 with
    | none => s
    | some m =>
      match s.mgmtOpen n m with
      | none => r.2
      | some b =>
        if s.awaits n 0x10 = false ∨ s.linkState n ≠ Link.configuring ∨ leAt b 0 4 ≠ s.cfgEpoch n then r.2
        else
          let s := (r.2.mgmtAnswered n).modLink n fun l => { l with ctrUp := leAt m 4 8 }
          match byteAt b 4 with
          | 0 => s.commitRecord n
          | 2 => s.quarantine n 32
          | _ => s.quarantine n 64)

/-- The record a store writes for stall `n`. -/
def Job.recOf (n : Nat) : Job → Option RecEntry
  | .stallRec m e => if m = n then some e else none
  | _ => none

/-- LINK_RECORD_COMMITTED (R133): the record's settings-journal entry is durable, and a link that waits for it enters RUN. -/
def execLinkRecordCommitted (n : Nat) (s : State) : Host.Outcome State Fault Refusal :=
  .next (
    match s.hay.running.find? fun x => (x.job.recOf n).isSome with
    | some st =>
      let s := s.modHay fun h => { h with running := s.hay.running.filter fun x => x.id ≠ st.id }
      match st.job.recOf n with
      | some e => s.recDurable n e
      | none => s
    | none => s)

/-- MGMT_RETRY_TIMEOUT (R131): an unanswered message is repeated, and after five attempts the link returns to TRAINING
(a re-key only fails). -/
def execMgmtRetryTimeout (n : Nat) (s : State) : Host.Outcome State Fault Refusal :=
  .next (
    match (s.link n).mgmt with
    | none => s
    | some m =>
      if (s.link n).attempts < 5 then
        (s.tunSend n 0 m).modLink n fun l => { l with attempts := l.attempts + 1 }
      else if (s.link n).rekeying ∧ byteAt m 0 ≠ 0x10 then s.keyingFail n 2
      else if s.linkState n = Link.keying then (s.keyingFail n 2).toTraining n
      else s.toTraining n)

/-- KEYING_RETRY_TIMER (R128): 10 s after a keying failure the device retries from KEY_OFFER. -/
def execKeyingRetryTimer (n : Nat) (s : State) : Host.Outcome State Fault Refusal :=
  .next (
    if s.linkState n = Link.keying ∧ (s.link n).keyFailed then
      (s.modLink n fun l => { l with keyFailed := false }).sendOffer n
    else s)

/-- REKEY_TIMER (R132): a re-key starts in RUN. -/
def execRekeyTimer (n : Nat) (s : State) : Host.Outcome State Fault Refusal :=
  .next (
    if s.linkState n = Link.run ∧ (s.link n).rekeying = false then
      (s.modLink n fun l => { l with rekeying := true }).sendOffer n
    else s)

/-- KEY_SWITCH (R132): at the start of SWITCH_MS both ends change their keys; MSG_CTR goes on counting. -/
def execKeySwitch (n : Nat) (s : State) : Host.Outcome State Fault Refusal :=
  .next (
    match (s.link n).newKeys with
    | some k =>
      if k.2.2 then
        (s.modLink n fun l => { l with keys := some k.1, newKeys := none, rekeying := false }).set
          (F.SLK_Sn_KEYGEN n) ((s.get (F.SLK_Sn_KEYGEN n) + 1) % 256)
      else s.keyingFail n 2
    | none => s)

/-! ### Opcodes (R145-R147) -/

/-- STALL_CONFIG (R145): refusals in the order of the rule, then the epoch, type and fingerprint are taken and the causes
it is listed against are cleared. -/
def execStallConfig (p tag : Nat) (s : State) : Host.Outcome State Fault Refusal :=
  .next (s.take p tag 0x0201 fun d s =>
    let n := d.target
    let ep := d.arg 24 4
    let ty := d.arg 28 1
    let fp := (d.param.drop 8).take 32
    let st := s.linkState n
    if s.contactorClosed n then s.finish p d.num 0x42 0
    else if st = Link.identify ∨ st = Link.keying ∨ st = Link.configuring then s.finish p d.num 0x05 0
    else if ep = s.get (F.SLK_Sn_EPOCH_REC n) ∨ s.types.length ≤ ty then s.finish p d.num 0x44 0
    else
      let s := s.modRec n fun r => { r with nextEpoch := ep, nextType := ty, nextFp := fp }
      let id := (s.link n).ident
      let c := s.get (F.SLK_Sn_QCAUSE n)
      let c := setBitOf (setBitOf c 0 false) 3 false
      let c := if fp = id.fp then setBitOf c 1 false else c
      let fits := match s.types[ty]? with
        | some t => decide (t.phases = id.phases)
        | none => false
      let c := if fits then setBitOf (setBitOf c 5 false) 6 false else c
      let s := (s.set (F.SLK_Sn_QCAUSE n) c).finish p d.num 0x00 0
      if st = Link.run then s.sendConfig n else s.quarantineExit n)

/-- SEAL_ACK (R146): inside the submitter's change window, the byte equal to the reported seal; the seal is committed once
its change-log entry is durable. -/
def execSealAck (p tag : Nat) (s : State) : Host.Outcome State Fault Refusal :=
  .next (s.take p tag 0x0202 fun d s =>
    let n := d.target
    let v := d.arg 24 1
    let st := s.linkState n
    if s.ownsWindow p = false then s.finish p d.num 0x40 0
    else if st = Link.off ∨ st = Link.training ∨ st = Link.lost then s.finish p d.num 0x43 0
    else if v ≠ s.get (F.SLK_Sn_SEAL_REPORTED n) then s.finish p d.num 0x41 0
    else
      let body := le 2 0x0202 ++ le 2 n ++ padTo 40 [s.sealWord n] ++ padTo 40 [v]
      let r := s.logChange 3 p 0x0202 body (.sealAck p d.num n v)
      if r.1 = 0 then r.2 else r.2.finish p d.num r.1 0)

/-- LINK_RETRAIN (R147): an energised stall is first stopped in order, and the link then returns to TRAINING. -/
def execLinkRetrain (p tag : Nat) (s : State) : Host.Outcome State Fault Refusal :=
  .next (s.take p tag 0x0203 fun d s =>
    let n := d.target
    if s.linkState n = Link.off then s.finish p d.num 0x43 0
    else
      let s := s.modLink n fun l => { l with retrain := l.retrain ++ [(p, d.num, false)] }
      if s.linkEnergised n then s.stopStall n .orderly 0x16 else s.toTraining n)

/-- LINK_DISABLE (R147): an energised stall is first stopped in order; then ENABLE is cleared and the link goes to OFF. -/
def execLinkDisable (p tag : Nat) (s : State) : Host.Outcome State Fault Refusal :=
  .next (s.take p tag 0x0204 fun d s =>
    let n := d.target
    let s := s.modLink n fun l => { l with disable := l.disable ++ [(p, d.num)] }
    if s.linkEnergised n then s.stopStall n .orderly 0x16 else s.toTraining n)

/-- LINK_RETRAIN_TIMEOUT (R147): 2 s after its acceptance the oldest LINK_RETRAIN still waiting completes with TIMEOUT. -/
def execLinkRetrainTimeout (n : Nat) (s : State) : Host.Outcome State Fault Refusal :=
  .next (
    match (s.link n).retrain with
    | r :: t => (s.modLink n fun l => { l with retrain := t }).finish r.1 r.2.1 0x06 0
    | [] => s)

end Sys2Proof.Machine
end

