-- ==== Sys2Proof/Machine/Dispatch.lean ====
section
/-!
DEFINITION. The dispatch: one arm per command, each one direct call of its meaning.
-/
namespace Sys2Proof.Machine

def exec (cmd : Instr) (s : State) : Host.Outcome State Fault Refusal :=
  match cmd with
  | .doorbellPoll p dbs slots => Sys2Proof.Machine.execDoorbellPoll p dbs slots s
  | .descriptorStart p tag => Sys2Proof.Machine.execDescriptorStart p tag s
  | .interruptCoalesceTimeout p ring => Sys2Proof.Machine.execInterruptCoalesceTimeout p ring s
  | .ringDmaError p ring => Sys2Proof.Machine.execRingDmaError p ring s
  | .ringEnableWrite p ring val => Sys2Proof.Machine.execRingEnableWrite p ring val s
  | .ringDisableWrite p ring val => Sys2Proof.Machine.execRingDisableWrite p ring val s
  | .pdkNudge p mask dbs slots => Sys2Proof.Machine.execPdkNudge p mask dbs slots s
  | .paddockFlr p => Sys2Proof.Machine.execPaddockFlr p s
  | .portPerst p => Sys2Proof.Machine.execPortPerst p s
  | .bar0UnsupportedAccess p => Sys2Proof.Machine.execBar0UnsupportedAccess p s
  | .offDomainRegisterAccess p off val write => Sys2Proof.Machine.execOffDomainRegisterAccess p off val write s
  | .registerWrite p off val => Sys2Proof.Machine.execRegisterWrite p off val s
  | .rwpRegisterWrite p off val => Sys2Proof.Machine.execRwpRegisterWrite p off val s
  | .lockRegisterWrite p off val => Sys2Proof.Machine.execLockRegisterWrite p off val s
  | .glbLockAllWrite p val => Sys2Proof.Machine.execGlbLockAllWrite p val s
  | .wideLoRead p off => Sys2Proof.Machine.execWideLoRead p off s
  | .gpioSetWrite p val => Sys2Proof.Machine.execGpioSetWrite p val s
  | .gpioClearWrite p val => Sys2Proof.Machine.execGpioClearWrite p val s
  | .pwrWakeNow p val => Sys2Proof.Machine.execPwrWakeNow p val s
  | .laneResetWrite p val => Sys2Proof.Machine.execLaneResetWrite p val s
  | .laneReadmitWrite p val => Sys2Proof.Machine.execLaneReadmitWrite p val s
  | .auxEnableClearWrite p n val => Sys2Proof.Machine.execAuxEnableClearWrite p n val s
  | .lswEnableClearWrite p c val => Sys2Proof.Machine.execLswEnableClearWrite p c val s
  | .canModeWrite p n val => Sys2Proof.Machine.execCanModeWrite p n val s
  | .cvuConfigWrite p u k val => Sys2Proof.Machine.execCvuConfigWrite p u k val s
  | .cvuAliveCfgWrite p u val => Sys2Proof.Machine.execCvuAliveCfgWrite p u val s
  | .droRxEnableWrite p val => Sys2Proof.Machine.execDroRxEnableWrite p val s
  | .canRxEnableWrite p val => Sys2Proof.Machine.execCanRxEnableWrite p val s
  | .nop p tag => Sys2Proof.Machine.execNop p tag s
  | .laneHandover p tag => Sys2Proof.Machine.execLaneHandover p tag s
  | .fwActivate p tag => Sys2Proof.Machine.execFwActivate p tag s
  | .charterLoad p tag img keyBad => Sys2Proof.Machine.execCharterLoad p tag img keyBad s
  | .stallConfig p tag => Sys2Proof.Machine.execStallConfig p tag s
  | .sealAck p tag => Sys2Proof.Machine.execSealAck p tag s
  | .linkRetrain p tag => Sys2Proof.Machine.execLinkRetrain p tag s
  | .linkDisable p tag => Sys2Proof.Machine.execLinkDisable p tag s
  | .stallPolicy p tag => Sys2Proof.Machine.execStallPolicy p tag s
  | .cabinetEnable p tag => Sys2Proof.Machine.execCabinetEnable p tag s
  | .cabinetRetire p tag => Sys2Proof.Machine.execCabinetRetire p tag s
  | .nodeLimit p tag => Sys2Proof.Machine.execNodeLimit p tag s
  | .allocQuery p tag => Sys2Proof.Machine.execAllocQuery p tag s
  | .stallStop p tag => Sys2Proof.Machine.execStallStop p tag s
  | .loopTune p tag => Sys2Proof.Machine.execLoopTune p tag s
  | .calApply p tag => Sys2Proof.Machine.execCalApply p tag s
  | .checkpointNow p tag => Sys2Proof.Machine.execCheckpointNow p tag s
  | .pulseInputMode p tag => Sys2Proof.Machine.execPulseInputMode p tag s
  | .timeSet p tag => Sys2Proof.Machine.execTimeSet p tag s
  | .readingTake p tag => Sys2Proof.Machine.execReadingTake p tag s
  | .recordFetch p tag => Sys2Proof.Machine.execRecordFetch p tag s
  | .prepayCredit p tag => Sys2Proof.Machine.execPrepayCredit p tag s
  | .prepayDebit p tag => Sys2Proof.Machine.execPrepayDebit p tag s
  | .prepayQuery p tag => Sys2Proof.Machine.execPrepayQuery p tag s
  | .sessionAuthorize p tag data => Sys2Proof.Machine.execSessionAuthorize p tag data s
  | .sessionStop p tag => Sys2Proof.Machine.execSessionStop p tag s
  | .sessionQuery p tag => Sys2Proof.Machine.execSessionQuery p tag s
  | .tunnelSend p tag data => Sys2Proof.Machine.execTunnelSend p tag data s
  | .allowLookup p tag uncorr => Sys2Proof.Machine.execAllowLookup p tag uncorr s
  | .bridgeSet p tag => Sys2Proof.Machine.execBridgeSet p tag s
  | .coolingSet p tag => Sys2Proof.Machine.execCoolingSet p tag s
  | .hrnFaultClear p tag => Sys2Proof.Machine.execHrnFaultClear p tag s
  | .auxSet p tag => Sys2Proof.Machine.execAuxSet p tag s
  | .lswSet p tag => Sys2Proof.Machine.execLswSet p tag s
  | .lswFaultClear p tag => Sys2Proof.Machine.execLswFaultClear p tag s
  | .canSend p tag data => Sys2Proof.Machine.execCanSend p tag data s
  | .canRecover p tag => Sys2Proof.Machine.execCanRecover p tag s
  | .safetyProofTest p tag => Sys2Proof.Machine.execSafetyProofTest p tag s
  | .serviceClear p tag => Sys2Proof.Machine.execServiceClear p tag s
  | .imageStage p tag img keyBad => Sys2Proof.Machine.execImageStage p tag img keyBad s
  | .epochSwitch p tag => Sys2Proof.Machine.execEpochSwitch p tag s
  | .changeWindowOpen p tag proof keyBad => Sys2Proof.Machine.execChangeWindowOpen p tag proof keyBad s
  | .changeWindowClose p tag => Sys2Proof.Machine.execChangeWindowClose p tag s
  | .sign p tag data keyBad => Sys2Proof.Machine.execSign p tag data keyBad s
  | .keyGenerate p tag => Sys2Proof.Machine.execKeyGenerate p tag s
  | .attest p tag keyBad => Sys2Proof.Machine.execAttest p tag keyBad s
  | .lifecycleSet p tag img keyBad => Sys2Proof.Machine.execLifecycleSet p tag img keyBad s
  | .hostRead p tag bad => Sys2Proof.Machine.execHostRead p tag bad s
  | .hostWrite p tag data => Sys2Proof.Machine.execHostWrite p tag data s
  | .logFetch p tag => Sys2Proof.Machine.execLogFetch p tag s
  | .powerState p tag => Sys2Proof.Machine.execPowerState p tag s
  | .deviceReset p tag => Sys2Proof.Machine.execDeviceReset p tag s
  | .outputAdopt p tag => Sys2Proof.Machine.execOutputAdopt p tag s
  | .telemetryRead p tag => Sys2Proof.Machine.execTelemetryRead p tag s
  | .checkJob p tag data => Sys2Proof.Machine.execCheckJob p tag data s
  | .powerOnResetRelease haltCause vbat ckpts slots lanes wall => Sys2Proof.Machine.execPowerOnResetRelease haltCause vbat ckpts slots lanes wall s
  | .bootRunReached slotA slotB laneA laneB acked => Sys2Proof.Machine.execBootRunReached slotA slotB laneA laneB acked s
  | .vauxBelowWarn vaux => Sys2Proof.Machine.execVauxBelowWarn vaux s
  | .vauxBelowCommit vaux => Sys2Proof.Machine.execVauxBelowCommit vaux s
  | .vauxRecovery vaux lowest => Sys2Proof.Machine.execVauxRecovery vaux lowest s
  | .railUndervoltage rail => Sys2Proof.Machine.execRailUndervoltage rail s
  | .thermalShutdown sensor temp vaux => Sys2Proof.Machine.execThermalShutdown sensor temp vaux s
  | .auxReleaseDelayExpiry n => Sys2Proof.Machine.execAuxReleaseDelayExpiry n s
  | .laneRequestSlotWrite n active discharge i v => Sys2Proof.Machine.execLaneRequestSlotWrite n active discharge i v s
  | .laneModeRequest n mode vTarget => Sys2Proof.Machine.execLaneModeRequest n mode vTarget s
  | .laneSessionBind n => Sys2Proof.Machine.execLaneSessionBind n s
  | .laneFaultReport lane => Sys2Proof.Machine.execLaneFaultReport lane s
  | .laneTakeoverComplete gap => Sys2Proof.Machine.execLaneTakeoverComplete gap s
  | .laneRebootReady lane ok => Sys2Proof.Machine.execLaneRebootReady lane ok s
  | .tetherSnapshotAck slack => Sys2Proof.Machine.execTetherSnapshotAck slack s
  | .fwStandbyVerified sigOk selfOk => Sys2Proof.Machine.execFwStandbyVerified sigOk selfOk s
  | .fwOldLaneRebooted ok => Sys2Proof.Machine.execFwOldLaneRebooted ok s
  | .linkCycleStart vhold => Sys2Proof.Machine.execLinkCycleStart vhold s
  | .edgeBlockLatch n => Sys2Proof.Machine.execEdgeBlockLatch n s
  | .walkerPeriodCompute n slack => Sys2Proof.Machine.execWalkerPeriodCompute n slack s
  | .uplinkFrameReceive n sync bytes => Sys2Proof.Machine.execUplinkFrameReceive n sync bytes s
  | .linkLostEntry n why => Sys2Proof.Machine.execLinkLostEntry n why s
  | .linkLostRecover n => Sys2Proof.Machine.execLinkLostRecover n s
  | .linkLostTimeout n => Sys2Proof.Machine.execLinkLostTimeout n s
  | .linkTrainLock n => Sys2Proof.Machine.execLinkTrainLock n s
  | .linkMeasureDone n total pipe => Sys2Proof.Machine.execLinkMeasureDone n total pipe s
  | .linkTrimEchoed n => Sys2Proof.Machine.execLinkTrimEchoed n s
  | .linkStep3Done n => Sys2Proof.Machine.execLinkStep3Done n s
  | .linkIdentDone n => Sys2Proof.Machine.execLinkIdentDone n s
  | .keyResponseReceive n => Sys2Proof.Machine.execKeyResponseReceive n s
  | .keyingVerifyDone n fp sig => Sys2Proof.Machine.execKeyingVerifyDone n fp sig s
  | .keyConfirmAckReceive n tag => Sys2Proof.Machine.execKeyConfirmAckReceive n tag s
  | .configAckReceive n tag => Sys2Proof.Machine.execConfigAckReceive n tag s
  | .linkRecordCommitted n => Sys2Proof.Machine.execLinkRecordCommitted n s
  | .mgmtRetryTimeout n => Sys2Proof.Machine.execMgmtRetryTimeout n s
  | .keyingRetryTimer n => Sys2Proof.Machine.execKeyingRetryTimer n s
  | .rekeyTimer n => Sys2Proof.Machine.execRekeyTimer n s
  | .keySwitch n => Sys2Proof.Machine.execKeySwitch n s
  | .weighbridgeMsCommit slack overs fd => Sys2Proof.Machine.execWeighbridgeMsCommit slack overs fd s
  | .solveComplete slack => Sys2Proof.Machine.execSolveComplete slack s
  | .solveDeadlineExpiry ticks => Sys2Proof.Machine.execSolveDeadlineExpiry ticks s
  | .emergencyResolveComplete ticks => Sys2Proof.Machine.execEmergencyResolveComplete ticks s
  | .emergencyResolveFallback ticks => Sys2Proof.Machine.execEmergencyResolveFallback ticks s
  | .cabinetSilenceTimeout c => Sys2Proof.Machine.execCabinetSilenceTimeout c s
  | .cabinetEnableTimeout c => Sys2Proof.Machine.execCabinetEnableTimeout c s
  | .cabinetDrainEnd c => Sys2Proof.Machine.execCabinetDrainEnd c s
  | .throttleGraceExpiry n => Sys2Proof.Machine.execThrottleGraceExpiry n s
  | .housekeepingRound hk => Sys2Proof.Machine.execHousekeepingRound hk s
  | .storeComplete id => Sys2Proof.Machine.execStoreComplete id s
  | .pulseOutputStart k => Sys2Proof.Machine.execPulseOutputStart k s
  | .s0InputEdge k at_ => Sys2Proof.Machine.execS0InputEdge k at_ s
  | .pulseCompareTimeout k => Sys2Proof.Machine.execPulseCompareTimeout k s
  | .sessionMeteringOpen n => Sys2Proof.Machine.execSessionMeteringOpen n s
  | .sessionMeteringClose n => Sys2Proof.Machine.execSessionMeteringClose n s
  | .readingSign keyBad => Sys2Proof.Machine.execReadingSign keyBad s
  | .tamperEdge input high vbat wall => Sys2Proof.Machine.execTamperEdge input high vbat wall s
  | .modeTimeout n => Sys2Proof.Machine.execModeTimeout n s
  | .contactorCloseTimeout n => Sys2Proof.Machine.execContactorCloseTimeout n s
  | .ffLostTimeout n => Sys2Proof.Machine.execFfLostTimeout n s
  | .phaseLost n k cause => Sys2Proof.Machine.execPhaseLost n k cause s
  | .phaseDegradedLimit n => Sys2Proof.Machine.execPhaseDegradedLimit n s
  | .twoStepComplete n => Sys2Proof.Machine.execTwoStepComplete n s
  | .estopChannelOpen k ch => Sys2Proof.Machine.execEstopChannelOpen k ch s
  | .estopDiscrepancyTimeout k => Sys2Proof.Machine.execEstopDiscrepancyTimeout k s
  | .estopLoopClose k mask => Sys2Proof.Machine.execEstopLoopClose k mask s
  | .estopResetPulse g len => Sys2Proof.Machine.execEstopResetPulse g len s
  | .estopRearmTimeout k => Sys2Proof.Machine.execEstopRearmTimeout k s
  | .estopInputTest followed => Sys2Proof.Machine.execEstopInputTest followed s
  | .safeOutReadbackFault a b => Sys2Proof.Machine.execSafeOutReadbackFault a b s
  | .edmMismatch k => Sys2Proof.Machine.execEdmMismatch k s
  | .halterOscCheck dev => Sys2Proof.Machine.execHalterOscCheck dev s
  | .halterSampleTrip n => Sys2Proof.Machine.execHalterSampleTrip n s
  | .sustainedOverTimeout n => Sys2Proof.Machine.execSustainedOverTimeout n s
  | .stopPermitWithdrawal n => Sys2Proof.Machine.execStopPermitWithdrawal n s
  | .stopEnd n => Sys2Proof.Machine.execStopEnd n s
  | .contactorWeldTimeout n => Sys2Proof.Machine.execContactorWeldTimeout n s
  | .sensorLossTimeout n i => Sys2Proof.Machine.execSensorLossTimeout n i s
  | .sensorDegradedLimit n => Sys2Proof.Machine.execSensorDegradedLimit n s
  | .sensorLockoutRelease n => Sys2Proof.Machine.execSensorLockoutRelease n s
  | .coolantFlowLow n => Sys2Proof.Machine.execCoolantFlowLow n s
  | .coolantFlowRelease n => Sys2Proof.Machine.execCoolantFlowRelease n s
  | .hallEdge b hall => Sys2Proof.Machine.execHallEdge b hall s
  | .hallInvalidTimeout b => Sys2Proof.Machine.execHallInvalidTimeout b s
  | .rotorStallTimeout b => Sys2Proof.Machine.execRotorStallTimeout b s
  | .directInputEdge b sw level => Sys2Proof.Machine.execDirectInputEdge b sw level s
  | .bothOnRejection b half => Sys2Proof.Machine.execBothOnRejection b half s
  | .bootstrapRefreshTimer b half => Sys2Proof.Machine.execBootstrapRefreshTimer b half s
  | .bootstrapUndervoltage b half => Sys2Proof.Machine.execBootstrapUndervoltage b half s
  | .harnessOvercurrent b sw => Sys2Proof.Machine.execHarnessOvercurrent b sw s
  | .desatTrip b sw => Sys2Proof.Machine.execDesatTrip b sw s
  | .vmotOvervoltage g v => Sys2Proof.Machine.execVmotOvervoltage g v s
  | .vmotUndervoltage g v => Sys2Proof.Machine.execVmotUndervoltage g v s
  | .vmotUvRecovery g v => Sys2Proof.Machine.execVmotUvRecovery g v s
  | .chopperOn g v => Sys2Proof.Machine.execChopperOn g v s
  | .chopperOff g v => Sys2Proof.Machine.execChopperOff g v s
  | .chopOverloadTimeout g => Sys2Proof.Machine.execChopOverloadTimeout g s
  | .auxStartTestEnd n vsw vout vin => Sys2Proof.Machine.execAuxStartTestEnd n vsw vout vin s
  | .auxTargetReached n vout vin => Sys2Proof.Machine.execAuxTargetReached n vout vin s
  | .auxRampOffEnd n vout vin => Sys2Proof.Machine.execAuxRampOffEnd n vout vin s
  | .auxShortDetect n vout vin => Sys2Proof.Machine.execAuxShortDetect n vout vin s
  | .auxHiccupRestart n vout vin => Sys2Proof.Machine.execAuxHiccupRestart n vout vin s
  | .auxOvervoltage n vout vin => Sys2Proof.Machine.execAuxOvervoltage n vout vin s
  | .auxOvBrake n vout vin => Sys2Proof.Machine.execAuxOvBrake n vout vin s
  | .auxBrakeEnd n vout vin => Sys2Proof.Machine.execAuxBrakeEnd n vout vin s
  | .auxVinUndervoltage n vout vin => Sys2Proof.Machine.execAuxVinUndervoltage n vout vin s
  | .auxVinRecovery n vout vin => Sys2Proof.Machine.execAuxVinRecovery n vout vin s
  | .auxPgoodLoss n vout vin => Sys2Proof.Machine.execAuxPgoodLoss n vout vin s
  | .auxSetTimeout n => Sys2Proof.Machine.execAuxSetTimeout n s
  | .lsinEdge c level => Sys2Proof.Machine.execLsinEdge c level s
  | .lswClamp c => Sys2Proof.Machine.execLswClamp c s
  | .lswInrushTrip c => Sys2Proof.Machine.execLswInrushTrip c s
  | .lswInrushWindowEnd c => Sys2Proof.Machine.execLswInrushWindowEnd c s
  | .lswOvercurrentTrip c => Sys2Proof.Machine.execLswOvercurrentTrip c s
  | .lswGroupOt g temp => Sys2Proof.Machine.execLswGroupOt g temp s
  | .lswGroupUv g lsv => Sys2Proof.Machine.execLswGroupUv g lsv s
  | .lswGroupUvRecovery g lsv => Sys2Proof.Machine.execLswGroupUvRecovery g lsv s
  | .lswGroupDisturbEnd g => Sys2Proof.Machine.execLswGroupDisturbEnd g s
  | .lswOpenLoad c => Sys2Proof.Machine.execLswOpenLoad c s
  | .lswShortSupply c present => Sys2Proof.Machine.execLswShortSupply c present s
  | .lswSetUvTimeout c => Sys2Proof.Machine.execLswSetUvTimeout c s
  | .canFrameReceive n frame sof err => Sys2Proof.Machine.execCanFrameReceive n frame sof err s
  | .canFrameAcknowledged n sof delay => Sys2Proof.Machine.execCanFrameAcknowledged n sof delay s
  | .canArbitrationLoss n sof err => Sys2Proof.Machine.execCanArbitrationLoss n sof err s
  | .canTxTimeout n p num sof => Sys2Proof.Machine.execCanTxTimeout n p num sof s
  | .canErrorStateChange n tec rec_ => Sys2Proof.Machine.execCanErrorStateChange n tec rec_ s
  | .canRecoveryDone n => Sys2Proof.Machine.execCanRecoveryDone n s
  | .canRecoverTimeout n => Sys2Proof.Machine.execCanRecoverTimeout n s
  | .canRateDetectResult n k => Sys2Proof.Machine.execCanRateDetectResult n k s
  | .canRateDetectTimeout n => Sys2Proof.Machine.execCanRateDetectTimeout n s
  | .droMessageReceive n view => Sys2Proof.Machine.execDroMessageReceive n view s
  | .droTimerExpiry i k => Sys2Proof.Machine.execDroTimerExpiry i k s
  | .droStallResult i code => Sys2Proof.Machine.execDroStallResult i code s
  | .authLookupDone i uncorr => Sys2Proof.Machine.execAuthLookupDone i uncorr s
  | .authHostTimeout i => Sys2Proof.Machine.execAuthHostTimeout i s
  | .lingerExpiry i => Sys2Proof.Machine.execLingerExpiry i s
  | .tcpRetransmitTimeout i => Sys2Proof.Machine.execTcpRetransmitTimeout i s
  | .serviceUnlock img => Sys2Proof.Machine.execServiceUnlock img s
  | .holdupMeasurementEnd dv iStore => Sys2Proof.Machine.execHoldupMeasurementEnd dv iStore s
  | .nandMigration r => Sys2Proof.Machine.execNandMigration r s
  | .nandScrub region page bits uncorr => Sys2Proof.Machine.execNandScrub region page bits uncorr s
  | .nandProgramFail id die block => Sys2Proof.Machine.execNandProgramFail id die block s
  | .wearLevelMove hi lo mean => Sys2Proof.Machine.execWearLevelMove hi lo mean s
  | .wakeEvent source => Sys2Proof.Machine.execWakeEvent source s
  | .ppsEdge qualifies err => Sys2Proof.Machine.execPpsEdge qualifies err s
  | .linkRetrainTimeout n => Sys2Proof.Machine.execLinkRetrainTimeout n s
  | .stallStopTimeout n => Sys2Proof.Machine.execStallStopTimeout n s
  | .bridgeRampEnd b => Sys2Proof.Machine.execBridgeRampEnd b s
  | .lswCurrentSample c sample temp lsv => Sys2Proof.Machine.execLswCurrentSample c sample temp lsv s
  | .pulseOutputEnd k => Sys2Proof.Machine.execPulseOutputEnd k s
  | .holdupWaitTimeout id => Sys2Proof.Machine.execHoldupWaitTimeout id s
  | .safetyProofTestEnd failed => Sys2Proof.Machine.execSafetyProofTestEnd failed s
  | .canRxRingDelivery => Sys2Proof.Machine.execCanRxRingDelivery s
  | .vauxBelowReset => Sys2Proof.Machine.execVauxBelowReset s
  | .thermalShutdownExit => Sys2Proof.Machine.execThermalShutdownExit s
  | .resetNAssert => Sys2Proof.Machine.execResetNAssert s
  | .deviceResetEffect => Sys2Proof.Machine.execDeviceResetEffect s
  | .holdWindowExpiry => Sys2Proof.Machine.execHoldWindowExpiry s
  | .lswReleaseStep => Sys2Proof.Machine.execLswReleaseStep s
  | .laneHeartbeat => Sys2Proof.Machine.execLaneHeartbeat s
  | .laneHeartbeatTimeout => Sys2Proof.Machine.execLaneHeartbeatTimeout s
  | .revertHoldoffExpiry => Sys2Proof.Machine.execRevertHoldoffExpiry s
  | .handoverDrainEnd => Sys2Proof.Machine.execHandoverDrainEnd s
  | .handoverAckTimeout => Sys2Proof.Machine.execHandoverAckTimeout s
  | .noStandbyLimit => Sys2Proof.Machine.execNoStandbyLimit s
  | .fwProbationExpiry => Sys2Proof.Machine.execFwProbationExpiry s
  | .allocationBoundary => Sys2Proof.Machine.execAllocationBoundary s
  | .emergencyRampStep => Sys2Proof.Machine.execEmergencyRampStep s
  | .legalTickAdvance => Sys2Proof.Machine.execLegalTickAdvance s
  | .timeSlewEnd => Sys2Proof.Machine.execTimeSlewEnd s
  | .checkpointStoreStart => Sys2Proof.Machine.execCheckpointStoreStart s
  | .finalStoreStart => Sys2Proof.Machine.execFinalStoreStart s
  | .billingBoundary => Sys2Proof.Machine.execBillingBoundary s
  | .tariffFreezeEnd => Sys2Proof.Machine.execTariffFreezeEnd s
  | .friendlyWindowEnd => Sys2Proof.Machine.execFriendlyWindowEnd s
  | .halterChannelMismatch => Sys2Proof.Machine.execHalterChannelMismatch s
  | .halterSupplyFail => Sys2Proof.Machine.execHalterSupplyFail s
  | .proofTestDue => Sys2Proof.Machine.execProofTestDue s
  | .troughEvaluation => Sys2Proof.Machine.execTroughEvaluation s
  | .allowMergeLeaf => Sys2Proof.Machine.execAllowMergeLeaf s
  | .changeWindowExpiry => Sys2Proof.Machine.execChangeWindowExpiry s
  | .windowLockoutEnd => Sys2Proof.Machine.execWindowLockoutEnd s
  | .epochSwitchBoundary => Sys2Proof.Machine.execEpochSwitchBoundary s
  | .holdupMeasurementStart => Sys2Proof.Machine.execHoldupMeasurementStart s
  | .holdupWeak => Sys2Proof.Machine.execHoldupWeak s
  | .powerEntryCheck => Sys2Proof.Machine.execPowerEntryCheck s
  | .quietEntry => Sys2Proof.Machine.execQuietEntry s
  | .hibernateEntry => Sys2Proof.Machine.execHibernateEntry s
  | .wakeTimer => Sys2Proof.Machine.execWakeTimer s
  | .wakeReplay => Sys2Proof.Machine.execWakeReplay s
  | .ppsAbsenceTimeout => Sys2Proof.Machine.execPpsAbsenceTimeout s
  | .resetNRelease => Sys2Proof.Machine.execResetNRelease s
  | .fwStepTimeout => Sys2Proof.Machine.execFwStepTimeout s
  | .timeSetAtChronobase => Sys2Proof.Machine.execTimeSetAtChronobase s

end Sys2Proof.Machine
end

