-- ==== Sys2Proof/Machine/Idle.lean ====
section
/-!
DEFINITION. What passes when no command waits: one tick of the Chronobase.
-/
namespace Sys2Proof.Machine

/-- One 4 ns tick of the 64-bit Chronobase (R16), while its domain is powered (R538): in Cold reset it stands at zero. What falls due
at a tick comes as a command of its own. -/
def State.idle (s : State) : State :=
  if s.domainOn 3 then { s with chrono := (s.chrono + 1) % 2 ^ 64 } else s

end Sys2Proof.Machine
end

