-- ==== Sys2Proof/Machine/Reach.lean ====
section
/-!
DEFINITION. What each command may touch: the register windows (R573) and the parts of the state outside the registers. Events reach
the paddocks (PDK, R75) and the event log (HAY, R527), so these two stand beside most commands' own block.
-/
namespace Sys2Proof.Machine

/-- The parts of the state beside the registers, in State's order. -/
inductive Part where
  | chrono
  | free
  | pdk
  | slk
  | wlk
  | halts
  | stallRec
  | types
  | runSeq
  | hlt
  | yms
  | hrn
  | aux
  | lsw
  | rel
  | wbg
  | bil
  | dro
  | can
  | hay
  | lan
  | tck
  | pwr
  | startNum
  deriving DecidableEq, Repr

/-- A part is the same in `s` and `t`. -/
def Part.same : Part → State → State → Prop
  | .chrono, s, t => t.chrono = s.chrono
  | .free, s, t => t.free = s.free
  | .pdk, s, t => t.pdk = s.pdk
  | .slk, s, t => t.slk = s.slk
  | .wlk, s, t => t.wlk = s.wlk
  | .halts, s, t => t.haltS = s.haltS
  | .stallRec, s, t => t.stallRec = s.stallRec
  | .types, s, t => t.types = s.types
  | .runSeq, s, t => t.runSeq = s.runSeq
  | .hlt, s, t => t.hlt = s.hlt
  | .yms, s, t => t.yms = s.yms
  | .hrn, s, t => t.hrn = s.hrn
  | .aux, s, t => t.aux = s.aux
  | .lsw, s, t => t.lsw = s.lsw
  | .rel, s, t => t.rel = s.rel
  | .wbg, s, t => t.wbg = s.wbg
  | .bil, s, t => t.bil = s.bil
  | .dro, s, t => t.dro = s.dro
  | .can, s, t => t.can = s.can
  | .hay, s, t => t.hay = s.hay
  | .lan, s, t => t.lan = s.lan
  | .tck, s, t => t.tck = s.tck
  | .pwr, s, t => t.pwr = s.pwr
  | .startNum, s, t => t.startNum = s.startNum

/-- All windows with registers. -/
def everyWindow : List Nat := List.range 17

/-- The register windows that a command may write: 0 GLB, 1 PDK, 2 SLK, 3 YMS, 4 WLK, 5 WBG, 6 BIL, 7 DRO, 8 HRN, 9 AUX, 10 LSW,
11 CAN, 12 HLT, 13 TCK, 14 HAY, 15 PWR, 16 CVU. -/
def reachWindows : Instr → List Nat
  | .doorbellPoll .. | .descriptorStart .. | .ringDmaError .. | .ringEnableWrite .. | .ringDisableWrite .. | .pdkNudge ..
  | .laneRequestSlotWrite .. | .auxSetTimeout .. | .lswSetUvTimeout .. | .canTxTimeout .. | .canRecoverTimeout ..
  | .linkRetrainTimeout .. | .stallStopTimeout .. | .holdupWaitTimeout .. | .canRxRingDelivery .. | .noStandbyLimit .. | .proofTestDue ..
  | .holdupWeak .. => [1, 14]
  | .interruptCoalesceTimeout .. => [1]
  | .paddockFlr .. | .portPerst .. | .registerWrite .. | .lockRegisterWrite .. | .glbLockAllWrite .. | .gpioSetWrite ..
  | .gpioClearWrite .. | .pwrWakeNow .. | .auxEnableClearWrite .. | .lswEnableClearWrite .. | .canModeWrite .. | .cvuConfigWrite ..
  | .cvuAliveCfgWrite .. | .droRxEnableWrite .. | .canRxEnableWrite .. | .powerState .. | .deviceReset .. | .outputAdopt ..
  | .powerOnResetRelease .. | .bootRunReached .. | .railUndervoltage .. | .thermalShutdown .. | .laneFaultReport .. | .storeComplete ..
  | .nandProgramFail .. | .wakeEvent .. | .vauxBelowReset .. | .resetNAssert .. | .deviceResetEffect .. | .holdWindowExpiry ..
  | .laneHeartbeatTimeout .. | .epochSwitchBoundary .. | .hibernateEntry .. | .wakeTimer .. | .wakeReplay .. => everyWindow
  | .bar0UnsupportedAccess .. | .laneSessionBind .. | .linkTrainLock .. | .linkTrimEchoed .. | .keyResponseReceive ..
  | .keyingRetryTimer .. | .rekeyTimer .. | .twoStepComplete .. | .stopPermitWithdrawal .. | .stopEnd .. | .directInputEdge ..
  | .bootstrapRefreshTimer .. | .lingerExpiry .. | .pulseOutputEnd .. | .thermalShutdownExit .. | .laneHeartbeat ..
  | .handoverDrainEnd .. | .holdupMeasurementStart .. | .resetNRelease .. => []
  | .offDomainRegisterAccess .. | .wideLoRead .. | .laneResetWrite .. | .laneReadmitWrite .. | .laneRebootReady ..
  | .fwStandbyVerified .. | .fwOldLaneRebooted .. | .ppsEdge .. | .handoverAckTimeout .. | .ppsAbsenceTimeout ..
  | .fwStepTimeout .. => [0, 1, 14]
  | .rwpRegisterWrite .. | .laneTakeoverComplete .. | .tetherSnapshotAck .. | .fwProbationExpiry .. => [0, 1, 13, 14]
  | .nop .. | .nodeLimit .. | .allocQuery .. | .readingTake .. | .prepayQuery .. | .sessionAuthorize .. | .sessionStop ..
  | .sessionQuery .. | .tunnelSend .. | .allowLookup .. | .canSend .. | .canRecover .. | .safetyProofTest .. | .keyGenerate ..
  | .hostRead .. | .hostWrite .. | .logFetch .. | .telemetryRead .. | .droMessageReceive .. | .droTimerExpiry .. | .droStallResult ..
  | .authLookupDone .. | .authHostTimeout .. | .tcpRetransmitTimeout .. => [1, 7, 14]
  | .laneHandover .. | .fwActivate .. => [0, 1, 7, 14]
  | .charterLoad .. | .sealAck .. | .calApply .. | .epochSwitch .. | .changeWindowOpen .. | .changeWindowClose .. | .sign .. | .attest ..
  | .lifecycleSet .. => [1, 7, 13, 14]
  | .stallConfig .. => [1, 2, 4, 7, 14]
  | .linkRetrain .. | .linkDisable .. | .uplinkFrameReceive .. => [1, 2, 4, 7, 8, 12, 14]
  | .stallPolicy .. | .cabinetEnable .. | .cabinetRetire .. => [1, 3, 7, 14]
  | .stallStop .. => [1, 4, 7, 8, 12, 14]
  | .loopTune .. => [1, 4, 7, 14]
  | .checkpointNow .. => [7]
  | .pulseInputMode .. => [1, 5, 7, 13, 14]
  | .timeSet .. | .timeSetAtChronobase .. => [1, 5, 6, 7, 14]
  | .recordFetch .. | .prepayCredit .. | .prepayDebit .. | .nandMigration .. => [1, 6, 7, 14]
  | .bridgeSet .. | .coolingSet .. | .hrnFaultClear .. => [1, 7, 8, 14]
  | .auxSet .. => [1, 7, 9, 14]
  | .lswSet .. | .lswFaultClear .. => [1, 7, 10, 14]
  | .serviceClear .. => [1, 2, 4, 7, 12, 14]
  | .imageStage .. => [1, 7, 8, 11, 13, 14]
  | .checkJob .. => [1, 7, 14, 16]
  | .vauxBelowWarn .. | .vauxBelowCommit .. | .vauxRecovery .. => [1, 6, 7, 14, 15]
  | .auxReleaseDelayExpiry .. | .auxStartTestEnd .. | .auxTargetReached .. | .auxRampOffEnd .. | .auxShortDetect ..
  | .auxHiccupRestart .. | .auxOvervoltage .. | .auxOvBrake .. | .auxBrakeEnd .. | .auxVinUndervoltage ..
  | .auxPgoodLoss .. => [1, 9, 14]
  | .laneModeRequest .. | .walkerPeriodCompute .. | .modeTimeout .. | .contactorCloseTimeout .. | .ffLostTimeout .. | .phaseLost ..
  | .phaseDegradedLimit .. | .halterSampleTrip .. | .sustainedOverTimeout .. | .contactorWeldTimeout .. | .sensorLossTimeout ..
  | .sensorDegradedLimit .. => [1, 4, 8, 12, 14]
  | .linkCycleStart .. => [1, 3, 12, 14]
  | .edgeBlockLatch .. | .linkLostEntry .. => [1, 2, 4, 8, 12, 14]
  | .linkLostRecover .. | .linkLostTimeout .. | .linkStep3Done .. | .linkIdentDone .. | .keyConfirmAckReceive .. | .configAckReceive ..
  | .mgmtRetryTimeout .. => [1, 2, 4, 14]
  | .linkMeasureDone .. => [2]
  | .keyingVerifyDone .. | .keySwitch .. => [1, 2, 14]
  | .linkRecordCommitted .. => [1, 2, 4, 5, 12, 14]
  | .weighbridgeMsCommit .. => [1, 2, 5, 6, 14]
  | .solveComplete .. | .solveDeadlineExpiry .. | .emergencyResolveComplete .. | .emergencyResolveFallback .. | .cabinetSilenceTimeout ..
  | .cabinetEnableTimeout .. | .cabinetDrainEnd .. | .throttleGraceExpiry .. => [1, 3, 14]
  | .housekeepingRound .. => [0, 1, 3, 4, 5, 7, 9, 10, 12, 14, 15]
  | .pulseOutputStart .. => [5]
  | .s0InputEdge .. | .pulseCompareTimeout .. | .sessionMeteringClose .. => [1, 5, 14]
  | .sessionMeteringOpen .. => [1, 5, 7, 14]
  | .readingSign .. => [1, 6, 7, 13, 14]
  | .tamperEdge .. | .friendlyWindowEnd .. => [1, 6, 14]
  | .estopChannelOpen .. => [1, 4, 8, 10, 12, 14]
  | .estopDiscrepancyTimeout .. | .sensorLockoutRelease .. => [1, 12, 14]
  | .estopLoopClose .. | .estopResetPulse .. | .estopRearmTimeout .. => [1, 8, 10, 12, 14]
  | .estopInputTest .. | .safeOutReadbackFault .. | .edmMismatch .. | .halterOscCheck .. | .safetyProofTestEnd ..
  | .halterChannelMismatch .. | .halterSupplyFail .. => [0, 1, 4, 8, 10, 12, 14]
  | .coolantFlowLow .. | .coolantFlowRelease .. => [1, 3, 8, 14]
  | .hallEdge .. | .chopperOn .. | .chopperOff .. => [8]
  | .hallInvalidTimeout .. | .rotorStallTimeout .. | .bothOnRejection .. | .bootstrapUndervoltage .. | .harnessOvercurrent ..
  | .desatTrip .. | .vmotOvervoltage .. | .vmotUndervoltage .. | .vmotUvRecovery .. | .chopOverloadTimeout .. | .bridgeRampEnd ..
  | .troughEvaluation .. => [1, 8, 14]
  | .auxVinRecovery .. => [9]
  | .lsinEdge .. | .lswClamp .. | .lswInrushTrip .. | .lswInrushWindowEnd .. | .lswOvercurrentTrip .. | .lswGroupOt .. | .lswGroupUv ..
  | .lswGroupUvRecovery .. | .lswOpenLoad .. | .lswShortSupply .. | .lswCurrentSample .. | .lswReleaseStep .. => [1, 10, 14]
  | .lswGroupDisturbEnd .. => [10]
  | .canFrameReceive .. => [1, 3, 11, 14]
  | .canFrameAcknowledged .. | .canArbitrationLoss .. | .canErrorStateChange .. | .canRecoveryDone .. | .canRateDetectResult ..
  | .canRateDetectTimeout .. => [1, 11, 14]
  | .serviceUnlock .. | .nandScrub .. | .changeWindowExpiry .. => [1, 13, 14]
  | .holdupMeasurementEnd .. | .wearLevelMove .. | .allowMergeLeaf .. => [14]
  | .revertHoldoffExpiry .. => [0]
  | .allocationBoundary .. => [0, 1, 3, 4, 8, 10, 12, 13, 14]
  | .emergencyRampStep .. => [3]
  | .legalTickAdvance .. | .timeSlewEnd .. => [6]
  | .checkpointStoreStart .. | .finalStoreStart .. | .billingBoundary .. | .tariffFreezeEnd .. => [1, 5, 6, 14]
  | .windowLockoutEnd .. => [13]
  | .powerEntryCheck .. | .quietEntry .. => [1, 2, 4, 6, 7, 14, 15]

/-- The parts of the state that a command may change. -/
def reachParts : Instr → List Part
  | .doorbellPoll .. | .ringDmaError .. | .ringEnableWrite .. | .ringDisableWrite .. | .pdkNudge .. | .offDomainRegisterAccess ..
  | .lockRegisterWrite .. | .glbLockAllWrite .. | .wideLoRead .. | .cvuConfigWrite .. | .cvuAliveCfgWrite .. | .droRxEnableWrite ..
  | .canRxEnableWrite .. | .nop .. | .charterLoad .. | .allocQuery .. | .recordFetch .. | .prepayQuery .. | .sessionQuery ..
  | .lswFaultClear .. | .keyGenerate .. | .hostRead .. | .hostWrite .. | .logFetch .. | .telemetryRead .. | .auxPgoodLoss ..
  | .lswOpenLoad .. | .lswShortSupply .. | .canRateDetectResult .. | .canRateDetectTimeout .. | .nandMigration .. | .holdupWaitTimeout ..
  | .proofTestDue .. | .holdupWeak .. => [.pdk, .hay]
  | .descriptorStart .. => [.pdk, .hay, .startNum]
  | .interruptCoalesceTimeout .. => [.pdk]
  | .paddockFlr .. | .portPerst .. | .changeWindowOpen .. => [.free, .pdk, .hay, .tck]
  | .bar0UnsupportedAccess .. | .chopperOn .. | .chopperOff .. | .auxVinRecovery .. | .lswGroupDisturbEnd .. | .legalTickAdvance ..
  | .windowLockoutEnd .. => []

  | .registerWrite .. => [.free, .pdk, .slk, .wlk, .halts, .types, .hlt, .yms, .hrn, .aux, .lsw, .rel, .wbg, .bil, .dro, .can, .hay, .lan, .tck, .pwr]
  | .rwpRegisterWrite .. | .sealAck .. | .calApply .. | .imageStage .. | .changeWindowClose .. | .sign .. | .attest .. | .lifecycleSet ..
  | .serviceUnlock .. | .changeWindowExpiry .. => [.free, .pdk, .hay]
  | .gpioSetWrite .. | .gpioClearWrite .. | .vauxRecovery .. | .ppsAbsenceTimeout .. => [.pdk, .hay, .pwr]
  | .pwrWakeNow .. | .powerState .. | .wakeEvent .. | .wakeTimer ..
  | .wakeReplay .. => [.free, .pdk, .slk, .types, .hlt, .yms, .hrn, .lsw, .rel, .wbg, .bil, .dro, .can, .hay, .lan, .tck, .pwr]
  | .laneResetWrite .. | .laneReadmitWrite .. | .laneHandover .. | .fwActivate .. | .laneRebootReady .. | .fwStandbyVerified ..
  | .fwOldLaneRebooted .. | .handoverAckTimeout .. | .noStandbyLimit .. | .fwStepTimeout .. => [.pdk, .hay, .lan]
  | .auxEnableClearWrite .. | .auxSet .. | .auxReleaseDelayExpiry .. | .auxStartTestEnd .. | .auxTargetReached .. | .auxRampOffEnd ..
  | .auxShortDetect .. | .auxHiccupRestart .. | .auxOvervoltage .. | .auxOvBrake .. | .auxBrakeEnd ..
  | .auxVinUndervoltage .. => [.pdk, .aux, .rel, .hay]
  | .lswEnableClearWrite .. | .lswClamp .. | .lswInrushTrip .. | .lswOvercurrentTrip .. | .lswGroupOt ..
  | .lswReleaseStep .. => [.pdk, .lsw, .rel, .hay]
  | .canModeWrite .. | .canSend .. | .canRecover .. | .canFrameAcknowledged .. | .canArbitrationLoss .. | .canTxTimeout ..
  | .canErrorStateChange .. | .canRecoveryDone .. | .canRecoverTimeout .. | .canRxRingDelivery .. => [.pdk, .can, .hay]
  | .stallConfig .. => [.pdk, .slk, .stallRec, .hay]
  | .linkRetrain .. | .linkDisable .. | .edgeBlockLatch .. | .uplinkFrameReceive ..
  | .linkLostEntry .. => [.pdk, .slk, .wlk, .halts, .hay]
  | .stallPolicy .. | .cabinetEnable .. | .cabinetRetire .. | .nodeLimit .. | .solveComplete .. | .solveDeadlineExpiry ..
  | .emergencyResolveComplete .. | .emergencyResolveFallback .. | .cabinetSilenceTimeout .. | .cabinetEnableTimeout ..
  | .cabinetDrainEnd .. | .throttleGraceExpiry .. | .coolantFlowLow .. | .coolantFlowRelease .. => [.pdk, .yms, .hay]
  | .stallStop .. | .loopTune .. | .modeTimeout .. | .contactorCloseTimeout .. | .ffLostTimeout ..
  | .stallStopTimeout .. => [.pdk, .wlk, .hay]
  | .checkpointNow .. => [.pdk, .bil]
  | .pulseInputMode .. => [.free, .pdk, .wbg, .hay]
  | .timeSet .. | .billingBoundary .. | .tariffFreezeEnd .. | .timeSetAtChronobase .. => [.pdk, .wbg, .bil, .hay]
  | .readingTake .. | .prepayCredit .. | .prepayDebit .. | .tamperEdge .. | .friendlyWindowEnd .. => [.pdk, .bil, .hay]
  | .sessionAuthorize .. | .sessionStop .. | .tunnelSend .. | .sessionMeteringOpen .. | .droMessageReceive .. | .droTimerExpiry ..
  | .droStallResult .. | .authLookupDone .. | .authHostTimeout .. | .tcpRetransmitTimeout .. => [.pdk, .slk, .wbg, .dro, .hay]
  | .allowLookup .. => [.pdk, .dro, .hay]
  | .bridgeSet .. | .hallInvalidTimeout .. | .rotorStallTimeout .. | .bothOnRejection .. | .harnessOvercurrent .. | .desatTrip ..
  | .vmotOvervoltage .. | .chopOverloadTimeout .. | .bridgeRampEnd .. => [.pdk, .hrn, .rel, .hay]
  | .coolingSet .. | .hrnFaultClear .. | .bootstrapUndervoltage .. | .vmotUndervoltage .. | .vmotUvRecovery .. => [.pdk, .hrn, .hay]
  | .lswSet .. => [.free, .pdk, .lsw, .rel, .hay]
  | .safetyProofTest .. | .estopDiscrepancyTimeout .. => [.pdk, .hlt, .hay]
  | .serviceClear .. => [.pdk, .slk, .halts, .hay]
  | .epochSwitch .. => [.pdk, .hay, .tck]
  | .deviceReset .. | .resetNAssert .. => [.free, .pdk, .wlk, .halts, .wbg, .hay, .tck, .pwr]
  | .outputAdopt .. | .holdWindowExpiry .. => [.pdk, .wlk, .yms, .hrn, .lsw, .rel, .hay]
  | .checkJob .. => [.free, .pdk, .can, .hay]

  | .powerOnResetRelease .. => [.free, .pdk, .slk, .wlk, .halts, .types, .hlt, .yms, .hrn, .lsw, .rel, .wbg, .bil, .dro, .can, .hay, .lan, .tck, .pwr]
  | .bootRunReached .. => [.free, .pdk, .slk, .types, .hlt, .yms, .hrn, .aux, .lsw, .rel, .wbg, .bil, .dro, .can, .hay, .lan, .tck, .pwr]
  | .vauxBelowWarn .. => [.pdk, .bil, .hay, .pwr]
  | .vauxBelowCommit .. => [.pdk, .yms, .bil, .hay, .pwr]
  | .railUndervoltage .. | .nandProgramFail ..
  | .vauxBelowReset .. => [.chrono, .pdk, .slk, .wlk, .halts, .stallRec, .types, .runSeq, .hlt, .yms, .hrn, .aux, .lsw, .rel, .dro, .can, .hay, .lan, .tck, .pwr]
  | .thermalShutdown ..
  | .hibernateEntry .. => [.chrono, .pdk, .slk, .wlk, .halts, .stallRec, .types, .runSeq, .hlt, .yms, .hrn, .aux, .lsw, .rel, .wbg, .bil, .dro, .can, .hay, .lan, .tck, .pwr]
  | .laneRequestSlotWrite .. => [.pdk, .yms, .dro, .hay]
  | .laneModeRequest .. => [.pdk, .wlk, .dro, .hay]
  | .laneSessionBind .. => [.wbg, .dro]
  | .laneFaultReport .. | .laneHeartbeatTimeout .. => [.free, .pdk, .wlk, .halts, .wbg, .hay, .lan, .tck, .pwr]
  | .laneTakeoverComplete .. | .tetherSnapshotAck .. => [.pdk, .yms, .can, .hay, .lan, .tck, .startNum]
  | .linkCycleStart .. => [.pdk, .slk, .halts, .hrn, .bil, .dro, .hay]
  | .walkerPeriodCompute .. => [.free, .pdk, .slk, .wlk, .halts, .hay]
  | .linkLostRecover .. | .linkLostTimeout .. | .linkStep3Done .. | .keyingVerifyDone .. | .keyConfirmAckReceive ..
  | .configAckReceive .. | .mgmtRetryTimeout .. | .keySwitch .. | .linkRetrainTimeout .. => [.pdk, .slk, .hay]
  | .linkTrainLock .. | .linkMeasureDone .. | .linkTrimEchoed .. | .keyResponseReceive .. => [.slk]
  | .linkIdentDone .. => [.free, .pdk, .slk, .hay]
  | .linkRecordCommitted .. => [.pdk, .slk, .wlk, .halts, .stallRec, .runSeq, .wbg, .hay]
  | .keyingRetryTimer .. | .rekeyTimer .. => [.free, .slk]
  | .weighbridgeMsCommit .. => [.free, .pdk, .slk, .wbg, .bil, .hay]
  | .housekeepingRound .. => [.free, .pdk, .slk, .halts, .yms, .lsw, .wbg, .can, .hay, .pwr]

  | .storeComplete .. => [.chrono, .free, .pdk, .slk, .wlk, .halts, .stallRec, .types, .runSeq, .hlt, .yms, .hrn, .aux, .lsw, .rel, .wbg, .bil, .dro, .can, .hay, .lan, .tck, .pwr]
  | .pulseOutputStart .. | .pulseOutputEnd .. => [.wbg]
  | .s0InputEdge .. | .pulseCompareTimeout .. => [.pdk, .wbg, .hay]
  | .sessionMeteringClose .. => [.pdk, .wbg, .dro, .hay]
  | .readingSign .. => [.free, .pdk, .bil, .hay, .tck]
  | .phaseLost .. | .phaseDegradedLimit .. | .halterSampleTrip .. | .sustainedOverTimeout .. | .contactorWeldTimeout ..
  | .sensorLossTimeout .. | .sensorDegradedLimit .. => [.pdk, .wlk, .halts, .hay]
  | .twoStepComplete .. => [.wlk]
  | .estopChannelOpen .. | .estopInputTest .. | .safeOutReadbackFault .. | .edmMismatch .. | .halterOscCheck .. | .safetyProofTestEnd ..
  | .halterChannelMismatch .. | .halterSupplyFail .. => [.pdk, .wlk, .halts, .hlt, .hrn, .lsw, .rel, .hay]
  | .estopLoopClose .. | .estopResetPulse .. | .estopRearmTimeout .. => [.pdk, .hlt, .hrn, .lsw, .rel, .hay]
  | .stopPermitWithdrawal .. | .stopEnd .. => [.halts]
  | .sensorLockoutRelease .. => [.pdk, .halts, .hay]
  | .hallEdge .. => [.free, .hrn]
  | .directInputEdge .. | .bootstrapRefreshTimer .. => [.hrn]
  | .auxSetTimeout .. => [.pdk, .aux, .hay]
  | .lsinEdge .. | .lswInrushWindowEnd .. | .lswGroupUv .. | .lswGroupUvRecovery .. | .lswSetUvTimeout ..
  | .lswCurrentSample .. => [.pdk, .lsw, .hay]
  | .canFrameReceive .. => [.pdk, .yms, .can, .hay]
  | .lingerExpiry .. => [.dro]
  | .holdupMeasurementEnd .. => [.bil, .hay]
  | .nandScrub .. => [.free, .pdk, .dro, .hay, .tck]
  | .wearLevelMove .. | .holdupMeasurementStart .. => [.hay]
  | .ppsEdge .. => [.free, .pdk, .hay, .pwr]
  | .thermalShutdownExit .. | .resetNRelease .. => [.pwr]

  | .deviceResetEffect .. => [.free, .pdk, .slk, .wlk, .types, .hlt, .yms, .hrn, .lsw, .rel, .wbg, .bil, .dro, .can, .hay, .lan, .tck, .pwr]
  | .laneHeartbeat .. | .revertHoldoffExpiry .. | .handoverDrainEnd .. => [.lan]
  | .fwProbationExpiry .. => [.pdk, .hay, .lan, .tck]
  | .allocationBoundary .. => [.free, .pdk, .slk, .wlk, .halts, .hlt, .yms, .hrn, .lsw, .rel, .wbg, .hay, .lan, .tck, .pwr]
  | .emergencyRampStep .. => [.yms]
  | .timeSlewEnd .. => [.bil]
  | .checkpointStoreStart .. | .finalStoreStart .. => [.pdk, .wbg, .bil, .hay, .pwr]
  | .troughEvaluation .. => [.free, .pdk, .wlk, .hrn, .rel, .hay]
  | .allowMergeLeaf .. => [.dro, .hay]
  | .epochSwitchBoundary .. => [.pdk, .types, .yms, .hrn, .wbg, .bil, .dro, .can, .hay, .tck]
  | .powerEntryCheck .. => [.pdk, .slk, .hay, .pwr]
  | .quietEntry .. => [.pdk, .slk, .yms, .hay, .pwr]

end Sys2Proof.Machine
end

