-- ==== Sys2Proof/Safety.lean ====
section
/-!
DEFINITION. What counts as a safe run of the block, in the terms the statements use.
-/
namespace Sys2Proof.Machine

/-- The invariant of every step: the register list and the HOST region (R511, R529) are in their canonical form, so that equal contents
are equal data (notes/assumptions/6.md). -/
def State.Inv (s : State) : Prop := s.wf ∧ Memory.wf s.hay.host = true

/-- Descriptor `d` of paddock `p`, with this TAG and opcode, waits at the front of its block's queue and owes a completion (R64, R66). -/
def State.Ready (s : State) (p tag opcode : Nat) (d : Desc) : Prop :=
  s.desc? p tag = some d ∧ d.opcode = opcode ∧ d.phase = .queued ∧ s.isFront d = true ∧ d ∈ (s.pd p).table

/-- Is `o` the completion record of this TAG with this status and RESULT, in paddock `p` (R71)? -/
def isCqe (p tag status result : Nat) : Out → Bool
  | .cqe p' _ _ tag' status' _ result' _ => decide (p' = p ∧ tag' = tag ∧ status' = status ∧ result' = result)
  | _ => false

/-- Is `o` an event record of this code, in paddock `p` (R75)? -/
def isEqe (p code : Nat) : Out → Bool
  | .eqe p' _ bytes => decide (p' = p ∧ bytes.take 2 = [code % 256, code / 256])
  | _ => false

/-- The completion with this TAG, status and RESULT is new in `t`: written to its CQ since `s`, or held for it (R73). -/
def State.Ended (s t : State) (p tag status result : Nat) : Prop :=
  (∃ o ∈ t.out.drop s.out.length, isCqe p tag status result o = true) ∨
    ∃ c ∈ (t.pd p).held, c.tag = tag ∧ c.status = status ∧ c.result = result

/-- The step from `s` answers a next state. -/
def State.Runs (s : State) : Prop := ∃ t, step s = .next t

end Sys2Proof.Machine
end

