-- ==== Sys2Proof/WellFormed.lean ====
section
/-!
DEFINITION. What a command's operands may be: the numbers of the objects they name (R3, R8, R573), bytes, aligned register offsets (R46),
descriptor tags, 32-bit register values. The meanings do not ask for it; statements do where they need it.
-/
namespace Sys2Proof

/-- Is every element a byte? -/
def isBytes (bs : List Nat) : Bool := bs.all fun b => decide (b < 256)

/-- A doorbell record (R54): rings 0 to 12 of a paddock, 13 and 14 the receive rings; 32-bit index and sequence. -/
def Doorbell.wf (d : Doorbell) : Bool := decide (d.ring < 15) && decide (d.index < 4294967296) && decide (d.seq < 4294967296)

/-- A submission slot (R63): 64 bytes. -/
def SqSlot.wf (x : SqSlot) : Bool := decide (x.sq < 8) && decide (x.bytes.length = 64) && isBytes x.bytes

/-- A CAN frame (R402): an identifier of 29 or 11 bits, DLC 0 to 15, at most 64 data bytes; FD features only on an FD frame. -/
def CanFrame.wf (f : CanFrame) : Bool :=
  decide (f.id < 2 ^ (if f.ide then 29 else 11)) && decide (f.dlc < 16) && decide (f.data.length ≤ 64) && isBytes f.data &&
    (f.fdf || !f.brs) && !(f.fdf && f.rtr)

/-- A feeder's millisecond (R225): 25 samples of four paths, the paths on their reference among the four. -/
def FeederIn.wf (f : FeederIn) : Bool :=
  decide (f.samples.length = 25) && (f.samples.all fun x => decide (x.length = 4)) && (f.held.all fun k => decide (k < 4))

/-- Are the operands ones that the command can carry? -/
def Instr.wf : Instr → Bool
  | .doorbellPoll p dbs slots => decide (p < 4) && dbs.all Doorbell.wf && slots.all SqSlot.wf
  | .descriptorStart p tag => decide (p < 4) && decide (tag < 65536)
  | .interruptCoalesceTimeout p ring => decide (p < 4) && decide (8 ≤ ring) && decide (ring < 13)
  | .ringDmaError p ring => decide (p < 4) && decide (ring < 15)
  | .ringEnableWrite p ring val => decide (p < 4) && decide (ring < 13) && decide (val < 4294967296)
  | .ringDisableWrite p ring val => decide (p < 4) && decide (ring < 13) && decide (val < 4294967296)
  | .pdkNudge p mask dbs slots => decide (p < 4) && decide (mask < 4294967296) && dbs.all Doorbell.wf && slots.all SqSlot.wf
  | .paddockFlr p => decide (p < 4)
  | .portPerst p => decide (p < 4)
  | .bar0UnsupportedAccess p => decide (p < 4)
  | .offDomainRegisterAccess p off val _ => decide (p < 4) && decide (off < 0x200000) && decide (off % 4 = 0) && decide (val < 4294967296)
  | .registerWrite p off val => decide (p < 4) && decide (off < 0x200000) && decide (off % 4 = 0) && decide (val < 4294967296)
  | .rwpRegisterWrite p off val => decide (p < 4) && decide (off < 0x200000) && decide (off % 4 = 0) && decide (val < 4294967296)
  | .lockRegisterWrite p off val => decide (p < 4) && decide (off < 0x200000) && decide (off % 4 = 0) && decide (val < 4294967296)
  | .glbLockAllWrite p val => decide (p < 4) && decide (val < 4294967296)
  | .wideLoRead p off => decide (p < 4) && decide (off < 0x200000) && decide (off % 4 = 0)
  | .gpioSetWrite p val => decide (p < 4) && decide (val < 4294967296)
  | .gpioClearWrite p val => decide (p < 4) && decide (val < 4294967296)
  | .pwrWakeNow p val => decide (p < 4) && decide (val < 4294967296)
  | .laneResetWrite p val => decide (p < 4) && decide (val < 4294967296)
  | .laneReadmitWrite p val => decide (p < 4) && decide (val < 4294967296)
  | .auxEnableClearWrite p n val => decide (p < 4) && decide (n < 4) && decide (val < 4294967296)
  | .lswEnableClearWrite p c val => decide (p < 4) && decide (c < 16) && decide (val < 4294967296)
  | .canModeWrite p n val => decide (p < 4) && decide (n < 8) && decide (val < 4294967296)
  | .cvuConfigWrite p u k val => decide (p < 4) && decide (u < 8) && decide (k < 4) && decide (val < 4294967296)
  | .cvuAliveCfgWrite p u val => decide (p < 4) && decide (u < 8) && decide (val < 4294967296)
  | .droRxEnableWrite p val => decide (p < 4) && decide (val < 4294967296)
  | .canRxEnableWrite p val => decide (p < 4) && decide (val < 4294967296)
  | .canRxRingDelivery => true
  | .nop p tag => decide (p < 4) && decide (tag < 65536)
  | .laneHandover p tag => decide (p < 4) && decide (tag < 65536)
  | .fwActivate p tag => decide (p < 4) && decide (tag < 65536)
  | .charterLoad p tag img _ => decide (p < 4) && decide (tag < 65536) && isBytes img
  | .stallConfig p tag => decide (p < 4) && decide (tag < 65536)
  | .sealAck p tag => decide (p < 4) && decide (tag < 65536)
  | .linkRetrain p tag => decide (p < 4) && decide (tag < 65536)
  | .linkDisable p tag => decide (p < 4) && decide (tag < 65536)
  | .stallPolicy p tag => decide (p < 4) && decide (tag < 65536)
  | .cabinetEnable p tag => decide (p < 4) && decide (tag < 65536)
  | .cabinetRetire p tag => decide (p < 4) && decide (tag < 65536)
  | .nodeLimit p tag => decide (p < 4) && decide (tag < 65536)
  | .allocQuery p tag => decide (p < 4) && decide (tag < 65536)
  | .stallStop p tag => decide (p < 4) && decide (tag < 65536)
  | .loopTune p tag => decide (p < 4) && decide (tag < 65536)
  | .calApply p tag => decide (p < 4) && decide (tag < 65536)
  | .checkpointNow p tag => decide (p < 4) && decide (tag < 65536)
  | .pulseInputMode p tag => decide (p < 4) && decide (tag < 65536)
  | .timeSet p tag => decide (p < 4) && decide (tag < 65536)
  | .readingTake p tag => decide (p < 4) && decide (tag < 65536)
  | .recordFetch p tag => decide (p < 4) && decide (tag < 65536)
  | .prepayCredit p tag => decide (p < 4) && decide (tag < 65536)
  | .prepayDebit p tag => decide (p < 4) && decide (tag < 65536)
  | .prepayQuery p tag => decide (p < 4) && decide (tag < 65536)
  | .sessionAuthorize p tag data => decide (p < 4) && decide (tag < 65536) && isBytes data
  | .sessionStop p tag => decide (p < 4) && decide (tag < 65536)
  | .sessionQuery p tag => decide (p < 4) && decide (tag < 65536)
  | .tunnelSend p tag data => decide (p < 4) && decide (tag < 65536) && isBytes data
  | .allowLookup p tag _ => decide (p < 4) && decide (tag < 65536)
  | .bridgeSet p tag => decide (p < 4) && decide (tag < 65536)
  | .coolingSet p tag => decide (p < 4) && decide (tag < 65536)
  | .hrnFaultClear p tag => decide (p < 4) && decide (tag < 65536)
  | .auxSet p tag => decide (p < 4) && decide (tag < 65536)
  | .lswSet p tag => decide (p < 4) && decide (tag < 65536)
  | .lswFaultClear p tag => decide (p < 4) && decide (tag < 65536)
  | .canSend p tag data => decide (p < 4) && decide (tag < 65536) && isBytes data
  | .canRecover p tag => decide (p < 4) && decide (tag < 65536)
  | .safetyProofTest p tag => decide (p < 4) && decide (tag < 65536)
  | .serviceClear p tag => decide (p < 4) && decide (tag < 65536)
  | .imageStage p tag img _ => decide (p < 4) && decide (tag < 65536) && isBytes img
  | .epochSwitch p tag => decide (p < 4) && decide (tag < 65536)
  | .changeWindowOpen p tag _ _ => decide (p < 4) && decide (tag < 65536)
  | .changeWindowClose p tag => decide (p < 4) && decide (tag < 65536)
  | .sign p tag data _ => decide (p < 4) && decide (tag < 65536) && isBytes data
  | .keyGenerate p tag => decide (p < 4) && decide (tag < 65536)
  | .attest p tag _ => decide (p < 4) && decide (tag < 65536)
  | .lifecycleSet p tag img _ => decide (p < 4) && decide (tag < 65536) && isBytes img
  | .hostRead p tag bad => decide (p < 4) && decide (tag < 65536) && bad.all (· < 114688)
  | .hostWrite p tag data => decide (p < 4) && decide (tag < 65536) && isBytes data
  | .logFetch p tag => decide (p < 4) && decide (tag < 65536)
  | .powerState p tag => decide (p < 4) && decide (tag < 65536)
  | .deviceReset p tag => decide (p < 4) && decide (tag < 65536)
  | .outputAdopt p tag => decide (p < 4) && decide (tag < 65536)
  | .telemetryRead p tag => decide (p < 4) && decide (tag < 65536)
  | .checkJob p tag data => decide (p < 4) && decide (tag < 65536) && isBytes data
  | .powerOnResetRelease haltCause _ _ _ _ _ => haltCause.all (0 < ·)
  | .bootRunReached _ _ _ _ _ => true
  | .vauxBelowWarn _ => true
  | .vauxBelowCommit _ => true
  | .vauxRecovery _ _ => true
  | .vauxBelowReset => true
  | .railUndervoltage rail => decide (rail < 3)
  | .thermalShutdown sensor _ _ => decide (sensor < 8)
  | .thermalShutdownExit => true
  | .resetNAssert => true
  | .deviceResetEffect => true
  | .holdWindowExpiry => true
  | .lswReleaseStep => true
  | .auxReleaseDelayExpiry n => decide (n < 4)
  | .laneRequestSlotWrite n _ _ i v => decide (n < 48) && decide (i < 65536) && decide (v < 65536)
  | .laneModeRequest n mode vTarget => decide (n < 48) && decide (mode < 6) && decide (vTarget < 65536)
  | .laneSessionBind n => decide (n < 48)
  | .laneHeartbeat => true
  | .laneHeartbeatTimeout => true
  | .laneFaultReport lane => decide (lane < 2)
  | .laneTakeoverComplete _ => true
  | .laneRebootReady lane _ => decide (lane < 2)
  | .tetherSnapshotAck _ => true
  | .revertHoldoffExpiry => true
  | .handoverDrainEnd => true
  | .handoverAckTimeout => true
  | .noStandbyLimit => true
  | .fwStandbyVerified _ _ => true
  | .fwProbationExpiry => true
  | .fwOldLaneRebooted _ => true
  | .linkCycleStart _ => true
  | .edgeBlockLatch n => decide (n < 48)
  | .walkerPeriodCompute n _ => decide (n < 48)
  | .uplinkFrameReceive n sync bytes => decide (n < 48) && decide (sync < 3) && isBytes bytes
  | .linkLostEntry n why => decide (n < 48) && decide (why < 2)
  | .linkLostRecover n => decide (n < 48)
  | .linkLostTimeout n => decide (n < 48)
  | .linkTrainLock n => decide (n < 48)
  | .linkMeasureDone n _ _ => decide (n < 48)
  | .linkTrimEchoed n => decide (n < 48)
  | .linkStep3Done n => decide (n < 48)
  | .linkIdentDone n => decide (n < 48)
  | .keyResponseReceive n => decide (n < 48)
  | .keyingVerifyDone n _ _ => decide (n < 48)
  | .keyConfirmAckReceive n _ => decide (n < 48)
  | .configAckReceive n _ => decide (n < 48)
  | .linkRecordCommitted n => decide (n < 48)
  | .mgmtRetryTimeout n => decide (n < 48)
  | .keyingRetryTimer n => decide (n < 48)
  | .rekeyTimer n => decide (n < 48)
  | .keySwitch n => decide (n < 48)
  | .weighbridgeMsCommit _ _ fd => decide (fd.length = 4) && fd.all FeederIn.wf
  | .allocationBoundary => true
  | .solveComplete _ => true
  | .solveDeadlineExpiry _ => true
  | .emergencyResolveComplete _ => true
  | .emergencyResolveFallback _ => true
  | .emergencyRampStep => true
  | .cabinetSilenceTimeout c => decide (c < 16)
  | .cabinetEnableTimeout c => decide (c < 16)
  | .cabinetDrainEnd c => decide (c < 16)
  | .throttleGraceExpiry n => decide (n < 48)
  | .housekeepingRound hk => decide (hk.die.length = 8) && decide (hk.afe.length = 4)
  | .legalTickAdvance => true
  | .timeSlewEnd => true
  | .checkpointStoreStart => true
  | .finalStoreStart => true
  | .storeComplete _ => true
  | .pulseOutputStart k => decide (k < 4)
  | .s0InputEdge k _ => decide (k < 4)
  | .pulseCompareTimeout k => decide (k < 4)
  | .billingBoundary => true
  | .sessionMeteringOpen n => decide (n < 48)
  | .sessionMeteringClose n => decide (n < 48)
  | .readingSign _ => true
  | .tariffFreezeEnd => true
  | .friendlyWindowEnd => true
  | .tamperEdge input _ _ _ => decide (input < 2)
  | .modeTimeout n => decide (n < 48)
  | .contactorCloseTimeout n => decide (n < 48)
  | .ffLostTimeout n => decide (n < 48)
  | .phaseLost n k cause => decide (n < 48) && decide (k < 6) && decide (cause < 2)
  | .phaseDegradedLimit n => decide (n < 48)
  | .twoStepComplete n => decide (n < 48)
  | .estopChannelOpen k ch => decide (k < 4) && decide (ch < 2)
  | .estopDiscrepancyTimeout k => decide (k < 4)
  | .estopLoopClose k mask => decide (k < 4) && decide (mask < 4)
  | .estopResetPulse g _ => decide (g < 32)
  | .estopRearmTimeout k => decide (k < 4)
  | .estopInputTest _ => true
  | .safeOutReadbackFault _ _ => true
  | .edmMismatch k => decide (k < 4)
  | .halterOscCheck _ => true
  | .halterChannelMismatch => true
  | .halterSupplyFail => true
  | .halterSampleTrip n => decide (n < 48)
  | .sustainedOverTimeout n => decide (n < 48)
  | .stopPermitWithdrawal n => decide (n < 48)
  | .stopEnd n => decide (n < 48)
  | .contactorWeldTimeout n => decide (n < 48)
  | .sensorLossTimeout n i => decide (n < 48) && decide (i < 2)
  | .sensorDegradedLimit n => decide (n < 48)
  | .sensorLockoutRelease n => decide (n < 48)
  | .proofTestDue => true
  | .troughEvaluation => true
  | .coolantFlowLow n => decide (n < 48)
  | .coolantFlowRelease n => decide (n < 48)
  | .hallEdge b hall => decide (b < 6) && decide (hall < 8)
  | .hallInvalidTimeout b => decide (b < 6)
  | .rotorStallTimeout b => decide (b < 6)
  | .directInputEdge b sw _ => decide (b = 6 ∨ b = 7) && decide (sw < 6)
  | .bothOnRejection b half => decide (b < 8) && decide (half < 3)
  | .bootstrapRefreshTimer b half => decide (b < 8) && decide (half < 3)
  | .bootstrapUndervoltage b half => decide (b < 8) && decide (half < 3)
  | .harnessOvercurrent b sw => decide (b < 8) && decide (sw < 6)
  | .desatTrip b sw => decide (b < 8) && decide (sw < 6)
  | .vmotOvervoltage g v => decide (g < 2) && decide (v < 1024)
  | .vmotUndervoltage g v => decide (g < 2) && decide (v < 1024)
  | .vmotUvRecovery g v => decide (g < 2) && decide (v < 1024)
  | .chopperOn g v => decide (g < 2) && decide (v < 1024)
  | .chopperOff g v => decide (g < 2) && decide (v < 1024)
  | .chopOverloadTimeout g => decide (g < 2)
  | .auxStartTestEnd n _ vout vin => decide (n < 4) && decide (vout < 65536) && decide (vin < 65536)
  | .auxTargetReached n vout vin => decide (n < 4) && decide (vout < 65536) && decide (vin < 65536)
  | .auxRampOffEnd n vout vin => decide (n < 4) && decide (vout < 65536) && decide (vin < 65536)
  | .auxShortDetect n vout vin => decide (n < 4) && decide (vout < 65536) && decide (vin < 65536)
  | .auxHiccupRestart n vout vin => decide (n < 4) && decide (vout < 65536) && decide (vin < 65536)
  | .auxOvervoltage n vout vin => decide (n < 4) && decide (vout < 65536) && decide (vin < 65536)
  | .auxOvBrake n vout vin => decide (n < 4) && decide (vout < 65536) && decide (vin < 65536)
  | .auxBrakeEnd n vout vin => decide (n < 4) && decide (vout < 65536) && decide (vin < 65536)
  | .auxVinUndervoltage n vout vin => decide (n < 4) && decide (vout < 65536) && decide (vin < 65536)
  | .auxVinRecovery n vout vin => decide (n < 4) && decide (vout < 65536) && decide (vin < 65536)
  | .auxPgoodLoss n vout vin => decide (n < 4) && decide (vout < 65536) && decide (vin < 65536)
  | .auxSetTimeout n => decide (n < 4)
  | .lsinEdge c _ => decide (c < 16)
  | .lswClamp c => decide (c < 16)
  | .lswInrushTrip c => decide (c < 16)
  | .lswInrushWindowEnd c => decide (c < 16)
  | .lswOvercurrentTrip c => decide (c < 16)
  | .lswGroupOt g temp => decide (g < 4) && decide (temp < 65536)
  | .lswGroupUv g lsv => decide (g < 4) && decide (lsv < 65536)
  | .lswGroupUvRecovery g lsv => decide (g < 4) && decide (lsv < 65536)
  | .lswGroupDisturbEnd g => decide (g < 4)
  | .lswOpenLoad c => decide (c < 16)
  | .lswShortSupply c _ => decide (c < 16)
  | .lswSetUvTimeout c => decide (c < 16)
  | .canFrameReceive n frame sof _ => decide (n < 8) && frame.wf && decide (sof < 2 ^ 64)
  | .canFrameAcknowledged n sof _ => decide (n < 8) && decide (sof < 2 ^ 64)
  | .canArbitrationLoss n sof _ => decide (n < 8) && decide (sof < 2 ^ 64)
  | .canTxTimeout n p _ sof => decide (n < 8) && decide (p < 4) && sof.all (· < 2 ^ 64)
  | .canErrorStateChange n tec rec_ => decide (n < 8) && decide (tec < 512) && decide (rec_ < 512)
  | .canRecoveryDone n => decide (n < 8)
  | .canRecoverTimeout n => decide (n < 8)
  | .canRateDetectResult n k => decide (n < 8) && decide (k < 9)
  | .canRateDetectTimeout n => decide (n < 8)
  | .droMessageReceive n _ => decide (n < 48)
  | .droTimerExpiry i k => decide (i < 128) && decide (k < 16)
  | .droStallResult i code => decide (i < 128) && decide (code < 11)
  | .authLookupDone i _ => decide (i < 128)
  | .authHostTimeout i => decide (i < 128)
  | .lingerExpiry i => decide (i < 128)
  | .tcpRetransmitTimeout i => decide (i < 128)
  | .allowMergeLeaf => true
  | .changeWindowExpiry => true
  | .windowLockoutEnd => true
  | .epochSwitchBoundary => true
  | .serviceUnlock img => isBytes img
  | .holdupMeasurementStart => true
  | .holdupMeasurementEnd _ _ => true
  | .holdupWeak => true
  | .nandMigration r => decide (r ≠ 0) && decide (r ≠ 4) && decide (r < 6)
  | .nandScrub region _ _ _ => decide (region < 8)
  | .nandProgramFail _ _ _ => true
  | .wearLevelMove _ _ _ => true
  | .powerEntryCheck => true
  | .quietEntry => true
  | .hibernateEntry => true
  | .wakeEvent source => decide (source < 5)
  | .wakeTimer => true
  | .wakeReplay => true
  | .ppsEdge _ _ => true
  | .ppsAbsenceTimeout => true
  | .resetNRelease => true
  | .linkRetrainTimeout n => decide (n < 48)
  | .stallStopTimeout n => decide (n < 48)
  | .bridgeRampEnd b => decide (b < 8)
  | .lswCurrentSample c sample temp lsv => decide (c < 16) && decide (sample < 4096) && decide (temp < 65536) && decide (lsv < 65536)
  | .pulseOutputEnd k => decide (k < 4)
  | .holdupWaitTimeout _ => true
  | .safetyProofTestEnd failed => decide (failed < 8)
  | .fwStepTimeout => true
  | .timeSetAtChronobase => true

end Sys2Proof
end

