-- ==== Sys2Proof/Certificates/Slice0/Obligations.lean ====
section
/-!
DEFINITION. The statements for the provers.
-/
open Sys2Proof Sys2Proof.Machine

/-- For every command c and state s, a step of s with c at the front of its queue is exec of c on s with the rest of the queue: the queue
is first in, first out. -/
def Obligations.StepRunsFront : Prop :=
  ∀ (c : Instr) (s : State) (rest : List Instr), step { s with pending := c :: rest } = exec c { s with pending := rest }

/-- With no command waiting, a step lets one 4 ns tick of the 64-bit Chronobase pass while domain CLK (bit 3 of PWR_DOMAINS) is powered
and no Cold reset holds, and changes nothing else; in a Cold reset or with CLK off it changes nothing. That a step on an empty queue is
one tick is the model's choice (log entry 7). -/
def Obligations.IdleTick : Prop :=
  ∀ s : State, s.pending = [] →
    (s.domainOn 3 = true → step s = .next { s with chrono := (s.chrono + 1) % 2 ^ 64 }) ∧
    (s.domainOn 3 = false → step s = .next s)

/-- Every command of the table answers a next state from every state. It leaves the queue of waiting commands and the order code alone,
and what had left the block before stays as it left. -/
def Obligations.EveryCommandCompletes : Prop :=
  ∀ (c : Instr) (s : State), ∃ t, exec c s = .next t ∧ t.pending = s.pending ∧ t.variant = s.variant ∧ s.out <+: t.out

/-- If the register list and the HOST region of s are in canonical form (keys rising, nothing listed at what an unlisted key reads as) and
step s answers next t, they are in t. -/
def Obligations.StepKeepsInv : Prop :=
  ∀ s t : State, s.Inv → step s = .next t → t.Inv

/-- The state right after reset meets the invariant that every step keeps, with no command waiting and nothing sent. -/
def Obligations.ResetInv : Prop :=
  State.reset.Inv ∧ State.reset.pending = [] ∧ State.reset.out = []

/-- A command other than STORE_COMPLETE leaves every byte of the HOST region as it was; bytes become durable only when their store ends.
-/
def Obligations.HostOnlyStoreWrites : Prop :=
  ∀ (c : Instr) (s t : State), (∀ id, c ≠ .storeComplete id) → exec c s = .next t → ∀ a, Memory.get t.hay.host a = Memory.get s.hay.host a

/-- With polling running (RUN reached, PCI powered), DOORBELL_POLL and PDK_NUDGE act on the doorbell record of an enabled ring that has
not stopped: a HOST_SEQ equal to the last one seen changes nothing; a new one is remembered with HOST_INDEX; a HOST_INDEX out of range
also stops the ring and sets PDK_RING_ERR.INDEX_RANGE. Here host memory answers with no descriptors. Commands: DOORBELL_POLL, PDK_NUDGE.
-/
def Obligations.DoorbellTaken : Prop :=
  ∀ (s : State) (p : Nat) (d : Doorbell) (mask : Nat), p < 4 → s.pdk.length = 4 → (s.pd p).rings.length = 15 → s.inRun = true →
    s.domainOn 4 = true → d.ring < 15 → s.ringEnabled p d.ring = true → ((s.pd p).ring d.ring).stopped = false →
    ∀ c ∈ [Instr.doorbellPoll p [d] []] ++ (if d.ring < 13 ∧ bitOf mask d.ring = true then [Instr.pdkNudge p mask [d] []] else []),
      (d.seq = ((s.pd p).ring d.ring).hostSeq → exec c s = .next s) ∧
      (d.seq ≠ ((s.pd p).ring d.ring).hostSeq →
        ∃ t, exec c s = .next t ∧ ((t.pd p).ring d.ring).hostSeq = d.seq ∧ ((t.pd p).ring d.ring).hostIdx = d.index ∧
          (s.indexBad p d.ring d.index = true →
            ((t.pd p).ring d.ring).stopped = true ∧ t.flag (F.PDK_RING_ERR_INDEX_RANGE p) = true) ∧
          (s.indexBad p d.ring d.index = false → ((t.pd p).ring d.ring).stopped = false))

/-- Of the checks made at fetch, the first that fails gives the status: BAD_DESCRIPTOR (0x03) for an unknown opcode or a malformed
descriptor, then TAG_IN_USE (0x08), DENIED_RIGHTS (0x02), BAD_TARGET (0x04) and OFF_DOMAIN (0x0D); a descriptor that passes all has no
status. -/
def Obligations.FetchChecksInOrder : Prop :=
  ∀ (s : State) (p : Nat) (d : Desc),
    (opRow? d.opcode = none → s.fetchStatus p d = some 0x03) ∧
    ∀ r, opRow? d.opcode = some r →
      let shape := d.flags < 16 ∧ d.prio < 4 ∧ d.bufOk = true ∧ s.paramOk d = true
      let tagFree := ∀ x ∈ (s.pd p).table, x.tag ≠ d.tag
      let right := ∀ b, r.right = some b → s.hasRight p b = true
      let target := targetOk s.variant r.target d.target = true ∧ s.handleBad d = false
      let on := s.domainOn r.domain = true
      (¬ shape → s.fetchStatus p d = some 0x03) ∧ (shape → ¬ tagFree → s.fetchStatus p d = some 0x08) ∧
      (shape → tagFree → ¬ right → s.fetchStatus p d = some 0x02) ∧
      (shape → tagFree → right → ¬ target → s.fetchStatus p d = some 0x04) ∧
      (shape → tagFree → right → target → ¬ on → s.fetchStatus p d = some 0x0D) ∧
      (shape → tagFree → right → target → on → s.fetchStatus p d = none)

/-- When the doorbell of an enabled submission ring shows one descriptor more than the consumer index and host memory answers with it,
DOORBELL_POLL fetches it: the consumer index steps, and a descriptor that passes the checks of fetch joins the in-flight table as fetched
with its TAG. Commands: DOORBELL_POLL. -/
def Obligations.FetchOneDescriptor : Prop :=
  ∀ (s : State) (p i seq : Nat) (bytes : List Nat), p < 4 → s.pdk.length = 4 → (s.pd p).rings.length = 15 → s.inRun = true →
    s.domainOn 4 = true → s.pwr.reset = false → i < 8 → s.ringEnabled p i = true → ((s.pd p).ring i).stopped = false → (s.pd p).table = [] →
    seq ≠ ((s.pd p).ring i).hostSeq → 4 ≤ s.get (F.PDK_SQi_CFG_SIZE_LOG2 p i) → s.get (F.PDK_SQi_CONS p i) < 2 ^ 32 →
    let cons := s.get (F.PDK_SQi_CONS p i)
    let next := (cons + 1) % 2 ^ 32
    let slot := cons % 2 ^ s.get (F.PDK_SQi_CFG_SIZE_LOG2 p i)
    (∀ j < 8, j ≠ i → ((s.pd p).ring j).hostIdx = s.get (F.PDK_SQi_CONS p j)) →
    (∀ dep ok, s.fetchStatus p (descOf i (s.pd p).nextNum bytes dep ok) = none) →
    ∃ t, exec (.doorbellPoll p [⟨i, next, seq⟩] [⟨i, slot, bytes⟩]) s = .next t ∧ t.get (F.PDK_SQi_CONS p i) = next ∧
      ∃ dep ok, (t.pd p).table = [descOf i (s.pd p).nextNum bytes dep ok]

/-- DESCRIPTOR_START of a fetched descriptor with no FENCE to wait for: with CHAIN's predecessor ended well, or none, and its EPOCH zero
or the active one, it goes to its block's queue, in order of start; after a failed predecessor it completes with CHAIN_SKIPPED (0x07);
with another EPOCH it completes with STALE_EPOCH (0x0E). While no lane is in control nothing starts. A NOP at the front of its queue
completes with OK. Commands: DESCRIPTOR_START, NOP. -/
def Obligations.DescriptorStart : Prop :=
  (∀ (s : State) (p tag : Nat) (d : Desc), (s.pd p).table.find? (fun x => decide (x.tag = tag ∧ x.phase = .fetched)) = some d →
    (s.startsHeld = true → exec (.descriptorStart p tag) s = .next s) ∧
    (s.startsHeld = false → s.fenceDone p d = true → (d.dep = none ∨ d.depOk = some true) → (d.epoch = 0 ∨ d.epoch = s.get F.TCK_EPOCH) →
      ∃ t, exec (.descriptorStart p tag) s = .next t ∧ t.startNum = s.startNum + 1 ∧
        ∃ x ∈ (t.pd p).table, x.tag = tag ∧ x.phase = .queued ∧ x.aux = s.startNum ∧ x.at_ = s.chrono) ∧
    (s.startsHeld = false → s.fenceDone p d = true → d.dep ≠ none → d.depOk = some false →
      ∃ t, exec (.descriptorStart p tag) s = .next t ∧ s.Ended t p tag 0x07 0) ∧
    (s.startsHeld = false → s.fenceDone p d = true → (d.dep = none ∨ d.depOk = some true) → d.epoch ≠ 0 → d.epoch ≠ s.get F.TCK_EPOCH →
      ∃ t, exec (.descriptorStart p tag) s = .next t ∧ s.Ended t p tag 0x0E 0)) ∧
  (∀ (s : State) (p tag : Nat) (x : Desc), s.Ready p tag 0x0001 x → ∃ t, exec (.nop p tag) s = .next t ∧ s.Ended t p tag 0x00 0)

/-- RING_ENABLE_WRITE of a disabled ring sets ENABLE and the size when the size is 4 to 12 and a completion or event ring names a vector
other than 15; with another size ENABLE reads back 0 and PDK_RING_ERR.CFG is set. Commands: RING_ENABLE_WRITE. -/
def Obligations.RingEnable : Prop :=
  ∀ (s : State) (p ring val : Nat), p < 4 → s.domainOn 4 = true → ring < 13 → s.ringEnabled p ring = false → (8 ≤ ring → bitsOf val 27 24 ≠ 15) →
    ((4 ≤ bitsOf val 15 12 ∧ bitsOf val 15 12 ≤ 12) →
      ∃ t, exec (.ringEnableWrite p ring val) s = .next t ∧ t.ringEnabled p ring = true ∧ t.ringSize p ring = 2 ^ bitsOf val 15 12) ∧
    ((bitsOf val 15 12 < 4 ∨ 12 < bitsOf val 15 12) →
      ∃ t, exec (.ringEnableWrite p ring val) s = .next t ∧ t.ringEnabled p ring = false ∧ t.flag (F.PDK_RING_ERR_CFG p) = true)

/-- RING_DISABLE_WRITE of a ring clears ENABLE, and descriptors already fetched stay in flight; a write that names vector 15 for a
completion or event ring is refused and sets PDK_RING_ERR.CFG. Commands: RING_DISABLE_WRITE. -/
def Obligations.RingDisable : Prop :=
  ∀ (s : State) (p ring val : Nat), p < 4 → s.domainOn 4 = true → ring < 13 →
    ((8 ≤ ring → bitsOf val 27 24 ≠ 15) → ∃ t, exec (.ringDisableWrite p ring val) s = .next t ∧ t.ringEnabled p ring = false ∧
      (t.pd p).table = (s.pd p).table) ∧
    (8 ≤ ring → bitsOf val 27 24 = 15 → ∃ t, exec (.ringDisableWrite p ring val) s = .next t ∧ t.ringEnabled p ring = s.ringEnabled p ring ∧
      t.flag (F.PDK_RING_ERR_CFG p) = true)

/-- RING_DMA_ERROR of an enabled ring of the paddock stops that ring, sets PDK_RING_ERR.DMA and the ring's bit (the receive rings 13 and
14 have none), sets PDK_STATUS.DMA_ERR and signals vector 15, at once or, while it is masked, in the pending bits; every other ring and
every other paddock's carries on. INTERRUPT_COALESCE_TIMEOUT of a completion or event ring with records not yet signalled sends its vector
when the entry is not masked, and nothing waits afterwards. Commands: RING_DMA_ERROR, INTERRUPT_COALESCE_TIMEOUT. -/
def Obligations.RingEvents : Prop :=
  ∀ (s : State) (p ring : Nat), p < s.pdk.length → p < 4 → ring < (s.pd p).rings.length →
    (s.ringEnabled p ring = true →
      ∃ t, exec (.ringDmaError p ring) s = .next t ∧ ((t.pd p).ring ring).stopped = true ∧ t.flag (F.PDK_RING_ERR_DMA p) = true ∧
        (ring < 13 → bitOf (t.get (F.PDK_RING_ERR_RING p)) ring = true) ∧ t.flag (F.PDK_STATUS_DMA_ERR p) = true ∧
        (s.get (F.PDK_MSIX_CTRL p 15) % 2 = 0 → .msix p 15 ∈ t.out.drop s.out.length) ∧
        (s.get (F.PDK_MSIX_CTRL p 15) % 2 = 1 → bitOf (t.get (F.PDK_MSIX_PBA p)) 15 = true) ∧
        (∀ j, j ≠ ring → ((t.pd p).ring j).stopped = ((s.pd p).ring j).stopped) ∧
        ∀ q, q ≠ p → ∀ j, ((t.pd q).ring j).stopped = ((s.pd q).ring j).stopped) ∧
    (8 ≤ ring → ring ≤ 12 → ((s.pd p).ring ring).unsig ≠ 0 → s.get (F.PDK_MSIX_CTRL p (s.vectorOf p ring)) % 2 = 0 →
      ∃ t, exec (.interruptCoalesceTimeout p ring) s = .next t ∧ t.out = s.out ++ [.msix p (s.vectorOf p ring)] ∧
        ((t.pd p).ring ring).unsig = 0)

/-- PADDOCK_FLR drops the paddock's in-flight table and held completions and returns its D, P settings to reset (here every ring's
ENABLE); rights stand. Class P items (the MSI-X table) return to reset too; PORT_PERST does the same. Commands: PADDOCK_FLR, PORT_PERST.
-/
def Obligations.FunctionReset : Prop :=
  ∀ (s : State) (p : Nat), p < 4 → s.pdk.length = 4 →
    ∀ c ∈ [Instr.paddockFlr p, .portPerst p],
      ∃ t, exec c s = .next t ∧ (t.pd p).table = [] ∧ (t.pd p).held = [] ∧ (∀ i < 8, t.flag (F.PDK_SQi_CFG_ENABLE p i) = false) ∧
        (∀ j < 4, t.flag (F.PDK_CQj_CFG_ENABLE p j) = false) ∧ t.flag (F.PDK_EQ_CFG_ENABLE p) = false ∧
        (∀ b < 5, t.hasRight p b = s.hasRight p b) ∧
        ∀ v < 16, t.get (F.PDK_MSIX_CTRL p v) = 0

/-- From TRAINING: 16 valid TRAIN frames start STEP 1; a measured one-way delay D of at most 1,900 ns gives LAT_TRIM = 2,000 - D and STEP
2, a longer one leaves the link in TRAINING with RANGE set; 16 echoes start STEP 3; its end brings the link to IDENTIFY; 8 IDENT frames
bring it to KEYING with an offer waiting for its answer. Commands: LINK_TRAIN_LOCK, LINK_MEASURE_DONE, LINK_TRIM_ECHOED, LINK_STEP3_DONE,
LINK_IDENT_DONE. -/
def Obligations.LinkTraining : Prop :=
  ∀ (s : State) (n : Nat), n < 48 → s.slk.length = 48 →
    (s.linkState n = Link.training → (s.link n).step = 0 → 16 ≤ (s.link n).validRun →
      ∃ t, exec (.linkTrainLock n) s = .next t ∧ (t.link n).step = 1) ∧
    (∀ d pipe, d < 65536 → s.linkState n = Link.training → (s.link n).step = 1 →
      ∃ t, exec (.linkMeasureDone n (64 * ((s.link n).turn + pipe + 2 * d)) pipe) s = .next t ∧ t.linkState n = Link.training ∧
        t.get (F.SLK_Sn_LATENCY_D n) = d ∧
        (d ≤ 1900 → t.get (F.SLK_Sn_LATENCY_LAT_TRIM n) = 2000 - d ∧ (t.link n).step = 2 ∧ t.flag (F.SLK_Sn_STATE_RANGE n) = false) ∧
        (1900 < d → t.flag (F.SLK_Sn_STATE_RANGE n) = true ∧ (t.link n).step = 0)) ∧
    (s.linkState n = Link.training → (s.link n).step = 2 → 16 ≤ (s.link n).echoes →
      ∃ t, exec (.linkTrimEchoed n) s = .next t ∧ (t.link n).step = 3) ∧
    (s.linkState n = Link.training → (s.link n).step = 3 → ∃ t, exec (.linkStep3Done n) s = .next t ∧ t.linkState n = Link.identify) ∧
    (s.linkState n = Link.identify → 8 ≤ (s.link n).identRun →
      ∃ t, exec (.linkIdentDone n) s = .next t ∧ t.linkState n = Link.keying ∧ (t.link n).mgmt.isSome = true)

/-- In KEYING or during a re-key, KEY_RESPONSE_RECEIVE takes a KEY_RESPONSE that answers a waiting offer to verification. With no
signature work of higher priority in the way, KEYING_VERIFY_DONE puts the derived keys in force with KEY_GEN one up and sends KEY_CONFIRM
when the response's public keys have the fingerprint of IDENT and both signatures verify; at a re-key the keys only wait for SWITCH_MS.
Otherwise the keys stand, and outside a re-key the link waits to retry. KEYING_RETRY_TIMER sends a new offer, as REKEY_TIMER does in RUN.
KEY_SWITCH puts the confirmed new keys in force with KEY_GEN one up, and drops unconfirmed ones. Commands: KEY_RESPONSE_RECEIVE,
KEYING_VERIFY_DONE, KEYING_RETRY_TIMER, REKEY_TIMER, KEY_SWITCH. -/
def Obligations.LinkKeying : Prop :=
  ∀ (s : State) (n : Nat), n < 48 → s.slk.length = 48 →
    (∀ m, (s.link n).mgmtIn.find? (fun x => decide (byteAt x 0 = 2)) = some m → s.awaits n 1 = true →
      (s.linkState n = Link.keying ∨ (s.link n).rekeying = true) →
      ∃ t, exec (.keyResponseReceive n) s = .next t ∧ (t.link n).response = some m ∧ (t.link n).mgmt = none) ∧
    (∀ m, (s.link n).response = some m → s.sigBusy 1 = false →
      (s.fpMatches n m = true → s.sigsValid n m = true →
        ((s.link n).rekeying = false → ∃ t, exec (.keyingVerifyDone n () ()) s = .next t ∧ (t.link n).keys = some (s.linkKeys n m) ∧
          t.get (F.SLK_Sn_KEYGEN n) = (s.get (F.SLK_Sn_KEYGEN n) + 1) % 256 ∧ t.awaits n 3 = true) ∧
        ((s.link n).rekeying = true → ∃ t, exec (.keyingVerifyDone n () ()) s = .next t ∧ (t.link n).keys = (s.link n).keys ∧
          (t.link n).newKeys.map Prod.fst = some (s.linkKeys n m) ∧ t.get (F.SLK_Sn_KEYGEN n) = s.get (F.SLK_Sn_KEYGEN n) ∧
          t.awaits n 3 = true)) ∧
      (s.fpMatches n m = false ∨ s.sigsValid n m = false →
        ∃ t, exec (.keyingVerifyDone n () ()) s = .next t ∧ (t.link n).keys = (s.link n).keys ∧ (t.link n).response = none ∧
          (t.link n).rekeying = false ∧ t.get (F.SLK_Sn_KEYGEN n) = s.get (F.SLK_Sn_KEYGEN n) ∧
          ((s.link n).rekeying = false → (t.link n).keyFailed = true))) ∧
    (s.linkState n = Link.keying → (s.link n).keyFailed = true →
      ∃ t, exec (.keyingRetryTimer n) s = .next t ∧ (t.link n).keyFailed = false ∧ t.awaits n 1 = true) ∧
    (s.linkState n = Link.run → (s.link n).rekeying = false →
      ∃ t, exec (.rekeyTimer n) s = .next t ∧ (t.link n).rekeying = true ∧ t.awaits n 1 = true) ∧
    (∀ k ms, ((s.link n).newKeys = some (k, ms, true) →
        ∃ t, exec (.keySwitch n) s = .next t ∧ (t.link n).keys = some k ∧ (t.link n).rekeying = false ∧
          t.get (F.SLK_Sn_KEYGEN n) = (s.get (F.SLK_Sn_KEYGEN n) + 1) % 256) ∧
      ((s.link n).newKeys = some (k, ms, false) → (s.link n).rekeying = true →
        ∃ t, exec (.keySwitch n) s = .next t ∧ (t.link n).keys = (s.link n).keys ∧ (t.link n).newKeys = none))

/-- A KEY_CONFIRM_ACK in KEYING that carries back the body of the KEY_CONFIRM under the keys in force brings the link to CONFIGURING when
the terminal matches the committed record, and to QUARANTINE with every cause found otherwise; during a re-key it confirms the new keys. A
CONFIG_ACK of the epoch sent with result 0 starts the store of the record when the hold-up check admits it; results 1 and 2 bring
QUARANTINE with causes CONFIG_RANGE and PHASES. Once the record is durable its epoch is the committed one and the link, whose CONFIG was
accepted, is in RUN. An unanswered message is repeated up to five attempts, then the link returns to TRAINING. Commands:
KEY_CONFIRM_ACK_RECEIVE, CONFIG_ACK_RECEIVE, LINK_RECORD_COMMITTED, MGMT_RETRY_TIMEOUT. -/
def Obligations.LinkAdmission : Prop :=
  ∀ (s : State) (n : Nat), n < s.variant.links → s.slk.length = 48 → s.stallRec.length = 48 →
    (∀ m, (s.link n).mgmtIn.find? (fun x => decide (byteAt x 0 = 4)) = some m → s.awaits n 3 = true →
      s.mgmtOpen n m = (s.link n).mgmt.map (List.drop 2) →
      ((s.link n).rekeying = false → s.linkState n = Link.keying →
        ∃ t, exec (.keyConfirmAckReceive n ()) s = .next t ∧
          (s.compareCauses n = 0 → t.linkState n = Link.configuring ∧ t.awaits n 16 = true) ∧
          (s.compareCauses n ≠ 0 → t.linkState n = Link.quarantine ∧ t.get (F.SLK_Sn_QCAUSE n) = s.compareCauses n)) ∧
      (∀ k ms done, (s.link n).rekeying = true → (s.link n).newKeys = some (k, ms, done) →
        ∃ t, exec (.keyConfirmAckReceive n ()) s = .next t ∧ (t.link n).newKeys = some (k, ms, true))) ∧
    (∀ m b, (s.link n).mgmtIn.find? (fun x => decide (byteAt x 0 = 17)) = some m → s.mgmtOpen n m = some b → s.awaits n 16 = true →
      leAt b 0 4 = s.cfgEpoch n → s.linkState n = Link.configuring →
      (byteAt b 4 = 0 → s.admits 2 (storeNeed 2 1) = true →
        ∃ t, exec (.configAckReceive n ()) s = .next t ∧ ∃ st ∈ t.hay.running, st.job = .stallRec n (s.recordNow n)) ∧
      (byteAt b 4 = 1 → ∃ t, exec (.configAckReceive n ()) s = .next t ∧ t.linkState n = Link.quarantine ∧ t.get (F.SLK_Sn_QCAUSE n) = 64) ∧
      (byteAt b 4 = 2 → ∃ t, exec (.configAckReceive n ()) s = .next t ∧ t.linkState n = Link.quarantine ∧ t.get (F.SLK_Sn_QCAUSE n) = 32)) ∧
    (∀ st e, s.hay.running.find? (fun x => (x.job.recOf n).isSome) = some st → st.job = .stallRec n e → e.epoch < 2 ^ 32 →
      ∃ t, exec (.linkRecordCommitted n) s = .next t ∧ t.get (F.SLK_Sn_EPOCH_REC n) = e.epoch ∧
        (s.linkState n = Link.configuring → (s.link n).accepted = true → t.linkState n = Link.run ∧ t.get (F.SLK_Sn_QCAUSE n) = 0)) ∧
    ((s.link n).mgmt.isSome = true →
      ((s.link n).attempts < 5 → ∃ t, exec (.mgmtRetryTimeout n) s = .next t ∧ (t.link n).attempts = (s.link n).attempts + 1) ∧
      (5 ≤ (s.link n).attempts → (s.link n).rekeying = false → (s.link n).disable = [] →
        ∃ t, exec (.mgmtRetryTimeout n) s = .next t ∧ t.linkState n = Link.training))

/-- LINK_LOST_ENTRY takes a link in RUN or QUARANTINE to LOST with an emergency stop of the stall standing, and one in IDENTIFY, KEYING or
CONFIGURING back to TRAINING. From LOST, 100 valid frames with switches off and contactors open bring back the state held before, with
RESUME for 8 frames; 100 ms without a valid frame bring TRAINING. A LINK_RETRAIN still waiting after 2 s completes with TIMEOUT (0x06).
Commands: LINK_LOST_ENTRY, LINK_LOST_RECOVER, LINK_LOST_TIMEOUT, LINK_RETRAIN_TIMEOUT. -/
def Obligations.LinkLoss : Prop :=
  ∀ (s : State) (n why : Nat), n < s.variant.links → n < 48 → s.slk.length = 48 → s.haltS.length = 48 → (s.link n).disable = [] →
    ((s.linkState n = Link.run ∨ s.linkState n = Link.quarantine) →
      ∃ t, exec (.linkLostEntry n why) s = .next t ∧ t.linkState n = Link.lost ∧ (t.link n).before = s.linkState n ∧
        (t.halt n).stop = .emergency) ∧
    ((s.linkState n = Link.identify ∨ s.linkState n = Link.keying ∨ s.linkState n = Link.configuring) →
      ∃ t, exec (.linkLostEntry n why) s = .next t ∧ t.linkState n = Link.training) ∧
    (s.linkState n = Link.lost → 100 ≤ (s.link n).validRun → (s.link n).before = Link.run →
      ∃ t, exec (.linkLostRecover n) s = .next t ∧ t.linkState n = Link.run ∧ (t.link n).resume = 8) ∧
    (s.linkState n = Link.lost → ∃ t, exec (.linkLostTimeout n) s = .next t ∧ t.linkState n = Link.training) ∧
    (∀ p num b rest d, (s.link n).retrain = (p, num, b) :: rest →
      (s.pd p).table.find? (fun x => decide (x.num = num ∧ x.phase ≠ .finished)) = some d →
      ∃ t, exec (.linkRetrainTimeout n) s = .next t ∧ s.Ended t p d.tag 0x06 0 ∧ (t.link n).retrain = rest)

/-- A link cycle steps ALIVE and the CYCLE number of every present stall's downlink and samples VHOLD. An uplink frame that is missing
counts as invalid, and the third in a row takes a link in RUN to LOST; one with a wrong CRC is counted in SLK_Sn_CNT_CRC; one with the
downlink's sync sets CROSSED. At an edge latch in RUN a computed HOLD_LAST is latched; a computation that came too late is a miss, and the
frame carries HOLD_LAST. Commands: LINK_CYCLE_START, UPLINK_FRAME_RECEIVE, EDGE_BLOCK_LATCH. -/
def Obligations.LinkFrames : Prop :=
  ∀ (s : State) (n : Nat), n < s.variant.links → n < 48 → s.slk.length = 48 → s.wlk.length = 48 →
    (∀ vhold, s.domainOn 3 = true → ∃ t, exec (.linkCycleStart vhold) s = .next t ∧
      (t.link n).aliveDown = ((s.link n).aliveDown + 1) % 256 ∧ (t.link n).cycle = s.cycleField ∧
      t.get F.HAY_HOLDUP_E_VHOLD = min vhold 65535) ∧
    (∀ bytes, s.domainOn 8 = true → s.linkState n ≠ Link.off →
      ((s.link n).invalidRun < 2 → ∃ t, exec (.uplinkFrameReceive n 2 bytes) s = .next t ∧
        (t.link n).invalidRun = (s.link n).invalidRun + 1 ∧ t.linkState n = s.linkState n) ∧
      ((s.link n).invalidRun = 2 → s.linkState n = Link.run → ∃ t, exec (.uplinkFrameReceive n 2 bytes) s = .next t ∧ t.linkState n = Link.lost) ∧
      (∃ t, exec (.uplinkFrameReceive n 1 bytes) s = .next t ∧ t.flag (F.SLK_Sn_STATE_CROSSED n) = true) ∧
      (frameCrcOk bytes = false → ∃ t, exec (.uplinkFrameReceive n 0 bytes) s = .next t ∧
        t.get (F.SLK_Sn_CNT_CRC n) = satAdd 32 (s.get (F.SLK_Sn_CNT_CRC n)) 1 % 2 ^ 32)) ∧
    (s.linkState n = Link.run → s.domainOn 9 = true →
      ((s.walk n).late = false → (s.walk n).out_ = .hold →
        ∃ t, exec (.edgeBlockLatch n) s = .next t ∧ (t.link n).latched = .hold ∧ (t.walk n).out_ = .none) ∧
      ((s.walk n).late = true →
        ∃ t, exec (.edgeBlockLatch n) s = .next t ∧ (t.link n).latched = .hold ∧ (t.walk n).misses = min ((s.walk n).misses + 1) 3))

/-- STALL_CONFIG keeps the epoch and type asked for and completes OK on a stall at rest, and completes with STALL_ENERGISED, BUSY_RETRY or
BAD_CONFIG, changing nothing of the record, where R145 says so. SEAL_ACK outside the submitter's window completes with WINDOW_CLOSED, with
another seal than the reported one with SEAL_DIFFERS, and otherwise starts the store of its change-log entry. LINK_RETRAIN of a stall that
is not energised takes the link to TRAINING and waits; LINK_DISABLE takes it to OFF, clears ENABLE and completes OK. Commands:
STALL_CONFIG, SEAL_ACK, LINK_RETRAIN, LINK_DISABLE. -/
def Obligations.LinkOpcodes : Prop :=
  ∀ (s : State) (p tag : Nat) (d : Desc), s.slk.length = 48 → s.stallRec.length = 48 → d.target < 48 → d.target < s.variant.links →
    let n := d.target
    (s.Ready p tag 0x0201 d →
      (s.contactorClosed n = true → ∃ t, exec (.stallConfig p tag) s = .next t ∧ s.Ended t p tag 0x42 0 ∧ t.stallRec = s.stallRec) ∧
      (s.contactorClosed n = false → s.linkState n = Link.keying →
        ∃ t, exec (.stallConfig p tag) s = .next t ∧ s.Ended t p tag 0x05 0 ∧ t.stallRec = s.stallRec) ∧
      (s.contactorClosed n = false → (s.linkState n < 2 ∨ 4 < s.linkState n) →
        ((d.arg 24 4 = s.get (F.SLK_Sn_EPOCH_REC n) ∨ s.types.length ≤ d.arg 28 1) →
          ∃ t, exec (.stallConfig p tag) s = .next t ∧ s.Ended t p tag 0x44 0 ∧ t.stallRec = s.stallRec) ∧
        (d.arg 24 4 ≠ s.get (F.SLK_Sn_EPOCH_REC n) → d.arg 28 1 < s.types.length →
          ∃ t, exec (.stallConfig p tag) s = .next t ∧ s.Ended t p tag 0x00 0 ∧ (t.rec? n).nextEpoch = d.arg 24 4 ∧
            (t.rec? n).nextType = d.arg 28 1))) ∧
    (s.Ready p tag 0x0202 d →
      (s.ownsWindow p = false → ∃ t, exec (.sealAck p tag) s = .next t ∧ s.Ended t p tag 0x40 0) ∧
      (s.ownsWindow p = true → (2 ≤ s.linkState n ∧ s.linkState n ≠ Link.lost) →
        (d.arg 24 1 ≠ s.get (F.SLK_Sn_SEAL_REPORTED n) → ∃ t, exec (.sealAck p tag) s = .next t ∧ s.Ended t p tag 0x41 0) ∧
        (d.arg 24 1 = s.get (F.SLK_Sn_SEAL_REPORTED n) → s.changelogFull = false → s.stagingUsed + 3608 ≤ 4194304 →
          s.admits 2 (storeNeed 2 1) = true →
          ∃ t, exec (.sealAck p tag) s = .next t ∧ ∃ st ∈ t.hay.running, ∃ body bytes,
            st.job = .change ⟨3, p, body, .sealAck p d.num n (d.arg 24 1)⟩ bytes))) ∧
    (s.Ready p tag 0x0203 d → s.linkEnergised n = false → (s.link n).disable = [] →
      (s.linkState n = Link.off → ∃ t, exec (.linkRetrain p tag) s = .next t ∧ s.Ended t p tag 0x43 0) ∧
      (s.linkState n ≠ Link.off → ∃ t, exec (.linkRetrain p tag) s = .next t ∧ t.linkState n = Link.training ∧
        (p, d.num, true) ∈ (t.link n).retrain)) ∧
    (s.Ready p tag 0x0204 d → s.linkEnergised n = false → (s.link n).disable = [] →
      ∃ t, exec (.linkDisable p tag) s = .next t ∧ t.linkState n = Link.off ∧ t.flag (F.SLK_Sn_CTRL_ENABLE n) = false ∧ s.Ended t p tag 0x00 0)

/-- With CLK and ALLOC powered, an allocation boundary applies every staged setpoint, never above the ceiling in force, makes ACTIVE every
ENABLING cabinet that has reported READY, and freezes the inputs: a scheduled solve runs over them unless an emergency re-solve does. With
SOLVE_EN 0 no solve runs and every target of the tree is zero. Commands: ALLOCATION_BOUNDARY. -/
def Obligations.YardmasterBoundary : Prop :=
  ∀ s : State, s.domainOn 3 = true → s.domainOn 9 = true →
    ∃ t, exec .allocationBoundary s = .next t ∧ (∃ fz, t.yms.frozen = some fz ∧ fz.at_ = s.chrono ∧
        fz.solving = (s.flag F.YMS_CYCLE_CFG_SOLVE_EN && s.yms.emerg.isNone)) ∧
      (∀ n < 48, ∀ v, s.yms.staged.getD n none = some v → s.allocCeil n ≤ 32767 →
        t.getS (F.YMS_Sn_GRANT_APPLIED n) = max (-(s.allocCeil n : Int)) (min v (s.allocCeil n))) ∧
      (∀ c < 16, s.cabState c = 2 → (s.cab c).ready = true → s.yms.cabs.length = 16 → t.cabState c = 3 ∧ (t.cab c).enable = []) ∧
      (s.flag F.YMS_CYCLE_CFG_SOLVE_EN = true → ∀ a ∈ t.yms.asks, a.used = true) ∧
      (s.flag F.YMS_CYCLE_CFG_SOLVE_EN = false → ∀ n < 48, (s.stallNode? n).isSome = true → t.getS (F.YMS_Sn_GRANT_TARGET n) = 0)

/-- A scheduled solve that ends in time is counted and its inputs become those of the last completed solve. One that has not ended after
250 µs is discarded: OVERRUN is set, the overrun counted, and targets and staged setpoints stay. An emergency re-solve that ends is
counted; one that does not falls back and sets OVERRUN. After either the next waiting trigger starts its re-solve, if there is one. A ramp
step moves the applied setpoint of a stall on an emergency ramp towards its target. Commands: SOLVE_COMPLETE, SOLVE_DEADLINE_EXPIRY,
EMERGENCY_RESOLVE_COMPLETE, EMERGENCY_RESOLVE_FALLBACK, EMERGENCY_RAMP_STEP. -/
def Obligations.SolveOutcomes : Prop :=
  ∀ (s : State) (fz : Frozen), s.yms.frozen = some fz →
    (∀ slack : Int, fz.solving = true → 0 ≤ slack → s.domainOn 9 = true →
      ∃ t, exec (.solveComplete slack) s = .next t ∧ t.yms.frozen = some { fz with solving := false } ∧
        t.yms.solved.isSome = true ∧ t.get F.YMS_CNT_SOLVE = (s.get F.YMS_CNT_SOLVE + 1) % 2 ^ 32 ∧
        (∀ a ∈ s.yms.asks, a.used = true → a ∉ t.yms.asks)) ∧
    (∀ ticks : Nat, fz.solving = true →
      ∃ t, exec (.solveDeadlineExpiry ticks) s = .next t ∧ t.flag F.YMS_STATUS_OVERRUN = true ∧ t.yms.staged = s.yms.staged ∧
        t.yms.frozen = some { fz with solving := false } ∧ t.get F.YMS_CNT_OVERRUN = min (s.get F.YMS_CNT_OVERRUN + 1) (2 ^ 32 - 1) ∧
        ∀ n < 48, t.getS (F.YMS_Sn_GRANT_TARGET n) = s.getS (F.YMS_Sn_GRANT_TARGET n)) ∧
    (∀ (e : Emerg) (ticks : Nat), s.yms.emerg = some e →
      (∃ t, exec (.emergencyResolveComplete ticks) s = .next t ∧
        t.get F.YMS_CNT_EMERG = min (s.get F.YMS_CNT_EMERG + 1) (2 ^ 32 - 1) ∧ t.yms.solved = some (s.frozenNow fz) ∧
        t.yms.emerg = match e.next with
          | q :: rest => some { node := q.1, cause := q.2, next := rest }
          | [] => none) ∧
      ∃ t, exec (.emergencyResolveFallback ticks) s = .next t ∧ t.flag F.YMS_STATUS_OVERRUN = true ∧ t.yms.solved = some (s.frozenNow fz) ∧
        t.get F.YMS_CNT_OVERRUN = min (s.get F.YMS_CNT_OVERRUN + 1) (2 ^ 32 - 1) ∧
        t.yms.emerg = match e.next with
          | q :: rest => some { node := q.1, cause := q.2, next := rest }
          | [] => none) ∧
    (∀ n < 48, s.yms.emRamp = [n] →
      ∃ t, exec .emergencyRampStep s = .next t ∧
        t.getS (F.YMS_Sn_GRANT_TARGET n) = s.getS (F.YMS_Sn_GRANT_TARGET n) ∧
        (0 ≤ s.getS (F.YMS_Sn_GRANT_TARGET n) → s.getS (F.YMS_Sn_GRANT_TARGET n) ≤ s.getS (F.YMS_Sn_GRANT_APPLIED n) →
          s.getS (F.YMS_Sn_GRANT_TARGET n) ≤ t.getS (F.YMS_Sn_GRANT_APPLIED n) ∧
          t.getS (F.YMS_Sn_GRANT_APPLIED n) ≤ s.getS (F.YMS_Sn_GRANT_APPLIED n)))

/-- When a scheduled solve over frozen inputs ends in time, every charging stall's target lies between zero and its frozen demand current,
and every discharging stall's between minus that demand and zero, whatever the tree, the limits, the floors and the clamp. Commands:
SOLVE_COMPLETE. -/
def Obligations.TargetsWithinDemand : Prop :=
  ∀ (s : State) (fz : Frozen) (slack : Int), s.yms.frozen = some fz → fz.solving = true → 0 ≤ slack → s.domainOn 9 = true →
    (∀ x ∈ fz.stalls, x.stall < 48 ∧ 0 < x.vEst ∧ 0 < x.weight ∧ x.floor ≤ x.dem ∧ x.dem ≤ 32767) →
    (fz.stalls.map FStall.stall).Nodup →
    ∃ t, exec (.solveComplete slack) s = .next t ∧ ∀ x ∈ fz.stalls,
      (x.discharge = false → 0 ≤ t.getS (F.YMS_Sn_GRANT_TARGET x.stall) ∧ t.getS (F.YMS_Sn_GRANT_TARGET x.stall) ≤ x.dem) ∧
      (x.discharge = true → -(x.dem : Int) ≤ t.getS (F.YMS_Sn_GRANT_TARGET x.stall) ∧ t.getS (F.YMS_Sn_GRANT_TARGET x.stall) ≤ 0)

/-- An ACTIVE or RETIRING cabinet silent for 3 x REPORT_MS becomes LOST and triggers an emergency re-solve. An ENABLING cabinet not READY
in time returns to OFFLINE and a RETIRING one whose drain ends becomes OFFLINE; each completes its descriptor, with TIMEOUT (0x06) and OK.
CABINET_ENABLE takes an OFFLINE or LOST cabinet to ENABLING and waits, completes OK on one ACTIVE or ENABLING and gives NOT_IN_TREE (0x40)
for one ABSENT; CABINET_RETIRE takes an ACTIVE one to RETIRING, gives NOT_IN_TREE for one ABSENT, and withdraws a pending enable.
Commands: CABINET_SILENCE_TIMEOUT, CABINET_ENABLE_TIMEOUT, CABINET_DRAIN_END, CABINET_ENABLE, CABINET_RETIRE. -/
def Obligations.Cabinets : Prop :=
  ∀ (s : State) (c : Nat), c < 16 → s.yms.cabs.length = 16 →
    ((s.cabState c = 3 ∨ s.cabState c = 4) →
      ∃ t, exec (.cabinetSilenceTimeout c) s = .next t ∧ t.cabState c = 5 ∧ t.yms.emerg.isSome = true) ∧
    (∀ p num d, (s.pd p).table.find? (fun x => decide (x.num = num ∧ x.phase ≠ .finished)) = some d →
      (s.cabState c = 2 → (s.cab c).enable = [(p, num)] →
        ∃ t, exec (.cabinetEnableTimeout c) s = .next t ∧ t.cabState c = 1 ∧ s.Ended t p d.tag 0x06 0) ∧
      (s.cabState c = 4 → (s.cab c).retire = [(p, num)] → (s.cab c).cancel = [] →
        ∃ t, exec (.cabinetDrainEnd c) s = .next t ∧ t.cabState c = 1 ∧ s.Ended t p d.tag 0x00 0)) ∧
    (∀ p tag d, s.Ready p tag 0x0302 d → d.target = c →
      (s.cabState c = 0 → ∃ t, exec (.cabinetEnable p tag) s = .next t ∧ s.Ended t p tag 0x40 0) ∧
      ((s.cabState c = 1 ∨ s.cabState c = 5) →
        ∃ t, exec (.cabinetEnable p tag) s = .next t ∧ t.cabState c = 2 ∧ (t.cab c).enable = [(p, d.num)] ∧ (t.cab c).ready = false) ∧
      ((s.cabState c = 2 ∨ s.cabState c = 3) →
        ∃ t, exec (.cabinetEnable p tag) s = .next t ∧ s.Ended t p tag 0x00 0 ∧ t.cabState c = s.cabState c) ∧
      (s.cabState c = 4 → ∃ t, exec (.cabinetEnable p tag) s = .next t ∧ (p, d.num) ∈ (t.cab c).cancel ∧ t.cabState c = 4)) ∧
    (∀ p tag d, s.Ready p tag 0x0303 d → d.target = c →
      (s.cabState c = 0 → ∃ t, exec (.cabinetRetire p tag) s = .next t ∧ s.Ended t p tag 0x40 0) ∧
      (s.cabState c = 2 → (p, d.num) ∉ (s.cab c).enable →
        ∃ t, exec (.cabinetRetire p tag) s = .next t ∧ t.cabState c = 1 ∧ s.Ended t p tag 0x00 0) ∧
      (s.cabState c = 3 →
        ∃ t, exec (.cabinetRetire p tag) s = .next t ∧ t.cabState c = 4 ∧ (t.cab c).retire = [(p, d.num)] ∧
          (t.cab c).drainMs = d.arg 24 4 ∧ (t.cab c).retireAt = s.chrono) ∧
      ((s.cabState c = 1 ∨ s.cabState c = 4 ∨ s.cabState c = 5) →
        ∃ t, exec (.cabinetRetire p tag) s = .next t ∧ s.Ended t p tag 0x00 0 ∧ t.cabState c = s.cabState c))

/-- A lane's write replaces a stall's request slot. STALL_POLICY of a stall outside the tree completes NOT_IN_TREE (0x40), and otherwise
sets the fields that are not marked unchanged and waits for its solve. NODE_LIMIT of a node beyond the tree gives BAD_TARGET (0x04), a
current limit on a node that is no BUS gives FIELD_NOT_APPLICABLE (0x41), and other limits are kept, clamped to the table, and wait for
their solve. ALLOC_QUERY answers 2,336 bytes. A grace time that ends unsatisfied is enforced, one that ends satisfied is not. Commands:
LANE_REQUEST_SLOT_WRITE, STALL_POLICY, NODE_LIMIT, ALLOC_QUERY, THROTTLE_GRACE_EXPIRY. -/
def Obligations.PolicyAndThrottle : Prop :=
  ∀ s : State,
    (∀ n act dis i v, n < s.variant.links → n < s.yms.req.length → i < 65536 → v < 65536 →
      ∃ t, exec (.laneRequestSlotWrite n act dis i v) s = .next t ∧
        t.yms.req.getD n Req.none = { active := act, discharge := dis, i := i, v := v }) ∧
    (∀ p tag d, s.Ready p tag 0x0301 d →
      (s.stallNode? d.target = none → ∃ t, exec (.stallPolicy p tag) s = .next t ∧ s.Ended t p tag 0x40 0) ∧
      ((s.stallNode? d.target).isSome = true → d.target < s.yms.policy.length → d.arg 24 1 < 4 → 1 ≤ d.arg 25 1 →
        ∃ t, exec (.stallPolicy p tag) s = .next t ∧ t.get (F.YMS_Sn_POLICY0_TIER d.target) = d.arg 24 1 ∧
          t.get (F.YMS_Sn_POLICY0_WEIGHT d.target) = d.arg 25 1 ∧
          ∃ a ∈ t.yms.asks, a.p = p ∧ a.num = d.num ∧ a.node = false ∧ a.target = d.target ∧ a.used = false)) ∧
    (∀ p tag d, s.Ready p tag 0x0304 d →
      (s.treeNodes.length ≤ d.target → ∃ t, exec (.nodeLimit p tag) s = .next t ∧ s.Ended t p tag 0x04 0) ∧
      (∀ nd, s.treeNodes[d.target]? = some nd →
        (nd.kind ≠ 3 → d.arg 32 2 ≠ 0 → d.arg 32 2 ≠ 0xFFFF → ∃ t, exec (.nodeLimit p tag) s = .next t ∧ s.Ended t p tag 0x41 0) ∧
        (d.arg 32 2 = 0 → d.target < s.yms.lims.length → d.arg 24 4 ≠ 0xFFFFFFFF → d.arg 28 4 = 0xFFFFFFFF →
          ∃ t, exec (.nodeLimit p tag) s = .next t ∧
            t.yms.lims.getD d.target NodeLim.init = { imp := some (min (d.arg 24 4) nd.imp), exp := none, iLim := none } ∧
            ∃ a ∈ t.yms.asks, a.p = p ∧ a.num = d.num ∧ a.node = true ∧ a.clamped = decide (nd.imp < d.arg 24 4)))) ∧
    (∀ p tag d, s.Ready p tag 0x0305 d →
      ∃ t, exec (.allocQuery p tag) s = .next t ∧ s.Ended t p tag (if 2336 ≤ d.length then 0x00 else 0x01) 2336) ∧
    (∀ n, n < s.yms.throttle.length → n < 48 → (s.yms.throttle.getD n Throttle.init).grace = true →
      s.flag (F.YMS_Sn_THROTTLE_ENFORCED n) = false →
      ∃ t, exec (.throttleGraceExpiry n) s = .next t ∧ (t.yms.throttle.getD n Throttle.init).grace = false ∧
        t.flag (F.YMS_Sn_THROTTLE_ENFORCED n) = !(s.yms.throttle.getD n Throttle.init).satisfied)

/-- At a period start of a stall whose link is in RUN, when its turn has come and fewer than 12 periods have been computed in the cycle: a
computation that is late is discarded, changing neither the loop states nor the block prepared, and counts at the latch; with an invalid
newest frame HOLD_LAST is prepared and the loop states stay. An IDLE or STOPPED stall whose phases are all off, with no stop running,
sends edges for no phase, and its common duty is zero. A computed period lets waiting LOOP_TUNEs complete OK. Commands:
WALKER_PERIOD_COMPUTE. -/
def Obligations.WalkerPeriod : Prop :=
  ∀ (s : State) (n : Nat) (slack : Int) (ty : StallType), s.linkState n = Link.run → n < s.variant.links → n < 48 → s.wlk.length = 48 →
    s.domainOn 9 = true → s.walkerTurn n = true → s.walkerFull = false →
    (s.typesAt s.startCycle)[s.get (F.WLK_Sn_TYPE_TYPE n)]? = some ty →
    (slack < 0 → ∃ t, exec (.walkerPeriodCompute n slack) s = .next t ∧ (t.walk n).late = true ∧ (t.walk n).xi = (s.walk n).xi ∧
      (t.walk n).xv = (s.walk n).xv ∧ (t.walk n).out_ = (s.walk n).out_) ∧
    (∀ x rest, 0 ≤ slack → (s.link n).samples = x :: rest →
      (x.valid = false → ∃ t, exec (.walkerPeriodCompute n slack) s = .next t ∧ (t.walk n).out_ = .hold ∧ (t.walk n).late = false ∧
        (t.walk n).xi = (s.walk n).xi ∧ (t.walk n).xv = (s.walk n).xv) ∧
      (x.valid = true →
        ((s.mode n = 0 ∨ s.mode n = 5) → (s.walk n).ramp = none → (s.walk n).twoStep = false → (s.halt n).stop ≠ .emergency →
          (s.link n).phState = List.replicate 6 0 → (s.walk n).endPrev = List.replicate 6 none →
          ∃ t, exec (.walkerPeriodCompute n slack) s = .next t ∧ (t.walk n).out_ = .edges (List.replicate 6 []) ∧
            t.get (F.WLK_Sn_DUTY_D n) = 0 ∧ t.get (F.WLK_Sn_CURRENT_I_CMD n) = 0) ∧
        (∀ p num d, (s.walk n).tuneWait = [(p, num)] →
          (s.pd p).table.find? (fun y => decide (y.num = num ∧ y.phase ≠ .finished)) = some d →
          ∃ t, exec (.walkerPeriodCompute n slack) s = .next t ∧ s.Ended t p d.tag 0x00 0 ∧ (t.walk n).tuneWait = [])))

/-- Whatever a computed period sends, no phase gets more than two edges or STATE 0b11, and two edges of a phase lie at least DT +
MIN_PULSE apart. Commands: WALKER_PERIOD_COMPUTE. -/
def Obligations.EdgesApart : Prop :=
  ∀ (s t : State) (n : Nat) (slack : Int) (ty : StallType) (es : List (List Edge)), n < s.variant.links → n < 48 → s.wlk.length = 48 →
    s.domainOn 9 = true → s.walkerTurn n = true → s.walkerFull = false →
    (s.typesAt s.startCycle)[s.get (F.WLK_Sn_TYPE_TYPE n)]? = some ty → 0 ≤ slack → (∃ x rest, (s.link n).samples = x :: rest ∧ x.valid = true) →
    exec (.walkerPeriodCompute n slack) s = .next t → (t.walk n).out_ = .edges es →
    ∀ e ∈ es, e.length ≤ 2 ∧ (∀ x ∈ e, x.st < 3) ∧
      ∀ a b, e = [a, b] → 40000 * a.cyc + a.off + (ty.dtNs + ty.minPulse) * 4 ≤ 40000 * b.cyc + b.off

/-- A mode's time limit, contactors that do not close, and a lost feed-forward value each fail the mode into RAMP_DOWN with their CAUSE. A
lost phase leaves the active list and is marked lost; the first with others left runs degraded for 1,800 s, a further one or the only one
stops the stall. The end of the degraded time blocks and stops it. A finished two-step off has its all-off periods to send on a link in
RUN and ends elsewhere. A STALL_STOP waiting for 100 ms completes with TIMEOUT (0x06). Commands: MODE_TIMEOUT, CONTACTOR_CLOSE_TIMEOUT,
FF_LOST_TIMEOUT, PHASE_LOST, PHASE_DEGRADED_LIMIT, TWO_STEP_COMPLETE, STALL_STOP_TIMEOUT. -/
def Obligations.ModeTimers : Prop :=
  ∀ (s : State) (n : Nat), n < s.variant.links → n < 48 → s.wlk.length = 48 → s.haltS.length = 48 →
    ((s.mode n = 1 ∨ s.mode n = 2) → s.get (F.WLK_Sn_MODE_STATE n) = 1 →
      ∃ t, exec (.modeTimeout n) s = .next t ∧ t.mode n = 4 ∧ t.get (F.WLK_Sn_MODE_CAUSE n) = 1 ∧ (t.walk n).failed = true) ∧
    ((s.mode n = 1 ∨ s.mode n = 2) → (s.walk n).closed = false → s.contactorClosed n = false →
      ∃ t, exec (.contactorCloseTimeout n) s = .next t ∧ t.mode n = 4 ∧
        t.get (F.WLK_Sn_MODE_CAUSE n) = if s.flag (F.HLT_Sn_STATE_PERMIT n) then 3 else 2) ∧
    (s.mode n = 3 → s.hkVal n 9 = none → ∃ t, exec (.ffLostTimeout n) s = .next t ∧ t.mode n = 4 ∧ t.get (F.WLK_Sn_MODE_CAUSE n) = 7) ∧
    (∀ k cause, k < 6 → bitOf (s.get (F.WLK_Sn_PHASE_ACTIVE n)) k = true →
      ∃ t, exec (.phaseLost n k cause) s = .next t ∧ bitOf (t.get (F.WLK_Sn_PHASE_ACTIVE n)) k = false ∧
        bitOf (t.get (F.WLK_Sn_PHASE_LOST n)) k = true ∧ t.flag (F.WLK_Sn_DEGRADE_DEGRADED n) = true ∧
        ((s.flag (F.WLK_Sn_DEGRADE_DEGRADED n) = false ∧ ∃ j < 6, j ≠ k ∧ bitOf (s.get (F.WLK_Sn_PHASE_ACTIVE n)) j = true) →
          t.get (F.WLK_Sn_DEGRADE_REMAIN n) = 1800 ∧ t.flag (F.HLT_Sn_DEGRADE_PHASE_MODE n) = true) ∧
        ((s.flag (F.WLK_Sn_DEGRADE_DEGRADED n) = true ∨ ∀ j < 6, j ≠ k → bitOf (s.get (F.WLK_Sn_PHASE_ACTIVE n)) j = false) →
          t.get (F.WLK_Sn_DEGRADE_CAUSE n) = 2 ∧ (t.halt n).stop ≠ .none)) ∧
    (s.flag (F.WLK_Sn_DEGRADE_DEGRADED n) = true → s.flag (F.WLK_Sn_DEGRADE_BLOCKED n) = false →
      ∃ t, exec (.phaseDegradedLimit n) s = .next t ∧ t.flag (F.WLK_Sn_DEGRADE_BLOCKED n) = true ∧ (t.halt n).stop ≠ .none ∧
        t.get (F.WLK_Sn_DEGRADE_REMAIN n) = 0) ∧
    ((s.walk n).twoStep = true → (s.walk n).allOff = 0 → s.twoStepDone n = true → s.switchesOff n = true → s.contactorClosed n = false →
      ∃ t, exec (.twoStepComplete n) s = .next t ∧ (s.linkState n = Link.run → (t.walk n).twoStep = true ∧ 2 ≤ (t.walk n).allOff) ∧
        (s.linkState n ≠ Link.run → (t.walk n).twoStep = false)) ∧
    (∀ w rest d, (s.walk n).stops = w :: rest → (s.pd w.1).table.find? (fun x => decide (x.num = w.2.1 ∧ x.phase ≠ .finished)) = some d →
      ∃ t, exec (.stallStopTimeout n) s = .next t ∧ s.Ended t w.1 d.tag 0x06 0 ∧ (t.walk n).stops = rest)

/-- A mode request that R200 does not allow leaves the mode with CAUSE 4, and one that starts a session on a blocked stall with CAUSE 5.
An allowed request for cable check or precharge in another mode enters it with its V_TARGET and asks for the contactors; PRECHARGE that is
REACHED passes to ENERGY; RAMP_DOWN starts a ramp; STOPPED passes to IDLE. STALL_STOP with KIND above 1 gives OUT_OF_RANGE, in IDLE or
STOPPED completes OK, on a link not in RUN gives LINK_NOT_RUN, and otherwise brings RAMP_DOWN and waits, with kind 1 in a two-step off.
LOOP_TUNE with a value above 0x00FF_FFFF other than 0xFFFF_FFFF gives OUT_OF_RANGE, on a link not in RUN LINK_NOT_RUN, and otherwise keeps
its values and waits for the next period. Commands: LANE_MODE_REQUEST, STALL_STOP, LOOP_TUNE. -/
def Obligations.ModeRequests : Prop :=
  ∀ (s : State) (n : Nat), n < s.variant.links → n < 48 → s.wlk.length = 48 →
    (∀ mode v, v < 65536 →
      (s.modeLegal n mode = false →
        ∃ t, exec (.laneModeRequest n mode v) s = .next t ∧ t.mode n = s.mode n ∧ t.get (F.WLK_Sn_MODE_CAUSE n) = 4) ∧
      (s.modeLegal n mode = true → (mode = 1 ∨ mode = 2 ∨ mode = 3) → s.flag (F.WLK_Sn_DEGRADE_BLOCKED n) = true →
        ∃ t, exec (.laneModeRequest n mode v) s = .next t ∧ t.mode n = s.mode n ∧ t.get (F.WLK_Sn_MODE_CAUSE n) = 5) ∧
      (s.modeLegal n mode = true → s.flag (F.WLK_Sn_DEGRADE_BLOCKED n) = false → (mode = 1 ∨ mode = 2) → s.mode n ≠ mode →
        ∃ t, exec (.laneModeRequest n mode v) s = .next t ∧ t.mode n = mode ∧ t.get (F.WLK_Sn_MODE_STATE n) = 1 ∧
          t.get (F.WLK_Sn_MODE_V_TARGET n) = v ∧ (t.walk n).closeReq = true)) ∧
    (s.mode n = 2 → s.get (F.WLK_Sn_MODE_STATE n) = 2 → s.flag (F.WLK_Sn_DEGRADE_BLOCKED n) = false →
      s.flag F.WLK_STATUS_OVERBOOK = false → ∃ t, exec (.laneModeRequest n 3 0) s = .next t ∧ t.mode n = 3) ∧
    ((s.mode n = 1 ∨ s.mode n = 2 ∨ s.mode n = 3) →
      ∃ t, exec (.laneModeRequest n 4 0) s = .next t ∧ t.mode n = 4 ∧ (t.walk n).requested = true ∧ (t.walk n).ramp.isSome = true) ∧
    (s.mode n = 5 → ∃ t, exec (.laneModeRequest n 0 0) s = .next t ∧ t.mode n = 0) ∧
    (∀ p tag d, s.Ready p tag 0x0401 d → d.target = n →
      (1 < d.arg 24 1 → ∃ t, exec (.stallStop p tag) s = .next t ∧ s.Ended t p tag 0x40 0) ∧
      (d.arg 24 1 ≤ 1 → (s.mode n = 0 ∨ s.mode n = 5) → ∃ t, exec (.stallStop p tag) s = .next t ∧ s.Ended t p tag 0x00 0) ∧
      (d.arg 24 1 ≤ 1 → s.mode n ≠ 0 → s.mode n ≠ 5 →
        (s.linkState n ≠ Link.run → ∃ t, exec (.stallStop p tag) s = .next t ∧ s.Ended t p tag 0x41 0) ∧
        (s.linkState n = Link.run → ∃ t, exec (.stallStop p tag) s = .next t ∧ t.mode n = 4 ∧
          (p, d.num, s.chrono, decide ((s.halt n).stop ≠ .none)) ∈ (t.walk n).stops ∧
          (d.arg 24 1 = 1 → (t.walk n).twoStep = true ∧ (t.walk n).xi = 0 ∧ (t.walk n).xv = 0) ∧
          (d.arg 24 1 = 0 → s.mode n ≠ 4 → (t.walk n).ramp.isSome = true)))) ∧
    (∀ p tag d, s.Ready p tag 0x0402 d → d.target = n →
      ((∃ i < 7, 0x00FFFFFF < d.arg (24 + 4 * i) 4 ∧ d.arg (24 + 4 * i) 4 ≠ 0xFFFFFFFF) →
        ∃ t, exec (.loopTune p tag) s = .next t ∧ s.Ended t p tag 0x40 0 ∧ (t.walk n).tune = (s.walk n).tune) ∧
      ((∀ i < 7, d.arg (24 + 4 * i) 4 ≤ 0x00FFFFFF ∨ d.arg (24 + 4 * i) 4 = 0xFFFFFFFF) →
        (s.linkState n ≠ Link.run → ∃ t, exec (.loopTune p tag) s = .next t ∧ s.Ended t p tag 0x41 0) ∧
        (s.linkState n = Link.run → ∃ t, exec (.loopTune p tag) s = .next t ∧ (p, d.num) ∈ (t.walk n).tuneWait ∧
          ∀ i < 7, (t.walk n).tune.getD i none = if d.arg (24 + 4 * i) 4 = 0xFFFFFFFF then none else some (d.arg (24 + 4 * i) 4))))

/-- When the millisecond that ended commits, the FWD accumulator of every channel rises by the sum of its positive sample energies and REV
by the magnitude of the negative ones, whatever split points cut the millisecond; a channel whose millisecond is not committed registers
nothing, and one counted unmetered adds one to WBG_Mc_UNMET_MS. Commands: WEIGHBRIDGE_MS_COMMIT. -/
def Obligations.EnergyConserved : Prop :=
  ∀ (s : State) (slack : Int) (overs : List Nat) (fd : List FeederIn) (c : Nat), s.metersOn = true → s.wbg.nextMs < s.chrono / 250000 → c < 52 →
    (∀ n, (s.link n).msPast.length ≤ 100) →
    let ms := s.chrono / 250000 - 1
    let o := (s.msBegin (ms * 250000)).msOut ms overs fd c
    let es := if o.done then o.samples.map Prod.snd else []
    ∃ t, exec (.weighbridgeMsCommit slack overs fd) s = .next t ∧ t.wbg.nextMs = s.chrono / 250000 ∧
      t.acc c false = (s.acc c false + absSum (es.filter fun e => 0 < e)) % 2 ^ 96 ∧
      t.acc c true = (s.acc c true + absSum (es.filter fun e => e < 0)) % 2 ^ 96 ∧
      (o.cause ≠ 0 → t.get (F.WBG_Mc_UNMET_MS c) = min (s.get (F.WBG_Mc_UNMET_MS c) + 1) (2 ^ 32 - 1)) ∧
      (o.cause = 0 → t.get (F.WBG_Mc_UNMET_MS c) = s.get (F.WBG_Mc_UNMET_MS c))

/-- CHECKPOINT_NOW waits for the store of the next boundary. At an allocation boundary on the periodic grid, with its millisecond
committed and no store of the Weighbridge running, a store that the hold-up check admits starts with the capture of that boundary, and one
that it refuses sets CKPT_REFUSED, is owed again and ends the CHECKPOINT_NOWs accepted before that boundary. With the supply below COMMIT
and every stall below 5.0 A, or 6 ms after COMMIT, the final store starts with the capture of the last boundary, unless that boundary is
already durable, or is refused, which the GAP window will report. Commands: CHECKPOINT_NOW, CHECKPOINT_STORE_START, FINAL_STORE_START. -/
def Obligations.Checkpoints : Prop :=
  ∀ s : State,
    (∀ p tag d, s.Ready p tag 0x0502 d →
      ∃ t, exec (.checkpointNow p tag) s = .next t ∧ (p, d.num, s.chrono) ∈ t.bil.ckWaits) ∧
    (let b := s.chrono / 250000
     let n := s.carried (b * 250000)
     s.ckptMay b = true →
      (s.bil.ckAt ≠ b → b % s.get F.WBG_CKPT_CFG_PERIOD_MS = 0 →
        (s.admits 1 (storeNeed 1 n) = true → ∃ t, exec .checkpointStoreStart s = .next t ∧
          ∃ st ∈ t.hay.running, ∃ k, st.job = .ckpt k ∧ k.edge.at_ = b * 250000 ∧ k.final = false) ∧
        (s.admits 1 (storeNeed 1 n) = false → ∃ t, exec .checkpointStoreStart s = .next t ∧
          t.flag F.WBG_STATUS_CKPT_REFUSED = true ∧ t.bil.ckRetry = some 0 ∧ ∀ x ∈ t.bil.ckWaits, b * 250000 ≤ x.2.2)) ∧
      (s.get F.PWR_STATE_SUPPLY = 2 → ((∀ n < 48, s.quiet5A n = true) ∨ s.pwr.commitAt + 1500000 ≤ s.chrono) →
        (s.storedAt (b * 250000) = true → ∃ t, exec .finalStoreStart s = .next t ∧ t.pwr.gapCause = 0) ∧
        (s.storedAt (b * 250000) = false →
          (s.admits 1 (storeNeed 1 n) = true → ∃ t, exec .finalStoreStart s = .next t ∧
            ∃ st ∈ t.hay.running, ∃ k, st.job = .ckpt k ∧ k.edge.at_ = b * 250000 ∧ k.final = true) ∧
          (s.admits 1 (storeNeed 1 n) = false → ∃ t, exec .finalStoreStart s = .next t ∧
            t.flag F.WBG_STATUS_CKPT_REFUSED = true ∧ t.pwr.gapCause = 1))))

/-- A due pulse starts once the least off time has passed, for its on time, and is counted in PULSES_AHEAD; it ends after that time. A
leading edge is counted, and in SUBSTITUTE waits for its millisecond. A COMPARE without an edge for 60 s ends with TIMEOUT (0x06).
PULSE_INPUT_MODE refuses a MODE above 2, SUBSTITUTE on a stall channel (0x43) and SUBSTITUTE outside the submitter's window (0x40); OFF
ends at once, COMPARE starts and waits, and a SUBSTITUTE inside the window starts the store of its change-log entry. CAL_APPLY gives
WINDOW_CLOSED, OUT_OF_RANGE, NO_RECORD or CHANNEL_ENERGISED, in this order, or starts the store of its change-log entry. Commands:
PULSE_OUTPUT_START, PULSE_OUTPUT_END, S0_INPUT_EDGE, PULSE_COMPARE_TIMEOUT, PULSE_INPUT_MODE, CAL_APPLY. -/
def Obligations.PulsesAndCalibration : Prop :=
  ∀ s : State, s.wbg.pulses.length = 4 → s.wbg.edges.length = 4 → s.wbg.cmp.length = 4 → s.wbg.met.length = 52 →
    (∀ k < 4,
      (∀ due rest, s.metersOn = true → s.flag (F.WBG_POk_CFG_ENABLE k) = true → (s.wbg.pulses.getD k Pulse.init).queue = due :: rest →
        (s.wbg.pulses.getD k Pulse.init).on = none → due ≤ s.chrono →
        (∀ e, (s.wbg.pulses.getD k Pulse.init).lastEnd = some e → e + s.get (F.WBG_POk_CFG_OFF_MS k) * 250000 ≤ s.chrono) →
        ∃ t, exec (.pulseOutputStart k) s = .next t ∧ (t.wbg.pulses.getD k Pulse.init).queue = rest ∧
          (t.wbg.pulses.getD k Pulse.init).on = some (s.chrono + s.get (F.WBG_POk_CFG_ON_MS k) * 250000) ∧
          t.get (F.WBG_POk_AHEAD k) = min (s.get (F.WBG_POk_AHEAD k) + 1) 65535) ∧
      (∀ e, (s.wbg.pulses.getD k Pulse.init).on = some e → e ≤ s.chrono →
        ∃ t, exec (.pulseOutputEnd k) s = .next t ∧ (t.wbg.pulses.getD k Pulse.init).on = none ∧
          (t.wbg.pulses.getD k Pulse.init).lastEnd = some s.chrono) ∧
      (∀ at_, s.metersOn = true →
        ∃ t, exec (.s0InputEdge k at_) s = .next t ∧
          t.get (F.WBG_S0k_COUNT k) = (s.get (F.WBG_S0k_COUNT k) + 1) % 2 ^ 32 ∧
          (s.get (F.WBG_S0k_CFG_MODE k) = 2 → at_ ∈ t.wbg.edges.getD k [])) ∧
      (∀ x d, s.wbg.cmp.getD k none = some x → x.close = none →
        (s.pd x.p).table.find? (fun y => decide (y.num = x.num ∧ y.phase ≠ .finished)) = some d →
        ∃ t, exec (.pulseCompareTimeout k) s = .next t ∧ s.Ended t x.p d.tag 0x06 0 ∧ t.wbg.cmp.getD k none = none ∧
          t.get (F.WBG_S0k_CFG_MODE k) = 0)) ∧
    (∀ p tag d, s.Ready p tag 0x0503 d → d.target < 4 →
      (2 < d.arg 24 1 → ∃ t, exec (.pulseInputMode p tag) s = .next t ∧ s.Ended t p tag 0x41 0) ∧
      (d.arg 25 1 ≤ 51 → d.arg 26 1 ≤ 1 → 1 ≤ d.arg 28 4 → d.arg 28 4 ≤ 100000000 → d.arg 32 4 = 0 →
        (d.arg 24 1 = 2 → d.arg 25 1 < 48 → ∃ t, exec (.pulseInputMode p tag) s = .next t ∧ s.Ended t p tag 0x43 0) ∧
        (d.arg 24 1 = 2 → 48 ≤ d.arg 25 1 → s.ownsWindow p = false →
          ∃ t, exec (.pulseInputMode p tag) s = .next t ∧ s.Ended t p tag 0x40 0) ∧
        (d.arg 24 1 = 0 → s.get (F.WBG_S0k_CFG_MODE d.target) ≠ 2 → s.wbg.cmp.getD d.target none = none →
          ∃ t, exec (.pulseInputMode p tag) s = .next t ∧ s.Ended t p tag 0x00 0 ∧ t.get (F.WBG_S0k_CFG_MODE d.target) = 0) ∧
        (d.arg 24 1 = 2 → 48 ≤ d.arg 25 1 → s.ownsWindow p = true → s.changelogFull = false → s.stagingUsed + 3608 ≤ 4194304 →
          s.admits 2 (storeNeed 2 1) = true →
          ∃ t, exec (.pulseInputMode p tag) s = .next t ∧ ∃ st ∈ t.hay.running, ∃ body bytes,
            st.job = .change ⟨3, p, body, .input p d.num d.target d.param⟩ bytes)) ∧
      (d.arg 24 1 = 1 → d.arg 25 1 ≤ 51 → d.arg 26 1 ≤ 1 → 1 ≤ d.arg 28 4 → d.arg 28 4 ≤ 100000000 → 10 ≤ d.arg 32 4 → d.arg 32 4 ≤ 100000 →
        s.get (F.WBG_S0k_CFG_MODE d.target) ≠ 2 →
        ∃ t, exec (.pulseInputMode p tag) s = .next t ∧ t.get (F.WBG_S0k_CFG_MODE d.target) = 1 ∧
          t.wbg.cmp.getD d.target none = some ⟨p, d.num, d.arg 32 4, 0, none, none, 0, []⟩)) ∧
    (∀ p tag d, s.Ready p tag 0x0501 d →
      (s.ownsWindow p = false → ∃ t, exec (.calApply p tag) s = .next t ∧ s.Ended t p tag 0x40 0) ∧
      (s.ownsWindow p = true → calOk d.target (d.arg 24 1) (calOf d.param) = false →
        ∃ t, exec (.calApply p tag) s = .next t ∧ s.Ended t p tag 0x41 0) ∧
      (s.ownsWindow p = true → calOk d.target (d.arg 24 1) (calOf d.param) = true →
        (d.target < 48 → (s.rec? d.target).committed = false → ∃ t, exec (.calApply p tag) s = .next t ∧ s.Ended t p tag 0x44 0) ∧
        (d.target < 48 → (s.rec? d.target).committed = true → s.contactorClosed d.target = true →
          ∃ t, exec (.calApply p tag) s = .next t ∧ s.Ended t p tag 0x42 0) ∧
        ((48 ≤ d.target ∨ (s.rec? d.target).committed = true ∧ s.contactorClosed d.target = false) → s.changelogFull = false →
          s.stagingUsed + 3608 ≤ 4194304 → s.admits 2 (storeNeed 2 1) = true →
          ∃ t, exec (.calApply p tag) s = .next t ∧ ∃ st ∈ t.hay.running, ∃ body bytes,
            st.job = .change ⟨3, p, body, .cal p d.num d.target d.param⟩ bytes)))

/-- A second of the RTC advances the legal tick by one. TIME_SET refuses a MODE above 1 and an AT_CHRONOBASE more than 1 s away with
OUT_OF_RANGE (0x40); a slew completes OK and absorbs DELTA from now on; a step of at most 2 s at the instant of execution sets wall time,
makes it valid and completes OK. A step that waits happens at its instant. The end of a slew clears SLEWING. At an interval's end the next
interval opens and BLOCK_SEQ advances, and the calendar's tariff is in force, unless switching is frozen, a switch reached setting
BIL_LAST_SWITCH; it is once a freeze ends. Commands: LEGAL_TICK_ADVANCE, TIME_SET, TIME_SET_AT_CHRONOBASE, TIME_SLEW_END,
BILLING_BOUNDARY, TARIFF_FREEZE_END. -/
def Obligations.WallTime : Prop :=
  ∀ s : State,
    (∃ t, exec .legalTickAdvance s = .next t ∧ t.get F.BIL_TICK = (s.get F.BIL_TICK + 1) % 2 ^ 48) ∧
    (∀ p tag d, s.Ready p tag 0x0601 d →
      (1 < d.arg 32 1 → ∃ t, exec (.timeSet p tag) s = .next t ∧ s.Ended t p tag 0x40 0 ∧ t.bil.clk = s.bil.clk) ∧
      (d.arg 40 8 ≠ 0 → (s.chrono + 250000000 < d.arg 40 8 ∨ d.arg 40 8 + 250000000 < s.chrono) →
        ∃ t, exec (.timeSet p tag) s = .next t ∧ s.Ended t p tag 0x40 0 ∧ t.bil.clk = s.bil.clk) ∧
      (d.arg 40 8 = 0 → s.bil.genesisWall ≤ d.arg 24 8 →
        let delta := (d.arg 24 8 : Int) * wallUnit - s.bil.clk.fine s.chrono
        (d.arg 32 1 = 1 → d.arg 33 1 ≤ 200 → -(5 * twoSeconds) ≤ delta → delta ≤ 5 * twoSeconds →
          ∃ t r, exec (.timeSet p tag) s = .next t ∧ s.Ended t p tag 0x00 r ∧ t.bil.clk.total = delta ∧ t.bil.clk.at_ = s.chrono) ∧
        (d.arg 32 1 = 0 → d.arg 33 1 = 0 → -twoSeconds ≤ delta → delta ≤ twoSeconds →
          ∃ t, exec (.timeSet p tag) s = .next t ∧ s.Ended t p tag 0x00 0 ∧ t.flag F.BIL_TIME_STATUS_VALID = true ∧
            t.bil.clk = ⟨(d.arg 24 8 : Int) * wallUnit, s.chrono, 0, 0⟩))) ∧
    (∀ x rest, s.bil.stepWait = x :: rest → x.1 ≤ s.chrono →
      ∃ t, exec .timeSetAtChronobase s = .next t ∧ t.bil.stepWait = rest ∧ t.bil.clk = ⟨(x.2.1 : Int) * wallUnit, x.1, 0, 0⟩ ∧
        t.flag F.BIL_TIME_STATUS_VALID = true) ∧
    (s.flag F.BIL_TIME_STATUS_SLEWING = true →
      ∃ t, exec .timeSlewEnd s = .next t ∧ t.flag F.BIL_TIME_STATUS_SLEWING = false ∧ t.bil.clk.ppm = 0 ∧ t.bil.clk.total = 0) ∧
    (s.metersOn = true → s.flag F.BIL_TIME_STATUS_VALID = true →
      (s.bil.ivEnd ≤ s.wall → s.noInterval = false → ∃ t, exec .billingBoundary s = .next t ∧ t.bil.blockSeq = s.bil.blockSeq + 1 ∧
        t.bil.ivWall = s.wall ∧ t.bil.lastEnd = s.wall ∧ t.bil.ivEnd = nextBoundary t.bil.ivMin s.wall ∧
        (∀ x, s.bil.frozen = false → calSwitch s.bil.calTab s.wall = some x → t.bil.tariff = x.2)) ∧
      (s.wall < s.bil.ivEnd → ∃ t, exec .billingBoundary s = .next t ∧ t.bil.blockSeq = s.bil.blockSeq ∧
        (∀ x, s.bil.frozen = false → calSwitch s.bil.calTab s.wall = some x →
          t.bil.tariff = x.2 ∧ (s.bil.switched < x.1 → t.get F.BIL_LAST_SWITCH = s.wall % 2 ^ 64))) ∧
      (s.bil.frozen = true → s.get F.BIL_LAST_SWITCH ≤ s.wall → ∃ t, exec .tariffFreezeEnd s = .next t ∧ t.bil.frozen = false ∧
        t.flag F.BIL_STATUS_TIME_FROZEN = false ∧ ∀ x, calSwitch s.bil.calTab s.wall = some x → t.bil.tariff = x.2))

/-- READING_TAKE waits for the next allocation boundary, or completes BUSY_RETRY (0x05) while no record may be written. RECORD_FETCH
refuses another region with OUT_OF_RANGE (0x40), gives NO_SUCH_RECORD (0x42) beyond the head OK with RESULT 0 at it, and the records asked
for below it, with their bytes in RESULT, where the buffer holds them. The oldest durable reading is signed and appended to READINGS; with
a bad key slot KEY_FAULT is set. A prepay operation is captured as a record that will change the account; one on an account above 65,535
gives OUT_OF_RANGE, a debit that would pass -EMERG_LIMIT gives INSUFFICIENT_CREDIT (0x41), and a query of 32 bytes OK. An account
exhausted when a friendly window ends is marked so. A tamper input that comes to a level shows in the open inputs by the closed level of
its configuration; an edge raises TAMPER, at once with main power, and stands in the log outside RUN; beyond 16 entries it is counted as
dropped. Commands: READING_TAKE, RECORD_FETCH, READING_SIGN, PREPAY_CREDIT, PREPAY_DEBIT, PREPAY_QUERY, FRIENDLY_WINDOW_END, TAMPER_EDGE.
-/
def Obligations.ReadingsAndPrepay : Prop :=
  ∀ s : State,
    (∀ p tag d, s.Ready p tag 0x0602 d →
      (s.mayRecord = false → ∃ t, exec (.readingTake p tag) s = .next t ∧ s.Ended t p tag 0x05 0) ∧
      (s.mayRecord = true → s.bil.journal.length + s.bil.waiting.length + s.bil.takes.length < 1024 →
        ∃ t, exec (.readingTake p tag) s = .next t ∧ ⟨s.chrono, d.target, bitOf (d.arg 24 1) 0, p, d.num⟩ ∈ t.bil.takes)) ∧
    (∀ p tag d, s.Ready p tag 0x0603 d → s.listReads = false →
      (1 < d.arg 24 1 → ∃ t, exec (.recordFetch p tag) s = .next t ∧ s.Ended t p tag 0x40 0) ∧
      (d.arg 24 1 = 0 → d.arg 25 1 = 0 → 1 ≤ d.arg 40 4 → d.arg 40 4 ≤ 1024 → (s.region 1).base ≤ d.arg 32 8 →
        (s.get F.BIL_REC_SEQ < d.arg 32 8 → ∃ t, exec (.recordFetch p tag) s = .next t ∧ s.Ended t p tag 0x42 0) ∧
        (d.arg 32 8 = s.get F.BIL_REC_SEQ → ∃ t, exec (.recordFetch p tag) s = .next t ∧ s.Ended t p tag 0x00 0) ∧
        (let n := min (d.arg 40 4) ((s.region 1).base + (s.region 1).items.length - d.arg 32 8)
         d.arg 32 8 < (s.region 1).base + (s.region 1).items.length → d.arg 32 8 < s.get F.BIL_REC_SEQ → d.arg 40 4 * 3760 ≤ d.length →
          ∃ t, exec (.recordFetch p tag) s = .next t ∧ s.Ended t p tag 0x00 (n * 3760) ∧
            .buffer p d.bufaddr (((s.region 1).items.drop (d.arg 32 8 - (s.region 1).base)).take n).flatten ∈ t.out))) ∧
    (s.domainOn 7 = true →
      (∃ t, exec (.readingSign true) s = .next t ∧ t.flag F.TCK_STATUS_KEY_FAULT = true ∧ t.bil.journal = s.bil.journal) ∧
      (∀ r rest, s.bil.journal = r :: rest → s.domainOn 5 = true → s.regionFull 1 = false →
        ∃ t, exec (.readingSign false) s = .next t ∧ t.bil.journal = rest ∧ t.bil.lastRec.take 384 = s.recordHead r ∧
          t.hay.readings.items = s.hay.readings.items ++ [t.bil.lastRec])) ∧
    (∀ p tag d, s.Ready p tag 0x0604 d →
      (65535 < d.arg 24 4 → ∃ t, exec (.prepayCredit p tag) s = .next t ∧ s.Ended t p tag 0x40 0) ∧
      (d.arg 24 4 ≤ 65535 → d.arg 28 1 = 0 → 1 ≤ d.arg 32 8 → d.arg 32 8 ≤ 2 ^ 62 → d.arg 40 8 = 0 → s.mayRecord = true →
        ∃ t, exec (.prepayCredit p tag) s = .next t ∧ ∃ r ∈ t.bil.waiting, r.kind = 10 ∧
          (s.bil.waiting = [] → s.get F.BIL_REC_SEQ + 1 < 2 ^ 64 → r.seq = s.get F.BIL_REC_SEQ) ∧ r.after_ = ⟨some (p, d.num), some (d.arg 24 4, d.arg 32 8, none)⟩)) ∧
    (∀ p tag d, s.Ready p tag 0x0605 d → d.arg 24 4 ≤ 65535 → d.arg 28 1 = 0 → 1 ≤ d.arg 32 8 → d.arg 32 8 ≤ 2 ^ 62 → d.arg 40 8 = 0 →
      s.mayRecord = true →
      let left := s.liveFine (d.arg 24 4) + (s.pendingOps (d.arg 24 4) - d.arg 32 8) * 2 ^ 32
      let limit := -((s.acct (d.arg 24 4)).lim : Int) * 2 ^ 32
      (left < limit → ∃ t, exec (.prepayDebit p tag) s = .next t ∧ s.Ended t p tag 0x41 0) ∧
      (limit ≤ left → ∃ t, exec (.prepayDebit p tag) s = .next t ∧ ∃ r ∈ t.bil.waiting, r.kind = 10 ∧
        r.after_ = ⟨some (p, d.num), some (d.arg 24 4, -(d.arg 32 8 : Int), none)⟩)) ∧
    (∀ p tag d, s.Ready p tag 0x0606 d → d.arg 24 4 ≤ 65535 → 32 ≤ d.length →
      ∃ t, exec (.prepayQuery p tag) s = .next t ∧ s.Ended t p tag 0x00 32) ∧
    ((calFriendly s.bil.calTab s.wall = true → exec .friendlyWindowEnd s = .next s) ∧
      (∀ a, calFriendly s.bil.calTab s.wall = false → (∃ x ∈ s.bil.debits, x.account = some a) → s.sessionsOn a ≠ [] →
        s.liveFine a ≤ -((s.acct a).lim : Int) * 2 ^ 32 → ∃ t, exec .friendlyWindowEnd s = .next t ∧ (t.acct a).exh = true)) ∧
    (∀ i high vbat wall, i < 2 → s.flag (if i = 0 then F.BIL_TAMPER_CFG_COVER_EN else F.BIL_TAMPER_CFG_TERM_EN) = true →
      let opened := high != s.flag (if i = 0 then F.BIL_TAMPER_CFG_COVER_HIGH else F.BIL_TAMPER_CFG_TERM_HIGH)
      ∃ t, exec (.tamperEdge i high vbat wall) s = .next t ∧ bitOf (t.get F.BIL_TAMPER_STATE_OPEN) i = opened ∧
        (s.inputOpen i ≠ opened → (vbat = false ∨ s.inRun = true ∧ s.bil.tlog.length < 16 → t.flag F.BIL_STATUS_TAMPER = true) ∧
          (s.bil.tlog.length < 16 →
            (s.inRun = true → t.bil.tlog = []) ∧
            (s.inRun = false → ∃ e, t.bil.tlog = s.bil.tlog ++ [e] ∧ e.input = i ∧ e.edge = b2n (!opened) ∧ e.vbat = vbat)) ∧
          (16 ≤ s.bil.tlog.length → t.bil.tlog = s.bil.tlog ∧
            t.get F.BIL_TAMPER_STATE_DROPPED = min (s.get F.BIL_TAMPER_STATE_DROPPED + 1) 65535)))

/-- On a host-terminated stall a tunnel message of at most 2,016 bytes takes one slot of an enabled receive ring with room, and is dropped
and counted without a ring. On a device-terminated stall without a context an SDP request of at most 1,514 bytes that some protocol fits
opens one, which keeps whether TLS was asked for. An unmatched timer of a session past authorization closes it with TIMEOUT, the expiry of
a GB/T timer in READY or ENERGY with TRANSPORT, a failed mode with cause 10, or 11 where a Halter stop or the link is the reason, the
sixth retransmission with TRANSPORT. LINGER ends in FREE with the generation kept. Commands: DRO_MESSAGE_RECEIVE, DRO_TIMER_EXPIRY,
DRO_STALL_RESULT, TCP_RETRANSMIT_TIMEOUT, LINGER_EXPIRY. -/
def Obligations.SessionTransport : Prop :=
  ∀ (s : State) (n i : Nat), n < s.variant.links → s.slk.length = 48 → s.pdk.length = 4 → i < s.dro.ctxs.length → s.domainOn 10 = true →
    (∀ v ch m at_ rest, s.get F.PWR_STATE_STATE ≠ 1 → (s.link n).heldTun = (ch, m, at_) :: rest → s.linkState n = Link.run → n < 48 →
      (s.flag (F.DRO_Sn_CFG_TUNNEL_MODE n) = true →
        (s.flag F.DRO_RX_CFG_ENABLE = false → ∃ t, exec (.droMessageReceive n v) s = .next t ∧ (t.link n).heldTun = rest ∧
          t.flag F.DRO_STATUS_RX_LOST = true ∧ t.get F.DRO_RX_LOST = min (s.get F.DRO_RX_LOST + 1) (2 ^ 32 - 1)) ∧
        (s.flag F.DRO_RX_CFG_ENABLE = true → 1 ≤ m.length → m.length ≤ 2016 →
          let p := s.get F.DRO_RX_CFG_OWNER
          let r := (s.pd p).ring 13
          (s.pd p).rings.length = 15 → r.stopped = false → (r.prod + 2 ^ 32 - r.hostIdx) % 2 ^ 32 + 1 ≤ 2 ^ s.get F.DRO_RX_CFG_SIZE_LOG2 →
          ∃ t, exec (.droMessageReceive n v) s = .next t ∧ (t.link n).heldTun = rest ∧ ((t.pd p).ring 13).prod = (r.prod + 1) % 2 ^ 32)) ∧
      (∀ tls, v = .sdp tls → s.flag (F.DRO_Sn_CFG_TUNNEL_MODE n) = false → s.stallCtx n = none → s.mayOpen n = true →
        ch ≠ 3 → m.length ≤ 1514 → s.sdpFits n ch tls = true →
        s.dro.ctxs.length = 128 → (∃ j < s.variant.sessions, (s.ctx j).state = 0) →
        ∃ t j, exec (.droMessageReceive n v) s = .next t ∧ t.stallCtx n = some j ∧ (t.ctx j).state = 1 ∧ (t.ctx j).chan = ch ∧
          (t.ctx j).ask = some tls)) ∧
    ((s.ctx i).live = true → (s.ctx i).state ≠ 5 →
      (∀ k o, k ∈ (s.ctx i).timers → machineAt (s.smOf i) (s.ctx i).proto = some o → s.findTrans i o 1 k = none → (s.ctx i).stops = [] →
        (s.ctx i).proto ≠ 6 → (s.ctx i).auth ≠ 0 →
        ∃ t, exec (.droTimerExpiry i k) s = .next t ∧ (t.ctx i).cause = 5 ∧ 5 ≤ (t.ctx i).state) ∧
      (∀ k o, k ∈ (s.ctx i).timers → machineAt (s.smOf i) 6 = some o → (s.ctx i).proto = 6 → ((s.ctx i).state = 3 ∨ (s.ctx i).state = 4) →
        ∃ t, exec (.droTimerExpiry i k) s = .next t ∧ (t.ctx i).cause = 8 ∧ 5 ≤ (t.ctx i).state) ∧
      ((s.ctx i).host = false → s.guardOk i 6 = true → machineAt (s.smOf i) (s.ctx i).proto = none →
        ∃ t, exec (.droStallResult i 6) s = .next t ∧ 5 ≤ (t.ctx i).state ∧
          (t.ctx i).cause = (if s.linkState (s.ctx i).stall ≠ Link.run ∨ (s.halt (s.ctx i).stall).stop ≠ .none then 11 else 10)) ∧
      ((s.ctx i).conn = true →
        (5 ≤ (s.ctx i).retries → ∃ t, exec (.tcpRetransmitTimeout i) s = .next t ∧ (t.ctx i).cause = 8 ∧ 5 ≤ (t.ctx i).state) ∧
        ((s.ctx i).retries < 5 → ∃ t, exec (.tcpRetransmitTimeout i) s = .next t ∧ (t.ctx i).retries = (s.ctx i).retries + 1))) ∧
    ((s.ctx i).state = 6 → ∃ t, exec (.lingerExpiry i) s = .next t ∧ (t.ctx i).state = 0 ∧ (t.ctx i).gen = (s.ctx i).gen)

/-- A running lookup of AUTH_MODE LIST accepts an ALLOWED entry and refuses everything else with cause REFUSED. A host that does not
answer refuses the session, or in mode 3 the list decides. An accepted session that the lane binds gives its channel the binding; where
Billing does not refuse, its opening becomes a split point, where it does, a device-terminated session is refused; its closing becomes a
split point once the mode rests with the contactors open. SESSION_AUTHORIZE accepts, refuses, looks its token up, or completes with
STALE_HANDLE (0x40) or NOT_AWAITING (0x41). Commands: AUTH_LOOKUP_DONE, AUTH_HOST_TIMEOUT, LANE_SESSION_BIND, SESSION_METERING_OPEN,
SESSION_METERING_CLOSE, SESSION_AUTHORIZE. -/
def Obligations.Authorization : Prop :=
  ∀ (s : State) (n i : Nat), s.dro.ctxs.length = 128 → s.wbg.met.length = 52 → n < 48 → i < 128 → s.domainOn 10 = true →
    ((s.ctx i).live = true → (s.ctx i).state ≠ 5 →
      ((s.ctx i).look = some .first → s.lookRuns i = true → s.get (F.DRO_Sn_CFG_AUTH_MODE (s.ctx i).stall) = 1 →
        let r := s.lookup (beVal (s.ctx i).idHash)
        (∀ e, r = (0, some e) → ∃ t, exec (.authLookupDone i false) s = .next t ∧ (t.ctx i).auth = 2 ∧ (t.ctx i).look = none ∧
          (t.ctx i).contract = (s.ctx i).idHash.take 16) ∧
        (r.1 ≠ 0 → ∃ t, exec (.authLookupDone i false) s = .next t ∧ (t.ctx i).auth = 3 ∧ (t.ctx i).cause = 3)) ∧
      ((s.ctx i).auth = 1 → (s.ctx i).look = none →
        (s.get (F.DRO_Sn_CFG_AUTH_MODE (s.ctx i).stall) ≠ 3 →
          ∃ t, exec (.authHostTimeout i) s = .next t ∧ (t.ctx i).auth = 3 ∧ (t.ctx i).cause = 3) ∧
        (s.get (F.DRO_Sn_CFG_AUTH_MODE (s.ctx i).stall) = 3 → (s.ctx i).idKind ≠ 0 →
          ∃ t, exec (.authHostTimeout i) s = .next t ∧ (t.ctx i).look = some .fallback))) ∧
    (s.stallCtx n = some i → (s.ctx i).auth = 2 → (s.ctx i).state ≤ 2 → s.metered i = false → s.openingOn n = false →
      ∃ t, exec (.laneSessionBind n) s = .next t ∧
        (t.met n).bind = some { handle := s.handle i, contract := (s.ctx i).contract, account := (s.ctx i).account } ∧
        ((s.ctx i).host = false → (t.ctx i).state = 3)) ∧
    (s.domainOn 8 = true →
      (∀ b, (s.met n).bind = some b → s.openingOn n = false → (s.met n).sess = none → s.byHandle b.handle = some i →
        (s.refuses b = false → ∃ t, exec (.sessionMeteringOpen n) s = .next t ∧ t.openingOn n = true) ∧
        (s.refuses b = true → (s.ctx i).host = false → ∃ t, exec (.sessionMeteringOpen n) s = .next t ∧ (t.met n).bind = none ∧
          (t.ctx i).auth = 3)) ∧
      (∀ x, (s.met n).sess = some x → x.ending = true → (s.mode n = 0 ∨ s.mode n = 5) → s.contactorClosed n = false →
        ∃ t, exec (.sessionMeteringClose n) s = .next t ∧ t.closingOn n = true ∧
          (s.byHandle x.bind.handle = some i → (s.ctx i).state = 5 → (t.ctx i).state = 6))) ∧
    (∀ p tag d data, s.Ready p tag 0x0701 d →
      (s.byHandle (d.arg 24 4) = none → ∃ t, exec (.sessionAuthorize p tag data) s = .next t ∧ s.Ended t p tag 0x40 0) ∧
      (s.byHandle (d.arg 24 4) = some i →
        ((s.ctx i).auth ≠ 1 → ∃ t, exec (.sessionAuthorize p tag data) s = .next t ∧ s.Ended t p tag 0x41 0) ∧
        ((s.ctx i).auth = 1 → (s.ctx i).look = none → (s.ctx i).live = true →
          (d.arg 28 1 = 0 → ∃ t, exec (.sessionAuthorize p tag data) s = .next t ∧ s.Ended t p tag 0x00 0 ∧ (t.ctx i).auth = 2 ∧
            (t.ctx i).contract = (d.param.drop 12).take 16) ∧
          (d.arg 28 1 = 1 → ∃ t, exec (.sessionAuthorize p tag data) s = .next t ∧ s.Ended t p tag 0x00 0 ∧ (t.ctx i).auth = 3) ∧
          (d.arg 28 1 = 2 → ∃ t, exec (.sessionAuthorize p tag data) s = .next t ∧ ∃ kind ident hash,
            (t.ctx i).look = some (.token p d.num kind ident hash)))))

/-- SESSION_STOP of an unknown handle gives STALE_HANDLE, on a context in LINGER completes with its cause, and ends a live session at once
on a host-terminated stall (cause 1) or with MODE 1 (cause 2). SESSION_QUERY writes 256 bytes. TUNNEL_SEND gives TOO_LONG for a LENGTH out
of range, MODE_MISMATCH for a KIND that does not suit the stall, and KIND 0 waits for its last fragment. ALLOW_LOOKUP with one of the 16
places free completes OK with the list's outcome in RESULT bits 7:0. A running merge starts the store of its next leaf, and of its index
once the leaf is written, when the hold-up check admits it. Commands: SESSION_STOP, SESSION_QUERY, TUNNEL_SEND, ALLOW_LOOKUP,
ALLOW_MERGE_LEAF. -/
def Obligations.DroverOpcodes : Prop :=
  ∀ s : State, s.dro.ctxs.length = 128 →
    (∀ p tag d, s.Ready p tag 0x0702 d →
      (s.byHandle (d.arg 24 4) = none → ∃ t, exec (.sessionStop p tag) s = .next t ∧ s.Ended t p tag 0x40 0) ∧
      (∀ i, s.byHandle (d.arg 24 4) = some i →
        ((s.ctx i).state = 6 → ∃ t, exec (.sessionStop p tag) s = .next t ∧ s.Ended t p tag 0x00 ((s.ctx i).cause % 2 ^ 32)) ∧
        ((s.ctx i).state < 5 → ((s.ctx i).host = true ∨ d.arg 28 1 = 1) →
          ∃ t, exec (.sessionStop p tag) s = .next t ∧ 5 ≤ (t.ctx i).state ∧ (t.ctx i).cause = if (s.ctx i).host then 1 else 2))) ∧
    (∀ p tag d, s.Ready p tag 0x0703 d →
      (∀ i, (d.arg 24 4 = 0xFFFFFFFF ∧ s.newestCtx d.target = some i ∨ d.arg 24 4 ≠ 0xFFFFFFFF ∧ s.byHandle (d.arg 24 4) = some i) →
        ∃ t, exec (.sessionQuery p tag) s = .next t ∧ s.Ended t p tag (if 256 ≤ d.length then 0x00 else 0x01) 256) ∧
      (d.arg 24 4 ≠ 0xFFFFFFFF → s.byHandle (d.arg 24 4) = none → ∃ t, exec (.sessionQuery p tag) s = .next t ∧ s.Ended t p tag 0x40 0)) ∧
    (∀ p tag d data, s.Ready p tag 0x0704 d →
      ((d.arg 28 1 = 2 ∧ d.length ≠ 64 ∨ d.arg 28 1 ≠ 2 ∧ (d.length = 0 ∨ 16384 < d.length)) →
        ∃ t, exec (.tunnelSend p tag data) s = .next t ∧ s.Ended t p tag 0x43 0) ∧
      (d.arg 28 1 = 0 → 1 ≤ d.length → d.length ≤ 16384 →
        (s.flag (F.DRO_Sn_CFG_TUNNEL_MODE d.target) = false → ∃ t, exec (.tunnelSend p tag data) s = .next t ∧ s.Ended t p tag 0x42 0) ∧
        (s.flag (F.DRO_Sn_CFG_TUNNEL_MODE d.target) = true → ∃ t, exec (.tunnelSend p tag data) s = .next t ∧
          ∃ x ∈ t.dro.sends, x.p = p ∧ x.num = d.num ∧ x.stall = d.target ∧ x.chan = d.arg 29 1))) ∧
    (∀ p tag d, s.Ready p tag 0x0705 d → s.dro.looks.length < 16 →
      (s.dro.looks.all fun x => match x with | .ctx _ => true | .op _ _ _ => false) = true → ∃ t r, exec (.allowLookup p tag false) s = .next t ∧ s.Ended t p tag 0x00 r ∧
      r % 256 = (s.lookup (beVal (if d.arg 25 1 = 0 then (d.param.drop 4).take 32
        else idHash (d.arg 24 1) ((d.param.drop 4).take (d.arg 25 1))))).1) ∧
    (∀ o, s.domainOn 10 = true → s.dro.overlay = some o →
      (o.busy = 0 → s.admits 3 (storeNeed 3 1) = true → ∃ t, exec .allowMergeLeaf s = .next t ∧
        t.dro.overlay = some { o with busy := 1 } ∧ ∃ st ∈ t.hay.running, st.job = .leaf) ∧
      (o.busy = 2 → s.admits 2 (storeNeed 2 1) = true → ∃ t, exec .allowMergeLeaf s = .next t ∧
        t.dro.overlay = some { o with busy := 3 } ∧ ∃ st ∈ t.hay.running, st.job = .leafIdx))

/-- BRIDGE_SET checks its ranges, ENABLE, the latches, the Halter's disable, SOURCE and the class in this order; COAST and BRAKE complete
at once, and RUN with RAMP 0 completes with the applied duty, OK_PARTIAL where it was limited. A ramp's end completes what waits, or turns
the bridge off. A valid Hall edge applies its pattern, an invalid one keeps the last; an invalid state for 1 ms, a rotor stall, DESAT, the
1,000th overcurrent period, VMOT over-voltage and a chopper overload latch their faults; the 17th both-on rejection within 10 ms latches
all eight bridges. Under-voltage of a bootstrap limits the duty to 97.00 %, of VMOT sets and clears its bit; CHOPg turns on above CHOP_ON
and off below CHOP_ON − CHOP_HYST. Commands: BRIDGE_SET, BRIDGE_RAMP_END, HALL_EDGE, HALL_INVALID_TIMEOUT, ROTOR_STALL_TIMEOUT,
DESAT_TRIP, HARNESS_OVERCURRENT, BOOTSTRAP_UNDERVOLTAGE, BOOTSTRAP_REFRESH_TIMER, DIRECT_INPUT_EDGE, BOTH_ON_REJECTION, VMOT_OVERVOLTAGE,
VMOT_UNDERVOLTAGE, VMOT_UV_RECOVERY, CHOPPER_ON, CHOPPER_OFF, CHOP_OVERLOAD_TIMEOUT. -/
def Obligations.Bridges : Prop :=
  ∀ (s : State) (b : Nat), b < 8 → s.hrn.bridges.length = 8 → s.domainOn 13 = true →
    (∀ p tag d, s.Ready p tag 0x0801 d → d.target = b →
      let bad := 3 < d.arg 24 1 ∨ 1 < d.arg 25 1 ∨ 9900 < d.arg 26 2 ∨ (∃ i < 3, 9900 < d.arg (28 + 2 * i) 2) ∨ 7 < d.arg 34 1
      let latched := s.flag (F.HRN_HBb_FAULT_LATCHED b) || s.flag F.HRN_STATUS_DEVICE_LATCH
      (bad → ∃ t, exec (.bridgeSet p tag) s = .next t ∧ s.Ended t p tag 0x40 0) ∧
      (¬ bad →
        (s.flag (F.HRN_HBb_CFG_ENABLE b) = false → ∃ t, exec (.bridgeSet p tag) s = .next t ∧ s.Ended t p tag 0x46 0) ∧
        (s.flag (F.HRN_HBb_CFG_ENABLE b) = true →
          (latched = true → ∃ t, exec (.bridgeSet p tag) s = .next t ∧ s.Ended t p tag 0x41 0) ∧
          (latched = false → s.hlt.harnessOff = false →
            (s.get (F.HRN_HBb_CFG_SOURCE b) ≠ 0 → ∃ t, exec (.bridgeSet p tag) s = .next t ∧ s.Ended t p tag 0x42 0) ∧
            (s.get (F.HRN_HBb_CFG_SOURCE b) = 0 →
              (s.classMismatch b d = true → ∃ t, exec (.bridgeSet p tag) s = .next t ∧ s.Ended t p tag 0x43 0) ∧
              (s.classMismatch b d = false → (∀ w ∈ (s.hb b).waits, (w.1, w.2.1) ≠ (p, d.num)) →
                ((d.arg 24 1 = 2 ∨ d.arg 24 1 = 3) → ∃ t r, exec (.bridgeSet p tag) s = .next t ∧ s.Ended t p tag 0x00 r ∧
                  t.get (F.HRN_HBb_CMD_MODE b) = d.arg 24 1) ∧
                (d.arg 24 1 = 1 → s.get (F.HRN_HBb_CFG_RAMP b) = 0 → b ∉ s.rel.bridges →
                  let want := if b < 6 then [d.arg 26 2] else [d.arg 28 2, d.arg 30 2, d.arg 32 2]
                  let lim := s.dutyLimit b
                  ∃ t r, exec (.bridgeSet p tag) s = .next t ∧ s.Ended t p tag (if ∃ x ∈ want, lim < x then 0x01 else 0x00) r ∧
                    t.get (F.HRN_HBb_CMD_MODE b) = 1 ∧ t.get (F.HRN_HBb_CMD_DIRECTION b) = d.arg 25 1 ∧
                    r % 65536 = min (want.getD 0 0) lim))))))) ∧
    (s.get (F.HRN_HBb_CMD_MODE b) = 1 →
      ((s.hb b).toOff = true → ∃ t, exec (.bridgeRampEnd b) s = .next t ∧ t.get (F.HRN_HBb_CMD_MODE b) = 0) ∧
      (∀ p num part d, (s.hb b).waits = [(p, num, part)] →
        (s.pd p).table.find? (fun x => decide (x.num = num ∧ x.phase ≠ .finished)) = some d → (s.hb b).dir = s.get (F.HRN_HBb_CMD_DIRECTION b) →
        (s.hb b).toOff = false → ∃ t r, exec (.bridgeRampEnd b) s = .next t ∧ s.Ended t p d.tag (if part then 0x01 else 0x00) r ∧ (t.hb b).waits = [])) ∧
    (b < 6 → ∀ hall < 8, s.get (F.HRN_HBb_STATE_HALL b) ≠ hall →
      (∀ v, s.patternOf b hall = some v → ∃ t, exec (.hallEdge b hall) s = .next t ∧ t.get (F.HRN_HBb_STATE_HALL b) = hall ∧
        (t.hb b).pattern = some v ∧ (t.hb b).hallBad = false) ∧
      (s.patternOf b hall = none → ∃ t, exec (.hallEdge b hall) s = .next t ∧ (t.hb b).pattern = (s.hb b).pattern ∧ (t.hb b).hallBad = true)) ∧
    (s.blocked b = false → s.get (F.HRN_HBb_CMD_MODE b) = 1 →
      (b < 6 → (s.hb b).hallBad = true → s.flag (F.HRN_HBb_FAULT_HALL_INVALID b) = false → ∃ t, exec (.hallInvalidTimeout b) s = .next t ∧
        t.flag (F.HRN_HBb_FAULT_HALL_INVALID b) = true ∧ t.flag (F.HRN_HBb_FAULT_LATCHED b) = true ∧ t.get (F.HRN_HBb_CMD_MODE b) = 0) ∧
      (b < 6 → (s.hb b).pattern ≠ none → 500 < (s.dutyNow b).getD 0 0 → s.get (F.HRN_HBb_LIMIT_STALL_MS b) ≠ 0 →
        s.flag (F.HRN_HBb_FAULT_ROTOR_STALL b) = false → ∃ t, exec (.rotorStallTimeout b) s = .next t ∧
          t.flag (F.HRN_HBb_FAULT_ROTOR_STALL b) = true ∧ t.flag (F.HRN_HBb_FAULT_LATCHED b) = true ∧ t.get (F.HRN_HBb_CMD_MODE b) = 0) ∧
      (∀ sw < 6, s.flag (F.HRN_HBb_FAULT_DESAT b) = false → ∃ t, exec (.desatTrip b sw) s = .next t ∧ t.flag (F.HRN_HBb_FAULT_DESAT b) = true ∧
        t.flag (F.HRN_HBb_FAULT_LATCHED b) = true ∧ t.get (F.HRN_HBb_CMD_MODE b) = 0) ∧
      (∀ sw < 6, (s.hb b).ocLast.getD sw 0 + 1 = s.chrono * s.get (F.HRN_HBb_CFG_PWM_KHZ b) / 250000 + 1 → 999 ≤ (s.hb b).ocRun.getD sw 0 →
        s.flag (F.HRN_HBb_FAULT_OC_PERSIST b) = false → ∃ t, exec (.harnessOvercurrent b sw) s = .next t ∧
          t.flag (F.HRN_HBb_FAULT_OC_PERSIST b) = true ∧ t.flag (F.HRN_HBb_FAULT_LATCHED b) = true ∧ t.get (F.HRN_HBb_CMD_MODE b) = 0) ∧
      (∀ half < 3, s.running b = true → (s.hb b).offUntil.length = 6 →
        (∃ t, exec (.bootstrapUndervoltage b half) s = .next t ∧ t.flag (F.HRN_HBb_FAULT_BST_UV b) = true ∧ t.dutyLimit b ≤ 9700 ∧
          t.get (F.HRN_HBb_CMD_MODE b) = 1) ∧
        (∃ t, exec (.bootstrapRefreshTimer b half) s = .next t ∧
          s.chrono + 100 + 2 * s.get (F.HRN_HBb_TIMING_DT b) ≤ (t.hb b).offUntil.getD (2 * half) 0))) ∧
    (∀ sw < 6, ∀ level, 6 ≤ b → ∃ t, exec (.directInputEdge b sw level) s = .next t ∧ bitOf (t.hb b).inputs sw = level) ∧
    (∀ half < 3, ∃ t, exec (.bothOnRejection b half) s = .next t ∧
      t.get (F.HRN_HBb_CNT_BOTHON b) = min (s.get (F.HRN_HBb_CNT_BOTHON b) + 1) (2 ^ 32 - 1) ∧
      (16 ≤ (s.hrn.bothOn.filter fun x => decide (s.chrono < x + 2500000)).length → s.flag F.HRN_STATUS_DEVICE_LATCH = false →
        t.flag F.HRN_STATUS_DEVICE_LATCH = true ∧ ∀ x < 8, t.flag (F.HRN_HBb_FAULT_LATCHED x) = true ∧ t.get (F.HRN_HBb_CMD_MODE x) = 0)) ∧
    (∀ g < 2, ∀ v < 1024,
      (s.get (F.HRN_VMOTg_CFG0_OV_TRIP g) < v → ∃ t, exec (.vmotOvervoltage g v) s = .next t ∧ t.get (F.HRN_VMOTg_MEAS_V g) = v ∧
        ∀ x < 8, vmotGroup x = g → t.flag (F.HRN_HBb_FAULT_VMOT_OV x) = true) ∧
      (v < s.get (F.HRN_VMOTg_CFG1_UV g) → ∃ t, exec (.vmotUndervoltage g v) s = .next t ∧ bitOf (t.get F.HRN_STATUS_VMOT_UV) g = true) ∧
      (s.get (F.HRN_VMOTg_CFG1_UV g) + 10 < v → ∃ t, exec (.vmotUvRecovery g v) s = .next t ∧ bitOf (t.get F.HRN_STATUS_VMOT_UV) g = false) ∧
      (s.get (F.HRN_VMOTg_CFG0_CHOP_ON g) < v → bitOf (s.get F.HRN_STATUS_CHOP_OVERLOAD) g = false →
        ∃ t, exec (.chopperOn g v) s = .next t ∧ t.flag (F.HRN_VMOTg_MEAS_CHOP g) = true) ∧
      (v + 5 * s.get (F.HRN_VMOTg_CFG1_CHOP_HYST g) < s.get (F.HRN_VMOTg_CFG0_CHOP_ON g) →
        ∃ t, exec (.chopperOff g v) s = .next t ∧ t.flag (F.HRN_VMOTg_MEAS_CHOP g) = false) ∧
      (s.flag (F.HRN_VMOTg_MEAS_CHOP g) = true → ∃ t, exec (.chopOverloadTimeout g) s = .next t ∧ t.flag (F.HRN_VMOTg_MEAS_CHOP g) = false ∧
        bitOf (t.get F.HRN_STATUS_CHOP_OVERLOAD) g = true ∧ ∀ x < 8, vmotGroup x = g → t.flag (F.HRN_HBb_FAULT_CHOP_OVERLOAD x) = true))

/-- COOLING_SET gives OUT_OF_RANGE, NO_ENTRY or STALL_ENERGISED, or keeps its floor or fixed values and waits for a frame. An evaluation
takes FLOW_MAX as the target of a stall whose temperature input has no valid source, and gives a stall without an entry full cooling where
its seal asks for cooling, else none. Low flow sets FLOW_LOW and a throttle condition, its release clears both. HRN_FAULT_CLEAR with a
CLEAR above 15 gives OUT_OF_RANGE; otherwise it clears what it names, and completes with STILL_PRESENT where an over-voltage or an invalid
Hall state it was to clear is still there. Commands: COOLING_SET, TROUGH_EVALUATION, COOLANT_FLOW_LOW, COOLANT_FLOW_RELEASE,
HRN_FAULT_CLEAR. -/
def Obligations.Trough : Prop :=
  ∀ (s : State) (n : Nat), n ∈ s.stallNums → n < 48 → s.yms.throttle.length = 48 →
    (∀ p tag d, s.Ready p tag 0x0802 d → d.target = n →
      let bad := 2 < d.arg 24 1 ∨ 1000 < d.arg 26 2 ∨ 200 < d.arg 28 1
      let energised := s.modeRest n = false ∨ s.contactorClosed n = true
      (bad → ∃ t, exec (.coolingSet p tag) s = .next t ∧ s.Ended t p tag 0x40 0) ∧
      (¬ bad →
        (s.hasCurve n = false → ∃ t, exec (.coolingSet p tag) s = .next t ∧ s.Ended t p tag 0x47 0) ∧
        (s.hasCurve n = true →
          (d.arg 24 1 = 2 → energised → ∃ t, exec (.coolingSet p tag) s = .next t ∧ s.Ended t p tag 0x44 0) ∧
          ((d.arg 24 1 ≠ 2 ∨ ¬ energised) → ∃ t, exec (.coolingSet p tag) s = .next t ∧
            t.get (F.HRN_Sn_COOL_FLOOR_MODE n) = d.arg 24 1 ∧ (n, p, d.num, false) ∈ t.hrn.coolWait ∧
            (d.arg 24 1 ≠ 0 → t.get (F.HRN_Sn_COOL_FLOOR_PUMP n) = d.arg 26 2 ∧ t.get (F.HRN_Sn_COOL_FLOOR_VALVE n) = d.arg 28 1))))) ∧
    (s.domainOn 13 = true → ∃ t, exec .troughEvaluation s = .next t ∧
      (∀ w ∈ t.hrn.coolWait, w.2.2.2 = true) ∧
      (∀ e, s.curve? n = some e → s.hkInput n e.tInput = none → e.flowMax < 65536 → t.get (F.HRN_Sn_COOL_STATE_FLOW_TARGET n) = e.flowMax) ∧
      (s.curve? n = none → t.get (F.HRN_Sn_COOL_STATE_FLOW_TARGET n) = 0 ∧
        t.get (F.HRN_Sn_COOL_STATE_PUMP n) = (if bitOf (s.sealWord n) 6 then 1000 else 0) ∧
        t.get (F.HRN_Sn_COOL_VALVE_VALVE n) = if bitOf (s.sealWord n) 6 then 200 else 0)) ∧
    (∀ e, s.curve? n = some e →
      (s.flowLow n e = some true → s.flag (F.HRN_Sn_COOL_STATE_FLOW_LOW n) = false → ∃ t, exec (.coolantFlowLow n) s = .next t ∧
        t.flag (F.HRN_Sn_COOL_STATE_FLOW_LOW n) = true ∧ 6 ∈ (t.yms.throttle.getD n Throttle.init).overs) ∧
      (s.flowLow n e = some false → s.flag (F.HRN_Sn_COOL_STATE_FLOW_LOW n) = true → ∃ t, exec (.coolantFlowRelease n) s = .next t ∧
        t.flag (F.HRN_Sn_COOL_STATE_FLOW_LOW n) = false ∧ 6 ∉ (t.yms.throttle.getD n Throttle.init).overs)) ∧
    (∀ p tag d, s.Ready p tag 0x0803 d → d.target < 8 →
      let b := d.target
      let g := vmotGroup b
      let high := s.get (F.HRN_VMOTg_CFG0_OV_TRIP g) < s.get (F.HRN_VMOTg_MEAS_V g)
      let wrong := b < 6 ∧ s.patternOf b (s.get (F.HRN_HBb_STATE_HALL b)) = none
      let stuck := bitOf (d.arg 24 1) 0 = true ∧
        ((s.flag (F.HRN_HBb_FAULT_VMOT_OV b) = true ∧ high) ∨ (s.flag (F.HRN_HBb_FAULT_HALL_INVALID b) = true ∧ wrong))
      (15 < d.arg 24 1 → ∃ t, exec (.hrnFaultClear p tag) s = .next t ∧ s.Ended t p tag 0x40 0) ∧
      (d.arg 24 1 ≤ 15 → ∃ t, exec (.hrnFaultClear p tag) s = .next t ∧
        (stuck → s.Ended t p tag 0x45 0) ∧ (¬ stuck → s.Ended t p tag 0x00 0) ∧
        (bitOf (d.arg 24 1) 0 = true → t.flag (F.HRN_HBb_FAULT_DESAT b) = false ∧ t.flag (F.HRN_HBb_FAULT_OC_PERSIST b) = false ∧
          t.flag (F.HRN_HBb_FAULT_ROTOR_STALL b) = false ∧ (¬ high → t.flag (F.HRN_HBb_FAULT_VMOT_OV b) = false) ∧
          (¬ wrong → t.flag (F.HRN_HBb_FAULT_HALL_INVALID b) = false)) ∧
        (bitOf (d.arg 24 1) 1 = true → t.flag (F.HRN_HBb_FAULT_BST_UV b) = false) ∧
        (bitOf (d.arg 24 1) 2 = true → t.flag F.HRN_STATUS_DEVICE_LATCH = false) ∧
        (bitOf (d.arg 24 1) 3 = true → bitOf (t.get F.HRN_STATUS_CHOP_OVERLOAD) g = false ∧ t.flag (F.HRN_HBb_FAULT_CHOP_OVERLOAD b) = false)))

/-- AUX_SET gives OUT_OF_RANGE, STILL_PRESENT, AUX_LATCHED or NOT_ENABLED in this order; ON starts a regulator that is off with its test,
and slews one that switches, ending an earlier AUX_SET with SUPERSEDED; OFF ramps down and STOP ends switching at once. The test latches
HS_SHORT or leads to the soft start; the reference's arrival regulates; an OFF ramp's end stops; a short hiccups and the eighth hiccup
latches SHORT; over-voltage latches OV; braking shows PHASE 8 and ends in the phase it broke; VIN under-voltage stops and recovery starts
again; PGOOD is lost out of the band; at its release delay a regulator ramps off or slews to BOOT. Writing ENABLE 0 ramps off, and
changing FSW or RIPPLE while switching is refused. Commands: AUX_SET, AUX_SET_TIMEOUT, AUX_TARGET_REACHED, AUX_RAMP_OFF_END,
AUX_START_TEST_END, AUX_SHORT_DETECT, AUX_OVERVOLTAGE, AUX_OV_BRAKE, AUX_PGOOD_LOSS, AUX_HICCUP_RESTART, AUX_BRAKE_END,
AUX_VIN_UNDERVOLTAGE, AUX_VIN_RECOVERY, AUX_RELEASE_DELAY_EXPIRY, AUX_ENABLE_CLEAR_WRITE. -/
def Obligations.Regulators : Prop :=
  ∀ (s : State) (n : Nat), n < 4 → s.aux.length = 4 → s.domainOn 14 = true →
    (∀ p tag d, s.Ready p tag 0x0901 d → d.target = n → (s.au n).wait ≠ some (p, d.num) →
      let div := s.get (F.AUXn_DIV_RATIO n)
      let t0 := d.arg 28 4
      let bad := 2 < d.arg 24 1 ∨ 1 < d.arg 25 1 ∨ 1000 < d.arg 26 2 ∨ (d.arg 24 1 ≠ 1 ∧ t0 ≠ 0) ∨
        (d.arg 24 1 = 1 ∧ (t0 * 4096 < 300 * div ∨ 1200 * div < t0 * 4096))
      let latched := s.flag (F.AUXn_FAULT_LATCHED n)
      (bad → ∃ t r, exec (.auxSet p tag) s = .next t ∧ s.Ended t p tag 0x40 r) ∧
      (¬ bad →
        (d.arg 25 1 = 1 → s.auxOvStill n = true → ∃ t r, exec (.auxSet p tag) s = .next t ∧ s.Ended t p tag 0x44 r ∧
          t.flag (F.AUXn_FAULT_LATCHED n) = latched) ∧
        (d.arg 25 1 = 0 → latched = true → ∃ t r, exec (.auxSet p tag) s = .next t ∧ s.Ended t p tag 0x41 r) ∧
        ((d.arg 25 1 = 0 ∧ latched = false ∨ d.arg 25 1 = 1 ∧ s.auxOvStill n = false) →
          (s.flag (F.AUXn_CFG_ENABLE n) = false → ∃ t r, exec (.auxSet p tag) s = .next t ∧ s.Ended t p tag 0x43 r) ∧
          (s.flag (F.AUXn_CFG_ENABLE n) = true →
            (∀ q m e, (s.au n).wait = some (q, m) → (s.pd q).table.find? (fun x => decide (x.num = m ∧ x.phase ≠ .finished)) = some e →
              ∃ t r, exec (.auxSet p tag) s = .next t ∧ s.Ended t q e.tag 0x42 r) ∧
            (d.arg 24 1 = 2 → ∃ t r, exec (.auxSet p tag) s = .next t ∧ s.Ended t p tag 0x00 r ∧ t.auxPhase n = 0 ∧
              t.get (F.AUXn_TARGET_TARGET n) = 0) ∧
            (d.arg 24 1 = 0 → s.auxPhase n = 4 → ∃ t, exec (.auxSet p tag) s = .next t ∧ t.auxPhase n = 6 ∧
              t.get (F.AUXn_TARGET_TARGET n) = 0 ∧ t.flag (F.AUXn_STATE_PGOOD n) = false ∧ (t.au n).wait = some (p, d.num)) ∧
            (d.arg 24 1 = 1 →
              (s.auxPhase n = 0 → s.flag (F.AUXn_STATE_VIN_UV n) = false → ∃ t, exec (.auxSet p tag) s = .next t ∧ t.auxPhase n = 1 ∧
                t.get (F.AUXn_TARGET_TARGET n) = t0 ∧ (t.au n).wait = some (p, d.num)) ∧
              (s.auxPhase n = 4 → s.auxRef n ≠ t0 → ∃ t, exec (.auxSet p tag) s = .next t ∧ t.auxPhase n = 5 ∧
                t.get (F.AUXn_TARGET_TARGET n) = t0 ∧ t.auxRef n = s.auxRef n)))))) ∧
    (∀ p num d, (s.au n).wait = some (p, num) → (s.pd p).table.find? (fun x => decide (x.num = num ∧ x.phase ≠ .finished)) = some d →
      (s.get (F.AUXn_STATE_MODE n) = 1 →
        (∃ t r, exec (.auxSetTimeout n) s = .next t ∧ s.Ended t p d.tag 0x06 r ∧ (t.au n).wait = none) ∧
        (∀ vout vin, s.flag (F.AUXn_STATE_PGOOD n) = true → s.auxPhase n = 5 →
          ∃ t r, exec (.auxTargetReached n vout vin) s = .next t ∧ s.Ended t p d.tag 0x00 r ∧ t.auxPhase n = 4)) ∧
      (∀ vout vin, s.auxPhase n = 6 → ∃ t r, exec (.auxRampOffEnd n vout vin) s = .next t ∧ s.Ended t p d.tag 0x00 r ∧ t.auxPhase n = 0)) ∧
    (∀ vsw vout vin : Nat, vout < 65536 → vin < 65536 →
      (s.auxPhase n = 1 →
        (vout + max 2000 (2 * vin) < vsw → ∃ t, exec (.auxStartTestEnd n vsw vout vin) s = .next t ∧
          t.flag (F.AUXn_FAULT_HS_SHORT n) = true ∧ t.flag (F.AUXn_FAULT_LATCHED n) = true ∧ t.auxPhase n = 0) ∧
        (vsw ≤ vout + max 2000 (2 * vin) → ∃ t, exec (.auxStartTestEnd n vsw vout vin) s = .next t ∧ t.auxPhase n = 3 ∧
          (t.au n).slewFrom = vout)) ∧
      ((s.auxPhase n = 3 ∨ s.auxPhase n = 5) → ∃ t, exec (.auxTargetReached n vout vin) s = .next t ∧ t.auxPhase n = 4 ∧
        t.auxRef n = s.get (F.AUXn_TARGET_TARGET n)) ∧
      (s.auxPhase n = 6 → ∃ t, exec (.auxRampOffEnd n vout vin) s = .next t ∧ t.auxPhase n = 0) ∧
      (s.auxPhase n = 4 →
        (2 * vout < s.auxRef n → ∃ t, exec (.auxShortDetect n vout vin) s = .next t ∧ t.auxPhase n = 7 ∧
          t.flag (F.AUXn_STATE_PGOOD n) = false ∧ (t.au n).hiccups = (s.au n).hiccups + 1) ∧
        (s.auxRef n * (100 + s.get (F.AUXn_PROT_OV_TRIP n)) < vout * 100 → ∃ t, exec (.auxOvervoltage n vout vin) s = .next t ∧
          t.flag (F.AUXn_FAULT_OV n) = true ∧ t.flag (F.AUXn_FAULT_LATCHED n) = true ∧ t.auxPhase n = 0) ∧
        (s.auxRef n * (1000 + s.get (F.AUXn_PROT_OV_BRAKE n)) < vout * 1000 → ∃ t, exec (.auxOvBrake n vout vin) s = .next t ∧
          t.auxPhase n = 8 ∧ (t.au n).braked = 4) ∧
        (s.auxRef n * s.get (F.AUXn_PROT_PG_PCT n) < ((vout : Int) - s.auxRef n).natAbs * 1000 →
          ∃ t, exec (.auxPgoodLoss n vout vin) s = .next t ∧ t.flag (F.AUXn_STATE_PGOOD n) = false)) ∧
      (s.auxPhase n = 7 →
        (8 ≤ (s.au n).hiccups → ∃ t, exec (.auxHiccupRestart n vout vin) s = .next t ∧ t.flag (F.AUXn_FAULT_SHORT n) = true ∧ t.auxPhase n = 0) ∧
        ((s.au n).hiccups < 8 → s.flag (F.AUXn_STATE_VIN_UV n) = false →
          ∃ t, exec (.auxHiccupRestart n vout vin) s = .next t ∧ t.auxPhase n = 1)) ∧
      (s.auxPhase n = 8 → (s.au n).braked = 4 → vout * 2000 < s.auxRef n * (2000 + s.get (F.AUXn_PROT_OV_BRAKE n)) →
        ∃ t, exec (.auxBrakeEnd n vout vin) s = .next t ∧ t.auxPhase n = 4) ∧
      (vin < 430 → s.flag (F.AUXn_STATE_VIN_UV n) = false → ∃ t, exec (.auxVinUndervoltage n vout vin) s = .next t ∧ t.auxPhase n = 0 ∧
        t.flag (F.AUXn_STATE_VIN_UV n) = true ∧
        (s.auxRunPhase n ≠ 6 → t.get (F.AUXn_TARGET_TARGET n) = s.get (F.AUXn_TARGET_TARGET n))) ∧
      (460 ≤ vin → s.flag (F.AUXn_STATE_VIN_UV n) = true → (s.au n).wanted = true → ∃ t, exec (.auxVinRecovery n vout vin) s = .next t ∧
        t.flag (F.AUXn_STATE_VIN_UV n) = false ∧ t.auxPhase n = 1)) ∧
    (n ∈ s.rel.auxes → s.auxPhase n = 4 →
      let boot := s.get (F.AUXn_BOOT_TARGET n)
      (boot = 0 → ∃ t, exec (.auxReleaseDelayExpiry n) s = .next t ∧ t.auxPhase n = 6 ∧ t.get (F.AUXn_TARGET_TARGET n) = 0) ∧
      (boot ≠ 0 → s.rel.off = false → s.auxRef n ≠ boot → ∃ t, exec (.auxReleaseDelayExpiry n) s = .next t ∧ t.auxPhase n = 5 ∧
        t.get (F.AUXn_TARGET_TARGET n) = boot)) ∧
    (∀ p ripple fsw delay, p < 4 → s.domainOn 4 = true → s.hasRight p 0 = true → 1 ≤ ripple → ripple ≤ 15 → 20 ≤ fsw → fsw ≤ 200 → delay ≤ 255 →
      s.auxPhase n = 4 →
      let same := ripple = s.get (F.AUXn_CFG_RIPPLE n) ∧ fsw = s.get (F.AUXn_CFG_FSW n)
      let val := ripple * 2 ^ 24 + fsw * 2 ^ 16 + delay * 2 ^ 8
      (same → ∃ t, exec (.auxEnableClearWrite p n val) s = .next t ∧ t.flag (F.AUXn_CFG_ENABLE n) = false ∧ t.auxPhase n = 6 ∧
        t.get (F.AUXn_TARGET_TARGET n) = 0) ∧
      (¬ same → ∃ t, exec (.auxEnableClearWrite p n val) s = .next t ∧ t.flag F.AUX_STATUS_CFG_REFUSED = true ∧
        t.flag (F.AUXn_CFG_ENABLE n) = s.flag (F.AUXn_CFG_ENABLE n) ∧ t.auxPhase n = 4))

/-- LSW_SET gives OUT_OF_RANGE, HALTER_VETO, NOT_ENABLED, SOURCE_PIN or CHANNEL_LATCHED in this order; MODE 0 turns off and completes;
MODE 1 turns the output on with an inrush window after 20 ms off and waits for its end, or keeps the command and waits under group
under-voltage. The clamp, inrush and steady limits latch the channel off; the group sensor at 150 °C latches all four; group under-voltage
turns them off and keeps their commands, recovery turns them on with a window. A pin's active edge turns its channel on, the other off.
LSW_FAULT_CLEAR completes with STILL_PRESENT at or above 130 °C. A release turns its next channel off. Writing ENABLE 0 turns off, and
changing SOURCE of a channel that is on is refused. Commands: LSW_SET, LSW_INRUSH_WINDOW_END, LSW_SET_UV_TIMEOUT, LSW_CLAMP,
LSW_INRUSH_TRIP, LSW_OVERCURRENT_TRIP, LSW_OPEN_LOAD, LSW_CURRENT_SAMPLE, LSW_SHORT_SUPPLY, LSIN_EDGE, LSW_GROUP_OT, LSW_GROUP_UV,
LSW_GROUP_UV_RECOVERY, LSW_GROUP_DISTURB_END, LSW_RELEASE_STEP, LSW_FAULT_CLEAR, LSW_ENABLE_CLEAR_WRITE. -/
def Obligations.LoadSwitches : Prop :=
  ∀ (s : State) (c : Nat), c < 16 → s.lsw.length = 16 → s.domainOn 15 = true →
    let g := c / 4
    (∀ p tag d, s.Ready p tag 0x0A01 d → d.target = c → (s.ch c).wait ≠ some (p, d.num) →
      (1 < d.arg 24 1 → ∃ t, exec (.lswSet p tag) s = .next t ∧ s.Ended t p tag 0x40 0) ∧
      (d.arg 24 1 ≤ 1 →
        (s.flag (F.LSW_Gg_STATE_HALTER_DROP g) = true → ∃ t, exec (.lswSet p tag) s = .next t ∧ s.Ended t p tag 0x10 0) ∧
        (s.flag (F.LSW_Gg_STATE_HALTER_DROP g) = false →
          (s.flag (F.LSW_Cn_CFG_ENABLE c) = false → ∃ t, exec (.lswSet p tag) s = .next t ∧ s.Ended t p tag 0x43 0) ∧
          (s.flag (F.LSW_Cn_CFG_ENABLE c) = true →
            (s.flag (F.LSW_Cn_CFG_SOURCE c) = true → ∃ t, exec (.lswSet p tag) s = .next t ∧ s.Ended t p tag 0x45 0) ∧
            (s.flag (F.LSW_Cn_CFG_SOURCE c) = false →
              (s.flag (F.LSW_Cn_FAULT_LATCHED c) = true → ∃ t, exec (.lswSet p tag) s = .next t ∧ s.Ended t p tag 0x41 0) ∧
              (s.flag (F.LSW_Cn_FAULT_LATCHED c) = false →
                (d.arg 24 1 = 0 → ∃ t, exec (.lswSet p tag) s = .next t ∧ s.Ended t p tag 0x00 0 ∧
                  t.flag (F.LSW_Cn_STATE_OUT_ON c) = false ∧ t.flag (F.LSW_Cn_STATE_CMD_ON c) = false) ∧
                (d.arg 24 1 = 1 →
                  (s.flag (F.LSW_Gg_STATE_UV g) = false → s.flag (F.LSW_Cn_STATE_OUT_ON c) = false → (∀ x, (s.ch c).offAt = some x → x + 5000000 ≤ s.chrono) →
                    ∃ t, exec (.lswSet p tag) s = .next t ∧ t.flag (F.LSW_Cn_STATE_OUT_ON c) = true ∧
                      t.flag (F.LSW_Cn_STATE_INRUSH c) = true ∧ (t.ch c).wait = some (p, d.num)) ∧
                  (s.flag (F.LSW_Gg_STATE_UV g) = true → s.flag (F.LSW_Cn_STATE_OUT_ON c) = false →
                    ∃ t, exec (.lswSet p tag) s = .next t ∧ t.flag (F.LSW_Cn_STATE_OUT_ON c) = false ∧
                      t.flag (F.LSW_Cn_STATE_CMD_ON c) = true ∧ (t.ch c).wait = some (p, d.num))))))))) ∧
    (∀ p num d, (s.ch c).wait = some (p, num) → (s.pd p).table.find? (fun x => decide (x.num = num ∧ x.phase ≠ .finished)) = some d →
      (s.flag (F.LSW_Cn_STATE_INRUSH c) = true → ∃ t, exec (.lswInrushWindowEnd c) s = .next t ∧ t.flag (F.LSW_Cn_STATE_INRUSH c) = false ∧
        s.Ended t p d.tag 0x00 (((s.ch c).peak * 65536 + s.get (F.LSW_Cn_CURRENT_SAMPLE c)) % 2 ^ 32)) ∧
      (s.flag (F.LSW_Gg_STATE_UV g) = true → ∃ t, exec (.lswSetUvTimeout c) s = .next t ∧ s.Ended t p d.tag 0x06 0 ∧
        t.flag (F.LSW_Cn_STATE_CMD_ON c) = s.flag (F.LSW_Cn_STATE_CMD_ON c))) ∧
    (s.flag (F.LSW_Cn_STATE_OUT_ON c) = true →
      (∃ t, exec (.lswClamp c) s = .next t ∧ t.flag (F.LSW_Cn_FAULT_CLAMP c) = true ∧ t.flag (F.LSW_Cn_FAULT_LATCHED c) = true ∧
        t.flag (F.LSW_Cn_STATE_OUT_ON c) = false ∧ t.flag (F.LSW_Gg_STATE_DISTURBED g) = true) ∧
      (s.flag (F.LSW_Cn_STATE_INRUSH c) = true → ∃ t, exec (.lswInrushTrip c) s = .next t ∧ t.flag (F.LSW_Cn_FAULT_INRUSH c) = true ∧
        t.flag (F.LSW_Cn_FAULT_LATCHED c) = true ∧ t.flag (F.LSW_Cn_STATE_OUT_ON c) = false) ∧
      (s.flag (F.LSW_Cn_STATE_INRUSH c) = false → ∃ t, exec (.lswOvercurrentTrip c) s = .next t ∧
        t.flag (F.LSW_Cn_FAULT_OVERCURRENT c) = true ∧ t.flag (F.LSW_Cn_FAULT_LATCHED c) = true ∧ t.flag (F.LSW_Cn_STATE_OUT_ON c) = false) ∧
      (s.get (F.LSW_Cn_OPEN_OPEN_MA c) ≠ 0 → ∃ t, exec (.lswOpenLoad c) s = .next t ∧ t.flag (F.LSW_Cn_FAULT_OPEN_LOAD c) = true) ∧
      (∀ x temp lsv, x < 4096 → ∃ t, exec (.lswCurrentSample c x temp lsv) s = .next t ∧ t.get (F.LSW_Cn_CURRENT_SAMPLE c) = x ∧
        t.flag (F.LSW_Cn_CURRENT_DISTURB c) = s.flag (F.LSW_Gg_STATE_DISTURBED g) ∧ x ≤ (t.ch c).peak ∧
        (s.get (F.LSW_Cn_OPEN_OPEN_MA c) ≤ 10 * x → t.flag (F.LSW_Cn_FAULT_OPEN_LOAD c) = false))) ∧
    (s.flag (F.LSW_Cn_STATE_OUT_ON c) = false → ∀ b, ∃ t, exec (.lswShortSupply c b) s = .next t ∧ t.flag (F.LSW_Cn_FAULT_SHORT_SUPPLY c) = b) ∧
    (∀ level, s.flag (F.LSW_Cn_STATE_LSIN c) ≠ level → s.flag (F.LSW_Cn_CFG_SOURCE c) = true →
      (level = s.flag (F.LSW_Cn_CFG_INVERT c) → ∃ t, exec (.lsinEdge c level) s = .next t ∧ t.flag (F.LSW_Cn_STATE_LSIN c) = level ∧
        t.flag (F.LSW_Cn_STATE_OUT_ON c) = false) ∧
      (level ≠ s.flag (F.LSW_Cn_CFG_INVERT c) → s.lswMay c = true → ∃ t, exec (.lsinEdge c level) s = .next t ∧
        t.flag (F.LSW_Cn_STATE_LSIN c) = level ∧ t.flag (F.LSW_Cn_STATE_OUT_ON c) = true)) ∧
    (∀ v : Nat, v < 65536 →
      (v < 32768 → 1500 ≤ v → s.flag (F.LSW_Gg_STATE_GROUP_OT g) = false → ∃ t, exec (.lswGroupOt g v) s = .next t ∧
        t.flag (F.LSW_Gg_STATE_GROUP_OT g) = true ∧ t.flag (F.LSW_Cn_FAULT_GROUP_OT c) = true ∧ t.flag (F.LSW_Cn_STATE_OUT_ON c) = false) ∧
      (v < 550 → s.flag (F.LSW_Gg_STATE_UV g) = false → ∃ t, exec (.lswGroupUv g v) s = .next t ∧ t.flag (F.LSW_Gg_STATE_UV g) = true ∧
        t.flag (F.LSW_Cn_STATE_OUT_ON c) = false ∧ t.flag (F.LSW_Cn_STATE_CMD_ON c) = s.flag (F.LSW_Cn_STATE_CMD_ON c)) ∧
      (600 < v → s.flag (F.LSW_Gg_STATE_UV g) = true → ∃ t, exec (.lswGroupUvRecovery g v) s = .next t ∧ t.flag (F.LSW_Gg_STATE_UV g) = false ∧
        (s.flag (F.LSW_Cn_STATE_CMD_ON c) = true → s.flag (F.LSW_Cn_CFG_ENABLE c) = true → s.flag (F.LSW_Cn_FAULT_LATCHED c) = false →
          s.flag (F.LSW_Gg_STATE_HALTER_DROP g) = false → s.flag (F.LSW_Cn_STATE_OUT_ON c) = false →
          t.flag (F.LSW_Cn_STATE_OUT_ON c) = true ∧ t.flag (F.LSW_Cn_STATE_INRUSH c) = true))) ∧
    (∃ t, exec (.lswGroupDisturbEnd g) s = .next t ∧ t.flag (F.LSW_Gg_STATE_DISTURBED g) = false) ∧
    (∀ rest, s.rel.chans = c :: rest → ∃ t, exec .lswReleaseStep s = .next t ∧ t.flag (F.LSW_Cn_STATE_OUT_ON c) = false ∧ t.rel.chans = rest) ∧
    (∀ p tag d, s.Ready p tag 0x0A02 d → d.target = c →
      let hot := bitOf (d.arg 24 1) 1 = true ∧ s.flag (F.LSW_Gg_STATE_GROUP_OT g) = true ∧ 1300 ≤ s.getS (F.LSW_Gg_STATE_TEMP g)
      (3 < d.arg 24 1 → ∃ t, exec (.lswFaultClear p tag) s = .next t ∧ s.Ended t p tag 0x40 0) ∧
      (d.arg 24 1 ≤ 3 → ∃ t, exec (.lswFaultClear p tag) s = .next t ∧ (hot → s.Ended t p tag 0x44 0 ∧ t.flag (F.LSW_Gg_STATE_GROUP_OT g) = true) ∧
        (¬ hot → s.Ended t p tag 0x00 0) ∧
        (bitOf (d.arg 24 1) 0 = true → t.flag (F.LSW_Cn_FAULT_CLAMP c) = false ∧ t.flag (F.LSW_Cn_FAULT_INRUSH c) = false ∧
          t.flag (F.LSW_Cn_FAULT_OVERCURRENT c) = false))) ∧
    (∀ p ms, p < 4 → s.domainOn 4 = true → s.hasRight p 0 = true → 1 ≤ ms → ms ≤ 500 →
      let off := ms * 2 ^ 16 + b2n (s.flag (F.LSW_Cn_CFG_SOURCE c)) * 2 ^ 30
      let other := ms * 2 ^ 16 + b2n (!s.flag (F.LSW_Cn_CFG_SOURCE c)) * 2 ^ 30
      (∃ t, exec (.lswEnableClearWrite p c off) s = .next t ∧ t.flag (F.LSW_Cn_CFG_ENABLE c) = false ∧ t.flag (F.LSW_Cn_STATE_OUT_ON c) = false) ∧
      (s.flag (F.LSW_Cn_STATE_OUT_ON c) = true → ∃ t, exec (.lswEnableClearWrite p c other) s = .next t ∧
        t.flag F.LSW_STATUS_CFG_REFUSED = true ∧ t.flag (F.LSW_Cn_CFG_SOURCE c) = s.flag (F.LSW_Cn_CFG_SOURCE c)))

/-- CAN_SEND gives BAD_DESCRIPTOR, NOT_ACTIVE, BUS_OFF or BUSY_RETRY in this order, else its frame is queued; an acknowledged frame leaves
the queue and completes OK with its start-of-frame stamp; a lost ONE_SHOT frame gives ONE_SHOT_FAILED, any other stays; a frame that has
not started at TX_MS gives TIMEOUT. Error counters give the state; bus-off empties the queue. CAN_RECOVER outside bus-off completes OK
with RESULT 0; in it, it starts a recovery and completes with its time, or with TIMEOUT while it goes on. A received frame is counted, and
one that NOMATCH stores enters its FIFO or, full, is dropped and counted; the ring takes the oldest. Rate detection ends in LISTEN_ONLY
with the candidate, or in INIT. A unit's CHECK register shows the check value after a configuration write, which is refused while a job
runs on the unit or a value does not fit its width; CHECK_JOB gives the CRC, MISMATCH (0x40), or the alive outcome. Commands: CAN_SEND,
CAN_FRAME_ACKNOWLEDGED, CAN_ARBITRATION_LOSS, CAN_TX_TIMEOUT, CAN_ERROR_STATE_CHANGE, CAN_RECOVER, CAN_RECOVER_TIMEOUT, CAN_RECOVERY_DONE,
CAN_FRAME_RECEIVE, CAN_RX_RING_DELIVERY, CAN_RATE_DETECT_RESULT, CAN_RATE_DETECT_TIMEOUT, CAN_MODE_WRITE, CAN_RX_ENABLE_WRITE,
DRO_RX_ENABLE_WRITE, CVU_CONFIG_WRITE, CVU_ALIVE_CFG_WRITE, CHECK_JOB. -/
def Obligations.CanAndCheckUnits : Prop :=
  ∀ (s : State) (n : Nat), n < 8 → s.can.ctls.length = 8 →
    (s.domainOn 11 = true →
      (∀ p tag d data, s.Ready p tag 0x0B01 d → d.target = n →
        (s.canSendOk d = false → ∃ t, exec (.canSend p tag data) s = .next t ∧ s.Ended t p tag 0x03 0) ∧
        (s.canSendOk d = true →
          (s.get (F.CAN_Cn_CTRL_MODE n) ≠ 1 → ∃ t, exec (.canSend p tag data) s = .next t ∧ s.Ended t p tag 0x41 0) ∧
          (s.get (F.CAN_Cn_CTRL_MODE n) = 1 →
            (s.get (F.CAN_Cn_ERR_STATE n) = 3 → ∃ t, exec (.canSend p tag data) s = .next t ∧ s.Ended t p tag 0x40 0) ∧
            (s.get (F.CAN_Cn_ERR_STATE n) ≠ 3 →
              (s.get (F.CAN_Cn_BUF_TX_DEPTH n) ≤ (s.ctl n).tx.length → ∃ t, exec (.canSend p tag data) s = .next t ∧ s.Ended t p tag 0x05 0) ∧
              ((s.ctl n).tx.length < s.get (F.CAN_Cn_BUF_TX_DEPTH n) → ∃ t f, exec (.canSend p tag data) s = .next t ∧
                (t.ctl n).tx = (s.ctl n).tx ++ [⟨p, d.num, s.chrono, bitOf (d.arg 28 1) 4, f⟩] ∧ f.dlc = d.arg 29 1))))) ∧
      (∀ sof x d, s.canOffered n sof = some x → (s.pd x.p).table.find? (fun y => decide (y.num = x.num ∧ y.phase ≠ .finished)) = some d →
        (∀ delay, ∃ t, exec (.canFrameAcknowledged n sof delay) s = .next t ∧ s.Ended t x.p d.tag 0x00 (sof % 2 ^ 32) ∧ x ∉ (t.ctl n).tx) ∧
        (∀ e, x.oneShot = true → ∃ t, exec (.canArbitrationLoss n sof e) s = .next t ∧ s.Ended t x.p d.tag 0x42 0) ∧
        (∀ e, x.oneShot = false → ∃ t, exec (.canArbitrationLoss n sof e) s = .next t ∧ (t.ctl n).tx = (s.ctl n).tx)) ∧
      (∀ x d, (s.ctl n).tx.find? (fun y => decide (y.p = x.p ∧ y.num = x.num)) = some x →
        (s.pd x.p).table.find? (fun y => decide (y.num = x.num ∧ y.phase ≠ .finished)) = some d →
        ∃ t, exec (.canTxTimeout n x.p x.num none) s = .next t ∧ s.Ended t x.p d.tag 0x06 0 ∧ x ∉ (t.ctl n).tx) ∧
      (s.get (F.CAN_Cn_CTRL_MODE n) ≠ 0 → s.get (F.CAN_Cn_ERR_STATE n) ≠ 3 → ∀ tec rec_,
        (255 < tec → ∃ t, exec (.canErrorStateChange n tec rec_) s = .next t ∧ t.get (F.CAN_Cn_ERR_STATE n) = 3 ∧ (t.ctl n).tx = []) ∧
        (tec ≤ 255 → ∃ t, exec (.canErrorStateChange n tec rec_) s = .next t ∧ t.get (F.CAN_Cn_ERR_TEC n) = tec ∧
          t.get (F.CAN_Cn_ERR_STATE n) = if 127 < tec ∨ 127 < rec_ then 2 else 1)) ∧
      (∀ p tag d, s.Ready p tag 0x0B02 d → d.target = n →
        (s.get (F.CAN_Cn_ERR_STATE n) ≠ 3 → ∃ t, exec (.canRecover p tag) s = .next t ∧ s.Ended t p tag 0x00 0) ∧
        (s.get (F.CAN_Cn_ERR_STATE n) = 3 → ∃ t, exec (.canRecover p tag) s = .next t ∧ (t.ctl n).recovering = true ∧
          (p, d.num, s.chrono) ∈ (t.ctl n).waits)) ∧
      (∀ p num at_ d, (s.ctl n).waits = [(p, num, at_)] → (s.pd p).table.find? (fun y => decide (y.num = num ∧ y.phase ≠ .finished)) = some d →
        (∃ t, exec (.canRecoverTimeout n) s = .next t ∧ s.Ended t p d.tag 0x06 0 ∧ (t.ctl n).recovering = (s.ctl n).recovering) ∧
        (s.get (F.CAN_Cn_ERR_STATE n) = 3 → (s.ctl n).recovering = true → ∃ t, exec (.canRecoveryDone n) s = .next t ∧
          s.Ended t p d.tag 0x00 ((s.chrono - at_) / 250 % 2 ^ 32) ∧ t.get (F.CAN_Cn_ERR_STATE n) = 1 ∧ t.get (F.CAN_Cn_ERR_TEC n) = 0)) ∧
      ((s.get (F.CAN_Cn_CTRL_MODE n) = 1 ∨ s.get (F.CAN_Cn_CTRL_MODE n) = 2) → s.get (F.CAN_Cn_ERR_STATE n) ≠ 3 →
        ∀ f sof, ∃ t, exec (.canFrameReceive n f sof false) s = .next t ∧ t.get (F.CAN_Cn_CNT_RX n) = (s.get (F.CAN_Cn_CNT_RX n) + 1) % 2 ^ 32 ∧
          (s.canFilter n f = none → s.flag (F.CAN_Cn_CTRL_NOMATCH n) = true → s.flag F.CAN_RX_CFG_ENABLE = false →
            ((s.can.fifo.filter fun y => y.ctrl = n).length < s.get (F.CAN_Cn_BUF_RX_DEPTH n) → t.can.fifo = s.can.fifo ++ [⟨n, f, sof, none, false⟩]) ∧
            (s.get (F.CAN_Cn_BUF_RX_DEPTH n) ≤ (s.can.fifo.filter fun y => y.ctrl = n).length → t.can.fifo = s.can.fifo ∧
              t.get (F.CAN_Cn_CNT_LOST n) = min (s.get (F.CAN_Cn_CNT_LOST n) + 1) (2 ^ 32 - 1)))) ∧
      (∀ x, s.can.fifo = [x] → s.flag F.CAN_RX_CFG_ENABLE = true → s.pdk.length = 4 → (s.pd (s.get F.CAN_RX_CFG_OWNER)).rings.length = 15 →
        let p := s.get F.CAN_RX_CFG_OWNER
        let r := (s.pd p).ring 14
        r.stopped = false → (r.prod + 2 ^ 32 - r.hostIdx) % 2 ^ 32 < 2 ^ s.get F.CAN_RX_CFG_SIZE_LOG2 →
        ∃ t, exec .canRxRingDelivery s = .next t ∧ t.can.fifo = [] ∧ ((t.pd p).ring 14).prod = (r.prod + 1) % 2 ^ 32) ∧
      (s.get (F.CAN_Cn_CTRL_MODE n) = 3 →
        (∀ k ≤ 8, bitOf (s.get (F.CAN_Cn_RATE_CANDIDATES n)) k = true → ∃ t, exec (.canRateDetectResult n k) s = .next t ∧
          t.get (F.CAN_Cn_CTRL_MODE n) = 2 ∧ t.flag (F.CAN_Cn_RATE_RESULT_FOUND n) = true ∧ t.get (F.CAN_Cn_RATE_RESULT_CANDIDATE n) = k ∧
          t.get (F.CAN_Cn_NBT_NBRP n) + 1 = (rateSetting k).1 ∧ t.get (F.CAN_Cn_NBT_NTSEG1 n) + 1 = (rateSetting k).2.1) ∧
        (∃ t, exec (.canRateDetectTimeout n) s = .next t ∧ t.get (F.CAN_Cn_CTRL_MODE n) = 0)) ∧
      (∀ p mode, p < 4 → s.domainOn 4 = true → s.mayWrite p (0xB1000 + 0x40 * n) = true → mode ≤ 3 →
        ∃ t, exec (.canModeWrite p n mode) s = .next t ∧ t.get (F.CAN_Cn_CTRL_MODE n) = mode ∧
          (s.get (F.CAN_Cn_CTRL_MODE n) = 1 → mode ≠ 1 → (t.ctl n).tx = []))) ∧
    (∀ p size vec, p < 4 → s.pdk.length = 4 → s.domainOn 4 = true → 4 ≤ size → size ≤ 12 → vec ≤ 14 →
      let val := 2 ^ 31 + vec * 2 ^ 24 + size * 2 ^ 16
      (s.domainOn 11 = true → s.mayWrite p 0xB000C = true → s.flag F.CAN_RX_CFG_ENABLE = false → ∃ t, exec (.canRxEnableWrite p val) s = .next t ∧
        t.flag F.CAN_RX_CFG_ENABLE = true ∧ t.get F.CAN_RX_CFG_OWNER = p ∧ t.get F.CAN_RX_CFG_SIZE_LOG2 = size) ∧
      (s.domainOn 10 = true → s.mayWrite p 0x70028 = true → s.flag F.DRO_RX_CFG_ENABLE = false → ∃ t, exec (.droRxEnableWrite p val) s = .next t ∧
        t.flag F.DRO_RX_CFG_ENABLE = true ∧ t.get F.DRO_RX_CFG_OWNER = p ∧ t.get F.DRO_RX_CFG_SIZE_LOG2 = size)) ∧
    (s.domainOn 12 = true →
      (∀ p val, p < 4 → val < 2 ^ 32 → s.domainOn 4 = true → s.mayWrite p (0x10100C + 0x20 * n) = true →
        (s.jobOn n = true → ∃ t, exec (.cvuConfigWrite p n 3 val) s = .next t ∧ t.flag F.CVU_STATUS_CFG_REFUSED = true ∧
          t.get (F.CVU_Un_XOROUT n) = s.get (F.CVU_Un_XOROUT n)) ∧
        (s.jobOn n = false → val < 2 ^ s.cvuWidth n → s.get (F.CVU_Un_POLY n) < 2 ^ s.cvuWidth n → s.get (F.CVU_Un_INIT n) < 2 ^ s.cvuWidth n →
          ∃ t, exec (.cvuConfigWrite p n 3 val) s = .next t ∧ t.get (F.CVU_Un_XOROUT n) = val ∧
            t.get (F.CVU_Un_CHECK n) = crcOut (s.cvuWidth n) (crcReg (s.cvuWidth n) (s.get (F.CVU_Un_POLY n)) (s.get (F.CVU_Un_INIT n))
              (s.flag (F.CVU_Un_CFG_REFIN n)) checkString) val (s.flag (F.CVU_Un_CFG_REFOUT n))) ∧
        (2 ^ s.cvuWidth n ≤ val → ∃ t, exec (.cvuConfigWrite p n 3 val) s = .next t ∧ t.flag F.CVU_STATUS_CFG_REFUSED = true ∧
          t.get (F.CVU_Un_XOROUT n) = s.get (F.CVU_Un_XOROUT n))) ∧
      (∀ p sync delta bits, p < 4 → s.domainOn 4 = true → s.mayWrite p (0x101014 + 0x20 * n) = true → 1 ≤ sync → sync ≤ 15 → 1 ≤ bits → bits ≤ 16 →
        delta ≤ 255 →
        (s.jobOn n = false → 1 ≤ delta → delta < 2 ^ bits → ∃ t, exec (.cvuAliveCfgWrite p n (sync * 2 ^ 16 + delta * 2 ^ 8 + bits)) s = .next t ∧
          t.get (F.CVU_Un_ALIVE_CFG_MAX_DELTA n) = delta ∧ t.cvuAlive n = Alive.init) ∧
        ((delta = 0 ∨ 2 ^ bits ≤ delta) → ∃ t, exec (.cvuAliveCfgWrite p n (sync * 2 ^ 16 + delta * 2 ^ 8 + bits)) s = .next t ∧
          t.flag F.CVU_STATUS_CFG_REFUSED = true ∧ t.cvuAlive n = s.cvuAlive n)) ∧
      (∀ p tag d data, s.Ready p tag 0x1001 d → d.target = n →
        let start := if bitOf (d.arg 25 1) 1 then s.get (F.CVU_Un_RUNNING n) else s.get (F.CVU_Un_INIT n)
        let crc := s.cvuOut n (s.cvuReg n start (padTo d.length data))
        let exp := d.arg 28 4 % 2 ^ s.cvuWidth n
        let a := if bitOf (d.arg 25 1) 0 then Alive.init else s.cvuAlive n
        let r := a.check (d.arg 32 2 % 2 ^ s.get (F.CVU_Un_ALIVE_CFG_CNT_BITS n)) (2 ^ s.get (F.CVU_Un_ALIVE_CFG_CNT_BITS n))
          (s.get (F.CVU_Un_ALIVE_CFG_MAX_DELTA n)) (s.get (F.CVU_Un_ALIVE_CFG_SYNC_COUNT n))
        ((d.arg 24 1 = 0 ∨ d.arg 24 1 = 1 ∧ crc = exp) → ∃ t, exec (.checkJob p tag data) s = .next t ∧ s.Ended t p tag 0x00 (crc % 2 ^ 32)) ∧
        ((d.arg 24 1 = 1 ∨ d.arg 24 1 = 3) → crc ≠ exp → ∃ t, exec (.checkJob p tag data) s = .next t ∧ s.Ended t p tag 0x40 (crc % 2 ^ 32) ∧
          bitOf (t.get F.CVU_STATUS_MISMATCH) n = true ∧ t.cvuAlive n = s.cvuAlive n) ∧
        (d.retried = false →
          (d.arg 24 1 = 3 → crc = exp → ∃ t, exec (.checkJob p tag data) s = .next t ∧ s.Ended t p tag r.1.status (crc % 2 ^ 32)) ∧
          (d.arg 24 1 = 2 → ∃ t x, exec (.checkJob p tag data) s = .next t ∧ s.Ended t p tag r.1.status x ∧ x % 4 = r.2.2.phase.code))))

/-- For a loop in MODE E-stop: the first channel to open makes an emergency stop of every mapped stall and, with SAFE_OUT, de-energises
both safety outputs; channels that disagree beyond DISCREP_MS latch DISCREPANCY; a loop whose channels close awaits its reset; with
RESET_EN it re-arms at the end of a pulse of 50 ms to 5 s on its GPIO that began after it closed, without it once it has been closed for
500 ms. Commands: ESTOP_CHANNEL_OPEN, ESTOP_DISCREPANCY_TIMEOUT, ESTOP_LOOP_CLOSE, ESTOP_RESET_PULSE, ESTOP_REARM_TIMEOUT. -/
def Obligations.EstopLoops : Prop :=
  ∀ (s : State) (k : Nat), k < 4 → s.haltS.length = 48 → s.variant.links ≤ 48 → (s.loopMap k).mode = 1 →
    (∀ ch < 2, s.loopOpen k = false →
      ∃ t, exec (.estopChannelOpen k ch) s = .next t ∧ t.loopOpen k = true ∧
        (∀ n < s.variant.links, bitOf (s.loopMap k).stalls n = true → (t.halt n).stop = .emergency) ∧
        ((s.loopMap k).safeOut = true → t.flag F.HLT_SAFE_OUT_A_ON = false ∧ t.flag F.HLT_SAFE_OUT_B_ON = false)) ∧
    (s.flag (F.HLT_ESTOPk_STATE_A_CLOSED k) ≠ s.flag (F.HLT_ESTOPk_STATE_B_CLOSED k) → s.flag (F.HLT_ESTOPk_STATE_DISCREPANCY k) = false →
      ∃ t, exec (.estopDiscrepancyTimeout k) s = .next t ∧ t.flag (F.HLT_ESTOPk_STATE_DISCREPANCY k) = true ∧ t.loopOpen k = true) ∧
    (s.loopOpen k = true → (s.flag (F.HLT_ESTOPk_STATE_DISCREPANCY k) = false ∨ s.hlt.bothOpen.getD k false = true) →
      ∃ t, exec (.estopLoopClose k 3) s = .next t ∧ t.loopOpen k = false ∧ t.flag (F.HLT_ESTOPk_STATE_AWAIT_RESET k) = true) ∧
    (∀ len, 12500000 ≤ len → len ≤ 1250000000 → (s.loopMap k).resetEn = true → s.flag (F.HLT_ESTOPk_STATE_AWAIT_RESET k) = true →
      s.loopOpen k = false → s.hlt.closedAt.getD k 0 + len ≤ s.chrono →
      ∃ t, exec (.estopResetPulse (s.loopMap k).resetGpio len) s = .next t ∧ t.flag (F.HLT_ESTOPk_STATE_AWAIT_RESET k) = false) ∧
    ((s.loopMap k).resetEn = false → s.flag (F.HLT_ESTOPk_STATE_AWAIT_RESET k) = true → s.loopOpen k = false →
      ∃ t, exec (.estopRearmTimeout k) s = .next t ∧ t.flag (F.HLT_ESTOPk_STATE_AWAIT_RESET k) = false)

/-- Outside HALT_SAFE, each failure of the self-test (ESTOP_INPUT_TEST whose input does not follow, HALTER_OSC_CHECK beyond 6 %,
HALTER_CHANNEL_MISMATCH, HALTER_SUPPLY_FAIL, SAFE_OUT_READBACK_FAULT with a pin that reads back otherwise than it is driven, EDM_MISMATCH
of a loop that disagrees with the outputs as driven) sets HALT_SAFE with its cause, shows it in GLB_BOOT_STATUS.PHASE, makes the emergency
stop 0x15 of every stall present and de-energises the safety outputs. A passed input test or oscillator check changes nothing. Commands:
ESTOP_INPUT_TEST, HALTER_CHANNEL_MISMATCH, HALTER_SUPPLY_FAIL, HALTER_OSC_CHECK, SAFE_OUT_READBACK_FAULT, EDM_MISMATCH. -/
def Obligations.HaltSafe : Prop :=
  ∀ (s : State) (dev : Int) (a b : Bool) (k : Nat), s.haltSafe = false → s.haltS.length = 48 → s.variant.links ≤ 48 →
    (∀ e ∈ [(Instr.estopInputTest false, 5), (.halterChannelMismatch, 1), (.halterSupplyFail, 3)] ++
        (if 60 < dev.natAbs then [(.halterOscCheck dev, 2)] else []) ++
        (if a ≠ s.safeOut 0 ∨ b ≠ s.safeOut 1 then [(.safeOutReadbackFault a b, 4)] else []) ++
        (if k < 4 ∧ (s.loopMap k).mode = 2 ∧ s.loopOpen k ≠ (s.safeOut 0 || s.safeOut 1) then
          [(.edmMismatch k, 6)] else []),
      ∃ t, exec e.1 s = .next t ∧ t.haltSafe = true ∧ t.get F.HLT_FAULT_CAUSE = e.2 ∧ t.get F.GLB_BOOT_STATUS_PHASE = 14 ∧
        (∀ n < s.variant.links, (t.halt n).stop = .emergency ∧ t.get (F.HLT_Sn_STATE_CAUSE n) = 0x15) ∧
        t.flag F.HLT_SAFE_OUT_A_ON = false ∧ t.flag F.HLT_SAFE_OUT_B_ON = false) ∧
    exec (.estopInputTest true) s = .next s ∧ (dev.natAbs ≤ 60 → exec (.halterOscCheck dev) s = .next s)

/-- With no stop running, three samples above the trip level make an emergency stop OVER_CURRENT, and 100 ms above 1.02 times the ceiling
an orderly stop SUSTAINED_OVER. A running stop withdraws PERMIT once the newest sample is valid and below 5.0 A (not for HALT_SAFE), and
at latest 25 ms after the decision of an orderly stop and 20 ms after that of an emergency stop. An orderly stop ends once PERMIT is
withdrawn and the contactors are open; an emergency stop whose cause has cleared, with the terminal in step, the two-step off done and the
contactors open, has two all-off periods still to send on a link in RUN and ends elsewhere. Contactors still closed 50 ms after the
withdrawal latch the weld block under an emergency stop. Commands: HALTER_SAMPLE_TRIP, SUSTAINED_OVER_TIMEOUT, STOP_PERMIT_WITHDRAWAL,
STOP_END, CONTACTOR_WELD_TIMEOUT. -/
def Obligations.StallStops : Prop :=
  ∀ (s : State) (n : Nat), n < s.variant.links → n < 48 → s.haltS.length = 48 →
    ((s.halt n).stop = .none → 3 ≤ (s.halt n).overI →
      ∃ t, exec (.halterSampleTrip n) s = .next t ∧ (t.halt n).stop = .emergency ∧ t.get (F.HLT_Sn_STATE_CAUSE n) = 0x07) ∧
    ((s.halt n).stop = .none → (s.halt n).sustained.isSome = true →
      ∃ t, exec (.sustainedOverTimeout n) s = .next t ∧ (t.halt n).stop = .orderly ∧ t.get (F.HLT_Sn_STATE_CAUSE n) = 0x09) ∧
    ((s.halt n).stop ≠ .none → ((s.below5A n = true ∧ s.get (F.HLT_Sn_STATE_CAUSE n) ≠ 0x15) ∨
        (s.halt n).stopAt + (if (s.halt n).stop = .orderly then 6250000 else 5000000) ≤ s.chrono) →
      ∃ t, exec (.stopPermitWithdrawal n) s = .next t ∧ (t.halt n).withdrawn = true ∧ (t.halt n).stop = (s.halt n).stop) ∧
    ((s.halt n).stop = .orderly → (s.halt n).withdrawn = true → s.contactorClosed n = false →
      ∃ t, exec (.stopEnd n) s = .next t ∧ (t.halt n).stop = .none) ∧
    ((s.halt n).stop = .emergency → s.causeCleared n = true → s.twoStepDone n = true → s.switchesOff n = true →
      s.uplinkLive n = true → s.contactorClosed n = false → (s.halt n).allOff = 0 →
      ∃ t, exec (.stopEnd n) s = .next t ∧ (s.linkState n = Link.run → (t.halt n).stop = .emergency ∧ 2 ≤ (t.halt n).allOff) ∧
        (s.linkState n ≠ Link.run → (t.halt n).stop = .none)) ∧
    ((s.halt n).withdrawn = true → s.contactorClosed n = true →
      ∃ t, exec (.contactorWeldTimeout n) s = .next t ∧ t.flag (F.HLT_Sn_LATCH_WELD n) = true ∧ (t.halt n).stop = .emergency)

/-- When one of two cable sensors of a stall counts as lost, the stall enters the sensor mode and its current ceiling is that of R437 with
half the profile's current. When the 300 s of the mode are spent, the lockout is set, a stop stands and, in ENERGY, no time is left. Once
the sensors have been valid for 10 s, mode and lockout end. Commands: SENSOR_LOSS_TIMEOUT, SENSOR_DEGRADED_LIMIT, SENSOR_LOCKOUT_RELEASE.
-/
def Obligations.CableSensors : Prop :=
  ∀ (s : State) (n : Nat), n < s.variant.links → n < 48 → s.haltS.length = 48 →
    (∀ i ≤ 1, bitOf (s.link n).ident.hkMap i = true → (s.halt n).lost0 = false → (s.halt n).lost1 = false →
      ∃ t, exec (.sensorLossTimeout n i) s = .next t ∧ t.flag (F.HLT_Sn_DEGRADE_SENSOR_MODE n) = true ∧
        ((t.halt n).lost0 != (t.halt n).lost1) = true ∧ t.get (F.HLT_Sn_CEIL_I n) = t.ceilNow n ∧ 2 * t.ceilNow n ≤ s.ceilNow n + 1) ∧
    (s.flag (F.HLT_Sn_DEGRADE_SENSOR_MODE n) = true → s.flag (F.HLT_Sn_LATCH_LOCKOUT n) = false →
      ∃ t, exec (.sensorDegradedLimit n) s = .next t ∧ t.flag (F.HLT_Sn_LATCH_LOCKOUT n) = true ∧ (t.halt n).stop ≠ .none ∧
        (s.mode n = 3 → t.get (F.HLT_Sn_DEGRADE_SENSOR_LEFT n) = 0)) ∧
    (((s.hkVal n 0).isSome = true ∧ (s.hkVal n 1).isSome = true) →
      ∃ t, exec (.sensorLockoutRelease n) s = .next t ∧ t.flag (F.HLT_Sn_LATCH_LOCKOUT n) = false ∧
        t.flag (F.HLT_Sn_DEGRADE_SENSOR_MODE n) = false ∧ (t.halt n).lost0 = false ∧ (t.halt n).lost1 = false)

/-- SAFETY_PROOF_TEST completes with STALLS_ACTIVE (0x40) unless every stall rests with its contactors open, and otherwise starts its
tests. At their end it completes OK, and HLT_PROOF_LAST takes the wall time, when no asked test failed, and with PROOF_FAILED (0x43), the
failure bits and HALT_SAFE otherwise. PROOF_TEST_DUE is raised once the days have passed. SERVICE_CLEAR needs the stall at rest with its
contactors open (0x41 otherwise); it clears EDGE_LATCH, and with CONTACTOR_WELD still reported keeps the weld block and completes with
STILL_PRESENT (0x42). Commands: SAFETY_PROOF_TEST, SAFETY_PROOF_TEST_END, PROOF_TEST_DUE, SERVICE_CLEAR. -/
def Obligations.HalterOpcodes : Prop :=
  ∀ (s : State) (p tag : Nat) (d : Desc),
    (s.Ready p tag 0x0C01 d → s.hlt.proof = none →
      (s.allAtRest = false → ∃ t, exec (.safetyProofTest p tag) s = .next t ∧ s.Ended t p tag 0x40 0) ∧
      (s.allAtRest = true → ∃ t, exec (.safetyProofTest p tag) s = .next t ∧ t.hlt.proof = some (p, d.num, d.arg 24 1))) ∧
    (∀ num tests failed, s.hlt.proof = some (p, num, tests) → tests < 8 → failed < 8 →
      (s.pd p).table.find? (fun x => decide (x.num = num ∧ x.phase ≠ .finished)) = some d →
      (failed &&& tests = 0 → ∃ t, exec (.safetyProofTestEnd failed) s = .next t ∧ s.Ended t p d.tag 0x00 0 ∧ t.hlt.proof = none ∧
        t.get F.HLT_PROOF_LAST = s.wall) ∧
      (failed &&& tests ≠ 0 → ∃ t, exec (.safetyProofTestEnd failed) s = .next t ∧ s.Ended t p d.tag 0x43 (failed &&& tests) ∧
        t.haltSafe = true)) ∧
    (s.get F.HLT_PROOF_CFG_DAYS ≤ (s.wall - s.get F.HLT_PROOF_LAST) / 65536 / 86400 →
      exec .proofTestDue s = .next (s.raise 0x0C06 2 0xFFFF (le 2 (min ((s.wall - s.get F.HLT_PROOF_LAST) / 65536 / 86400) 65535)))) ∧
    (s.Ready p tag 0x0C02 d →
      ((s.modeRest d.target = false ∨ s.contactorClosed d.target = true) →
        ∃ t, exec (.serviceClear p tag) s = .next t ∧ s.Ended t p tag 0x41 0) ∧
      (s.modeRest d.target = true → s.contactorClosed d.target = false →
        (d.arg 24 1 = 1 → ∃ t, exec (.serviceClear p tag) s = .next t ∧ s.Ended t p tag 0x00 0 ∧
          t.flag (F.SLK_Sn_STATE_EDGE_LATCH d.target) = false) ∧
        (d.arg 24 1 = 8 → bitOf (s.link d.target).hstat 12 = true →
          ∃ t, exec (.serviceClear p tag) s = .next t ∧ s.Ended t p tag 0x42 0 ∧
            t.flag (F.HLT_Sn_LATCH_WELD d.target) = s.flag (F.HLT_Sn_LATCH_WELD d.target))))

/-- An image that fails a check of R492 ends its descriptor with that check's status (INTERNAL for a faulty transport key) and stages
nothing; one that passes is written as work of many pages, a table rejected by its block gives TABLE_REJECTED with the block. EPOCH_SWITCH
gives OUT_OF_RANGE, NO_TABLES or BUSY_RETRY in this order, else it is pending; at its boundary a refusing block gives TABLE_REFUSED and
nothing activates, otherwise TCK_EPOCH is the new epoch, the counters take RB_VALUE and staged tables of lower epochs go. A window opens
only by a right proof; wrong ones count and lock from the fifth on; only its owner closes it; it expires; the end of the lockout keeps the
count. KEY_GENERATE, SIGN and ATTEST give the statuses of R503 to R506, host signatures, key statements, quotes and identity records have
their sizes. Image checks, SIGN and ATTEST run once no signature work of higher priority takes the engines. LIFECYCLE_SET outside R476
gives WRONG_STATE; PROVISIONED to FIELD needs the caller's window; with the right image and its conditions met a transition starts the
store of its entry; a service token at BOOT_FAIL starts the change to RETURNED. Commands: CHARTER_LOAD, IMAGE_STAGE, EPOCH_SWITCH,
EPOCH_SWITCH_BOUNDARY, CHANGE_WINDOW_OPEN, CHANGE_WINDOW_CLOSE, CHANGE_WINDOW_EXPIRY, WINDOW_LOCKOUT_END, KEY_GENERATE, SIGN, ATTEST,
LIFECYCLE_SET, SERVICE_UNLOCK. -/
def Obligations.TackRoom : Prop :=
  ∀ (s : State) (p tag : Nat) (d : Desc),
    let logs := s.changelogFull = false ∧ s.stagingUsed + 3608 ≤ 4194304 ∧ s.admits 2 (storeNeed 2 1) = true
    (∀ img kb, s.Ready p tag 0x0101 d → s.sigBusy 3 = false →
      let b := padTo d.length img
      let r := s.imgStatus p 0 b (fun k => decide (k = 0x20)) kb
      (∀ x, r = some x → ∃ t, exec (.charterLoad p tag img kb) s = .next t ∧ s.Ended t p tag x 0) ∧
      (r = none → ∃ t, exec (.charterLoad p tag img kb) s = .next t ∧ ∃ w ∈ t.hay.work,
        w.kind = .charter p d.num (byteAt ((s.imgPlain b).getD []) 8) (imgRb b)
          ⟨byteAt ((s.imgPlain b).getD []) 9, (((s.imgPlain b).getD []).drop 16).take 32⟩)) ∧
    (∀ img kb, s.Ready p tag 0x0D01 d → s.sigBusy 3 = false →
      let b := padTo d.length img
      let k := imgKind b
      let pl := (s.imgPlain b).getD []
      let r := s.imgStatus p 0 b (fun k => decide (k = 1) || isTable k || decide (k = 0x22)) kb
      (∀ x, r = some x → ∃ t, exec (.imageStage p tag img kb) s = .next t ∧ s.Ended t p tag x 0 ∧ t.tck.staged = s.tck.staged) ∧
      (r = none →
        (k = 1 → s.lan.fw ≠ none → ∃ t, exec (.imageStage p tag img kb) s = .next t ∧ s.Ended t p tag 0x05 0) ∧
        (k = 1 → s.lan.fw = none → ∃ t, exec (.imageStage p tag img kb) s = .next t ∧ ∃ w ∈ t.hay.work, w.kind = .firmware p d.num s.idleSlot (fwOf b)) ∧
        (k ≠ 1 → k ≠ 0x22 →
          (∀ x, s.tableFail k (imgEpoch b) pl = some x → ∃ t, exec (.imageStage p tag img kb) s = .next t ∧ s.Ended t p tag 0x40 (kindBlock k)) ∧
          (s.tableFail k (imgEpoch b) pl = none → ∃ t, exec (.imageStage p tag img kb) s = .next t ∧ ∃ w ∈ t.hay.work,
            w.kind = .table p d.num ⟨k, imgEpoch b, imgRb b, pl⟩)) ∧
        (k = 0x22 → logs → ∃ t, exec (.imageStage p tag img kb) s = .next t ∧ ∃ x ∈ t.hay.running, ∃ bytes,
          x.job = .change ⟨5, p, [], .pass p d.num (imgRb b) pl⟩ bytes))) ∧
    (s.Ready p tag 0x0D02 d →
      let at_ := s.switchAt (d.arg 28 4)
      let far := at_ < s.chrono + 250000 ∨ s.chrono + 150000000000 < at_
      let without := d.arg 24 4 ≤ s.get F.TCK_EPOCH ∨ ∀ x ∈ s.tck.staged, x.epoch ≠ d.arg 24 4
      (far → ∃ t, exec (.epochSwitch p tag) s = .next t ∧ s.Ended t p tag 0x4A 0) ∧
      (¬ far → without → ∃ t, exec (.epochSwitch p tag) s = .next t ∧ s.Ended t p tag 0x42 0) ∧
      (¬ far → ¬ without →
        ((s.tck.switch ≠ none ∨ s.tck.record ≠ none) → ∃ t, exec (.epochSwitch p tag) s = .next t ∧ s.Ended t p tag 0x05 0) ∧
        (s.tck.switch = none → s.tck.record = none → ∃ t, exec (.epochSwitch p tag) s = .next t ∧ t.tck.switch = some (p, d.num, at_) ∧
          t.get F.TCK_SWITCH_EPOCH = d.arg 24 4 ∧ t.flag F.TCK_STATUS_SWITCH_PENDING = true ∧ t.get F.TCK_EPOCH = s.get F.TCK_EPOCH))) ∧
    (∀ q num at_ x, s.tck.switch = some (q, num, at_) → (s.pd q).table.find? (fun y => decide (y.num = num ∧ y.phase ≠ .finished)) = some x →
      let e := s.get F.TCK_SWITCH_EPOCH
      (∀ y, (s.offered e).find? (fun y => s.refusesTable (s.offered e) y) = some y → ∃ t, exec .epochSwitchBoundary s = .next t ∧
        s.Ended t q x.tag 0x41 (kindBlock y.kind + 256 * y.kind) ∧ t.get F.TCK_EPOCH = s.get F.TCK_EPOCH ∧ t.tck.staged = s.tck.staged ∧
        t.tck.switch = none) ∧
      ((∀ y ∈ s.offered e, s.refusesTable (s.offered e) y = false) → ∃ t, exec .epochSwitchBoundary s = .next t ∧ t.get F.TCK_EPOCH = e ∧
        t.tck.switch = none ∧ t.tck.record = some (q, num) ∧ (∀ y ∈ t.tck.staged, e < y.epoch) ∧
        ∀ y ∈ s.offered e, t.get (F.TCK_RBi (y.kind - 0x0F)) = y.rb % 2 ^ 32)) ∧
    (∀ kb, s.Ready p tag 0x0D03 d →
      let proof := s.tck.ppk ≠ [] ∧ d.param.drop 8 = s.windowProof p
      let dur := if d.arg 24 2 = 0 then 900 else d.arg 24 2
      ((dur < 60 ∨ 3600 < dur) → ∃ t, exec (.changeWindowOpen p tag () kb) s = .next t ∧ s.Ended t p tag 0x4A 0) ∧
      (60 ≤ dur → dur ≤ 3600 →
        ((s.flag F.TCK_WIN_STATE_OPEN = true ∨ s.tck.opening ≠ none) → ∃ t, exec (.changeWindowOpen p tag () kb) s = .next t ∧ s.Ended t p tag 0x45 0) ∧
        (s.flag F.TCK_WIN_STATE_OPEN = false → s.tck.opening = none →
          (s.flag F.TCK_STATUS_WINDOW_LOCKED = true → ∃ t, exec (.changeWindowOpen p tag () kb) s = .next t ∧ s.Ended t p tag 0x44 0) ∧
          (s.flag F.TCK_STATUS_WINDOW_LOCKED = false → kb = false →
            (¬ proof → ∃ t, exec (.changeWindowOpen p tag () kb) s = .next t ∧ s.Ended t p tag 0x43 0 ∧
              t.get F.TCK_WIN_FAIL_WRONG = min (s.get F.TCK_WIN_FAIL_WRONG + 1) 7 ∧
              (4 ≤ s.get F.TCK_WIN_FAIL_WRONG → t.flag F.TCK_STATUS_WINDOW_LOCKED = true)) ∧
            (proof → logs → ∃ t, exec (.changeWindowOpen p tag () kb) s = .next t ∧ t.tck.opening = some (p, d.num) ∧
              t.get F.TCK_WIN_FAIL_WRONG = 0))))) ∧
    (s.Ready p tag 0x0D04 d →
      (s.flag F.TCK_WIN_STATE_OPEN = true → s.ownsWindow p = false → ∃ t, exec (.changeWindowClose p tag) s = .next t ∧
        s.Ended t p tag 0x45 0 ∧ t.flag F.TCK_WIN_STATE_OPEN = true) ∧
      ((s.flag F.TCK_WIN_STATE_OPEN = false ∨ s.ownsWindow p = true) → ∃ t, exec (.changeWindowClose p tag) s = .next t ∧
        s.Ended t p tag 0x00 0 ∧ t.flag F.TCK_WIN_STATE_OPEN = false)) ∧
    (∃ t, exec .changeWindowExpiry s = .next t ∧ t.flag F.TCK_WIN_STATE_OPEN = false) ∧
    (∃ t, exec .windowLockoutEnd s = .next t ∧ t.flag F.TCK_STATUS_WINDOW_LOCKED = false ∧ t.get F.TCK_WIN_FAIL_WRONG = s.get F.TCK_WIN_FAIL_WRONG) ∧
    (s.Ready p tag 0x0D06 d →
      let use_ := d.arg 26 2
      let wrong := d.target < 16 ∨ use_ % 8 ≠ 0 ∨ 32 ≤ use_ ∨ (bitOf use_ 4 = true ∧ d.arg 24 1 < 2)
      ((5 < d.arg 24 1 ∨ 1 < d.arg 25 1) → ∃ t, exec (.keyGenerate p tag) s = .next t ∧ s.Ended t p tag 0x4A 0) ∧
      (d.arg 24 1 ≤ 5 → d.arg 25 1 ≤ 1 →
        (wrong → ∃ t, exec (.keyGenerate p tag) s = .next t ∧ s.Ended t p tag 0x47 0) ∧
        (¬ wrong → (s.slotOf d.target).1 ≠ 0 → d.arg 25 1 = 0 → ∃ t, exec (.keyGenerate p tag) s = .next t ∧ s.Ended t p tag 0x48 0) ∧
        (¬ wrong → ((s.slotOf d.target).1 = 0 ∨ d.arg 25 1 = 1) →
          (s.admits 2 (storeNeed 2 1) = false → ∃ t, exec (.keyGenerate p tag) s = .next t ∧ s.Ended t p tag 0x20 0) ∧
          (s.admits 2 (storeNeed 2 1) = true → ∃ t, exec (.keyGenerate p tag) s = .next t ∧
            ∃ x ∈ t.hay.running, x.job = .keySlot p d.num d.target (d.arg 24 1) use_)))) ∧
    (∀ data kb, s.Ready p tag 0x0D05 d → s.sigBusy 2 = false →
      let k := s.slotOf d.target
      let n := d.arg 24 4
      ((n = 0 ∨ 1048576 < n) → ∃ t, exec (.sign p tag data kb) s = .next t ∧ s.Ended t p tag 0x4A 0) ∧
      (1 ≤ n → n ≤ 1048576 →
        (bitOf k.2.2.1 3 = false → ∃ t, exec (.sign p tag data kb) s = .next t ∧ s.Ended t p tag 0x47 0) ∧
        (bitOf k.2.2.1 3 = true →
          (d.length < max n (sigLen k.1) → ∃ t, exec (.sign p tag data kb) s = .next t ∧ s.Ended t p tag 0x03 0) ∧
          (max n (sigLen k.1) ≤ d.length →
            (kb = true → ∃ t, exec (.sign p tag data kb) s = .next t ∧ s.Ended t p tag 0x3F 0 ∧ t.flag F.TCK_STATUS_KEY_FAULT = true) ∧
            (kb = false → ∃ t, exec (.sign p tag data kb) s = .next t ∧ s.Ended t p tag 0x00 (sigLen k.1)))))) ∧
    (∀ kb, s.Ready p tag 0x0D07 d → s.sigBusy 2 = false →
      (d.arg 24 1 = 0 → d.arg 26 2 < 256 → (s.slotOf (d.arg 26 2)).1 = 0 → ∃ t, exec (.attest p tag kb) s = .next t ∧ s.Ended t p tag 0x4B 0) ∧
      (let n := 3501 + (s.originBody (d.arg 26 2)).length
       d.arg 24 1 = 0 → d.arg 26 2 < 256 → (s.slotOf (d.arg 26 2)).1 ≠ 0 → kb = false →
        ∃ t, exec (.attest p tag kb) s = .next t ∧ s.Ended t p tag (if n ≤ d.length then 0x00 else 0x01) (n % 2 ^ 32)) ∧
      (d.arg 24 1 = 1 → kb = false → ∃ t, exec (.attest p tag kb) s = .next t ∧ s.Ended t p tag (if 14797 ≤ d.length then 0x00 else 0x01) 14797) ∧
      (d.arg 24 1 = 2 → s.get F.TCK_LIFECYCLE_STATE ≠ 5 → ∃ t, exec (.attest p tag kb) s = .next t ∧
        s.Ended t p tag (if 5389 ≤ d.length then 0x00 else 0x01) 5389)) ∧
    (∀ img kb, s.Ready p tag 0x0D08 d → s.sigBusy 3 = false →
      let old := s.get F.TCK_LIFECYCLE_STATE
      let b := padTo d.length img
      (d.arg 24 1 ≤ 5 → lifeImage old (d.arg 24 1) = none → ∃ t, exec (.lifecycleSet p tag img kb) s = .next t ∧ s.Ended t p tag 0x46 0) ∧
      (old = 2 → d.arg 24 1 = 3 → d.length = 0 →
        (s.ownsWindow p = false → ∃ t, exec (.lifecycleSet p tag img kb) s = .next t ∧ s.Ended t p tag 0x05 0) ∧
        (s.ownsWindow p = true → logs → ∃ t, exec (.lifecycleSet p tag img kb) s = .next t ∧ ∃ x ∈ t.hay.running, ∃ body bytes,
          x.job = .change ⟨4, p, body, .life p d.num 3 none []⟩ bytes)) ∧
      (∀ k, lifeImage old (d.arg 24 1) = some k → k ≠ 0 → s.imgStatus p (d.arg 24 1) b (fun x => decide (x = k)) kb = none →
        (s.lifeMay p old (d.arg 24 1) = false → ∃ t, exec (.lifecycleSet p tag img kb) s = .next t ∧ s.Ended t p tag 0x05 0) ∧
        (s.lifeMay p old (d.arg 24 1) = true → k ≠ 0x21 → logs →
          ∃ t, exec (.lifecycleSet p tag img kb) s = .next t ∧ ∃ x ∈ t.hay.running, ∃ body bytes,
            x.job = .change ⟨4, p, body, .life p d.num (d.arg 24 1) (some (imgRb b)) []⟩ bytes))) ∧
    (∀ img, s.pwr.cold = false → s.get F.GLB_BOOT_STATUS_PHASE = 15 → (s.get F.GLB_BOOT_STATUS_FAIL_CAUSE = 1 ∨ s.get F.GLB_BOOT_STATUS_FAIL_CAUSE = 2) →
      s.get F.TCK_LIFECYCLE_STATE ≠ 5 → s.imgStatus 0xFF 4 img (fun k => decide (k = 0x25)) false = none → logs →
      ∃ t, exec (.serviceUnlock img) s = .next t ∧ ∃ x ∈ t.hay.running, ∃ body bytes,
        x.job = .change ⟨4, 0xFF, body, .life 0xFF 0 4 (some (imgRb img)) []⟩ bytes)

/-- HOST_READ and HOST_WRITE, once no more urgent Hayloft work is due, of a range that is misaligned, empty, above 1,048,576 bytes or
beyond 448 MiB give OUT_OF_RANGE; a read of an unreadable page gives UNREADABLE, any other writes the region's bytes to BUFADDR; a write
gives NO_SPARE below 5 %, else it becomes work of 4 KiB pages, and work held for 1 s ends with HOLDUP_LOW. STORE_COMPLETE appends an entry
of the event log or the change log to its region, and puts the bytes of a HOST_WRITE's pages into HOST. LOG_FETCH gives OUT_OF_RANGE,
DENIED_RIGHTS for a mark without SAFETY_ADMIN, NO_SUCH_RECORD beyond the head, and OK with RESULT 0 at it. A measurement gives C = (200 mA
+ I_store) Δt / ΔV, and the lowest of the last four is in force. Migration moves the next items to NAND when admitted; an uncorrectable
HOST page becomes unreadable; a third failed program fails its store; TELEMETRY_READ gives the number of records. Commands: HOST_READ,
HOST_WRITE, HOLDUP_WAIT_TIMEOUT, STORE_COMPLETE, LOG_FETCH, HOLDUP_MEASUREMENT_START, HOLDUP_MEASUREMENT_END, HOLDUP_WEAK, NAND_MIGRATION,
NAND_SCRUB, WEAR_LEVEL_MOVE, NAND_PROGRAM_FAIL, TELEMETRY_READ. -/
def Obligations.Hayloft : Prop :=
  ∀ (s : State) (p tag : Nat) (d : Desc),
    let off := d.arg 24 8
    (∀ bad : List Nat, s.Ready p tag 0x0E01 d → s.hostWaits = false →
      let wrong := off % 8 ≠ 0 ∨ d.length % 8 ≠ 0 ∨ d.length = 0 ∨ 1048576 < d.length ∨ 448 * 1048576 < off + d.length
      let pages := fun (g : Nat) => off / 4096 ≤ g ∧ g ≤ (off + d.length - 1) / 4096
      (wrong → ∃ t, exec (.hostRead p tag bad) s = .next t ∧ s.Ended t p tag 0x40 0) ∧
      (¬ wrong →
        ((∃ g ∈ bad ++ s.hay.badPages, pages g) → ∃ t, exec (.hostRead p tag bad) s = .next t ∧ s.Ended t p tag 0x41 0) ∧
        ((∀ g ∈ bad ++ s.hay.badPages, ¬ pages g) → ∃ t, exec (.hostRead p tag bad) s = .next t ∧ s.Ended t p tag 0x00 d.length ∧
          .buffer p d.bufaddr ((List.range d.length).map fun i => (Memory.get s.hay.host (off + i)).toNat) ∈ t.out))) ∧
    (∀ data, s.Ready p tag 0x0E02 d → s.hostWaits = false →
      let wrong := off % 4096 ≠ 0 ∨ d.length % 4096 ≠ 0 ∨ d.length = 0 ∨ 1048576 < d.length ∨ 448 * 1048576 < off + d.length
      (wrong → ∃ t, exec (.hostWrite p tag data) s = .next t ∧ s.Ended t p tag 0x40 0) ∧
      (¬ wrong → s.noSpare = true → ∃ t, exec (.hostWrite p tag data) s = .next t ∧ s.Ended t p tag 0x43 0) ∧
      (¬ wrong → s.noSpare = false → ∃ t, exec (.hostWrite p tag data) s = .next t ∧
        ∃ w ∈ t.hay.work, w.kind = .host p d.num off (padTo d.length data) ∧ w.left = d.length / 4096 ∧ w.done = 0)) ∧
    (∀ w q num at_ data x, s.domainOn 5 = true → s.hay.work.find? (fun w => decide (w.id = p)) = some w → w.held ≠ none → w.busy = false →
      w.kind = .host q num at_ data → (s.pd q).table.find? (fun y => decide (y.num = num ∧ y.phase ≠ .finished)) = some x →
      ∃ t, exec (.holdupWaitTimeout p) s = .next t ∧ s.Ended t q x.tag 0x20 (w.done * 4096 % 2 ^ 32) ∧ ∀ y ∈ t.hay.work, y.id ≠ p) ∧
    (∀ x, s.hay.running.find? (fun y => decide (y.id = p)) = some x → s.logTurn x = true →
      (∀ bytes, x.job = .event bytes → ∃ t, exec (.storeComplete p) s = .next t ∧ (t.region 3).items = (s.region 3).items ++ [bytes]) ∧
      (∀ b bytes, x.job = .change ⟨2, b, [], .nothing⟩ bytes →
        ∃ t, exec (.storeComplete p) s = .next t ∧ (t.region 5).items = (s.region 5).items ++ [bytes]) ∧
      (∀ id n w q num at_ data, x.job = .work id n → s.hay.work.find? (fun y => decide (y.id = id)) = some w →
        w.kind = .host q num at_ data →
        ∃ t, exec (.storeComplete p) s = .next t ∧
          t.hay.host = Memory.write ((data.drop (w.done * 4096)).take (n * 4096)) (at_ + w.done * 4096) s.hay.host)) ∧
    (s.Ready p tag 0x0E03 d → s.listReads = false →
      let rid := if d.arg 24 1 = 0 then 3 else 5
      let mark := bitOf (d.arg 25 1) 0
      let head := (s.region rid).base + (s.region rid).items.length
      let from_ := d.arg 32 8
      let wrong := 1 < d.arg 24 1 ∨ 1 < d.arg 25 1 ∨ d.arg 40 4 = 0 ∨ 4096 < d.arg 40 4 ∨ (mark = true ∧ rid = 3)
      (wrong → ∃ t, exec (.logFetch p tag) s = .next t ∧ s.Ended t p tag 0x40 0) ∧
      (¬ wrong →
        (mark = true → s.hasRight p 4 = false → ∃ t, exec (.logFetch p tag) s = .next t ∧ s.Ended t p tag 0x02 0) ∧
        ((mark = false ∨ s.hasRight p 4 = true) →
          ((head < from_ ∨ from_ < (s.region rid).base) → ∃ t, exec (.logFetch p tag) s = .next t ∧ s.Ended t p tag 0x42 0) ∧
          (from_ = head → ∃ t, exec (.logFetch p tag) s = .next t ∧ s.Ended t p tag 0x00 0) ∧
          (rid = 5 → (s.region 5).base ≤ from_ → from_ < head → d.arg 40 4 * 3608 ≤ d.length → (∀ b ∈ (s.region 5).items, b ≠ []) →
            ∃ t, exec (.logFetch p tag) s = .next t ∧ s.Ended t p tag 0x00 (min (d.arg 40 4) (head - from_) * 3608) ∧
              (mark = true → (t.region 5).mark = max (s.region 5).mark (from_ + min (d.arg 40 4) (head - from_))))))) ∧
    (s.domainOn 5 = true → s.get F.PWR_STATE_SUPPLY = 0 → s.hay.running = [] →
      ∃ t, exec .holdupMeasurementStart s = .next t ∧ t.hay.measuring = some s.chrono) ∧
    (∀ dv i at_, s.hay.measuring = some at_ → 0 < dv → ∃ t, exec (.holdupMeasurementEnd dv i) s = .next t ∧ t.hay.measuring = none ∧
      let c := min (Config.rnd ((200 + i) * (s.chrono - at_) : Nat) (250 * dv)).toNat 0xFFFFF
      t.hay.meas = (c :: s.hay.meas).take 4 ∧ t.get F.HAY_HOLDUP_C ≤ c ∧ t.flag F.HAY_STATUS_CAL_VALID = true) ∧
    (∃ t, exec .holdupWeak s = .next t ∧ ∀ f : Fld, f.win % 256 ≠ 1 → f.win % 256 ≠ 0xE → t.get f = s.get f) ∧
    (s.domainOn 5 = true → s.regionBusy 5 = false → s.region 5 = ⟨(s.region 5).items, 0, 0, 0⟩ → (s.region 5).items.length = 1 →
      s.admits 3 (storeNeed 3 2) = true → ∃ t, exec (.nandMigration 5) s = .next t ∧ ∃ x ∈ t.hay.running, x.job = .migrate 5 1) ∧
    (s.domainOn 5 = true → s.listReads = false →
      (∀ page bits, page < 114688 → ∃ t, exec (.nandScrub 6 page bits true) s = .next t ∧ page ∈ t.hay.badPages ∧ t.flag F.HAY_STATUS_UNCORR = true) ∧
      (∀ page bits, page < 262144 → 24 ≤ bits → s.admits 3 (storeNeed 3 1) = true → ∃ t, exec (.nandScrub 1 page bits false) s = .next t ∧
        (∃ x ∈ t.hay.running, x.job = .rewrite) ∧ min bits 40 ≤ t.get F.HAY_ECC_MOST) ∧
      (∀ hi lo mean, hi < 65536 → ∃ t, exec (.wearLevelMove hi lo mean) s = .next t ∧ t.get F.HAY_WEAR_HIGHEST = hi)) ∧
    (∀ x die block, s.hay.running.find? (fun y => decide (y.id = p)) = some x → 3 ≤ x.cls → s.pwr.falling = false → s.pwr.final = false →
      (2 ≤ x.fails → ∃ t, exec (.nandProgramFail p die block) s = .next t ∧ t.flag F.HAY_STATUS_STORE_FAIL = true) ∧
      (x.fails < 2 → ∃ t, exec (.nandProgramFail p die block) s = .next t ∧ { x with fails := x.fails + 1 } ∈ t.hay.running)) ∧
    (s.Ready p tag 0x0F04 d →
      let recs := s.pwr.telemetry.take (d.arg 24 1)
      ∃ t, exec (.telemetryRead p tag) s = .next t ∧ s.Ended t p tag (if recs.flatten.length ≤ d.length then 0x00 else 0x01)
        ((if recs.flatten.length ≤ d.length then recs.length else recs.flatten.length) % 2 ^ 32))

/-- Outside a Cold reset: VAUX measured below WARN (to the monitor's 1 %) makes the supply state WARN with a forced store, below COMMIT
makes it COMMIT with nothing staged and the zero grant pending, which the next LINK_CYCLE_START makes every stall's applied setpoint and
target; recovery above WARN + 0.5 V returns to NORMAL and leaves the setpoints to the next boundary. VAUX_BELOW_RESET, a rail's
RAIL_UNDERVOLTAGE and a THERMAL_SHUTDOWN make a Cold reset with causes 2, 3 and 4, which waits for running stores. RESET_N and
DEVICE_RESET request a Device reset with causes 0x10 and 0x11; it takes effect once no store runs: RUN domains, PHASE FIRMWARE and no
session context. The release of POR boots to RESTORE, or stops at HALT_SAFE or BOOT_FAIL with its cause; RUN is reached with an active
lane and a firmware slot that verifies. The end of the hold window, and OUTPUT_ADOPT with RELEASE, end the hold and return GPIOs to
inputs; ADOPT keeps every class H item; without a hold RESULT is 0. Commands: VAUX_BELOW_WARN, VAUX_BELOW_COMMIT, VAUX_RECOVERY,
LINK_CYCLE_START, VAUX_BELOW_RESET, RAIL_UNDERVOLTAGE, THERMAL_SHUTDOWN, RESET_N_ASSERT, DEVICE_RESET, DEVICE_RESET_EFFECT,
BOOT_RUN_REACHED, HOLD_WINDOW_EXPIRY, OUTPUT_ADOPT, THERMAL_SHUTDOWN_EXIT, RESET_N_RELEASE, POWER_ON_RESET_RELEASE. -/
def Obligations.SuppliesAndResets : Prop :=
  (∀ s : State, s.pwr.cold = false →
    let sup := s.get F.PWR_STATE_SUPPLY
    (∀ v, (sup = 0 → mayBelow v (10 * s.warnLimit) = true → ∃ t, exec (.vauxBelowWarn v) s = .next t ∧ t.get F.PWR_STATE_SUPPLY = 1 ∧ t.get F.PWR_VAUX_MEAS_VAUX = min v 65535 ∧
        t.get F.PWR_VAUX_MEAS_LOWEST = min v 65535 ∧ (s.domainOn 8 = true → t.bil.ckForced = some s.chrono)) ∧
      (sup ≤ 1 → mayBelow v (10 * s.commitLimit) = true → ∃ t, exec (.vauxBelowCommit v) s = .next t ∧ t.get F.PWR_STATE_SUPPLY = 2 ∧ t.pwr.zeroGrant = true ∧
        t.yms.staged = List.replicate 48 none) ∧
      (sup ≠ 0 → mayAbove v (10 * s.warnLimit + 50) = true → ∀ low, ∃ t, exec (.vauxRecovery v low) s = .next t ∧ t.get F.PWR_STATE_SUPPLY = 0 ∧
        t.get F.PWR_VAUX_MEAS_LOWEST = min (min low (s.get F.PWR_VAUX_MEAS_LOWEST)) 65535 ∧ t.pwr.zeroGrant = s.pwr.zeroGrant ∧
        ∀ n < 48, t.getS (F.YMS_Sn_GRANT_APPLIED n) = s.getS (F.YMS_Sn_GRANT_APPLIED n))) ∧
    (s.pwr.zeroGrant = true → s.domainOn 3 = true → ∀ vh, ∃ t, exec (.linkCycleStart vh) s = .next t ∧
      ∀ n ∈ s.stallNums, t.getS (F.YMS_Sn_GRANT_APPLIED n) = 0 ∧ t.getS (F.YMS_Sn_GRANT_TARGET n) = 0) ∧
    (∀ c cause detail, ((c = .vauxBelowReset ∧ cause = 2 ∧ detail = 0) ∨ (∃ r ≤ 2, c = Instr.railUndervoltage r ∧ cause = 3 ∧ detail = r) ∨
        (∃ k ≤ 7, ∃ temp vaux, c = .thermalShutdown k temp vaux ∧ cause = 4 ∧ detail = k)) →
      ∃ t, exec c s = .next t ∧ t.pwr.cold = true ∧ t.get F.PWR_RESET_CAUSE_CAUSE = cause ∧ t.get F.PWR_RESET_CAUSE_DETAIL = detail ∧
        (cause = 4 → t.pwr.thermal = true) ∧ t.get F.GLB_BOOT_COUNT = s.get F.GLB_BOOT_COUNT ∧
        (t.hay.running = [] → t.chrono = 0 ∧ t.pdk = List.replicate 4 Pdk.init) ∧
        (cause ≠ 4 → s.hay.running ≠ [] → t.pwr.falling = true ∧ t.hay.running = s.hay.running)) ∧
    (∃ t, exec .resetNAssert s = .next t ∧ t.pwr.reset = true ∧ t.pwr.resetLow = true ∧ t.get F.PWR_RESET_CAUSE_CAUSE = 0x10 ∧
      ∀ q < 4, (t.pd q).table = []) ∧
    (∀ p tag d, p < 4 → s.Ready p tag 0x0F02 d → ∃ t, exec (.deviceReset p tag) s = .next t ∧ t.pwr.reset = true ∧
      t.get F.PWR_RESET_CAUSE_CAUSE = 0x11 ∧ t.get F.PWR_RESET_CAUSE_DETAIL = p ∧
      ((s.pd p).held = [] → s.cqRoom p (s.get (F.PDK_SQi_CFG_CQ p d.sq)) = true → ∃ o ∈ t.out.drop s.out.length, isCqe p tag 0x00 0 o = true)) ∧
    (s.pwr.reset = true → s.hay.running = [] → ∃ t, exec .deviceResetEffect s = .next t ∧ t.pwr.reset = false ∧
      t.get F.PWR_STATE_STATE = 0 ∧ t.get F.PWR_DOMAINS = 0xFFFF ∧ (∀ i < 128, (t.ctx i).live = false) ∧
      (s.haltSafe = false → s.get F.TCK_LIFECYCLE_STATE ≠ 5 → s.get F.GLB_BOOT_STATUS_PHASE ≠ 15 →
        t.get F.GLB_BOOT_STATUS_PHASE = 4 ∧ t.get F.GLB_BOOT_STATUS_HISTORY = 16)) ∧
    (∀ (a b la lb ack : Bool), s.domainOn 6 = true → s.pwr.resetLow = false → s.pwr.reset = false → s.inRun = false →
      s.get F.GLB_BOOT_STATUS_PHASE ≠ 14 → s.get F.GLB_BOOT_STATUS_PHASE ≠ 15 → s.tck.fwActive ≤ 1 → s.get F.TCK_LIFECYCLE_STATE ≠ 5 →
      let ok := fun i : Nat => s.slotUsable (if i = 0 then a else b) i
      ((ok 0 = false ∧ ok 1 = false) → ∃ t, exec (.bootRunReached a b la lb ack) s = .next t ∧ t.get F.GLB_BOOT_STATUS_PHASE = 15 ∧
        t.get F.GLB_BOOT_STATUS_FAIL_CAUSE = 1) ∧
      (ok s.tck.fwActive = true → (s.pwr.boot = none ∨ s.slotsFail = false) → la = true → s.laneState 0 = 3 → s.isOut 0 = false → ∃ t, exec (.bootRunReached a b la lb ack) s = .next t ∧ t.inRun = true ∧
        t.get F.GLB_BOOT_STATUS_PHASE = 8 ∧ t.lan.control = true ∧ t.activeLane = 0 ∧ t.get F.GLB_BOOT_STATUS_ACTIVE_SLOT = s.tck.fwActive ∧
        t.get F.PWR_STATE_STATE = 0 ∧ ∀ q < 4, t.flag (F.PDK_STATUS_DEVICE_RUN q) = true)) ∧
    (s.flag F.PWR_HOLD_STATE_HOLD = true → ∃ t, exec .holdWindowExpiry s = .next t ∧ t.flag F.PWR_HOLD_STATE_HOLD = false ∧
      t.get F.GLB_GPIO_DIR = 0 ∧ ∀ n ∈ s.stallNums, t.get (F.HRN_Sn_COOL_FLOOR_PUMP n) = 0) ∧
    (∀ p tag d, s.Ready p tag 0x0F03 d →
      (s.flag F.PWR_HOLD_STATE_HOLD = false → ∃ t, exec (.outputAdopt p tag) s = .next t ∧ s.Ended t p tag 0x00 0) ∧
      (s.flag F.PWR_HOLD_STATE_HOLD = true → d.arg 24 1 = 0 → ∃ t, exec (.outputAdopt p tag) s = .next t ∧ s.Ended t p tag 0x00 1 ∧
        t.flag F.PWR_HOLD_STATE_HOLD = false ∧ t.get F.GLB_GPIO_DIR = s.get F.GLB_GPIO_DIR ∧ t.hrn = s.hrn ∧ t.aux = s.aux ∧ t.lsw = s.lsw) ∧
      (s.flag F.PWR_HOLD_STATE_HOLD = true → d.arg 24 1 ≠ 0 → ∃ t, exec (.outputAdopt p tag) s = .next t ∧
        t.flag F.PWR_HOLD_STATE_HOLD = false ∧ t.get F.GLB_GPIO_DIR = 0 ∧ (t.rel.running = true → (p, d.num) ∈ t.rel.waits)))) ∧
  (∀ s : State, exec .thermalShutdownExit s = .next { s with pwr := { s.pwr with thermal := false } } ∧
    exec .resetNRelease s = .next { s with pwr := { s.pwr with resetLow := false } }) ∧
  (∀ (s : State) (vbat new old a b la lb : Bool) (w : Nat), s.pwr.cold = true → s.pwr.falling = false → s.pwr.thermal = false → s.haltSafe = false →
    let life := s.get F.TCK_LIFECYCLE_STATE
    let boots := s.slotUsable a 0 = true ∨ s.slotUsable b 1 = true
    let passes := fun (c : Option Ckpt) (ok : Bool) => (c.any Ckpt.ok) && ok
    (∀ c < 256, ∃ t, exec (.powerOnResetRelease (some c) vbat (new, old) (a, b) (la, lb) w) s = .next t ∧ t.get F.GLB_BOOT_STATUS_PHASE = 14 ∧
      t.get F.GLB_BOOT_STATUS_FAIL_CAUSE = 4 ∧ t.get F.HLT_FAULT_CAUSE = c) ∧
    ∃ t, exec (.powerOnResetRelease none vbat (new, old) (a, b) (la, lb) w) s = .next t ∧ t.pwr.cold = false ∧
      t.get F.GLB_BOOT_COUNT = (s.get F.GLB_BOOT_COUNT + 1) % 2 ^ 32 ∧
      (life = 5 → t.get F.GLB_BOOT_STATUS_PHASE = 15 ∧ t.get F.GLB_BOOT_STATUS_FAIL_CAUSE = 3) ∧
      (life ≠ 5 → ¬ boots → t.get F.GLB_BOOT_STATUS_PHASE = 15 ∧ t.get F.GLB_BOOT_STATUS_FAIL_CAUSE = 1) ∧
      (life ≠ 5 → boots → (s.hay.ckpt.isSome = true ∨ s.hay.ckptOld.isSome = true) → passes s.hay.ckpt new = false →
        passes s.hay.ckptOld old = false →
        t.get F.GLB_BOOT_STATUS_PHASE = 15 ∧ t.get F.GLB_BOOT_STATUS_FAIL_CAUSE = 2) ∧
      (life ≠ 5 → boots → ((s.hay.ckpt = none ∧ s.hay.ckptOld = none) ∨ passes s.hay.ckpt new = true ∨ passes s.hay.ckptOld old = true) → t.get F.GLB_BOOT_STATUS_PHASE = 6 ∧
        ∀ k ≤ 6, bitOf (t.get F.GLB_BOOT_STATUS_HISTORY) k = true))

/-- POWER_STATE gives BUSY_RETRY during another entry, completes at once in the state it asks for, leaves QUIET for RUN, gives SUPPLY_LOW
outside NORMAL and is else accepted. Its check ends it with ENTRY_REFUSED and the refuser, or shows that state is being entered; QUIET is
entered with domains 0xE9FF unless a refuser has arisen, then ENTRY_ABORTED; a HIBERNATE entry turns every enabled link off. A source that
is enabled ends QUIET and HIBERNATE, with its number in PWR_WAKE_CAUSE, and is latched during an entry; a replayed one is marked. PWR_WAKE
needs SERVICE. The housekeeping round shows the supplies and the hottest die sensor, adds a telemetry record and starts the slack
registers afresh. 1PPS locks at the eighth edge in a row that qualifies, moves its trim by at most 0.1 ppm an edge, and loses lock at an
edge that does not qualify and after 3 s without one. Commands: POWER_STATE, POWER_ENTRY_CHECK, QUIET_ENTRY, HIBERNATE_ENTRY, WAKE_EVENT,
WAKE_TIMER, PWR_WAKE_NOW, WAKE_REPLAY, HOUSEKEEPING_ROUND, PPS_EDGE, PPS_ABSENCE_TIMEOUT. How far the trim moves at an edge is a free
value (within 0.1 ppm a second by R586). -/
def Obligations.PowerStates : Prop :=
  (∀ (s : State) (p tag : Nat) (d : Desc), s.Ready p tag 0x0F01 d →
    let target := d.arg 24 1
    let now := s.get F.PWR_STATE_STATE
    (s.pwr.entry ≠ none → ∃ t, exec (.powerState p tag) s = .next t ∧ s.Ended t p tag 0x05 0) ∧
    (s.pwr.entry = none →
      (target = now → ∃ t, exec (.powerState p tag) s = .next t ∧ s.Ended t p tag 0x00 0 ∧ t.get F.PWR_STATE_STATE = now) ∧
      (target = 0 → now = 1 → ∃ t, exec (.powerState p tag) s = .next t ∧ s.Ended t p tag 0x00 0 ∧ t.get F.PWR_STATE_STATE = 0 ∧
        t.get F.PWR_DOMAINS = 0xFFFF) ∧
      (target ≠ 0 → target ≠ now → s.get F.PWR_STATE_SUPPLY ≠ 0 → ∃ t, exec (.powerState p tag) s = .next t ∧ s.Ended t p tag 0x42 0) ∧
      (target ≠ 0 → target ≠ now → s.get F.PWR_STATE_SUPPLY = 0 → ∃ t, exec (.powerState p tag) s = .next t ∧
        t.pwr.entry = some ⟨p, d.num, target, d.arg 28 4, false, false⟩ ∧ t.get F.PWR_STATE_STATE = now))) ∧
  (∀ (s : State) (e : PowerEntry) (x : Desc), s.pwr.entry = some e → e.begun = false →
    (s.pd e.p).table.find? (fun y => decide (y.num = e.num ∧ y.phase ≠ .finished)) = some x →
    (e.checked = false →
      (∀ r, s.refuser e true = some r → ∃ t, exec .powerEntryCheck s = .next t ∧ s.Ended t e.p x.tag 0x40 (r.1 * 256 + r.2) ∧
        t.pwr.entry = none ∧ t.get F.PWR_REFUSE_LAST_CODE = r.1) ∧
      (s.refuser e true = none → e.target ≤ 2 → ∃ t, exec .powerEntryCheck s = .next t ∧ t.pwr.entry = some { e with checked := true } ∧
        t.get F.PWR_STATE_STATE = e.target + 2)) ∧
    (e.checked = true → e.target = 1 →
      (∀ r, s.refuser e true = some r → ∃ t, exec .quietEntry s = .next t ∧ s.Ended t e.p x.tag 0x41 (r.1 * 256 + r.2) ∧ t.pwr.entry = none) ∧
      (s.refuser e true = none → ∃ t, exec .quietEntry s = .next t ∧ s.Ended t e.p x.tag 0x00 0 ∧ t.get F.PWR_STATE_STATE = 1 ∧
        t.get F.PWR_DOMAINS = 0xE9FF ∧ t.pwr.wakeAfter = e.wake)) ∧
    (e.checked = true → e.target = 2 → s.pwr.final = false →
      (∀ r, s.refuser e false = some r → ∃ t, exec .hibernateEntry s = .next t ∧ s.Ended t e.p x.tag 0x41 (r.1 * 256 + r.2) ∧ t.pwr.entry = none) ∧
      (s.refuser e false = none → ∃ t, exec .hibernateEntry s = .next t ∧ t.pwr.entry = some { e with begun := true } ∧
        ∀ n ∈ s.stallNums, s.flag (F.SLK_Sn_CTRL_ENABLE n) = true → t.linkState n = Link.off))) ∧
  (∀ (s : State) (src : Nat) (c : Instr) (replayed : Bool), s.mayWake = true →
    (((c = .wakeEvent src ∧ replayed = false) ∨ (c = .wakeTimer ∧ src = 1 ∧ s.pwr.wakeAfter ≠ 0 ∧ replayed = false) ∨
      (∃ p v, c = .pwrWakeNow p v ∧ p < 4 ∧ src = 0 ∧ s.domainOn 4 = true ∧ s.hasRight p 2 = true ∧ v % 2 = 1 ∧ replayed = false) ∨
      (c = .wakeReplay ∧ s.pwr.latched = some src ∧ s.pwr.entry = none ∧ replayed = true))) →
    (s.pwr.entry = none → s.get F.PWR_STATE_STATE = 1 → s.wakeEnabled src true = true → ∃ t, exec c s = .next t ∧ t.get F.PWR_STATE_STATE = 0 ∧
      t.get F.PWR_DOMAINS = 0xFFFF ∧ t.get F.PWR_WAKE_CAUSE_SOURCE = src ∧ t.flag F.PWR_WAKE_CAUSE_REPLAYED = replayed) ∧
    (s.pwr.entry = none → s.get F.PWR_STATE_STATE = 2 → s.wakeEnabled src false = true → ∃ t, exec c s = .next t ∧
      t.get F.PWR_DOMAINS = 0xFFFF ∧ t.get F.PWR_WAKE_CAUSE_SOURCE = src ∧ t.get F.PWR_RESET_CAUSE_CAUSE = 0x20 ∧
      t.get F.PWR_RESET_CAUSE_DETAIL = src ∧ (s.haltSafe = false → t.get F.GLB_BOOT_STATUS_PHASE = 6)) ∧
    (∀ e, s.pwr.entry = some e → s.wakeEnabled src (decide (e.target = 1)) = true → ∃ t, exec c s = .next t ∧
      t.pwr.latched = some (s.pwr.latched.getD src) ∧ t.pwr.entry = some e)) ∧
  (∀ (s : State) (p v : Nat), p < 4 → s.domainOn 4 = true → s.hasRight p 2 = false → ∃ t, exec (.pwrWakeNow p v) s = .next t ∧
    t.get (F.PDK_DENY_STATUS_OFFSET p) = 0xF0034 ∧ t.get F.PWR_STATE_STATE = s.get F.PWR_STATE_STATE) ∧
  (∀ (s : State) (hk : HkIn), s.domainOn 4 = true → ∃ t, exec (.housekeepingRound hk) s = .next t ∧
    t.get F.PWR_VAUX_MEAS_VAUX = min hk.vaux 65535 ∧ t.get F.PWR_VCORE_MEAS = min hk.vcore 65535 ∧ t.get F.PWR_VBAT_MEAS = min hk.vbat 65535 ∧
    (∀ x, hottest hk.die = some x → t.getS F.PWR_DIE_TEMP_HOTTEST = x.2 ∧ t.get F.PWR_DIE_TEMP_SENSOR = x.1) ∧
    (t.pwr.telemetry.headD []).length = 128 ∧ t.pwr.telemetry.drop 1 = s.pwr.telemetry.take 15 ∧ t.getS F.WLK_SLACK_MIN = 2147483647 ∧
    t.getS F.WBG_SLACK_MIN = 2147483647 ∧ t.get F.DRO_QRES_MAX = 0) ∧
  (∀ (s : State) (q : Bool) (err : Int), s.domainOn 3 = true → s.flag F.GLB_PPS_CFG_ENABLE = true →
    (∃ t, exec (.ppsEdge q err) s = .next t ∧ t.flag F.GLB_PPS_STATUS_PRESENT = q ∧ (q = false → t.flag F.GLB_PPS_STATUS_LOCKED = false) ∧
      (q = true → 7 ≤ s.pwr.ppsRun → t.flag F.GLB_PPS_STATUS_LOCKED = true) ∧
      (q = true → s.pwr.ppsRun < 7 → t.flag F.GLB_PPS_STATUS_LOCKED = s.flag F.GLB_PPS_STATUS_LOCKED) ∧
      (t.getS F.GLB_PPS_STATUS_TRIM - s.getS F.GLB_PPS_STATUS_TRIM).natAbs ≤ 100) ∧
    ∃ t, exec .ppsAbsenceTimeout s = .next t ∧ t.flag F.GLB_PPS_STATUS_PRESENT = false ∧ t.flag F.GLB_PPS_STATUS_LOCKED = false)

/-- A heartbeat keeps the active lane; 400 µs without one or its reported fault loses it: a healthy standby takes over, else a Device
reset follows. The standby that has taken over is ACTIVE and in control. LANE_HANDOVER gives LANE_BUSY, NO_STANDBY or starts a handover,
which drains, waits for its boundary, and at the acknowledgement moves control and completes; without it it ends NO_STANDBY. FW_ACTIVATE
gives FW_NOT_STAGED, LANE_BUSY or NO_STANDBY or starts step 1; a step that fails ends it with its status; probation makes the staged slot
active and raises its rollback counter; the reboot of the old lane completes it with the image's epoch. A standby that has rebooted and
acknowledged a snapshot is STANDBY; before RUN the first lane whose self-test passes is in control and one whose self-test fails stays in
RESET. A day without a healthy standby sets the limit; the revert hold-off starts a handover back to lane A. RESET and READMIT of
GLB_LANE_CTRL act on their lane, the RESET of the active lane by a planned handover first, and need SERVICE. Commands: LANE_HEARTBEAT,
LANE_HEARTBEAT_TIMEOUT, LANE_FAULT_REPORT, LANE_TAKEOVER_COMPLETE, LANE_REBOOT_READY, TETHER_SNAPSHOT_ACK, REVERT_HOLDOFF_EXPIRY,
HANDOVER_DRAIN_END, HANDOVER_ACK_TIMEOUT, NO_STANDBY_LIMIT, LANE_HANDOVER, FW_ACTIVATE, FW_STANDBY_VERIFIED, FW_PROBATION_EXPIRY,
FW_OLD_LANE_REBOOTED, FW_STEP_TIMEOUT, LANE_RESET_WRITE, LANE_READMIT_WRITE. A standby's own fault counts as a loss (log entry 121). -/
def Obligations.ControlLanes : Prop :=
  (∀ s : State, (s.lan.control = true → exec .laneHeartbeat s = .next { s with lan := { s.lan with beat := s.chrono } }) ∧
    (∀ c cause, s.lan.control = true → s.pwr.cold = false →
      ((c = .laneHeartbeatTimeout ∧ s.lan.beat + 100000 ≤ s.chrono ∧ cause = 0) ∨ (c = .laneFaultReport s.activeLane ∧ s.domainOn 6 = true ∧ cause = 1)) →
      ∃ t, exec c s = .next t ∧ t.lan.control = false ∧ t.laneState s.activeLane = 4 ∧ t.lan.takeover = some cause ∧
        (s.standbyOk = true → t.pwr.reset = s.pwr.reset) ∧ (s.standbyOk = false → t.pwr.reset = true ∧ t.get F.PWR_RESET_CAUSE_CAUSE = 0x12)) ∧
    (s.lan.control = true → s.domainOn 6 = true → s.isOut s.standbyLane = false → s.lan.losses.length = 2 →
      ∃ t, exec (.laneFaultReport s.standbyLane) s = .next t ∧ t.lan.control = true ∧
        s.get F.BIL_TICK ∈ t.lan.losses.getD s.standbyLane [] ∧ t.laneState s.standbyLane = (if t.isOut s.standbyLane then 5 else 3)) ∧
    (∀ gap cause, s.lan.takeover = some cause → s.lan.control = false → s.pwr.reset = false →
      ∃ t, exec (.laneTakeoverComplete gap) s = .next t ∧ t.activeLane = s.standbyLane ∧ t.lan.control = true ∧ t.lan.takeover = none ∧
        t.laneState s.standbyLane = 0 ∧ t.get F.GLB_LANE_CNT_TAKEOVERS = min (s.get F.GLB_LANE_CNT_TAKEOVERS + 1) 65535) ∧
    (∀ ok, s.domainOn 6 = true → s.inRun = true → s.laneState s.standbyLane = 3 → s.get F.GLB_FW_STATE_STEP ≠ 1 → s.get F.GLB_FW_STATE_STEP ≠ 5 →
      ∃ t, exec (.laneRebootReady s.standbyLane ok) s = .next t ∧ t.laneState s.standbyLane = if ok then 2 else 4) ∧
    (∀ k ok, k < 2 → s.domainOn 6 = true → s.inRun = false → s.pwr.resetLow = false → s.pwr.reset = false → s.laneState k = 3 →
      s.get F.GLB_FW_STATE_STEP ≠ 1 → s.get F.GLB_FW_STATE_STEP ≠ 5 → ∃ t, exec (.laneRebootReady k ok) s = .next t ∧
        (ok = false → t.laneState k = 4) ∧ (ok = true → s.lan.control = false → t.activeLane = k ∧ t.laneState k = 0 ∧ t.lan.control = true) ∧
        (ok = true → s.lan.control = true → k = 1 → t.laneState 1 = 2)) ∧
    (∀ slack : Int, s.lan.snapWait = true → s.lan.control = true → s.lan.fw = none →
      (s.lan.handover = none → ∃ t, exec (.tetherSnapshotAck slack) s = .next t ∧ t.get F.GLB_LANE_STATUS_SNAP_AGE = 0 ∧ t.lan.snapWait = false ∧
        t.laneState s.standbyLane = if s.laneState s.standbyLane = 2 then 1 else s.laneState s.standbyLane) ∧
      (∀ h q num x, s.lan.handover = some h → h.phase = 2 → h.why = 0 → h.desc = some (q, num) → s.standbyOk = true → s.tck.switch = none → s.laneSlot s.activeLane = s.tck.fwActive → num < (s.pd q).nextNum →
        (s.pd q).table.find? (fun y => decide (y.num = num ∧ y.phase ≠ .finished)) = some x →
        ∃ t, exec (.tetherSnapshotAck slack) s = .next t ∧ t.activeLane = s.standbyLane ∧ t.lan.handover = none ∧ t.laneState s.activeLane = 2 ∧
          s.Ended t q x.tag 0x00 (s.standbyLane * 65536 + min ((s.chrono - h.at_) / 250) 65535))) ∧
    (s.lan.holdoff ≠ none → s.lan.handover = none → s.lan.fw = none → s.standbyOk = true →
      ∃ t, exec .revertHoldoffExpiry s = .next t ∧ t.lan.handover = some ⟨1, none, 0, 0⟩ ∧ t.lan.drain = true) ∧
    (∀ h, s.lan.handover = some h → h.phase = 0 → ∃ t, exec .handoverDrainEnd s = .next t ∧
      t.lan.handover = some { h with phase := 1, at_ := (s.chrono / 250000 + 1) * 250000 }) ∧
    (∀ h q num x, s.lan.handover = some h → h.phase = 2 → h.why ≠ 2 → h.desc = some (q, num) →
      (s.pd q).table.find? (fun y => decide (y.num = num ∧ y.phase ≠ .finished)) = some x →
      ∃ t, exec .handoverAckTimeout s = .next t ∧ t.lan.handover = none ∧ t.lan.drain = false ∧ s.Ended t q x.tag 0x40 0) ∧
    (s.lan.noSince ≠ none → s.lan.noStandby = false → ∃ t, exec .noStandbyLimit s = .next t ∧ t.lan.noStandby = true)) ∧
  (∀ (s : State) (p tag : Nat) (d : Desc),
    let busy := s.lan.handover ≠ none ∨ s.lan.fw ≠ none
    (s.Ready p tag 0x0002 d →
      (busy → ∃ t, exec (.laneHandover p tag) s = .next t ∧ s.Ended t p tag 0x41 0) ∧
      (¬ busy → s.standbyOk = false → ∃ t, exec (.laneHandover p tag) s = .next t ∧ s.Ended t p tag 0x40 0) ∧
      (¬ busy → s.standbyOk = true → ∃ t, exec (.laneHandover p tag) s = .next t ∧ t.lan.handover = some ⟨0, some (p, d.num), 0, 0⟩ ∧
        t.lan.drain = true ∧ t.flag F.GLB_LANE_STATUS_HANDOVER_BUSY = true)) ∧
    (s.Ready p tag 0x0003 d →
      (s.fwStaged = false → ∃ t, exec (.fwActivate p tag) s = .next t ∧ s.Ended t p tag 0x42 0) ∧
      (s.fwStaged = true →
        (busy → ∃ t, exec (.fwActivate p tag) s = .next t ∧ s.Ended t p tag 0x41 0) ∧
        (¬ busy → s.standbyOk = false → ∃ t, exec (.fwActivate p tag) s = .next t ∧ s.Ended t p tag 0x40 0) ∧
        (¬ busy → s.standbyOk = true → ∃ t, exec (.fwActivate p tag) s = .next t ∧ t.get F.GLB_FW_STATE_STEP = 1 ∧
          t.lan.fw = some ⟨p, d.num, if d.arg 24 2 = 0 then 60 else d.arg 24 2, 1 - s.tck.fwActive, 0⟩ ∧ t.laneState s.standbyLane = 3)))) ∧
  (∀ (s : State) (f : FwRun) (x : Desc), s.lan.fw = some f → s.tck.fwActive ≤ 1 → f.slot ≤ 1 →
    (s.pd f.p).table.find? (fun y => decide (y.num = f.num ∧ y.phase ≠ .finished)) = some x →
    let step_ := s.get F.GLB_FW_STATE_STEP
    (∀ sig self, step_ = 1 → s.laneState s.standbyLane = 3 → s.laneSlot s.standbyLane = f.slot →
      let low := (s.fwSlot f.slot).rb < s.get (F.TCK_RBi 0)
      let fails := fun st => ∃ t, exec (.fwStandbyVerified sig self) s = .next t ∧ s.Ended t f.p x.tag st 0 ∧ t.lan.fw = none ∧
        t.get F.GLB_FW_STATE_STEP = 0
      (sig = false → fails 0x30) ∧ (sig = true → low → fails 0x31) ∧ (sig = true → ¬ low → self = false → fails 0x40) ∧
      (sig = true → ¬ low → self = true → s.compatible (s.laneSlot s.activeLane) f.slot = false → fails 0x43) ∧
      (sig = true → ¬ low → self = true → s.compatible (s.laneSlot s.activeLane) f.slot = true →
        ∃ t, exec (.fwStandbyVerified sig self) s = .next t ∧ t.get F.GLB_FW_STATE_STEP = 2 ∧ t.laneState s.standbyLane = 2)) ∧
    (step_ = 4 → ∃ t, exec .fwProbationExpiry s = .next t ∧ t.get F.GLB_FW_STATE_STEP = 5 ∧ t.tck.fwActive = f.slot ∧
      t.get (F.TCK_RBi 0) = (s.fwSlot f.slot).rb % 2 ^ 32 ∧ t.get F.GLB_BOOT_STATUS_ACTIVE_SLOT = f.slot ∧ t.flag F.TCK_STATUS_FW_STAGED = false) ∧
    (step_ = 5 → (∃ t, exec (.fwOldLaneRebooted true) s = .next t ∧ s.Ended t f.p x.tag 0x00 ((s.fwSlot f.slot).version % 2 ^ 32) ∧ t.lan.fw = none) ∧
      ∃ t, exec (.fwOldLaneRebooted false) s = .next t ∧ s.Ended t f.p x.tag 0x40 0) ∧
    ((step_ = 1 ∨ step_ = 2 ∨ step_ = 5) → ∃ t, exec .fwStepTimeout s = .next t ∧ s.Ended t f.p x.tag 0x40 0 ∧ t.lan.fw = none)) ∧
  (∀ (s : State) (p v : Nat), p < 4 → s.domainOn 6 = true →
    (s.hasRight p 2 = false → ∀ c ∈ [Instr.laneResetWrite p v, .laneReadmitWrite p v], ∃ t, exec c s = .next t ∧
      t.get (F.PDK_DENY_STATUS_OFFSET p) = 0x404 ∧ t.lan = s.lan) ∧
    (s.hasRight p 2 = true →
      (bitOf v s.activeLane = false → bitOf v s.standbyLane = true → s.isOut s.standbyLane = false →
        ∃ t, exec (.laneResetWrite p v) s = .next t ∧ t.laneState s.standbyLane = 3 ∧ t.lan.losses = s.lan.losses) ∧
      (bitOf v s.activeLane = true → bitOf v s.standbyLane = false → s.lan.control = true → s.lan.handover = none → s.lan.fw = none →
        s.standbyOk = true → ∃ t, exec (.laneResetWrite p v) s = .next t ∧ t.lan.handover = some ⟨3, none, 0, 0⟩ ∧ t.lan.drain = true) ∧
      (bitOf v 7 = true → ∃ t, exec (.laneReadmitWrite p v) s = .next t ∧ t.isOut 0 = false ∧ t.lan.losses.getD 0 [] = []) ∧
      (bitOf v 8 = true → ∃ t, exec (.laneReadmitWrite p v) s = .next t ∧ t.isOut 1 = false ∧ t.lan.losses.getD 1 [] = [])))

/-- Any access but an aligned 32-bit single-DWORD read or write completes with Unsupported Request and has no effect:
BAR0_UNSUPPORTED_ACCESS, and REGISTER_WRITE and WIDE_LO_READ at an unaligned offset. To a register whose domain is off, a read returns
0xFFFFFFFF, by OFF_DOMAIN_REGISTER_ACCESS and by WIDE_LO_READ, and a write is discarded: no register outside GLB and the records of PDK
and the event log changes. GLB_OFFDOM_STATUS captures offset and paddock of the first such access, further ones set OVERFLOW, and the
paddock's event ring receives OFF_DOMAIN_ACCESS (0x0002). An offset there that is assigned to no register reads zero and captures nothing.
Commands: BAR0_UNSUPPORTED_ACCESS, REGISTER_WRITE, WIDE_LO_READ, OFF_DOMAIN_REGISTER_ACCESS. -/
def Obligations.UnusableAccess : Prop :=
  ∀ (s : State) (p off val : Nat) (write : Bool), p < 4 → off < 0x200000 →
    exec (.bar0UnsupportedAccess p) s = .next { s with out := s.out ++ [.unsupported p] } ∧
    (s.domainOn 4 = true → off % 4 ≠ 0 → ∀ c ∈ [Instr.registerWrite p off val, .wideLoRead p off],
      exec c s = .next { s with out := s.out ++ [.unsupported p] }) ∧
    (s.domainOn (domainOf off) = false → s.offAccess off = false →
      exec (.offDomainRegisterAccess p off val write) s = .next (if write then s else { s with out := s.out ++ [.readData p off 0] })) ∧
    (s.domainOn (domainOf off) = false → s.offAccess off = true →
      ∀ c ∈ [Instr.offDomainRegisterAccess p off val write] ++ (if write = false ∧ s.domainOn 4 = true ∧ off % 4 = 0 then [Instr.wideLoRead p off] else []),
        ∃ t, exec c s = .next t ∧ t.flag F.GLB_OFFDOM_STATUS_VALID = true ∧
          (write = false → .readData p off 0xFFFFFFFF ∈ t.out.drop s.out.length) ∧
          (∀ f : Fld, f.win % 256 ≠ 0 → f.win % 256 ≠ 1 → f.win % 256 ≠ 0xE → t.get f = s.get f) ∧
          (s.flag F.GLB_OFFDOM_STATUS_VALID = false → t.get F.GLB_OFFDOM_STATUS_OFFSET = off ∧ t.get F.GLB_OFFDOM_STATUS_PADDOCK = p) ∧
          (s.flag F.GLB_OFFDOM_STATUS_VALID = true → t.flag F.GLB_OFFDOM_STATUS_OVERFLOW = true ∧
            t.get F.GLB_OFFDOM_STATUS_OFFSET = s.get F.GLB_OFFDOM_STATUS_OFFSET ∧ t.get F.GLB_OFFDOM_STATUS_PADDOCK = s.get F.GLB_OFFDOM_STATUS_PADDOCK) ∧
          (s.flag (F.PDK_EQ_CFG_ENABLE p) = true → s.eqRoom p = true → (s.pd p).lostSince = 0 → ∃ o ∈ t.out.drop s.out.length,
            isEqe p 0x0002 o = true))

/-- REGISTER_WRITE to an assigned, present, powered register that is neither RWP nor PDK's, by a paddock without the right of the
register's block, changes no register outside the PDK and HAY windows (the paddock's own status and the event log): PDK_DENY_STATUS
captures the offset and reads VALID. Commands: REGISTER_WRITE. -/
def Obligations.SetupWriteRights : Prop :=
  ∀ (s : State) (p off val : Nat) (r : RegRow), p < 4 → off < 0x200000 → off % 4 = 0 → s.domainOn 4 = true →
    s.domainOn (domainOf off) = true → s.absent off = false → regRowAt off = some r → isRwp off = false → s.mayWrite p off = false →
    off ≠ 0x48 → off ≠ 0x404 → off ≠ 0xF0034 →
    ∃ t, exec (.registerWrite p off val) s = .next t ∧ t.get (F.PDK_DENY_STATUS_OFFSET p) = off ∧ t.flag (F.PDK_DENY_STATUS_VALID p) = true ∧
      ∀ f : Fld, f.win % 256 ≠ 1 → f.win % 256 ≠ 0xE → t.get f = s.get f

/-- REGISTER_WRITE by a paddock with the block's right takes effect: any paddock may set its own event block mask; with SERVICE,
HAY_CFG.MIN_SEVERITY takes values 0 to 4; GPIO_SET_WRITE and GPIO_CLEAR_WRITE change only the outputs written as 1. Commands:
REGISTER_WRITE, GPIO_SET_WRITE, GPIO_CLEAR_WRITE. -/
def Obligations.SetupWriteTakes : Prop :=
  ∀ (s : State) (p val : Nat), p < 4 → val < 2 ^ 32 → s.domainOn 4 = true →
    (∃ t, exec (.registerWrite p 0x10018 val) s = .next t ∧ t.get (F.PDK_EVT_BLOCK_MASK p) = val % 2 ^ 17) ∧
    (s.domainOn 5 = true → s.hasRight p 2 = true → ∀ days sev, 1 ≤ days → days ≤ 30 → sev ≤ 4 →
      ∃ t, exec (.registerWrite p 0xE0008 (days * 65536 + sev)) s = .next t ∧ t.get F.HAY_CFG_MIN_SEVERITY = sev) ∧
    (s.hasRight p 2 = true →
      (∃ t, exec (.gpioSetWrite p val) s = .next t ∧ t.get F.GLB_GPIO_OUT = (s.get F.GLB_GPIO_OUT ||| val) % 2 ^ 32) ∧
      (∃ t, exec (.gpioClearWrite p val) s = .next t ∧
        t.get F.GLB_GPIO_OUT = (s.get F.GLB_GPIO_OUT - (s.get F.GLB_GPIO_OUT &&& val)) % 2 ^ 32))

/-- LOCK_REGISTER_WRITE of 1 to the LOCK register of a powered window by a paddock with its right sets LOCK; a write of 0 leaves every
register outside the PDK and HAY windows as it was. GLB_LOCK_ALL_WRITE of 1 sets LOCK in every powered window whose right the writer
holds. Commands: LOCK_REGISTER_WRITE, GLB_LOCK_ALL_WRITE. -/
def Obligations.Locks : Prop :=
  ∀ (s : State) (p w right : Nat) (f : Fld), p < 4 → lockFld w = some f → setupRight w = some right → s.domainOn 4 = true →
    s.domainOn (domainOf (w * 0x10000)) = true → s.hasRight p right = true →
    (∃ t, exec (.lockRegisterWrite p f.off 1) s = .next t ∧ t.locked w = true) ∧
    (∃ t, exec (.lockRegisterWrite p f.off 0) s = .next t ∧ ∀ g : Fld, g.win % 256 ≠ 1 → g.win % 256 ≠ 0xE → t.get g = s.get g) ∧
    (s.anyRight p = true → ∃ t, exec (.glbLockAllWrite p 1) s = .next t ∧ t.locked w = true)

/-- RWP_REGISTER_WRITE of an allowed value by the paddock that opened the change window, with the rights R584 names, starts the store of a
KIND 0 change-log entry that will apply it; the register keeps its old value until then. Outside the writer's own window the write is
denied and nothing is stored. Commands: RWP_REGISTER_WRITE. -/
def Obligations.RwpWriteLogged : Prop :=
  ∀ (s : State) (p off val : Nat) (r : RegRow), p < 4 → off < 0x200000 → off % 4 = 0 → s.domainOn 4 = true → s.domainOn (domainOf off) = true →
    s.absent off = false → regRowAt off = some r → r.has .rwp = true → rowAllowed r (val % 2 ^ 32) = true → rwpFits off (val % 2 ^ 32) = true →
    (s.ownsWindow p = true → s.hasRight p 4 = true → (∀ b, rwpRight off = some b → s.hasRight p b = true) → s.changelogFull = false →
      s.stagingUsed + 3608 ≤ 4194304 → s.admits 2 (storeNeed 2 1) = true →
      ∃ t, exec (.rwpRegisterWrite p off val) s = .next t ∧ s.rowVal r off = t.rowVal r off ∧
        ∃ st ∈ t.hay.running, ∃ body bytes, st.job = .change ⟨0, p, body, .rwp p off (val % 2 ^ 32)⟩ bytes) ∧
    (s.ownsWindow p = false →
      ∃ t, exec (.rwpRegisterWrite p off val) s = .next t ∧ t.get (F.PDK_DENY_STATUS_OFFSET p) = off ∧ s.rowVal r off = t.rowVal r off)

/-- WIDE_LO_READ of the _LO half of a pair in a powered window answers its value and keeps the _HI half of the same instant for that
paddock alone; the next WIDE_LO_READ of the _HI half answers what was kept, once. Commands: WIDE_LO_READ. -/
def Obligations.WideRead : Prop :=
  ∀ (s : State) (p off h : Nat) (r : RegRow), p < 4 → s.pdk.length = 4 → off < 0x200000 → off % 4 = 0 → s.domainOn 4 = true →
    s.domainOn (domainOf off) = true → regRowAt off = some r → r.hi = some h → r.off ≤ h → r.isHi off = false →
    (∃ t, exec (.wideLoRead p off) s = .next t ∧ t.out = s.out ++ [.readData p off (s.readWord p off)] ∧
      (off + (h - r.off), s.readWord p (off + (h - r.off))) ∈ (t.pd p).shadows ∧ ∀ q < 4, q ≠ p → t.pd q = s.pd q) ∧
    ∀ v, regRowAt (off + (h - r.off)) = some r → r.isHi (off + (h - r.off)) = true → off + (h - r.off) < 0x200000 →
      (off + (h - r.off)) % 4 = 0 → s.domainOn (domainOf (off + (h - r.off))) = true →
      (s.pd p).shadows.find? (fun x => decide (x.1 = off + (h - r.off))) = some (off + (h - r.off), v) →
      ∃ t, exec (.wideLoRead p (off + (h - r.off))) s = .next t ∧ t.out = s.out ++ [.readData p (off + (h - r.off)) v] ∧
        ∀ x ∈ (t.pd p).shadows, x.1 ≠ off + (h - r.off)

/-- A command changes registers only in the windows that reachWindows gives it, and of the state beside the registers only the parts that
reachParts gives it: every field of every other window and every other part (accumulators, FIFOs, timers, sessions, stores, journals) is
as before. -/
def Obligations.CommandFrames : Prop :=
  ∀ (c : Instr) (s t : State), exec c s = .next t →
    (∀ f : Fld, f.win % 256 ∉ reachWindows c → t.get f = s.get f) ∧ ∀ a : Part, a ∉ reachParts c → a.same s t

/-- An event raised goes to each paddock it is due to: into an enabled event ring with room, as a 32-byte record with its code, severity,
source, sequence number and the Chronobase; while the ring is full it is counted as lost; a disabled ring discards it. Due means: severity
FAULT or CRITICAL with any right, else the block's right and the paddock's own masks. A paddock it is not due to gets no record. -/
def Obligations.EventDelivery : Prop :=
  ∀ (s : State) (e : Ev) (p : Nat), p < 4 → s.pdk.length = 4 → (s.pd p).lostSince = 0 →
    let t := s.raise e.code e.sev e.src e.payload
    let seq := (s.pd p).evSeq
    (s.dueTo p e = true → s.flag (F.PDK_EQ_CFG_ENABLE p) = true →
      (s.eqRoom p = true → (∃ i flags, .eqe p i (e.bytes flags seq s.chrono) ∈ t.out.drop s.out.length) ∧
        (t.pd p).evSeq = (seq + 1) % 65536 ∧ t.get (F.PDK_EQ_PROD p) = (s.get (F.PDK_EQ_PROD p) + 1) % 2 ^ 32) ∧
      (s.eqRoom p = false → (t.pd p).lostSince = 1 ∧ t.get (F.PDK_EVT_LOST p) = min (s.get (F.PDK_EVT_LOST p) + 1) (2 ^ 32 - 1) ∧
        t.get (F.PDK_EQ_PROD p) = s.get (F.PDK_EQ_PROD p))) ∧
    ((s.dueTo p e = false ∨ s.flag (F.PDK_EQ_CFG_ENABLE p) = false) → ∀ i bytes, .eqe p i bytes ∉ t.out.drop s.out.length)
end

