-- ==== Sys2Proof/Laws/Sparse.lean ====
section
/-!
SUPPORT. Sparse lists: read after write, writes leave other keys alone, writes keep the canonical form.
-/
namespace Sys2Proof.Laws

open Sys2Proof.Machine

variable {α : Type}

theorem regFind_filter_ne (d : α) (k j : Nat) (h : j ≠ k) (l : List (Nat × α)) :
    regFind d (l.filter (fun e => e.1 ≠ k)) j = regFind d l j := by
  induction l with
  | nil => rfl
  | cons e l ih =>
    obtain ⟨a, v⟩ := e
    by_cases ha : a = k
    · subst ha; simp [regFind, Ne.symm h] at ih ⊢; exact ih
    · simp only [ne_eq, ha, not_false_eq_true, decide_true, List.filter_cons_of_pos, regFind] at ih ⊢; rw [ih]

theorem regFind_filter_self (d : α) (k : Nat) (l : List (Nat × α)) :
    regFind d (l.filter (fun e => e.1 ≠ k)) k = d := by
  induction l with
  | nil => rfl
  | cons e l ih =>
    obtain ⟨a, v⟩ := e
    by_cases ha : a = k
    · subst ha; simpa using ih
    · simp only [ne_eq, ha, not_false_eq_true, decide_true, List.filter_cons_of_pos, regFind, if_neg] at ih ⊢; exact ih

theorem regFind_ins_ne (d : α) (k j : Nat) (v : α) (h : j ≠ k) (l : List (Nat × α)) : regFind d (regIns k v l) j = regFind d l j := by
  induction l with
  | nil => simp [regIns, regFind, Ne.symm h]
  | cons e l ih =>
    obtain ⟨a, b⟩ := e
    simp only [regIns]
    split
    · simp [regFind, Ne.symm h]
    · simp only [regFind, ih]

theorem regFind_ins_self (d : α) (k : Nat) (v : α) (l : List (Nat × α)) (h : ∀ e ∈ l, e.1 ≠ k) : regFind d (regIns k v l) k = v := by
  induction l with
  | nil => simp [regIns, regFind]
  | cons e l ih =>
    obtain ⟨a, b⟩ := e
    have ha : a ≠ k := h (a, b) (by simp)
    simp only [regIns]
    split
    · simp [regFind]
    · simp only [regFind, if_neg ha]; exact ih fun e he => h e (by simp [he])

/-- A write leaves every other key alone. -/
theorem regFind_put_ne [DecidableEq α] (d d' : α) (k j : Nat) (v : α) (h : j ≠ k) (l : List (Nat × α)) :
    regFind d (regPut d' k v l) j = regFind d l j := by
  unfold regPut
  split
  · exact regFind_filter_ne d k j h l
  · rw [regFind_ins_ne d k j v h, regFind_filter_ne d k j h]

/-- A read after a write to the same key gives the value written. -/
theorem regFind_put_self [DecidableEq α] (d : α) (k : Nat) (v : α) (l : List (Nat × α)) : regFind d (regPut d k v l) k = v := by
  unfold regPut
  split
  · next h => rw [regFind_filter_self, h]
  · exact regFind_ins_self d k v _ fun e he => by simpa using (List.mem_filter.mp he).2

/-- The first key of a list lies above `a`. -/
def Above (a : Nat) (l : List (Nat × α)) : Prop := ∀ e ∈ l.head?, a < e.1

theorem sparseWf_cons [DecidableEq α] {d : Nat → α} {a : Nat} {v : α} {l : List (Nat × α)} :
    sparseWf d ((a, v) :: l) = true ↔ v ≠ d a ∧ Above a l ∧ sparseWf d l = true := by
  cases l with
  | nil => simp [sparseWf, Above]
  | cons e l => obtain ⟨b, w⟩ := e; simp [sparseWf, Above, and_assoc]

theorem above_all [DecidableEq α] {d : Nat → α} {a : Nat} {l : List (Nat × α)} (h : sparseWf d l = true) (ha : Above a l) :
    ∀ e ∈ l, a < e.1 := by
  induction l generalizing a with
  | nil => simp
  | cons e l ih =>
    obtain ⟨b, w⟩ := e
    have hb := sparseWf_cons.mp h
    have hab : a < b := ha (b, w) (by simp)
    intro e he
    rcases List.mem_cons.mp he with rfl | he
    · exact hab
    · exact Nat.lt_trans hab (ih hb.2.2 hb.2.1 e he)

theorem above_filter [DecidableEq α] {d : Nat → α} {a : Nat} {l : List (Nat × α)} (p : Nat × α → Bool) (h : sparseWf d l = true)
    (ha : Above a l) : Above a (l.filter p) := fun e he =>
  above_all h ha e ((List.mem_filter.mp (List.mem_of_mem_head? he)).1)

/-- Dropping entries keeps the canonical form. -/
theorem sparseWf_filter [DecidableEq α] {d : Nat → α} (p : Nat × α → Bool) {l : List (Nat × α)} (h : sparseWf d l = true) :
    sparseWf d (l.filter p) = true := by
  induction l with
  | nil => exact h
  | cons e l ih =>
    obtain ⟨a, v⟩ := e
    have hc := sparseWf_cons.mp h
    by_cases hp : p (a, v) = true
    · rw [List.filter_cons_of_pos hp]
      exact sparseWf_cons.mpr ⟨hc.1, above_filter p hc.2.2 hc.2.1, ih hc.2.2⟩
    · rw [List.filter_cons_of_neg hp]; exact ih hc.2.2

theorem sparseWf_ins [DecidableEq α] {d : Nat → α} {k : Nat} {v : α} (hv : v ≠ d k) {l : List (Nat × α)} (hl : ∀ e ∈ l, e.1 ≠ k)
    (h : sparseWf d l = true) : sparseWf d (regIns k v l) = true := by
  induction l with
  | nil => exact sparseWf_cons.mpr ⟨hv, by simp [Above], rfl⟩
  | cons e l ih =>
    obtain ⟨a, b⟩ := e
    have hc := sparseWf_cons.mp h
    have hak : a ≠ k := hl (a, b) (by simp)
    simp only [regIns]
    split
    · next hk => exact sparseWf_cons.mpr ⟨hv, by simpa [Above] using hk, h⟩
    · next hk =>
      refine sparseWf_cons.mpr ⟨hc.1, ?_, ih (fun e he => hl e (by simp [he])) hc.2.2⟩
      cases l with
      | nil => simp [regIns, Above]; omega
      | cons e l =>
        obtain ⟨c, w⟩ := e
        have := hc.2.1 (c, w) (by simp)
        simp only [regIns]
        split <;> simp [Above] <;> omega

/-- A write keeps the canonical form. -/
theorem sparseWf_put [DecidableEq α] {d : Nat → α} (k : Nat) (v : α) {l : List (Nat × α)} (h : sparseWf d l = true) :
    sparseWf d (regPut (d k) k v l) = true := by
  unfold regPut
  split
  · exact sparseWf_filter _ h
  · next hv => exact sparseWf_ins hv (fun e he => by simpa using (List.mem_filter.mp he).2) (sparseWf_filter _ h)

/-- Every write to HOST keeps its canonical form. -/
theorem memory_wf_put (a : Nat) (v : BitVec 8) {m : List Host.Cell} (h : Memory.wf m = true) : Memory.wf (Memory.put a v m) = true :=
  sparseWf_put (d := fun _ => Memory.blank) a v h

theorem memory_wf_write (bs : List Nat) (a : Nat) {m : List Host.Cell} (h : Memory.wf m = true) :
    Memory.wf (Memory.write bs a m) = true := by
  induction bs generalizing a m with
  | nil => exact h
  | cons b t ih => exact ih (a + 1) (memory_wf_put a _ h)

theorem memory_get_put_self (a : Nat) (v : BitVec 8) (m : List Host.Cell) : Memory.get (Memory.put a v m) a = v :=
  regFind_put_self _ a v m

theorem memory_get_put_ne {a b : Nat} (v : BitVec 8) (h : b ≠ a) (m : List Host.Cell) : Memory.get (Memory.put a v m) b = Memory.get m b :=
  regFind_put_ne _ _ a b v h m

/-- A write of several bytes leaves the bytes outside it alone. -/
theorem memory_get_write_ne (bs : List Nat) (a b : Nat) (m : List Host.Cell) (h : b < a ∨ a + bs.length ≤ b) :
    Memory.get (Memory.write bs a m) b = Memory.get m b := by
  induction bs generalizing a m with
  | nil => rfl
  | cons c t ih =>
    simp only [List.length_cons] at h
    rw [Memory.write, ih (a + 1) _ (by omega), memory_get_put_ne _ (by omega)]

end Sys2Proof.Laws
end

