-- ==== Sys2Proof/Laws/Within.lean ====
section
/-!
SUPPORT. What an operation may touch, said once for each: `Within m s t` says that `t` comes from `s` by changing at most the parts of the
state and the register windows that the mask `m` names, that nothing which has left the block is taken back, and that the register
list and the HOST region keep their canonical form. Bits 0 to 23 of a mask are the parts in State's order, bit 24 the bytes of HOST, bit 32 + w is register window w
(R573). Each operation has one lemma `<operation>_within`; `Within.step` puts them together.
-/
namespace Sys2Proof.Laws

open Sys2Proof.Machine

/-- The register window a key lies in (R573). -/
def windowOf (k : Nat) : Nat := k / 2097152 % 256

structure Within (m : Nat) (s t : State) : Prop where
  pending : t.pending = s.pending
  variant : t.variant = s.variant
  out : s.out <+: t.out
  wf : s.wf → t.wf
  host : Memory.wf s.hay.host = true → Memory.wf t.hay.host = true
  bytes : m.testBit 24 = false → t.hay.host = s.hay.host
  regs : ∀ k, m.testBit (32 + windowOf k) = false → regFind (resetOf k) t.regs k = regFind (resetOf k) s.regs k
  chrono : m.testBit 0 = false → t.chrono = s.chrono
  free : m.testBit 1 = false → t.free = s.free
  pdk : m.testBit 2 = false → t.pdk = s.pdk
  slk : m.testBit 3 = false → t.slk = s.slk
  wlk : m.testBit 4 = false → t.wlk = s.wlk
  haltS : m.testBit 5 = false → t.haltS = s.haltS
  stallRec : m.testBit 6 = false → t.stallRec = s.stallRec
  types : m.testBit 7 = false → t.types = s.types
  runSeq : m.testBit 8 = false → t.runSeq = s.runSeq
  hlt : m.testBit 9 = false → t.hlt = s.hlt
  yms : m.testBit 10 = false → t.yms = s.yms
  hrn : m.testBit 11 = false → t.hrn = s.hrn
  aux : m.testBit 12 = false → t.aux = s.aux
  lsw : m.testBit 13 = false → t.lsw = s.lsw
  rel : m.testBit 14 = false → t.rel = s.rel
  wbg : m.testBit 15 = false → t.wbg = s.wbg
  bil : m.testBit 16 = false → t.bil = s.bil
  dro : m.testBit 17 = false → t.dro = s.dro
  can : m.testBit 18 = false → t.can = s.can
  hay : m.testBit 19 = false → t.hay = s.hay
  lan : m.testBit 20 = false → t.lan = s.lan
  tck : m.testBit 21 = false → t.tck = s.tck
  pwr : m.testBit 22 = false → t.pwr = s.pwr
  startNum : m.testBit 23 = false → t.startNum = s.startNum

theorem Within.refl (m : Nat) (s : State) : Within m s s where
  pending := rfl
  variant := rfl
  out := List.prefix_refl _
  wf h := h
  host h := h
  bytes _ := rfl
  regs _ _ := rfl
  chrono _ := rfl
  free _ := rfl
  pdk _ := rfl
  slk _ := rfl
  wlk _ := rfl
  haltS _ := rfl
  stallRec _ := rfl
  types _ := rfl
  runSeq _ := rfl
  hlt _ := rfl
  yms _ := rfl
  hrn _ := rfl
  aux _ := rfl
  lsw _ := rfl
  rel _ := rfl
  wbg _ := rfl
  bil _ := rfl
  dro _ := rfl
  can _ := rfl
  hay _ := rfl
  lan _ := rfl
  tck _ := rfl
  pwr _ := rfl
  startNum _ := rfl

theorem mask_sub {m c i : Nat} (h : m ||| c = c) (hc : c.testBit i = false) : m.testBit i = false := by
  have : (m ||| c).testBit i = false := by rw [h]; exact hc
  rw [Nat.testBit_or] at this
  exact (Bool.or_eq_false_iff.mp this).1

/-- One more operation, inside the same mask. -/
theorem Within.step {m c : Nat} {s t u : State} (h1 : Within m t u) (h0 : Within c s t) (hm : m ||| c = c) :
    Within c s u where
  pending := h1.pending.trans h0.pending
  variant := h1.variant.trans h0.variant
  out := h0.out.trans h1.out
  wf h := h1.wf (h0.wf h)
  host h := h1.host (h0.host h)
  bytes h := (h1.bytes (mask_sub hm h)).trans (h0.bytes h)
  regs k hk := (h1.regs k (mask_sub hm hk)).trans (h0.regs k hk)
  chrono h := (h1.chrono (mask_sub hm h)).trans (h0.chrono h)
  free h := (h1.free (mask_sub hm h)).trans (h0.free h)
  pdk h := (h1.pdk (mask_sub hm h)).trans (h0.pdk h)
  slk h := (h1.slk (mask_sub hm h)).trans (h0.slk h)
  wlk h := (h1.wlk (mask_sub hm h)).trans (h0.wlk h)
  haltS h := (h1.haltS (mask_sub hm h)).trans (h0.haltS h)
  stallRec h := (h1.stallRec (mask_sub hm h)).trans (h0.stallRec h)
  types h := (h1.types (mask_sub hm h)).trans (h0.types h)
  runSeq h := (h1.runSeq (mask_sub hm h)).trans (h0.runSeq h)
  hlt h := (h1.hlt (mask_sub hm h)).trans (h0.hlt h)
  yms h := (h1.yms (mask_sub hm h)).trans (h0.yms h)
  hrn h := (h1.hrn (mask_sub hm h)).trans (h0.hrn h)
  aux h := (h1.aux (mask_sub hm h)).trans (h0.aux h)
  lsw h := (h1.lsw (mask_sub hm h)).trans (h0.lsw h)
  rel h := (h1.rel (mask_sub hm h)).trans (h0.rel h)
  wbg h := (h1.wbg (mask_sub hm h)).trans (h0.wbg h)
  bil h := (h1.bil (mask_sub hm h)).trans (h0.bil h)
  dro h := (h1.dro (mask_sub hm h)).trans (h0.dro h)
  can h := (h1.can (mask_sub hm h)).trans (h0.can h)
  hay h := (h1.hay (mask_sub hm h)).trans (h0.hay h)
  lan h := (h1.lan (mask_sub hm h)).trans (h0.lan h)
  tck h := (h1.tck (mask_sub hm h)).trans (h0.tck h)
  pwr h := (h1.pwr (mask_sub hm h)).trans (h0.pwr h)
  startNum h := (h1.startNum (mask_sub hm h)).trans (h0.startNum h)

theorem Within.ite {m : Nat} {s a b : State} {c : Prop} [Decidable c] (ha : Within m s a) (hb : Within m s b) :
    Within m s (if c then a else b) := by
  split
  · exact ha
  · exact hb

theorem Within.ite2 {α : Type} {m : Nat} {s : State} {a b : α × State} {c : Prop} [Decidable c] (ha : Within m s a.2) (hb : Within m s b.2) :
    Within m s (if c then a else b).2 := by
  split
  · exact ha
  · exact hb

theorem Within.cut {m : Nat} {s x : State} {G : Prop} (hx : Within m s x) (h : Within m s x → G) : G := h hx

theorem Within.foldl {α : Type} {m : Nat} {s : State} {f : State → α → State} (l : List α) {t : State}
    (hf : ∀ a u, Within m s u → Within m s (f u a)) (h : Within m s t) : Within m s (l.foldl f t) := by
  induction l generalizing t with
  | nil => exact h
  | cons a l ih => exact ih (hf a t h)

theorem Within.foldl2 {α β : Type} {m : Nat} {s : State} {f : β × State → α → β × State} (l : List α) {t : β × State}
    (hf : ∀ a u, Within m s u.2 → Within m s (f u a).2) (h : Within m s t.2) : Within m s (l.foldl f t).2 := by
  induction l generalizing t with
  | nil => exact h
  | cons a l ih => exact ih (hf a t h)

theorem Within.forAll {m : Nat} {s : State} {l : List Nat} {f : Nat → State → State} {t : State}
    (hf : ∀ i u, Within m s u → Within m s (f i u)) (h : Within m s t) : Within m s (forAll l f t) :=
  Within.foldl l (fun a u hu => hf a u hu) h

theorem Within.chronoUpd {s : State} {e} : Within (2 ^ 0) s { s with chrono := e } where
  pending := rfl
  variant := rfl
  out := List.prefix_refl _
  wf h := h
  host h := h
  bytes _ := rfl
  regs _ _ := rfl
  chrono h := absurd h (by decide)
  free _ := rfl
  pdk _ := rfl
  slk _ := rfl
  wlk _ := rfl
  haltS _ := rfl
  stallRec _ := rfl
  types _ := rfl
  runSeq _ := rfl
  hlt _ := rfl
  yms _ := rfl
  hrn _ := rfl
  aux _ := rfl
  lsw _ := rfl
  rel _ := rfl
  wbg _ := rfl
  bil _ := rfl
  dro _ := rfl
  can _ := rfl
  hay _ := rfl
  lan _ := rfl
  tck _ := rfl
  pwr _ := rfl
  startNum _ := rfl

theorem Within.freeUpd {s : State} {e} : Within (2 ^ 1) s { s with free := e } where
  pending := rfl
  variant := rfl
  out := List.prefix_refl _
  wf h := h
  host h := h
  bytes _ := rfl
  regs _ _ := rfl
  chrono _ := rfl
  free h := absurd h (by decide)
  pdk _ := rfl
  slk _ := rfl
  wlk _ := rfl
  haltS _ := rfl
  stallRec _ := rfl
  types _ := rfl
  runSeq _ := rfl
  hlt _ := rfl
  yms _ := rfl
  hrn _ := rfl
  aux _ := rfl
  lsw _ := rfl
  rel _ := rfl
  wbg _ := rfl
  bil _ := rfl
  dro _ := rfl
  can _ := rfl
  hay _ := rfl
  lan _ := rfl
  tck _ := rfl
  pwr _ := rfl
  startNum _ := rfl

theorem Within.pdkUpd {s : State} {e} : Within (2 ^ 2) s { s with pdk := e } where
  pending := rfl
  variant := rfl
  out := List.prefix_refl _
  wf h := h
  host h := h
  bytes _ := rfl
  regs _ _ := rfl
  chrono _ := rfl
  free _ := rfl
  pdk h := absurd h (by decide)
  slk _ := rfl
  wlk _ := rfl
  haltS _ := rfl
  stallRec _ := rfl
  types _ := rfl
  runSeq _ := rfl
  hlt _ := rfl
  yms _ := rfl
  hrn _ := rfl
  aux _ := rfl
  lsw _ := rfl
  rel _ := rfl
  wbg _ := rfl
  bil _ := rfl
  dro _ := rfl
  can _ := rfl
  hay _ := rfl
  lan _ := rfl
  tck _ := rfl
  pwr _ := rfl
  startNum _ := rfl

theorem Within.slkUpd {s : State} {e} : Within (2 ^ 3) s { s with slk := e } where
  pending := rfl
  variant := rfl
  out := List.prefix_refl _
  wf h := h
  host h := h
  bytes _ := rfl
  regs _ _ := rfl
  chrono _ := rfl
  free _ := rfl
  pdk _ := rfl
  slk h := absurd h (by decide)
  wlk _ := rfl
  haltS _ := rfl
  stallRec _ := rfl
  types _ := rfl
  runSeq _ := rfl
  hlt _ := rfl
  yms _ := rfl
  hrn _ := rfl
  aux _ := rfl
  lsw _ := rfl
  rel _ := rfl
  wbg _ := rfl
  bil _ := rfl
  dro _ := rfl
  can _ := rfl
  hay _ := rfl
  lan _ := rfl
  tck _ := rfl
  pwr _ := rfl
  startNum _ := rfl

theorem Within.wlkUpd {s : State} {e} : Within (2 ^ 4) s { s with wlk := e } where
  pending := rfl
  variant := rfl
  out := List.prefix_refl _
  wf h := h
  host h := h
  bytes _ := rfl
  regs _ _ := rfl
  chrono _ := rfl
  free _ := rfl
  pdk _ := rfl
  slk _ := rfl
  wlk h := absurd h (by decide)
  haltS _ := rfl
  stallRec _ := rfl
  types _ := rfl
  runSeq _ := rfl
  hlt _ := rfl
  yms _ := rfl
  hrn _ := rfl
  aux _ := rfl
  lsw _ := rfl
  rel _ := rfl
  wbg _ := rfl
  bil _ := rfl
  dro _ := rfl
  can _ := rfl
  hay _ := rfl
  lan _ := rfl
  tck _ := rfl
  pwr _ := rfl
  startNum _ := rfl

theorem Within.haltSUpd {s : State} {e} : Within (2 ^ 5) s { s with haltS := e } where
  pending := rfl
  variant := rfl
  out := List.prefix_refl _
  wf h := h
  host h := h
  bytes _ := rfl
  regs _ _ := rfl
  chrono _ := rfl
  free _ := rfl
  pdk _ := rfl
  slk _ := rfl
  wlk _ := rfl
  haltS h := absurd h (by decide)
  stallRec _ := rfl
  types _ := rfl
  runSeq _ := rfl
  hlt _ := rfl
  yms _ := rfl
  hrn _ := rfl
  aux _ := rfl
  lsw _ := rfl
  rel _ := rfl
  wbg _ := rfl
  bil _ := rfl
  dro _ := rfl
  can _ := rfl
  hay _ := rfl
  lan _ := rfl
  tck _ := rfl
  pwr _ := rfl
  startNum _ := rfl

theorem Within.stallRecUpd {s : State} {e} : Within (2 ^ 6) s { s with stallRec := e } where
  pending := rfl
  variant := rfl
  out := List.prefix_refl _
  wf h := h
  host h := h
  bytes _ := rfl
  regs _ _ := rfl
  chrono _ := rfl
  free _ := rfl
  pdk _ := rfl
  slk _ := rfl
  wlk _ := rfl
  haltS _ := rfl
  stallRec h := absurd h (by decide)
  types _ := rfl
  runSeq _ := rfl
  hlt _ := rfl
  yms _ := rfl
  hrn _ := rfl
  aux _ := rfl
  lsw _ := rfl
  rel _ := rfl
  wbg _ := rfl
  bil _ := rfl
  dro _ := rfl
  can _ := rfl
  hay _ := rfl
  lan _ := rfl
  tck _ := rfl
  pwr _ := rfl
  startNum _ := rfl

theorem Within.typesUpd {s : State} {e} : Within (2 ^ 7) s { s with types := e } where
  pending := rfl
  variant := rfl
  out := List.prefix_refl _
  wf h := h
  host h := h
  bytes _ := rfl
  regs _ _ := rfl
  chrono _ := rfl
  free _ := rfl
  pdk _ := rfl
  slk _ := rfl
  wlk _ := rfl
  haltS _ := rfl
  stallRec _ := rfl
  types h := absurd h (by decide)
  runSeq _ := rfl
  hlt _ := rfl
  yms _ := rfl
  hrn _ := rfl
  aux _ := rfl
  lsw _ := rfl
  rel _ := rfl
  wbg _ := rfl
  bil _ := rfl
  dro _ := rfl
  can _ := rfl
  hay _ := rfl
  lan _ := rfl
  tck _ := rfl
  pwr _ := rfl
  startNum _ := rfl

theorem Within.runSeqUpd {s : State} {e} : Within (2 ^ 8) s { s with runSeq := e } where
  pending := rfl
  variant := rfl
  out := List.prefix_refl _
  wf h := h
  host h := h
  bytes _ := rfl
  regs _ _ := rfl
  chrono _ := rfl
  free _ := rfl
  pdk _ := rfl
  slk _ := rfl
  wlk _ := rfl
  haltS _ := rfl
  stallRec _ := rfl
  types _ := rfl
  runSeq h := absurd h (by decide)
  hlt _ := rfl
  yms _ := rfl
  hrn _ := rfl
  aux _ := rfl
  lsw _ := rfl
  rel _ := rfl
  wbg _ := rfl
  bil _ := rfl
  dro _ := rfl
  can _ := rfl
  hay _ := rfl
  lan _ := rfl
  tck _ := rfl
  pwr _ := rfl
  startNum _ := rfl

theorem Within.hltUpd {s : State} {e} : Within (2 ^ 9) s { s with hlt := e } where
  pending := rfl
  variant := rfl
  out := List.prefix_refl _
  wf h := h
  host h := h
  bytes _ := rfl
  regs _ _ := rfl
  chrono _ := rfl
  free _ := rfl
  pdk _ := rfl
  slk _ := rfl
  wlk _ := rfl
  haltS _ := rfl
  stallRec _ := rfl
  types _ := rfl
  runSeq _ := rfl
  hlt h := absurd h (by decide)
  yms _ := rfl
  hrn _ := rfl
  aux _ := rfl
  lsw _ := rfl
  rel _ := rfl
  wbg _ := rfl
  bil _ := rfl
  dro _ := rfl
  can _ := rfl
  hay _ := rfl
  lan _ := rfl
  tck _ := rfl
  pwr _ := rfl
  startNum _ := rfl

theorem Within.ymsUpd {s : State} {e} : Within (2 ^ 10) s { s with yms := e } where
  pending := rfl
  variant := rfl
  out := List.prefix_refl _
  wf h := h
  host h := h
  bytes _ := rfl
  regs _ _ := rfl
  chrono _ := rfl
  free _ := rfl
  pdk _ := rfl
  slk _ := rfl
  wlk _ := rfl
  haltS _ := rfl
  stallRec _ := rfl
  types _ := rfl
  runSeq _ := rfl
  hlt _ := rfl
  yms h := absurd h (by decide)
  hrn _ := rfl
  aux _ := rfl
  lsw _ := rfl
  rel _ := rfl
  wbg _ := rfl
  bil _ := rfl
  dro _ := rfl
  can _ := rfl
  hay _ := rfl
  lan _ := rfl
  tck _ := rfl
  pwr _ := rfl
  startNum _ := rfl

theorem Within.hrnUpd {s : State} {e} : Within (2 ^ 11) s { s with hrn := e } where
  pending := rfl
  variant := rfl
  out := List.prefix_refl _
  wf h := h
  host h := h
  bytes _ := rfl
  regs _ _ := rfl
  chrono _ := rfl
  free _ := rfl
  pdk _ := rfl
  slk _ := rfl
  wlk _ := rfl
  haltS _ := rfl
  stallRec _ := rfl
  types _ := rfl
  runSeq _ := rfl
  hlt _ := rfl
  yms _ := rfl
  hrn h := absurd h (by decide)
  aux _ := rfl
  lsw _ := rfl
  rel _ := rfl
  wbg _ := rfl
  bil _ := rfl
  dro _ := rfl
  can _ := rfl
  hay _ := rfl
  lan _ := rfl
  tck _ := rfl
  pwr _ := rfl
  startNum _ := rfl

theorem Within.auxUpd {s : State} {e} : Within (2 ^ 12) s { s with aux := e } where
  pending := rfl
  variant := rfl
  out := List.prefix_refl _
  wf h := h
  host h := h
  bytes _ := rfl
  regs _ _ := rfl
  chrono _ := rfl
  free _ := rfl
  pdk _ := rfl
  slk _ := rfl
  wlk _ := rfl
  haltS _ := rfl
  stallRec _ := rfl
  types _ := rfl
  runSeq _ := rfl
  hlt _ := rfl
  yms _ := rfl
  hrn _ := rfl
  aux h := absurd h (by decide)
  lsw _ := rfl
  rel _ := rfl
  wbg _ := rfl
  bil _ := rfl
  dro _ := rfl
  can _ := rfl
  hay _ := rfl
  lan _ := rfl
  tck _ := rfl
  pwr _ := rfl
  startNum _ := rfl

theorem Within.lswUpd {s : State} {e} : Within (2 ^ 13) s { s with lsw := e } where
  pending := rfl
  variant := rfl
  out := List.prefix_refl _
  wf h := h
  host h := h
  bytes _ := rfl
  regs _ _ := rfl
  chrono _ := rfl
  free _ := rfl
  pdk _ := rfl
  slk _ := rfl
  wlk _ := rfl
  haltS _ := rfl
  stallRec _ := rfl
  types _ := rfl
  runSeq _ := rfl
  hlt _ := rfl
  yms _ := rfl
  hrn _ := rfl
  aux _ := rfl
  lsw h := absurd h (by decide)
  rel _ := rfl
  wbg _ := rfl
  bil _ := rfl
  dro _ := rfl
  can _ := rfl
  hay _ := rfl
  lan _ := rfl
  tck _ := rfl
  pwr _ := rfl
  startNum _ := rfl

theorem Within.relUpd {s : State} {e} : Within (2 ^ 14) s { s with rel := e } where
  pending := rfl
  variant := rfl
  out := List.prefix_refl _
  wf h := h
  host h := h
  bytes _ := rfl
  regs _ _ := rfl
  chrono _ := rfl
  free _ := rfl
  pdk _ := rfl
  slk _ := rfl
  wlk _ := rfl
  haltS _ := rfl
  stallRec _ := rfl
  types _ := rfl
  runSeq _ := rfl
  hlt _ := rfl
  yms _ := rfl
  hrn _ := rfl
  aux _ := rfl
  lsw _ := rfl
  rel h := absurd h (by decide)
  wbg _ := rfl
  bil _ := rfl
  dro _ := rfl
  can _ := rfl
  hay _ := rfl
  lan _ := rfl
  tck _ := rfl
  pwr _ := rfl
  startNum _ := rfl

theorem Within.wbgUpd {s : State} {e} : Within (2 ^ 15) s { s with wbg := e } where
  pending := rfl
  variant := rfl
  out := List.prefix_refl _
  wf h := h
  host h := h
  bytes _ := rfl
  regs _ _ := rfl
  chrono _ := rfl
  free _ := rfl
  pdk _ := rfl
  slk _ := rfl
  wlk _ := rfl
  haltS _ := rfl
  stallRec _ := rfl
  types _ := rfl
  runSeq _ := rfl
  hlt _ := rfl
  yms _ := rfl
  hrn _ := rfl
  aux _ := rfl
  lsw _ := rfl
  rel _ := rfl
  wbg h := absurd h (by decide)
  bil _ := rfl
  dro _ := rfl
  can _ := rfl
  hay _ := rfl
  lan _ := rfl
  tck _ := rfl
  pwr _ := rfl
  startNum _ := rfl

theorem Within.bilUpd {s : State} {e} : Within (2 ^ 16) s { s with bil := e } where
  pending := rfl
  variant := rfl
  out := List.prefix_refl _
  wf h := h
  host h := h
  bytes _ := rfl
  regs _ _ := rfl
  chrono _ := rfl
  free _ := rfl
  pdk _ := rfl
  slk _ := rfl
  wlk _ := rfl
  haltS _ := rfl
  stallRec _ := rfl
  types _ := rfl
  runSeq _ := rfl
  hlt _ := rfl
  yms _ := rfl
  hrn _ := rfl
  aux _ := rfl
  lsw _ := rfl
  rel _ := rfl
  wbg _ := rfl
  bil h := absurd h (by decide)
  dro _ := rfl
  can _ := rfl
  hay _ := rfl
  lan _ := rfl
  tck _ := rfl
  pwr _ := rfl
  startNum _ := rfl

theorem Within.droUpd {s : State} {e} : Within (2 ^ 17) s { s with dro := e } where
  pending := rfl
  variant := rfl
  out := List.prefix_refl _
  wf h := h
  host h := h
  bytes _ := rfl
  regs _ _ := rfl
  chrono _ := rfl
  free _ := rfl
  pdk _ := rfl
  slk _ := rfl
  wlk _ := rfl
  haltS _ := rfl
  stallRec _ := rfl
  types _ := rfl
  runSeq _ := rfl
  hlt _ := rfl
  yms _ := rfl
  hrn _ := rfl
  aux _ := rfl
  lsw _ := rfl
  rel _ := rfl
  wbg _ := rfl
  bil _ := rfl
  dro h := absurd h (by decide)
  can _ := rfl
  hay _ := rfl
  lan _ := rfl
  tck _ := rfl
  pwr _ := rfl
  startNum _ := rfl

theorem Within.canUpd {s : State} {e} : Within (2 ^ 18) s { s with can := e } where
  pending := rfl
  variant := rfl
  out := List.prefix_refl _
  wf h := h
  host h := h
  bytes _ := rfl
  regs _ _ := rfl
  chrono _ := rfl
  free _ := rfl
  pdk _ := rfl
  slk _ := rfl
  wlk _ := rfl
  haltS _ := rfl
  stallRec _ := rfl
  types _ := rfl
  runSeq _ := rfl
  hlt _ := rfl
  yms _ := rfl
  hrn _ := rfl
  aux _ := rfl
  lsw _ := rfl
  rel _ := rfl
  wbg _ := rfl
  bil _ := rfl
  dro _ := rfl
  can h := absurd h (by decide)
  hay _ := rfl
  lan _ := rfl
  tck _ := rfl
  pwr _ := rfl
  startNum _ := rfl

theorem Within.hayUpd {s : State} {e : Hay} (he : e.host = s.hay.host := by rfl) : Within (2 ^ 19) s { s with hay := e } where
  pending := rfl
  variant := rfl
  out := List.prefix_refl _
  wf h := h
  host h := by rw [show ({ s with hay := e } : State).hay.host = s.hay.host from he]; exact h
  bytes _ := he
  regs _ _ := rfl
  chrono _ := rfl
  free _ := rfl
  pdk _ := rfl
  slk _ := rfl
  wlk _ := rfl
  haltS _ := rfl
  stallRec _ := rfl
  types _ := rfl
  runSeq _ := rfl
  hlt _ := rfl
  yms _ := rfl
  hrn _ := rfl
  aux _ := rfl
  lsw _ := rfl
  rel _ := rfl
  wbg _ := rfl
  bil _ := rfl
  dro _ := rfl
  can _ := rfl
  hay h := absurd h (by decide)
  lan _ := rfl
  tck _ := rfl
  pwr _ := rfl
  startNum _ := rfl

theorem Within.lanUpd {s : State} {e} : Within (2 ^ 20) s { s with lan := e } where
  pending := rfl
  variant := rfl
  out := List.prefix_refl _
  wf h := h
  host h := h
  bytes _ := rfl
  regs _ _ := rfl
  chrono _ := rfl
  free _ := rfl
  pdk _ := rfl
  slk _ := rfl
  wlk _ := rfl
  haltS _ := rfl
  stallRec _ := rfl
  types _ := rfl
  runSeq _ := rfl
  hlt _ := rfl
  yms _ := rfl
  hrn _ := rfl
  aux _ := rfl
  lsw _ := rfl
  rel _ := rfl
  wbg _ := rfl
  bil _ := rfl
  dro _ := rfl
  can _ := rfl
  hay _ := rfl
  lan h := absurd h (by decide)
  tck _ := rfl
  pwr _ := rfl
  startNum _ := rfl

theorem Within.tckUpd {s : State} {e} : Within (2 ^ 21) s { s with tck := e } where
  pending := rfl
  variant := rfl
  out := List.prefix_refl _
  wf h := h
  host h := h
  bytes _ := rfl
  regs _ _ := rfl
  chrono _ := rfl
  free _ := rfl
  pdk _ := rfl
  slk _ := rfl
  wlk _ := rfl
  haltS _ := rfl
  stallRec _ := rfl
  types _ := rfl
  runSeq _ := rfl
  hlt _ := rfl
  yms _ := rfl
  hrn _ := rfl
  aux _ := rfl
  lsw _ := rfl
  rel _ := rfl
  wbg _ := rfl
  bil _ := rfl
  dro _ := rfl
  can _ := rfl
  hay _ := rfl
  lan _ := rfl
  tck h := absurd h (by decide)
  pwr _ := rfl
  startNum _ := rfl

theorem Within.pwrUpd {s : State} {e} : Within (2 ^ 22) s { s with pwr := e } where
  pending := rfl
  variant := rfl
  out := List.prefix_refl _
  wf h := h
  host h := h
  bytes _ := rfl
  regs _ _ := rfl
  chrono _ := rfl
  free _ := rfl
  pdk _ := rfl
  slk _ := rfl
  wlk _ := rfl
  haltS _ := rfl
  stallRec _ := rfl
  types _ := rfl
  runSeq _ := rfl
  hlt _ := rfl
  yms _ := rfl
  hrn _ := rfl
  aux _ := rfl
  lsw _ := rfl
  rel _ := rfl
  wbg _ := rfl
  bil _ := rfl
  dro _ := rfl
  can _ := rfl
  hay _ := rfl
  lan _ := rfl
  tck _ := rfl
  pwr h := absurd h (by decide)
  startNum _ := rfl

theorem Within.startNumUpd {s : State} {e} : Within (2 ^ 23) s { s with startNum := e } where
  pending := rfl
  variant := rfl
  out := List.prefix_refl _
  wf h := h
  host h := h
  bytes _ := rfl
  regs _ _ := rfl
  chrono _ := rfl
  free _ := rfl
  pdk _ := rfl
  slk _ := rfl
  wlk _ := rfl
  haltS _ := rfl
  stallRec _ := rfl
  types _ := rfl
  runSeq _ := rfl
  hlt _ := rfl
  yms _ := rfl
  hrn _ := rfl
  aux _ := rfl
  lsw _ := rfl
  rel _ := rfl
  wbg _ := rfl
  bil _ := rfl
  dro _ := rfl
  can _ := rfl
  hay _ := rfl
  lan _ := rfl
  tck _ := rfl
  pwr _ := rfl
  startNum h := absurd h (by decide)

end Sys2Proof.Laws
end

