-- ==== Sys2Proof/Laws/WithinOps.lean ====
section
/-!
SUPPORT. What the shared operations of Machine/Ops.lean may touch.
-/
namespace Sys2Proof.Laws

open Sys2Proof.Machine

theorem windowOf_key (f : Fld) : windowOf f.key = f.win % 256 := by
  unfold windowOf Fld.key Fld.off; omega

theorem set_within {m : Nat} (s : State) (f : Fld) (v : Nat) (hm : m.testBit (32 + f.win % 256) = true := by rfl) :
    Within m s (s.set f v) where
  pending := rfl
  variant := rfl
  out := List.prefix_refl _
  wf h := sparseWf_put _ _ h
  host h := h
  bytes _ := rfl
  regs k hk := by
    have hne : k ≠ f.key := by
      intro h; subst h; rw [windowOf_key, hm] at hk; cases hk
    exact regFind_put_ne _ _ _ _ _ hne _
  chrono _ := rfl
  free _ := rfl
  pdk _ := rfl
  slk _ := rfl
  wlk _ := rfl
  haltS _ := rfl
  stallRec _ := rfl
  types _ := rfl
  runSeq _ := rfl
  hlt _ := rfl
  yms _ := rfl
  hrn _ := rfl
  aux _ := rfl
  lsw _ := rfl
  rel _ := rfl
  wbg _ := rfl
  bil _ := rfl
  dro _ := rfl
  can _ := rfl
  hay _ := rfl
  lan _ := rfl
  tck _ := rfl
  pwr _ := rfl
  startNum _ := rfl

theorem Within.set {m : Nat} {s t : State} {f : Fld} {v : Nat} (w : Nat) (h : Within m s t) (hw : f.win = w)
    (hm : m.testBit (32 + w % 256) = true) : Within m s (t.set f v) := (set_within t f _ (hw ▸ hm)).step h (Nat.or_self m)
theorem Within.setB {m : Nat} {s t : State} {f : Fld} {b : Bool} (w : Nat) (h : Within m s t) (hw : f.win = w)
    (hm : m.testBit (32 + w % 256) = true) : Within m s (t.setB f b) := (set_within t f _ (hw ▸ hm)).step h (Nat.or_self m)
theorem Within.inc {m : Nat} {s t : State} {f : Fld}  (w : Nat) (h : Within m s t) (hw : f.win = w)
    (hm : m.testBit (32 + w % 256) = true) : Within m s (t.inc f) := (set_within t f _ (hw ▸ hm)).step h (Nat.or_self m)
theorem Within.addSat {m : Nat} {s t : State} {f : Fld} {n : Nat} (w : Nat) (h : Within m s t) (hw : f.win = w)
    (hm : m.testBit (32 + w % 256) = true) : Within m s (t.addSat f n) := (set_within t f _ (hw ▸ hm)).step h (Nat.or_self m)
theorem Within.incSat {m : Nat} {s t : State} {f : Fld}  (w : Nat) (h : Within m s t) (hw : f.win = w)
    (hm : m.testBit (32 + w % 256) = true) : Within m s (t.incSat f) := (set_within t f _ (hw ▸ hm)).step h (Nat.or_self m)
theorem Within.setS {m : Nat} {s t : State} {f : Fld} {i : Int} (w : Nat) (h : Within m s t) (hw : f.win = w)
    (hm : m.testBit (32 + w % 256) = true) : Within m s (t.setS f i) := (set_within t f _ (hw ▸ hm)).step h (Nat.or_self m)
theorem Within.setBit {m : Nat} {s t : State} {f : Fld} {i : Nat} {b : Bool} (w : Nat) (h : Within m s t) (hw : f.win = w)
    (hm : m.testBit (32 + w % 256) = true) : Within m s (t.setBit f i b) := (set_within t f _ (hw ▸ hm)).step h (Nat.or_self m)

theorem emit_within (s : State) (o : Out) : Within 0 s (s.emit o) := by
  refine { Within.refl 0 s with out := ⟨[o], rfl⟩, wf := ?_, host := ?_, regs := ?_ } <;> intros <;> first | assumption | rfl

theorem fresh_within (s : State) (w : Nat) : Within 2 s (s.fresh w).2 := Within.freeUpd
theorem draw_within (s : State) (w : Nat) : Within 2 s (s.draw w).2 := Within.freeUpd

/-- Every register window. -/
theorem allWin (w : Nat) : (0xFFFFFFFFFFFFFFFFFFFFFFFFFFFFFFFFFFFFFFFFFFFFFFFFFFFFFFFFFFFFFFFF00000000 : Nat).testBit (32 + w % 256) = true := by
  have h : w % 256 < 256 := Nat.mod_lt _ (by decide)
  rw [show (0xFFFFFFFFFFFFFFFFFFFFFFFFFFFFFFFFFFFFFFFFFFFFFFFFFFFFFFFFFFFFFFFF00000000 : Nat) = 2 ^ 32 * (2 ^ 256 - 1) by decide, Nat.testBit_two_pow_mul, Nat.testBit_two_pow_sub_one]
  simp [h]

theorem allWinOf {m : Nat} (h : (0xFFFFFFFFFFFFFFFFFFFFFFFFFFFFFFFFFFFFFFFFFFFFFFFFFFFFFFFFFFFFFFFF00000000 : Nat) ||| m = m) (w : Nat) : m.testBit (32 + w % 256) = true := by
  rw [← h, Nat.testBit_or, allWin, Bool.true_or]

theorem Within.set_all {m : Nat} {s t : State} {f : Fld} {v : Nat} (h : Within m s t) (hm : 0xFFFFFFFFFFFFFFFFFFFFFFFFFFFFFFFFFFFFFFFFFFFFFFFFFFFFFFFFFFFFFFFF00000000 ||| m = m) :
    Within m s (t.set f v) := Within.set _ h rfl (allWinOf hm _)
theorem Within.setB_all {m : Nat} {s t : State} {f : Fld} {b : Bool} (h : Within m s t) (hm : 0xFFFFFFFFFFFFFFFFFFFFFFFFFFFFFFFFFFFFFFFFFFFFFFFFFFFFFFFFFFFFFFFF00000000 ||| m = m) :
    Within m s (t.setB f b) := Within.setB _ h rfl (allWinOf hm _)
theorem Within.inc_all {m : Nat} {s t : State} {f : Fld}  (h : Within m s t) (hm : 0xFFFFFFFFFFFFFFFFFFFFFFFFFFFFFFFFFFFFFFFFFFFFFFFFFFFFFFFFFFFFFFFF00000000 ||| m = m) :
    Within m s (t.inc f) := Within.inc _ h rfl (allWinOf hm _)
theorem Within.addSat_all {m : Nat} {s t : State} {f : Fld} {n : Nat} (h : Within m s t) (hm : 0xFFFFFFFFFFFFFFFFFFFFFFFFFFFFFFFFFFFFFFFFFFFFFFFFFFFFFFFFFFFFFFFF00000000 ||| m = m) :
    Within m s (t.addSat f n) := Within.addSat _ h rfl (allWinOf hm _)
theorem Within.incSat_all {m : Nat} {s t : State} {f : Fld}  (h : Within m s t) (hm : 0xFFFFFFFFFFFFFFFFFFFFFFFFFFFFFFFFFFFFFFFFFFFFFFFFFFFFFFFFFFFFFFFF00000000 ||| m = m) :
    Within m s (t.incSat f) := Within.incSat _ h rfl (allWinOf hm _)
theorem Within.setS_all {m : Nat} {s t : State} {f : Fld} {i : Int} (h : Within m s t) (hm : 0xFFFFFFFFFFFFFFFFFFFFFFFFFFFFFFFFFFFFFFFFFFFFFFFFFFFFFFFFFFFFFFFF00000000 ||| m = m) :
    Within m s (t.setS f i) := Within.setS _ h rfl (allWinOf hm _)
theorem Within.setBit_all {m : Nat} {s t : State} {f : Fld} {i : Nat} {b : Bool} (h : Within m s t) (hm : 0xFFFFFFFFFFFFFFFFFFFFFFFFFFFFFFFFFFFFFFFFFFFFFFFFFFFFFFFFFFFFFFFF00000000 ||| m = m) :
    Within m s (t.setBit f i b) := Within.setBit _ h rfl (allWinOf hm _)

theorem modHay_within (s : State) (f : Hay → Hay) (hf : ∀ h, (f h).host = h.host) : Within 0x80000 s (s.modHay f) :=
  Within.hayUpd (hf _)

theorem modDro_within (s : State) (f : Dro → Dro) :
    Within 0x20000 s (State.modDro s f) := by
  have h0 := Within.refl 0x20000 s
  unfold State.modDro
  try lift_lets -underBinder
  repeat' first
    | with_reducible assumption
    | with_reducible refine Within.ite ?_ ?_
    | with_reducible refine Within.foldl _ ?_ ?_
    | (intro (x : State); refine Within.cut (x := x) (m := 0x20000) (s := s) ?_ (fun hx => ?_); unfold x)
    | intro x
    | lift_lets -underBinder
    | split
    | with_reducible refine Within.droUpd.step ?_ rfl
    | exact rfl
    | (split <;> rfl)
    | clear_value *

theorem modPwr_within (s : State) (f : Pwr → Pwr) :
    Within 0x400000 s (State.modPwr s f) := by
  have h0 := Within.refl 0x400000 s
  unfold State.modPwr
  try lift_lets -underBinder
  repeat' first
    | with_reducible assumption
    | with_reducible refine Within.ite ?_ ?_
    | with_reducible refine Within.foldl _ ?_ ?_
    | (intro (x : State); refine Within.cut (x := x) (m := 0x400000) (s := s) ?_ (fun hx => ?_); unfold x)
    | intro x
    | lift_lets -underBinder
    | split
    | with_reducible refine Within.pwrUpd.step ?_ rfl
    | exact rfl
    | (split <;> rfl)
    | clear_value *

theorem modTck_within (s : State) (f : Tck → Tck) :
    Within 0x200000 s (State.modTck s f) := by
  have h0 := Within.refl 0x200000 s
  unfold State.modTck
  try lift_lets -underBinder
  repeat' first
    | with_reducible assumption
    | with_reducible refine Within.ite ?_ ?_
    | with_reducible refine Within.foldl _ ?_ ?_
    | (intro (x : State); refine Within.cut (x := x) (m := 0x200000) (s := s) ?_ (fun hx => ?_); unfold x)
    | intro x
    | lift_lets -underBinder
    | split
    | with_reducible refine Within.tckUpd.step ?_ rfl
    | exact rfl
    | (split <;> rfl)
    | clear_value *

theorem modHrn_within (s : State) (f : Hrn → Hrn) :
    Within 0x800 s (State.modHrn s f) := by
  have h0 := Within.refl 0x800 s
  unfold State.modHrn
  try lift_lets -underBinder
  repeat' first
    | with_reducible assumption
    | with_reducible refine Within.ite ?_ ?_
    | with_reducible refine Within.foldl _ ?_ ?_
    | (intro (x : State); refine Within.cut (x := x) (m := 0x800) (s := s) ?_ (fun hx => ?_); unfold x)
    | intro x
    | lift_lets -underBinder
    | split
    | with_reducible refine Within.hrnUpd.step ?_ rfl
    | exact rfl
    | (split <;> rfl)
    | clear_value *

theorem modBil_within (s : State) (f : Bil → Bil) :
    Within 0x10000 s (State.modBil s f) := by
  have h0 := Within.refl 0x10000 s
  unfold State.modBil
  try lift_lets -underBinder
  repeat' first
    | with_reducible assumption
    | with_reducible refine Within.ite ?_ ?_
    | with_reducible refine Within.foldl _ ?_ ?_
    | (intro (x : State); refine Within.cut (x := x) (m := 0x10000) (s := s) ?_ (fun hx => ?_); unfold x)
    | intro x
    | lift_lets -underBinder
    | split
    | with_reducible refine Within.bilUpd.step ?_ rfl
    | exact rfl
    | (split <;> rfl)
    | clear_value *

theorem modWbg_within (s : State) (f : Wbg → Wbg) :
    Within 0x8000 s (State.modWbg s f) := by
  have h0 := Within.refl 0x8000 s
  unfold State.modWbg
  try lift_lets -underBinder
  repeat' first
    | with_reducible assumption
    | with_reducible refine Within.ite ?_ ?_
    | with_reducible refine Within.foldl _ ?_ ?_
    | (intro (x : State); refine Within.cut (x := x) (m := 0x8000) (s := s) ?_ (fun hx => ?_); unfold x)
    | intro x
    | lift_lets -underBinder
    | split
    | with_reducible refine Within.wbgUpd.step ?_ rfl
    | exact rfl
    | (split <;> rfl)
    | clear_value *

theorem modRel_within (s : State) (f : Release → Release) :
    Within 0x4000 s (State.modRel s f) := by
  have h0 := Within.refl 0x4000 s
  unfold State.modRel
  try lift_lets -underBinder
  repeat' first
    | with_reducible assumption
    | with_reducible refine Within.ite ?_ ?_
    | with_reducible refine Within.foldl _ ?_ ?_
    | (intro (x : State); refine Within.cut (x := x) (m := 0x4000) (s := s) ?_ (fun hx => ?_); unfold x)
    | intro x
    | lift_lets -underBinder
    | split
    | with_reducible refine Within.relUpd.step ?_ rfl
    | exact rfl
    | (split <;> rfl)
    | clear_value *

theorem modHlt_within (s : State) (f : Hlt → Hlt) :
    Within 0x200 s (State.modHlt s f) := by
  have h0 := Within.refl 0x200 s
  unfold State.modHlt
  try lift_lets -underBinder
  repeat' first
    | with_reducible assumption
    | with_reducible refine Within.ite ?_ ?_
    | with_reducible refine Within.foldl _ ?_ ?_
    | (intro (x : State); refine Within.cut (x := x) (m := 0x200) (s := s) ?_ (fun hx => ?_); unfold x)
    | intro x
    | lift_lets -underBinder
    | split
    | with_reducible refine Within.hltUpd.step ?_ rfl
    | exact rfl
    | (split <;> rfl)
    | clear_value *

theorem modYms_within (s : State) (f : Yms → Yms) :
    Within 0x400 s (State.modYms s f) := by
  have h0 := Within.refl 0x400 s
  unfold State.modYms
  try lift_lets -underBinder
  repeat' first
    | with_reducible assumption
    | with_reducible refine Within.ite ?_ ?_
    | with_reducible refine Within.foldl _ ?_ ?_
    | (intro (x : State); refine Within.cut (x := x) (m := 0x400) (s := s) ?_ (fun hx => ?_); unfold x)
    | intro x
    | lift_lets -underBinder
    | split
    | with_reducible refine Within.ymsUpd.step ?_ rfl
    | exact rfl
    | (split <;> rfl)
    | clear_value *

theorem modLan_within (s : State) (f : Lan → Lan) :
    Within 0x100000 s (State.modLan s f) := by
  have h0 := Within.refl 0x100000 s
  unfold State.modLan
  try lift_lets -underBinder
  repeat' first
    | with_reducible assumption
    | with_reducible refine Within.ite ?_ ?_
    | with_reducible refine Within.foldl _ ?_ ?_
    | (intro (x : State); refine Within.cut (x := x) (m := 0x100000) (s := s) ?_ (fun hx => ?_); unfold x)
    | intro x
    | lift_lets -underBinder
    | split
    | with_reducible refine Within.lanUpd.step ?_ rfl
    | exact rfl
    | (split <;> rfl)
    | clear_value *

theorem modCan_within (s : State) (f : Can → Can) :
    Within 0x40000 s (State.modCan s f) := by
  have h0 := Within.refl 0x40000 s
  unfold State.modCan
  try lift_lets -underBinder
  repeat' first
    | with_reducible assumption
    | with_reducible refine Within.ite ?_ ?_
    | with_reducible refine Within.foldl _ ?_ ?_
    | (intro (x : State); refine Within.cut (x := x) (m := 0x40000) (s := s) ?_ (fun hx => ?_); unfold x)
    | intro x
    | lift_lets -underBinder
    | split
    | with_reducible refine Within.canUpd.step ?_ rfl
    | exact rfl
    | (split <;> rfl)
    | clear_value *

theorem modPd_within (s : State) (p : Nat) (f : Pdk → Pdk) :
    Within 0x4 s (State.modPd s p f) := by
  have h0 := Within.refl 0x4 s
  unfold State.modPd
  try lift_lets -underBinder
  repeat' first
    | with_reducible assumption
    | with_reducible refine Within.ite ?_ ?_
    | with_reducible refine Within.foldl _ ?_ ?_
    | (intro (x : State); refine Within.cut (x := x) (m := 0x4) (s := s) ?_ (fun hx => ?_); unfold x)
    | intro x
    | lift_lets -underBinder
    | split
    | with_reducible refine Within.pdkUpd.step ?_ rfl
    | exact rfl
    | (split <;> rfl)
    | clear_value *

theorem signal_within (s : State) (p v : Nat) :
    Within 0x200000000 s (State.signal s p v) := by
  have h0 := Within.refl 0x200000000 s
  unfold State.signal
  try lift_lets -underBinder
  repeat' first
    | with_reducible assumption
    | with_reducible refine Within.ite ?_ ?_
    | with_reducible refine Within.setBit 1 ?_ ?_ rfl
    | with_reducible refine (emit_within _ _).step ?_ (Nat.zero_or _)
    | with_reducible refine Within.foldl _ ?_ ?_
    | (intro (x : State); refine Within.cut (x := x) (m := 0x200000000) (s := s) ?_ (fun hx => ?_); unfold x)
    | intro x
    | lift_lets -underBinder
    | split
    | exact rfl
    | (split <;> rfl)
    | clear_value *

theorem coalesce_within (s : State) (p r : Nat) :
    Within 0x200000004 s (State.coalesce s p r) := by
  have h0 := Within.refl 0x200000004 s
  unfold State.coalesce
  try lift_lets -underBinder
  repeat' first
    | with_reducible assumption
    | with_reducible refine Within.ite ?_ ?_
    | with_reducible refine (signal_within _ _ _).step ?_ rfl
    | with_reducible refine (modPd_within _ _ _).step ?_ rfl
    | with_reducible refine Within.foldl _ ?_ ?_
    | (intro (x : State); refine Within.cut (x := x) (m := 0x200000004) (s := s) ?_ (fun hx => ?_); unfold x)
    | intro x
    | lift_lets -underBinder
    | split
    | exact rfl
    | (split <;> rfl)
    | clear_value *

theorem tryStore_within (s : State) (cls n : Nat) (job : Job) :
    Within 0x400000080000 s (State.tryStore s cls n job).2 := by
  have h0 := Within.refl 0x400000080000 s
  unfold State.tryStore
  try lift_lets -underBinder
  repeat' first
    | with_reducible assumption
    | with_reducible refine Within.ite ?_ ?_
    | with_reducible refine Within.ite2 ?_ ?_
    | with_reducible refine (modHay_within _ _ ?_).step ?_ rfl
    | exact fun _ => rfl
    | with_reducible refine Within.incSat 14 ?_ ?_ rfl
    | with_reducible refine Within.setB 14 ?_ ?_ rfl
    | with_reducible refine Within.foldl _ ?_ ?_
    | with_reducible refine Within.foldl2 _ ?_ ?_
    | (intro (x : State); refine Within.cut (x := x) (m := 0x400000080000) (s := s) ?_ (fun hx => ?_); unfold x)
    | intro x
    | lift_lets -underBinder
    | split
    | exact rfl
    | (split <;> rfl)
    | clear_value *

theorem seeFinal_within (s : State) :
    Within 0x10000 s (State.seeFinal s) := by
  have h0 := Within.refl 0x10000 s
  unfold State.seeFinal
  try lift_lets -underBinder
  repeat' first
    | with_reducible assumption
    | with_reducible refine Within.ite ?_ ?_
    | with_reducible refine (modBil_within _ _).step ?_ rfl
    | with_reducible refine Within.foldl _ ?_ ?_
    | (intro (x : State); refine Within.cut (x := x) (m := 0x10000) (s := s) ?_ (fun hx => ?_); unfold x)
    | intro x
    | lift_lets -underBinder
    | split
    | exact rfl
    | (split <;> rfl)
    | clear_value *

theorem eqWrite_within (s : State) (p : Nat) (e : Ev) :
    Within 0x200000004 s (State.eqWrite s p e) := by
  have h0 := Within.refl 0x200000004 s
  unfold State.eqWrite
  try lift_lets -underBinder
  repeat' first
    | with_reducible assumption
    | with_reducible refine Within.ite ?_ ?_
    | with_reducible refine (emit_within _ _).step ?_ (Nat.zero_or _)
    | with_reducible refine (modPd_within _ _ _).step ?_ rfl
    | with_reducible refine Within.inc 1 ?_ ?_ rfl
    | with_reducible refine (coalesce_within _ _ _).step ?_ rfl
    | with_reducible refine Within.foldl _ ?_ ?_
    | (intro (x : State); refine Within.cut (x := x) (m := 0x200000004) (s := s) ?_ (fun hx => ?_); unfold x)
    | intro x
    | lift_lets -underBinder
    | split
    | exact rfl
    | (split <;> rfl)
    | clear_value *

theorem eqLost_within (s : State) (p : Nat) :
    Within 0x200000004 s (State.eqLost s p) := by
  have h0 := Within.refl 0x200000004 s
  unfold State.eqLost
  try lift_lets -underBinder
  repeat' first
    | with_reducible assumption
    | with_reducible refine Within.ite ?_ ?_
    | with_reducible refine (modPd_within _ _ _).step ?_ rfl
    | with_reducible refine (eqWrite_within _ _ _).step ?_ rfl
    | with_reducible refine Within.foldl _ ?_ ?_
    | (intro (x : State); refine Within.cut (x := x) (m := 0x200000004) (s := s) ?_ (fun hx => ?_); unfold x)
    | intro x
    | lift_lets -underBinder
    | split
    | exact rfl
    | (split <;> rfl)
    | clear_value *

theorem deliver_within (s : State) (p : Nat) (e : Ev) :
    Within 0x200000004 s (State.deliver s p e) := by
  have h0 := Within.refl 0x200000004 s
  unfold State.deliver
  try lift_lets -underBinder
  repeat' first
    | with_reducible assumption
    | with_reducible refine Within.ite ?_ ?_
    | with_reducible refine (eqLost_within _ _).step ?_ rfl
    | with_reducible refine (eqWrite_within _ _ _).step ?_ rfl
    | with_reducible refine Within.incSat 1 ?_ ?_ rfl
    | with_reducible refine (modPd_within _ _ _).step ?_ rfl
    | with_reducible refine Within.foldl _ ?_ ?_
    | (intro (x : State); refine Within.cut (x := x) (m := 0x200000004) (s := s) ?_ (fun hx => ?_); unfold x)
    | intro x
    | lift_lets -underBinder
    | split
    | exact rfl
    | (split <;> rfl)
    | clear_value *

theorem pumpLog_within (s : State) :
    Within 0x400000080000 s (State.pumpLog s) := by
  have h0 := Within.refl 0x400000080000 s
  unfold State.pumpLog
  try lift_lets -underBinder
  repeat' first
    | with_reducible assumption
    | with_reducible refine Within.ite ?_ ?_
    | with_reducible refine Within.ite2 ?_ ?_
    | with_reducible refine (tryStore_within _ _ _ _).step ?_ rfl
    | with_reducible refine (modHay_within _ _ ?_).step ?_ rfl
    | exact fun _ => rfl
    | with_reducible refine Within.inc 14 ?_ ?_ rfl
    | with_reducible refine Within.foldl _ ?_ ?_
    | with_reducible refine Within.foldl2 _ ?_ ?_
    | (intro (x : State); refine Within.cut (x := x) (m := 0x400000080000) (s := s) ?_ (fun hx => ?_); unfold x)
    | intro x
    | lift_lets -underBinder
    | split
    | exact rfl
    | (split <;> rfl)
    | clear_value *

theorem logEvent_within (s : State) (e : Ev) (force : Bool) :
    Within 0x400000080000 s (State.logEvent s e force) := by
  have h0 := Within.refl 0x400000080000 s
  unfold State.logEvent
  try lift_lets -underBinder
  repeat' first
    | with_reducible assumption
    | with_reducible refine Within.ite ?_ ?_
    | with_reducible refine (pumpLog_within _).step ?_ rfl
    | with_reducible refine (modHay_within _ _ ?_).step ?_ rfl
    | exact fun _ => rfl
    | with_reducible refine Within.foldl _ ?_ ?_
    | (intro (x : State); refine Within.cut (x := x) (m := 0x400000080000) (s := s) ?_ (fun hx => ?_); unfold x)
    | intro x
    | lift_lets -underBinder
    | split
    | exact rfl
    | (split <;> rfl)
    | clear_value *

theorem raise_within (s : State) (code sev src : Nat) (payload : List Nat) :
    Within 0x400200080004 s (State.raise s code sev src payload) := by
  have h0 := Within.refl 0x400200080004 s
  unfold State.raise
  try lift_lets -underBinder
  repeat' first
    | with_reducible assumption
    | with_reducible refine Within.ite ?_ ?_
    | with_reducible refine (logEvent_within _ _ _).step ?_ rfl
    | with_reducible refine (deliver_within _ _ _).step ?_ rfl
    | with_reducible refine Within.foldl _ ?_ ?_
    | (intro (x : State); refine Within.cut (x := x) (m := 0x400200080004) (s := s) ?_ (fun hx => ?_); unfold x)
    | intro x
    | lift_lets -underBinder
    | split
    | exact rfl
    | (split <;> rfl)
    | clear_value *

theorem raisePdk_within (s : State) (p code sev : Nat) (payload : List Nat) :
    Within 0x400200080004 s (State.raisePdk s p code sev payload) := by
  have h0 := Within.refl 0x400200080004 s
  unfold State.raisePdk
  try lift_lets -underBinder
  repeat' first
    | with_reducible assumption
    | with_reducible refine Within.ite ?_ ?_
    | with_reducible refine (logEvent_within _ _ _).step ?_ rfl
    | with_reducible refine (deliver_within _ _ _).step ?_ rfl
    | with_reducible refine Within.foldl _ ?_ ?_
    | (intro (x : State); refine Within.cut (x := x) (m := 0x400200080004) (s := s) ?_ (fun hx => ?_); unfold x)
    | intro x
    | lift_lets -underBinder
    | split
    | exact rfl
    | (split <;> rfl)
    | clear_value *

theorem raiseOwn_within (s : State) (p code sev : Nat) (payload : List Nat) :
    Within 0x400200080004 s (State.raiseOwn s p code sev payload) := by
  have h0 := Within.refl 0x400200080004 s
  unfold State.raiseOwn
  try lift_lets -underBinder
  repeat' first
    | with_reducible assumption
    | with_reducible refine Within.ite ?_ ?_
    | with_reducible refine (logEvent_within _ _ _).step ?_ rfl
    | with_reducible refine (deliver_within _ _ _).step ?_ rfl
    | with_reducible refine Within.foldl _ ?_ ?_
    | (intro (x : State); refine Within.cut (x := x) (m := 0x400200080004) (s := s) ?_ (fun hx => ?_); unfold x)
    | intro x
    | lift_lets -underBinder
    | split
    | exact rfl
    | (split <;> rfl)
    | clear_value *

theorem ringError_within (s : State) (p r cause : Nat) :
    Within 0x400200080004 s (State.ringError s p r cause) := by
  have h0 := Within.refl 0x400200080004 s
  unfold State.ringError
  try lift_lets -underBinder
  repeat' first
    | with_reducible assumption
    | with_reducible refine Within.ite ?_ ?_
    | with_reducible refine Within.setB 1 ?_ ?_ rfl
    | with_reducible refine Within.setBit 1 ?_ ?_ rfl
    | with_reducible refine (raisePdk_within _ _ _ _ _).step ?_ rfl
    | with_reducible refine (signal_within _ _ _).step ?_ rfl
    | with_reducible refine Within.foldl _ ?_ ?_
    | (intro (x : State); refine Within.cut (x := x) (m := 0x400200080004) (s := s) ?_ (fun hx => ?_); unfold x)
    | intro x
    | lift_lets -underBinder
    | split
    | exact rfl
    | (split <;> rfl)
    | clear_value *

theorem cqWrite_within (s : State) (p : Nat) (c : Cpl) :
    Within 0x400200080004 s (State.cqWrite s p c) := by
  have h0 := Within.refl 0x400200080004 s
  unfold State.cqWrite
  try lift_lets -underBinder
  repeat' first
    | with_reducible assumption
    | with_reducible refine Within.ite ?_ ?_
    | with_reducible refine (emit_within _ _).step ?_ (Nat.zero_or _)
    | with_reducible refine Within.inc 1 ?_ ?_ rfl
    | with_reducible refine (modPd_within _ _ _).step ?_ rfl
    | with_reducible refine Within.set 1 ?_ ?_ rfl
    | with_reducible refine (raisePdk_within _ _ _ _ _).step ?_ rfl
    | with_reducible refine (coalesce_within _ _ _).step ?_ rfl
    | with_reducible refine Within.foldl _ ?_ ?_
    | (intro (x : State); refine Within.cut (x := x) (m := 0x400200080004) (s := s) ?_ (fun hx => ?_); unfold x)
    | intro x
    | lift_lets -underBinder
    | split
    | exact rfl
    | (split <;> rfl)
    | clear_value *

theorem flushHeld_within (p : Nat) (l : List Cpl) (s : State) : Within 0x400200080004 s (flushHeld p l s).2 := by
  induction l generalizing s with
  | nil => exact Within.refl _ s
  | cons c t ih =>
    unfold flushHeld
    split
    · exact (ih _).step (cqWrite_within s p c) rfl
    · exact ih s

theorem flush_within (s : State) (p : Nat) :
    Within 0x400200080004 s (State.flush s p) := by
  have h0 := Within.refl 0x400200080004 s
  unfold State.flush
  try lift_lets -underBinder
  repeat' first
    | with_reducible assumption
    | with_reducible refine Within.ite ?_ ?_
    | with_reducible refine Within.ite2 ?_ ?_
    | with_reducible refine (flushHeld_within _ _ _).step ?_ rfl
    | with_reducible refine (modPd_within _ _ _).step ?_ rfl
    | with_reducible refine Within.foldl _ ?_ ?_
    | with_reducible refine Within.foldl2 _ ?_ ?_
    | (intro (x : State); refine Within.cut (x := x) (m := 0x400200080004) (s := s) ?_ (fun hx => ?_); unfold x)
    | intro x
    | lift_lets -underBinder
    | split
    | exact rfl
    | (split <;> rfl)
    | clear_value *

theorem completeD_within (s : State) (p : Nat) (d : Desc) (status result : Nat) (buf : Bool) :
    Within 0x400200080004 s (State.completeD s p d status result buf) := by
  have h0 := Within.refl 0x400200080004 s
  unfold State.completeD
  try lift_lets -underBinder
  repeat' first
    | with_reducible assumption
    | with_reducible refine Within.ite ?_ ?_
    | with_reducible refine (modPd_within _ _ _).step ?_ rfl
    | with_reducible refine (flush_within _ _).step ?_ rfl
    | with_reducible refine Within.foldl _ ?_ ?_
    | (intro (x : State); refine Within.cut (x := x) (m := 0x400200080004) (s := s) ?_ (fun hx => ?_); unfold x)
    | intro x
    | lift_lets -underBinder
    | split
    | exact rfl
    | (split <;> rfl)
    | clear_value *

theorem finish_within (s : State) (p num status result : Nat) (buf : Bool) :
    Within 0x400200080004 s (State.finish s p num status result buf) := by
  have h0 := Within.refl 0x400200080004 s
  unfold State.finish
  try lift_lets -underBinder
  repeat' first
    | with_reducible assumption
    | with_reducible refine Within.ite ?_ ?_
    | with_reducible refine (completeD_within _ _ _ _ _ _).step ?_ rfl
    | with_reducible refine (modPd_within _ _ _).step ?_ rfl
    | with_reducible refine Within.foldl _ ?_ ?_
    | (intro (x : State); refine Within.cut (x := x) (m := 0x400200080004) (s := s) ?_ (fun hx => ?_); unfold x)
    | intro x
    | lift_lets -underBinder
    | split
    | exact rfl
    | (split <;> rfl)
    | clear_value *

theorem bufWrite_within (s : State) (p : Nat) (d : Desc) (bytes : List Nat) :
    Within 0x0 s (State.bufWrite s p d bytes) := by
  have h0 := Within.refl 0x0 s
  unfold State.bufWrite
  try lift_lets -underBinder
  repeat' first
    | with_reducible assumption
    | with_reducible refine Within.ite ?_ ?_
    | with_reducible refine (emit_within _ _).step ?_ (Nat.zero_or _)
    | with_reducible refine Within.foldl _ ?_ ?_
    | (intro (x : State); refine Within.cut (x := x) (m := 0x0) (s := s) ?_ (fun hx => ?_); unfold x)
    | intro x
    | lift_lets -underBinder
    | split
    | exact rfl
    | (split <;> rfl)
    | clear_value *

theorem finishBuf_within (s : State) (p : Nat) (d : Desc) (bytes : List Nat) :
    Within 0x400200080004 s (State.finishBuf s p d bytes) := by
  have h0 := Within.refl 0x400200080004 s
  unfold State.finishBuf
  try lift_lets -underBinder
  repeat' first
    | with_reducible assumption
    | with_reducible refine Within.ite ?_ ?_
    | with_reducible refine (bufWrite_within _ _ _ _).step ?_ rfl
    | with_reducible refine (finish_within _ _ _ _ _ _).step ?_ rfl
    | with_reducible refine Within.foldl _ ?_ ?_
    | (intro (x : State); refine Within.cut (x := x) (m := 0x400200080004) (s := s) ?_ (fun hx => ?_); unfold x)
    | intro x
    | lift_lets -underBinder
    | split
    | exact rfl
    | (split <;> rfl)
    | clear_value *

theorem resided_within (s : State) (since : Nat) :
    Within 0x8000000000 s (State.resided s since) := by
  have h0 := Within.refl 0x8000000000 s
  unfold State.resided
  try lift_lets -underBinder
  repeat' first
    | with_reducible assumption
    | with_reducible refine Within.ite ?_ ?_
    | with_reducible refine Within.set 7 ?_ ?_ rfl
    | with_reducible refine Within.foldl _ ?_ ?_
    | (intro (x : State); refine Within.cut (x := x) (m := 0x8000000000) (s := s) ?_ (fun hx => ?_); unfold x)
    | intro x
    | lift_lets -underBinder
    | split
    | exact rfl
    | (split <;> rfl)
    | clear_value *

theorem take_within {m : Nat} {s t : State} {p tag opcode : Nat} {f : Desc → State → State} (h0 : Within m s t)
    (hf : ∀ d u, Within m s u → Within m s (f d u)) (hm : 0x8000000004 ||| m = m) : Within m s (t.take p tag opcode f) := by
  unfold State.take
  split
  · exact h0
  · next d hd =>
    refine hf _ _ ?_
    have h1 : ∀ g, Within m s (t.modPd p g) := fun g => (modPd_within t p g).step h0 (by rw [← hm, ← Nat.or_assoc]; rfl)
    split
    · exact (resided_within _ _).step (h1 _) (by rw [← hm, ← Nat.or_assoc]; rfl)
    · exact h1 _

theorem setAux_within (s : State) (p num v : Nat) :
    Within 0x4 s (State.setAux s p num v) := by
  have h0 := Within.refl 0x4 s
  unfold State.setAux
  try lift_lets -underBinder
  repeat' first
    | with_reducible assumption
    | with_reducible refine Within.ite ?_ ?_
    | with_reducible refine (modPd_within _ _ _).step ?_ rfl
    | with_reducible refine Within.foldl _ ?_ ?_
    | (intro (x : State); refine Within.cut (x := x) (m := 0x4) (s := s) ?_ (fun hx => ?_); unfold x)
    | intro x
    | lift_lets -underBinder
    | split
    | exact rfl
    | (split <;> rfl)
    | clear_value *


end Sys2Proof.Laws
end

