-- ==== Sys2Proof/Laws/State.lean ====
section
/-!
SUPPORT. State after each update, field by field, so that no proof unfolds one; register fields read after a write.
-/
namespace Sys2Proof.Laws

open Sys2Proof.Machine

variable (s : State)

/-! ### Registers -/

/-- A register field reads what was written, cut to its width. -/
@[simp] theorem get_set_self (f : Fld) (v : Nat) : (s.set f v).get f = v % 2 ^ f.w := regFind_put_self _ _ _ _

/-- A write leaves every other field alone. -/
theorem get_set_ne {f g : Fld} (v : Nat) (h : g.key ≠ f.key) : (s.set f v).get g = s.get g := regFind_put_ne _ _ _ _ _ h _

/-- Fields of different windows never meet. -/
theorem key_ne_win {f g : Fld} (h : g.win % 256 ≠ f.win % 256) : g.key ≠ f.key := by
  unfold Fld.key Fld.off; omega

/-- Fields at different offsets of one window never meet. -/
theorem key_ne_reg {f g : Fld} (h : g.reg % 0x10000 ≠ f.reg % 0x10000) : g.key ≠ f.key := by
  unfold Fld.key Fld.off; omega

/-- Fields at different bits of one register never meet. -/
theorem key_ne_lo {f g : Fld} (h : g.lo % 32 ≠ f.lo % 32) : g.key ≠ f.key := by
  unfold Fld.key Fld.off; omega

/-- A field outside the windows of the mask keeps its value. -/
theorem Within.get {m : Nat} {s t : State} (h : Within m s t) (f : Fld) (hf : m.testBit (32 + f.win % 256) = false) : t.get f = s.get f :=
  h.regs f.key (by rw [windowOf_key]; exact hf)

/-! ### set -/

@[simp] theorem set_variant (f : Fld) (v : Nat) : (s.set f v).variant = s.variant := rfl
@[simp] theorem set_chrono (f : Fld) (v : Nat) : (s.set f v).chrono = s.chrono := rfl
@[simp] theorem set_out (f : Fld) (v : Nat) : (s.set f v).out = s.out := rfl
@[simp] theorem set_free (f : Fld) (v : Nat) : (s.set f v).free = s.free := rfl
@[simp] theorem set_pdk (f : Fld) (v : Nat) : (s.set f v).pdk = s.pdk := rfl
@[simp] theorem set_slk (f : Fld) (v : Nat) : (s.set f v).slk = s.slk := rfl
@[simp] theorem set_wlk (f : Fld) (v : Nat) : (s.set f v).wlk = s.wlk := rfl
@[simp] theorem set_haltS (f : Fld) (v : Nat) : (s.set f v).haltS = s.haltS := rfl
@[simp] theorem set_stallRec (f : Fld) (v : Nat) : (s.set f v).stallRec = s.stallRec := rfl
@[simp] theorem set_types (f : Fld) (v : Nat) : (s.set f v).types = s.types := rfl
@[simp] theorem set_runSeq (f : Fld) (v : Nat) : (s.set f v).runSeq = s.runSeq := rfl
@[simp] theorem set_hlt (f : Fld) (v : Nat) : (s.set f v).hlt = s.hlt := rfl
@[simp] theorem set_yms (f : Fld) (v : Nat) : (s.set f v).yms = s.yms := rfl
@[simp] theorem set_hrn (f : Fld) (v : Nat) : (s.set f v).hrn = s.hrn := rfl
@[simp] theorem set_aux (f : Fld) (v : Nat) : (s.set f v).aux = s.aux := rfl
@[simp] theorem set_lsw (f : Fld) (v : Nat) : (s.set f v).lsw = s.lsw := rfl
@[simp] theorem set_rel (f : Fld) (v : Nat) : (s.set f v).rel = s.rel := rfl
@[simp] theorem set_wbg (f : Fld) (v : Nat) : (s.set f v).wbg = s.wbg := rfl
@[simp] theorem set_bil (f : Fld) (v : Nat) : (s.set f v).bil = s.bil := rfl
@[simp] theorem set_dro (f : Fld) (v : Nat) : (s.set f v).dro = s.dro := rfl
@[simp] theorem set_can (f : Fld) (v : Nat) : (s.set f v).can = s.can := rfl
@[simp] theorem set_hay (f : Fld) (v : Nat) : (s.set f v).hay = s.hay := rfl
@[simp] theorem set_lan (f : Fld) (v : Nat) : (s.set f v).lan = s.lan := rfl
@[simp] theorem set_tck (f : Fld) (v : Nat) : (s.set f v).tck = s.tck := rfl
@[simp] theorem set_pwr (f : Fld) (v : Nat) : (s.set f v).pwr = s.pwr := rfl
@[simp] theorem set_startNum (f : Fld) (v : Nat) : (s.set f v).startNum = s.startNum := rfl
@[simp] theorem set_pending (f : Fld) (v : Nat) : (s.set f v).pending = s.pending := rfl

/-! ### setB -/

@[simp] theorem setB_variant (f : Fld) (b : Bool) : (s.setB f b).variant = s.variant := rfl
@[simp] theorem setB_chrono (f : Fld) (b : Bool) : (s.setB f b).chrono = s.chrono := rfl
@[simp] theorem setB_out (f : Fld) (b : Bool) : (s.setB f b).out = s.out := rfl
@[simp] theorem setB_free (f : Fld) (b : Bool) : (s.setB f b).free = s.free := rfl
@[simp] theorem setB_pdk (f : Fld) (b : Bool) : (s.setB f b).pdk = s.pdk := rfl
@[simp] theorem setB_slk (f : Fld) (b : Bool) : (s.setB f b).slk = s.slk := rfl
@[simp] theorem setB_wlk (f : Fld) (b : Bool) : (s.setB f b).wlk = s.wlk := rfl
@[simp] theorem setB_haltS (f : Fld) (b : Bool) : (s.setB f b).haltS = s.haltS := rfl
@[simp] theorem setB_stallRec (f : Fld) (b : Bool) : (s.setB f b).stallRec = s.stallRec := rfl
@[simp] theorem setB_types (f : Fld) (b : Bool) : (s.setB f b).types = s.types := rfl
@[simp] theorem setB_runSeq (f : Fld) (b : Bool) : (s.setB f b).runSeq = s.runSeq := rfl
@[simp] theorem setB_hlt (f : Fld) (b : Bool) : (s.setB f b).hlt = s.hlt := rfl
@[simp] theorem setB_yms (f : Fld) (b : Bool) : (s.setB f b).yms = s.yms := rfl
@[simp] theorem setB_hrn (f : Fld) (b : Bool) : (s.setB f b).hrn = s.hrn := rfl
@[simp] theorem setB_aux (f : Fld) (b : Bool) : (s.setB f b).aux = s.aux := rfl
@[simp] theorem setB_lsw (f : Fld) (b : Bool) : (s.setB f b).lsw = s.lsw := rfl
@[simp] theorem setB_rel (f : Fld) (b : Bool) : (s.setB f b).rel = s.rel := rfl
@[simp] theorem setB_wbg (f : Fld) (b : Bool) : (s.setB f b).wbg = s.wbg := rfl
@[simp] theorem setB_bil (f : Fld) (b : Bool) : (s.setB f b).bil = s.bil := rfl
@[simp] theorem setB_dro (f : Fld) (b : Bool) : (s.setB f b).dro = s.dro := rfl
@[simp] theorem setB_can (f : Fld) (b : Bool) : (s.setB f b).can = s.can := rfl
@[simp] theorem setB_hay (f : Fld) (b : Bool) : (s.setB f b).hay = s.hay := rfl
@[simp] theorem setB_lan (f : Fld) (b : Bool) : (s.setB f b).lan = s.lan := rfl
@[simp] theorem setB_tck (f : Fld) (b : Bool) : (s.setB f b).tck = s.tck := rfl
@[simp] theorem setB_pwr (f : Fld) (b : Bool) : (s.setB f b).pwr = s.pwr := rfl
@[simp] theorem setB_startNum (f : Fld) (b : Bool) : (s.setB f b).startNum = s.startNum := rfl
@[simp] theorem setB_pending (f : Fld) (b : Bool) : (s.setB f b).pending = s.pending := rfl

/-! ### inc -/

@[simp] theorem inc_variant (f : Fld) : (s.inc f).variant = s.variant := rfl
@[simp] theorem inc_chrono (f : Fld) : (s.inc f).chrono = s.chrono := rfl
@[simp] theorem inc_out (f : Fld) : (s.inc f).out = s.out := rfl
@[simp] theorem inc_free (f : Fld) : (s.inc f).free = s.free := rfl
@[simp] theorem inc_pdk (f : Fld) : (s.inc f).pdk = s.pdk := rfl
@[simp] theorem inc_slk (f : Fld) : (s.inc f).slk = s.slk := rfl
@[simp] theorem inc_wlk (f : Fld) : (s.inc f).wlk = s.wlk := rfl
@[simp] theorem inc_haltS (f : Fld) : (s.inc f).haltS = s.haltS := rfl
@[simp] theorem inc_stallRec (f : Fld) : (s.inc f).stallRec = s.stallRec := rfl
@[simp] theorem inc_types (f : Fld) : (s.inc f).types = s.types := rfl
@[simp] theorem inc_runSeq (f : Fld) : (s.inc f).runSeq = s.runSeq := rfl
@[simp] theorem inc_hlt (f : Fld) : (s.inc f).hlt = s.hlt := rfl
@[simp] theorem inc_yms (f : Fld) : (s.inc f).yms = s.yms := rfl
@[simp] theorem inc_hrn (f : Fld) : (s.inc f).hrn = s.hrn := rfl
@[simp] theorem inc_aux (f : Fld) : (s.inc f).aux = s.aux := rfl
@[simp] theorem inc_lsw (f : Fld) : (s.inc f).lsw = s.lsw := rfl
@[simp] theorem inc_rel (f : Fld) : (s.inc f).rel = s.rel := rfl
@[simp] theorem inc_wbg (f : Fld) : (s.inc f).wbg = s.wbg := rfl
@[simp] theorem inc_bil (f : Fld) : (s.inc f).bil = s.bil := rfl
@[simp] theorem inc_dro (f : Fld) : (s.inc f).dro = s.dro := rfl
@[simp] theorem inc_can (f : Fld) : (s.inc f).can = s.can := rfl
@[simp] theorem inc_hay (f : Fld) : (s.inc f).hay = s.hay := rfl
@[simp] theorem inc_lan (f : Fld) : (s.inc f).lan = s.lan := rfl
@[simp] theorem inc_tck (f : Fld) : (s.inc f).tck = s.tck := rfl
@[simp] theorem inc_pwr (f : Fld) : (s.inc f).pwr = s.pwr := rfl
@[simp] theorem inc_startNum (f : Fld) : (s.inc f).startNum = s.startNum := rfl
@[simp] theorem inc_pending (f : Fld) : (s.inc f).pending = s.pending := rfl

/-! ### addSat -/

@[simp] theorem addSat_variant (f : Fld) (n : Nat) : (s.addSat f n).variant = s.variant := rfl
@[simp] theorem addSat_chrono (f : Fld) (n : Nat) : (s.addSat f n).chrono = s.chrono := rfl
@[simp] theorem addSat_out (f : Fld) (n : Nat) : (s.addSat f n).out = s.out := rfl
@[simp] theorem addSat_free (f : Fld) (n : Nat) : (s.addSat f n).free = s.free := rfl
@[simp] theorem addSat_pdk (f : Fld) (n : Nat) : (s.addSat f n).pdk = s.pdk := rfl
@[simp] theorem addSat_slk (f : Fld) (n : Nat) : (s.addSat f n).slk = s.slk := rfl
@[simp] theorem addSat_wlk (f : Fld) (n : Nat) : (s.addSat f n).wlk = s.wlk := rfl
@[simp] theorem addSat_haltS (f : Fld) (n : Nat) : (s.addSat f n).haltS = s.haltS := rfl
@[simp] theorem addSat_stallRec (f : Fld) (n : Nat) : (s.addSat f n).stallRec = s.stallRec := rfl
@[simp] theorem addSat_types (f : Fld) (n : Nat) : (s.addSat f n).types = s.types := rfl
@[simp] theorem addSat_runSeq (f : Fld) (n : Nat) : (s.addSat f n).runSeq = s.runSeq := rfl
@[simp] theorem addSat_hlt (f : Fld) (n : Nat) : (s.addSat f n).hlt = s.hlt := rfl
@[simp] theorem addSat_yms (f : Fld) (n : Nat) : (s.addSat f n).yms = s.yms := rfl
@[simp] theorem addSat_hrn (f : Fld) (n : Nat) : (s.addSat f n).hrn = s.hrn := rfl
@[simp] theorem addSat_aux (f : Fld) (n : Nat) : (s.addSat f n).aux = s.aux := rfl
@[simp] theorem addSat_lsw (f : Fld) (n : Nat) : (s.addSat f n).lsw = s.lsw := rfl
@[simp] theorem addSat_rel (f : Fld) (n : Nat) : (s.addSat f n).rel = s.rel := rfl
@[simp] theorem addSat_wbg (f : Fld) (n : Nat) : (s.addSat f n).wbg = s.wbg := rfl
@[simp] theorem addSat_bil (f : Fld) (n : Nat) : (s.addSat f n).bil = s.bil := rfl
@[simp] theorem addSat_dro (f : Fld) (n : Nat) : (s.addSat f n).dro = s.dro := rfl
@[simp] theorem addSat_can (f : Fld) (n : Nat) : (s.addSat f n).can = s.can := rfl
@[simp] theorem addSat_hay (f : Fld) (n : Nat) : (s.addSat f n).hay = s.hay := rfl
@[simp] theorem addSat_lan (f : Fld) (n : Nat) : (s.addSat f n).lan = s.lan := rfl
@[simp] theorem addSat_tck (f : Fld) (n : Nat) : (s.addSat f n).tck = s.tck := rfl
@[simp] theorem addSat_pwr (f : Fld) (n : Nat) : (s.addSat f n).pwr = s.pwr := rfl
@[simp] theorem addSat_startNum (f : Fld) (n : Nat) : (s.addSat f n).startNum = s.startNum := rfl
@[simp] theorem addSat_pending (f : Fld) (n : Nat) : (s.addSat f n).pending = s.pending := rfl

/-! ### incSat -/

@[simp] theorem incSat_variant (f : Fld) : (s.incSat f).variant = s.variant := rfl
@[simp] theorem incSat_chrono (f : Fld) : (s.incSat f).chrono = s.chrono := rfl
@[simp] theorem incSat_out (f : Fld) : (s.incSat f).out = s.out := rfl
@[simp] theorem incSat_free (f : Fld) : (s.incSat f).free = s.free := rfl
@[simp] theorem incSat_pdk (f : Fld) : (s.incSat f).pdk = s.pdk := rfl
@[simp] theorem incSat_slk (f : Fld) : (s.incSat f).slk = s.slk := rfl
@[simp] theorem incSat_wlk (f : Fld) : (s.incSat f).wlk = s.wlk := rfl
@[simp] theorem incSat_haltS (f : Fld) : (s.incSat f).haltS = s.haltS := rfl
@[simp] theorem incSat_stallRec (f : Fld) : (s.incSat f).stallRec = s.stallRec := rfl
@[simp] theorem incSat_types (f : Fld) : (s.incSat f).types = s.types := rfl
@[simp] theorem incSat_runSeq (f : Fld) : (s.incSat f).runSeq = s.runSeq := rfl
@[simp] theorem incSat_hlt (f : Fld) : (s.incSat f).hlt = s.hlt := rfl
@[simp] theorem incSat_yms (f : Fld) : (s.incSat f).yms = s.yms := rfl
@[simp] theorem incSat_hrn (f : Fld) : (s.incSat f).hrn = s.hrn := rfl
@[simp] theorem incSat_aux (f : Fld) : (s.incSat f).aux = s.aux := rfl
@[simp] theorem incSat_lsw (f : Fld) : (s.incSat f).lsw = s.lsw := rfl
@[simp] theorem incSat_rel (f : Fld) : (s.incSat f).rel = s.rel := rfl
@[simp] theorem incSat_wbg (f : Fld) : (s.incSat f).wbg = s.wbg := rfl
@[simp] theorem incSat_bil (f : Fld) : (s.incSat f).bil = s.bil := rfl
@[simp] theorem incSat_dro (f : Fld) : (s.incSat f).dro = s.dro := rfl
@[simp] theorem incSat_can (f : Fld) : (s.incSat f).can = s.can := rfl
@[simp] theorem incSat_hay (f : Fld) : (s.incSat f).hay = s.hay := rfl
@[simp] theorem incSat_lan (f : Fld) : (s.incSat f).lan = s.lan := rfl
@[simp] theorem incSat_tck (f : Fld) : (s.incSat f).tck = s.tck := rfl
@[simp] theorem incSat_pwr (f : Fld) : (s.incSat f).pwr = s.pwr := rfl
@[simp] theorem incSat_startNum (f : Fld) : (s.incSat f).startNum = s.startNum := rfl
@[simp] theorem incSat_pending (f : Fld) : (s.incSat f).pending = s.pending := rfl

/-! ### setS -/

@[simp] theorem setS_variant (f : Fld) (i : Int) : (s.setS f i).variant = s.variant := rfl
@[simp] theorem setS_chrono (f : Fld) (i : Int) : (s.setS f i).chrono = s.chrono := rfl
@[simp] theorem setS_out (f : Fld) (i : Int) : (s.setS f i).out = s.out := rfl
@[simp] theorem setS_free (f : Fld) (i : Int) : (s.setS f i).free = s.free := rfl
@[simp] theorem setS_pdk (f : Fld) (i : Int) : (s.setS f i).pdk = s.pdk := rfl
@[simp] theorem setS_slk (f : Fld) (i : Int) : (s.setS f i).slk = s.slk := rfl
@[simp] theorem setS_wlk (f : Fld) (i : Int) : (s.setS f i).wlk = s.wlk := rfl
@[simp] theorem setS_haltS (f : Fld) (i : Int) : (s.setS f i).haltS = s.haltS := rfl
@[simp] theorem setS_stallRec (f : Fld) (i : Int) : (s.setS f i).stallRec = s.stallRec := rfl
@[simp] theorem setS_types (f : Fld) (i : Int) : (s.setS f i).types = s.types := rfl
@[simp] theorem setS_runSeq (f : Fld) (i : Int) : (s.setS f i).runSeq = s.runSeq := rfl
@[simp] theorem setS_hlt (f : Fld) (i : Int) : (s.setS f i).hlt = s.hlt := rfl
@[simp] theorem setS_yms (f : Fld) (i : Int) : (s.setS f i).yms = s.yms := rfl
@[simp] theorem setS_hrn (f : Fld) (i : Int) : (s.setS f i).hrn = s.hrn := rfl
@[simp] theorem setS_aux (f : Fld) (i : Int) : (s.setS f i).aux = s.aux := rfl
@[simp] theorem setS_lsw (f : Fld) (i : Int) : (s.setS f i).lsw = s.lsw := rfl
@[simp] theorem setS_rel (f : Fld) (i : Int) : (s.setS f i).rel = s.rel := rfl
@[simp] theorem setS_wbg (f : Fld) (i : Int) : (s.setS f i).wbg = s.wbg := rfl
@[simp] theorem setS_bil (f : Fld) (i : Int) : (s.setS f i).bil = s.bil := rfl
@[simp] theorem setS_dro (f : Fld) (i : Int) : (s.setS f i).dro = s.dro := rfl
@[simp] theorem setS_can (f : Fld) (i : Int) : (s.setS f i).can = s.can := rfl
@[simp] theorem setS_hay (f : Fld) (i : Int) : (s.setS f i).hay = s.hay := rfl
@[simp] theorem setS_lan (f : Fld) (i : Int) : (s.setS f i).lan = s.lan := rfl
@[simp] theorem setS_tck (f : Fld) (i : Int) : (s.setS f i).tck = s.tck := rfl
@[simp] theorem setS_pwr (f : Fld) (i : Int) : (s.setS f i).pwr = s.pwr := rfl
@[simp] theorem setS_startNum (f : Fld) (i : Int) : (s.setS f i).startNum = s.startNum := rfl
@[simp] theorem setS_pending (f : Fld) (i : Int) : (s.setS f i).pending = s.pending := rfl

/-! ### setBit -/

@[simp] theorem setBit_variant (f : Fld) (i : Nat) (b : Bool) : (s.setBit f i b).variant = s.variant := rfl
@[simp] theorem setBit_chrono (f : Fld) (i : Nat) (b : Bool) : (s.setBit f i b).chrono = s.chrono := rfl
@[simp] theorem setBit_out (f : Fld) (i : Nat) (b : Bool) : (s.setBit f i b).out = s.out := rfl
@[simp] theorem setBit_free (f : Fld) (i : Nat) (b : Bool) : (s.setBit f i b).free = s.free := rfl
@[simp] theorem setBit_pdk (f : Fld) (i : Nat) (b : Bool) : (s.setBit f i b).pdk = s.pdk := rfl
@[simp] theorem setBit_slk (f : Fld) (i : Nat) (b : Bool) : (s.setBit f i b).slk = s.slk := rfl
@[simp] theorem setBit_wlk (f : Fld) (i : Nat) (b : Bool) : (s.setBit f i b).wlk = s.wlk := rfl
@[simp] theorem setBit_haltS (f : Fld) (i : Nat) (b : Bool) : (s.setBit f i b).haltS = s.haltS := rfl
@[simp] theorem setBit_stallRec (f : Fld) (i : Nat) (b : Bool) : (s.setBit f i b).stallRec = s.stallRec := rfl
@[simp] theorem setBit_types (f : Fld) (i : Nat) (b : Bool) : (s.setBit f i b).types = s.types := rfl
@[simp] theorem setBit_runSeq (f : Fld) (i : Nat) (b : Bool) : (s.setBit f i b).runSeq = s.runSeq := rfl
@[simp] theorem setBit_hlt (f : Fld) (i : Nat) (b : Bool) : (s.setBit f i b).hlt = s.hlt := rfl
@[simp] theorem setBit_yms (f : Fld) (i : Nat) (b : Bool) : (s.setBit f i b).yms = s.yms := rfl
@[simp] theorem setBit_hrn (f : Fld) (i : Nat) (b : Bool) : (s.setBit f i b).hrn = s.hrn := rfl
@[simp] theorem setBit_aux (f : Fld) (i : Nat) (b : Bool) : (s.setBit f i b).aux = s.aux := rfl
@[simp] theorem setBit_lsw (f : Fld) (i : Nat) (b : Bool) : (s.setBit f i b).lsw = s.lsw := rfl
@[simp] theorem setBit_rel (f : Fld) (i : Nat) (b : Bool) : (s.setBit f i b).rel = s.rel := rfl
@[simp] theorem setBit_wbg (f : Fld) (i : Nat) (b : Bool) : (s.setBit f i b).wbg = s.wbg := rfl
@[simp] theorem setBit_bil (f : Fld) (i : Nat) (b : Bool) : (s.setBit f i b).bil = s.bil := rfl
@[simp] theorem setBit_dro (f : Fld) (i : Nat) (b : Bool) : (s.setBit f i b).dro = s.dro := rfl
@[simp] theorem setBit_can (f : Fld) (i : Nat) (b : Bool) : (s.setBit f i b).can = s.can := rfl
@[simp] theorem setBit_hay (f : Fld) (i : Nat) (b : Bool) : (s.setBit f i b).hay = s.hay := rfl
@[simp] theorem setBit_lan (f : Fld) (i : Nat) (b : Bool) : (s.setBit f i b).lan = s.lan := rfl
@[simp] theorem setBit_tck (f : Fld) (i : Nat) (b : Bool) : (s.setBit f i b).tck = s.tck := rfl
@[simp] theorem setBit_pwr (f : Fld) (i : Nat) (b : Bool) : (s.setBit f i b).pwr = s.pwr := rfl
@[simp] theorem setBit_startNum (f : Fld) (i : Nat) (b : Bool) : (s.setBit f i b).startNum = s.startNum := rfl
@[simp] theorem setBit_pending (f : Fld) (i : Nat) (b : Bool) : (s.setBit f i b).pending = s.pending := rfl

/-! ### emit -/

@[simp] theorem emit_variant (o : Out) : (s.emit o).variant = s.variant := rfl
@[simp] theorem emit_chrono (o : Out) : (s.emit o).chrono = s.chrono := rfl
@[simp] theorem emit_regs (o : Out) : (s.emit o).regs = s.regs := rfl
@[simp] theorem emit_free (o : Out) : (s.emit o).free = s.free := rfl
@[simp] theorem emit_pdk (o : Out) : (s.emit o).pdk = s.pdk := rfl
@[simp] theorem emit_slk (o : Out) : (s.emit o).slk = s.slk := rfl
@[simp] theorem emit_wlk (o : Out) : (s.emit o).wlk = s.wlk := rfl
@[simp] theorem emit_haltS (o : Out) : (s.emit o).haltS = s.haltS := rfl
@[simp] theorem emit_stallRec (o : Out) : (s.emit o).stallRec = s.stallRec := rfl
@[simp] theorem emit_types (o : Out) : (s.emit o).types = s.types := rfl
@[simp] theorem emit_runSeq (o : Out) : (s.emit o).runSeq = s.runSeq := rfl
@[simp] theorem emit_hlt (o : Out) : (s.emit o).hlt = s.hlt := rfl
@[simp] theorem emit_yms (o : Out) : (s.emit o).yms = s.yms := rfl
@[simp] theorem emit_hrn (o : Out) : (s.emit o).hrn = s.hrn := rfl
@[simp] theorem emit_aux (o : Out) : (s.emit o).aux = s.aux := rfl
@[simp] theorem emit_lsw (o : Out) : (s.emit o).lsw = s.lsw := rfl
@[simp] theorem emit_rel (o : Out) : (s.emit o).rel = s.rel := rfl
@[simp] theorem emit_wbg (o : Out) : (s.emit o).wbg = s.wbg := rfl
@[simp] theorem emit_bil (o : Out) : (s.emit o).bil = s.bil := rfl
@[simp] theorem emit_dro (o : Out) : (s.emit o).dro = s.dro := rfl
@[simp] theorem emit_can (o : Out) : (s.emit o).can = s.can := rfl
@[simp] theorem emit_hay (o : Out) : (s.emit o).hay = s.hay := rfl
@[simp] theorem emit_lan (o : Out) : (s.emit o).lan = s.lan := rfl
@[simp] theorem emit_tck (o : Out) : (s.emit o).tck = s.tck := rfl
@[simp] theorem emit_pwr (o : Out) : (s.emit o).pwr = s.pwr := rfl
@[simp] theorem emit_startNum (o : Out) : (s.emit o).startNum = s.startNum := rfl
@[simp] theorem emit_pending (o : Out) : (s.emit o).pending = s.pending := rfl
@[simp] theorem get_emit (o : Out) (h : Fld) : (s.emit o).get h = s.get h := rfl
@[simp] theorem emit_out (o : Out) : (s.emit o).out = s.out ++ [o] := rfl

/-! ### fresh -/

@[simp] theorem fresh_variant (w : Nat) : ((s.fresh w).2).variant = s.variant := rfl
@[simp] theorem fresh_chrono (w : Nat) : ((s.fresh w).2).chrono = s.chrono := rfl
@[simp] theorem fresh_regs (w : Nat) : ((s.fresh w).2).regs = s.regs := rfl
@[simp] theorem fresh_out (w : Nat) : ((s.fresh w).2).out = s.out := rfl
@[simp] theorem fresh_pdk (w : Nat) : ((s.fresh w).2).pdk = s.pdk := rfl
@[simp] theorem fresh_slk (w : Nat) : ((s.fresh w).2).slk = s.slk := rfl
@[simp] theorem fresh_wlk (w : Nat) : ((s.fresh w).2).wlk = s.wlk := rfl
@[simp] theorem fresh_haltS (w : Nat) : ((s.fresh w).2).haltS = s.haltS := rfl
@[simp] theorem fresh_stallRec (w : Nat) : ((s.fresh w).2).stallRec = s.stallRec := rfl
@[simp] theorem fresh_types (w : Nat) : ((s.fresh w).2).types = s.types := rfl
@[simp] theorem fresh_runSeq (w : Nat) : ((s.fresh w).2).runSeq = s.runSeq := rfl
@[simp] theorem fresh_hlt (w : Nat) : ((s.fresh w).2).hlt = s.hlt := rfl
@[simp] theorem fresh_yms (w : Nat) : ((s.fresh w).2).yms = s.yms := rfl
@[simp] theorem fresh_hrn (w : Nat) : ((s.fresh w).2).hrn = s.hrn := rfl
@[simp] theorem fresh_aux (w : Nat) : ((s.fresh w).2).aux = s.aux := rfl
@[simp] theorem fresh_lsw (w : Nat) : ((s.fresh w).2).lsw = s.lsw := rfl
@[simp] theorem fresh_rel (w : Nat) : ((s.fresh w).2).rel = s.rel := rfl
@[simp] theorem fresh_wbg (w : Nat) : ((s.fresh w).2).wbg = s.wbg := rfl
@[simp] theorem fresh_bil (w : Nat) : ((s.fresh w).2).bil = s.bil := rfl
@[simp] theorem fresh_dro (w : Nat) : ((s.fresh w).2).dro = s.dro := rfl
@[simp] theorem fresh_can (w : Nat) : ((s.fresh w).2).can = s.can := rfl
@[simp] theorem fresh_hay (w : Nat) : ((s.fresh w).2).hay = s.hay := rfl
@[simp] theorem fresh_lan (w : Nat) : ((s.fresh w).2).lan = s.lan := rfl
@[simp] theorem fresh_tck (w : Nat) : ((s.fresh w).2).tck = s.tck := rfl
@[simp] theorem fresh_pwr (w : Nat) : ((s.fresh w).2).pwr = s.pwr := rfl
@[simp] theorem fresh_startNum (w : Nat) : ((s.fresh w).2).startNum = s.startNum := rfl
@[simp] theorem fresh_pending (w : Nat) : ((s.fresh w).2).pending = s.pending := rfl
@[simp] theorem get_fresh (w : Nat) (h : Fld) : ((s.fresh w).2).get h = s.get h := rfl
@[simp] theorem fresh_free (w : Nat) : ((s.fresh w).2).free = s.free + 1 := rfl

/-! ### draw -/

@[simp] theorem draw_variant (w : Nat) : ((s.draw w).2).variant = s.variant := rfl
@[simp] theorem draw_chrono (w : Nat) : ((s.draw w).2).chrono = s.chrono := rfl
@[simp] theorem draw_regs (w : Nat) : ((s.draw w).2).regs = s.regs := rfl
@[simp] theorem draw_out (w : Nat) : ((s.draw w).2).out = s.out := rfl
@[simp] theorem draw_pdk (w : Nat) : ((s.draw w).2).pdk = s.pdk := rfl
@[simp] theorem draw_slk (w : Nat) : ((s.draw w).2).slk = s.slk := rfl
@[simp] theorem draw_wlk (w : Nat) : ((s.draw w).2).wlk = s.wlk := rfl
@[simp] theorem draw_haltS (w : Nat) : ((s.draw w).2).haltS = s.haltS := rfl
@[simp] theorem draw_stallRec (w : Nat) : ((s.draw w).2).stallRec = s.stallRec := rfl
@[simp] theorem draw_types (w : Nat) : ((s.draw w).2).types = s.types := rfl
@[simp] theorem draw_runSeq (w : Nat) : ((s.draw w).2).runSeq = s.runSeq := rfl
@[simp] theorem draw_hlt (w : Nat) : ((s.draw w).2).hlt = s.hlt := rfl
@[simp] theorem draw_yms (w : Nat) : ((s.draw w).2).yms = s.yms := rfl
@[simp] theorem draw_hrn (w : Nat) : ((s.draw w).2).hrn = s.hrn := rfl
@[simp] theorem draw_aux (w : Nat) : ((s.draw w).2).aux = s.aux := rfl
@[simp] theorem draw_lsw (w : Nat) : ((s.draw w).2).lsw = s.lsw := rfl
@[simp] theorem draw_rel (w : Nat) : ((s.draw w).2).rel = s.rel := rfl
@[simp] theorem draw_wbg (w : Nat) : ((s.draw w).2).wbg = s.wbg := rfl
@[simp] theorem draw_bil (w : Nat) : ((s.draw w).2).bil = s.bil := rfl
@[simp] theorem draw_dro (w : Nat) : ((s.draw w).2).dro = s.dro := rfl
@[simp] theorem draw_can (w : Nat) : ((s.draw w).2).can = s.can := rfl
@[simp] theorem draw_hay (w : Nat) : ((s.draw w).2).hay = s.hay := rfl
@[simp] theorem draw_lan (w : Nat) : ((s.draw w).2).lan = s.lan := rfl
@[simp] theorem draw_tck (w : Nat) : ((s.draw w).2).tck = s.tck := rfl
@[simp] theorem draw_pwr (w : Nat) : ((s.draw w).2).pwr = s.pwr := rfl
@[simp] theorem draw_startNum (w : Nat) : ((s.draw w).2).startNum = s.startNum := rfl
@[simp] theorem draw_pending (w : Nat) : ((s.draw w).2).pending = s.pending := rfl
@[simp] theorem get_draw (w : Nat) (h : Fld) : ((s.draw w).2).get h = s.get h := rfl
@[simp] theorem draw_free (w : Nat) : ((s.draw w).2).free = s.free + 1 := rfl

/-! ### modPd -/

@[simp] theorem modPd_variant (p : Nat) (g : Pdk → Pdk) : (s.modPd p g).variant = s.variant := rfl
@[simp] theorem modPd_chrono (p : Nat) (g : Pdk → Pdk) : (s.modPd p g).chrono = s.chrono := rfl
@[simp] theorem modPd_regs (p : Nat) (g : Pdk → Pdk) : (s.modPd p g).regs = s.regs := rfl
@[simp] theorem modPd_out (p : Nat) (g : Pdk → Pdk) : (s.modPd p g).out = s.out := rfl
@[simp] theorem modPd_free (p : Nat) (g : Pdk → Pdk) : (s.modPd p g).free = s.free := rfl
@[simp] theorem modPd_slk (p : Nat) (g : Pdk → Pdk) : (s.modPd p g).slk = s.slk := rfl
@[simp] theorem modPd_wlk (p : Nat) (g : Pdk → Pdk) : (s.modPd p g).wlk = s.wlk := rfl
@[simp] theorem modPd_haltS (p : Nat) (g : Pdk → Pdk) : (s.modPd p g).haltS = s.haltS := rfl
@[simp] theorem modPd_stallRec (p : Nat) (g : Pdk → Pdk) : (s.modPd p g).stallRec = s.stallRec := rfl
@[simp] theorem modPd_types (p : Nat) (g : Pdk → Pdk) : (s.modPd p g).types = s.types := rfl
@[simp] theorem modPd_runSeq (p : Nat) (g : Pdk → Pdk) : (s.modPd p g).runSeq = s.runSeq := rfl
@[simp] theorem modPd_hlt (p : Nat) (g : Pdk → Pdk) : (s.modPd p g).hlt = s.hlt := rfl
@[simp] theorem modPd_yms (p : Nat) (g : Pdk → Pdk) : (s.modPd p g).yms = s.yms := rfl
@[simp] theorem modPd_hrn (p : Nat) (g : Pdk → Pdk) : (s.modPd p g).hrn = s.hrn := rfl
@[simp] theorem modPd_aux (p : Nat) (g : Pdk → Pdk) : (s.modPd p g).aux = s.aux := rfl
@[simp] theorem modPd_lsw (p : Nat) (g : Pdk → Pdk) : (s.modPd p g).lsw = s.lsw := rfl
@[simp] theorem modPd_rel (p : Nat) (g : Pdk → Pdk) : (s.modPd p g).rel = s.rel := rfl
@[simp] theorem modPd_wbg (p : Nat) (g : Pdk → Pdk) : (s.modPd p g).wbg = s.wbg := rfl
@[simp] theorem modPd_bil (p : Nat) (g : Pdk → Pdk) : (s.modPd p g).bil = s.bil := rfl
@[simp] theorem modPd_dro (p : Nat) (g : Pdk → Pdk) : (s.modPd p g).dro = s.dro := rfl
@[simp] theorem modPd_can (p : Nat) (g : Pdk → Pdk) : (s.modPd p g).can = s.can := rfl
@[simp] theorem modPd_hay (p : Nat) (g : Pdk → Pdk) : (s.modPd p g).hay = s.hay := rfl
@[simp] theorem modPd_lan (p : Nat) (g : Pdk → Pdk) : (s.modPd p g).lan = s.lan := rfl
@[simp] theorem modPd_tck (p : Nat) (g : Pdk → Pdk) : (s.modPd p g).tck = s.tck := rfl
@[simp] theorem modPd_pwr (p : Nat) (g : Pdk → Pdk) : (s.modPd p g).pwr = s.pwr := rfl
@[simp] theorem modPd_startNum (p : Nat) (g : Pdk → Pdk) : (s.modPd p g).startNum = s.startNum := rfl
@[simp] theorem modPd_pending (p : Nat) (g : Pdk → Pdk) : (s.modPd p g).pending = s.pending := rfl
@[simp] theorem get_modPd (p : Nat) (g : Pdk → Pdk) (h : Fld) : (s.modPd p g).get h = s.get h := rfl

/-! ### modHay -/

@[simp] theorem modHay_variant (g : Hay → Hay) : (s.modHay g).variant = s.variant := rfl
@[simp] theorem modHay_chrono (g : Hay → Hay) : (s.modHay g).chrono = s.chrono := rfl
@[simp] theorem modHay_regs (g : Hay → Hay) : (s.modHay g).regs = s.regs := rfl
@[simp] theorem modHay_out (g : Hay → Hay) : (s.modHay g).out = s.out := rfl
@[simp] theorem modHay_free (g : Hay → Hay) : (s.modHay g).free = s.free := rfl
@[simp] theorem modHay_pdk (g : Hay → Hay) : (s.modHay g).pdk = s.pdk := rfl
@[simp] theorem modHay_slk (g : Hay → Hay) : (s.modHay g).slk = s.slk := rfl
@[simp] theorem modHay_wlk (g : Hay → Hay) : (s.modHay g).wlk = s.wlk := rfl
@[simp] theorem modHay_haltS (g : Hay → Hay) : (s.modHay g).haltS = s.haltS := rfl
@[simp] theorem modHay_stallRec (g : Hay → Hay) : (s.modHay g).stallRec = s.stallRec := rfl
@[simp] theorem modHay_types (g : Hay → Hay) : (s.modHay g).types = s.types := rfl
@[simp] theorem modHay_runSeq (g : Hay → Hay) : (s.modHay g).runSeq = s.runSeq := rfl
@[simp] theorem modHay_hlt (g : Hay → Hay) : (s.modHay g).hlt = s.hlt := rfl
@[simp] theorem modHay_yms (g : Hay → Hay) : (s.modHay g).yms = s.yms := rfl
@[simp] theorem modHay_hrn (g : Hay → Hay) : (s.modHay g).hrn = s.hrn := rfl
@[simp] theorem modHay_aux (g : Hay → Hay) : (s.modHay g).aux = s.aux := rfl
@[simp] theorem modHay_lsw (g : Hay → Hay) : (s.modHay g).lsw = s.lsw := rfl
@[simp] theorem modHay_rel (g : Hay → Hay) : (s.modHay g).rel = s.rel := rfl
@[simp] theorem modHay_wbg (g : Hay → Hay) : (s.modHay g).wbg = s.wbg := rfl
@[simp] theorem modHay_bil (g : Hay → Hay) : (s.modHay g).bil = s.bil := rfl
@[simp] theorem modHay_dro (g : Hay → Hay) : (s.modHay g).dro = s.dro := rfl
@[simp] theorem modHay_can (g : Hay → Hay) : (s.modHay g).can = s.can := rfl
@[simp] theorem modHay_lan (g : Hay → Hay) : (s.modHay g).lan = s.lan := rfl
@[simp] theorem modHay_tck (g : Hay → Hay) : (s.modHay g).tck = s.tck := rfl
@[simp] theorem modHay_pwr (g : Hay → Hay) : (s.modHay g).pwr = s.pwr := rfl
@[simp] theorem modHay_startNum (g : Hay → Hay) : (s.modHay g).startNum = s.startNum := rfl
@[simp] theorem modHay_pending (g : Hay → Hay) : (s.modHay g).pending = s.pending := rfl
@[simp] theorem get_modHay (g : Hay → Hay) (h : Fld) : (s.modHay g).get h = s.get h := rfl
@[simp] theorem modHay_hay (g : Hay → Hay) : (s.modHay g).hay = g s.hay := rfl

/-! ### modDro -/

@[simp] theorem modDro_variant (g : Dro → Dro) : (s.modDro g).variant = s.variant := rfl
@[simp] theorem modDro_chrono (g : Dro → Dro) : (s.modDro g).chrono = s.chrono := rfl
@[simp] theorem modDro_regs (g : Dro → Dro) : (s.modDro g).regs = s.regs := rfl
@[simp] theorem modDro_out (g : Dro → Dro) : (s.modDro g).out = s.out := rfl
@[simp] theorem modDro_free (g : Dro → Dro) : (s.modDro g).free = s.free := rfl
@[simp] theorem modDro_pdk (g : Dro → Dro) : (s.modDro g).pdk = s.pdk := rfl
@[simp] theorem modDro_slk (g : Dro → Dro) : (s.modDro g).slk = s.slk := rfl
@[simp] theorem modDro_wlk (g : Dro → Dro) : (s.modDro g).wlk = s.wlk := rfl
@[simp] theorem modDro_haltS (g : Dro → Dro) : (s.modDro g).haltS = s.haltS := rfl
@[simp] theorem modDro_stallRec (g : Dro → Dro) : (s.modDro g).stallRec = s.stallRec := rfl
@[simp] theorem modDro_types (g : Dro → Dro) : (s.modDro g).types = s.types := rfl
@[simp] theorem modDro_runSeq (g : Dro → Dro) : (s.modDro g).runSeq = s.runSeq := rfl
@[simp] theorem modDro_hlt (g : Dro → Dro) : (s.modDro g).hlt = s.hlt := rfl
@[simp] theorem modDro_yms (g : Dro → Dro) : (s.modDro g).yms = s.yms := rfl
@[simp] theorem modDro_hrn (g : Dro → Dro) : (s.modDro g).hrn = s.hrn := rfl
@[simp] theorem modDro_aux (g : Dro → Dro) : (s.modDro g).aux = s.aux := rfl
@[simp] theorem modDro_lsw (g : Dro → Dro) : (s.modDro g).lsw = s.lsw := rfl
@[simp] theorem modDro_rel (g : Dro → Dro) : (s.modDro g).rel = s.rel := rfl
@[simp] theorem modDro_wbg (g : Dro → Dro) : (s.modDro g).wbg = s.wbg := rfl
@[simp] theorem modDro_bil (g : Dro → Dro) : (s.modDro g).bil = s.bil := rfl
@[simp] theorem modDro_can (g : Dro → Dro) : (s.modDro g).can = s.can := rfl
@[simp] theorem modDro_hay (g : Dro → Dro) : (s.modDro g).hay = s.hay := rfl
@[simp] theorem modDro_lan (g : Dro → Dro) : (s.modDro g).lan = s.lan := rfl
@[simp] theorem modDro_tck (g : Dro → Dro) : (s.modDro g).tck = s.tck := rfl
@[simp] theorem modDro_pwr (g : Dro → Dro) : (s.modDro g).pwr = s.pwr := rfl
@[simp] theorem modDro_startNum (g : Dro → Dro) : (s.modDro g).startNum = s.startNum := rfl
@[simp] theorem modDro_pending (g : Dro → Dro) : (s.modDro g).pending = s.pending := rfl
@[simp] theorem get_modDro (g : Dro → Dro) (h : Fld) : (s.modDro g).get h = s.get h := rfl
@[simp] theorem modDro_dro (g : Dro → Dro) : (s.modDro g).dro = g s.dro := rfl

/-! ### modPwr -/

@[simp] theorem modPwr_variant (g : Pwr → Pwr) : (s.modPwr g).variant = s.variant := rfl
@[simp] theorem modPwr_chrono (g : Pwr → Pwr) : (s.modPwr g).chrono = s.chrono := rfl
@[simp] theorem modPwr_regs (g : Pwr → Pwr) : (s.modPwr g).regs = s.regs := rfl
@[simp] theorem modPwr_out (g : Pwr → Pwr) : (s.modPwr g).out = s.out := rfl
@[simp] theorem modPwr_free (g : Pwr → Pwr) : (s.modPwr g).free = s.free := rfl
@[simp] theorem modPwr_pdk (g : Pwr → Pwr) : (s.modPwr g).pdk = s.pdk := rfl
@[simp] theorem modPwr_slk (g : Pwr → Pwr) : (s.modPwr g).slk = s.slk := rfl
@[simp] theorem modPwr_wlk (g : Pwr → Pwr) : (s.modPwr g).wlk = s.wlk := rfl
@[simp] theorem modPwr_haltS (g : Pwr → Pwr) : (s.modPwr g).haltS = s.haltS := rfl
@[simp] theorem modPwr_stallRec (g : Pwr → Pwr) : (s.modPwr g).stallRec = s.stallRec := rfl
@[simp] theorem modPwr_types (g : Pwr → Pwr) : (s.modPwr g).types = s.types := rfl
@[simp] theorem modPwr_runSeq (g : Pwr → Pwr) : (s.modPwr g).runSeq = s.runSeq := rfl
@[simp] theorem modPwr_hlt (g : Pwr → Pwr) : (s.modPwr g).hlt = s.hlt := rfl
@[simp] theorem modPwr_yms (g : Pwr → Pwr) : (s.modPwr g).yms = s.yms := rfl
@[simp] theorem modPwr_hrn (g : Pwr → Pwr) : (s.modPwr g).hrn = s.hrn := rfl
@[simp] theorem modPwr_aux (g : Pwr → Pwr) : (s.modPwr g).aux = s.aux := rfl
@[simp] theorem modPwr_lsw (g : Pwr → Pwr) : (s.modPwr g).lsw = s.lsw := rfl
@[simp] theorem modPwr_rel (g : Pwr → Pwr) : (s.modPwr g).rel = s.rel := rfl
@[simp] theorem modPwr_wbg (g : Pwr → Pwr) : (s.modPwr g).wbg = s.wbg := rfl
@[simp] theorem modPwr_bil (g : Pwr → Pwr) : (s.modPwr g).bil = s.bil := rfl
@[simp] theorem modPwr_dro (g : Pwr → Pwr) : (s.modPwr g).dro = s.dro := rfl
@[simp] theorem modPwr_can (g : Pwr → Pwr) : (s.modPwr g).can = s.can := rfl
@[simp] theorem modPwr_hay (g : Pwr → Pwr) : (s.modPwr g).hay = s.hay := rfl
@[simp] theorem modPwr_lan (g : Pwr → Pwr) : (s.modPwr g).lan = s.lan := rfl
@[simp] theorem modPwr_tck (g : Pwr → Pwr) : (s.modPwr g).tck = s.tck := rfl
@[simp] theorem modPwr_startNum (g : Pwr → Pwr) : (s.modPwr g).startNum = s.startNum := rfl
@[simp] theorem modPwr_pending (g : Pwr → Pwr) : (s.modPwr g).pending = s.pending := rfl
@[simp] theorem get_modPwr (g : Pwr → Pwr) (h : Fld) : (s.modPwr g).get h = s.get h := rfl
@[simp] theorem modPwr_pwr (g : Pwr → Pwr) : (s.modPwr g).pwr = g s.pwr := rfl

/-! ### modTck -/

@[simp] theorem modTck_variant (g : Tck → Tck) : (s.modTck g).variant = s.variant := rfl
@[simp] theorem modTck_chrono (g : Tck → Tck) : (s.modTck g).chrono = s.chrono := rfl
@[simp] theorem modTck_regs (g : Tck → Tck) : (s.modTck g).regs = s.regs := rfl
@[simp] theorem modTck_out (g : Tck → Tck) : (s.modTck g).out = s.out := rfl
@[simp] theorem modTck_free (g : Tck → Tck) : (s.modTck g).free = s.free := rfl
@[simp] theorem modTck_pdk (g : Tck → Tck) : (s.modTck g).pdk = s.pdk := rfl
@[simp] theorem modTck_slk (g : Tck → Tck) : (s.modTck g).slk = s.slk := rfl
@[simp] theorem modTck_wlk (g : Tck → Tck) : (s.modTck g).wlk = s.wlk := rfl
@[simp] theorem modTck_haltS (g : Tck → Tck) : (s.modTck g).haltS = s.haltS := rfl
@[simp] theorem modTck_stallRec (g : Tck → Tck) : (s.modTck g).stallRec = s.stallRec := rfl
@[simp] theorem modTck_types (g : Tck → Tck) : (s.modTck g).types = s.types := rfl
@[simp] theorem modTck_runSeq (g : Tck → Tck) : (s.modTck g).runSeq = s.runSeq := rfl
@[simp] theorem modTck_hlt (g : Tck → Tck) : (s.modTck g).hlt = s.hlt := rfl
@[simp] theorem modTck_yms (g : Tck → Tck) : (s.modTck g).yms = s.yms := rfl
@[simp] theorem modTck_hrn (g : Tck → Tck) : (s.modTck g).hrn = s.hrn := rfl
@[simp] theorem modTck_aux (g : Tck → Tck) : (s.modTck g).aux = s.aux := rfl
@[simp] theorem modTck_lsw (g : Tck → Tck) : (s.modTck g).lsw = s.lsw := rfl
@[simp] theorem modTck_rel (g : Tck → Tck) : (s.modTck g).rel = s.rel := rfl
@[simp] theorem modTck_wbg (g : Tck → Tck) : (s.modTck g).wbg = s.wbg := rfl
@[simp] theorem modTck_bil (g : Tck → Tck) : (s.modTck g).bil = s.bil := rfl
@[simp] theorem modTck_dro (g : Tck → Tck) : (s.modTck g).dro = s.dro := rfl
@[simp] theorem modTck_can (g : Tck → Tck) : (s.modTck g).can = s.can := rfl
@[simp] theorem modTck_hay (g : Tck → Tck) : (s.modTck g).hay = s.hay := rfl
@[simp] theorem modTck_lan (g : Tck → Tck) : (s.modTck g).lan = s.lan := rfl
@[simp] theorem modTck_pwr (g : Tck → Tck) : (s.modTck g).pwr = s.pwr := rfl
@[simp] theorem modTck_startNum (g : Tck → Tck) : (s.modTck g).startNum = s.startNum := rfl
@[simp] theorem modTck_pending (g : Tck → Tck) : (s.modTck g).pending = s.pending := rfl
@[simp] theorem get_modTck (g : Tck → Tck) (h : Fld) : (s.modTck g).get h = s.get h := rfl
@[simp] theorem modTck_tck (g : Tck → Tck) : (s.modTck g).tck = g s.tck := rfl

/-! ### modHrn -/

@[simp] theorem modHrn_variant (g : Hrn → Hrn) : (s.modHrn g).variant = s.variant := rfl
@[simp] theorem modHrn_chrono (g : Hrn → Hrn) : (s.modHrn g).chrono = s.chrono := rfl
@[simp] theorem modHrn_regs (g : Hrn → Hrn) : (s.modHrn g).regs = s.regs := rfl
@[simp] theorem modHrn_out (g : Hrn → Hrn) : (s.modHrn g).out = s.out := rfl
@[simp] theorem modHrn_free (g : Hrn → Hrn) : (s.modHrn g).free = s.free := rfl
@[simp] theorem modHrn_pdk (g : Hrn → Hrn) : (s.modHrn g).pdk = s.pdk := rfl
@[simp] theorem modHrn_slk (g : Hrn → Hrn) : (s.modHrn g).slk = s.slk := rfl
@[simp] theorem modHrn_wlk (g : Hrn → Hrn) : (s.modHrn g).wlk = s.wlk := rfl
@[simp] theorem modHrn_haltS (g : Hrn → Hrn) : (s.modHrn g).haltS = s.haltS := rfl
@[simp] theorem modHrn_stallRec (g : Hrn → Hrn) : (s.modHrn g).stallRec = s.stallRec := rfl
@[simp] theorem modHrn_types (g : Hrn → Hrn) : (s.modHrn g).types = s.types := rfl
@[simp] theorem modHrn_runSeq (g : Hrn → Hrn) : (s.modHrn g).runSeq = s.runSeq := rfl
@[simp] theorem modHrn_hlt (g : Hrn → Hrn) : (s.modHrn g).hlt = s.hlt := rfl
@[simp] theorem modHrn_yms (g : Hrn → Hrn) : (s.modHrn g).yms = s.yms := rfl
@[simp] theorem modHrn_aux (g : Hrn → Hrn) : (s.modHrn g).aux = s.aux := rfl
@[simp] theorem modHrn_lsw (g : Hrn → Hrn) : (s.modHrn g).lsw = s.lsw := rfl
@[simp] theorem modHrn_rel (g : Hrn → Hrn) : (s.modHrn g).rel = s.rel := rfl
@[simp] theorem modHrn_wbg (g : Hrn → Hrn) : (s.modHrn g).wbg = s.wbg := rfl
@[simp] theorem modHrn_bil (g : Hrn → Hrn) : (s.modHrn g).bil = s.bil := rfl
@[simp] theorem modHrn_dro (g : Hrn → Hrn) : (s.modHrn g).dro = s.dro := rfl
@[simp] theorem modHrn_can (g : Hrn → Hrn) : (s.modHrn g).can = s.can := rfl
@[simp] theorem modHrn_hay (g : Hrn → Hrn) : (s.modHrn g).hay = s.hay := rfl
@[simp] theorem modHrn_lan (g : Hrn → Hrn) : (s.modHrn g).lan = s.lan := rfl
@[simp] theorem modHrn_tck (g : Hrn → Hrn) : (s.modHrn g).tck = s.tck := rfl
@[simp] theorem modHrn_pwr (g : Hrn → Hrn) : (s.modHrn g).pwr = s.pwr := rfl
@[simp] theorem modHrn_startNum (g : Hrn → Hrn) : (s.modHrn g).startNum = s.startNum := rfl
@[simp] theorem modHrn_pending (g : Hrn → Hrn) : (s.modHrn g).pending = s.pending := rfl
@[simp] theorem get_modHrn (g : Hrn → Hrn) (h : Fld) : (s.modHrn g).get h = s.get h := rfl
@[simp] theorem modHrn_hrn (g : Hrn → Hrn) : (s.modHrn g).hrn = g s.hrn := rfl

/-! ### modBil -/

@[simp] theorem modBil_variant (g : Bil → Bil) : (s.modBil g).variant = s.variant := rfl
@[simp] theorem modBil_chrono (g : Bil → Bil) : (s.modBil g).chrono = s.chrono := rfl
@[simp] theorem modBil_regs (g : Bil → Bil) : (s.modBil g).regs = s.regs := rfl
@[simp] theorem modBil_out (g : Bil → Bil) : (s.modBil g).out = s.out := rfl
@[simp] theorem modBil_free (g : Bil → Bil) : (s.modBil g).free = s.free := rfl
@[simp] theorem modBil_pdk (g : Bil → Bil) : (s.modBil g).pdk = s.pdk := rfl
@[simp] theorem modBil_slk (g : Bil → Bil) : (s.modBil g).slk = s.slk := rfl
@[simp] theorem modBil_wlk (g : Bil → Bil) : (s.modBil g).wlk = s.wlk := rfl
@[simp] theorem modBil_haltS (g : Bil → Bil) : (s.modBil g).haltS = s.haltS := rfl
@[simp] theorem modBil_stallRec (g : Bil → Bil) : (s.modBil g).stallRec = s.stallRec := rfl
@[simp] theorem modBil_types (g : Bil → Bil) : (s.modBil g).types = s.types := rfl
@[simp] theorem modBil_runSeq (g : Bil → Bil) : (s.modBil g).runSeq = s.runSeq := rfl
@[simp] theorem modBil_hlt (g : Bil → Bil) : (s.modBil g).hlt = s.hlt := rfl
@[simp] theorem modBil_yms (g : Bil → Bil) : (s.modBil g).yms = s.yms := rfl
@[simp] theorem modBil_hrn (g : Bil → Bil) : (s.modBil g).hrn = s.hrn := rfl
@[simp] theorem modBil_aux (g : Bil → Bil) : (s.modBil g).aux = s.aux := rfl
@[simp] theorem modBil_lsw (g : Bil → Bil) : (s.modBil g).lsw = s.lsw := rfl
@[simp] theorem modBil_rel (g : Bil → Bil) : (s.modBil g).rel = s.rel := rfl
@[simp] theorem modBil_wbg (g : Bil → Bil) : (s.modBil g).wbg = s.wbg := rfl
@[simp] theorem modBil_dro (g : Bil → Bil) : (s.modBil g).dro = s.dro := rfl
@[simp] theorem modBil_can (g : Bil → Bil) : (s.modBil g).can = s.can := rfl
@[simp] theorem modBil_hay (g : Bil → Bil) : (s.modBil g).hay = s.hay := rfl
@[simp] theorem modBil_lan (g : Bil → Bil) : (s.modBil g).lan = s.lan := rfl
@[simp] theorem modBil_tck (g : Bil → Bil) : (s.modBil g).tck = s.tck := rfl
@[simp] theorem modBil_pwr (g : Bil → Bil) : (s.modBil g).pwr = s.pwr := rfl
@[simp] theorem modBil_startNum (g : Bil → Bil) : (s.modBil g).startNum = s.startNum := rfl
@[simp] theorem modBil_pending (g : Bil → Bil) : (s.modBil g).pending = s.pending := rfl
@[simp] theorem get_modBil (g : Bil → Bil) (h : Fld) : (s.modBil g).get h = s.get h := rfl
@[simp] theorem modBil_bil (g : Bil → Bil) : (s.modBil g).bil = g s.bil := rfl

/-! ### modWbg -/

@[simp] theorem modWbg_variant (g : Wbg → Wbg) : (s.modWbg g).variant = s.variant := rfl
@[simp] theorem modWbg_chrono (g : Wbg → Wbg) : (s.modWbg g).chrono = s.chrono := rfl
@[simp] theorem modWbg_regs (g : Wbg → Wbg) : (s.modWbg g).regs = s.regs := rfl
@[simp] theorem modWbg_out (g : Wbg → Wbg) : (s.modWbg g).out = s.out := rfl
@[simp] theorem modWbg_free (g : Wbg → Wbg) : (s.modWbg g).free = s.free := rfl
@[simp] theorem modWbg_pdk (g : Wbg → Wbg) : (s.modWbg g).pdk = s.pdk := rfl
@[simp] theorem modWbg_slk (g : Wbg → Wbg) : (s.modWbg g).slk = s.slk := rfl
@[simp] theorem modWbg_wlk (g : Wbg → Wbg) : (s.modWbg g).wlk = s.wlk := rfl
@[simp] theorem modWbg_haltS (g : Wbg → Wbg) : (s.modWbg g).haltS = s.haltS := rfl
@[simp] theorem modWbg_stallRec (g : Wbg → Wbg) : (s.modWbg g).stallRec = s.stallRec := rfl
@[simp] theorem modWbg_types (g : Wbg → Wbg) : (s.modWbg g).types = s.types := rfl
@[simp] theorem modWbg_runSeq (g : Wbg → Wbg) : (s.modWbg g).runSeq = s.runSeq := rfl
@[simp] theorem modWbg_hlt (g : Wbg → Wbg) : (s.modWbg g).hlt = s.hlt := rfl
@[simp] theorem modWbg_yms (g : Wbg → Wbg) : (s.modWbg g).yms = s.yms := rfl
@[simp] theorem modWbg_hrn (g : Wbg → Wbg) : (s.modWbg g).hrn = s.hrn := rfl
@[simp] theorem modWbg_aux (g : Wbg → Wbg) : (s.modWbg g).aux = s.aux := rfl
@[simp] theorem modWbg_lsw (g : Wbg → Wbg) : (s.modWbg g).lsw = s.lsw := rfl
@[simp] theorem modWbg_rel (g : Wbg → Wbg) : (s.modWbg g).rel = s.rel := rfl
@[simp] theorem modWbg_bil (g : Wbg → Wbg) : (s.modWbg g).bil = s.bil := rfl
@[simp] theorem modWbg_dro (g : Wbg → Wbg) : (s.modWbg g).dro = s.dro := rfl
@[simp] theorem modWbg_can (g : Wbg → Wbg) : (s.modWbg g).can = s.can := rfl
@[simp] theorem modWbg_hay (g : Wbg → Wbg) : (s.modWbg g).hay = s.hay := rfl
@[simp] theorem modWbg_lan (g : Wbg → Wbg) : (s.modWbg g).lan = s.lan := rfl
@[simp] theorem modWbg_tck (g : Wbg → Wbg) : (s.modWbg g).tck = s.tck := rfl
@[simp] theorem modWbg_pwr (g : Wbg → Wbg) : (s.modWbg g).pwr = s.pwr := rfl
@[simp] theorem modWbg_startNum (g : Wbg → Wbg) : (s.modWbg g).startNum = s.startNum := rfl
@[simp] theorem modWbg_pending (g : Wbg → Wbg) : (s.modWbg g).pending = s.pending := rfl
@[simp] theorem get_modWbg (g : Wbg → Wbg) (h : Fld) : (s.modWbg g).get h = s.get h := rfl
@[simp] theorem modWbg_wbg (g : Wbg → Wbg) : (s.modWbg g).wbg = g s.wbg := rfl

/-! ### modRel -/

@[simp] theorem modRel_variant (g : Release → Release) : (s.modRel g).variant = s.variant := rfl
@[simp] theorem modRel_chrono (g : Release → Release) : (s.modRel g).chrono = s.chrono := rfl
@[simp] theorem modRel_regs (g : Release → Release) : (s.modRel g).regs = s.regs := rfl
@[simp] theorem modRel_out (g : Release → Release) : (s.modRel g).out = s.out := rfl
@[simp] theorem modRel_free (g : Release → Release) : (s.modRel g).free = s.free := rfl
@[simp] theorem modRel_pdk (g : Release → Release) : (s.modRel g).pdk = s.pdk := rfl
@[simp] theorem modRel_slk (g : Release → Release) : (s.modRel g).slk = s.slk := rfl
@[simp] theorem modRel_wlk (g : Release → Release) : (s.modRel g).wlk = s.wlk := rfl
@[simp] theorem modRel_haltS (g : Release → Release) : (s.modRel g).haltS = s.haltS := rfl
@[simp] theorem modRel_stallRec (g : Release → Release) : (s.modRel g).stallRec = s.stallRec := rfl
@[simp] theorem modRel_types (g : Release → Release) : (s.modRel g).types = s.types := rfl
@[simp] theorem modRel_runSeq (g : Release → Release) : (s.modRel g).runSeq = s.runSeq := rfl
@[simp] theorem modRel_hlt (g : Release → Release) : (s.modRel g).hlt = s.hlt := rfl
@[simp] theorem modRel_yms (g : Release → Release) : (s.modRel g).yms = s.yms := rfl
@[simp] theorem modRel_hrn (g : Release → Release) : (s.modRel g).hrn = s.hrn := rfl
@[simp] theorem modRel_aux (g : Release → Release) : (s.modRel g).aux = s.aux := rfl
@[simp] theorem modRel_lsw (g : Release → Release) : (s.modRel g).lsw = s.lsw := rfl
@[simp] theorem modRel_wbg (g : Release → Release) : (s.modRel g).wbg = s.wbg := rfl
@[simp] theorem modRel_bil (g : Release → Release) : (s.modRel g).bil = s.bil := rfl
@[simp] theorem modRel_dro (g : Release → Release) : (s.modRel g).dro = s.dro := rfl
@[simp] theorem modRel_can (g : Release → Release) : (s.modRel g).can = s.can := rfl
@[simp] theorem modRel_hay (g : Release → Release) : (s.modRel g).hay = s.hay := rfl
@[simp] theorem modRel_lan (g : Release → Release) : (s.modRel g).lan = s.lan := rfl
@[simp] theorem modRel_tck (g : Release → Release) : (s.modRel g).tck = s.tck := rfl
@[simp] theorem modRel_pwr (g : Release → Release) : (s.modRel g).pwr = s.pwr := rfl
@[simp] theorem modRel_startNum (g : Release → Release) : (s.modRel g).startNum = s.startNum := rfl
@[simp] theorem modRel_pending (g : Release → Release) : (s.modRel g).pending = s.pending := rfl
@[simp] theorem get_modRel (g : Release → Release) (h : Fld) : (s.modRel g).get h = s.get h := rfl
@[simp] theorem modRel_rel (g : Release → Release) : (s.modRel g).rel = g s.rel := rfl

/-! ### modHlt -/

@[simp] theorem modHlt_variant (g : Hlt → Hlt) : (s.modHlt g).variant = s.variant := rfl
@[simp] theorem modHlt_chrono (g : Hlt → Hlt) : (s.modHlt g).chrono = s.chrono := rfl
@[simp] theorem modHlt_regs (g : Hlt → Hlt) : (s.modHlt g).regs = s.regs := rfl
@[simp] theorem modHlt_out (g : Hlt → Hlt) : (s.modHlt g).out = s.out := rfl
@[simp] theorem modHlt_free (g : Hlt → Hlt) : (s.modHlt g).free = s.free := rfl
@[simp] theorem modHlt_pdk (g : Hlt → Hlt) : (s.modHlt g).pdk = s.pdk := rfl
@[simp] theorem modHlt_slk (g : Hlt → Hlt) : (s.modHlt g).slk = s.slk := rfl
@[simp] theorem modHlt_wlk (g : Hlt → Hlt) : (s.modHlt g).wlk = s.wlk := rfl
@[simp] theorem modHlt_haltS (g : Hlt → Hlt) : (s.modHlt g).haltS = s.haltS := rfl
@[simp] theorem modHlt_stallRec (g : Hlt → Hlt) : (s.modHlt g).stallRec = s.stallRec := rfl
@[simp] theorem modHlt_types (g : Hlt → Hlt) : (s.modHlt g).types = s.types := rfl
@[simp] theorem modHlt_runSeq (g : Hlt → Hlt) : (s.modHlt g).runSeq = s.runSeq := rfl
@[simp] theorem modHlt_yms (g : Hlt → Hlt) : (s.modHlt g).yms = s.yms := rfl
@[simp] theorem modHlt_hrn (g : Hlt → Hlt) : (s.modHlt g).hrn = s.hrn := rfl
@[simp] theorem modHlt_aux (g : Hlt → Hlt) : (s.modHlt g).aux = s.aux := rfl
@[simp] theorem modHlt_lsw (g : Hlt → Hlt) : (s.modHlt g).lsw = s.lsw := rfl
@[simp] theorem modHlt_rel (g : Hlt → Hlt) : (s.modHlt g).rel = s.rel := rfl
@[simp] theorem modHlt_wbg (g : Hlt → Hlt) : (s.modHlt g).wbg = s.wbg := rfl
@[simp] theorem modHlt_bil (g : Hlt → Hlt) : (s.modHlt g).bil = s.bil := rfl
@[simp] theorem modHlt_dro (g : Hlt → Hlt) : (s.modHlt g).dro = s.dro := rfl
@[simp] theorem modHlt_can (g : Hlt → Hlt) : (s.modHlt g).can = s.can := rfl
@[simp] theorem modHlt_hay (g : Hlt → Hlt) : (s.modHlt g).hay = s.hay := rfl
@[simp] theorem modHlt_lan (g : Hlt → Hlt) : (s.modHlt g).lan = s.lan := rfl
@[simp] theorem modHlt_tck (g : Hlt → Hlt) : (s.modHlt g).tck = s.tck := rfl
@[simp] theorem modHlt_pwr (g : Hlt → Hlt) : (s.modHlt g).pwr = s.pwr := rfl
@[simp] theorem modHlt_startNum (g : Hlt → Hlt) : (s.modHlt g).startNum = s.startNum := rfl
@[simp] theorem modHlt_pending (g : Hlt → Hlt) : (s.modHlt g).pending = s.pending := rfl
@[simp] theorem get_modHlt (g : Hlt → Hlt) (h : Fld) : (s.modHlt g).get h = s.get h := rfl
@[simp] theorem modHlt_hlt (g : Hlt → Hlt) : (s.modHlt g).hlt = g s.hlt := rfl

/-! ### modYms -/

@[simp] theorem modYms_variant (g : Yms → Yms) : (s.modYms g).variant = s.variant := rfl
@[simp] theorem modYms_chrono (g : Yms → Yms) : (s.modYms g).chrono = s.chrono := rfl
@[simp] theorem modYms_regs (g : Yms → Yms) : (s.modYms g).regs = s.regs := rfl
@[simp] theorem modYms_out (g : Yms → Yms) : (s.modYms g).out = s.out := rfl
@[simp] theorem modYms_free (g : Yms → Yms) : (s.modYms g).free = s.free := rfl
@[simp] theorem modYms_pdk (g : Yms → Yms) : (s.modYms g).pdk = s.pdk := rfl
@[simp] theorem modYms_slk (g : Yms → Yms) : (s.modYms g).slk = s.slk := rfl
@[simp] theorem modYms_wlk (g : Yms → Yms) : (s.modYms g).wlk = s.wlk := rfl
@[simp] theorem modYms_haltS (g : Yms → Yms) : (s.modYms g).haltS = s.haltS := rfl
@[simp] theorem modYms_stallRec (g : Yms → Yms) : (s.modYms g).stallRec = s.stallRec := rfl
@[simp] theorem modYms_types (g : Yms → Yms) : (s.modYms g).types = s.types := rfl
@[simp] theorem modYms_runSeq (g : Yms → Yms) : (s.modYms g).runSeq = s.runSeq := rfl
@[simp] theorem modYms_hlt (g : Yms → Yms) : (s.modYms g).hlt = s.hlt := rfl
@[simp] theorem modYms_hrn (g : Yms → Yms) : (s.modYms g).hrn = s.hrn := rfl
@[simp] theorem modYms_aux (g : Yms → Yms) : (s.modYms g).aux = s.aux := rfl
@[simp] theorem modYms_lsw (g : Yms → Yms) : (s.modYms g).lsw = s.lsw := rfl
@[simp] theorem modYms_rel (g : Yms → Yms) : (s.modYms g).rel = s.rel := rfl
@[simp] theorem modYms_wbg (g : Yms → Yms) : (s.modYms g).wbg = s.wbg := rfl
@[simp] theorem modYms_bil (g : Yms → Yms) : (s.modYms g).bil = s.bil := rfl
@[simp] theorem modYms_dro (g : Yms → Yms) : (s.modYms g).dro = s.dro := rfl
@[simp] theorem modYms_can (g : Yms → Yms) : (s.modYms g).can = s.can := rfl
@[simp] theorem modYms_hay (g : Yms → Yms) : (s.modYms g).hay = s.hay := rfl
@[simp] theorem modYms_lan (g : Yms → Yms) : (s.modYms g).lan = s.lan := rfl
@[simp] theorem modYms_tck (g : Yms → Yms) : (s.modYms g).tck = s.tck := rfl
@[simp] theorem modYms_pwr (g : Yms → Yms) : (s.modYms g).pwr = s.pwr := rfl
@[simp] theorem modYms_startNum (g : Yms → Yms) : (s.modYms g).startNum = s.startNum := rfl
@[simp] theorem modYms_pending (g : Yms → Yms) : (s.modYms g).pending = s.pending := rfl
@[simp] theorem get_modYms (g : Yms → Yms) (h : Fld) : (s.modYms g).get h = s.get h := rfl
@[simp] theorem modYms_yms (g : Yms → Yms) : (s.modYms g).yms = g s.yms := rfl

/-! ### modLan -/

@[simp] theorem modLan_variant (g : Lan → Lan) : (s.modLan g).variant = s.variant := rfl
@[simp] theorem modLan_chrono (g : Lan → Lan) : (s.modLan g).chrono = s.chrono := rfl
@[simp] theorem modLan_regs (g : Lan → Lan) : (s.modLan g).regs = s.regs := rfl
@[simp] theorem modLan_out (g : Lan → Lan) : (s.modLan g).out = s.out := rfl
@[simp] theorem modLan_free (g : Lan → Lan) : (s.modLan g).free = s.free := rfl
@[simp] theorem modLan_pdk (g : Lan → Lan) : (s.modLan g).pdk = s.pdk := rfl
@[simp] theorem modLan_slk (g : Lan → Lan) : (s.modLan g).slk = s.slk := rfl
@[simp] theorem modLan_wlk (g : Lan → Lan) : (s.modLan g).wlk = s.wlk := rfl
@[simp] theorem modLan_haltS (g : Lan → Lan) : (s.modLan g).haltS = s.haltS := rfl
@[simp] theorem modLan_stallRec (g : Lan → Lan) : (s.modLan g).stallRec = s.stallRec := rfl
@[simp] theorem modLan_types (g : Lan → Lan) : (s.modLan g).types = s.types := rfl
@[simp] theorem modLan_runSeq (g : Lan → Lan) : (s.modLan g).runSeq = s.runSeq := rfl
@[simp] theorem modLan_hlt (g : Lan → Lan) : (s.modLan g).hlt = s.hlt := rfl
@[simp] theorem modLan_yms (g : Lan → Lan) : (s.modLan g).yms = s.yms := rfl
@[simp] theorem modLan_hrn (g : Lan → Lan) : (s.modLan g).hrn = s.hrn := rfl
@[simp] theorem modLan_aux (g : Lan → Lan) : (s.modLan g).aux = s.aux := rfl
@[simp] theorem modLan_lsw (g : Lan → Lan) : (s.modLan g).lsw = s.lsw := rfl
@[simp] theorem modLan_rel (g : Lan → Lan) : (s.modLan g).rel = s.rel := rfl
@[simp] theorem modLan_wbg (g : Lan → Lan) : (s.modLan g).wbg = s.wbg := rfl
@[simp] theorem modLan_bil (g : Lan → Lan) : (s.modLan g).bil = s.bil := rfl
@[simp] theorem modLan_dro (g : Lan → Lan) : (s.modLan g).dro = s.dro := rfl
@[simp] theorem modLan_can (g : Lan → Lan) : (s.modLan g).can = s.can := rfl
@[simp] theorem modLan_hay (g : Lan → Lan) : (s.modLan g).hay = s.hay := rfl
@[simp] theorem modLan_tck (g : Lan → Lan) : (s.modLan g).tck = s.tck := rfl
@[simp] theorem modLan_pwr (g : Lan → Lan) : (s.modLan g).pwr = s.pwr := rfl
@[simp] theorem modLan_startNum (g : Lan → Lan) : (s.modLan g).startNum = s.startNum := rfl
@[simp] theorem modLan_pending (g : Lan → Lan) : (s.modLan g).pending = s.pending := rfl
@[simp] theorem get_modLan (g : Lan → Lan) (h : Fld) : (s.modLan g).get h = s.get h := rfl
@[simp] theorem modLan_lan (g : Lan → Lan) : (s.modLan g).lan = g s.lan := rfl

/-! ### modCan -/

@[simp] theorem modCan_variant (g : Can → Can) : (s.modCan g).variant = s.variant := rfl
@[simp] theorem modCan_chrono (g : Can → Can) : (s.modCan g).chrono = s.chrono := rfl
@[simp] theorem modCan_regs (g : Can → Can) : (s.modCan g).regs = s.regs := rfl
@[simp] theorem modCan_out (g : Can → Can) : (s.modCan g).out = s.out := rfl
@[simp] theorem modCan_free (g : Can → Can) : (s.modCan g).free = s.free := rfl
@[simp] theorem modCan_pdk (g : Can → Can) : (s.modCan g).pdk = s.pdk := rfl
@[simp] theorem modCan_slk (g : Can → Can) : (s.modCan g).slk = s.slk := rfl
@[simp] theorem modCan_wlk (g : Can → Can) : (s.modCan g).wlk = s.wlk := rfl
@[simp] theorem modCan_haltS (g : Can → Can) : (s.modCan g).haltS = s.haltS := rfl
@[simp] theorem modCan_stallRec (g : Can → Can) : (s.modCan g).stallRec = s.stallRec := rfl
@[simp] theorem modCan_types (g : Can → Can) : (s.modCan g).types = s.types := rfl
@[simp] theorem modCan_runSeq (g : Can → Can) : (s.modCan g).runSeq = s.runSeq := rfl
@[simp] theorem modCan_hlt (g : Can → Can) : (s.modCan g).hlt = s.hlt := rfl
@[simp] theorem modCan_yms (g : Can → Can) : (s.modCan g).yms = s.yms := rfl
@[simp] theorem modCan_hrn (g : Can → Can) : (s.modCan g).hrn = s.hrn := rfl
@[simp] theorem modCan_aux (g : Can → Can) : (s.modCan g).aux = s.aux := rfl
@[simp] theorem modCan_lsw (g : Can → Can) : (s.modCan g).lsw = s.lsw := rfl
@[simp] theorem modCan_rel (g : Can → Can) : (s.modCan g).rel = s.rel := rfl
@[simp] theorem modCan_wbg (g : Can → Can) : (s.modCan g).wbg = s.wbg := rfl
@[simp] theorem modCan_bil (g : Can → Can) : (s.modCan g).bil = s.bil := rfl
@[simp] theorem modCan_dro (g : Can → Can) : (s.modCan g).dro = s.dro := rfl
@[simp] theorem modCan_hay (g : Can → Can) : (s.modCan g).hay = s.hay := rfl
@[simp] theorem modCan_lan (g : Can → Can) : (s.modCan g).lan = s.lan := rfl
@[simp] theorem modCan_tck (g : Can → Can) : (s.modCan g).tck = s.tck := rfl
@[simp] theorem modCan_pwr (g : Can → Can) : (s.modCan g).pwr = s.pwr := rfl
@[simp] theorem modCan_startNum (g : Can → Can) : (s.modCan g).startNum = s.startNum := rfl
@[simp] theorem modCan_pending (g : Can → Can) : (s.modCan g).pending = s.pending := rfl
@[simp] theorem get_modCan (g : Can → Can) (h : Fld) : (s.modCan g).get h = s.get h := rfl
@[simp] theorem modCan_can (g : Can → Can) : (s.modCan g).can = g s.can := rfl

end Sys2Proof.Laws
end

