-- ==== Sys2Proof/Laws/Complete.lean ====
section
/-!
SUPPORT. Completions: a descriptor that finishes has its completion record written or held, with its TAG, STATUS and RESULT; what
the front of a block's queue takes.
-/
namespace Sys2Proof.Laws

open Sys2Proof.Machine

/-- Something with property `P` has left the block since `s`. -/
theorem mem_drop_of_prefix {α : Type} {a b c : List α} (h1 : a <+: b) (h2 : b <+: c) {o : α} (h : o ∈ b.drop a.length) : o ∈ c.drop a.length := by
  obtain ⟨x, rfl⟩ := h1
  obtain ⟨y, rfl⟩ := h2
  simp only [List.drop_left, List.append_assoc] at h ⊢
  exact List.mem_append_left _ h

theorem mem_drop_of_later {α : Type} {a b c : List α} (h1 : a <+: b) (h2 : b <+: c) {o : α} (h : o ∈ c.drop b.length) : o ∈ c.drop a.length := by
  obtain ⟨x, rfl⟩ := h1
  obtain ⟨y, rfl⟩ := h2
  rw [List.drop_left] at h
  rw [List.append_assoc, List.drop_left]
  exact List.mem_append_right _ h

/-- A new thing stays new when more leaves the block. -/
theorem Ended_mono {s t u : State} {p tag st r : Nat} (ho : t.out <+: u.out) (hs : s.out <+: t.out) (hh : (u.pd p).held = (t.pd p).held)
    (h : s.Ended t p tag st r) : s.Ended u p tag st r := by
  rcases h with ⟨o, ho', hc⟩ | ⟨c, hc, h⟩
  · exact .inl ⟨o, mem_drop_of_prefix hs ho ho', hc⟩
  · exact .inr ⟨c, hh ▸ hc, h⟩

/-- `cqWrite` writes the record. -/
theorem cqWrite_new (s : State) (p : Nat) (c : Cpl) : ∃ o ∈ (s.cqWrite p c).out.drop s.out.length, isCqe p c.tag c.status c.result o = true := by
  have key : ∀ (a : State) (o : Out) (u : State), a.out = s.out → (a.emit o).out <+: u.out → o ∈ u.out.drop s.out.length := by
    intro a o u ha hu
    rw [← ha]
    exact mem_drop_of_prefix (c := u.out) (b := (a.emit o).out) (List.prefix_append _ _) hu (by simp)
  refine ⟨.cqe p c.cq (s.get (F.PDK_CQj_PROD p c.cq) % 2 ^ s.get (F.PDK_CQj_CFG_SIZE_LOG2 p c.cq)) c.tag c.status
    (128 * ((s.get (F.PDK_CQj_PROD p c.cq) / 2 ^ s.get (F.PDK_CQj_CFG_SIZE_LOG2 p c.cq) + 1) % 2) + c.flags) c.result c.chrono, ?_, by simp [isCqe]⟩
  refine key s _ _ rfl ?_
  unfold State.cqWrite
  dsimp only
  refine List.IsPrefix.trans ?_ (coalesce_within _ _ _).out
  split
  · refine List.IsPrefix.trans ?_ (raisePdk_within _ _ _ _ _).out
    exact List.prefix_append _ _
  · exact List.prefix_append _ _

/-- Of a list of held completions, each is written or still held. -/
theorem flushHeld_new (p : Nat) (l : List Cpl) (s : State) (c : Cpl) (hc : c ∈ l) :
    (∃ o ∈ (flushHeld p l s).2.out.drop s.out.length, isCqe p c.tag c.status c.result o = true) ∨ c ∈ (flushHeld p l s).1 := by
  induction l generalizing s with
  | nil => simp at hc
  | cons x t ih =>
    unfold flushHeld
    split
    · rcases List.mem_cons.mp hc with rfl | hc
      · obtain ⟨o, ho, h⟩ := cqWrite_new s p c
        exact .inl ⟨o, mem_drop_of_prefix (cqWrite_within s p c).out (flushHeld_within p t _).out ho, h⟩
      · rcases ih (s.cqWrite p x) hc with ⟨o, ho, h⟩ | h
        · exact .inl ⟨o, mem_drop_of_later (cqWrite_within s p x).out (flushHeld_within p t _).out ho, h⟩
        · exact .inr h
    · rcases List.mem_cons.mp hc with rfl | hc
      · exact .inr (by simp)
      · rcases ih s hc with h | h
        · exact .inl h
        · exact .inr (by simp [h])

@[simp] theorem length_modAt {α : Type} (l : List α) (i : Nat) (f : α → α) : (modAt l i f).length = l.length := by
  induction l generalizing i with
  | nil => rfl
  | cons a t ih => cases i <;> simp [modAt, ih]

theorem getD_modAt_self {α : Type} (l : List α) (i : Nat) (f : α → α) (d : α) (h : i < l.length) : (modAt l i f).getD i d = f (l.getD i d) := by
  induction l generalizing i with
  | nil => simp at h
  | cons a t ih =>
    cases i with
    | zero => rfl
    | succ n => simpa [modAt] using ih n (by simpa using h)

theorem getD_modAt_ne {α : Type} (l : List α) (i j : Nat) (f : α → α) (d : α) (h : j ≠ i) : (modAt l i f).getD j d = l.getD j d := by
  induction l generalizing i j with
  | nil => rfl
  | cons a t ih =>
    cases i with
    | zero => cases j with
      | zero => exact absurd rfl h
      | succ m => rfl
    | succ n => cases j with
      | zero => rfl
      | succ m => simpa [modAt] using ih n m (by omega)

theorem pd_modPd (s : State) (p : Nat) (f : Pdk → Pdk) (hp : p < s.pdk.length) : (s.modPd p f).pd p = f (s.pd p) :=
  getD_modAt_self _ _ _ _ hp

theorem pd_modPd_ne (s : State) (p q : Nat) (f : Pdk → Pdk) (h : q ≠ p) : (s.modPd p f).pd q = s.pd q := getD_modAt_ne _ _ _ _ _ h

@[simp] theorem length_modPd (s : State) (p : Nat) (f : Pdk → Pdk) : (s.modPd p f).pdk.length = s.pdk.length := length_modAt _ _ _

/-! ### The number of paddocks never changes -/

@[simp] theorem signal_pdk (s : State) (p v : Nat) : (s.signal p v).pdk = s.pdk := (signal_within _ _ _).pdk rfl

@[simp] theorem coalesce_len (s : State) (p r : Nat) : (s.coalesce p r).pdk.length = s.pdk.length := by
  unfold State.coalesce; dsimp only; repeat' split
  all_goals simp only [signal_pdk, length_modPd]

@[simp] theorem eqWrite_len (s : State) (p : Nat) (e : Ev) : (s.eqWrite p e).pdk.length = s.pdk.length := by
  unfold State.eqWrite; dsimp only; simp

@[simp] theorem eqLost_len (s : State) (p : Nat) : (s.eqLost p).pdk.length = s.pdk.length := by
  unfold State.eqLost; split <;> simp

@[simp] theorem deliver_len (s : State) (p : Nat) (e : Ev) : (s.deliver p e).pdk.length = s.pdk.length := by
  unfold State.deliver; dsimp only; split
  · rfl
  · split <;> simp

@[simp] theorem logEvent_pdk (s : State) (e : Ev) (b : Bool) : (s.logEvent e b).pdk = s.pdk := (logEvent_within _ _ _).pdk rfl

theorem foldl_len {l : List Nat} {f : State → Nat → State} (hf : ∀ (u : State) (q : Nat), (f u q).pdk.length = u.pdk.length) (s : State) :
    (l.foldl f s).pdk.length = s.pdk.length := by
  induction l generalizing s with
  | nil => rfl
  | cons a t ih => rw [List.foldl_cons, ih, hf]

@[simp] theorem raise_len (s : State) (code sev src : Nat) (pay : List Nat) : (s.raise code sev src pay).pdk.length = s.pdk.length := by
  unfold State.raise; dsimp only; rw [logEvent_pdk]
  exact foldl_len (fun u q => by split <;> simp) s

@[simp] theorem raisePdk_len (s : State) (p code sev : Nat) (pay : List Nat) : (s.raisePdk p code sev pay).pdk.length = s.pdk.length := by
  unfold State.raisePdk; dsimp only; rw [logEvent_pdk]
  exact foldl_len (fun u q => by split <;> simp) s

@[simp] theorem cqWrite_len (s : State) (p : Nat) (c : Cpl) : (s.cqWrite p c).pdk.length = s.pdk.length := by
  unfold State.cqWrite; dsimp only; split <;> simp

@[simp] theorem flushHeld_len (p : Nat) (l : List Cpl) (s : State) : (flushHeld p l s).2.pdk.length = s.pdk.length := by
  induction l generalizing s with
  | nil => rfl
  | cons x t ih => unfold flushHeld; split <;> simp [ih]

/-! ### Finishing -/

/-- Held completions are written or stay held. -/
theorem flush_ended (s : State) (p : Nat) (c : Cpl) (hp : p < s.pdk.length) (hc : c ∈ (s.pd p).held) :
    s.Ended (s.flush p) p c.tag c.status c.result := by
  unfold State.flush
  rcases flushHeld_new p _ s c hc with ⟨o, ho, h⟩ | h
  · exact .inl ⟨o, ho, h⟩
  · refine .inr ⟨c, ?_, rfl, rfl, rfl⟩
    rw [pd_modPd _ _ _ (by simpa using hp)]
    exact h

/-- A finished descriptor has its completion. -/
theorem completeD_ended (s : State) (p : Nat) (d : Desc) (st r : Nat) (buf : Bool) (hp : p < s.pdk.length) :
    s.Ended (s.completeD p d st r buf) p d.tag st (r % 2 ^ 32) := by
  unfold State.completeD
  exact flush_ended (s.modPd p _) p
    { cq := s.get (F.PDK_SQi_CFG_CQ p d.sq), num := d.num, tag := d.tag, status := st, flags := b2n d.retried + 2 * b2n buf, result := r % 2 ^ 32,
      onDone := bitOf d.flags 1, chrono := s.chrono } (by simpa using hp) (by rw [pd_modPd _ _ _ hp]; simp)

theorem pd_lt {s : State} {p : Nat} {d : Desc} (h : d ∈ (s.pd p).table) : p < s.pdk.length := by
  apply Classical.byContradiction
  intro hn
  have : s.pd p = Pdk.init := by unfold State.pd; simp [List.getD, List.getElem?_eq_none (Nat.le_of_not_lt hn)]
  rw [this] at h
  simp [Pdk.init] at h

/-- `finish` completes the descriptor with this number. -/
theorem finish_ended {s : State} {p num st r : Nat} {buf : Bool} {d : Desc}
    (h : (s.pd p).table.find? (fun d => decide (d.num = num ∧ d.phase ≠ .finished)) = some d) :
    s.Ended (s.finish p num st r buf) p d.tag st (r % 2 ^ 32) := by
  have hp := pd_lt (List.mem_of_find?_eq_some h)
  unfold State.finish
  simp only [h]
  exact completeD_ended s p d st r buf hp

/-- The state with descriptor `d` of paddock `p` taken by its block (R66). -/
def takenState (s : State) (p : Nat) (d : Desc) : State :=
  let d' := { d with phase := .taken }
  let up := fun (x : Desc) => if x.num = d.num then d' else x
  let s := s.modPd p fun x => { x with table := x.table.map up, orphans := x.orphans.map up }
  if d.block = 7 then s.resided d.at_ else s

/-- What is found first under a condition is found first under a stricter one that it meets. -/
theorem find?_stricter {α : Type} {p q : α → Bool} {l : List α} {a : α} (h : l.find? p = some a) (hq : q a = true)
    (hpq : ∀ x, q x = true → p x = true) : l.find? q = some a := by
  induction l with
  | nil => simp at h
  | cons x t ih =>
    rw [List.find?_cons] at h ⊢
    cases hx : p x
    · rw [hx] at h
      rw [show q x = false from Bool.eq_false_iff.mpr fun hn => by simp [hpq x hn] at hx]
      exact ih h
    · rw [hx] at h
      obtain rfl : x = a := by simpa using h
      rw [hq]

/-- What stands ready is what its block's command finds. -/
theorem startable_ready {s : State} {p tag op : Nat} {d : Desc} (h : s.Ready p tag op d) : s.startable? p tag op = some d := by
  obtain ⟨h1, h2, h3, h4, -⟩ := h
  have ht := List.find?_some h1
  refine find?_stricter h1 ?_ fun x hx => ?_
  · simp only [decide_eq_true_eq] at ht ⊢
    exact ⟨ht.1, ht.2, h2, h3, h4⟩
  · simp only [decide_eq_true_eq] at hx ⊢
    exact ⟨hx.1, hx.2.1⟩

/-- What is next in its block's queue is taken. -/
theorem take_ready {s : State} {p tag op : Nat} {d : Desc} (h : s.Ready p tag op d) (f : Desc → State → State) :
    s.take p tag op f = f { d with phase := .taken } (takenState s p d) := by
  unfold State.take
  rw [startable_ready h]
  rfl

/-- The taken descriptor stands in the table. -/
theorem takenState_find {s : State} {p tag op : Nat} {d : Desc} (h : s.Ready p tag op d) :
    ((takenState s p d).pd p).table.find? (fun x => decide (x.num = d.num ∧ x.phase ≠ .finished)) = some { d with phase := .taken } := by
  obtain ⟨h1, h2, h3, h4, h5⟩ := h
  have hp := pd_lt h5
  have : ((takenState s p d).pd p).table =
      (s.pd p).table.map fun x => if x.num = d.num then { d with phase := .taken } else x := by
    unfold takenState
    dsimp only
    split
    · show ((State.modPd _ _ _).pd p).table = _
      rw [pd_modPd _ _ _ hp]
    · rw [pd_modPd _ _ _ hp]
  rw [this]
  revert h5
  generalize (s.pd p).table = l
  intro h5
  induction l with
  | nil => simp at h5
  | cons a t ih =>
    by_cases ha : a.num = d.num
    · simp [ha]
    · rw [List.map_cons, List.find?_cons_of_neg (by simp [ha])]
      exact ih ((List.mem_cons.mp h5).resolve_left fun e => ha (e ▸ rfl))

@[simp] theorem takenState_out (s : State) (p : Nat) (d : Desc) : (takenState s p d).out = s.out := by
  unfold takenState; dsimp only; split <;> rfl

end Sys2Proof.Laws
end

