-- ==== Sys2Proof/Laws/Crypto.lean ====
section
/-!
SUPPORT. What the sealing functions of Crypto.lean promise whatever the opaque functions are: lengths, that a signature made for a
key verifies under it, that a sealed text opens, and that an image with hash and signatures filled in passes those checks.
-/
namespace Sys2Proof.Laws

open Sys2Proof.Machine

@[simp] theorem padTo_length (n : Nat) (bs : List Nat) : (padTo n bs).length = n := by simp [padTo]

theorem padTo_self (bs : List Nat) : padTo bs.length bs = bs := by simp [padTo]

@[simp] theorem le_length (n v : Nat) : (le n v).length = n := by
  induction n generalizing v with
  | zero => rfl
  | succ n ih => simp [le, ih]

@[simp] theorem cryptoBytes_length (what n : Nat) (data : List Nat) : (cryptoBytes what n data).length = n := by
  simp [cryptoBytes]

@[simp] theorem signWith_length (what : Nat) (pk ctx m tail : List Nat) :
    (signWith what pk ctx m tail).length = 32 + tail.length := by simp [signWith]

theorem sigValid_signWith (what : Nat) (pk ctx m tail : List Nat) : sigValid what pk ctx m (signWith what pk ctx m tail) = true := by
  simp [sigValid, signWith]

/-- A dual signature block (R487) for a public key pair, from what only the signer can make. -/
def dualSig (pk : List Nat) (ctx : String) (hash ed ml : List Nat) : List Nat :=
  signWith 62 (pk.take 32) [] hash (padTo 32 ed) ++ signWith 63 (pk.drop 32) (ascii ctx) hash (padTo 3277 ml)

@[simp] theorem dualSig_length (pk : List Nat) (ctx : String) (hash ed ml : List Nat) : (dualSig pk ctx hash ed ml).length = 3373 := by
  simp only [dualSig, List.length_append, signWith_length, padTo_length]

theorem dualValid_dualSig (pk : List Nat) (ctx : String) (hash ed ml : List Nat) :
    dualValid pk ctx hash (dualSig pk ctx hash ed ml) = true := by
  have h : (signWith 62 (pk.take 32) [] hash (padTo 32 ed)).length = 64 := by rw [signWith_length, padTo_length]
  simp only [dualValid, dualSig]
  rw [List.take_left' h, List.drop_left' h]
  simp [ed25519Valid, mldsaValid, sigValid_signWith]

theorem xorBytes_twice (a k : List Nat) (h : a.length ≤ k.length) : xorBytes (xorBytes a k) k = a := by
  induction a generalizing k with
  | nil => simp [xorBytes]
  | cons x a ih =>
    cases k with
    | nil => simp at h
    | cons y k =>
      have := ih k (by simpa using h)
      simp only [xorBytes] at this
      simp [xorBytes, Nat.xor_assoc, this]

theorem gcmOpen_gcmSeal (key nonce aad text : List Nat) (n : Nat) (h : text.length = n) :
    gcmOpen key nonce aad n (gcmSeal key nonce aad text) = some text := by
  subst h
  have hl : (xorBytes text (gcmStream key nonce text.length)).length = text.length := by simp [xorBytes, gcmStream]
  have h1 : (gcmSeal key nonce aad text).take text.length = xorBytes text (gcmStream key nonce text.length) := by
    simp only [gcmSeal]; rw [List.take_append_of_le_length (by omega), List.take_of_length_le (by omega)]
  have h2 : (gcmSeal key nonce aad text).drop text.length = gcmTag key nonce aad (xorBytes text (gcmStream key nonce text.length)) := by
    simp only [gcmSeal]; rw [List.drop_append_of_le_length (by omega), List.drop_of_length_le (by omega)]; rfl
  simp only [gcmOpen, h1, h2, hl, and_self, if_true]
  rw [xorBytes_twice _ _ (by simp [gcmStream])]

/-! ### Images (R488-R492) -/

/-- An image form with its PAYLOAD_HASH and signature block filled in for the signer's key. -/
def sealImg (s : State) (b : List Nat) : List Nat :=
  b.take 32 ++ (sha512 (imgPayload b) ++ ((b.drop 96).take (160 + imgLen b) ++
    dualSig (s.signerKey (leAt b 96 4)) "ESW-SWTH" (sha512 (b.take 32 ++ (sha512 (imgPayload b) ++ (b.drop 96).take 160))) [] []))

section
variable {s : State} {b : List Nat} (hb : b.length = 256 + imgLen b + 3373)
include hb

theorem sealImg_length : (sealImg s b).length = 256 + imgLen b + 3373 := by
  simp [sealImg, sha512]; omega

theorem sealImg_get (k : Nat) (h : k < 32 ∨ 96 ≤ k ∧ k < 256 + imgLen b) : (sealImg s b)[k]? = b[k]? := by
  have h1 : (b.take 32).length = 32 := by rw [List.length_take]; omega
  have h2 : (sha512 (imgPayload b)).length = 64 := by simp [sha512]
  have h3 : ((b.drop 96).take (160 + imgLen b)).length = 160 + imgLen b := by rw [List.length_take, List.length_drop]; omega
  rcases h with h | ⟨h, h'⟩
  · rw [sealImg, List.getElem?_append_left (by omega), List.getElem?_take_of_lt h]
  · rw [sealImg, List.getElem?_append_right (by omega), List.getElem?_append_right (by omega), List.getElem?_append_left (by omega),
      List.getElem?_take_of_lt (by omega), List.getElem?_drop]
    congr 1; omega

theorem sealImg_win (i n : Nat) (h : i + n ≤ 32 ∨ 96 ≤ i ∧ i + n ≤ 256 + imgLen b) :
    ((sealImg s b).drop i).take n = (b.drop i).take n := by
  apply List.ext_getElem?
  intro j
  by_cases hj : j < n
  · rw [List.getElem?_take_of_lt hj, List.getElem?_take_of_lt hj, List.getElem?_drop, List.getElem?_drop, sealImg_get hb _ (by omega)]
  · simp [List.getElem?_take, hj]

theorem sealImg_leAt (i n : Nat) (h : i + n ≤ 32 ∨ 96 ≤ i ∧ i + n ≤ 256 + imgLen b) : leAt (sealImg s b) i n = leAt b i n := by
  rw [leAt, leAt, sealImg_win hb i n h]

theorem sealImg_byteAt (k : Nat) (h : k < 32 ∨ 96 ≤ k ∧ k < 256 + imgLen b) : byteAt (sealImg s b) k = byteAt b k := by
  simp only [byteAt, List.getD_eq_getElem?_getD, sealImg_get hb k h]

theorem sealImg_zeros (i j : Nat) (hij : i ≤ j) (h : j < 32 ∨ 96 ≤ i ∧ j < 256 + imgLen b) : zeros (sealImg s b) i j = zeros b i j := by
  rw [zeros, zeros, List.drop_take, List.drop_take, sealImg_win hb i (j + 1 - i) (by omega)]

theorem sealImg_kind : imgKind (sealImg s b) = imgKind b := sealImg_byteAt hb 5 (by omega)
theorem sealImg_enc : imgEnc (sealImg s b) = imgEnc b := by rw [imgEnc, imgEnc, sealImg_leAt hb 6 2 (by omega)]
theorem sealImg_epoch : imgEpoch (sealImg s b) = imgEpoch b := sealImg_leAt hb 8 4 (by omega)
theorem sealImg_rbId : imgRbId (sealImg s b) = imgRbId b := sealImg_leAt hb 12 2 (by omega)
theorem sealImg_rb : imgRb (sealImg s b) = imgRb b := sealImg_leAt hb 16 4 (by omega)
theorem sealImg_len : imgLen (sealImg s b) = imgLen b := sealImg_leAt hb 20 4 (by omega)
theorem sealImg_payload : imgPayload (sealImg s b) = imgPayload b := by
  rw [imgPayload, imgPayload, sealImg_len hb]; exact sealImg_win hb 256 (imgLen b) (by omega)
theorem sealImg_plainLen : imgPlainLen (sealImg s b) = imgPlainLen b := by rw [imgPlainLen, imgPlainLen, sealImg_enc hb, sealImg_len hb]
theorem sealImg_plain (t : State) (he : imgEnc b = false) : t.imgPlain (sealImg s b) = some (imgPayload b) := by
  simp [State.imgPlain, sealImg_enc hb, he, sealImg_payload hb]

theorem sealImg_form (kinds : Nat → Bool) : imgForm (sealImg s b) kinds = imgForm b kinds := by
  have hz := sealImg_zeros (s := s) hb
  have t4 : (sealImg s b).take 4 = b.take 4 := sealImg_win hb 0 4 (by omega)
  simp only [imgForm, sealImg_kind hb, sealImg_enc hb, sealImg_epoch hb, sealImg_rbId hb, sealImg_len hb, sealImg_plainLen hb, t4,
    sealImg_byteAt hb 4 (by omega), sealImg_leAt hb 6 2 (by omega), hz 14 15 (by omega) (by omega), hz 106 127 (by omega) (by omega),
    hz 192 255 (by omega) (by omega), hz 100 105 (by omega) (by omega), sealImg_length hb, hb]

theorem sealImg_signed : s.imgSigned (sealImg s b) = true := by
  have h1 : (b.take 32).length = 32 := by rw [List.length_take]; omega
  have h2 : (sha512 (imgPayload b)).length = 64 := by simp [sha512]
  have h3 : ((b.drop 96).take (160 + imgLen b)).length = 160 + imgLen b := by rw [List.length_take, List.length_drop]; omega
  have hh : (sealImg s b).take 256 = b.take 32 ++ (sha512 (imgPayload b) ++ (b.drop 96).take 160) := by
    simp only [sealImg, List.take_append, h1, h2, h3]
    rw [List.take_of_length_le (by omega), List.take_of_length_le (l := sha512 _) (by omega), List.take_take,
      show 256 - 32 - 64 - (160 + imgLen b) = 0 by omega, show min (256 - 32 - 64) (160 + imgLen b) = 160 by omega]
    simp
  have hs : imgSigs (sealImg s b) =
      dualSig (s.signerKey (leAt b 96 4)) "ESW-SWTH" (sha512 (b.take 32 ++ (sha512 (imgPayload b) ++ (b.drop 96).take 160))) [] [] := by
    rw [imgSigs, sealImg_len hb]
    simp only [sealImg, List.drop_append, h1, h2, h3]
    rw [List.drop_of_length_le (by omega), List.drop_of_length_le (l := sha512 _) (by omega),
      List.drop_of_length_le (l := (b.drop 96).take _) (by omega), show 256 + imgLen b - 32 - 64 - (160 + imgLen b) = 0 by omega]
    simp
  have hq : ((sealImg s b).drop 32).take 64 = sha512 (imgPayload b) := by
    simp only [sealImg, List.drop_append, h1]
    rw [List.drop_of_length_le (by omega)]
    simp only [List.nil_append, Nat.sub_self, List.drop_zero]
    rw [List.take_append_of_le_length (by omega), List.take_of_length_le (by omega)]
  rw [State.imgSigned, sealImg_leAt hb 96 4 (by omega), hh, hs, sealImg_payload hb, hq, dualValid_dualSig]
  simp

/-- What checks 1 to 6 of R492 ask of an image beside hash and signatures: form, binding, window, signer, rollback, epoch, and that
an encrypted one opens. -/
theorem sealImg_status (port new : Nat) (kinds : Nat → Bool) (keyBad : Bool) (hf : imgForm b kinds = true)
    (hser : ¬ ((leAt b 24 8 ≠ 0 ∨ 0x20 ≤ imgKind b) ∧ leAt b 24 8 ≠ s.get F.GLB_SERIAL))
    (hw : imgKind b = 0x22 → s.flag F.TCK_WIN_STATE_OPEN = true ∧ s.ownsWindow port = true)
    (hsig : s.signerOk (imgKind b) (leAt b 96 4) = true) (hrb : s.rbOk b = true)
    (hep : ¬ (isTable (imgKind b) = true ∧ imgEpoch b ≤ s.get F.TCK_EPOCH))
    (pl : List Nat) (hpl : s.imgPlain (sealImg s b) = some pl) (hk : imgEnc b = true → keyBad = false)
    (hp : s.payStatus port new b pl = none) : s.imgStatus port new (sealImg s b) kinds keyBad = none := by
  have ps : s.payStatus port new (sealImg s b) pl = none := by
    rw [← hp]; simp only [State.payStatus, sealImg_kind hb, sealImg_rbId hb]
  have rbk : s.rbOk (sealImg s b) = true := by rw [← hrb]; simp only [State.rbOk, sealImg_rbId hb, sealImg_rb hb]
  simp only [State.imgStatus, sealImg_form hb, hf, hpl, ps, sealImg_enc hb, sealImg_kind hb, sealImg_leAt hb 24 8 (by omega),
    sealImg_leAt hb 96 4 (by omega), hsig, sealImg_signed hb, rbk, sealImg_epoch hb]
  have h22 : ¬ (imgKind b = 0x22 ∧ s.flag F.TCK_WIN_STATE_OPEN = false) ∧ ¬ (imgKind b = 0x22 ∧ s.ownsWindow port = false) := by
    constructor <;> rintro ⟨h, h'⟩ <;> simp [hw h] at h'
  cases he : imgEnc b
  · simp [hser, hep, h22.1, h22.2]
  · simp [hser, hep, h22.1, h22.2, hk he]

end

end Sys2Proof.Laws
end

