-- ==== Sys2Proof/Laws/WithinRegAccess.lean ====
section
/-!
SUPPORT. What the operations of Machine/RegAccess.lean may touch.
-/
namespace Sys2Proof.Laws

open Sys2Proof.Machine

theorem deny_within (s : State) (p off : Nat) :
    Within 0x400200080004 s (State.deny s p off) := by
  have h0 := Within.refl 0x400200080004 s
  unfold State.deny
  try lift_lets -underBinder
  repeat' first
    | with_reducible assumption
    | with_reducible refine Within.ite ?_ ?_
    | with_reducible refine (raisePdk_within _ _ _ _ _).step ?_ rfl
    | with_reducible refine Within.set 1 ?_ ?_ rfl
    | with_reducible refine Within.setB 1 ?_ ?_ rfl
    | with_reducible refine Within.foldl _ ?_ ?_
    | (intro (x : State); refine Within.cut (x := x) (m := 0x400200080004) (s := s) ?_ (fun hx => ?_); unfold x)
    | intro x
    | lift_lets -underBinder
    | split
    | exact rfl
    | (split <;> rfl)
    | clear_value *

theorem writeFields_within (s : State) (r : RegRow) (base w : Nat) :
    Within 0xFFFFFFFFFFFFFFFFFFFFFFFFFFFFFFFFFFFFFFFFFFFFFFFFFFFFFFFFFFFFFFFF00000000 s (State.writeFields s r base w) := by
  have h0 := Within.refl 0xFFFFFFFFFFFFFFFFFFFFFFFFFFFFFFFFFFFFFFFFFFFFFFFFFFFFFFFFFFFFFFFF00000000 s
  unfold State.writeFields
  try lift_lets -underBinder
  repeat' first
    | with_reducible assumption
    | with_reducible refine Within.ite ?_ ?_
    | with_reducible refine Within.set_all ?_ rfl
    | with_reducible refine Within.foldl _ ?_ ?_
    | (intro (x : State); refine Within.cut (x := x) (m := 0xFFFFFFFFFFFFFFFFFFFFFFFFFFFFFFFFFFFFFFFFFFFFFFFFFFFFFFFFFFFFFFFF00000000) (s := s) ?_ (fun hx => ?_); unfold x)
    | intro x
    | lift_lets -underBinder
    | split
    | exact rfl
    | (split <;> rfl)
    | clear_value *

theorem writeRwp_within (s : State) (r : RegRow) (base w : Nat) :
    Within 0xFFFFFFFFFFFFFFFFFFFFFFFFFFFFFFFFFFFFFFFFFFFFFFFFFFFFFFFFFFFFFFFF00000000 s (State.writeRwp s r base w) := by
  have h0 := Within.refl 0xFFFFFFFFFFFFFFFFFFFFFFFFFFFFFFFFFFFFFFFFFFFFFFFFFFFFFFFFFFFFFFFF00000000 s
  unfold State.writeRwp
  try lift_lets -underBinder
  repeat' first
    | with_reducible assumption
    | with_reducible refine Within.ite ?_ ?_
    | with_reducible refine Within.set_all ?_ rfl
    | with_reducible refine Within.foldl _ ?_ ?_
    | (intro (x : State); refine Within.cut (x := x) (m := 0xFFFFFFFFFFFFFFFFFFFFFFFFFFFFFFFFFFFFFFFFFFFFFFFFFFFFFFFFFFFFFFFF00000000) (s := s) ?_ (fun hx => ?_); unfold x)
    | intro x
    | lift_lets -underBinder
    | split
    | exact rfl
    | (split <;> rfl)
    | clear_value *

theorem offDomain_within (s : State) (p off : Nat) (write : Bool) :
    Within 0x400300080004 s (State.offDomain s p off write) := by
  have h0 := Within.refl 0x400300080004 s
  unfold State.offDomain
  try lift_lets -underBinder
  repeat' first
    | with_reducible assumption
    | with_reducible refine Within.ite ?_ ?_
    | with_reducible refine Within.setB 0 ?_ ?_ rfl
    | with_reducible refine Within.set 0 ?_ ?_ rfl
    | with_reducible refine (raiseOwn_within _ _ _ _ _).step ?_ rfl
    | with_reducible refine Within.foldl _ ?_ ?_
    | (intro (x : State); refine Within.cut (x := x) (m := 0x400300080004) (s := s) ?_ (fun hx => ?_); unfold x)
    | intro x
    | lift_lets -underBinder
    | split
    | exact rfl
    | (split <;> rfl)
    | clear_value *

theorem setupWrite_within {m : Nat} {s t : State} {p off val : Nat} {f : RegRow → Nat → Nat → State → State} (h0 : Within m s t)
    (hf : ∀ r b w u, Within m s u → Within m s (f r b w u)) (hm : 0x400300080004 ||| m = m) : Within m s (t.setupWrite p off val f) := by
  have hsub : ∀ k, k ||| 0x400300080004 = 0x400300080004 → k ||| m = m := fun k hk => by rw [← hm, ← Nat.or_assoc, hk]
  unfold State.setupWrite
  try lift_lets -underBinder
  repeat' first
    | with_reducible assumption
    | with_reducible refine Within.ite ?_ ?_
    | with_reducible refine (offDomain_within _ _ _ _).step ?_ (hsub _ rfl)
    | with_reducible refine (deny_within _ _ _).step ?_ (hsub _ rfl)
    | with_reducible refine hf _ _ _ _ ?_
    | intro x
    | lift_lets -underBinder
    | split

theorem clearRegs_within (s : State) (which : Nat → Retention → Bool) : Within 0xFFFFFFFFFFFFFFFFFFFFFFFFFFFFFFFFFFFFFFFFFFFFFFFFFFFFFFFFFFFFFFFF00000000 s (s.clearRegs which) := by
  refine { Within.refl _ s with wf := fun h => sparseWf_filter _ h, host := id, regs := fun k hk => ?_ }
  rw [show windowOf k = windowOf k % 256 from (Nat.mod_mod _ _).symm, allWin] at hk
  cases hk

end Sys2Proof.Laws
end

