-- ==== Sys2Proof/Laws/WithinHalterOps.lean ====
section
/-!
SUPPORT. What the operations of Machine/HalterOps.lean may touch.
-/
namespace Sys2Proof.Laws

open Sys2Proof.Machine

theorem modLink_within (s : State) (n : Nat) (f : Slk → Slk) :
    Within 0x8 s (State.modLink s n f) := by
  have h0 := Within.refl 0x8 s
  unfold State.modLink
  try lift_lets -underBinder
  repeat' first
    | with_reducible assumption
    | with_reducible refine Within.ite ?_ ?_
    | with_reducible refine Within.foldl _ ?_ ?_
    | (intro (x : State); refine Within.cut (x := x) (m := 0x8) (s := s) ?_ (fun hx => ?_); unfold x)
    | intro x
    | lift_lets -underBinder
    | split
    | with_reducible refine Within.slkUpd.step ?_ rfl
    | exact rfl
    | (split <;> rfl)
    | clear_value *

theorem modWalk_within (s : State) (n : Nat) (f : Wlk → Wlk) :
    Within 0x10 s (State.modWalk s n f) := by
  have h0 := Within.refl 0x10 s
  unfold State.modWalk
  try lift_lets -underBinder
  repeat' first
    | with_reducible assumption
    | with_reducible refine Within.ite ?_ ?_
    | with_reducible refine Within.foldl _ ?_ ?_
    | (intro (x : State); refine Within.cut (x := x) (m := 0x10) (s := s) ?_ (fun hx => ?_); unfold x)
    | intro x
    | lift_lets -underBinder
    | split
    | with_reducible refine Within.wlkUpd.step ?_ rfl
    | exact rfl
    | (split <;> rfl)
    | clear_value *

theorem modHalt_within (s : State) (n : Nat) (f : Halt → Halt) :
    Within 0x20 s (State.modHalt s n f) := by
  have h0 := Within.refl 0x20 s
  unfold State.modHalt
  try lift_lets -underBinder
  repeat' first
    | with_reducible assumption
    | with_reducible refine Within.ite ?_ ?_
    | with_reducible refine Within.foldl _ ?_ ?_
    | (intro (x : State); refine Within.cut (x := x) (m := 0x20) (s := s) ?_ (fun hx => ?_); unfold x)
    | intro x
    | lift_lets -underBinder
    | split
    | with_reducible refine Within.haltSUpd.step ?_ rfl
    | exact rfl
    | (split <;> rfl)
    | clear_value *

theorem modRec_within (s : State) (n : Nat) (f : StallRec → StallRec) :
    Within 0x40 s (State.modRec s n f) := by
  have h0 := Within.refl 0x40 s
  unfold State.modRec
  try lift_lets -underBinder
  repeat' first
    | with_reducible assumption
    | with_reducible refine Within.ite ?_ ?_
    | with_reducible refine Within.foldl _ ?_ ?_
    | (intro (x : State); refine Within.cut (x := x) (m := 0x40) (s := s) ?_ (fun hx => ?_); unfold x)
    | intro x
    | lift_lets -underBinder
    | split
    | with_reducible refine Within.stallRecUpd.step ?_ rfl
    | exact rfl
    | (split <;> rfl)
    | clear_value *

theorem block_within (s : State) (n cause : Nat) :
    Within 0x501200080004 s (State.block s n cause) := by
  have h0 := Within.refl 0x501200080004 s
  unfold State.block
  try lift_lets -underBinder
  repeat' first
    | with_reducible assumption
    | with_reducible refine Within.ite ?_ ?_
    | ((with_reducible refine Within.set 4 ?_ ?hw rfl); case hw => first | exact rfl | assumption | (split <;> rfl))
    | ((with_reducible refine Within.set 12 ?_ ?hw rfl); case hw => first | exact rfl | assumption | (split <;> rfl))
    | with_reducible refine (raise_within _ _ _ _ _).step ?_ rfl
    | ((with_reducible refine Within.setB 4 ?_ ?hw rfl); case hw => first | exact rfl | assumption | (split <;> rfl))
    | ((with_reducible refine Within.setB 12 ?_ ?hw rfl); case hw => first | exact rfl | assumption | (split <;> rfl))
    | with_reducible refine Within.foldl _ ?_ ?_
    | (intro (x : State); refine Within.cut (x := x) (m := 0x501200080004) (s := s) ?_ (fun hx => ?_); unfold x)
    | intro x
    | lift_lets -underBinder
    | split
    | exact rfl
    | (split <;> rfl)
    | clear_value *

theorem sessionRest_within (s : State) (n : Nat) :
    Within 0x501200080004 s (State.sessionRest s n) := by
  have h0 := Within.refl 0x501200080004 s
  unfold State.sessionRest
  try lift_lets -underBinder
  repeat' first
    | with_reducible assumption
    | with_reducible refine Within.ite ?_ ?_
    | with_reducible refine (block_within _ _ _).step ?_ rfl
    | with_reducible refine Within.set 12 ?_ ?_ rfl
    | with_reducible refine Within.foldl _ ?_ ?_
    | (intro (x : State); refine Within.cut (x := x) (m := 0x501200080004) (s := s) ?_ (fun hx => ?_); unfold x)
    | intro x
    | lift_lets -underBinder
    | split
    | exact rfl
    | (split <;> rfl)
    | clear_value *

theorem setMode_within (s : State) (n m st : Nat) :
    Within 0x511200080004 s (State.setMode s n m st) := by
  have h0 := Within.refl 0x511200080004 s
  unfold State.setMode
  try lift_lets -underBinder
  repeat' first
    | with_reducible assumption
    | with_reducible refine Within.ite ?_ ?_
    | ((with_reducible refine Within.set 4 ?_ ?hw rfl); case hw => first | exact rfl | assumption | (split <;> rfl))
    | ((with_reducible refine Within.set 8 ?_ ?hw rfl); case hw => first | exact rfl | assumption | (split <;> rfl))
    | with_reducible refine (sessionRest_within _ _).step ?_ rfl
    | with_reducible refine Within.foldl _ ?_ ?_
    | (intro (x : State); refine Within.cut (x := x) (m := 0x511200080004) (s := s) ?_ (fun hx => ?_); unfold x)
    | intro x
    | lift_lets -underBinder
    | split
    | exact rfl
    | (split <;> rfl)
    | clear_value *

theorem startRamp_within (s : State) (n : Nat) :
    Within 0x10 s (State.startRamp s n) := by
  have h0 := Within.refl 0x10 s
  unfold State.startRamp
  try lift_lets -underBinder
  repeat' first
    | with_reducible assumption
    | with_reducible refine Within.ite ?_ ?_
    | with_reducible refine (modWalk_within _ _ _).step ?_ rfl
    | with_reducible refine Within.foldl _ ?_ ?_
    | (intro (x : State); refine Within.cut (x := x) (m := 0x10) (s := s) ?_ (fun hx => ?_); unfold x)
    | intro x
    | lift_lets -underBinder
    | split
    | exact rfl
    | (split <;> rfl)
    | clear_value *

theorem failMode_within (s : State) (n cause : Nat) :
    Within 0x511200080014 s (State.failMode s n cause) := by
  have h0 := Within.refl 0x511200080014 s
  unfold State.failMode
  try lift_lets -underBinder
  repeat' first
    | with_reducible assumption
    | with_reducible refine Within.ite ?_ ?_
    | with_reducible refine (raise_within _ _ _ _ _).step ?_ rfl
    | with_reducible refine Within.set 4 ?_ ?_ rfl
    | with_reducible refine (startRamp_within _ _).step ?_ rfl
    | with_reducible refine (modWalk_within _ _ _).step ?_ rfl
    | with_reducible refine (setMode_within _ _ _ _).step ?_ rfl
    | with_reducible refine Within.foldl _ ?_ ?_
    | (intro (x : State); refine Within.cut (x := x) (m := 0x511200080014) (s := s) ?_ (fun hx => ?_); unfold x)
    | intro x
    | lift_lets -underBinder
    | split
    | exact rfl
    | (split <;> rfl)
    | clear_value *

theorem refuseMode_within (s : State) (n m cause : Nat) :
    Within 0x401200080004 s (State.refuseMode s n m cause) := by
  have h0 := Within.refl 0x401200080004 s
  unfold State.refuseMode
  try lift_lets -underBinder
  repeat' first
    | with_reducible assumption
    | with_reducible refine Within.ite ?_ ?_
    | with_reducible refine (raise_within _ _ _ _ _).step ?_ rfl
    | with_reducible refine Within.set 4 ?_ ?_ rfl
    | with_reducible refine Within.foldl _ ?_ ?_
    | (intro (x : State); refine Within.cut (x := x) (m := 0x401200080004) (s := s) ?_ (fun hx => ?_); unfold x)
    | intro x
    | lift_lets -underBinder
    | split
    | exact rfl
    | (split <;> rfl)
    | clear_value *

theorem startTwoStep_within (s : State) (n : Nat) :
    Within 0x10 s (State.startTwoStep s n) := by
  have h0 := Within.refl 0x10 s
  unfold State.startTwoStep
  try lift_lets -underBinder
  repeat' first
    | with_reducible assumption
    | with_reducible refine Within.ite ?_ ?_
    | with_reducible refine (modWalk_within _ _ _).step ?_ rfl
    | with_reducible refine Within.foldl _ ?_ ?_
    | (intro (x : State); refine Within.cut (x := x) (m := 0x10) (s := s) ?_ (fun hx => ?_); unfold x)
    | intro x
    | lift_lets -underBinder
    | split
    | exact rfl
    | (split <;> rfl)
    | clear_value *

theorem refreshCeil_within (s : State) (n : Nat) :
    Within 0x100000000020 s (State.refreshCeil s n) := by
  have h0 := Within.refl 0x100000000020 s
  unfold State.refreshCeil
  try lift_lets -underBinder
  repeat' first
    | with_reducible assumption
    | with_reducible refine Within.ite ?_ ?_
    | with_reducible refine (modHalt_within _ _ _).step ?_ rfl
    | with_reducible refine Within.set 12 ?_ ?_ rfl
    | with_reducible refine Within.foldl _ ?_ ?_
    | (intro (x : State); refine Within.cut (x := x) (m := 0x100000000020) (s := s) ?_ (fun hx => ?_); unfold x)
    | intro x
    | lift_lets -underBinder
    | split
    | exact rfl
    | (split <;> rfl)
    | clear_value *

theorem refreshSafeOut_within (s : State) :
    Within 0x100000000000 s (State.refreshSafeOut s) := by
  have h0 := Within.refl 0x100000000000 s
  unfold State.refreshSafeOut
  try lift_lets -underBinder
  repeat' first
    | with_reducible assumption
    | with_reducible refine Within.ite ?_ ?_
    | with_reducible refine Within.setB 12 ?_ ?_ rfl
    | with_reducible refine Within.foldl _ ?_ ?_
    | (intro (x : State); refine Within.cut (x := x) (m := 0x100000000000) (s := s) ?_ (fun hx => ?_); unfold x)
    | intro x
    | lift_lets -underBinder
    | split
    | exact rfl
    | (split <;> rfl)
    | clear_value *

theorem dropClose_within (s : State) (n : Nat) (low : Bool) :
    Within 0x10 s (State.dropClose s n low) := by
  have h0 := Within.refl 0x10 s
  unfold State.dropClose
  try lift_lets -underBinder
  repeat' first
    | with_reducible assumption
    | with_reducible refine Within.ite ?_ ?_
    | with_reducible refine (modWalk_within _ _ _).step ?_ rfl
    | with_reducible refine Within.foldl _ ?_ ?_
    | (intro (x : State); refine Within.cut (x := x) (m := 0x10) (s := s) ?_ (fun hx => ?_); unfold x)
    | intro x
    | lift_lets -underBinder
    | split
    | exact rfl
    | (split <;> rfl)
    | clear_value *

theorem permitRefused_within (s : State) (n : Nat) :
    Within 0x400200080024 s (State.permitRefused s n) := by
  have h0 := Within.refl 0x400200080024 s
  unfold State.permitRefused
  try lift_lets -underBinder
  repeat' first
    | with_reducible assumption
    | with_reducible refine Within.ite ?_ ?_
    | with_reducible refine (raise_within _ _ _ _ _).step ?_ rfl
    | with_reducible refine (modHalt_within _ _ _).step ?_ rfl
    | with_reducible refine Within.foldl _ ?_ ?_
    | (intro (x : State); refine Within.cut (x := x) (m := 0x400200080024) (s := s) ?_ (fun hx => ?_); unfold x)
    | intro x
    | lift_lets -underBinder
    | split
    | exact rfl
    | (split <;> rfl)
    | clear_value *

theorem stopStall_within (s : State) (n : Nat) (kind : StopKind) (cause : Nat) :
    Within 0x511200080034 s (State.stopStall s n kind cause) := by
  have h0 := Within.refl 0x511200080034 s
  unfold State.stopStall
  try lift_lets -underBinder
  repeat' first
    | with_reducible assumption
    | with_reducible refine Within.ite ?_ ?_
    | with_reducible refine (modHalt_within _ _ _).step ?_ rfl
    | with_reducible refine Within.set 12 ?_ ?_ rfl
    | with_reducible refine Within.incSat 12 ?_ ?_ rfl
    | with_reducible refine (raise_within _ _ _ _ _).step ?_ rfl
    | with_reducible refine (failMode_within _ _ _).step ?_ rfl
    | with_reducible refine (modWalk_within _ _ _).step ?_ rfl
    | with_reducible refine (setMode_within _ _ _ _).step ?_ rfl
    | with_reducible refine Within.foldl _ ?_ ?_
    | (intro (x : State); refine Within.cut (x := x) (m := 0x511200080034) (s := s) ?_ (fun hx => ?_); unfold x)
    | intro x
    | lift_lets -underBinder
    | split
    | exact rfl
    | (split <;> rfl)
    | clear_value *

theorem sensorTick_within (s : State) (n : Nat) :
    Within 0x100000000020 s (State.sensorTick s n) := by
  have h0 := Within.refl 0x100000000020 s
  unfold State.sensorTick
  try lift_lets -underBinder
  repeat' first
    | with_reducible assumption
    | with_reducible refine Within.ite ?_ ?_
    | with_reducible refine (modHalt_within _ _ _).step ?_ rfl
    | with_reducible refine Within.set 12 ?_ ?_ rfl
    | with_reducible refine Within.foldl _ ?_ ?_
    | (intro (x : State); refine Within.cut (x := x) (m := 0x100000000020) (s := s) ?_ (fun hx => ?_); unfold x)
    | intro x
    | lift_lets -underBinder
    | split
    | exact rfl
    | (split <;> rfl)
    | clear_value *

theorem degradedEvent_within (s : State) (n kind what : Nat) :
    Within 0x400200080004 s (State.degradedEvent s n kind what) := by
  have h0 := Within.refl 0x400200080004 s
  unfold State.degradedEvent
  try lift_lets -underBinder
  repeat' first
    | with_reducible assumption
    | with_reducible refine Within.ite ?_ ?_
    | with_reducible refine (raise_within _ _ _ _ _).step ?_ rfl
    | with_reducible refine Within.foldl _ ?_ ?_
    | (intro (x : State); refine Within.cut (x := x) (m := 0x400200080004) (s := s) ?_ (fun hx => ?_); unfold x)
    | intro x
    | lift_lets -underBinder
    | split
    | exact rfl
    | (split <;> rfl)
    | clear_value *

theorem sensorLost_within (s : State) (n i : Nat) :
    Within 0x511200080034 s (State.sensorLost s n i) := by
  have h0 := Within.refl 0x511200080034 s
  unfold State.sensorLost
  try lift_lets -underBinder
  repeat' first
    | with_reducible assumption
    | with_reducible refine Within.ite ?_ ?_
    | with_reducible refine (modHalt_within _ _ _).step ?_ rfl
    | with_reducible refine (sensorTick_within _ _).step ?_ rfl
    | with_reducible refine (refreshCeil_within _ _).step ?_ rfl
    | with_reducible refine (stopStall_within _ _ _ _).step ?_ rfl
    | with_reducible refine Within.set 12 ?_ ?_ rfl
    | with_reducible refine (degradedEvent_within _ _ _ _).step ?_ rfl
    | with_reducible refine Within.setB 12 ?_ ?_ rfl
    | with_reducible refine Within.foldl _ ?_ ?_
    | (intro (x : State); refine Within.cut (x := x) (m := 0x511200080034) (s := s) ?_ (fun hx => ?_); unfold x)
    | intro x
    | lift_lets -underBinder
    | split
    | exact rfl
    | (split <;> rfl)
    | clear_value *

theorem stopAll_within (s : State) (kind : StopKind) (cause : Nat) :
    Within 0x511200080034 s (State.stopAll s kind cause) := by
  have h0 := Within.refl 0x511200080034 s
  unfold State.stopAll
  try lift_lets -underBinder
  repeat' first
    | with_reducible assumption
    | with_reducible refine Within.ite ?_ ?_
    | with_reducible refine Within.forAll ?_ ?_
    | with_reducible refine (stopStall_within _ _ _ _).step ?_ rfl
    | with_reducible refine Within.foldl _ ?_ ?_
    | (intro (x : State); refine Within.cut (x := x) (m := 0x511200080034) (s := s) ?_ (fun hx => ?_); unfold x)
    | intro x
    | lift_lets -underBinder
    | split
    | exact rfl
    | (split <;> rfl)
    | clear_value *

end Sys2Proof.Laws
end

