-- ==== Sys2Proof/Laws/WithinYmsOps.lean ====
section
/-!
SUPPORT. What the operations of Machine/YmsOps.lean may touch.
-/
namespace Sys2Proof.Laws

open Sys2Proof.Machine

theorem refreshPolicy_within (s : State) (n : Nat) :
    Within 0x800000000 s (State.refreshPolicy s n) := by
  have h0 := Within.refl 0x800000000 s
  unfold State.refreshPolicy
  try lift_lets -underBinder
  repeat' first
    | with_reducible assumption
    | with_reducible refine Within.ite ?_ ?_
    | with_reducible refine Within.set 3 ?_ ?_ rfl
    | with_reducible refine Within.foldl _ ?_ ?_
    | (intro (x : State); refine Within.cut (x := x) (m := 0x800000000) (s := s) ?_ (fun hx => ?_); unfold x)
    | intro x
    | lift_lets -underBinder
    | split
    | exact rfl
    | (split <;> rfl)
    | clear_value *

theorem throttleArm_within (s : State) (n ceil idx : Nat) :
    Within 0x400A00080404 s (State.throttleArm s n ceil idx) := by
  have h0 := Within.refl 0x400A00080404 s
  unfold State.throttleArm
  try lift_lets -underBinder
  repeat' first
    | with_reducible assumption
    | with_reducible refine Within.ite ?_ ?_
    | with_reducible refine (modYms_within _ _).step ?_ rfl
    | with_reducible refine Within.set 3 ?_ ?_ rfl
    | with_reducible refine Within.setB 3 ?_ ?_ rfl
    | with_reducible refine (raise_within _ _ _ _ _).step ?_ rfl
    | with_reducible refine Within.foldl _ ?_ ?_
    | (intro (x : State); refine Within.cut (x := x) (m := 0x400A00080404) (s := s) ?_ (fun hx => ?_); unfold x)
    | intro x
    | lift_lets -underBinder
    | split
    | exact rfl
    | (split <;> rfl)
    | clear_value *

theorem throttleRelease_within (s : State) (n : Nat) :
    Within 0x400A00080404 s (State.throttleRelease s n) := by
  have h0 := Within.refl 0x400A00080404 s
  unfold State.throttleRelease
  try lift_lets -underBinder
  repeat' first
    | with_reducible assumption
    | with_reducible refine Within.ite ?_ ?_
    | with_reducible refine (modYms_within _ _).step ?_ rfl
    | with_reducible refine Within.set 3 ?_ ?_ rfl
    | with_reducible refine Within.setB 3 ?_ ?_ rfl
    | with_reducible refine (raise_within _ _ _ _ _).step ?_ rfl
    | with_reducible refine Within.foldl _ ?_ ?_
    | (intro (x : State); refine Within.cut (x := x) (m := 0x400A00080404) (s := s) ?_ (fun hx => ?_); unfold x)
    | intro x
    | lift_lets -underBinder
    | split
    | exact rfl
    | (split <;> rfl)
    | clear_value *

theorem throttleRaise_within (s : State) (n ceil idx : Nat) :
    Within 0x400A00080404 s (State.throttleRaise s n ceil idx) := by
  have h0 := Within.refl 0x400A00080404 s
  unfold State.throttleRaise
  try lift_lets -underBinder
  repeat' first
    | with_reducible assumption
    | with_reducible refine Within.ite ?_ ?_
    | with_reducible refine (throttleArm_within _ _ _ _).step ?_ rfl
    | with_reducible refine (modYms_within _ _).step ?_ rfl
    | with_reducible refine Within.foldl _ ?_ ?_
    | (intro (x : State); refine Within.cut (x := x) (m := 0x400A00080404) (s := s) ?_ (fun hx => ?_); unfold x)
    | intro x
    | lift_lets -underBinder
    | split
    | exact rfl
    | (split <;> rfl)
    | clear_value *

theorem throttleDrop_within (s : State) (n idx : Nat) :
    Within 0x400A00080404 s (State.throttleDrop s n idx) := by
  have h0 := Within.refl 0x400A00080404 s
  unfold State.throttleDrop
  try lift_lets -underBinder
  repeat' first
    | with_reducible assumption
    | with_reducible refine Within.ite ?_ ?_
    | with_reducible refine (throttleRelease_within _ _).step ?_ rfl
    | with_reducible refine (modYms_within _ _).step ?_ rfl
    | with_reducible refine Within.foldl _ ?_ ?_
    | (intro (x : State); refine Within.cut (x := x) (m := 0x400A00080404) (s := s) ?_ (fun hx => ?_); unfold x)
    | intro x
    | lift_lets -underBinder
    | split
    | exact rfl
    | (split <;> rfl)
    | clear_value *

theorem throttleDevArm_within (s : State) (ceil idx : Nat) :
    Within 0x400A00080404 s (State.throttleDevArm s ceil idx) := by
  have h0 := Within.refl 0x400A00080404 s
  unfold State.throttleDevArm
  try lift_lets -underBinder
  repeat' first
    | with_reducible assumption
    | with_reducible refine Within.ite ?_ ?_
    | with_reducible refine (modYms_within _ _).step ?_ rfl
    | with_reducible refine Within.set 3 ?_ ?_ rfl
    | with_reducible refine Within.setB 3 ?_ ?_ rfl
    | with_reducible refine (raise_within _ _ _ _ _).step ?_ rfl
    | with_reducible refine Within.foldl _ ?_ ?_
    | (intro (x : State); refine Within.cut (x := x) (m := 0x400A00080404) (s := s) ?_ (fun hx => ?_); unfold x)
    | intro x
    | lift_lets -underBinder
    | split
    | exact rfl
    | (split <;> rfl)
    | clear_value *

theorem throttleDevRelease_within (s : State) :
    Within 0x400A00080404 s (State.throttleDevRelease s) := by
  have h0 := Within.refl 0x400A00080404 s
  unfold State.throttleDevRelease
  try lift_lets -underBinder
  repeat' first
    | with_reducible assumption
    | with_reducible refine Within.ite ?_ ?_
    | with_reducible refine (modYms_within _ _).step ?_ rfl
    | with_reducible refine Within.set 3 ?_ ?_ rfl
    | with_reducible refine Within.setB 3 ?_ ?_ rfl
    | with_reducible refine (raise_within _ _ _ _ _).step ?_ rfl
    | with_reducible refine Within.foldl _ ?_ ?_
    | (intro (x : State); refine Within.cut (x := x) (m := 0x400A00080404) (s := s) ?_ (fun hx => ?_); unfold x)
    | intro x
    | lift_lets -underBinder
    | split
    | exact rfl
    | (split <;> rfl)
    | clear_value *

theorem enforce_within (s : State) (n : Nat) :
    Within 0x400A00080004 s (State.enforce s n) := by
  have h0 := Within.refl 0x400A00080004 s
  unfold State.enforce
  try lift_lets -underBinder
  repeat' first
    | with_reducible assumption
    | with_reducible refine Within.ite ?_ ?_
    | with_reducible refine (raise_within _ _ _ _ _).step ?_ rfl
    | with_reducible refine Within.setB 3 ?_ ?_ rfl
    | with_reducible refine Within.foldl _ ?_ ?_
    | (intro (x : State); refine Within.cut (x := x) (m := 0x400A00080004) (s := s) ?_ (fun hx => ?_); unfold x)
    | intro x
    | lift_lets -underBinder
    | split
    | exact rfl
    | (split <;> rfl)
    | clear_value *

theorem enforceDev_within (s : State) :
    Within 0x400A00080004 s (State.enforceDev s) := by
  have h0 := Within.refl 0x400A00080004 s
  unfold State.enforceDev
  try lift_lets -underBinder
  repeat' first
    | with_reducible assumption
    | with_reducible refine Within.ite ?_ ?_
    | with_reducible refine (raise_within _ _ _ _ _).step ?_ rfl
    | with_reducible refine Within.setB 3 ?_ ?_ rfl
    | with_reducible refine Within.foldl _ ?_ ?_
    | (intro (x : State); refine Within.cut (x := x) (m := 0x400A00080004) (s := s) ?_ (fun hx => ?_); unfold x)
    | intro x
    | lift_lets -underBinder
    | split
    | exact rfl
    | (split <;> rfl)
    | clear_value *

theorem modCab_within (s : State) (c : Nat) (f : Cab → Cab) :
    Within 0x400 s (State.modCab s c f) := by
  have h0 := Within.refl 0x400 s
  unfold State.modCab
  try lift_lets -underBinder
  repeat' first
    | with_reducible assumption
    | with_reducible refine Within.ite ?_ ?_
    | with_reducible refine (modYms_within _ _).step ?_ rfl
    | with_reducible refine Within.foldl _ ?_ ?_
    | (intro (x : State); refine Within.cut (x := x) (m := 0x400) (s := s) ?_ (fun hx => ?_); unfold x)
    | intro x
    | lift_lets -underBinder
    | split
    | exact rfl
    | (split <;> rfl)
    | clear_value *

theorem putCab_within (s : State) (c v : Nat) :
    Within 0x800000000 s (State.putCab s c v) := by
  have h0 := Within.refl 0x800000000 s
  unfold State.putCab
  try lift_lets -underBinder
  repeat' first
    | with_reducible assumption
    | with_reducible refine Within.ite ?_ ?_
    | with_reducible refine Within.set 3 ?_ ?_ rfl
    | with_reducible refine Within.foldl _ ?_ ?_
    | (intro (x : State); refine Within.cut (x := x) (m := 0x800000000) (s := s) ?_ (fun hx => ?_); unfold x)
    | intro x
    | lift_lets -underBinder
    | split
    | exact rfl
    | (split <;> rfl)
    | clear_value *

theorem setCab_within (s : State) (c v cause : Nat) :
    Within 0x400A00080004 s (State.setCab s c v cause) := by
  have h0 := Within.refl 0x400A00080004 s
  unfold State.setCab
  try lift_lets -underBinder
  repeat' first
    | with_reducible assumption
    | with_reducible refine Within.ite ?_ ?_
    | with_reducible refine (raise_within _ _ _ _ _).step ?_ rfl
    | with_reducible refine (putCab_within _ _ _).step ?_ rfl
    | with_reducible refine Within.foldl _ ?_ ?_
    | (intro (x : State); refine Within.cut (x := x) (m := 0x400A00080004) (s := s) ?_ (fun hx => ?_); unfold x)
    | intro x
    | lift_lets -underBinder
    | split
    | exact rfl
    | (split <;> rfl)
    | clear_value *

theorem showCabs_within (s : State) :
    Within 0x800000000 s (State.showCabs s) := by
  have h0 := Within.refl 0x800000000 s
  unfold State.showCabs
  try lift_lets -underBinder
  repeat' first
    | with_reducible assumption
    | with_reducible refine Within.ite ?_ ?_
    | with_reducible refine Within.forAll ?_ ?_
    | with_reducible refine (putCab_within _ _ _).step ?_ rfl
    | with_reducible refine Within.foldl _ ?_ ?_
    | (intro (x : State); refine Within.cut (x := x) (m := 0x800000000) (s := s) ?_ (fun hx => ?_); unfold x)
    | intro x
    | lift_lets -underBinder
    | split
    | exact rfl
    | (split <;> rfl)
    | clear_value *

theorem throttleFreeze_within (s : State) (n : Nat) :
    Within 0x400A00080404 s (State.throttleFreeze s n) := by
  have h0 := Within.refl 0x400A00080404 s
  unfold State.throttleFreeze
  try lift_lets -underBinder
  repeat' first
    | with_reducible assumption
    | with_reducible refine Within.ite ?_ ?_
    | with_reducible refine (modYms_within _ _).step ?_ rfl
    | with_reducible refine (enforce_within _ _).step ?_ rfl
    | with_reducible refine Within.foldl _ ?_ ?_
    | (intro (x : State); refine Within.cut (x := x) (m := 0x400A00080404) (s := s) ?_ (fun hx => ?_); unfold x)
    | intro x
    | lift_lets -underBinder
    | split
    | exact rfl
    | (split <;> rfl)
    | clear_value *

theorem throttleDevFreeze_within (s : State) :
    Within 0x400A00080404 s (State.throttleDevFreeze s) := by
  have h0 := Within.refl 0x400A00080404 s
  unfold State.throttleDevFreeze
  try lift_lets -underBinder
  repeat' first
    | with_reducible assumption
    | with_reducible refine Within.ite ?_ ?_
    | with_reducible refine (modYms_within _ _).step ?_ rfl
    | with_reducible refine (enforceDev_within _).step ?_ rfl
    | with_reducible refine Within.foldl _ ?_ ?_
    | (intro (x : State); refine Within.cut (x := x) (m := 0x400A00080404) (s := s) ?_ (fun hx => ?_); unfold x)
    | intro x
    | lift_lets -underBinder
    | split
    | exact rfl
    | (split <;> rfl)
    | clear_value *

theorem clampNode_within (fz : Frozen) (i : Nat) (acc : List Int × State) :
    Within 0x400A00080404 acc.2 (State.clampNode fz i acc).2 := by
  have h0 := Within.refl 0x400A00080404 acc.2
  unfold State.clampNode
  try lift_lets -underBinder
  repeat' first
    | with_reducible assumption
    | with_reducible refine Within.ite ?_ ?_
    | with_reducible refine Within.ite2 ?_ ?_
    | with_reducible refine (modYms_within _ _).step ?_ rfl
    | with_reducible refine Within.incSat 3 ?_ ?_ rfl
    | with_reducible refine Within.setB 3 ?_ ?_ rfl
    | with_reducible refine (raise_within _ _ _ _ _).step ?_ rfl
    | with_reducible refine Within.foldl _ ?_ ?_
    | with_reducible refine Within.foldl2 _ ?_ ?_
    | (intro (x : State); refine Within.cut (x := x) (m := 0x400A00080404) (s := acc.2) ?_ (fun hx => ?_); unfold x)
    | intro x
    | lift_lets -underBinder
    | split
    | exact rfl
    | (split <;> rfl)
    | clear_value *

theorem clampAll_within (s : State) (fz : Frozen) (t : List Int) :
    Within 0x400A00080404 s (State.clampAll s fz t).2 := by
  have h0 := Within.refl 0x400A00080404 s
  unfold State.clampAll
  try lift_lets -underBinder
  repeat' first
    | with_reducible assumption
    | with_reducible refine Within.ite ?_ ?_
    | with_reducible refine Within.ite2 ?_ ?_
    | with_reducible refine (clampNode_within _ _ _).step ?_ rfl
    | with_reducible refine Within.foldl _ ?_ ?_
    | with_reducible refine Within.foldl2 _ ?_ ?_
    | (intro (x : State); refine Within.cut (x := x) (m := 0x400A00080404) (s := s) ?_ (fun hx => ?_); unfold x)
    | intro x
    | lift_lets -underBinder
    | split
    | exact rfl
    | (split <;> rfl)
    | clear_value *

theorem putTargets_within (s : State) (fz : Frozen) (t : List Int) (short : List Bool) :
    Within 0x800000400 s (State.putTargets s fz t short) := by
  have h0 := Within.refl 0x800000400 s
  unfold State.putTargets
  try lift_lets -underBinder
  repeat' first
    | with_reducible assumption
    | with_reducible refine Within.ite ?_ ?_
    | with_reducible refine Within.setS 3 ?_ ?_ rfl
    | with_reducible refine (modYms_within _ _).step ?_ rfl
    | with_reducible refine Within.set 3 ?_ ?_ rfl
    | with_reducible refine Within.foldl _ ?_ ?_
    | (intro (x : State); refine Within.cut (x := x) (m := 0x800000400) (s := s) ?_ (fun hx => ?_); unfold x)
    | intro x
    | lift_lets -underBinder
    | split
    | exact rfl
    | (split <;> rfl)
    | clear_value *

theorem stage_within (s : State) (fz : Frozen) (t : List Int) :
    Within 0x400 s (State.stage s fz t) := by
  have h0 := Within.refl 0x400 s
  unfold State.stage
  try lift_lets -underBinder
  repeat' first
    | with_reducible assumption
    | with_reducible refine Within.ite ?_ ?_
    | with_reducible refine (modYms_within _ _).step ?_ rfl
    | with_reducible refine Within.foldl _ ?_ ?_
    | (intro (x : State); refine Within.cut (x := x) (m := 0x400) (s := s) ?_ (fun hx => ?_); unfold x)
    | intro x
    | lift_lets -underBinder
    | split
    | exact rfl
    | (split <;> rfl)
    | clear_value *

theorem endRamps_within (s : State) (fz : Frozen) (t : List Int) :
    Within 0x800000400 s (State.endRamps s fz t) := by
  have h0 := Within.refl 0x800000400 s
  unfold State.endRamps
  try lift_lets -underBinder
  repeat' first
    | with_reducible assumption
    | with_reducible refine Within.ite ?_ ?_
    | with_reducible refine Within.setB 3 ?_ ?_ rfl
    | with_reducible refine (modYms_within _ _).step ?_ rfl
    | with_reducible refine Within.foldl _ ?_ ?_
    | (intro (x : State); refine Within.cut (x := x) (m := 0x800000400) (s := s) ?_ (fun hx => ?_); unfold x)
    | intro x
    | lift_lets -underBinder
    | split
    | exact rfl
    | (split <;> rfl)
    | clear_value *

theorem floorShort_within (s : State) (k : List (Option Q)) :
    Within 0x400A00080404 s (State.floorShort s k) := by
  have h0 := Within.refl 0x400A00080404 s
  unfold State.floorShort
  try lift_lets -underBinder
  repeat' first
    | with_reducible assumption
    | with_reducible refine Within.ite ?_ ?_
    | with_reducible refine (modYms_within _ _).step ?_ rfl
    | with_reducible refine Within.setB 3 ?_ ?_ rfl
    | with_reducible refine (raise_within _ _ _ _ _).step ?_ rfl
    | with_reducible refine Within.foldl _ ?_ ?_
    | (intro (x : State); refine Within.cut (x := x) (m := 0x400A00080404) (s := s) ?_ (fun hx => ?_); unfold x)
    | intro x
    | lift_lets -underBinder
    | split
    | exact rfl
    | (split <;> rfl)
    | clear_value *

theorem withdraw_within (s : State) (a : Ask) :
    Within 0x800000400 s (State.withdraw s a) := by
  have h0 := Within.refl 0x800000400 s
  unfold State.withdraw
  try lift_lets -underBinder
  repeat' first
    | with_reducible assumption
    | with_reducible refine Within.ite ?_ ?_
    | with_reducible refine (modYms_within _ _).step ?_ rfl
    | with_reducible refine (refreshPolicy_within _ _).step ?_ rfl
    | with_reducible refine Within.foldl _ ?_ ?_
    | (intro (x : State); refine Within.cut (x := x) (m := 0x800000400) (s := s) ?_ (fun hx => ?_); unfold x)
    | intro x
    | lift_lets -underBinder
    | split
    | exact rfl
    | (split <;> rfl)
    | clear_value *

theorem askDone_within (s : State) (fz : Frozen) (a : Ask) :
    Within 0x400A00080404 s (State.askDone s fz a) := by
  have h0 := Within.refl 0x400A00080404 s
  unfold State.askDone
  try lift_lets -underBinder
  repeat' first
    | with_reducible assumption
    | with_reducible refine Within.ite ?_ ?_
    | with_reducible refine (finish_within _ _ _ _ _ _).step ?_ rfl
    | with_reducible refine (withdraw_within _ _).step ?_ rfl
    | with_reducible refine Within.foldl _ ?_ ?_
    | (intro (x : State); refine Within.cut (x := x) (m := 0x400A00080404) (s := s) ?_ (fun hx => ?_); unfold x)
    | intro x
    | lift_lets -underBinder
    | split
    | exact rfl
    | (split <;> rfl)
    | clear_value *

theorem asksFrom_within (fz : Frozen) (k : Nat) (s : State) : Within 0x400A00080404 s (State.asksFrom fz k s) := by
  induction k generalizing s with
  | zero => exact Within.refl _ s
  | succ k ih =>
    unfold State.asksFrom
    split
    · exact (ih _).step ((askDone_within _ fz _).step ((modYms_within s _).step (Within.refl _ s) rfl) rfl) rfl
    · exact Within.refl _ s

theorem asksDone_within (s : State) (fz : Frozen) :
    Within 0x400A00080404 s (State.asksDone s fz) := by
  have h0 := Within.refl 0x400A00080404 s
  unfold State.asksDone
  try lift_lets -underBinder
  repeat' first
    | with_reducible assumption
    | with_reducible refine Within.ite ?_ ?_
    | with_reducible refine (asksFrom_within _ _ _).step ?_ rfl
    | with_reducible refine Within.foldl _ ?_ ?_
    | (intro (x : State); refine Within.cut (x := x) (m := 0x400A00080404) (s := s) ?_ (fun hx => ?_); unfold x)
    | intro x
    | lift_lets -underBinder
    | split
    | exact rfl
    | (split <;> rfl)
    | clear_value *

theorem trigger_within (s : State) (node cause : Nat) :
    Within 0x400 s (State.trigger s node cause) := by
  have h0 := Within.refl 0x400 s
  unfold State.trigger
  try lift_lets -underBinder
  repeat' first
    | with_reducible assumption
    | with_reducible refine Within.ite ?_ ?_
    | with_reducible refine (modYms_within _ _).step ?_ rfl
    | with_reducible refine Within.foldl _ ?_ ?_
    | (intro (x : State); refine Within.cut (x := x) (m := 0x400) (s := s) ?_ (fun hx => ?_); unfold x)
    | intro x
    | lift_lets -underBinder
    | split
    | exact rfl
    | (split <;> rfl)
    | clear_value *

theorem hitAsks_within (s : State) :
    Within 0x400 s (State.hitAsks s) := by
  have h0 := Within.refl 0x400 s
  unfold State.hitAsks
  try lift_lets -underBinder
  repeat' first
    | with_reducible assumption
    | with_reducible refine Within.ite ?_ ?_
    | with_reducible refine (modYms_within _ _).step ?_ rfl
    | with_reducible refine Within.foldl _ ?_ ?_
    | (intro (x : State); refine Within.cut (x := x) (m := 0x400) (s := s) ?_ (fun hx => ?_); unfold x)
    | intro x
    | lift_lets -underBinder
    | split
    | exact rfl
    | (split <;> rfl)
    | clear_value *

theorem finishAll_within (s : State) (l : List (Nat × Nat)) (status result : Nat) :
    Within 0x400200080004 s (State.finishAll s l status result) := by
  have h0 := Within.refl 0x400200080004 s
  unfold State.finishAll
  try lift_lets -underBinder
  repeat' first
    | with_reducible assumption
    | with_reducible refine Within.ite ?_ ?_
    | with_reducible refine (finish_within _ _ _ _ _ _).step ?_ rfl
    | with_reducible refine Within.foldl _ ?_ ?_
    | (intro (x : State); refine Within.cut (x := x) (m := 0x400200080004) (s := s) ?_ (fun hx => ?_); unfold x)
    | intro x
    | lift_lets -underBinder
    | split
    | exact rfl
    | (split <;> rfl)
    | clear_value *

theorem loseCab_within (s : State) (c cause : Nat) :
    Within 0x400A00080404 s (State.loseCab s c cause) := by
  have h0 := Within.refl 0x400A00080404 s
  unfold State.loseCab
  try lift_lets -underBinder
  repeat' first
    | with_reducible assumption
    | with_reducible refine Within.ite ?_ ?_
    | with_reducible refine (hitAsks_within _).step ?_ rfl
    | with_reducible refine (modCab_within _ _ _).step ?_ rfl
    | with_reducible refine (setCab_within _ _ _ _).step ?_ rfl
    | with_reducible refine (finishAll_within _ _ _ _).step ?_ rfl
    | with_reducible refine (trigger_within _ _ _).step ?_ rfl
    | with_reducible refine Within.foldl _ ?_ ?_
    | (intro (x : State); refine Within.cut (x := x) (m := 0x400A00080404) (s := s) ?_ (fun hx => ?_); unfold x)
    | intro x
    | lift_lets -underBinder
    | split
    | exact rfl
    | (split <;> rfl)
    | clear_value *

theorem emergNext_within (s : State) :
    Within 0x400 s (State.emergNext s) := by
  have h0 := Within.refl 0x400 s
  unfold State.emergNext
  try lift_lets -underBinder
  repeat' first
    | with_reducible assumption
    | with_reducible refine Within.ite ?_ ?_
    | with_reducible refine (modYms_within _ _).step ?_ rfl
    | with_reducible refine Within.foldl _ ?_ ?_
    | (intro (x : State); refine Within.cut (x := x) (m := 0x400) (s := s) ?_ (fun hx => ?_); unfold x)
    | intro x
    | lift_lets -underBinder
    | split
    | exact rfl
    | (split <;> rfl)
    | clear_value *

theorem cutTargets_within (s : State) (fz : Frozen) (t : List Int) (short : List Bool) :
    Within 0x800000400 s (State.cutTargets s fz t short) := by
  have h0 := Within.refl 0x800000400 s
  unfold State.cutTargets
  try lift_lets -underBinder
  repeat' first
    | with_reducible assumption
    | with_reducible refine Within.ite ?_ ?_
    | with_reducible refine (putTargets_within _ _ _ _).step ?_ rfl
    | with_reducible refine (stage_within _ _ _).step ?_ rfl
    | with_reducible refine Within.setB 3 ?_ ?_ rfl
    | with_reducible refine (modYms_within _ _).step ?_ rfl
    | with_reducible refine Within.foldl _ ?_ ?_
    | (intro (x : State); refine Within.cut (x := x) (m := 0x800000400) (s := s) ?_ (fun hx => ?_); unfold x)
    | intro x
    | lift_lets -underBinder
    | split
    | exact rfl
    | (split <;> rfl)
    | clear_value *

theorem cabReport_within (s : State) (c : Nat) (ready trip : Bool) (avail store : Nat) :
    Within 0x400A00080404 s (State.cabReport s c ready trip avail store) := by
  have h0 := Within.refl 0x400A00080404 s
  unfold State.cabReport
  try lift_lets -underBinder
  repeat' first
    | with_reducible assumption
    | with_reducible refine Within.ite ?_ ?_
    | with_reducible refine (modCab_within _ _ _).step ?_ rfl
    | with_reducible refine (loseCab_within _ _ _).step ?_ rfl
    | with_reducible refine (trigger_within _ _ _).step ?_ rfl
    | with_reducible refine Within.foldl _ ?_ ?_
    | (intro (x : State); refine Within.cut (x := x) (m := 0x400A00080404) (s := s) ?_ (fun hx => ?_); unfold x)
    | intro x
    | lift_lets -underBinder
    | split
    | exact rfl
    | (split <;> rfl)
    | clear_value *

end Sys2Proof.Laws
end

