-- ==== Sys2Proof/Laws/WithinHrnOps.lean ====
section
/-!
SUPPORT. What the operations of Machine/HrnOps.lean may touch.
-/
namespace Sys2Proof.Laws

open Sys2Proof.Machine

theorem modHb_within (s : State) (b : Nat) (f : Bridge → Bridge) :
    Within 0x800 s (State.modHb s b f) := by
  have h0 := Within.refl 0x800 s
  unfold State.modHb
  try lift_lets -underBinder
  repeat' first
    | with_reducible assumption
    | with_reducible refine Within.ite ?_ ?_
    | with_reducible refine (modHrn_within _ _).step ?_ rfl
    | with_reducible refine Within.foldl _ ?_ ?_
    | (intro (x : State); refine Within.cut (x := x) (m := 0x800) (s := s) ?_ (fun hx => ?_); unfold x)
    | intro x
    | lift_lets -underBinder
    | split
    | exact rfl
    | (split <;> rfl)
    | clear_value *

theorem releaseCheck_within (s : State) :
    Within 0x400200084004 s (State.releaseCheck s) := by
  have h0 := Within.refl 0x400200084004 s
  unfold State.releaseCheck
  try lift_lets -underBinder
  repeat' first
    | with_reducible assumption
    | with_reducible refine Within.ite ?_ ?_
    | with_reducible refine (modRel_within _ _).step ?_ rfl
    | with_reducible refine (raise_within _ _ _ _ _).step ?_ rfl
    | with_reducible refine (finish_within _ _ _ _ _ _).step ?_ rfl
    | with_reducible refine Within.foldl _ ?_ ?_
    | (intro (x : State); refine Within.cut (x := x) (m := 0x400200084004) (s := s) ?_ (fun hx => ?_); unfold x)
    | intro x
    | lift_lets -underBinder
    | split
    | exact rfl
    | (split <;> rfl)
    | clear_value *

theorem rebase_within (s : State) (b : Nat) :
    Within 0x800 s (State.rebase s b) := by
  have h0 := Within.refl 0x800 s
  unfold State.rebase
  try lift_lets -underBinder
  repeat' first
    | with_reducible assumption
    | with_reducible refine Within.ite ?_ ?_
    | with_reducible refine (modHb_within _ _ _).step ?_ rfl
    | with_reducible refine Within.foldl _ ?_ ?_
    | (intro (x : State); refine Within.cut (x := x) (m := 0x800) (s := s) ?_ (fun hx => ?_); unfold x)
    | intro x
    | lift_lets -underBinder
    | split
    | exact rfl
    | (split <;> rfl)
    | clear_value *

theorem showBridge_within (s : State) (b : Nat) :
    Within 0x10000000800 s (State.showBridge s b) := by
  have h0 := Within.refl 0x10000000800 s
  unfold State.showBridge
  try lift_lets -underBinder
  repeat' first
    | with_reducible assumption
    | with_reducible refine Within.ite ?_ ?_
    | with_reducible refine (modHb_within _ _ _).step ?_ rfl
    | with_reducible refine Within.set 8 ?_ ?_ rfl
    | with_reducible refine Within.setB 8 ?_ ?_ rfl
    | with_reducible refine Within.foldl _ ?_ ?_
    | (intro (x : State); refine Within.cut (x := x) (m := 0x10000000800) (s := s) ?_ (fun hx => ?_); unfold x)
    | intro x
    | lift_lets -underBinder
    | split
    | exact rfl
    | (split <;> rfl)
    | clear_value *

theorem showLatch_within (s : State) (b : Nat) :
    Within 0x10000000800 s (State.showLatch s b) := by
  have h0 := Within.refl 0x10000000800 s
  unfold State.showLatch
  try lift_lets -underBinder
  repeat' first
    | with_reducible assumption
    | with_reducible refine Within.ite ?_ ?_
    | with_reducible refine (showBridge_within _ _).step ?_ rfl
    | with_reducible refine Within.setB 8 ?_ ?_ rfl
    | with_reducible refine Within.foldl _ ?_ ?_
    | (intro (x : State); refine Within.cut (x := x) (m := 0x10000000800) (s := s) ?_ (fun hx => ?_); unfold x)
    | intro x
    | lift_lets -underBinder
    | split
    | exact rfl
    | (split <;> rfl)
    | clear_value *

theorem bridgeDone_within (s : State) (b status : Nat) :
    Within 0x400200080804 s (State.bridgeDone s b status) := by
  have h0 := Within.refl 0x400200080804 s
  unfold State.bridgeDone
  try lift_lets -underBinder
  repeat' first
    | with_reducible assumption
    | with_reducible refine Within.ite ?_ ?_
    | with_reducible refine (modHb_within _ _ _).step ?_ rfl
    | with_reducible refine (finish_within _ _ _ _ _ _).step ?_ rfl
    | with_reducible refine Within.foldl _ ?_ ?_
    | (intro (x : State); refine Within.cut (x := x) (m := 0x400200080804) (s := s) ?_ (fun hx => ?_); unfold x)
    | intro x
    | lift_lets -underBinder
    | split
    | exact rfl
    | (split <;> rfl)
    | clear_value *

theorem bridgeReleased_within (s : State) (b : Nat) :
    Within 0x400200084004 s (State.bridgeReleased s b) := by
  have h0 := Within.refl 0x400200084004 s
  unfold State.bridgeReleased
  try lift_lets -underBinder
  repeat' first
    | with_reducible assumption
    | with_reducible refine Within.ite ?_ ?_
    | with_reducible refine (releaseCheck_within _).step ?_ rfl
    | with_reducible refine (modRel_within _ _).step ?_ rfl
    | with_reducible refine Within.foldl _ ?_ ?_
    | (intro (x : State); refine Within.cut (x := x) (m := 0x400200084004) (s := s) ?_ (fun hx => ?_); unfold x)
    | intro x
    | lift_lets -underBinder
    | split
    | exact rfl
    | (split <;> rfl)
    | clear_value *

theorem bridgeUnrelease_within (s : State) (b : Nat) :
    Within 0x400200084004 s (State.bridgeUnrelease s b) := by
  have h0 := Within.refl 0x400200084004 s
  unfold State.bridgeUnrelease
  try lift_lets -underBinder
  repeat' first
    | with_reducible assumption
    | with_reducible refine Within.ite ?_ ?_
    | with_reducible refine (releaseCheck_within _).step ?_ rfl
    | with_reducible refine (modRel_within _ _).step ?_ rfl
    | with_reducible refine Within.foldl _ ?_ ?_
    | (intro (x : State); refine Within.cut (x := x) (m := 0x400200084004) (s := s) ?_ (fun hx => ?_); unfold x)
    | intro x
    | lift_lets -underBinder
    | split
    | exact rfl
    | (split <;> rfl)
    | clear_value *

theorem bridgeOff_within (s : State) (b status : Nat) :
    Within 0x410200084804 s (State.bridgeOff s b status) := by
  have h0 := Within.refl 0x410200084804 s
  unfold State.bridgeOff
  try lift_lets -underBinder
  repeat' first
    | with_reducible assumption
    | with_reducible refine Within.ite ?_ ?_
    | with_reducible refine (modHb_within _ _ _).step ?_ rfl
    | with_reducible refine Within.set 8 ?_ ?_ rfl
    | with_reducible refine (bridgeReleased_within _ _).step ?_ rfl
    | with_reducible refine (bridgeDone_within _ _ _).step ?_ rfl
    | with_reducible refine (showBridge_within _ _).step ?_ rfl
    | with_reducible refine Within.foldl _ ?_ ?_
    | (intro (x : State); refine Within.cut (x := x) (m := 0x410200084804) (s := s) ?_ (fun hx => ?_); unfold x)
    | intro x
    | lift_lets -underBinder
    | split
    | exact rfl
    | (split <;> rfl)
    | clear_value *

theorem hbFault_within (s : State) (b cause sw : Nat) :
    Within 0x400200080004 s (State.hbFault s b cause sw) := by
  have h0 := Within.refl 0x400200080004 s
  unfold State.hbFault
  try lift_lets -underBinder
  repeat' first
    | with_reducible assumption
    | with_reducible refine Within.ite ?_ ?_
    | with_reducible refine (raise_within _ _ _ _ _).step ?_ rfl
    | with_reducible refine Within.foldl _ ?_ ?_
    | (intro (x : State); refine Within.cut (x := x) (m := 0x400200080004) (s := s) ?_ (fun hx => ?_); unfold x)
    | intro x
    | lift_lets -underBinder
    | split
    | exact rfl
    | (split <;> rfl)
    | clear_value *

theorem tripBridge_within (s : State) (b : Nat) (f : Fld) (cause sw : Nat) (hf : f.win = 8) :
    Within 0x410200084804 s (State.tripBridge s b f cause sw) := by
  have h0 := Within.refl 0x410200084804 s
  unfold State.tripBridge
  try lift_lets -underBinder
  repeat' first
    | with_reducible assumption
    | with_reducible refine Within.ite ?_ ?_
    | with_reducible refine Within.set 8 ?_ ?_ rfl
    | with_reducible refine (bridgeOff_within _ _ _).step ?_ rfl
    | ((with_reducible refine Within.setB 1 ?_ ?hw rfl); case hw => first | exact rfl | assumption | (split <;> rfl))
    | ((with_reducible refine Within.setB 8 ?_ ?hw rfl); case hw => first | exact rfl | assumption | (split <;> rfl))
    | ((with_reducible refine Within.setB 14 ?_ ?hw rfl); case hw => first | exact rfl | assumption | (split <;> rfl))
    | with_reducible refine (hbFault_within _ _ _ _).step ?_ rfl
    | with_reducible refine Within.foldl _ ?_ ?_
    | (intro (x : State); refine Within.cut (x := x) (m := 0x410200084804) (s := s) ?_ (fun hx => ?_); unfold x)
    | intro x
    | lift_lets -underBinder
    | split
    | exact rfl
    | (split <;> rfl)
    | clear_value *

theorem commutate_within (s : State) (b : Nat) :
    Within 0x800 s (State.commutate s b) := by
  have h0 := Within.refl 0x800 s
  unfold State.commutate
  try lift_lets -underBinder
  repeat' first
    | with_reducible assumption
    | with_reducible refine Within.ite ?_ ?_
    | with_reducible refine (modHb_within _ _ _).step ?_ rfl
    | with_reducible refine Within.foldl _ ?_ ?_
    | (intro (x : State); refine Within.cut (x := x) (m := 0x800) (s := s) ?_ (fun hx => ?_); unfold x)
    | intro x
    | lift_lets -underBinder
    | split
    | exact rfl
    | (split <;> rfl)
    | clear_value *

theorem atGoal_within (s : State) (b : Nat) :
    Within 0x410200084804 s (State.atGoal s b) := by
  have h0 := Within.refl 0x410200084804 s
  unfold State.atGoal
  try lift_lets -underBinder
  repeat' first
    | with_reducible assumption
    | with_reducible refine Within.ite ?_ ?_
    | with_reducible refine (modHb_within _ _ _).step ?_ rfl
    | with_reducible refine (bridgeOff_within _ _ _).step ?_ rfl
    | with_reducible refine (commutate_within _ _).step ?_ rfl
    | with_reducible refine Within.set 8 ?_ ?_ rfl
    | with_reducible refine (bridgeDone_within _ _ _).step ?_ rfl
    | with_reducible refine (showBridge_within _ _).step ?_ rfl
    | with_reducible refine Within.foldl _ ?_ ?_
    | (intro (x : State); refine Within.cut (x := x) (m := 0x410200084804) (s := s) ?_ (fun hx => ?_); unfold x)
    | intro x
    | lift_lets -underBinder
    | split
    | exact rfl
    | (split <;> rfl)
    | clear_value *

theorem settle_within (s : State) (b : Nat) :
    Within 0x410200084804 s (State.settle s b) := by
  have h0 := Within.refl 0x410200084804 s
  unfold State.settle
  try lift_lets -underBinder
  repeat' first
    | with_reducible assumption
    | with_reducible refine Within.ite ?_ ?_
    | with_reducible refine (atGoal_within _ _).step ?_ rfl
    | with_reducible refine (showBridge_within _ _).step ?_ rfl
    | with_reducible refine Within.foldl _ ?_ ?_
    | (intro (x : State); refine Within.cut (x := x) (m := 0x410200084804) (s := s) ?_ (fun hx => ?_); unfold x)
    | intro x
    | lift_lets -underBinder
    | split
    | exact rfl
    | (split <;> rfl)
    | clear_value *

theorem startBridge_within (s : State) (b : Nat) :
    Within 0x10000000800 s (State.startBridge s b) := by
  have h0 := Within.refl 0x10000000800 s
  unfold State.startBridge
  try lift_lets -underBinder
  repeat' first
    | with_reducible assumption
    | with_reducible refine Within.ite ?_ ?_
    | with_reducible refine (modHb_within _ _ _).step ?_ rfl
    | with_reducible refine Within.set 8 ?_ ?_ rfl
    | with_reducible refine (commutate_within _ _).step ?_ rfl
    | with_reducible refine Within.foldl _ ?_ ?_
    | (intro (x : State); refine Within.cut (x := x) (m := 0x10000000800) (s := s) ?_ (fun hx => ?_); unfold x)
    | intro x
    | lift_lets -underBinder
    | split
    | exact rfl
    | (split <;> rfl)
    | clear_value *

theorem harnessStop_within (s : State) :
    Within 0x410200084804 s (State.harnessStop s) := by
  have h0 := Within.refl 0x410200084804 s
  unfold State.harnessStop
  try lift_lets -underBinder
  repeat' first
    | with_reducible assumption
    | with_reducible refine Within.ite ?_ ?_
    | with_reducible refine Within.forAll ?_ ?_
    | with_reducible refine (bridgeOff_within _ _ _).step ?_ rfl
    | with_reducible refine Within.foldl _ ?_ ?_
    | (intro (x : State); refine Within.cut (x := x) (m := 0x410200084804) (s := s) ?_ (fun hx => ?_); unfold x)
    | intro x
    | lift_lets -underBinder
    | split
    | exact rfl
    | (split <;> rfl)
    | clear_value *

theorem holdOff_within (s : State) (b sw t : Nat) :
    Within 0x800 s (State.holdOff s b sw t) := by
  have h0 := Within.refl 0x800 s
  unfold State.holdOff
  try lift_lets -underBinder
  repeat' first
    | with_reducible assumption
    | with_reducible refine Within.ite ?_ ?_
    | with_reducible refine (modHb_within _ _ _).step ?_ rfl
    | with_reducible refine Within.foldl _ ?_ ?_
    | (intro (x : State); refine Within.cut (x := x) (m := 0x800) (s := s) ?_ (fun hx => ?_); unfold x)
    | intro x
    | lift_lets -underBinder
    | split
    | exact rfl
    | (split <;> rfl)
    | clear_value *

theorem coolSensors_within (s : State) (n : Nat) :
    Within 0x410200080804 s (State.coolSensors s n) := by
  have h0 := Within.refl 0x410200080804 s
  unfold State.coolSensors
  try lift_lets -underBinder
  repeat' first
    | with_reducible assumption
    | with_reducible refine Within.ite ?_ ?_
    | with_reducible refine (modHrn_within _ _).step ?_ rfl
    | with_reducible refine (raise_within _ _ _ _ _).step ?_ rfl
    | with_reducible refine Within.setB 8 ?_ ?_ rfl
    | with_reducible refine Within.foldl _ ?_ ?_
    | (intro (x : State); refine Within.cut (x := x) (m := 0x410200080804) (s := s) ?_ (fun hx => ?_); unfold x)
    | intro x
    | lift_lets -underBinder
    | split
    | exact rfl
    | (split <;> rfl)
    | clear_value *

theorem showTrim_within (s : State) (n : Nat) (t : Int) :
    Within 0x10000000002 s (State.showTrim s n t) := by
  have h0 := Within.refl 0x10000000002 s
  unfold State.showTrim
  try lift_lets -underBinder
  repeat' first
    | with_reducible assumption
    | with_reducible refine Within.ite ?_ ?_
    | with_reducible refine Within.ite2 ?_ ?_
    | with_reducible refine Within.set 8 ?_ ?_ rfl
    | with_reducible refine (fresh_within _ _).step ?_ rfl
    | with_reducible refine Within.foldl _ ?_ ?_
    | with_reducible refine Within.foldl2 _ ?_ ?_
    | (intro (x : State); refine Within.cut (x := x) (m := 0x10000000002) (s := s) ?_ (fun hx => ?_); unfold x)
    | intro x
    | lift_lets -underBinder
    | split
    | exact rfl
    | (split <;> rfl)
    | clear_value *

theorem troughStall_within (s : State) (n : Nat) :
    Within 0x410200080816 s (State.troughStall s n) := by
  have h0 := Within.refl 0x410200080816 s
  unfold State.troughStall
  try lift_lets -underBinder
  repeat' first
    | with_reducible assumption
    | with_reducible refine Within.ite ?_ ?_
    | with_reducible refine Within.setB 8 ?_ ?_ rfl
    | with_reducible refine (modWalk_within _ _ _).step ?_ rfl
    | with_reducible refine Within.set 8 ?_ ?_ rfl
    | with_reducible refine (coolSensors_within _ _).step ?_ rfl
    | with_reducible refine (modHrn_within _ _).step ?_ rfl
    | with_reducible refine (showTrim_within _ _ _).step ?_ rfl
    | with_reducible refine Within.foldl _ ?_ ?_
    | (intro (x : State); refine Within.cut (x := x) (m := 0x410200080816) (s := s) ?_ (fun hx => ?_); unfold x)
    | intro x
    | lift_lets -underBinder
    | split
    | exact rfl
    | (split <;> rfl)
    | clear_value *

theorem troughBridge_within (s : State) (b : Nat) :
    Within 0x410200084804 s (State.troughBridge s b) := by
  have h0 := Within.refl 0x410200084804 s
  unfold State.troughBridge
  try lift_lets -underBinder
  repeat' first
    | with_reducible assumption
    | with_reducible refine Within.ite ?_ ?_
    | with_reducible refine (showBridge_within _ _).step ?_ rfl
    | with_reducible refine (rebase_within _ _).step ?_ rfl
    | with_reducible refine (startBridge_within _ _).step ?_ rfl
    | with_reducible refine (settle_within _ _).step ?_ rfl
    | with_reducible refine (modHb_within _ _ _).step ?_ rfl
    | with_reducible refine Within.foldl _ ?_ ?_
    | (intro (x : State); refine Within.cut (x := x) (m := 0x410200084804) (s := s) ?_ (fun hx => ?_); unfold x)
    | intro x
    | lift_lets -underBinder
    | split
    | exact rfl
    | (split <;> rfl)
    | clear_value *

end Sys2Proof.Laws
end

