-- ==== Sys2Proof/Laws/WithinAuxOps.lean ====
section
/-!
SUPPORT. What the operations of Machine/AuxOps.lean may touch.
-/
namespace Sys2Proof.Laws

open Sys2Proof.Machine

theorem modAux_within (s : State) (n : Nat) (f : Aux → Aux) :
    Within 0x1000 s (State.modAux s n f) := by
  have h0 := Within.refl 0x1000 s
  unfold State.modAux
  try lift_lets -underBinder
  repeat' first
    | with_reducible assumption
    | with_reducible refine Within.ite ?_ ?_
    | with_reducible refine Within.foldl _ ?_ ?_
    | (intro (x : State); refine Within.cut (x := x) (m := 0x1000) (s := s) ?_ (fun hx => ?_); unfold x)
    | intro x
    | lift_lets -underBinder
    | split
    | with_reducible refine Within.auxUpd.step ?_ rfl
    | exact rfl
    | (split <;> rfl)
    | clear_value *

theorem showAux_within (s : State) (n : Nat) :
    Within 0x20000000000 s (State.showAux s n) := by
  have h0 := Within.refl 0x20000000000 s
  unfold State.showAux
  try lift_lets -underBinder
  repeat' first
    | with_reducible assumption
    | with_reducible refine Within.ite ?_ ?_
    | with_reducible refine Within.set 9 ?_ ?_ rfl
    | with_reducible refine Within.foldl _ ?_ ?_
    | (intro (x : State); refine Within.cut (x := x) (m := 0x20000000000) (s := s) ?_ (fun hx => ?_); unfold x)
    | intro x
    | lift_lets -underBinder
    | split
    | exact rfl
    | (split <;> rfl)
    | clear_value *

theorem setAuxPhase_within (s : State) (n ph : Nat) :
    Within 0x20000001000 s (State.setAuxPhase s n ph) := by
  have h0 := Within.refl 0x20000001000 s
  unfold State.setAuxPhase
  try lift_lets -underBinder
  repeat' first
    | with_reducible assumption
    | with_reducible refine Within.ite ?_ ?_
    | with_reducible refine (modAux_within _ _ _).step ?_ rfl
    | with_reducible refine Within.set 9 ?_ ?_ rfl
    | with_reducible refine Within.foldl _ ?_ ?_
    | (intro (x : State); refine Within.cut (x := x) (m := 0x20000001000) (s := s) ?_ (fun hx => ?_); unfold x)
    | intro x
    | lift_lets -underBinder
    | split
    | exact rfl
    | (split <;> rfl)
    | clear_value *

theorem auxSlew_within (s : State) (n target slew : Nat) :
    Within 0x20000001000 s (State.auxSlew s n target slew) := by
  have h0 := Within.refl 0x20000001000 s
  unfold State.auxSlew
  try lift_lets -underBinder
  repeat' first
    | with_reducible assumption
    | with_reducible refine Within.ite ?_ ?_
    | with_reducible refine Within.set 9 ?_ ?_ rfl
    | with_reducible refine (modAux_within _ _ _).step ?_ rfl
    | with_reducible refine Within.foldl _ ?_ ?_
    | (intro (x : State); refine Within.cut (x := x) (m := 0x20000001000) (s := s) ?_ (fun hx => ?_); unfold x)
    | intro x
    | lift_lets -underBinder
    | split
    | exact rfl
    | (split <;> rfl)
    | clear_value *

theorem auxDone_within (s : State) (n status : Nat) :
    Within 0x400200081004 s (State.auxDone s n status) := by
  have h0 := Within.refl 0x400200081004 s
  unfold State.auxDone
  try lift_lets -underBinder
  repeat' first
    | with_reducible assumption
    | with_reducible refine Within.ite ?_ ?_
    | with_reducible refine (finish_within _ _ _ _ _ _).step ?_ rfl
    | with_reducible refine (modAux_within _ _ _).step ?_ rfl
    | with_reducible refine Within.foldl _ ?_ ?_
    | (intro (x : State); refine Within.cut (x := x) (m := 0x400200081004) (s := s) ?_ (fun hx => ?_); unfold x)
    | intro x
    | lift_lets -underBinder
    | split
    | exact rfl
    | (split <;> rfl)
    | clear_value *

theorem auxReleased_within (s : State) (n : Nat) :
    Within 0x400200084004 s (State.auxReleased s n) := by
  have h0 := Within.refl 0x400200084004 s
  unfold State.auxReleased
  try lift_lets -underBinder
  repeat' first
    | with_reducible assumption
    | with_reducible refine Within.ite ?_ ?_
    | with_reducible refine (releaseCheck_within _).step ?_ rfl
    | with_reducible refine (modRel_within _ _).step ?_ rfl
    | with_reducible refine Within.foldl _ ?_ ?_
    | (intro (x : State); refine Within.cut (x := x) (m := 0x400200084004) (s := s) ?_ (fun hx => ?_); unfold x)
    | intro x
    | lift_lets -underBinder
    | split
    | exact rfl
    | (split <;> rfl)
    | clear_value *

theorem setPgood_within (s : State) (n : Nat) (b : Bool) :
    Within 0x420200080004 s (State.setPgood s n b) := by
  have h0 := Within.refl 0x420200080004 s
  unfold State.setPgood
  try lift_lets -underBinder
  repeat' first
    | with_reducible assumption
    | with_reducible refine Within.ite ?_ ?_
    | with_reducible refine (raise_within _ _ _ _ _).step ?_ rfl
    | with_reducible refine Within.setB 9 ?_ ?_ rfl
    | with_reducible refine Within.foldl _ ?_ ?_
    | (intro (x : State); refine Within.cut (x := x) (m := 0x420200080004) (s := s) ?_ (fun hx => ?_); unfold x)
    | intro x
    | lift_lets -underBinder
    | split
    | exact rfl
    | (split <;> rfl)
    | clear_value *

theorem auxSettle_within (s : State) (n : Nat) :
    Within 0x420200085004 s (State.auxSettle s n) := by
  have h0 := Within.refl 0x420200085004 s
  unfold State.auxSettle
  try lift_lets -underBinder
  repeat' first
    | with_reducible assumption
    | with_reducible refine Within.ite ?_ ?_
    | with_reducible refine (showAux_within _ _).step ?_ rfl
    | with_reducible refine Within.setB 9 ?_ ?_ rfl
    | with_reducible refine (modAux_within _ _ _).step ?_ rfl
    | with_reducible refine (setPgood_within _ _ _).step ?_ rfl
    | with_reducible refine (auxDone_within _ _ _).step ?_ rfl
    | with_reducible refine (auxReleased_within _ _).step ?_ rfl
    | with_reducible refine Within.foldl _ ?_ ?_
    | (intro (x : State); refine Within.cut (x := x) (m := 0x420200085004) (s := s) ?_ (fun hx => ?_); unfold x)
    | intro x
    | lift_lets -underBinder
    | split
    | exact rfl
    | (split <;> rfl)
    | clear_value *

theorem auxMeasure_within (s : State) (n vout vin : Nat) :
    Within 0x420200085004 s (State.auxMeasure s n vout vin) := by
  have h0 := Within.refl 0x420200085004 s
  unfold State.auxMeasure
  try lift_lets -underBinder
  repeat' first
    | with_reducible assumption
    | with_reducible refine Within.ite ?_ ?_
    | with_reducible refine (auxSettle_within _ _).step ?_ rfl
    | with_reducible refine Within.set 9 ?_ ?_ rfl
    | with_reducible refine Within.foldl _ ?_ ?_
    | (intro (x : State); refine Within.cut (x := x) (m := 0x420200085004) (s := s) ?_ (fun hx => ?_); unfold x)
    | intro x
    | lift_lets -underBinder
    | split
    | exact rfl
    | (split <;> rfl)
    | clear_value *

theorem auxGatesOff_within (s : State) (n phase : Nat) (keep : Bool) :
    Within 0x20000001000 s (State.auxGatesOff s n phase keep) := by
  have h0 := Within.refl 0x20000001000 s
  unfold State.auxGatesOff
  try lift_lets -underBinder
  repeat' first
    | with_reducible assumption
    | with_reducible refine Within.ite ?_ ?_
    | with_reducible refine Within.set 9 ?_ ?_ rfl
    | with_reducible refine (modAux_within _ _ _).step ?_ rfl
    | with_reducible refine Within.setB 9 ?_ ?_ rfl
    | with_reducible refine (showAux_within _ _).step ?_ rfl
    | with_reducible refine Within.foldl _ ?_ ?_
    | (intro (x : State); refine Within.cut (x := x) (m := 0x20000001000) (s := s) ?_ (fun hx => ?_); unfold x)
    | intro x
    | lift_lets -underBinder
    | split
    | exact rfl
    | (split <;> rfl)
    | clear_value *

theorem auxStopped_within (s : State) (n status : Nat) :
    Within 0x420200085004 s (State.auxStopped s n status) := by
  have h0 := Within.refl 0x420200085004 s
  unfold State.auxStopped
  try lift_lets -underBinder
  repeat' first
    | with_reducible assumption
    | with_reducible refine Within.ite ?_ ?_
    | with_reducible refine (auxReleased_within _ _).step ?_ rfl
    | with_reducible refine (auxDone_within _ _ _).step ?_ rfl
    | with_reducible refine (setPgood_within _ _ _).step ?_ rfl
    | with_reducible refine (auxGatesOff_within _ _ _ _).step ?_ rfl
    | with_reducible refine Within.foldl _ ?_ ?_
    | (intro (x : State); refine Within.cut (x := x) (m := 0x420200085004) (s := s) ?_ (fun hx => ?_); unfold x)
    | intro x
    | lift_lets -underBinder
    | split
    | exact rfl
    | (split <;> rfl)
    | clear_value *

theorem auxLatch_within (s : State) (n : Nat) (f : Fld) (cause : Nat) (hf : f.win = 9) :
    Within 0x420200085004 s (State.auxLatch s n f cause) := by
  have h0 := Within.refl 0x420200085004 s
  unfold State.auxLatch
  try lift_lets -underBinder
  repeat' first
    | with_reducible assumption
    | with_reducible refine Within.ite ?_ ?_
    | with_reducible refine Within.setBit 9 ?_ ?_ rfl
    | ((with_reducible refine Within.setB 1 ?_ ?hw rfl); case hw => first | exact rfl | assumption | (split <;> rfl))
    | ((with_reducible refine Within.setB 9 ?_ ?hw rfl); case hw => first | exact rfl | assumption | (split <;> rfl))
    | ((with_reducible refine Within.setB 14 ?_ ?hw rfl); case hw => first | exact rfl | assumption | (split <;> rfl))
    | with_reducible refine (auxDone_within _ _ _).step ?_ rfl
    | with_reducible refine (setPgood_within _ _ _).step ?_ rfl
    | with_reducible refine (modAux_within _ _ _).step ?_ rfl
    | with_reducible refine (auxGatesOff_within _ _ _ _).step ?_ rfl
    | with_reducible refine (auxReleased_within _ _).step ?_ rfl
    | with_reducible refine (raise_within _ _ _ _ _).step ?_ rfl
    | with_reducible refine Within.foldl _ ?_ ?_
    | (intro (x : State); refine Within.cut (x := x) (m := 0x420200085004) (s := s) ?_ (fun hx => ?_); unfold x)
    | intro x
    | lift_lets -underBinder
    | split
    | exact rfl
    | (split <;> rfl)
    | clear_value *

theorem auxStart_within (s : State) (n : Nat) :
    Within 0x20000000000 s (State.auxStart s n) := by
  have h0 := Within.refl 0x20000000000 s
  unfold State.auxStart
  try lift_lets -underBinder
  repeat' first
    | with_reducible assumption
    | with_reducible refine Within.ite ?_ ?_
    | with_reducible refine Within.set 9 ?_ ?_ rfl
    | with_reducible refine Within.foldl _ ?_ ?_
    | (intro (x : State); refine Within.cut (x := x) (m := 0x20000000000) (s := s) ?_ (fun hx => ?_); unfold x)
    | intro x
    | lift_lets -underBinder
    | split
    | exact rfl
    | (split <;> rfl)
    | clear_value *

theorem auxOn_within (s : State) (n target slew : Nat) :
    Within 0x420200085004 s (State.auxOn s n target slew) := by
  have h0 := Within.refl 0x420200085004 s
  unfold State.auxOn
  try lift_lets -underBinder
  repeat' first
    | with_reducible assumption
    | with_reducible refine Within.ite ?_ ?_
    | with_reducible refine (modAux_within _ _ _).step ?_ rfl
    | with_reducible refine (setAuxPhase_within _ _ _).step ?_ rfl
    | with_reducible refine (auxSlew_within _ _ _ _).step ?_ rfl
    | with_reducible refine (auxSettle_within _ _).step ?_ rfl
    | with_reducible refine Within.set 9 ?_ ?_ rfl
    | with_reducible refine (auxStart_within _ _).step ?_ rfl
    | with_reducible refine Within.foldl _ ?_ ?_
    | (intro (x : State); refine Within.cut (x := x) (m := 0x420200085004) (s := s) ?_ (fun hx => ?_); unfold x)
    | intro x
    | lift_lets -underBinder
    | split
    | exact rfl
    | (split <;> rfl)
    | clear_value *

theorem auxOff_within (s : State) (n slew : Nat) :
    Within 0x420200085004 s (State.auxOff s n slew) := by
  have h0 := Within.refl 0x420200085004 s
  unfold State.auxOff
  try lift_lets -underBinder
  repeat' first
    | with_reducible assumption
    | with_reducible refine Within.ite ?_ ?_
    | with_reducible refine (modAux_within _ _ _).step ?_ rfl
    | with_reducible refine (showAux_within _ _).step ?_ rfl
    | with_reducible refine (setPgood_within _ _ _).step ?_ rfl
    | with_reducible refine (setAuxPhase_within _ _ _).step ?_ rfl
    | with_reducible refine (auxSlew_within _ _ _ _).step ?_ rfl
    | with_reducible refine (auxStopped_within _ _ _).step ?_ rfl
    | with_reducible refine Within.foldl _ ?_ ?_
    | (intro (x : State); refine Within.cut (x := x) (m := 0x420200085004) (s := s) ?_ (fun hx => ?_); unfold x)
    | intro x
    | lift_lets -underBinder
    | split
    | exact rfl
    | (split <;> rfl)
    | clear_value *

theorem modCh_within (s : State) (c : Nat) (f : Lsw → Lsw) :
    Within 0x2000 s (State.modCh s c f) := by
  have h0 := Within.refl 0x2000 s
  unfold State.modCh
  try lift_lets -underBinder
  repeat' first
    | with_reducible assumption
    | with_reducible refine Within.ite ?_ ?_
    | with_reducible refine Within.foldl _ ?_ ?_
    | (intro (x : State); refine Within.cut (x := x) (m := 0x2000) (s := s) ?_ (fun hx => ?_); unfold x)
    | intro x
    | lift_lets -underBinder
    | split
    | with_reducible refine Within.lswUpd.step ?_ rfl
    | exact rfl
    | (split <;> rfl)
    | clear_value *

theorem lswDone_within (s : State) (c status result : Nat) :
    Within 0x400200082004 s (State.lswDone s c status result) := by
  have h0 := Within.refl 0x400200082004 s
  unfold State.lswDone
  try lift_lets -underBinder
  repeat' first
    | with_reducible assumption
    | with_reducible refine Within.ite ?_ ?_
    | with_reducible refine (finish_within _ _ _ _ _ _).step ?_ rfl
    | with_reducible refine (modCh_within _ _ _).step ?_ rfl
    | with_reducible refine Within.foldl _ ?_ ?_
    | (intro (x : State); refine Within.cut (x := x) (m := 0x400200082004) (s := s) ?_ (fun hx => ?_); unfold x)
    | intro x
    | lift_lets -underBinder
    | split
    | exact rfl
    | (split <;> rfl)
    | clear_value *

theorem lswOn_within (s : State) (c : Nat) (afresh : Bool) :
    Within 0x440200082004 s (State.lswOn s c afresh) := by
  have h0 := Within.refl 0x440200082004 s
  unfold State.lswOn
  try lift_lets -underBinder
  repeat' first
    | with_reducible assumption
    | with_reducible refine Within.ite ?_ ?_
    | with_reducible refine Within.setB 10 ?_ ?_ rfl
    | with_reducible refine (modCh_within _ _ _).step ?_ rfl
    | with_reducible refine (raise_within _ _ _ _ _).step ?_ rfl
    | with_reducible refine Within.foldl _ ?_ ?_
    | (intro (x : State); refine Within.cut (x := x) (m := 0x440200082004) (s := s) ?_ (fun hx => ?_); unfold x)
    | intro x
    | lift_lets -underBinder
    | split
    | exact rfl
    | (split <;> rfl)
    | clear_value *

theorem lswOff_within (s : State) (c : Nat) :
    Within 0x40000002000 s (State.lswOff s c) := by
  have h0 := Within.refl 0x40000002000 s
  unfold State.lswOff
  try lift_lets -underBinder
  repeat' first
    | with_reducible assumption
    | with_reducible refine Within.ite ?_ ?_
    | with_reducible refine (modCh_within _ _ _).step ?_ rfl
    | with_reducible refine Within.setB 10 ?_ ?_ rfl
    | with_reducible refine Within.foldl _ ?_ ?_
    | (intro (x : State); refine Within.cut (x := x) (m := 0x40000002000) (s := s) ?_ (fun hx => ?_); unfold x)
    | intro x
    | lift_lets -underBinder
    | split
    | exact rfl
    | (split <;> rfl)
    | clear_value *

theorem lswReleased_within (s : State) (c : Nat) :
    Within 0x400200084004 s (State.lswReleased s c) := by
  have h0 := Within.refl 0x400200084004 s
  unfold State.lswReleased
  try lift_lets -underBinder
  repeat' first
    | with_reducible assumption
    | with_reducible refine Within.ite ?_ ?_
    | with_reducible refine (releaseCheck_within _).step ?_ rfl
    | with_reducible refine (modRel_within _ _).step ?_ rfl
    | with_reducible refine Within.foldl _ ?_ ?_
    | (intro (x : State); refine Within.cut (x := x) (m := 0x400200084004) (s := s) ?_ (fun hx => ?_); unfold x)
    | intro x
    | lift_lets -underBinder
    | split
    | exact rfl
    | (split <;> rfl)
    | clear_value *

theorem lswSetOff_within (s : State) (c : Nat) :
    Within 0x440200082004 s (State.lswSetOff s c) := by
  have h0 := Within.refl 0x440200082004 s
  unfold State.lswSetOff
  try lift_lets -underBinder
  repeat' first
    | with_reducible assumption
    | with_reducible refine Within.ite ?_ ?_
    | with_reducible refine (lswOff_within _ _).step ?_ rfl
    | with_reducible refine Within.setB 10 ?_ ?_ rfl
    | with_reducible refine (lswDone_within _ _ _ _).step ?_ rfl
    | with_reducible refine Within.foldl _ ?_ ?_
    | (intro (x : State); refine Within.cut (x := x) (m := 0x440200082004) (s := s) ?_ (fun hx => ?_); unfold x)
    | intro x
    | lift_lets -underBinder
    | split
    | exact rfl
    | (split <;> rfl)
    | clear_value *

theorem lswLatch_within (s : State) (c : Nat) (f : Fld) (cause : Nat) (hf : f.win = 10) :
    Within 0x440200086004 s (State.lswLatch s c f cause) := by
  have h0 := Within.refl 0x440200086004 s
  unfold State.lswLatch
  try lift_lets -underBinder
  repeat' first
    | with_reducible assumption
    | with_reducible refine Within.ite ?_ ?_
    | with_reducible refine Within.incSat 10 ?_ ?_ rfl
    | ((with_reducible refine Within.setB 1 ?_ ?hw rfl); case hw => first | exact rfl | assumption | (split <;> rfl))
    | ((with_reducible refine Within.setB 10 ?_ ?hw rfl); case hw => first | exact rfl | assumption | (split <;> rfl))
    | ((with_reducible refine Within.setB 14 ?_ ?hw rfl); case hw => first | exact rfl | assumption | (split <;> rfl))
    | with_reducible refine (lswDone_within _ _ _ _).step ?_ rfl
    | with_reducible refine (lswOff_within _ _).step ?_ rfl
    | with_reducible refine (lswReleased_within _ _).step ?_ rfl
    | with_reducible refine (raise_within _ _ _ _ _).step ?_ rfl
    | with_reducible refine Within.foldl _ ?_ ?_
    | (intro (x : State); refine Within.cut (x := x) (m := 0x440200086004) (s := s) ?_ (fun hx => ?_); unfold x)
    | intro x
    | lift_lets -underBinder
    | split
    | exact rfl
    | (split <;> rfl)
    | clear_value *

theorem lswFollow_within (s : State) (c : Nat) :
    Within 0x440200082004 s (State.lswFollow s c) := by
  have h0 := Within.refl 0x440200082004 s
  unfold State.lswFollow
  try lift_lets -underBinder
  repeat' first
    | with_reducible assumption
    | with_reducible refine Within.ite ?_ ?_
    | with_reducible refine (lswOn_within _ _ _).step ?_ rfl
    | with_reducible refine Within.setB 10 ?_ ?_ rfl
    | with_reducible refine (lswOff_within _ _).step ?_ rfl
    | with_reducible refine Within.foldl _ ?_ ?_
    | (intro (x : State); refine Within.cut (x := x) (m := 0x440200082004) (s := s) ?_ (fun hx => ?_); unfold x)
    | intro x
    | lift_lets -underBinder
    | split
    | exact rfl
    | (split <;> rfl)
    | clear_value *

theorem lswDrop_within (s : State) (g : Nat) :
    Within 0x440200086004 s (State.lswDrop s g) := by
  have h0 := Within.refl 0x440200086004 s
  unfold State.lswDrop
  try lift_lets -underBinder
  repeat' first
    | with_reducible assumption
    | with_reducible refine Within.ite ?_ ?_
    | with_reducible refine Within.forAll ?_ ?_
    | with_reducible refine (lswReleased_within _ _).step ?_ rfl
    | with_reducible refine (lswDone_within _ _ _ _).step ?_ rfl
    | with_reducible refine (lswOff_within _ _).step ?_ rfl
    | with_reducible refine Within.setB 10 ?_ ?_ rfl
    | with_reducible refine Within.foldl _ ?_ ?_
    | (intro (x : State); refine Within.cut (x := x) (m := 0x440200086004) (s := s) ?_ (fun hx => ?_); unfold x)
    | intro x
    | lift_lets -underBinder
    | split
    | exact rfl
    | (split <;> rfl)
    | clear_value *

theorem lswUndrop_within (s : State) (g : Nat) :
    Within 0x40000000000 s (State.lswUndrop s g) := by
  have h0 := Within.refl 0x40000000000 s
  unfold State.lswUndrop
  try lift_lets -underBinder
  repeat' first
    | with_reducible assumption
    | with_reducible refine Within.ite ?_ ?_
    | with_reducible refine Within.setB 10 ?_ ?_ rfl
    | with_reducible refine Within.foldl _ ?_ ?_
    | (intro (x : State); refine Within.cut (x := x) (m := 0x40000000000) (s := s) ?_ (fun hx => ?_); unfold x)
    | intro x
    | lift_lets -underBinder
    | split
    | exact rfl
    | (split <;> rfl)
    | clear_value *

theorem releaseChan_within (s : State) :
    Within 0x440200086004 s (State.releaseChan s) := by
  have h0 := Within.refl 0x440200086004 s
  unfold State.releaseChan
  try lift_lets -underBinder
  repeat' first
    | with_reducible assumption
    | with_reducible refine Within.ite ?_ ?_
    | with_reducible refine (releaseCheck_within _).step ?_ rfl
    | with_reducible refine (modRel_within _ _).step ?_ rfl
    | with_reducible refine (lswSetOff_within _ _).step ?_ rfl
    | with_reducible refine Within.foldl _ ?_ ?_
    | (intro (x : State); refine Within.cut (x := x) (m := 0x440200086004) (s := s) ?_ (fun hx => ?_); unfold x)
    | intro x
    | lift_lets -underBinder
    | split
    | exact rfl
    | (split <;> rfl)
    | clear_value *

theorem startRelease_within (s : State) (off : Bool) (waits : List (Nat × Nat)) :
    Within 0x450200086804 s (State.startRelease s off waits) := by
  have h0 := Within.refl 0x450200086804 s
  unfold State.startRelease
  try lift_lets -underBinder
  repeat' first
    | with_reducible assumption
    | with_reducible refine Within.ite ?_ ?_
    | with_reducible refine Within.forAll ?_ ?_
    | with_reducible refine Within.set 8 ?_ ?_ rfl
    | with_reducible refine (modHrn_within _ _).step ?_ rfl
    | with_reducible refine (modRel_within _ _).step ?_ rfl
    | with_reducible refine (settle_within _ _).step ?_ rfl
    | with_reducible refine (modHb_within _ _ _).step ?_ rfl
    | with_reducible refine (rebase_within _ _).step ?_ rfl
    | with_reducible refine (bridgeOff_within _ _ _).step ?_ rfl
    | with_reducible refine (releaseCheck_within _).step ?_ rfl
    | with_reducible refine (releaseChan_within _).step ?_ rfl
    | with_reducible refine Within.foldl _ ?_ ?_
    | (intro (x : State); refine Within.cut (x := x) (m := 0x450200086804) (s := s) ?_ (fun hx => ?_); unfold x)
    | intro x
    | lift_lets -underBinder
    | split
    | exact rfl
    | (split <;> rfl)
    | clear_value *

end Sys2Proof.Laws
end

