-- ==== Sys2Proof/Laws/WithinAuxLsw.lean ====
section
/-!
SUPPORT. What the operations of Machine/AuxLsw.lean may touch.
-/
namespace Sys2Proof.Laws

open Sys2Proof.Machine

theorem auxClear_within (s : State) (n : Nat) :
    Within 0x20000001000 s (State.auxClear s n) := by
  have h0 := Within.refl 0x20000001000 s
  unfold State.auxClear
  try lift_lets -underBinder
  repeat' first
    | with_reducible assumption
    | with_reducible refine Within.ite ?_ ?_
    | with_reducible refine (modAux_within _ _ _).step ?_ rfl
    | with_reducible refine Within.setBit 9 ?_ ?_ rfl
    | with_reducible refine Within.setB 9 ?_ ?_ rfl
    | with_reducible refine Within.foldl _ ?_ ?_
    | (intro (x : State); refine Within.cut (x := x) (m := 0x20000001000) (s := s) ?_ (fun hx => ?_); unfold x)
    | intro x
    | lift_lets -underBinder
    | split
    | exact rfl
    | (split <;> rfl)
    | clear_value *

theorem execAuxSet_within (p tag : Nat) (s : State) :
    ∃ t, execAuxSet p tag s = .next t ∧ Within 0x428200085004 s t := by
  refine ⟨_, rfl, ?_⟩
  have h0 := Within.refl 0x428200085004 s
  try lift_lets -underBinder
  repeat' first
    | with_reducible assumption
    | with_reducible refine Within.ite ?_ ?_
    | with_reducible refine take_within ?_ ?_ rfl
    | with_reducible refine (finish_within _ _ _ _ _ _).step ?_ rfl
    | with_reducible refine (auxClear_within _ _).step ?_ rfl
    | with_reducible refine Within.set 9 ?_ ?_ rfl
    | with_reducible refine (auxReleased_within _ _).step ?_ rfl
    | with_reducible refine (auxDone_within _ _ _).step ?_ rfl
    | with_reducible refine (modAux_within _ _ _).step ?_ rfl
    | with_reducible refine (auxOn_within _ _ _ _).step ?_ rfl
    | with_reducible refine (auxOff_within _ _ _).step ?_ rfl
    | with_reducible refine (auxStopped_within _ _ _).step ?_ rfl
    | with_reducible refine Within.foldl _ ?_ ?_
    | (intro (x : State); refine Within.cut (x := x) (m := 0x428200085004) (s := s) ?_ (fun hx => ?_); unfold x)
    | intro x
    | lift_lets -underBinder
    | split
    | exact rfl
    | (split <;> rfl)
    | clear_value *

theorem execAuxSetTimeout_within (n : Nat) (s : State) :
    ∃ t, execAuxSetTimeout n s = .next t ∧ Within 0x400200081004 s t := by
  refine ⟨_, rfl, ?_⟩
  have h0 := Within.refl 0x400200081004 s
  try lift_lets -underBinder
  repeat' first
    | with_reducible assumption
    | with_reducible refine Within.ite ?_ ?_
    | with_reducible refine (auxDone_within _ _ _).step ?_ rfl
    | with_reducible refine Within.foldl _ ?_ ?_
    | (intro (x : State); refine Within.cut (x := x) (m := 0x400200081004) (s := s) ?_ (fun hx => ?_); unfold x)
    | intro x
    | lift_lets -underBinder
    | split
    | exact rfl
    | (split <;> rfl)
    | clear_value *

theorem execAuxStartTestEnd_within (n vsw vout vin : Nat) (s : State) :
    ∃ t, execAuxStartTestEnd n vsw vout vin s = .next t ∧ Within 0x420200085004 s t := by
  refine ⟨_, rfl, ?_⟩
  have h0 := Within.refl 0x420200085004 s
  try lift_lets -underBinder
  repeat' first
    | with_reducible assumption
    | with_reducible refine Within.ite ?_ ?_
    | with_reducible refine (auxMeasure_within _ _ _ _).step ?_ rfl
    | with_reducible refine (auxLatch_within _ _ _ _ ?_).step ?_ rfl
    | with_reducible refine Within.set 9 ?_ ?_ rfl
    | with_reducible refine (showAux_within _ _).step ?_ rfl
    | with_reducible refine (modAux_within _ _ _).step ?_ rfl
    | with_reducible refine Within.foldl _ ?_ ?_
    | (intro (x : State); refine Within.cut (x := x) (m := 0x420200085004) (s := s) ?_ (fun hx => ?_); unfold x)
    | intro x
    | lift_lets -underBinder
    | split
    | exact rfl
    | (split <;> rfl)
    | clear_value *

theorem execAuxTargetReached_within (n vout vin : Nat) (s : State) :
    ∃ t, execAuxTargetReached n vout vin s = .next t ∧ Within 0x420200085004 s t := by
  refine ⟨_, rfl, ?_⟩
  have h0 := Within.refl 0x420200085004 s
  try lift_lets -underBinder
  repeat' first
    | with_reducible assumption
    | with_reducible refine Within.ite ?_ ?_
    | with_reducible refine (modAux_within _ _ _).step ?_ rfl
    | with_reducible refine (auxMeasure_within _ _ _ _).step ?_ rfl
    | with_reducible refine (setAuxPhase_within _ _ _).step ?_ rfl
    | with_reducible refine Within.foldl _ ?_ ?_
    | (intro (x : State); refine Within.cut (x := x) (m := 0x420200085004) (s := s) ?_ (fun hx => ?_); unfold x)
    | intro x
    | lift_lets -underBinder
    | split
    | exact rfl
    | (split <;> rfl)
    | clear_value *

theorem execAuxRampOffEnd_within (n vout vin : Nat) (s : State) :
    ∃ t, execAuxRampOffEnd n vout vin s = .next t ∧ Within 0x420200085004 s t := by
  refine ⟨_, rfl, ?_⟩
  have h0 := Within.refl 0x420200085004 s
  try lift_lets -underBinder
  repeat' first
    | with_reducible assumption
    | with_reducible refine Within.ite ?_ ?_
    | with_reducible refine (auxStopped_within _ _ _).step ?_ rfl
    | with_reducible refine Within.set 9 ?_ ?_ rfl
    | with_reducible refine Within.foldl _ ?_ ?_
    | (intro (x : State); refine Within.cut (x := x) (m := 0x420200085004) (s := s) ?_ (fun hx => ?_); unfold x)
    | intro x
    | lift_lets -underBinder
    | split
    | exact rfl
    | (split <;> rfl)
    | clear_value *

theorem execAuxShortDetect_within (n vout vin : Nat) (s : State) :
    ∃ t, execAuxShortDetect n vout vin s = .next t ∧ Within 0x420200085004 s t := by
  refine ⟨_, rfl, ?_⟩
  have h0 := Within.refl 0x420200085004 s
  try lift_lets -underBinder
  repeat' first
    | with_reducible assumption
    | with_reducible refine Within.ite ?_ ?_
    | with_reducible refine Within.set 9 ?_ ?_ rfl
    | with_reducible refine (modAux_within _ _ _).step ?_ rfl
    | with_reducible refine Within.incSat 9 ?_ ?_ rfl
    | with_reducible refine (auxStopped_within _ _ _).step ?_ rfl
    | with_reducible refine (setPgood_within _ _ _).step ?_ rfl
    | with_reducible refine (auxGatesOff_within _ _ _ _).step ?_ rfl
    | with_reducible refine Within.foldl _ ?_ ?_
    | (intro (x : State); refine Within.cut (x := x) (m := 0x420200085004) (s := s) ?_ (fun hx => ?_); unfold x)
    | intro x
    | lift_lets -underBinder
    | split
    | exact rfl
    | (split <;> rfl)
    | clear_value *

theorem execAuxHiccupRestart_within (n vout vin : Nat) (s : State) :
    ∃ t, execAuxHiccupRestart n vout vin s = .next t ∧ Within 0x420200085004 s t := by
  refine ⟨_, rfl, ?_⟩
  have h0 := Within.refl 0x420200085004 s
  try lift_lets -underBinder
  repeat' first
    | with_reducible assumption
    | with_reducible refine Within.ite ?_ ?_
    | with_reducible refine Within.set 9 ?_ ?_ rfl
    | with_reducible refine (auxLatch_within _ _ _ _ ?_).step ?_ rfl
    | with_reducible refine (auxStart_within _ _).step ?_ rfl
    | with_reducible refine Within.foldl _ ?_ ?_
    | (intro (x : State); refine Within.cut (x := x) (m := 0x420200085004) (s := s) ?_ (fun hx => ?_); unfold x)
    | intro x
    | lift_lets -underBinder
    | split
    | exact rfl
    | (split <;> rfl)
    | clear_value *

theorem execAuxOvervoltage_within (n vout vin : Nat) (s : State) :
    ∃ t, execAuxOvervoltage n vout vin s = .next t ∧ Within 0x420200085004 s t := by
  refine ⟨_, rfl, ?_⟩
  have h0 := Within.refl 0x420200085004 s
  try lift_lets -underBinder
  repeat' first
    | with_reducible assumption
    | with_reducible refine Within.ite ?_ ?_
    | with_reducible refine (auxMeasure_within _ _ _ _).step ?_ rfl
    | with_reducible refine (auxLatch_within _ _ _ _ ?_).step ?_ rfl
    | with_reducible refine Within.foldl _ ?_ ?_
    | (intro (x : State); refine Within.cut (x := x) (m := 0x420200085004) (s := s) ?_ (fun hx => ?_); unfold x)
    | intro x
    | lift_lets -underBinder
    | split
    | exact rfl
    | (split <;> rfl)
    | clear_value *

theorem execAuxOvBrake_within (n vout vin : Nat) (s : State) :
    ∃ t, execAuxOvBrake n vout vin s = .next t ∧ Within 0x420200085004 s t := by
  refine ⟨_, rfl, ?_⟩
  have h0 := Within.refl 0x420200085004 s
  try lift_lets -underBinder
  repeat' first
    | with_reducible assumption
    | with_reducible refine Within.ite ?_ ?_
    | with_reducible refine (auxMeasure_within _ _ _ _).step ?_ rfl
    | with_reducible refine Within.set 9 ?_ ?_ rfl
    | with_reducible refine (modAux_within _ _ _).step ?_ rfl
    | with_reducible refine Within.foldl _ ?_ ?_
    | (intro (x : State); refine Within.cut (x := x) (m := 0x420200085004) (s := s) ?_ (fun hx => ?_); unfold x)
    | intro x
    | lift_lets -underBinder
    | split
    | exact rfl
    | (split <;> rfl)
    | clear_value *

theorem execAuxBrakeEnd_within (n vout vin : Nat) (s : State) :
    ∃ t, execAuxBrakeEnd n vout vin s = .next t ∧ Within 0x420200085004 s t := by
  refine ⟨_, rfl, ?_⟩
  have h0 := Within.refl 0x420200085004 s
  try lift_lets -underBinder
  repeat' first
    | with_reducible assumption
    | with_reducible refine Within.ite ?_ ?_
    | with_reducible refine (auxMeasure_within _ _ _ _).step ?_ rfl
    | with_reducible refine (auxSettle_within _ _).step ?_ rfl
    | with_reducible refine Within.set 9 ?_ ?_ rfl
    | with_reducible refine Within.foldl _ ?_ ?_
    | (intro (x : State); refine Within.cut (x := x) (m := 0x420200085004) (s := s) ?_ (fun hx => ?_); unfold x)
    | intro x
    | lift_lets -underBinder
    | split
    | exact rfl
    | (split <;> rfl)
    | clear_value *

theorem execAuxVinUndervoltage_within (n vout vin : Nat) (s : State) :
    ∃ t, execAuxVinUndervoltage n vout vin s = .next t ∧ Within 0x420200085004 s t := by
  refine ⟨_, rfl, ?_⟩
  have h0 := Within.refl 0x420200085004 s
  try lift_lets -underBinder
  repeat' first
    | with_reducible assumption
    | with_reducible refine Within.ite ?_ ?_
    | with_reducible refine Within.set 9 ?_ ?_ rfl
    | with_reducible refine Within.setB 9 ?_ ?_ rfl
    | with_reducible refine (auxStopped_within _ _ _).step ?_ rfl
    | with_reducible refine (auxGatesOff_within _ _ _ _).step ?_ rfl
    | with_reducible refine Within.foldl _ ?_ ?_
    | (intro (x : State); refine Within.cut (x := x) (m := 0x420200085004) (s := s) ?_ (fun hx => ?_); unfold x)
    | intro x
    | lift_lets -underBinder
    | split
    | exact rfl
    | (split <;> rfl)
    | clear_value *

theorem execAuxVinRecovery_within (n vout vin : Nat) (s : State) :
    ∃ t, execAuxVinRecovery n vout vin s = .next t ∧ Within 0x20000000000 s t := by
  refine ⟨_, rfl, ?_⟩
  have h0 := Within.refl 0x20000000000 s
  try lift_lets -underBinder
  repeat' first
    | with_reducible assumption
    | with_reducible refine Within.ite ?_ ?_
    | with_reducible refine Within.set 9 ?_ ?_ rfl
    | with_reducible refine Within.setB 9 ?_ ?_ rfl
    | with_reducible refine (auxStart_within _ _).step ?_ rfl
    | with_reducible refine Within.foldl _ ?_ ?_
    | (intro (x : State); refine Within.cut (x := x) (m := 0x20000000000) (s := s) ?_ (fun hx => ?_); unfold x)
    | intro x
    | lift_lets -underBinder
    | split
    | exact rfl
    | (split <;> rfl)
    | clear_value *

theorem execAuxPgoodLoss_within (n vout vin : Nat) (s : State) :
    ∃ t, execAuxPgoodLoss n vout vin s = .next t ∧ Within 0x420200080004 s t := by
  refine ⟨_, rfl, ?_⟩
  have h0 := Within.refl 0x420200080004 s
  try lift_lets -underBinder
  repeat' first
    | with_reducible assumption
    | with_reducible refine Within.ite ?_ ?_
    | with_reducible refine (showAux_within _ _).step ?_ rfl
    | with_reducible refine Within.set 9 ?_ ?_ rfl
    | with_reducible refine (setPgood_within _ _ _).step ?_ rfl
    | with_reducible refine Within.foldl _ ?_ ?_
    | (intro (x : State); refine Within.cut (x := x) (m := 0x420200080004) (s := s) ?_ (fun hx => ?_); unfold x)
    | intro x
    | lift_lets -underBinder
    | split
    | exact rfl
    | (split <;> rfl)
    | clear_value *

theorem execAuxReleaseDelayExpiry_within (n : Nat) (s : State) :
    ∃ t, execAuxReleaseDelayExpiry n s = .next t ∧ Within 0x420200085004 s t := by
  refine ⟨_, rfl, ?_⟩
  have h0 := Within.refl 0x420200085004 s
  try lift_lets -underBinder
  repeat' first
    | with_reducible assumption
    | with_reducible refine Within.ite ?_ ?_
    | with_reducible refine (auxDone_within _ _ _).step ?_ rfl
    | with_reducible refine (auxOff_within _ _ _).step ?_ rfl
    | with_reducible refine (modRel_within _ _).step ?_ rfl
    | with_reducible refine (auxOn_within _ _ _ _).step ?_ rfl
    | with_reducible refine Within.foldl _ ?_ ?_
    | (intro (x : State); refine Within.cut (x := x) (m := 0x420200085004) (s := s) ?_ (fun hx => ?_); unfold x)
    | intro x
    | lift_lets -underBinder
    | split
    | exact rfl
    | (split <;> rfl)
    | clear_value *

theorem auxCfgWrite_within (n : Nat) (r : RegRow) (base w : Nat) (s : State) :
    Within 0xFFFFFFFFFFFFFFFFFFFFFFFFFFFFFFFFFFFFFFFFFFFFFFFFFFFFFFFFFFFFFFFF00085004 s (State.auxCfgWrite n r base w s) := by
  have h0 := Within.refl 0xFFFFFFFFFFFFFFFFFFFFFFFFFFFFFFFFFFFFFFFFFFFFFFFFFFFFFFFFFFFFFFFF00085004 s
  unfold State.auxCfgWrite
  try lift_lets -underBinder
  repeat' first
    | with_reducible assumption
    | with_reducible refine Within.ite ?_ ?_
    | with_reducible refine Within.setB_all ?_ rfl
    | with_reducible refine (writeFields_within _ _ _ _).step ?_ rfl
    | with_reducible refine (auxOff_within _ _ _).step ?_ rfl
    | with_reducible refine Within.set_all ?_ rfl
    | with_reducible refine (auxDone_within _ _ _).step ?_ rfl
    | with_reducible refine Within.foldl _ ?_ ?_
    | (intro (x : State); refine Within.cut (x := x) (m := 0xFFFFFFFFFFFFFFFFFFFFFFFFFFFFFFFFFFFFFFFFFFFFFFFFFFFFFFFFFFFFFFFF00085004) (s := s) ?_ (fun hx => ?_); unfold x)
    | intro x
    | lift_lets -underBinder
    | split
    | exact rfl
    | (split <;> rfl)
    | clear_value *

theorem execAuxEnableClearWrite_within (p n val : Nat) (s : State) :
    ∃ t, execAuxEnableClearWrite p n val s = .next t ∧ Within 0xFFFFFFFFFFFFFFFFFFFFFFFFFFFFFFFFFFFFFFFFFFFFFFFFFFFFFFFFFFFFFFFF00085004 s t := by
  refine ⟨_, rfl, ?_⟩
  have h0 := Within.refl 0xFFFFFFFFFFFFFFFFFFFFFFFFFFFFFFFFFFFFFFFFFFFFFFFFFFFFFFFFFFFFFFFF00085004 s
  try lift_lets -underBinder
  repeat' first
    | with_reducible assumption
    | with_reducible refine Within.ite ?_ ?_
    | with_reducible refine setupWrite_within ?_ ?_ rfl
    | with_reducible refine (auxCfgWrite_within _ _ _ _ _).step ?_ rfl
    | with_reducible refine Within.foldl _ ?_ ?_
    | (intro (x : State); refine Within.cut (x := x) (m := 0xFFFFFFFFFFFFFFFFFFFFFFFFFFFFFFFFFFFFFFFFFFFFFFFFFFFFFFFFFFFFFFFF00085004) (s := s) ?_ (fun hx => ?_); unfold x)
    | intro x
    | lift_lets -underBinder
    | split
    | exact rfl
    | (split <;> rfl)
    | clear_value *

theorem execLswSet_within (p tag : Nat) (s : State) :
    ∃ t, execLswSet p tag s = .next t ∧ Within 0x448200086006 s t := by
  refine ⟨_, rfl, ?_⟩
  have h0 := Within.refl 0x448200086006 s
  try lift_lets -underBinder
  repeat' first
    | with_reducible assumption
    | with_reducible refine Within.ite ?_ ?_
    | with_reducible refine Within.ite2 ?_ ?_
    | with_reducible refine take_within ?_ ?_ rfl
    | with_reducible refine (finish_within _ _ _ _ _ _).step ?_ rfl
    | with_reducible refine (lswReleased_within _ _).step ?_ rfl
    | with_reducible refine (lswSetOff_within _ _).step ?_ rfl
    | with_reducible refine Within.setB 10 ?_ ?_ rfl
    | with_reducible refine (lswDone_within _ _ _ _).step ?_ rfl
    | with_reducible refine (lswOn_within _ _ _).step ?_ rfl
    | with_reducible refine (fresh_within _ _).step ?_ rfl
    | with_reducible refine (modCh_within _ _ _).step ?_ rfl
    | with_reducible refine Within.foldl _ ?_ ?_
    | with_reducible refine Within.foldl2 _ ?_ ?_
    | (intro (x : State); refine Within.cut (x := x) (m := 0x448200086006) (s := s) ?_ (fun hx => ?_); unfold x)
    | intro x
    | lift_lets -underBinder
    | split
    | exact rfl
    | (split <;> rfl)
    | clear_value *

theorem execLswFaultClear_within (p tag : Nat) (s : State) :
    ∃ t, execLswFaultClear p tag s = .next t ∧ Within 0x448200080004 s t := by
  refine ⟨_, rfl, ?_⟩
  have h0 := Within.refl 0x448200080004 s
  try lift_lets -underBinder
  repeat' first
    | with_reducible assumption
    | with_reducible refine Within.ite ?_ ?_
    | with_reducible refine take_within ?_ ?_ rfl
    | with_reducible refine (finish_within _ _ _ _ _ _).step ?_ rfl
    | with_reducible refine Within.setB 10 ?_ ?_ rfl
    | with_reducible refine Within.forAll ?_ ?_
    | with_reducible refine Within.foldl _ ?_ ?_
    | (intro (x : State); refine Within.cut (x := x) (m := 0x448200080004) (s := s) ?_ (fun hx => ?_); unfold x)
    | intro x
    | lift_lets -underBinder
    | split
    | exact rfl
    | (split <;> rfl)
    | clear_value *

theorem execLsinEdge_within (c : Nat) (level : Bool) (s : State) :
    ∃ t, execLsinEdge c level s = .next t ∧ Within 0x440200082004 s t := by
  refine ⟨_, rfl, ?_⟩
  have h0 := Within.refl 0x440200082004 s
  try lift_lets -underBinder
  repeat' first
    | with_reducible assumption
    | with_reducible refine Within.ite ?_ ?_
    | with_reducible refine Within.setB 10 ?_ ?_ rfl
    | with_reducible refine Within.set 10 ?_ ?_ rfl
    | with_reducible refine (modCh_within _ _ _).step ?_ rfl
    | with_reducible refine (lswFollow_within _ _).step ?_ rfl
    | with_reducible refine Within.foldl _ ?_ ?_
    | (intro (x : State); refine Within.cut (x := x) (m := 0x440200082004) (s := s) ?_ (fun hx => ?_); unfold x)
    | intro x
    | lift_lets -underBinder
    | split
    | exact rfl
    | (split <;> rfl)
    | clear_value *

theorem execLswClamp_within (c : Nat) (s : State) :
    ∃ t, execLswClamp c s = .next t ∧ Within 0x440200086004 s t := by
  refine ⟨_, rfl, ?_⟩
  have h0 := Within.refl 0x440200086004 s
  try lift_lets -underBinder
  repeat' first
    | with_reducible assumption
    | with_reducible refine Within.ite ?_ ?_
    | with_reducible refine (lswLatch_within _ _ _ _ ?_).step ?_ rfl
    | with_reducible refine Within.incSat 10 ?_ ?_ rfl
    | with_reducible refine Within.setB 10 ?_ ?_ rfl
    | with_reducible refine Within.foldl _ ?_ ?_
    | (intro (x : State); refine Within.cut (x := x) (m := 0x440200086004) (s := s) ?_ (fun hx => ?_); unfold x)
    | intro x
    | lift_lets -underBinder
    | split
    | exact rfl
    | (split <;> rfl)
    | clear_value *

theorem execLswInrushTrip_within (c : Nat) (s : State) :
    ∃ t, execLswInrushTrip c s = .next t ∧ Within 0x440200086004 s t := by
  refine ⟨_, rfl, ?_⟩
  have h0 := Within.refl 0x440200086004 s
  try lift_lets -underBinder
  repeat' first
    | with_reducible assumption
    | with_reducible refine Within.ite ?_ ?_
    | with_reducible refine (lswLatch_within _ _ _ _ ?_).step ?_ rfl
    | with_reducible refine Within.foldl _ ?_ ?_
    | (intro (x : State); refine Within.cut (x := x) (m := 0x440200086004) (s := s) ?_ (fun hx => ?_); unfold x)
    | intro x
    | lift_lets -underBinder
    | split
    | exact rfl
    | (split <;> rfl)
    | clear_value *

theorem execLswInrushWindowEnd_within (c : Nat) (s : State) :
    ∃ t, execLswInrushWindowEnd c s = .next t ∧ Within 0x440200082004 s t := by
  refine ⟨_, rfl, ?_⟩
  have h0 := Within.refl 0x440200082004 s
  try lift_lets -underBinder
  repeat' first
    | with_reducible assumption
    | with_reducible refine Within.ite ?_ ?_
    | with_reducible refine (lswDone_within _ _ _ _).step ?_ rfl
    | with_reducible refine Within.setB 10 ?_ ?_ rfl
    | with_reducible refine Within.foldl _ ?_ ?_
    | (intro (x : State); refine Within.cut (x := x) (m := 0x440200082004) (s := s) ?_ (fun hx => ?_); unfold x)
    | intro x
    | lift_lets -underBinder
    | split
    | exact rfl
    | (split <;> rfl)
    | clear_value *

theorem execLswOvercurrentTrip_within (c : Nat) (s : State) :
    ∃ t, execLswOvercurrentTrip c s = .next t ∧ Within 0x440200086004 s t := by
  refine ⟨_, rfl, ?_⟩
  have h0 := Within.refl 0x440200086004 s
  try lift_lets -underBinder
  repeat' first
    | with_reducible assumption
    | with_reducible refine Within.ite ?_ ?_
    | with_reducible refine (lswLatch_within _ _ _ _ ?_).step ?_ rfl
    | with_reducible refine Within.foldl _ ?_ ?_
    | (intro (x : State); refine Within.cut (x := x) (m := 0x440200086004) (s := s) ?_ (fun hx => ?_); unfold x)
    | intro x
    | lift_lets -underBinder
    | split
    | exact rfl
    | (split <;> rfl)
    | clear_value *

theorem execLswGroupOt_within (g temp : Nat) (s : State) :
    ∃ t, execLswGroupOt g temp s = .next t ∧ Within 0x440200086004 s t := by
  refine ⟨_, rfl, ?_⟩
  have h0 := Within.refl 0x440200086004 s
  try lift_lets -underBinder
  repeat' first
    | with_reducible assumption
    | with_reducible refine Within.ite ?_ ?_
    | with_reducible refine Within.set 10 ?_ ?_ rfl
    | with_reducible refine Within.forAll ?_ ?_
    | with_reducible refine (lswLatch_within _ _ _ _ ?_).step ?_ rfl
    | with_reducible refine Within.setB 10 ?_ ?_ rfl
    | with_reducible refine Within.foldl _ ?_ ?_
    | (intro (x : State); refine Within.cut (x := x) (m := 0x440200086004) (s := s) ?_ (fun hx => ?_); unfold x)
    | intro x
    | lift_lets -underBinder
    | split
    | exact rfl
    | (split <;> rfl)
    | clear_value *

theorem execLswGroupUv_within (g lsv : Nat) (s : State) :
    ∃ t, execLswGroupUv g lsv s = .next t ∧ Within 0x440200082004 s t := by
  refine ⟨_, rfl, ?_⟩
  have h0 := Within.refl 0x440200082004 s
  try lift_lets -underBinder
  repeat' first
    | with_reducible assumption
    | with_reducible refine Within.ite ?_ ?_
    | with_reducible refine Within.set 10 ?_ ?_ rfl
    | with_reducible refine (raise_within _ _ _ _ _).step ?_ rfl
    | with_reducible refine Within.forAll ?_ ?_
    | with_reducible refine (lswOff_within _ _).step ?_ rfl
    | with_reducible refine Within.setB 10 ?_ ?_ rfl
    | with_reducible refine Within.foldl _ ?_ ?_
    | (intro (x : State); refine Within.cut (x := x) (m := 0x440200082004) (s := s) ?_ (fun hx => ?_); unfold x)
    | intro x
    | lift_lets -underBinder
    | split
    | exact rfl
    | (split <;> rfl)
    | clear_value *

theorem execLswGroupUvRecovery_within (g lsv : Nat) (s : State) :
    ∃ t, execLswGroupUvRecovery g lsv s = .next t ∧ Within 0x440200082004 s t := by
  refine ⟨_, rfl, ?_⟩
  have h0 := Within.refl 0x440200082004 s
  try lift_lets -underBinder
  repeat' first
    | with_reducible assumption
    | with_reducible refine Within.ite ?_ ?_
    | with_reducible refine Within.set 10 ?_ ?_ rfl
    | with_reducible refine Within.setB 10 ?_ ?_ rfl
    | with_reducible refine Within.forAll ?_ ?_
    | with_reducible refine (lswOn_within _ _ _).step ?_ rfl
    | with_reducible refine (raise_within _ _ _ _ _).step ?_ rfl
    | with_reducible refine Within.foldl _ ?_ ?_
    | (intro (x : State); refine Within.cut (x := x) (m := 0x440200082004) (s := s) ?_ (fun hx => ?_); unfold x)
    | intro x
    | lift_lets -underBinder
    | split
    | exact rfl
    | (split <;> rfl)
    | clear_value *

theorem execLswGroupDisturbEnd_within (g : Nat) (s : State) :
    ∃ t, execLswGroupDisturbEnd g s = .next t ∧ Within 0x40000000000 s t := by
  refine ⟨_, rfl, ?_⟩
  have h0 := Within.refl 0x40000000000 s
  try lift_lets -underBinder
  repeat' first
    | with_reducible assumption
    | with_reducible refine Within.ite ?_ ?_
    | with_reducible refine Within.setB 10 ?_ ?_ rfl
    | with_reducible refine Within.foldl _ ?_ ?_
    | (intro (x : State); refine Within.cut (x := x) (m := 0x40000000000) (s := s) ?_ (fun hx => ?_); unfold x)
    | intro x
    | lift_lets -underBinder
    | split
    | exact rfl
    | (split <;> rfl)
    | clear_value *

theorem execLswOpenLoad_within (c : Nat) (s : State) :
    ∃ t, execLswOpenLoad c s = .next t ∧ Within 0x440200080004 s t := by
  refine ⟨_, rfl, ?_⟩
  have h0 := Within.refl 0x440200080004 s
  try lift_lets -underBinder
  repeat' first
    | with_reducible assumption
    | with_reducible refine Within.ite ?_ ?_
    | with_reducible refine (raise_within _ _ _ _ _).step ?_ rfl
    | with_reducible refine Within.setB 10 ?_ ?_ rfl
    | with_reducible refine Within.foldl _ ?_ ?_
    | (intro (x : State); refine Within.cut (x := x) (m := 0x440200080004) (s := s) ?_ (fun hx => ?_); unfold x)
    | intro x
    | lift_lets -underBinder
    | split
    | exact rfl
    | (split <;> rfl)
    | clear_value *

theorem execLswShortSupply_within (c : Nat) (present : Bool) (s : State) :
    ∃ t, execLswShortSupply c present s = .next t ∧ Within 0x440200080004 s t := by
  refine ⟨_, rfl, ?_⟩
  have h0 := Within.refl 0x440200080004 s
  try lift_lets -underBinder
  repeat' first
    | with_reducible assumption
    | with_reducible refine Within.ite ?_ ?_
    | with_reducible refine (raise_within _ _ _ _ _).step ?_ rfl
    | with_reducible refine Within.setB 10 ?_ ?_ rfl
    | with_reducible refine Within.foldl _ ?_ ?_
    | (intro (x : State); refine Within.cut (x := x) (m := 0x440200080004) (s := s) ?_ (fun hx => ?_); unfold x)
    | intro x
    | lift_lets -underBinder
    | split
    | exact rfl
    | (split <;> rfl)
    | clear_value *

theorem execLswSetUvTimeout_within (c : Nat) (s : State) :
    ∃ t, execLswSetUvTimeout c s = .next t ∧ Within 0x400200082004 s t := by
  refine ⟨_, rfl, ?_⟩
  have h0 := Within.refl 0x400200082004 s
  try lift_lets -underBinder
  repeat' first
    | with_reducible assumption
    | with_reducible refine Within.ite ?_ ?_
    | with_reducible refine (lswDone_within _ _ _ _).step ?_ rfl
    | with_reducible refine Within.foldl _ ?_ ?_
    | (intro (x : State); refine Within.cut (x := x) (m := 0x400200082004) (s := s) ?_ (fun hx => ?_); unfold x)
    | intro x
    | lift_lets -underBinder
    | split
    | exact rfl
    | (split <;> rfl)
    | clear_value *

theorem execLswCurrentSample_within (c sample temp lsv : Nat) (s : State) :
    ∃ t, execLswCurrentSample c sample temp lsv s = .next t ∧ Within 0x440200082004 s t := by
  refine ⟨_, rfl, ?_⟩
  have h0 := Within.refl 0x440200082004 s
  try lift_lets -underBinder
  repeat' first
    | with_reducible assumption
    | with_reducible refine Within.ite ?_ ?_
    | with_reducible refine Within.set 10 ?_ ?_ rfl
    | with_reducible refine Within.setB 10 ?_ ?_ rfl
    | with_reducible refine (modCh_within _ _ _).step ?_ rfl
    | with_reducible refine (raise_within _ _ _ _ _).step ?_ rfl
    | with_reducible refine Within.foldl _ ?_ ?_
    | (intro (x : State); refine Within.cut (x := x) (m := 0x440200082004) (s := s) ?_ (fun hx => ?_); unfold x)
    | intro x
    | lift_lets -underBinder
    | split
    | exact rfl
    | (split <;> rfl)
    | clear_value *

theorem execLswReleaseStep_within (s : State) :
    ∃ t, execLswReleaseStep s = .next t ∧ Within 0x440200086004 s t := by
  refine ⟨_, rfl, ?_⟩
  have h0 := Within.refl 0x440200086004 s
  try lift_lets -underBinder
  repeat' first
    | with_reducible assumption
    | with_reducible refine Within.ite ?_ ?_
    | with_reducible refine (releaseChan_within _).step ?_ rfl
    | with_reducible refine Within.foldl _ ?_ ?_
    | (intro (x : State); refine Within.cut (x := x) (m := 0x440200086004) (s := s) ?_ (fun hx => ?_); unfold x)
    | intro x
    | lift_lets -underBinder
    | split
    | exact rfl
    | (split <;> rfl)
    | clear_value *

theorem lswCfgWrite_within (c : Nat) (r : RegRow) (base w : Nat) (s : State) :
    Within 0xFFFFFFFFFFFFFFFFFFFFFFFFFFFFFFFFFFFFFFFFFFFFFFFFFFFFFFFFFFFFFFFF00086004 s (State.lswCfgWrite c r base w s) := by
  have h0 := Within.refl 0xFFFFFFFFFFFFFFFFFFFFFFFFFFFFFFFFFFFFFFFFFFFFFFFFFFFFFFFFFFFFFFFF00086004 s
  unfold State.lswCfgWrite
  try lift_lets -underBinder
  repeat' first
    | with_reducible assumption
    | with_reducible refine Within.ite ?_ ?_
    | with_reducible refine Within.setB_all ?_ rfl
    | with_reducible refine (writeFields_within _ _ _ _).step ?_ rfl
    | with_reducible refine (lswReleased_within _ _).step ?_ rfl
    | with_reducible refine (lswSetOff_within _ _).step ?_ rfl
    | with_reducible refine (lswFollow_within _ _).step ?_ rfl
    | with_reducible refine Within.foldl _ ?_ ?_
    | (intro (x : State); refine Within.cut (x := x) (m := 0xFFFFFFFFFFFFFFFFFFFFFFFFFFFFFFFFFFFFFFFFFFFFFFFFFFFFFFFFFFFFFFFF00086004) (s := s) ?_ (fun hx => ?_); unfold x)
    | intro x
    | lift_lets -underBinder
    | split
    | exact rfl
    | (split <;> rfl)
    | clear_value *

theorem execLswEnableClearWrite_within (p c val : Nat) (s : State) :
    ∃ t, execLswEnableClearWrite p c val s = .next t ∧ Within 0xFFFFFFFFFFFFFFFFFFFFFFFFFFFFFFFFFFFFFFFFFFFFFFFFFFFFFFFFFFFFFFFF00086004 s t := by
  refine ⟨_, rfl, ?_⟩
  have h0 := Within.refl 0xFFFFFFFFFFFFFFFFFFFFFFFFFFFFFFFFFFFFFFFFFFFFFFFFFFFFFFFFFFFFFFFF00086004 s
  try lift_lets -underBinder
  repeat' first
    | with_reducible assumption
    | with_reducible refine Within.ite ?_ ?_
    | with_reducible refine setupWrite_within ?_ ?_ rfl
    | with_reducible refine (lswCfgWrite_within _ _ _ _ _).step ?_ rfl
    | with_reducible refine Within.foldl _ ?_ ?_
    | (intro (x : State); refine Within.cut (x := x) (m := 0xFFFFFFFFFFFFFFFFFFFFFFFFFFFFFFFFFFFFFFFFFFFFFFFFFFFFFFFFFFFFFFFF00086004) (s := s) ?_ (fun hx => ?_); unfold x)
    | intro x
    | lift_lets -underBinder
    | split
    | exact rfl
    | (split <;> rfl)
    | clear_value *

end Sys2Proof.Laws
end

