-- ==== Sys2Proof/Laws/WithinKeys.lean ====
section
/-!
SUPPORT. What the operations of Machine/Keys.lean may touch.
-/
namespace Sys2Proof.Laws

open Sys2Proof.Machine

theorem signDual_within (s : State) (k : Nat) (ctx : String) (hash : List Nat) :
    Within 0x2 s (State.signDual s k ctx hash).2 := by
  have h0 := Within.refl 0x2 s
  unfold State.signDual
  try lift_lets -underBinder
  repeat' first
    | with_reducible assumption
    | with_reducible refine Within.ite ?_ ?_
    | with_reducible refine Within.ite2 ?_ ?_
    | with_reducible refine (draw_within _ _).step ?_ rfl
    | with_reducible refine Within.foldl _ ?_ ?_
    | with_reducible refine Within.foldl2 _ ?_ ?_
    | (intro (x : State); refine Within.cut (x := x) (m := 0x2) (s := s) ?_ (fun hx => ?_); unfold x)
    | intro x
    | lift_lets -underBinder
    | split
    | exact rfl
    | (split <;> rfl)
    | clear_value *

end Sys2Proof.Laws
end

