-- ==== Sys2Proof/Laws/WithinRegions.lean ====
section
/-!
SUPPORT. What the operations of Machine/Regions.lean may touch.
-/
namespace Sys2Proof.Laws

open Sys2Proof.Machine

theorem setRegion_within (s : State) (r : Nat) (x : Region) :
    Within 0x80000 s (State.setRegion s r x) := by
  have h0 := Within.refl 0x80000 s
  unfold State.setRegion
  try lift_lets -underBinder
  repeat' first
    | with_reducible assumption
    | with_reducible refine Within.ite ?_ ?_
    | with_reducible refine (modHay_within _ _ ?_).step ?_ rfl
    | exact fun _ => rfl
    | with_reducible refine Within.foldl _ ?_ ?_
    | (intro (x : State); refine Within.cut (x := x) (m := 0x80000) (s := s) ?_ (fun hx => ?_); unfold x)
    | intro x
    | lift_lets -underBinder
    | split
    | exact rfl
    | (split <;> rfl)
    | clear_value *

theorem append_within (s : State) (r : Nat) (item : List Nat) :
    Within 0x80000 s (State.append s r item) := by
  have h0 := Within.refl 0x80000 s
  unfold State.append
  try lift_lets -underBinder
  repeat' first
    | with_reducible assumption
    | with_reducible refine Within.ite ?_ ?_
    | with_reducible refine (setRegion_within _ _ _).step ?_ rfl
    | with_reducible refine Within.foldl _ ?_ ?_
    | (intro (x : State); refine Within.cut (x := x) (m := 0x80000) (s := s) ?_ (fun hx => ?_); unfold x)
    | intro x
    | lift_lets -underBinder
    | split
    | exact rfl
    | (split <;> rfl)
    | clear_value *

end Sys2Proof.Laws
end

