-- ==== Sys2Proof/Laws/WithinChangeLog.lean ====
section
/-!
SUPPORT. What the operations of Machine/ChangeLog.lean may touch.
-/
namespace Sys2Proof.Laws

open Sys2Proof.Machine

theorem changeBytes_within (s : State) (kind p : Nat) (body : List Nat) :
    Within 0x2 s (State.changeBytes s kind p body).2 := by
  have h0 := Within.refl 0x2 s
  unfold State.changeBytes
  try lift_lets -underBinder
  repeat' first
    | with_reducible assumption
    | with_reducible refine Within.ite ?_ ?_
    | with_reducible refine Within.ite2 ?_ ?_
    | with_reducible refine (signDual_within _ _ _ _).step ?_ rfl
    | with_reducible refine Within.foldl _ ?_ ?_
    | with_reducible refine Within.foldl2 _ ?_ ?_
    | (intro (x : State); refine Within.cut (x := x) (m := 0x2) (s := s) ?_ (fun hx => ?_); unfold x)
    | intro x
    | lift_lets -underBinder
    | split
    | exact rfl
    | (split <;> rfl)
    | clear_value *

theorem changeRefused_within (s : State) (what : Nat) :
    Within 0x600200080004 s (State.changeRefused s what) := by
  have h0 := Within.refl 0x600200080004 s
  unfold State.changeRefused
  try lift_lets -underBinder
  repeat' first
    | with_reducible assumption
    | with_reducible refine Within.ite ?_ ?_
    | with_reducible refine (raise_within _ _ _ _ _).step ?_ rfl
    | with_reducible refine Within.setB 13 ?_ ?_ rfl
    | with_reducible refine Within.foldl _ ?_ ?_
    | (intro (x : State); refine Within.cut (x := x) (m := 0x600200080004) (s := s) ?_ (fun hx => ?_); unfold x)
    | intro x
    | lift_lets -underBinder
    | split
    | exact rfl
    | (split <;> rfl)
    | clear_value *

theorem raiseFull_within (s : State) :
    Within 0x400200080004 s (State.raiseFull s) := by
  have h0 := Within.refl 0x400200080004 s
  unfold State.raiseFull
  try lift_lets -underBinder
  repeat' first
    | with_reducible assumption
    | with_reducible refine Within.ite ?_ ?_
    | with_reducible refine (raise_within _ _ _ _ _).step ?_ rfl
    | with_reducible refine Within.foldl _ ?_ ?_
    | (intro (x : State); refine Within.cut (x := x) (m := 0x400200080004) (s := s) ?_ (fun hx => ?_); unfold x)
    | intro x
    | lift_lets -underBinder
    | split
    | exact rfl
    | (split <;> rfl)
    | clear_value *

theorem logChange_within (s : State) (kind p what : Nat) (body : List Nat) (act : ChangeAct) :
    Within 0x600200080006 s (State.logChange s kind p what body act).2 := by
  have h0 := Within.refl 0x600200080006 s
  unfold State.logChange
  try lift_lets -underBinder
  repeat' first
    | with_reducible assumption
    | with_reducible refine Within.ite ?_ ?_
    | with_reducible refine Within.ite2 ?_ ?_
    | with_reducible refine (changeRefused_within _ _).step ?_ rfl
    | with_reducible refine (raiseFull_within _).step ?_ rfl
    | with_reducible refine (changeBytes_within _ _ _ _).step ?_ rfl
    | with_reducible refine (tryStore_within _ _ _ _).step ?_ rfl
    | with_reducible refine Within.inc 13 ?_ ?_ rfl
    | with_reducible refine Within.foldl _ ?_ ?_
    | with_reducible refine Within.foldl2 _ ?_ ?_
    | (intro (x : State); refine Within.cut (x := x) (m := 0x600200080006) (s := s) ?_ (fun hx => ?_); unfold x)
    | intro x
    | lift_lets -underBinder
    | split
    | exact rfl
    | (split <;> rfl)
    | clear_value *

theorem newNonce_within (s : State) :
    Within 0x200000000002 s (State.newNonce s) := by
  have h0 := Within.refl 0x200000000002 s
  unfold State.newNonce
  try lift_lets -underBinder
  repeat' first
    | with_reducible assumption
    | with_reducible refine Within.ite ?_ ?_
    | with_reducible refine Within.ite2 ?_ ?_
    | with_reducible refine (draw_within _ _).step ?_ rfl
    | with_reducible refine Within.set 13 ?_ ?_ rfl
    | with_reducible refine Within.foldl _ ?_ ?_
    | with_reducible refine Within.foldl2 _ ?_ ?_
    | (intro (x : State); refine Within.cut (x := x) (m := 0x200000000002) (s := s) ?_ (fun hx => ?_); unfold x)
    | intro x
    | lift_lets -underBinder
    | split
    | exact rfl
    | (split <;> rfl)
    | clear_value *

theorem closeEntry_within (s : State) (p : Nat) :
    Within 0x600000080002 s (State.closeEntry s p) := by
  have h0 := Within.refl 0x600000080002 s
  unfold State.closeEntry
  try lift_lets -underBinder
  repeat' first
    | with_reducible assumption
    | with_reducible refine Within.ite ?_ ?_
    | with_reducible refine Within.ite2 ?_ ?_
    | with_reducible refine (changeBytes_within _ _ _ _).step ?_ rfl
    | with_reducible refine (tryStore_within _ _ _ _).step ?_ rfl
    | with_reducible refine Within.inc 13 ?_ ?_ rfl
    | with_reducible refine (modHay_within _ _ ?_).step ?_ rfl
    | exact fun _ => rfl
    | with_reducible refine Within.foldl _ ?_ ?_
    | with_reducible refine Within.foldl2 _ ?_ ?_
    | (intro (x : State); refine Within.cut (x := x) (m := 0x600000080002) (s := s) ?_ (fun hx => ?_); unfold x)
    | intro x
    | lift_lets -underBinder
    | split
    | exact rfl
    | (split <;> rfl)
    | clear_value *

theorem closeWindow_within (s : State) (how : Nat) :
    Within 0x600200080006 s (State.closeWindow s how) := by
  have h0 := Within.refl 0x600200080006 s
  unfold State.closeWindow
  try lift_lets -underBinder
  repeat' first
    | with_reducible assumption
    | with_reducible refine Within.ite ?_ ?_
    | with_reducible refine Within.setB 13 ?_ ?_ rfl
    | with_reducible refine Within.set 13 ?_ ?_ rfl
    | with_reducible refine (closeEntry_within _ _).step ?_ rfl
    | with_reducible refine (raise_within _ _ _ _ _).step ?_ rfl
    | with_reducible refine (newNonce_within _).step ?_ rfl
    | with_reducible refine Within.foldl _ ?_ ?_
    | (intro (x : State); refine Within.cut (x := x) (m := 0x600200080006) (s := s) ?_ (fun hx => ?_); unfold x)
    | intro x
    | lift_lets -underBinder
    | split
    | exact rfl
    | (split <;> rfl)
    | clear_value *

end Sys2Proof.Laws
end

