-- ==== Sys2Proof/Laws/WithinMeterOps.lean ====
section
/-!
SUPPORT. What the operations of Machine/MeterOps.lean may touch.
-/
namespace Sys2Proof.Laws

open Sys2Proof.Machine

theorem modMet_within (s : State) (c : Nat) (f : Met → Met) :
    Within 0x8000 s (State.modMet s c f) := by
  have h0 := Within.refl 0x8000 s
  unfold State.modMet
  try lift_lets -underBinder
  repeat' first
    | with_reducible assumption
    | with_reducible refine Within.ite ?_ ?_
    | with_reducible refine (modWbg_within _ _).step ?_ rfl
    | with_reducible refine Within.foldl _ ?_ ?_
    | (intro (x : State); refine Within.cut (x := x) (m := 0x8000) (s := s) ?_ (fun hx => ?_); unfold x)
    | intro x
    | lift_lets -underBinder
    | split
    | exact rfl
    | (split <;> rfl)
    | clear_value *

theorem showChan_within (s : State) (c : Nat) :
    Within 0x402200080004 s (State.showChan s c) := by
  have h0 := Within.refl 0x402200080004 s
  unfold State.showChan
  try lift_lets -underBinder
  repeat' first
    | with_reducible assumption
    | with_reducible refine Within.ite ?_ ?_
    | with_reducible refine (raise_within _ _ _ _ _).step ?_ rfl
    | with_reducible refine Within.set 5 ?_ ?_ rfl
    | with_reducible refine Within.foldl _ ?_ ?_
    | (intro (x : State); refine Within.cut (x := x) (m := 0x402200080004) (s := s) ?_ (fun hx => ?_); unfold x)
    | intro x
    | lift_lets -underBinder
    | split
    | exact rfl
    | (split <;> rfl)
    | clear_value *

theorem setAcc_within (s : State) (c : Nat) (rev : Bool) (v : Nat) :
    Within 0x2000000000 s (State.setAcc s c rev v) := by
  have h0 := Within.refl 0x2000000000 s
  unfold State.setAcc
  try lift_lets -underBinder
  repeat' first
    | with_reducible assumption
    | with_reducible refine Within.ite ?_ ?_
    | with_reducible refine Within.set 5 ?_ ?_ rfl
    | with_reducible refine Within.foldl _ ?_ ?_
    | (intro (x : State); refine Within.cut (x := x) (m := 0x2000000000) (s := s) ?_ (fun hx => ?_); unfold x)
    | intro x
    | lift_lets -underBinder
    | split
    | exact rfl
    | (split <;> rfl)
    | clear_value *

theorem addEnergy_within (s : State) (c k hi f r : Nat) :
    Within 0x2000018000 s (State.addEnergy s c k hi f r) := by
  have h0 := Within.refl 0x2000018000 s
  unfold State.addEnergy
  try lift_lets -underBinder
  repeat' first
    | with_reducible assumption
    | with_reducible refine Within.ite ?_ ?_
    | with_reducible refine (setAcc_within _ _ _ _).step ?_ rfl
    | with_reducible refine (modMet_within _ _ _).step ?_ rfl
    | with_reducible refine (modBil_within _ _).step ?_ rfl
    | with_reducible refine Within.foldl _ ?_ ?_
    | (intro (x : State); refine Within.cut (x := x) (m := 0x2000018000) (s := s) ?_ (fun hx => ?_); unfold x)
    | intro x
    | lift_lets -underBinder
    | split
    | exact rfl
    | (split <;> rfl)
    | clear_value *

theorem refreshHeld_within (s : State) :
    Within 0x40C200080004 s (State.refreshHeld s) := by
  have h0 := Within.refl 0x40C200080004 s
  unfold State.refreshHeld
  try lift_lets -underBinder
  repeat' first
    | with_reducible assumption
    | with_reducible refine Within.ite ?_ ?_
    | with_reducible refine (raise_within _ _ _ _ _).step ?_ rfl
    | ((with_reducible refine Within.setB 6 ?_ ?hw rfl); case hw => first | exact rfl | assumption | (split <;> rfl))
    | ((with_reducible refine Within.setB 7 ?_ ?hw rfl); case hw => first | exact rfl | assumption | (split <;> rfl))
    | with_reducible refine Within.foldl _ ?_ ?_
    | (intro (x : State); refine Within.cut (x := x) (m := 0x40C200080004) (s := s) ?_ (fun hx => ?_); unfold x)
    | intro x
    | lift_lets -underBinder
    | split
    | exact rfl
    | (split <;> rfl)
    | clear_value *

theorem setAcct_within (s : State) (x : Acct) :
    Within 0x10000 s (State.setAcct s x) := by
  have h0 := Within.refl 0x10000 s
  unfold State.setAcct
  try lift_lets -underBinder
  repeat' first
    | with_reducible assumption
    | with_reducible refine Within.ite ?_ ?_
    | with_reducible refine (modBil_within _ _).step ?_ rfl
    | with_reducible refine Within.foldl _ ?_ ?_
    | (intro (x : State); refine Within.cut (x := x) (m := 0x10000) (s := s) ?_ (fun hx => ?_); unfold x)
    | intro x
    | lift_lets -underBinder
    | split
    | exact rfl
    | (split <;> rfl)
    | clear_value *

theorem captureIn_within (s : State) (boot : Nat) (r : Reading) :
    Within 0x4000010000 s (State.captureIn s boot r) := by
  have h0 := Within.refl 0x4000010000 s
  unfold State.captureIn
  try lift_lets -underBinder
  repeat' first
    | with_reducible assumption
    | with_reducible refine Within.ite ?_ ?_
    | with_reducible refine Within.inc 6 ?_ ?_ rfl
    | with_reducible refine (modBil_within _ _).step ?_ rfl
    | with_reducible refine Within.foldl _ ?_ ?_
    | (intro (x : State); refine Within.cut (x := x) (m := 0x4000010000) (s := s) ?_ (fun hx => ?_); unfold x)
    | intro x
    | lift_lets -underBinder
    | split
    | exact rfl
    | (split <;> rfl)
    | clear_value *

theorem capture_within (s : State) (r : Reading) :
    Within 0x4000010000 s (State.capture s r) := by
  have h0 := Within.refl 0x4000010000 s
  unfold State.capture
  try lift_lets -underBinder
  repeat' first
    | with_reducible assumption
    | with_reducible refine Within.ite ?_ ?_
    | with_reducible refine (captureIn_within _ _ _).step ?_ rfl
    | with_reducible refine Within.foldl _ ?_ ?_
    | (intro (x : State); refine Within.cut (x := x) (m := 0x4000010000) (s := s) ?_ (fun hx => ?_); unfold x)
    | intro x
    | lift_lets -underBinder
    | split
    | exact rfl
    | (split <;> rfl)
    | clear_value *

theorem checkAcct_within (s : State) (a : Nat) :
    Within 0x404200090004 s (State.checkAcct s a) := by
  have h0 := Within.refl 0x404200090004 s
  unfold State.checkAcct
  try lift_lets -underBinder
  repeat' first
    | with_reducible assumption
    | with_reducible refine Within.ite ?_ ?_
    | with_reducible refine (setAcct_within _ _).step ?_ rfl
    | with_reducible refine (raise_within _ _ _ _ _).step ?_ rfl
    | with_reducible refine Within.forAll ?_ ?_
    | with_reducible refine (capture_within _ _).step ?_ rfl
    | with_reducible refine Within.foldl _ ?_ ?_
    | (intro (x : State); refine Within.cut (x := x) (m := 0x404200090004) (s := s) ?_ (fun hx => ?_); unfold x)
    | intro x
    | lift_lets -underBinder
    | split
    | exact rfl
    | (split <;> rfl)
    | clear_value *

theorem checkAccts_within (s : State) :
    Within 0x404200090004 s (State.checkAccts s) := by
  have h0 := Within.refl 0x404200090004 s
  unfold State.checkAccts
  try lift_lets -underBinder
  repeat' first
    | with_reducible assumption
    | with_reducible refine Within.ite ?_ ?_
    | with_reducible refine Within.forAll ?_ ?_
    | with_reducible refine (checkAcct_within _ _).step ?_ rfl
    | with_reducible refine Within.foldl _ ?_ ?_
    | (intro (x : State); refine Within.cut (x := x) (m := 0x404200090004) (s := s) ?_ (fun hx => ?_); unfold x)
    | intro x
    | lift_lets -underBinder
    | split
    | exact rfl
    | (split <;> rfl)
    | clear_value *

end Sys2Proof.Laws
end

