-- ==== Sys2Proof/Laws/WithinMeterCommit.lean ====
section
/-!
SUPPORT. What the operations of Machine/MeterCommit.lean may touch.
-/
namespace Sys2Proof.Laws

open Sys2Proof.Machine

theorem addSplit_within (s : State) (at_ : Nat) (ch : Option Nat) (steps : List Step) :
    Within 0x402200088004 s (State.addSplit s at_ ch steps) := by
  have h0 := Within.refl 0x402200088004 s
  unfold State.addSplit
  try lift_lets -underBinder
  repeat' first
    | with_reducible assumption
    | with_reducible refine Within.ite ?_ ?_
    | with_reducible refine (modWbg_within _ _).step ?_ rfl
    | with_reducible refine (raise_within _ _ _ _ _).step ?_ rfl
    | with_reducible refine Within.setB 5 ?_ ?_ rfl
    | with_reducible refine Within.forAll ?_ ?_
    | with_reducible refine (modMet_within _ _ _).step ?_ rfl
    | with_reducible refine Within.foldl _ ?_ ?_
    | (intro (x : State); refine Within.cut (x := x) (m := 0x402200088004) (s := s) ?_ (fun hx => ?_); unfold x)
    | intro x
    | lift_lets -underBinder
    | split
    | exact rfl
    | (split <;> rfl)
    | clear_value *

theorem blockEntry_within (s : State) (c : Nat) (head : List Nat) (x : Moment) :
    Within 0x4000008002 s (State.blockEntry s c head x).2 := by
  have h0 := Within.refl 0x4000008002 s
  unfold State.blockEntry
  try lift_lets -underBinder
  repeat' first
    | with_reducible assumption
    | with_reducible refine Within.ite ?_ ?_
    | with_reducible refine Within.ite2 ?_ ?_
    | with_reducible refine (fresh_within _ _).step ?_ rfl
    | with_reducible refine Within.set 6 ?_ ?_ rfl
    | with_reducible refine (modMet_within _ _ _).step ?_ rfl
    | with_reducible refine Within.foldl _ ?_ ?_
    | with_reducible refine Within.foldl2 _ ?_ ?_
    | (intro (x : State); refine Within.cut (x := x) (m := 0x4000008002) (s := s) ?_ (fun hx => ?_); unfold x)
    | intro x
    | lift_lets -underBinder
    | split
    | exact rfl
    | (split <;> rfl)
    | clear_value *

theorem queueBlock_within (s : State) (head : List Nat) (x : Moment) :
    Within 0x4000018002 s (State.queueBlock s head x) := by
  have h0 := Within.refl 0x4000018002 s
  unfold State.queueBlock
  try lift_lets -underBinder
  repeat' first
    | with_reducible assumption
    | with_reducible refine Within.ite ?_ ?_
    | with_reducible refine Within.ite2 ?_ ?_
    | with_reducible refine (blockEntry_within _ _ _ _).step ?_ rfl
    | with_reducible refine (modBil_within _ _).step ?_ rfl
    | with_reducible refine Within.foldl _ ?_ ?_
    | with_reducible refine Within.foldl2 _ ?_ ?_
    | (intro (x : State); refine Within.cut (x := x) (m := 0x4000018002) (s := s) ?_ (fun hx => ?_); unfold x)
    | intro x
    | lift_lets -underBinder
    | split
    | exact rfl
    | (split <;> rfl)
    | clear_value *

theorem sealDay_within (s : State) (midnight : Nat) (x : Moment) :
    Within 0x404200090004 s (State.sealDay s midnight x) := by
  have h0 := Within.refl 0x404200090004 s
  unfold State.sealDay
  try lift_lets -underBinder
  repeat' first
    | with_reducible assumption
    | with_reducible refine Within.ite ?_ ?_
    | with_reducible refine (capture_within _ _).step ?_ rfl
    | with_reducible refine (raise_within _ _ _ _ _).step ?_ rfl
    | with_reducible refine (modBil_within _ _).step ?_ rfl
    | with_reducible refine Within.foldl _ ?_ ?_
    | (intro (x : State); refine Within.cut (x := x) (m := 0x404200090004) (s := s) ?_ (fun hx => ?_); unfold x)
    | intro x
    | lift_lets -underBinder
    | split
    | exact rfl
    | (split <;> rfl)
    | clear_value *

theorem endSession_within (s : State) (c : Nat) (e : Moment) :
    Within 0x4000018000 s (State.endSession s c e) := by
  have h0 := Within.refl 0x4000018000 s
  unfold State.endSession
  try lift_lets -underBinder
  repeat' first
    | with_reducible assumption
    | with_reducible refine Within.ite ?_ ?_
    | with_reducible refine (capture_within _ _).step ?_ rfl
    | with_reducible refine (modBil_within _ _).step ?_ rfl
    | with_reducible refine (modMet_within _ _ _).step ?_ rfl
    | with_reducible refine Within.foldl _ ?_ ?_
    | (intro (x : State); refine Within.cut (x := x) (m := 0x4000018000) (s := s) ?_ (fun hx => ?_); unfold x)
    | intro x
    | lift_lets -underBinder
    | split
    | exact rfl
    | (split <;> rfl)
    | clear_value *

theorem startSession_within (s : State) (c : Nat) (e : Moment) :
    Within 0x4000018000 s (State.startSession s c e) := by
  have h0 := Within.refl 0x4000018000 s
  unfold State.startSession
  try lift_lets -underBinder
  repeat' first
    | with_reducible assumption
    | with_reducible refine Within.ite ?_ ?_
    | with_reducible refine (modMet_within _ _ _).step ?_ rfl
    | with_reducible refine (modBil_within _ _).step ?_ rfl
    | with_reducible refine (capture_within _ _).step ?_ rfl
    | with_reducible refine Within.foldl _ ?_ ?_
    | (intro (x : State); refine Within.cut (x := x) (m := 0x4000018000) (s := s) ?_ (fun hx => ?_); unfold x)
    | intro x
    | lift_lets -underBinder
    | split
    | exact rfl
    | (split <;> rfl)
    | clear_value *

theorem runStep_within (s : State) (at_ : Nat) (x : Step) :
    Within 0x404200098006 s (State.runStep s at_ x) := by
  have h0 := Within.refl 0x404200098006 s
  unfold State.runStep
  try lift_lets -underBinder
  repeat' first
    | with_reducible assumption
    | with_reducible refine Within.ite ?_ ?_
    | with_reducible refine (queueBlock_within _ _ _).step ?_ rfl
    | with_reducible refine (modBil_within _ _).step ?_ rfl
    | with_reducible refine (sealDay_within _ _ _).step ?_ rfl
    | with_reducible refine (endSession_within _ _ _).step ?_ rfl
    | with_reducible refine (startSession_within _ _ _).step ?_ rfl
    | with_reducible refine Within.foldl _ ?_ ?_
    | (intro (x : State); refine Within.cut (x := x) (m := 0x404200098006) (s := s) ?_ (fun hx => ?_); unfold x)
    | intro x
    | lift_lets -underBinder
    | split
    | exact rfl
    | (split <;> rfl)
    | clear_value *

theorem runSplit_within (s : State) (x : Nat × List Step) :
    Within 0x404200098006 s (State.runSplit s x) := by
  have h0 := Within.refl 0x404200098006 s
  unfold State.runSplit
  try lift_lets -underBinder
  repeat' first
    | with_reducible assumption
    | with_reducible refine Within.ite ?_ ?_
    | with_reducible refine (runStep_within _ _ _).step ?_ rfl
    | with_reducible refine Within.foldl _ ?_ ?_
    | (intro (x : State); refine Within.cut (x := x) (m := 0x404200098006) (s := s) ?_ (fun hx => ?_); unfold x)
    | intro x
    | lift_lets -underBinder
    | split
    | exact rfl
    | (split <;> rfl)
    | clear_value *

theorem routeLate_within (s : State) (outs : List (Nat × MsOut)) (start : Nat) :
    Within 0x2000018000 s (State.routeLate s outs start) := by
  have h0 := Within.refl 0x2000018000 s
  unfold State.routeLate
  try lift_lets -underBinder
  repeat' first
    | with_reducible assumption
    | with_reducible refine Within.ite ?_ ?_
    | with_reducible refine (addEnergy_within _ _ _ _ _ _).step ?_ rfl
    | with_reducible refine Within.foldl _ ?_ ?_
    | (intro (x : State); refine Within.cut (x := x) (m := 0x2000018000) (s := s) ?_ (fun hx => ?_); unfold x)
    | intro x
    | lift_lets -underBinder
    | split
    | exact rfl
    | (split <;> rfl)
    | clear_value *

theorem routeSeg_within (s : State) (outs : List (Nat × MsOut)) (lo hi : Nat) :
    Within 0x2000018000 s (State.routeSeg s outs lo hi) := by
  have h0 := Within.refl 0x2000018000 s
  unfold State.routeSeg
  try lift_lets -underBinder
  repeat' first
    | with_reducible assumption
    | with_reducible refine Within.ite ?_ ?_
    | with_reducible refine (addEnergy_within _ _ _ _ _ _).step ?_ rfl
    | with_reducible refine Within.foldl _ ?_ ?_
    | (intro (x : State); refine Within.cut (x := x) (m := 0x2000018000) (s := s) ?_ (fun hx => ?_); unfold x)
    | intro x
    | lift_lets -underBinder
    | split
    | exact rfl
    | (split <;> rfl)
    | clear_value *

theorem routeMs_within (s : State) (outs : List (Nat × MsOut)) (fin lo : Nat) (l : List (Nat × List Step)) :
    Within 0x406200098006 s (s.routeMs outs fin lo l) := by
  induction l generalizing s lo with
  | nil => exact (routeSeg_within s outs lo fin).step (Within.refl _ s) rfl
  | cons x t ih =>
    exact (ih _ _).step ((runSplit_within _ _).step ((routeSeg_within s outs lo x.1).step (Within.refl _ s) rfl) rfl) rfl

theorem unmetered_within (s : State) (c : Nat) (o : MsOut) :
    Within 0x2000008000 s (State.unmetered s c o) := by
  have h0 := Within.refl 0x2000008000 s
  unfold State.unmetered
  try lift_lets -underBinder
  repeat' first
    | with_reducible assumption
    | with_reducible refine Within.ite ?_ ?_
    | with_reducible refine Within.set 5 ?_ ?_ rfl
    | with_reducible refine Within.incSat 5 ?_ ?_ rfl
    | with_reducible refine Within.addSat 5 ?_ ?_ rfl
    | with_reducible refine (modMet_within _ _ _).step ?_ rfl
    | with_reducible refine Within.foldl _ ?_ ?_
    | (intro (x : State); refine Within.cut (x := x) (m := 0x2000008000) (s := s) ?_ (fun hx => ?_); unfold x)
    | intro x
    | lift_lets -underBinder
    | split
    | exact rfl
    | (split <;> rfl)
    | clear_value *

theorem macFailed_within (s : State) (n ms : Nat) :
    Within 0x400000008 s (State.macFailed s n ms) := by
  have h0 := Within.refl 0x400000008 s
  unfold State.macFailed
  try lift_lets -underBinder
  repeat' first
    | with_reducible assumption
    | with_reducible refine Within.ite ?_ ?_
    | with_reducible refine (modLink_within _ _ _).step ?_ rfl
    | with_reducible refine Within.incSat 2 ?_ ?_ rfl
    | with_reducible refine Within.foldl _ ?_ ?_
    | (intro (x : State); refine Within.cut (x := x) (m := 0x400000008) (s := s) ?_ (fun hx => ?_); unfold x)
    | intro x
    | lift_lets -underBinder
    | split
    | exact rfl
    | (split <;> rfl)
    | clear_value *

theorem macReport_within (s : State) (n : Nat) :
    Within 0x400200080004 s (State.macReport s n) := by
  have h0 := Within.refl 0x400200080004 s
  unfold State.macReport
  try lift_lets -underBinder
  repeat' first
    | with_reducible assumption
    | with_reducible refine Within.ite ?_ ?_
    | with_reducible refine (raise_within _ _ _ _ _).step ?_ rfl
    | with_reducible refine Within.foldl _ ?_ ?_
    | (intro (x : State); refine Within.cut (x := x) (m := 0x400200080004) (s := s) ?_ (fun hx => ?_); unfold x)
    | intro x
    | lift_lets -underBinder
    | split
    | exact rfl
    | (split <;> rfl)
    | clear_value *

theorem pulseMs_within (s : State) (outs : List (Nat × MsOut)) (k : Nat) :
    Within 0x402200088004 s (State.pulseMs s outs k) := by
  have h0 := Within.refl 0x402200088004 s
  unfold State.pulseMs
  try lift_lets -underBinder
  repeat' first
    | with_reducible assumption
    | with_reducible refine Within.ite ?_ ?_
    | with_reducible refine Within.set 5 ?_ ?_ rfl
    | with_reducible refine (modWbg_within _ _).step ?_ rfl
    | with_reducible refine (raise_within _ _ _ _ _).step ?_ rfl
    | with_reducible refine Within.foldl _ ?_ ?_
    | (intro (x : State); refine Within.cut (x := x) (m := 0x402200088004) (s := s) ?_ (fun hx => ?_); unfold x)
    | intro x
    | lift_lets -underBinder
    | split
    | exact rfl
    | (split <;> rfl)
    | clear_value *

theorem compareEnd_within (s : State) (fin k : Nat) :
    Within 0x402200088004 s (State.compareEnd s fin k) := by
  have h0 := Within.refl 0x402200088004 s
  unfold State.compareEnd
  try lift_lets -underBinder
  repeat' first
    | with_reducible assumption
    | with_reducible refine Within.ite ?_ ?_
    | with_reducible refine Within.set 5 ?_ ?_ rfl
    | with_reducible refine (modWbg_within _ _).step ?_ rfl
    | with_reducible refine (finish_within _ _ _ _ _ _).step ?_ rfl
    | with_reducible refine Within.foldl _ ?_ ?_
    | (intro (x : State); refine Within.cut (x := x) (m := 0x402200088004) (s := s) ?_ (fun hx => ?_); unfold x)
    | intro x
    | lift_lets -underBinder
    | split
    | exact rfl
    | (split <;> rfl)
    | clear_value *

theorem compareMs_within (s : State) (outs : List (Nat × MsOut)) (fin k : Nat) :
    Within 0x402200088004 s (State.compareMs s outs fin k) := by
  have h0 := Within.refl 0x402200088004 s
  unfold State.compareMs
  try lift_lets -underBinder
  repeat' first
    | with_reducible assumption
    | with_reducible refine Within.ite ?_ ?_
    | with_reducible refine (compareEnd_within _ _ _).step ?_ rfl
    | with_reducible refine (modWbg_within _ _).step ?_ rfl
    | with_reducible refine Within.foldl _ ?_ ?_
    | (intro (x : State); refine Within.cut (x := x) (m := 0x402200088004) (s := s) ?_ (fun hx => ?_); unfold x)
    | intro x
    | lift_lets -underBinder
    | split
    | exact rfl
    | (split <;> rfl)
    | clear_value *

theorem applyCal_within (s : State) (x : CalWait) :
    Within 0x406200098004 s (State.applyCal s x) := by
  have h0 := Within.refl 0x406200098004 s
  unfold State.applyCal
  try lift_lets -underBinder
  repeat' first
    | with_reducible assumption
    | with_reducible refine Within.ite ?_ ?_
    | with_reducible refine (modMet_within _ _ _).step ?_ rfl
    | with_reducible refine Within.set 5 ?_ ?_ rfl
    | with_reducible refine Within.inc 5 ?_ ?_ rfl
    | with_reducible refine (showChan_within _ _).step ?_ rfl
    | with_reducible refine (raise_within _ _ _ _ _).step ?_ rfl
    | with_reducible refine (capture_within _ _).step ?_ rfl
    | with_reducible refine (finish_within _ _ _ _ _ _).step ?_ rfl
    | with_reducible refine Within.foldl _ ?_ ?_
    | (intro (x : State); refine Within.cut (x := x) (m := 0x406200098004) (s := s) ?_ (fun hx => ?_); unfold x)
    | intro x
    | lift_lets -underBinder
    | split
    | exact rfl
    | (split <;> rfl)
    | clear_value *

theorem applyCals_within (s : State) (ms : Nat) :
    Within 0x406200098004 s (State.applyCals s ms) := by
  have h0 := Within.refl 0x406200098004 s
  unfold State.applyCals
  try lift_lets -underBinder
  repeat' first
    | with_reducible assumption
    | with_reducible refine Within.ite ?_ ?_
    | with_reducible refine (applyCal_within _ _).step ?_ rfl
    | with_reducible refine (modWbg_within _ _).step ?_ rfl
    | with_reducible refine Within.foldl _ ?_ ?_
    | (intro (x : State); refine Within.cut (x := x) (m := 0x406200098004) (s := s) ?_ (fun hx => ?_); unfold x)
    | intro x
    | lift_lets -underBinder
    | split
    | exact rfl
    | (split <;> rfl)
    | clear_value *

theorem showPower_within (s : State) (c : Nat) (o : MsOut) :
    Within 0x2000000000 s (State.showPower s c o) := by
  have h0 := Within.refl 0x2000000000 s
  unfold State.showPower
  try lift_lets -underBinder
  repeat' first
    | with_reducible assumption
    | with_reducible refine Within.ite ?_ ?_
    | with_reducible refine Within.setS 5 ?_ ?_ rfl
    | with_reducible refine Within.set 5 ?_ ?_ rfl
    | with_reducible refine Within.foldl _ ?_ ?_
    | (intro (x : State); refine Within.cut (x := x) (m := 0x2000000000) (s := s) ?_ (fun hx => ?_); unfold x)
    | intro x
    | lift_lets -underBinder
    | split
    | exact rfl
    | (split <;> rfl)
    | clear_value *

theorem feederAlarms_within (s : State) (f : Nat) (x : FeederIn) :
    Within 0x402200088006 s (State.feederAlarms s f x) := by
  have h0 := Within.refl 0x402200088006 s
  unfold State.feederAlarms
  try lift_lets -underBinder
  repeat' first
    | with_reducible assumption
    | with_reducible refine Within.ite ?_ ?_
    | with_reducible refine Within.ite2 ?_ ?_
    | with_reducible refine (modMet_within _ _ _).step ?_ rfl
    | with_reducible refine Within.set 5 ?_ ?_ rfl
    | with_reducible refine Within.setB 5 ?_ ?_ rfl
    | with_reducible refine Within.forAll ?_ ?_
    | with_reducible refine (raise_within _ _ _ _ _).step ?_ rfl
    | with_reducible refine (fresh_within _ _).step ?_ rfl
    | with_reducible refine Within.foldl _ ?_ ?_
    | with_reducible refine Within.foldl2 _ ?_ ?_
    | (intro (x : State); refine Within.cut (x := x) (m := 0x402200088006) (s := s) ?_ (fun hx => ?_); unfold x)
    | intro x
    | lift_lets -underBinder
    | split
    | exact rfl
    | (split <;> rfl)
    | clear_value *

theorem showAge_within (s : State) :
    Within 0x2000000000 s (State.showAge s) := by
  have h0 := Within.refl 0x2000000000 s
  unfold State.showAge
  try lift_lets -underBinder
  repeat' first
    | with_reducible assumption
    | with_reducible refine Within.ite ?_ ?_
    | with_reducible refine Within.set 5 ?_ ?_ rfl
    | with_reducible refine Within.setB 5 ?_ ?_ rfl
    | with_reducible refine Within.foldl _ ?_ ?_
    | (intro (x : State); refine Within.cut (x := x) (m := 0x2000000000) (s := s) ?_ (fun hx => ?_); unfold x)
    | intro x
    | lift_lets -underBinder
    | split
    | exact rfl
    | (split <;> rfl)
    | clear_value *

theorem openInterval_within (s : State) (x : Moment) :
    Within 0x4000010000 s (State.openInterval s x) := by
  have h0 := Within.refl 0x4000010000 s
  unfold State.openInterval
  try lift_lets -underBinder
  repeat' first
    | with_reducible assumption
    | with_reducible refine Within.ite ?_ ?_
    | with_reducible refine (modBil_within _ _).step ?_ rfl
    | with_reducible refine Within.setB 6 ?_ ?_ rfl
    | with_reducible refine Within.foldl _ ?_ ?_
    | (intro (x : State); refine Within.cut (x := x) (m := 0x4000010000) (s := s) ?_ (fun hx => ?_); unfold x)
    | intro x
    | lift_lets -underBinder
    | split
    | exact rfl
    | (split <;> rfl)
    | clear_value *

theorem endGap_within (s : State) (g : Reopen) (x : Moment) :
    Within 0x404200090004 s (State.endGap s g x) := by
  have h0 := Within.refl 0x404200090004 s
  unfold State.endGap
  try lift_lets -underBinder
  repeat' first
    | with_reducible assumption
    | with_reducible refine Within.ite ?_ ?_
    | with_reducible refine (raise_within _ _ _ _ _).step ?_ rfl
    | with_reducible refine (capture_within _ _).step ?_ rfl
    | with_reducible refine Within.foldl _ ?_ ?_
    | (intro (x : State); refine Within.cut (x := x) (m := 0x404200090004) (s := s) ?_ (fun hx => ?_); unfold x)
    | intro x
    | lift_lets -underBinder
    | split
    | exact rfl
    | (split <;> rfl)
    | clear_value *

theorem firstMs_within (s : State) (at_ : Nat) :
    Within 0x404200090004 s (State.firstMs s at_) := by
  have h0 := Within.refl 0x404200090004 s
  unfold State.firstMs
  try lift_lets -underBinder
  repeat' first
    | with_reducible assumption
    | with_reducible refine Within.ite ?_ ?_
    | with_reducible refine (modBil_within _ _).step ?_ rfl
    | with_reducible refine (endGap_within _ _ _).step ?_ rfl
    | with_reducible refine (openInterval_within _ _).step ?_ rfl
    | with_reducible refine Within.foldl _ ?_ ?_
    | (intro (x : State); refine Within.cut (x := x) (m := 0x404200090004) (s := s) ?_ (fun hx => ?_); unfold x)
    | intro x
    | lift_lets -underBinder
    | split
    | exact rfl
    | (split <;> rfl)
    | clear_value *

theorem msBegin_within (s : State) (at_ : Nat) :
    Within 0x406200098006 s (State.msBegin s at_) := by
  have h0 := Within.refl 0x406200098006 s
  unfold State.msBegin
  try lift_lets -underBinder
  repeat' first
    | with_reducible assumption
    | with_reducible refine Within.ite ?_ ?_
    | with_reducible refine Within.forAll ?_ ?_
    | with_reducible refine (showChan_within _ _).step ?_ rfl
    | with_reducible refine (firstMs_within _ _).step ?_ rfl
    | with_reducible refine (runSplit_within _ _).step ?_ rfl
    | with_reducible refine (modWbg_within _ _).step ?_ rfl
    | with_reducible refine Within.foldl _ ?_ ?_
    | (intro (x : State); refine Within.cut (x := x) (m := 0x406200098006) (s := s) ?_ (fun hx => ?_); unfold x)
    | intro x
    | lift_lets -underBinder
    | split
    | exact rfl
    | (split <;> rfl)
    | clear_value *

theorem commitMs_within (s : State) (overs : List Nat) (fd : List FeederIn) :
    Within 0x40660009800E s (State.commitMs s overs fd) := by
  have h0 := Within.refl 0x40660009800E s
  unfold State.commitMs
  try lift_lets -underBinder
  repeat' first
    | with_reducible assumption
    | with_reducible refine Within.ite ?_ ?_
    | with_reducible refine (msBegin_within _ _).step ?_ rfl
    | with_reducible refine Within.setB 5 ?_ ?_ rfl
    | with_reducible refine (modWbg_within _ _).step ?_ rfl
    | with_reducible refine Within.forAll ?_ ?_
    | with_reducible refine (feederAlarms_within _ _ _).step ?_ rfl
    | with_reducible refine (modMet_within _ _ _).step ?_ rfl
    | with_reducible refine (unmetered_within _ _ _).step ?_ rfl
    | with_reducible refine (macFailed_within _ _ _).step ?_ rfl
    | with_reducible refine (routeMs_within _ _ _ _ _).step ?_ rfl
    | with_reducible refine (routeLate_within _ _ _).step ?_ rfl
    | with_reducible refine (showPower_within _ _ _).step ?_ rfl
    | with_reducible refine (pulseMs_within _ _ _).step ?_ rfl
    | with_reducible refine (compareMs_within _ _ _ _).step ?_ rfl
    | with_reducible refine (modBil_within _ _).step ?_ rfl
    | with_reducible refine (showAge_within _).step ?_ rfl
    | with_reducible refine (applyCals_within _ _).step ?_ rfl
    | with_reducible refine (checkAccts_within _).step ?_ rfl
    | with_reducible refine Within.foldl _ ?_ ?_
    | (intro (x : State); refine Within.cut (x := x) (m := 0x40660009800E) (s := s) ?_ (fun hx => ?_); unfold x)
    | intro x
    | lift_lets -underBinder
    | split
    | exact rfl
    | (split <;> rfl)
    | clear_value *

end Sys2Proof.Laws
end

