-- ==== Sys2Proof/Laws/WithinWeighbridge.lean ====
section
/-!
SUPPORT. What the operations of Machine/Weighbridge.lean may touch.
-/
namespace Sys2Proof.Laws

open Sys2Proof.Machine

theorem execWeighbridgeMsCommit_within (slack : Int) (overs : List Nat) (fd : List FeederIn) (s : State) :
    ∃ t, execWeighbridgeMsCommit slack overs fd s = .next t ∧ Within 0x40660009800E s t := by
  refine ⟨_, rfl, ?_⟩
  have h0 := Within.refl 0x40660009800E s
  try lift_lets -underBinder
  repeat' first
    | with_reducible assumption
    | with_reducible refine Within.ite ?_ ?_
    | with_reducible refine (commitMs_within _ _ _).step ?_ rfl
    | with_reducible refine Within.setS 5 ?_ ?_ rfl
    | with_reducible refine Within.foldl _ ?_ ?_
    | (intro (x : State); refine Within.cut (x := x) (m := 0x40660009800E) (s := s) ?_ (fun hx => ?_); unfold x)
    | intro x
    | lift_lets -underBinder
    | split
    | exact rfl
    | (split <;> rfl)
    | clear_value *

theorem execCalApply_within (p tag : Nat) (s : State) :
    ∃ t, execCalApply p tag s = .next t ∧ Within 0x608200080006 s t := by
  refine ⟨_, rfl, ?_⟩
  have h0 := Within.refl 0x608200080006 s
  try lift_lets -underBinder
  repeat' first
    | with_reducible assumption
    | with_reducible refine Within.ite ?_ ?_
    | with_reducible refine Within.ite2 ?_ ?_
    | with_reducible refine take_within ?_ ?_ rfl
    | with_reducible refine (finish_within _ _ _ _ _ _).step ?_ rfl
    | with_reducible refine (logChange_within _ _ _ _ _ _).step ?_ rfl
    | with_reducible refine Within.foldl _ ?_ ?_
    | with_reducible refine Within.foldl2 _ ?_ ?_
    | (intro (x : State); refine Within.cut (x := x) (m := 0x608200080006) (s := s) ?_ (fun hx => ?_); unfold x)
    | intro x
    | lift_lets -underBinder
    | split
    | exact rfl
    | (split <;> rfl)
    | clear_value *

theorem calDurable_within (s : State) (p num ch : Nat) (param : List Nat) :
    Within 0x8000 s (State.calDurable s p num ch param) := by
  have h0 := Within.refl 0x8000 s
  unfold State.calDurable
  try lift_lets -underBinder
  repeat' first
    | with_reducible assumption
    | with_reducible refine Within.ite ?_ ?_
    | with_reducible refine (modWbg_within _ _).step ?_ rfl
    | with_reducible refine Within.foldl _ ?_ ?_
    | (intro (x : State); refine Within.cut (x := x) (m := 0x8000) (s := s) ?_ (fun hx => ?_); unfold x)
    | intro x
    | lift_lets -underBinder
    | split
    | exact rfl
    | (split <;> rfl)
    | clear_value *

theorem scaleWritten_within (s : State) (f : Nat) :
    Within 0x8000 s (State.scaleWritten s f) := by
  have h0 := Within.refl 0x8000 s
  unfold State.scaleWritten
  try lift_lets -underBinder
  repeat' first
    | with_reducible assumption
    | with_reducible refine Within.ite ?_ ?_
    | with_reducible refine (modWbg_within _ _).step ?_ rfl
    | with_reducible refine Within.foldl _ ?_ ?_
    | (intro (x : State); refine Within.cut (x := x) (m := 0x8000) (s := s) ?_ (fun hx => ?_); unfold x)
    | intro x
    | lift_lets -underBinder
    | split
    | exact rfl
    | (split <;> rfl)
    | clear_value *

theorem execCheckpointNow_within (p tag : Nat) (s : State) :
    ∃ t, execCheckpointNow p tag s = .next t ∧ Within 0x8000010004 s t := by
  refine ⟨_, rfl, ?_⟩
  have h0 := Within.refl 0x8000010004 s
  try lift_lets -underBinder
  repeat' first
    | with_reducible assumption
    | with_reducible refine Within.ite ?_ ?_
    | with_reducible refine take_within ?_ ?_ rfl
    | with_reducible refine (modBil_within _ _).step ?_ rfl
    | with_reducible refine Within.foldl _ ?_ ?_
    | (intro (x : State); refine Within.cut (x := x) (m := 0x8000010004) (s := s) ?_ (fun hx => ?_); unfold x)
    | intro x
    | lift_lets -underBinder
    | split
    | exact rfl
    | (split <;> rfl)
    | clear_value *

theorem captureTake_within (s : State) (at_ : Nat) (x : Take) :
    Within 0x4000018000 s (State.captureTake s at_ x) := by
  have h0 := Within.refl 0x4000018000 s
  unfold State.captureTake
  try lift_lets -underBinder
  repeat' first
    | with_reducible assumption
    | with_reducible refine Within.ite ?_ ?_
    | with_reducible refine (capture_within _ _).step ?_ rfl
    | with_reducible refine (modMet_within _ _ _).step ?_ rfl
    | with_reducible refine Within.set 6 ?_ ?_ rfl
    | with_reducible refine Within.foldl _ ?_ ?_
    | (intro (x : State); refine Within.cut (x := x) (m := 0x4000018000) (s := s) ?_ (fun hx => ?_); unfold x)
    | intro x
    | lift_lets -underBinder
    | split
    | exact rfl
    | (split <;> rfl)
    | clear_value *

theorem ckptRefused_within (s : State) (at_ kind need : Nat) :
    Within 0x402200490004 s (State.ckptRefused s at_ kind need) := by
  have h0 := Within.refl 0x402200490004 s
  unfold State.ckptRefused
  try lift_lets -underBinder
  repeat' first
    | with_reducible assumption
    | with_reducible refine Within.ite ?_ ?_
    | with_reducible refine (raise_within _ _ _ _ _).step ?_ rfl
    | with_reducible refine Within.setB 5 ?_ ?_ rfl
    | with_reducible refine (modBil_within _ _).step ?_ rfl
    | with_reducible refine (modPwr_within _ _).step ?_ rfl
    | with_reducible refine (finish_within _ _ _ _ _ _).step ?_ rfl
    | with_reducible refine Within.foldl _ ?_ ?_
    | (intro (x : State); refine Within.cut (x := x) (m := 0x402200490004) (s := s) ?_ (fun hx => ?_); unfold x)
    | intro x
    | lift_lets -underBinder
    | split
    | exact rfl
    | (split <;> rfl)
    | clear_value *

theorem recapture_within (s : State) (at_ : Nat) :
    Within 0x10000 s (State.recapture s at_) := by
  have h0 := Within.refl 0x10000 s
  unfold State.recapture
  try lift_lets -underBinder
  repeat' first
    | with_reducible assumption
    | with_reducible refine Within.ite ?_ ?_
    | with_reducible refine (modBil_within _ _).step ?_ rfl
    | with_reducible refine Within.foldl _ ?_ ?_
    | (intro (x : State); refine Within.cut (x := x) (m := 0x10000) (s := s) ?_ (fun hx => ?_); unfold x)
    | intro x
    | lift_lets -underBinder
    | split
    | exact rfl
    | (split <;> rfl)
    | clear_value *

theorem noteStarts_within (s : State) :
    Within 0x8000 s (State.noteStarts s) := by
  have h0 := Within.refl 0x8000 s
  unfold State.noteStarts
  try lift_lets -underBinder
  repeat' first
    | with_reducible assumption
    | with_reducible refine Within.ite ?_ ?_
    | with_reducible refine (modMet_within _ _ _).step ?_ rfl
    | with_reducible refine Within.foldl _ ?_ ?_
    | (intro (x : State); refine Within.cut (x := x) (m := 0x8000) (s := s) ?_ (fun hx => ?_); unfold x)
    | intro x
    | lift_lets -underBinder
    | split
    | exact rfl
    | (split <;> rfl)
    | clear_value *

theorem ckptStart_within (s : State) (at_ kind : Nat) :
    Within 0x406200498004 s (State.ckptStart s at_ kind) := by
  have h0 := Within.refl 0x406200498004 s
  unfold State.ckptStart
  try lift_lets -underBinder
  repeat' first
    | with_reducible assumption
    | with_reducible refine Within.ite ?_ ?_
    | with_reducible refine Within.ite2 ?_ ?_
    | with_reducible refine (noteStarts_within _).step ?_ rfl
    | with_reducible refine (captureTake_within _ _ _).step ?_ rfl
    | with_reducible refine (modBil_within _ _).step ?_ rfl
    | with_reducible refine (recapture_within _ _).step ?_ rfl
    | with_reducible refine (tryStore_within _ _ _ _).step ?_ rfl
    | with_reducible refine (ckptRefused_within _ _ _ _).step ?_ rfl
    | with_reducible refine Within.foldl _ ?_ ?_
    | with_reducible refine Within.foldl2 _ ?_ ?_
    | (intro (x : State); refine Within.cut (x := x) (m := 0x406200498004) (s := s) ?_ (fun hx => ?_); unfold x)
    | intro x
    | lift_lets -underBinder
    | split
    | exact rfl
    | (split <;> rfl)
    | clear_value *

theorem execCheckpointStoreStart_within (s : State) :
    ∃ t, execCheckpointStoreStart s = .next t ∧ Within 0x406200498004 s t := by
  refine ⟨_, rfl, ?_⟩
  have h0 := Within.refl 0x406200498004 s
  try lift_lets -underBinder
  repeat' first
    | with_reducible assumption
    | with_reducible refine Within.ite ?_ ?_
    | with_reducible refine (ckptStart_within _ _ _).step ?_ rfl
    | with_reducible refine Within.foldl _ ?_ ?_
    | (intro (x : State); refine Within.cut (x := x) (m := 0x406200498004) (s := s) ?_ (fun hx => ?_); unfold x)
    | intro x
    | lift_lets -underBinder
    | split
    | exact rfl
    | (split <;> rfl)
    | clear_value *

theorem runsFinal_within (s : State) :
    Within 0x80000 s (State.runsFinal s) := by
  have h0 := Within.refl 0x80000 s
  unfold State.runsFinal
  try lift_lets -underBinder
  repeat' first
    | with_reducible assumption
    | with_reducible refine Within.ite ?_ ?_
    | with_reducible refine (modHay_within _ _ ?_).step ?_ rfl
    | exact fun _ => rfl
    | with_reducible refine Within.foldl _ ?_ ?_
    | (intro (x : State); refine Within.cut (x := x) (m := 0x80000) (s := s) ?_ (fun hx => ?_); unfold x)
    | intro x
    | lift_lets -underBinder
    | split
    | exact rfl
    | (split <;> rfl)
    | clear_value *

theorem finalStore_within (s : State) (at_ : Nat) :
    Within 0x406200498004 s (State.finalStore s at_) := by
  have h0 := Within.refl 0x406200498004 s
  unfold State.finalStore
  try lift_lets -underBinder
  repeat' first
    | with_reducible assumption
    | with_reducible refine Within.ite ?_ ?_
    | with_reducible refine (modPwr_within _ _).step ?_ rfl
    | with_reducible refine (ckptStart_within _ _ _).step ?_ rfl
    | with_reducible refine Within.foldl _ ?_ ?_
    | (intro (x : State); refine Within.cut (x := x) (m := 0x406200498004) (s := s) ?_ (fun hx => ?_); unfold x)
    | intro x
    | lift_lets -underBinder
    | split
    | exact rfl
    | (split <;> rfl)
    | clear_value *

theorem execFinalStoreStart_within (s : State) :
    ∃ t, execFinalStoreStart s = .next t ∧ Within 0x406200498004 s t := by
  refine ⟨_, rfl, ?_⟩
  have h0 := Within.refl 0x406200498004 s
  try lift_lets -underBinder
  repeat' first
    | with_reducible assumption
    | with_reducible refine Within.ite ?_ ?_
    | with_reducible refine (runsFinal_within _).step ?_ rfl
    | with_reducible refine (finalStore_within _ _).step ?_ rfl
    | with_reducible refine Within.foldl _ ?_ ?_
    | (intro (x : State); refine Within.cut (x := x) (m := 0x406200498004) (s := s) ?_ (fun hx => ?_); unfold x)
    | intro x
    | lift_lets -underBinder
    | split
    | exact rfl
    | (split <;> rfl)
    | clear_value *

theorem readingDurable_within (s : State) (r : Reading) :
    Within 0x404200090004 s (State.readingDurable s r) := by
  have h0 := Within.refl 0x404200090004 s
  unfold State.readingDurable
  try lift_lets -underBinder
  repeat' first
    | with_reducible assumption
    | with_reducible refine Within.ite ?_ ?_
    | with_reducible refine (modBil_within _ _).step ?_ rfl
    | with_reducible refine (checkAcct_within _ _).step ?_ rfl
    | with_reducible refine (setAcct_within _ _).step ?_ rfl
    | with_reducible refine (finish_within _ _ _ _ _ _).step ?_ rfl
    | with_reducible refine Within.foldl _ ?_ ?_
    | (intro (x : State); refine Within.cut (x := x) (m := 0x404200090004) (s := s) ?_ (fun hx => ?_); unfold x)
    | intro x
    | lift_lets -underBinder
    | split
    | exact rfl
    | (split <;> rfl)
    | clear_value *

theorem settleDebit_within (s : State) (c : Debit) :
    Within 0x10000 s (State.settleDebit s c) := by
  have h0 := Within.refl 0x10000 s
  unfold State.settleDebit
  try lift_lets -underBinder
  repeat' first
    | with_reducible assumption
    | with_reducible refine Within.ite ?_ ?_
    | with_reducible refine (setAcct_within _ _).step ?_ rfl
    | with_reducible refine (modBil_within _ _).step ?_ rfl
    | with_reducible refine Within.foldl _ ?_ ?_
    | (intro (x : State); refine Within.cut (x := x) (m := 0x10000) (s := s) ?_ (fun hx => ?_); unfold x)
    | intro x
    | lift_lets -underBinder
    | split
    | exact rfl
    | (split <;> rfl)
    | clear_value *

theorem ckptDurable_within (s : State) (c : Ckpt) :
    Within 0x40E200498004 s (State.ckptDurable s c) := by
  have h0 := Within.refl 0x40E200498004 s
  unfold State.ckptDurable
  try lift_lets -underBinder
  repeat' first
    | with_reducible assumption
    | with_reducible refine Within.ite ?_ ?_
    | with_reducible refine (modHay_within _ _ ?_).step ?_ rfl
    | exact fun _ => rfl
    | with_reducible refine Within.set 5 ?_ ?_ rfl
    | with_reducible refine (modPwr_within _ _).step ?_ rfl
    | with_reducible refine Within.forAll ?_ ?_
    | with_reducible refine (showAge_within _).step ?_ rfl
    | with_reducible refine (modWbg_within _ _).step ?_ rfl
    | with_reducible refine (modBil_within _ _).step ?_ rfl
    | with_reducible refine (readingDurable_within _ _).step ?_ rfl
    | with_reducible refine (settleDebit_within _ _).step ?_ rfl
    | with_reducible refine (finish_within _ _ _ _ _ _).step ?_ rfl
    | with_reducible refine (refreshHeld_within _).step ?_ rfl
    | with_reducible refine Within.setB 6 ?_ ?_ rfl
    | with_reducible refine Within.foldl _ ?_ ?_
    | (intro (x : State); refine Within.cut (x := x) (m := 0x40E200498004) (s := s) ?_ (fun hx => ?_); unfold x)
    | intro x
    | lift_lets -underBinder
    | split
    | exact rfl
    | (split <;> rfl)
    | clear_value *

theorem execPulseOutputStart_within (k : Nat) (s : State) :
    ∃ t, execPulseOutputStart k s = .next t ∧ Within 0x2000008000 s t := by
  refine ⟨_, rfl, ?_⟩
  have h0 := Within.refl 0x2000008000 s
  try lift_lets -underBinder
  repeat' first
    | with_reducible assumption
    | with_reducible refine Within.ite ?_ ?_
    | with_reducible refine Within.incSat 5 ?_ ?_ rfl
    | with_reducible refine (modWbg_within _ _).step ?_ rfl
    | with_reducible refine Within.foldl _ ?_ ?_
    | (intro (x : State); refine Within.cut (x := x) (m := 0x2000008000) (s := s) ?_ (fun hx => ?_); unfold x)
    | intro x
    | lift_lets -underBinder
    | split
    | exact rfl
    | (split <;> rfl)
    | clear_value *

theorem execPulseOutputEnd_within (k : Nat) (s : State) :
    ∃ t, execPulseOutputEnd k s = .next t ∧ Within 0x8000 s t := by
  refine ⟨_, rfl, ?_⟩
  have h0 := Within.refl 0x8000 s
  try lift_lets -underBinder
  repeat' first
    | with_reducible assumption
    | with_reducible refine Within.ite ?_ ?_
    | with_reducible refine (modWbg_within _ _).step ?_ rfl
    | with_reducible refine Within.foldl _ ?_ ?_
    | (intro (x : State); refine Within.cut (x := x) (m := 0x8000) (s := s) ?_ (fun hx => ?_); unfold x)
    | intro x
    | lift_lets -underBinder
    | split
    | exact rfl
    | (split <;> rfl)
    | clear_value *

theorem pulseOff_within (s : State) (k : Nat) :
    Within 0x8000 s (State.pulseOff s k) := by
  have h0 := Within.refl 0x8000 s
  unfold State.pulseOff
  try lift_lets -underBinder
  repeat' first
    | with_reducible assumption
    | with_reducible refine Within.ite ?_ ?_
    | with_reducible refine (modWbg_within _ _).step ?_ rfl
    | with_reducible refine Within.foldl _ ?_ ?_
    | (intro (x : State); refine Within.cut (x := x) (m := 0x8000) (s := s) ?_ (fun hx => ?_); unfold x)
    | intro x
    | lift_lets -underBinder
    | split
    | exact rfl
    | (split <;> rfl)
    | clear_value *

theorem pulseCleared_within (s : State) (k : Nat) :
    Within 0x2000008000 s (State.pulseCleared s k) := by
  have h0 := Within.refl 0x2000008000 s
  unfold State.pulseCleared
  try lift_lets -underBinder
  repeat' first
    | with_reducible assumption
    | with_reducible refine Within.ite ?_ ?_
    | with_reducible refine Within.set 5 ?_ ?_ rfl
    | with_reducible refine (modWbg_within _ _).step ?_ rfl
    | with_reducible refine Within.foldl _ ?_ ?_
    | (intro (x : State); refine Within.cut (x := x) (m := 0x2000008000) (s := s) ?_ (fun hx => ?_); unfold x)
    | intro x
    | lift_lets -underBinder
    | split
    | exact rfl
    | (split <;> rfl)
    | clear_value *

theorem showSubstitute_within (s : State) :
    Within 0x2000008000 s (State.showSubstitute s) := by
  have h0 := Within.refl 0x2000008000 s
  unfold State.showSubstitute
  try lift_lets -underBinder
  repeat' first
    | with_reducible assumption
    | with_reducible refine Within.ite ?_ ?_
    | with_reducible refine Within.forAll ?_ ?_
    | with_reducible refine (modMet_within _ _ _).step ?_ rfl
    | with_reducible refine Within.setB 5 ?_ ?_ rfl
    | with_reducible refine Within.foldl _ ?_ ?_
    | (intro (x : State); refine Within.cut (x := x) (m := 0x2000008000) (s := s) ?_ (fun hx => ?_); unfold x)
    | intro x
    | lift_lets -underBinder
    | split
    | exact rfl
    | (split <;> rfl)
    | clear_value *

theorem compareStop_within (s : State) (k status : Nat) :
    Within 0x400200088004 s (State.compareStop s k status) := by
  have h0 := Within.refl 0x400200088004 s
  unfold State.compareStop
  try lift_lets -underBinder
  repeat' first
    | with_reducible assumption
    | with_reducible refine Within.ite ?_ ?_
    | with_reducible refine (finish_within _ _ _ _ _ _).step ?_ rfl
    | with_reducible refine (modWbg_within _ _).step ?_ rfl
    | with_reducible refine Within.foldl _ ?_ ?_
    | (intro (x : State); refine Within.cut (x := x) (m := 0x400200088004) (s := s) ?_ (fun hx => ?_); unfold x)
    | intro x
    | lift_lets -underBinder
    | split
    | exact rfl
    | (split <;> rfl)
    | clear_value *

theorem setInput_within (s : State) (k : Nat) (b : List Nat) :
    Within 0x402200088004 s (State.setInput s k b) := by
  have h0 := Within.refl 0x402200088004 s
  unfold State.setInput
  try lift_lets -underBinder
  repeat' first
    | with_reducible assumption
    | with_reducible refine Within.ite ?_ ?_
    | with_reducible refine (compareStop_within _ _ _).step ?_ rfl
    | with_reducible refine Within.set 5 ?_ ?_ rfl
    | with_reducible refine (showSubstitute_within _).step ?_ rfl
    | with_reducible refine (modWbg_within _ _).step ?_ rfl
    | with_reducible refine Within.foldl _ ?_ ?_
    | (intro (x : State); refine Within.cut (x := x) (m := 0x402200088004) (s := s) ?_ (fun hx => ?_); unfold x)
    | intro x
    | lift_lets -underBinder
    | split
    | exact rfl
    | (split <;> rfl)
    | clear_value *

theorem execPulseInputMode_within (p tag : Nat) (s : State) :
    ∃ t, execPulseInputMode p tag s = .next t ∧ Within 0x60A200088006 s t := by
  refine ⟨_, rfl, ?_⟩
  have h0 := Within.refl 0x60A200088006 s
  try lift_lets -underBinder
  repeat' first
    | with_reducible assumption
    | with_reducible refine Within.ite ?_ ?_
    | with_reducible refine Within.ite2 ?_ ?_
    | with_reducible refine take_within ?_ ?_ rfl
    | with_reducible refine (finish_within _ _ _ _ _ _).step ?_ rfl
    | with_reducible refine (logChange_within _ _ _ _ _ _).step ?_ rfl
    | with_reducible refine (modWbg_within _ _).step ?_ rfl
    | with_reducible refine (setInput_within _ _ _).step ?_ rfl
    | with_reducible refine Within.foldl _ ?_ ?_
    | with_reducible refine Within.foldl2 _ ?_ ?_
    | (intro (x : State); refine Within.cut (x := x) (m := 0x60A200088006) (s := s) ?_ (fun hx => ?_); unfold x)
    | intro x
    | lift_lets -underBinder
    | split
    | exact rfl
    | (split <;> rfl)
    | clear_value *

theorem inputDurable_within (s : State) (p num k : Nat) (param : List Nat) :
    Within 0x402200088004 s (State.inputDurable s p num k param) := by
  have h0 := Within.refl 0x402200088004 s
  unfold State.inputDurable
  try lift_lets -underBinder
  repeat' first
    | with_reducible assumption
    | with_reducible refine Within.ite ?_ ?_
    | with_reducible refine (finish_within _ _ _ _ _ _).step ?_ rfl
    | with_reducible refine (setInput_within _ _ _).step ?_ rfl
    | with_reducible refine Within.foldl _ ?_ ?_
    | (intro (x : State); refine Within.cut (x := x) (m := 0x402200088004) (s := s) ?_ (fun hx => ?_); unfold x)
    | intro x
    | lift_lets -underBinder
    | split
    | exact rfl
    | (split <;> rfl)
    | clear_value *

theorem execS0InputEdge_within (k at_ : Nat) (s : State) :
    ∃ t, execS0InputEdge k at_ s = .next t ∧ Within 0x402200088004 s t := by
  refine ⟨_, rfl, ?_⟩
  have h0 := Within.refl 0x402200088004 s
  try lift_lets -underBinder
  repeat' first
    | with_reducible assumption
    | with_reducible refine Within.ite ?_ ?_
    | with_reducible refine Within.inc 5 ?_ ?_ rfl
    | with_reducible refine (modWbg_within _ _).step ?_ rfl
    | with_reducible refine (compareEnd_within _ _ _).step ?_ rfl
    | with_reducible refine Within.foldl _ ?_ ?_
    | (intro (x : State); refine Within.cut (x := x) (m := 0x402200088004) (s := s) ?_ (fun hx => ?_); unfold x)
    | intro x
    | lift_lets -underBinder
    | split
    | exact rfl
    | (split <;> rfl)
    | clear_value *

theorem execPulseCompareTimeout_within (k : Nat) (s : State) :
    ∃ t, execPulseCompareTimeout k s = .next t ∧ Within 0x402200088004 s t := by
  refine ⟨_, rfl, ?_⟩
  have h0 := Within.refl 0x402200088004 s
  try lift_lets -underBinder
  repeat' first
    | with_reducible assumption
    | with_reducible refine Within.ite ?_ ?_
    | with_reducible refine (compareStop_within _ _ _).step ?_ rfl
    | with_reducible refine Within.set 5 ?_ ?_ rfl
    | with_reducible refine Within.foldl _ ?_ ?_
    | (intro (x : State); refine Within.cut (x := x) (m := 0x402200088004) (s := s) ?_ (fun hx => ?_); unfold x)
    | intro x
    | lift_lets -underBinder
    | split
    | exact rfl
    | (split <;> rfl)
    | clear_value *

end Sys2Proof.Laws
end

