-- ==== Sys2Proof/Laws/WithinBilling.lean ====
section
/-!
SUPPORT. What the operations of Machine/Billing.lean may touch.
-/
namespace Sys2Proof.Laws

open Sys2Proof.Machine

theorem closeInterval_within (s : State) (flags new : Nat) :
    Within 0x404200090004 s (State.closeInterval s flags new).2 := by
  have h0 := Within.refl 0x404200090004 s
  unfold State.closeInterval
  try lift_lets -underBinder
  repeat' first
    | with_reducible assumption
    | with_reducible refine Within.ite ?_ ?_
    | with_reducible refine Within.ite2 ?_ ?_
    | with_reducible refine (modBil_within _ _).step ?_ rfl
    | with_reducible refine (raise_within _ _ _ _ _).step ?_ rfl
    | with_reducible refine Within.setB 6 ?_ ?_ rfl
    | with_reducible refine Within.foldl _ ?_ ?_
    | with_reducible refine Within.foldl2 _ ?_ ?_
    | (intro (x : State); refine Within.cut (x := x) (m := 0x404200090004) (s := s) ?_ (fun hx => ?_); unfold x)
    | intro x
    | lift_lets -underBinder
    | split
    | exact rfl
    | (split <;> rfl)
    | clear_value *

theorem switchTariff_within (s : State) (k cause : Nat) :
    Within 0x404200090004 s (State.switchTariff s k cause) := by
  have h0 := Within.refl 0x404200090004 s
  unfold State.switchTariff
  try lift_lets -underBinder
  repeat' first
    | with_reducible assumption
    | with_reducible refine Within.ite ?_ ?_
    | with_reducible refine Within.set 6 ?_ ?_ rfl
    | with_reducible refine (modBil_within _ _).step ?_ rfl
    | with_reducible refine (raise_within _ _ _ _ _).step ?_ rfl
    | with_reducible refine Within.foldl _ ?_ ?_
    | (intro (x : State); refine Within.cut (x := x) (m := 0x404200090004) (s := s) ?_ (fun hx => ?_); unfold x)
    | intro x
    | lift_lets -underBinder
    | split
    | exact rfl
    | (split <;> rfl)
    | clear_value *

theorem passSwitches_within (s : State) :
    Within 0x10000 s (State.passSwitches s) := by
  have h0 := Within.refl 0x10000 s
  unfold State.passSwitches
  try lift_lets -underBinder
  repeat' first
    | with_reducible assumption
    | with_reducible refine Within.ite ?_ ?_
    | with_reducible refine (modBil_within _ _).step ?_ rfl
    | with_reducible refine Within.foldl _ ?_ ?_
    | (intro (x : State); refine Within.cut (x := x) (m := 0x10000) (s := s) ?_ (fun hx => ?_); unfold x)
    | intro x
    | lift_lets -underBinder
    | split
    | exact rfl
    | (split <;> rfl)
    | clear_value *

theorem applyTariff_within (s : State) (cause : Nat) :
    Within 0x406200098004 s (State.applyTariff s cause) := by
  have h0 := Within.refl 0x406200098004 s
  unfold State.applyTariff
  try lift_lets -underBinder
  repeat' first
    | with_reducible assumption
    | with_reducible refine Within.ite ?_ ?_
    | with_reducible refine (addSplit_within _ _ _ _).step ?_ rfl
    | with_reducible refine (switchTariff_within _ _ _).step ?_ rfl
    | with_reducible refine (passSwitches_within _).step ?_ rfl
    | with_reducible refine Within.foldl _ ?_ ?_
    | (intro (x : State); refine Within.cut (x := x) (m := 0x406200098004) (s := s) ?_ (fun hx => ?_); unfold x)
    | intro x
    | lift_lets -underBinder
    | split
    | exact rfl
    | (split <;> rfl)
    | clear_value *

theorem execBillingBoundary_within (s : State) :
    ∃ t, execBillingBoundary s = .next t ∧ Within 0x406200098004 s t := by
  refine ⟨_, rfl, ?_⟩
  have h0 := Within.refl 0x406200098004 s
  try lift_lets -underBinder
  repeat' first
    | with_reducible assumption
    | with_reducible refine Within.ite ?_ ?_
    | with_reducible refine Within.ite2 ?_ ?_
    | with_reducible refine (closeInterval_within _ _ _).step ?_ rfl
    | with_reducible refine (switchTariff_within _ _ _).step ?_ rfl
    | with_reducible refine (modBil_within _ _).step ?_ rfl
    | with_reducible refine (addSplit_within _ _ _ _).step ?_ rfl
    | with_reducible refine Within.foldl _ ?_ ?_
    | with_reducible refine Within.foldl2 _ ?_ ?_
    | (intro (x : State); refine Within.cut (x := x) (m := 0x406200098004) (s := s) ?_ (fun hx => ?_); unfold x)
    | intro x
    | lift_lets -underBinder
    | split
    | exact rfl
    | (split <;> rfl)
    | clear_value *

theorem execTariffFreezeEnd_within (s : State) :
    ∃ t, execTariffFreezeEnd s = .next t ∧ Within 0x406200098004 s t := by
  refine ⟨_, rfl, ?_⟩
  have h0 := Within.refl 0x406200098004 s
  try lift_lets -underBinder
  repeat' first
    | with_reducible assumption
    | with_reducible refine Within.ite ?_ ?_
    | with_reducible refine (applyTariff_within _ _).step ?_ rfl
    | with_reducible refine Within.setB 6 ?_ ?_ rfl
    | with_reducible refine (modBil_within _ _).step ?_ rfl
    | with_reducible refine Within.foldl _ ?_ ?_
    | (intro (x : State); refine Within.cut (x := x) (m := 0x406200098004) (s := s) ?_ (fun hx => ?_); unfold x)
    | intro x
    | lift_lets -underBinder
    | split
    | exact rfl
    | (split <;> rfl)
    | clear_value *

theorem execLegalTickAdvance_within (s : State) :
    ∃ t, execLegalTickAdvance s = .next t ∧ Within 0x4000000000 s t := by
  refine ⟨_, rfl, ?_⟩
  have h0 := Within.refl 0x4000000000 s
  try lift_lets -underBinder
  repeat' first
    | with_reducible assumption
    | with_reducible refine Within.ite ?_ ?_
    | with_reducible refine Within.inc 6 ?_ ?_ rfl
    | with_reducible refine Within.foldl _ ?_ ?_
    | (intro (x : State); refine Within.cut (x := x) (m := 0x4000000000) (s := s) ?_ (fun hx => ?_); unfold x)
    | intro x
    | lift_lets -underBinder
    | split
    | exact rfl
    | (split <;> rfl)
    | clear_value *

theorem raiseLogged_within (s : State) (code sev src : Nat) (payload : List Nat) :
    Within 0x400200080004 s (State.raiseLogged s code sev src payload) := by
  have h0 := Within.refl 0x400200080004 s
  unfold State.raiseLogged
  try lift_lets -underBinder
  repeat' first
    | with_reducible assumption
    | with_reducible refine Within.ite ?_ ?_
    | with_reducible refine (raise_within _ _ _ _ _).step ?_ rfl
    | with_reducible refine (logEvent_within _ _ _).step ?_ rfl
    | with_reducible refine Within.foldl _ ?_ ?_
    | (intro (x : State); refine Within.cut (x := x) (m := 0x400200080004) (s := s) ?_ (fun hx => ?_); unfold x)
    | intro x
    | lift_lets -underBinder
    | split
    | exact rfl
    | (split <;> rfl)
    | clear_value *

theorem timeStep_within (s : State) (at_ new p num : Nat) :
    Within 0x40E200098004 s (State.timeStep s at_ new p num) := by
  have h0 := Within.refl 0x40E200098004 s
  unfold State.timeStep
  try lift_lets -underBinder
  repeat' first
    | with_reducible assumption
    | with_reducible refine Within.ite ?_ ?_
    | with_reducible refine Within.ite2 ?_ ?_
    | with_reducible refine (modBil_within _ _).step ?_ rfl
    | with_reducible refine Within.setB 6 ?_ ?_ rfl
    | with_reducible refine (closeInterval_within _ _ _).step ?_ rfl
    | with_reducible refine (switchTariff_within _ _ _).step ?_ rfl
    | with_reducible refine (addSplit_within _ _ _ _).step ?_ rfl
    | with_reducible refine (refreshHeld_within _).step ?_ rfl
    | with_reducible refine (raiseLogged_within _ _ _ _ _).step ?_ rfl
    | with_reducible refine (capture_within _ _).step ?_ rfl
    | with_reducible refine (finish_within _ _ _ _ _ _).step ?_ rfl
    | with_reducible refine Within.foldl _ ?_ ?_
    | with_reducible refine Within.foldl2 _ ?_ ?_
    | (intro (x : State); refine Within.cut (x := x) (m := 0x40E200098004) (s := s) ?_ (fun hx => ?_); unfold x)
    | intro x
    | lift_lets -underBinder
    | split
    | exact rfl
    | (split <;> rfl)
    | clear_value *

theorem execTimeSet_within (p tag : Nat) (s : State) :
    ∃ t, execTimeSet p tag s = .next t ∧ Within 0x40E200098004 s t := by
  refine ⟨_, rfl, ?_⟩
  have h0 := Within.refl 0x40E200098004 s
  try lift_lets -underBinder
  repeat' first
    | with_reducible assumption
    | with_reducible refine Within.ite ?_ ?_
    | with_reducible refine take_within ?_ ?_ rfl
    | with_reducible refine (finish_within _ _ _ _ _ _).step ?_ rfl
    | with_reducible refine (modBil_within _ _).step ?_ rfl
    | with_reducible refine Within.setB 6 ?_ ?_ rfl
    | with_reducible refine (timeStep_within _ _ _ _ _).step ?_ rfl
    | with_reducible refine Within.foldl _ ?_ ?_
    | (intro (x : State); refine Within.cut (x := x) (m := 0x40E200098004) (s := s) ?_ (fun hx => ?_); unfold x)
    | intro x
    | lift_lets -underBinder
    | split
    | exact rfl
    | (split <;> rfl)
    | clear_value *

theorem execTimeSetAtChronobase_within (s : State) :
    ∃ t, execTimeSetAtChronobase s = .next t ∧ Within 0x40E200098004 s t := by
  refine ⟨_, rfl, ?_⟩
  have h0 := Within.refl 0x40E200098004 s
  try lift_lets -underBinder
  repeat' first
    | with_reducible assumption
    | with_reducible refine Within.ite ?_ ?_
    | with_reducible refine (timeStep_within _ _ _ _ _).step ?_ rfl
    | with_reducible refine (modBil_within _ _).step ?_ rfl
    | with_reducible refine Within.foldl _ ?_ ?_
    | (intro (x : State); refine Within.cut (x := x) (m := 0x40E200098004) (s := s) ?_ (fun hx => ?_); unfold x)
    | intro x
    | lift_lets -underBinder
    | split
    | exact rfl
    | (split <;> rfl)
    | clear_value *

theorem execTimeSlewEnd_within (s : State) :
    ∃ t, execTimeSlewEnd s = .next t ∧ Within 0x4000010000 s t := by
  refine ⟨_, rfl, ?_⟩
  have h0 := Within.refl 0x4000010000 s
  try lift_lets -underBinder
  repeat' first
    | with_reducible assumption
    | with_reducible refine Within.ite ?_ ?_
    | with_reducible refine Within.setB 6 ?_ ?_ rfl
    | with_reducible refine (modBil_within _ _).step ?_ rfl
    | with_reducible refine Within.foldl _ ?_ ?_
    | (intro (x : State); refine Within.cut (x := x) (m := 0x4000010000) (s := s) ?_ (fun hx => ?_); unfold x)
    | intro x
    | lift_lets -underBinder
    | split
    | exact rfl
    | (split <;> rfl)
    | clear_value *

theorem execReadingTake_within (p tag : Nat) (s : State) :
    ∃ t, execReadingTake p tag s = .next t ∧ Within 0x408200090004 s t := by
  refine ⟨_, rfl, ?_⟩
  have h0 := Within.refl 0x408200090004 s
  try lift_lets -underBinder
  repeat' first
    | with_reducible assumption
    | with_reducible refine Within.ite ?_ ?_
    | with_reducible refine take_within ?_ ?_ rfl
    | with_reducible refine (finish_within _ _ _ _ _ _).step ?_ rfl
    | with_reducible refine (modBil_within _ _).step ?_ rfl
    | with_reducible refine Within.foldl _ ?_ ?_
    | (intro (x : State); refine Within.cut (x := x) (m := 0x408200090004) (s := s) ?_ (fun hx => ?_); unfold x)
    | intro x
    | lift_lets -underBinder
    | split
    | exact rfl
    | (split <;> rfl)
    | clear_value *

theorem execReadingSign_within (keyBad : Bool) (s : State) :
    ∃ t, execReadingSign keyBad s = .next t ∧ Within 0x60C200290006 s t := by
  refine ⟨_, rfl, ?_⟩
  have h0 := Within.refl 0x60C200290006 s
  try lift_lets -underBinder
  repeat' first
    | with_reducible assumption
    | with_reducible refine Within.ite ?_ ?_
    | with_reducible refine Within.ite2 ?_ ?_
    | with_reducible refine (raise_within _ _ _ _ _).step ?_ rfl
    | ((with_reducible refine Within.setB 6 ?_ ?hw rfl); case hw => first | exact rfl | assumption | (split <;> rfl))
    | ((with_reducible refine Within.setB 13 ?_ ?hw rfl); case hw => first | exact rfl | assumption | (split <;> rfl))
    | with_reducible refine (modTck_within _ _).step ?_ rfl
    | with_reducible refine (signDual_within _ _ _ _).step ?_ rfl
    | with_reducible refine (modBil_within _ _).step ?_ rfl
    | with_reducible refine (append_within _ _ _).step ?_ rfl
    | with_reducible refine (refreshHeld_within _).step ?_ rfl
    | with_reducible refine Within.foldl _ ?_ ?_
    | with_reducible refine Within.foldl2 _ ?_ ?_
    | (intro (x : State); refine Within.cut (x := x) (m := 0x60C200290006) (s := s) ?_ (fun hx => ?_); unfold x)
    | intro x
    | lift_lets -underBinder
    | split
    | exact rfl
    | (split <;> rfl)
    | clear_value *

theorem execRecordFetch_within (p tag : Nat) (s : State) :
    ∃ t, execRecordFetch p tag s = .next t ∧ Within 0x40C200080004 s t := by
  refine ⟨_, rfl, ?_⟩
  have h0 := Within.refl 0x40C200080004 s
  try lift_lets -underBinder
  repeat' first
    | with_reducible assumption
    | with_reducible refine Within.ite ?_ ?_
    | with_reducible refine take_within ?_ ?_ rfl
    | with_reducible refine (finish_within _ _ _ _ _ _).step ?_ rfl
    | with_reducible refine (setRegion_within _ _ _).step ?_ rfl
    | with_reducible refine (bufWrite_within _ _ _ _).step ?_ rfl
    | with_reducible refine (refreshHeld_within _).step ?_ rfl
    | with_reducible refine Within.foldl _ ?_ ?_
    | (intro (x : State); refine Within.cut (x := x) (m := 0x40C200080004) (s := s) ?_ (fun hx => ?_); unfold x)
    | intro x
    | lift_lets -underBinder
    | split
    | exact rfl
    | (split <;> rfl)
    | clear_value *

theorem prepayOp_within (s : State) (p num a op amount : Nat) (delta : Int) (limit : Option Nat) (ref : Nat) :
    Within 0x4000010000 s (State.prepayOp s p num a op amount delta limit ref) := by
  have h0 := Within.refl 0x4000010000 s
  unfold State.prepayOp
  try lift_lets -underBinder
  repeat' first
    | with_reducible assumption
    | with_reducible refine Within.ite ?_ ?_
    | with_reducible refine (capture_within _ _).step ?_ rfl
    | with_reducible refine Within.foldl _ ?_ ?_
    | (intro (x : State); refine Within.cut (x := x) (m := 0x4000010000) (s := s) ?_ (fun hx => ?_); unfold x)
    | intro x
    | lift_lets -underBinder
    | split
    | exact rfl
    | (split <;> rfl)
    | clear_value *

theorem execPrepayCredit_within (p tag : Nat) (s : State) :
    ∃ t, execPrepayCredit p tag s = .next t ∧ Within 0x40C200090004 s t := by
  refine ⟨_, rfl, ?_⟩
  have h0 := Within.refl 0x40C200090004 s
  try lift_lets -underBinder
  repeat' first
    | with_reducible assumption
    | with_reducible refine Within.ite ?_ ?_
    | with_reducible refine take_within ?_ ?_ rfl
    | with_reducible refine (finish_within _ _ _ _ _ _).step ?_ rfl
    | with_reducible refine (prepayOp_within _ _ _ _ _ _ _ _ _).step ?_ rfl
    | with_reducible refine Within.foldl _ ?_ ?_
    | (intro (x : State); refine Within.cut (x := x) (m := 0x40C200090004) (s := s) ?_ (fun hx => ?_); unfold x)
    | intro x
    | lift_lets -underBinder
    | split
    | exact rfl
    | (split <;> rfl)
    | clear_value *

theorem execPrepayDebit_within (p tag : Nat) (s : State) :
    ∃ t, execPrepayDebit p tag s = .next t ∧ Within 0x40C200090004 s t := by
  refine ⟨_, rfl, ?_⟩
  have h0 := Within.refl 0x40C200090004 s
  try lift_lets -underBinder
  repeat' first
    | with_reducible assumption
    | with_reducible refine Within.ite ?_ ?_
    | with_reducible refine take_within ?_ ?_ rfl
    | with_reducible refine (finish_within _ _ _ _ _ _).step ?_ rfl
    | with_reducible refine (prepayOp_within _ _ _ _ _ _ _ _ _).step ?_ rfl
    | with_reducible refine Within.foldl _ ?_ ?_
    | (intro (x : State); refine Within.cut (x := x) (m := 0x40C200090004) (s := s) ?_ (fun hx => ?_); unfold x)
    | intro x
    | lift_lets -underBinder
    | split
    | exact rfl
    | (split <;> rfl)
    | clear_value *

theorem execPrepayQuery_within (p tag : Nat) (s : State) :
    ∃ t, execPrepayQuery p tag s = .next t ∧ Within 0x408200080004 s t := by
  refine ⟨_, rfl, ?_⟩
  have h0 := Within.refl 0x408200080004 s
  try lift_lets -underBinder
  repeat' first
    | with_reducible assumption
    | with_reducible refine Within.ite ?_ ?_
    | with_reducible refine take_within ?_ ?_ rfl
    | with_reducible refine (finish_within _ _ _ _ _ _).step ?_ rfl
    | with_reducible refine (finishBuf_within _ _ _ _).step ?_ rfl
    | with_reducible refine Within.foldl _ ?_ ?_
    | (intro (x : State); refine Within.cut (x := x) (m := 0x408200080004) (s := s) ?_ (fun hx => ?_); unfold x)
    | intro x
    | lift_lets -underBinder
    | split
    | exact rfl
    | (split <;> rfl)
    | clear_value *

theorem execFriendlyWindowEnd_within (s : State) :
    ∃ t, execFriendlyWindowEnd s = .next t ∧ Within 0x404200090004 s t := by
  refine ⟨_, rfl, ?_⟩
  have h0 := Within.refl 0x404200090004 s
  try lift_lets -underBinder
  repeat' first
    | with_reducible assumption
    | with_reducible refine Within.ite ?_ ?_
    | with_reducible refine (checkAccts_within _).step ?_ rfl
    | with_reducible refine Within.foldl _ ?_ ?_
    | (intro (x : State); refine Within.cut (x := x) (m := 0x404200090004) (s := s) ?_ (fun hx => ?_); unfold x)
    | intro x
    | lift_lets -underBinder
    | split
    | exact rfl
    | (split <;> rfl)
    | clear_value *

theorem raiseTamper_within (s : State) (input edge : Nat) (vbat : Bool) :
    Within 0x404200080004 s (State.raiseTamper s input edge vbat) := by
  have h0 := Within.refl 0x404200080004 s
  unfold State.raiseTamper
  try lift_lets -underBinder
  repeat' first
    | with_reducible assumption
    | with_reducible refine Within.ite ?_ ?_
    | with_reducible refine (raise_within _ _ _ _ _).step ?_ rfl
    | with_reducible refine Within.setB 6 ?_ ?_ rfl
    | with_reducible refine Within.foldl _ ?_ ?_
    | (intro (x : State); refine Within.cut (x := x) (m := 0x404200080004) (s := s) ?_ (fun hx => ?_); unfold x)
    | intro x
    | lift_lets -underBinder
    | split
    | exact rfl
    | (split <;> rfl)
    | clear_value *

theorem tamperRecord_within (s : State) (x : TamperEntry) :
    Within 0x404200090004 s (State.tamperRecord s x) := by
  have h0 := Within.refl 0x404200090004 s
  unfold State.tamperRecord
  try lift_lets -underBinder
  repeat' first
    | with_reducible assumption
    | with_reducible refine Within.ite ?_ ?_
    | with_reducible refine (raiseTamper_within _ _ _ _).step ?_ rfl
    | with_reducible refine (capture_within _ _).step ?_ rfl
    | with_reducible refine Within.foldl _ ?_ ?_
    | (intro (x : State); refine Within.cut (x := x) (m := 0x404200090004) (s := s) ?_ (fun hx => ?_); unfold x)
    | intro x
    | lift_lets -underBinder
    | split
    | exact rfl
    | (split <;> rfl)
    | clear_value *

theorem drainTamper_within (s : State) :
    Within 0x404200090004 s (State.drainTamper s) := by
  have h0 := Within.refl 0x404200090004 s
  unfold State.drainTamper
  try lift_lets -underBinder
  repeat' first
    | with_reducible assumption
    | with_reducible refine Within.ite ?_ ?_
    | with_reducible refine (tamperRecord_within _ _).step ?_ rfl
    | with_reducible refine (modBil_within _ _).step ?_ rfl
    | with_reducible refine Within.foldl _ ?_ ?_
    | (intro (x : State); refine Within.cut (x := x) (m := 0x404200090004) (s := s) ?_ (fun hx => ?_); unfold x)
    | intro x
    | lift_lets -underBinder
    | split
    | exact rfl
    | (split <;> rfl)
    | clear_value *

theorem showTamper_within (s : State) :
    Within 0x4000000000 s (State.showTamper s) := by
  have h0 := Within.refl 0x4000000000 s
  unfold State.showTamper
  try lift_lets -underBinder
  repeat' first
    | with_reducible assumption
    | with_reducible refine Within.ite ?_ ?_
    | with_reducible refine Within.set 6 ?_ ?_ rfl
    | with_reducible refine Within.foldl _ ?_ ?_
    | (intro (x : State); refine Within.cut (x := x) (m := 0x4000000000) (s := s) ?_ (fun hx => ?_); unfold x)
    | intro x
    | lift_lets -underBinder
    | split
    | exact rfl
    | (split <;> rfl)
    | clear_value *

theorem execTamperEdge_within (input : Nat) (high vbat : Bool) (wall : Nat) (s : State) :
    ∃ t, execTamperEdge input high vbat wall s = .next t ∧ Within 0x404200090004 s t := by
  refine ⟨_, rfl, ?_⟩
  have h0 := Within.refl 0x404200090004 s
  try lift_lets -underBinder
  repeat' first
    | with_reducible assumption
    | with_reducible refine Within.ite ?_ ?_
    | with_reducible refine (showTamper_within _).step ?_ rfl
    | with_reducible refine (modBil_within _ _).step ?_ rfl
    | with_reducible refine (raiseTamper_within _ _ _ _).step ?_ rfl
    | with_reducible refine Within.incSat 6 ?_ ?_ rfl
    | with_reducible refine (drainTamper_within _).step ?_ rfl
    | with_reducible refine Within.foldl _ ?_ ?_
    | (intro (x : State); refine Within.cut (x := x) (m := 0x404200090004) (s := s) ?_ (fun hx => ?_); unfold x)
    | intro x
    | lift_lets -underBinder
    | split
    | exact rfl
    | (split <;> rfl)
    | clear_value *

end Sys2Proof.Laws
end

