-- ==== Sys2Proof/Laws/WithinLinkOps.lean ====
section
/-!
SUPPORT. What the operations of Machine/LinkOps.lean may touch.
-/
namespace Sys2Proof.Laws

open Sys2Proof.Machine

theorem refreshSched_within (s : State) :
    Within 0x401200080004 s (State.refreshSched s) := by
  have h0 := Within.refl 0x401200080004 s
  unfold State.refreshSched
  try lift_lets -underBinder
  repeat' first
    | with_reducible assumption
    | with_reducible refine Within.ite ?_ ?_
    | with_reducible refine Within.setB 4 ?_ ?_ rfl
    | with_reducible refine Within.set 4 ?_ ?_ rfl
    | with_reducible refine (raise_within _ _ _ _ _).step ?_ rfl
    | with_reducible refine Within.foldl _ ?_ ?_
    | (intro (x : State); refine Within.cut (x := x) (m := 0x401200080004) (s := s) ?_ (fun hx => ?_); unfold x)
    | intro x
    | lift_lets -underBinder
    | split
    | exact rfl
    | (split <;> rfl)
    | clear_value *

theorem setLink_within (s : State) (n st : Nat) :
    Within 0x40160008000C s (State.setLink s n st) := by
  have h0 := Within.refl 0x40160008000C s
  unfold State.setLink
  try lift_lets -underBinder
  repeat' first
    | with_reducible assumption
    | with_reducible refine Within.ite ?_ ?_
    | with_reducible refine (modLink_within _ _ _).step ?_ rfl
    | with_reducible refine Within.set 2 ?_ ?_ rfl
    | with_reducible refine (refreshSched_within _).step ?_ rfl
    | with_reducible refine Within.foldl _ ?_ ?_
    | (intro (x : State); refine Within.cut (x := x) (m := 0x40160008000C) (s := s) ?_ (fun hx => ?_); unfold x)
    | intro x
    | lift_lets -underBinder
    | split
    | exact rfl
    | (split <;> rfl)
    | clear_value *

theorem disableNow_within (s : State) (n : Nat) :
    Within 0x40160008000C s (State.disableNow s n) := by
  have h0 := Within.refl 0x40160008000C s
  unfold State.disableNow
  try lift_lets -underBinder
  repeat' first
    | with_reducible assumption
    | with_reducible refine Within.ite ?_ ?_
    | with_reducible refine (modLink_within _ _ _).step ?_ rfl
    | with_reducible refine (setLink_within _ _ _).step ?_ rfl
    | with_reducible refine Within.setB 2 ?_ ?_ rfl
    | with_reducible refine (finish_within _ _ _ _ _ _).step ?_ rfl
    | with_reducible refine Within.foldl _ ?_ ?_
    | (intro (x : State); refine Within.cut (x := x) (m := 0x40160008000C) (s := s) ?_ (fun hx => ?_); unfold x)
    | intro x
    | lift_lets -underBinder
    | split
    | exact rfl
    | (split <;> rfl)
    | clear_value *

theorem toTraining_within (s : State) (n : Nat) :
    Within 0x40160008000C s (State.toTraining s n) := by
  have h0 := Within.refl 0x40160008000C s
  unfold State.toTraining
  try lift_lets -underBinder
  repeat' first
    | with_reducible assumption
    | with_reducible refine Within.ite ?_ ?_
    | with_reducible refine (modLink_within _ _ _).step ?_ rfl
    | with_reducible refine (setLink_within _ _ _).step ?_ rfl
    | with_reducible refine (disableNow_within _ _).step ?_ rfl
    | with_reducible refine Within.foldl _ ?_ ?_
    | (intro (x : State); refine Within.cut (x := x) (m := 0x40160008000C) (s := s) ?_ (fun hx => ?_); unfold x)
    | intro x
    | lift_lets -underBinder
    | split
    | exact rfl
    | (split <;> rfl)
    | clear_value *

theorem linkCommanded_within (s : State) (n : Nat) :
    Within 0x40160008000C s (State.linkCommanded s n) := by
  have h0 := Within.refl 0x40160008000C s
  unfold State.linkCommanded
  try lift_lets -underBinder
  repeat' first
    | with_reducible assumption
    | with_reducible refine Within.ite ?_ ?_
    | with_reducible refine (toTraining_within _ _).step ?_ rfl
    | with_reducible refine Within.foldl _ ?_ ?_
    | (intro (x : State); refine Within.cut (x := x) (m := 0x40160008000C) (s := s) ?_ (fun hx => ?_); unfold x)
    | intro x
    | lift_lets -underBinder
    | split
    | exact rfl
    | (split <;> rfl)
    | clear_value *

theorem tunSend_within (s : State) (n ch : Nat) (msg : List Nat) :
    Within 0x8 s (State.tunSend s n ch msg) := by
  have h0 := Within.refl 0x8 s
  unfold State.tunSend
  try lift_lets -underBinder
  repeat' first
    | with_reducible assumption
    | with_reducible refine Within.ite ?_ ?_
    | with_reducible refine (modLink_within _ _ _).step ?_ rfl
    | with_reducible refine Within.foldl _ ?_ ?_
    | (intro (x : State); refine Within.cut (x := x) (m := 0x8) (s := s) ?_ (fun hx => ?_); unfold x)
    | intro x
    | lift_lets -underBinder
    | split
    | exact rfl
    | (split <;> rfl)
    | clear_value *

theorem sendLeft_within (s : State) (n ch : Nat) :
    Within 0x4002000A0004 s (State.sendLeft s n ch) := by
  have h0 := Within.refl 0x4002000A0004 s
  unfold State.sendLeft
  try lift_lets -underBinder
  repeat' first
    | with_reducible assumption
    | with_reducible refine Within.ite ?_ ?_
    | with_reducible refine (finish_within _ _ _ _ _ _).step ?_ rfl
    | with_reducible refine (modDro_within _ _).step ?_ rfl
    | with_reducible refine Within.foldl _ ?_ ?_
    | (intro (x : State); refine Within.cut (x := x) (m := 0x4002000A0004) (s := s) ?_ (fun hx => ?_); unfold x)
    | intro x
    | lift_lets -underBinder
    | split
    | exact rfl
    | (split <;> rfl)
    | clear_value *

theorem sealHead_within (s : State) (n : Nat) :
    Within 0x8 s (State.sealHead s n) := by
  have h0 := Within.refl 0x8 s
  unfold State.sealHead
  try lift_lets -underBinder
  repeat' first
    | with_reducible assumption
    | with_reducible refine Within.ite ?_ ?_
    | with_reducible refine (modLink_within _ _ _).step ?_ rfl
    | with_reducible refine Within.foldl _ ?_ ?_
    | (intro (x : State); refine Within.cut (x := x) (m := 0x8) (s := s) ?_ (fun hx => ?_); unfold x)
    | intro x
    | lift_lets -underBinder
    | split
    | exact rfl
    | (split <;> rfl)
    | clear_value *

theorem tunSlot_within (s : State) (n : Nat) :
    Within 0x4002000A000C s (State.tunSlot s n).2 := by
  have h0 := Within.refl 0x4002000A000C s
  unfold State.tunSlot
  try lift_lets -underBinder
  repeat' first
    | with_reducible assumption
    | with_reducible refine Within.ite ?_ ?_
    | with_reducible refine Within.ite2 ?_ ?_
    | with_reducible refine (sealHead_within _ _).step ?_ rfl
    | with_reducible refine (modLink_within _ _ _).step ?_ rfl
    | with_reducible refine (sendLeft_within _ _ _).step ?_ rfl
    | with_reducible refine Within.foldl _ ?_ ?_
    | with_reducible refine Within.foldl2 _ ?_ ?_
    | (intro (x : State); refine Within.cut (x := x) (m := 0x4002000A000C) (s := s) ?_ (fun hx => ?_); unfold x)
    | intro x
    | lift_lets -underBinder
    | split
    | exact rfl
    | (split <;> rfl)
    | clear_value *

theorem sendMgmt_within (s : State) (n type : Nat) (prot : Bool) (body : List Nat) :
    Within 0x8 s (State.sendMgmt s n type prot body) := by
  have h0 := Within.refl 0x8 s
  unfold State.sendMgmt
  try lift_lets -underBinder
  repeat' first
    | with_reducible assumption
    | with_reducible refine Within.ite ?_ ?_
    | with_reducible refine (modLink_within _ _ _).step ?_ rfl
    | with_reducible refine (tunSend_within _ _ _ _).step ?_ rfl
    | with_reducible refine Within.foldl _ ?_ ?_
    | (intro (x : State); refine Within.cut (x := x) (m := 0x8) (s := s) ?_ (fun hx => ?_); unfold x)
    | intro x
    | lift_lets -underBinder
    | split
    | exact rfl
    | (split <;> rfl)
    | clear_value *

theorem mgmtAnswered_within (s : State) (n : Nat) :
    Within 0x8 s (State.mgmtAnswered s n) := by
  have h0 := Within.refl 0x8 s
  unfold State.mgmtAnswered
  try lift_lets -underBinder
  repeat' first
    | with_reducible assumption
    | with_reducible refine Within.ite ?_ ?_
    | with_reducible refine (modLink_within _ _ _).step ?_ rfl
    | with_reducible refine Within.foldl _ ?_ ?_
    | (intro (x : State); refine Within.cut (x := x) (m := 0x8) (s := s) ?_ (fun hx => ?_); unfold x)
    | intro x
    | lift_lets -underBinder
    | split
    | exact rfl
    | (split <;> rfl)
    | clear_value *

theorem sendOffer_within (s : State) (n : Nat) :
    Within 0xA s (State.sendOffer s n) := by
  have h0 := Within.refl 0xA s
  unfold State.sendOffer
  try lift_lets -underBinder
  repeat' first
    | with_reducible assumption
    | with_reducible refine Within.ite ?_ ?_
    | with_reducible refine Within.ite2 ?_ ?_
    | with_reducible refine (draw_within _ _).step ?_ rfl
    | with_reducible refine (modLink_within _ _ _).step ?_ rfl
    | with_reducible refine (sendMgmt_within _ _ _ _ _).step ?_ rfl
    | with_reducible refine Within.foldl _ ?_ ?_
    | with_reducible refine Within.foldl2 _ ?_ ?_
    | (intro (x : State); refine Within.cut (x := x) (m := 0xA) (s := s) ?_ (fun hx => ?_); unfold x)
    | intro x
    | lift_lets -underBinder
    | split
    | exact rfl
    | (split <;> rfl)
    | clear_value *

theorem keyingFail_within (s : State) (n why : Nat) :
    Within 0x40020008000C s (State.keyingFail s n why) := by
  have h0 := Within.refl 0x40020008000C s
  unfold State.keyingFail
  try lift_lets -underBinder
  repeat' first
    | with_reducible assumption
    | with_reducible refine Within.ite ?_ ?_
    | with_reducible refine (raise_within _ _ _ _ _).step ?_ rfl
    | with_reducible refine (modLink_within _ _ _).step ?_ rfl
    | with_reducible refine Within.foldl _ ?_ ?_
    | (intro (x : State); refine Within.cut (x := x) (m := 0x40020008000C) (s := s) ?_ (fun hx => ?_); unfold x)
    | intro x
    | lift_lets -underBinder
    | split
    | exact rfl
    | (split <;> rfl)
    | clear_value *

theorem rekeyBroken_within (s : State) (n : Nat) :
    Within 0x40020008000C s (State.rekeyBroken s n) := by
  have h0 := Within.refl 0x40020008000C s
  unfold State.rekeyBroken
  try lift_lets -underBinder
  repeat' first
    | with_reducible assumption
    | with_reducible refine Within.ite ?_ ?_
    | with_reducible refine (keyingFail_within _ _ _).step ?_ rfl
    | with_reducible refine Within.foldl _ ?_ ?_
    | (intro (x : State); refine Within.cut (x := x) (m := 0x40020008000C) (s := s) ?_ (fun hx => ?_); unfold x)
    | intro x
    | lift_lets -underBinder
    | split
    | exact rfl
    | (split <;> rfl)
    | clear_value *

theorem sendConfig_within (s : State) (n : Nat) :
    Within 0x40160008000C s (State.sendConfig s n) := by
  have h0 := Within.refl 0x40160008000C s
  unfold State.sendConfig
  try lift_lets -underBinder
  repeat' first
    | with_reducible assumption
    | with_reducible refine Within.ite ?_ ?_
    | with_reducible refine (sendMgmt_within _ _ _ _ _).step ?_ rfl
    | with_reducible refine (modLink_within _ _ _).step ?_ rfl
    | with_reducible refine (setLink_within _ _ _).step ?_ rfl
    | with_reducible refine (rekeyBroken_within _ _).step ?_ rfl
    | with_reducible refine Within.foldl _ ?_ ?_
    | (intro (x : State); refine Within.cut (x := x) (m := 0x40160008000C) (s := s) ?_ (fun hx => ?_); unfold x)
    | intro x
    | lift_lets -underBinder
    | split
    | exact rfl
    | (split <;> rfl)
    | clear_value *

theorem retrainDone_within (s : State) (n : Nat) :
    Within 0x40020008000C s (State.retrainDone s n) := by
  have h0 := Within.refl 0x40020008000C s
  unfold State.retrainDone
  try lift_lets -underBinder
  repeat' first
    | with_reducible assumption
    | with_reducible refine Within.ite ?_ ?_
    | with_reducible refine (finish_within _ _ _ _ _ _).step ?_ rfl
    | with_reducible refine (modLink_within _ _ _).step ?_ rfl
    | with_reducible refine Within.foldl _ ?_ ?_
    | (intro (x : State); refine Within.cut (x := x) (m := 0x40020008000C) (s := s) ?_ (fun hx => ?_); unfold x)
    | intro x
    | lift_lets -underBinder
    | split
    | exact rfl
    | (split <;> rfl)
    | clear_value *

theorem quarantine_within (s : State) (n causes : Nat) :
    Within 0x40160008000C s (State.quarantine s n causes) := by
  have h0 := Within.refl 0x40160008000C s
  unfold State.quarantine
  try lift_lets -underBinder
  repeat' first
    | with_reducible assumption
    | with_reducible refine Within.ite ?_ ?_
    | with_reducible refine Within.set 2 ?_ ?_ rfl
    | with_reducible refine (setLink_within _ _ _).step ?_ rfl
    | with_reducible refine (rekeyBroken_within _ _).step ?_ rfl
    | with_reducible refine (modLink_within _ _ _).step ?_ rfl
    | with_reducible refine (retrainDone_within _ _).step ?_ rfl
    | with_reducible refine (raise_within _ _ _ _ _).step ?_ rfl
    | with_reducible refine Within.foldl _ ?_ ?_
    | (intro (x : State); refine Within.cut (x := x) (m := 0x40160008000C) (s := s) ?_ (fun hx => ?_); unfold x)
    | intro x
    | lift_lets -underBinder
    | split
    | exact rfl
    | (split <;> rfl)
    | clear_value *

theorem quarantineExit_within (s : State) (n : Nat) :
    Within 0x40160008000C s (State.quarantineExit s n) := by
  have h0 := Within.refl 0x40160008000C s
  unfold State.quarantineExit
  try lift_lets -underBinder
  repeat' first
    | with_reducible assumption
    | with_reducible refine Within.ite ?_ ?_
    | with_reducible refine (sendConfig_within _ _).step ?_ rfl
    | with_reducible refine Within.foldl _ ?_ ?_
    | (intro (x : State); refine Within.cut (x := x) (m := 0x40160008000C) (s := s) ?_ (fun hx => ?_); unfold x)
    | intro x
    | lift_lets -underBinder
    | split
    | exact rfl
    | (split <;> rfl)
    | clear_value *

theorem commitRecord_within (s : State) (n : Nat) :
    Within 0x400000080008 s (State.commitRecord s n) := by
  have h0 := Within.refl 0x400000080008 s
  unfold State.commitRecord
  try lift_lets -underBinder
  repeat' first
    | with_reducible assumption
    | with_reducible refine Within.ite ?_ ?_
    | with_reducible refine Within.ite2 ?_ ?_
    | with_reducible refine (tryStore_within _ _ _ _).step ?_ rfl
    | with_reducible refine (modLink_within _ _ _).step ?_ rfl
    | with_reducible refine Within.foldl _ ?_ ?_
    | with_reducible refine Within.foldl2 _ ?_ ?_
    | (intro (x : State); refine Within.cut (x := x) (m := 0x400000080008) (s := s) ?_ (fun hx => ?_); unfold x)
    | intro x
    | lift_lets -underBinder
    | split
    | exact rfl
    | (split <;> rfl)
    | clear_value *

theorem calUnbound_within (s : State) (n : Nat) (fp : List Nat) :
    Within 0x2000008000 s (State.calUnbound s n fp) := by
  have h0 := Within.refl 0x2000008000 s
  unfold State.calUnbound
  try lift_lets -underBinder
  repeat' first
    | with_reducible assumption
    | with_reducible refine Within.ite ?_ ?_
    | with_reducible refine Within.set 5 ?_ ?_ rfl
    | with_reducible refine (modWbg_within _ _).step ?_ rfl
    | with_reducible refine Within.foldl _ ?_ ?_
    | (intro (x : State); refine Within.cut (x := x) (m := 0x2000008000) (s := s) ?_ (fun hx => ?_); unfold x)
    | intro x
    | lift_lets -underBinder
    | split
    | exact rfl
    | (split <;> rfl)
    | clear_value *

theorem recordCommitted_within (s : State) (n : Nat) (e : RecEntry) :
    Within 0x3400008040 s (State.recordCommitted s n e) := by
  have h0 := Within.refl 0x3400008040 s
  unfold State.recordCommitted
  try lift_lets -underBinder
  repeat' first
    | with_reducible assumption
    | with_reducible refine Within.ite ?_ ?_
    | ((with_reducible refine Within.set 2 ?_ ?hw rfl); case hw => first | exact rfl | assumption | (split <;> rfl))
    | ((with_reducible refine Within.set 4 ?_ ?hw rfl); case hw => first | exact rfl | assumption | (split <;> rfl))
    | with_reducible refine (calUnbound_within _ _ _).step ?_ rfl
    | with_reducible refine (modRec_within _ _ _).step ?_ rfl
    | with_reducible refine Within.foldl _ ?_ ?_
    | (intro (x : State); refine Within.cut (x := x) (m := 0x3400008040) (s := s) ?_ (fun hx => ?_); unfold x)
    | intro x
    | lift_lets -underBinder
    | split
    | exact rfl
    | (split <;> rfl)
    | clear_value *

theorem enterRun_within (s : State) (n : Nat) :
    Within 0x50160008013C s (State.enterRun s n) := by
  have h0 := Within.refl 0x50160008013C s
  unfold State.enterRun
  try lift_lets -underBinder
  repeat' first
    | with_reducible assumption
    | with_reducible refine Within.ite ?_ ?_
    | with_reducible refine (modLink_within _ _ _).step ?_ rfl
    | with_reducible refine (setLink_within _ _ _).step ?_ rfl
    | with_reducible refine (refreshCeil_within _ _).step ?_ rfl
    | ((with_reducible refine Within.set 2 ?_ ?hw rfl); case hw => first | exact rfl | assumption | (split <;> rfl))
    | ((with_reducible refine Within.set 4 ?_ ?hw rfl); case hw => first | exact rfl | assumption | (split <;> rfl))
    | with_reducible refine (modWalk_within _ _ _).step ?_ rfl
    | with_reducible refine (raise_within _ _ _ _ _).step ?_ rfl
    | with_reducible refine (retrainDone_within _ _).step ?_ rfl
    | with_reducible refine (refreshSched_within _).step ?_ rfl
    | with_reducible refine Within.foldl _ ?_ ?_
    | (intro (x : State); refine Within.cut (x := x) (m := 0x50160008013C) (s := s) ?_ (fun hx => ?_); unfold x)
    | intro x
    | lift_lets -underBinder
    | split
    | with_reducible refine Within.runSeqUpd.step ?_ rfl
    | exact rfl
    | (split <;> rfl)
    | clear_value *

theorem recDurable_within (s : State) (n : Nat) (e : RecEntry) :
    Within 0x50360008817C s (State.recDurable s n e) := by
  have h0 := Within.refl 0x50360008817C s
  unfold State.recDurable
  try lift_lets -underBinder
  repeat' first
    | with_reducible assumption
    | with_reducible refine Within.ite ?_ ?_
    | with_reducible refine (recordCommitted_within _ _ _).step ?_ rfl
    | with_reducible refine (enterRun_within _ _).step ?_ rfl
    | with_reducible refine Within.foldl _ ?_ ?_
    | (intro (x : State); refine Within.cut (x := x) (m := 0x50360008817C) (s := s) ?_ (fun hx => ?_); unfold x)
    | intro x
    | lift_lets -underBinder
    | split
    | exact rfl
    | (split <;> rfl)
    | clear_value *

theorem linkLost_within (s : State) (n why : Nat) :
    Within 0x51160008003C s (State.linkLost s n why) := by
  have h0 := Within.refl 0x51160008003C s
  unfold State.linkLost
  try lift_lets -underBinder
  repeat' first
    | with_reducible assumption
    | with_reducible refine Within.ite ?_ ?_
    | with_reducible refine (setLink_within _ _ _).step ?_ rfl
    | with_reducible refine (modLink_within _ _ _).step ?_ rfl
    | with_reducible refine (stopStall_within _ _ _ _).step ?_ rfl
    | with_reducible refine (raise_within _ _ _ _ _).step ?_ rfl
    | with_reducible refine (toTraining_within _ _).step ?_ rfl
    | with_reducible refine Within.foldl _ ?_ ?_
    | (intro (x : State); refine Within.cut (x := x) (m := 0x51160008003C) (s := s) ?_ (fun hx => ?_); unfold x)
    | intro x
    | lift_lets -underBinder
    | split
    | exact rfl
    | (split <;> rfl)
    | clear_value *

end Sys2Proof.Laws
end

