-- ==== Sys2Proof/Laws/WithinDroOps.lean ====
section
/-!
SUPPORT. What the operations of Machine/DroOps.lean may touch.
-/
namespace Sys2Proof.Laws

open Sys2Proof.Machine

theorem modCtx_within (s : State) (i : Nat) (f : Ctx → Ctx) :
    Within 0x20000 s (State.modCtx s i f) := by
  have h0 := Within.refl 0x20000 s
  unfold State.modCtx
  try lift_lets -underBinder
  repeat' first
    | with_reducible assumption
    | with_reducible refine Within.ite ?_ ?_
    | with_reducible refine (modDro_within _ _).step ?_ rfl
    | with_reducible refine Within.foldl _ ?_ ?_
    | (intro (x : State); refine Within.cut (x := x) (m := 0x20000) (s := s) ?_ (fun hx => ?_); unfold x)
    | intro x
    | lift_lets -underBinder
    | split
    | exact rfl
    | (split <;> rfl)
    | clear_value *

theorem freeCtx_within (s : State) (i : Nat) :
    Within 0x20000 s (State.freeCtx s i) := by
  have h0 := Within.refl 0x20000 s
  unfold State.freeCtx
  try lift_lets -underBinder
  repeat' first
    | with_reducible assumption
    | with_reducible refine Within.ite ?_ ?_
    | with_reducible refine (modCtx_within _ _ _).step ?_ rfl
    | with_reducible refine Within.foldl _ ?_ ?_
    | (intro (x : State); refine Within.cut (x := x) (m := 0x20000) (s := s) ?_ (fun hx => ?_); unfold x)
    | intro x
    | lift_lets -underBinder
    | split
    | exact rfl
    | (split <;> rfl)
    | clear_value *

theorem openCtx_within (s : State) (n chan proto : Nat) (host : Bool) :
    Within 0x20000 s (State.openCtx s n chan proto host).2 := by
  have h0 := Within.refl 0x20000 s
  unfold State.openCtx
  try lift_lets -underBinder
  repeat' first
    | with_reducible assumption
    | with_reducible refine Within.ite ?_ ?_
    | with_reducible refine Within.ite2 ?_ ?_
    | with_reducible refine (freeCtx_within _ _).step ?_ rfl
    | with_reducible refine (modCtx_within _ _ _).step ?_ rfl
    | with_reducible refine Within.foldl _ ?_ ?_
    | with_reducible refine Within.foldl2 _ ?_ ?_
    | (intro (x : State); refine Within.cut (x := x) (m := 0x20000) (s := s) ?_ (fun hx => ?_); unfold x)
    | intro x
    | lift_lets -underBinder
    | split
    | exact rfl
    | (split <;> rfl)
    | clear_value *

theorem opened_within (s : State) (i : Nat) :
    Within 0x408200080004 s (State.opened s i) := by
  have h0 := Within.refl 0x408200080004 s
  unfold State.opened
  try lift_lets -underBinder
  repeat' first
    | with_reducible assumption
    | with_reducible refine Within.ite ?_ ?_
    | with_reducible refine (raise_within _ _ _ _ _).step ?_ rfl
    | with_reducible refine Within.inc 7 ?_ ?_ rfl
    | with_reducible refine Within.foldl _ ?_ ?_
    | (intro (x : State); refine Within.cut (x := x) (m := 0x408200080004) (s := s) ?_ (fun hx => ?_); unfold x)
    | intro x
    | lift_lets -underBinder
    | split
    | exact rfl
    | (split <;> rfl)
    | clear_value *

theorem leafLost_within (s : State) (h : Nat) :
    Within 0x4002000A0004 s (State.leafLost s h) := by
  have h0 := Within.refl 0x4002000A0004 s
  unfold State.leafLost
  try lift_lets -underBinder
  repeat' first
    | with_reducible assumption
    | with_reducible refine Within.ite ?_ ?_
    | with_reducible refine (modDro_within _ _).step ?_ rfl
    | with_reducible refine Within.incSat 14 ?_ ?_ rfl
    | with_reducible refine Within.setB 14 ?_ ?_ rfl
    | with_reducible refine (raise_within _ _ _ _ _).step ?_ rfl
    | with_reducible refine Within.foldl _ ?_ ?_
    | (intro (x : State); refine Within.cut (x := x) (m := 0x4002000A0004) (s := s) ?_ (fun hx => ?_); unfold x)
    | intro x
    | lift_lets -underBinder
    | split
    | exact rfl
    | (split <;> rfl)
    | clear_value *

theorem lookupNow_within (s : State) (h : Nat) (uncorr : Bool) :
    Within 0x4002000A0004 s (State.lookupNow s h uncorr).2 := by
  have h0 := Within.refl 0x4002000A0004 s
  unfold State.lookupNow
  try lift_lets -underBinder
  repeat' first
    | with_reducible assumption
    | with_reducible refine Within.ite ?_ ?_
    | with_reducible refine Within.ite2 ?_ ?_
    | with_reducible refine (leafLost_within _ _).step ?_ rfl
    | with_reducible refine Within.foldl _ ?_ ?_
    | with_reducible refine Within.foldl2 _ ?_ ?_
    | (intro (x : State); refine Within.cut (x := x) (m := 0x4002000A0004) (s := s) ?_ (fun hx => ?_); unfold x)
    | intro x
    | lift_lets -underBinder
    | split
    | exact rfl
    | (split <;> rfl)
    | clear_value *

theorem lookOp_within (s : State) (p num : Nat) (uncorr : Bool) :
    Within 0x4002000A0004 s (State.lookOp s p num uncorr) := by
  have h0 := Within.refl 0x4002000A0004 s
  unfold State.lookOp
  try lift_lets -underBinder
  repeat' first
    | with_reducible assumption
    | with_reducible refine Within.ite ?_ ?_
    | with_reducible refine Within.ite2 ?_ ?_
    | with_reducible refine (lookupNow_within _ _ _).step ?_ rfl
    | with_reducible refine (bufWrite_within _ _ _ _).step ?_ rfl
    | with_reducible refine (finish_within _ _ _ _ _ _).step ?_ rfl
    | with_reducible refine Within.foldl _ ?_ ?_
    | with_reducible refine Within.foldl2 _ ?_ ?_
    | (intro (x : State); refine Within.cut (x := x) (m := 0x4002000A0004) (s := s) ?_ (fun hx => ?_); unfold x)
    | intro x
    | lift_lets -underBinder
    | split
    | exact rfl
    | (split <;> rfl)
    | clear_value *

theorem lookServe_within (s : State) (run l : List Look) : Within 0x4002000A0004 s (s.lookServe run l).2 := by
  induction l generalizing s run with
  | nil => exact Within.refl _ s
  | cons x t ih =>
    cases x with
    | ctx i =>
      unfold State.lookServe
      split
      · exact ih s _
      · exact ih s _
    | op p num u =>
      unfold State.lookServe
      split
      · exact (ih _ _).step ((lookOp_within s p num u).step (Within.refl _ s) rfl) rfl
      · exact ih s _

theorem lookPlaces_within (s : State) :
    Within 0x4002000A0004 s (State.lookPlaces s) := by
  have h0 := Within.refl 0x4002000A0004 s
  unfold State.lookPlaces
  try lift_lets -underBinder
  repeat' first
    | with_reducible assumption
    | with_reducible refine Within.ite ?_ ?_
    | with_reducible refine Within.ite2 ?_ ?_
    | with_reducible refine (lookServe_within _ _ _).step ?_ rfl
    | with_reducible refine (modDro_within _ _).step ?_ rfl
    | with_reducible refine Within.foldl _ ?_ ?_
    | with_reducible refine Within.foldl2 _ ?_ ?_
    | (intro (x : State); refine Within.cut (x := x) (m := 0x4002000A0004) (s := s) ?_ (fun hx => ?_); unfold x)
    | intro x
    | lift_lets -underBinder
    | split
    | exact rfl
    | (split <;> rfl)
    | clear_value *

theorem lookAsk_within (s : State) (i : Nat) (why : LookFor) :
    Within 0x20000 s (State.lookAsk s i why) := by
  have h0 := Within.refl 0x20000 s
  unfold State.lookAsk
  try lift_lets -underBinder
  repeat' first
    | with_reducible assumption
    | with_reducible refine Within.ite ?_ ?_
    | with_reducible refine (modCtx_within _ _ _).step ?_ rfl
    | with_reducible refine (modDro_within _ _).step ?_ rfl
    | with_reducible refine Within.foldl _ ?_ ?_
    | (intro (x : State); refine Within.cut (x := x) (m := 0x20000) (s := s) ?_ (fun hx => ?_); unfold x)
    | intro x
    | lift_lets -underBinder
    | split
    | exact rfl
    | (split <;> rfl)
    | clear_value *

theorem toLinger_within (s : State) (i : Nat) :
    Within 0x4002000A0004 s (State.toLinger s i) := by
  have h0 := Within.refl 0x4002000A0004 s
  unfold State.toLinger
  try lift_lets -underBinder
  repeat' first
    | with_reducible assumption
    | with_reducible refine Within.ite ?_ ?_
    | with_reducible refine (modCtx_within _ _ _).step ?_ rfl
    | with_reducible refine (raise_within _ _ _ _ _).step ?_ rfl
    | with_reducible refine (finish_within _ _ _ _ _ _).step ?_ rfl
    | with_reducible refine Within.foldl _ ?_ ?_
    | (intro (x : State); refine Within.cut (x := x) (m := 0x4002000A0004) (s := s) ?_ (fun hx => ?_); unfold x)
    | intro x
    | lift_lets -underBinder
    | split
    | exact rfl
    | (split <;> rfl)
    | clear_value *

theorem endCtx_within (s : State) (i cause msgId : Nat) :
    Within 0x4082000A8004 s (State.endCtx s i cause msgId) := by
  have h0 := Within.refl 0x4082000A8004 s
  unfold State.endCtx
  try lift_lets -underBinder
  repeat' first
    | with_reducible assumption
    | with_reducible refine Within.ite ?_ ?_
    | with_reducible refine (modCtx_within _ _ _).step ?_ rfl
    | with_reducible refine (finish_within _ _ _ _ _ _).step ?_ rfl
    | with_reducible refine (raise_within _ _ _ _ _).step ?_ rfl
    | with_reducible refine Within.incSat 7 ?_ ?_ rfl
    | with_reducible refine (modMet_within _ _ _).step ?_ rfl
    | with_reducible refine (lookPlaces_within _).step ?_ rfl
    | with_reducible refine (toLinger_within _ _).step ?_ rfl
    | with_reducible refine Within.foldl _ ?_ ?_
    | (intro (x : State); refine Within.cut (x := x) (m := 0x4082000A8004) (s := s) ?_ (fun hx => ?_); unfold x)
    | intro x
    | lift_lets -underBinder
    | split
    | exact rfl
    | (split <;> rfl)
    | clear_value *

theorem tcpSend_within (s : State) (n ch h flags : Nat) (opts payload : List Nat) :
    Within 0x8 s (State.tcpSend s n ch h flags opts payload) := by
  have h0 := Within.refl 0x8 s
  unfold State.tcpSend
  try lift_lets -underBinder
  repeat' first
    | with_reducible assumption
    | with_reducible refine Within.ite ?_ ?_
    | with_reducible refine (tunSend_within _ _ _ _).step ?_ rfl
    | with_reducible refine Within.foldl _ ?_ ?_
    | (intro (x : State); refine Within.cut (x := x) (m := 0x8) (s := s) ?_ (fun hx => ?_); unfold x)
    | intro x
    | lift_lets -underBinder
    | split
    | exact rfl
    | (split <;> rfl)
    | clear_value *

theorem sdpReply_within (s : State) (n ch : Nat) (tls : Bool) :
    Within 0x8 s (State.sdpReply s n ch tls) := by
  have h0 := Within.refl 0x8 s
  unfold State.sdpReply
  try lift_lets -underBinder
  repeat' first
    | with_reducible assumption
    | with_reducible refine Within.ite ?_ ?_
    | with_reducible refine (tunSend_within _ _ _ _).step ?_ rfl
    | with_reducible refine Within.foldl _ ?_ ?_
    | (intro (x : State); refine Within.cut (x := x) (m := 0x8) (s := s) ?_ (fun hx => ?_); unfold x)
    | intro x
    | lift_lets -underBinder
    | split
    | exact rfl
    | (split <;> rfl)
    | clear_value *

theorem sendRst_within (s : State) (n ch : Nat) :
    Within 0x8 s (State.sendRst s n ch) := by
  have h0 := Within.refl 0x8 s
  unfold State.sendRst
  try lift_lets -underBinder
  repeat' first
    | with_reducible assumption
    | with_reducible refine Within.ite ?_ ?_
    | with_reducible refine (tcpSend_within _ _ _ _ _ _ _).step ?_ rfl
    | with_reducible refine Within.foldl _ ?_ ?_
    | (intro (x : State); refine Within.cut (x := x) (m := 0x8) (s := s) ?_ (fun hx => ?_); unfold x)
    | intro x
    | lift_lets -underBinder
    | split
    | exact rfl
    | (split <;> rfl)
    | clear_value *

theorem droSend_within (s : State) (i : Nat) (data : List Nat) :
    Within 0x8 s (State.droSend s i data) := by
  have h0 := Within.refl 0x8 s
  unfold State.droSend
  try lift_lets -underBinder
  repeat' first
    | with_reducible assumption
    | with_reducible refine Within.ite ?_ ?_
    | with_reducible refine (tunSend_within _ _ _ _).step ?_ rfl
    | with_reducible refine (tcpSend_within _ _ _ _ _ _ _).step ?_ rfl
    | with_reducible refine Within.foldl _ ?_ ?_
    | (intro (x : State); refine Within.cut (x := x) (m := 0x8) (s := s) ?_ (fun hx => ?_); unfold x)
    | intro x
    | lift_lets -underBinder
    | split
    | exact rfl
    | (split <;> rfl)
    | clear_value *

theorem rxDrop_within (s : State) :
    Within 0x408200080004 s (State.rxDrop s) := by
  have h0 := Within.refl 0x408200080004 s
  unfold State.rxDrop
  try lift_lets -underBinder
  repeat' first
    | with_reducible assumption
    | with_reducible refine Within.ite ?_ ?_
    | with_reducible refine Within.setB 7 ?_ ?_ rfl
    | with_reducible refine Within.incSat 7 ?_ ?_ rfl
    | with_reducible refine (raise_within _ _ _ _ _).step ?_ rfl
    | with_reducible refine Within.foldl _ ?_ ?_
    | (intro (x : State); refine Within.cut (x := x) (m := 0x408200080004) (s := s) ?_ (fun hx => ?_); unfold x)
    | intro x
    | lift_lets -underBinder
    | split
    | exact rfl
    | (split <;> rfl)
    | clear_value *

theorem rxWrite_within (s : State) (handle kind ch n msgId : Nat) (data : List Nat) (arr : Nat) :
    Within 0x408200080004 s (State.rxWrite s handle kind ch n msgId data arr) := by
  have h0 := Within.refl 0x408200080004 s
  unfold State.rxWrite
  try lift_lets -underBinder
  repeat' first
    | with_reducible assumption
    | with_reducible refine Within.ite ?_ ?_
    | with_reducible refine (rxDrop_within _).step ?_ rfl
    | with_reducible refine (emit_within _ _).step ?_ (Nat.zero_or _)
    | with_reducible refine (modPd_within _ _ _).step ?_ rfl
    | with_reducible refine (signal_within _ _ _).step ?_ rfl
    | with_reducible refine (logEvent_within _ _ _).step ?_ rfl
    | with_reducible refine (deliver_within _ _ _).step ?_ rfl
    | with_reducible refine Within.foldl _ ?_ ?_
    | (intro (x : State); refine Within.cut (x := x) (m := 0x408200080004) (s := s) ?_ (fun hx => ?_); unfold x)
    | intro x
    | lift_lets -underBinder
    | split
    | exact rfl
    | (split <;> rfl)
    | clear_value *

theorem askHost_within (s : State) (i outcome : Nat) :
    Within 0x4002000A0004 s (State.askHost s i outcome) := by
  have h0 := Within.refl 0x4002000A0004 s
  unfold State.askHost
  try lift_lets -underBinder
  repeat' first
    | with_reducible assumption
    | with_reducible refine Within.ite ?_ ?_
    | with_reducible refine (modCtx_within _ _ _).step ?_ rfl
    | with_reducible refine (raise_within _ _ _ _ _).step ?_ rfl
    | with_reducible refine Within.foldl _ ?_ ?_
    | (intro (x : State); refine Within.cut (x := x) (m := 0x4002000A0004) (s := s) ?_ (fun hx => ?_); unfold x)
    | intro x
    | lift_lets -underBinder
    | split
    | exact rfl
    | (split <;> rfl)
    | clear_value *

theorem accept_within (s : State) (i source : Nat) (contract : List Nat) (account : Option Nat) (cls : Nat) :
    Within 0x20000 s (State.accept s i source contract account cls) := by
  have h0 := Within.refl 0x20000 s
  unfold State.accept
  try lift_lets -underBinder
  repeat' first
    | with_reducible assumption
    | with_reducible refine Within.ite ?_ ?_
    | with_reducible refine (modCtx_within _ _ _).step ?_ rfl
    | with_reducible refine Within.foldl _ ?_ ?_
    | (intro (x : State); refine Within.cut (x := x) (m := 0x20000) (s := s) ?_ (fun hx => ?_); unfold x)
    | intro x
    | lift_lets -underBinder
    | split
    | exact rfl
    | (split <;> rfl)
    | clear_value *

theorem refuse_within (s : State) (i source : Nat) :
    Within 0x4082000A800C s (State.refuse s i source) := by
  have h0 := Within.refl 0x4082000A800C s
  unfold State.refuse
  try lift_lets -underBinder
  repeat' first
    | with_reducible assumption
    | with_reducible refine Within.ite ?_ ?_
    | with_reducible refine (droSend_within _ _ _).step ?_ rfl
    | with_reducible refine (modCtx_within _ _ _).step ?_ rfl
    | with_reducible refine (endCtx_within _ _ _ _).step ?_ rfl
    | with_reducible refine Within.foldl _ ?_ ?_
    | (intro (x : State); refine Within.cut (x := x) (m := 0x4082000A800C) (s := s) ?_ (fun hx => ?_); unfold x)
    | intro x
    | lift_lets -underBinder
    | split
    | exact rfl
    | (split <;> rfl)
    | clear_value *

theorem acceptEntry_within (s : State) (i : Nat) (hash : List Nat) (e : Entry) :
    Within 0x20000 s (State.acceptEntry s i hash e) := by
  have h0 := Within.refl 0x20000 s
  unfold State.acceptEntry
  try lift_lets -underBinder
  repeat' first
    | with_reducible assumption
    | with_reducible refine Within.ite ?_ ?_
    | with_reducible refine (accept_within _ _ _ _ _ _).step ?_ rfl
    | with_reducible refine Within.foldl _ ?_ ?_
    | (intro (x : State); refine Within.cut (x := x) (m := 0x20000) (s := s) ?_ (fun hx => ?_); unfold x)
    | intro x
    | lift_lets -underBinder
    | split
    | exact rfl
    | (split <;> rfl)
    | clear_value *

theorem decideList_within (s : State) (i : Nat) (list : Bool) (r : Nat × Option Entry) :
    Within 0x4082000A800C s (State.decideList s i list r) := by
  have h0 := Within.refl 0x4082000A800C s
  unfold State.decideList
  try lift_lets -underBinder
  repeat' first
    | with_reducible assumption
    | with_reducible refine Within.ite ?_ ?_
    | with_reducible refine (acceptEntry_within _ _ _ _).step ?_ rfl
    | with_reducible refine (askHost_within _ _ _).step ?_ rfl
    | with_reducible refine (modCtx_within _ _ _).step ?_ rfl
    | with_reducible refine (refuse_within _ _ _).step ?_ rfl
    | with_reducible refine Within.foldl _ ?_ ?_
    | (intro (x : State); refine Within.cut (x := x) (m := 0x4082000A800C) (s := s) ?_ (fun hx => ?_); unfold x)
    | intro x
    | lift_lets -underBinder
    | split
    | exact rfl
    | (split <;> rfl)
    | clear_value *

theorem authorize_within (s : State) (i : Nat) :
    Within 0x4082000A800C s (State.authorize s i) := by
  have h0 := Within.refl 0x4082000A800C s
  unfold State.authorize
  try lift_lets -underBinder
  repeat' first
    | with_reducible assumption
    | with_reducible refine Within.ite ?_ ?_
    | with_reducible refine (modCtx_within _ _ _).step ?_ rfl
    | with_reducible refine (accept_within _ _ _ _ _ _).step ?_ rfl
    | with_reducible refine (askHost_within _ _ _).step ?_ rfl
    | with_reducible refine (lookAsk_within _ _ _).step ?_ rfl
    | with_reducible refine (decideList_within _ _ _ _).step ?_ rfl
    | with_reducible refine Within.foldl _ ?_ ?_
    | (intro (x : State); refine Within.cut (x := x) (m := 0x4082000A800C) (s := s) ?_ (fun hx => ?_); unfold x)
    | intro x
    | lift_lets -underBinder
    | split
    | exact rfl
    | (split <;> rfl)
    | clear_value *

theorem store_within (s : State) (i : Nat) (m : V2gParams) :
    Within 0x20000 s (State.store s i m) := by
  have h0 := Within.refl 0x20000 s
  unfold State.store
  try lift_lets -underBinder
  repeat' first
    | with_reducible assumption
    | with_reducible refine Within.ite ?_ ?_
    | with_reducible refine (modCtx_within _ _ _).step ?_ rfl
    | with_reducible refine Within.foldl _ ?_ ?_
    | (intro (x : State); refine Within.cut (x := x) (m := 0x20000) (s := s) ?_ (fun hx => ?_); unfold x)
    | intro x
    | lift_lets -underBinder
    | split
    | exact rfl
    | (split <;> rfl)
    | clear_value *

theorem act_within (s : State) (i a msgId : Nat) (m : Option V2gParams) (byTimer : Bool) :
    Within 0x4082000A800C s (State.act s i a msgId m byTimer) := by
  have h0 := Within.refl 0x4082000A800C s
  unfold State.act
  try lift_lets -underBinder
  repeat' first
    | with_reducible assumption
    | with_reducible refine Within.ite ?_ ?_
    | with_reducible refine (modCtx_within _ _ _).step ?_ rfl
    | with_reducible refine (store_within _ _ _).step ?_ rfl
    | with_reducible refine (authorize_within _ _).step ?_ rfl
    | with_reducible refine (endCtx_within _ _ _ _).step ?_ rfl
    | with_reducible refine Within.foldl _ ?_ ?_
    | (intro (x : State); refine Within.cut (x := x) (m := 0x4082000A800C) (s := s) ?_ (fun hx => ?_); unfold x)
    | intro x
    | lift_lets -underBinder
    | split
    | exact rfl
    | (split <;> rfl)
    | clear_value *

theorem startTimer_within (s : State) (i kind : Nat) :
    Within 0x20000 s (State.startTimer s i kind) := by
  have h0 := Within.refl 0x20000 s
  unfold State.startTimer
  try lift_lets -underBinder
  repeat' first
    | with_reducible assumption
    | with_reducible refine Within.ite ?_ ?_
    | with_reducible refine (modCtx_within _ _ _).step ?_ rfl
    | with_reducible refine Within.foldl _ ?_ ?_
    | (intro (x : State); refine Within.cut (x := x) (m := 0x20000) (s := s) ?_ (fun hx => ?_); unfold x)
    | intro x
    | lift_lets -underBinder
    | split
    | exact rfl
    | (split <;> rfl)
    | clear_value *

theorem droEvent_within (s : State) (i cls id : Nat) (m : Option V2gMsg) (arr : Nat) :
    Within 0x4082000A800C s (State.droEvent s i cls id m arr) := by
  have h0 := Within.refl 0x4082000A800C s
  unfold State.droEvent
  try lift_lets -underBinder
  repeat' first
    | with_reducible assumption
    | with_reducible refine Within.ite ?_ ?_
    | with_reducible refine (endCtx_within _ _ _ _).step ?_ rfl
    | with_reducible refine (droSend_within _ _ _).step ?_ rfl
    | with_reducible refine (modCtx_within _ _ _).step ?_ rfl
    | with_reducible refine (rxWrite_within _ _ _ _ _ _ _ _).step ?_ rfl
    | with_reducible refine (startTimer_within _ _ _).step ?_ rfl
    | with_reducible refine (act_within _ _ _ _ _ _).step ?_ rfl
    | with_reducible refine Within.foldl _ ?_ ?_
    | (intro (x : State); refine Within.cut (x := x) (m := 0x4082000A800C) (s := s) ?_ (fun hx => ?_); unfold x)
    | intro x
    | lift_lets -underBinder
    | split
    | exact rfl
    | (split <;> rfl)
    | clear_value *

theorem droSlot_within (s : State) (n : Nat) :
    Within 0x4002000A0004 s (State.droSlot s n) := by
  have h0 := Within.refl 0x4002000A0004 s
  unfold State.droSlot
  try lift_lets -underBinder
  repeat' first
    | with_reducible assumption
    | with_reducible refine Within.ite ?_ ?_
    | with_reducible refine (modCtx_within _ _ _).step ?_ rfl
    | with_reducible refine (finish_within _ _ _ _ _ _).step ?_ rfl
    | with_reducible refine Within.foldl _ ?_ ?_
    | (intro (x : State); refine Within.cut (x := x) (m := 0x4002000A0004) (s := s) ?_ (fun hx => ?_); unfold x)
    | intro x
    | lift_lets -underBinder
    | split
    | exact rfl
    | (split <;> rfl)
    | clear_value *

theorem droMode_within (s : State) (n mode : Nat) (ok : Bool) :
    Within 0x4002000A0004 s (State.droMode s n mode ok) := by
  have h0 := Within.refl 0x4002000A0004 s
  unfold State.droMode
  try lift_lets -underBinder
  repeat' first
    | with_reducible assumption
    | with_reducible refine Within.ite ?_ ?_
    | with_reducible refine (modCtx_within _ _ _).step ?_ rfl
    | with_reducible refine (finish_within _ _ _ _ _ _).step ?_ rfl
    | with_reducible refine Within.foldl _ ?_ ?_
    | (intro (x : State); refine Within.cut (x := x) (m := 0x4002000A0004) (s := s) ?_ (fun hx => ?_); unfold x)
    | intro x
    | lift_lets -underBinder
    | split
    | exact rfl
    | (split <;> rfl)
    | clear_value *

end Sys2Proof.Laws
end

