-- ==== Sys2Proof/Laws/WithinDrover.lean ====
section
/-!
SUPPORT. What the operations of Machine/Drover.lean may touch.
-/
namespace Sys2Proof.Laws

open Sys2Proof.Machine

theorem tlsHello_within (s : State) (i : Nat) (h : TlsHello) :
    Within 0x4082000A800C s (State.tlsHello s i h) := by
  have h0 := Within.refl 0x4082000A800C s
  unfold State.tlsHello
  try lift_lets -underBinder
  repeat' first
    | with_reducible assumption
    | with_reducible refine Within.ite ?_ ?_
    | with_reducible refine (endCtx_within _ _ _ _).step ?_ rfl
    | with_reducible refine (droSend_within _ _ _).step ?_ rfl
    | with_reducible refine (modCtx_within _ _ _).step ?_ rfl
    | with_reducible refine Within.foldl _ ?_ ?_
    | (intro (x : State); refine Within.cut (x := x) (m := 0x4082000A800C) (s := s) ?_ (fun hx => ?_); unfold x)
    | intro x
    | lift_lets -underBinder
    | split
    | exact rfl
    | (split <;> rfl)
    | clear_value *

theorem identify_within (s : State) (i kind : Nat) (ident : List Nat) :
    Within 0x20000 s (State.identify s i kind ident) := by
  have h0 := Within.refl 0x20000 s
  unfold State.identify
  try lift_lets -underBinder
  repeat' first
    | with_reducible assumption
    | with_reducible refine Within.ite ?_ ?_
    | with_reducible refine (modCtx_within _ _ _).step ?_ rfl
    | with_reducible refine Within.foldl _ ?_ ?_
    | (intro (x : State); refine Within.cut (x := x) (m := 0x20000) (s := s) ?_ (fun hx => ?_); unfold x)
    | intro x
    | lift_lets -underBinder
    | split
    | exact rfl
    | (split <;> rfl)
    | clear_value *

theorem absorb_within (s : State) (i : Nat) (m : V2gMsg) :
    Within 0x4082000A0004 s (State.absorb s i m) := by
  have h0 := Within.refl 0x4082000A0004 s
  unfold State.absorb
  try lift_lets -underBinder
  repeat' first
    | with_reducible assumption
    | with_reducible refine Within.ite ?_ ?_
    | with_reducible refine (opened_within _ _).step ?_ rfl
    | with_reducible refine (modCtx_within _ _ _).step ?_ rfl
    | with_reducible refine (identify_within _ _ _ _).step ?_ rfl
    | with_reducible refine Within.foldl _ ?_ ?_
    | (intro (x : State); refine Within.cut (x := x) (m := 0x4082000A0004) (s := s) ?_ (fun hx => ?_); unfold x)
    | intro x
    | lift_lets -underBinder
    | split
    | exact rfl
    | (split <;> rfl)
    | clear_value *

theorem droMessage_within (s : State) (i : Nat) (m : V2gMsg) (arr : Nat) :
    Within 0x4082000A800C s (State.droMessage s i m arr) := by
  have h0 := Within.refl 0x4082000A800C s
  unfold State.droMessage
  try lift_lets -underBinder
  repeat' first
    | with_reducible assumption
    | with_reducible refine Within.ite ?_ ?_
    | with_reducible refine (endCtx_within _ _ _ _).step ?_ rfl
    | with_reducible refine (droSend_within _ _ _).step ?_ rfl
    | with_reducible refine (droEvent_within _ _ _ _ _ _).step ?_ rfl
    | with_reducible refine (modCtx_within _ _ _).step ?_ rfl
    | with_reducible refine (absorb_within _ _ _).step ?_ rfl
    | with_reducible refine Within.foldl _ ?_ ?_
    | (intro (x : State); refine Within.cut (x := x) (m := 0x4082000A800C) (s := s) ?_ (fun hx => ?_); unfold x)
    | intro x
    | lift_lets -underBinder
    | split
    | exact rfl
    | (split <;> rfl)
    | clear_value *

theorem tryOpen_within {m : Nat} {s t : State} {n ch proto : Nat} {f : Nat → State → State} (h0 : Within m s t)
    (hf : ∀ i u, Within m s u → Within m s (f i u)) (hm : 0x20000 ||| m = m) : Within m s (t.tryOpen n ch proto f) := by
  unfold State.tryOpen
  split
  · have h1 := (openCtx_within t n ch proto false).step h0 hm
    dsimp only
    split
    · exact hf _ _ h1
    · exact h1
  · exact h0

theorem takeSyn_within (s : State) (i : Nat) :
    Within 0x20008 s (State.takeSyn s i) := by
  have h0 := Within.refl 0x20008 s
  unfold State.takeSyn
  try lift_lets -underBinder
  repeat' first
    | with_reducible assumption
    | with_reducible refine Within.ite ?_ ?_
    | with_reducible refine (tcpSend_within _ _ _ _ _ _ _).step ?_ rfl
    | with_reducible refine (modCtx_within _ _ _).step ?_ rfl
    | with_reducible refine Within.foldl _ ?_ ?_
    | (intro (x : State); refine Within.cut (x := x) (m := 0x20008) (s := s) ?_ (fun hx => ?_); unfold x)
    | intro x
    | lift_lets -underBinder
    | split
    | exact rfl
    | (split <;> rfl)
    | clear_value *

theorem viewNew_within (s : State) (n ch : Nat) (v : DroView) :
    Within 0x20008 s (State.viewNew s n ch v) := by
  have h0 := Within.refl 0x20008 s
  unfold State.viewNew
  try lift_lets -underBinder
  repeat' first
    | with_reducible assumption
    | with_reducible refine Within.ite ?_ ?_
    | with_reducible refine tryOpen_within ?_ ?_ rfl
    | with_reducible refine (sdpReply_within _ _ _ _).step ?_ rfl
    | with_reducible refine (modCtx_within _ _ _).step ?_ rfl
    | with_reducible refine (takeSyn_within _ _).step ?_ rfl
    | with_reducible refine (sendRst_within _ _ _).step ?_ rfl
    | with_reducible refine Within.foldl _ ?_ ?_
    | (intro (x : State); refine Within.cut (x := x) (m := 0x20008) (s := s) ?_ (fun hx => ?_); unfold x)
    | intro x
    | lift_lets -underBinder
    | split
    | exact rfl
    | (split <;> rfl)
    | clear_value *

theorem viewCtx_within (s : State) (i n ch : Nat) (v : DroView) (arr : Nat) :
    Within 0x4082000A800C s (State.viewCtx s i n ch v arr) := by
  have h0 := Within.refl 0x4082000A800C s
  unfold State.viewCtx
  try lift_lets -underBinder
  repeat' first
    | with_reducible assumption
    | with_reducible refine Within.ite ?_ ?_
    | with_reducible refine (sdpReply_within _ _ _ _).step ?_ rfl
    | with_reducible refine (modCtx_within _ _ _).step ?_ rfl
    | with_reducible refine (takeSyn_within _ _).step ?_ rfl
    | with_reducible refine (sendRst_within _ _ _).step ?_ rfl
    | with_reducible refine (tlsHello_within _ _ _).step ?_ rfl
    | with_reducible refine (droMessage_within _ _ _ _).step ?_ rfl
    | with_reducible refine (endCtx_within _ _ _ _).step ?_ rfl
    | with_reducible refine Within.foldl _ ?_ ?_
    | (intro (x : State); refine Within.cut (x := x) (m := 0x4082000A800C) (s := s) ?_ (fun hx => ?_); unfold x)
    | intro x
    | lift_lets -underBinder
    | split
    | exact rfl
    | (split <;> rfl)
    | clear_value *

theorem viewCan_within (s : State) (n : Nat) (raw : List Nat) (v : DroView) (arr : Nat) :
    Within 0x4082000A800C s (State.viewCan s n raw v arr) := by
  have h0 := Within.refl 0x4082000A800C s
  unfold State.viewCan
  try lift_lets -underBinder
  repeat' first
    | with_reducible assumption
    | with_reducible refine Within.ite ?_ ?_
    | with_reducible refine tryOpen_within ?_ ?_ rfl
    | with_reducible refine (droMessage_within _ _ _ _).step ?_ rfl
    | with_reducible refine (opened_within _ _).step ?_ rfl
    | with_reducible refine (endCtx_within _ _ _ _).step ?_ rfl
    | with_reducible refine Within.foldl _ ?_ ?_
    | (intro (x : State); refine Within.cut (x := x) (m := 0x4082000A800C) (s := s) ?_ (fun hx => ?_); unfold x)
    | intro x
    | lift_lets -underBinder
    | split
    | exact rfl
    | (split <;> rfl)
    | clear_value *

theorem droView_within (s : State) (n ch : Nat) (raw : List Nat) (v : DroView) (arr : Nat) :
    Within 0x4082000A800C s (State.droView s n ch raw v arr) := by
  have h0 := Within.refl 0x4082000A800C s
  unfold State.droView
  try lift_lets -underBinder
  repeat' first
    | with_reducible assumption
    | with_reducible refine Within.ite ?_ ?_
    | with_reducible refine (viewCan_within _ _ _ _ _).step ?_ rfl
    | with_reducible refine (viewNew_within _ _ _ _).step ?_ rfl
    | with_reducible refine (viewCtx_within _ _ _ _ _ _).step ?_ rfl
    | with_reducible refine Within.foldl _ ?_ ?_
    | (intro (x : State); refine Within.cut (x := x) (m := 0x4082000A800C) (s := s) ?_ (fun hx => ?_); unfold x)
    | intro x
    | lift_lets -underBinder
    | split
    | exact rfl
    | (split <;> rfl)
    | clear_value *

theorem execDroMessageReceive_within (n : Nat) (v : DroView) (s : State) :
    ∃ t, execDroMessageReceive n v s = .next t ∧ Within 0x4082000A800C s t := by
  refine ⟨_, rfl, ?_⟩
  have h0 := Within.refl 0x4082000A800C s
  try lift_lets -underBinder
  repeat' first
    | with_reducible assumption
    | with_reducible refine Within.ite ?_ ?_
    | with_reducible refine (resided_within _ _).step ?_ rfl
    | with_reducible refine (modLink_within _ _ _).step ?_ rfl
    | with_reducible refine (rxDrop_within _).step ?_ rfl
    | with_reducible refine (rxWrite_within _ _ _ _ _ _ _ _).step ?_ rfl
    | with_reducible refine (droView_within _ _ _ _ _ _).step ?_ rfl
    | with_reducible refine Within.foldl _ ?_ ?_
    | (intro (x : State); refine Within.cut (x := x) (m := 0x4082000A800C) (s := s) ?_ (fun hx => ?_); unfold x)
    | intro x
    | lift_lets -underBinder
    | split
    | exact rfl
    | (split <;> rfl)
    | clear_value *

theorem execDroTimerExpiry_within (i k : Nat) (s : State) :
    ∃ t, execDroTimerExpiry i k s = .next t ∧ Within 0x4082000A800C s t := by
  refine ⟨_, rfl, ?_⟩
  have h0 := Within.refl 0x4082000A800C s
  try lift_lets -underBinder
  repeat' first
    | with_reducible assumption
    | with_reducible refine Within.ite ?_ ?_
    | with_reducible refine (droEvent_within _ _ _ _ _ _).step ?_ rfl
    | with_reducible refine (modCtx_within _ _ _).step ?_ rfl
    | with_reducible refine Within.foldl _ ?_ ?_
    | (intro (x : State); refine Within.cut (x := x) (m := 0x4082000A800C) (s := s) ?_ (fun hx => ?_); unfold x)
    | intro x
    | lift_lets -underBinder
    | split
    | exact rfl
    | (split <;> rfl)
    | clear_value *

theorem execDroStallResult_within (i code : Nat) (s : State) :
    ∃ t, execDroStallResult i code s = .next t ∧ Within 0x4082000A800C s t := by
  refine ⟨_, rfl, ?_⟩
  have h0 := Within.refl 0x4082000A800C s
  try lift_lets -underBinder
  repeat' first
    | with_reducible assumption
    | with_reducible refine Within.ite ?_ ?_
    | with_reducible refine (droEvent_within _ _ _ _ _ _).step ?_ rfl
    | with_reducible refine (endCtx_within _ _ _ _).step ?_ rfl
    | with_reducible refine Within.foldl _ ?_ ?_
    | (intro (x : State); refine Within.cut (x := x) (m := 0x4082000A800C) (s := s) ?_ (fun hx => ?_); unfold x)
    | intro x
    | lift_lets -underBinder
    | split
    | exact rfl
    | (split <;> rfl)
    | clear_value *

theorem execTcpRetransmitTimeout_within (i : Nat) (s : State) :
    ∃ t, execTcpRetransmitTimeout i s = .next t ∧ Within 0x4082000A800C s t := by
  refine ⟨_, rfl, ?_⟩
  have h0 := Within.refl 0x4082000A800C s
  try lift_lets -underBinder
  repeat' first
    | with_reducible assumption
    | with_reducible refine Within.ite ?_ ?_
    | with_reducible refine (endCtx_within _ _ _ _).step ?_ rfl
    | with_reducible refine (modCtx_within _ _ _).step ?_ rfl
    | with_reducible refine (tcpSend_within _ _ _ _ _ _ _).step ?_ rfl
    | with_reducible refine Within.foldl _ ?_ ?_
    | (intro (x : State); refine Within.cut (x := x) (m := 0x4082000A800C) (s := s) ?_ (fun hx => ?_); unfold x)
    | intro x
    | lift_lets -underBinder
    | split
    | exact rfl
    | (split <;> rfl)
    | clear_value *

theorem execLingerExpiry_within (i : Nat) (s : State) :
    ∃ t, execLingerExpiry i s = .next t ∧ Within 0x20000 s t := by
  refine ⟨_, rfl, ?_⟩
  have h0 := Within.refl 0x20000 s
  try lift_lets -underBinder
  repeat' first
    | with_reducible assumption
    | with_reducible refine Within.ite ?_ ?_
    | with_reducible refine (freeCtx_within _ _).step ?_ rfl
    | with_reducible refine Within.foldl _ ?_ ?_
    | (intro (x : State); refine Within.cut (x := x) (m := 0x20000) (s := s) ?_ (fun hx => ?_); unfold x)
    | intro x
    | lift_lets -underBinder
    | split
    | exact rfl
    | (split <;> rfl)
    | clear_value *

theorem lookDone_within (s : State) (i : Nat) (uncorr : Bool) :
    Within 0x4082000A800C s (State.lookDone s i uncorr) := by
  have h0 := Within.refl 0x4082000A800C s
  unfold State.lookDone
  try lift_lets -underBinder
  repeat' first
    | with_reducible assumption
    | with_reducible refine Within.ite ?_ ?_
    | with_reducible refine Within.ite2 ?_ ?_
    | with_reducible refine (lookupNow_within _ _ _).step ?_ rfl
    | with_reducible refine (decideList_within _ _ _ _).step ?_ rfl
    | with_reducible refine (modCtx_within _ _ _).step ?_ rfl
    | with_reducible refine (finish_within _ _ _ _ _ _).step ?_ rfl
    | with_reducible refine Within.foldl _ ?_ ?_
    | with_reducible refine Within.foldl2 _ ?_ ?_
    | (intro (x : State); refine Within.cut (x := x) (m := 0x4082000A800C) (s := s) ?_ (fun hx => ?_); unfold x)
    | intro x
    | lift_lets -underBinder
    | split
    | exact rfl
    | (split <;> rfl)
    | clear_value *

theorem execAuthLookupDone_within (i : Nat) (uncorr : Bool) (s : State) :
    ∃ t, execAuthLookupDone i uncorr s = .next t ∧ Within 0x4082000A800C s t := by
  refine ⟨_, rfl, ?_⟩
  have h0 := Within.refl 0x4082000A800C s
  try lift_lets -underBinder
  repeat' first
    | with_reducible assumption
    | with_reducible refine Within.ite ?_ ?_
    | with_reducible refine (lookPlaces_within _).step ?_ rfl
    | with_reducible refine (lookDone_within _ _ _).step ?_ rfl
    | with_reducible refine Within.foldl _ ?_ ?_
    | (intro (x : State); refine Within.cut (x := x) (m := 0x4082000A800C) (s := s) ?_ (fun hx => ?_); unfold x)
    | intro x
    | lift_lets -underBinder
    | split
    | exact rfl
    | (split <;> rfl)
    | clear_value *

theorem execAuthHostTimeout_within (i : Nat) (s : State) :
    ∃ t, execAuthHostTimeout i s = .next t ∧ Within 0x4082000A800C s t := by
  refine ⟨_, rfl, ?_⟩
  have h0 := Within.refl 0x4082000A800C s
  try lift_lets -underBinder
  repeat' first
    | with_reducible assumption
    | with_reducible refine Within.ite ?_ ?_
    | with_reducible refine (decideList_within _ _ _ _).step ?_ rfl
    | with_reducible refine (lookAsk_within _ _ _).step ?_ rfl
    | with_reducible refine (modCtx_within _ _ _).step ?_ rfl
    | with_reducible refine (refuse_within _ _ _).step ?_ rfl
    | with_reducible refine Within.foldl _ ?_ ?_
    | (intro (x : State); refine Within.cut (x := x) (m := 0x4082000A800C) (s := s) ?_ (fun hx => ?_); unfold x)
    | intro x
    | lift_lets -underBinder
    | split
    | exact rfl
    | (split <;> rfl)
    | clear_value *

theorem execSessionAuthorize_within (p tag : Nat) (data : List Nat) (s : State) :
    ∃ t, execSessionAuthorize p tag data s = .next t ∧ Within 0x4082000A800C s t := by
  refine ⟨_, rfl, ?_⟩
  have h0 := Within.refl 0x4082000A800C s
  try lift_lets -underBinder
  repeat' first
    | with_reducible assumption
    | with_reducible refine Within.ite ?_ ?_
    | with_reducible refine take_within ?_ ?_ rfl
    | with_reducible refine (finish_within _ _ _ _ _ _).step ?_ rfl
    | with_reducible refine (accept_within _ _ _ _ _ _).step ?_ rfl
    | with_reducible refine (refuse_within _ _ _).step ?_ rfl
    | with_reducible refine (lookAsk_within _ _ _).step ?_ rfl
    | with_reducible refine Within.foldl _ ?_ ?_
    | (intro (x : State); refine Within.cut (x := x) (m := 0x4082000A800C) (s := s) ?_ (fun hx => ?_); unfold x)
    | intro x
    | lift_lets -underBinder
    | split
    | exact rfl
    | (split <;> rfl)
    | clear_value *

theorem execSessionStop_within (p tag : Nat) (s : State) :
    ∃ t, execSessionStop p tag s = .next t ∧ Within 0x4082000A800C s t := by
  refine ⟨_, rfl, ?_⟩
  have h0 := Within.refl 0x4082000A800C s
  try lift_lets -underBinder
  repeat' first
    | with_reducible assumption
    | with_reducible refine Within.ite ?_ ?_
    | with_reducible refine take_within ?_ ?_ rfl
    | with_reducible refine (finish_within _ _ _ _ _ _).step ?_ rfl
    | with_reducible refine (modCtx_within _ _ _).step ?_ rfl
    | with_reducible refine (endCtx_within _ _ _ _).step ?_ rfl
    | with_reducible refine (startTimer_within _ _ _).step ?_ rfl
    | with_reducible refine (droSend_within _ _ _).step ?_ rfl
    | with_reducible refine Within.foldl _ ?_ ?_
    | (intro (x : State); refine Within.cut (x := x) (m := 0x4082000A800C) (s := s) ?_ (fun hx => ?_); unfold x)
    | intro x
    | lift_lets -underBinder
    | split
    | exact rfl
    | (split <;> rfl)
    | clear_value *

theorem execSessionQuery_within (p tag : Nat) (s : State) :
    ∃ t, execSessionQuery p tag s = .next t ∧ Within 0x408200080004 s t := by
  refine ⟨_, rfl, ?_⟩
  have h0 := Within.refl 0x408200080004 s
  try lift_lets -underBinder
  repeat' first
    | with_reducible assumption
    | with_reducible refine Within.ite ?_ ?_
    | with_reducible refine take_within ?_ ?_ rfl
    | with_reducible refine (finish_within _ _ _ _ _ _).step ?_ rfl
    | with_reducible refine (finishBuf_within _ _ _ _).step ?_ rfl
    | with_reducible refine Within.foldl _ ?_ ?_
    | (intro (x : State); refine Within.cut (x := x) (m := 0x408200080004) (s := s) ?_ (fun hx => ?_); unfold x)
    | intro x
    | lift_lets -underBinder
    | split
    | exact rfl
    | (split <;> rfl)
    | clear_value *

theorem control_within (s : State) (p : Nat) (d : Desc) (data : List Nat) :
    Within 0x4082000A8004 s (State.control s p d data) := by
  have h0 := Within.refl 0x4082000A8004 s
  unfold State.control
  try lift_lets -underBinder
  repeat' first
    | with_reducible assumption
    | with_reducible refine Within.ite ?_ ?_
    | with_reducible refine Within.ite2 ?_ ?_
    | with_reducible refine (finish_within _ _ _ _ _ _).step ?_ rfl
    | with_reducible refine (openCtx_within _ _ _ _ _).step ?_ rfl
    | with_reducible refine (modCtx_within _ _ _).step ?_ rfl
    | with_reducible refine (opened_within _ _).step ?_ rfl
    | with_reducible refine (endCtx_within _ _ _ _).step ?_ rfl
    | with_reducible refine Within.foldl _ ?_ ?_
    | with_reducible refine Within.foldl2 _ ?_ ?_
    | (intro (x : State); refine Within.cut (x := x) (m := 0x4082000A8004) (s := s) ?_ (fun hx => ?_); unfold x)
    | intro x
    | lift_lets -underBinder
    | split
    | exact rfl
    | (split <;> rfl)
    | clear_value *

theorem execTunnelSend_within (p tag : Nat) (data : List Nat) (s : State) :
    ∃ t, execTunnelSend p tag data s = .next t ∧ Within 0x4082000A800C s t := by
  refine ⟨_, rfl, ?_⟩
  have h0 := Within.refl 0x4082000A800C s
  try lift_lets -underBinder
  repeat' first
    | with_reducible assumption
    | with_reducible refine Within.ite ?_ ?_
    | with_reducible refine take_within ?_ ?_ rfl
    | with_reducible refine (modDro_within _ _).step ?_ rfl
    | with_reducible refine (finish_within _ _ _ _ _ _).step ?_ rfl
    | with_reducible refine (control_within _ _ _ _).step ?_ rfl
    | with_reducible refine (tunSend_within _ _ _ _).step ?_ rfl
    | with_reducible refine (modCtx_within _ _ _).step ?_ rfl
    | with_reducible refine (droSend_within _ _ _).step ?_ rfl
    | with_reducible refine Within.foldl _ ?_ ?_
    | (intro (x : State); refine Within.cut (x := x) (m := 0x4082000A800C) (s := s) ?_ (fun hx => ?_); unfold x)
    | intro x
    | lift_lets -underBinder
    | split
    | exact rfl
    | (split <;> rfl)
    | clear_value *

theorem execAllowLookup_within (p tag : Nat) (uncorr : Bool) (s : State) :
    ∃ t, execAllowLookup p tag uncorr s = .next t ∧ Within 0x4082000A0004 s t := by
  refine ⟨_, rfl, ?_⟩
  have h0 := Within.refl 0x4082000A0004 s
  try lift_lets -underBinder
  repeat' first
    | with_reducible assumption
    | with_reducible refine Within.ite ?_ ?_
    | with_reducible refine take_within ?_ ?_ rfl
    | with_reducible refine (lookPlaces_within _).step ?_ rfl
    | with_reducible refine (modDro_within _ _).step ?_ rfl
    | with_reducible refine Within.foldl _ ?_ ?_
    | (intro (x : State); refine Within.cut (x := x) (m := 0x4082000A0004) (s := s) ?_ (fun hx => ?_); unfold x)
    | intro x
    | lift_lets -underBinder
    | split
    | exact rfl
    | (split <;> rfl)
    | clear_value *

theorem modOverlay_within (s : State) (f : Overlay → Overlay) :
    Within 0x20000 s (State.modOverlay s f) := by
  have h0 := Within.refl 0x20000 s
  unfold State.modOverlay
  try lift_lets -underBinder
  repeat' first
    | with_reducible assumption
    | with_reducible refine Within.ite ?_ ?_
    | with_reducible refine (modDro_within _ _).step ?_ rfl
    | with_reducible refine Within.foldl _ ?_ ?_
    | (intro (x : State); refine Within.cut (x := x) (m := 0x20000) (s := s) ?_ (fun hx => ?_); unfold x)
    | intro x
    | lift_lets -underBinder
    | split
    | exact rfl
    | (split <;> rfl)
    | clear_value *

theorem execAllowMergeLeaf_within (s : State) :
    ∃ t, execAllowMergeLeaf s = .next t ∧ Within 0x4000000A0000 s t := by
  refine ⟨_, rfl, ?_⟩
  have h0 := Within.refl 0x4000000A0000 s
  try lift_lets -underBinder
  repeat' first
    | with_reducible assumption
    | with_reducible refine Within.ite ?_ ?_
    | with_reducible refine Within.ite2 ?_ ?_
    | with_reducible refine (tryStore_within _ _ _ _).step ?_ rfl
    | with_reducible refine (modOverlay_within _ _).step ?_ rfl
    | with_reducible refine Within.foldl _ ?_ ?_
    | with_reducible refine Within.foldl2 _ ?_ ?_
    | (intro (x : State); refine Within.cut (x := x) (m := 0x4000000A0000) (s := s) ?_ (fun hx => ?_); unfold x)
    | intro x
    | lift_lets -underBinder
    | split
    | exact rfl
    | (split <;> rfl)
    | clear_value *

theorem leafDurable_within (s : State) :
    Within 0x4000000A0000 s (State.leafDurable s) := by
  have h0 := Within.refl 0x4000000A0000 s
  unfold State.leafDurable
  try lift_lets -underBinder
  repeat' first
    | with_reducible assumption
    | with_reducible refine Within.ite ?_ ?_
    | with_reducible refine Within.ite2 ?_ ?_
    | with_reducible refine (modOverlay_within _ _).step ?_ rfl
    | with_reducible refine (tryStore_within _ _ _ _).step ?_ rfl
    | with_reducible refine Within.foldl _ ?_ ?_
    | with_reducible refine Within.foldl2 _ ?_ ?_
    | (intro (x : State); refine Within.cut (x := x) (m := 0x4000000A0000) (s := s) ?_ (fun hx => ?_); unfold x)
    | intro x
    | lift_lets -underBinder
    | split
    | exact rfl
    | (split <;> rfl)
    | clear_value *

theorem leafIdxDurable_within (s : State) :
    Within 0x4082000A0004 s (State.leafIdxDurable s) := by
  have h0 := Within.refl 0x4082000A0004 s
  unfold State.leafIdxDurable
  try lift_lets -underBinder
  repeat' first
    | with_reducible assumption
    | with_reducible refine Within.ite ?_ ?_
    | with_reducible refine (modDro_within _ _).step ?_ rfl
    | with_reducible refine (modOverlay_within _ _).step ?_ rfl
    | with_reducible refine Within.set 7 ?_ ?_ rfl
    | with_reducible refine (raise_within _ _ _ _ _).step ?_ rfl
    | with_reducible refine Within.foldl _ ?_ ?_
    | (intro (x : State); refine Within.cut (x := x) (m := 0x4082000A0004) (s := s) ?_ (fun hx => ?_); unfold x)
    | intro x
    | lift_lets -underBinder
    | split
    | exact rfl
    | (split <;> rfl)
    | clear_value *

theorem rxCfgWrite_within (s : State) (p : Nat) (dro : Bool) (val : Nat) :
    Within 0xFFFFFFFFFFFFFFFFFFFFFFFFFFFFFFFFFFFFFFFFFFFFFFFFFFFFFFFFFFFFFFFF00080004 s (State.rxCfgWrite s p dro val) := by
  have h0 := Within.refl 0xFFFFFFFFFFFFFFFFFFFFFFFFFFFFFFFFFFFFFFFFFFFFFFFFFFFFFFFFFFFFFFFF00080004 s
  unfold State.rxCfgWrite
  try lift_lets -underBinder
  repeat' first
    | with_reducible assumption
    | with_reducible refine Within.ite ?_ ?_
    | with_reducible refine setupWrite_within ?_ ?_ rfl
    | with_reducible refine Within.set_all ?_ rfl
    | with_reducible refine Within.setB_all ?_ rfl
    | with_reducible refine (modPd_within _ _ _).step ?_ rfl
    | with_reducible refine Within.foldl _ ?_ ?_
    | (intro (x : State); refine Within.cut (x := x) (m := 0xFFFFFFFFFFFFFFFFFFFFFFFFFFFFFFFFFFFFFFFFFFFFFFFFFFFFFFFFFFFFFFFF00080004) (s := s) ?_ (fun hx => ?_); unfold x)
    | intro x
    | lift_lets -underBinder
    | split
    | exact rfl
    | (split <;> rfl)
    | clear_value *

theorem execDroRxEnableWrite_within (p val : Nat) (s : State) :
    ∃ t, execDroRxEnableWrite p val s = .next t ∧ Within 0xFFFFFFFFFFFFFFFFFFFFFFFFFFFFFFFFFFFFFFFFFFFFFFFFFFFFFFFFFFFFFFFF00080004 s t := by
  refine ⟨_, rfl, ?_⟩
  have h0 := Within.refl 0xFFFFFFFFFFFFFFFFFFFFFFFFFFFFFFFFFFFFFFFFFFFFFFFFFFFFFFFFFFFFFFFF00080004 s
  try lift_lets -underBinder
  repeat' first
    | with_reducible assumption
    | with_reducible refine Within.ite ?_ ?_
    | with_reducible refine (rxCfgWrite_within _ _ _ _).step ?_ rfl
    | with_reducible refine Within.foldl _ ?_ ?_
    | (intro (x : State); refine Within.cut (x := x) (m := 0xFFFFFFFFFFFFFFFFFFFFFFFFFFFFFFFFFFFFFFFFFFFFFFFFFFFFFFFFFFFFFFFF00080004) (s := s) ?_ (fun hx => ?_); unfold x)
    | intro x
    | lift_lets -underBinder
    | split
    | exact rfl
    | (split <;> rfl)
    | clear_value *

theorem execLaneSessionBind_within (n : Nat) (s : State) :
    ∃ t, execLaneSessionBind n s = .next t ∧ Within 0x28000 s t := by
  refine ⟨_, rfl, ?_⟩
  have h0 := Within.refl 0x28000 s
  try lift_lets -underBinder
  repeat' first
    | with_reducible assumption
    | with_reducible refine Within.ite ?_ ?_
    | with_reducible refine (modMet_within _ _ _).step ?_ rfl
    | with_reducible refine (modCtx_within _ _ _).step ?_ rfl
    | with_reducible refine Within.foldl _ ?_ ?_
    | (intro (x : State); refine Within.cut (x := x) (m := 0x28000) (s := s) ?_ (fun hx => ?_); unfold x)
    | intro x
    | lift_lets -underBinder
    | split
    | exact rfl
    | (split <;> rfl)
    | clear_value *

theorem execSessionMeteringOpen_within (n : Nat) (s : State) :
    ∃ t, execSessionMeteringOpen n s = .next t ∧ Within 0x40A2000A800C s t := by
  refine ⟨_, rfl, ?_⟩
  have h0 := Within.refl 0x40A2000A800C s
  try lift_lets -underBinder
  repeat' first
    | with_reducible assumption
    | with_reducible refine Within.ite ?_ ?_
    | with_reducible refine (modMet_within _ _ _).step ?_ rfl
    | with_reducible refine (refuse_within _ _ _).step ?_ rfl
    | with_reducible refine (addSplit_within _ _ _ _).step ?_ rfl
    | with_reducible refine (modCtx_within _ _ _).step ?_ rfl
    | with_reducible refine Within.foldl _ ?_ ?_
    | (intro (x : State); refine Within.cut (x := x) (m := 0x40A2000A800C) (s := s) ?_ (fun hx => ?_); unfold x)
    | intro x
    | lift_lets -underBinder
    | split
    | exact rfl
    | (split <;> rfl)
    | clear_value *

theorem execSessionMeteringClose_within (n : Nat) (s : State) :
    ∃ t, execSessionMeteringClose n s = .next t ∧ Within 0x4022000A8004 s t := by
  refine ⟨_, rfl, ?_⟩
  have h0 := Within.refl 0x4022000A8004 s
  try lift_lets -underBinder
  repeat' first
    | with_reducible assumption
    | with_reducible refine Within.ite ?_ ?_
    | with_reducible refine (addSplit_within _ _ _ _).step ?_ rfl
    | with_reducible refine (modMet_within _ _ _).step ?_ rfl
    | with_reducible refine (toLinger_within _ _).step ?_ rfl
    | with_reducible refine Within.foldl _ ?_ ?_
    | (intro (x : State); refine Within.cut (x := x) (m := 0x4022000A8004) (s := s) ?_ (fun hx => ?_); unfold x)
    | intro x
    | lift_lets -underBinder
    | split
    | exact rfl
    | (split <;> rfl)
    | clear_value *

end Sys2Proof.Laws
end

