-- ==== Sys2Proof/Laws/WithinHayloft.lean ====
section
/-!
SUPPORT. What the operations of Machine/Hayloft.lean may touch.
-/
namespace Sys2Proof.Laws

open Sys2Proof.Machine

theorem uncorrectable_within (s : State) (region page : Nat) (lost : Bool) :
    Within 0x400200080004 s (State.uncorrectable s region page lost) := by
  have h0 := Within.refl 0x400200080004 s
  unfold State.uncorrectable
  try lift_lets -underBinder
  repeat' first
    | with_reducible assumption
    | with_reducible refine Within.ite ?_ ?_
    | with_reducible refine Within.incSat 14 ?_ ?_ rfl
    | with_reducible refine Within.setB 14 ?_ ?_ rfl
    | with_reducible refine (raise_within _ _ _ _ _).step ?_ rfl
    | with_reducible refine Within.foldl _ ?_ ?_
    | (intro (x : State); refine Within.cut (x := x) (m := 0x400200080004) (s := s) ?_ (fun hx => ?_); unfold x)
    | intro x
    | lift_lets -underBinder
    | split
    | exact rfl
    | (split <;> rfl)
    | clear_value *

theorem execHostRead_within (p tag : Nat) (bad : List Nat) (s : State) :
    ∃ t, execHostRead p tag bad s = .next t ∧ Within 0x408200080004 s t := by
  refine ⟨_, rfl, ?_⟩
  have h0 := Within.refl 0x408200080004 s
  try lift_lets -underBinder
  repeat' first
    | with_reducible assumption
    | with_reducible refine Within.ite ?_ ?_
    | with_reducible refine take_within ?_ ?_ rfl
    | with_reducible refine (finish_within _ _ _ _ _ _).step ?_ rfl
    | with_reducible refine (uncorrectable_within _ _ _ _).step ?_ rfl
    | with_reducible refine (modHay_within _ _ ?_).step ?_ rfl
    | exact fun _ => rfl
    | with_reducible refine (finishBuf_within _ _ _ _).step ?_ rfl
    | with_reducible refine Within.foldl _ ?_ ?_
    | (intro (x : State); refine Within.cut (x := x) (m := 0x408200080004) (s := s) ?_ (fun hx => ?_); unfold x)
    | intro x
    | lift_lets -underBinder
    | split
    | exact rfl
    | (split <;> rfl)
    | clear_value *

theorem modWork_within (s : State) (id : Nat) (f : Work → Work) :
    Within 0x80000 s (State.modWork s id f) := by
  have h0 := Within.refl 0x80000 s
  unfold State.modWork
  try lift_lets -underBinder
  repeat' first
    | with_reducible assumption
    | with_reducible refine Within.ite ?_ ?_
    | with_reducible refine (modHay_within _ _ ?_).step ?_ rfl
    | exact fun _ => rfl
    | with_reducible refine Within.foldl _ ?_ ?_
    | (intro (x : State); refine Within.cut (x := x) (m := 0x80000) (s := s) ?_ (fun hx => ?_); unfold x)
    | intro x
    | lift_lets -underBinder
    | split
    | exact rfl
    | (split <;> rfl)
    | clear_value *

theorem workStart_within (s : State) (id : Nat) :
    Within 0x400000080000 s (State.workStart s id) := by
  have h0 := Within.refl 0x400000080000 s
  unfold State.workStart
  try lift_lets -underBinder
  repeat' first
    | with_reducible assumption
    | with_reducible refine Within.ite ?_ ?_
    | with_reducible refine Within.ite2 ?_ ?_
    | with_reducible refine (tryStore_within _ _ _ _).step ?_ rfl
    | with_reducible refine (modWork_within _ _ _).step ?_ rfl
    | with_reducible refine Within.foldl _ ?_ ?_
    | with_reducible refine Within.foldl2 _ ?_ ?_
    | (intro (x : State); refine Within.cut (x := x) (m := 0x400000080000) (s := s) ?_ (fun hx => ?_); unfold x)
    | intro x
    | lift_lets -underBinder
    | split
    | exact rfl
    | (split <;> rfl)
    | clear_value *

theorem newWork_within (s : State) (kind : WorkKind) (pages : Nat) :
    Within 0x400000080000 s (State.newWork s kind pages) := by
  have h0 := Within.refl 0x400000080000 s
  unfold State.newWork
  try lift_lets -underBinder
  repeat' first
    | with_reducible assumption
    | with_reducible refine Within.ite ?_ ?_
    | with_reducible refine (modHay_within _ _ ?_).step ?_ rfl
    | exact fun _ => rfl
    | with_reducible refine (workStart_within _ _).step ?_ rfl
    | with_reducible refine Within.foldl _ ?_ ?_
    | (intro (x : State); refine Within.cut (x := x) (m := 0x400000080000) (s := s) ?_ (fun hx => ?_); unfold x)
    | intro x
    | lift_lets -underBinder
    | split
    | exact rfl
    | (split <;> rfl)
    | clear_value *

theorem retryWork_within (s : State) :
    Within 0x400000080000 s (State.retryWork s) := by
  have h0 := Within.refl 0x400000080000 s
  unfold State.retryWork
  try lift_lets -underBinder
  repeat' first
    | with_reducible assumption
    | with_reducible refine Within.ite ?_ ?_
    | with_reducible refine Within.forAll ?_ ?_
    | with_reducible refine (workStart_within _ _).step ?_ rfl
    | with_reducible refine Within.foldl _ ?_ ?_
    | (intro (x : State); refine Within.cut (x := x) (m := 0x400000080000) (s := s) ?_ (fun hx => ?_); unfold x)
    | intro x
    | lift_lets -underBinder
    | split
    | exact rfl
    | (split <;> rfl)
    | clear_value *

theorem execHostWrite_within (p tag : Nat) (data : List Nat) (s : State) :
    ∃ t, execHostWrite p tag data s = .next t ∧ Within 0x408200080004 s t := by
  refine ⟨_, rfl, ?_⟩
  have h0 := Within.refl 0x408200080004 s
  try lift_lets -underBinder
  repeat' first
    | with_reducible assumption
    | with_reducible refine Within.ite ?_ ?_
    | with_reducible refine take_within ?_ ?_ rfl
    | with_reducible refine (finish_within _ _ _ _ _ _).step ?_ rfl
    | with_reducible refine (newWork_within _ _ _).step ?_ rfl
    | with_reducible refine Within.foldl _ ?_ ?_
    | (intro (x : State); refine Within.cut (x := x) (m := 0x408200080004) (s := s) ?_ (fun hx => ?_); unfold x)
    | intro x
    | lift_lets -underBinder
    | split
    | exact rfl
    | (split <;> rfl)
    | clear_value *

theorem execLogFetch_within (p tag : Nat) (s : State) :
    ∃ t, execLogFetch p tag s = .next t ∧ Within 0x408200080004 s t := by
  refine ⟨_, rfl, ?_⟩
  have h0 := Within.refl 0x408200080004 s
  try lift_lets -underBinder
  repeat' first
    | with_reducible assumption
    | with_reducible refine Within.ite ?_ ?_
    | with_reducible refine take_within ?_ ?_ rfl
    | with_reducible refine (finish_within _ _ _ _ _ _).step ?_ rfl
    | with_reducible refine Within.set 14 ?_ ?_ rfl
    | with_reducible refine (setRegion_within _ _ _).step ?_ rfl
    | with_reducible refine (bufWrite_within _ _ _ _).step ?_ rfl
    | with_reducible refine Within.foldl _ ?_ ?_
    | (intro (x : State); refine Within.cut (x := x) (m := 0x408200080004) (s := s) ?_ (fun hx => ?_); unfold x)
    | intro x
    | lift_lets -underBinder
    | split
    | exact rfl
    | (split <;> rfl)
    | clear_value *

theorem execHoldupMeasurementStart_within (s : State) :
    ∃ t, execHoldupMeasurementStart s = .next t ∧ Within 0x80000 s t := by
  refine ⟨_, rfl, ?_⟩
  have h0 := Within.refl 0x80000 s
  try lift_lets -underBinder
  repeat' first
    | with_reducible assumption
    | with_reducible refine Within.ite ?_ ?_
    | with_reducible refine (modHay_within _ _ ?_).step ?_ rfl
    | exact fun _ => rfl
    | with_reducible refine Within.foldl _ ?_ ?_
    | (intro (x : State); refine Within.cut (x := x) (m := 0x80000) (s := s) ?_ (fun hx => ?_); unfold x)
    | intro x
    | lift_lets -underBinder
    | split
    | exact rfl
    | (split <;> rfl)
    | clear_value *

theorem execHoldupMeasurementEnd_within (dv iStore : Nat) (s : State) :
    ∃ t, execHoldupMeasurementEnd dv iStore s = .next t ∧ Within 0x400000090000 s t := by
  refine ⟨_, rfl, ?_⟩
  have h0 := Within.refl 0x400000090000 s
  try lift_lets -underBinder
  repeat' first
    | with_reducible assumption
    | with_reducible refine Within.ite ?_ ?_
    | with_reducible refine (modHay_within _ _ ?_).step ?_ rfl
    | exact fun _ => rfl
    | with_reducible refine (seeFinal_within _).step ?_ rfl
    | with_reducible refine Within.setB 14 ?_ ?_ rfl
    | with_reducible refine Within.set 14 ?_ ?_ rfl
    | with_reducible refine Within.foldl _ ?_ ?_
    | (intro (x : State); refine Within.cut (x := x) (m := 0x400000090000) (s := s) ?_ (fun hx => ?_); unfold x)
    | intro x
    | lift_lets -underBinder
    | split
    | exact rfl
    | (split <;> rfl)
    | clear_value *

theorem execHoldupWeak_within (s : State) :
    ∃ t, execHoldupWeak s = .next t ∧ Within 0x400200080004 s t := by
  refine ⟨_, rfl, ?_⟩
  have h0 := Within.refl 0x400200080004 s
  try lift_lets -underBinder
  repeat' first
    | with_reducible assumption
    | with_reducible refine Within.ite ?_ ?_
    | with_reducible refine (raise_within _ _ _ _ _).step ?_ rfl
    | with_reducible refine Within.foldl _ ?_ ?_
    | (intro (x : State); refine Within.cut (x := x) (m := 0x400200080004) (s := s) ?_ (fun hx => ?_); unfold x)
    | intro x
    | lift_lets -underBinder
    | split
    | exact rfl
    | (split <;> rfl)
    | clear_value *

theorem execNandMigration_within (r : Nat) (s : State) :
    ∃ t, execNandMigration r s = .next t ∧ Within 0x40C200080004 s t := by
  refine ⟨_, rfl, ?_⟩
  have h0 := Within.refl 0x40C200080004 s
  try lift_lets -underBinder
  repeat' first
    | with_reducible assumption
    | with_reducible refine Within.ite ?_ ?_
    | with_reducible refine Within.ite2 ?_ ?_
    | with_reducible refine (tryStore_within _ _ _ _).step ?_ rfl
    | with_reducible refine (raiseFull_within _).step ?_ rfl
    | with_reducible refine (refreshHeld_within _).step ?_ rfl
    | with_reducible refine Within.foldl _ ?_ ?_
    | with_reducible refine Within.foldl2 _ ?_ ?_
    | (intro (x : State); refine Within.cut (x := x) (m := 0x40C200080004) (s := s) ?_ (fun hx => ?_); unfold x)
    | intro x
    | lift_lets -underBinder
    | split
    | exact rfl
    | (split <;> rfl)
    | clear_value *

theorem migrated_within (s : State) (r n : Nat) :
    Within 0x80000 s (State.migrated s r n) := by
  have h0 := Within.refl 0x80000 s
  unfold State.migrated
  try lift_lets -underBinder
  repeat' first
    | with_reducible assumption
    | with_reducible refine Within.ite ?_ ?_
    | with_reducible refine (setRegion_within _ _ _).step ?_ rfl
    | with_reducible refine Within.foldl _ ?_ ?_
    | (intro (x : State); refine Within.cut (x := x) (m := 0x80000) (s := s) ?_ (fun hx => ?_); unfold x)
    | intro x
    | lift_lets -underBinder
    | split
    | exact rfl
    | (split <;> rfl)
    | clear_value *

theorem erased_within (s : State) (r n : Nat) :
    Within 0x40C200080004 s (State.erased s r n) := by
  have h0 := Within.refl 0x40C200080004 s
  unfold State.erased
  try lift_lets -underBinder
  repeat' first
    | with_reducible assumption
    | with_reducible refine Within.ite ?_ ?_
    | with_reducible refine (refreshHeld_within _).step ?_ rfl
    | with_reducible refine (setRegion_within _ _ _).step ?_ rfl
    | with_reducible refine Within.foldl _ ?_ ?_
    | (intro (x : State); refine Within.cut (x := x) (m := 0x40C200080004) (s := s) ?_ (fun hx => ?_); unfold x)
    | intro x
    | lift_lets -underBinder
    | split
    | exact rfl
    | (split <;> rfl)
    | clear_value *

theorem execWearLevelMove_within (hi lo mean : Nat) (s : State) :
    ∃ t, execWearLevelMove hi lo mean s = .next t ∧ Within 0x400000080000 s t := by
  refine ⟨_, rfl, ?_⟩
  have h0 := Within.refl 0x400000080000 s
  try lift_lets -underBinder
  repeat' first
    | with_reducible assumption
    | with_reducible refine Within.ite ?_ ?_
    | with_reducible refine Within.ite2 ?_ ?_
    | with_reducible refine Within.set 14 ?_ ?_ rfl
    | with_reducible refine (tryStore_within _ _ _ _).step ?_ rfl
    | with_reducible refine Within.foldl _ ?_ ?_
    | with_reducible refine Within.foldl2 _ ?_ ?_
    | (intro (x : State); refine Within.cut (x := x) (m := 0x400000080000) (s := s) ?_ (fun hx => ?_); unfold x)
    | intro x
    | lift_lets -underBinder
    | split
    | exact rfl
    | (split <;> rfl)
    | clear_value *

theorem retireBlock_within (s : State) :
    Within 0x400200080004 s (State.retireBlock s) := by
  have h0 := Within.refl 0x400200080004 s
  unfold State.retireBlock
  try lift_lets -underBinder
  repeat' first
    | with_reducible assumption
    | with_reducible refine Within.ite ?_ ?_
    | with_reducible refine Within.set 14 ?_ ?_ rfl
    | with_reducible refine Within.incSat 14 ?_ ?_ rfl
    | with_reducible refine (raise_within _ _ _ _ _).step ?_ rfl
    | with_reducible refine Within.foldl _ ?_ ?_
    | (intro (x : State); refine Within.cut (x := x) (m := 0x400200080004) (s := s) ?_ (fun hx => ?_); unfold x)
    | intro x
    | lift_lets -underBinder
    | split
    | exact rfl
    | (split <;> rfl)
    | clear_value *

end Sys2Proof.Laws
end

