-- ==== Sys2Proof/Laws/WithinHltOps.lean ====
section
/-!
SUPPORT. What the operations of Machine/HltOps.lean may touch.
-/
namespace Sys2Proof.Laws

open Sys2Proof.Machine

theorem showLoops_within (s : State) :
    Within 0x100000000000 s (State.showLoops s) := by
  have h0 := Within.refl 0x100000000000 s
  unfold State.showLoops
  try lift_lets -underBinder
  repeat' first
    | with_reducible assumption
    | with_reducible refine Within.ite ?_ ?_
    | with_reducible refine Within.set 12 ?_ ?_ rfl
    | with_reducible refine Within.foldl _ ?_ ?_
    | (intro (x : State); refine Within.cut (x := x) (m := 0x100000000000) (s := s) ?_ (fun hx => ?_); unfold x)
    | intro x
    | lift_lets -underBinder
    | split
    | exact rfl
    | (split <;> rfl)
    | clear_value *

theorem actLoops_within (s : State) :
    Within 0x550200086A04 s (State.actLoops s) := by
  have h0 := Within.refl 0x550200086A04 s
  unfold State.actLoops
  try lift_lets -underBinder
  repeat' first
    | with_reducible assumption
    | with_reducible refine Within.ite ?_ ?_
    | with_reducible refine (refreshSafeOut_within _).step ?_ rfl
    | with_reducible refine (showLoops_within _).step ?_ rfl
    | with_reducible refine Within.setB 12 ?_ ?_ rfl
    | with_reducible refine (modHlt_within _ _).step ?_ rfl
    | with_reducible refine (harnessStop_within _).step ?_ rfl
    | with_reducible refine Within.forAll ?_ ?_
    | with_reducible refine (showBridge_within _ _).step ?_ rfl
    | with_reducible refine (lswDrop_within _ _).step ?_ rfl
    | with_reducible refine (lswUndrop_within _ _).step ?_ rfl
    | with_reducible refine Within.foldl _ ?_ ?_
    | (intro (x : State); refine Within.cut (x := x) (m := 0x550200086A04) (s := s) ?_ (fun hx => ?_); unfold x)
    | intro x
    | lift_lets -underBinder
    | split
    | exact rfl
    | (split <;> rfl)
    | clear_value *

theorem loopStops_within (s : State) (k : Nat) :
    Within 0x511200080034 s (State.loopStops s k) := by
  have h0 := Within.refl 0x511200080034 s
  unfold State.loopStops
  try lift_lets -underBinder
  repeat' first
    | with_reducible assumption
    | with_reducible refine Within.ite ?_ ?_
    | with_reducible refine Within.forAll ?_ ?_
    | with_reducible refine (stopStall_within _ _ _ _).step ?_ rfl
    | with_reducible refine Within.foldl _ ?_ ?_
    | (intro (x : State); refine Within.cut (x := x) (m := 0x511200080034) (s := s) ?_ (fun hx => ?_); unfold x)
    | intro x
    | lift_lets -underBinder
    | split
    | exact rfl
    | (split <;> rfl)
    | clear_value *

theorem loopEvent_within (s : State) (k what : Nat) :
    Within 0x400200080004 s (State.loopEvent s k what) := by
  have h0 := Within.refl 0x400200080004 s
  unfold State.loopEvent
  try lift_lets -underBinder
  repeat' first
    | with_reducible assumption
    | with_reducible refine Within.ite ?_ ?_
    | with_reducible refine (raise_within _ _ _ _ _).step ?_ rfl
    | with_reducible refine Within.foldl _ ?_ ?_
    | (intro (x : State); refine Within.cut (x := x) (m := 0x400200080004) (s := s) ?_ (fun hx => ?_); unfold x)
    | intro x
    | lift_lets -underBinder
    | split
    | exact rfl
    | (split <;> rfl)
    | clear_value *

theorem loopOpened_within (s : State) (k : Nat) :
    Within 0x551200086A34 s (State.loopOpened s k) := by
  have h0 := Within.refl 0x551200086A34 s
  unfold State.loopOpened
  try lift_lets -underBinder
  repeat' first
    | with_reducible assumption
    | with_reducible refine Within.ite ?_ ?_
    | with_reducible refine (loopEvent_within _ _ _).step ?_ rfl
    | with_reducible refine (actLoops_within _).step ?_ rfl
    | with_reducible refine (loopStops_within _ _).step ?_ rfl
    | with_reducible refine Within.setB 12 ?_ ?_ rfl
    | with_reducible refine (showLoops_within _).step ?_ rfl
    | with_reducible refine Within.foldl _ ?_ ?_
    | (intro (x : State); refine Within.cut (x := x) (m := 0x551200086A34) (s := s) ?_ (fun hx => ?_); unfold x)
    | intro x
    | lift_lets -underBinder
    | split
    | exact rfl
    | (split <;> rfl)
    | clear_value *

theorem rearm_within (s : State) (k : Nat) :
    Within 0x550200086A04 s (State.rearm s k) := by
  have h0 := Within.refl 0x550200086A04 s
  unfold State.rearm
  try lift_lets -underBinder
  repeat' first
    | with_reducible assumption
    | with_reducible refine Within.ite ?_ ?_
    | with_reducible refine (loopEvent_within _ _ _).step ?_ rfl
    | with_reducible refine (actLoops_within _).step ?_ rfl
    | with_reducible refine Within.setB 12 ?_ ?_ rfl
    | with_reducible refine Within.foldl _ ?_ ?_
    | (intro (x : State); refine Within.cut (x := x) (m := 0x550200086A04) (s := s) ?_ (fun hx => ?_); unfold x)
    | intro x
    | lift_lets -underBinder
    | split
    | exact rfl
    | (split <;> rfl)
    | clear_value *

theorem enterHaltSafe_within (s : State) (cause : Nat) :
    Within 0x551300086A34 s (State.enterHaltSafe s cause) := by
  have h0 := Within.refl 0x551300086A34 s
  unfold State.enterHaltSafe
  try lift_lets -underBinder
  repeat' first
    | with_reducible assumption
    | with_reducible refine Within.ite ?_ ?_
    | ((with_reducible refine Within.set 0 ?_ ?hw rfl); case hw => first | exact rfl | assumption | (split <;> rfl))
    | ((with_reducible refine Within.set 12 ?_ ?hw rfl); case hw => first | exact rfl | assumption | (split <;> rfl))
    | with_reducible refine Within.setB 12 ?_ ?_ rfl
    | with_reducible refine (actLoops_within _).step ?_ rfl
    | with_reducible refine (stopAll_within _ _ _).step ?_ rfl
    | with_reducible refine Within.setBit 0 ?_ ?_ rfl
    | with_reducible refine (raise_within _ _ _ _ _).step ?_ rfl
    | with_reducible refine Within.foldl _ ?_ ?_
    | (intro (x : State); refine Within.cut (x := x) (m := 0x551300086A34) (s := s) ?_ (fun hx => ?_); unfold x)
    | intro x
    | lift_lets -underBinder
    | split
    | exact rfl
    | (split <;> rfl)
    | clear_value *

theorem claimGpios_within (s : State) :
    Within 0x100000000 s (State.claimGpios s) := by
  have h0 := Within.refl 0x100000000 s
  unfold State.claimGpios
  try lift_lets -underBinder
  repeat' first
    | with_reducible assumption
    | with_reducible refine Within.ite ?_ ?_
    | with_reducible refine Within.set 0 ?_ ?_ rfl
    | with_reducible refine Within.foldl _ ?_ ?_
    | (intro (x : State); refine Within.cut (x := x) (m := 0x100000000) (s := s) ?_ (fun hx => ?_); unfold x)
    | intro x
    | lift_lets -underBinder
    | split
    | exact rfl
    | (split <;> rfl)
    | clear_value *

theorem applyMaps_within (s : State) :
    Within 0x551300086A34 s (State.applyMaps s) := by
  have h0 := Within.refl 0x551300086A34 s
  unfold State.applyMaps
  try lift_lets -underBinder
  repeat' first
    | with_reducible assumption
    | with_reducible refine Within.ite ?_ ?_
    | with_reducible refine (claimGpios_within _).step ?_ rfl
    | with_reducible refine (modHlt_within _ _).step ?_ rfl
    | with_reducible refine Within.forAll ?_ ?_
    | with_reducible refine (loopStops_within _ _).step ?_ rfl
    | with_reducible refine (actLoops_within _).step ?_ rfl
    | with_reducible refine Within.foldl _ ?_ ?_
    | (intro (x : State); refine Within.cut (x := x) (m := 0x551300086A34) (s := s) ?_ (fun hx => ?_); unfold x)
    | intro x
    | lift_lets -underBinder
    | split
    | exact rfl
    | (split <;> rfl)
    | clear_value *

end Sys2Proof.Laws
end

