-- ==== Sys2Proof/Laws/WithinPaddock.lean ====
section
/-!
SUPPORT. What the operations of Machine/Paddock.lean may touch.
-/
namespace Sys2Proof.Laws

open Sys2Proof.Machine

theorem pollRecord_within (s : State) (p : Nat) (d : Doorbell) :
    Within 0x400200080004 s (State.pollRecord s p d) := by
  have h0 := Within.refl 0x400200080004 s
  unfold State.pollRecord
  try lift_lets -underBinder
  repeat' first
    | with_reducible assumption
    | with_reducible refine Within.ite ?_ ?_
    | with_reducible refine (modPd_within _ _ _).step ?_ rfl
    | with_reducible refine (ringError_within _ _ _ _).step ?_ rfl
    | with_reducible refine (flush_within _ _).step ?_ rfl
    | with_reducible refine (eqLost_within _ _).step ?_ rfl
    | with_reducible refine Within.foldl _ ?_ ?_
    | (intro (x : State); refine Within.cut (x := x) (m := 0x400200080004) (s := s) ?_ (fun hx => ?_); unfold x)
    | intro x
    | lift_lets -underBinder
    | split
    | exact rfl
    | (split <;> rfl)
    | clear_value *

theorem countFetch_within (s : State) :
    Within 0x4 s (State.countFetch s) := by
  have h0 := Within.refl 0x4 s
  unfold State.countFetch
  try lift_lets -underBinder
  repeat' first
    | with_reducible assumption
    | with_reducible refine Within.ite ?_ ?_
    | with_reducible refine Within.foldl _ ?_ ?_
    | (intro (x : State); refine Within.cut (x := x) (m := 0x4) (s := s) ?_ (fun hx => ?_); unfold x)
    | intro x
    | lift_lets -underBinder
    | split
    | with_reducible refine Within.pdkUpd.step ?_ rfl
    | exact rfl
    | (split <;> rfl)
    | clear_value *

theorem fetchOne_within (s : State) (p i : Nat) (bytes : List Nat) :
    Within 0x400200080004 s (State.fetchOne s p i bytes) := by
  have h0 := Within.refl 0x400200080004 s
  unfold State.fetchOne
  try lift_lets -underBinder
  repeat' first
    | with_reducible assumption
    | with_reducible refine Within.ite ?_ ?_
    | with_reducible refine Within.inc 1 ?_ ?_ rfl
    | with_reducible refine (modPd_within _ _ _).step ?_ rfl
    | with_reducible refine (countFetch_within _).step ?_ rfl
    | with_reducible refine Within.set 1 ?_ ?_ rfl
    | with_reducible refine (completeD_within _ _ _ _ _ _).step ?_ rfl
    | with_reducible refine Within.foldl _ ?_ ?_
    | (intro (x : State); refine Within.cut (x := x) (m := 0x400200080004) (s := s) ?_ (fun hx => ?_); unfold x)
    | intro x
    | lift_lets -underBinder
    | split
    | exact rfl
    | (split <;> rfl)
    | clear_value *

theorem fetchSq_within (p i : Nat) (slots : List SqSlot) (k : Nat) (s : State) : Within 0x400200080004 s (fetchSq p i slots k s) := by
  induction k generalizing s with
  | zero => exact Within.refl _ s
  | succ k ih =>
    have h0 := Within.refl 0x400200080004 s
    unfold fetchSq
    try lift_lets -underBinder
    repeat' first
      | with_reducible assumption
      | with_reducible refine Within.ite ?_ ?_
      | with_reducible refine (ih _).step ?_ rfl
      | with_reducible refine (fetchOne_within _ _ _ _).step ?_ rfl
      | intro x
      | lift_lets -underBinder
      | split

theorem passSq_within (s : State) (p : Nat) (slots : List SqSlot) (i : Nat) :
    Within 0x400200080004 s (State.passSq s p slots i) := by
  have h0 := Within.refl 0x400200080004 s
  unfold State.passSq
  try lift_lets -underBinder
  repeat' first
    | with_reducible assumption
    | with_reducible refine Within.ite ?_ ?_
    | with_reducible refine (fetchSq_within _ _ _ _ _).step ?_ rfl
    | with_reducible refine (modPd_within _ _ _).step ?_ rfl
    | with_reducible refine (emit_within _ _).step ?_ (Nat.zero_or _)
    | with_reducible refine Within.foldl _ ?_ ?_
    | (intro (x : State); refine Within.cut (x := x) (m := 0x400200080004) (s := s) ?_ (fun hx => ?_); unfold x)
    | intro x
    | lift_lets -underBinder
    | split
    | exact rfl
    | (split <;> rfl)
    | clear_value *

theorem poll_within (s : State) (p : Nat) (which : Nat → Bool) (dbs : List Doorbell) (slots : List SqSlot) :
    Within 0x400200080004 s (State.poll s p which dbs slots) := by
  have h0 := Within.refl 0x400200080004 s
  unfold State.poll
  try lift_lets -underBinder
  repeat' first
    | with_reducible assumption
    | with_reducible refine Within.ite ?_ ?_
    | with_reducible refine (pollRecord_within _ _ _).step ?_ rfl
    | with_reducible refine (passSq_within _ _ _ _).step ?_ rfl
    | with_reducible refine Within.foldl _ ?_ ?_
    | (intro (x : State); refine Within.cut (x := x) (m := 0x400200080004) (s := s) ?_ (fun hx => ?_); unfold x)
    | intro x
    | lift_lets -underBinder
    | split
    | exact rfl
    | (split <;> rfl)
    | clear_value *

theorem execDoorbellPoll_within (p : Nat) (dbs : List Doorbell) (slots : List SqSlot) (s : State) :
    ∃ t, execDoorbellPoll p dbs slots s = .next t ∧ Within 0x400200080004 s t := by
  refine ⟨_, rfl, ?_⟩
  have h0 := Within.refl 0x400200080004 s
  try lift_lets -underBinder
  repeat' first
    | with_reducible assumption
    | with_reducible refine Within.ite ?_ ?_
    | with_reducible refine (poll_within _ _ _ _ _).step ?_ rfl
    | with_reducible refine Within.foldl _ ?_ ?_
    | (intro (x : State); refine Within.cut (x := x) (m := 0x400200080004) (s := s) ?_ (fun hx => ?_); unfold x)
    | intro x
    | lift_lets -underBinder
    | split
    | exact rfl
    | (split <;> rfl)
    | clear_value *

theorem execPdkNudge_within (p mask : Nat) (dbs : List Doorbell) (slots : List SqSlot) (s : State) :
    ∃ t, execPdkNudge p mask dbs slots s = .next t ∧ Within 0x400200080004 s t := by
  refine ⟨_, rfl, ?_⟩
  have h0 := Within.refl 0x400200080004 s
  try lift_lets -underBinder
  repeat' first
    | with_reducible assumption
    | with_reducible refine Within.ite ?_ ?_
    | with_reducible refine (poll_within _ _ _ _ _).step ?_ rfl
    | with_reducible refine Within.foldl _ ?_ ?_
    | (intro (x : State); refine Within.cut (x := x) (m := 0x400200080004) (s := s) ?_ (fun hx => ?_); unfold x)
    | intro x
    | lift_lets -underBinder
    | split
    | exact rfl
    | (split <;> rfl)
    | clear_value *

theorem execDescriptorStart_within (p tag : Nat) (s : State) :
    ∃ t, execDescriptorStart p tag s = .next t ∧ Within 0x400200880004 s t := by
  refine ⟨_, rfl, ?_⟩
  have h0 := Within.refl 0x400200880004 s
  try lift_lets -underBinder
  repeat' first
    | with_reducible assumption
    | with_reducible refine Within.ite ?_ ?_
    | with_reducible refine (completeD_within _ _ _ _ _ _).step ?_ rfl
    | with_reducible refine (modPd_within _ _ _).step ?_ rfl
    | with_reducible refine Within.foldl _ ?_ ?_
    | (intro (x : State); refine Within.cut (x := x) (m := 0x400200880004) (s := s) ?_ (fun hx => ?_); unfold x)
    | intro x
    | lift_lets -underBinder
    | split
    | with_reducible refine Within.startNumUpd.step ?_ rfl
    | exact rfl
    | (split <;> rfl)
    | clear_value *

theorem execNop_within (p tag : Nat) (s : State) :
    ∃ t, execNop p tag s = .next t ∧ Within 0x408200080004 s t := by
  refine ⟨_, rfl, ?_⟩
  have h0 := Within.refl 0x408200080004 s
  try lift_lets -underBinder
  repeat' first
    | with_reducible assumption
    | with_reducible refine Within.ite ?_ ?_
    | with_reducible refine take_within ?_ ?_ rfl
    | with_reducible refine (finish_within _ _ _ _ _ _).step ?_ rfl
    | with_reducible refine Within.foldl _ ?_ ?_
    | (intro (x : State); refine Within.cut (x := x) (m := 0x408200080004) (s := s) ?_ (fun hx => ?_); unfold x)
    | intro x
    | lift_lets -underBinder
    | split
    | exact rfl
    | (split <;> rfl)
    | clear_value *

theorem execInterruptCoalesceTimeout_within (p ring : Nat) (s : State) :
    ∃ t, execInterruptCoalesceTimeout p ring s = .next t ∧ Within 0x200000004 s t := by
  refine ⟨_, rfl, ?_⟩
  have h0 := Within.refl 0x200000004 s
  try lift_lets -underBinder
  repeat' first
    | with_reducible assumption
    | with_reducible refine Within.ite ?_ ?_
    | with_reducible refine (signal_within _ _ _).step ?_ rfl
    | with_reducible refine (modPd_within _ _ _).step ?_ rfl
    | with_reducible refine Within.foldl _ ?_ ?_
    | (intro (x : State); refine Within.cut (x := x) (m := 0x200000004) (s := s) ?_ (fun hx => ?_); unfold x)
    | intro x
    | lift_lets -underBinder
    | split
    | exact rfl
    | (split <;> rfl)
    | clear_value *

theorem execRingDmaError_within (p ring : Nat) (s : State) :
    ∃ t, execRingDmaError p ring s = .next t ∧ Within 0x400200080004 s t := by
  refine ⟨_, rfl, ?_⟩
  have h0 := Within.refl 0x400200080004 s
  try lift_lets -underBinder
  repeat' first
    | with_reducible assumption
    | with_reducible refine Within.ite ?_ ?_
    | with_reducible refine (ringError_within _ _ _ _).step ?_ rfl
    | with_reducible refine (modPd_within _ _ _).step ?_ rfl
    | with_reducible refine Within.foldl _ ?_ ?_
    | (intro (x : State); refine Within.cut (x := x) (m := 0x400200080004) (s := s) ?_ (fun hx => ?_); unfold x)
    | intro x
    | lift_lets -underBinder
    | split
    | exact rfl
    | (split <;> rfl)
    | clear_value *

theorem execBar0UnsupportedAccess_within (p : Nat) (s : State) :
    ∃ t, execBar0UnsupportedAccess p s = .next t ∧ Within 0x0 s t := by
  refine ⟨_, rfl, ?_⟩
  have h0 := Within.refl 0x0 s
  try lift_lets -underBinder
  repeat' first
    | with_reducible assumption
    | with_reducible refine Within.ite ?_ ?_
    | with_reducible refine (emit_within _ _).step ?_ (Nat.zero_or _)
    | with_reducible refine Within.foldl _ ?_ ?_
    | (intro (x : State); refine Within.cut (x := x) (m := 0x0) (s := s) ?_ (fun hx => ?_); unfold x)
    | intro x
    | lift_lets -underBinder
    | split
    | exact rfl
    | (split <;> rfl)
    | clear_value *

theorem execOffDomainRegisterAccess_within (p off _val : Nat) (write : Bool) (s : State) :
    ∃ t, execOffDomainRegisterAccess p off _val write s = .next t ∧ Within 0x400300080004 s t := by
  refine ⟨_, rfl, ?_⟩
  have h0 := Within.refl 0x400300080004 s
  try lift_lets -underBinder
  repeat' first
    | with_reducible assumption
    | with_reducible refine Within.ite ?_ ?_
    | with_reducible refine (emit_within _ _).step ?_ (Nat.zero_or _)
    | with_reducible refine (offDomain_within _ _ _ _).step ?_ rfl
    | with_reducible refine Within.foldl _ ?_ ?_
    | (intro (x : State); refine Within.cut (x := x) (m := 0x400300080004) (s := s) ?_ (fun hx => ?_); unfold x)
    | intro x
    | lift_lets -underBinder
    | split
    | exact rfl
    | (split <;> rfl)
    | clear_value *

theorem ringRestart_within (s : State) (p r : Nat) :
    Within 0x200000004 s (State.ringRestart s p r) := by
  have h0 := Within.refl 0x200000004 s
  unfold State.ringRestart
  try lift_lets -underBinder
  repeat' first
    | with_reducible assumption
    | with_reducible refine Within.ite ?_ ?_
    | with_reducible refine (modPd_within _ _ _).step ?_ rfl
    | with_reducible refine Within.set 1 ?_ ?_ rfl
    | with_reducible refine Within.foldl _ ?_ ?_
    | (intro (x : State); refine Within.cut (x := x) (m := 0x200000004) (s := s) ?_ (fun hx => ?_); unfold x)
    | intro x
    | lift_lets -underBinder
    | split
    | exact rfl
    | (split <;> rfl)
    | clear_value *

theorem heldRun_within (s : State) (p : Nat) :
    Within 0x200000004 s (State.heldRun s p) := by
  have h0 := Within.refl 0x200000004 s
  unfold State.heldRun
  try lift_lets -underBinder
  repeat' first
    | with_reducible assumption
    | with_reducible refine Within.ite ?_ ?_
    | with_reducible refine (deliver_within _ _ _).step ?_ rfl
    | with_reducible refine (modPd_within _ _ _).step ?_ rfl
    | with_reducible refine Within.foldl _ ?_ ?_
    | (intro (x : State); refine Within.cut (x := x) (m := 0x200000004) (s := s) ?_ (fun hx => ?_); unfold x)
    | intro x
    | lift_lets -underBinder
    | split
    | exact rfl
    | (split <;> rfl)
    | clear_value *

theorem ringStarted_within (s : State) (p r : Nat) :
    Within 0x400200080004 s (State.ringStarted s p r) := by
  have h0 := Within.refl 0x400200080004 s
  unfold State.ringStarted
  try lift_lets -underBinder
  repeat' first
    | with_reducible assumption
    | with_reducible refine Within.ite ?_ ?_
    | with_reducible refine (flush_within _ _).step ?_ rfl
    | with_reducible refine (heldRun_within _ _).step ?_ rfl
    | with_reducible refine Within.foldl _ ?_ ?_
    | (intro (x : State); refine Within.cut (x := x) (m := 0x400200080004) (s := s) ?_ (fun hx => ?_); unfold x)
    | intro x
    | lift_lets -underBinder
    | split
    | exact rfl
    | (split <;> rfl)
    | clear_value *

theorem cfgWrite_within (s : State) (p r val : Nat) :
    Within 0x400200080004 s (State.cfgWrite s p r val) := by
  have h0 := Within.refl 0x400200080004 s
  unfold State.cfgWrite
  try lift_lets -underBinder
  repeat' first
    | with_reducible assumption
    | with_reducible refine Within.ite ?_ ?_
    | with_reducible refine (ringError_within _ _ _ _).step ?_ rfl
    | with_reducible refine Within.setB 1 ?_ ?_ rfl
    | with_reducible refine Within.set 1 ?_ ?_ rfl
    | with_reducible refine (ringStarted_within _ _ _).step ?_ rfl
    | with_reducible refine (ringRestart_within _ _ _).step ?_ rfl
    | with_reducible refine Within.foldl _ ?_ ?_
    | (intro (x : State); refine Within.cut (x := x) (m := 0x400200080004) (s := s) ?_ (fun hx => ?_); unfold x)
    | intro x
    | lift_lets -underBinder
    | split
    | exact rfl
    | (split <;> rfl)
    | clear_value *

theorem execRingEnableWrite_within (p ring val : Nat) (s : State) :
    ∃ t, execRingEnableWrite p ring val s = .next t ∧ Within 0x400200080004 s t := by
  refine ⟨_, rfl, ?_⟩
  have h0 := Within.refl 0x400200080004 s
  try lift_lets -underBinder
  repeat' first
    | with_reducible assumption
    | with_reducible refine Within.ite ?_ ?_
    | with_reducible refine (cfgWrite_within _ _ _ _).step ?_ rfl
    | with_reducible refine Within.foldl _ ?_ ?_
    | (intro (x : State); refine Within.cut (x := x) (m := 0x400200080004) (s := s) ?_ (fun hx => ?_); unfold x)
    | intro x
    | lift_lets -underBinder
    | split
    | exact rfl
    | (split <;> rfl)
    | clear_value *

theorem execRingDisableWrite_within (p ring val : Nat) (s : State) :
    ∃ t, execRingDisableWrite p ring val s = .next t ∧ Within 0x400200080004 s t := by
  refine ⟨_, rfl, ?_⟩
  have h0 := Within.refl 0x400200080004 s
  try lift_lets -underBinder
  repeat' first
    | with_reducible assumption
    | with_reducible refine Within.ite ?_ ?_
    | with_reducible refine (cfgWrite_within _ _ _ _).step ?_ rfl
    | with_reducible refine Within.foldl _ ?_ ?_
    | (intro (x : State); refine Within.cut (x := x) (m := 0x400200080004) (s := s) ?_ (fun hx => ?_); unfold x)
    | intro x
    | lift_lets -underBinder
    | split
    | exact rfl
    | (split <;> rfl)
    | clear_value *

theorem clearDp_within (s : State) (p : Nat) :
    Within 0xFFFFFFFFFFFFFFFFFFFFFFFFFFFFFFFFFFFFFFFFFFFFFFFFFFFFFFFFFFFFFFFF00000000 s (State.clearDp s p) := by
  have h0 := Within.refl 0xFFFFFFFFFFFFFFFFFFFFFFFFFFFFFFFFFFFFFFFFFFFFFFFFFFFFFFFFFFFFFFFF00000000 s
  unfold State.clearDp
  try lift_lets -underBinder
  repeat' first
    | with_reducible assumption
    | with_reducible refine Within.ite ?_ ?_
    | with_reducible refine (clearRegs_within _ _).step ?_ rfl
    | with_reducible refine Within.foldl _ ?_ ?_
    | (intro (x : State); refine Within.cut (x := x) (m := 0xFFFFFFFFFFFFFFFFFFFFFFFFFFFFFFFFFFFFFFFFFFFFFFFFFFFFFFFFFFFFFFFF00000000) (s := s) ?_ (fun hx => ?_); unfold x)
    | intro x
    | lift_lets -underBinder
    | split
    | exact rfl
    | (split <;> rfl)
    | clear_value *

theorem flr_within (s : State) (p : Nat) :
    Within 0xFFFFFFFFFFFFFFFFFFFFFFFFFFFFFFFFFFFFFFFFFFFFFFFFFFFFFFFFFFFFFFFF00280006 s (State.flr s p) := by
  have h0 := Within.refl 0xFFFFFFFFFFFFFFFFFFFFFFFFFFFFFFFFFFFFFFFFFFFFFFFFFFFFFFFFFFFFFFFF00280006 s
  unfold State.flr
  try lift_lets -underBinder
  repeat' first
    | with_reducible assumption
    | with_reducible refine Within.ite ?_ ?_
    | with_reducible refine (modPd_within _ _ _).step ?_ rfl
    | with_reducible refine (clearRegs_within _ _).step ?_ rfl
    | with_reducible refine (clearDp_within _ _).step ?_ rfl
    | with_reducible refine (modTck_within _ _).step ?_ rfl
    | with_reducible refine (closeWindow_within _ _).step ?_ rfl
    | with_reducible refine Within.foldl _ ?_ ?_
    | (intro (x : State); refine Within.cut (x := x) (m := 0xFFFFFFFFFFFFFFFFFFFFFFFFFFFFFFFFFFFFFFFFFFFFFFFFFFFFFFFFFFFFFFFF00280006) (s := s) ?_ (fun hx => ?_); unfold x)
    | intro x
    | lift_lets -underBinder
    | split
    | exact rfl
    | (split <;> rfl)
    | clear_value *

theorem execPaddockFlr_within (p : Nat) (s : State) :
    ∃ t, execPaddockFlr p s = .next t ∧ Within 0xFFFFFFFFFFFFFFFFFFFFFFFFFFFFFFFFFFFFFFFFFFFFFFFFFFFFFFFFFFFFFFFF00280006 s t := by
  refine ⟨_, rfl, ?_⟩
  have h0 := Within.refl 0xFFFFFFFFFFFFFFFFFFFFFFFFFFFFFFFFFFFFFFFFFFFFFFFFFFFFFFFFFFFFFFFF00280006 s
  try lift_lets -underBinder
  repeat' first
    | with_reducible assumption
    | with_reducible refine Within.ite ?_ ?_
    | with_reducible refine (flr_within _ _).step ?_ rfl
    | with_reducible refine Within.foldl _ ?_ ?_
    | (intro (x : State); refine Within.cut (x := x) (m := 0xFFFFFFFFFFFFFFFFFFFFFFFFFFFFFFFFFFFFFFFFFFFFFFFFFFFFFFFFFFFFFFFF00280006) (s := s) ?_ (fun hx => ?_); unfold x)
    | intro x
    | lift_lets -underBinder
    | split
    | exact rfl
    | (split <;> rfl)
    | clear_value *

theorem execPortPerst_within (p : Nat) (s : State) :
    ∃ t, execPortPerst p s = .next t ∧ Within 0xFFFFFFFFFFFFFFFFFFFFFFFFFFFFFFFFFFFFFFFFFFFFFFFFFFFFFFFFFFFFFFFF00280006 s t := by
  refine ⟨_, rfl, ?_⟩
  have h0 := Within.refl 0xFFFFFFFFFFFFFFFFFFFFFFFFFFFFFFFFFFFFFFFFFFFFFFFFFFFFFFFFFFFFFFFF00280006 s
  try lift_lets -underBinder
  repeat' first
    | with_reducible assumption
    | with_reducible refine Within.ite ?_ ?_
    | with_reducible refine (flr_within _ _).step ?_ rfl
    | with_reducible refine Within.foldl _ ?_ ?_
    | (intro (x : State); refine Within.cut (x := x) (m := 0xFFFFFFFFFFFFFFFFFFFFFFFFFFFFFFFFFFFFFFFFFFFFFFFFFFFFFFFFFFFFFFFF00280006) (s := s) ?_ (fun hx => ?_); unfold x)
    | intro x
    | lift_lets -underBinder
    | split
    | exact rfl
    | (split <;> rfl)
    | clear_value *

end Sys2Proof.Laws
end

