-- ==== Sys2Proof/Laws/WithinCanCvu.lean ====
section
/-!
SUPPORT. What the operations of Machine/CanCvu.lean may touch.
-/
namespace Sys2Proof.Laws

open Sys2Proof.Machine

theorem modCtl_within (s : State) (n : Nat) (f : CanCtl → CanCtl) :
    Within 0x40000 s (State.modCtl s n f) := by
  have h0 := Within.refl 0x40000 s
  unfold State.modCtl
  try lift_lets -underBinder
  repeat' first
    | with_reducible assumption
    | with_reducible refine Within.ite ?_ ?_
    | with_reducible refine (modCan_within _ _).step ?_ rfl
    | with_reducible refine Within.foldl _ ?_ ?_
    | (intro (x : State); refine Within.cut (x := x) (m := 0x40000) (s := s) ?_ (fun hx => ?_); unfold x)
    | intro x
    | lift_lets -underBinder
    | split
    | exact rfl
    | (split <;> rfl)
    | clear_value *

theorem canRefused_within (s : State) :
    Within 0x80000000000 s (State.canRefused s) := by
  have h0 := Within.refl 0x80000000000 s
  unfold State.canRefused
  try lift_lets -underBinder
  repeat' first
    | with_reducible assumption
    | with_reducible refine Within.ite ?_ ?_
    | with_reducible refine Within.setB 11 ?_ ?_ rfl
    | with_reducible refine Within.foldl _ ?_ ?_
    | (intro (x : State); refine Within.cut (x := x) (m := 0x80000000000) (s := s) ?_ (fun hx => ?_); unfold x)
    | intro x
    | lift_lets -underBinder
    | split
    | exact rfl
    | (split <;> rfl)
    | clear_value *

theorem canState_within (s : State) (n new : Nat) :
    Within 0x480200080004 s (State.canState s n new) := by
  have h0 := Within.refl 0x480200080004 s
  unfold State.canState
  try lift_lets -underBinder
  repeat' first
    | with_reducible assumption
    | with_reducible refine Within.ite ?_ ?_
    | with_reducible refine Within.set 11 ?_ ?_ rfl
    | with_reducible refine (raise_within _ _ _ _ _).step ?_ rfl
    | with_reducible refine Within.foldl _ ?_ ?_
    | (intro (x : State); refine Within.cut (x := x) (m := 0x480200080004) (s := s) ?_ (fun hx => ?_); unfold x)
    | intro x
    | lift_lets -underBinder
    | split
    | exact rfl
    | (split <;> rfl)
    | clear_value *

theorem dropTx_within (s : State) (n status : Nat) :
    Within 0x4002000C0004 s (State.dropTx s n status) := by
  have h0 := Within.refl 0x4002000C0004 s
  unfold State.dropTx
  try lift_lets -underBinder
  repeat' first
    | with_reducible assumption
    | with_reducible refine Within.ite ?_ ?_
    | with_reducible refine (finish_within _ _ _ _ _ _).step ?_ rfl
    | with_reducible refine (modCtl_within _ _ _).step ?_ rfl
    | with_reducible refine Within.foldl _ ?_ ?_
    | (intro (x : State); refine Within.cut (x := x) (m := 0x4002000C0004) (s := s) ?_ (fun hx => ?_); unfold x)
    | intro x
    | lift_lets -underBinder
    | split
    | exact rfl
    | (split <;> rfl)
    | clear_value *

theorem canCtrl_within (s : State) (n w : Nat) :
    Within 0x4802000C0004 s (State.canCtrl s n w) := by
  have h0 := Within.refl 0x4802000C0004 s
  unfold State.canCtrl
  try lift_lets -underBinder
  repeat' first
    | with_reducible assumption
    | with_reducible refine Within.ite ?_ ?_
    | with_reducible refine Within.setB 11 ?_ ?_ rfl
    | with_reducible refine Within.set 11 ?_ ?_ rfl
    | with_reducible refine (dropTx_within _ _ _).step ?_ rfl
    | with_reducible refine (canState_within _ _ _).step ?_ rfl
    | with_reducible refine (modCtl_within _ _ _).step ?_ rfl
    | with_reducible refine Within.foldl _ ?_ ?_
    | (intro (x : State); refine Within.cut (x := x) (m := 0x4802000C0004) (s := s) ?_ (fun hx => ?_); unfold x)
    | intro x
    | lift_lets -underBinder
    | split
    | exact rfl
    | (split <;> rfl)
    | clear_value *

theorem canWrite_within (s : State) (p off val : Nat) :
    Within 0xFFFFFFFFFFFFFFFFFFFFFFFFFFFFFFFFFFFFFFFFFFFFFFFFFFFFFFFFFFFFFFFF000C0004 s (State.canWrite s p off val) := by
  have h0 := Within.refl 0xFFFFFFFFFFFFFFFFFFFFFFFFFFFFFFFFFFFFFFFFFFFFFFFFFFFFFFFFFFFFFFFF000C0004 s
  unfold State.canWrite
  try lift_lets -underBinder
  repeat' first
    | with_reducible assumption
    | with_reducible refine Within.ite ?_ ?_
    | with_reducible refine (rxCfgWrite_within _ _ _ _).step ?_ rfl
    | with_reducible refine setupWrite_within ?_ ?_ rfl
    | with_reducible refine (writeFields_within _ _ _ _).step ?_ rfl
    | with_reducible refine (canRefused_within _).step ?_ rfl
    | with_reducible refine (canCtrl_within _ _ _).step ?_ rfl
    | with_reducible refine Within.foldl _ ?_ ?_
    | (intro (x : State); refine Within.cut (x := x) (m := 0xFFFFFFFFFFFFFFFFFFFFFFFFFFFFFFFFFFFFFFFFFFFFFFFFFFFFFFFFFFFFFFFF000C0004) (s := s) ?_ (fun hx => ?_); unfold x)
    | intro x
    | lift_lets -underBinder
    | split
    | exact rfl
    | (split <;> rfl)
    | clear_value *

theorem execCanModeWrite_within (p n val : Nat) (s : State) :
    ∃ t, execCanModeWrite p n val s = .next t ∧ Within 0xFFFFFFFFFFFFFFFFFFFFFFFFFFFFFFFFFFFFFFFFFFFFFFFFFFFFFFFFFFFFFFFF000C0004 s t := by
  refine ⟨_, rfl, ?_⟩
  have h0 := Within.refl 0xFFFFFFFFFFFFFFFFFFFFFFFFFFFFFFFFFFFFFFFFFFFFFFFFFFFFFFFFFFFFFFFF000C0004 s
  try lift_lets -underBinder
  repeat' first
    | with_reducible assumption
    | with_reducible refine Within.ite ?_ ?_
    | with_reducible refine (canWrite_within _ _ _ _).step ?_ rfl
    | with_reducible refine Within.foldl _ ?_ ?_
    | (intro (x : State); refine Within.cut (x := x) (m := 0xFFFFFFFFFFFFFFFFFFFFFFFFFFFFFFFFFFFFFFFFFFFFFFFFFFFFFFFFFFFFFFFF000C0004) (s := s) ?_ (fun hx => ?_); unfold x)
    | intro x
    | lift_lets -underBinder
    | split
    | exact rfl
    | (split <;> rfl)
    | clear_value *

theorem execCanRxEnableWrite_within (p val : Nat) (s : State) :
    ∃ t, execCanRxEnableWrite p val s = .next t ∧ Within 0xFFFFFFFFFFFFFFFFFFFFFFFFFFFFFFFFFFFFFFFFFFFFFFFFFFFFFFFFFFFFFFFF00080004 s t := by
  refine ⟨_, rfl, ?_⟩
  have h0 := Within.refl 0xFFFFFFFFFFFFFFFFFFFFFFFFFFFFFFFFFFFFFFFFFFFFFFFFFFFFFFFFFFFFFFFF00080004 s
  try lift_lets -underBinder
  repeat' first
    | with_reducible assumption
    | with_reducible refine Within.ite ?_ ?_
    | with_reducible refine (rxCfgWrite_within _ _ _ _).step ?_ rfl
    | with_reducible refine Within.foldl _ ?_ ?_
    | (intro (x : State); refine Within.cut (x := x) (m := 0xFFFFFFFFFFFFFFFFFFFFFFFFFFFFFFFFFFFFFFFFFFFFFFFFFFFFFFFFFFFFFFFF00080004) (s := s) ?_ (fun hx => ?_); unfold x)
    | intro x
    | lift_lets -underBinder
    | split
    | exact rfl
    | (split <;> rfl)
    | clear_value *

theorem canDeliver_within (k : Nat) (s : State) : Within 0x4002000C0004 s (State.canDeliver k s) := by
  induction k generalizing s with
  | zero => exact Within.refl _ s
  | succ k ih =>
    have h0 := Within.refl 0x4002000C0004 s
    unfold State.canDeliver
    try lift_lets -underBinder
    repeat' first
      | with_reducible assumption
      | with_reducible refine Within.ite ?_ ?_
      | with_reducible refine (ih _).step ?_ rfl
      | with_reducible refine (raise_within _ _ _ _ _).step ?_ rfl
      | with_reducible refine (modCan_within _ _).step ?_ rfl
      | with_reducible refine (modCtl_within _ _ _).step ?_ rfl
      | with_reducible refine (modPd_within _ _ _).step ?_ rfl
      | with_reducible refine (signal_within _ _ _).step ?_ rfl
      | with_reducible refine (emit_within _ _).step ?_ (Nat.zero_or _)
      | (intro (x : State); refine Within.cut (x := x) (m := 0x4002000C0004) (s := s) ?_ (fun hx => ?_); unfold x)
      | intro x
      | lift_lets -underBinder
      | split

theorem execCanRxRingDelivery_within (s : State) :
    ∃ t, execCanRxRingDelivery s = .next t ∧ Within 0x4002000C0004 s t := by
  refine ⟨_, rfl, ?_⟩
  have h0 := Within.refl 0x4002000C0004 s
  try lift_lets -underBinder
  repeat' first
    | with_reducible assumption
    | with_reducible refine Within.ite ?_ ?_
    | with_reducible refine (canDeliver_within _ _).step ?_ rfl
    | with_reducible refine Within.foldl _ ?_ ?_
    | (intro (x : State); refine Within.cut (x := x) (m := 0x4002000C0004) (s := s) ?_ (fun hx => ?_); unfold x)
    | intro x
    | lift_lets -underBinder
    | split
    | exact rfl
    | (split <;> rfl)
    | clear_value *

theorem reportFault_within (s : State) (cab cause cnt : Nat) :
    Within 0x4002000C0004 s (State.reportFault s cab cause cnt) := by
  have h0 := Within.refl 0x4002000C0004 s
  unfold State.reportFault
  try lift_lets -underBinder
  repeat' first
    | with_reducible assumption
    | with_reducible refine Within.ite ?_ ?_
    | with_reducible refine (raise_within _ _ _ _ _).step ?_ rfl
    | with_reducible refine (modCan_within _ _).step ?_ rfl
    | with_reducible refine Within.foldl _ ?_ ?_
    | (intro (x : State); refine Within.cut (x := x) (m := 0x4002000C0004) (s := s) ?_ (fun hx => ?_); unfold x)
    | intro x
    | lift_lets -underBinder
    | split
    | exact rfl
    | (split <;> rfl)
    | clear_value *

theorem canDecode_within (s : State) (n : Nat) (f : CanFrame) :
    Within 0x400A000C0404 s (State.canDecode s n f) := by
  have h0 := Within.refl 0x400A000C0404 s
  unfold State.canDecode
  try lift_lets -underBinder
  repeat' first
    | with_reducible assumption
    | with_reducible refine Within.ite ?_ ?_
    | with_reducible refine (reportFault_within _ _ _ _).step ?_ rfl
    | with_reducible refine (modCan_within _ _).step ?_ rfl
    | with_reducible refine (cabReport_within _ _ _ _ _ _).step ?_ rfl
    | with_reducible refine Within.foldl _ ?_ ?_
    | (intro (x : State); refine Within.cut (x := x) (m := 0x400A000C0404) (s := s) ?_ (fun hx => ?_); unfold x)
    | intro x
    | lift_lets -underBinder
    | split
    | exact rfl
    | (split <;> rfl)
    | clear_value *

theorem canStore_within (s : State) (x : CanRx) :
    Within 0x4802000C0004 s (State.canStore s x) := by
  have h0 := Within.refl 0x4802000C0004 s
  unfold State.canStore
  try lift_lets -underBinder
  repeat' first
    | with_reducible assumption
    | with_reducible refine Within.ite ?_ ?_
    | with_reducible refine (canDeliver_within _ _).step ?_ rfl
    | with_reducible refine (modCan_within _ _).step ?_ rfl
    | with_reducible refine Within.setB 11 ?_ ?_ rfl
    | with_reducible refine Within.incSat 11 ?_ ?_ rfl
    | with_reducible refine (modCtl_within _ _ _).step ?_ rfl
    | with_reducible refine (raise_within _ _ _ _ _).step ?_ rfl
    | with_reducible refine Within.foldl _ ?_ ?_
    | (intro (x : State); refine Within.cut (x := x) (m := 0x4802000C0004) (s := s) ?_ (fun hx => ?_); unfold x)
    | intro x
    | lift_lets -underBinder
    | split
    | exact rfl
    | (split <;> rfl)
    | clear_value *

theorem execCanFrameReceive_within (n : Nat) (f : CanFrame) (sof : Nat) (err : Bool) (s : State) :
    ∃ t, execCanFrameReceive n f sof err s = .next t ∧ Within 0x480A000C0404 s t := by
  refine ⟨_, rfl, ?_⟩
  have h0 := Within.refl 0x480A000C0404 s
  try lift_lets -underBinder
  repeat' first
    | with_reducible assumption
    | with_reducible refine Within.ite ?_ ?_
    | with_reducible refine Within.incSat 11 ?_ ?_ rfl
    | with_reducible refine (canDecode_within _ _ _).step ?_ rfl
    | with_reducible refine Within.inc 11 ?_ ?_ rfl
    | with_reducible refine (canStore_within _ _).step ?_ rfl
    | with_reducible refine Within.foldl _ ?_ ?_
    | (intro (x : State); refine Within.cut (x := x) (m := 0x480A000C0404) (s := s) ?_ (fun hx => ?_); unfold x)
    | intro x
    | lift_lets -underBinder
    | split
    | exact rfl
    | (split <;> rfl)
    | clear_value *

theorem execCanSend_within (p tag : Nat) (data : List Nat) (s : State) :
    ∃ t, execCanSend p tag data s = .next t ∧ Within 0x4082000C0004 s t := by
  refine ⟨_, rfl, ?_⟩
  have h0 := Within.refl 0x4082000C0004 s
  try lift_lets -underBinder
  repeat' first
    | with_reducible assumption
    | with_reducible refine Within.ite ?_ ?_
    | with_reducible refine take_within ?_ ?_ rfl
    | with_reducible refine (finish_within _ _ _ _ _ _).step ?_ rfl
    | with_reducible refine (modCtl_within _ _ _).step ?_ rfl
    | with_reducible refine Within.foldl _ ?_ ?_
    | (intro (x : State); refine Within.cut (x := x) (m := 0x4082000C0004) (s := s) ?_ (fun hx => ?_); unfold x)
    | intro x
    | lift_lets -underBinder
    | split
    | exact rfl
    | (split <;> rfl)
    | clear_value *

theorem canTdc_within (s : State) (n : Nat) (x : CanTx) (delay : Nat) :
    Within 0x480200080004 s (State.canTdc s n x delay) := by
  have h0 := Within.refl 0x480200080004 s
  unfold State.canTdc
  try lift_lets -underBinder
  repeat' first
    | with_reducible assumption
    | with_reducible refine Within.ite ?_ ?_
    | with_reducible refine Within.set 11 ?_ ?_ rfl
    | with_reducible refine (raise_within _ _ _ _ _).step ?_ rfl
    | with_reducible refine Within.setB 11 ?_ ?_ rfl
    | with_reducible refine Within.foldl _ ?_ ?_
    | (intro (x : State); refine Within.cut (x := x) (m := 0x480200080004) (s := s) ?_ (fun hx => ?_); unfold x)
    | intro x
    | lift_lets -underBinder
    | split
    | exact rfl
    | (split <;> rfl)
    | clear_value *

theorem canUnqueue_within (s : State) (n : Nat) (x : CanTx) :
    Within 0x40000 s (State.canUnqueue s n x) := by
  have h0 := Within.refl 0x40000 s
  unfold State.canUnqueue
  try lift_lets -underBinder
  repeat' first
    | with_reducible assumption
    | with_reducible refine Within.ite ?_ ?_
    | with_reducible refine (modCtl_within _ _ _).step ?_ rfl
    | with_reducible refine Within.foldl _ ?_ ?_
    | (intro (x : State); refine Within.cut (x := x) (m := 0x40000) (s := s) ?_ (fun hx => ?_); unfold x)
    | intro x
    | lift_lets -underBinder
    | split
    | exact rfl
    | (split <;> rfl)
    | clear_value *

theorem execCanFrameAcknowledged_within (n sof delay : Nat) (s : State) :
    ∃ t, execCanFrameAcknowledged n sof delay s = .next t ∧ Within 0x4802000C0004 s t := by
  refine ⟨_, rfl, ?_⟩
  have h0 := Within.refl 0x4802000C0004 s
  try lift_lets -underBinder
  repeat' first
    | with_reducible assumption
    | with_reducible refine Within.ite ?_ ?_
    | with_reducible refine (canUnqueue_within _ _ _).step ?_ rfl
    | with_reducible refine (canTdc_within _ _ _ _).step ?_ rfl
    | with_reducible refine Within.inc 11 ?_ ?_ rfl
    | with_reducible refine (emit_within _ _).step ?_ (Nat.zero_or _)
    | with_reducible refine (finish_within _ _ _ _ _ _).step ?_ rfl
    | with_reducible refine Within.foldl _ ?_ ?_
    | (intro (x : State); refine Within.cut (x := x) (m := 0x4802000C0004) (s := s) ?_ (fun hx => ?_); unfold x)
    | intro x
    | lift_lets -underBinder
    | split
    | exact rfl
    | (split <;> rfl)
    | clear_value *

theorem execCanArbitrationLoss_within (n sof : Nat) (err : Bool) (s : State) :
    ∃ t, execCanArbitrationLoss n sof err s = .next t ∧ Within 0x4802000C0004 s t := by
  refine ⟨_, rfl, ?_⟩
  have h0 := Within.refl 0x4802000C0004 s
  try lift_lets -underBinder
  repeat' first
    | with_reducible assumption
    | with_reducible refine Within.ite ?_ ?_
    | with_reducible refine Within.incSat 11 ?_ ?_ rfl
    | with_reducible refine (finish_within _ _ _ _ _ _).step ?_ rfl
    | with_reducible refine (canUnqueue_within _ _ _).step ?_ rfl
    | with_reducible refine Within.foldl _ ?_ ?_
    | (intro (x : State); refine Within.cut (x := x) (m := 0x4802000C0004) (s := s) ?_ (fun hx => ?_); unfold x)
    | intro x
    | lift_lets -underBinder
    | split
    | exact rfl
    | (split <;> rfl)
    | clear_value *

theorem execCanTxTimeout_within (n p num : Nat) (sof : Option Nat) (s : State) :
    ∃ t, execCanTxTimeout n p num sof s = .next t ∧ Within 0x4002000C0004 s t := by
  refine ⟨_, rfl, ?_⟩
  have h0 := Within.refl 0x4002000C0004 s
  try lift_lets -underBinder
  repeat' first
    | with_reducible assumption
    | with_reducible refine Within.ite ?_ ?_
    | with_reducible refine (finish_within _ _ _ _ _ _).step ?_ rfl
    | with_reducible refine (canUnqueue_within _ _ _).step ?_ rfl
    | with_reducible refine Within.foldl _ ?_ ?_
    | (intro (x : State); refine Within.cut (x := x) (m := 0x4002000C0004) (s := s) ?_ (fun hx => ?_); unfold x)
    | intro x
    | lift_lets -underBinder
    | split
    | exact rfl
    | (split <;> rfl)
    | clear_value *

theorem execCanErrorStateChange_within (n tec rec_ : Nat) (s : State) :
    ∃ t, execCanErrorStateChange n tec rec_ s = .next t ∧ Within 0x4802000C0004 s t := by
  refine ⟨_, rfl, ?_⟩
  have h0 := Within.refl 0x4802000C0004 s
  try lift_lets -underBinder
  repeat' first
    | with_reducible assumption
    | with_reducible refine Within.ite ?_ ?_
    | with_reducible refine Within.set 11 ?_ ?_ rfl
    | with_reducible refine (dropTx_within _ _ _).step ?_ rfl
    | with_reducible refine (canState_within _ _ _).step ?_ rfl
    | with_reducible refine Within.incSat 11 ?_ ?_ rfl
    | with_reducible refine Within.foldl _ ?_ ?_
    | (intro (x : State); refine Within.cut (x := x) (m := 0x4802000C0004) (s := s) ?_ (fun hx => ?_); unfold x)
    | intro x
    | lift_lets -underBinder
    | split
    | exact rfl
    | (split <;> rfl)
    | clear_value *

theorem execCanRecover_within (p tag : Nat) (s : State) :
    ∃ t, execCanRecover p tag s = .next t ∧ Within 0x4082000C0004 s t := by
  refine ⟨_, rfl, ?_⟩
  have h0 := Within.refl 0x4082000C0004 s
  try lift_lets -underBinder
  repeat' first
    | with_reducible assumption
    | with_reducible refine Within.ite ?_ ?_
    | with_reducible refine take_within ?_ ?_ rfl
    | with_reducible refine (finish_within _ _ _ _ _ _).step ?_ rfl
    | with_reducible refine (modCtl_within _ _ _).step ?_ rfl
    | with_reducible refine Within.foldl _ ?_ ?_
    | (intro (x : State); refine Within.cut (x := x) (m := 0x4082000C0004) (s := s) ?_ (fun hx => ?_); unfold x)
    | intro x
    | lift_lets -underBinder
    | split
    | exact rfl
    | (split <;> rfl)
    | clear_value *

theorem execCanRecoveryDone_within (n : Nat) (s : State) :
    ∃ t, execCanRecoveryDone n s = .next t ∧ Within 0x4802000C0004 s t := by
  refine ⟨_, rfl, ?_⟩
  have h0 := Within.refl 0x4802000C0004 s
  try lift_lets -underBinder
  repeat' first
    | with_reducible assumption
    | with_reducible refine Within.ite ?_ ?_
    | with_reducible refine (canState_within _ _ _).step ?_ rfl
    | with_reducible refine Within.set 11 ?_ ?_ rfl
    | with_reducible refine (modCtl_within _ _ _).step ?_ rfl
    | with_reducible refine (finish_within _ _ _ _ _ _).step ?_ rfl
    | with_reducible refine Within.foldl _ ?_ ?_
    | (intro (x : State); refine Within.cut (x := x) (m := 0x4802000C0004) (s := s) ?_ (fun hx => ?_); unfold x)
    | intro x
    | lift_lets -underBinder
    | split
    | exact rfl
    | (split <;> rfl)
    | clear_value *

theorem execCanRecoverTimeout_within (n : Nat) (s : State) :
    ∃ t, execCanRecoverTimeout n s = .next t ∧ Within 0x4002000C0004 s t := by
  refine ⟨_, rfl, ?_⟩
  have h0 := Within.refl 0x4002000C0004 s
  try lift_lets -underBinder
  repeat' first
    | with_reducible assumption
    | with_reducible refine Within.ite ?_ ?_
    | with_reducible refine (finish_within _ _ _ _ _ _).step ?_ rfl
    | with_reducible refine (modCtl_within _ _ _).step ?_ rfl
    | with_reducible refine Within.foldl _ ?_ ?_
    | (intro (x : State); refine Within.cut (x := x) (m := 0x4002000C0004) (s := s) ?_ (fun hx => ?_); unfold x)
    | intro x
    | lift_lets -underBinder
    | split
    | exact rfl
    | (split <;> rfl)
    | clear_value *

theorem execCanRateDetectResult_within (n k : Nat) (s : State) :
    ∃ t, execCanRateDetectResult n k s = .next t ∧ Within 0x480200080004 s t := by
  refine ⟨_, rfl, ?_⟩
  have h0 := Within.refl 0x480200080004 s
  try lift_lets -underBinder
  repeat' first
    | with_reducible assumption
    | with_reducible refine Within.ite ?_ ?_
    | with_reducible refine Within.set 11 ?_ ?_ rfl
    | with_reducible refine Within.setB 11 ?_ ?_ rfl
    | with_reducible refine (raise_within _ _ _ _ _).step ?_ rfl
    | with_reducible refine Within.foldl _ ?_ ?_
    | (intro (x : State); refine Within.cut (x := x) (m := 0x480200080004) (s := s) ?_ (fun hx => ?_); unfold x)
    | intro x
    | lift_lets -underBinder
    | split
    | exact rfl
    | (split <;> rfl)
    | clear_value *

theorem execCanRateDetectTimeout_within (n : Nat) (s : State) :
    ∃ t, execCanRateDetectTimeout n s = .next t ∧ Within 0x480200080004 s t := by
  refine ⟨_, rfl, ?_⟩
  have h0 := Within.refl 0x480200080004 s
  try lift_lets -underBinder
  repeat' first
    | with_reducible assumption
    | with_reducible refine Within.ite ?_ ?_
    | with_reducible refine (raise_within _ _ _ _ _).step ?_ rfl
    | with_reducible refine (canState_within _ _ _).step ?_ rfl
    | with_reducible refine Within.set 11 ?_ ?_ rfl
    | with_reducible refine Within.foldl _ ?_ ?_
    | (intro (x : State); refine Within.cut (x := x) (m := 0x480200080004) (s := s) ?_ (fun hx => ?_); unfold x)
    | intro x
    | lift_lets -underBinder
    | split
    | exact rfl
    | (split <;> rfl)
    | clear_value *

theorem cvuWrite_within (s : State) (p off val : Nat) :
    Within 0xFFFFFFFFFFFFFFFFFFFFFFFFFFFFFFFFFFFFFFFFFFFFFFFFFFFFFFFFFFFFFFFF00080004 s (State.cvuWrite s p off val) := by
  have h0 := Within.refl 0xFFFFFFFFFFFFFFFFFFFFFFFFFFFFFFFFFFFFFFFFFFFFFFFFFFFFFFFFFFFFFFFF00080004 s
  unfold State.cvuWrite
  try lift_lets -underBinder
  repeat' first
    | with_reducible assumption
    | with_reducible refine Within.ite ?_ ?_
    | with_reducible refine setupWrite_within ?_ ?_ rfl
    | with_reducible refine (writeFields_within _ _ _ _).step ?_ rfl
    | with_reducible refine Within.setB_all ?_ rfl
    | with_reducible refine Within.set_all ?_ rfl
    | with_reducible refine Within.foldl _ ?_ ?_
    | (intro (x : State); refine Within.cut (x := x) (m := 0xFFFFFFFFFFFFFFFFFFFFFFFFFFFFFFFFFFFFFFFFFFFFFFFFFFFFFFFFFFFFFFFF00080004) (s := s) ?_ (fun hx => ?_); unfold x)
    | intro x
    | lift_lets -underBinder
    | split
    | exact rfl
    | (split <;> rfl)
    | clear_value *

theorem execCvuConfigWrite_within (p u k val : Nat) (s : State) :
    ∃ t, execCvuConfigWrite p u k val s = .next t ∧ Within 0xFFFFFFFFFFFFFFFFFFFFFFFFFFFFFFFFFFFFFFFFFFFFFFFFFFFFFFFFFFFFFFFF00080004 s t := by
  refine ⟨_, rfl, ?_⟩
  have h0 := Within.refl 0xFFFFFFFFFFFFFFFFFFFFFFFFFFFFFFFFFFFFFFFFFFFFFFFFFFFFFFFFFFFFFFFF00080004 s
  try lift_lets -underBinder
  repeat' first
    | with_reducible assumption
    | with_reducible refine Within.ite ?_ ?_
    | with_reducible refine (cvuWrite_within _ _ _ _).step ?_ rfl
    | with_reducible refine Within.foldl _ ?_ ?_
    | (intro (x : State); refine Within.cut (x := x) (m := 0xFFFFFFFFFFFFFFFFFFFFFFFFFFFFFFFFFFFFFFFFFFFFFFFFFFFFFFFFFFFFFFFF00080004) (s := s) ?_ (fun hx => ?_); unfold x)
    | intro x
    | lift_lets -underBinder
    | split
    | exact rfl
    | (split <;> rfl)
    | clear_value *

theorem execCvuAliveCfgWrite_within (p u val : Nat) (s : State) :
    ∃ t, execCvuAliveCfgWrite p u val s = .next t ∧ Within 0xFFFFFFFFFFFFFFFFFFFFFFFFFFFFFFFFFFFFFFFFFFFFFFFFFFFFFFFFFFFFFFFF00080004 s t := by
  refine ⟨_, rfl, ?_⟩
  have h0 := Within.refl 0xFFFFFFFFFFFFFFFFFFFFFFFFFFFFFFFFFFFFFFFFFFFFFFFFFFFFFFFFFFFFFFFF00080004 s
  try lift_lets -underBinder
  repeat' first
    | with_reducible assumption
    | with_reducible refine Within.ite ?_ ?_
    | with_reducible refine (cvuWrite_within _ _ _ _).step ?_ rfl
    | with_reducible refine Within.foldl _ ?_ ?_
    | (intro (x : State); refine Within.cut (x := x) (m := 0xFFFFFFFFFFFFFFFFFFFFFFFFFFFFFFFFFFFFFFFFFFFFFFFFFFFFFFFFFFFFFFFF00080004) (s := s) ?_ (fun hx => ?_); unfold x)
    | intro x
    | lift_lets -underBinder
    | split
    | exact rfl
    | (split <;> rfl)
    | clear_value *

theorem putAlive_within (s : State) (u : Nat) (a : Alive) :
    Within 0x1000000000000 s (State.putAlive s u a) := by
  have h0 := Within.refl 0x1000000000000 s
  unfold State.putAlive
  try lift_lets -underBinder
  repeat' first
    | with_reducible assumption
    | with_reducible refine Within.ite ?_ ?_
    | with_reducible refine Within.set 16 ?_ ?_ rfl
    | with_reducible refine Within.foldl _ ?_ ?_
    | (intro (x : State); refine Within.cut (x := x) (m := 0x1000000000000) (s := s) ?_ (fun hx => ?_); unfold x)
    | intro x
    | lift_lets -underBinder
    | split
    | exact rfl
    | (split <;> rfl)
    | clear_value *

theorem jobRun_within (s : State) (u p : Nat) (d : Desc) (crc op : Nat) :
    Within 0x14002000C0006 s (State.jobRun s u p d crc op) := by
  have h0 := Within.refl 0x14002000C0006 s
  unfold State.jobRun
  try lift_lets -underBinder
  repeat' first
    | with_reducible assumption
    | with_reducible refine Within.ite ?_ ?_
    | with_reducible refine Within.ite2 ?_ ?_
    | with_reducible refine (putAlive_within _ _ _).step ?_ rfl
    | with_reducible refine (fresh_within _ _).step ?_ rfl
    | with_reducible refine (modCan_within _ _).step ?_ rfl
    | with_reducible refine (finish_within _ _ _ _ _ _).step ?_ rfl
    | with_reducible refine Within.foldl _ ?_ ?_
    | with_reducible refine Within.foldl2 _ ?_ ?_
    | (intro (x : State); refine Within.cut (x := x) (m := 0x14002000C0006) (s := s) ?_ (fun hx => ?_); unfold x)
    | intro x
    | lift_lets -underBinder
    | split
    | exact rfl
    | (split <;> rfl)
    | clear_value *

theorem jobCrc_within (s : State) (u p : Nat) (d : Desc) (data : List Nat) :
    Within 0x14002000C0006 s (State.jobCrc s u p d data) := by
  have h0 := Within.refl 0x14002000C0006 s
  unfold State.jobCrc
  try lift_lets -underBinder
  repeat' first
    | with_reducible assumption
    | with_reducible refine Within.ite ?_ ?_
    | with_reducible refine Within.set 16 ?_ ?_ rfl
    | with_reducible refine Within.setBit 16 ?_ ?_ rfl
    | with_reducible refine (raise_within _ _ _ _ _).step ?_ rfl
    | with_reducible refine (finish_within _ _ _ _ _ _).step ?_ rfl
    | with_reducible refine (jobRun_within _ _ _ _ _ _).step ?_ rfl
    | with_reducible refine Within.foldl _ ?_ ?_
    | (intro (x : State); refine Within.cut (x := x) (m := 0x14002000C0006) (s := s) ?_ (fun hx => ?_); unfold x)
    | intro x
    | lift_lets -underBinder
    | split
    | exact rfl
    | (split <;> rfl)
    | clear_value *

theorem execCheckJob_within (p tag : Nat) (data : List Nat) (s : State) :
    ∃ t, execCheckJob p tag data s = .next t ∧ Within 0x14082000C0006 s t := by
  refine ⟨_, rfl, ?_⟩
  have h0 := Within.refl 0x14082000C0006 s
  try lift_lets -underBinder
  repeat' first
    | with_reducible assumption
    | with_reducible refine Within.ite ?_ ?_
    | with_reducible refine take_within ?_ ?_ rfl
    | with_reducible refine (finish_within _ _ _ _ _ _).step ?_ rfl
    | with_reducible refine (jobRun_within _ _ _ _ _ _).step ?_ rfl
    | with_reducible refine (jobCrc_within _ _ _ _ _).step ?_ rfl
    | with_reducible refine Within.foldl _ ?_ ?_
    | (intro (x : State); refine Within.cut (x := x) (m := 0x14082000C0006) (s := s) ?_ (fun hx => ?_); unfold x)
    | intro x
    | lift_lets -underBinder
    | split
    | exact rfl
    | (split <;> rfl)
    | clear_value *

end Sys2Proof.Laws
end

