-- ==== Sys2Proof/Laws/WithinTackImages.lean ====
section
/-!
SUPPORT. What the operations of Machine/TackImages.lean may touch.
-/
namespace Sys2Proof.Laws

open Sys2Proof.Machine

theorem keyFault_within (s : State) (slot : Nat) :
    Within 0x600200080004 s (State.keyFault s slot) := by
  have h0 := Within.refl 0x600200080004 s
  unfold State.keyFault
  try lift_lets -underBinder
  repeat' first
    | with_reducible assumption
    | with_reducible refine Within.ite ?_ ?_
    | with_reducible refine (raise_within _ _ _ _ _).step ?_ rfl
    | with_reducible refine Within.setB 13 ?_ ?_ rfl
    | with_reducible refine Within.foldl _ ?_ ?_
    | (intro (x : State); refine Within.cut (x := x) (m := 0x600200080004) (s := s) ?_ (fun hx => ?_); unfold x)
    | intro x
    | lift_lets -underBinder
    | split
    | exact rfl
    | (split <;> rfl)
    | clear_value *

theorem imgRefused_within (s : State) (p num st : Nat) :
    Within 0x600200080004 s (State.imgRefused s p num st) := by
  have h0 := Within.refl 0x600200080004 s
  unfold State.imgRefused
  try lift_lets -underBinder
  repeat' first
    | with_reducible assumption
    | with_reducible refine Within.ite ?_ ?_
    | with_reducible refine (finish_within _ _ _ _ _ _).step ?_ rfl
    | with_reducible refine (keyFault_within _ _).step ?_ rfl
    | with_reducible refine Within.foldl _ ?_ ?_
    | (intro (x : State); refine Within.cut (x := x) (m := 0x600200080004) (s := s) ?_ (fun hx => ?_); unfold x)
    | intro x
    | lift_lets -underBinder
    | split
    | exact rfl
    | (split <;> rfl)
    | clear_value *

theorem tableReject_within (s : State) (x : Nat × Nat) :
    Within 0x498200080006 s (State.tableReject s x) := by
  have h0 := Within.refl 0x498200080006 s
  unfold State.tableReject
  try lift_lets -underBinder
  repeat' first
    | with_reducible assumption
    | with_reducible refine Within.ite ?_ ?_
    | with_reducible refine Within.ite2 ?_ ?_
    | with_reducible refine (fresh_within _ _).step ?_ rfl
    | with_reducible refine (raise_within _ _ _ _ _).step ?_ rfl
    | ((with_reducible refine Within.setB 7 ?_ ?hw rfl); case hw => first | exact rfl | assumption | (split <;> rfl))
    | ((with_reducible refine Within.setB 8 ?_ ?hw rfl); case hw => first | exact rfl | assumption | (split <;> rfl))
    | ((with_reducible refine Within.setB 11 ?_ ?hw rfl); case hw => first | exact rfl | assumption | (split <;> rfl))
    | with_reducible refine Within.foldl _ ?_ ?_
    | with_reducible refine Within.foldl2 _ ?_ ?_
    | (intro (x : State); refine Within.cut (x := x) (m := 0x498200080006) (s := s) ?_ (fun hx => ?_); unfold x)
    | intro x
    | lift_lets -underBinder
    | split
    | exact rfl
    | (split <;> rfl)
    | clear_value *

theorem imageStaged_within (s : State) (p num kind epoch : Nat) :
    Within 0x400200080004 s (State.imageStaged s p num kind epoch) := by
  have h0 := Within.refl 0x400200080004 s
  unfold State.imageStaged
  try lift_lets -underBinder
  repeat' first
    | with_reducible assumption
    | with_reducible refine Within.ite ?_ ?_
    | with_reducible refine (finish_within _ _ _ _ _ _).step ?_ rfl
    | with_reducible refine (raise_within _ _ _ _ _).step ?_ rfl
    | with_reducible refine Within.foldl _ ?_ ?_
    | (intro (x : State); refine Within.cut (x := x) (m := 0x400200080004) (s := s) ?_ (fun hx => ?_); unfold x)
    | intro x
    | lift_lets -underBinder
    | split
    | exact rfl
    | (split <;> rfl)
    | clear_value *

theorem showStaged_within (s : State) (fw : Bool) :
    Within 0x200000000000 s (State.showStaged s fw) := by
  have h0 := Within.refl 0x200000000000 s
  unfold State.showStaged
  try lift_lets -underBinder
  repeat' first
    | with_reducible assumption
    | with_reducible refine Within.ite ?_ ?_
    | with_reducible refine Within.setB 13 ?_ ?_ rfl
    | with_reducible refine Within.set 13 ?_ ?_ rfl
    | with_reducible refine Within.foldl _ ?_ ?_
    | (intro (x : State); refine Within.cut (x := x) (m := 0x200000000000) (s := s) ?_ (fun hx => ?_); unfold x)
    | intro x
    | lift_lets -underBinder
    | split
    | exact rfl
    | (split <;> rfl)
    | clear_value *

theorem tableDurable_within (s : State) (p num : Nat) (x : Staged) :
    Within 0x600200280004 s (State.tableDurable s p num x) := by
  have h0 := Within.refl 0x600200280004 s
  unfold State.tableDurable
  try lift_lets -underBinder
  repeat' first
    | with_reducible assumption
    | with_reducible refine Within.ite ?_ ?_
    | with_reducible refine (modTck_within _ _).step ?_ rfl
    | with_reducible refine (imageStaged_within _ _ _ _ _).step ?_ rfl
    | with_reducible refine (showStaged_within _ _).step ?_ rfl
    | with_reducible refine Within.foldl _ ?_ ?_
    | (intro (x : State); refine Within.cut (x := x) (m := 0x600200280004) (s := s) ?_ (fun hx => ?_); unfold x)
    | intro x
    | lift_lets -underBinder
    | split
    | exact rfl
    | (split <;> rfl)
    | clear_value *

theorem fwDurable_within (s : State) (p num slot : Nat) (x : FwSlot) :
    Within 0x600200280004 s (State.fwDurable s p num slot x) := by
  have h0 := Within.refl 0x600200280004 s
  unfold State.fwDurable
  try lift_lets -underBinder
  repeat' first
    | with_reducible assumption
    | with_reducible refine Within.ite ?_ ?_
    | with_reducible refine (modTck_within _ _).step ?_ rfl
    | with_reducible refine (imageStaged_within _ _ _ _ _).step ?_ rfl
    | with_reducible refine (showStaged_within _ _).step ?_ rfl
    | with_reducible refine Within.foldl _ ?_ ?_
    | (intro (x : State); refine Within.cut (x := x) (m := 0x600200280004) (s := s) ?_ (fun hx => ?_); unfold x)
    | intro x
    | lift_lets -underBinder
    | split
    | exact rfl
    | (split <;> rfl)
    | clear_value *

theorem passDurable_within (s : State) (p num rb : Nat) (body : List Nat) :
    Within 0x600200280004 s (State.passDurable s p num rb body) := by
  have h0 := Within.refl 0x600200280004 s
  unfold State.passDurable
  try lift_lets -underBinder
  repeat' first
    | with_reducible assumption
    | with_reducible refine Within.ite ?_ ?_
    | with_reducible refine (modTck_within _ _).step ?_ rfl
    | with_reducible refine (imageStaged_within _ _ _ _ _).step ?_ rfl
    | with_reducible refine Within.set 13 ?_ ?_ rfl
    | with_reducible refine Within.foldl _ ?_ ?_
    | (intro (x : State); refine Within.cut (x := x) (m := 0x600200280004) (s := s) ?_ (fun hx => ?_); unfold x)
    | intro x
    | lift_lets -underBinder
    | split
    | exact rfl
    | (split <;> rfl)
    | clear_value *

theorem execImageStage_within (p tag : Nat) (img : List Nat) (keyBad : Bool) (s : State) :
    ∃ t, execImageStage p tag img keyBad s = .next t ∧ Within 0x698200080006 s t := by
  refine ⟨_, rfl, ?_⟩
  have h0 := Within.refl 0x698200080006 s
  try lift_lets -underBinder
  repeat' first
    | with_reducible assumption
    | with_reducible refine Within.ite ?_ ?_
    | with_reducible refine Within.ite2 ?_ ?_
    | with_reducible refine take_within ?_ ?_ rfl
    | with_reducible refine (imgRefused_within _ _ _ _).step ?_ rfl
    | with_reducible refine (logChange_within _ _ _ _ _ _).step ?_ rfl
    | with_reducible refine (finish_within _ _ _ _ _ _).step ?_ rfl
    | with_reducible refine (newWork_within _ _ _).step ?_ rfl
    | with_reducible refine (tableReject_within _ _).step ?_ rfl
    | with_reducible refine Within.foldl _ ?_ ?_
    | with_reducible refine Within.foldl2 _ ?_ ?_
    | (intro (x : State); refine Within.cut (x := x) (m := 0x698200080006) (s := s) ?_ (fun hx => ?_); unfold x)
    | intro x
    | lift_lets -underBinder
    | split
    | exact rfl
    | (split <;> rfl)
    | clear_value *

theorem showRights_within (s : State) (q : Nat) :
    Within 0x200000000 s (State.showRights s q) := by
  have h0 := Within.refl 0x200000000 s
  unfold State.showRights
  try lift_lets -underBinder
  repeat' first
    | with_reducible assumption
    | with_reducible refine Within.ite ?_ ?_
    | with_reducible refine Within.setB 1 ?_ ?_ rfl
    | with_reducible refine Within.foldl _ ?_ ?_
    | (intro (x : State); refine Within.cut (x := x) (m := 0x200000000) (s := s) ?_ (fun hx => ?_); unfold x)
    | intro x
    | lift_lets -underBinder
    | split
    | exact rfl
    | (split <;> rfl)
    | clear_value *

theorem charterDurable_within (s : State) (p num q rb : Nat) (c : Charter) :
    Within 0x600200280006 s (State.charterDurable s p num q rb c) := by
  have h0 := Within.refl 0x600200280006 s
  unfold State.charterDurable
  try lift_lets -underBinder
  repeat' first
    | with_reducible assumption
    | with_reducible refine Within.ite ?_ ?_
    | with_reducible refine (modTck_within _ _).step ?_ rfl
    | with_reducible refine (signal_within _ _ _).step ?_ rfl
    | with_reducible refine Within.setB 1 ?_ ?_ rfl
    | with_reducible refine (showRights_within _ _).step ?_ rfl
    | with_reducible refine Within.set 13 ?_ ?_ rfl
    | with_reducible refine (closeWindow_within _ _).step ?_ rfl
    | with_reducible refine (finish_within _ _ _ _ _ _).step ?_ rfl
    | with_reducible refine Within.foldl _ ?_ ?_
    | (intro (x : State); refine Within.cut (x := x) (m := 0x600200280006) (s := s) ?_ (fun hx => ?_); unfold x)
    | intro x
    | lift_lets -underBinder
    | split
    | exact rfl
    | (split <;> rfl)
    | clear_value *

theorem execCharterLoad_within (p tag : Nat) (img : List Nat) (keyBad : Bool) (s : State) :
    ∃ t, execCharterLoad p tag img keyBad s = .next t ∧ Within 0x608200080004 s t := by
  refine ⟨_, rfl, ?_⟩
  have h0 := Within.refl 0x608200080004 s
  try lift_lets -underBinder
  repeat' first
    | with_reducible assumption
    | with_reducible refine Within.ite ?_ ?_
    | with_reducible refine take_within ?_ ?_ rfl
    | with_reducible refine (imgRefused_within _ _ _ _).step ?_ rfl
    | with_reducible refine (newWork_within _ _ _).step ?_ rfl
    | with_reducible refine Within.foldl _ ?_ ?_
    | (intro (x : State); refine Within.cut (x := x) (m := 0x608200080004) (s := s) ?_ (fun hx => ?_); unfold x)
    | intro x
    | lift_lets -underBinder
    | split
    | exact rfl
    | (split <;> rfl)
    | clear_value *

end Sys2Proof.Laws
end

