-- ==== Sys2Proof/Laws/WithinWalker.lean ====
section
/-!
SUPPORT. What the operations of Machine/Walker.lean may touch.
-/
namespace Sys2Proof.Laws

open Sys2Proof.Machine

theorem phaseLost_within (s : State) (n k cause : Nat) :
    Within 0x511200080034 s (State.phaseLost s n k cause) := by
  have h0 := Within.refl 0x511200080034 s
  unfold State.phaseLost
  try lift_lets -underBinder
  repeat' first
    | with_reducible assumption
    | with_reducible refine Within.ite ?_ ?_
    | with_reducible refine Within.setBit 4 ?_ ?_ rfl
    | with_reducible refine (modWalk_within _ _ _).step ?_ rfl
    | with_reducible refine (refreshCeil_within _ _).step ?_ rfl
    | with_reducible refine (raise_within _ _ _ _ _).step ?_ rfl
    | ((with_reducible refine Within.setB 4 ?_ ?hw rfl); case hw => first | exact rfl | assumption | (split <;> rfl))
    | ((with_reducible refine Within.setB 12 ?_ ?hw rfl); case hw => first | exact rfl | assumption | (split <;> rfl))
    | with_reducible refine (stopStall_within _ _ _ _).step ?_ rfl
    | ((with_reducible refine Within.set 4 ?_ ?hw rfl); case hw => first | exact rfl | assumption | (split <;> rfl))
    | ((with_reducible refine Within.set 12 ?_ ?hw rfl); case hw => first | exact rfl | assumption | (split <;> rfl))
    | with_reducible refine (modHalt_within _ _ _).step ?_ rfl
    | with_reducible refine Within.foldl _ ?_ ?_
    | (intro (x : State); refine Within.cut (x := x) (m := 0x511200080034) (s := s) ?_ (fun hx => ?_); unfold x)
    | intro x
    | lift_lets -underBinder
    | split
    | exact rfl
    | (split <;> rfl)
    | clear_value *

theorem senseUnplaced_within (s : State) (n : Nat) :
    Within 0x511200080034 s (State.senseUnplaced s n) := by
  have h0 := Within.refl 0x511200080034 s
  unfold State.senseUnplaced
  try lift_lets -underBinder
  repeat' first
    | with_reducible assumption
    | with_reducible refine Within.ite ?_ ?_
    | with_reducible refine (stopStall_within _ _ _ _).step ?_ rfl
    | with_reducible refine Within.set 4 ?_ ?_ rfl
    | with_reducible refine (modWalk_within _ _ _).step ?_ rfl
    | with_reducible refine Within.foldl _ ?_ ?_
    | (intro (x : State); refine Within.cut (x := x) (m := 0x511200080034) (s := s) ?_ (fun hx => ?_); unfold x)
    | intro x
    | lift_lets -underBinder
    | split
    | exact rfl
    | (split <;> rfl)
    | clear_value *

theorem phaseChecks_within (s : State) (n : Nat) (ty : StallType) (m : Means) :
    Within 0x511200080034 s (State.phaseChecks s n ty m) := by
  have h0 := Within.refl 0x511200080034 s
  unfold State.phaseChecks
  try lift_lets -underBinder
  repeat' first
    | with_reducible assumption
    | with_reducible refine Within.ite ?_ ?_
    | with_reducible refine (modWalk_within _ _ _).step ?_ rfl
    | with_reducible refine Within.forAll ?_ ?_
    | with_reducible refine (phaseLost_within _ _ _ _).step ?_ rfl
    | with_reducible refine (senseUnplaced_within _ _).step ?_ rfl
    | with_reducible refine Within.foldl _ ?_ ?_
    | (intro (x : State); refine Within.cut (x := x) (m := 0x511200080034) (s := s) ?_ (fun hx => ?_); unfold x)
    | intro x
    | lift_lets -underBinder
    | split
    | exact rfl
    | (split <;> rfl)
    | clear_value *

theorem vIn_within (s : State) (n : Nat) (ty : StallType) :
    Within 0x2 s (State.vIn s n ty).2 := by
  have h0 := Within.refl 0x2 s
  unfold State.vIn
  try lift_lets -underBinder
  repeat' first
    | with_reducible assumption
    | with_reducible refine Within.ite ?_ ?_
    | with_reducible refine Within.ite2 ?_ ?_
    | with_reducible refine (fresh_within _ _).step ?_ rfl
    | with_reducible refine Within.foldl _ ?_ ?_
    | with_reducible refine Within.foldl2 _ ?_ ?_
    | (intro (x : State); refine Within.cut (x := x) (m := 0x2) (s := s) ?_ (fun hx => ?_); unfold x)
    | intro x
    | lift_lets -underBinder
    | split
    | exact rfl
    | (split <;> rfl)
    | clear_value *

theorem controlLaw_within (s : State) (n : Nat) (ty : StallType) (m : Means) :
    Within 0x1000000012 s (State.controlLaw s n ty m).2 := by
  have h0 := Within.refl 0x1000000012 s
  unfold State.controlLaw
  try lift_lets -underBinder
  repeat' first
    | with_reducible assumption
    | with_reducible refine Within.ite ?_ ?_
    | with_reducible refine Within.ite2 ?_ ?_
    | with_reducible refine (vIn_within _ _ _).step ?_ rfl
    | with_reducible refine (modWalk_within _ _ _).step ?_ rfl
    | with_reducible refine Within.set 4 ?_ ?_ rfl
    | with_reducible refine Within.foldl _ ?_ ?_
    | with_reducible refine Within.foldl2 _ ?_ ?_
    | (intro (x : State); refine Within.cut (x := x) (m := 0x1000000012) (s := s) ?_ (fun hx => ?_); unfold x)
    | intro x
    | lift_lets -underBinder
    | split
    | exact rfl
    | (split <;> rfl)
    | clear_value *

theorem buildEdges_within (s : State) (n : Nat) (ty : StallType) (act lens : List Nat) :
    Within 0x10 s (State.buildEdges s n ty act lens) := by
  have h0 := Within.refl 0x10 s
  unfold State.buildEdges
  try lift_lets -underBinder
  repeat' first
    | with_reducible assumption
    | with_reducible refine Within.ite ?_ ?_
    | with_reducible refine (modWalk_within _ _ _).step ?_ rfl
    | with_reducible refine Within.foldl _ ?_ ?_
    | (intro (x : State); refine Within.cut (x := x) (m := 0x10) (s := s) ?_ (fun hx => ?_); unfold x)
    | intro x
    | lift_lets -underBinder
    | split
    | exact rfl
    | (split <;> rfl)
    | clear_value *

theorem stopsDone_within (s : State) (n : Nat) :
    Within 0x400200080014 s (State.stopsDone s n) := by
  have h0 := Within.refl 0x400200080014 s
  unfold State.stopsDone
  try lift_lets -underBinder
  repeat' first
    | with_reducible assumption
    | with_reducible refine Within.ite ?_ ?_
    | with_reducible refine (modWalk_within _ _ _).step ?_ rfl
    | with_reducible refine (finish_within _ _ _ _ _ _).step ?_ rfl
    | with_reducible refine Within.foldl _ ?_ ?_
    | (intro (x : State); refine Within.cut (x := x) (m := 0x400200080014) (s := s) ?_ (fun hx => ?_); unfold x)
    | intro x
    | lift_lets -underBinder
    | split
    | exact rfl
    | (split <;> rfl)
    | clear_value *

theorem rampReached_within (s : State) (n : Nat) :
    Within 0x511200080014 s (State.rampReached s n) := by
  have h0 := Within.refl 0x511200080014 s
  unfold State.rampReached
  try lift_lets -underBinder
  repeat' first
    | with_reducible assumption
    | with_reducible refine Within.ite ?_ ?_
    | with_reducible refine (modWalk_within _ _ _).step ?_ rfl
    | with_reducible refine (setMode_within _ _ _ _).step ?_ rfl
    | with_reducible refine (raise_within _ _ _ _ _).step ?_ rfl
    | with_reducible refine Within.foldl _ ?_ ?_
    | (intro (x : State); refine Within.cut (x := x) (m := 0x511200080014) (s := s) ?_ (fun hx => ?_); unfold x)
    | intro x
    | lift_lets -underBinder
    | split
    | exact rfl
    | (split <;> rfl)
    | clear_value *

theorem modeProgress_within (s : State) (n : Nat) (ty : StallType) (m : Means) :
    Within 0x511200080014 s (State.modeProgress s n ty m) := by
  have h0 := Within.refl 0x511200080014 s
  unfold State.modeProgress
  try lift_lets -underBinder
  repeat' first
    | with_reducible assumption
    | with_reducible refine Within.ite ?_ ?_
    | with_reducible refine (stopsDone_within _ _).step ?_ rfl
    | with_reducible refine (modWalk_within _ _ _).step ?_ rfl
    | with_reducible refine Within.set 4 ?_ ?_ rfl
    | with_reducible refine (rampReached_within _ _).step ?_ rfl
    | with_reducible refine Within.foldl _ ?_ ?_
    | (intro (x : State); refine Within.cut (x := x) (m := 0x511200080014) (s := s) ?_ (fun hx => ?_); unfold x)
    | intro x
    | lift_lets -underBinder
    | split
    | exact rfl
    | (split <;> rfl)
    | clear_value *

theorem twoStepPeriod_within (s : State) (n : Nat) :
    Within 0x38 s (State.twoStepPeriod s n).2 := by
  have h0 := Within.refl 0x38 s
  unfold State.twoStepPeriod
  try lift_lets -underBinder
  repeat' first
    | with_reducible assumption
    | with_reducible refine Within.ite ?_ ?_
    | with_reducible refine Within.ite2 ?_ ?_
    | with_reducible refine (modHalt_within _ _ _).step ?_ rfl
    | with_reducible refine (modWalk_within _ _ _).step ?_ rfl
    | with_reducible refine (modLink_within _ _ _).step ?_ rfl
    | with_reducible refine Within.foldl _ ?_ ?_
    | with_reducible refine Within.foldl2 _ ?_ ?_
    | (intro (x : State); refine Within.cut (x := x) (m := 0x38) (s := s) ?_ (fun hx => ?_); unfold x)
    | intro x
    | lift_lets -underBinder
    | split
    | exact rfl
    | (split <;> rfl)
    | clear_value *

theorem slackMin_within {m : Nat} {s t : State} {f : Fld} {slack : Int} (w : Nat) (h : Within m s t) (hw : f.win = w)
    (hm : m.testBit (32 + w % 256) = true) : Within m s (slackMin t f slack) := by
  unfold slackMin
  split
  · exact Within.setS w h hw hm
  · exact h

theorem computePeriod_within (s : State) (n : Nat) (ty : StallType) :
    Within 0x51120008003E s (State.computePeriod s n ty) := by
  have h0 := Within.refl 0x51120008003E s
  unfold State.computePeriod
  try lift_lets -underBinder
  repeat' first
    | with_reducible assumption
    | with_reducible refine Within.ite ?_ ?_
    | with_reducible refine Within.ite2 ?_ ?_
    | with_reducible refine (modWalk_within _ _ _).step ?_ rfl
    | with_reducible refine (finish_within _ _ _ _ _ _).step ?_ rfl
    | with_reducible refine Within.set 4 ?_ ?_ rfl
    | with_reducible refine (dropClose_within _ _ _).step ?_ rfl
    | with_reducible refine (modeProgress_within _ _ _ _).step ?_ rfl
    | with_reducible refine (twoStepPeriod_within _ _).step ?_ rfl
    | with_reducible refine (phaseChecks_within _ _ _ _).step ?_ rfl
    | with_reducible refine (controlLaw_within _ _ _ _).step ?_ rfl
    | with_reducible refine (buildEdges_within _ _ _ _ _).step ?_ rfl
    | with_reducible refine Within.foldl _ ?_ ?_
    | with_reducible refine Within.foldl2 _ ?_ ?_
    | (intro (x : State); refine Within.cut (x := x) (m := 0x51120008003E) (s := s) ?_ (fun hx => ?_); unfold x)
    | intro x
    | lift_lets -underBinder
    | split
    | exact rfl
    | (split <;> rfl)
    | clear_value *

theorem execWalkerPeriodCompute_within (n : Nat) (slack : Int) (s : State) :
    ∃ t, execWalkerPeriodCompute n slack s = .next t ∧ Within 0x51120008003E s t := by
  refine ⟨_, rfl, ?_⟩
  have h0 := Within.refl 0x51120008003E s
  try lift_lets -underBinder
  repeat' first
    | with_reducible assumption
    | with_reducible refine Within.ite ?_ ?_
    | with_reducible refine slackMin_within 4 ?_ ?_ rfl
    | with_reducible refine (modWalk_within _ _ _).step ?_ rfl
    | with_reducible refine (computePeriod_within _ _ _).step ?_ rfl
    | with_reducible refine Within.foldl _ ?_ ?_
    | (intro (x : State); refine Within.cut (x := x) (m := 0x51120008003E) (s := s) ?_ (fun hx => ?_); unfold x)
    | intro x
    | lift_lets -underBinder
    | split
    | exact rfl
    | (split <;> rfl)
    | clear_value *

theorem execModeTimeout_within (n : Nat) (s : State) :
    ∃ t, execModeTimeout n s = .next t ∧ Within 0x511200080014 s t := by
  refine ⟨_, rfl, ?_⟩
  have h0 := Within.refl 0x511200080014 s
  try lift_lets -underBinder
  repeat' first
    | with_reducible assumption
    | with_reducible refine Within.ite ?_ ?_
    | with_reducible refine (failMode_within _ _ _).step ?_ rfl
    | with_reducible refine (modWalk_within _ _ _).step ?_ rfl
    | with_reducible refine Within.foldl _ ?_ ?_
    | (intro (x : State); refine Within.cut (x := x) (m := 0x511200080014) (s := s) ?_ (fun hx => ?_); unfold x)
    | intro x
    | lift_lets -underBinder
    | split
    | exact rfl
    | (split <;> rfl)
    | clear_value *

theorem execContactorCloseTimeout_within (n : Nat) (s : State) :
    ∃ t, execContactorCloseTimeout n s = .next t ∧ Within 0x511200080014 s t := by
  refine ⟨_, rfl, ?_⟩
  have h0 := Within.refl 0x511200080014 s
  try lift_lets -underBinder
  repeat' first
    | with_reducible assumption
    | with_reducible refine Within.ite ?_ ?_
    | with_reducible refine (failMode_within _ _ _).step ?_ rfl
    | with_reducible refine Within.foldl _ ?_ ?_
    | (intro (x : State); refine Within.cut (x := x) (m := 0x511200080014) (s := s) ?_ (fun hx => ?_); unfold x)
    | intro x
    | lift_lets -underBinder
    | split
    | exact rfl
    | (split <;> rfl)
    | clear_value *

theorem execFfLostTimeout_within (n : Nat) (s : State) :
    ∃ t, execFfLostTimeout n s = .next t ∧ Within 0x511200080014 s t := by
  refine ⟨_, rfl, ?_⟩
  have h0 := Within.refl 0x511200080014 s
  try lift_lets -underBinder
  repeat' first
    | with_reducible assumption
    | with_reducible refine Within.ite ?_ ?_
    | with_reducible refine (failMode_within _ _ _).step ?_ rfl
    | with_reducible refine Within.foldl _ ?_ ?_
    | (intro (x : State); refine Within.cut (x := x) (m := 0x511200080014) (s := s) ?_ (fun hx => ?_); unfold x)
    | intro x
    | lift_lets -underBinder
    | split
    | exact rfl
    | (split <;> rfl)
    | clear_value *

theorem execPhaseLost_within (n k cause : Nat) (s : State) :
    ∃ t, execPhaseLost n k cause s = .next t ∧ Within 0x511200080034 s t := by
  refine ⟨_, rfl, ?_⟩
  have h0 := Within.refl 0x511200080034 s
  try lift_lets -underBinder
  repeat' first
    | with_reducible assumption
    | with_reducible refine Within.ite ?_ ?_
    | with_reducible refine (phaseLost_within _ _ _ _).step ?_ rfl
    | with_reducible refine Within.foldl _ ?_ ?_
    | (intro (x : State); refine Within.cut (x := x) (m := 0x511200080034) (s := s) ?_ (fun hx => ?_); unfold x)
    | intro x
    | lift_lets -underBinder
    | split
    | exact rfl
    | (split <;> rfl)
    | clear_value *

theorem execPhaseDegradedLimit_within (n : Nat) (s : State) :
    ∃ t, execPhaseDegradedLimit n s = .next t ∧ Within 0x511200080034 s t := by
  refine ⟨_, rfl, ?_⟩
  have h0 := Within.refl 0x511200080034 s
  try lift_lets -underBinder
  repeat' first
    | with_reducible assumption
    | with_reducible refine Within.ite ?_ ?_
    | with_reducible refine (raise_within _ _ _ _ _).step ?_ rfl
    | with_reducible refine (block_within _ _ _).step ?_ rfl
    | with_reducible refine (stopStall_within _ _ _ _).step ?_ rfl
    | ((with_reducible refine Within.set 4 ?_ ?hw rfl); case hw => first | exact rfl | assumption | (split <;> rfl))
    | ((with_reducible refine Within.set 12 ?_ ?hw rfl); case hw => first | exact rfl | assumption | (split <;> rfl))
    | with_reducible refine Within.foldl _ ?_ ?_
    | (intro (x : State); refine Within.cut (x := x) (m := 0x511200080034) (s := s) ?_ (fun hx => ?_); unfold x)
    | intro x
    | lift_lets -underBinder
    | split
    | exact rfl
    | (split <;> rfl)
    | clear_value *

theorem execTwoStepComplete_within (n : Nat) (s : State) :
    ∃ t, execTwoStepComplete n s = .next t ∧ Within 0x10 s t := by
  refine ⟨_, rfl, ?_⟩
  have h0 := Within.refl 0x10 s
  try lift_lets -underBinder
  repeat' first
    | with_reducible assumption
    | with_reducible refine Within.ite ?_ ?_
    | with_reducible refine (modWalk_within _ _ _).step ?_ rfl
    | with_reducible refine Within.foldl _ ?_ ?_
    | (intro (x : State); refine Within.cut (x := x) (m := 0x10) (s := s) ?_ (fun hx => ?_); unfold x)
    | intro x
    | lift_lets -underBinder
    | split
    | exact rfl
    | (split <;> rfl)
    | clear_value *

theorem enterMode_within (s : State) (n req vt : Nat) :
    Within 0x511200080014 s (State.enterMode s n req vt) := by
  have h0 := Within.refl 0x511200080014 s
  unfold State.enterMode
  try lift_lets -underBinder
  repeat' first
    | with_reducible assumption
    | with_reducible refine Within.ite ?_ ?_
    | with_reducible refine (setMode_within _ _ _ _).step ?_ rfl
    | with_reducible refine (startRamp_within _ _).step ?_ rfl
    | with_reducible refine (modWalk_within _ _ _).step ?_ rfl
    | with_reducible refine Within.set 4 ?_ ?_ rfl
    | with_reducible refine Within.foldl _ ?_ ?_
    | (intro (x : State); refine Within.cut (x := x) (m := 0x511200080014) (s := s) ?_ (fun hx => ?_); unfold x)
    | intro x
    | lift_lets -underBinder
    | split
    | exact rfl
    | (split <;> rfl)
    | clear_value *

theorem execLaneModeRequest_within (n mode vTarget : Nat) (s : State) :
    ∃ t, execLaneModeRequest n mode vTarget s = .next t ∧ Within 0x5112000A0014 s t := by
  refine ⟨_, rfl, ?_⟩
  have h0 := Within.refl 0x5112000A0014 s
  try lift_lets -underBinder
  repeat' first
    | with_reducible assumption
    | with_reducible refine Within.ite ?_ ?_
    | with_reducible refine (droMode_within _ _ _ _).step ?_ rfl
    | with_reducible refine (refuseMode_within _ _ _ _).step ?_ rfl
    | with_reducible refine (enterMode_within _ _ _ _).step ?_ rfl
    | with_reducible refine Within.foldl _ ?_ ?_
    | (intro (x : State); refine Within.cut (x := x) (m := 0x5112000A0014) (s := s) ?_ (fun hx => ?_); unfold x)
    | intro x
    | lift_lets -underBinder
    | split
    | exact rfl
    | (split <;> rfl)
    | clear_value *

theorem execStallStop_within (p tag : Nat) (s : State) :
    ∃ t, execStallStop p tag s = .next t ∧ Within 0x519200080014 s t := by
  refine ⟨_, rfl, ?_⟩
  have h0 := Within.refl 0x519200080014 s
  try lift_lets -underBinder
  repeat' first
    | with_reducible assumption
    | with_reducible refine Within.ite ?_ ?_
    | with_reducible refine take_within ?_ ?_ rfl
    | with_reducible refine (finish_within _ _ _ _ _ _).step ?_ rfl
    | with_reducible refine (modWalk_within _ _ _).step ?_ rfl
    | with_reducible refine (setMode_within _ _ _ _).step ?_ rfl
    | with_reducible refine (startTwoStep_within _ _).step ?_ rfl
    | with_reducible refine (startRamp_within _ _).step ?_ rfl
    | with_reducible refine Within.foldl _ ?_ ?_
    | (intro (x : State); refine Within.cut (x := x) (m := 0x519200080014) (s := s) ?_ (fun hx => ?_); unfold x)
    | intro x
    | lift_lets -underBinder
    | split
    | exact rfl
    | (split <;> rfl)
    | clear_value *

theorem execStallStopTimeout_within (n : Nat) (s : State) :
    ∃ t, execStallStopTimeout n s = .next t ∧ Within 0x400200080014 s t := by
  refine ⟨_, rfl, ?_⟩
  have h0 := Within.refl 0x400200080014 s
  try lift_lets -underBinder
  repeat' first
    | with_reducible assumption
    | with_reducible refine Within.ite ?_ ?_
    | with_reducible refine (finish_within _ _ _ _ _ _).step ?_ rfl
    | with_reducible refine (modWalk_within _ _ _).step ?_ rfl
    | with_reducible refine Within.foldl _ ?_ ?_
    | (intro (x : State); refine Within.cut (x := x) (m := 0x400200080014) (s := s) ?_ (fun hx => ?_); unfold x)
    | intro x
    | lift_lets -underBinder
    | split
    | exact rfl
    | (split <;> rfl)
    | clear_value *

theorem execLoopTune_within (p tag : Nat) (s : State) :
    ∃ t, execLoopTune p tag s = .next t ∧ Within 0x409200080014 s t := by
  refine ⟨_, rfl, ?_⟩
  have h0 := Within.refl 0x409200080014 s
  try lift_lets -underBinder
  repeat' first
    | with_reducible assumption
    | with_reducible refine Within.ite ?_ ?_
    | with_reducible refine take_within ?_ ?_ rfl
    | with_reducible refine (finish_within _ _ _ _ _ _).step ?_ rfl
    | with_reducible refine (modWalk_within _ _ _).step ?_ rfl
    | with_reducible refine Within.set 4 ?_ ?_ rfl
    | with_reducible refine Within.foldl _ ?_ ?_
    | (intro (x : State); refine Within.cut (x := x) (m := 0x409200080014) (s := s) ?_ (fun hx => ?_); unfold x)
    | intro x
    | lift_lets -underBinder
    | split
    | exact rfl
    | (split <;> rfl)
    | clear_value *

end Sys2Proof.Laws
end

