-- ==== Sys2Proof/Laws/WithinLanes.lean ====
section
/-!
SUPPORT. What the operations of Machine/Lanes.lean may touch.
-/
namespace Sys2Proof.Laws

open Sys2Proof.Machine

theorem setLane_within (s : State) (k v : Nat) :
    Within 0x100000000 s (State.setLane s k v) := by
  have h0 := Within.refl 0x100000000 s
  unfold State.setLane
  try lift_lets -underBinder
  repeat' first
    | with_reducible assumption
    | with_reducible refine Within.ite ?_ ?_
    | with_reducible refine Within.set 0 ?_ ?_ rfl
    | with_reducible refine Within.foldl _ ?_ ?_
    | (intro (x : State); refine Within.cut (x := x) (m := 0x100000000) (s := s) ?_ (fun hx => ?_); unfold x)
    | intro x
    | lift_lets -underBinder
    | split
    | exact rfl
    | (split <;> rfl)
    | (unfold laneFld; split <;> rfl)
    | clear_value *

theorem setSlot_within (s : State) (k v : Nat) :
    Within 0x100000000 s (State.setSlot s k v) := by
  have h0 := Within.refl 0x100000000 s
  unfold State.setSlot
  try lift_lets -underBinder
  repeat' first
    | with_reducible assumption
    | with_reducible refine Within.ite ?_ ?_
    | with_reducible refine Within.set 0 ?_ ?_ rfl
    | with_reducible refine Within.foldl _ ?_ ?_
    | (intro (x : State); refine Within.cut (x := x) (m := 0x100000000) (s := s) ?_ (fun hx => ?_); unfold x)
    | intro x
    | lift_lets -underBinder
    | split
    | exact rfl
    | (split <;> rfl)
    | clear_value *

theorem showVer_within (s : State) (k : Nat) :
    Within 0x100000000 s (State.showVer s k) := by
  have h0 := Within.refl 0x100000000 s
  unfold State.showVer
  try lift_lets -underBinder
  repeat' first
    | with_reducible assumption
    | with_reducible refine Within.ite ?_ ?_
    | with_reducible refine Within.set 0 ?_ ?_ rfl
    | with_reducible refine Within.foldl _ ?_ ?_
    | (intro (x : State); refine Within.cut (x := x) (m := 0x100000000) (s := s) ?_ (fun hx => ?_); unfold x)
    | intro x
    | lift_lets -underBinder
    | split
    | exact rfl
    | (split <;> rfl)
    | clear_value *

theorem laneIs_within (s : State) (k v : Nat) :
    Within 0x100000000 s (State.laneIs s k v) := by
  have h0 := Within.refl 0x100000000 s
  unfold State.laneIs
  try lift_lets -underBinder
  repeat' first
    | with_reducible assumption
    | with_reducible refine Within.ite ?_ ?_
    | with_reducible refine (showVer_within _ _).step ?_ rfl
    | with_reducible refine (setLane_within _ _ _).step ?_ rfl
    | with_reducible refine Within.foldl _ ?_ ?_
    | (intro (x : State); refine Within.cut (x := x) (m := 0x100000000) (s := s) ?_ (fun hx => ?_); unfold x)
    | intro x
    | lift_lets -underBinder
    | split
    | exact rfl
    | (split <;> rfl)
    | clear_value *

theorem refreshLane_within (s : State) :
    Within 0x400300180004 s (State.refreshLane s) := by
  have h0 := Within.refl 0x400300180004 s
  unfold State.refreshLane
  try lift_lets -underBinder
  repeat' first
    | with_reducible assumption
    | with_reducible refine Within.ite ?_ ?_
    | with_reducible refine Within.setB 0 ?_ ?_ rfl
    | with_reducible refine (raise_within _ _ _ _ _).step ?_ rfl
    | with_reducible refine (modLan_within _ _).step ?_ rfl
    | with_reducible refine Within.set 0 ?_ ?_ rfl
    | with_reducible refine Within.foldl _ ?_ ?_
    | (intro (x : State); refine Within.cut (x := x) (m := 0x400300180004) (s := s) ?_ (fun hx => ?_); unfold x)
    | intro x
    | lift_lets -underBinder
    | split
    | exact rfl
    | (split <;> rfl)
    | clear_value *

theorem bootLane_within (s : State) (k slot : Nat) :
    Within 0x100100000 s (State.bootLane s k slot) := by
  have h0 := Within.refl 0x100100000 s
  unfold State.bootLane
  try lift_lets -underBinder
  repeat' first
    | with_reducible assumption
    | with_reducible refine Within.ite ?_ ?_
    | with_reducible refine (laneIs_within _ _ _).step ?_ rfl
    | with_reducible refine (setSlot_within _ _ _).step ?_ rfl
    | with_reducible refine (modLan_within _ _).step ?_ rfl
    | with_reducible refine Within.foldl _ ?_ ?_
    | (intro (x : State); refine Within.cut (x := x) (m := 0x100100000) (s := s) ?_ (fun hx => ?_); unfold x)
    | intro x
    | lift_lets -underBinder
    | split
    | exact rfl
    | (split <;> rfl)
    | clear_value *

theorem countLoss_within (s : State) (k : Nat) :
    Within 0x400200180004 s (State.countLoss s k) := by
  have h0 := Within.refl 0x400200180004 s
  unfold State.countLoss
  try lift_lets -underBinder
  repeat' first
    | with_reducible assumption
    | with_reducible refine Within.ite ?_ ?_
    | with_reducible refine (modLan_within _ _).step ?_ rfl
    | with_reducible refine (raise_within _ _ _ _ _).step ?_ rfl
    | with_reducible refine Within.foldl _ ?_ ?_
    | (intro (x : State); refine Within.cut (x := x) (m := 0x400200180004) (s := s) ?_ (fun hx => ?_); unfold x)
    | intro x
    | lift_lets -underBinder
    | split
    | exact rfl
    | (split <;> rfl)
    | clear_value *

theorem dropStale_within (s : State) (p num : Nat) :
    Within 0xC0400 s (State.dropStale s p num) := by
  have h0 := Within.refl 0xC0400 s
  unfold State.dropStale
  try lift_lets -underBinder
  repeat' first
    | with_reducible assumption
    | with_reducible refine Within.ite ?_ ?_
    | with_reducible refine (modYms_within _ _).step ?_ rfl
    | with_reducible refine (modHay_within _ _ ?_).step ?_ rfl
    | exact fun _ => rfl
    | with_reducible refine (modCan_within _ _).step ?_ rfl
    | with_reducible refine Within.foldl _ ?_ ?_
    | (intro (x : State); refine Within.cut (x := x) (m := 0xC0400) (s := s) ?_ (fun hx => ?_); unfold x)
    | intro x
    | lift_lets -underBinder
    | split
    | exact rfl
    | (split <;> rfl)
    | clear_value *

theorem reexec_within (s : State) (p : Nat) (d : Desc) :
    Within 0x8C0404 s (State.reexec s p d) := by
  have h0 := Within.refl 0x8C0404 s
  unfold State.reexec
  try lift_lets -underBinder
  repeat' first
    | with_reducible assumption
    | with_reducible refine Within.ite ?_ ?_
    | with_reducible refine (modPd_within _ _ _).step ?_ rfl
    | with_reducible refine (countFetch_within _).step ?_ rfl
    | with_reducible refine (dropStale_within _ _ _).step ?_ rfl
    | with_reducible refine Within.foldl _ ?_ ?_
    | (intro (x : State); refine Within.cut (x := x) (m := 0x8C0404) (s := s) ?_ (fun hx => ?_); unfold x)
    | intro x
    | lift_lets -underBinder
    | split
    | with_reducible refine Within.startNumUpd.step ?_ rfl
    | exact rfl
    | (split <;> rfl)
    | clear_value *

theorem abortHandover_within (s : State) (p : Nat) (d : Desc) :
    Within 0x400200080004 s (State.abortHandover s p d) := by
  have h0 := Within.refl 0x400200080004 s
  unfold State.abortHandover
  try lift_lets -underBinder
  repeat' first
    | with_reducible assumption
    | with_reducible refine Within.ite ?_ ?_
    | with_reducible refine (completeD_within _ _ _ _ _ _).step ?_ rfl
    | with_reducible refine (modPd_within _ _ _).step ?_ rfl
    | with_reducible refine Within.foldl _ ?_ ?_
    | (intro (x : State); refine Within.cut (x := x) (m := 0x400200080004) (s := s) ?_ (fun hx => ?_); unfold x)
    | intro x
    | lift_lets -underBinder
    | split
    | exact rfl
    | (split <;> rfl)
    | clear_value *

theorem resolveDesc_within (s : State) (p : Nat) (d : Desc) :
    Within 0x4002008C0404 s (State.resolveDesc s p d) := by
  have h0 := Within.refl 0x4002008C0404 s
  unfold State.resolveDesc
  try lift_lets -underBinder
  repeat' first
    | with_reducible assumption
    | with_reducible refine Within.ite ?_ ?_
    | with_reducible refine (reexec_within _ _ _).step ?_ rfl
    | with_reducible refine (abortHandover_within _ _ _).step ?_ rfl
    | with_reducible refine Within.foldl _ ?_ ?_
    | (intro (x : State); refine Within.cut (x := x) (m := 0x4002008C0404) (s := s) ?_ (fun hx => ?_); unfold x)
    | intro x
    | lift_lets -underBinder
    | split
    | exact rfl
    | (split <;> rfl)
    | clear_value *

theorem resolveStarted_within (s : State) (keep : List (Nat × Nat)) :
    Within 0x4002008C0404 s (State.resolveStarted s keep) := by
  have h0 := Within.refl 0x4002008C0404 s
  unfold State.resolveStarted
  try lift_lets -underBinder
  repeat' first
    | with_reducible assumption
    | with_reducible refine Within.ite ?_ ?_
    | with_reducible refine Within.forAll ?_ ?_
    | with_reducible refine (resolveDesc_within _ _ _).step ?_ rfl
    | with_reducible refine Within.foldl _ ?_ ?_
    | (intro (x : State); refine Within.cut (x := x) (m := 0x4002008C0404) (s := s) ?_ (fun hx => ?_); unfold x)
    | intro x
    | lift_lets -underBinder
    | split
    | exact rfl
    | (split <;> rfl)
    | clear_value *

theorem fwEvent_within (s : State) (step outcome : Nat) :
    Within 0x400200080004 s (State.fwEvent s step outcome) := by
  have h0 := Within.refl 0x400200080004 s
  unfold State.fwEvent
  try lift_lets -underBinder
  repeat' first
    | with_reducible assumption
    | with_reducible refine Within.ite ?_ ?_
    | with_reducible refine (raise_within _ _ _ _ _).step ?_ rfl
    | with_reducible refine Within.foldl _ ?_ ?_
    | (intro (x : State); refine Within.cut (x := x) (m := 0x400200080004) (s := s) ?_ (fun hx => ?_); unfold x)
    | intro x
    | lift_lets -underBinder
    | split
    | exact rfl
    | (split <;> rfl)
    | clear_value *

theorem fwStep_within (s : State) (n : Nat) :
    Within 0x400300080004 s (State.fwStep s n) := by
  have h0 := Within.refl 0x400300080004 s
  unfold State.fwStep
  try lift_lets -underBinder
  repeat' first
    | with_reducible assumption
    | with_reducible refine Within.ite ?_ ?_
    | with_reducible refine (fwEvent_within _ _ _).step ?_ rfl
    | with_reducible refine Within.setB 0 ?_ ?_ rfl
    | with_reducible refine Within.set 0 ?_ ?_ rfl
    | with_reducible refine Within.foldl _ ?_ ?_
    | (intro (x : State); refine Within.cut (x := x) (m := 0x400300080004) (s := s) ?_ (fun hx => ?_); unfold x)
    | intro x
    | lift_lets -underBinder
    | split
    | exact rfl
    | (split <;> rfl)
    | clear_value *

theorem fwEnd_within (s : State) (status result : Nat) :
    Within 0x400300180004 s (State.fwEnd s status result) := by
  have h0 := Within.refl 0x400300180004 s
  unfold State.fwEnd
  try lift_lets -underBinder
  repeat' first
    | with_reducible assumption
    | with_reducible refine Within.ite ?_ ?_
    | with_reducible refine Within.setB 0 ?_ ?_ rfl
    | with_reducible refine Within.set 0 ?_ ?_ rfl
    | with_reducible refine (modLan_within _ _).step ?_ rfl
    | with_reducible refine (finish_within _ _ _ _ _ _).step ?_ rfl
    | with_reducible refine Within.foldl _ ?_ ?_
    | (intro (x : State); refine Within.cut (x := x) (m := 0x400300180004) (s := s) ?_ (fun hx => ?_); unfold x)
    | intro x
    | lift_lets -underBinder
    | split
    | exact rfl
    | (split <;> rfl)
    | clear_value *

theorem fwFail_within (s : State) (status : Nat) :
    Within 0x400300180004 s (State.fwFail s status) := by
  have h0 := Within.refl 0x400300180004 s
  unfold State.fwFail
  try lift_lets -underBinder
  repeat' first
    | with_reducible assumption
    | with_reducible refine Within.ite ?_ ?_
    | with_reducible refine (fwEvent_within _ _ _).step ?_ rfl
    | with_reducible refine (refreshLane_within _).step ?_ rfl
    | with_reducible refine (fwEnd_within _ _ _).step ?_ rfl
    | with_reducible refine (bootLane_within _ _ _).step ?_ rfl
    | with_reducible refine Within.foldl _ ?_ ?_
    | (intro (x : State); refine Within.cut (x := x) (m := 0x400300180004) (s := s) ?_ (fun hx => ?_); unfold x)
    | intro x
    | lift_lets -underBinder
    | split
    | exact rfl
    | (split <;> rfl)
    | clear_value *

theorem startHandover_within (s : State) (why : Nat) (desc : Option (Nat × Nat)) :
    Within 0x100100000 s (State.startHandover s why desc) := by
  have h0 := Within.refl 0x100100000 s
  unfold State.startHandover
  try lift_lets -underBinder
  repeat' first
    | with_reducible assumption
    | with_reducible refine Within.ite ?_ ?_
    | with_reducible refine Within.setB 0 ?_ ?_ rfl
    | with_reducible refine (modLan_within _ _).step ?_ rfl
    | with_reducible refine Within.foldl _ ?_ ?_
    | (intro (x : State); refine Within.cut (x := x) (m := 0x100100000) (s := s) ?_ (fun hx => ?_); unfold x)
    | intro x
    | lift_lets -underBinder
    | split
    | exact rfl
    | (split <;> rfl)
    | clear_value *

theorem endHandover_within (s : State) :
    Within 0x100100000 s (State.endHandover s) := by
  have h0 := Within.refl 0x100100000 s
  unfold State.endHandover
  try lift_lets -underBinder
  repeat' first
    | with_reducible assumption
    | with_reducible refine Within.ite ?_ ?_
    | with_reducible refine Within.setB 0 ?_ ?_ rfl
    | with_reducible refine (modLan_within _ _).step ?_ rfl
    | with_reducible refine Within.foldl _ ?_ ?_
    | (intro (x : State); refine Within.cut (x := x) (m := 0x100100000) (s := s) ?_ (fun hx => ?_); unfold x)
    | intro x
    | lift_lets -underBinder
    | split
    | exact rfl
    | (split <;> rfl)
    | clear_value *

theorem abandonHandover_within (s : State) :
    Within 0x400300180004 s (State.abandonHandover s) := by
  have h0 := Within.refl 0x400300180004 s
  unfold State.abandonHandover
  try lift_lets -underBinder
  repeat' first
    | with_reducible assumption
    | with_reducible refine Within.ite ?_ ?_
    | with_reducible refine (endHandover_within _).step ?_ rfl
    | with_reducible refine (finish_within _ _ _ _ _ _).step ?_ rfl
    | with_reducible refine (fwFail_within _ _).step ?_ rfl
    | with_reducible refine (refreshLane_within _).step ?_ rfl
    | with_reducible refine Within.foldl _ ?_ ?_
    | (intro (x : State); refine Within.cut (x := x) (m := 0x400300180004) (s := s) ?_ (fun hx => ?_); unfold x)
    | intro x
    | lift_lets -underBinder
    | split
    | exact rfl
    | (split <;> rfl)
    | clear_value *

theorem handoverDone_within (s : State) (h : Handover) :
    Within 0x600300BC0404 s (State.handoverDone s h) := by
  have h0 := Within.refl 0x600300BC0404 s
  unfold State.handoverDone
  try lift_lets -underBinder
  repeat' first
    | with_reducible assumption
    | with_reducible refine Within.ite ?_ ?_
    | with_reducible refine (laneIs_within _ _ _).step ?_ rfl
    | with_reducible refine Within.set 0 ?_ ?_ rfl
    | with_reducible refine (endHandover_within _).step ?_ rfl
    | with_reducible refine (bootLane_within _ _ _).step ?_ rfl
    | with_reducible refine (modLan_within _ _).step ?_ rfl
    | with_reducible refine (raise_within _ _ _ _ _).step ?_ rfl
    | with_reducible refine Within.incSat 0 ?_ ?_ rfl
    | with_reducible refine (resolveStarted_within _ _).step ?_ rfl
    | with_reducible refine (cancelSwitch_within _ _).step ?_ rfl
    | with_reducible refine (finish_within _ _ _ _ _ _).step ?_ rfl
    | with_reducible refine (fwStep_within _ _).step ?_ rfl
    | with_reducible refine (fwEvent_within _ _ _).step ?_ rfl
    | with_reducible refine (refreshLane_within _).step ?_ rfl
    | with_reducible refine Within.foldl _ ?_ ?_
    | (intro (x : State); refine Within.cut (x := x) (m := 0x600300BC0404) (s := s) ?_ (fun hx => ?_); unfold x)
    | intro x
    | lift_lets -underBinder
    | split
    | exact rfl
    | (split <;> rfl)
    | clear_value *

theorem execLaneHandover_within (p tag : Nat) (s : State) :
    ∃ t, execLaneHandover p tag s = .next t ∧ Within 0x408300180004 s t := by
  refine ⟨_, rfl, ?_⟩
  have h0 := Within.refl 0x408300180004 s
  try lift_lets -underBinder
  repeat' first
    | with_reducible assumption
    | with_reducible refine Within.ite ?_ ?_
    | with_reducible refine take_within ?_ ?_ rfl
    | with_reducible refine (finish_within _ _ _ _ _ _).step ?_ rfl
    | with_reducible refine (startHandover_within _ _ _).step ?_ rfl
    | with_reducible refine Within.foldl _ ?_ ?_
    | (intro (x : State); refine Within.cut (x := x) (m := 0x408300180004) (s := s) ?_ (fun hx => ?_); unfold x)
    | intro x
    | lift_lets -underBinder
    | split
    | exact rfl
    | (split <;> rfl)
    | clear_value *

theorem execFwActivate_within (p tag : Nat) (s : State) :
    ∃ t, execFwActivate p tag s = .next t ∧ Within 0x408300180004 s t := by
  refine ⟨_, rfl, ?_⟩
  have h0 := Within.refl 0x408300180004 s
  try lift_lets -underBinder
  repeat' first
    | with_reducible assumption
    | with_reducible refine Within.ite ?_ ?_
    | with_reducible refine take_within ?_ ?_ rfl
    | with_reducible refine (finish_within _ _ _ _ _ _).step ?_ rfl
    | with_reducible refine (modLan_within _ _).step ?_ rfl
    | with_reducible refine (refreshLane_within _).step ?_ rfl
    | with_reducible refine (fwStep_within _ _).step ?_ rfl
    | with_reducible refine (bootLane_within _ _ _).step ?_ rfl
    | with_reducible refine Within.foldl _ ?_ ?_
    | (intro (x : State); refine Within.cut (x := x) (m := 0x408300180004) (s := s) ?_ (fun hx => ?_); unfold x)
    | intro x
    | lift_lets -underBinder
    | split
    | exact rfl
    | (split <;> rfl)
    | clear_value *

theorem execFwStandbyVerified_within (sigOk selfOk : Bool) (s : State) :
    ∃ t, execFwStandbyVerified sigOk selfOk s = .next t ∧ Within 0x400300180004 s t := by
  refine ⟨_, rfl, ?_⟩
  have h0 := Within.refl 0x400300180004 s
  try lift_lets -underBinder
  repeat' first
    | with_reducible assumption
    | with_reducible refine Within.ite ?_ ?_
    | with_reducible refine (fwFail_within _ _).step ?_ rfl
    | with_reducible refine (laneIs_within _ _ _).step ?_ rfl
    | with_reducible refine (modLan_within _ _).step ?_ rfl
    | with_reducible refine (fwStep_within _ _).step ?_ rfl
    | with_reducible refine (fwEvent_within _ _ _).step ?_ rfl
    | with_reducible refine Within.foldl _ ?_ ?_
    | (intro (x : State); refine Within.cut (x := x) (m := 0x400300180004) (s := s) ?_ (fun hx => ?_); unfold x)
    | intro x
    | lift_lets -underBinder
    | split
    | exact rfl
    | (split <;> rfl)
    | clear_value *

theorem execFwProbationExpiry_within (s : State) :
    ∃ t, execFwProbationExpiry s = .next t ∧ Within 0x600300380004 s t := by
  refine ⟨_, rfl, ?_⟩
  have h0 := Within.refl 0x600300380004 s
  try lift_lets -underBinder
  repeat' first
    | with_reducible assumption
    | with_reducible refine Within.ite ?_ ?_
    | with_reducible refine (fwStep_within _ _).step ?_ rfl
    | with_reducible refine (fwEvent_within _ _ _).step ?_ rfl
    | ((with_reducible refine Within.set 0 ?_ ?hw rfl); case hw => first | exact rfl | assumption | (split <;> rfl))
    | ((with_reducible refine Within.set 13 ?_ ?hw rfl); case hw => first | exact rfl | assumption | (split <;> rfl))
    | with_reducible refine (modTck_within _ _).step ?_ rfl
    | with_reducible refine (showStaged_within _ _).step ?_ rfl
    | with_reducible refine (refreshLane_within _).step ?_ rfl
    | with_reducible refine (bootLane_within _ _ _).step ?_ rfl
    | with_reducible refine Within.foldl _ ?_ ?_
    | (intro (x : State); refine Within.cut (x := x) (m := 0x600300380004) (s := s) ?_ (fun hx => ?_); unfold x)
    | intro x
    | lift_lets -underBinder
    | split
    | exact rfl
    | (split <;> rfl)
    | clear_value *

theorem execFwOldLaneRebooted_within (ok : Bool) (s : State) :
    ∃ t, execFwOldLaneRebooted ok s = .next t ∧ Within 0x400300180004 s t := by
  refine ⟨_, rfl, ?_⟩
  have h0 := Within.refl 0x400300180004 s
  try lift_lets -underBinder
  repeat' first
    | with_reducible assumption
    | with_reducible refine Within.ite ?_ ?_
    | with_reducible refine (refreshLane_within _).step ?_ rfl
    | with_reducible refine (fwEnd_within _ _ _).step ?_ rfl
    | with_reducible refine (fwEvent_within _ _ _).step ?_ rfl
    | with_reducible refine (laneIs_within _ _ _).step ?_ rfl
    | with_reducible refine (modLan_within _ _).step ?_ rfl
    | with_reducible refine Within.foldl _ ?_ ?_
    | (intro (x : State); refine Within.cut (x := x) (m := 0x400300180004) (s := s) ?_ (fun hx => ?_); unfold x)
    | intro x
    | lift_lets -underBinder
    | split
    | exact rfl
    | (split <;> rfl)
    | clear_value *

theorem execFwStepTimeout_within (s : State) :
    ∃ t, execFwStepTimeout s = .next t ∧ Within 0x400300180004 s t := by
  refine ⟨_, rfl, ?_⟩
  have h0 := Within.refl 0x400300180004 s
  try lift_lets -underBinder
  repeat' first
    | with_reducible assumption
    | with_reducible refine Within.ite ?_ ?_
    | with_reducible refine (fwFail_within _ _).step ?_ rfl
    | with_reducible refine (refreshLane_within _).step ?_ rfl
    | with_reducible refine (fwEnd_within _ _ _).step ?_ rfl
    | with_reducible refine (fwEvent_within _ _ _).step ?_ rfl
    | with_reducible refine Within.foldl _ ?_ ?_
    | (intro (x : State); refine Within.cut (x := x) (m := 0x400300180004) (s := s) ?_ (fun hx => ?_); unfold x)
    | intro x
    | lift_lets -underBinder
    | split
    | exact rfl
    | (split <;> rfl)
    | clear_value *

theorem loseActive_within (s : State) (cause : Nat) :
    Within 0xFFFFFFFFFFFFFFFFFFFFFFFFFFFFFFFFFFFFFFFFFFFFFFFFFFFFFFFFFFFFFFFF00788036 s (State.loseActive s cause) := by
  have h0 := Within.refl 0xFFFFFFFFFFFFFFFFFFFFFFFFFFFFFFFFFFFFFFFFFFFFFFFFFFFFFFFFFFFFFFFF00788036 s
  unfold State.loseActive
  try lift_lets -underBinder
  repeat' first
    | with_reducible assumption
    | with_reducible refine Within.ite ?_ ?_
    | with_reducible refine (laneIs_within _ _ _).step ?_ rfl
    | with_reducible refine (countLoss_within _ _).step ?_ rfl
    | with_reducible refine (modLan_within _ _).step ?_ rfl
    | with_reducible refine (requestReset_within _ _ _).step ?_ rfl
    | with_reducible refine Within.foldl _ ?_ ?_
    | (intro (x : State); refine Within.cut (x := x) (m := 0xFFFFFFFFFFFFFFFFFFFFFFFFFFFFFFFFFFFFFFFFFFFFFFFFFFFFFFFFFFFFFFFF00788036) (s := s) ?_ (fun hx => ?_); unfold x)
    | intro x
    | lift_lets -underBinder
    | split
    | exact rfl
    | (split <;> rfl)
    | clear_value *

theorem loseStandby_within (s : State) (k : Nat) :
    Within 0x400300180004 s (State.loseStandby s k) := by
  have h0 := Within.refl 0x400300180004 s
  unfold State.loseStandby
  try lift_lets -underBinder
  repeat' first
    | with_reducible assumption
    | with_reducible refine Within.ite ?_ ?_
    | with_reducible refine (refreshLane_within _).step ?_ rfl
    | with_reducible refine (bootLane_within _ _ _).step ?_ rfl
    | with_reducible refine (countLoss_within _ _).step ?_ rfl
    | with_reducible refine Within.foldl _ ?_ ?_
    | (intro (x : State); refine Within.cut (x := x) (m := 0x400300180004) (s := s) ?_ (fun hx => ?_); unfold x)
    | intro x
    | lift_lets -underBinder
    | split
    | exact rfl
    | (split <;> rfl)
    | clear_value *

theorem execLaneHeartbeat_within (s : State) :
    ∃ t, execLaneHeartbeat s = .next t ∧ Within 0x100000 s t := by
  refine ⟨_, rfl, ?_⟩
  have h0 := Within.refl 0x100000 s
  try lift_lets -underBinder
  repeat' first
    | with_reducible assumption
    | with_reducible refine Within.ite ?_ ?_
    | with_reducible refine (modLan_within _ _).step ?_ rfl
    | with_reducible refine Within.foldl _ ?_ ?_
    | (intro (x : State); refine Within.cut (x := x) (m := 0x100000) (s := s) ?_ (fun hx => ?_); unfold x)
    | intro x
    | lift_lets -underBinder
    | split
    | exact rfl
    | (split <;> rfl)
    | clear_value *

theorem execLaneHeartbeatTimeout_within (s : State) :
    ∃ t, execLaneHeartbeatTimeout s = .next t ∧ Within 0xFFFFFFFFFFFFFFFFFFFFFFFFFFFFFFFFFFFFFFFFFFFFFFFFFFFFFFFFFFFFFFFF00788036 s t := by
  refine ⟨_, rfl, ?_⟩
  have h0 := Within.refl 0xFFFFFFFFFFFFFFFFFFFFFFFFFFFFFFFFFFFFFFFFFFFFFFFFFFFFFFFFFFFFFFFF00788036 s
  try lift_lets -underBinder
  repeat' first
    | with_reducible assumption
    | with_reducible refine Within.ite ?_ ?_
    | with_reducible refine (loseActive_within _ _).step ?_ rfl
    | with_reducible refine Within.foldl _ ?_ ?_
    | (intro (x : State); refine Within.cut (x := x) (m := 0xFFFFFFFFFFFFFFFFFFFFFFFFFFFFFFFFFFFFFFFFFFFFFFFFFFFFFFFFFFFFFFFF00788036) (s := s) ?_ (fun hx => ?_); unfold x)
    | intro x
    | lift_lets -underBinder
    | split
    | exact rfl
    | (split <;> rfl)
    | clear_value *

theorem execLaneFaultReport_within (lane : Nat) (s : State) :
    ∃ t, execLaneFaultReport lane s = .next t ∧ Within 0xFFFFFFFFFFFFFFFFFFFFFFFFFFFFFFFFFFFFFFFFFFFFFFFFFFFFFFFFFFFFFFFF00788036 s t := by
  refine ⟨_, rfl, ?_⟩
  have h0 := Within.refl 0xFFFFFFFFFFFFFFFFFFFFFFFFFFFFFFFFFFFFFFFFFFFFFFFFFFFFFFFFFFFFFFFF00788036 s
  try lift_lets -underBinder
  repeat' first
    | with_reducible assumption
    | with_reducible refine Within.ite ?_ ?_
    | with_reducible refine (loseActive_within _ _).step ?_ rfl
    | with_reducible refine (requestReset_within _ _ _).step ?_ rfl
    | with_reducible refine (loseStandby_within _ _).step ?_ rfl
    | with_reducible refine Within.foldl _ ?_ ?_
    | (intro (x : State); refine Within.cut (x := x) (m := 0xFFFFFFFFFFFFFFFFFFFFFFFFFFFFFFFFFFFFFFFFFFFFFFFFFFFFFFFFFFFFFFFF00788036) (s := s) ?_ (fun hx => ?_); unfold x)
    | intro x
    | lift_lets -underBinder
    | split
    | exact rfl
    | (split <;> rfl)
    | clear_value *

theorem fwTakeover_within (s : State) :
    Within 0x600300380004 s (State.fwTakeover s) := by
  have h0 := Within.refl 0x600300380004 s
  unfold State.fwTakeover
  try lift_lets -underBinder
  repeat' first
    | with_reducible assumption
    | with_reducible refine Within.ite ?_ ?_
    | with_reducible refine (showStaged_within _ _).step ?_ rfl
    | with_reducible refine (modTck_within _ _).step ?_ rfl
    | with_reducible refine (fwEnd_within _ _ _).step ?_ rfl
    | with_reducible refine (fwEvent_within _ _ _).step ?_ rfl
    | with_reducible refine Within.foldl _ ?_ ?_
    | (intro (x : State); refine Within.cut (x := x) (m := 0x600300380004) (s := s) ?_ (fun hx => ?_); unfold x)
    | intro x
    | lift_lets -underBinder
    | split
    | exact rfl
    | (split <;> rfl)
    | clear_value *

theorem execLaneTakeoverComplete_within (gap : Nat) (s : State) :
    ∃ t, execLaneTakeoverComplete gap s = .next t ∧ Within 0x600300BC0404 s t := by
  refine ⟨_, rfl, ?_⟩
  have h0 := Within.refl 0x600300BC0404 s
  try lift_lets -underBinder
  repeat' first
    | with_reducible assumption
    | with_reducible refine Within.ite ?_ ?_
    | with_reducible refine (laneIs_within _ _ _).step ?_ rfl
    | with_reducible refine Within.set 0 ?_ ?_ rfl
    | with_reducible refine (modLan_within _ _).step ?_ rfl
    | with_reducible refine (raise_within _ _ _ _ _).step ?_ rfl
    | with_reducible refine Within.incSat 0 ?_ ?_ rfl
    | with_reducible refine (finish_within _ _ _ _ _ _).step ?_ rfl
    | with_reducible refine (endHandover_within _).step ?_ rfl
    | with_reducible refine (resolveStarted_within _ _).step ?_ rfl
    | with_reducible refine (cancelSwitch_within _ _).step ?_ rfl
    | with_reducible refine (bootLane_within _ _ _).step ?_ rfl
    | with_reducible refine (fwTakeover_within _).step ?_ rfl
    | with_reducible refine (refreshLane_within _).step ?_ rfl
    | with_reducible refine Within.foldl _ ?_ ?_
    | (intro (x : State); refine Within.cut (x := x) (m := 0x600300BC0404) (s := s) ?_ (fun hx => ?_); unfold x)
    | intro x
    | lift_lets -underBinder
    | split
    | exact rfl
    | (split <;> rfl)
    | clear_value *

theorem laneUp_within (s : State) (k : Nat) :
    Within 0x100100000 s (State.laneUp s k) := by
  have h0 := Within.refl 0x100100000 s
  unfold State.laneUp
  try lift_lets -underBinder
  repeat' first
    | with_reducible assumption
    | with_reducible refine Within.ite ?_ ?_
    | with_reducible refine (modLan_within _ _).step ?_ rfl
    | with_reducible refine (laneIs_within _ _ _).step ?_ rfl
    | with_reducible refine Within.set 0 ?_ ?_ rfl
    | with_reducible refine Within.foldl _ ?_ ?_
    | (intro (x : State); refine Within.cut (x := x) (m := 0x100100000) (s := s) ?_ (fun hx => ?_); unfold x)
    | intro x
    | lift_lets -underBinder
    | split
    | exact rfl
    | (split <;> rfl)
    | clear_value *

theorem laneTested_within (s : State) (k : Nat) (ok : Bool) :
    Within 0x400300180004 s (State.laneTested s k ok) := by
  have h0 := Within.refl 0x400300180004 s
  unfold State.laneTested
  try lift_lets -underBinder
  repeat' first
    | with_reducible assumption
    | with_reducible refine Within.ite ?_ ?_
    | with_reducible refine (modLan_within _ _).step ?_ rfl
    | with_reducible refine (laneIs_within _ _ _).step ?_ rfl
    | with_reducible refine (laneUp_within _ _).step ?_ rfl
    | with_reducible refine (refreshLane_within _).step ?_ rfl
    | with_reducible refine Within.foldl _ ?_ ?_
    | (intro (x : State); refine Within.cut (x := x) (m := 0x400300180004) (s := s) ?_ (fun hx => ?_); unfold x)
    | intro x
    | lift_lets -underBinder
    | split
    | exact rfl
    | (split <;> rfl)
    | clear_value *

theorem execLaneRebootReady_within (lane : Nat) (ok : Bool) (s : State) :
    ∃ t, execLaneRebootReady lane ok s = .next t ∧ Within 0x400300180004 s t := by
  refine ⟨_, rfl, ?_⟩
  have h0 := Within.refl 0x400300180004 s
  try lift_lets -underBinder
  repeat' first
    | with_reducible assumption
    | with_reducible refine Within.ite ?_ ?_
    | with_reducible refine (laneTested_within _ _ _).step ?_ rfl
    | with_reducible refine (modLan_within _ _).step ?_ rfl
    | with_reducible refine (refreshLane_within _).step ?_ rfl
    | with_reducible refine (laneIs_within _ _ _).step ?_ rfl
    | with_reducible refine Within.foldl _ ?_ ?_
    | (intro (x : State); refine Within.cut (x := x) (m := 0x400300180004) (s := s) ?_ (fun hx => ?_); unfold x)
    | intro x
    | lift_lets -underBinder
    | split
    | exact rfl
    | (split <;> rfl)
    | clear_value *

theorem captureSnapshot_within (s : State) :
    Within 0x400300180004 s (State.captureSnapshot s) := by
  have h0 := Within.refl 0x400300180004 s
  unfold State.captureSnapshot
  try lift_lets -underBinder
  repeat' first
    | with_reducible assumption
    | with_reducible refine Within.ite ?_ ?_
    | with_reducible refine Within.set 0 ?_ ?_ rfl
    | with_reducible refine (modLan_within _ _).step ?_ rfl
    | with_reducible refine (refreshLane_within _).step ?_ rfl
    | with_reducible refine Within.foldl _ ?_ ?_
    | (intro (x : State); refine Within.cut (x := x) (m := 0x400300180004) (s := s) ?_ (fun hx => ?_); unfold x)
    | intro x
    | lift_lets -underBinder
    | split
    | exact rfl
    | (split <;> rfl)
    | clear_value *

theorem execTetherSnapshotAck_within (slack : Int) (s : State) :
    ∃ t, execTetherSnapshotAck slack s = .next t ∧ Within 0x600300BC0404 s t := by
  refine ⟨_, rfl, ?_⟩
  have h0 := Within.refl 0x600300BC0404 s
  try lift_lets -underBinder
  repeat' first
    | with_reducible assumption
    | with_reducible refine Within.ite ?_ ?_
    | with_reducible refine slackMin_within 0 ?_ ?_ rfl
    | with_reducible refine (modLan_within _ _).step ?_ rfl
    | with_reducible refine Within.set 0 ?_ ?_ rfl
    | with_reducible refine (laneIs_within _ _ _).step ?_ rfl
    | with_reducible refine (refreshLane_within _).step ?_ rfl
    | with_reducible refine (handoverDone_within _ _).step ?_ rfl
    | with_reducible refine (startHandover_within _ _ _).step ?_ rfl
    | with_reducible refine (fwStep_within _ _).step ?_ rfl
    | with_reducible refine (fwEvent_within _ _ _).step ?_ rfl
    | with_reducible refine Within.foldl _ ?_ ?_
    | (intro (x : State); refine Within.cut (x := x) (m := 0x600300BC0404) (s := s) ?_ (fun hx => ?_); unfold x)
    | intro x
    | lift_lets -underBinder
    | split
    | exact rfl
    | (split <;> rfl)
    | clear_value *

theorem execHandoverDrainEnd_within (s : State) :
    ∃ t, execHandoverDrainEnd s = .next t ∧ Within 0x100000 s t := by
  refine ⟨_, rfl, ?_⟩
  have h0 := Within.refl 0x100000 s
  try lift_lets -underBinder
  repeat' first
    | with_reducible assumption
    | with_reducible refine Within.ite ?_ ?_
    | with_reducible refine (modLan_within _ _).step ?_ rfl
    | with_reducible refine Within.foldl _ ?_ ?_
    | (intro (x : State); refine Within.cut (x := x) (m := 0x100000) (s := s) ?_ (fun hx => ?_); unfold x)
    | intro x
    | lift_lets -underBinder
    | split
    | exact rfl
    | (split <;> rfl)
    | clear_value *

theorem execHandoverAckTimeout_within (s : State) :
    ∃ t, execHandoverAckTimeout s = .next t ∧ Within 0x400300180004 s t := by
  refine ⟨_, rfl, ?_⟩
  have h0 := Within.refl 0x400300180004 s
  try lift_lets -underBinder
  repeat' first
    | with_reducible assumption
    | with_reducible refine Within.ite ?_ ?_
    | with_reducible refine (abandonHandover_within _).step ?_ rfl
    | with_reducible refine Within.foldl _ ?_ ?_
    | (intro (x : State); refine Within.cut (x := x) (m := 0x400300180004) (s := s) ?_ (fun hx => ?_); unfold x)
    | intro x
    | lift_lets -underBinder
    | split
    | exact rfl
    | (split <;> rfl)
    | clear_value *

theorem execRevertHoldoffExpiry_within (s : State) :
    ∃ t, execRevertHoldoffExpiry s = .next t ∧ Within 0x100100000 s t := by
  refine ⟨_, rfl, ?_⟩
  have h0 := Within.refl 0x100100000 s
  try lift_lets -underBinder
  repeat' first
    | with_reducible assumption
    | with_reducible refine Within.ite ?_ ?_
    | with_reducible refine (startHandover_within _ _ _).step ?_ rfl
    | with_reducible refine Within.foldl _ ?_ ?_
    | (intro (x : State); refine Within.cut (x := x) (m := 0x100100000) (s := s) ?_ (fun hx => ?_); unfold x)
    | intro x
    | lift_lets -underBinder
    | split
    | exact rfl
    | (split <;> rfl)
    | clear_value *

theorem execNoStandbyLimit_within (s : State) :
    ∃ t, execNoStandbyLimit s = .next t ∧ Within 0x400200180004 s t := by
  refine ⟨_, rfl, ?_⟩
  have h0 := Within.refl 0x400200180004 s
  try lift_lets -underBinder
  repeat' first
    | with_reducible assumption
    | with_reducible refine Within.ite ?_ ?_
    | with_reducible refine (raise_within _ _ _ _ _).step ?_ rfl
    | with_reducible refine (modLan_within _ _).step ?_ rfl
    | with_reducible refine Within.foldl _ ?_ ?_
    | (intro (x : State); refine Within.cut (x := x) (m := 0x400200180004) (s := s) ?_ (fun hx => ?_); unfold x)
    | intro x
    | lift_lets -underBinder
    | split
    | exact rfl
    | (split <;> rfl)
    | clear_value *

theorem laneCtrl_within {m : Nat} {s t : State} {p : Nat} {f : State → State} (h0 : Within m s t)
    (hf : ∀ u, Within m s u → Within m s (f u)) (hm : 0x400300080004 ||| m = m) : Within m s (t.laneCtrl p f) := by
  have hsub : ∀ k, k ||| 0x400300080004 = 0x400300080004 → k ||| m = m := fun k hk => by rw [← hm, ← Nat.or_assoc, hk]
  unfold State.laneCtrl
  split
  · exact h0
  · split
    · exact (offDomain_within _ _ _ _).step h0 (hsub _ rfl)
    · split
      · exact (deny_within _ _ _).step h0 (hsub _ rfl)
      · exact hf _ h0

theorem resetLane_within (s : State) (k : Nat) :
    Within 0x400300180004 s (State.resetLane s k) := by
  have h0 := Within.refl 0x400300180004 s
  unfold State.resetLane
  try lift_lets -underBinder
  repeat' first
    | with_reducible assumption
    | with_reducible refine Within.ite ?_ ?_
    | with_reducible refine (startHandover_within _ _ _).step ?_ rfl
    | with_reducible refine (refreshLane_within _).step ?_ rfl
    | with_reducible refine (bootLane_within _ _ _).step ?_ rfl
    | with_reducible refine Within.foldl _ ?_ ?_
    | (intro (x : State); refine Within.cut (x := x) (m := 0x400300180004) (s := s) ?_ (fun hx => ?_); unfold x)
    | intro x
    | lift_lets -underBinder
    | split
    | exact rfl
    | (split <;> rfl)
    | clear_value *

theorem laneResets_within (s : State) (val : Nat) :
    Within 0x400300180004 s (State.laneResets s val) := by
  have h0 := Within.refl 0x400300180004 s
  unfold State.laneResets
  try lift_lets -underBinder
  repeat' first
    | with_reducible assumption
    | with_reducible refine Within.ite ?_ ?_
    | with_reducible refine (resetLane_within _ _).step ?_ rfl
    | with_reducible refine Within.foldl _ ?_ ?_
    | (intro (x : State); refine Within.cut (x := x) (m := 0x400300180004) (s := s) ?_ (fun hx => ?_); unfold x)
    | intro x
    | lift_lets -underBinder
    | split
    | exact rfl
    | (split <;> rfl)
    | clear_value *

theorem execLaneResetWrite_within (p val : Nat) (s : State) :
    ∃ t, execLaneResetWrite p val s = .next t ∧ Within 0x400300180004 s t := by
  refine ⟨_, rfl, ?_⟩
  have h0 := Within.refl 0x400300180004 s
  try lift_lets -underBinder
  repeat' first
    | with_reducible assumption
    | with_reducible refine Within.ite ?_ ?_
    | with_reducible refine laneCtrl_within ?_ ?_ rfl
    | with_reducible refine (laneResets_within _ _).step ?_ rfl
    | with_reducible refine Within.foldl _ ?_ ?_
    | (intro (x : State); refine Within.cut (x := x) (m := 0x400300180004) (s := s) ?_ (fun hx => ?_); unfold x)
    | intro x
    | lift_lets -underBinder
    | split
    | exact rfl
    | (split <;> rfl)
    | clear_value *

theorem readmit_within (s : State) (k : Nat) :
    Within 0x400300180004 s (State.readmit s k) := by
  have h0 := Within.refl 0x400300180004 s
  unfold State.readmit
  try lift_lets -underBinder
  repeat' first
    | with_reducible assumption
    | with_reducible refine Within.ite ?_ ?_
    | with_reducible refine (modLan_within _ _).step ?_ rfl
    | with_reducible refine (refreshLane_within _).step ?_ rfl
    | with_reducible refine (bootLane_within _ _ _).step ?_ rfl
    | with_reducible refine Within.foldl _ ?_ ?_
    | (intro (x : State); refine Within.cut (x := x) (m := 0x400300180004) (s := s) ?_ (fun hx => ?_); unfold x)
    | intro x
    | lift_lets -underBinder
    | split
    | exact rfl
    | (split <;> rfl)
    | clear_value *

theorem laneReadmits_within (s : State) (val : Nat) :
    Within 0x400300180004 s (State.laneReadmits s val) := by
  have h0 := Within.refl 0x400300180004 s
  unfold State.laneReadmits
  try lift_lets -underBinder
  repeat' first
    | with_reducible assumption
    | with_reducible refine Within.ite ?_ ?_
    | with_reducible refine (readmit_within _ _).step ?_ rfl
    | with_reducible refine Within.foldl _ ?_ ?_
    | (intro (x : State); refine Within.cut (x := x) (m := 0x400300180004) (s := s) ?_ (fun hx => ?_); unfold x)
    | intro x
    | lift_lets -underBinder
    | split
    | exact rfl
    | (split <;> rfl)
    | clear_value *

theorem execLaneReadmitWrite_within (p val : Nat) (s : State) :
    ∃ t, execLaneReadmitWrite p val s = .next t ∧ Within 0x400300180004 s t := by
  refine ⟨_, rfl, ?_⟩
  have h0 := Within.refl 0x400300180004 s
  try lift_lets -underBinder
  repeat' first
    | with_reducible assumption
    | with_reducible refine Within.ite ?_ ?_
    | with_reducible refine laneCtrl_within ?_ ?_ rfl
    | with_reducible refine (laneReadmits_within _ _).step ?_ rfl
    | with_reducible refine Within.foldl _ ?_ ?_
    | (intro (x : State); refine Within.cut (x := x) (m := 0x400300180004) (s := s) ?_ (fun hx => ?_); unfold x)
    | intro x
    | lift_lets -underBinder
    | split
    | exact rfl
    | (split <;> rfl)
    | clear_value *

theorem laneCtrlWrite_within (s : State) (p val : Nat) :
    Within 0x400300180004 s (State.laneCtrlWrite s p val) := by
  have h0 := Within.refl 0x400300180004 s
  unfold State.laneCtrlWrite
  try lift_lets -underBinder
  repeat' first
    | with_reducible assumption
    | with_reducible refine Within.ite ?_ ?_
    | with_reducible refine laneCtrl_within ?_ ?_ rfl
    | with_reducible refine (laneResets_within _ _).step ?_ rfl
    | with_reducible refine (laneReadmits_within _ _).step ?_ rfl
    | with_reducible refine Within.foldl _ ?_ ?_
    | (intro (x : State); refine Within.cut (x := x) (m := 0x400300180004) (s := s) ?_ (fun hx => ?_); unfold x)
    | intro x
    | lift_lets -underBinder
    | split
    | exact rfl
    | (split <;> rfl)
    | clear_value *

end Sys2Proof.Laws
end

