-- ==== Sys2Proof/Laws/WithinTackOps.lean ====
section
/-!
SUPPORT. What the operations of Machine/TackOps.lean may touch.
-/
namespace Sys2Proof.Laws

open Sys2Proof.Machine

theorem windowEvent_within (s : State) (what p : Nat) :
    Within 0x400200080004 s (State.windowEvent s what p) := by
  have h0 := Within.refl 0x400200080004 s
  unfold State.windowEvent
  try lift_lets -underBinder
  repeat' first
    | with_reducible assumption
    | with_reducible refine Within.ite ?_ ?_
    | with_reducible refine (raise_within _ _ _ _ _).step ?_ rfl
    | with_reducible refine Within.foldl _ ?_ ?_
    | (intro (x : State); refine Within.cut (x := x) (m := 0x400200080004) (s := s) ?_ (fun hx => ?_); unfold x)
    | intro x
    | lift_lets -underBinder
    | split
    | exact rfl
    | (split <;> rfl)
    | clear_value *

theorem wrongProof_within (s : State) (p : Nat) :
    Within 0x600200280004 s (State.wrongProof s p) := by
  have h0 := Within.refl 0x600200280004 s
  unfold State.wrongProof
  try lift_lets -underBinder
  repeat' first
    | with_reducible assumption
    | with_reducible refine Within.ite ?_ ?_
    | with_reducible refine (windowEvent_within _ _ _).step ?_ rfl
    | with_reducible refine Within.incSat 13 ?_ ?_ rfl
    | with_reducible refine Within.setB 13 ?_ ?_ rfl
    | with_reducible refine (modTck_within _ _).step ?_ rfl
    | with_reducible refine Within.foldl _ ?_ ?_
    | (intro (x : State); refine Within.cut (x := x) (m := 0x600200280004) (s := s) ?_ (fun hx => ?_); unfold x)
    | intro x
    | lift_lets -underBinder
    | split
    | exact rfl
    | (split <;> rfl)
    | clear_value *

theorem execChangeWindowOpen_within (p tag : Nat) (_proof : Computed) (keyBad : Bool) (s : State) :
    ∃ t, execChangeWindowOpen p tag _proof keyBad s = .next t ∧ Within 0x608200280006 s t := by
  refine ⟨_, rfl, ?_⟩
  have h0 := Within.refl 0x608200280006 s
  try lift_lets -underBinder
  repeat' first
    | with_reducible assumption
    | with_reducible refine Within.ite ?_ ?_
    | with_reducible refine Within.ite2 ?_ ?_
    | with_reducible refine take_within ?_ ?_ rfl
    | with_reducible refine (finish_within _ _ _ _ _ _).step ?_ rfl
    | with_reducible refine (newNonce_within _).step ?_ rfl
    | with_reducible refine (keyFault_within _ _).step ?_ rfl
    | with_reducible refine (wrongProof_within _ _).step ?_ rfl
    | with_reducible refine Within.set 13 ?_ ?_ rfl
    | with_reducible refine (logChange_within _ _ _ _ _ _).step ?_ rfl
    | with_reducible refine (modTck_within _ _).step ?_ rfl
    | with_reducible refine Within.foldl _ ?_ ?_
    | with_reducible refine Within.foldl2 _ ?_ ?_
    | (intro (x : State); refine Within.cut (x := x) (m := 0x608200280006) (s := s) ?_ (fun hx => ?_); unfold x)
    | intro x
    | lift_lets -underBinder
    | split
    | exact rfl
    | (split <;> rfl)
    | clear_value *

theorem winOpened_within (s : State) (p num dur : Nat) :
    Within 0x600200280004 s (State.winOpened s p num dur) := by
  have h0 := Within.refl 0x600200280004 s
  unfold State.winOpened
  try lift_lets -underBinder
  repeat' first
    | with_reducible assumption
    | with_reducible refine Within.ite ?_ ?_
    | with_reducible refine (modTck_within _ _).step ?_ rfl
    | with_reducible refine (windowEvent_within _ _ _).step ?_ rfl
    | with_reducible refine Within.setB 13 ?_ ?_ rfl
    | with_reducible refine Within.set 13 ?_ ?_ rfl
    | with_reducible refine (finish_within _ _ _ _ _ _).step ?_ rfl
    | with_reducible refine Within.foldl _ ?_ ?_
    | (intro (x : State); refine Within.cut (x := x) (m := 0x600200280004) (s := s) ?_ (fun hx => ?_); unfold x)
    | intro x
    | lift_lets -underBinder
    | split
    | exact rfl
    | (split <;> rfl)
    | clear_value *

theorem execChangeWindowClose_within (p tag : Nat) (s : State) :
    ∃ t, execChangeWindowClose p tag s = .next t ∧ Within 0x608200080006 s t := by
  refine ⟨_, rfl, ?_⟩
  have h0 := Within.refl 0x608200080006 s
  try lift_lets -underBinder
  repeat' first
    | with_reducible assumption
    | with_reducible refine Within.ite ?_ ?_
    | with_reducible refine take_within ?_ ?_ rfl
    | with_reducible refine (finish_within _ _ _ _ _ _).step ?_ rfl
    | with_reducible refine (closeWindow_within _ _).step ?_ rfl
    | with_reducible refine Within.foldl _ ?_ ?_
    | (intro (x : State); refine Within.cut (x := x) (m := 0x608200080006) (s := s) ?_ (fun hx => ?_); unfold x)
    | intro x
    | lift_lets -underBinder
    | split
    | exact rfl
    | (split <;> rfl)
    | clear_value *

theorem execChangeWindowExpiry_within (s : State) :
    ∃ t, execChangeWindowExpiry s = .next t ∧ Within 0x600200080006 s t := by
  refine ⟨_, rfl, ?_⟩
  have h0 := Within.refl 0x600200080006 s
  try lift_lets -underBinder
  repeat' first
    | with_reducible assumption
    | with_reducible refine Within.ite ?_ ?_
    | with_reducible refine (closeWindow_within _ _).step ?_ rfl
    | with_reducible refine Within.foldl _ ?_ ?_
    | (intro (x : State); refine Within.cut (x := x) (m := 0x600200080006) (s := s) ?_ (fun hx => ?_); unfold x)
    | intro x
    | lift_lets -underBinder
    | split
    | exact rfl
    | (split <;> rfl)
    | clear_value *

theorem execWindowLockoutEnd_within (s : State) :
    ∃ t, execWindowLockoutEnd s = .next t ∧ Within 0x200000000000 s t := by
  refine ⟨_, rfl, ?_⟩
  have h0 := Within.refl 0x200000000000 s
  try lift_lets -underBinder
  repeat' first
    | with_reducible assumption
    | with_reducible refine Within.ite ?_ ?_
    | with_reducible refine Within.setB 13 ?_ ?_ rfl
    | with_reducible refine Within.foldl _ ?_ ?_
    | (intro (x : State); refine Within.cut (x := x) (m := 0x200000000000) (s := s) ?_ (fun hx => ?_); unfold x)
    | intro x
    | lift_lets -underBinder
    | split
    | exact rfl
    | (split <;> rfl)
    | clear_value *

theorem execKeyGenerate_within (p tag : Nat) (s : State) :
    ∃ t, execKeyGenerate p tag s = .next t ∧ Within 0x408200080004 s t := by
  refine ⟨_, rfl, ?_⟩
  have h0 := Within.refl 0x408200080004 s
  try lift_lets -underBinder
  repeat' first
    | with_reducible assumption
    | with_reducible refine Within.ite ?_ ?_
    | with_reducible refine Within.ite2 ?_ ?_
    | with_reducible refine take_within ?_ ?_ rfl
    | with_reducible refine (finish_within _ _ _ _ _ _).step ?_ rfl
    | with_reducible refine (tryStore_within _ _ _ _).step ?_ rfl
    | with_reducible refine Within.foldl _ ?_ ?_
    | with_reducible refine Within.foldl2 _ ?_ ?_
    | (intro (x : State); refine Within.cut (x := x) (m := 0x408200080004) (s := s) ?_ (fun hx => ?_); unfold x)
    | intro x
    | lift_lets -underBinder
    | split
    | exact rfl
    | (split <;> rfl)
    | clear_value *

theorem keySlotDurable_within (s : State) (p num k type usage : Nat) :
    Within 0x600200080004 s (State.keySlotDurable s p num k type usage) := by
  have h0 := Within.refl 0x600200080004 s
  unfold State.keySlotDurable
  try lift_lets -underBinder
  repeat' first
    | with_reducible assumption
    | with_reducible refine Within.ite ?_ ?_
    | with_reducible refine Within.inc 13 ?_ ?_ rfl
    | with_reducible refine Within.set 13 ?_ ?_ rfl
    | with_reducible refine (bufWrite_within _ _ _ _).step ?_ rfl
    | with_reducible refine (finish_within _ _ _ _ _ _).step ?_ rfl
    | with_reducible refine Within.foldl _ ?_ ?_
    | (intro (x : State); refine Within.cut (x := x) (m := 0x600200080004) (s := s) ?_ (fun hx => ?_); unfold x)
    | intro x
    | lift_lets -underBinder
    | split
    | exact rfl
    | (split <;> rfl)
    | clear_value *

theorem hostSign_within (s : State) (k : Nat) (m : List Nat) : Within 0x2 s (State.hostSign s k m).2 := by
  unfold State.hostSign
  dsimp only
  split
  · exact (signDual_within _ _ _ _).step (Within.refl _ s) rfl
  · exact draw_within s 256
  · exact draw_within s 256
  · exact draw_within s 256
  · exact Within.refl _ s
  · exact Within.refl _ s

theorem execSign_within (p tag : Nat) (data : List Nat) (keyBad : Bool) (s : State) :
    ∃ t, execSign p tag data keyBad s = .next t ∧ Within 0x608200080006 s t := by
  refine ⟨_, rfl, ?_⟩
  have h0 := Within.refl 0x608200080006 s
  try lift_lets -underBinder
  repeat' first
    | with_reducible assumption
    | with_reducible refine Within.ite ?_ ?_
    | with_reducible refine Within.ite2 ?_ ?_
    | with_reducible refine take_within ?_ ?_ rfl
    | with_reducible refine (finish_within _ _ _ _ _ _).step ?_ rfl
    | with_reducible refine (keyFault_within _ _).step ?_ rfl
    | with_reducible refine (hostSign_within _ _ _).step ?_ rfl
    | with_reducible refine (bufWrite_within _ _ _ _).step ?_ rfl
    | with_reducible refine Within.foldl _ ?_ ?_
    | with_reducible refine Within.foldl2 _ ?_ ?_
    | (intro (x : State); refine Within.cut (x := x) (m := 0x608200080006) (s := s) ?_ (fun hx => ?_); unfold x)
    | intro x
    | lift_lets -underBinder
    | split
    | exact rfl
    | (split <;> rfl)
    | clear_value *

theorem statement_within (s : State) (kind : Nat) (nonce body : List Nat) :
    Within 0x2 s (State.statement s kind nonce body).2 := by
  have h0 := Within.refl 0x2 s
  unfold State.statement
  try lift_lets -underBinder
  repeat' first
    | with_reducible assumption
    | with_reducible refine Within.ite ?_ ?_
    | with_reducible refine Within.ite2 ?_ ?_
    | with_reducible refine (signDual_within _ _ _ _).step ?_ rfl
    | with_reducible refine Within.foldl _ ?_ ?_
    | with_reducible refine Within.foldl2 _ ?_ ?_
    | (intro (x : State); refine Within.cut (x := x) (m := 0x2) (s := s) ?_ (fun hx => ?_); unfold x)
    | intro x
    | lift_lets -underBinder
    | split
    | exact rfl
    | (split <;> rfl)
    | clear_value *

theorem execAttest_within (p tag : Nat) (keyBad : Bool) (s : State) :
    ∃ t, execAttest p tag keyBad s = .next t ∧ Within 0x608200080006 s t := by
  refine ⟨_, rfl, ?_⟩
  have h0 := Within.refl 0x608200080006 s
  try lift_lets -underBinder
  repeat' first
    | with_reducible assumption
    | with_reducible refine Within.ite ?_ ?_
    | with_reducible refine Within.ite2 ?_ ?_
    | with_reducible refine take_within ?_ ?_ rfl
    | with_reducible refine (finish_within _ _ _ _ _ _).step ?_ rfl
    | with_reducible refine (finishBuf_within _ _ _ _).step ?_ rfl
    | with_reducible refine (keyFault_within _ _).step ?_ rfl
    | with_reducible refine (statement_within _ _ _ _).step ?_ rfl
    | with_reducible refine Within.foldl _ ?_ ?_
    | with_reducible refine Within.foldl2 _ ?_ ?_
    | (intro (x : State); refine Within.cut (x := x) (m := 0x608200080006) (s := s) ?_ (fun hx => ?_); unfold x)
    | intro x
    | lift_lets -underBinder
    | split
    | exact rfl
    | (split <;> rfl)
    | clear_value *

theorem execLifecycleSet_within (p tag : Nat) (img : List Nat) (keyBad : Bool) (s : State) :
    ∃ t, execLifecycleSet p tag img keyBad s = .next t ∧ Within 0x608200080006 s t := by
  refine ⟨_, rfl, ?_⟩
  have h0 := Within.refl 0x608200080006 s
  try lift_lets -underBinder
  repeat' first
    | with_reducible assumption
    | with_reducible refine Within.ite ?_ ?_
    | with_reducible refine Within.ite2 ?_ ?_
    | with_reducible refine take_within ?_ ?_ rfl
    | with_reducible refine (finish_within _ _ _ _ _ _).step ?_ rfl
    | with_reducible refine (imgRefused_within _ _ _ _).step ?_ rfl
    | with_reducible refine (logChange_within _ _ _ _ _ _).step ?_ rfl
    | with_reducible refine Within.foldl _ ?_ ?_
    | with_reducible refine Within.foldl2 _ ?_ ?_
    | (intro (x : State); refine Within.cut (x := x) (m := 0x608200080006) (s := s) ?_ (fun hx => ?_); unfold x)
    | intro x
    | lift_lets -underBinder
    | split
    | exact rfl
    | (split <;> rfl)
    | clear_value *

theorem lifeDurable_within (s : State) (p num new : Nat) (rb : Option Nat) (owner : List Nat) :
    Within 0xFFFFFFFFFFFFFFFFFFFFFFFFFFFFFFFFFFFFFFFFFFFFFFFFFFFFFFFFFFFFFFFF00698036 s (State.lifeDurable s p num new rb owner) := by
  have h0 := Within.refl 0xFFFFFFFFFFFFFFFFFFFFFFFFFFFFFFFFFFFFFFFFFFFFFFFFFFFFFFFFFFFFFFFF00698036 s
  unfold State.lifeDurable
  try lift_lets -underBinder
  repeat' first
    | with_reducible assumption
    | with_reducible refine Within.ite ?_ ?_
    | with_reducible refine Within.inc_all ?_ rfl
    | with_reducible refine Within.set_all ?_ rfl
    | with_reducible refine (clearRegs_within _ _).step ?_ rfl
    | with_reducible refine (modTck_within _ _).step ?_ rfl
    | with_reducible refine Within.forAll ?_ ?_
    | with_reducible refine (modBil_within _ _).step ?_ rfl
    | with_reducible refine (modHay_within _ _ ?_).step ?_ rfl
    | exact fun _ => rfl
    | with_reducible refine (raise_within _ _ _ _ _).step ?_ rfl
    | with_reducible refine (finish_within _ _ _ _ _ _).step ?_ rfl
    | with_reducible refine (refreshHeld_within _).step ?_ rfl
    | with_reducible refine (requestReset_within _ _ _).step ?_ rfl
    | with_reducible refine Within.foldl _ ?_ ?_
    | (intro (x : State); refine Within.cut (x := x) (m := 0xFFFFFFFFFFFFFFFFFFFFFFFFFFFFFFFFFFFFFFFFFFFFFFFFFFFFFFFFFFFFFFFF00698036) (s := s) ?_ (fun hx => ?_); unfold x)
    | intro x
    | lift_lets -underBinder
    | split
    | exact rfl
    | (split <;> rfl)
    | clear_value *

theorem execServiceUnlock_within (img : List Nat) (s : State) :
    ∃ t, execServiceUnlock img s = .next t ∧ Within 0x600200080006 s t := by
  refine ⟨_, rfl, ?_⟩
  have h0 := Within.refl 0x600200080006 s
  try lift_lets -underBinder
  repeat' first
    | with_reducible assumption
    | with_reducible refine Within.ite ?_ ?_
    | with_reducible refine Within.ite2 ?_ ?_
    | with_reducible refine (logChange_within _ _ _ _ _ _).step ?_ rfl
    | with_reducible refine Within.foldl _ ?_ ?_
    | with_reducible refine Within.foldl2 _ ?_ ?_
    | (intro (x : State); refine Within.cut (x := x) (m := 0x600200080006) (s := s) ?_ (fun hx => ?_); unfold x)
    | intro x
    | lift_lets -underBinder
    | split
    | exact rfl
    | (split <;> rfl)
    | clear_value *

end Sys2Proof.Laws
end

