-- ==== Sys2Proof/Laws/WithinYardmaster.lean ====
section
/-!
SUPPORT. What the operations of Machine/Yardmaster.lean may touch.
-/
namespace Sys2Proof.Laws

open Sys2Proof.Machine

theorem execLaneRequestSlotWrite_within (n : Nat) (active discharge : Bool) (i v : Nat) (s : State) :
    ∃ t, execLaneRequestSlotWrite n active discharge i v s = .next t ∧ Within 0x4002000A0404 s t := by
  refine ⟨_, rfl, ?_⟩
  have h0 := Within.refl 0x4002000A0404 s
  try lift_lets -underBinder
  repeat' first
    | with_reducible assumption
    | with_reducible refine Within.ite ?_ ?_
    | with_reducible refine (droSlot_within _ _).step ?_ rfl
    | with_reducible refine (modYms_within _ _).step ?_ rfl
    | with_reducible refine Within.foldl _ ?_ ?_
    | (intro (x : State); refine Within.cut (x := x) (m := 0x4002000A0404) (s := s) ?_ (fun hx => ?_); unfold x)
    | intro x
    | lift_lets -underBinder
    | split
    | exact rfl
    | (split <;> rfl)
    | clear_value *

theorem applyStaged_within (s : State) :
    Within 0x800000400 s (State.applyStaged s) := by
  have h0 := Within.refl 0x800000400 s
  unfold State.applyStaged
  try lift_lets -underBinder
  repeat' first
    | with_reducible assumption
    | with_reducible refine Within.ite ?_ ?_
    | with_reducible refine Within.forAll ?_ ?_
    | with_reducible refine Within.setS 3 ?_ ?_ rfl
    | with_reducible refine (modYms_within _ _).step ?_ rfl
    | with_reducible refine Within.foldl _ ?_ ?_
    | (intro (x : State); refine Within.cut (x := x) (m := 0x800000400) (s := s) ?_ (fun hx => ?_); unfold x)
    | intro x
    | lift_lets -underBinder
    | split
    | exact rfl
    | (split <;> rfl)
    | clear_value *

theorem cabBoundary_within (s : State) (c : Nat) :
    Within 0x400A00080404 s (State.cabBoundary s c) := by
  have h0 := Within.refl 0x400A00080404 s
  unfold State.cabBoundary
  try lift_lets -underBinder
  repeat' first
    | with_reducible assumption
    | with_reducible refine Within.ite ?_ ?_
    | with_reducible refine (finishAll_within _ _ _ _).step ?_ rfl
    | with_reducible refine (modCab_within _ _ _).step ?_ rfl
    | with_reducible refine (setCab_within _ _ _ _).step ?_ rfl
    | with_reducible refine Within.foldl _ ?_ ?_
    | (intro (x : State); refine Within.cut (x := x) (m := 0x400A00080404) (s := s) ?_ (fun hx => ?_); unfold x)
    | intro x
    | lift_lets -underBinder
    | split
    | exact rfl
    | (split <;> rfl)
    | clear_value *

theorem ymsBoundary_within (s : State) :
    Within 0x400A00480404 s (State.ymsBoundary s) := by
  have h0 := Within.refl 0x400A00480404 s
  unfold State.ymsBoundary
  try lift_lets -underBinder
  repeat' first
    | with_reducible assumption
    | with_reducible refine Within.ite ?_ ?_
    | with_reducible refine (applyStaged_within _).step ?_ rfl
    | with_reducible refine (modPwr_within _ _).step ?_ rfl
    | with_reducible refine Within.forAll ?_ ?_
    | with_reducible refine (cabBoundary_within _ _).step ?_ rfl
    | with_reducible refine (throttleFreeze_within _ _).step ?_ rfl
    | with_reducible refine (throttleDevFreeze_within _).step ?_ rfl
    | with_reducible refine (modYms_within _ _).step ?_ rfl
    | with_reducible refine Within.set 3 ?_ ?_ rfl
    | with_reducible refine (stage_within _ _ _).step ?_ rfl
    | with_reducible refine (putTargets_within _ _ _ _).step ?_ rfl
    | with_reducible refine Within.foldl _ ?_ ?_
    | (intro (x : State); refine Within.cut (x := x) (m := 0x400A00480404) (s := s) ?_ (fun hx => ?_); unfold x)
    | intro x
    | lift_lets -underBinder
    | split
    | exact rfl
    | (split <;> rfl)
    | clear_value *

theorem execSolveComplete_within (slack : Int) (s : State) :
    ∃ t, execSolveComplete slack s = .next t ∧ Within 0x400A00080404 s t := by
  refine ⟨_, rfl, ?_⟩
  have h0 := Within.refl 0x400A00080404 s
  try lift_lets -underBinder
  repeat' first
    | with_reducible assumption
    | with_reducible refine Within.ite ?_ ?_
    | with_reducible refine Within.ite2 ?_ ?_
    | with_reducible refine slackMin_within 3 ?_ ?_ rfl
    | with_reducible refine (modYms_within _ _).step ?_ rfl
    | with_reducible refine (floorShort_within _ _).step ?_ rfl
    | with_reducible refine (clampAll_within _ _ _).step ?_ rfl
    | with_reducible refine (putTargets_within _ _ _ _).step ?_ rfl
    | with_reducible refine (endRamps_within _ _ _).step ?_ rfl
    | with_reducible refine (asksDone_within _ _).step ?_ rfl
    | with_reducible refine (stage_within _ _ _).step ?_ rfl
    | with_reducible refine Within.inc 3 ?_ ?_ rfl
    | with_reducible refine Within.foldl _ ?_ ?_
    | with_reducible refine Within.foldl2 _ ?_ ?_
    | (intro (x : State); refine Within.cut (x := x) (m := 0x400A00080404) (s := s) ?_ (fun hx => ?_); unfold x)
    | intro x
    | lift_lets -underBinder
    | split
    | exact rfl
    | (split <;> rfl)
    | clear_value *

theorem execSolveDeadlineExpiry_within (ticks : Nat) (s : State) :
    ∃ t, execSolveDeadlineExpiry ticks s = .next t ∧ Within 0x400A00080404 s t := by
  refine ⟨_, rfl, ?_⟩
  have h0 := Within.refl 0x400A00080404 s
  try lift_lets -underBinder
  repeat' first
    | with_reducible assumption
    | with_reducible refine Within.ite ?_ ?_
    | with_reducible refine (modYms_within _ _).step ?_ rfl
    | with_reducible refine (raise_within _ _ _ _ _).step ?_ rfl
    | with_reducible refine Within.incSat 3 ?_ ?_ rfl
    | with_reducible refine Within.setB 3 ?_ ?_ rfl
    | with_reducible refine Within.foldl _ ?_ ?_
    | (intro (x : State); refine Within.cut (x := x) (m := 0x400A00080404) (s := s) ?_ (fun hx => ?_); unfold x)
    | intro x
    | lift_lets -underBinder
    | split
    | exact rfl
    | (split <;> rfl)
    | clear_value *

theorem execEmergencyResolveComplete_within (ticks : Nat) (s : State) :
    ∃ t, execEmergencyResolveComplete ticks s = .next t ∧ Within 0x400A00080404 s t := by
  refine ⟨_, rfl, ?_⟩
  have h0 := Within.refl 0x400A00080404 s
  try lift_lets -underBinder
  repeat' first
    | with_reducible assumption
    | with_reducible refine Within.ite ?_ ?_
    | with_reducible refine Within.ite2 ?_ ?_
    | with_reducible refine (floorShort_within _ _).step ?_ rfl
    | with_reducible refine (clampAll_within _ _ _).step ?_ rfl
    | with_reducible refine (cutTargets_within _ _ _ _).step ?_ rfl
    | with_reducible refine (raise_within _ _ _ _ _).step ?_ rfl
    | with_reducible refine Within.incSat 3 ?_ ?_ rfl
    | with_reducible refine (emergNext_within _).step ?_ rfl
    | with_reducible refine Within.foldl _ ?_ ?_
    | with_reducible refine Within.foldl2 _ ?_ ?_
    | (intro (x : State); refine Within.cut (x := x) (m := 0x400A00080404) (s := s) ?_ (fun hx => ?_); unfold x)
    | intro x
    | lift_lets -underBinder
    | split
    | exact rfl
    | (split <;> rfl)
    | clear_value *

theorem execEmergencyResolveFallback_within (ticks : Nat) (s : State) :
    ∃ t, execEmergencyResolveFallback ticks s = .next t ∧ Within 0x400A00080404 s t := by
  refine ⟨_, rfl, ?_⟩
  have h0 := Within.refl 0x400A00080404 s
  try lift_lets -underBinder
  repeat' first
    | with_reducible assumption
    | with_reducible refine Within.ite ?_ ?_
    | with_reducible refine (cutTargets_within _ _ _ _).step ?_ rfl
    | with_reducible refine Within.incSat 3 ?_ ?_ rfl
    | with_reducible refine Within.setB 3 ?_ ?_ rfl
    | with_reducible refine (emergNext_within _).step ?_ rfl
    | with_reducible refine (raise_within _ _ _ _ _).step ?_ rfl
    | with_reducible refine Within.foldl _ ?_ ?_
    | (intro (x : State); refine Within.cut (x := x) (m := 0x400A00080404) (s := s) ?_ (fun hx => ?_); unfold x)
    | intro x
    | lift_lets -underBinder
    | split
    | exact rfl
    | (split <;> rfl)
    | clear_value *

theorem execEmergencyRampStep_within (s : State) :
    ∃ t, execEmergencyRampStep s = .next t ∧ Within 0x800000400 s t := by
  refine ⟨_, rfl, ?_⟩
  have h0 := Within.refl 0x800000400 s
  try lift_lets -underBinder
  repeat' first
    | with_reducible assumption
    | with_reducible refine Within.ite ?_ ?_
    | with_reducible refine Within.setS 3 ?_ ?_ rfl
    | with_reducible refine Within.setB 3 ?_ ?_ rfl
    | with_reducible refine (modYms_within _ _).step ?_ rfl
    | with_reducible refine Within.foldl _ ?_ ?_
    | (intro (x : State); refine Within.cut (x := x) (m := 0x800000400) (s := s) ?_ (fun hx => ?_); unfold x)
    | intro x
    | lift_lets -underBinder
    | split
    | exact rfl
    | (split <;> rfl)
    | clear_value *

theorem execCabinetSilenceTimeout_within (c : Nat) (s : State) :
    ∃ t, execCabinetSilenceTimeout c s = .next t ∧ Within 0x400A00080404 s t := by
  refine ⟨_, rfl, ?_⟩
  have h0 := Within.refl 0x400A00080404 s
  try lift_lets -underBinder
  repeat' first
    | with_reducible assumption
    | with_reducible refine Within.ite ?_ ?_
    | with_reducible refine (loseCab_within _ _ _).step ?_ rfl
    | with_reducible refine Within.foldl _ ?_ ?_
    | (intro (x : State); refine Within.cut (x := x) (m := 0x400A00080404) (s := s) ?_ (fun hx => ?_); unfold x)
    | intro x
    | lift_lets -underBinder
    | split
    | exact rfl
    | (split <;> rfl)
    | clear_value *

theorem execCabinetEnableTimeout_within (c : Nat) (s : State) :
    ∃ t, execCabinetEnableTimeout c s = .next t ∧ Within 0x400A00080404 s t := by
  refine ⟨_, rfl, ?_⟩
  have h0 := Within.refl 0x400A00080404 s
  try lift_lets -underBinder
  repeat' first
    | with_reducible assumption
    | with_reducible refine Within.ite ?_ ?_
    | with_reducible refine (finishAll_within _ _ _ _).step ?_ rfl
    | with_reducible refine (modCab_within _ _ _).step ?_ rfl
    | with_reducible refine (setCab_within _ _ _ _).step ?_ rfl
    | with_reducible refine Within.foldl _ ?_ ?_
    | (intro (x : State); refine Within.cut (x := x) (m := 0x400A00080404) (s := s) ?_ (fun hx => ?_); unfold x)
    | intro x
    | lift_lets -underBinder
    | split
    | exact rfl
    | (split <;> rfl)
    | clear_value *

theorem execCabinetDrainEnd_within (c : Nat) (s : State) :
    ∃ t, execCabinetDrainEnd c s = .next t ∧ Within 0x400A00080404 s t := by
  refine ⟨_, rfl, ?_⟩
  have h0 := Within.refl 0x400A00080404 s
  try lift_lets -underBinder
  repeat' first
    | with_reducible assumption
    | with_reducible refine Within.ite ?_ ?_
    | with_reducible refine (finishAll_within _ _ _ _).step ?_ rfl
    | with_reducible refine (modCab_within _ _ _).step ?_ rfl
    | with_reducible refine (setCab_within _ _ _ _).step ?_ rfl
    | with_reducible refine Within.foldl _ ?_ ?_
    | (intro (x : State); refine Within.cut (x := x) (m := 0x400A00080404) (s := s) ?_ (fun hx => ?_); unfold x)
    | intro x
    | lift_lets -underBinder
    | split
    | exact rfl
    | (split <;> rfl)
    | clear_value *

theorem execThrottleGraceExpiry_within (n : Nat) (s : State) :
    ∃ t, execThrottleGraceExpiry n s = .next t ∧ Within 0x400A00080404 s t := by
  refine ⟨_, rfl, ?_⟩
  have h0 := Within.refl 0x400A00080404 s
  try lift_lets -underBinder
  repeat' first
    | with_reducible assumption
    | with_reducible refine Within.ite ?_ ?_
    | with_reducible refine (modYms_within _ _).step ?_ rfl
    | with_reducible refine (enforceDev_within _).step ?_ rfl
    | with_reducible refine (enforce_within _ _).step ?_ rfl
    | with_reducible refine Within.foldl _ ?_ ?_
    | (intro (x : State); refine Within.cut (x := x) (m := 0x400A00080404) (s := s) ?_ (fun hx => ?_); unfold x)
    | intro x
    | lift_lets -underBinder
    | split
    | exact rfl
    | (split <;> rfl)
    | clear_value *

theorem execStallPolicy_within (p tag : Nat) (s : State) :
    ∃ t, execStallPolicy p tag s = .next t ∧ Within 0x408A00080404 s t := by
  refine ⟨_, rfl, ?_⟩
  have h0 := Within.refl 0x408A00080404 s
  try lift_lets -underBinder
  repeat' first
    | with_reducible assumption
    | with_reducible refine Within.ite ?_ ?_
    | with_reducible refine take_within ?_ ?_ rfl
    | with_reducible refine (finish_within _ _ _ _ _ _).step ?_ rfl
    | with_reducible refine (refreshPolicy_within _ _).step ?_ rfl
    | with_reducible refine (modYms_within _ _).step ?_ rfl
    | with_reducible refine Within.foldl _ ?_ ?_
    | (intro (x : State); refine Within.cut (x := x) (m := 0x408A00080404) (s := s) ?_ (fun hx => ?_); unfold x)
    | intro x
    | lift_lets -underBinder
    | split
    | exact rfl
    | (split <;> rfl)
    | clear_value *

theorem execNodeLimit_within (p tag : Nat) (s : State) :
    ∃ t, execNodeLimit p tag s = .next t ∧ Within 0x408200080404 s t := by
  refine ⟨_, rfl, ?_⟩
  have h0 := Within.refl 0x408200080404 s
  try lift_lets -underBinder
  repeat' first
    | with_reducible assumption
    | with_reducible refine Within.ite ?_ ?_
    | with_reducible refine take_within ?_ ?_ rfl
    | with_reducible refine (finish_within _ _ _ _ _ _).step ?_ rfl
    | with_reducible refine (modYms_within _ _).step ?_ rfl
    | with_reducible refine Within.foldl _ ?_ ?_
    | (intro (x : State); refine Within.cut (x := x) (m := 0x408200080404) (s := s) ?_ (fun hx => ?_); unfold x)
    | intro x
    | lift_lets -underBinder
    | split
    | exact rfl
    | (split <;> rfl)
    | clear_value *

theorem execCabinetEnable_within (p tag : Nat) (s : State) :
    ∃ t, execCabinetEnable p tag s = .next t ∧ Within 0x408A00080404 s t := by
  refine ⟨_, rfl, ?_⟩
  have h0 := Within.refl 0x408A00080404 s
  try lift_lets -underBinder
  repeat' first
    | with_reducible assumption
    | with_reducible refine Within.ite ?_ ?_
    | with_reducible refine take_within ?_ ?_ rfl
    | with_reducible refine (finish_within _ _ _ _ _ _).step ?_ rfl
    | with_reducible refine (modCab_within _ _ _).step ?_ rfl
    | with_reducible refine (setCab_within _ _ _ _).step ?_ rfl
    | with_reducible refine Within.foldl _ ?_ ?_
    | (intro (x : State); refine Within.cut (x := x) (m := 0x408A00080404) (s := s) ?_ (fun hx => ?_); unfold x)
    | intro x
    | lift_lets -underBinder
    | split
    | exact rfl
    | (split <;> rfl)
    | clear_value *

theorem execCabinetRetire_within (p tag : Nat) (s : State) :
    ∃ t, execCabinetRetire p tag s = .next t ∧ Within 0x408A00080404 s t := by
  refine ⟨_, rfl, ?_⟩
  have h0 := Within.refl 0x408A00080404 s
  try lift_lets -underBinder
  repeat' first
    | with_reducible assumption
    | with_reducible refine Within.ite ?_ ?_
    | with_reducible refine take_within ?_ ?_ rfl
    | with_reducible refine (finish_within _ _ _ _ _ _).step ?_ rfl
    | with_reducible refine (modCab_within _ _ _).step ?_ rfl
    | with_reducible refine (setCab_within _ _ _ _).step ?_ rfl
    | with_reducible refine (finishAll_within _ _ _ _).step ?_ rfl
    | with_reducible refine (hitAsks_within _).step ?_ rfl
    | with_reducible refine Within.foldl _ ?_ ?_
    | (intro (x : State); refine Within.cut (x := x) (m := 0x408A00080404) (s := s) ?_ (fun hx => ?_); unfold x)
    | intro x
    | lift_lets -underBinder
    | split
    | exact rfl
    | (split <;> rfl)
    | clear_value *

theorem execAllocQuery_within (p tag : Nat) (s : State) :
    ∃ t, execAllocQuery p tag s = .next t ∧ Within 0x408200080004 s t := by
  refine ⟨_, rfl, ?_⟩
  have h0 := Within.refl 0x408200080004 s
  try lift_lets -underBinder
  repeat' first
    | with_reducible assumption
    | with_reducible refine Within.ite ?_ ?_
    | with_reducible refine take_within ?_ ?_ rfl
    | with_reducible refine (finishBuf_within _ _ _ _).step ?_ rfl
    | with_reducible refine Within.foldl _ ?_ ?_
    | (intro (x : State); refine Within.cut (x := x) (m := 0x408200080004) (s := s) ?_ (fun hx => ?_); unfold x)
    | intro x
    | lift_lets -underBinder
    | split
    | exact rfl
    | (split <;> rfl)
    | clear_value *

end Sys2Proof.Laws
end

