-- ==== Sys2Proof/Laws/WithinTackSwitch.lean ====
section
/-!
SUPPORT. What the operations of Machine/TackSwitch.lean may touch.
-/
namespace Sys2Proof.Laws

open Sys2Proof.Machine

theorem execEpochSwitch_within (p tag : Nat) (s : State) :
    ∃ t, execEpochSwitch p tag s = .next t ∧ Within 0x608200280004 s t := by
  refine ⟨_, rfl, ?_⟩
  have h0 := Within.refl 0x608200280004 s
  try lift_lets -underBinder
  repeat' first
    | with_reducible assumption
    | with_reducible refine Within.ite ?_ ?_
    | with_reducible refine take_within ?_ ?_ rfl
    | with_reducible refine (finish_within _ _ _ _ _ _).step ?_ rfl
    | with_reducible refine (modTck_within _ _).step ?_ rfl
    | with_reducible refine Within.setB 13 ?_ ?_ rfl
    | with_reducible refine Within.set 13 ?_ ?_ rfl
    | with_reducible refine Within.foldl _ ?_ ?_
    | (intro (x : State); refine Within.cut (x := x) (m := 0x608200280004) (s := s) ?_ (fun hx => ?_); unfold x)
    | intro x
    | lift_lets -underBinder
    | split
    | exact rfl
    | (split <;> rfl)
    | clear_value *

theorem loadTable_within (s : State) (k : Nat) (t : List Nat) :
    Within 0x50C80 s (State.loadTable s k t) := by
  have h0 := Within.refl 0x50C80 s
  unfold State.loadTable
  try lift_lets -underBinder
  repeat' first
    | with_reducible assumption
    | with_reducible refine Within.ite ?_ ?_
    | with_reducible refine (modYms_within _ _).step ?_ rfl
    | with_reducible refine (modBil_within _ _).step ?_ rfl
    | with_reducible refine (modCan_within _ _).step ?_ rfl
    | with_reducible refine (modHrn_within _ _).step ?_ rfl
    | with_reducible refine Within.foldl _ ?_ ?_
    | (intro (x : State); refine Within.cut (x := x) (m := 0x50C80) (s := s) ?_ (fun hx => ?_); unfold x)
    | intro x
    | lift_lets -underBinder
    | split
    | with_reducible refine Within.typesUpd.step ?_ rfl
    | exact rfl
    | (split <;> rfl)
    | clear_value *

theorem loadBank_within (s : State) (sm exi : List Nat) :
    Within 0x20000 s (State.loadBank s sm exi) := by
  have h0 := Within.refl 0x20000 s
  unfold State.loadBank
  try lift_lets -underBinder
  repeat' first
    | with_reducible assumption
    | with_reducible refine Within.ite ?_ ?_
    | with_reducible refine (modDro_within _ _).step ?_ rfl
    | with_reducible refine Within.foldl _ ?_ ?_
    | (intro (x : State); refine Within.cut (x := x) (m := 0x20000) (s := s) ?_ (fun hx => ?_); unfold x)
    | intro x
    | lift_lets -underBinder
    | split
    | exact rfl
    | (split <;> rfl)
    | clear_value *

theorem takeDelta_within (s : State) (t : List Nat) :
    Within 0x8000020000 s (State.takeDelta s t) := by
  have h0 := Within.refl 0x8000020000 s
  unfold State.takeDelta
  try lift_lets -underBinder
  repeat' first
    | with_reducible assumption
    | with_reducible refine Within.ite ?_ ?_
    | with_reducible refine (modDro_within _ _).step ?_ rfl
    | with_reducible refine Within.set 7 ?_ ?_ rfl
    | with_reducible refine Within.foldl _ ?_ ?_
    | (intro (x : State); refine Within.cut (x := x) (m := 0x8000020000) (s := s) ?_ (fun hx => ?_); unfold x)
    | intro x
    | lift_lets -underBinder
    | split
    | exact rfl
    | (split <;> rfl)
    | clear_value *

theorem treeSwitched_within (s : State) (old : List TreeNode) :
    Within 0x800000400 s (State.treeSwitched s old) := by
  have h0 := Within.refl 0x800000400 s
  unfold State.treeSwitched
  try lift_lets -underBinder
  repeat' first
    | with_reducible assumption
    | with_reducible refine Within.ite ?_ ?_
    | with_reducible refine (modYms_within _ _).step ?_ rfl
    | with_reducible refine Within.forAll ?_ ?_
    | with_reducible refine Within.setS 3 ?_ ?_ rfl
    | with_reducible refine (refreshPolicy_within _ _).step ?_ rfl
    | with_reducible refine Within.setB 3 ?_ ?_ rfl
    | with_reducible refine (showCabs_within _).step ?_ rfl
    | with_reducible refine Within.foldl _ ?_ ?_
    | (intro (x : State); refine Within.cut (x := x) (m := 0x800000400) (s := s) ?_ (fun hx => ?_); unfold x)
    | intro x
    | lift_lets -underBinder
    | split
    | exact rfl
    | (split <;> rfl)
    | clear_value *

theorem tryRecord_within (s : State) :
    Within 0x400000280000 s (State.tryRecord s) := by
  have h0 := Within.refl 0x400000280000 s
  unfold State.tryRecord
  try lift_lets -underBinder
  repeat' first
    | with_reducible assumption
    | with_reducible refine Within.ite ?_ ?_
    | with_reducible refine Within.ite2 ?_ ?_
    | with_reducible refine (tryStore_within _ _ _ _).step ?_ rfl
    | with_reducible refine (modTck_within _ _).step ?_ rfl
    | with_reducible refine Within.foldl _ ?_ ?_
    | with_reducible refine Within.foldl2 _ ?_ ?_
    | (intro (x : State); refine Within.cut (x := x) (m := 0x400000280000) (s := s) ?_ (fun hx => ?_); unfold x)
    | intro x
    | lift_lets -underBinder
    | split
    | exact rfl
    | (split <;> rfl)
    | clear_value *

theorem activationDurable_within (s : State) :
    Within 0x400200280004 s (State.activationDurable s) := by
  have h0 := Within.refl 0x400200280004 s
  unfold State.activationDurable
  try lift_lets -underBinder
  repeat' first
    | with_reducible assumption
    | with_reducible refine Within.ite ?_ ?_
    | with_reducible refine (finish_within _ _ _ _ _ _).step ?_ rfl
    | with_reducible refine (modTck_within _ _).step ?_ rfl
    | with_reducible refine Within.foldl _ ?_ ?_
    | (intro (x : State); refine Within.cut (x := x) (m := 0x400200280004) (s := s) ?_ (fun hx => ?_); unfold x)
    | intro x
    | lift_lets -underBinder
    | split
    | exact rfl
    | (split <;> rfl)
    | clear_value *

theorem activate_within (s : State) (e : Nat) (x : Staged) :
    Within 0xFFFFFFFFFFFFFFFFFFFFFFFFFFFFFFFFFFFFFFFFFFFFFFFFFFFFFFFFFFFFFFFF00270C80 s (State.activate s e x) := by
  have h0 := Within.refl 0xFFFFFFFFFFFFFFFFFFFFFFFFFFFFFFFFFFFFFFFFFFFFFFFFFFFFFFFFFFFFFFFF00270C80 s
  unfold State.activate
  try lift_lets -underBinder
  repeat' first
    | with_reducible assumption
    | with_reducible refine Within.ite ?_ ?_
    | with_reducible refine (loadTable_within _ _ _).step ?_ rfl
    | with_reducible refine (modTck_within _ _).step ?_ rfl
    | with_reducible refine Within.set_all ?_ rfl
    | with_reducible refine (takeDelta_within _ _).step ?_ rfl
    | with_reducible refine Within.foldl _ ?_ ?_
    | (intro (x : State); refine Within.cut (x := x) (m := 0xFFFFFFFFFFFFFFFFFFFFFFFFFFFFFFFFFFFFFFFFFFFFFFFFFFFFFFFFFFFFFFFF00270C80) (s := s) ?_ (fun hx => ?_); unfold x)
    | intro x
    | lift_lets -underBinder
    | split
    | exact rfl
    | (split <;> rfl)
    | clear_value *

theorem activateAll_within (s : State) (p num e : Nat) (all : List Staged) :
    Within 0xFFFFFFFFFFFFFFFFFFFFFFFFFFFFFFFFFFFFFFFFFFFFFFFFFFFFFFFFFFFFFFFF002F8C84 s (State.activateAll s p num e all) := by
  have h0 := Within.refl 0xFFFFFFFFFFFFFFFFFFFFFFFFFFFFFFFFFFFFFFFFFFFFFFFFFFFFFFFFFFFFFFFF002F8C84 s
  unfold State.activateAll
  try lift_lets -underBinder
  repeat' first
    | with_reducible assumption
    | with_reducible refine Within.ite ?_ ?_
    | with_reducible refine (modTck_within _ _).step ?_ rfl
    | with_reducible refine Within.set_all ?_ rfl
    | with_reducible refine (activate_within _ _ _).step ?_ rfl
    | with_reducible refine (loadBank_within _ _ _).step ?_ rfl
    | with_reducible refine (treeSwitched_within _ _).step ?_ rfl
    | with_reducible refine (modYms_within _ _).step ?_ rfl
    | with_reducible refine (applyTariff_within _ _).step ?_ rfl
    | with_reducible refine (capture_within _ _).step ?_ rfl
    | with_reducible refine (showStaged_within _ _).step ?_ rfl
    | with_reducible refine (raise_within _ _ _ _ _).step ?_ rfl
    | with_reducible refine (tryRecord_within _).step ?_ rfl
    | with_reducible refine Within.foldl _ ?_ ?_
    | (intro (x : State); refine Within.cut (x := x) (m := 0xFFFFFFFFFFFFFFFFFFFFFFFFFFFFFFFFFFFFFFFFFFFFFFFFFFFFFFFFFFFFFFFF002F8C84) (s := s) ?_ (fun hx => ?_); unfold x)
    | intro x
    | lift_lets -underBinder
    | split
    | exact rfl
    | (split <;> rfl)
    | clear_value *

theorem execEpochSwitchBoundary_within (s : State) :
    ∃ t, execEpochSwitchBoundary s = .next t ∧ Within 0xFFFFFFFFFFFFFFFFFFFFFFFFFFFFFFFFFFFFFFFFFFFFFFFFFFFFFFFFFFFFFFFF002F8C84 s t := by
  refine ⟨_, rfl, ?_⟩
  have h0 := Within.refl 0xFFFFFFFFFFFFFFFFFFFFFFFFFFFFFFFFFFFFFFFFFFFFFFFFFFFFFFFFFFFFFFFF002F8C84 s
  try lift_lets -underBinder
  repeat' first
    | with_reducible assumption
    | with_reducible refine Within.ite ?_ ?_
    | with_reducible refine Within.setB_all ?_ rfl
    | with_reducible refine Within.set_all ?_ rfl
    | with_reducible refine (modTck_within _ _).step ?_ rfl
    | with_reducible refine (finish_within _ _ _ _ _ _).step ?_ rfl
    | with_reducible refine (activateAll_within _ _ _ _ _).step ?_ rfl
    | with_reducible refine Within.foldl _ ?_ ?_
    | (intro (x : State); refine Within.cut (x := x) (m := 0xFFFFFFFFFFFFFFFFFFFFFFFFFFFFFFFFFFFFFFFFFFFFFFFFFFFFFFFFFFFFFFFF002F8C84) (s := s) ?_ (fun hx => ?_); unfold x)
    | intro x
    | lift_lets -underBinder
    | split
    | exact rfl
    | (split <;> rfl)
    | clear_value *

end Sys2Proof.Laws
end

