-- ==== Sys2Proof/Laws/WithinDurable.lean ====
section
/-!
SUPPORT. What the operations of Machine/Durable.lean may touch.
-/
namespace Sys2Proof.Laws

open Sys2Proof.Machine

theorem rwpDurable_within (s : State) (off val : Nat) :
    Within 0xFFFFFFFFFFFFFFFFFFFFFFFFFFFFFFFFFFFFFFFFFFFFFFFFFFFFFFFFFFFFFFFF00088004 s (State.rwpDurable s off val) := by
  have h0 := Within.refl 0xFFFFFFFFFFFFFFFFFFFFFFFFFFFFFFFFFFFFFFFFFFFFFFFFFFFFFFFFFFFFFFFF00088004 s
  unfold State.rwpDurable
  try lift_lets -underBinder
  repeat' first
    | with_reducible assumption
    | with_reducible refine Within.ite ?_ ?_
    | with_reducible refine (writeRwp_within _ _ _ _).step ?_ rfl
    | with_reducible refine (scaleWritten_within _ _).step ?_ rfl
    | with_reducible refine (pulseCleared_within _ _).step ?_ rfl
    | with_reducible refine (pulseOff_within _ _).step ?_ rfl
    | with_reducible refine (refreshHeld_within _).step ?_ rfl
    | with_reducible refine (showTamper_within _).step ?_ rfl
    | with_reducible refine Within.foldl _ ?_ ?_
    | (intro (x : State); refine Within.cut (x := x) (m := 0xFFFFFFFFFFFFFFFFFFFFFFFFFFFFFFFFFFFFFFFFFFFFFFFFFFFFFFFFFFFFFFFF00088004) (s := s) ?_ (fun hx => ?_); unfold x)
    | intro x
    | lift_lets -underBinder
    | split
    | exact rfl
    | (split <;> rfl)
    | clear_value *

theorem sealDurable_within (s : State) (p num n v : Nat) :
    Within 0x40160008000C s (State.sealDurable s p num n v) := by
  have h0 := Within.refl 0x40160008000C s
  unfold State.sealDurable
  try lift_lets -underBinder
  repeat' first
    | with_reducible assumption
    | with_reducible refine Within.ite ?_ ?_
    | with_reducible refine Within.setBit 2 ?_ ?_ rfl
    | with_reducible refine Within.set 2 ?_ ?_ rfl
    | with_reducible refine (quarantineExit_within _ _).step ?_ rfl
    | with_reducible refine (finish_within _ _ _ _ _ _).step ?_ rfl
    | with_reducible refine Within.foldl _ ?_ ?_
    | (intro (x : State); refine Within.cut (x := x) (m := 0x40160008000C) (s := s) ?_ (fun hx => ?_); unfold x)
    | intro x
    | lift_lets -underBinder
    | split
    | exact rfl
    | (split <;> rfl)
    | clear_value *

theorem changeDurable_within (s : State) (a : ChangeAct) :
    Within 0xFFFFFFFFFFFFFFFFFFFFFFFFFFFFFFFFFFFFFFFFFFFFFFFFFFFFFFFFFFFFFFFF0069803E s (State.changeDurable s a) := by
  have h0 := Within.refl 0xFFFFFFFFFFFFFFFFFFFFFFFFFFFFFFFFFFFFFFFFFFFFFFFFFFFFFFFFFFFFFFFF0069803E s
  unfold State.changeDurable
  try lift_lets -underBinder
  repeat' first
    | with_reducible assumption
    | with_reducible refine Within.ite ?_ ?_
    | with_reducible refine (rwpDurable_within _ _ _).step ?_ rfl
    | with_reducible refine (winOpened_within _ _ _ _).step ?_ rfl
    | with_reducible refine (sealDurable_within _ _ _ _ _).step ?_ rfl
    | with_reducible refine (calDurable_within _ _ _ _ _).step ?_ rfl
    | with_reducible refine (inputDurable_within _ _ _ _ _).step ?_ rfl
    | with_reducible refine (lifeDurable_within _ _ _ _ _ _).step ?_ rfl
    | with_reducible refine (passDurable_within _ _ _ _ _).step ?_ rfl
    | with_reducible refine Within.foldl _ ?_ ?_
    | (intro (x : State); refine Within.cut (x := x) (m := 0xFFFFFFFFFFFFFFFFFFFFFFFFFFFFFFFFFFFFFFFFFFFFFFFFFFFFFFFFFFFFFFFF0069803E) (s := s) ?_ (fun hx => ?_); unfold x)
    | intro x
    | lift_lets -underBinder
    | split
    | exact rfl
    | (split <;> rfl)
    | clear_value *

theorem changeStored_within (s : State) (c : Change) (bytes : List Nat) :
    Within 0xFFFFFFFFFFFFFFFFFFFFFFFFFFFFFFFFFFFFFFFFFFFFFFFFFFFFFFFFFFFFFFFF0069803E s (State.changeStored s c bytes) := by
  have h0 := Within.refl 0xFFFFFFFFFFFFFFFFFFFFFFFFFFFFFFFFFFFFFFFFFFFFFFFFFFFFFFFFFFFFFFFF0069803E s
  unfold State.changeStored
  try lift_lets -underBinder
  repeat' first
    | with_reducible assumption
    | with_reducible refine Within.ite ?_ ?_
    | with_reducible refine (append_within _ _ _).step ?_ rfl
    | with_reducible refine (raiseFull_within _).step ?_ rfl
    | with_reducible refine (changeDurable_within _ _).step ?_ rfl
    | with_reducible refine Within.foldl _ ?_ ?_
    | (intro (x : State); refine Within.cut (x := x) (m := 0xFFFFFFFFFFFFFFFFFFFFFFFFFFFFFFFFFFFFFFFFFFFFFFFFFFFFFFFFFFFFFFFF0069803E) (s := s) ?_ (fun hx => ?_); unfold x)
    | intro x
    | lift_lets -underBinder
    | split
    | exact rfl
    | (split <;> rfl)
    | clear_value *

theorem pumpBlock_within (s : State) :
    Within 0x400000080000 s (State.pumpBlock s) := by
  have h0 := Within.refl 0x400000080000 s
  unfold State.pumpBlock
  try lift_lets -underBinder
  repeat' first
    | with_reducible assumption
    | with_reducible refine Within.ite ?_ ?_
    | with_reducible refine Within.ite2 ?_ ?_
    | with_reducible refine (tryStore_within _ _ _ _).step ?_ rfl
    | with_reducible refine Within.foldl _ ?_ ?_
    | with_reducible refine Within.foldl2 _ ?_ ?_
    | (intro (x : State); refine Within.cut (x := x) (m := 0x400000080000) (s := s) ?_ (fun hx => ?_); unfold x)
    | intro x
    | lift_lets -underBinder
    | split
    | exact rfl
    | (split <;> rfl)
    | clear_value *

theorem blockDurable_within (s : State) (b : List Nat) :
    Within 0x40C200090004 s (State.blockDurable s b) := by
  have h0 := Within.refl 0x40C200090004 s
  unfold State.blockDurable
  try lift_lets -underBinder
  repeat' first
    | with_reducible assumption
    | with_reducible refine Within.ite ?_ ?_
    | with_reducible refine (refreshHeld_within _).step ?_ rfl
    | with_reducible refine (modBil_within _ _).step ?_ rfl
    | with_reducible refine (append_within _ _ _).step ?_ rfl
    | with_reducible refine Within.foldl _ ?_ ?_
    | (intro (x : State); refine Within.cut (x := x) (m := 0x40C200090004) (s := s) ?_ (fun hx => ?_); unfold x)
    | intro x
    | lift_lets -underBinder
    | split
    | exact rfl
    | (split <;> rfl)
    | clear_value *

theorem workDurable_within (s : State) (k : WorkKind) :
    Within 0x600200280006 s (State.workDurable s k) := by
  have h0 := Within.refl 0x600200280006 s
  unfold State.workDurable
  try lift_lets -underBinder
  repeat' first
    | with_reducible assumption
    | with_reducible refine Within.ite ?_ ?_
    | with_reducible refine (finish_within _ _ _ _ _ _).step ?_ rfl
    | with_reducible refine (tableDurable_within _ _ _ _).step ?_ rfl
    | with_reducible refine (fwDurable_within _ _ _ _ _).step ?_ rfl
    | with_reducible refine (charterDurable_within _ _ _ _ _ _).step ?_ rfl
    | with_reducible refine Within.foldl _ ?_ ?_
    | (intro (x : State); refine Within.cut (x := x) (m := 0x600200280006) (s := s) ?_ (fun hx => ?_); unfold x)
    | intro x
    | lift_lets -underBinder
    | split
    | exact rfl
    | (split <;> rfl)
    | clear_value *

theorem hostStored_within (s : State) (at_ : Nat) (data : List Nat) : Within 0x1080000 s (s.hostStored at_ data) := by
  unfold State.hostStored
  constructor <;> first | rfl | exact List.prefix_refl _ | exact id | exact fun h => memory_wf_write _ _ h | (intro _; rfl) | (intro _ _; rfl) |
    (intro h; exact absurd h (by decide))

theorem workStored_within (s : State) (id n : Nat) :
    Within 0x600201280006 s (State.workStored s id n) := by
  have h0 := Within.refl 0x600201280006 s
  unfold State.workStored
  try lift_lets -underBinder
  repeat' first
    | with_reducible assumption
    | with_reducible refine Within.ite ?_ ?_
    | with_reducible refine (hostStored_within _ _ _).step ?_ rfl
    | with_reducible refine (workDurable_within _ _).step ?_ rfl
    | with_reducible refine (modHay_within _ _ ?_).step ?_ rfl
    | exact fun _ => rfl
    | with_reducible refine (workStart_within _ _).step ?_ rfl
    | with_reducible refine (modWork_within _ _ _).step ?_ rfl
    | with_reducible refine Within.foldl _ ?_ ?_
    | (intro (x : State); refine Within.cut (x := x) (m := 0x600201280006) (s := s) ?_ (fun hx => ?_); unfold x)
    | intro x
    | lift_lets -underBinder
    | split
    | exact rfl
    | (split <;> rfl)
    | clear_value *

theorem jobDurable_within (s : State) (j : Job) :
    Within 0xFFFFFFFFFFFFFFFFFFFFFFFFFFFFFFFFFFFFFFFFFFFFFFFFFFFFFFFFFFFFFFFF016B817E s (State.jobDurable s j) := by
  have h0 := Within.refl 0xFFFFFFFFFFFFFFFFFFFFFFFFFFFFFFFFFFFFFFFFFFFFFFFFFFFFFFFFFFFFFFFF016B817E s
  unfold State.jobDurable
  try lift_lets -underBinder
  repeat' first
    | with_reducible assumption
    | with_reducible refine Within.ite ?_ ?_
    | with_reducible refine (pumpLog_within _).step ?_ rfl
    | with_reducible refine (append_within _ _ _).step ?_ rfl
    | with_reducible refine (changeStored_within _ _ _).step ?_ rfl
    | with_reducible refine (recDurable_within _ _ _).step ?_ rfl
    | with_reducible refine (pumpBlock_within _).step ?_ rfl
    | with_reducible refine (ckptDurable_within _ _).step ?_ rfl
    | with_reducible refine (blockDurable_within _ _).step ?_ rfl
    | with_reducible refine (workStored_within _ _ _).step ?_ rfl
    | with_reducible refine (migrated_within _ _ _).step ?_ rfl
    | with_reducible refine (erased_within _ _ _).step ?_ rfl
    | with_reducible refine (leafDurable_within _).step ?_ rfl
    | with_reducible refine (leafIdxDurable_within _).step ?_ rfl
    | with_reducible refine (keySlotDurable_within _ _ _ _ _ _).step ?_ rfl
    | with_reducible refine (activationDurable_within _).step ?_ rfl
    | with_reducible refine (modPwr_within _ _).step ?_ rfl
    | with_reducible refine Within.foldl _ ?_ ?_
    | (intro (x : State); refine Within.cut (x := x) (m := 0xFFFFFFFFFFFFFFFFFFFFFFFFFFFFFFFFFFFFFFFFFFFFFFFFFFFFFFFFFFFFFFFF016B817E) (s := s) ?_ (fun hx => ?_); unfold x)
    | intro x
    | lift_lets -underBinder
    | split
    | exact rfl
    | (split <;> rfl)
    | clear_value *

theorem storeDurable_within (s : State) (id : Nat) :
    Within 0xFFFFFFFFFFFFFFFFFFFFFFFFFFFFFFFFFFFFFFFFFFFFFFFFFFFFFFFFFFFFFFFF016B817E s (State.storeDurable s id) := by
  have h0 := Within.refl 0xFFFFFFFFFFFFFFFFFFFFFFFFFFFFFFFFFFFFFFFFFFFFFFFFFFFFFFFFFFFFFFFF016B817E s
  unfold State.storeDurable
  try lift_lets -underBinder
  repeat' first
    | with_reducible assumption
    | with_reducible refine Within.ite ?_ ?_
    | with_reducible refine (seeFinal_within _).step ?_ rfl
    | with_reducible refine (jobDurable_within _ _).step ?_ rfl
    | with_reducible refine (modHay_within _ _ ?_).step ?_ rfl
    | exact fun _ => rfl
    | with_reducible refine Within.foldl _ ?_ ?_
    | (intro (x : State); refine Within.cut (x := x) (m := 0xFFFFFFFFFFFFFFFFFFFFFFFFFFFFFFFFFFFFFFFFFFFFFFFFFFFFFFFFFFFFFFFF016B817E) (s := s) ?_ (fun hx => ?_); unfold x)
    | intro x
    | lift_lets -underBinder
    | split
    | exact rfl
    | (split <;> rfl)
    | clear_value *

theorem workFailed_within (s : State) (id status : Nat) :
    Within 0x400200080004 s (State.workFailed s id status) := by
  have h0 := Within.refl 0x400200080004 s
  unfold State.workFailed
  try lift_lets -underBinder
  repeat' first
    | with_reducible assumption
    | with_reducible refine Within.ite ?_ ?_
    | with_reducible refine (modHay_within _ _ ?_).step ?_ rfl
    | exact fun _ => rfl
    | with_reducible refine (finish_within _ _ _ _ _ _).step ?_ rfl
    | with_reducible refine Within.foldl _ ?_ ?_
    | (intro (x : State); refine Within.cut (x := x) (m := 0x400200080004) (s := s) ?_ (fun hx => ?_); unfold x)
    | intro x
    | lift_lets -underBinder
    | split
    | exact rfl
    | (split <;> rfl)
    | clear_value *

theorem jobFailed_within (s : State) (j : Job) :
    Within 0x4002000A0004 s (State.jobFailed s j) := by
  have h0 := Within.refl 0x4002000A0004 s
  unfold State.jobFailed
  try lift_lets -underBinder
  repeat' first
    | with_reducible assumption
    | with_reducible refine Within.ite ?_ ?_
    | with_reducible refine (workFailed_within _ _ _).step ?_ rfl
    | with_reducible refine (modOverlay_within _ _).step ?_ rfl
    | with_reducible refine Within.foldl _ ?_ ?_
    | (intro (x : State); refine Within.cut (x := x) (m := 0x4002000A0004) (s := s) ?_ (fun hx => ?_); unfold x)
    | intro x
    | lift_lets -underBinder
    | split
    | exact rfl
    | (split <;> rfl)
    | clear_value *

theorem programFail_within (s : State) (id die block : Nat) :
    Within 0x4002000A0004 s (State.programFail s id die block) := by
  have h0 := Within.refl 0x4002000A0004 s
  unfold State.programFail
  try lift_lets -underBinder
  repeat' first
    | with_reducible assumption
    | with_reducible refine Within.ite ?_ ?_
    | with_reducible refine (retireBlock_within _).step ?_ rfl
    | with_reducible refine (modHay_within _ _ ?_).step ?_ rfl
    | exact fun _ => rfl
    | with_reducible refine (raise_within _ _ _ _ _).step ?_ rfl
    | with_reducible refine Within.setB 14 ?_ ?_ rfl
    | with_reducible refine (jobFailed_within _ _).step ?_ rfl
    | with_reducible refine Within.foldl _ ?_ ?_
    | (intro (x : State); refine Within.cut (x := x) (m := 0x4002000A0004) (s := s) ?_ (fun hx => ?_); unfold x)
    | intro x
    | lift_lets -underBinder
    | split
    | exact rfl
    | (split <;> rfl)
    | clear_value *

theorem leavesLost_within (s : State) (page : Nat) :
    Within 0x20000 s (State.leavesLost s page) := by
  have h0 := Within.refl 0x20000 s
  unfold State.leavesLost
  try lift_lets -underBinder
  repeat' first
    | with_reducible assumption
    | with_reducible refine Within.ite ?_ ?_
    | with_reducible refine (modDro_within _ _).step ?_ rfl
    | with_reducible refine Within.foldl _ ?_ ?_
    | (intro (x : State); refine Within.cut (x := x) (m := 0x20000) (s := s) ?_ (fun hx => ?_); unfold x)
    | intro x
    | lift_lets -underBinder
    | split
    | exact rfl
    | (split <;> rfl)
    | clear_value *

theorem eventsLost_within (s : State) (page : Nat) :
    Within 0x80000 s (State.eventsLost s page) := by
  have h0 := Within.refl 0x80000 s
  unfold State.eventsLost
  try lift_lets -underBinder
  repeat' first
    | with_reducible assumption
    | with_reducible refine Within.ite ?_ ?_
    | with_reducible refine (setRegion_within _ _ _).step ?_ rfl
    | with_reducible refine Within.foldl _ ?_ ?_
    | (intro (x : State); refine Within.cut (x := x) (m := 0x80000) (s := s) ?_ (fun hx => ?_); unfold x)
    | intro x
    | lift_lets -underBinder
    | split
    | exact rfl
    | (split <;> rfl)
    | clear_value *

theorem imagesLost_within (s : State) (page : Nat) :
    Within 0x600200280006 s (State.imagesLost s page) := by
  have h0 := Within.refl 0x600200280006 s
  unfold State.imagesLost
  try lift_lets -underBinder
  repeat' first
    | with_reducible assumption
    | with_reducible refine Within.ite ?_ ?_
    | with_reducible refine Within.ite2 ?_ ?_
    | with_reducible refine (uncorrectable_within _ _ _ _).step ?_ rfl
    | with_reducible refine (modTck_within _ _).step ?_ rfl
    | with_reducible refine (fresh_within _ _).step ?_ rfl
    | with_reducible refine (showStaged_within _ _).step ?_ rfl
    | with_reducible refine (tryStore_within _ _ _ _).step ?_ rfl
    | with_reducible refine Within.foldl _ ?_ ?_
    | with_reducible refine Within.foldl2 _ ?_ ?_
    | (intro (x : State); refine Within.cut (x := x) (m := 0x600200280006) (s := s) ?_ (fun hx => ?_); unfold x)
    | intro x
    | lift_lets -underBinder
    | split
    | exact rfl
    | (split <;> rfl)
    | clear_value *

theorem scrub_within (s : State) (region page bits : Nat) (uncorr : Bool) :
    Within 0x6002002A0006 s (State.scrub s region page bits uncorr) := by
  have h0 := Within.refl 0x6002002A0006 s
  unfold State.scrub
  try lift_lets -underBinder
  repeat' first
    | with_reducible assumption
    | with_reducible refine Within.ite ?_ ?_
    | with_reducible refine Within.ite2 ?_ ?_
    | with_reducible refine Within.set 14 ?_ ?_ rfl
    | with_reducible refine (tryStore_within _ _ _ _).step ?_ rfl
    | with_reducible refine Within.incSat 14 ?_ ?_ rfl
    | with_reducible refine (uncorrectable_within _ _ _ _).step ?_ rfl
    | with_reducible refine (leavesLost_within _ _).step ?_ rfl
    | with_reducible refine (eventsLost_within _ _).step ?_ rfl
    | with_reducible refine (imagesLost_within _ _).step ?_ rfl
    | with_reducible refine (modHay_within _ _ ?_).step ?_ rfl
    | exact fun _ => rfl
    | with_reducible refine Within.foldl _ ?_ ?_
    | with_reducible refine Within.foldl2 _ ?_ ?_
    | (intro (x : State); refine Within.cut (x := x) (m := 0x6002002A0006) (s := s) ?_ (fun hx => ?_); unfold x)
    | intro x
    | lift_lets -underBinder
    | split
    | exact rfl
    | (split <;> rfl)
    | clear_value *

end Sys2Proof.Laws
end

