-- ==== Sys2Proof/Laws/WithinCold.lean ====
section
/-!
SUPPORT. What the operations of Machine/Cold.lean may touch.
-/
namespace Sys2Proof.Laws

open Sys2Proof.Machine

theorem bankNoStandby_within (s : State) :
    Within 0x100000000 s (State.bankNoStandby s) := by
  have h0 := Within.refl 0x100000000 s
  unfold State.bankNoStandby
  try lift_lets -underBinder
  repeat' first
    | with_reducible assumption
    | with_reducible refine Within.ite ?_ ?_
    | with_reducible refine Within.set 0 ?_ ?_ rfl
    | with_reducible refine Within.foldl _ ?_ ?_
    | (intro (x : State); refine Within.cut (x := x) (m := 0x100000000) (s := s) ?_ (fun hx => ?_); unfold x)
    | intro x
    | lift_lets -underBinder
    | split
    | exact rfl
    | (split <;> rfl)
    | clear_value *

theorem bankLockout_within (s : State) :
    Within 0x200000000000 s (State.bankLockout s) := by
  have h0 := Within.refl 0x200000000000 s
  unfold State.bankLockout
  try lift_lets -underBinder
  repeat' first
    | with_reducible assumption
    | with_reducible refine Within.ite ?_ ?_
    | with_reducible refine Within.set 13 ?_ ?_ rfl
    | with_reducible refine Within.foldl _ ?_ ?_
    | (intro (x : State); refine Within.cut (x := x) (m := 0x200000000000) (s := s) ?_ (fun hx => ?_); unfold x)
    | intro x
    | lift_lets -underBinder
    | split
    | exact rfl
    | (split <;> rfl)
    | clear_value *

theorem undoSwitch_within (s : State) :
    Within 0x208000220000 s (State.undoSwitch s) := by
  have h0 := Within.refl 0x208000220000 s
  unfold State.undoSwitch
  try lift_lets -underBinder
  repeat' first
    | with_reducible assumption
    | with_reducible refine Within.ite ?_ ?_
    | with_reducible refine (modTck_within _ _).step ?_ rfl
    | ((with_reducible refine Within.set 7 ?_ ?hw rfl); case hw => first | exact rfl | assumption | (split <;> rfl))
    | ((with_reducible refine Within.set 13 ?_ ?hw rfl); case hw => first | exact rfl | assumption | (split <;> rfl))
    | with_reducible refine (modDro_within _ _).step ?_ rfl
    | with_reducible refine Within.foldl _ ?_ ?_
    | (intro (x : State); refine Within.cut (x := x) (m := 0x208000220000) (s := s) ?_ (fun hx => ?_); unfold x)
    | intro x
    | lift_lets -underBinder
    | split
    | exact rfl
    | (split <;> rfl)
    | clear_value *

theorem blocksOff_within (s : State) : Within 0x3E7DD8 s s.blocksOff := by
  unfold State.blocksOff
  constructor <;> first | rfl | exact List.prefix_refl _ | exact id | (intro _; rfl) | (intro _ _; rfl) | (intro h; exact absurd h (by decide))

theorem paddocksOff_within (s : State) :
    Within 0x4 s (State.paddocksOff s) := by
  have h0 := Within.refl 0x4 s
  unfold State.paddocksOff
  try lift_lets -underBinder
  repeat' first
    | with_reducible assumption
    | with_reducible refine Within.ite ?_ ?_
    | with_reducible refine Within.foldl _ ?_ ?_
    | (intro (x : State); refine Within.cut (x := x) (m := 0x4) (s := s) ?_ (fun hx => ?_); unfold x)
    | intro x
    | lift_lets -underBinder
    | split
    | with_reducible refine Within.pdkUpd.step ?_ rfl
    | exact rfl
    | (split <;> rfl)
    | clear_value *

theorem halterOff_within (s : State) : Within 0x225 s s.halterOff := by
  unfold State.halterOff
  constructor <;> first | rfl | exact List.prefix_refl _ | exact id | (intro _; rfl) | (intro _ _; rfl) | (intro h; exact absurd h (by decide))

theorem paddocksAfresh_within (s : State) :
    Within 0x4 s (State.paddocksAfresh s) := by
  have h0 := Within.refl 0x4 s
  unfold State.paddocksAfresh
  try lift_lets -underBinder
  repeat' first
    | with_reducible assumption
    | with_reducible refine Within.ite ?_ ?_
    | with_reducible refine Within.foldl _ ?_ ?_
    | (intro (x : State); refine Within.cut (x := x) (m := 0x4) (s := s) ?_ (fun hx => ?_); unfold x)
    | intro x
    | lift_lets -underBinder
    | split
    | with_reducible refine Within.pdkUpd.step ?_ rfl
    | exact rfl
    | (split <;> rfl)
    | clear_value *

theorem coldReset_within (s : State) :
    Within 0xFFFFFFFFFFFFFFFFFFFFFFFFFFFFFFFFFFFFFFFFFFFFFFFFFFFFFFFFFFFFFFFF007E7FFD s (State.coldReset s) := by
  have h0 := Within.refl 0xFFFFFFFFFFFFFFFFFFFFFFFFFFFFFFFFFFFFFFFFFFFFFFFFFFFFFFFFFFFFFFFF007E7FFD s
  unfold State.coldReset
  try lift_lets -underBinder
  repeat' first
    | with_reducible assumption
    | with_reducible refine Within.ite ?_ ?_
    | with_reducible refine (undoSwitch_within _).step ?_ rfl
    | with_reducible refine (bankLockout_within _).step ?_ rfl
    | with_reducible refine (bankNoStandby_within _).step ?_ rfl
    | with_reducible refine (clearRegs_within _ _).step ?_ rfl
    | with_reducible refine Within.set_all ?_ rfl
    | with_reducible refine (modPwr_within _ _).step ?_ rfl
    | with_reducible refine (modHay_within _ _ ?_).step ?_ rfl
    | exact fun _ => rfl
    | with_reducible refine (blocksOff_within _).step ?_ rfl
    | with_reducible refine (halterOff_within _).step ?_ rfl
    | with_reducible refine Within.foldl _ ?_ ?_
    | (intro (x : State); refine Within.cut (x := x) (m := 0xFFFFFFFFFFFFFFFFFFFFFFFFFFFFFFFFFFFFFFFFFFFFFFFFFFFFFFFFFFFFFFFF007E7FFD) (s := s) ?_ (fun hx => ?_); unfold x)
    | intro x
    | lift_lets -underBinder
    | split
    | exact rfl
    | (split <;> rfl)
    | clear_value *

theorem goCold_within (s : State) (cause detail : Nat) :
    Within 0xFFFFFFFFFFFFFFFFFFFFFFFFFFFFFFFFFFFFFFFFFFFFFFFFFFFFFFFFFFFFFFFF007E7FFD s (State.goCold s cause detail) := by
  have h0 := Within.refl 0xFFFFFFFFFFFFFFFFFFFFFFFFFFFFFFFFFFFFFFFFFFFFFFFFFFFFFFFFFFFFFFFF007E7FFD s
  unfold State.goCold
  try lift_lets -underBinder
  repeat' first
    | with_reducible assumption
    | with_reducible refine Within.ite ?_ ?_
    | with_reducible refine Within.set_all ?_ rfl
    | with_reducible refine (coldReset_within _).step ?_ rfl
    | with_reducible refine (modPwr_within _ _).step ?_ rfl
    | with_reducible refine (paddocksAfresh_within _).step ?_ rfl
    | with_reducible refine Within.foldl _ ?_ ?_
    | (intro (x : State); refine Within.cut (x := x) (m := 0xFFFFFFFFFFFFFFFFFFFFFFFFFFFFFFFFFFFFFFFFFFFFFFFFFFFFFFFFFFFFFFFF007E7FFD) (s := s) ?_ (fun hx => ?_); unfold x)
    | intro x
    | lift_lets -underBinder
    | split
    | exact rfl
    | (split <;> rfl)
    | clear_value *

theorem hibernateOff_within (s : State) :
    Within 0xFFFFFFFFFFFFFFFFFFFFFFFFFFFFFFFFFFFFFFFFFFFFFFFFFFFFFFFFFFFFFFFF007E7DFC s (State.hibernateOff s) := by
  have h0 := Within.refl 0xFFFFFFFFFFFFFFFFFFFFFFFFFFFFFFFFFFFFFFFFFFFFFFFFFFFFFFFFFFFFFFFF007E7DFC s
  unfold State.hibernateOff
  try lift_lets -underBinder
  repeat' first
    | with_reducible assumption
    | with_reducible refine Within.ite ?_ ?_
    | with_reducible refine (undoSwitch_within _).step ?_ rfl
    | with_reducible refine (bankLockout_within _).step ?_ rfl
    | with_reducible refine (bankNoStandby_within _).step ?_ rfl
    | with_reducible refine (clearRegs_within _ _).step ?_ rfl
    | with_reducible refine Within.set_all ?_ rfl
    | with_reducible refine (paddocksOff_within _).step ?_ rfl
    | with_reducible refine (blocksOff_within _).step ?_ rfl
    | with_reducible refine Within.forAll ?_ ?_
    | with_reducible refine (refreshCeil_within _ _).step ?_ rfl
    | with_reducible refine (refreshSafeOut_within _).step ?_ rfl
    | with_reducible refine (modPwr_within _ _).step ?_ rfl
    | with_reducible refine Within.foldl _ ?_ ?_
    | (intro (x : State); refine Within.cut (x := x) (m := 0xFFFFFFFFFFFFFFFFFFFFFFFFFFFFFFFFFFFFFFFFFFFFFFFFFFFFFFFFFFFFFFFF007E7DFC) (s := s) ?_ (fun hx => ?_); unfold x)
    | intro x
    | lift_lets -underBinder
    | split
    | with_reducible refine Within.haltSUpd.step ?_ rfl
    | exact rfl
    | (split <;> rfl)
    | clear_value *

theorem bootTables_within (s : State) :
    Within 0xFFFFFFFFFFFFFFFFFFFFFFFFFFFFFFFFFFFFFFFFFFFFFFFFFFFFFFFFFFFFFFFF002F0C8E s (State.bootTables s) := by
  have h0 := Within.refl 0xFFFFFFFFFFFFFFFFFFFFFFFFFFFFFFFFFFFFFFFFFFFFFFFFFFFFFFFFFFFFFFFF002F0C8E s
  unfold State.bootTables
  try lift_lets -underBinder
  repeat' first
    | with_reducible assumption
    | with_reducible refine Within.ite ?_ ?_
    | with_reducible refine Within.forAll ?_ ?_
    | with_reducible refine Within.set_all ?_ rfl
    | with_reducible refine (loadTable_within _ _ _).step ?_ rfl
    | with_reducible refine (loadBank_within _ _ _).step ?_ rfl
    | with_reducible refine (refreshPolicy_within _ _).step ?_ rfl
    | with_reducible refine (showCabs_within _).step ?_ rfl
    | with_reducible refine Within.setB_all ?_ rfl
    | with_reducible refine (modTck_within _ _).step ?_ rfl
    | with_reducible refine (showStaged_within _ _).step ?_ rfl
    | with_reducible refine (newNonce_within _).step ?_ rfl
    | with_reducible refine (block_within _ _ _).step ?_ rfl
    | with_reducible refine (toTraining_within _ _).step ?_ rfl
    | with_reducible refine (setLink_within _ _ _).step ?_ rfl
    | with_reducible refine Within.foldl _ ?_ ?_
    | (intro (x : State); refine Within.cut (x := x) (m := 0xFFFFFFFFFFFFFFFFFFFFFFFFFFFFFFFFFFFFFFFFFFFFFFFFFFFFFFFFFFFFFFFF002F0C8E) (s := s) ?_ (fun hx => ?_); unfold x)
    | intro x
    | lift_lets -underBinder
    | split
    | exact rfl
    | (split <;> rfl)
    | clear_value *

theorem bootHalter_within (s : State) :
    Within 0x550300086A04 s (State.bootHalter s) := by
  have h0 := Within.refl 0x550300086A04 s
  unfold State.bootHalter
  try lift_lets -underBinder
  repeat' first
    | with_reducible assumption
    | with_reducible refine Within.ite ?_ ?_
    | with_reducible refine (modHlt_within _ _).step ?_ rfl
    | with_reducible refine Within.forAll ?_ ?_
    | with_reducible refine Within.setB 12 ?_ ?_ rfl
    | with_reducible refine (actLoops_within _).step ?_ rfl
    | with_reducible refine (claimGpios_within _).step ?_ rfl
    | with_reducible refine Within.foldl _ ?_ ?_
    | (intro (x : State); refine Within.cut (x := x) (m := 0x550300086A04) (s := s) ?_ (fun hx => ?_); unfold x)
    | intro x
    | lift_lets -underBinder
    | split
    | exact rfl
    | (split <;> rfl)
    | clear_value *

theorem firstMeasure_within (s : State) :
    Within 0x80000 s (State.firstMeasure s) := by
  have h0 := Within.refl 0x80000 s
  unfold State.firstMeasure
  try lift_lets -underBinder
  repeat' first
    | with_reducible assumption
    | with_reducible refine Within.ite ?_ ?_
    | with_reducible refine (modHay_within _ _ ?_).step ?_ rfl
    | exact fun _ => rfl
    | with_reducible refine Within.foldl _ ?_ ?_
    | (intro (x : State); refine Within.cut (x := x) (m := 0x80000) (s := s) ?_ (fun hx => ?_); unfold x)
    | intro x
    | lift_lets -underBinder
    | split
    | exact rfl
    | (split <;> rfl)
    | clear_value *

theorem phases_within (s : State) (l : List Nat) :
    Within 0x100000000 s (State.phases s l) := by
  have h0 := Within.refl 0x100000000 s
  unfold State.phases
  try lift_lets -underBinder
  repeat' first
    | with_reducible assumption
    | with_reducible refine Within.ite ?_ ?_
    | with_reducible refine Within.setBit 0 ?_ ?_ rfl
    | with_reducible refine Within.set 0 ?_ ?_ rfl
    | with_reducible refine Within.foldl _ ?_ ?_
    | (intro (x : State); refine Within.cut (x := x) (m := 0x100000000) (s := s) ?_ (fun hx => ?_); unfold x)
    | intro x
    | lift_lets -underBinder
    | split
    | exact rfl
    | (split <;> rfl)
    | clear_value *

theorem bootFail_within (s : State) (cause : Nat) :
    Within 0x100000000 s (State.bootFail s cause) := by
  have h0 := Within.refl 0x100000000 s
  unfold State.bootFail
  try lift_lets -underBinder
  repeat' first
    | with_reducible assumption
    | with_reducible refine Within.ite ?_ ?_
    | with_reducible refine Within.set 0 ?_ ?_ rfl
    | with_reducible refine (phases_within _ _).step ?_ rfl
    | with_reducible refine Within.foldl _ ?_ ?_
    | (intro (x : State); refine Within.cut (x := x) (m := 0x100000000) (s := s) ?_ (fun hx => ?_); unfold x)
    | intro x
    | lift_lets -underBinder
    | split
    | exact rfl
    | (split <;> rfl)
    | clear_value *

theorem checkSlots_within (s : State) (new old : Bool) :
    Within 0x80000 s (State.checkSlots s new old) := by
  have h0 := Within.refl 0x80000 s
  unfold State.checkSlots
  try lift_lets -underBinder
  repeat' first
    | with_reducible assumption
    | with_reducible refine Within.ite ?_ ?_
    | with_reducible refine (modHay_within _ _ ?_).step ?_ rfl
    | exact fun _ => rfl
    | with_reducible refine Within.foldl _ ?_ ?_
    | (intro (x : State); refine Within.cut (x := x) (m := 0x80000) (s := s) ?_ (fun hx => ?_); unfold x)
    | intro x
    | lift_lets -underBinder
    | split
    | exact rfl
    | (split <;> rfl)
    | clear_value *

theorem startClock_within (s : State) (vbat : Bool) (wall : Nat) :
    Within 0xFFFFFFFFFFFFFFFFFFFFFFFFFFFFFFFFFFFFFFFFFFFFFFFFFFFFFFFFFFFFFFFF00010000 s (State.startClock s vbat wall) := by
  have h0 := Within.refl 0xFFFFFFFFFFFFFFFFFFFFFFFFFFFFFFFFFFFFFFFFFFFFFFFFFFFFFFFFFFFFFFFF00010000 s
  unfold State.startClock
  try lift_lets -underBinder
  repeat' first
    | with_reducible assumption
    | with_reducible refine Within.ite ?_ ?_
    | with_reducible refine (modBil_within _ _).step ?_ rfl
    | with_reducible refine (clearRegs_within _ _).step ?_ rfl
    | with_reducible refine Within.set_all ?_ rfl
    | with_reducible refine Within.foldl _ ?_ ?_
    | (intro (x : State); refine Within.cut (x := x) (m := 0xFFFFFFFFFFFFFFFFFFFFFFFFFFFFFFFFFFFFFFFFFFFFFFFFFFFFFFFFFFFFFFFF00010000) (s := s) ?_ (fun hx => ?_); unfold x)
    | intro x
    | lift_lets -underBinder
    | split
    | exact rfl
    | (split <;> rfl)
    | clear_value *

theorem putKey_within (s : State) (e : Nat × Nat) : Within 0xFFFFFFFFFFFFFFFFFFFFFFFFFFFFFFFFFFFFFFFFFFFFFFFFFFFFFFFFFFFFFFFF00000000 s (s.putKey e) := by
  refine { Within.refl _ s with wf := fun h => sparseWf_put _ _ h, host := id, regs := fun k hk => ?_ }
  rw [show windowOf k = windowOf k % 256 from (Nat.mod_mod _ _).symm, allWin] at hk
  cases hk

theorem restoreRegs_within (s : State) (c : Ckpt) :
    Within 0xFFFFFFFFFFFFFFFFFFFFFFFFFFFFFFFFFFFFFFFFFFFFFFFFFFFFFFFFFFFFFFFF00000000 s (State.restoreRegs s c) := by
  have h0 := Within.refl 0xFFFFFFFFFFFFFFFFFFFFFFFFFFFFFFFFFFFFFFFFFFFFFFFFFFFFFFFFFFFFFFFF00000000 s
  unfold State.restoreRegs
  try lift_lets -underBinder
  repeat' first
    | with_reducible assumption
    | with_reducible refine Within.ite ?_ ?_
    | with_reducible refine (clearRegs_within _ _).step ?_ rfl
    | with_reducible refine (putKey_within _ _).step ?_ rfl
    | with_reducible refine Within.set_all ?_ rfl
    | with_reducible refine Within.foldl _ ?_ ?_
    | (intro (x : State); refine Within.cut (x := x) (m := 0xFFFFFFFFFFFFFFFFFFFFFFFFFFFFFFFFFFFFFFFFFFFFFFFFFFFFFFFFFFFFFFFF00000000) (s := s) ?_ (fun hx => ?_); unfold x)
    | intro x
    | lift_lets -underBinder
    | split
    | exact rfl
    | (split <;> rfl)
    | clear_value *

theorem restoreWbg_within (s : State) (c : Ckpt) (gens : List Nat) :
    Within 0x2000008000 s (State.restoreWbg s c gens) := by
  have h0 := Within.refl 0x2000008000 s
  unfold State.restoreWbg
  try lift_lets -underBinder
  repeat' first
    | with_reducible assumption
    | with_reducible refine Within.ite ?_ ?_
    | with_reducible refine (modWbg_within _ _).step ?_ rfl
    | with_reducible refine Within.forAll ?_ ?_
    | with_reducible refine Within.set 5 ?_ ?_ rfl
    | with_reducible refine (showSubstitute_within _).step ?_ rfl
    | with_reducible refine Within.foldl _ ?_ ?_
    | (intro (x : State); refine Within.cut (x := x) (m := 0x2000008000) (s := s) ?_ (fun hx => ?_); unfold x)
    | intro x
    | lift_lets -underBinder
    | split
    | exact rfl
    | (split <;> rfl)
    | clear_value *

theorem restoreBil_within (s : State) (c : Ckpt) :
    Within 0x4000010000 s (State.restoreBil s c) := by
  have h0 := Within.refl 0x4000010000 s
  unfold State.restoreBil
  try lift_lets -underBinder
  repeat' first
    | with_reducible assumption
    | with_reducible refine Within.ite ?_ ?_
    | with_reducible refine (modBil_within _ _).step ?_ rfl
    | with_reducible refine Within.setB 6 ?_ ?_ rfl
    | with_reducible refine Within.foldl _ ?_ ?_
    | (intro (x : State); refine Within.cut (x := x) (m := 0x4000010000) (s := s) ?_ (fun hx => ?_); unfold x)
    | intro x
    | lift_lets -underBinder
    | split
    | exact rfl
    | (split <;> rfl)
    | clear_value *

theorem restoreEnd_within (s : State) (c : Ckpt) (ch : Nat) :
    Within 0x4000018000 s (State.restoreEnd s c ch) := by
  have h0 := Within.refl 0x4000018000 s
  unfold State.restoreEnd
  try lift_lets -underBinder
  repeat' first
    | with_reducible assumption
    | with_reducible refine Within.ite ?_ ?_
    | with_reducible refine (captureIn_within _ _ _).step ?_ rfl
    | with_reducible refine (modBil_within _ _).step ?_ rfl
    | with_reducible refine (modMet_within _ _ _).step ?_ rfl
    | with_reducible refine Within.foldl _ ?_ ?_
    | (intro (x : State); refine Within.cut (x := x) (m := 0x4000018000) (s := s) ?_ (fun hx => ?_); unfold x)
    | intro x
    | lift_lets -underBinder
    | split
    | exact rfl
    | (split <;> rfl)
    | clear_value *

theorem restoreInterval_within (s : State) (c : Ckpt) : Within 0x404200098006 s (State.restoreInterval s c) :=
  (raise_within _ _ _ _ _).step ((modBil_within _ _).step ((queueBlock_within s _ c.edge).step (Within.refl _ s) rfl) rfl) rfl

theorem openGap_within (s : State) (c : Ckpt) (vbat : Bool) (closed : Nat) :
    Within 0x10000 s (State.openGap s c vbat closed) := by
  have h0 := Within.refl 0x10000 s
  unfold State.openGap
  try lift_lets -underBinder
  repeat' first
    | with_reducible assumption
    | with_reducible refine Within.ite ?_ ?_
    | with_reducible refine (modBil_within _ _).step ?_ rfl
    | with_reducible refine Within.foldl _ ?_ ?_
    | (intro (x : State); refine Within.cut (x := x) (m := 0x10000) (s := s) ?_ (fun hx => ?_); unfold x)
    | intro x
    | lift_lets -underBinder
    | split
    | exact rfl
    | (split <;> rfl)
    | clear_value *

theorem restoreTime_within (s : State) (c : Ckpt) :
    Within 0x4000010000 s (State.restoreTime s c) := by
  have h0 := Within.refl 0x4000010000 s
  unfold State.restoreTime
  try lift_lets -underBinder
  repeat' first
    | with_reducible assumption
    | with_reducible refine Within.ite ?_ ?_
    | with_reducible refine (capture_within _ _).step ?_ rfl
    | with_reducible refine Within.foldl _ ?_ ?_
    | (intro (x : State); refine Within.cut (x := x) (m := 0x4000010000) (s := s) ?_ (fun hx => ?_); unfold x)
    | intro x
    | lift_lets -underBinder
    | split
    | exact rfl
    | (split <;> rfl)
    | clear_value *

theorem restoreTariff_within (s : State) :
    Within 0x404200090004 s (State.restoreTariff s) := by
  have h0 := Within.refl 0x404200090004 s
  unfold State.restoreTariff
  try lift_lets -underBinder
  repeat' first
    | with_reducible assumption
    | with_reducible refine Within.ite ?_ ?_
    | with_reducible refine Within.setB 6 ?_ ?_ rfl
    | with_reducible refine (modBil_within _ _).step ?_ rfl
    | with_reducible refine (switchTariff_within _ _ _).step ?_ rfl
    | with_reducible refine (passSwitches_within _).step ?_ rfl
    | with_reducible refine Within.foldl _ ?_ ?_
    | (intro (x : State); refine Within.cut (x := x) (m := 0x404200090004) (s := s) ?_ (fun hx => ?_); unfold x)
    | intro x
    | lift_lets -underBinder
    | split
    | exact rfl
    | (split <;> rfl)
    | clear_value *

theorem showDemand_within (s : State) :
    Within 0x4000000000 s (State.showDemand s) := by
  have h0 := Within.refl 0x4000000000 s
  unfold State.showDemand
  try lift_lets -underBinder
  repeat' first
    | with_reducible assumption
    | with_reducible refine Within.ite ?_ ?_
    | with_reducible refine Within.forAll ?_ ?_
    | with_reducible refine Within.set 6 ?_ ?_ rfl
    | with_reducible refine Within.foldl _ ?_ ?_
    | (intro (x : State); refine Within.cut (x := x) (m := 0x4000000000) (s := s) ?_ (fun hx => ?_); unfold x)
    | intro x
    | lift_lets -underBinder
    | split
    | exact rfl
    | (split <;> rfl)
    | clear_value *

theorem keepInterval_within (s : State) (c : Ckpt) :
    Within 0x4000010000 s (State.keepInterval s c) := by
  have h0 := Within.refl 0x4000010000 s
  unfold State.keepInterval
  try lift_lets -underBinder
  repeat' first
    | with_reducible assumption
    | with_reducible refine Within.ite ?_ ?_
    | with_reducible refine (modBil_within _ _).step ?_ rfl
    | with_reducible refine (showDemand_within _).step ?_ rfl
    | with_reducible refine Within.setB 6 ?_ ?_ rfl
    | with_reducible refine Within.foldl _ ?_ ?_
    | (intro (x : State); refine Within.cut (x := x) (m := 0x4000010000) (s := s) ?_ (fun hx => ?_); unfold x)
    | intro x
    | lift_lets -underBinder
    | split
    | exact rfl
    | (split <;> rfl)
    | clear_value *

theorem restoreMeters_within (s : State) (vbat : Bool) :
    Within 0xFFFFFFFFFFFFFFFFFFFFFFFFFFFFFFFFFFFFFFFFFFFFFFFFFFFFFFFFFFFFFFFF006F8C8E s (State.restoreMeters s vbat) := by
  have h0 := Within.refl 0xFFFFFFFFFFFFFFFFFFFFFFFFFFFFFFFFFFFFFFFFFFFFFFFFFFFFFFFFFFFFFFFF006F8C8E s
  unfold State.restoreMeters
  try lift_lets -underBinder
  repeat' first
    | with_reducible assumption
    | with_reducible refine Within.ite ?_ ?_
    | with_reducible refine (restoreWbg_within _ _ _).step ?_ rfl
    | with_reducible refine Within.setB_all ?_ rfl
    | with_reducible refine (bootTables_within _).step ?_ rfl
    | with_reducible refine (restoreRegs_within _ _).step ?_ rfl
    | with_reducible refine (restoreBil_within _ _).step ?_ rfl
    | with_reducible refine (modHay_within _ _ ?_).step ?_ rfl
    | exact fun _ => rfl
    | with_reducible refine (raise_within _ _ _ _ _).step ?_ rfl
    | with_reducible refine Within.forAll ?_ ?_
    | with_reducible refine (restoreEnd_within _ _ _).step ?_ rfl
    | with_reducible refine (restoreInterval_within _ _).step ?_ rfl
    | with_reducible refine (openGap_within _ _ _ _).step ?_ rfl
    | with_reducible refine (restoreTime_within _ _).step ?_ rfl
    | with_reducible refine (restoreTariff_within _).step ?_ rfl
    | with_reducible refine (keepInterval_within _ _).step ?_ rfl
    | with_reducible refine (showChan_within _ _).step ?_ rfl
    | with_reducible refine (showTamper_within _).step ?_ rfl
    | with_reducible refine (refreshHeld_within _).step ?_ rfl
    | with_reducible refine (modPwr_within _ _).step ?_ rfl
    | with_reducible refine Within.foldl _ ?_ ?_
    | (intro (x : State); refine Within.cut (x := x) (m := 0xFFFFFFFFFFFFFFFFFFFFFFFFFFFFFFFFFFFFFFFFFFFFFFFFFFFFFFFFFFFFFFFF006F8C8E) (s := s) ?_ (fun hx => ?_); unfold x)
    | intro x
    | lift_lets -underBinder
    | split
    | exact rfl
    | (split <;> rfl)
    | clear_value *

theorem restoreOrFail_within (s : State) (vbat : Bool) :
    Within 0xFFFFFFFFFFFFFFFFFFFFFFFFFFFFFFFFFFFFFFFFFFFFFFFFFFFFFFFFFFFFFFFF006F8C8E s (State.restoreOrFail s vbat) := by
  have h0 := Within.refl 0xFFFFFFFFFFFFFFFFFFFFFFFFFFFFFFFFFFFFFFFFFFFFFFFFFFFFFFFFFFFFFFFF006F8C8E s
  unfold State.restoreOrFail
  try lift_lets -underBinder
  repeat' first
    | with_reducible assumption
    | with_reducible refine Within.ite ?_ ?_
    | with_reducible refine (bootFail_within _ _).step ?_ rfl
    | with_reducible refine (modPwr_within _ _).step ?_ rfl
    | with_reducible refine (restoreMeters_within _ _).step ?_ rfl
    | with_reducible refine Within.foldl _ ?_ ?_
    | (intro (x : State); refine Within.cut (x := x) (m := 0xFFFFFFFFFFFFFFFFFFFFFFFFFFFFFFFFFFFFFFFFFFFFFFFFFFFFFFFFFFFFFFFF006F8C8E) (s := s) ?_ (fun hx => ?_); unfold x)
    | intro x
    | lift_lets -underBinder
    | split
    | exact rfl
    | (split <;> rfl)
    | clear_value *

theorem clearDevice_within (s : State) :
    Within 0xFFFFFFFFFFFFFFFFFFFFFFFFFFFFFFFFFFFFFFFFFFFFFFFFFFFFFFFFFFFFFFFF00000000 s (State.clearDevice s) := by
  have h0 := Within.refl 0xFFFFFFFFFFFFFFFFFFFFFFFFFFFFFFFFFFFFFFFFFFFFFFFFFFFFFFFFFFFFFFFF00000000 s
  unfold State.clearDevice
  try lift_lets -underBinder
  repeat' first
    | with_reducible assumption
    | with_reducible refine Within.ite ?_ ?_
    | with_reducible refine (clearRegs_within _ _).step ?_ rfl
    | with_reducible refine Within.foldl _ ?_ ?_
    | (intro (x : State); refine Within.cut (x := x) (m := 0xFFFFFFFFFFFFFFFFFFFFFFFFFFFFFFFFFFFFFFFFFFFFFFFFFFFFFFFFFFFFFFFF00000000) (s := s) ?_ (fun hx => ?_); unfold x)
    | intro x
    | lift_lets -underBinder
    | split
    | exact rfl
    | (split <;> rfl)
    | clear_value *

theorem resetDrover_within (s : State) :
    Within 0x28008 s (State.resetDrover s) := by
  have h0 := Within.refl 0x28008 s
  unfold State.resetDrover
  try lift_lets -underBinder
  repeat' first
    | with_reducible assumption
    | with_reducible refine Within.ite ?_ ?_
    | with_reducible refine (modDro_within _ _).step ?_ rfl
    | with_reducible refine (modWbg_within _ _).step ?_ rfl
    | with_reducible refine Within.foldl _ ?_ ?_
    | (intro (x : State); refine Within.cut (x := x) (m := 0x28008) (s := s) ?_ (fun hx => ?_); unfold x)
    | intro x
    | lift_lets -underBinder
    | split
    | with_reducible refine Within.slkUpd.step ?_ rfl
    | exact rfl
    | (split <;> rfl)
    | clear_value *

theorem resetEngines_within (s : State) :
    Within 0x410 s (State.resetEngines s) := by
  have h0 := Within.refl 0x410 s
  unfold State.resetEngines
  try lift_lets -underBinder
  repeat' first
    | with_reducible assumption
    | with_reducible refine Within.ite ?_ ?_
    | with_reducible refine (modYms_within _ _).step ?_ rfl
    | with_reducible refine Within.foldl _ ?_ ?_
    | (intro (x : State); refine Within.cut (x := x) (m := 0x410) (s := s) ?_ (fun hx => ?_); unfold x)
    | intro x
    | lift_lets -underBinder
    | split
    | with_reducible refine Within.wlkUpd.step ?_ rfl
    | exact rfl
    | (split <;> rfl)
    | clear_value *

theorem resetWork_within (s : State) :
    Within 0x2C0000 s (State.resetWork s) := by
  have h0 := Within.refl 0x2C0000 s
  unfold State.resetWork
  try lift_lets -underBinder
  repeat' first
    | with_reducible assumption
    | with_reducible refine Within.ite ?_ ?_
    | with_reducible refine (modHay_within _ _ ?_).step ?_ rfl
    | exact fun _ => rfl
    | with_reducible refine (modTck_within _ _).step ?_ rfl
    | with_reducible refine (modCan_within _ _).step ?_ rfl
    | with_reducible refine Within.foldl _ ?_ ?_
    | (intro (x : State); refine Within.cut (x := x) (m := 0x2C0000) (s := s) ?_ (fun hx => ?_); unfold x)
    | intro x
    | lift_lets -underBinder
    | split
    | exact rfl
    | (split <;> rfl)
    | clear_value *

theorem resetLanes_within (s : State) :
    Within 0x100100000 s (State.resetLanes s) := by
  have h0 := Within.refl 0x100100000 s
  unfold State.resetLanes
  try lift_lets -underBinder
  repeat' first
    | with_reducible assumption
    | with_reducible refine Within.ite ?_ ?_
    | with_reducible refine (bankNoStandby_within _).step ?_ rfl
    | with_reducible refine (modLan_within _ _).step ?_ rfl
    | with_reducible refine (bootLane_within _ _ _).step ?_ rfl
    | with_reducible refine Within.foldl _ ?_ ?_
    | (intro (x : State); refine Within.cut (x := x) (m := 0x100100000) (s := s) ?_ (fun hx => ?_); unfold x)
    | intro x
    | lift_lets -underBinder
    | split
    | exact rfl
    | (split <;> rfl)
    | clear_value *

theorem resetPhase_within (s : State) :
    Within 0x100000000 s (State.resetPhase s) := by
  have h0 := Within.refl 0x100000000 s
  unfold State.resetPhase
  try lift_lets -underBinder
  repeat' first
    | with_reducible assumption
    | with_reducible refine Within.ite ?_ ?_
    | with_reducible refine Within.set 0 ?_ ?_ rfl
    | with_reducible refine Within.foldl _ ?_ ?_
    | (intro (x : State); refine Within.cut (x := x) (m := 0x100000000) (s := s) ?_ (fun hx => ?_); unfold x)
    | intro x
    | lift_lets -underBinder
    | split
    | exact rfl
    | (split <;> rfl)
    | clear_value *

theorem deviceEffect_within (s : State) :
    Within 0xFFFFFFFFFFFFFFFFFFFFFFFFFFFFFFFFFFFFFFFFFFFFFFFFFFFFFFFFFFFFFFFF007FEE9E s (State.deviceEffect s) := by
  have h0 := Within.refl 0xFFFFFFFFFFFFFFFFFFFFFFFFFFFFFFFFFFFFFFFFFFFFFFFFFFFFFFFFFFFFFFFF007FEE9E s
  unfold State.deviceEffect
  try lift_lets -underBinder
  repeat' first
    | with_reducible assumption
    | with_reducible refine Within.ite ?_ ?_
    | with_reducible refine (resetLanes_within _).step ?_ rfl
    | with_reducible refine (resetWork_within _).step ?_ rfl
    | with_reducible refine (resetEngines_within _).step ?_ rfl
    | with_reducible refine (resetDrover_within _).step ?_ rfl
    | with_reducible refine (clearDevice_within _).step ?_ rfl
    | with_reducible refine Within.forAll ?_ ?_
    | with_reducible refine (paddockReset_within _ _).step ?_ rfl
    | with_reducible refine (sessionRest_within _ _).step ?_ rfl
    | with_reducible refine (modPwr_within _ _).step ?_ rfl
    | with_reducible refine Within.set_all ?_ rfl
    | with_reducible refine (resetPhase_within _).step ?_ rfl
    | with_reducible refine (showStaged_within _ _).step ?_ rfl
    | with_reducible refine (newNonce_within _).step ?_ rfl
    | with_reducible refine (refreshHeld_within _).step ?_ rfl
    | with_reducible refine (actLoops_within _).step ?_ rfl
    | with_reducible refine (restoreOrFail_within _ _).step ?_ rfl
    | with_reducible refine (firstMeasure_within _).step ?_ rfl
    | with_reducible refine Within.foldl _ ?_ ?_
    | (intro (x : State); refine Within.cut (x := x) (m := 0xFFFFFFFFFFFFFFFFFFFFFFFFFFFFFFFFFFFFFFFFFFFFFFFFFFFFFFFFFFFFFFFF007FEE9E) (s := s) ?_ (fun hx => ?_); unfold x)
    | intro x
    | lift_lets -underBinder
    | split
    | exact rfl
    | (split <;> rfl)
    | clear_value *

theorem execDeviceResetEffect_within (s : State) :
    ∃ t, execDeviceResetEffect s = .next t ∧ Within 0xFFFFFFFFFFFFFFFFFFFFFFFFFFFFFFFFFFFFFFFFFFFFFFFFFFFFFFFFFFFFFFFF007FEE9E s t := by
  refine ⟨_, rfl, ?_⟩
  have h0 := Within.refl 0xFFFFFFFFFFFFFFFFFFFFFFFFFFFFFFFFFFFFFFFFFFFFFFFFFFFFFFFFFFFFFFFF007FEE9E s
  try lift_lets -underBinder
  repeat' first
    | with_reducible assumption
    | with_reducible refine Within.ite ?_ ?_
    | with_reducible refine (deviceEffect_within _).step ?_ rfl
    | with_reducible refine Within.foldl _ ?_ ?_
    | (intro (x : State); refine Within.cut (x := x) (m := 0xFFFFFFFFFFFFFFFFFFFFFFFFFFFFFFFFFFFFFFFFFFFFFFFFFFFFFFFFFFFFFFFF007FEE9E) (s := s) ?_ (fun hx => ?_); unfold x)
    | intro x
    | lift_lets -underBinder
    | split
    | exact rfl
    | (split <;> rfl)
    | clear_value *

end Sys2Proof.Laws
end

