-- ==== Sys2Proof/Laws/WithinBoot.lean ====
section
/-!
SUPPORT. What the operations of Machine/Boot.lean may touch.
-/
namespace Sys2Proof.Laws

open Sys2Proof.Machine

theorem bootLanes_within (s : State) :
    Within 0x100100000 s (State.bootLanes s) := by
  have h0 := Within.refl 0x100100000 s
  unfold State.bootLanes
  try lift_lets -underBinder
  repeat' first
    | with_reducible assumption
    | with_reducible refine Within.ite ?_ ?_
    | with_reducible refine (bootLane_within _ _ _).step ?_ rfl
    | with_reducible refine Within.foldl _ ?_ ?_
    | (intro (x : State); refine Within.cut (x := x) (m := 0x100100000) (s := s) ?_ (fun hx => ?_); unfold x)
    | intro x
    | lift_lets -underBinder
    | split
    | exact rfl
    | (split <;> rfl)
    | clear_value *

theorem lanesTested_within (s : State) (laneA laneB : Bool) :
    Within 0x400300180004 s (State.lanesTested s laneA laneB) := by
  have h0 := Within.refl 0x400300180004 s
  unfold State.lanesTested
  try lift_lets -underBinder
  repeat' first
    | with_reducible assumption
    | with_reducible refine Within.ite ?_ ?_
    | with_reducible refine (laneTested_within _ _ _).step ?_ rfl
    | with_reducible refine Within.foldl _ ?_ ?_
    | (intro (x : State); refine Within.cut (x := x) (m := 0x400300180004) (s := s) ?_ (fun hx => ?_); unfold x)
    | intro x
    | lift_lets -underBinder
    | split
    | exact rfl
    | (split <;> rfl)
    | clear_value *

theorem execPowerOnResetRelease_within (haltCause : Option Nat) (vbat : Bool) (ckpts slots lanes : Bool × Bool) (wall : Nat) (s : State) :
    ∃ t, execPowerOnResetRelease haltCause vbat ckpts slots lanes wall s = .next t ∧ Within 0xFFFFFFFFFFFFFFFFFFFFFFFFFFFFFFFFFFFFFFFFFFFFFFFFFFFFFFFFFFFFFFFF007FEEBE s t := by
  refine ⟨_, rfl, ?_⟩
  have h0 := Within.refl 0xFFFFFFFFFFFFFFFFFFFFFFFFFFFFFFFFFFFFFFFFFFFFFFFFFFFFFFFFFFFFFFFF007FEEBE s
  try lift_lets -underBinder
  repeat' first
    | with_reducible assumption
    | with_reducible refine Within.ite ?_ ?_
    | with_reducible refine (modPwr_within _ _).step ?_ rfl
    | with_reducible refine Within.set_all ?_ rfl
    | with_reducible refine (phases_within _ _).step ?_ rfl
    | with_reducible refine (startClock_within _ _ _).step ?_ rfl
    | with_reducible refine Within.inc_all ?_ rfl
    | with_reducible refine (enterHaltSafe_within _ _).step ?_ rfl
    | with_reducible refine (bootHalter_within _).step ?_ rfl
    | with_reducible refine (bootFail_within _ _).step ?_ rfl
    | with_reducible refine (firstMeasure_within _).step ?_ rfl
    | with_reducible refine (bootLanes_within _).step ?_ rfl
    | with_reducible refine (captureSnapshot_within _).step ?_ rfl
    | with_reducible refine (lanesTested_within _ _ _).step ?_ rfl
    | with_reducible refine (setSlot_within _ _ _).step ?_ rfl
    | with_reducible refine (restoreOrFail_within _ _).step ?_ rfl
    | with_reducible refine (checkSlots_within _ _ _).step ?_ rfl
    | with_reducible refine Within.foldl _ ?_ ?_
    | (intro (x : State); refine Within.cut (x := x) (m := 0xFFFFFFFFFFFFFFFFFFFFFFFFFFFFFFFFFFFFFFFFFFFFFFFFFFFFFFFFFFFFFFFF007FEEBE) (s := s) ?_ (fun hx => ?_); unfold x)
    | intro x
    | lift_lets -underBinder
    | split
    | exact rfl
    | (split <;> rfl)
    | clear_value *

theorem genesisAtRun_within (s : State) :
    Within 0x4100190000 s (State.genesisAtRun s) := by
  have h0 := Within.refl 0x4100190000 s
  unfold State.genesisAtRun
  try lift_lets -underBinder
  repeat' first
    | with_reducible assumption
    | with_reducible refine Within.ite ?_ ?_
    | with_reducible refine (modLan_within _ _).step ?_ rfl
    | ((with_reducible refine Within.set 0 ?_ ?hw rfl); case hw => first | exact rfl | assumption | (split <;> rfl))
    | ((with_reducible refine Within.set 6 ?_ ?hw rfl); case hw => first | exact rfl | assumption | (split <;> rfl))
    | with_reducible refine (setRegion_within _ _ _).step ?_ rfl
    | with_reducible refine (modBil_within _ _).step ?_ rfl
    | with_reducible refine (capture_within _ _).step ?_ rfl
    | with_reducible refine Within.foldl _ ?_ ?_
    | (intro (x : State); refine Within.cut (x := x) (m := 0x4100190000) (s := s) ?_ (fun hx => ?_); unfold x)
    | intro x
    | lift_lets -underBinder
    | split
    | exact rfl
    | (split <;> rfl)
    | clear_value *

theorem deviceRun_within (s : State) :
    Within 0x400200080004 s (State.deviceRun s) := by
  have h0 := Within.refl 0x400200080004 s
  unfold State.deviceRun
  try lift_lets -underBinder
  repeat' first
    | with_reducible assumption
    | with_reducible refine Within.ite ?_ ?_
    | with_reducible refine Within.forAll ?_ ?_
    | with_reducible refine (modPd_within _ _ _).step ?_ rfl
    | with_reducible refine (signal_within _ _ _).step ?_ rfl
    | with_reducible refine Within.setB 1 ?_ ?_ rfl
    | with_reducible refine (heldRun_within _ _).step ?_ rfl
    | with_reducible refine (logEvent_within _ _ _).step ?_ rfl
    | with_reducible refine Within.foldl _ ?_ ?_
    | (intro (x : State); refine Within.cut (x := x) (m := 0x400200080004) (s := s) ?_ (fun hx => ?_); unfold x)
    | intro x
    | lift_lets -underBinder
    | split
    | exact rfl
    | (split <;> rfl)
    | clear_value *

theorem bootOutputs_within (s : State) :
    Within 0x460200087004 s (State.bootOutputs s) := by
  have h0 := Within.refl 0x460200087004 s
  unfold State.bootOutputs
  try lift_lets -underBinder
  repeat' first
    | with_reducible assumption
    | with_reducible refine Within.ite ?_ ?_
    | with_reducible refine Within.forAll ?_ ?_
    | with_reducible refine (auxOn_within _ _ _ _).step ?_ rfl
    | with_reducible refine (lswOn_within _ _ _).step ?_ rfl
    | with_reducible refine Within.setB 10 ?_ ?_ rfl
    | with_reducible refine Within.foldl _ ?_ ?_
    | (intro (x : State); refine Within.cut (x := x) (m := 0x460200087004) (s := s) ?_ (fun hx => ?_); unfold x)
    | intro x
    | lift_lets -underBinder
    | split
    | exact rfl
    | (split <;> rfl)
    | clear_value *

theorem reportShutdown_within (s : State) :
    Within 0x400200480004 s (State.reportShutdown s) := by
  have h0 := Within.refl 0x400200480004 s
  unfold State.reportShutdown
  try lift_lets -underBinder
  repeat' first
    | with_reducible assumption
    | with_reducible refine Within.ite ?_ ?_
    | with_reducible refine (raise_within _ _ _ _ _).step ?_ rfl
    | with_reducible refine (modPwr_within _ _).step ?_ rfl
    | with_reducible refine Within.foldl _ ?_ ?_
    | (intro (x : State); refine Within.cut (x := x) (m := 0x400200480004) (s := s) ?_ (fun hx => ?_); unfold x)
    | intro x
    | lift_lets -underBinder
    | split
    | exact rfl
    | (split <;> rfl)
    | clear_value *

theorem lanesRun_within (s : State) (slot : Nat) (acked : Bool) :
    Within 0x400300180004 s (State.lanesRun s slot acked) := by
  have h0 := Within.refl 0x400300180004 s
  unfold State.lanesRun
  try lift_lets -underBinder
  repeat' first
    | with_reducible assumption
    | with_reducible refine Within.ite ?_ ?_
    | with_reducible refine (modLan_within _ _).step ?_ rfl
    | with_reducible refine (setSlot_within _ _ _).step ?_ rfl
    | with_reducible refine Within.set 0 ?_ ?_ rfl
    | with_reducible refine (laneIs_within _ _ _).step ?_ rfl
    | with_reducible refine (refreshLane_within _).step ?_ rfl
    | with_reducible refine (showVer_within _ _).step ?_ rfl
    | with_reducible refine Within.foldl _ ?_ ?_
    | (intro (x : State); refine Within.cut (x := x) (m := 0x400300180004) (s := s) ?_ (fun hx => ?_); unfold x)
    | intro x
    | lift_lets -underBinder
    | split
    | exact rfl
    | (split <;> rfl)
    | clear_value *

theorem execBootRunReached_within (slotA slotB laneA laneB acked : Bool) (s : State) :
    ∃ t, execBootRunReached slotA slotB laneA laneB acked s = .next t ∧ Within 0xFFFFFFFFFFFFFFFFFFFFFFFFFFFFFFFFFFFFFFFFFFFFFFFFFFFFFFFFFFFFFFFF007FFE8E s t := by
  refine ⟨_, rfl, ?_⟩
  have h0 := Within.refl 0xFFFFFFFFFFFFFFFFFFFFFFFFFFFFFFFFFFFFFFFFFFFFFFFFFFFFFFFFFFFFFFFF007FFE8E s
  try lift_lets -underBinder
  repeat' first
    | with_reducible assumption
    | with_reducible refine Within.ite ?_ ?_
    | with_reducible refine (bootFail_within _ _).step ?_ rfl
    | with_reducible refine (restoreOrFail_within _ _).step ?_ rfl
    | with_reducible refine (modTck_within _ _).step ?_ rfl
    | with_reducible refine (phases_within _ _).step ?_ rfl
    | with_reducible refine Within.setB_all ?_ rfl
    | with_reducible refine Within.set_all ?_ rfl
    | with_reducible refine Within.forAll ?_ ?_
    | with_reducible refine (showRights_within _ _).step ?_ rfl
    | with_reducible refine (deviceRun_within _).step ?_ rfl
    | with_reducible refine (modBil_within _ _).step ?_ rfl
    | with_reducible refine (lanesRun_within _ _ _).step ?_ rfl
    | with_reducible refine (lanesTested_within _ _ _).step ?_ rfl
    | with_reducible refine (raise_within _ _ _ _ _).step ?_ rfl
    | with_reducible refine (modPwr_within _ _).step ?_ rfl
    | with_reducible refine (drainTamper_within _).step ?_ rfl
    | with_reducible refine (genesisAtRun_within _).step ?_ rfl
    | with_reducible refine (reportShutdown_within _).step ?_ rfl
    | with_reducible refine (bootOutputs_within _).step ?_ rfl
    | with_reducible refine (actLoops_within _).step ?_ rfl
    | with_reducible refine (refreshHeld_within _).step ?_ rfl
    | with_reducible refine (seeFinal_within _).step ?_ rfl
    | with_reducible refine Within.foldl _ ?_ ?_
    | (intro (x : State); refine Within.cut (x := x) (m := 0xFFFFFFFFFFFFFFFFFFFFFFFFFFFFFFFFFFFFFFFFFFFFFFFFFFFFFFFFFFFFFFFF007FFE8E) (s := s) ?_ (fun hx => ?_); unfold x)
    | intro x
    | lift_lets -underBinder
    | split
    | exact rfl
    | (split <;> rfl)
    | clear_value *

end Sys2Proof.Laws
end

