-- ==== Sys2Proof/Laws/WithinHousekeeping.lean ====
section
/-!
SUPPORT. What the operations of Machine/Housekeeping.lean may touch.
-/
namespace Sys2Proof.Laws

open Sys2Proof.Machine

theorem readDie_within (s : State) (die : List Int) :
    Within 0xC00200480004 s (State.readDie s die) := by
  have h0 := Within.refl 0xC00200480004 s
  unfold State.readDie
  try lift_lets -underBinder
  repeat' first
    | with_reducible assumption
    | with_reducible refine Within.ite ?_ ?_
    | with_reducible refine Within.forAll ?_ ?_
    | with_reducible refine (modPwr_within _ _).step ?_ rfl
    | with_reducible refine Within.set 15 ?_ ?_ rfl
    | with_reducible refine Within.setS 15 ?_ ?_ rfl
    | with_reducible refine (raise_within _ _ _ _ _).step ?_ rfl
    | with_reducible refine Within.foldl _ ?_ ?_
    | (intro (x : State); refine Within.cut (x := x) (m := 0xC00200480004) (s := s) ?_ (fun hx => ?_); unfold x)
    | intro x
    | lift_lets -underBinder
    | split
    | exact rfl
    | (split <;> rfl)
    | clear_value *

theorem readRails_within (s : State) (hk : HkIn) :
    Within 0x800000000000 s (State.readRails s hk) := by
  have h0 := Within.refl 0x800000000000 s
  unfold State.readRails
  try lift_lets -underBinder
  repeat' first
    | with_reducible assumption
    | with_reducible refine Within.ite ?_ ?_
    | with_reducible refine Within.set 15 ?_ ?_ rfl
    | with_reducible refine Within.foldl _ ?_ ?_
    | (intro (x : State); refine Within.cut (x := x) (m := 0x800000000000) (s := s) ?_ (fun hx => ?_); unfold x)
    | intro x
    | lift_lets -underBinder
    | split
    | exact rfl
    | (split <;> rfl)
    | clear_value *

theorem readPins_within (s : State) (hk : HkIn) :
    Within 0x20100000000 s (State.readPins s hk) := by
  have h0 := Within.refl 0x20100000000 s
  unfold State.readPins
  try lift_lets -underBinder
  repeat' first
    | with_reducible assumption
    | with_reducible refine Within.ite ?_ ?_
    | with_reducible refine Within.set 0 ?_ ?_ rfl
    | with_reducible refine Within.forAll ?_ ?_
    | with_reducible refine Within.setB 9 ?_ ?_ rfl
    | with_reducible refine Within.foldl _ ?_ ?_
    | (intro (x : State); refine Within.cut (x := x) (m := 0x20100000000) (s := s) ?_ (fun hx => ?_); unfold x)
    | intro x
    | lift_lets -underBinder
    | split
    | exact rfl
    | (split <;> rfl)
    | clear_value *

theorem throttleStall_within (s : State) (n : Nat) :
    Within 0x400A00080404 s (State.throttleStall s n) := by
  have h0 := Within.refl 0x400A00080404 s
  unfold State.throttleStall
  try lift_lets -underBinder
  repeat' first
    | with_reducible assumption
    | with_reducible refine Within.ite ?_ ?_
    | with_reducible refine (modYms_within _ _).step ?_ rfl
    | with_reducible refine (throttleArm_within _ _ _ _).step ?_ rfl
    | with_reducible refine (throttleRelease_within _ _).step ?_ rfl
    | with_reducible refine Within.foldl _ ?_ ?_
    | (intro (x : State); refine Within.cut (x := x) (m := 0x400A00080404) (s := s) ?_ (fun hx => ?_); unfold x)
    | intro x
    | lift_lets -underBinder
    | split
    | exact rfl
    | (split <;> rfl)
    | clear_value *

theorem throttleDie_within (s : State) (die : List Int) :
    Within 0x400A00080404 s (State.throttleDie s die) := by
  have h0 := Within.refl 0x400A00080404 s
  unfold State.throttleDie
  try lift_lets -underBinder
  repeat' first
    | with_reducible assumption
    | with_reducible refine Within.ite ?_ ?_
    | with_reducible refine (throttleDevArm_within _ _ _).step ?_ rfl
    | with_reducible refine (throttleDevRelease_within _).step ?_ rfl
    | with_reducible refine Within.foldl _ ?_ ?_
    | (intro (x : State); refine Within.cut (x := x) (m := 0x400A00080404) (s := s) ?_ (fun hx => ?_); unfold x)
    | intro x
    | lift_lets -underBinder
    | split
    | exact rfl
    | (split <;> rfl)
    | clear_value *

theorem slackLow_within (s : State) (f : Fld) (tenth : Int) (code : Nat) :
    Within 0x400200080004 s (State.slackLow s f tenth code) := by
  have h0 := Within.refl 0x400200080004 s
  unfold State.slackLow
  try lift_lets -underBinder
  repeat' first
    | with_reducible assumption
    | with_reducible refine Within.ite ?_ ?_
    | with_reducible refine (raise_within _ _ _ _ _).step ?_ rfl
    | with_reducible refine Within.foldl _ ?_ ?_
    | (intro (x : State); refine Within.cut (x := x) (m := 0x400200080004) (s := s) ?_ (fun hx => ?_); unfold x)
    | intro x
    | lift_lets -underBinder
    | split
    | exact rfl
    | (split <;> rfl)
    | clear_value *

theorem slackRound_within (s : State) :
    Within 0x400200080004 s (State.slackRound s) := by
  have h0 := Within.refl 0x400200080004 s
  unfold State.slackRound
  try lift_lets -underBinder
  repeat' first
    | with_reducible assumption
    | with_reducible refine Within.ite ?_ ?_
    | with_reducible refine (slackLow_within _ _ _ _).step ?_ rfl
    | with_reducible refine Within.foldl _ ?_ ?_
    | (intro (x : State); refine Within.cut (x := x) (m := 0x400200080004) (s := s) ?_ (fun hx => ?_); unfold x)
    | intro x
    | lift_lets -underBinder
    | split
    | exact rfl
    | (split <;> rfl)
    | clear_value *

theorem slackReset_within (s : State) :
    Within 0x40B900000000 s (State.slackReset s) := by
  have h0 := Within.refl 0x40B900000000 s
  unfold State.slackReset
  try lift_lets -underBinder
  repeat' first
    | with_reducible assumption
    | with_reducible refine Within.ite ?_ ?_
    | ((with_reducible refine Within.set 0 ?_ ?hw rfl); case hw => first | exact rfl | assumption | (split <;> rfl))
    | ((with_reducible refine Within.set 3 ?_ ?hw rfl); case hw => first | exact rfl | assumption | (split <;> rfl))
    | ((with_reducible refine Within.set 4 ?_ ?hw rfl); case hw => first | exact rfl | assumption | (split <;> rfl))
    | ((with_reducible refine Within.set 5 ?_ ?hw rfl); case hw => first | exact rfl | assumption | (split <;> rfl))
    | ((with_reducible refine Within.set 7 ?_ ?hw rfl); case hw => first | exact rfl | assumption | (split <;> rfl))
    | ((with_reducible refine Within.set 14 ?_ ?hw rfl); case hw => first | exact rfl | assumption | (split <;> rfl))
    | with_reducible refine Within.foldl _ ?_ ?_
    | (intro (x : State); refine Within.cut (x := x) (m := 0x40B900000000) (s := s) ?_ (fun hx => ?_); unfold x)
    | intro x
    | lift_lets -underBinder
    | split
    | exact rfl
    | (split <;> rfl)
    | clear_value *

theorem afeRound_within (s : State) (read : List (List Nat)) :
    Within 0x402200088004 s (State.afeRound s read) := by
  have h0 := Within.refl 0x402200088004 s
  unfold State.afeRound
  try lift_lets -underBinder
  repeat' first
    | with_reducible assumption
    | with_reducible refine Within.ite ?_ ?_
    | with_reducible refine Within.forAll ?_ ?_
    | with_reducible refine (raise_within _ _ _ _ _).step ?_ rfl
    | with_reducible refine (showChan_within _ _).step ?_ rfl
    | with_reducible refine (modMet_within _ _ _).step ?_ rfl
    | with_reducible refine Within.foldl _ ?_ ?_
    | (intro (x : State); refine Within.cut (x := x) (m := 0x402200088004) (s := s) ?_ (fun hx => ?_); unfold x)
    | intro x
    | lift_lets -underBinder
    | split
    | exact rfl
    | (split <;> rfl)
    | clear_value *

theorem meterRound_within (s : State) (hk : HkIn) :
    Within 0x402200088004 s (State.meterRound s hk) := by
  have h0 := Within.refl 0x402200088004 s
  unfold State.meterRound
  try lift_lets -underBinder
  repeat' first
    | with_reducible assumption
    | with_reducible refine Within.ite ?_ ?_
    | with_reducible refine (showAge_within _).step ?_ rfl
    | with_reducible refine (afeRound_within _ _).step ?_ rfl
    | with_reducible refine (raise_within _ _ _ _ _).step ?_ rfl
    | with_reducible refine Within.foldl _ ?_ ?_
    | (intro (x : State); refine Within.cut (x := x) (m := 0x402200088004) (s := s) ?_ (fun hx => ?_); unfold x)
    | intro x
    | lift_lets -underBinder
    | split
    | exact rfl
    | (split <;> rfl)
    | clear_value *

theorem lswRound_within (s : State) :
    Within 0x40000002002 s (State.lswRound s) := by
  have h0 := Within.refl 0x40000002002 s
  unfold State.lswRound
  try lift_lets -underBinder
  repeat' first
    | with_reducible assumption
    | with_reducible refine Within.ite ?_ ?_
    | with_reducible refine Within.ite2 ?_ ?_
    | with_reducible refine Within.forAll ?_ ?_
    | with_reducible refine (fresh_within _ _).step ?_ rfl
    | with_reducible refine (modCh_within _ _ _).step ?_ rfl
    | with_reducible refine Within.set 10 ?_ ?_ rfl
    | with_reducible refine Within.foldl _ ?_ ?_
    | with_reducible refine Within.foldl2 _ ?_ ?_
    | (intro (x : State); refine Within.cut (x := x) (m := 0x40000002002) (s := s) ?_ (fun hx => ?_); unfold x)
    | intro x
    | lift_lets -underBinder
    | split
    | exact rfl
    | (split <;> rfl)
    | clear_value *

theorem roundFlags_within (s : State) : Within 0x40428 s s.roundFlags := by
  unfold State.roundFlags
  constructor <;> first | rfl | exact List.prefix_refl _ | exact id | (intro _; rfl) | (intro _ _; rfl) | (intro h; exact absurd h (by decide))

theorem telemetry_within (s : State) (hk : HkIn) :
    Within 0x400000 s (State.telemetry s hk) := by
  have h0 := Within.refl 0x400000 s
  unfold State.telemetry
  try lift_lets -underBinder
  repeat' first
    | with_reducible assumption
    | with_reducible refine Within.ite ?_ ?_
    | with_reducible refine (modPwr_within _ _).step ?_ rfl
    | with_reducible refine Within.foldl _ ?_ ?_
    | (intro (x : State); refine Within.cut (x := x) (m := 0x400000) (s := s) ?_ (fun hx => ?_); unfold x)
    | intro x
    | lift_lets -underBinder
    | split
    | exact rfl
    | (split <;> rfl)
    | clear_value *

theorem execHousekeepingRound_within (hk : HkIn) (s : State) :
    ∃ t, execHousekeepingRound hk s = .next t ∧ Within 0xD6BB004CA42E s t := by
  refine ⟨_, rfl, ?_⟩
  have h0 := Within.refl 0xD6BB004CA42E s
  try lift_lets -underBinder
  repeat' first
    | with_reducible assumption
    | with_reducible refine Within.ite ?_ ?_
    | with_reducible refine (readPins_within _ _).step ?_ rfl
    | with_reducible refine (readRails_within _ _).step ?_ rfl
    | with_reducible refine (readDie_within _ _).step ?_ rfl
    | with_reducible refine (throttleDie_within _ _).step ?_ rfl
    | with_reducible refine Within.forAll ?_ ?_
    | with_reducible refine (throttleStall_within _ _).step ?_ rfl
    | with_reducible refine (sensorTick_within _ _).step ?_ rfl
    | with_reducible refine (meterRound_within _ _).step ?_ rfl
    | with_reducible refine (lswRound_within _).step ?_ rfl
    | with_reducible refine (roundFlags_within _).step ?_ rfl
    | with_reducible refine (macReport_within _ _).step ?_ rfl
    | with_reducible refine (slackReset_within _).step ?_ rfl
    | with_reducible refine (telemetry_within _ _).step ?_ rfl
    | with_reducible refine (slackRound_within _).step ?_ rfl
    | with_reducible refine Within.foldl _ ?_ ?_
    | (intro (x : State); refine Within.cut (x := x) (m := 0xD6BB004CA42E) (s := s) ?_ (fun hx => ?_); unfold x)
    | intro x
    | lift_lets -underBinder
    | split
    | exact rfl
    | (split <;> rfl)
    | clear_value *

theorem setLocked_within (s : State) (b : Bool) :
    Within 0x400300080004 s (State.setLocked s b) := by
  have h0 := Within.refl 0x400300080004 s
  unfold State.setLocked
  try lift_lets -underBinder
  repeat' first
    | with_reducible assumption
    | with_reducible refine Within.ite ?_ ?_
    | with_reducible refine (raise_within _ _ _ _ _).step ?_ rfl
    | with_reducible refine Within.setB 0 ?_ ?_ rfl
    | with_reducible refine Within.foldl _ ?_ ?_
    | (intro (x : State); refine Within.cut (x := x) (m := 0x400300080004) (s := s) ?_ (fun hx => ?_); unfold x)
    | intro x
    | lift_lets -underBinder
    | split
    | exact rfl
    | (split <;> rfl)
    | clear_value *

theorem trim_within (s : State) (err : Int) :
    Within 0x100000002 s (State.trim s err) := by
  have h0 := Within.refl 0x100000002 s
  unfold State.trim
  try lift_lets -underBinder
  repeat' first
    | with_reducible assumption
    | with_reducible refine Within.ite ?_ ?_
    | with_reducible refine Within.ite2 ?_ ?_
    | with_reducible refine (fresh_within _ _).step ?_ rfl
    | with_reducible refine Within.setS 0 ?_ ?_ rfl
    | with_reducible refine Within.foldl _ ?_ ?_
    | with_reducible refine Within.foldl2 _ ?_ ?_
    | (intro (x : State); refine Within.cut (x := x) (m := 0x100000002) (s := s) ?_ (fun hx => ?_); unfold x)
    | intro x
    | lift_lets -underBinder
    | split
    | exact rfl
    | (split <;> rfl)
    | clear_value *

theorem execPpsEdge_within (qualifies : Bool) (err : Int) (s : State) :
    ∃ t, execPpsEdge qualifies err s = .next t ∧ Within 0x400300480006 s t := by
  refine ⟨_, rfl, ?_⟩
  have h0 := Within.refl 0x400300480006 s
  try lift_lets -underBinder
  repeat' first
    | with_reducible assumption
    | with_reducible refine Within.ite ?_ ?_
    | with_reducible refine Within.setB 0 ?_ ?_ rfl
    | with_reducible refine (modPwr_within _ _).step ?_ rfl
    | with_reducible refine (setLocked_within _ _).step ?_ rfl
    | with_reducible refine (trim_within _ _).step ?_ rfl
    | with_reducible refine Within.foldl _ ?_ ?_
    | (intro (x : State); refine Within.cut (x := x) (m := 0x400300480006) (s := s) ?_ (fun hx => ?_); unfold x)
    | intro x
    | lift_lets -underBinder
    | split
    | exact rfl
    | (split <;> rfl)
    | clear_value *

theorem execPpsAbsenceTimeout_within (s : State) :
    ∃ t, execPpsAbsenceTimeout s = .next t ∧ Within 0x400300480004 s t := by
  refine ⟨_, rfl, ?_⟩
  have h0 := Within.refl 0x400300480004 s
  try lift_lets -underBinder
  repeat' first
    | with_reducible assumption
    | with_reducible refine Within.ite ?_ ?_
    | with_reducible refine (setLocked_within _ _).step ?_ rfl
    | with_reducible refine Within.setB 0 ?_ ?_ rfl
    | with_reducible refine (modPwr_within _ _).step ?_ rfl
    | with_reducible refine Within.foldl _ ?_ ?_
    | (intro (x : State); refine Within.cut (x := x) (m := 0x400300480004) (s := s) ?_ (fun hx => ?_); unfold x)
    | intro x
    | lift_lets -underBinder
    | split
    | exact rfl
    | (split <;> rfl)
    | clear_value *

end Sys2Proof.Laws
end

