-- ==== Sys2Proof/Laws/WithinBoundary.lean ====
section
/-!
SUPPORT. What the operations of Machine/Boundary.lean may touch.
-/
namespace Sys2Proof.Laws

open Sys2Proof.Machine

theorem retryCloses_within (s : State) :
    Within 0x600000080002 s (State.retryCloses s) := by
  have h0 := Within.refl 0x600000080002 s
  unfold State.retryCloses
  try lift_lets -underBinder
  repeat' first
    | with_reducible assumption
    | with_reducible refine Within.ite ?_ ?_
    | with_reducible refine (closeEntry_within _ _).step ?_ rfl
    | with_reducible refine (modHay_within _ _ ?_).step ?_ rfl
    | exact fun _ => rfl
    | with_reducible refine Within.foldl _ ?_ ?_
    | (intro (x : State); refine Within.cut (x := x) (m := 0x600000080002) (s := s) ?_ (fun hx => ?_); unfold x)
    | intro x
    | lift_lets -underBinder
    | split
    | exact rfl
    | (split <;> rfl)
    | clear_value *

theorem retryRecords_within (s : State) :
    Within 0x400000080008 s (State.retryRecords s) := by
  have h0 := Within.refl 0x400000080008 s
  unfold State.retryRecords
  try lift_lets -underBinder
  repeat' first
    | with_reducible assumption
    | with_reducible refine Within.ite ?_ ?_
    | with_reducible refine Within.forAll ?_ ?_
    | with_reducible refine (commitRecord_within _ _).step ?_ rfl
    | with_reducible refine Within.foldl _ ?_ ?_
    | (intro (x : State); refine Within.cut (x := x) (m := 0x400000080008) (s := s) ?_ (fun hx => ?_); unfold x)
    | intro x
    | lift_lets -underBinder
    | split
    | exact rfl
    | (split <;> rfl)
    | clear_value *

theorem retryStores_within (s : State) :
    Within 0x60000028000A s (State.retryStores s) := by
  have h0 := Within.refl 0x60000028000A s
  unfold State.retryStores
  try lift_lets -underBinder
  repeat' first
    | with_reducible assumption
    | with_reducible refine Within.ite ?_ ?_
    | with_reducible refine (retryCloses_within _).step ?_ rfl
    | with_reducible refine (tryRecord_within _).step ?_ rfl
    | with_reducible refine (pumpLog_within _).step ?_ rfl
    | with_reducible refine (retryWork_within _).step ?_ rfl
    | with_reducible refine (retryRecords_within _).step ?_ rfl
    | with_reducible refine (pumpBlock_within _).step ?_ rfl
    | with_reducible refine Within.foldl _ ?_ ?_
    | (intro (x : State); refine Within.cut (x := x) (m := 0x60000028000A) (s := s) ?_ (fun hx => ?_); unfold x)
    | intro x
    | lift_lets -underBinder
    | split
    | exact rfl
    | (split <;> rfl)
    | clear_value *

theorem execAllocationBoundary_within (s : State) :
    ∃ t, execAllocationBoundary s = .next t ∧ Within 0x751B0078EE3E s t := by
  refine ⟨_, rfl, ?_⟩
  have h0 := Within.refl 0x751B0078EE3E s
  try lift_lets -underBinder
  repeat' first
    | with_reducible assumption
    | with_reducible refine Within.ite ?_ ?_
    | with_reducible refine (ymsBoundary_within _).step ?_ rfl
    | with_reducible refine (captureSnapshot_within _).step ?_ rfl
    | with_reducible refine (modWbg_within _ _).step ?_ rfl
    | with_reducible refine (retryStores_within _).step ?_ rfl
    | with_reducible refine (applyMaps_within _).step ?_ rfl
    | with_reducible refine Within.foldl _ ?_ ?_
    | (intro (x : State); refine Within.cut (x := x) (m := 0x751B0078EE3E) (s := s) ?_ (fun hx => ?_); unfold x)
    | intro x
    | lift_lets -underBinder
    | split
    | exact rfl
    | (split <;> rfl)
    | clear_value *

end Sys2Proof.Laws
end

