-- ==== Sys2Proof/Laws/WithinHalter.lean ====
section
/-!
SUPPORT. What the operations of Machine/Halter.lean may touch.
-/
namespace Sys2Proof.Laws

open Sys2Proof.Machine

theorem execEstopChannelOpen_within (k ch : Nat) (s : State) :
    ∃ t, execEstopChannelOpen k ch s = .next t ∧ Within 0x551200086A34 s t := by
  refine ⟨_, rfl, ?_⟩
  have h0 := Within.refl 0x551200086A34 s
  try lift_lets -underBinder
  repeat' first
    | with_reducible assumption
    | with_reducible refine Within.ite ?_ ?_
    | with_reducible refine Within.setB 12 ?_ ?_ rfl
    | with_reducible refine (modHlt_within _ _).step ?_ rfl
    | with_reducible refine (loopOpened_within _ _).step ?_ rfl
    | with_reducible refine Within.foldl _ ?_ ?_
    | (intro (x : State); refine Within.cut (x := x) (m := 0x551200086A34) (s := s) ?_ (fun hx => ?_); unfold x)
    | intro x
    | lift_lets -underBinder
    | split
    | exact rfl
    | (split <;> rfl)
    | clear_value *

theorem execEstopDiscrepancyTimeout_within (k : Nat) (s : State) :
    ∃ t, execEstopDiscrepancyTimeout k s = .next t ∧ Within 0x500200080204 s t := by
  refine ⟨_, rfl, ?_⟩
  have h0 := Within.refl 0x500200080204 s
  try lift_lets -underBinder
  repeat' first
    | with_reducible assumption
    | with_reducible refine Within.ite ?_ ?_
    | with_reducible refine (modHlt_within _ _).step ?_ rfl
    | with_reducible refine Within.setB 12 ?_ ?_ rfl
    | with_reducible refine (showLoops_within _).step ?_ rfl
    | with_reducible refine (loopEvent_within _ _ _).step ?_ rfl
    | with_reducible refine Within.foldl _ ?_ ?_
    | (intro (x : State); refine Within.cut (x := x) (m := 0x500200080204) (s := s) ?_ (fun hx => ?_); unfold x)
    | intro x
    | lift_lets -underBinder
    | split
    | exact rfl
    | (split <;> rfl)
    | clear_value *

theorem execEstopLoopClose_within (k mask : Nat) (s : State) :
    ∃ t, execEstopLoopClose k mask s = .next t ∧ Within 0x550200086A04 s t := by
  refine ⟨_, rfl, ?_⟩
  have h0 := Within.refl 0x550200086A04 s
  try lift_lets -underBinder
  repeat' first
    | with_reducible assumption
    | with_reducible refine Within.ite ?_ ?_
    | with_reducible refine Within.setB 12 ?_ ?_ rfl
    | with_reducible refine (modHlt_within _ _).step ?_ rfl
    | with_reducible refine (loopEvent_within _ _ _).step ?_ rfl
    | with_reducible refine (actLoops_within _).step ?_ rfl
    | with_reducible refine (showLoops_within _).step ?_ rfl
    | with_reducible refine Within.foldl _ ?_ ?_
    | (intro (x : State); refine Within.cut (x := x) (m := 0x550200086A04) (s := s) ?_ (fun hx => ?_); unfold x)
    | intro x
    | lift_lets -underBinder
    | split
    | exact rfl
    | (split <;> rfl)
    | clear_value *

theorem execEstopResetPulse_within (g len : Nat) (s : State) :
    ∃ t, execEstopResetPulse g len s = .next t ∧ Within 0x550200086A04 s t := by
  refine ⟨_, rfl, ?_⟩
  have h0 := Within.refl 0x550200086A04 s
  try lift_lets -underBinder
  repeat' first
    | with_reducible assumption
    | with_reducible refine Within.ite ?_ ?_
    | with_reducible refine Within.forAll ?_ ?_
    | with_reducible refine (rearm_within _ _).step ?_ rfl
    | with_reducible refine Within.foldl _ ?_ ?_
    | (intro (x : State); refine Within.cut (x := x) (m := 0x550200086A04) (s := s) ?_ (fun hx => ?_); unfold x)
    | intro x
    | lift_lets -underBinder
    | split
    | exact rfl
    | (split <;> rfl)
    | clear_value *

theorem execEstopRearmTimeout_within (k : Nat) (s : State) :
    ∃ t, execEstopRearmTimeout k s = .next t ∧ Within 0x550200086A04 s t := by
  refine ⟨_, rfl, ?_⟩
  have h0 := Within.refl 0x550200086A04 s
  try lift_lets -underBinder
  repeat' first
    | with_reducible assumption
    | with_reducible refine Within.ite ?_ ?_
    | with_reducible refine (rearm_within _ _).step ?_ rfl
    | with_reducible refine Within.foldl _ ?_ ?_
    | (intro (x : State); refine Within.cut (x := x) (m := 0x550200086A04) (s := s) ?_ (fun hx => ?_); unfold x)
    | intro x
    | lift_lets -underBinder
    | split
    | exact rfl
    | (split <;> rfl)
    | clear_value *

theorem execEstopInputTest_within (followed : Bool) (s : State) :
    ∃ t, execEstopInputTest followed s = .next t ∧ Within 0x551300086A34 s t := by
  refine ⟨_, rfl, ?_⟩
  have h0 := Within.refl 0x551300086A34 s
  try lift_lets -underBinder
  repeat' first
    | with_reducible assumption
    | with_reducible refine Within.ite ?_ ?_
    | with_reducible refine (enterHaltSafe_within _ _).step ?_ rfl
    | with_reducible refine Within.foldl _ ?_ ?_
    | (intro (x : State); refine Within.cut (x := x) (m := 0x551300086A34) (s := s) ?_ (fun hx => ?_); unfold x)
    | intro x
    | lift_lets -underBinder
    | split
    | exact rfl
    | (split <;> rfl)
    | clear_value *

theorem execSafeOutReadbackFault_within (a b : Bool) (s : State) :
    ∃ t, execSafeOutReadbackFault a b s = .next t ∧ Within 0x551300086A34 s t := by
  refine ⟨_, rfl, ?_⟩
  have h0 := Within.refl 0x551300086A34 s
  try lift_lets -underBinder
  repeat' first
    | with_reducible assumption
    | with_reducible refine Within.ite ?_ ?_
    | with_reducible refine Within.setB 12 ?_ ?_ rfl
    | with_reducible refine (enterHaltSafe_within _ _).step ?_ rfl
    | with_reducible refine Within.foldl _ ?_ ?_
    | (intro (x : State); refine Within.cut (x := x) (m := 0x551300086A34) (s := s) ?_ (fun hx => ?_); unfold x)
    | intro x
    | lift_lets -underBinder
    | split
    | exact rfl
    | (split <;> rfl)
    | clear_value *

theorem execEdmMismatch_within (k : Nat) (s : State) :
    ∃ t, execEdmMismatch k s = .next t ∧ Within 0x551300086A34 s t := by
  refine ⟨_, rfl, ?_⟩
  have h0 := Within.refl 0x551300086A34 s
  try lift_lets -underBinder
  repeat' first
    | with_reducible assumption
    | with_reducible refine Within.ite ?_ ?_
    | with_reducible refine (enterHaltSafe_within _ _).step ?_ rfl
    | with_reducible refine Within.foldl _ ?_ ?_
    | (intro (x : State); refine Within.cut (x := x) (m := 0x551300086A34) (s := s) ?_ (fun hx => ?_); unfold x)
    | intro x
    | lift_lets -underBinder
    | split
    | exact rfl
    | (split <;> rfl)
    | clear_value *

theorem execHalterOscCheck_within (dev : Int) (s : State) :
    ∃ t, execHalterOscCheck dev s = .next t ∧ Within 0x551300086A34 s t := by
  refine ⟨_, rfl, ?_⟩
  have h0 := Within.refl 0x551300086A34 s
  try lift_lets -underBinder
  repeat' first
    | with_reducible assumption
    | with_reducible refine Within.ite ?_ ?_
    | with_reducible refine (enterHaltSafe_within _ _).step ?_ rfl
    | with_reducible refine Within.foldl _ ?_ ?_
    | (intro (x : State); refine Within.cut (x := x) (m := 0x551300086A34) (s := s) ?_ (fun hx => ?_); unfold x)
    | intro x
    | lift_lets -underBinder
    | split
    | exact rfl
    | (split <;> rfl)
    | clear_value *

theorem execHalterChannelMismatch_within (s : State) :
    ∃ t, execHalterChannelMismatch s = .next t ∧ Within 0x551300086A34 s t := by
  refine ⟨_, rfl, ?_⟩
  have h0 := Within.refl 0x551300086A34 s
  try lift_lets -underBinder
  repeat' first
    | with_reducible assumption
    | with_reducible refine Within.ite ?_ ?_
    | with_reducible refine (enterHaltSafe_within _ _).step ?_ rfl
    | with_reducible refine Within.foldl _ ?_ ?_
    | (intro (x : State); refine Within.cut (x := x) (m := 0x551300086A34) (s := s) ?_ (fun hx => ?_); unfold x)
    | intro x
    | lift_lets -underBinder
    | split
    | exact rfl
    | (split <;> rfl)
    | clear_value *

theorem execHalterSupplyFail_within (s : State) :
    ∃ t, execHalterSupplyFail s = .next t ∧ Within 0x551300086A34 s t := by
  refine ⟨_, rfl, ?_⟩
  have h0 := Within.refl 0x551300086A34 s
  try lift_lets -underBinder
  repeat' first
    | with_reducible assumption
    | with_reducible refine Within.ite ?_ ?_
    | with_reducible refine (enterHaltSafe_within _ _).step ?_ rfl
    | with_reducible refine Within.foldl _ ?_ ?_
    | (intro (x : State); refine Within.cut (x := x) (m := 0x551300086A34) (s := s) ?_ (fun hx => ?_); unfold x)
    | intro x
    | lift_lets -underBinder
    | split
    | exact rfl
    | (split <;> rfl)
    | clear_value *

theorem execHalterSampleTrip_within (n : Nat) (s : State) :
    ∃ t, execHalterSampleTrip n s = .next t ∧ Within 0x511200080034 s t := by
  refine ⟨_, rfl, ?_⟩
  have h0 := Within.refl 0x511200080034 s
  try lift_lets -underBinder
  repeat' first
    | with_reducible assumption
    | with_reducible refine Within.ite ?_ ?_
    | with_reducible refine (stopStall_within _ _ _ _).step ?_ rfl
    | with_reducible refine Within.foldl _ ?_ ?_
    | (intro (x : State); refine Within.cut (x := x) (m := 0x511200080034) (s := s) ?_ (fun hx => ?_); unfold x)
    | intro x
    | lift_lets -underBinder
    | split
    | exact rfl
    | (split <;> rfl)
    | clear_value *

theorem execSustainedOverTimeout_within (n : Nat) (s : State) :
    ∃ t, execSustainedOverTimeout n s = .next t ∧ Within 0x511200080034 s t := by
  refine ⟨_, rfl, ?_⟩
  have h0 := Within.refl 0x511200080034 s
  try lift_lets -underBinder
  repeat' first
    | with_reducible assumption
    | with_reducible refine Within.ite ?_ ?_
    | with_reducible refine (stopStall_within _ _ _ _).step ?_ rfl
    | with_reducible refine Within.foldl _ ?_ ?_
    | (intro (x : State); refine Within.cut (x := x) (m := 0x511200080034) (s := s) ?_ (fun hx => ?_); unfold x)
    | intro x
    | lift_lets -underBinder
    | split
    | exact rfl
    | (split <;> rfl)
    | clear_value *

theorem execStopPermitWithdrawal_within (n : Nat) (s : State) :
    ∃ t, execStopPermitWithdrawal n s = .next t ∧ Within 0x20 s t := by
  refine ⟨_, rfl, ?_⟩
  have h0 := Within.refl 0x20 s
  try lift_lets -underBinder
  repeat' first
    | with_reducible assumption
    | with_reducible refine Within.ite ?_ ?_
    | with_reducible refine (modHalt_within _ _ _).step ?_ rfl
    | with_reducible refine Within.foldl _ ?_ ?_
    | (intro (x : State); refine Within.cut (x := x) (m := 0x20) (s := s) ?_ (fun hx => ?_); unfold x)
    | intro x
    | lift_lets -underBinder
    | split
    | exact rfl
    | (split <;> rfl)
    | clear_value *

theorem execStopEnd_within (n : Nat) (s : State) :
    ∃ t, execStopEnd n s = .next t ∧ Within 0x20 s t := by
  refine ⟨_, rfl, ?_⟩
  have h0 := Within.refl 0x20 s
  try lift_lets -underBinder
  repeat' first
    | with_reducible assumption
    | with_reducible refine Within.ite ?_ ?_
    | with_reducible refine (modHalt_within _ _ _).step ?_ rfl
    | with_reducible refine Within.foldl _ ?_ ?_
    | (intro (x : State); refine Within.cut (x := x) (m := 0x20) (s := s) ?_ (fun hx => ?_); unfold x)
    | intro x
    | lift_lets -underBinder
    | split
    | exact rfl
    | (split <;> rfl)
    | clear_value *

theorem execContactorWeldTimeout_within (n : Nat) (s : State) :
    ∃ t, execContactorWeldTimeout n s = .next t ∧ Within 0x511200080034 s t := by
  refine ⟨_, rfl, ?_⟩
  have h0 := Within.refl 0x511200080034 s
  try lift_lets -underBinder
  repeat' first
    | with_reducible assumption
    | with_reducible refine Within.ite ?_ ?_
    | with_reducible refine (stopStall_within _ _ _ _).step ?_ rfl
    | with_reducible refine Within.setB 12 ?_ ?_ rfl
    | with_reducible refine Within.foldl _ ?_ ?_
    | (intro (x : State); refine Within.cut (x := x) (m := 0x511200080034) (s := s) ?_ (fun hx => ?_); unfold x)
    | intro x
    | lift_lets -underBinder
    | split
    | exact rfl
    | (split <;> rfl)
    | clear_value *

theorem execSensorLossTimeout_within (n i : Nat) (s : State) :
    ∃ t, execSensorLossTimeout n i s = .next t ∧ Within 0x511200080034 s t := by
  refine ⟨_, rfl, ?_⟩
  have h0 := Within.refl 0x511200080034 s
  try lift_lets -underBinder
  repeat' first
    | with_reducible assumption
    | with_reducible refine Within.ite ?_ ?_
    | with_reducible refine (sensorLost_within _ _ _).step ?_ rfl
    | with_reducible refine Within.foldl _ ?_ ?_
    | (intro (x : State); refine Within.cut (x := x) (m := 0x511200080034) (s := s) ?_ (fun hx => ?_); unfold x)
    | intro x
    | lift_lets -underBinder
    | split
    | exact rfl
    | (split <;> rfl)
    | clear_value *

theorem execSensorDegradedLimit_within (n : Nat) (s : State) :
    ∃ t, execSensorDegradedLimit n s = .next t ∧ Within 0x511200080034 s t := by
  refine ⟨_, rfl, ?_⟩
  have h0 := Within.refl 0x511200080034 s
  try lift_lets -underBinder
  repeat' first
    | with_reducible assumption
    | with_reducible refine Within.ite ?_ ?_
    | with_reducible refine Within.setB 12 ?_ ?_ rfl
    | with_reducible refine Within.set 12 ?_ ?_ rfl
    | with_reducible refine (modHalt_within _ _ _).step ?_ rfl
    | with_reducible refine (degradedEvent_within _ _ _ _).step ?_ rfl
    | with_reducible refine (stopStall_within _ _ _ _).step ?_ rfl
    | with_reducible refine Within.foldl _ ?_ ?_
    | (intro (x : State); refine Within.cut (x := x) (m := 0x511200080034) (s := s) ?_ (fun hx => ?_); unfold x)
    | intro x
    | lift_lets -underBinder
    | split
    | exact rfl
    | (split <;> rfl)
    | clear_value *

theorem execSensorLockoutRelease_within (n : Nat) (s : State) :
    ∃ t, execSensorLockoutRelease n s = .next t ∧ Within 0x500200080024 s t := by
  refine ⟨_, rfl, ?_⟩
  have h0 := Within.refl 0x500200080024 s
  try lift_lets -underBinder
  repeat' first
    | with_reducible assumption
    | with_reducible refine Within.ite ?_ ?_
    | with_reducible refine (modHalt_within _ _ _).step ?_ rfl
    | with_reducible refine (sensorTick_within _ _).step ?_ rfl
    | with_reducible refine (refreshCeil_within _ _).step ?_ rfl
    | with_reducible refine Within.setB 12 ?_ ?_ rfl
    | with_reducible refine (degradedEvent_within _ _ _ _).step ?_ rfl
    | with_reducible refine Within.foldl _ ?_ ?_
    | (intro (x : State); refine Within.cut (x := x) (m := 0x500200080024) (s := s) ?_ (fun hx => ?_); unfold x)
    | intro x
    | lift_lets -underBinder
    | split
    | exact rfl
    | (split <;> rfl)
    | clear_value *

theorem execSafetyProofTest_within (p tag : Nat) (s : State) :
    ∃ t, execSafetyProofTest p tag s = .next t ∧ Within 0x408200080204 s t := by
  refine ⟨_, rfl, ?_⟩
  have h0 := Within.refl 0x408200080204 s
  try lift_lets -underBinder
  repeat' first
    | with_reducible assumption
    | with_reducible refine Within.ite ?_ ?_
    | with_reducible refine take_within ?_ ?_ rfl
    | with_reducible refine (finish_within _ _ _ _ _ _).step ?_ rfl
    | with_reducible refine (modHlt_within _ _).step ?_ rfl
    | with_reducible refine Within.foldl _ ?_ ?_
    | (intro (x : State); refine Within.cut (x := x) (m := 0x408200080204) (s := s) ?_ (fun hx => ?_); unfold x)
    | intro x
    | lift_lets -underBinder
    | split
    | exact rfl
    | (split <;> rfl)
    | clear_value *

theorem execSafetyProofTestEnd_within (failed : Nat) (s : State) :
    ∃ t, execSafetyProofTestEnd failed s = .next t ∧ Within 0x551300086A34 s t := by
  refine ⟨_, rfl, ?_⟩
  have h0 := Within.refl 0x551300086A34 s
  try lift_lets -underBinder
  repeat' first
    | with_reducible assumption
    | with_reducible refine Within.ite ?_ ?_
    | with_reducible refine (actLoops_within _).step ?_ rfl
    | with_reducible refine (modHlt_within _ _).step ?_ rfl
    | with_reducible refine (finish_within _ _ _ _ _ _).step ?_ rfl
    | with_reducible refine Within.set 12 ?_ ?_ rfl
    | with_reducible refine (enterHaltSafe_within _ _).step ?_ rfl
    | with_reducible refine Within.foldl _ ?_ ?_
    | (intro (x : State); refine Within.cut (x := x) (m := 0x551300086A34) (s := s) ?_ (fun hx => ?_); unfold x)
    | intro x
    | lift_lets -underBinder
    | split
    | exact rfl
    | (split <;> rfl)
    | clear_value *

theorem execProofTestDue_within (s : State) :
    ∃ t, execProofTestDue s = .next t ∧ Within 0x400200080004 s t := by
  refine ⟨_, rfl, ?_⟩
  have h0 := Within.refl 0x400200080004 s
  try lift_lets -underBinder
  repeat' first
    | with_reducible assumption
    | with_reducible refine Within.ite ?_ ?_
    | with_reducible refine (raise_within _ _ _ _ _).step ?_ rfl
    | with_reducible refine Within.foldl _ ?_ ?_
    | (intro (x : State); refine Within.cut (x := x) (m := 0x400200080004) (s := s) ?_ (fun hx => ?_); unfold x)
    | intro x
    | lift_lets -underBinder
    | split
    | exact rfl
    | (split <;> rfl)
    | clear_value *

theorem execServiceClear_within (p tag : Nat) (s : State) :
    ∃ t, execServiceClear p tag s = .next t ∧ Within 0x50960008002C s t := by
  refine ⟨_, rfl, ?_⟩
  have h0 := Within.refl 0x50960008002C s
  try lift_lets -underBinder
  repeat' first
    | with_reducible assumption
    | with_reducible refine Within.ite ?_ ?_
    | with_reducible refine take_within ?_ ?_ rfl
    | with_reducible refine (finish_within _ _ _ _ _ _).step ?_ rfl
    | with_reducible refine (modLink_within _ _ _).step ?_ rfl
    | ((with_reducible refine Within.setB 2 ?_ ?hw rfl); case hw => first | exact rfl | assumption | (split <;> rfl))
    | ((with_reducible refine Within.setB 4 ?_ ?hw rfl); case hw => first | exact rfl | assumption | (split <;> rfl))
    | ((with_reducible refine Within.setB 12 ?_ ?hw rfl); case hw => first | exact rfl | assumption | (split <;> rfl))
    | ((with_reducible refine Within.set 4 ?_ ?hw rfl); case hw => first | exact rfl | assumption | (split <;> rfl))
    | ((with_reducible refine Within.set 12 ?_ ?hw rfl); case hw => first | exact rfl | assumption | (split <;> rfl))
    | with_reducible refine (refreshCeil_within _ _).step ?_ rfl
    | with_reducible refine (degradedEvent_within _ _ _ _).step ?_ rfl
    | with_reducible refine (modHalt_within _ _ _).step ?_ rfl
    | with_reducible refine (raise_within _ _ _ _ _).step ?_ rfl
    | with_reducible refine Within.foldl _ ?_ ?_
    | (intro (x : State); refine Within.cut (x := x) (m := 0x50960008002C) (s := s) ?_ (fun hx => ?_); unfold x)
    | intro x
    | lift_lets -underBinder
    | split
    | exact rfl
    | (split <;> rfl)
    | clear_value *

end Sys2Proof.Laws
end

