-- ==== Sys2Proof/Laws/WithinHarness.lean ====
section
/-!
SUPPORT. What the operations of Machine/Harness.lean may touch.
-/
namespace Sys2Proof.Laws

open Sys2Proof.Machine

theorem execBridgeSet_within (p tag : Nat) (s : State) :
    ∃ t, execBridgeSet p tag s = .next t ∧ Within 0x418200084804 s t := by
  refine ⟨_, rfl, ?_⟩
  have h0 := Within.refl 0x418200084804 s
  try lift_lets -underBinder
  repeat' first
    | with_reducible assumption
    | with_reducible refine Within.ite ?_ ?_
    | with_reducible refine take_within ?_ ?_ rfl
    | with_reducible refine (finish_within _ _ _ _ _ _).step ?_ rfl
    | with_reducible refine (bridgeUnrelease_within _ _).step ?_ rfl
    | with_reducible refine (rebase_within _ _).step ?_ rfl
    | with_reducible refine (startBridge_within _ _).step ?_ rfl
    | with_reducible refine (commutate_within _ _).step ?_ rfl
    | with_reducible refine Within.set 8 ?_ ?_ rfl
    | with_reducible refine (settle_within _ _).step ?_ rfl
    | with_reducible refine (modHb_within _ _ _).step ?_ rfl
    | with_reducible refine (bridgeOff_within _ _ _).step ?_ rfl
    | with_reducible refine (bridgeDone_within _ _ _).step ?_ rfl
    | with_reducible refine (showBridge_within _ _).step ?_ rfl
    | with_reducible refine Within.foldl _ ?_ ?_
    | (intro (x : State); refine Within.cut (x := x) (m := 0x418200084804) (s := s) ?_ (fun hx => ?_); unfold x)
    | intro x
    | lift_lets -underBinder
    | split
    | exact rfl
    | (split <;> rfl)
    | clear_value *

theorem execCoolingSet_within (p tag : Nat) (s : State) :
    ∃ t, execCoolingSet p tag s = .next t ∧ Within 0x418200080804 s t := by
  refine ⟨_, rfl, ?_⟩
  have h0 := Within.refl 0x418200080804 s
  try lift_lets -underBinder
  repeat' first
    | with_reducible assumption
    | with_reducible refine Within.ite ?_ ?_
    | with_reducible refine take_within ?_ ?_ rfl
    | with_reducible refine (finish_within _ _ _ _ _ _).step ?_ rfl
    | with_reducible refine Within.set 8 ?_ ?_ rfl
    | with_reducible refine (modHrn_within _ _).step ?_ rfl
    | with_reducible refine Within.foldl _ ?_ ?_
    | (intro (x : State); refine Within.cut (x := x) (m := 0x418200080804) (s := s) ?_ (fun hx => ?_); unfold x)
    | intro x
    | lift_lets -underBinder
    | split
    | exact rfl
    | (split <;> rfl)
    | clear_value *

theorem clearIf_within (s : State) (c : Bool) (f : Fld) (hf : f.win = 8) :
    Within 0x10000000000 s (State.clearIf s c f) := by
  have h0 := Within.refl 0x10000000000 s
  unfold State.clearIf
  try lift_lets -underBinder
  repeat' first
    | with_reducible assumption
    | with_reducible refine Within.ite ?_ ?_
    | with_reducible refine Within.setB 8 ?_ ?_ rfl
    | with_reducible refine Within.foldl _ ?_ ?_
    | (intro (x : State); refine Within.cut (x := x) (m := 0x10000000000) (s := s) ?_ (fun hx => ?_); unfold x)
    | intro x
    | lift_lets -underBinder
    | split
    | exact rfl
    | (split <;> rfl)
    | clear_value *

theorem execHrnFaultClear_within (p tag : Nat) (s : State) :
    ∃ t, execHrnFaultClear p tag s = .next t ∧ Within 0x418200080804 s t := by
  refine ⟨_, rfl, ?_⟩
  have h0 := Within.refl 0x418200080804 s
  try lift_lets -underBinder
  repeat' first
    | with_reducible assumption
    | with_reducible refine Within.ite ?_ ?_
    | with_reducible refine take_within ?_ ?_ rfl
    | with_reducible refine (finish_within _ _ _ _ _ _).step ?_ rfl
    | with_reducible refine Within.forAll ?_ ?_
    | with_reducible refine Within.setB 8 ?_ ?_ rfl
    | with_reducible refine Within.setBit 8 ?_ ?_ rfl
    | with_reducible refine Within.set 8 ?_ ?_ rfl
    | with_reducible refine (clearIf_within _ _ _ ?_).step ?_ rfl
    | with_reducible refine (rebase_within _ _).step ?_ rfl
    | with_reducible refine (modHrn_within _ _).step ?_ rfl
    | with_reducible refine (showLatch_within _ _).step ?_ rfl
    | with_reducible refine Within.foldl _ ?_ ?_
    | (intro (x : State); refine Within.cut (x := x) (m := 0x418200080804) (s := s) ?_ (fun hx => ?_); unfold x)
    | intro x
    | lift_lets -underBinder
    | split
    | exact rfl
    | (split <;> rfl)
    | clear_value *

theorem execTroughEvaluation_within (s : State) :
    ∃ t, execTroughEvaluation s = .next t ∧ Within 0x410200084816 s t := by
  refine ⟨_, rfl, ?_⟩
  have h0 := Within.refl 0x410200084816 s
  try lift_lets -underBinder
  repeat' first
    | with_reducible assumption
    | with_reducible refine Within.ite ?_ ?_
    | with_reducible refine Within.forAll ?_ ?_
    | with_reducible refine (troughStall_within _ _).step ?_ rfl
    | with_reducible refine (modHrn_within _ _).step ?_ rfl
    | with_reducible refine (troughBridge_within _ _).step ?_ rfl
    | with_reducible refine Within.foldl _ ?_ ?_
    | (intro (x : State); refine Within.cut (x := x) (m := 0x410200084816) (s := s) ?_ (fun hx => ?_); unfold x)
    | intro x
    | lift_lets -underBinder
    | split
    | exact rfl
    | (split <;> rfl)
    | clear_value *

theorem execCoolantFlowLow_within (n : Nat) (s : State) :
    ∃ t, execCoolantFlowLow n s = .next t ∧ Within 0x410A00080404 s t := by
  refine ⟨_, rfl, ?_⟩
  have h0 := Within.refl 0x410A00080404 s
  try lift_lets -underBinder
  repeat' first
    | with_reducible assumption
    | with_reducible refine Within.ite ?_ ?_
    | with_reducible refine (raise_within _ _ _ _ _).step ?_ rfl
    | with_reducible refine Within.setB 8 ?_ ?_ rfl
    | with_reducible refine (throttleRaise_within _ _ _ _).step ?_ rfl
    | with_reducible refine Within.foldl _ ?_ ?_
    | (intro (x : State); refine Within.cut (x := x) (m := 0x410A00080404) (s := s) ?_ (fun hx => ?_); unfold x)
    | intro x
    | lift_lets -underBinder
    | split
    | exact rfl
    | (split <;> rfl)
    | clear_value *

theorem execCoolantFlowRelease_within (n : Nat) (s : State) :
    ∃ t, execCoolantFlowRelease n s = .next t ∧ Within 0x410A00080404 s t := by
  refine ⟨_, rfl, ?_⟩
  have h0 := Within.refl 0x410A00080404 s
  try lift_lets -underBinder
  repeat' first
    | with_reducible assumption
    | with_reducible refine Within.ite ?_ ?_
    | with_reducible refine (throttleDrop_within _ _ _).step ?_ rfl
    | with_reducible refine Within.setB 8 ?_ ?_ rfl
    | with_reducible refine Within.foldl _ ?_ ?_
    | (intro (x : State); refine Within.cut (x := x) (m := 0x410A00080404) (s := s) ?_ (fun hx => ?_); unfold x)
    | intro x
    | lift_lets -underBinder
    | split
    | exact rfl
    | (split <;> rfl)
    | clear_value *

theorem execHallEdge_within (b hall : Nat) (s : State) :
    ∃ t, execHallEdge b hall s = .next t ∧ Within 0x10000000802 s t := by
  refine ⟨_, rfl, ?_⟩
  have h0 := Within.refl 0x10000000802 s
  try lift_lets -underBinder
  repeat' first
    | with_reducible assumption
    | with_reducible refine Within.ite ?_ ?_
    | with_reducible refine Within.ite2 ?_ ?_
    | with_reducible refine Within.set 8 ?_ ?_ rfl
    | with_reducible refine (showBridge_within _ _).step ?_ rfl
    | with_reducible refine (modHb_within _ _ _).step ?_ rfl
    | with_reducible refine (fresh_within _ _).step ?_ rfl
    | with_reducible refine Within.foldl _ ?_ ?_
    | with_reducible refine Within.foldl2 _ ?_ ?_
    | (intro (x : State); refine Within.cut (x := x) (m := 0x10000000802) (s := s) ?_ (fun hx => ?_); unfold x)
    | intro x
    | lift_lets -underBinder
    | split
    | exact rfl
    | (split <;> rfl)
    | clear_value *

theorem execHallInvalidTimeout_within (b : Nat) (s : State) :
    ∃ t, execHallInvalidTimeout b s = .next t ∧ Within 0x410200084804 s t := by
  refine ⟨_, rfl, ?_⟩
  have h0 := Within.refl 0x410200084804 s
  try lift_lets -underBinder
  repeat' first
    | with_reducible assumption
    | with_reducible refine Within.ite ?_ ?_
    | with_reducible refine (tripBridge_within _ _ _ _ _ ?_).step ?_ rfl
    | with_reducible refine Within.foldl _ ?_ ?_
    | (intro (x : State); refine Within.cut (x := x) (m := 0x410200084804) (s := s) ?_ (fun hx => ?_); unfold x)
    | intro x
    | lift_lets -underBinder
    | split
    | exact rfl
    | (split <;> rfl)
    | clear_value *

theorem execRotorStallTimeout_within (b : Nat) (s : State) :
    ∃ t, execRotorStallTimeout b s = .next t ∧ Within 0x410200084804 s t := by
  refine ⟨_, rfl, ?_⟩
  have h0 := Within.refl 0x410200084804 s
  try lift_lets -underBinder
  repeat' first
    | with_reducible assumption
    | with_reducible refine Within.ite ?_ ?_
    | with_reducible refine (tripBridge_within _ _ _ _ _ ?_).step ?_ rfl
    | with_reducible refine Within.foldl _ ?_ ?_
    | (intro (x : State); refine Within.cut (x := x) (m := 0x410200084804) (s := s) ?_ (fun hx => ?_); unfold x)
    | intro x
    | lift_lets -underBinder
    | split
    | exact rfl
    | (split <;> rfl)
    | clear_value *

theorem execDirectInputEdge_within (b sw : Nat) (level : Bool) (s : State) :
    ∃ t, execDirectInputEdge b sw level s = .next t ∧ Within 0x800 s t := by
  refine ⟨_, rfl, ?_⟩
  have h0 := Within.refl 0x800 s
  try lift_lets -underBinder
  repeat' first
    | with_reducible assumption
    | with_reducible refine Within.ite ?_ ?_
    | with_reducible refine (holdOff_within _ _ _ _).step ?_ rfl
    | with_reducible refine (modHb_within _ _ _).step ?_ rfl
    | with_reducible refine Within.foldl _ ?_ ?_
    | (intro (x : State); refine Within.cut (x := x) (m := 0x800) (s := s) ?_ (fun hx => ?_); unfold x)
    | intro x
    | lift_lets -underBinder
    | split
    | exact rfl
    | (split <;> rfl)
    | clear_value *

theorem execBothOnRejection_within (b half : Nat) (s : State) :
    ∃ t, execBothOnRejection b half s = .next t ∧ Within 0x410200084804 s t := by
  refine ⟨_, rfl, ?_⟩
  have h0 := Within.refl 0x410200084804 s
  try lift_lets -underBinder
  repeat' first
    | with_reducible assumption
    | with_reducible refine Within.ite ?_ ?_
    | with_reducible refine Within.incSat 8 ?_ ?_ rfl
    | with_reducible refine (holdOff_within _ _ _ _).step ?_ rfl
    | with_reducible refine (modHrn_within _ _).step ?_ rfl
    | with_reducible refine Within.setB 8 ?_ ?_ rfl
    | with_reducible refine Within.forAll ?_ ?_
    | with_reducible refine (bridgeOff_within _ _ _).step ?_ rfl
    | with_reducible refine (raise_within _ _ _ _ _).step ?_ rfl
    | with_reducible refine Within.foldl _ ?_ ?_
    | (intro (x : State); refine Within.cut (x := x) (m := 0x410200084804) (s := s) ?_ (fun hx => ?_); unfold x)
    | intro x
    | lift_lets -underBinder
    | split
    | exact rfl
    | (split <;> rfl)
    | clear_value *

theorem execBootstrapRefreshTimer_within (b half : Nat) (s : State) :
    ∃ t, execBootstrapRefreshTimer b half s = .next t ∧ Within 0x800 s t := by
  refine ⟨_, rfl, ?_⟩
  have h0 := Within.refl 0x800 s
  try lift_lets -underBinder
  repeat' first
    | with_reducible assumption
    | with_reducible refine Within.ite ?_ ?_
    | with_reducible refine (holdOff_within _ _ _ _).step ?_ rfl
    | with_reducible refine Within.foldl _ ?_ ?_
    | (intro (x : State); refine Within.cut (x := x) (m := 0x800) (s := s) ?_ (fun hx => ?_); unfold x)
    | intro x
    | lift_lets -underBinder
    | split
    | exact rfl
    | (split <;> rfl)
    | clear_value *

theorem execBootstrapUndervoltage_within (b half : Nat) (s : State) :
    ∃ t, execBootstrapUndervoltage b half s = .next t ∧ Within 0x410200080804 s t := by
  refine ⟨_, rfl, ?_⟩
  have h0 := Within.refl 0x410200080804 s
  try lift_lets -underBinder
  repeat' first
    | with_reducible assumption
    | with_reducible refine Within.ite ?_ ?_
    | with_reducible refine Within.setB 8 ?_ ?_ rfl
    | with_reducible refine (modHb_within _ _ _).step ?_ rfl
    | with_reducible refine (showBridge_within _ _).step ?_ rfl
    | with_reducible refine (holdOff_within _ _ _ _).step ?_ rfl
    | with_reducible refine (hbFault_within _ _ _ _).step ?_ rfl
    | with_reducible refine Within.foldl _ ?_ ?_
    | (intro (x : State); refine Within.cut (x := x) (m := 0x410200080804) (s := s) ?_ (fun hx => ?_); unfold x)
    | intro x
    | lift_lets -underBinder
    | split
    | exact rfl
    | (split <;> rfl)
    | clear_value *

theorem execHarnessOvercurrent_within (b sw : Nat) (s : State) :
    ∃ t, execHarnessOvercurrent b sw s = .next t ∧ Within 0x410200084804 s t := by
  refine ⟨_, rfl, ?_⟩
  have h0 := Within.refl 0x410200084804 s
  try lift_lets -underBinder
  repeat' first
    | with_reducible assumption
    | with_reducible refine Within.ite ?_ ?_
    | with_reducible refine Within.incSat 8 ?_ ?_ rfl
    | with_reducible refine (holdOff_within _ _ _ _).step ?_ rfl
    | with_reducible refine (modHb_within _ _ _).step ?_ rfl
    | with_reducible refine (tripBridge_within _ _ _ _ _ ?_).step ?_ rfl
    | with_reducible refine Within.foldl _ ?_ ?_
    | (intro (x : State); refine Within.cut (x := x) (m := 0x410200084804) (s := s) ?_ (fun hx => ?_); unfold x)
    | intro x
    | lift_lets -underBinder
    | split
    | exact rfl
    | (split <;> rfl)
    | clear_value *

theorem execDesatTrip_within (b sw : Nat) (s : State) :
    ∃ t, execDesatTrip b sw s = .next t ∧ Within 0x410200084804 s t := by
  refine ⟨_, rfl, ?_⟩
  have h0 := Within.refl 0x410200084804 s
  try lift_lets -underBinder
  repeat' first
    | with_reducible assumption
    | with_reducible refine Within.ite ?_ ?_
    | with_reducible refine (tripBridge_within _ _ _ _ _ ?_).step ?_ rfl
    | with_reducible refine Within.foldl _ ?_ ?_
    | (intro (x : State); refine Within.cut (x := x) (m := 0x410200084804) (s := s) ?_ (fun hx => ?_); unfold x)
    | intro x
    | lift_lets -underBinder
    | split
    | exact rfl
    | (split <;> rfl)
    | clear_value *

theorem execVmotOvervoltage_within (g v : Nat) (s : State) :
    ∃ t, execVmotOvervoltage g v s = .next t ∧ Within 0x410200084804 s t := by
  refine ⟨_, rfl, ?_⟩
  have h0 := Within.refl 0x410200084804 s
  try lift_lets -underBinder
  repeat' first
    | with_reducible assumption
    | with_reducible refine Within.ite ?_ ?_
    | with_reducible refine Within.set 8 ?_ ?_ rfl
    | with_reducible refine Within.forAll ?_ ?_
    | with_reducible refine (tripBridge_within _ _ _ _ _ ?_).step ?_ rfl
    | with_reducible refine Within.foldl _ ?_ ?_
    | (intro (x : State); refine Within.cut (x := x) (m := 0x410200084804) (s := s) ?_ (fun hx => ?_); unfold x)
    | intro x
    | lift_lets -underBinder
    | split
    | exact rfl
    | (split <;> rfl)
    | clear_value *

theorem execVmotUndervoltage_within (g v : Nat) (s : State) :
    ∃ t, execVmotUndervoltage g v s = .next t ∧ Within 0x410200080804 s t := by
  refine ⟨_, rfl, ?_⟩
  have h0 := Within.refl 0x410200080804 s
  try lift_lets -underBinder
  repeat' first
    | with_reducible assumption
    | with_reducible refine Within.ite ?_ ?_
    | with_reducible refine Within.set 8 ?_ ?_ rfl
    | with_reducible refine (raise_within _ _ _ _ _).step ?_ rfl
    | with_reducible refine Within.forAll ?_ ?_
    | with_reducible refine (showBridge_within _ _).step ?_ rfl
    | with_reducible refine Within.setBit 8 ?_ ?_ rfl
    | with_reducible refine Within.foldl _ ?_ ?_
    | (intro (x : State); refine Within.cut (x := x) (m := 0x410200080804) (s := s) ?_ (fun hx => ?_); unfold x)
    | intro x
    | lift_lets -underBinder
    | split
    | exact rfl
    | (split <;> rfl)
    | clear_value *

theorem execVmotUvRecovery_within (g v : Nat) (s : State) :
    ∃ t, execVmotUvRecovery g v s = .next t ∧ Within 0x410200080804 s t := by
  refine ⟨_, rfl, ?_⟩
  have h0 := Within.refl 0x410200080804 s
  try lift_lets -underBinder
  repeat' first
    | with_reducible assumption
    | with_reducible refine Within.ite ?_ ?_
    | with_reducible refine Within.set 8 ?_ ?_ rfl
    | with_reducible refine (raise_within _ _ _ _ _).step ?_ rfl
    | with_reducible refine Within.forAll ?_ ?_
    | with_reducible refine (showBridge_within _ _).step ?_ rfl
    | with_reducible refine Within.setBit 8 ?_ ?_ rfl
    | with_reducible refine Within.foldl _ ?_ ?_
    | (intro (x : State); refine Within.cut (x := x) (m := 0x410200080804) (s := s) ?_ (fun hx => ?_); unfold x)
    | intro x
    | lift_lets -underBinder
    | split
    | exact rfl
    | (split <;> rfl)
    | clear_value *

theorem execChopperOn_within (g v : Nat) (s : State) :
    ∃ t, execChopperOn g v s = .next t ∧ Within 0x10000000000 s t := by
  refine ⟨_, rfl, ?_⟩
  have h0 := Within.refl 0x10000000000 s
  try lift_lets -underBinder
  repeat' first
    | with_reducible assumption
    | with_reducible refine Within.ite ?_ ?_
    | with_reducible refine Within.set 8 ?_ ?_ rfl
    | with_reducible refine Within.setB 8 ?_ ?_ rfl
    | with_reducible refine Within.foldl _ ?_ ?_
    | (intro (x : State); refine Within.cut (x := x) (m := 0x10000000000) (s := s) ?_ (fun hx => ?_); unfold x)
    | intro x
    | lift_lets -underBinder
    | split
    | exact rfl
    | (split <;> rfl)
    | clear_value *

theorem execChopperOff_within (g v : Nat) (s : State) :
    ∃ t, execChopperOff g v s = .next t ∧ Within 0x10000000000 s t := by
  refine ⟨_, rfl, ?_⟩
  have h0 := Within.refl 0x10000000000 s
  try lift_lets -underBinder
  repeat' first
    | with_reducible assumption
    | with_reducible refine Within.ite ?_ ?_
    | with_reducible refine Within.set 8 ?_ ?_ rfl
    | with_reducible refine Within.setB 8 ?_ ?_ rfl
    | with_reducible refine Within.foldl _ ?_ ?_
    | (intro (x : State); refine Within.cut (x := x) (m := 0x10000000000) (s := s) ?_ (fun hx => ?_); unfold x)
    | intro x
    | lift_lets -underBinder
    | split
    | exact rfl
    | (split <;> rfl)
    | clear_value *

theorem execChopOverloadTimeout_within (g : Nat) (s : State) :
    ∃ t, execChopOverloadTimeout g s = .next t ∧ Within 0x410200084804 s t := by
  refine ⟨_, rfl, ?_⟩
  have h0 := Within.refl 0x410200084804 s
  try lift_lets -underBinder
  repeat' first
    | with_reducible assumption
    | with_reducible refine Within.ite ?_ ?_
    | with_reducible refine Within.setBit 8 ?_ ?_ rfl
    | with_reducible refine Within.setB 8 ?_ ?_ rfl
    | with_reducible refine Within.forAll ?_ ?_
    | with_reducible refine (tripBridge_within _ _ _ _ _ ?_).step ?_ rfl
    | with_reducible refine Within.foldl _ ?_ ?_
    | (intro (x : State); refine Within.cut (x := x) (m := 0x410200084804) (s := s) ?_ (fun hx => ?_); unfold x)
    | intro x
    | lift_lets -underBinder
    | split
    | exact rfl
    | (split <;> rfl)
    | clear_value *

theorem execBridgeRampEnd_within (b : Nat) (s : State) :
    ∃ t, execBridgeRampEnd b s = .next t ∧ Within 0x410200084804 s t := by
  refine ⟨_, rfl, ?_⟩
  have h0 := Within.refl 0x410200084804 s
  try lift_lets -underBinder
  repeat' first
    | with_reducible assumption
    | with_reducible refine Within.ite ?_ ?_
    | with_reducible refine (atGoal_within _ _).step ?_ rfl
    | with_reducible refine Within.foldl _ ?_ ?_
    | (intro (x : State); refine Within.cut (x := x) (m := 0x410200084804) (s := s) ?_ (fun hx => ?_); unfold x)
    | intro x
    | lift_lets -underBinder
    | split
    | exact rfl
    | (split <;> rfl)
    | clear_value *

end Sys2Proof.Laws
end

