-- ==== Sys2Proof/Laws/WithinStallLink.lean ====
section
/-!
SUPPORT. What the operations of Machine/StallLink.lean may touch.
-/
namespace Sys2Proof.Laws

open Sys2Proof.Machine

theorem halterFrame_within (s : State) (n : Nat) :
    Within 0x500200080024 s (State.halterFrame s n) := by
  have h0 := Within.refl 0x500200080024 s
  unfold State.halterFrame
  try lift_lets -underBinder
  repeat' first
    | with_reducible assumption
    | with_reducible refine Within.ite ?_ ?_
    | with_reducible refine (permitRefused_within _ _).step ?_ rfl
    | with_reducible refine Within.setB 12 ?_ ?_ rfl
    | with_reducible refine Within.set 12 ?_ ?_ rfl
    | with_reducible refine Within.foldl _ ?_ ?_
    | (intro (x : State); refine Within.cut (x := x) (m := 0x500200080024) (s := s) ?_ (fun hx => ?_); unfold x)
    | intro x
    | lift_lets -underBinder
    | split
    | exact rfl
    | (split <;> rfl)
    | clear_value *

theorem clampSet_within (s : State) (n : Nat) :
    Within 0x800000000 s (State.clampSet s n) := by
  have h0 := Within.refl 0x800000000 s
  unfold State.clampSet
  try lift_lets -underBinder
  repeat' first
    | with_reducible assumption
    | with_reducible refine Within.ite ?_ ?_
    | with_reducible refine Within.set 3 ?_ ?_ rfl
    | with_reducible refine Within.setS 3 ?_ ?_ rfl
    | with_reducible refine Within.foldl _ ?_ ?_
    | (intro (x : State); refine Within.cut (x := x) (m := 0x800000000) (s := s) ?_ (fun hx => ?_); unfold x)
    | intro x
    | lift_lets -underBinder
    | split
    | exact rfl
    | (split <;> rfl)
    | clear_value *

theorem coolSent_within (s : State) (n : Nat) :
    Within 0x400200080804 s (State.coolSent s n) := by
  have h0 := Within.refl 0x400200080804 s
  unfold State.coolSent
  try lift_lets -underBinder
  repeat' first
    | with_reducible assumption
    | with_reducible refine Within.ite ?_ ?_
    | with_reducible refine (modHrn_within _ _).step ?_ rfl
    | with_reducible refine (finish_within _ _ _ _ _ _).step ?_ rfl
    | with_reducible refine Within.foldl _ ?_ ?_
    | (intro (x : State); refine Within.cut (x := x) (m := 0x400200080804) (s := s) ?_ (fun hx => ?_); unfold x)
    | intro x
    | lift_lets -underBinder
    | split
    | exact rfl
    | (split <;> rfl)
    | clear_value *

theorem sendFrame_within (s : State) (n : Nat) :
    Within 0x500A000A082C s (State.sendFrame s n) := by
  have h0 := Within.refl 0x500A000A082C s
  unfold State.sendFrame
  try lift_lets -underBinder
  repeat' first
    | with_reducible assumption
    | with_reducible refine Within.ite ?_ ?_
    | with_reducible refine Within.ite2 ?_ ?_
    | with_reducible refine (halterFrame_within _ _).step ?_ rfl
    | with_reducible refine (clampSet_within _ _).step ?_ rfl
    | with_reducible refine (emit_within _ _).step ?_ (Nat.zero_or _)
    | with_reducible refine (tunSlot_within _ _).step ?_ rfl
    | with_reducible refine (coolSent_within _ _).step ?_ rfl
    | with_reducible refine (modLink_within _ _ _).step ?_ rfl
    | with_reducible refine Within.foldl _ ?_ ?_
    | with_reducible refine Within.foldl2 _ ?_ ?_
    | (intro (x : State); refine Within.cut (x := x) (m := 0x500A000A082C) (s := s) ?_ (fun hx => ?_); unfold x)
    | intro x
    | lift_lets -underBinder
    | split
    | exact rfl
    | (split <;> rfl)
    | clear_value *

theorem execLinkCycleStart_within (vhold : Nat) (s : State) :
    ∃ t, execLinkCycleStart vhold s = .next t ∧ Within 0x500A000B082C s t := by
  refine ⟨_, rfl, ?_⟩
  have h0 := Within.refl 0x500A000B082C s
  try lift_lets -underBinder
  repeat' first
    | with_reducible assumption
    | with_reducible refine Within.ite ?_ ?_
    | with_reducible refine (seeFinal_within _).step ?_ rfl
    | with_reducible refine Within.set 14 ?_ ?_ rfl
    | with_reducible refine Within.forAll ?_ ?_
    | with_reducible refine (sendFrame_within _ _).step ?_ rfl
    | with_reducible refine Within.foldl _ ?_ ?_
    | (intro (x : State); refine Within.cut (x := x) (m := 0x500A000B082C) (s := s) ?_ (fun hx => ?_); unfold x)
    | intro x
    | lift_lets -underBinder
    | split
    | exact rfl
    | (split <;> rfl)
    | clear_value *

theorem edgeLatch_within (s : State) (n : Nat) :
    Within 0x511600080034 s (State.edgeLatch s n) := by
  have h0 := Within.refl 0x511600080034 s
  unfold State.edgeLatch
  try lift_lets -underBinder
  repeat' first
    | with_reducible assumption
    | with_reducible refine Within.ite ?_ ?_
    | ((with_reducible refine Within.setB 2 ?_ ?hw rfl); case hw => first | exact rfl | assumption | (split <;> rfl))
    | ((with_reducible refine Within.setB 12 ?_ ?hw rfl); case hw => first | exact rfl | assumption | (split <;> rfl))
    | with_reducible refine (raise_within _ _ _ _ _).step ?_ rfl
    | with_reducible refine (stopStall_within _ _ _ _).step ?_ rfl
    | with_reducible refine Within.foldl _ ?_ ?_
    | (intro (x : State); refine Within.cut (x := x) (m := 0x511600080034) (s := s) ?_ (fun hx => ?_); unfold x)
    | intro x
    | lift_lets -underBinder
    | split
    | exact rfl
    | (split <;> rfl)
    | clear_value *

theorem checkBlock_within (s : State) (n : Nat) (ty : StallType) (ph : List (List Edge)) :
    Within 0x51160008003C s (State.checkBlock s n ty ph) := by
  have h0 := Within.refl 0x51160008003C s
  unfold State.checkBlock
  try lift_lets -underBinder
  repeat' first
    | with_reducible assumption
    | with_reducible refine Within.ite ?_ ?_
    | with_reducible refine (modLink_within _ _ _).step ?_ rfl
    | with_reducible refine Within.addSat 2 ?_ ?_ rfl
    | with_reducible refine Within.setB 4 ?_ ?_ rfl
    | with_reducible refine (edgeLatch_within _ _).step ?_ rfl
    | with_reducible refine Within.foldl _ ?_ ?_
    | (intro (x : State); refine Within.cut (x := x) (m := 0x51160008003C) (s := s) ?_ (fun hx => ?_); unfold x)
    | intro x
    | lift_lets -underBinder
    | split
    | exact rfl
    | (split <;> rfl)
    | clear_value *

theorem holdPeriod_within (s : State) (n : Nat) :
    Within 0x8 s (State.holdPeriod s n) := by
  have h0 := Within.refl 0x8 s
  unfold State.holdPeriod
  try lift_lets -underBinder
  repeat' first
    | with_reducible assumption
    | with_reducible refine Within.ite ?_ ?_
    | with_reducible refine (modLink_within _ _ _).step ?_ rfl
    | with_reducible refine Within.foldl _ ?_ ?_
    | (intro (x : State); refine Within.cut (x := x) (m := 0x8) (s := s) ?_ (fun hx => ?_); unfold x)
    | intro x
    | lift_lets -underBinder
    | split
    | exact rfl
    | (split <;> rfl)
    | clear_value *

theorem walkerMiss_within (s : State) (n : Nat) :
    Within 0x51120008003C s (State.walkerMiss s n) := by
  have h0 := Within.refl 0x51120008003C s
  unfold State.walkerMiss
  try lift_lets -underBinder
  repeat' first
    | with_reducible assumption
    | with_reducible refine Within.ite ?_ ?_
    | with_reducible refine (modWalk_within _ _ _).step ?_ rfl
    | with_reducible refine Within.setB 4 ?_ ?_ rfl
    | with_reducible refine Within.incSat 4 ?_ ?_ rfl
    | with_reducible refine (raise_within _ _ _ _ _).step ?_ rfl
    | with_reducible refine (holdPeriod_within _ _).step ?_ rfl
    | with_reducible refine (stopStall_within _ _ _ _).step ?_ rfl
    | with_reducible refine (startTwoStep_within _ _).step ?_ rfl
    | with_reducible refine Within.foldl _ ?_ ?_
    | (intro (x : State); refine Within.cut (x := x) (m := 0x51120008003C) (s := s) ?_ (fun hx => ?_); unfold x)
    | intro x
    | lift_lets -underBinder
    | split
    | exact rfl
    | (split <;> rfl)
    | clear_value *

theorem execEdgeBlockLatch_within (n : Nat) (s : State) :
    ∃ t, execEdgeBlockLatch n s = .next t ∧ Within 0x51160008003C s t := by
  refine ⟨_, rfl, ?_⟩
  have h0 := Within.refl 0x51160008003C s
  try lift_lets -underBinder
  repeat' first
    | with_reducible assumption
    | with_reducible refine Within.ite ?_ ?_
    | with_reducible refine (modLink_within _ _ _).step ?_ rfl
    | with_reducible refine (walkerMiss_within _ _).step ?_ rfl
    | with_reducible refine (modWalk_within _ _ _).step ?_ rfl
    | with_reducible refine (checkBlock_within _ _ _ _).step ?_ rfl
    | with_reducible refine (holdPeriod_within _ _).step ?_ rfl
    | with_reducible refine Within.foldl _ ?_ ?_
    | (intro (x : State); refine Within.cut (x := x) (m := 0x51160008003C) (s := s) ?_ (fun hx => ?_); unfold x)
    | intro x
    | lift_lets -underBinder
    | split
    | exact rfl
    | (split <;> rfl)
    | clear_value *

theorem uplinkInvalid_within (s : State) (n : Nat) :
    Within 0x51160008003C s (State.uplinkInvalid s n) := by
  have h0 := Within.refl 0x51160008003C s
  unfold State.uplinkInvalid
  try lift_lets -underBinder
  repeat' first
    | with_reducible assumption
    | with_reducible refine Within.ite ?_ ?_
    | with_reducible refine (modLink_within _ _ _).step ?_ rfl
    | with_reducible refine (linkLost_within _ _ _).step ?_ rfl
    | with_reducible refine Within.foldl _ ?_ ?_
    | (intro (x : State); refine Within.cut (x := x) (m := 0x51160008003C) (s := s) ?_ (fun hx => ?_); unfold x)
    | intro x
    | lift_lets -underBinder
    | split
    | exact rfl
    | (split <;> rfl)
    | clear_value *

theorem stopIf_within (s : State) (c : Bool) (n : Nat) (kind : StopKind) (cause : Nat) :
    Within 0x511200080034 s (State.stopIf s c n kind cause) := by
  have h0 := Within.refl 0x511200080034 s
  unfold State.stopIf
  try lift_lets -underBinder
  repeat' first
    | with_reducible assumption
    | with_reducible refine Within.ite ?_ ?_
    | with_reducible refine (stopStall_within _ _ _ _).step ?_ rfl
    | with_reducible refine Within.foldl _ ?_ ?_
    | (intro (x : State); refine Within.cut (x := x) (m := 0x511200080034) (s := s) ?_ (fun hx => ?_); unfold x)
    | intro x
    | lift_lets -underBinder
    | split
    | exact rfl
    | (split <;> rfl)
    | clear_value *

theorem halterChecks_within (s : State) (n : Nat) :
    Within 0x511200080034 s (State.halterChecks s n) := by
  have h0 := Within.refl 0x511200080034 s
  unfold State.halterChecks
  try lift_lets -underBinder
  repeat' first
    | with_reducible assumption
    | with_reducible refine Within.ite ?_ ?_
    | with_reducible refine (modHalt_within _ _ _).step ?_ rfl
    | with_reducible refine (stopIf_within _ _ _ _ _).step ?_ rfl
    | with_reducible refine Within.setB 12 ?_ ?_ rfl
    | with_reducible refine Within.foldl _ ?_ ?_
    | (intro (x : State); refine Within.cut (x := x) (m := 0x511200080034) (s := s) ?_ (fun hx => ?_); unfold x)
    | intro x
    | lift_lets -underBinder
    | split
    | exact rfl
    | (split <;> rfl)
    | clear_value *

theorem sampleChecks_within (s : State) (n : Nat) (x : Sample) :
    Within 0x20 s (State.sampleChecks s n x) := by
  have h0 := Within.refl 0x20 s
  unfold State.sampleChecks
  try lift_lets -underBinder
  repeat' first
    | with_reducible assumption
    | with_reducible refine Within.ite ?_ ?_
    | with_reducible refine (modHalt_within _ _ _).step ?_ rfl
    | with_reducible refine Within.foldl _ ?_ ?_
    | (intro (x : State); refine Within.cut (x := x) (m := 0x20) (s := s) ?_ (fun hx => ?_); unfold x)
    | intro x
    | lift_lets -underBinder
    | split
    | exact rfl
    | (split <;> rfl)
    | clear_value *

theorem takeHk_within (s : State) (n idx flags val : Nat) :
    Within 0x51120008003C s (State.takeHk s n idx flags val) := by
  have h0 := Within.refl 0x51120008003C s
  unfold State.takeHk
  try lift_lets -underBinder
  repeat' first
    | with_reducible assumption
    | with_reducible refine Within.ite ?_ ?_
    | with_reducible refine (modLink_within _ _ _).step ?_ rfl
    | with_reducible refine (modHalt_within _ _ _).step ?_ rfl
    | with_reducible refine (sensorLost_within _ _ _).step ?_ rfl
    | with_reducible refine Within.foldl _ ?_ ?_
    | (intro (x : State); refine Within.cut (x := x) (m := 0x51120008003C) (s := s) ?_ (fun hx => ?_); unfold x)
    | intro x
    | lift_lets -underBinder
    | split
    | exact rfl
    | (split <;> rfl)
    | clear_value *

theorem takeTun_within (s : State) (n : Nat) (bytes : List Nat) :
    Within 0x8000000008 s (State.takeTun s n bytes) := by
  have h0 := Within.refl 0x8000000008 s
  unfold State.takeTun
  try lift_lets -underBinder
  repeat' first
    | with_reducible assumption
    | with_reducible refine Within.ite ?_ ?_
    | with_reducible refine (modLink_within _ _ _).step ?_ rfl
    | with_reducible refine Within.incSat 7 ?_ ?_ rfl
    | with_reducible refine Within.foldl _ ?_ ?_
    | (intro (x : State); refine Within.cut (x := x) (m := 0x8000000008) (s := s) ?_ (fun hx => ?_); unfold x)
    | intro x
    | lift_lets -underBinder
    | split
    | exact rfl
    | (split <;> rfl)
    | clear_value *

theorem sealCheck_within (s : State) (n sealIn : Nat) :
    Within 0x51160008003C s (State.sealCheck s n sealIn) := by
  have h0 := Within.refl 0x51160008003C s
  unfold State.sealCheck
  try lift_lets -underBinder
  repeat' first
    | with_reducible assumption
    | with_reducible refine Within.ite ?_ ?_
    | with_reducible refine (quarantine_within _ _ _).step ?_ rfl
    | with_reducible refine (stopStall_within _ _ _ _).step ?_ rfl
    | with_reducible refine (quarantineExit_within _ _).step ?_ rfl
    | with_reducible refine Within.set 2 ?_ ?_ rfl
    | with_reducible refine Within.foldl _ ?_ ?_
    | (intro (x : State); refine Within.cut (x := x) (m := 0x51160008003C) (s := s) ?_ (fun hx => ?_); unfold x)
    | intro x
    | lift_lets -underBinder
    | split
    | exact rfl
    | (split <;> rfl)
    | clear_value *

theorem uplinkRun_within (s : State) (n : Nat) (bytes : List Nat) :
    Within 0x51960008003C s (State.uplinkRun s n bytes) := by
  have h0 := Within.refl 0x51960008003C s
  unfold State.uplinkRun
  try lift_lets -underBinder
  repeat' first
    | with_reducible assumption
    | with_reducible refine Within.ite ?_ ?_
    | with_reducible refine (modLink_within _ _ _).step ?_ rfl
    | with_reducible refine Within.set 2 ?_ ?_ rfl
    | with_reducible refine Within.incSat 2 ?_ ?_ rfl
    | with_reducible refine (takeHk_within _ _ _ _ _).step ?_ rfl
    | with_reducible refine (takeTun_within _ _ _).step ?_ rfl
    | with_reducible refine (raise_within _ _ _ _ _).step ?_ rfl
    | with_reducible refine (sealCheck_within _ _ _).step ?_ rfl
    | with_reducible refine (sampleChecks_within _ _ _).step ?_ rfl
    | with_reducible refine (dropClose_within _ _ _).step ?_ rfl
    | with_reducible refine (halterChecks_within _ _).step ?_ rfl
    | with_reducible refine (linkLost_within _ _ _).step ?_ rfl
    | with_reducible refine (linkCommanded_within _ _).step ?_ rfl
    | with_reducible refine Within.foldl _ ?_ ?_
    | (intro (x : State); refine Within.cut (x := x) (m := 0x51960008003C) (s := s) ?_ (fun hx => ?_); unfold x)
    | intro x
    | lift_lets -underBinder
    | split
    | exact rfl
    | (split <;> rfl)
    | clear_value *

theorem uplinkIdent_within (s : State) (n : Nat) (b : List Nat) :
    Within 0x51160008003C s (State.uplinkIdent s n b) := by
  have h0 := Within.refl 0x51160008003C s
  unfold State.uplinkIdent
  try lift_lets -underBinder
  repeat' first
    | with_reducible assumption
    | with_reducible refine Within.ite ?_ ?_
    | with_reducible refine (modLink_within _ _ _).step ?_ rfl
    | with_reducible refine Within.set 2 ?_ ?_ rfl
    | with_reducible refine (linkLost_within _ _ _).step ?_ rfl
    | with_reducible refine Within.foldl _ ?_ ?_
    | (intro (x : State); refine Within.cut (x := x) (m := 0x51160008003C) (s := s) ?_ (fun hx => ?_); unfold x)
    | intro x
    | lift_lets -underBinder
    | split
    | exact rfl
    | (split <;> rfl)
    | clear_value *

theorem uplinkTrain_within (s : State) (n : Nat) (b : List Nat) :
    Within 0x8 s (State.uplinkTrain s n b) := by
  have h0 := Within.refl 0x8 s
  unfold State.uplinkTrain
  try lift_lets -underBinder
  repeat' first
    | with_reducible assumption
    | with_reducible refine Within.ite ?_ ?_
    | with_reducible refine (modLink_within _ _ _).step ?_ rfl
    | with_reducible refine Within.foldl _ ?_ ?_
    | (intro (x : State); refine Within.cut (x := x) (m := 0x8) (s := s) ?_ (fun hx => ?_); unfold x)
    | intro x
    | lift_lets -underBinder
    | split
    | exact rfl
    | (split <;> rfl)
    | clear_value *

theorem execUplinkFrameReceive_within (n sync : Nat) (bytes : List Nat) (s : State) :
    ∃ t, execUplinkFrameReceive n sync bytes s = .next t ∧ Within 0x51960008003C s t := by
  refine ⟨_, rfl, ?_⟩
  have h0 := Within.refl 0x51960008003C s
  try lift_lets -underBinder
  repeat' first
    | with_reducible assumption
    | with_reducible refine Within.ite ?_ ?_
    | with_reducible refine (uplinkInvalid_within _ _).step ?_ rfl
    | with_reducible refine Within.incSat 2 ?_ ?_ rfl
    | with_reducible refine Within.setB 2 ?_ ?_ rfl
    | with_reducible refine (toTraining_within _ _).step ?_ rfl
    | with_reducible refine (modLink_within _ _ _).step ?_ rfl
    | with_reducible refine (uplinkTrain_within _ _ _).step ?_ rfl
    | with_reducible refine (uplinkIdent_within _ _ _).step ?_ rfl
    | with_reducible refine (uplinkRun_within _ _ _).step ?_ rfl
    | with_reducible refine Within.foldl _ ?_ ?_
    | (intro (x : State); refine Within.cut (x := x) (m := 0x51960008003C) (s := s) ?_ (fun hx => ?_); unfold x)
    | intro x
    | lift_lets -underBinder
    | split
    | exact rfl
    | (split <;> rfl)
    | clear_value *

theorem execLinkLostEntry_within (n why : Nat) (s : State) :
    ∃ t, execLinkLostEntry n why s = .next t ∧ Within 0x51160008003C s t := by
  refine ⟨_, rfl, ?_⟩
  have h0 := Within.refl 0x51160008003C s
  try lift_lets -underBinder
  repeat' first
    | with_reducible assumption
    | with_reducible refine Within.ite ?_ ?_
    | with_reducible refine (linkLost_within _ _ _).step ?_ rfl
    | with_reducible refine Within.foldl _ ?_ ?_
    | (intro (x : State); refine Within.cut (x := x) (m := 0x51160008003C) (s := s) ?_ (fun hx => ?_); unfold x)
    | intro x
    | lift_lets -underBinder
    | split
    | exact rfl
    | (split <;> rfl)
    | clear_value *

theorem execLinkLostRecover_within (n : Nat) (s : State) :
    ∃ t, execLinkLostRecover n s = .next t ∧ Within 0x40160008000C s t := by
  refine ⟨_, rfl, ?_⟩
  have h0 := Within.refl 0x40160008000C s
  try lift_lets -underBinder
  repeat' first
    | with_reducible assumption
    | with_reducible refine Within.ite ?_ ?_
    | with_reducible refine (modLink_within _ _ _).step ?_ rfl
    | with_reducible refine (setLink_within _ _ _).step ?_ rfl
    | with_reducible refine (quarantineExit_within _ _).step ?_ rfl
    | with_reducible refine (refreshSched_within _).step ?_ rfl
    | with_reducible refine Within.foldl _ ?_ ?_
    | (intro (x : State); refine Within.cut (x := x) (m := 0x40160008000C) (s := s) ?_ (fun hx => ?_); unfold x)
    | intro x
    | lift_lets -underBinder
    | split
    | exact rfl
    | (split <;> rfl)
    | clear_value *

theorem execLinkLostTimeout_within (n : Nat) (s : State) :
    ∃ t, execLinkLostTimeout n s = .next t ∧ Within 0x40160008000C s t := by
  refine ⟨_, rfl, ?_⟩
  have h0 := Within.refl 0x40160008000C s
  try lift_lets -underBinder
  repeat' first
    | with_reducible assumption
    | with_reducible refine Within.ite ?_ ?_
    | with_reducible refine (toTraining_within _ _).step ?_ rfl
    | with_reducible refine Within.foldl _ ?_ ?_
    | (intro (x : State); refine Within.cut (x := x) (m := 0x40160008000C) (s := s) ?_ (fun hx => ?_); unfold x)
    | intro x
    | lift_lets -underBinder
    | split
    | exact rfl
    | (split <;> rfl)
    | clear_value *

theorem execLinkTrainLock_within (n : Nat) (s : State) :
    ∃ t, execLinkTrainLock n s = .next t ∧ Within 0x8 s t := by
  refine ⟨_, rfl, ?_⟩
  have h0 := Within.refl 0x8 s
  try lift_lets -underBinder
  repeat' first
    | with_reducible assumption
    | with_reducible refine Within.ite ?_ ?_
    | with_reducible refine (modLink_within _ _ _).step ?_ rfl
    | with_reducible refine Within.foldl _ ?_ ?_
    | (intro (x : State); refine Within.cut (x := x) (m := 0x8) (s := s) ?_ (fun hx => ?_); unfold x)
    | intro x
    | lift_lets -underBinder
    | split
    | exact rfl
    | (split <;> rfl)
    | clear_value *

theorem execLinkMeasureDone_within (n total pipe : Nat) (s : State) :
    ∃ t, execLinkMeasureDone n total pipe s = .next t ∧ Within 0x400000008 s t := by
  refine ⟨_, rfl, ?_⟩
  have h0 := Within.refl 0x400000008 s
  try lift_lets -underBinder
  repeat' first
    | with_reducible assumption
    | with_reducible refine Within.ite ?_ ?_
    | with_reducible refine Within.set 2 ?_ ?_ rfl
    | with_reducible refine (modLink_within _ _ _).step ?_ rfl
    | with_reducible refine Within.setB 2 ?_ ?_ rfl
    | with_reducible refine Within.foldl _ ?_ ?_
    | (intro (x : State); refine Within.cut (x := x) (m := 0x400000008) (s := s) ?_ (fun hx => ?_); unfold x)
    | intro x
    | lift_lets -underBinder
    | split
    | exact rfl
    | (split <;> rfl)
    | clear_value *

theorem execLinkTrimEchoed_within (n : Nat) (s : State) :
    ∃ t, execLinkTrimEchoed n s = .next t ∧ Within 0x8 s t := by
  refine ⟨_, rfl, ?_⟩
  have h0 := Within.refl 0x8 s
  try lift_lets -underBinder
  repeat' first
    | with_reducible assumption
    | with_reducible refine Within.ite ?_ ?_
    | with_reducible refine (modLink_within _ _ _).step ?_ rfl
    | with_reducible refine Within.foldl _ ?_ ?_
    | (intro (x : State); refine Within.cut (x := x) (m := 0x8) (s := s) ?_ (fun hx => ?_); unfold x)
    | intro x
    | lift_lets -underBinder
    | split
    | exact rfl
    | (split <;> rfl)
    | clear_value *

theorem execLinkStep3Done_within (n : Nat) (s : State) :
    ∃ t, execLinkStep3Done n s = .next t ∧ Within 0x40160008000C s t := by
  refine ⟨_, rfl, ?_⟩
  have h0 := Within.refl 0x40160008000C s
  try lift_lets -underBinder
  repeat' first
    | with_reducible assumption
    | with_reducible refine Within.ite ?_ ?_
    | with_reducible refine (modLink_within _ _ _).step ?_ rfl
    | with_reducible refine (setLink_within _ _ _).step ?_ rfl
    | with_reducible refine Within.foldl _ ?_ ?_
    | (intro (x : State); refine Within.cut (x := x) (m := 0x40160008000C) (s := s) ?_ (fun hx => ?_); unfold x)
    | intro x
    | lift_lets -underBinder
    | split
    | exact rfl
    | (split <;> rfl)
    | clear_value *

theorem execLinkIdentDone_within (n : Nat) (s : State) :
    ∃ t, execLinkIdentDone n s = .next t ∧ Within 0x40160008000E s t := by
  refine ⟨_, rfl, ?_⟩
  have h0 := Within.refl 0x40160008000E s
  try lift_lets -underBinder
  repeat' first
    | with_reducible assumption
    | with_reducible refine Within.ite ?_ ?_
    | with_reducible refine (sendOffer_within _ _).step ?_ rfl
    | with_reducible refine (modLink_within _ _ _).step ?_ rfl
    | with_reducible refine (setLink_within _ _ _).step ?_ rfl
    | with_reducible refine Within.foldl _ ?_ ?_
    | (intro (x : State); refine Within.cut (x := x) (m := 0x40160008000E) (s := s) ?_ (fun hx => ?_); unfold x)
    | intro x
    | lift_lets -underBinder
    | split
    | exact rfl
    | (split <;> rfl)
    | clear_value *

theorem mgmtTake_within (s : State) (n type : Nat) :
    Within 0x8 s (State.mgmtTake s n type).2 := by
  have h0 := Within.refl 0x8 s
  unfold State.mgmtTake
  try lift_lets -underBinder
  repeat' first
    | with_reducible assumption
    | with_reducible refine Within.ite ?_ ?_
    | with_reducible refine Within.ite2 ?_ ?_
    | with_reducible refine (modLink_within _ _ _).step ?_ rfl
    | with_reducible refine Within.foldl _ ?_ ?_
    | with_reducible refine Within.foldl2 _ ?_ ?_
    | (intro (x : State); refine Within.cut (x := x) (m := 0x8) (s := s) ?_ (fun hx => ?_); unfold x)
    | intro x
    | lift_lets -underBinder
    | split
    | exact rfl
    | (split <;> rfl)
    | clear_value *

theorem execKeyResponseReceive_within (n : Nat) (s : State) :
    ∃ t, execKeyResponseReceive n s = .next t ∧ Within 0x8 s t := by
  refine ⟨_, rfl, ?_⟩
  have h0 := Within.refl 0x8 s
  try lift_lets -underBinder
  repeat' first
    | with_reducible assumption
    | with_reducible refine Within.ite ?_ ?_
    | with_reducible refine Within.ite2 ?_ ?_
    | with_reducible refine (mgmtTake_within _ _ _).step ?_ rfl
    | with_reducible refine (modLink_within _ _ _).step ?_ rfl
    | with_reducible refine (mgmtAnswered_within _ _).step ?_ rfl
    | with_reducible refine Within.foldl _ ?_ ?_
    | with_reducible refine Within.foldl2 _ ?_ ?_
    | (intro (x : State); refine Within.cut (x := x) (m := 0x8) (s := s) ?_ (fun hx => ?_); unfold x)
    | intro x
    | lift_lets -underBinder
    | split
    | exact rfl
    | (split <;> rfl)
    | clear_value *

theorem execKeyingVerifyDone_within (n : Nat) (_fp _sig : Computed) (s : State) :
    ∃ t, execKeyingVerifyDone n _fp _sig s = .next t ∧ Within 0x40060008000C s t := by
  refine ⟨_, rfl, ?_⟩
  have h0 := Within.refl 0x40060008000C s
  try lift_lets -underBinder
  repeat' first
    | with_reducible assumption
    | with_reducible refine Within.ite ?_ ?_
    | with_reducible refine (keyingFail_within _ _ _).step ?_ rfl
    | with_reducible refine (modLink_within _ _ _).step ?_ rfl
    | with_reducible refine Within.set 2 ?_ ?_ rfl
    | with_reducible refine (sendMgmt_within _ _ _ _ _).step ?_ rfl
    | with_reducible refine Within.foldl _ ?_ ?_
    | (intro (x : State); refine Within.cut (x := x) (m := 0x40060008000C) (s := s) ?_ (fun hx => ?_); unfold x)
    | intro x
    | lift_lets -underBinder
    | split
    | exact rfl
    | (split <;> rfl)
    | clear_value *

theorem execKeyConfirmAckReceive_within (n : Nat) (_tag : Computed) (s : State) :
    ∃ t, execKeyConfirmAckReceive n _tag s = .next t ∧ Within 0x40160008000C s t := by
  refine ⟨_, rfl, ?_⟩
  have h0 := Within.refl 0x40160008000C s
  try lift_lets -underBinder
  repeat' first
    | with_reducible assumption
    | with_reducible refine Within.ite ?_ ?_
    | with_reducible refine Within.ite2 ?_ ?_
    | with_reducible refine (mgmtTake_within _ _ _).step ?_ rfl
    | with_reducible refine (modLink_within _ _ _).step ?_ rfl
    | with_reducible refine (mgmtAnswered_within _ _).step ?_ rfl
    | with_reducible refine (sendConfig_within _ _).step ?_ rfl
    | with_reducible refine (quarantine_within _ _ _).step ?_ rfl
    | with_reducible refine Within.foldl _ ?_ ?_
    | with_reducible refine Within.foldl2 _ ?_ ?_
    | (intro (x : State); refine Within.cut (x := x) (m := 0x40160008000C) (s := s) ?_ (fun hx => ?_); unfold x)
    | intro x
    | lift_lets -underBinder
    | split
    | exact rfl
    | (split <;> rfl)
    | clear_value *

theorem execConfigAckReceive_within (n : Nat) (_tag : Computed) (s : State) :
    ∃ t, execConfigAckReceive n _tag s = .next t ∧ Within 0x40160008000C s t := by
  refine ⟨_, rfl, ?_⟩
  have h0 := Within.refl 0x40160008000C s
  try lift_lets -underBinder
  repeat' first
    | with_reducible assumption
    | with_reducible refine Within.ite ?_ ?_
    | with_reducible refine Within.ite2 ?_ ?_
    | with_reducible refine (mgmtTake_within _ _ _).step ?_ rfl
    | with_reducible refine (modLink_within _ _ _).step ?_ rfl
    | with_reducible refine (mgmtAnswered_within _ _).step ?_ rfl
    | with_reducible refine (commitRecord_within _ _).step ?_ rfl
    | with_reducible refine (quarantine_within _ _ _).step ?_ rfl
    | with_reducible refine Within.foldl _ ?_ ?_
    | with_reducible refine Within.foldl2 _ ?_ ?_
    | (intro (x : State); refine Within.cut (x := x) (m := 0x40160008000C) (s := s) ?_ (fun hx => ?_); unfold x)
    | intro x
    | lift_lets -underBinder
    | split
    | exact rfl
    | (split <;> rfl)
    | clear_value *

theorem execLinkRecordCommitted_within (n : Nat) (s : State) :
    ∃ t, execLinkRecordCommitted n s = .next t ∧ Within 0x50360008817C s t := by
  refine ⟨_, rfl, ?_⟩
  have h0 := Within.refl 0x50360008817C s
  try lift_lets -underBinder
  repeat' first
    | with_reducible assumption
    | with_reducible refine Within.ite ?_ ?_
    | with_reducible refine (modHay_within _ _ ?_).step ?_ rfl
    | exact fun _ => rfl
    | with_reducible refine (recDurable_within _ _ _).step ?_ rfl
    | with_reducible refine Within.foldl _ ?_ ?_
    | (intro (x : State); refine Within.cut (x := x) (m := 0x50360008817C) (s := s) ?_ (fun hx => ?_); unfold x)
    | intro x
    | lift_lets -underBinder
    | split
    | exact rfl
    | (split <;> rfl)
    | clear_value *

theorem execMgmtRetryTimeout_within (n : Nat) (s : State) :
    ∃ t, execMgmtRetryTimeout n s = .next t ∧ Within 0x40160008000C s t := by
  refine ⟨_, rfl, ?_⟩
  have h0 := Within.refl 0x40160008000C s
  try lift_lets -underBinder
  repeat' first
    | with_reducible assumption
    | with_reducible refine Within.ite ?_ ?_
    | with_reducible refine (modLink_within _ _ _).step ?_ rfl
    | with_reducible refine (tunSend_within _ _ _ _).step ?_ rfl
    | with_reducible refine (keyingFail_within _ _ _).step ?_ rfl
    | with_reducible refine (toTraining_within _ _).step ?_ rfl
    | with_reducible refine Within.foldl _ ?_ ?_
    | (intro (x : State); refine Within.cut (x := x) (m := 0x40160008000C) (s := s) ?_ (fun hx => ?_); unfold x)
    | intro x
    | lift_lets -underBinder
    | split
    | exact rfl
    | (split <;> rfl)
    | clear_value *

theorem execKeyingRetryTimer_within (n : Nat) (s : State) :
    ∃ t, execKeyingRetryTimer n s = .next t ∧ Within 0xA s t := by
  refine ⟨_, rfl, ?_⟩
  have h0 := Within.refl 0xA s
  try lift_lets -underBinder
  repeat' first
    | with_reducible assumption
    | with_reducible refine Within.ite ?_ ?_
    | with_reducible refine (sendOffer_within _ _).step ?_ rfl
    | with_reducible refine (modLink_within _ _ _).step ?_ rfl
    | with_reducible refine Within.foldl _ ?_ ?_
    | (intro (x : State); refine Within.cut (x := x) (m := 0xA) (s := s) ?_ (fun hx => ?_); unfold x)
    | intro x
    | lift_lets -underBinder
    | split
    | exact rfl
    | (split <;> rfl)
    | clear_value *

theorem execRekeyTimer_within (n : Nat) (s : State) :
    ∃ t, execRekeyTimer n s = .next t ∧ Within 0xA s t := by
  refine ⟨_, rfl, ?_⟩
  have h0 := Within.refl 0xA s
  try lift_lets -underBinder
  repeat' first
    | with_reducible assumption
    | with_reducible refine Within.ite ?_ ?_
    | with_reducible refine (sendOffer_within _ _).step ?_ rfl
    | with_reducible refine (modLink_within _ _ _).step ?_ rfl
    | with_reducible refine Within.foldl _ ?_ ?_
    | (intro (x : State); refine Within.cut (x := x) (m := 0xA) (s := s) ?_ (fun hx => ?_); unfold x)
    | intro x
    | lift_lets -underBinder
    | split
    | exact rfl
    | (split <;> rfl)
    | clear_value *

theorem execKeySwitch_within (n : Nat) (s : State) :
    ∃ t, execKeySwitch n s = .next t ∧ Within 0x40060008000C s t := by
  refine ⟨_, rfl, ?_⟩
  have h0 := Within.refl 0x40060008000C s
  try lift_lets -underBinder
  repeat' first
    | with_reducible assumption
    | with_reducible refine Within.ite ?_ ?_
    | with_reducible refine Within.set 2 ?_ ?_ rfl
    | with_reducible refine (modLink_within _ _ _).step ?_ rfl
    | with_reducible refine (keyingFail_within _ _ _).step ?_ rfl
    | with_reducible refine Within.foldl _ ?_ ?_
    | (intro (x : State); refine Within.cut (x := x) (m := 0x40060008000C) (s := s) ?_ (fun hx => ?_); unfold x)
    | intro x
    | lift_lets -underBinder
    | split
    | exact rfl
    | (split <;> rfl)
    | clear_value *

theorem execStallConfig_within (p tag : Nat) (s : State) :
    ∃ t, execStallConfig p tag s = .next t ∧ Within 0x40960008004C s t := by
  refine ⟨_, rfl, ?_⟩
  have h0 := Within.refl 0x40960008004C s
  try lift_lets -underBinder
  repeat' first
    | with_reducible assumption
    | with_reducible refine Within.ite ?_ ?_
    | with_reducible refine take_within ?_ ?_ rfl
    | with_reducible refine (finish_within _ _ _ _ _ _).step ?_ rfl
    | with_reducible refine (modRec_within _ _ _).step ?_ rfl
    | with_reducible refine Within.set 2 ?_ ?_ rfl
    | with_reducible refine (sendConfig_within _ _).step ?_ rfl
    | with_reducible refine (quarantineExit_within _ _).step ?_ rfl
    | with_reducible refine Within.foldl _ ?_ ?_
    | (intro (x : State); refine Within.cut (x := x) (m := 0x40960008004C) (s := s) ?_ (fun hx => ?_); unfold x)
    | intro x
    | lift_lets -underBinder
    | split
    | exact rfl
    | (split <;> rfl)
    | clear_value *

theorem execSealAck_within (p tag : Nat) (s : State) :
    ∃ t, execSealAck p tag s = .next t ∧ Within 0x608200080006 s t := by
  refine ⟨_, rfl, ?_⟩
  have h0 := Within.refl 0x608200080006 s
  try lift_lets -underBinder
  repeat' first
    | with_reducible assumption
    | with_reducible refine Within.ite ?_ ?_
    | with_reducible refine Within.ite2 ?_ ?_
    | with_reducible refine take_within ?_ ?_ rfl
    | with_reducible refine (finish_within _ _ _ _ _ _).step ?_ rfl
    | with_reducible refine (logChange_within _ _ _ _ _ _).step ?_ rfl
    | with_reducible refine Within.foldl _ ?_ ?_
    | with_reducible refine Within.foldl2 _ ?_ ?_
    | (intro (x : State); refine Within.cut (x := x) (m := 0x608200080006) (s := s) ?_ (fun hx => ?_); unfold x)
    | intro x
    | lift_lets -underBinder
    | split
    | exact rfl
    | (split <;> rfl)
    | clear_value *

theorem execLinkRetrain_within (p tag : Nat) (s : State) :
    ∃ t, execLinkRetrain p tag s = .next t ∧ Within 0x51960008003C s t := by
  refine ⟨_, rfl, ?_⟩
  have h0 := Within.refl 0x51960008003C s
  try lift_lets -underBinder
  repeat' first
    | with_reducible assumption
    | with_reducible refine Within.ite ?_ ?_
    | with_reducible refine take_within ?_ ?_ rfl
    | with_reducible refine (finish_within _ _ _ _ _ _).step ?_ rfl
    | with_reducible refine (modLink_within _ _ _).step ?_ rfl
    | with_reducible refine (stopStall_within _ _ _ _).step ?_ rfl
    | with_reducible refine (toTraining_within _ _).step ?_ rfl
    | with_reducible refine Within.foldl _ ?_ ?_
    | (intro (x : State); refine Within.cut (x := x) (m := 0x51960008003C) (s := s) ?_ (fun hx => ?_); unfold x)
    | intro x
    | lift_lets -underBinder
    | split
    | exact rfl
    | (split <;> rfl)
    | clear_value *

theorem execLinkDisable_within (p tag : Nat) (s : State) :
    ∃ t, execLinkDisable p tag s = .next t ∧ Within 0x51960008003C s t := by
  refine ⟨_, rfl, ?_⟩
  have h0 := Within.refl 0x51960008003C s
  try lift_lets -underBinder
  repeat' first
    | with_reducible assumption
    | with_reducible refine Within.ite ?_ ?_
    | with_reducible refine take_within ?_ ?_ rfl
    | with_reducible refine (modLink_within _ _ _).step ?_ rfl
    | with_reducible refine (stopStall_within _ _ _ _).step ?_ rfl
    | with_reducible refine (toTraining_within _ _).step ?_ rfl
    | with_reducible refine Within.foldl _ ?_ ?_
    | (intro (x : State); refine Within.cut (x := x) (m := 0x51960008003C) (s := s) ?_ (fun hx => ?_); unfold x)
    | intro x
    | lift_lets -underBinder
    | split
    | exact rfl
    | (split <;> rfl)
    | clear_value *

theorem execLinkRetrainTimeout_within (n : Nat) (s : State) :
    ∃ t, execLinkRetrainTimeout n s = .next t ∧ Within 0x40020008000C s t := by
  refine ⟨_, rfl, ?_⟩
  have h0 := Within.refl 0x40020008000C s
  try lift_lets -underBinder
  repeat' first
    | with_reducible assumption
    | with_reducible refine Within.ite ?_ ?_
    | with_reducible refine (finish_within _ _ _ _ _ _).step ?_ rfl
    | with_reducible refine (modLink_within _ _ _).step ?_ rfl
    | with_reducible refine Within.foldl _ ?_ ?_
    | (intro (x : State); refine Within.cut (x := x) (m := 0x40020008000C) (s := s) ?_ (fun hx => ?_); unfold x)
    | intro x
    | lift_lets -underBinder
    | split
    | exact rfl
    | (split <;> rfl)
    | clear_value *

end Sys2Proof.Laws
end

