-- ==== Sys2Proof/Machine/Coincide.lean ====
section
/-!
DEFINITION. Coinciding events (R561): commands latched in one link cycle, or due at one link-cycle start or allocation boundary, enter the
queue in the rank order of the rule's table. Which table row a command belongs to, and that unranked commands follow the ranked ones in
the order given, is the model's choice (log 137).
-/
namespace Sys2Proof.Machine

/-- The rank of the event a command stands for (R561). Chapters give no rank to the rest. -/
def rank : Instr → Option Nat
  -- Cold causes (PWR)
  | .vauxBelowReset .. | .railUndervoltage .. | .thermalShutdown .. => some 1
  -- HALT_SAFE, emergency and orderly stops (HLT)
  | .linkLostEntry .. | .modeTimeout .. | .contactorCloseTimeout .. | .ffLostTimeout .. | .phaseDegradedLimit .. | .estopChannelOpen ..
  | .estopDiscrepancyTimeout .. | .estopLoopClose .. | .estopResetPulse .. | .estopRearmTimeout .. | .estopInputTest ..
  | .safeOutReadbackFault .. | .edmMismatch .. | .halterOscCheck .. | .halterChannelMismatch .. | .halterSupplyFail ..
  | .halterSampleTrip .. | .sustainedOverTimeout .. | .stopPermitWithdrawal .. | .stopEnd .. | .contactorWeldTimeout ..
  | .sensorLossTimeout .. | .sensorDegradedLimit .. => some 2
  -- the edge latch, two-step offs, switch and output protections (SLK, HRN, LSW, AUX)
  | .edgeBlockLatch .. | .twoStepComplete .. | .bothOnRejection .. | .bootstrapUndervoltage .. | .harnessOvercurrent .. | .desatTrip ..
  | .vmotOvervoltage .. | .vmotUndervoltage .. | .auxShortDetect .. | .auxOvervoltage .. | .auxOvBrake .. | .auxVinUndervoltage ..
  | .auxPgoodLoss .. | .lswClamp .. | .lswInrushTrip .. | .lswOvercurrentTrip .. | .lswGroupOt .. | .lswGroupUv .. | .lswOpenLoad ..
  | .lswShortSupply .. => some 3
  -- supply state changes (PWR)
  | .vauxBelowWarn .. | .vauxBelowCommit .. | .vauxRecovery .. => some 4
  -- the Device reset (PWR, GLB)
  | .resetNAssert .. | .deviceResetEffect .. => some 5
  -- boundary steps (WBG, BIL)
  | .billingBoundary .. | .sessionMeteringOpen .. | .sessionMeteringClose .. | .tariffFreezeEnd .. | .friendlyWindowEnd .. => some 6
  -- cabinet states, emergency re-solves, throttles (YMS)
  | .emergencyResolveComplete .. | .emergencyResolveFallback .. | .emergencyRampStep .. | .cabinetSilenceTimeout ..
  | .cabinetEnableTimeout .. | .cabinetDrainEnd .. | .throttleGraceExpiry .. => some 7
  -- lane loss, takeover and planned handover (GLB)
  | .laneHeartbeatTimeout .. | .laneFaultReport .. | .laneTakeoverComplete .. | .revertHoldoffExpiry .. | .handoverDrainEnd ..
  | .handoverAckTimeout .. | .noStandbyLimit .. | .fwStandbyVerified .. | .fwProbationExpiry .. | .fwOldLaneRebooted ..
  | .fwStepTimeout .. => some 8
  -- power states and the epoch switch (PWR, TCK)
  | .pwrWakeNow .. | .epochSwitchBoundary .. | .powerEntryCheck .. | .quietEntry .. | .hibernateEntry .. | .wakeEvent ..
  | .wakeTimer .. => some 9
  -- descriptor starts (PDK and the owning blocks)
  | .descriptorStart .. | .nop .. | .laneHandover .. | .fwActivate .. | .charterLoad .. | .stallConfig .. | .sealAck .. | .linkRetrain ..
  | .linkDisable .. | .stallPolicy .. | .cabinetEnable .. | .cabinetRetire .. | .nodeLimit .. | .allocQuery .. | .stallStop ..
  | .loopTune .. | .calApply .. | .checkpointNow .. | .pulseInputMode .. | .timeSet .. | .readingTake .. | .recordFetch ..
  | .prepayCredit .. | .prepayDebit .. | .prepayQuery .. | .sessionAuthorize .. | .sessionStop .. | .sessionQuery .. | .tunnelSend ..
  | .allowLookup .. | .bridgeSet .. | .coolingSet .. | .hrnFaultClear .. | .auxSet .. | .lswSet .. | .lswFaultClear .. | .canSend ..
  | .canRecover .. | .safetyProofTest .. | .serviceClear .. | .imageStage .. | .epochSwitch .. | .changeWindowOpen ..
  | .changeWindowClose .. | .sign .. | .keyGenerate .. | .attest .. | .lifecycleSet .. | .hostRead .. | .hostWrite .. | .logFetch ..
  | .powerState .. | .deviceReset .. | .outputAdopt .. | .telemetryRead .. | .checkJob .. => some 10
  -- no rank
  | .doorbellPoll .. | .interruptCoalesceTimeout .. | .ringDmaError .. | .ringEnableWrite .. | .ringDisableWrite .. | .pdkNudge ..
  | .paddockFlr .. | .portPerst .. | .bar0UnsupportedAccess .. | .offDomainRegisterAccess .. | .registerWrite .. | .rwpRegisterWrite ..
  | .lockRegisterWrite .. | .glbLockAllWrite .. | .wideLoRead .. | .gpioSetWrite .. | .gpioClearWrite .. | .laneResetWrite ..
  | .laneReadmitWrite .. | .auxEnableClearWrite .. | .lswEnableClearWrite .. | .canModeWrite .. | .cvuConfigWrite ..
  | .cvuAliveCfgWrite .. | .droRxEnableWrite .. | .canRxEnableWrite .. | .canRxRingDelivery .. | .powerOnResetRelease ..
  | .bootRunReached .. | .thermalShutdownExit .. | .holdWindowExpiry .. | .lswReleaseStep .. | .auxReleaseDelayExpiry ..
  | .laneRequestSlotWrite .. | .laneModeRequest .. | .laneSessionBind .. | .laneHeartbeat .. | .laneRebootReady ..
  | .tetherSnapshotAck .. | .linkCycleStart .. | .walkerPeriodCompute .. | .uplinkFrameReceive .. | .linkLostRecover ..
  | .linkLostTimeout .. | .linkTrainLock .. | .linkMeasureDone .. | .linkTrimEchoed .. | .linkStep3Done .. | .linkIdentDone ..
  | .keyResponseReceive .. | .keyingVerifyDone .. | .keyConfirmAckReceive .. | .configAckReceive .. | .linkRecordCommitted ..
  | .mgmtRetryTimeout .. | .keyingRetryTimer .. | .rekeyTimer .. | .keySwitch .. | .weighbridgeMsCommit .. | .allocationBoundary ..
  | .solveComplete .. | .solveDeadlineExpiry .. | .housekeepingRound .. | .legalTickAdvance .. | .timeSlewEnd ..
  | .checkpointStoreStart .. | .finalStoreStart .. | .storeComplete .. | .pulseOutputStart .. | .s0InputEdge .. | .pulseCompareTimeout ..
  | .readingSign .. | .tamperEdge .. | .phaseLost .. | .sensorLockoutRelease .. | .proofTestDue .. | .troughEvaluation ..
  | .coolantFlowLow .. | .coolantFlowRelease .. | .hallEdge .. | .hallInvalidTimeout .. | .rotorStallTimeout .. | .directInputEdge ..
  | .bootstrapRefreshTimer .. | .vmotUvRecovery .. | .chopperOn .. | .chopperOff .. | .chopOverloadTimeout .. | .auxStartTestEnd ..
  | .auxTargetReached .. | .auxRampOffEnd .. | .auxHiccupRestart .. | .auxBrakeEnd .. | .auxVinRecovery .. | .auxSetTimeout ..
  | .lsinEdge .. | .lswInrushWindowEnd .. | .lswGroupUvRecovery .. | .lswGroupDisturbEnd .. | .lswSetUvTimeout .. | .canFrameReceive ..
  | .canFrameAcknowledged .. | .canArbitrationLoss .. | .canTxTimeout .. | .canErrorStateChange .. | .canRecoveryDone ..
  | .canRecoverTimeout .. | .canRateDetectResult .. | .canRateDetectTimeout .. | .droMessageReceive .. | .droTimerExpiry ..
  | .droStallResult .. | .authLookupDone .. | .authHostTimeout .. | .lingerExpiry .. | .tcpRetransmitTimeout .. | .allowMergeLeaf ..
  | .changeWindowExpiry .. | .windowLockoutEnd .. | .serviceUnlock .. | .holdupMeasurementStart .. | .holdupMeasurementEnd ..
  | .holdupWeak .. | .nandMigration .. | .nandScrub .. | .nandProgramFail .. | .wearLevelMove .. | .wakeReplay .. | .ppsEdge ..
  | .ppsAbsenceTimeout .. | .resetNRelease .. | .linkRetrainTimeout .. | .stallStopTimeout .. | .bridgeRampEnd .. | .lswCurrentSample ..
  | .pulseOutputEnd .. | .holdupWaitTimeout .. | .safetyProofTestEnd .. | .timeSetAtChronobase .. => none

/-- The place a rank takes: the lowest first, unranked commands last. -/
def rankKey (i : Instr) : Nat := (rank i).getD 11

/-- Put `i` before the first command of a higher rank, so after the commands of its own rank. -/
def insRank (i : Instr) : List Instr → List Instr
  | [] => [i]
  | x :: l => if rankKey i < rankKey x then i :: x :: l else x :: insRank i l

/-- Commands that coincide, in the order they are applied (R561): rank order, and the order given within one rank. -/
def inRank (l : List Instr) : List Instr := l.foldl (fun acc i => insRank i acc) []

/-- The senders' commands that coincide enter the queue together, behind what waits. -/
def State.coincide (l : List Instr) (s : State) : State := { s with pending := s.pending ++ inRank l }

end Sys2Proof.Machine
end

