-- ==== Sys2Proof/Tests/Base.lean ====
section
/-!
SUPPORT. Small states for the tests: the device in RUN, with descriptors in a paddock's table.
-/
namespace Sys2Proof.Tests

open Sys2Proof.Machine

/-- The device in RUN: every domain on, hold-up charge and spare blocks left, every right in paddocks 0 and 1. -/
def R0 : State :=
  let s := State.reset
  let s : State := { s with pwr := { s.pwr with cold := false }, lan := { s.lan with control := true }, chrono := 1000000 }
  let s := ((s.set F.GLB_BOOT_STATUS_PHASE 8).set F.GLB_BOOT_STATUS_HISTORY 0x1FF).set F.PWR_DOMAINS 0xFFFF
  let s := (((s.set F.HAY_SPARE_INITIAL 100).set F.HAY_SPARE_NOW 100).set F.HAY_HOLDUP_C 65535).set F.HAY_HOLDUP_E_VHOLD 65535
  [0, 1].foldl (fun s p => ((((s.setB (F.PDK_RIGHTS_OPERATE p) true).setB (F.PDK_RIGHTS_BILL p) true).setB (F.PDK_RIGHTS_SERVICE p)
    true).setB (F.PDK_RIGHTS_OBSERVE p) true).setB (F.PDK_RIGHTS_SAFETY_ADMIN p) true) (s.setB F.HAY_STATUS_CAL_VALID true)

/-- PARAM with the given fields, as (descriptor byte, size, value). -/
def prm (l : List (Nat × Nat × Nat)) : List Nat :=
  l.foldl (fun a x => (List.range x.2.1).foldl (fun a i => a.set (x.1 - 24 + i) (x.2.2 / 256 ^ i % 256)) a) (List.replicate 40 0)

/-- A waiting descriptor. -/
def mkD (num tag opcode target : Nat) (param : List Nat := List.replicate 40 0) (length : Nat := 0) : Desc :=
  { sq := 0, num := num, ord := num, opcode := opcode, flags := 0, prio := 0, tag := tag, target := target, epoch := 0, length := length
    bufaddr := 0x1000, param := param, phase := .queued, dep := none, depOk := none, retried := false, started := true, aux := num, at_ := 0 }

def noDesc : Desc := mkD 0 0 0 0

/-- The descriptor with this TAG; the unfinished one with this number. -/
def dOf (s : State) (p tag : Nat) : Desc := (s.desc? p tag).getD noDesc
def wOf (s : State) (p num : Nat) : Desc :=
  ((s.pd p).table.find? fun x => decide (x.num = num ∧ x.phase ≠ DescPhase.finished)).getD noDesc

end Sys2Proof.Tests

namespace Sys2Proof.Machine

/-- `s` with descriptors in paddock `p`'s table. -/
def State.withD (s : State) (p : Nat) (ds : List Desc) : State :=
  s.modPd p fun x => { x with table := x.table ++ ds, nextNum := 100 }

/-- `s` with one descriptor, TAG 7 and number 3, in paddock 0. -/
def State.cmd (s : State) (opcode target : Nat) (l : List (Nat × Nat × Nat) := []) (length : Nat := 0) : State :=
  s.withD 0 [Sys2Proof.Tests.mkD 3 7 opcode target (Sys2Proof.Tests.prm l) length]

/-- `s` with event ring and completion ring 0 of paddock 0 enabled. -/
def State.rings (s : State) : State :=
  let s := (s.setB (F.PDK_CQj_CFG_ENABLE 0 0) true).set (F.PDK_CQj_CFG_SIZE_LOG2 0 0) 6
  (((s.setB (F.PDK_EQ_CFG_ENABLE 0) true).set (F.PDK_EQ_CFG_SIZE_LOG2 0) 6).set (F.PDK_EVT_BLOCK_MASK 0) 0x1FFFF).set
    (F.PDK_EVT_CFG_MIN_SEVERITY 0) 0

end Sys2Proof.Machine

namespace Sys2Proof.Tests

open Sys2Proof.Machine

/-! Records with every field zero. -/

def ty0 : StallType :=
  { topology := 0, phases := 0, period := 0, dt := 0, minPulse := 0, maxDuty := 0, twoStep := 0, iRated := 0, vRated := 0, iPhMax := 0
    phArm := 0, iPre := 0, ccTimeout := 0, preTimeout := 0, kpI := 0, kiI := 0, kpV := 0, kiV := 0, kb := 0, vm := 0, xiLim := 0 }
def curve0 : Curve :=
  { flowTrim := false, iPts := [], tPts := [], tInput := 0, flowMax := 0, pumpMin := 0, pumpMax := 0, fsPump := 0, fsValve := 0
    valveOn := 0, valveIdle := 0, trimStep := 0, lowPct := 0, lowS := 0, flowCeil := 0 }
def sample0 : Sample := { valid := false, v := 0, i := 0, iph := [] }
def node0 : TreeNode :=
  { kind := 0, index := 0, parent := 0, imp := 0, exp := 0, loss := 0, cabMask := 0, reportMs := 0, iLim := 0, tier := 0, weight := 0
    floor := 0, cap := 0, rampUp := 0, rampDown := 0, derate := 0 }
def fstall0 : FStall :=
  { stall := 0, node := 0, active := false, discharge := false, dem := 0, floor := 0, vEst := 0, tier := 0, weight := 0, rampUp := 0
    rampDown := 0, ceil := 0, throttled := false, derated := false }
def fwRun0 : FwRun := { p := 0, num := 0, prob := 0, slot := 0, acks := 0 }
def handover0 : Handover := { why := 0, desc := none, phase := 0, at_ := 0 }
def entry0 : PowerEntry := { p := 0, num := 0, target := 0, wake := 0, checked := false, begun := false }
def emerg0 : Emerg := { node := 0, cause := 0, next := [] }
def opRow0 : OpRow := { code := 0, right := none, re := .n, target := .none, domain := 0 }
def row0 : RegRow := { off := 0, hi := none, stride := 0, n := 0, fields := [] }

end Sys2Proof.Tests
end

