-- ==== Sys2Proof/Tests/WHost.lean ====
section
/-!
SUPPORT. Witnesses: states and operands that meet the hypotheses of the statements about the host interface. Each
docstring lists, for the clauses of the statement in order, the state that meets the hypotheses of each; the theorem says that it does.
-/
namespace Sys2Proof.Tests.WHost

open Sys2Proof.Machine
set_option maxRecDepth 100000
set_option Elab.async false

def ringOn (s : State) (p r : Nat) : State := if r < 8 then (s.setB (F.PDK_SQi_CFG_ENABLE p r) true).set (F.PDK_SQi_CFG_SIZE_LOG2 p r) 4
  else if r < 12 then (s.setB (F.PDK_CQj_CFG_ENABLE p (r-8)) true).set (F.PDK_CQj_CFG_SIZE_LOG2 p (r-8)) 4
  else (s.setB (F.PDK_EQ_CFG_ENABLE p) true).set (F.PDK_EQ_CFG_SIZE_LOG2 p) 4

namespace DoorbellTaken

def s_1 : State := ringOn (ringOn (ringOn R0 0 0) 0 12) 0 8

def s_2 : State := ((ringOn R0 3 7).setB F.DRO_RX_CFG_ENABLE true).set F.DRO_RX_CFG_OWNER 3

/-- DoorbellTaken by clause: s_1, s_2. -/
theorem wit_DoorbellTaken :
    (∀ s ∈ [s_1, s_2], s.pdk.length = 4) ∧
    ((s_1.pd 0).rings.length = 15) ∧
    (∀ s ∈ [s_1, s_2], s.inRun = true) ∧
    (∀ s ∈ [s_1, s_2], s.domainOn 4 = true) ∧
    ({ ring := 0, index := 0, seq := 0 : Doorbell }.ring < 15) ∧
    (s_1.ringEnabled 0 { ring := 0, index := 0, seq := 0 : Doorbell }.ring = true) ∧
    (((s_1.pd 0).ring { ring := 0, index := 0, seq := 0 : Doorbell }.ring).stopped = false) ∧
    (Instr.doorbellPoll 0 [{ ring := 0, index := 0, seq := 0 : Doorbell }] [] ∈ [Instr.doorbellPoll 0 [{ ring := 0, index := 0, seq := 0 : Doorbell }]
      []] ++ if { ring := 0, index := 0, seq := 0 : Doorbell }.ring < 13 ∧ bitOf 4097 { ring := 0, index := 0, seq := 0 : Doorbell }.ring
      = true then [Instr.pdkNudge 0 4097 [{ ring := 0, index := 0, seq := 0 : Doorbell }] []] else []) ∧
    ({ ring := 0, index := 0, seq := 0 : Doorbell }.seq = ((s_1.pd 0).ring { ring := 0, index := 0, seq := 0 : Doorbell }.ring).hostSeq) ∧
    ((s_2.pd 3).rings.length = 15) ∧
    ({ ring := 7, index := 3, seq := 9 : Doorbell }.ring < 15) ∧
    (s_2.ringEnabled 3 { ring := 7, index := 3, seq := 9 : Doorbell }.ring = true) ∧
    (((s_2.pd 3).ring { ring := 7, index := 3, seq := 9 : Doorbell }.ring).stopped = false) ∧
    (Instr.doorbellPoll 3 [{ ring := 7, index := 3, seq := 9 : Doorbell }] [] ∈ [Instr.doorbellPoll 3 [{ ring := 7, index := 3, seq := 9 : Doorbell }]
      []] ++ if { ring := 7, index := 3, seq := 9 : Doorbell }.ring < 13 ∧ bitOf 4097 { ring := 7, index := 3, seq := 9 : Doorbell }.ring
      = true then [Instr.pdkNudge 3 4097 [{ ring := 7, index := 3, seq := 9 : Doorbell }] []] else []) ∧
    ({ ring := 7, index := 3, seq := 9 : Doorbell }.seq ≠ ((s_2.pd 3).ring { ring := 7, index := 3, seq := 9 : Doorbell }.ring).hostSeq) := by
  and_intros <;> decide +kernel

end DoorbellTaken

namespace FetchChecksInOrder

def s_1 : State := R0

def s_2 : State := R0.set F.PWR_DOMAINS 0xFEFF

def s_3 : State := R0.cmd 1 0

def z (d : Desc) : Desc := { d with bufaddr := 0 }

def badFlags : Desc := { mkD 1 7 1 0 with flags := 16 }

/-- FetchChecksInOrder by clause: s_1, s_1, s_3, s_1, s_1, s_2, s_1. -/
theorem wit_FetchChecksInOrder :
    (opRow? (mkD 1 7 30583 0).opcode = none) ∧
    (opRow? badFlags.opcode = some ((opRow? badFlags.opcode).getD opRow0)) ∧
    (¬(badFlags.flags < 16 ∧ badFlags.prio < 4 ∧ badFlags.bufOk = true ∧ s_1.paramOk badFlags = true)) ∧
    (opRow? (z (mkD 1 7 1 65535)).opcode = some ((opRow? (z (mkD 1 7 1 65535)).opcode).getD opRow0)) ∧
    (∀ s ∈ [s_3, s_1], (z (mkD 1 7 1 65535)).flags < 16 ∧ (z (mkD 1 7 1 65535)).prio < 4 ∧ (z (mkD 1 7 1 65535)).bufOk = true ∧ s.paramOk (z
      (mkD 1 7 1 65535)) = true) ∧
    (¬∀ (x : Desc), x ∈ (s_3.pd 0).table → x.tag ≠ (z (mkD 1 7 1 65535)).tag) ∧
    (opRow? (z (mkD 1 7 515 0)).opcode = some ((opRow? (z (mkD 1 7 515 0)).opcode).getD opRow0)) ∧
    (∀ s ∈ [s_1, s_2], (z (mkD 1 7 515 0)).flags < 16 ∧ (z (mkD 1 7 515 0)).prio < 4 ∧ (z (mkD 1 7 515 0)).bufOk = true ∧ s.paramOk (z (mkD
      1 7 515 0)) = true) ∧
    (∀ (x : Desc), x ∈ (s_1.pd 3).table → x.tag ≠ (z (mkD 1 7 515 0)).tag) ∧
    (¬∀ (b : Nat), ((opRow? (z (mkD 1 7 515 0)).opcode).getD opRow0).right = some b → s_1.hasRight 3 b = true) ∧
    (opRow? (z (mkD 1 7 515 77)).opcode = some ((opRow? (z (mkD 1 7 515 77)).opcode).getD opRow0)) ∧
    ((z (mkD 1 7 515 77)).flags < 16 ∧ (z (mkD 1 7 515 77)).prio < 4 ∧ (z (mkD 1 7 515 77)).bufOk = true ∧ s_1.paramOk (z (mkD 1 7 515 77))
      = true) ∧
    (∀ (x : Desc), x ∈ (s_1.pd 0).table → x.tag ≠ (z (mkD 1 7 515 77)).tag) ∧
    (∀ (b : Nat), ((opRow? (z (mkD 1 7 515 77)).opcode).getD opRow0).right = some b → s_1.hasRight 0 b = true) ∧
    (¬(targetOk s_1.variant ((opRow? (z (mkD 1 7 515 77)).opcode).getD opRow0).target (z (mkD 1 7 515 77)).target = true ∧ s_1.handleBad (z
      (mkD 1 7 515 77)) = false)) ∧
    (∀ (x : Desc), x ∈ (s_2.pd 0).table → x.tag ≠ (z (mkD 1 7 515 0)).tag) ∧
    (∀ (b : Nat), ((opRow? (z (mkD 1 7 515 0)).opcode).getD opRow0).right = some b → s_2.hasRight 0 b = true) ∧
    (targetOk s_2.variant ((opRow? (z (mkD 1 7 515 0)).opcode).getD opRow0).target (z (mkD 1 7 515 0)).target = true ∧ s_2.handleBad (z (mkD
      1 7 515 0)) = false) ∧
    (¬s_2.domainOn ((opRow? (z (mkD 1 7 515 0)).opcode).getD opRow0).domain = true) ∧
    (∀ (x : Desc), x ∈ (s_1.pd 0).table → x.tag ≠ (z (mkD 1 7 1 65535)).tag) ∧
    (∀ (b : Nat), ((opRow? (z (mkD 1 7 1 65535)).opcode).getD opRow0).right = some b → s_1.hasRight 0 b = true) ∧
    (targetOk s_1.variant ((opRow? (z (mkD 1 7 1 65535)).opcode).getD opRow0).target (z (mkD 1 7 1 65535)).target = true ∧ s_1.handleBad (z
      (mkD 1 7 1 65535)) = false) ∧
    (s_1.domainOn ((opRow? (z (mkD 1 7 1 65535)).opcode).getD opRow0).domain = true) := by
  and_intros <;> decide +kernel

end FetchChecksInOrder

namespace FetchOneDescriptor

def s_2 : State := (ringOn R0 1 7).set (F.PDK_SQi_CONS 1 7) 0xFFFFFFFF |>.modPd 1 (fun d => d.modRing 7 fun r => { r with hostIdx := 0xFFFFFFFF })

/-- FetchOneDescriptor by clause: s_2. -/
theorem wit_FetchOneDescriptor :
    (s_2.pdk.length = 4) ∧
    ((s_2.pd 1).rings.length = 15) ∧
    (s_2.inRun = true) ∧
    (s_2.domainOn 4 = true) ∧
    (s_2.pwr.reset = false) ∧
    (s_2.ringEnabled 1 7 = true) ∧
    (((s_2.pd 1).ring 7).stopped = false) ∧
    ((s_2.pd 1).table = []) ∧
    (1 ≠ ((s_2.pd 1).ring 7).hostSeq) ∧
    (4 ≤ s_2.get (F.PDK_SQi_CFG_SIZE_LOG2 1 7)) ∧
    (s_2.get (F.PDK_SQi_CONS 1 7) < 2 ^ 32) ∧
    (∀ (j : Nat), j < 8 → j ≠ 7 → ((s_2.pd 1).ring j).hostIdx = s_2.get (F.PDK_SQi_CONS 1 j)) := by
  and_intros <;> decide +kernel

end FetchOneDescriptor

namespace DescriptorStart

def f (s : State) (d : Desc) : State := s.withD 0 [{ d with phase := .fetched }]

def s_2 : State := { f R0 (mkD 3 7 1 0xFFFF) with lan := { R0.lan with control := false } }

def s_3 : State := f R0 { mkD 3 7 1 0xFFFF with dep := some 2, depOk := some true }

def s_4 : State := f R0 { mkD 3 7 1 0xFFFF with dep := some 2, depOk := some false }

def s_5 : State := f R0 { mkD 3 7 1 0xFFFF with epoch := 9 }

def s_6 : State := R0.rings.cmd 1 0xFFFF

/-- DescriptorStart by clause: s_2, s_3, s_4, s_5, s_6. -/
theorem wit_DescriptorStart :
    (∀ s ∈ [s_2, s_3, s_4, s_5], List.find? (fun x => decide (x.tag = 7 ∧ x.phase = DescPhase.fetched)) (s.pd 0).table = some ((List.find?
      (fun x => decide (x.tag = 7 ∧ x.phase = DescPhase.fetched)) (s.pd 0).table).getD noDesc)) ∧
    (s_2.startsHeld = true) ∧
    (∀ s ∈ [s_3, s_4, s_5], s.startsHeld = false) ∧
    (∀ s ∈ [s_3, s_4, s_5], s.fenceDone 0 ((List.find? (fun x => decide (x.tag = 7 ∧ x.phase = DescPhase.fetched)) (s.pd 0).table).getD
      noDesc) = true) ∧
    (∀ s ∈ [s_3, s_5], ((List.find? (fun x => decide (x.tag = 7 ∧ x.phase = DescPhase.fetched)) (s.pd 0).table).getD noDesc).dep = none ∨
      ((List.find? (fun x => decide (x.tag = 7 ∧ x.phase = DescPhase.fetched)) (s.pd 0).table).getD noDesc).depOk = some true) ∧
    (((List.find? (fun x => decide (x.tag = 7 ∧ x.phase = DescPhase.fetched)) (s_3.pd 0).table).getD noDesc).epoch = 0 ∨ ((List.find? (fun x
      => decide (x.tag = 7 ∧ x.phase = DescPhase.fetched)) (s_3.pd 0).table).getD noDesc).epoch = s_3.get F.TCK_EPOCH) ∧
    (((List.find? (fun x => decide (x.tag = 7 ∧ x.phase = DescPhase.fetched)) (s_4.pd 0).table).getD noDesc).dep ≠ none) ∧
    (((List.find? (fun x => decide (x.tag = 7 ∧ x.phase = DescPhase.fetched)) (s_4.pd 0).table).getD noDesc).depOk = some false) ∧
    (((List.find? (fun x => decide (x.tag = 7 ∧ x.phase = DescPhase.fetched)) (s_5.pd 0).table).getD noDesc).epoch ≠ 0) ∧
    (((List.find? (fun x => decide (x.tag = 7 ∧ x.phase = DescPhase.fetched)) (s_5.pd 0).table).getD noDesc).epoch ≠ s_5.get F.TCK_EPOCH) ∧
    (s_6.Ready 0 7 1 (dOf s_6 0 7)) := by
  unfold State.Ready; and_intros <;> decide +kernel

end DescriptorStart

namespace RingEnable

def s_1 : State := R0

/-- RingEnable by clause: s_1, s_1. -/
theorem wit_RingEnable :
    (s_1.domainOn 4 = true) ∧
    (s_1.ringEnabled 0 0 = false) ∧
    (8 ≤ 0 → bitsOf 2147500032 27 24 ≠ 15) ∧
    (4 ≤ bitsOf 2147500032 15 12 ∧ bitsOf 2147500032 15 12 ≤ 12) ∧
    (8 ≤ 0 → bitsOf 2147495936 27 24 ≠ 15) ∧
    (bitsOf 2147495936 15 12 < 4 ∨ 12 < bitsOf 2147495936 15 12) := by
  and_intros <;> decide +kernel

end RingEnable

namespace RingDisable

def s_1 : State := ringOn (ringOn (ringOn R0 0 0) 0 12) 0 8

def s_2 : State := s_1.cmd 1 0

/-- RingDisable by clause: s_2, s_2. -/
theorem wit_RingDisable :
    (s_2.domainOn 4 = true) ∧
    (8 ≤ 0 → bitsOf 0 27 24 ≠ 15) ∧
    (bitsOf 251658240 27 24 = 15) := by
  and_intros <;> decide +kernel

end RingDisable

namespace RingEvents

def s_1 : State := (ringOn (ringOn (ringOn R0 0 0) 0 12) 0 8).modPd 0 fun d => (d.modRing 8 fun r => { r with unsig := 2 }).modRing 12 fun r => { r with unsig := 1 }

/-- RingEvents by clause: s_1, s_1. -/
theorem wit_RingEvents :
    (0 < s_1.pdk.length) ∧
    (0 < (s_1.pd 0).rings.length) ∧
    (s_1.ringEnabled 0 0 = true) ∧
    (8 < (s_1.pd 0).rings.length) ∧
    (((s_1.pd 0).ring 8).unsig ≠ 0) ∧
    (s_1.get (F.PDK_MSIX_CTRL 0 (s_1.vectorOf 0 8)) % 2 = 0) := by
  and_intros <;> decide +kernel

end RingEvents

namespace FunctionReset

def s_1 : State := (ringOn (ringOn (ringOn R0 0 0) 0 12) 0 8).cmd 1 0 |>.set (F.PDK_MSIX_CTRL 0 3) 1

/-- FunctionReset by clause: s_1. -/
theorem wit_FunctionReset :
    (s_1.pdk.length = 4) ∧
    (Instr.paddockFlr 0 ∈ [Instr.paddockFlr 0, Instr.portPerst 0]) := by
  and_intros <;> decide +kernel

end FunctionReset

namespace EventDelivery

def s_3 : State := (R0.rings.set (F.PDK_EQ_PROD 0) 64)

def s_4 : State := (R0.rings.set (F.PDK_EQ_PROD 0) 63)

/-- EventDelivery by clause: s_4, s_4, s_4, s_3, s_3, s_3, s_4. -/
theorem wit_EventDelivery :
    (∀ s ∈ [s_4, s_3], s.pdk.length = 4) ∧
    (∀ s ∈ [s_4, s_3], (s.pd 0).lostSince = 0) ∧
    (∀ s ∈ [s_4, s_3], s.dueTo 0 { code := 1283, sev := 0, src := 3, payload := [1, 2, 3] : Ev } = true) ∧
    (∀ s ∈ [s_4, s_3], s.flag (F.PDK_EQ_CFG_ENABLE 0) = true) ∧
    (s_4.eqRoom 0 = true) ∧
    (s_3.eqRoom 0 = false) ∧
    ((s_4.pd 1).lostSince = 0) ∧
    (s_4.dueTo 1 { code := 1283, sev := 0, src := 3, payload := [1, 2, 3] : Ev } = false ∨ s_4.flag (F.PDK_EQ_CFG_ENABLE 1) = false) := by
  and_intros <;> decide +kernel

end EventDelivery

end Sys2Proof.Tests.WHost
end

