-- ==== Sys2Proof/Tests/WMeter.lean ====
section
/-!
SUPPORT. Witnesses: states and operands that meet the hypotheses of the statements about the Weighbridge. Each
docstring lists, for the clauses of the statement in order, the state that meets the hypotheses of each; the theorem says that it does.
-/
namespace Sys2Proof.Tests.WMeter

open Sys2Proof.Machine
set_option maxRecDepth 100000
set_option Elab.async false

def wb (s : State) (f : Wbg → Wbg) : State := s.modWbg f

namespace EnergyConserved

def M0 : State := { R0 with chrono := 2500000 }

def s_1 : State := wb M0 fun w => { w with nextMs := 9 }

def st (s : State) : State := (s.setLink 2 Link.run).modLink 2 fun l => { l with status := 8, msPast := (List.range 100).map fun i => some [i, 20, 1, i, 3, 0, 8], mac := List.replicate 8 (some 7), keyPast := some (List.replicate 32 1), ident := { l.ident with vfs := 10000, ifs := 5000 } }

def s_2 : State := st s_1

/-- EnergyConserved by clause: s_2. -/
theorem wit_EnergyConserved :
    (s_2.metersOn = true) ∧
    (s_2.wbg.nextMs < s_2.chrono / 250000) := by
  and_intros <;> decide +kernel

end EnergyConserved

namespace Checkpoints

def b0 (s : State) : State := (wb ({ s with chrono := 250000 * 60000 }) fun w => { w with nextMs := 60000 }).set F.WBG_CKPT_CFG_PERIOD_MS 100

def s_1 : State := R0.cmd 0x502 0xFFFF

def s_2 : State := b0 R0

def s_3 : State := (b0 R0).set F.HAY_HOLDUP_E_VHOLD 0

def s_4 : State := (b0 R0).set F.PWR_STATE_SUPPLY 2

def s_5 : State := (s_3).set F.PWR_STATE_SUPPLY 2

def ck0 : Ckpt := { seq := 1, edge := R0.edgeNow (250000 * 60000), regs := [], boot := R0.get F.GLB_BOOT_COUNT, met := [], pulses := [], ahead := [], bil := Bil.init, readings := 0, final := false, ok := true }

def s_6 : State := { s_4 with hay := { s_4.hay with ckpt := some ck0 } }

/-- Checkpoints by clause: s_1, s_2, s_5, s_6, s_4, s_5. -/
theorem wit_Checkpoints :
    (s_1.Ready 0 7 1282 (dOf s_1 0 7)) ∧
    (∀ s ∈ [s_2, s_5, s_6, s_4], s.ckptMay (s.chrono / 250000) = true) ∧
    (∀ s ∈ [s_2, s_5], s.bil.ckAt ≠ s.chrono / 250000) ∧
    (∀ s ∈ [s_2, s_5], s.chrono / 250000 % s.get F.WBG_CKPT_CFG_PERIOD_MS = 0) ∧
    (∀ s ∈ [s_2, s_4], s.admits 1 (storeNeed 1 (s.carried (s.chrono / 250000 * 250000))) = true) ∧
    (s_5.admits 1 (storeNeed 1 (s_5.carried (s_5.chrono / 250000 * 250000))) = false) ∧
    (∀ s ∈ [s_6, s_4, s_5], s.get F.PWR_STATE_SUPPLY = 2) ∧
    (∀ s ∈ [s_6, s_4, s_5], (∀ (n : Nat), n < 48 → s.quiet5A n = true) ∨ s.pwr.commitAt + 1500000 ≤ s.chrono) ∧
    (s_6.storedAt (s_6.chrono / 250000 * 250000) = true) ∧
    (∀ s ∈ [s_4, s_5], s.storedAt (s.chrono / 250000 * 250000) = false) := by
  unfold State.Ready; and_intros <;> decide +kernel

end Checkpoints

namespace PulsesAndCalibration

def pu (s : State) (k : Nat) (x : Pulse) : State := wb s fun w => { w with pulses := w.pulses.set k x }

def W (s : State) : State := (s.setB F.TCK_WIN_STATE_OPEN true).set F.TCK_WIN_STATE_OWNER 0

def s_1 : State := (pu { R0 with chrono := 50000000 } 1 { Pulse.init with queue := [1000, 2000], lastEnd := some 5 }).setB (F.WBG_POk_CFG_ENABLE 1) true

def s_2 : State := pu R0 1 { Pulse.init with on := some 1000 }

def s_4 : State := wb (R0.withD 0 [{ mkD 3 7 0x503 1 with phase := .taken }]) fun w => { w with cmp := w.cmp.set 1 (some ⟨0, 3, 5, 0, none, none, 0, []⟩) }

def s_5 : State := R0.cmd 0x503 1 [(24,1,3)]

def s_6 : State := R0.cmd 0x503 1 [(24,1,2),(25,1,5),(28,4,100)]

def s_7 : State := R0.cmd 0x503 1 [(24,1,2),(25,1,48),(28,4,100000000)]

def s_8 : State := R0.cmd 0x503 1 [(24,1,0),(25,1,48),(28,4,1)]

def cal : List (Nat × Nat × Nat) := [(24,1,0),(28,4,2^30),(32,4,0),(36,4,2^30),(40,4,0)]

def s_9 : State := R0.cmd 0x501 2 cal

def s_10 : State := W (R0.cmd 0x501 2 [(24,1,9)])

def s_11 : State := W (R0.cmd 0x501 2 cal)

def rc (s : State) : State := { s with stallRec := modAt s.stallRec 2 fun r => { r with committed := true } }

def s_12 : State := (rc (W (R0.cmd 0x501 2 cal))).modLink 2 fun l => { l with status := 8 }

def s_13 : State := rc (W (R0.cmd 0x501 2 cal))

def s_15 : State := W s_7

def s_16 : State := R0.cmd 0x503 1 [(24,1,1),(25,1,48),(28,4,1),(32,4,10)]

/-- PulsesAndCalibration by clause: s_1, s_2, s_13, s_4, s_5, s_6, s_7, s_8, s_15, s_16, s_9, s_10, s_11, s_12, s_13. -/
theorem wit_PulsesAndCalibration :
    (∀ s ∈ [s_1, s_2, s_13, s_4, s_5, s_6, s_7, s_8, s_15, s_16, s_9, s_10, s_11, s_12], s.wbg.pulses.length = 4) ∧
    (∀ s ∈ [s_1, s_2, s_13, s_4, s_5, s_6, s_7, s_8, s_15, s_16, s_9, s_10, s_11, s_12], s.wbg.edges.length = 4) ∧
    (∀ s ∈ [s_1, s_2, s_13, s_4, s_5, s_6, s_7, s_8, s_15, s_16, s_9, s_10, s_11, s_12], s.wbg.cmp.length = 4) ∧
    (∀ s ∈ [s_1, s_2, s_13, s_4, s_5, s_6, s_7, s_8, s_15, s_16, s_9, s_10, s_11, s_12], s.wbg.met.length = 52) ∧
    (∀ s ∈ [s_1, s_13], s.metersOn = true) ∧
    (s_1.flag (F.WBG_POk_CFG_ENABLE 1) = true) ∧
    ((s_1.wbg.pulses.getD 1 Pulse.init).queue = [1000, 2000]) ∧
    ((s_1.wbg.pulses.getD 1 Pulse.init).on = none) ∧
    (1000 ≤ s_1.chrono) ∧
    (∀ (e : Nat), (s_1.wbg.pulses.getD 1 Pulse.init).lastEnd = some e → e + s_1.get (F.WBG_POk_CFG_OFF_MS 1) * 250000 ≤ s_1.chrono) ∧
    ((s_2.wbg.pulses.getD 1 Pulse.init).on = some ((s_2.wbg.pulses.getD 1 Pulse.init).on.getD 5)) ∧
    ((s_2.wbg.pulses.getD 1 Pulse.init).on.getD 5 ≤ s_2.chrono) ∧
    (s_4.wbg.cmp.getD 1 none = some ((s_4.wbg.cmp.getD 1 none).getD { p := 0, num := 3, window := 5, edges := 0, open_ := none, close := none, e := 0, hist := [] : Compare })) ∧
    (((s_4.wbg.cmp.getD 1 none).getD { p := 0, num := 3, window := 5, edges := 0, open_ := none, close := none, e := 0, hist := [] : Compare }).close
      = none) ∧
    (List.find? (fun y => decide (y.num = ((s_4.wbg.cmp.getD 1 none).getD { p := 0, num := 3, window := 5, edges := 0, open_ := none, close := none, e := 0, hist := [] : Compare }).num
      ∧ y.phase ≠ DescPhase.finished)) (s_4.pd ((s_4.wbg.cmp.getD 1 none).getD { p := 0, num := 3, window := 5, edges := 0, open_ := none, close := none, e := 0, hist := [] : Compare }).p).table
      = some ((List.find? (fun y => decide (y.num = ((s_4.wbg.cmp.getD 1 none).getD { p := 0, num := 3, window := 5, edges := 0, open_ := none, close := none, e := 0, hist := [] : Compare }).num
      ∧ y.phase ≠ DescPhase.finished)) (s_4.pd ((s_4.wbg.cmp.getD 1 none).getD { p := 0, num := 3, window := 5, edges := 0, open_ := none, close := none, e := 0, hist := [] : Compare }).p).table).getD
      noDesc)) ∧
    (∀ s ∈ [s_5, s_6, s_7, s_8, s_15, s_16], s.Ready 0 7 1283 (dOf s 0 7)) ∧
    (∀ s ∈ [s_5, s_6, s_7, s_8, s_15, s_16], (dOf s 0 7).target < 4) ∧
    (2 < (dOf s_5 0 7).arg 24 1) ∧
    (∀ s ∈ [s_6, s_7, s_8, s_15, s_16], (dOf s 0 7).arg 25 1 ≤ 51) ∧
    (∀ s ∈ [s_6, s_7, s_8, s_15, s_16], (dOf s 0 7).arg 26 1 ≤ 1) ∧
    (∀ s ∈ [s_6, s_7, s_8, s_15, s_16], 1 ≤ (dOf s 0 7).arg 28 4) ∧
    (∀ s ∈ [s_6, s_7, s_8, s_15, s_16], (dOf s 0 7).arg 28 4 ≤ 100000000) ∧
    (∀ s ∈ [s_6, s_7, s_8, s_15], (dOf s 0 7).arg 32 4 = 0) := by
  unfold State.Ready; and_intros <;> decide +kernel

/-- PulsesAndCalibration, further hypotheses of the same clauses. -/
theorem wit_PulsesAndCalibration_2 :
    (∀ s ∈ [s_6, s_7, s_15], (dOf s 0 7).arg 24 1 = 2) ∧
    ((dOf s_6 0 7).arg 25 1 < 48) ∧
    (∀ s ∈ [s_7, s_15], 48 ≤ (dOf s 0 7).arg 25 1) ∧
    (∀ s ∈ [s_7, s_9], s.ownsWindow 0 = false) ∧
    ((dOf s_8 0 7).arg 24 1 = 0) ∧
    (∀ s ∈ [s_8, s_16], s.get (F.WBG_S0k_CFG_MODE (dOf s 0 7).target) ≠ 2) ∧
    (s_8.wbg.cmp.getD (dOf s_8 0 7).target none = none) ∧
    (∀ s ∈ [s_15, s_10, s_11, s_12, s_13], s.ownsWindow 0 = true) ∧
    (∀ s ∈ [s_15, s_13], s.changelogFull = false) ∧
    (∀ s ∈ [s_15, s_13], s.stagingUsed + 3608 ≤ 4194304) ∧
    (∀ s ∈ [s_15, s_13], s.admits 2 (storeNeed 2 1) = true) ∧
    ((dOf s_16 0 7).arg 24 1 = 1) ∧
    (10 ≤ (dOf s_16 0 7).arg 32 4) ∧
    ((dOf s_16 0 7).arg 32 4 ≤ 100000) ∧
    (∀ s ∈ [s_9, s_10, s_11, s_12, s_13], s.Ready 0 7 1281 (dOf s 0 7)) ∧
    (calOk (dOf s_10 0 7).target ((dOf s_10 0 7).arg 24 1) (calOf (dOf s_10 0 7).param) = false) ∧
    (∀ s ∈ [s_11, s_12, s_13], calOk (dOf s 0 7).target ((dOf s 0 7).arg 24 1) (calOf (dOf s 0 7).param) = true) ∧
    (∀ s ∈ [s_11, s_12], (dOf s 0 7).target < 48) ∧
    ((s_11.rec? (dOf s_11 0 7).target).committed = false) ∧
    ((s_12.rec? (dOf s_12 0 7).target).committed = true) ∧
    (s_12.contactorClosed (dOf s_12 0 7).target = true) ∧
    (48 ≤ (dOf s_13 0 7).target ∨ (s_13.rec? (dOf s_13 0 7).target).committed = true ∧ s_13.contactorClosed (dOf s_13 0 7).target = false) := by
  unfold State.Ready; and_intros <;> decide +kernel

end PulsesAndCalibration

end Sys2Proof.Tests.WMeter
end

