-- ==== Sys2Proof/Tests/WPower.lean ====
section
/-!
SUPPORT. Witnesses: states and operands that meet the hypotheses of the statements about power states and housekeeping. Each
docstring lists, for the clauses of the statement in order, the state that meets the hypotheses of each; the theorem says that it does.
-/
namespace Sys2Proof.Tests.WPower

open Sys2Proof.Machine
set_option maxRecDepth 100000
set_option Elab.async false

namespace PowerStates

def st (s : State) (v : Nat) : State := s.set F.PWR_STATE_STATE v

def wk (s : State) : State := ((s.setB F.PWR_WAKE_CFG_TIMER true).setB F.PWR_WAKE_CFG_GPIO true).setB F.PWR_WAKE_CFG_LINK true

def ent (s : State) (e : PowerEntry) : State := (s.withD 0 [{ mkD 3 7 0x0F01 0 (prm []) with phase := .taken }]).modPwr fun w => { w with entry := some e }

def s_1 : State := (R0.cmd 0x0F01 0 [(24,1,1)]).modPwr fun w => { w with entry := some ⟨0, 9, 1, 0, false, false⟩ }

def s_2 : State := R0.cmd 0x0F01 0 [(24,1,0)]

def s_3 : State := (st R0 1).cmd 0x0F01 0 [(24,1,0)] |>.set F.PWR_DOMAINS 0xE9FF

def s_4 : State := (R0.set F.PWR_STATE_SUPPLY 1).cmd 0x0F01 0 [(24,1,2)]

def s_5 : State := R0.cmd 0x0F01 0 [(24,1,2), (28,4,77)]

def s_6 : State := ent R0 ⟨0, 3, 2, 5, false, false⟩

def s_7 : State := (ent R0 ⟨0, 3, 2, 5, false, false⟩).withD 1 [mkD 4 8 1 0]

def s_8 : State := ent R0 ⟨0, 3, 1, 5, true, false⟩

def s_9 : State := (ent R0 ⟨0, 3, 1, 5, true, false⟩).withD 1 [mkD 4 8 1 0]

def s_10 : State := (ent R0 ⟨0, 3, 2, 5, true, false⟩).setB (F.SLK_Sn_CTRL_ENABLE 2) true

def s_11 : State := (ent R0 ⟨0, 3, 2, 5, true, false⟩).withD 1 [mkD 4 8 1 0]

def s_13 : State := (wk (st R0 2)).modPwr fun w => { w with wakeAfter := 5 }

def s_14 : State := (wk (st R0 1)).modPwr fun w => { w with latched := some 3 }

def s_17 : State := R0.setB F.GLB_PPS_CFG_ENABLE true

/-- PowerStates by clause: s_1, s_2, s_3, s_4, s_5, s_7, s_6, s_9, s_8, s_11, s_10, s_14, s_13, s_8, s_8, s_8, s_17, s_17. -/
theorem wit_PowerStates :
    (∀ s ∈ [s_1, s_2, s_3, s_4, s_5], s.Ready 0 7 3841 (dOf s 0 7)) ∧
    (s_1.pwr.entry ≠ none) ∧
    (∀ s ∈ [s_2, s_3, s_4, s_5, s_14, s_13], s.pwr.entry = none) ∧
    ((dOf s_2 0 7).arg 24 1 = s_2.get F.PWR_STATE_STATE) ∧
    ((dOf s_3 0 7).arg 24 1 = 0) ∧
    (∀ s ∈ [s_3, s_14], s.get F.PWR_STATE_STATE = 1) ∧
    (∀ s ∈ [s_4, s_5], (dOf s 0 7).arg 24 1 ≠ 0) ∧
    (∀ s ∈ [s_4, s_5], (dOf s 0 7).arg 24 1 ≠ s.get F.PWR_STATE_STATE) ∧
    (s_4.get F.PWR_STATE_SUPPLY ≠ 0) ∧
    (s_5.get F.PWR_STATE_SUPPLY = 0) ∧
    (∀ s ∈ [s_7, s_6, s_9, s_8, s_11, s_10], s.pwr.entry = some (s.pwr.entry.getD entry0)) ∧
    (∀ s ∈ [s_7, s_6, s_9, s_8, s_11, s_10], (s.pwr.entry.getD entry0).begun = false) ∧
    (∀ s ∈ [s_7, s_6, s_9, s_8, s_11, s_10], List.find? (fun y => decide (y.num = (s.pwr.entry.getD entry0).num ∧ y.phase ≠
      DescPhase.finished)) (s.pd (s.pwr.entry.getD entry0).p).table = some ((List.find? (fun y => decide (y.num = (s.pwr.entry.getD
      entry0).num ∧ y.phase ≠ DescPhase.finished)) (s.pd (s.pwr.entry.getD entry0).p).table).getD noDesc)) ∧
    (∀ s ∈ [s_7, s_6], (s.pwr.entry.getD entry0).checked = false) ∧
    (∀ s ∈ [s_7, s_9], s.refuser (s.pwr.entry.getD entry0) true = some ((s.refuser (s.pwr.entry.getD entry0) true).getD (0, 0))) ∧
    (∀ s ∈ [s_6, s_8], s.refuser (s.pwr.entry.getD entry0) true = none) := by
  unfold State.Ready; and_intros <;> decide +kernel

/-- PowerStates, further hypotheses of the same clauses. -/
theorem wit_PowerStates_2 :
    ((s_6.pwr.entry.getD entry0).target ≤ 2) ∧
    (∀ s ∈ [s_9, s_8, s_11, s_10], (s.pwr.entry.getD entry0).checked = true) ∧
    (∀ s ∈ [s_9, s_8], (s.pwr.entry.getD entry0).target = 1) ∧
    (∀ s ∈ [s_11, s_10], (s.pwr.entry.getD entry0).target = 2) ∧
    (∀ s ∈ [s_11, s_10], s.pwr.final = false) ∧
    (s_11.refuser (s_11.pwr.entry.getD entry0) false = some ((s_11.refuser (s_11.pwr.entry.getD entry0) false).getD (0, 0))) ∧
    (s_10.refuser (s_10.pwr.entry.getD entry0) false = none) ∧
    (∀ s ∈ [s_14, s_13, s_8], s.mayWake = true) ∧
    (s_14.wakeEnabled 0 true = true) ∧
    (s_13.get F.PWR_STATE_STATE = 2) ∧
    (s_13.wakeEnabled 0 false = true) ∧
    (s_8.wakeEnabled 0 (decide ((s_8.pwr.entry.getD entry0).target = 1)) = true) ∧
    (s_8.domainOn 4 = true) ∧
    (s_8.hasRight 3 2 = false) ∧
    (s_17.domainOn 3 = true) ∧
    (s_17.flag F.GLB_PPS_CFG_ENABLE = true) := by
  and_intros <;> decide +kernel

end PowerStates

end Sys2Proof.Tests.WPower
end

