-- ==== Sys2Proof/Tests/WSupply.lean ====
section
/-!
SUPPORT. Witnesses: states and operands that meet the hypotheses of the statements about supplies and resets. Each
docstring lists, for the clauses of the statement in order, the state that meets the hypotheses of each; the theorem says that it does.
-/
namespace Sys2Proof.Tests.WSupply

open Sys2Proof.Machine
set_option maxRecDepth 100000
set_option Elab.async false

namespace SuppliesAndResets

def sw (s : State) (v : Nat) : State := s.set F.PWR_STATE_SUPPLY v

def run0 (s : State) : State := s.set F.GLB_BOOT_STATUS_HISTORY 0x7F |>.set F.GLB_BOOT_STATUS_PHASE 6

def life (v : Nat) : State := State.reset.set F.TCK_LIFECYCLE_STATE v

def ckp : State := let s := (life 3); { s with hay := { s.hay with ckpt := some Ckpt.shipped } }

def s_2 : State := sw R0.rings 1

def s_4 : State := R0.rings.cmd 0x0F02 0

def s_5 : State := { R0 with pwr := { R0.pwr with reset := true } }

def s_6 : State := run0 R0

def s_8 : State := R0.cmd 0x0F03 0

def s_9 : State := (((R0.setB F.PWR_HOLD_STATE_HOLD true).set F.GLB_GPIO_DIR 5).set (F.HRN_Sn_COOL_FLOOR_PUMP 3) 4).cmd 0x0F03 0

def s_10 : State := ((R0.setB F.PWR_HOLD_STATE_HOLD true).set F.GLB_GPIO_DIR 5).cmd 0x0F03 0 [(24, 1, 1)]

def s_13 : State := ckp

def s_16 : State := ((R0.modPwr fun w => { w with zeroGrant := true }).setS (F.YMS_Sn_GRANT_APPLIED 2) 500).setS (F.YMS_Sn_GRANT_TARGET 47) (-20)

def s_17 : State := { (((run0 R0).set F.GLB_LANE_STATUS_A_STATE 3).set F.GLB_LANE_STATUS_B_STATE 3) with lan := Lan.init }

/-- SuppliesAndResets by clause: s_6, s_6, s_2, s_16, s_6, s_6, s_4, s_5, s_6, s_17, s_9, s_8, s_9, s_10, s_6, s_6, s_13, s_13. -/
theorem wit_SuppliesAndResets :
    (∀ s ∈ [s_6, s_2, s_16, s_4, s_5, s_17, s_9, s_8, s_10], s.pwr.cold = false) ∧
    (s_6.get F.PWR_STATE_SUPPLY = 0) ∧
    (mayBelow 0 (10 * s_6.warnLimit) = true) ∧
    (s_6.get F.PWR_STATE_SUPPLY ≤ 1) ∧
    (mayBelow 0 (10 * s_6.commitLimit) = true) ∧
    (s_2.get F.PWR_STATE_SUPPLY ≠ 0) ∧
    (mayAbove 70000 (10 * s_2.warnLimit + 50) = true) ∧
    (s_16.pwr.zeroGrant = true) ∧
    (s_16.domainOn 3 = true) ∧
    (s_4.Ready 0 7 3842 (dOf s_4 0 7)) ∧
    (s_5.pwr.reset = true) ∧
    (s_5.hay.running = []) ∧
    (∀ s ∈ [s_6, s_17], s.domainOn 6 = true) ∧
    (∀ s ∈ [s_6, s_17], s.pwr.resetLow = false) ∧
    (∀ s ∈ [s_6, s_17], s.pwr.reset = false) ∧
    (∀ s ∈ [s_6, s_17], s.inRun = false) ∧
    (∀ s ∈ [s_6, s_17], s.get F.GLB_BOOT_STATUS_PHASE ≠ 14) ∧
    (∀ s ∈ [s_6, s_17], s.get F.GLB_BOOT_STATUS_PHASE ≠ 15) := by
  unfold State.Ready; and_intros <;> decide +kernel

/-- SuppliesAndResets, further hypotheses of the same clauses. -/
theorem wit_SuppliesAndResets_2 :
    (∀ s ∈ [s_6, s_17], s.tck.fwActive ≤ 1) ∧
    (∀ s ∈ [s_6, s_17], s.get F.TCK_LIFECYCLE_STATE ≠ 5) ∧
    (s_6.slotUsable (if 0 = 0 then false else false) 0 = false ∧ s_6.slotUsable (if 1 = 0 then false else false) 1 = false) ∧
    (s_17.slotUsable (if s_17.tck.fwActive = 0 then true else false) s_17.tck.fwActive = true) ∧
    (s_17.pwr.boot = none ∨ s_17.slotsFail = false) ∧
    (true = true) ∧
    (s_17.laneState 0 = 3) ∧
    (s_17.isOut 0 = false) ∧
    (∀ s ∈ [s_9, s_10], s.flag F.PWR_HOLD_STATE_HOLD = true) ∧
    (∀ s ∈ [s_8, s_9, s_10], s.Ready 0 7 3843 (dOf s 0 7)) ∧
    (s_8.flag F.PWR_HOLD_STATE_HOLD = false) ∧
    ((dOf s_9 0 7).arg 24 1 = 0) ∧
    ((dOf s_10 0 7).arg 24 1 ≠ 0) ∧
    (s_13.pwr.cold = true) ∧
    (s_13.pwr.falling = false) ∧
    (s_13.pwr.thermal = false) ∧
    (s_13.haltSafe = false) := by
  unfold State.Ready; and_intros <;> decide +kernel

end SuppliesAndResets

end Sys2Proof.Tests.WSupply
end

