-- ==== Sys2Proof/Tests/Corners.lean ====
section
/-!
SUPPORT. Witnesses whose hypotheses quantify over more than a finite choice, so that they are shown by hand.
-/
namespace Sys2Proof.Tests.Corners

open Sys2Proof.Machine
set_option maxRecDepth 100000
set_option Elab.async false

/-- SuppliesAndResets: each command that makes a Cold reset, with its cause and detail. -/
theorem wit_SuppliesAndResets_cold : ∀ x ∈ [(Instr.vauxBelowReset, 2, 0), (.railUndervoltage 2, 3, 2), (.thermalShutdown 7 0 0, 4, 7)],
    (x.1 = .vauxBelowReset ∧ x.2.1 = 2 ∧ x.2.2 = 0) ∨ (∃ r ≤ 2, x.1 = Instr.railUndervoltage r ∧ x.2.1 = 3 ∧ x.2.2 = r) ∨
      (∃ k ≤ 7, ∃ temp vaux, x.1 = .thermalShutdown k temp vaux ∧ x.2.1 = 4 ∧ x.2.2 = k) := by
  intro x h
  simp only [List.mem_cons, List.not_mem_nil, or_false] at h
  rcases h with rfl | rfl | rfl
  · exact .inl ⟨rfl, rfl, rfl⟩
  · exact .inr (.inl ⟨2, by decide, rfl, rfl, rfl⟩)
  · exact .inr (.inr ⟨7, by decide, 0, 0, rfl, rfl, rfl⟩)

open WPower.PowerStates in
/-- PowerStates: a write of 1 to PWR_WAKE.NOW by a paddock with SERVICE is a wake in QUIET (s_14), HIBERNATE (s_13) and during an
entry (s_8). -/
theorem wit_PowerStates_wakeNow : ∀ s ∈ [s_14, s_13, s_8], s.mayWake = true ∧
    ∃ p v, Instr.pwrWakeNow 0 1 = .pwrWakeNow p v ∧ p < 4 ∧ 0 = 0 ∧ s.domainOn 4 = true ∧ s.hasRight p 2 = true ∧ v % 2 = 1 := by
  intro s h
  simp only [List.mem_cons, List.not_mem_nil, or_false] at h
  rcases h with rfl | rfl | rfl <;> exact ⟨by decide +kernel, 0, 1, rfl, by decide, rfl, by decide +kernel, by decide +kernel, rfl⟩

open WPower.PowerStates in
/-- QUIET with the timer's wake latched. -/
def latched1 : State := s_14.modPwr fun w => { w with latched := some 1 }

open WPower.PowerStates in
/-- PowerStates: WAKE_TIMER (s_13, HIBERNATE), WAKE_EVENT and WAKE_REPLAY (latched1, QUIET) of source 1. -/
theorem wit_PowerStates_sources : s_13.mayWake = true ∧ s_13.pwr.wakeAfter ≠ 0 ∧ s_13.pwr.entry = none ∧ s_13.get F.PWR_STATE_STATE = 2 ∧
    s_13.wakeEnabled 1 false = true ∧ latched1.mayWake = true ∧ latched1.pwr.latched = some 1 ∧ latched1.pwr.entry = none ∧
    latched1.get F.PWR_STATE_STATE = 1 ∧ latched1.wakeEnabled 1 true = true := by
  and_intros <;> decide +kernel

/-- EnergyConserved: no link holds more than 100 metering records. -/
theorem wit_EnergyConserved_past (n : Nat) : (WMeter.EnergyConserved.s_2.link n).msPast.length ≤ 100 := by
  have h : ∀ l ∈ Slk.init :: WMeter.EnergyConserved.s_2.slk, l.msPast.length ≤ 100 := by decide +kernel
  apply h
  simp only [State.link, List.getD_eq_getElem?_getD]
  cases hn : WMeter.EnergyConserved.s_2.slk[n]? with
  | none => simp
  | some l => simpa using Or.inr (List.mem_of_getElem? hn)

/-- The fetch checks do not look at the CHAIN result. -/
theorem fetchStatus_dep (s : State) (p i num : Nat) (bytes : List Nat) (dep : Option Nat) (ok : Option Bool) :
    s.fetchStatus p (descOf i num bytes dep ok) = s.fetchStatus p (descOf i num bytes none none) := rfl

open WHost.FetchOneDescriptor in
/-- FetchOneDescriptor: a NOP that passes the checks of fetch. -/
theorem wit_FetchOneDescriptor_passes (dep : Option Nat) (ok : Option Bool) :
    s_2.fetchStatus 1 (descOf 7 (s_2.pd 1).nextNum (le 2 1 ++ [0, 0] ++ le 2 7 ++ le 2 65535 ++ List.replicate 56 0) dep ok) = none := by
  rw [fetchStatus_dep]
  decide +kernel

end Sys2Proof.Tests.Corners
end

