-- ==== Sys2Proof/Tests/WTack.lean ====
section
/-!
SUPPORT. Witnesses: states and operands that meet the hypotheses of the statements about the Tack Room. Each
docstring lists, for the clauses of the statement in order, the state that meets the hypotheses of each; the theorem says that it does.
-/
namespace Sys2Proof.Tests.WTack

open Sys2Proof.Machine
set_option maxRecDepth 100000
set_option Elab.async false

namespace Img

def put (b : List Nat) (i : Nat) (v : List Nat) : List Nat := b.take i ++ v ++ b.drop (i + v.length)

def mk (kind flags epoch rbId rb serial signer : Nat) (pl : List Nat) : List Nat :=
  let h := List.replicate 256 0
  let h := put h 0 ([0x53,0x57,0x54,0x48,1,kind] ++ le 2 flags ++ le 4 epoch ++ le 2 rbId)
  let h := put (put (put h 16 (le 4 rb ++ le 4 pl.length ++ le 8 serial)) 96 (le 4 signer)) 128 [1]
  h ++ pl ++ List.replicate 3373 0

def commute : List Nat := [1,1] ++ List.replicate 14 0 ++ [0x80, 0x06, 0x12, 0x18, 0x21, 0x24, 0x09, 0x80, 0x80, 0x06, 0x12, 0x18, 0x21, 0x24, 0x09, 0x80]

end Img

namespace TackRoom

def T0 : State := ((R0.set F.TCK_LIFECYCLE_STATE 2).set F.GLB_SERIAL 0x1234).modTck fun t => { t with charterKey := [1], tableKey := [2], ppk := [3] }

def win (s : State) : State := ((s.setB F.TCK_WIN_STATE_OPEN true).set F.TCK_WIN_STATE_OWNER 0).setB F.TCK_STATUS_WINDOW_OPEN true

def iTab : List Nat := Img.mk 0x18 0 5 9 0 0 0x100 Img.commute

def iFw : List Nat := Img.mk 1 0 7 0 0 0 1 [1,2,3]

def iPass : List Nat := Img.mk 0x22 1 0 20 1 0x1234 0x101 (List.replicate 1088 5 ++ List.replicate 64 9 ++ List.replicate 16 0)

def iChar : List Nat := Img.mk 0x20 0 0 16 1 0x1234 0x101 (le 8 0x1234 ++ [0, 31, 0,0,0,0,0,0] ++ List.replicate 32 5 ++ List.replicate 16 0)

def s_1 : State := T0.cmd 0xD01 0 [] iTab.length

def s_3 : State := T0.cmd 0xD01 0 [] iFw.length

def s_4 : State := { s_3 with lan := { s_3.lan with fw := some fwRun0 } }

def s_5 : State := (win T0).cmd 0xD01 0 [] iPass.length

def s_6 : State := T0.cmd 0x101 0 [] iChar.length

def sw (s : State) (e at_ : Nat) : State := s.cmd 0xD02 0 [(24,4,e),(28,4,at_)]

def St (s : State) (l : List Staged) : State := s.modTck fun t => { t with staged := l }

def tabs : List Staged := [⟨0x18, 5, 9, Img.commute⟩, ⟨0x17, 4, 1, []⟩]

def s_7 : State := sw T0 5 0

def s_8 : State := sw (St T0 tabs) 5 0

def s_9 : State := sw (St T0 tabs) 5 1000000

def s_10 : State := sw ((St T0 tabs).modTck fun t => { t with switch := some (1, 2, 3) }) 5 0

def bo (s : State) (e : Nat) : State := (((St s tabs).set F.TCK_SWITCH_EPOCH e).withD 0 [{ mkD 3 7 0xD02 0 with phase := .taken }]).modTck fun t => { t with switch := some (0, 3, 1000000) }

def s_11 : State := bo T0 5

def s_12 : State := St ((bo T0 5).modWalk 0 id) [⟨0x10, 5, 9, []⟩] |>.setCab 0 3 0

def wo (s : State) (dur : Nat) : State := s.cmd 0xD03 0 [(24,2,dur),(32,4,1)]

def wg (s : State) (dur : Nat) : State := s.cmd 0xD03 0 [(24,2,dur)]

def s_13 : State := wo T0 59

def s_14 : State := wo (win T0) 60

def s_15 : State := wo (T0.setB F.TCK_STATUS_WINDOW_LOCKED true) 3600

def s_16 : State := wo (T0.modTck fun t => { t with ppk := [] }) 0

def s_41 : State := wg T0 0

def iLife : List Nat := Img.mk 0x23 0 0 21 1 0x1234 0x101 (le 8 0x1234 ++ [4] ++ List.replicate 7 0)

def s_42 : State := (T0.set F.TCK_LIFECYCLE_STATE 3).cmd 0xD08 0 [(24,1,4)] iLife.length

def s_20 : State := ((win T0).set F.TCK_WIN_STATE_OWNER 1).cmd 0xD04 0

def s_21 : State := T0.cmd 0xD04 0

def kg (s : State) (k ty fl us : Nat) : State := s.cmd 0xD06 k [(24,1,ty),(25,1,fl),(26,2,us)]

def key (s : State) : State := (s.set (F.TCK_SLOTs_INFO_TYPE 20) 2).set (F.TCK_SLOTs_INFO_USAGE 20) 8

def s_22 : State := kg T0 20 6 0 0

def s_23 : State := kg T0 15 1 0 8

def s_24 : State := kg (key T0) 20 1 0 8

def s_26 : State := kg ((key T0).set F.HAY_HOLDUP_C 0) 20 1 1 8

def s_27 : State := kg T0 255 5 0 24

def sg (s : State) (k n l : Nat) : State := s.cmd 0xD05 k [(24,4,n)] l

def s_28 : State := sg (key T0) 20 0 64

def s_29 : State := sg (key T0) 21 10 64

def s_30 : State := sg (key T0) 20 10 63

def s_31 : State := sg (key T0) 20 10 64

def at' (s : State) (k slot l : Nat) : State := s.cmd 0xD07 0 [(24,1,k),(26,2,slot)] l

def s_32 : State := at' T0 0 100 0

def s_33 : State := at' T0 1 0 14797

def s_36 : State := at' T0 2 0 5388

def lc (s : State) (n l : Nat) : State := s.cmd 0xD08 0 [(24,1,n)] l

def s_37 : State := lc T0 1 0

def s_38 : State := lc T0 3 0

def s_39 : State := lc (win T0) 3 0

def s_40 : State := (((T0.set F.GLB_BOOT_STATUS_PHASE 15).set F.GLB_BOOT_STATUS_FAIL_CAUSE 1).set F.TCK_LIFECYCLE_STATE 3)

def s_43 : State := (key T0).cmd 0xD07 0 [(24,1,0),(26,2,20)] 4000

def s_44 : State := s_42.modLink 0 fun l => { l with status := 8 }

def at_ : List Nat := [1000000]

/-- TackRoom by clause: s_6, s_6, s_3, s_4, s_3, s_1, s_1, s_5, s_9, s_7, s_10, s_8, s_12, s_11, s_13, s_14, s_15, s_16, s_41, s_20, s_21, s_11, s_11, s_22,
      s_23, s_24, s_26, s_27, s_28, s_29, s_30, s_31, s_31, s_32, s_43, s_33, s_36, s_37, s_38, s_39, s_44, s_42, s_40. -/
theorem wit_TackRoom :
    (s_6.Ready 0 7 257 (dOf s_6 0 7)) ∧
    (∀ s ∈ [s_6, s_3, s_4, s_1, s_5, s_37, s_38, s_39, s_44, s_42], s.sigBusy 3 = false) ∧
    (s_6.imgStatus 0 0 (padTo (dOf s_6 0 7).length iTab) (fun k => decide (k = 32)) true = some ((s_6.imgStatus 0 0 (padTo (dOf s_6 0
      7).length iTab) (fun k => decide (k = 32)) true).getD 0)) ∧
    (∀ s ∈ [s_3, s_4, s_1, s_5], s.Ready 0 7 3329 (dOf s 0 7)) ∧
    (s_3.imgStatus 0 0 (padTo (dOf s_3 0 7).length iTab) (fun k => decide (k = 1) || isTable k || decide (k = 34)) true = some
      ((s_3.imgStatus 0 0 (padTo (dOf s_3 0 7).length iTab) (fun k => decide (k = 1) || isTable k || decide (k = 34)) true).getD 0)) ∧
    (s_4.lan.fw ≠ none) ∧
    (s_3.lan.fw = none) ∧
    (∀ s ∈ [s_5, s_41, s_39, s_42, s_40], s.changelogFull = false ∧ s.stagingUsed + 3608 ≤ 4194304 ∧ s.admits 2 (storeNeed 2 1) = true) ∧
    (∀ s ∈ [s_9, s_7, s_10, s_8], s.Ready 0 7 3330 (dOf s 0 7)) ∧
    (s_9.switchAt ((dOf s_9 0 7).arg 28 4) < s_9.chrono + 250000 ∨ s_9.chrono + 150000000000 < s_9.switchAt ((dOf s_9 0 7).arg 28 4)) ∧
    (∀ s ∈ [s_7, s_10, s_8], ¬(s.switchAt ((dOf s 0 7).arg 28 4) < s.chrono + 250000 ∨ s.chrono + 150000000000 < s.switchAt ((dOf s 0 7).arg
      28 4))) ∧
    ((dOf s_7 0 7).arg 24 4 ≤ s_7.get F.TCK_EPOCH ∨ ∀ (x : Staged), x ∈ s_7.tck.staged → x.epoch ≠ (dOf s_7 0 7).arg 24 4) ∧
    (∀ s ∈ [s_10, s_8], ¬((dOf s 0 7).arg 24 4 ≤ s.get F.TCK_EPOCH ∨ ∀ (x : Staged), x ∈ s.tck.staged → x.epoch ≠ (dOf s 0 7).arg 24 4)) ∧
    (s_10.tck.switch ≠ none ∨ s_10.tck.record ≠ none) ∧
    (s_8.tck.switch = none) ∧
    (s_8.tck.record = none) ∧
    (∀ s ∈ [s_12, s_11], s.tck.switch = some (0, 3, 1000000)) ∧
    (∀ s ∈ [s_12, s_11], List.find? (fun y => decide (y.num = 3 ∧ y.phase ≠ DescPhase.finished)) (s.pd 0).table = some ((List.find? (fun y
      => decide (y.num = 3 ∧ y.phase ≠ DescPhase.finished)) (s.pd 0).table).getD noDesc)) ∧
    (List.find? (fun y => s_12.refusesTable (s_12.offered (s_12.get F.TCK_SWITCH_EPOCH)) y) (s_12.offered (s_12.get F.TCK_SWITCH_EPOCH)) =
      some ((List.find? (fun y => s_12.refusesTable (s_12.offered (s_12.get F.TCK_SWITCH_EPOCH)) y) (s_12.offered (s_12.get
      F.TCK_SWITCH_EPOCH))).getD { kind := 24, epoch := 5, rb := 9, payload := Img.commute : Staged })) ∧
    (∀ (y : Staged), y ∈ s_11.offered (s_11.get F.TCK_SWITCH_EPOCH) → s_11.refusesTable (s_11.offered (s_11.get F.TCK_SWITCH_EPOCH)) y =
      false) := by
  unfold State.Ready; and_intros <;> decide +kernel

/-- TackRoom, further hypotheses of the same clauses. -/
theorem wit_TackRoom_2 :
    (∀ s ∈ [s_13, s_14, s_15, s_16, s_41], s.Ready 0 7 3331 (dOf s 0 7)) ∧
    ((if (dOf s_13 0 7).arg 24 2 = 0 then 900 else (dOf s_13 0 7).arg 24 2) < 60 ∨ 3600 < if (dOf s_13 0 7).arg 24 2 = 0 then 900 else (dOf
      s_13 0 7).arg 24 2) ∧
    (∀ s ∈ [s_14, s_15, s_16, s_41], 60 ≤ if (dOf s 0 7).arg 24 2 = 0 then 900 else (dOf s 0 7).arg 24 2) ∧
    (∀ s ∈ [s_14, s_15, s_16, s_41], (if (dOf s 0 7).arg 24 2 = 0 then 900 else (dOf s 0 7).arg 24 2) ≤ 3600) ∧
    (s_14.flag F.TCK_WIN_STATE_OPEN = true ∨ s_14.tck.opening ≠ none) ∧
    (∀ s ∈ [s_15, s_16, s_41], s.flag F.TCK_WIN_STATE_OPEN = false) ∧
    (∀ s ∈ [s_15, s_16, s_41], s.tck.opening = none) ∧
    (s_15.flag F.TCK_STATUS_WINDOW_LOCKED = true) ∧
    (∀ s ∈ [s_16, s_41], s.flag F.TCK_STATUS_WINDOW_LOCKED = false) ∧
    (false = false) ∧
    (∀ s ∈ [s_20, s_21], s.Ready 0 7 3332 (dOf s 0 7)) ∧
    (s_20.flag F.TCK_WIN_STATE_OPEN = true) ∧
    (∀ s ∈ [s_20, s_38], s.ownsWindow 0 = false) ∧
    (s_21.flag F.TCK_WIN_STATE_OPEN = false ∨ s_21.ownsWindow 0 = true) ∧
    (∀ s ∈ [s_22, s_23, s_24, s_26, s_27], s.Ready 0 7 3334 (dOf s 0 7)) ∧
    (5 < (dOf s_22 0 7).arg 24 1 ∨ 1 < (dOf s_22 0 7).arg 25 1) ∧
    (∀ s ∈ [s_23, s_24, s_26, s_27, s_37], (dOf s 0 7).arg 24 1 ≤ 5) ∧
    (∀ s ∈ [s_23, s_24, s_26, s_27], (dOf s 0 7).arg 25 1 ≤ 1) ∧
    ((dOf s_23 0 7).target < 16 ∨ (dOf s_23 0 7).arg 26 2 % 8 ≠ 0 ∨ 32 ≤ (dOf s_23 0 7).arg 26 2 ∨ bitOf ((dOf s_23 0 7).arg 26 2) 4 = true
      ∧ (dOf s_23 0 7).arg 24 1 < 2) ∧
    (∀ s ∈ [s_24, s_26, s_27], ¬((dOf s 0 7).target < 16 ∨ (dOf s 0 7).arg 26 2 % 8 ≠ 0 ∨ 32 ≤ (dOf s 0 7).arg 26 2 ∨ bitOf ((dOf s 0 7).arg
      26 2) 4 = true ∧ (dOf s 0 7).arg 24 1 < 2)) := by
  unfold State.Ready; and_intros <;> decide +kernel

/-- TackRoom, further hypotheses of the same clauses. -/
theorem wit_TackRoom_3 :
    ((s_24.slotOf (dOf s_24 0 7).target).fst ≠ 0) ∧
    ((dOf s_24 0 7).arg 25 1 = 0) ∧
    (∀ s ∈ [s_26, s_27], (s.slotOf (dOf s 0 7).target).fst = 0 ∨ (dOf s 0 7).arg 25 1 = 1) ∧
    (s_26.admits 2 (storeNeed 2 1) = false) ∧
    (s_27.admits 2 (storeNeed 2 1) = true) ∧
    (∀ s ∈ [s_28, s_29, s_30, s_31], s.Ready 0 7 3333 (dOf s 0 7)) ∧
    (∀ s ∈ [s_28, s_29, s_30, s_31, s_32, s_43, s_33, s_36], s.sigBusy 2 = false) ∧
    ((dOf s_28 0 7).arg 24 4 = 0 ∨ 1048576 < (dOf s_28 0 7).arg 24 4) ∧
    (∀ s ∈ [s_29, s_30, s_31], 1 ≤ (dOf s 0 7).arg 24 4) ∧
    (∀ s ∈ [s_29, s_30, s_31], (dOf s 0 7).arg 24 4 ≤ 1048576) ∧
    (bitOf (s_29.slotOf (dOf s_29 0 7).target).snd.snd.fst 3 = false) ∧
    (∀ s ∈ [s_30, s_31], bitOf (s.slotOf (dOf s 0 7).target).snd.snd.fst 3 = true) ∧
    ((dOf s_30 0 7).length < Max.max ((dOf s_30 0 7).arg 24 4) (sigLen (s_30.slotOf (dOf s_30 0 7).target).fst)) ∧
    (Max.max ((dOf s_31 0 7).arg 24 4) (sigLen (s_31.slotOf (dOf s_31 0 7).target).fst) ≤ (dOf s_31 0 7).length) ∧
    (true = true) ∧
    (∀ s ∈ [s_32, s_43, s_33, s_36], s.Ready 0 7 3335 (dOf s 0 7)) ∧
    (∀ s ∈ [s_32, s_43], (dOf s 0 7).arg 24 1 = 0) ∧
    (∀ s ∈ [s_32, s_43], (dOf s 0 7).arg 26 2 < 256) ∧
    ((s_32.slotOf ((dOf s_32 0 7).arg 26 2)).fst = 0) ∧
    ((s_43.slotOf ((dOf s_43 0 7).arg 26 2)).fst ≠ 0) := by
  unfold State.Ready; and_intros <;> decide +kernel

/-- TackRoom, further hypotheses of the same clauses. -/
theorem wit_TackRoom_4 :
    ((dOf s_33 0 7).arg 24 1 = 1) ∧
    ((dOf s_36 0 7).arg 24 1 = 2) ∧
    (∀ s ∈ [s_36, s_40], s.get F.TCK_LIFECYCLE_STATE ≠ 5) ∧
    (∀ s ∈ [s_37, s_38, s_39, s_44, s_42], s.Ready 0 7 3336 (dOf s 0 7)) ∧
    (lifeImage (s_37.get F.TCK_LIFECYCLE_STATE) ((dOf s_37 0 7).arg 24 1) = none) ∧
    (∀ s ∈ [s_38, s_39], s.get F.TCK_LIFECYCLE_STATE = 2) ∧
    (∀ s ∈ [s_38, s_39], (dOf s 0 7).arg 24 1 = 3) ∧
    (∀ s ∈ [s_38, s_39], (dOf s 0 7).length = 0) ∧
    (s_39.ownsWindow 0 = true) ∧
    (∀ s ∈ [s_44, s_42], lifeImage (s.get F.TCK_LIFECYCLE_STATE) ((dOf s 0 7).arg 24 1) = some ((lifeImage (s.get F.TCK_LIFECYCLE_STATE)
      ((dOf s 0 7).arg 24 1)).getD 0)) ∧
    (∀ s ∈ [s_44, s_42], (lifeImage (s.get F.TCK_LIFECYCLE_STATE) ((dOf s 0 7).arg 24 1)).getD 0 ≠ 0) ∧
    (s_44.lifeMay 0 (s_44.get F.TCK_LIFECYCLE_STATE) ((dOf s_44 0 7).arg 24 1) = false) ∧
    (s_42.lifeMay 0 (s_42.get F.TCK_LIFECYCLE_STATE) ((dOf s_42 0 7).arg 24 1) = true) ∧
    ((lifeImage (s_42.get F.TCK_LIFECYCLE_STATE) ((dOf s_42 0 7).arg 24 1)).getD 0 ≠ 33) ∧
    (s_40.pwr.cold = false) ∧
    (s_40.get F.GLB_BOOT_STATUS_PHASE = 15) ∧
    (s_40.get F.GLB_BOOT_STATUS_FAIL_CAUSE = 1 ∨ s_40.get F.GLB_BOOT_STATUS_FAIL_CAUSE = 2) := by
  unfold State.Ready; and_intros <;> decide +kernel

end TackRoom

end Sys2Proof.Tests.WTack
end

