-- ==== Sys2Proof/Tests/Keyed.lean ====
section
/-!
SUPPORT. Witnesses whose hypotheses rest on the opaque cryptographic functions: messages, responses and images that the model's own
signing and sealing functions make, so that they verify and open whatever those functions are.
-/
namespace Sys2Proof.Tests.Keyed

open Sys2Proof.Machine Sys2Proof.Laws
set_option maxRecDepth 100000
set_option Elab.async false

/-! ### LinkKeying: a response with the fingerprint of IDENT and two signatures that verify -/

def pk : List Nat := List.replicate 1984 7
def offer0 : List Nat := List.replicate 1228 7
def raw0 : List Nat := List.replicate 64 5
def mid : List Nat := List.replicate 1120 0
def head2 : List Nat := mgmtHead 2 0 6477 0
def keyHash : List Nat := sha512 (raw0 ++ offer0 ++ (mid ++ pk))
def resp : List Nat := head2 ++ ((mid ++ pk) ++ dualSig pk "ESW-LINK" keyHash [] [])

def keyingLink (fp : List Nat) (rekeying : Bool) (l : Slk) : Slk :=
  { l with ident := { l.ident with fp := fp, raw := raw0 }, offer := offer0, response := some resp, rekeying := rekeying
           keys := if rekeying then some (List.replicate 96 3) else none }

def k1 : State := (R0.setLink 2 Link.keying).modLink 2 (keyingLink (sha3 pk) false)
def k2 : State := (R0.setLink 2 Link.run).modLink 2 (keyingLink (sha3 pk) true)
def k3 : State := (R0.setLink 2 Link.run).modLink 2 (keyingLink [] true)
def k4 : State := (R0.setLink 2 Link.keying).modLink 2 (keyingLink [] false)

theorem mid_length : mid.length = 1120 := by decide +kernel
theorem pk_length : pk.length = 1984 := by decide +kernel
theorem head2_length : head2.length = 12 := by decide +kernel

theorem resp_keys : (resp.drop 1132).take 1984 = pk := by
  have h : (head2 ++ mid).length = 1132 := by rw [List.length_append, head2_length, mid_length]
  have : resp = (head2 ++ mid) ++ (pk ++ dualSig pk "ESW-LINK" keyHash [] []) := by simp only [resp, List.append_assoc]
  rw [this, List.drop_left' h, List.take_left' pk_length]

theorem resp_hashed : (resp.drop 12).take 3104 = mid ++ pk := by
  have h : (mid ++ pk).length = 3104 := by rw [List.length_append, pk_length, mid_length]
  rw [resp, List.drop_left' head2_length, List.take_left' h]

theorem resp_sigs : (resp.drop 3116).take 3373 = dualSig pk "ESW-LINK" keyHash [] [] := by
  have h : (head2 ++ (mid ++ pk)).length = 3116 := by
    rw [List.length_append, List.length_append, head2_length, mid_length, pk_length]
  have : resp = (head2 ++ (mid ++ pk)) ++ dualSig pk "ESW-LINK" keyHash [] [] := by simp only [resp, List.append_assoc]
  rw [this, List.drop_left' h, List.take_of_length_le (Nat.le_of_eq (dualSig_length ..))]

theorem resp_verifies (s : State) (fp : Bool) (hf : fp = true → (s.link 2).ident.fp = sha3 pk) (hr : (s.link 2).ident.raw = raw0)
    (ho : (s.link 2).offer = offer0) : (fp = true → s.fpMatches 2 resp = true) ∧ s.sigsValid 2 resp = true := by
  constructor
  · intro h; rw [State.fpMatches, resp_keys, hf h]; simp
  · rw [State.sigsValid, State.keyingHash, resp_keys, resp_hashed, resp_sigs, hr, ho, ← keyHash, dualValid_dualSig]

/-- LinkKeying, the clauses of KEYING_VERIFY_DONE: k1, k2 (accepted), k3, k4 (the fingerprint differs). -/
theorem wit_LinkKeying_verify :
    (∀ s ∈ [k1, k2, k3, k4], s.slk.length = 48 ∧ s.sigBusy 1 = false) ∧
    (∀ s ∈ [k1, k2, k3, k4], (s.link 2).response = some resp) ∧
    (∀ s ∈ [k1, k2], s.fpMatches 2 resp = true ∧ s.sigsValid 2 resp = true) ∧
    (∀ s ∈ [k3, k4], s.fpMatches 2 resp = false ∨ s.sigsValid 2 resp = false) ∧
    (∀ s ∈ [k1, k4], (s.link 2).rekeying = false) ∧ (∀ s ∈ [k2, k3], (s.link 2).rekeying = true) := by
  and_intros
  · decide +kernel
  · intro s h; simp only [List.mem_cons, List.not_mem_nil, or_false] at h; rcases h with rfl | rfl | rfl | rfl <;> rfl
  · intro s h; simp only [List.mem_cons, List.not_mem_nil, or_false] at h; rcases h with rfl | rfl
    · exact ⟨(resp_verifies k1 true (fun _ => rfl) rfl rfl).1 rfl, (resp_verifies k1 true (fun _ => rfl) rfl rfl).2⟩
    · exact ⟨(resp_verifies k2 true (fun _ => rfl) rfl rfl).1 rfl, (resp_verifies k2 true (fun _ => rfl) rfl rfl).2⟩
  · have h0 : sha3 pk ≠ [] := by intro h; have := congrArg List.length h; simp [sha3] at this
    intro s h; simp only [List.mem_cons, List.not_mem_nil, or_false] at h; rcases h with rfl | rfl <;> left <;> rw [State.fpMatches, resp_keys]
    · exact decide_eq_false h0
    · exact decide_eq_false h0
  · decide +kernel
  · decide +kernel

/-! ### LinkAdmission: protected messages under K_UP -/

def key0 : List Nat := List.replicate 96 3

/-- The protected message `type` with MSG_CTR 1 that the terminal sends. -/
def protect (type : Nat) (body : List Nat) : List Nat :=
  mgmtHead type 1 body.length 1 ++ gcmSeal ((key0.drop 64).take 32) (gcmNonce 0x55 1) (mgmtHead type 1 body.length 1) body

theorem protect_opens (s : State) (type : Nat) (body : List Nat) (hk : (s.link 2).keys = some key0) (hc : (s.link 2).ctrUp = 0)
    (hl : leVal (le 2 body.length) = body.length) : s.mgmtOpen 2 (protect type body) = some body := by
  have h12 : (mgmtHead type 1 body.length 1).length = 12 := by simp [mgmtHead]
  have hlen : leAt (protect type body) 2 2 = body.length := by rw [← hl]; simp [leAt, protect, mgmtHead, le]
  have hctr : leAt (protect type body) 4 8 = 1 := by simp [leAt, protect, mgmtHead, le, leVal]
  have hone : byteAt (protect type body) 1 = 1 := rfl
  have htake : (protect type body).take 12 = mgmtHead type 1 body.length 1 := by rw [protect, List.take_left' h12]
  have hdrop : (protect type body).drop 12 =
      gcmSeal ((key0.drop 64).take 32) (gcmNonce 0x55 1) (mgmtHead type 1 body.length 1) body := by rw [protect, List.drop_left' h12]
  simp only [State.mgmtOpen, hk, hc, hctr, hone, hlen, htake, hdrop]
  simp only [Nat.zero_lt_one, and_self, if_true]
  exact gcmOpen_gcmSeal _ _ _ _ _ rfl

def kb : List Nat := le 8 5 ++ List.replicate 8 9
def cfBody (result : Nat) : List Nat := le 4 0 ++ [result, 0, 0, 0]

def a1 : State := (R0.setLink 2 Link.keying).modLink 2 fun l =>
  { l with mgmtIn := [protect 4 kb], mgmt := some ([3, 1] ++ kb), keys := some key0 }
def a2 : State := (R0.setLink 2 Link.run).modLink 2 fun l =>
  { l with mgmtIn := [protect 4 kb], mgmt := some ([3, 1] ++ kb), keys := some key0, rekeying := true, newKeys := some ([1], 9, false) }
def c_ (result : Nat) : State := (R0.setLink 2 Link.configuring).modLink 2 fun l =>
  { l with mgmtIn := [protect 17 (cfBody result)], mgmt := some [16, 1], keys := some key0 }

/-- LinkAdmission, the clauses of KEY_CONFIRM_ACK: a1 in KEYING, a2 during a re-key. -/
theorem wit_LinkAdmission_confirm :
    (∀ s ∈ [a1, a2], 2 < s.variant.links ∧ s.slk.length = 48 ∧ s.stallRec.length = 48 ∧ s.awaits 2 3 = true) ∧
    (∀ s ∈ [a1, a2], (s.link 2).mgmtIn.find? (fun x => decide (byteAt x 0 = 4)) = some (protect 4 kb)) ∧
    (∀ s ∈ [a1, a2], s.mgmtOpen 2 (protect 4 kb) = (s.link 2).mgmt.map (List.drop 2)) ∧
    ((a1.link 2).rekeying = false ∧ a1.linkState 2 = Link.keying) ∧
    ((a2.link 2).rekeying = true ∧ (a2.link 2).newKeys = some ([1], 9, false)) := by
  and_intros
  · decide +kernel
  · intro s h; simp only [List.mem_cons, List.not_mem_nil, or_false] at h; rcases h with rfl | rfl <;> rfl
  · intro s h; simp only [List.mem_cons, List.not_mem_nil, or_false] at h; rcases h with rfl | rfl
    · exact protect_opens a1 4 kb rfl rfl (by decide +kernel)
    · exact protect_opens a2 4 kb rfl rfl (by decide +kernel)
  all_goals decide +kernel

/-- LinkAdmission, the clauses of CONFIG_ACK: results 0, 1 and 2. -/
theorem wit_LinkAdmission_config :
    (∀ r ∈ [0, 1, 2], 2 < (c_ r).variant.links ∧ (c_ r).slk.length = 48 ∧ (c_ r).stallRec.length = 48 ∧ (c_ r).awaits 2 16 = true ∧
      leAt (cfBody r) 0 4 = (c_ r).cfgEpoch 2 ∧ (c_ r).linkState 2 = Link.configuring ∧ byteAt (cfBody r) 4 = r) ∧
    (∀ r ∈ [0, 1, 2], ((c_ r).link 2).mgmtIn.find? (fun x => decide (byteAt x 0 = 17)) = some (protect 17 (cfBody r))) ∧
    (∀ r ∈ [0, 1, 2], (c_ r).mgmtOpen 2 (protect 17 (cfBody r)) = some (cfBody r)) ∧
    (c_ 0).admits 2 (storeNeed 2 1) = true := by
  and_intros
  · decide +kernel
  · intro r h; simp only [List.mem_cons, List.not_mem_nil, or_false] at h; rcases h with rfl | rfl | rfl <;> rfl
  · intro r h; simp only [List.mem_cons, List.not_mem_nil, or_false] at h; rcases h with rfl | rfl | rfl <;> exact protect_opens _ 17 _ rfl rfl (by decide +kernel)
  · decide +kernel

/-! ### TackRoom: images with hash and signatures of the signer's key -/

open Sys2Proof.Tests.WTack Sys2Proof.Tests.WTack.TackRoom

/-- Passing every check of R492 beside hash and signatures, as plain data of the unsealed form. -/
def Passes (s : State) (port new : Nat) (kinds : Nat → Bool) (b : List Nat) : Prop :=
  b.length = 256 + imgLen b + 3373 ∧ imgForm b kinds = true ∧ imgEnc b = false ∧ imgKind b ≠ 0x22 ∧
    ¬ ((leAt b 24 8 ≠ 0 ∨ 0x20 ≤ imgKind b) ∧ leAt b 24 8 ≠ s.get F.GLB_SERIAL) ∧
    s.signerOk (imgKind b) (leAt b 96 4) = true ∧ s.rbOk b = true ∧ ¬ (isTable (imgKind b) = true ∧ imgEpoch b ≤ s.get F.TCK_EPOCH) ∧
    s.payStatus port new b (imgPayload b) = none

theorem Passes.status {s : State} {port new : Nat} {kinds : Nat → Bool} {b : List Nat} (h : Passes s port new kinds b) (keyBad : Bool) :
    s.imgStatus port new (sealImg s b) kinds keyBad = none := by
  obtain ⟨hb, hf, he, hk, hser, hsig, hrb, hep, hp⟩ := h
  exact sealImg_status hb port new kinds keyBad hf hser (fun h => absurd h hk) hsig hrb hep _ (sealImg_plain hb s he)
    (fun h => by rw [he] at h; cases h) hp

theorem Passes.pad {s : State} {port new : Nat} {kinds : Nat → Bool} {b : List Nat} (h : Passes s port new kinds b) (n : Nat)
    (hn : n = b.length) : padTo n (sealImg s b) = sealImg s b := by
  rw [hn, h.1, ← sealImg_length (s := s) h.1, padTo_self]

def stageKinds : Nat → Bool := fun k => decide (k = 1) || isTable k || decide (k = 0x22)

def iBad : List Nat := Img.mk 0x18 0 5 9 0 0 0x100 (List.replicate 32 9)
def iRet : List Nat := Img.mk 0x25 0 0 21 1 0x1234 4 (le 8 0x1234 ++ [4] ++ List.replicate 7 0)

theorem passes_charter : Passes s_6 0 0 (fun k => decide (k = 0x20)) iChar := by unfold Passes; decide +kernel
theorem passes_fw3 : Passes s_3 0 0 stageKinds iFw := by unfold Passes stageKinds; decide +kernel
theorem passes_fw4 : Passes s_4 0 0 stageKinds iFw := by unfold Passes stageKinds; decide +kernel
theorem passes_tab : Passes s_1 0 0 stageKinds iTab := by unfold Passes stageKinds; decide +kernel
theorem passes_bad : Passes s_1 0 0 stageKinds iBad := by unfold Passes stageKinds; decide +kernel
theorem passes_life42 : Passes s_42 0 4 (fun x => decide (x = 0x23)) iLife := by unfold Passes; decide +kernel
theorem passes_life44 : Passes s_44 0 4 (fun x => decide (x = 0x23)) iLife := by unfold Passes; decide +kernel
theorem passes_ret : Passes s_40 0xFF 4 (fun k => decide (k = 0x25)) iRet := by unfold Passes; decide +kernel

/-- TackRoom: CHARTER_LOAD of an image that passes. -/
theorem wit_TackRoom_charter : s_6.Ready 0 7 0x0101 (dOf s_6 0 7) ∧ s_6.sigBusy 3 = false ∧
    s_6.imgStatus 0 0 (padTo (dOf s_6 0 7).length (sealImg s_6 iChar)) (fun k => decide (k = 0x20)) false = none := by
  refine ⟨by unfold State.Ready; decide +kernel, by decide +kernel, ?_⟩
  rw [passes_charter.pad _ (by decide +kernel), passes_charter.status]

/-- TackRoom: IMAGE_STAGE of firmware that passes, during a firmware run (s_4) and without one (s_3). -/
theorem wit_TackRoom_firmware : (∀ s ∈ [s_3, s_4], s.Ready 0 7 0x0D01 (dOf s 0 7) ∧ s.sigBusy 3 = false) ∧ s_3.lan.fw = none ∧
    s_4.lan.fw ≠ none ∧
    s_3.imgStatus 0 0 (padTo (dOf s_3 0 7).length (sealImg s_3 iFw)) stageKinds false = none ∧
    s_4.imgStatus 0 0 (padTo (dOf s_4 0 7).length (sealImg s_4 iFw)) stageKinds false = none ∧
    imgKind (padTo (dOf s_3 0 7).length (sealImg s_3 iFw)) = 1 ∧ imgKind (padTo (dOf s_4 0 7).length (sealImg s_4 iFw)) = 1 := by
  rw [passes_fw3.pad _ (by decide +kernel), passes_fw4.pad _ (by decide +kernel), passes_fw3.status, passes_fw4.status,
    sealImg_kind passes_fw3.1, sealImg_kind passes_fw4.1]
  refine ⟨by unfold State.Ready; decide +kernel, by decide +kernel, by decide +kernel, rfl, rfl, by decide +kernel, by decide +kernel⟩

/-- TackRoom: IMAGE_STAGE of a table that passes and that its block takes (iTab) or rejects (iBad). -/
theorem wit_TackRoom_table : s_1.Ready 0 7 0x0D01 (dOf s_1 0 7) ∧ s_1.sigBusy 3 = false ∧
    (∀ b ∈ [iTab, iBad], s_1.imgStatus 0 0 (padTo (dOf s_1 0 7).length (sealImg s_1 b)) stageKinds false = none) ∧
    (let b := padTo (dOf s_1 0 7).length (sealImg s_1 iTab);
      imgKind b = 0x18 ∧ s_1.tableFail (imgKind b) (imgEpoch b) ((s_1.imgPlain b).getD []) = none) ∧
    (let b := padTo (dOf s_1 0 7).length (sealImg s_1 iBad);
      imgKind b = 0x18 ∧ (s_1.tableFail (imgKind b) (imgEpoch b) ((s_1.imgPlain b).getD [])).isSome = true) := by
  have h1 := passes_tab.pad (dOf s_1 0 7).length (by decide +kernel)
  have h2 := passes_bad.pad (dOf s_1 0 7).length (by decide +kernel)
  refine ⟨by unfold State.Ready; decide +kernel, by decide +kernel, ?_, ?_, ?_⟩
  · intro b hb
    simp only [List.mem_cons, List.not_mem_nil, or_false] at hb
    rcases hb with rfl | rfl
    · rw [h1, passes_tab.status]
    · rw [h2, passes_bad.status]
  · simp only [h1, sealImg_kind passes_tab.1, sealImg_epoch passes_tab.1, sealImg_plain passes_tab.1 s_1 passes_tab.2.2.1]
    decide +kernel
  · simp only [h2, sealImg_kind passes_bad.1, sealImg_epoch passes_bad.1, sealImg_plain passes_bad.1 s_1 passes_bad.2.2.1]
    decide +kernel

/-- TackRoom: LIFECYCLE_SET with the image its transition asks for, allowed (s_42) and not (s_44). -/
theorem wit_TackRoom_life : (∀ s ∈ [s_42, s_44], s.Ready 0 7 0x0D08 (dOf s 0 7) ∧ s.sigBusy 3 = false ∧ (dOf s 0 7).arg 24 1 = 4 ∧
      lifeImage (s.get F.TCK_LIFECYCLE_STATE) 4 = some 0x23) ∧
    s_42.imgStatus 0 4 (padTo (dOf s_42 0 7).length (sealImg s_42 iLife)) (fun x => decide (x = 0x23)) false = none ∧
    s_44.imgStatus 0 4 (padTo (dOf s_44 0 7).length (sealImg s_44 iLife)) (fun x => decide (x = 0x23)) false = none ∧
    s_42.lifeMay 0 3 4 = true ∧ s_44.lifeMay 0 3 4 = false ∧ s_42.get F.TCK_LIFECYCLE_STATE = 3 ∧ s_44.get F.TCK_LIFECYCLE_STATE = 3 ∧
    s_42.changelogFull = false ∧ s_42.stagingUsed + 3608 ≤ 4194304 ∧ s_42.admits 2 (storeNeed 2 1) = true := by
  rw [passes_life42.pad _ (by decide +kernel), passes_life44.pad _ (by decide +kernel), passes_life42.status, passes_life44.status]
  unfold State.Ready
  and_intros <;> decide +kernel

/-- TackRoom: SERVICE_UNLOCK with a token that passes, after BOOT_FAIL. -/
theorem wit_TackRoom_service : s_40.pwr.cold = false ∧ s_40.get F.GLB_BOOT_STATUS_PHASE = 15 ∧ s_40.get F.GLB_BOOT_STATUS_FAIL_CAUSE = 1 ∧
    s_40.get F.TCK_LIFECYCLE_STATE ≠ 5 ∧ s_40.imgStatus 0xFF 4 (sealImg s_40 iRet) (fun k => decide (k = 0x25)) false = none ∧
    s_40.changelogFull = false ∧ s_40.stagingUsed + 3608 ≤ 4194304 ∧ s_40.admits 2 (storeNeed 2 1) = true := by
  rw [passes_ret.status]
  and_intros <;> decide +kernel

/-- CHANGE_WINDOW_OPEN for 900 s with the proof of the pass-phrase key in force. -/
def s_41 : State := T0.withD 0 [mkD 3 7 0xD03 0 (List.replicate 8 0 ++ T0.windowProof 0)]

theorem s_41_proof : s_41.windowProof 0 = T0.windowProof 0 := by
  have h1 : s_41.tck = T0.tck := rfl
  have h2 : s_41.get F.TCK_WIN_NONCE = T0.get F.TCK_WIN_NONCE := by decide +kernel
  have h3 : s_41.get F.GLB_SERIAL = T0.get F.GLB_SERIAL := by decide +kernel
  rw [State.windowProof, State.windowProof, h1, h2, h3]

theorem s_41_table : (s_41.pd 0).table = [mkD 3 7 0xD03 0 (List.replicate 8 0 ++ T0.windowProof 0)] := rfl

theorem s_41_desc : s_41.desc? 0 7 = some (mkD 3 7 0xD03 0 (List.replicate 8 0 ++ T0.windowProof 0)) := by
  rw [State.desc?, s_41_table]
  rfl

theorem s_41_d : dOf s_41 0 7 = mkD 3 7 0xD03 0 (List.replicate 8 0 ++ T0.windowProof 0) := by rw [dOf, s_41_desc]; rfl

/-- TackRoom: CHANGE_WINDOW_OPEN with the right proof. -/
theorem wit_TackRoom_window : s_41.Ready 0 7 0x0D03 (dOf s_41 0 7) ∧ (dOf s_41 0 7).arg 24 2 = 0 ∧
    s_41.flag F.TCK_WIN_STATE_OPEN = false ∧ s_41.tck.opening = none ∧ s_41.flag F.TCK_STATUS_WINDOW_LOCKED = false ∧
    (s_41.tck.ppk ≠ [] ∧ (dOf s_41 0 7).param.drop 8 = s_41.windowProof 0) ∧
    s_41.changelogFull = false ∧ s_41.stagingUsed + 3608 ≤ 4194304 ∧ s_41.admits 2 (storeNeed 2 1) = true := by
  have hr : s_41.Ready 0 7 0x0D03 (dOf s_41 0 7) := by
    rw [s_41_d]
    exact ⟨s_41_desc, rfl, rfl, by decide +kernel, by rw [s_41_table]; exact List.mem_singleton.2 rfl⟩
  refine ⟨hr, by decide +kernel, by decide +kernel, by decide +kernel, by decide +kernel,
    ⟨by decide +kernel, by rw [s_41_d, s_41_proof]; exact List.drop_left' (by decide +kernel)⟩, by decide +kernel, by decide +kernel, by decide +kernel⟩

/-! ### A PASSPHRASE image: ENCRYPTED, so that its TAG covers the header and PAYLOAD_HASH covers the TAG (notes/assumptions/141.md) -/

def passHead : List Nat := iPass.take 256
def passCt : List Nat := List.replicate 1088 5
def passText : List Nat := List.replicate 64 9
def passForm (tag : List Nat) : List Nat := passHead ++ ((passCt ++ (passText ++ tag)) ++ List.replicate 3373 0)

/-- The tag that the device computes over the header of an image whose tag is `tag`. -/
def passTag (tag : List Nat) : List Nat :=
  let img := sealImg s_5 (passForm tag)
  gcmTag (kmac256 (kemSecret (s_5.publicKey 5) passCt) (img.take 32) "ESW-IMG" 32) (List.replicate 12 0) (img.take 256) passText

theorem passHead_length : passHead.length = 256 := by decide +kernel
theorem passCt_length : passCt.length = 1088 := by decide +kernel
theorem passText_length : passText.length = 64 := by decide +kernel

theorem passForm_byteAt (tag : List Nat) (k : Nat) (h : k < 256) : byteAt (passForm tag) k = byteAt passHead k := by
  simp only [byteAt, passForm, List.getD_eq_getElem?_getD]
  rw [List.getElem?_append_left (by rw [passHead_length]; exact h)]

theorem passForm_win (tag : List Nat) (i n : Nat) (h : i + n ≤ 256) : ((passForm tag).drop i).take n = (passHead.drop i).take n := by
  have := passHead_length
  rw [passForm, List.drop_append_of_le_length (by omega), List.take_append_of_le_length (by rw [List.length_drop]; omega)]

theorem passForm_leAt (tag : List Nat) (i n : Nat) (h : i + n ≤ 256) : leAt (passForm tag) i n = leAt passHead i n := by
  rw [leAt, leAt, passForm_win tag i n h]

theorem passForm_zeros (tag : List Nat) (i j : Nat) (h : j < 256) : zeros (passForm tag) i j = zeros passHead i j := by
  have hw : (passForm tag).take (j + 1) = passHead.take (j + 1) := passForm_win tag 0 (j + 1) (by omega)
  rw [zeros, zeros, hw]

theorem passForm_len (tag : List Nat) : imgLen (passForm tag) = 1168 := by
  rw [imgLen, passForm_leAt tag _ _ (by omega)]; decide +kernel

theorem passForm_length (tag : List Nat) (ht : tag.length = 16) : (passForm tag).length = 256 + imgLen (passForm tag) + 3373 := by
  rw [passForm_len]
  simp only [passForm, List.length_append, passHead_length, passCt_length, passText_length, ht]
  rw [List.length_replicate]

theorem passForm_payload (tag : List Nat) (ht : tag.length = 16) : imgPayload (passForm tag) = passCt ++ (passText ++ tag) := by
  have h : (passCt ++ (passText ++ tag)).length = 1168 := by simp only [List.length_append, passCt_length, passText_length, ht]
  rw [imgPayload, passForm_len, passForm, List.drop_left' passHead_length, List.take_left' h]

theorem passForm_form (tag : List Nat) (ht : tag.length = 16) : imgForm (passForm tag) stageKinds = true := by
  have t4 : (passForm tag).take 4 = passHead.take 4 := passForm_win tag 0 4 (by omega)
  simp only [imgForm, passForm_length tag ht, t4, imgKind, imgEnc, imgEpoch, imgRbId, imgPlainLen, passForm_len,
    passForm_byteAt tag _ (show 4 < 256 by omega), passForm_byteAt tag _ (show 5 < 256 by omega), passForm_leAt tag 6 2 (by omega),
    passForm_leAt tag 8 4 (by omega), passForm_leAt tag 12 2 (by omega), passForm_zeros tag 14 15 (by omega),
    passForm_zeros tag 106 127 (by omega), passForm_zeros tag 192 255 (by omega), passForm_zeros tag 100 105 (by omega)]
  decide +kernel

theorem passForm_kind (tag : List Nat) : imgKind (passForm tag) = 0x22 := by
  rw [imgKind, passForm_byteAt tag 5 (by omega)]; decide +kernel

/-- TackRoom: IMAGE_STAGE of a PASSPHRASE image, for every tag that agrees with the header it is part of. -/
theorem wit_TackRoom_pass (tag : List Nat) (ht : tag.length = 16) (hfix : passTag tag = tag) :
    s_5.Ready 0 7 0x0D01 (dOf s_5 0 7) ∧ s_5.sigBusy 3 = false ∧
    s_5.imgStatus 0 0 (padTo (dOf s_5 0 7).length (sealImg s_5 (passForm tag))) stageKinds false = none ∧
    imgKind (padTo (dOf s_5 0 7).length (sealImg s_5 (passForm tag))) = 0x22 ∧
    s_5.changelogFull = false ∧ s_5.stagingUsed + 3608 ≤ 4194304 ∧ s_5.admits 2 (storeNeed 2 1) = true := by
  have hb := passForm_length tag ht
  have hpad : padTo (dOf s_5 0 7).length (sealImg s_5 (passForm tag)) = sealImg s_5 (passForm tag) := by
    have : (dOf s_5 0 7).length = (sealImg s_5 (passForm tag)).length := by
      rw [sealImg_length hb, passForm_len]; decide +kernel
    rw [this, padTo_self]
  have henc : imgEnc (sealImg s_5 (passForm tag)) = true := by
    rw [sealImg_enc hb, imgEnc, passForm_leAt tag 6 2 (by omega)]; decide +kernel
  have hpl : imgPlainLen (sealImg s_5 (passForm tag)) = 64 := by
    rw [imgPlainLen, henc, sealImg_len hb, passForm_len]; rfl
  have hct : (imgPayload (sealImg s_5 (passForm tag))).take 1088 = passCt := by
    rw [sealImg_payload hb, passForm_payload tag ht, List.take_left' passCt_length]
  have hrest : (imgPayload (sealImg s_5 (passForm tag))).drop 1088 = passText ++ tag := by
    rw [sealImg_payload hb, passForm_payload tag ht, List.drop_left' passCt_length]
  have hplain : s_5.imgPlain (sealImg s_5 (passForm tag)) = some (xorBytes passText (gcmStream
      (kmac256 (kemSecret (s_5.publicKey 5) passCt) ((sealImg s_5 (passForm tag)).take 32) "ESW-IMG" 32) (List.replicate 12 0) 64)) := by
    simp only [State.imgPlain, henc, if_true, hct, hrest, hpl, gcmOpen, List.take_left' passText_length,
      List.drop_left' passText_length, passText_length, true_and]
    rw [if_pos]
    exact hfix.symm
  refine ⟨by unfold State.Ready; decide +kernel, by decide +kernel, ?_, ?_, by decide +kernel, by decide +kernel, by decide +kernel⟩
  · rw [hpad]
    refine sealImg_status hb 0 0 stageKinds false (passForm_form tag ht) ?_ (fun _ => by decide +kernel) ?_ ?_ ?_ _ hplain
      (fun _ => rfl) ?_
    · rw [passForm_leAt tag 24 8 (by omega), passForm_kind]; decide +kernel
    · rw [passForm_leAt tag 96 4 (by omega), passForm_kind]; decide +kernel
    · rw [State.rbOk, imgRbId, imgRb, passForm_leAt tag 12 2 (by omega), passForm_leAt tag 16 4 (by omega)]; decide +kernel
    · rw [passForm_kind]; exact fun h => absurd h.1 (by decide +kernel)
    · rw [State.payStatus, passForm_kind]; rfl
  · rw [hpad, sealImg_kind hb, passForm_kind]

end Sys2Proof.Tests.Keyed
end

