-- ==== Sys2Proof/Tests/WAuxLsw.lean ====
section
/-!
SUPPORT. Witnesses: states and operands that meet the hypotheses of the statements about the auxiliary regulators and load switches. Each
docstring lists, for the clauses of the statement in order, the state that meets the hypotheses of each; the theorem says that it does.
-/
namespace Sys2Proof.Tests.WAuxLsw

open Sys2Proof.Machine
set_option maxRecDepth 100000
set_option Elab.async false

namespace Regulators

def A0 : State := (((R0.setB (F.AUXn_CFG_ENABLE 1) true).set (F.AUXn_DIV_RATIO 1) 34133))

def st (s : State) (ph : Nat) : State := ((((s.set (F.AUXn_STATE_PHASE 1) ph).set (F.AUXn_TARGET_TARGET 1) 5000).set (F.AUXn_STATE_MODE 1) 1).set (F.AUXn_MEAS_V_IN 1) 1200).modAux 1 fun a => { a with slew := 100, slewFrom := 5000, slewAt := 0, wanted := true }

def cmdA (s : State) (m f sl t : Nat) : State := s.cmd 0x901 1 [(24,1,m),(25,1,f),(26,2,sl),(28,4,t)]

def lt (s : State) : State := ((s.setB (F.AUXn_FAULT_OV 1) true).setB (F.AUXn_FAULT_LATCHED 1) true)

def P4 : State := (st A0 4).setB (F.AUXn_STATE_PGOOD 1) true

def s_1 : State := cmdA A0 3 0 0 0

def s_2 : State := cmdA ((lt (st A0 0)).set (F.AUXn_MEAS_V_OUT 1) 9000) 1 1 0 5000

def s_3 : State := cmdA (lt A0) 1 0 0 5000

def s_4 : State := cmdA (R0.set (F.AUXn_DIV_RATIO 1) 34133) 1 0 0 5000

def s_5 : State := ((P4.modAux 1 fun a => { a with wait := some (1, 9) }).withD 1 [{ mkD 9 4 0x901 1 with phase := .taken }]) |> fun s => cmdA s 2 0 0 0

def s_6 : State := cmdA P4 0 0 0 0

def s_7 : State := cmdA A0 1 0 0 5000

def s_8 : State := cmdA P4 1 0 0 3300

def wt (s : State) : State := (s.withD 0 [{ mkD 3 7 0x901 1 with phase := .taken }]).modAux 1 fun a => { a with wait := some (0, 3) }

def s_10 : State := wt ((st A0 5).setB (F.AUXn_STATE_PGOOD 1) true)

def s_11 : State := wt ((st A0 6).set (F.AUXn_STATE_MODE 1) 0)

def s_12 : State := st A0 1

def s_15 : State := (st A0 7).modAux 1 fun a => { a with hiccups := 8 }

def s_16 : State := (st A0 7).modAux 1 fun a => { a with hiccups := 3 }

def s_17 : State := (st A0 8).modAux 1 fun a => { a with braked := 4 }

def s_18 : State := (st A0 0).setB (F.AUXn_STATE_VIN_UV 1) true

def s_19 : State := P4.modRel fun r => { r with running := true, auxes := [1] }

def s_20 : State := (s_19.set (F.AUXn_BOOT_TARGET 1) 3300)

/-- Regulators by clause: s_1, s_2, s_3, s_4, s_5, s_5, s_6, s_7, s_8, s_10, s_10, s_11, s_12, s_12, s_10, s_11, s_19, s_19, s_19, s_19, s_15, s_16, s_17, s_10,
      s_18, s_19, s_20, s_19, s_19. -/
theorem wit_Regulators :
    (∀ s ∈ [s_1, s_2, s_3, s_4, s_5, s_6, s_7, s_8, s_10, s_11, s_12, s_19, s_15, s_16, s_17, s_18, s_20], s.aux.length = 4) ∧
    (∀ s ∈ [s_1, s_2, s_3, s_4, s_5, s_6, s_7, s_8, s_10, s_11, s_12, s_19, s_15, s_16, s_17, s_18, s_20], s.domainOn 14 = true) ∧
    (∀ s ∈ [s_1, s_2, s_3, s_4, s_5, s_6, s_7, s_8], s.Ready 0 7 2305 (dOf s 0 7)) ∧
    (∀ s ∈ [s_1, s_2, s_3, s_4, s_5, s_6, s_7, s_8], (dOf s 0 7).target = 1) ∧
    (∀ s ∈ [s_1, s_2, s_3, s_4, s_5, s_6, s_7, s_8], (s.au 1).wait ≠ some (0, (dOf s 0 7).num)) ∧
    (2 < (dOf s_1 0 7).arg 24 1 ∨ 1 < (dOf s_1 0 7).arg 25 1 ∨ 1000 < (dOf s_1 0 7).arg 26 2 ∨ (dOf s_1 0 7).arg 24 1 ≠ 1 ∧ (dOf s_1 0
      7).arg 28 4 ≠ 0 ∨ (dOf s_1 0 7).arg 24 1 = 1 ∧ ((dOf s_1 0 7).arg 28 4 * 4096 < 300 * s_1.get (F.AUXn_DIV_RATIO 1) ∨ 1200 *
      s_1.get (F.AUXn_DIV_RATIO 1) < (dOf s_1 0 7).arg 28 4 * 4096)) ∧
    (∀ s ∈ [s_2, s_3, s_4, s_5, s_6, s_7, s_8], ¬(2 < (dOf s 0 7).arg 24 1 ∨ 1 < (dOf s 0 7).arg 25 1 ∨ 1000 < (dOf s 0 7).arg 26 2 ∨ (dOf s
      0 7).arg 24 1 ≠ 1 ∧ (dOf s 0 7).arg 28 4 ≠ 0 ∨ (dOf s 0 7).arg 24 1 = 1 ∧ ((dOf s 0 7).arg 28 4 * 4096 < 300 * s.get
      (F.AUXn_DIV_RATIO 1) ∨ 1200 * s.get (F.AUXn_DIV_RATIO 1) < (dOf s 0 7).arg 28 4 * 4096))) ∧
    ((dOf s_2 0 7).arg 25 1 = 1) ∧
    (s_2.auxOvStill 1 = true) ∧
    ((dOf s_3 0 7).arg 25 1 = 0) ∧
    (s_3.flag (F.AUXn_FAULT_LATCHED 1) = true) ∧
    (∀ s ∈ [s_4, s_5, s_6, s_7, s_8], (dOf s 0 7).arg 25 1 = 0 ∧ s.flag (F.AUXn_FAULT_LATCHED 1) = false ∨ (dOf s 0 7).arg 25 1 = 1 ∧
      s.auxOvStill 1 = false) ∧
    (s_4.flag (F.AUXn_CFG_ENABLE 1) = false) ∧
    (∀ s ∈ [s_5, s_6, s_7, s_8], s.flag (F.AUXn_CFG_ENABLE 1) = true) ∧
    ((s_5.au 1).wait = some (1, 9)) ∧
    ((s_5.pd 1).table.find? (fun x => decide (x.num = 9 ∧ x.phase ≠ DescPhase.finished)) = some (wOf s_5 1 9)) ∧
    ((dOf s_5 0 7).arg 24 1 = 2) ∧
    ((dOf s_6 0 7).arg 24 1 = 0) ∧
    (∀ s ∈ [s_6, s_8, s_19, s_20], s.auxPhase 1 = 4) ∧
    (∀ s ∈ [s_7, s_8], (dOf s 0 7).arg 24 1 = 1) ∧
    (s_7.auxPhase 1 = 0) ∧
    (∀ s ∈ [s_7, s_16, s_10], s.flag (F.AUXn_STATE_VIN_UV 1) = false) ∧
    (s_8.auxRef 1 ≠ (dOf s_8 0 7).arg 28 4) ∧
    (∀ s ∈ [s_10, s_11], (s.au 1).wait = some (0, 3)) ∧
    (∀ s ∈ [s_10, s_11], (s.pd 0).table.find? (fun x => decide (x.num = 3 ∧ x.phase ≠ DescPhase.finished)) = some (wOf s 0 3)) ∧
    (s_10.get (F.AUXn_STATE_MODE 1) = 1) ∧
    (s_10.flag (F.AUXn_STATE_PGOOD 1) = true) ∧
    (s_10.auxPhase 1 = 5) ∧
    (s_11.auxPhase 1 = 6) ∧
    (s_12.auxPhase 1 = 1) ∧
    (0 + Max.max 2000 (2 * 0) < 9000) ∧
    (0 ≤ 0 + Max.max 2000 (2 * 0)) ∧
    (s_10.auxPhase 1 = 3 ∨ s_10.auxPhase 1 = 5) ∧
    (2 * 0 < s_19.auxRef 1) ∧
    (s_19.auxRef 1 * (100 + s_19.get (F.AUXn_PROT_OV_TRIP 1)) < 9000 * 100) ∧
    (s_19.auxRef 1 * (1000 + s_19.get (F.AUXn_PROT_OV_BRAKE 1)) < 5600 * 1000) ∧
    (s_19.auxRef 1 * s_19.get (F.AUXn_PROT_PG_PCT 1) < ((↑0 : Int) - (↑(s_19.auxRef 1) : Int)).natAbs * 1000) ∧
    (∀ s ∈ [s_15, s_16], s.auxPhase 1 = 7) ∧
    (8 ≤ (s_15.au 1).hiccups) ∧
    ((s_16.au 1).hiccups < 8) ∧
    (s_17.auxPhase 1 = 8) ∧
    ((s_17.au 1).braked = 4) ∧
    (0 * 2000 < s_17.auxRef 1 * (2000 + s_17.get (F.AUXn_PROT_OV_BRAKE 1))) ∧
    (s_18.flag (F.AUXn_STATE_VIN_UV 1) = true) ∧
    ((s_18.au 1).wanted = true) ∧
    (∀ s ∈ [s_19, s_20], 1 ∈ s.rel.auxes) ∧
    (s_19.get (F.AUXn_BOOT_TARGET 1) = 0) ∧
    (s_20.get (F.AUXn_BOOT_TARGET 1) ≠ 0) ∧
    (s_20.rel.off = false) ∧
    (s_20.auxRef 1 ≠ s_20.get (F.AUXn_BOOT_TARGET 1)) ∧
    (s_19.domainOn 4 = true) ∧
    (s_19.hasRight 0 0 = true) ∧
    (1 ≤ R0.get (F.AUXn_CFG_RIPPLE 1)) ∧
    (R0.get (F.AUXn_CFG_RIPPLE 1) ≤ 15) ∧
    (20 ≤ R0.get (F.AUXn_CFG_FSW 1)) ∧
    (R0.get (F.AUXn_CFG_FSW 1) ≤ 200) ∧
    (R0.get (F.AUXn_CFG_RIPPLE 1) = s_19.get (F.AUXn_CFG_RIPPLE 1) ∧ R0.get (F.AUXn_CFG_FSW 1) = s_19.get (F.AUXn_CFG_FSW 1)) ∧
    (¬(R0.get (F.AUXn_CFG_RIPPLE 1) = s_19.get (F.AUXn_CFG_RIPPLE 1) ∧ 20 = s_19.get (F.AUXn_CFG_FSW 1))) := by
  unfold State.Ready; and_intros <;> decide +kernel

end Regulators

namespace LoadSwitches

def L0 : State := R0.setB (F.LSW_Cn_CFG_ENABLE 5) true

def cl (s : State) (m : Nat) : State := s.cmd 0xA01 5 [(24,1,m)]

def on (s : State) : State := (s.setB (F.LSW_Cn_STATE_OUT_ON 5) true).setB (F.LSW_Cn_STATE_CMD_ON 5) true

def s_1 : State := cl L0 2

def s_2 : State := cl (L0.setB (F.LSW_Gg_STATE_HALTER_DROP 1) true) 1

def s_3 : State := cl R0 1

def s_4 : State := cl (L0.setB (F.LSW_Cn_CFG_SOURCE 5) true) 1

def s_5 : State := cl (L0.setB (F.LSW_Cn_FAULT_LATCHED 5) true) 1

def s_6 : State := cl (on L0) 0

def s_7 : State := cl L0 1

def s_8 : State := cl (L0.setB (F.LSW_Gg_STATE_UV 1) true) 1

def wt (s : State) : State := (s.withD 0 [{ mkD 3 7 0xA01 5 with phase := .taken }]).modCh 5 fun a => { a with wait := some (0, 3), peak := 70 }

def s_9 : State := wt ((on L0).setB (F.LSW_Cn_STATE_INRUSH 5) true)

def s_10 : State := wt ((L0.setB (F.LSW_Gg_STATE_UV 1) true).setB (F.LSW_Cn_STATE_CMD_ON 5) true)

def s_13 : State := (L0.setB (F.LSW_Cn_CFG_SOURCE 5) true)

def s_14 : State := (on s_13).setB (F.LSW_Cn_STATE_LSIN 5) true

def s_15 : State := (s_13.setB (F.LSW_Cn_CFG_INVERT 5) true)

def s_16 : State := (on L0).modRel fun r => { r with running := true, chans := [5, 6] }

def fc (s : State) (m : Nat) : State := s.cmd 0xA02 5 [(24,1,m)]

def s_17 : State := fc L0 4

def s_19 : State := fc ((L0.setB (F.LSW_Gg_STATE_GROUP_OT 1) true).set (F.LSW_Gg_STATE_TEMP 1) 65000) 3

/-- LoadSwitches by clause: s_1, s_2, s_3, s_4, s_5, s_6, s_7, s_8, s_9, s_10, s_14, s_9, s_14, s_14, s_14, s_5, s_15, s_4, s_5, s_5, s_8, s_5, s_16, s_17, s_19,
      s_5, s_14. -/
theorem wit_LoadSwitches :
    (∀ s ∈ [s_1, s_2, s_3, s_4, s_5, s_6, s_7, s_8, s_9, s_10, s_14, s_15, s_16, s_17, s_19], s.lsw.length = 16) ∧
    (∀ s ∈ [s_1, s_2, s_3, s_4, s_5, s_6, s_7, s_8, s_9, s_10, s_14, s_15, s_16, s_17, s_19], s.domainOn 15 = true) ∧
    (∀ s ∈ [s_1, s_2, s_3, s_4, s_5, s_6, s_7, s_8], s.Ready 0 7 2561 (dOf s 0 7)) ∧
    (∀ s ∈ [s_1, s_2, s_3, s_4, s_5, s_6, s_7, s_8, s_17, s_19], (dOf s 0 7).target = 5) ∧
    (∀ s ∈ [s_1, s_2, s_3, s_4, s_5, s_6, s_7, s_8], (s.ch 5).wait ≠ some (0, (dOf s 0 7).num)) ∧
    (1 < (dOf s_1 0 7).arg 24 1) ∧
    (∀ s ∈ [s_2, s_3, s_4, s_5, s_6, s_7, s_8], (dOf s 0 7).arg 24 1 ≤ 1) ∧
    (s_2.flag (F.LSW_Gg_STATE_HALTER_DROP (5 / 4)) = true) ∧
    (∀ s ∈ [s_3, s_4, s_5, s_6, s_7, s_8], s.flag (F.LSW_Gg_STATE_HALTER_DROP (5 / 4)) = false) ∧
    (s_3.flag (F.LSW_Cn_CFG_ENABLE 5) = false) ∧
    (∀ s ∈ [s_4, s_5, s_6, s_7, s_8], s.flag (F.LSW_Cn_CFG_ENABLE 5) = true) ∧
    (∀ s ∈ [s_4, s_15], s.flag (F.LSW_Cn_CFG_SOURCE 5) = true) ∧
    (∀ s ∈ [s_5, s_6, s_7, s_8], s.flag (F.LSW_Cn_CFG_SOURCE 5) = false) ∧
    (s_5.flag (F.LSW_Cn_FAULT_LATCHED 5) = true) ∧
    (∀ s ∈ [s_6, s_7, s_8], s.flag (F.LSW_Cn_FAULT_LATCHED 5) = false) ∧
    ((dOf s_6 0 7).arg 24 1 = 0) ∧
    (∀ s ∈ [s_7, s_8], (dOf s 0 7).arg 24 1 = 1) ∧
    (∀ s ∈ [s_7, s_5], s.flag (F.LSW_Gg_STATE_UV (5 / 4)) = false) ∧
    (∀ s ∈ [s_7, s_8, s_5], s.flag (F.LSW_Cn_STATE_OUT_ON 5) = false) ∧
    (∀ (x : Nat), (s_7.ch 5).offAt = some x → x + 5000000 ≤ s_7.chrono) ∧
    (∀ s ∈ [s_8, s_10], s.flag (F.LSW_Gg_STATE_UV (5 / 4)) = true) ∧
    (∀ s ∈ [s_9, s_10], (s.ch 5).wait = some (0, 3)) ∧
    (∀ s ∈ [s_9, s_10], (s.pd 0).table.find? (fun x => decide (x.num = 3 ∧ x.phase ≠ DescPhase.finished)) = some (wOf s 0 3)) ∧
    (s_9.flag (F.LSW_Cn_STATE_INRUSH 5) = true) ∧
    (∀ s ∈ [s_14, s_9], s.flag (F.LSW_Cn_STATE_OUT_ON 5) = true) ∧
    (s_14.flag (F.LSW_Cn_STATE_INRUSH 5) = false) ∧
    (s_14.get (F.LSW_Cn_OPEN_OPEN_MA 5) ≠ 0) ∧
    (∀ s ∈ [s_15, s_4], s.flag (F.LSW_Cn_STATE_LSIN 5) ≠ true) ∧
    (true = s_15.flag (F.LSW_Cn_CFG_INVERT 5)) ∧
    (true ≠ s_4.flag (F.LSW_Cn_CFG_INVERT 5)) ∧
    (s_4.lswMay 5 = true) ∧
    (s_5.flag (F.LSW_Gg_STATE_GROUP_OT (5 / 4)) = false) ∧
    (s_16.rel.chans = [5, 6]) ∧
    (∀ s ∈ [s_17, s_19], s.Ready 0 7 2562 (dOf s 0 7)) ∧
    (3 < (dOf s_17 0 7).arg 24 1) ∧
    ((dOf s_19 0 7).arg 24 1 ≤ 3) ∧
    (∀ s ∈ [s_5, s_14], s.domainOn 4 = true) ∧
    (∀ s ∈ [s_5, s_14], s.hasRight 0 0 = true) := by
  unfold State.Ready; and_intros <;> decide +kernel

end LoadSwitches

end Sys2Proof.Tests.WAuxLsw
end

