-- ==== Sys2Proof/Tests/WBilling.lean ====
section
/-!
SUPPORT. Witnesses: states and operands that meet the hypotheses of the statements about Billing. Each
docstring lists, for the clauses of the statement in order, the state that meets the hypotheses of each; the theorem says that it does.
-/
namespace Sys2Proof.Tests.WBilling

open Sys2Proof.Machine
set_option maxRecDepth 100000
set_option Elab.async false

def bl (s : State) (f : Bil → Bil) : State := s.modBil f

def B0 : State := ((bl R0 fun b => { b with genesis := true, ivEnd := 900 * 65536, ivMin := 15, clk := ⟨1000 * 65536 * wallUnit, 1000000, 0, 0⟩ }).set F.TCK_LIFECYCLE_STATE 3).setB F.BIL_TIME_STATUS_VALID true

def cq : List Nat := let t := List.replicate 3000 0; let o := calDay t (calDayType t (calLocal t B0.wall / 65536 / 86400)); (t.set o 1).set (o + 6) 3

def cf : List Nat := let t := List.replicate 3000 0; let o := calDay t (calDayType t (calLocal t B0.wall / 65536 / 86400)); (t.set (o + 1) 1).set (o + 43) 255

namespace WallTime

def s_1 : State := B0.cmd 0x601 0xFFFF [(32,1,2)]

def s_2 : State := B0.cmd 0x601 0xFFFF [(40,8,251000001)]

def s_3 : State := B0.cmd 0x601 0xFFFF [(24,8,1001*65536),(32,1,1),(33,1,200)]

def s_4 : State := B0.cmd 0x601 0xFFFF [(24,8,1002*65536)]

def s_6 : State := bl B0 fun b => { b with stepWait := [(999999, 2000*65536, 0, 3)] }

def s_7 : State := B0.setB F.BIL_TIME_STATUS_SLEWING true

def s_9 : State := bl B0 fun b => { b with calTab := cq, ivEnd := 1800 * 65536 }

def s_10 : State := bl B0 fun b => { b with calTab := cq, frozen := true }

/-- WallTime by clause: s_10, s_1, s_2, s_3, s_4, s_6, s_7, s_10, s_9, s_10. -/
theorem wit_WallTime :
    (∀ s ∈ [s_1, s_2, s_3, s_4], s.Ready 0 7 1537 (dOf s 0 7)) ∧
    (1 < (dOf s_1 0 7).arg 32 1) ∧
    ((dOf s_2 0 7).arg 40 8 ≠ 0) ∧
    (s_2.chrono + 250000000 < (dOf s_2 0 7).arg 40 8 ∨ (dOf s_2 0 7).arg 40 8 + 250000000 < s_2.chrono) ∧
    (∀ s ∈ [s_3, s_4], (dOf s 0 7).arg 40 8 = 0) ∧
    (∀ s ∈ [s_3, s_4], s.bil.genesisWall ≤ (dOf s 0 7).arg 24 8) ∧
    ((dOf s_3 0 7).arg 32 1 = 1) ∧
    ((dOf s_3 0 7).arg 33 1 ≤ 200) ∧
    (-(5 * twoSeconds) ≤ (↑((dOf s_3 0 7).arg 24 8) : Int) * wallUnit - s_3.bil.clk.fine s_3.chrono) ∧
    ((↑((dOf s_3 0 7).arg 24 8) : Int) * wallUnit - s_3.bil.clk.fine s_3.chrono ≤ 5 * twoSeconds) ∧
    ((dOf s_4 0 7).arg 32 1 = 0) ∧
    ((dOf s_4 0 7).arg 33 1 = 0) ∧
    (-twoSeconds ≤ (↑((dOf s_4 0 7).arg 24 8) : Int) * wallUnit - s_4.bil.clk.fine s_4.chrono) ∧
    ((↑((dOf s_4 0 7).arg 24 8) : Int) * wallUnit - s_4.bil.clk.fine s_4.chrono ≤ twoSeconds) ∧
    (s_6.bil.stepWait = [(999999, 2000 * 65536, 0, 3)]) ∧
    ((999999, 2000 * 65536, 0, 3).fst ≤ s_6.chrono) ∧
    (s_7.flag F.BIL_TIME_STATUS_SLEWING = true) ∧
    (∀ s ∈ [s_10, s_9], s.metersOn = true) ∧
    (∀ s ∈ [s_10, s_9], s.flag F.BIL_TIME_STATUS_VALID = true) ∧
    (s_10.bil.ivEnd ≤ s_10.wall) ∧
    (s_10.noInterval = false) ∧
    (s_9.wall < s_9.bil.ivEnd) ∧
    (s_10.bil.frozen = true) ∧
    (s_10.get F.BIL_LAST_SWITCH ≤ s_10.wall) := by
  unfold State.Ready; and_intros <;> decide +kernel

end WallTime

namespace ReadingsAndPrepay

def s_1 : State := R0.cmd 0x602 3

def s_2 : State := B0.cmd 0x602 3 [(24,1,1)]

def s_3 : State := B0.cmd 0x603 0xFFFF [(24,1,2)]

def s_4 : State := B0.cmd 0x603 0xFFFF [(32,8,5),(40,4,1024)]

def s_5 : State := B0.cmd 0x603 0xFFFF [(32,8,0),(40,4,1)]

def rd : Reading := Reading.plain 0x05 none []

def s_6 : State := bl B0 fun b => { b with journal := [rd, rd] }

def s_7 : State := B0.cmd 0x604 0xFFFF [(24,4,65536)]

def s_8 : State := B0.cmd 0x604 0xFFFF [(24,4,65535),(32,8,2^62)]

def s_9 : State := B0.cmd 0x605 0xFFFF [(24,4,9),(32,8,100)]

def s_10 : State := bl (B0.cmd 0x605 0xFFFF [(24,4,9),(32,8,100)]) fun b => { b with accounts := [⟨9, 100, 0, false, false, 0⟩] }

def s_11 : State := B0.cmd 0x606 0xFFFF [(24,4,9)] 32

def s_12 : State := bl B0 fun b => { b with calTab := cf }

def bd : Bind := ⟨5, [], some 9⟩

def s_13 : State := (bl B0 fun b => { b with debits := [⟨1, some 9, 0, 0, false⟩] }).modMet 2 fun m => { m with sess := some ⟨bd, 1, 0, 0, false, false⟩ }

def items3 (s : State) : State := { s with hay := { s.hay with readings := { s.hay.readings with items := [List.replicate 3760 1, List.replicate 3760 2, List.replicate 3760 3] } } }

def s_16 : State := (items3 (B0.cmd 0x603 0xFFFF [(32,8,1),(40,4,1024)] (1024*3760))).set F.BIL_REC_SEQ 3

/-- ReadingsAndPrepay by clause: s_1, s_2, s_3, s_4, s_5, s_16, s_8, s_6, s_7, s_8, s_9, s_10, s_11, s_12, s_13, s_8. -/
theorem wit_ReadingsAndPrepay :
    (∀ s ∈ [s_1, s_2], s.Ready 0 7 1538 (dOf s 0 7)) ∧
    (s_1.mayRecord = false) ∧
    (∀ s ∈ [s_2, s_8, s_9, s_10], s.mayRecord = true) ∧
    (s_2.bil.journal.length + s_2.bil.waiting.length + s_2.bil.takes.length < 1024) ∧
    (∀ s ∈ [s_3, s_4, s_5, s_16], s.Ready 0 7 1539 (dOf s 0 7)) ∧
    (∀ s ∈ [s_3, s_4, s_5, s_16], s.listReads = false) ∧
    (1 < (dOf s_3 0 7).arg 24 1) ∧
    (∀ s ∈ [s_4, s_5, s_16], (dOf s 0 7).arg 24 1 = 0) ∧
    (∀ s ∈ [s_4, s_5, s_16], (dOf s 0 7).arg 25 1 = 0) ∧
    (∀ s ∈ [s_4, s_5, s_16], 1 ≤ (dOf s 0 7).arg 40 4) ∧
    (∀ s ∈ [s_4, s_5, s_16], (dOf s 0 7).arg 40 4 ≤ 1024) ∧
    (∀ s ∈ [s_4, s_5, s_16], (s.region 1).base ≤ (dOf s 0 7).arg 32 8) ∧
    (s_4.get F.BIL_REC_SEQ < (dOf s_4 0 7).arg 32 8) ∧
    ((dOf s_5 0 7).arg 32 8 = s_5.get F.BIL_REC_SEQ) ∧
    ((dOf s_16 0 7).arg 32 8 < (s_16.region 1).base + (s_16.region 1).items.length) ∧
    ((dOf s_16 0 7).arg 32 8 < s_16.get F.BIL_REC_SEQ) ∧
    ((dOf s_16 0 7).arg 40 4 * 3760 ≤ (dOf s_16 0 7).length) ∧
    (∀ s ∈ [s_8, s_6], s.domainOn 7 = true) ∧
    (s_6.bil.journal = [rd, rd]) ∧
    (s_6.domainOn 5 = true) ∧
    (s_6.regionFull 1 = false) ∧
    (∀ s ∈ [s_7, s_8], s.Ready 0 7 1540 (dOf s 0 7)) ∧
    (65535 < (dOf s_7 0 7).arg 24 4) ∧
    (∀ s ∈ [s_8, s_9, s_10, s_11], (dOf s 0 7).arg 24 4 ≤ 65535) ∧
    (∀ s ∈ [s_8, s_9, s_10], (dOf s 0 7).arg 28 1 = 0) ∧
    (∀ s ∈ [s_8, s_9, s_10], 1 ≤ (dOf s 0 7).arg 32 8) ∧
    (∀ s ∈ [s_8, s_9, s_10], (dOf s 0 7).arg 32 8 ≤ 2 ^ 62) ∧
    (∀ s ∈ [s_8, s_9, s_10], (dOf s 0 7).arg 40 8 = 0) ∧
    (∀ s ∈ [s_9, s_10], s.Ready 0 7 1541 (dOf s 0 7)) ∧
    (s_9.liveFine ((dOf s_9 0 7).arg 24 4) + (s_9.pendingOps ((dOf s_9 0 7).arg 24 4) - (↑((dOf s_9 0 7).arg 32 8) : Int)) * 2 ^ 32 <
      -(↑(s_9.acct ((dOf s_9 0 7).arg 24 4)).lim : Int) * 2 ^ 32) ∧
    (-(↑(s_10.acct ((dOf s_10 0 7).arg 24 4)).lim : Int) * 2 ^ 32 ≤ s_10.liveFine ((dOf s_10 0 7).arg 24 4) + (s_10.pendingOps ((dOf s_10 0
      7).arg 24 4) - (↑((dOf s_10 0 7).arg 32 8) : Int)) * 2 ^ 32) ∧
    (s_11.Ready 0 7 1542 (dOf s_11 0 7)) ∧
    (32 ≤ (dOf s_11 0 7).length) ∧
    (calFriendly s_12.bil.calTab s_12.wall = true) ∧
    (calFriendly s_13.bil.calTab s_13.wall = false) ∧
    (∃ x, x ∈ s_13.bil.debits ∧ x.account = some 9) ∧
    (s_13.sessionsOn 9 ≠ []) ∧
    (s_13.liveFine 9 ≤ -(↑(s_13.acct 9).lim : Int) * 2 ^ 32) ∧
    (s_8.flag (if 0 = 0 then F.BIL_TAMPER_CFG_COVER_EN else F.BIL_TAMPER_CFG_TERM_EN) = true) := by
  unfold State.Ready; and_intros <;> decide +kernel

end ReadingsAndPrepay

end Sys2Proof.Tests.WBilling
end

