-- ==== Sys2Proof/Tests/WCanCvu.lean ====
section
/-!
SUPPORT. Witnesses: states and operands that meet the hypotheses of the statements about the CAN controllers and check-value units. Each
docstring lists, for the clauses of the statement in order, the state that meets the hypotheses of each; the theorem says that it does.
-/
namespace Sys2Proof.Tests.WCanCvu

open Sys2Proof.Machine
set_option maxRecDepth 100000
set_option Elab.async false

def fr : CanFrame := ⟨0x123, false, false, false, false, false, 8, [1,2,3,4,5,6,7,8]⟩

namespace CanAndCheckUnits

def md (s : State) (m e : Nat) : State := (((s.set (F.CAN_Cn_CTRL_MODE 3) m).set (F.CAN_Cn_ERR_STATE 3) e).set (F.CAN_Cn_BUF_TX_DEPTH 3) 4).set (F.CAN_Cn_BUF_RX_DEPTH 3) 2

def C0 : State := md R0 1 1

def ct (s : State) (f : CanCtl → CanCtl) : State := s.modCan fun c => { c with ctls := modAt c.ctls 3 f }

def tk (s : State) (op : Nat) : State := s.withD 0 [{ mkD 3 7 op 3 with phase := .taken }]

def tx1 (o : Bool) : CanTx := ⟨0, 3, 5, o, fr⟩

def snd (l : Nat) : List (Nat × Nat × Nat) := [(24,4,0x123),(28,1,0),(29,1,l)]

def s_1 : State := (C0.cmd 0xB01 3 [(24,4,0x123),(28,1,10),(29,1,8)] 8)

def s_2 : State := (md (R0.cmd 0xB01 3 (snd 8) 8) 2 1)

def s_3 : State := (md (R0.cmd 0xB01 3 (snd 8) 8) 1 3)

def s_4 : State := ct (C0.cmd 0xB01 3 (snd 8) 8) fun k => { k with tx := List.replicate 4 ⟨1, 9, 1, false, fr⟩ }

def s_5 : State := ct (C0.cmd 0xB01 3 (snd 8) 8) fun k => { k with tx := List.replicate 3 ⟨1, 9, 1, false, fr⟩ }

def s_6 : State := ct (tk C0 0xB01) fun k => { k with tx := [tx1 true] }

def s_7 : State := ct (tk C0 0xB01) fun k => { k with tx := [tx1 false] }

def s_8 : State := C0.cmd 0xB02 3

def s_9 : State := (md R0 1 3).cmd 0xB02 3

def s_10 : State := ct (tk (md R0 1 3) 0xB02) fun k => { k with waits := [(0, 3, 999000)], recovering := true }

def s_11 : State := C0.setB (F.CAN_Cn_CTRL_NOMATCH 3) true

def s_12 : State := s_11.modCan fun c => { c with fifo := [⟨3, fr, 1, none, false⟩, ⟨3, fr, 1, none, false⟩] }

def s_13 : State := ((C0.modCan fun c => { c with fifo := [⟨3, fr, 1, none, false⟩] }).setB F.CAN_RX_CFG_ENABLE true).set F.CAN_RX_CFG_SIZE_LOG2 4

def s_14 : State := (md R0 3 1).set (F.CAN_Cn_RATE_CANDIDATES 3) 0x1FF

def cv (s : State) : State := (((((s.set (F.CVU_Un_CFG_WIDTH 3) 7).set (F.CVU_Un_XOROUT 3) 0).set (F.CVU_Un_POLY 3) 0x1D).set (F.CVU_Un_INIT 3) 0xFF).set (F.CVU_Un_ALIVE_CFG_CNT_BITS 3) 4).set (F.CVU_Un_ALIVE_CFG_MAX_DELTA 3) 2 |>.set (F.CVU_Un_ALIVE_CFG_SYNC_COUNT 3) 1

def ck (m : Nat) (e : Nat) : State := (cv R0).cmd 0x1001 3 [(24,1,m),(28,4,e)] 9

def s_16 : State := ck 0 0

def s_17 : State := ck 1 5

def s_19 : State := ck 2 0

def crcv : Nat := (cv R0).cvuOut 3 ((cv R0).cvuReg 3 0xFF (padTo 9 [1,2,3]))

def s_20 : State := ck 3 crcv

/-- CanAndCheckUnits by clause: s_1, s_2, s_3, s_4, s_5, s_7, s_6, s_7, s_7, s_12, s_12, s_8, s_9, s_10, s_10, s_12, s_13, s_14, s_14, s_3, s_3, s_3, s_17, s_3, s_17,
      s_3, s_3, s_16, s_17, s_20, s_19. -/
theorem wit_CanAndCheckUnits :
    (∀ s ∈ [s_1, s_2, s_3, s_4, s_5, s_7, s_6, s_12, s_8, s_9, s_10, s_13, s_14, s_17, s_16, s_20, s_19], s.can.ctls.length = 8) ∧
    (∀ s ∈ [s_1, s_2, s_3, s_4, s_5, s_7, s_6, s_12, s_8, s_9, s_10, s_13, s_14], s.domainOn 11 = true) ∧
    (∀ s ∈ [s_1, s_2, s_3, s_4, s_5], s.Ready 0 7 2817 (dOf s 0 7)) ∧
    (∀ s ∈ [s_1, s_2, s_3, s_4, s_5, s_8, s_9, s_16, s_17, s_20, s_19], (dOf s 0 7).target = 3) ∧
    (s_1.canSendOk (dOf s_1 0 7) = false) ∧
    (∀ s ∈ [s_2, s_3, s_4, s_5], s.canSendOk (dOf s 0 7) = true) ∧
    (s_2.get (F.CAN_Cn_CTRL_MODE 3) ≠ 1) ∧
    (∀ s ∈ [s_3, s_4, s_5], s.get (F.CAN_Cn_CTRL_MODE 3) = 1) ∧
    (∀ s ∈ [s_3, s_9, s_10], s.get (F.CAN_Cn_ERR_STATE 3) = 3) ∧
    (∀ s ∈ [s_4, s_5, s_12, s_8], s.get (F.CAN_Cn_ERR_STATE 3) ≠ 3) ∧
    (s_4.get (F.CAN_Cn_BUF_TX_DEPTH 3) ≤ (s_4.ctl 3).tx.length) ∧
    ((s_5.ctl 3).tx.length < s_5.get (F.CAN_Cn_BUF_TX_DEPTH 3)) ∧
    (∀ s ∈ [s_7, s_6], s.canOffered 3 999990 = some ((s.canOffered 3 999990).getD (tx1 true))) ∧
    (∀ s ∈ [s_7, s_6], List.find? (fun y => decide (y.num = ((s.canOffered 3 999990).getD (tx1 true)).num ∧ y.phase ≠ DescPhase.finished))
      (s.pd ((s.canOffered 3 999990).getD (tx1 true)).p).table = some ((List.find? (fun y => decide (y.num = ((s.canOffered 3
      999990).getD (tx1 true)).num ∧ y.phase ≠ DescPhase.finished)) (s.pd ((s.canOffered 3 999990).getD (tx1 true)).p).table).getD
      noDesc)) ∧
    (((s_6.canOffered 3 999990).getD (tx1 true)).oneShot = true) ∧
    (((s_7.canOffered 3 999990).getD (tx1 true)).oneShot = false) ∧
    (List.find? (fun y => decide (y.p = (tx1 false).p ∧ y.num = (tx1 false).num)) (s_7.ctl 3).tx = some (tx1 false)) ∧
    (List.find? (fun y => decide (y.num = (tx1 false).num ∧ y.phase ≠ DescPhase.finished)) (s_7.pd (tx1 false).p).table = some ((List.find?
      (fun y => decide (y.num = (tx1 false).num ∧ y.phase ≠ DescPhase.finished)) (s_7.pd (tx1 false).p).table).getD noDesc)) ∧
    (s_12.get (F.CAN_Cn_CTRL_MODE 3) ≠ 0) ∧
    (∀ s ∈ [s_8, s_9], s.Ready 0 7 2818 (dOf s 0 7)) ∧
    ((s_10.ctl 3).waits = [(0, 3, 999000)]) ∧
    (List.find? (fun y => decide (y.num = 3 ∧ y.phase ≠ DescPhase.finished)) (s_10.pd 0).table = some ((List.find? (fun y => decide (y.num =
      3 ∧ y.phase ≠ DescPhase.finished)) (s_10.pd 0).table).getD noDesc)) ∧
    ((s_10.ctl 3).recovering = true) ∧
    (s_12.get (F.CAN_Cn_CTRL_MODE 3) = 1 ∨ s_12.get (F.CAN_Cn_CTRL_MODE 3) = 2) ∧
    (s_13.can.fifo = [{ ctrl := 3, frame := fr, stamp := 1, filter := none, prio := false : CanRx }]) ∧
    (s_13.flag F.CAN_RX_CFG_ENABLE = true) ∧
    (∀ s ∈ [s_13, s_3], s.pdk.length = 4) ∧
    ((s_13.pd (s_13.get F.CAN_RX_CFG_OWNER)).rings.length = 15) ∧
    (((s_13.pd (s_13.get F.CAN_RX_CFG_OWNER)).ring 14).stopped = false) ∧
    ((((s_13.pd (s_13.get F.CAN_RX_CFG_OWNER)).ring 14).prod + 2 ^ 32 - ((s_13.pd (s_13.get F.CAN_RX_CFG_OWNER)).ring 14).hostIdx) % 2 ^ 32
      < 2 ^ s_13.get F.CAN_RX_CFG_SIZE_LOG2) ∧
    (s_14.get (F.CAN_Cn_CTRL_MODE 3) = 3) ∧
    (bitOf (s_14.get (F.CAN_Cn_RATE_CANDIDATES 3)) 0 = true) ∧
    (∀ s ∈ [s_3, s_17], s.domainOn 4 = true) ∧
    (s_3.mayWrite 0 (724992 + 64 * 3) = true) ∧
    (s_3.mayWrite 0 720908 = true) ∧
    (s_3.flag F.CAN_RX_CFG_ENABLE = false) ∧
    (s_3.domainOn 10 = true) ∧
    (s_3.mayWrite 0 458792 = true) ∧
    (s_3.flag F.DRO_RX_CFG_ENABLE = false) ∧
    (∀ s ∈ [s_17, s_3, s_16, s_20, s_19], s.domainOn 12 = true) ∧
    (∀ s ∈ [s_17, s_3], s.mayWrite 0 (1052684 + 32 * 3) = true) ∧
    (s_17.jobOn 3 = true) ∧
    (s_3.jobOn 3 = false) ∧
    (0 < 2 ^ s_3.cvuWidth 3) ∧
    (s_3.get (F.CVU_Un_POLY 3) < 2 ^ s_3.cvuWidth 3) ∧
    (s_3.get (F.CVU_Un_INIT 3) < 2 ^ s_3.cvuWidth 3) ∧
    (2 ^ s_17.cvuWidth 3 ≤ 256) ∧
    (s_3.mayWrite 0 (1052692 + 32 * 3) = true) ∧
    (0 = 0 ∨ 2 ^ 4 ≤ 0) ∧
    (∀ s ∈ [s_16, s_17, s_20, s_19], s.Ready 0 7 4097 (dOf s 0 7)) ∧
    ((dOf s_16 0 7).arg 24 1 = 0 ∨ (dOf s_16 0 7).arg 24 1 = 1 ∧ s_16.cvuOut 3 (s_16.cvuReg 3 (if bitOf ((dOf s_16 0 7).arg 25 1) 1 = true
      then s_16.get (F.CVU_Un_RUNNING 3) else s_16.get (F.CVU_Un_INIT 3)) (padTo (dOf s_16 0 7).length [1, 2, 3])) = (dOf s_16 0 7).arg
      28 4 % 2 ^ s_16.cvuWidth 3) ∧
    ((dOf s_17 0 7).arg 24 1 = 1 ∨ (dOf s_17 0 7).arg 24 1 = 3) ∧
    (s_17.cvuOut 3 (s_17.cvuReg 3 (if bitOf ((dOf s_17 0 7).arg 25 1) 1 = true then s_17.get (F.CVU_Un_RUNNING 3) else s_17.get
      (F.CVU_Un_INIT 3)) (padTo (dOf s_17 0 7).length [1, 2, 3])) ≠ (dOf s_17 0 7).arg 28 4 % 2 ^ s_17.cvuWidth 3) ∧
    (∀ s ∈ [s_20, s_19], (dOf s 0 7).retried = false) ∧
    ((dOf s_20 0 7).arg 24 1 = 3) ∧
    (s_20.cvuOut 3 (s_20.cvuReg 3 (if bitOf ((dOf s_20 0 7).arg 25 1) 1 = true then s_20.get (F.CVU_Un_RUNNING 3) else s_20.get
      (F.CVU_Un_INIT 3)) (padTo (dOf s_20 0 7).length [1, 2, 3])) = (dOf s_20 0 7).arg 28 4 % 2 ^ s_20.cvuWidth 3) ∧
    ((dOf s_19 0 7).arg 24 1 = 2) := by
  unfold State.Ready; and_intros <;> decide +kernel

end CanAndCheckUnits

end Sys2Proof.Tests.WCanCvu
end

