-- ==== Sys2Proof/Tests/WDrover.lean ====
section
/-!
SUPPORT. Witnesses: states and operands that meet the hypotheses of the statements about the Drover. Each
docstring lists, for the clauses of the statement in order, the state that meets the hypotheses of each; the theorem says that it does.
-/
namespace Sys2Proof.Tests.WDrover

open Sys2Proof.Machine
set_option maxRecDepth 100000
set_option Elab.async false

def cx (s : State) (i : Nat) (f : Ctx → Ctx) : State := s.modCtx i f

def D0 : State := (R0.setLink 2 Link.run).setB (F.DRO_Sn_CFG_ENABLE 2) true

def ht (s : State) (l : List (Nat × List Nat × Nat)) : State := s.modLink 2 fun x => { x with heldTun := l }

namespace SessionTransport

def m3 : List (Nat × List Nat × Nat) := [(3, [1,2,3], 5), (1, [9], 6)]

def rxs (s : State) : State := (((s.setB (F.DRO_Sn_CFG_TUNNEL_MODE 2) true).setB F.DRO_RX_CFG_ENABLE true).set F.DRO_RX_CFG_SIZE_LOG2 4)

def s_1 : State := ht (D0.setB (F.DRO_Sn_CFG_TUNNEL_MODE 2) true) m3

def s_3 : State := ht (rxs D0) [(1, List.replicate 2016 7, 5)]

def s_4 : State := (ht ((D0.set (F.DRO_Sn_CFG_PROTO_EN 2) 63)) [(2, [1], 5)]).modLink 2 fun l => { l with ident := { l.ident with frontEnds := 7 } }

def sm : List Nat := ([0, 1] ++ List.replicate 30 0) ++ [4] ++ List.replicate 30 0

def s_5 : State := let s := cx D0 1 fun c => { c with state := 4, stall := 2, proto := 4, auth := 2, timers := [3], bank := 0 }; { s with dro := { s.dro with banks := [(sm, []), ([], [])] } }

def s_6 : State := (cx D0 1 fun c => { c with state := 4, stall := 2, proto := 4, auth := 2 }).set (F.WLK_Sn_MODE_STATE 2) 3

def s_7 : State := s_6.set (F.SLK_Sn_STATE_STATE 2) 7

def s_8 : State := cx D0 1 fun c => { c with state := 4, stall := 2, proto := 4, conn := true, retries := 5 }

def s_9 : State := cx D0 1 fun c => { c with state := 4, stall := 2, proto := 4, conn := true, retries := 4 }

def s_10 : State := cx D0 1 fun c => { c with state := 6, stall := 2, gen := 77 }

def s_11 : State := let s := cx D0 1 fun c => { c with state := 3, stall := 2, proto := 6, auth := 2, timers := [3], bank := 0 }; { s with dro := { s.dro with banks := [(([0, 1] ++ List.replicate 30 0) ++ [6] ++ List.replicate 30 0, []), ([], [])] } }

/-- SessionTransport by clause: s_1, s_3, s_4, s_5, s_11, s_7, s_8, s_9, s_10. -/
theorem wit_SessionTransport :
    (∀ s ∈ [s_1, s_3, s_4, s_5, s_11, s_7, s_8, s_9, s_10], 2 < s.variant.links) ∧
    (∀ s ∈ [s_1, s_3, s_4, s_5, s_11, s_7, s_8, s_9, s_10], s.slk.length = 48) ∧
    (∀ s ∈ [s_1, s_3, s_4, s_5, s_11, s_7, s_8, s_9, s_10], s.pdk.length = 4) ∧
    (∀ s ∈ [s_1, s_3, s_4, s_5, s_11, s_7, s_8, s_9, s_10], 1 < s.dro.ctxs.length) ∧
    (∀ s ∈ [s_1, s_3, s_4, s_5, s_11, s_7, s_8, s_9, s_10], s.domainOn 10 = true) ∧
    (∀ s ∈ [s_1, s_3, s_4], s.get F.PWR_STATE_STATE ≠ 1) ∧
    ((s_1.link 2).heldTun = [(3, [1, 2, 3], 5), (1, [9], 6)]) ∧
    (∀ s ∈ [s_1, s_3, s_4], s.linkState 2 = Link.run) ∧
    (∀ s ∈ [s_1, s_3], s.flag (F.DRO_Sn_CFG_TUNNEL_MODE 2) = true) ∧
    (s_1.flag F.DRO_RX_CFG_ENABLE = false) ∧
    ((s_3.link 2).heldTun = [(1, List.replicate 2016 7, 5)]) ∧
    (s_3.flag F.DRO_RX_CFG_ENABLE = true) ∧
    (1 ≤ (List.replicate 2016 7).length) ∧
    ((List.replicate 2016 7).length ≤ 2016) ∧
    ((s_3.pd (s_3.get F.DRO_RX_CFG_OWNER)).rings.length = 15) ∧
    (((s_3.pd (s_3.get F.DRO_RX_CFG_OWNER)).ring 13).stopped = false) ∧
    ((((s_3.pd (s_3.get F.DRO_RX_CFG_OWNER)).ring 13).prod + 2 ^ 32 - ((s_3.pd (s_3.get F.DRO_RX_CFG_OWNER)).ring 13).hostIdx) % 2 ^ 32 + 1
      ≤ 2 ^ s_3.get F.DRO_RX_CFG_SIZE_LOG2) ∧
    ((s_4.link 2).heldTun = [(2, [1], 5)]) ∧
    (DroView.sdp false = DroView.sdp false) ∧
    (s_4.flag (F.DRO_Sn_CFG_TUNNEL_MODE 2) = false) ∧
    (s_4.stallCtx 2 = none) ∧
    (s_4.mayOpen 2 = true) := by
  and_intros <;> decide +kernel

/-- SessionTransport, further hypotheses of the same clauses. -/
theorem wit_SessionTransport_2 :
    ([1].length ≤ 1514) ∧
    (s_4.sdpFits 2 2 false = true) ∧
    (s_4.dro.ctxs.length = 128) ∧
    (∃ j, j < s_4.variant.sessions ∧ (s_4.ctx j).state = 0) ∧
    (∀ s ∈ [s_5, s_11, s_7, s_8, s_9], (s.ctx 1).live = true) ∧
    (∀ s ∈ [s_5, s_11, s_7, s_8, s_9], (s.ctx 1).state ≠ 5) ∧
    (∀ s ∈ [s_5, s_11], 3 ∈ (s.ctx 1).timers) ∧
    (machineAt (s_5.smOf 1) (s_5.ctx 1).proto = some ((machineAt (s_5.smOf 1) (s_5.ctx 1).proto).getD 32)) ∧
    (s_5.findTrans 1 ((machineAt (s_5.smOf 1) (s_5.ctx 1).proto).getD 32) 1 3 = none) ∧
    ((s_5.ctx 1).stops = []) ∧
    ((s_5.ctx 1).proto ≠ 6) ∧
    ((s_5.ctx 1).auth ≠ 0) ∧
    (machineAt (s_11.smOf 1) 6 = some ((machineAt (s_11.smOf 1) 6).getD 32)) ∧
    ((s_11.ctx 1).proto = 6) ∧
    ((s_11.ctx 1).state = 3 ∨ (s_11.ctx 1).state = 4) ∧
    ((s_7.ctx 1).host = false) ∧
    (s_7.guardOk 1 6 = true) ∧
    (machineAt (s_7.smOf 1) (s_7.ctx 1).proto = none) ∧
    (∀ s ∈ [s_8, s_9], (s.ctx 1).conn = true) ∧
    (5 ≤ (s_8.ctx 1).retries) ∧
    ((s_9.ctx 1).retries < 5) ∧
    ((s_10.ctx 1).state = 6) := by
  and_intros <;> decide +kernel

end SessionTransport

namespace Authorization

def idh : List Nat := List.replicate 31 0 ++ [77]

def lv (s : State) : State := { s with dro := { s.dro with leaves := [⟨0, [⟨77, 1, 1, 2, 0, 5, 0, 0xFFFFFFFF⟩], false⟩] } }

def wall0 (s : State) : State := s.modBil fun b => { b with clk := ⟨86400 * 100 * 65536 * wallUnit, 1000000, 0, 0⟩ }

def base : State := (wall0 (lv D0)).set (F.DRO_Sn_CFG_AUTH_MODE 2) 1

def lk (s : State) : State := s.modDro fun d => { d with looks := [.ctx 1] }

def s_1 : State := lk <| cx base 1 fun c => { c with state := 2, stall := 2, auth := 1, look := some .first, idHash := idh, idKind := 1 }

def s_2 : State := lk <| cx base 1 fun c => { c with state := 2, stall := 2, auth := 1, look := some .first, idHash := [5], idKind := 1 }

def s_4 : State := cx (D0.set (F.DRO_Sn_CFG_AUTH_MODE 2) 3) 1 fun c => { c with state := 2, stall := 2, auth := 1, idKind := 1 }

def s_6 : State := (cx D0 1 fun c => { c with state := 3, stall := 2, auth := 2, gen := 9 }).modMet 2 fun m => { m with bind := some ⟨9 * 128 + 1, [], none⟩ }

def s_7 : State := ((s_6.modBil fun b => { b with finalSeen := true }).setB F.BIL_TIME_STATUS_VALID true).set F.TCK_LIFECYCLE_STATE 3

def s_8 : State := (cx D0 1 fun c => { c with state := 5, stall := 2, auth := 2, gen := 9 }).modMet 2 fun m => { m with sess := some ⟨⟨9 * 128 + 1, [], none⟩, 1, 0, 0, true, false⟩ }

def s_9 : State := D0.cmd 0x701 0xFFFF [(24,4,5)]

def c2 (s : State) (a : Nat) : State := cx s 1 fun c => { c with state := 2, stall := 2, auth := a, gen := 9 }

def s_10 : State := c2 (D0.cmd 0x701 0xFFFF [(24,4,1153)]) 2

def s_11 : State := c2 (D0.cmd 0x701 0xFFFF [(24,4,1153),(36,4,0x01020304)]) 1

def s_12 : State := c2 (D0.cmd 0x701 0xFFFF [(24,4,1153),(28,1,1)]) 1

def s_13 : State := c2 (D0.cmd 0x701 0xFFFF [(24,4,1153),(28,1,2),(29,1,5)]) 1

/-- Authorization by clause: s_1, s_2, s_13, s_4, s_10, s_7, s_6, s_8, s_9, s_10, s_11, s_12, s_13. -/
theorem wit_Authorization :
    (∀ s ∈ [s_1, s_2, s_13, s_4, s_10, s_7, s_6, s_8, s_9, s_11, s_12], s.dro.ctxs.length = 128) ∧
    (∀ s ∈ [s_1, s_2, s_13, s_4, s_10, s_7, s_6, s_8, s_9, s_11, s_12], s.wbg.met.length = 52) ∧
    (∀ s ∈ [s_1, s_2, s_13, s_4, s_10, s_7, s_6, s_8, s_9, s_11, s_12], s.domainOn 10 = true) ∧
    (∀ s ∈ [s_1, s_2, s_13, s_4, s_11, s_12], (s.ctx 1).live = true) ∧
    (∀ s ∈ [s_1, s_2, s_13, s_4], (s.ctx 1).state ≠ 5) ∧
    (∀ s ∈ [s_1, s_2], (s.ctx 1).look = some LookFor.first) ∧
    (∀ s ∈ [s_1, s_2], s.lookRuns 1 = true) ∧
    (∀ s ∈ [s_1, s_2], s.get (F.DRO_Sn_CFG_AUTH_MODE (s.ctx 1).stall) = 1) ∧
    (s_1.lookup (beVal (s_1.ctx 1).idHash) = (0, some { hash := 77, kind := 1, status := 1, cls := 2, flags := 0, account := 5, from_ := 0, to_ := 4294967295 : Entry })) ∧
    ((s_2.lookup (beVal (s_2.ctx 1).idHash)).fst ≠ 0) ∧
    (∀ s ∈ [s_13, s_4, s_11, s_12], (s.ctx 1).auth = 1) ∧
    (∀ s ∈ [s_13, s_4, s_11, s_12], (s.ctx 1).look = none) ∧
    (s_13.get (F.DRO_Sn_CFG_AUTH_MODE (s_13.ctx 1).stall) ≠ 3) ∧
    (s_4.get (F.DRO_Sn_CFG_AUTH_MODE (s_4.ctx 1).stall) = 3) ∧
    ((s_4.ctx 1).idKind ≠ 0) ∧
    (s_10.stallCtx 2 = some 1) ∧
    ((s_10.ctx 1).auth = 2) ∧
    ((s_10.ctx 1).state ≤ 2) ∧
    (s_10.metered 1 = false) := by
  and_intros <;> decide +kernel

/-- Authorization, further hypotheses of the same clauses. -/
theorem wit_Authorization_2 :
    (∀ s ∈ [s_10, s_7, s_6], s.openingOn 2 = false) ∧
    (∀ s ∈ [s_7, s_6, s_8], s.domainOn 8 = true) ∧
    (∀ s ∈ [s_7, s_6], (s.met 2).bind = some ((s.met 2).bind.getD { handle := 9 * 128 + 1, contract := [], account := none : Bind })) ∧
    (∀ s ∈ [s_7, s_6], (s.met 2).sess = none) ∧
    (∀ s ∈ [s_7, s_6], s.byHandle ((s.met 2).bind.getD { handle := 9 * 128 + 1, contract := [], account := none : Bind }).handle = some 1) ∧
    (s_7.refuses ((s_7.met 2).bind.getD { handle := 9 * 128 + 1, contract := [], account := none : Bind }) = false) ∧
    (s_6.refuses ((s_6.met 2).bind.getD { handle := 9 * 128 + 1, contract := [], account := none : Bind }) = true) ∧
    ((s_6.ctx 1).host = false) ∧
    ((s_8.met 2).sess = some ((s_8.met 2).sess.getD { bind := { handle := 9 * 128 + 1, contract := [], account := none : Bind }, id := 1, start := 0, unmet := 0, ending := true, reset := false : Sess })) ∧
    (((s_8.met 2).sess.getD { bind := { handle := 9 * 128 + 1, contract := [], account := none : Bind }, id := 1, start := 0, unmet := 0, ending := true, reset := false : Sess }).ending
      = true) ∧
    (s_8.mode 2 = 0 ∨ s_8.mode 2 = 5) ∧
    (s_8.contactorClosed 2 = false) ∧
    (∀ s ∈ [s_9, s_10, s_11, s_12, s_13], s.Ready 0 7 1793 (dOf s 0 7)) ∧
    (s_9.byHandle ((dOf s_9 0 7).arg 24 4) = none) ∧
    (∀ s ∈ [s_10, s_11, s_12, s_13], s.byHandle ((dOf s 0 7).arg 24 4) = some 1) ∧
    ((s_10.ctx 1).auth ≠ 1) ∧
    ((dOf s_11 0 7).arg 28 1 = 0) ∧
    ((dOf s_12 0 7).arg 28 1 = 1) ∧
    ((dOf s_13 0 7).arg 28 1 = 2) := by
  unfold State.Ready; and_intros <;> decide +kernel

end Authorization

namespace DroverOpcodes

def c2 (s : State) (f : Ctx → Ctx) : State := cx s 1 fun c => f { c with state := 4, stall := 2, auth := 2, gen := 9 }

def s_1 : State := D0.cmd 0x702 0xFFFF [(24,4,5)]

def s_2 : State := c2 (D0.cmd 0x702 0xFFFF [(24,4,1153)]) fun c => { c with state := 6, cause := 4 }

def s_3 : State := c2 (D0.cmd 0x702 0xFFFF [(24,4,1153)]) fun c => { c with host := true }

def s_5 : State := c2 (D0.cmd 0x703 2 [(24,4,0xFFFFFFFF)] 256) fun c => c

def s_7 : State := D0.cmd 0x703 2 [(24,4,1)]

def s_8 : State := D0.cmd 0x704 2 [(28,1,2)] 63

def s_9 : State := D0.cmd 0x704 2 [(28,1,0),(29,1,1)] 16384

def s_10 : State := (D0.setB (F.DRO_Sn_CFG_TUNNEL_MODE 2) true).cmd 0x704 2 [(28,1,0),(29,1,3)] 100

def s_11 : State := D0.cmd 0x705 0xFFFF [(24,1,1),(25,1,4),(28,4,7)]

def ov (b : Nat) : State := { D0 with dro := { D0.dro with overlay := some ⟨false, 5, [], 0, b⟩ } }

def s_12 : State := ov 0

def s_13 : State := ov 2

/-- DroverOpcodes by clause: s_1, s_2, s_3, s_5, s_7, s_8, s_9, s_10, s_11, s_12, s_13. -/
theorem wit_DroverOpcodes :
    (∀ s ∈ [s_1, s_2, s_3, s_5, s_7, s_8, s_9, s_10, s_11, s_12, s_13], s.dro.ctxs.length = 128) ∧
    (∀ s ∈ [s_1, s_2, s_3], s.Ready 0 7 1794 (dOf s 0 7)) ∧
    (∀ s ∈ [s_1, s_7], s.byHandle ((dOf s 0 7).arg 24 4) = none) ∧
    (∀ s ∈ [s_2, s_3], s.byHandle ((dOf s 0 7).arg 24 4) = some ((s.byHandle ((dOf s 0 7).arg 24 4)).getD 1)) ∧
    ((s_2.ctx ((s_2.byHandle ((dOf s_2 0 7).arg 24 4)).getD 1)).state = 6) ∧
    ((s_3.ctx ((s_3.byHandle ((dOf s_3 0 7).arg 24 4)).getD 1)).state < 5) ∧
    ((s_3.ctx ((s_3.byHandle ((dOf s_3 0 7).arg 24 4)).getD 1)).host = true ∨ (dOf s_3 0 7).arg 28 1 = 1) ∧
    (∀ s ∈ [s_5, s_7], s.Ready 0 7 1795 (dOf s 0 7)) ∧
    ((dOf s_5 0 7).arg 24 4 = 4294967295 ∧ s_5.newestCtx (dOf s_5 0 7).target = some 1 ∨ (dOf s_5 0 7).arg 24 4 ≠ 4294967295 ∧ s_5.byHandle
      ((dOf s_5 0 7).arg 24 4) = some 1) ∧
    ((dOf s_7 0 7).arg 24 4 ≠ 4294967295) ∧
    (∀ s ∈ [s_8, s_9, s_10], s.Ready 0 7 1796 (dOf s 0 7)) ∧
    ((dOf s_8 0 7).arg 28 1 = 2 ∧ (dOf s_8 0 7).length ≠ 64 ∨ (dOf s_8 0 7).arg 28 1 ≠ 2 ∧ ((dOf s_8 0 7).length = 0 ∨ 16384 < (dOf s_8 0
      7).length)) ∧
    (∀ s ∈ [s_9, s_10], (dOf s 0 7).arg 28 1 = 0) := by
  unfold State.Ready; and_intros <;> decide +kernel

/-- DroverOpcodes, further hypotheses of the same clauses. -/
theorem wit_DroverOpcodes_2 :
    (∀ s ∈ [s_9, s_10], 1 ≤ (dOf s 0 7).length) ∧
    (∀ s ∈ [s_9, s_10], (dOf s 0 7).length ≤ 16384) ∧
    (s_9.flag (F.DRO_Sn_CFG_TUNNEL_MODE (dOf s_9 0 7).target) = false) ∧
    (s_10.flag (F.DRO_Sn_CFG_TUNNEL_MODE (dOf s_10 0 7).target) = true) ∧
    (s_11.Ready 0 7 1797 (dOf s_11 0 7)) ∧
    (s_11.dro.looks.length < 16) ∧
    ((s_11.dro.looks.all fun x => match x with | Look.ctx _ => true | Look.op _ _ _ => false) = true) ∧
    (∀ s ∈ [s_12, s_13], s.domainOn 10 = true) ∧
    (∀ s ∈ [s_12, s_13], s.dro.overlay = some (s.dro.overlay.getD { clear := false, serial := 5, entries := [], next := 0, busy := 0 : Overlay })) ∧
    ((s_12.dro.overlay.getD { clear := false, serial := 5, entries := [], next := 0, busy := 0 : Overlay }).busy = 0) ∧
    (s_12.admits 3 (storeNeed 3 1) = true) ∧
    ((s_13.dro.overlay.getD { clear := false, serial := 5, entries := [], next := 0, busy := 0 : Overlay }).busy = 2) ∧
    (s_13.admits 2 (storeNeed 2 1) = true) := by
  unfold State.Ready; and_intros <;> decide +kernel

end DroverOpcodes

end Sys2Proof.Tests.WDrover
end

