-- ==== Sys2Proof/Tests/WHalter.lean ====
section
/-!
SUPPORT. Witnesses: states and operands that meet the hypotheses of the statements about the Halter. Each
docstring lists, for the clauses of the statement in order, the state that meets the hypotheses of each; the theorem says that it does.
-/
namespace Sys2Proof.Tests.WHalter

open Sys2Proof.Machine
set_option maxRecDepth 100000
set_option Elab.async false

namespace EstopLoops

def mp (re : Bool) : LoopMap := { LoopMap.init with mode := 1, safeOut := true, resetEn := re, resetGpio := 9, stalls := 0x800000000006, harness := true, groups := 3 }

def base (s : State) : State := s.setB F.HLT_STATUS_SELFTEST_OK true |>.setB F.HLT_SAFE_OUT_A_ON true |>.setB F.HLT_SAFE_OUT_B_ON true

def M (re : Bool) : State := (base R0).modHlt fun h => { h with maps := [LoopMap.init, mp re, LoopMap.init, mp false] }

def ab (s : State) (a b : Bool) : State := (s.setB (F.HLT_ESTOPk_STATE_A_CLOSED 1) a).setB (F.HLT_ESTOPk_STATE_B_CLOSED 1) b

def aw (s : State) : State := s.setB (F.HLT_ESTOPk_STATE_AWAIT_RESET 1) true

def ch (s : State) (c : Nat) : State := { s with chrono := c }

def s_1 : State := ab (M true) true true

def s_2 : State := ab (M true) true false

def s_5 : State := ch (aw s_1) 3000000000

def s_6 : State := aw (ab (M false) true true)

/-- EstopLoops by clause: s_5, s_2, s_2, s_5, s_6. -/
theorem wit_EstopLoops :
    (∀ s ∈ [s_5, s_2, s_6], s.haltS.length = 48) ∧
    (∀ s ∈ [s_5, s_2, s_6], s.variant.links ≤ 48) ∧
    (∀ s ∈ [s_5, s_2, s_6], (s.loopMap 1).mode = 1) ∧
    (∀ s ∈ [s_5, s_6], s.loopOpen 1 = false) ∧
    (s_2.flag (F.HLT_ESTOPk_STATE_A_CLOSED 1) ≠ s_2.flag (F.HLT_ESTOPk_STATE_B_CLOSED 1)) ∧
    (s_2.flag (F.HLT_ESTOPk_STATE_DISCREPANCY 1) = false) ∧
    (s_2.loopOpen 1 = true) ∧
    (s_2.flag (F.HLT_ESTOPk_STATE_DISCREPANCY 1) = false ∨ s_2.hlt.bothOpen.getD 1 false = true) ∧
    ((s_5.loopMap 1).resetEn = true) ∧
    (∀ s ∈ [s_5, s_6], s.flag (F.HLT_ESTOPk_STATE_AWAIT_RESET 1) = true) ∧
    (s_5.hlt.closedAt.getD 1 0 + 12500000 ≤ s_5.chrono) ∧
    ((s_6.loopMap 1).resetEn = false) := by
  and_intros <;> decide +kernel

end EstopLoops

namespace HaltSafe

def s_3 : State := EstopLoops.s_1.modHlt fun h => { h with maps := [LoopMap.init, { LoopMap.init with mode := 2 }, LoopMap.init, LoopMap.init] }

/-- HaltSafe by clause: s_3, s_3, s_3. -/
theorem wit_HaltSafe :
    (s_3.haltSafe = false) ∧
    (s_3.haltS.length = 48) ∧
    (s_3.variant.links ≤ 48) ∧
    ((Instr.estopInputTest false, 5) ∈ (([(Instr.estopInputTest false, 5), (Instr.halterChannelMismatch, 1), (Instr.halterSupplyFail, 3)] ++
      if 60 < Int.natAbs 60 then [(Instr.halterOscCheck 60, 2)] else []) ++ if true ≠ s_3.safeOut 0 ∨ true ≠ s_3.safeOut 1 then
      [(Instr.safeOutReadbackFault true true, 4)] else []) ++ if 1 < 4 ∧ (s_3.loopMap 1).mode = 2 ∧ s_3.loopOpen 1 ≠ (s_3.safeOut 0 ||
      s_3.safeOut 1) then [(Instr.edmMismatch 1, 6)] else []) ∧
    (Int.natAbs 60 ≤ 60) := by
  and_intros <;> decide +kernel

end HaltSafe

namespace StallStops

def H (f : Halt → Halt) : State := (R0.setLink 2 Link.run).modHalt 2 f

def st (s : State) (w : Nat) : State := s.modLink 2 fun l => { l with status := w }

def s_1 : State := H fun h => { h with overI := 3 }

def s_2 : State := H fun h => { h with sustained := some 5 }

def s_3 : State := { (H fun h => { h with stop := .orderly }) with chrono := 6250000 }

def s_4 : State := H fun h => { h with stop := .orderly, withdrawn := true }

def s_5 : State := st ((H fun h => { h with stop := .emergency, withdrawn := true }).set (F.HLT_Sn_STATE_CAUSE 2) 7) 0x1004

def s_6 : State := s_5.set (F.SLK_Sn_STATE_STATE 2) 5

def s_7 : State := st (H fun h => { h with stop := .orderly, withdrawn := true }) 8

/-- StallStops by clause: s_1, s_2, s_3, s_4, s_6, s_7. -/
theorem wit_StallStops :
    (∀ s ∈ [s_1, s_2, s_3, s_4, s_6, s_7], 2 < s.variant.links) ∧
    (∀ s ∈ [s_1, s_2, s_3, s_4, s_6, s_7], s.haltS.length = 48) ∧
    (∀ s ∈ [s_1, s_2], (s.halt 2).stop = StopKind.none) ∧
    (3 ≤ (s_1.halt 2).overI) ∧
    ((s_2.halt 2).sustained.isSome = true) ∧
    ((s_3.halt 2).stop ≠ StopKind.none) ∧
    (s_3.below5A 2 = true ∧ s_3.get (F.HLT_Sn_STATE_CAUSE 2) ≠ 21 ∨ ((s_3.halt 2).stopAt + if (s_3.halt 2).stop = StopKind.orderly then
      6250000 else 5000000) ≤ s_3.chrono) ∧
    ((s_4.halt 2).stop = StopKind.orderly) ∧
    (∀ s ∈ [s_4, s_7], (s.halt 2).withdrawn = true) ∧
    (∀ s ∈ [s_4, s_6], s.contactorClosed 2 = false) ∧
    ((s_6.halt 2).stop = StopKind.emergency) ∧
    (s_6.causeCleared 2 = true) ∧
    (s_6.twoStepDone 2 = true) ∧
    (s_6.switchesOff 2 = true) ∧
    (s_6.uplinkLive 2 = true) ∧
    ((s_6.halt 2).allOff = 0) ∧
    (s_7.contactorClosed 2 = true) := by
  and_intros <;> decide +kernel

end StallStops

namespace CableSensors

def base : State := ((R0.setLink 2 Link.run).modLink 2 fun l => { l with ident := { l.ident with hkMap := 3 } }).set (F.SLK_Sn_SEAL_COMMITTED 2) 3

def hkv (s : State) : State := s.modLink 2 fun l => { l with hk := [(0, ⟨300, true, 0⟩), (1, ⟨300, true, 0⟩)] }

def s_3 : State := (base.setB (F.HLT_Sn_DEGRADE_SENSOR_MODE 2) true).modHalt 2 fun h => { h with lost0 := true }

def s_4 : State := hkv ((s_3.setB (F.HLT_Sn_LATCH_LOCKOUT 2) true))

def s_5 : State := (base.set (F.WLK_Sn_TYPE_PHASES 2) 4).set (F.WLK_Sn_PHASE_LOST 2) 1

def s_7 : State := ((s_3.set (F.WLK_Sn_MODE_MODE 2) 3).set (F.HLT_Sn_DEGRADE_SENSOR_LEFT 2) 12)

/-- CableSensors by clause: s_5, s_7, s_4. -/
theorem wit_CableSensors :
    (∀ s ∈ [s_5, s_7, s_4], 2 < s.variant.links) ∧
    (∀ s ∈ [s_5, s_7, s_4], s.haltS.length = 48) ∧
    (bitOf (s_5.link 2).ident.hkMap 0 = true) ∧
    ((s_5.halt 2).lost0 = false) ∧
    ((s_5.halt 2).lost1 = false) ∧
    (s_7.flag (F.HLT_Sn_DEGRADE_SENSOR_MODE 2) = true) ∧
    (s_7.flag (F.HLT_Sn_LATCH_LOCKOUT 2) = false) ∧
    ((s_4.hkVal 2 0).isSome = true ∧ (s_4.hkVal 2 1).isSome = true) := by
  and_intros <;> decide +kernel

end CableSensors

namespace HalterOpcodes

def s_1 : State := R0.cmd 0xC01 0 [(24,1,7)]

def s_2 : State := (s_1).modLink 2 fun l => { l with status := 8 }

def pr : State := (R0.withD 0 [{ mkD 3 7 0xC01 0 with phase := .taken }]).modHlt fun h => { h with proof := some (0, 3, 5) }

def s_3 : State := pr

def sc (s : State) (c : Nat) : State := s.cmd 0xC02 2 [(24,1,c)]

def s_4 : State := sc R0 1

def s_6 : State := sc ((R0.modLink 2 fun l => { l with hstat := 0x1000 }).setB (F.HLT_Sn_LATCH_WELD 2) true) 8

def s_7 : State := sc (R0.set (F.WLK_Sn_MODE_MODE 2) 2) 2

def s_8 : State := R0.set F.HLT_PROOF_CFG_DAYS 0

/-- HalterOpcodes by clause: s_2, s_1, s_3, s_3, s_8, s_7, s_4, s_6. -/
theorem wit_HalterOpcodes :
    (∀ s ∈ [s_2, s_1], s.Ready 0 7 3073 (dOf s 0 7)) ∧
    (∀ s ∈ [s_2, s_1], s.hlt.proof = none) ∧
    (s_2.allAtRest = false) ∧
    (s_1.allAtRest = true) ∧
    (s_3.hlt.proof = some (0, 3, 5)) ∧
    ((s_3.pd 0).table.find? (fun x => decide (x.num = 3 ∧ x.phase ≠ DescPhase.finished)) = some (dOf s_3 0 7)) ∧
    (0 &&& 5 = 0) ∧
    (4 &&& 5 ≠ 0) ∧
    (s_8.get F.HLT_PROOF_CFG_DAYS ≤ (s_8.wall - s_8.get F.HLT_PROOF_LAST) / 65536 / 86400) ∧
    (∀ s ∈ [s_7, s_4, s_6], s.Ready 0 7 3074 (dOf s 0 7)) ∧
    (s_7.modeRest (dOf s_7 0 7).target = false ∨ s_7.contactorClosed (dOf s_7 0 7).target = true) ∧
    (∀ s ∈ [s_4, s_6], s.modeRest (dOf s 0 7).target = true) ∧
    (∀ s ∈ [s_4, s_6], s.contactorClosed (dOf s 0 7).target = false) ∧
    ((dOf s_4 0 7).arg 24 1 = 1) ∧
    ((dOf s_6 0 7).arg 24 1 = 8) ∧
    (bitOf (s_6.link (dOf s_6 0 7).target).hstat 12 = true) := by
  unfold State.Ready; and_intros <;> decide +kernel

end HalterOpcodes

end Sys2Proof.Tests.WHalter
end

