-- ==== Sys2Proof/Tests/WHarness.lean ====
section
/-!
SUPPORT. Witnesses: states and operands that meet the hypotheses of the statements about the Harness and Trough. Each
docstring lists, for the clauses of the statement in order, the state that meets the hypotheses of each; the theorem says that it does.
-/
namespace Sys2Proof.Tests.WHarness

open Sys2Proof.Machine
set_option maxRecDepth 100000
set_option Elab.async false

namespace Bridges

def set0 : List Nat × List Nat := ([0x80,1,2,3,4,5,6,0x80],[0x80,6,5,4,3,2,1,0x80])

def H0 : State := (R0.modHrn fun h => { h with commute := [set0] })

def en (b : Nat) (s : State) : State := (s.setB (F.HRN_HBb_CFG_ENABLE b) true).set (F.HRN_HBb_LIMIT_DUTY_CAP b) 8000

def E0 : State := ((en 0 (en 6 H0)).set (F.HRN_HBb_CFG_RAMP 0) 0).set (F.HRN_HBb_CFG_RAMP 6) 0

def bs (s : State) (b m dir dty u mask : Nat) : State := s.cmd 0x801 b [(24,1,m),(25,1,dir),(26,2,dty),(28,2,u),(34,1,mask)]

def s_1 : State := bs E0 0 4 0 0 0 0

def s_2 : State := bs H0 0 1 0 0 0 0

def s_3 : State := bs (E0.setB F.HRN_STATUS_DEVICE_LATCH true) 0 1 0 0 0 0

def s_4 : State := bs (E0.set (F.HRN_HBb_CFG_SOURCE 0) 1) 0 1 0 0 0 0

def s_5 : State := bs E0 0 1 0 0 1 0

def s_6 : State := bs E0 0 2 0 0 0 0

def s_8 : State := bs E0 0 1 0 5000 0 0

def ru (s : State) (b : Nat) : State := (s.set (F.HRN_HBb_CMD_MODE b) 1).modHb b fun h => { h with pattern := some 5, want := [6000,6000,6000], applied := [6000,6000,6000], rampFrom := [6000,6000,6000] }

def B0 : State := ru E0 0

def B6 : State := ru E0 6

def s_12 : State := (B0.modHb 0 fun h => { h with toOff := true })

def s_13 : State := (B0.withD 0 [{ mkD 3 7 0x801 0 with phase := .taken }]).modHb 0 fun h => { h with waits := [(0,3,true)] }

def s_15 : State := B0.modHb 0 fun h => { h with hallBad := true }

def per (s : State) (b : Nat) : Nat := s.chrono * s.get (F.HRN_HBb_CFG_PWM_KHZ b) / 250000 + 1

def s_17 : State := B0.modHb 0 fun h => { h with ocLast := List.replicate 6 (per B0 0 - 1), ocRun := [999,999,1000,999,999,2000] }

def s_18 : State := B6

def s_21 : State := B0.setB (F.HRN_VMOTg_MEAS_CHOP 0) true

/-- Bridges by clause: s_1, s_2, s_3, s_4, s_5, s_6, s_8, s_12, s_13, s_6, s_6, s_15, s_13, s_18, s_17, s_18, s_18, s_6, s_6, s_6, s_6, s_6, s_6, s_6, s_21. -/
theorem wit_Bridges :
    (∀ s ∈ [s_1, s_2, s_3, s_4, s_5, s_6, s_8, s_12, s_13, s_15, s_18, s_17, s_21], s.hrn.bridges.length = 8) ∧
    (∀ s ∈ [s_1, s_2, s_3, s_4, s_5, s_6, s_8, s_12, s_13, s_15, s_18, s_17, s_21], s.domainOn 13 = true) ∧
    (∀ s ∈ [s_1, s_2, s_3, s_4, s_5, s_6, s_8], s.Ready 0 7 2049 (dOf s 0 7)) ∧
    (∀ s ∈ [s_1, s_2, s_3, s_4, s_5, s_6, s_8], (dOf s 0 7).target = 0) ∧
    (3 < (dOf s_1 0 7).arg 24 1 ∨ 1 < (dOf s_1 0 7).arg 25 1 ∨ 9900 < (dOf s_1 0 7).arg 26 2 ∨ (∃ i, i < 3 ∧ 9900 < (dOf s_1 0 7).arg (28 +
      2 * i) 2) ∨ 7 < (dOf s_1 0 7).arg 34 1) ∧
    (∀ s ∈ [s_2, s_3, s_4, s_5, s_6, s_8], ¬(3 < (dOf s 0 7).arg 24 1 ∨ 1 < (dOf s 0 7).arg 25 1 ∨ 9900 < (dOf s 0 7).arg 26 2 ∨ (∃ i, i < 3
      ∧ 9900 < (dOf s 0 7).arg (28 + 2 * i) 2) ∨ 7 < (dOf s 0 7).arg 34 1)) ∧
    (s_2.flag (F.HRN_HBb_CFG_ENABLE 0) = false) ∧
    (∀ s ∈ [s_3, s_4, s_5, s_6, s_8], s.flag (F.HRN_HBb_CFG_ENABLE 0) = true) ∧
    ((s_3.flag (F.HRN_HBb_FAULT_LATCHED 0) || s_3.flag F.HRN_STATUS_DEVICE_LATCH) = true) ∧
    (∀ s ∈ [s_4, s_5, s_6, s_8], (s.flag (F.HRN_HBb_FAULT_LATCHED 0) || s.flag F.HRN_STATUS_DEVICE_LATCH) = false) ∧
    (∀ s ∈ [s_4, s_5, s_6, s_8], s.hlt.harnessOff = false) ∧
    (s_4.get (F.HRN_HBb_CFG_SOURCE 0) ≠ 0) ∧
    (∀ s ∈ [s_5, s_6, s_8], s.get (F.HRN_HBb_CFG_SOURCE 0) = 0) ∧
    (s_5.classMismatch 0 (dOf s_5 0 7) = true) ∧
    (∀ s ∈ [s_6, s_8], s.classMismatch 0 (dOf s 0 7) = false) ∧
    (∀ s ∈ [s_6, s_8], ∀ (w : Nat × Nat × Bool), w ∈ (s.hb 0).waits → (w.fst, w.snd.fst) ≠ (0, (dOf s 0 7).num)) ∧
    ((dOf s_6 0 7).arg 24 1 = 2 ∨ (dOf s_6 0 7).arg 24 1 = 3) ∧
    ((dOf s_8 0 7).arg 24 1 = 1) ∧
    (s_8.get (F.HRN_HBb_CFG_RAMP 0) = 0) ∧
    (¬0 ∈ s_8.rel.bridges) ∧
    (∀ s ∈ [s_12, s_13, s_15, s_17], s.get (F.HRN_HBb_CMD_MODE 0) = 1) ∧
    ((s_12.hb 0).toOff = true) ∧
    ((s_13.hb 0).waits = [(0, 3, true)]) ∧
    ((s_13.pd 0).table.find? (fun x => decide (x.num = 3 ∧ x.phase ≠ DescPhase.finished)) = some (wOf s_13 0 3)) ∧
    ((s_13.hb 0).dir = s_13.get (F.HRN_HBb_CMD_DIRECTION 0)) ∧
    ((s_13.hb 0).toOff = false) ∧
    (s_6.get (F.HRN_HBb_STATE_HALL 0) ≠ 1) ∧
    (s_6.patternOf 0 1 = some ((s_6.patternOf 0 1).getD 5)) ∧
    (s_6.get (F.HRN_HBb_STATE_HALL 0) ≠ 7) ∧
    (s_6.patternOf 0 7 = none) ∧
    (∀ s ∈ [s_15, s_13, s_17], s.blocked 0 = false) ∧
    ((s_15.hb 0).hallBad = true) ∧
    (s_15.flag (F.HRN_HBb_FAULT_HALL_INVALID 0) = false) ∧
    ((s_13.hb 0).pattern ≠ none) ∧
    (500 < (s_13.dutyNow 0).getD 0 0) ∧
    (s_13.get (F.HRN_HBb_LIMIT_STALL_MS 0) ≠ 0) ∧
    (s_13.flag (F.HRN_HBb_FAULT_ROTOR_STALL 0) = false) ∧
    (s_18.blocked 6 = false) ∧
    (s_18.get (F.HRN_HBb_CMD_MODE 6) = 1) ∧
    (s_18.flag (F.HRN_HBb_FAULT_DESAT 6) = false) ∧
    ((s_17.hb 0).ocLast.getD 0 0 + 1 = s_17.chrono * s_17.get (F.HRN_HBb_CFG_PWM_KHZ 0) / 250000 + 1) ∧
    (999 ≤ (s_17.hb 0).ocRun.getD 0 0) ∧
    (s_17.flag (F.HRN_HBb_FAULT_OC_PERSIST 0) = false) ∧
    (s_18.running 6 = true) ∧
    ((s_18.hb 6).offUntil.length = 6) ∧
    (s_6.get (F.HRN_VMOTg_CFG0_OV_TRIP 0) < 1023) ∧
    (5 < s_6.get (F.HRN_VMOTg_CFG1_UV 0)) ∧
    (s_6.get (F.HRN_VMOTg_CFG1_UV 0) + 10 < 1023) ∧
    (s_6.get (F.HRN_VMOTg_CFG0_CHOP_ON 0) < 1023) ∧
    (bitOf (s_6.get F.HRN_STATUS_CHOP_OVERLOAD) 0 = false) ∧
    (5 + 5 * s_6.get (F.HRN_VMOTg_CFG1_CHOP_HYST 0) < s_6.get (F.HRN_VMOTg_CFG0_CHOP_ON 0)) ∧
    (s_21.flag (F.HRN_VMOTg_MEAS_CHOP 0) = true) := by
  unfold State.Ready; and_intros <;> decide +kernel

end Bridges

namespace Trough

def cv : Curve := { curve0 with iPts := [(0,0),(5000,1000)], tPts := [(0,0),(1000,900)], tInput := 4, flowMax := 1200, pumpMax := 1000, valveOn := 100, trimStep := 5, lowPct := 50, flowCeil := 300 }

def T0 : State := ((({ (R0.setLink 2 Link.run) with types := [ty0] } : State).modHrn fun h => { h with curves := [cv] }).set (F.HRN_Sn_COOL_CFG_ENTRY 2) 0)

def cs (s : State) (m pu va : Nat) : State := s.cmd 0x802 2 [(24,1,m),(26,2,pu),(28,1,va)]

def s_1 : State := cs T0 3 0 0

def s_2 : State := cs (T0.set (F.HRN_Sn_COOL_CFG_ENTRY 2) 255) 1 0 0

def s_5 : State := cs (T0.set (F.WLK_Sn_MODE_STATE 2) 2 |>.set (F.WLK_Sn_MODE_MODE 2) 2) 2 500 100

def s_6 : State := cs T0 0 500 100

def s_8 : State := s_2

def hk (s : State) (v : Nat) : State := s.modLink 2 fun l => { l with hk := [(6, ⟨v, true, 0⟩)] }

def s_9 : State := hk (T0.set (F.HRN_Sn_COOL_STATE_FLOW_TARGET 2) 1000) 100

def s_10 : State := (hk (T0.set (F.HRN_Sn_COOL_STATE_FLOW_TARGET 2) 1000) 600).setB (F.HRN_Sn_COOL_STATE_FLOW_LOW 2) true

def clr (s : State) (b c : Nat) : State := s.cmd 0x803 b [(24,1,c)]

def s_20 : State := clr R0 0 16

def s_23 : State := clr ((R0.setB (F.HRN_HBb_FAULT_VMOT_OV 6) true).set (F.HRN_VMOTg_MEAS_V 1) 1023) 6 15

/-- Trough by clause: s_1, s_8, s_5, s_6, s_23, s_9, s_10, s_20, s_23. -/
theorem wit_Trough :
    (∀ s ∈ [s_1, s_8, s_5, s_6, s_9, s_10], 2 ∈ s.stallNums) ∧
    (∀ s ∈ [s_1, s_8, s_5, s_6, s_23, s_9, s_10, s_20], s.yms.throttle.length = 48) ∧
    (∀ s ∈ [s_1, s_8, s_5, s_6], s.Ready 0 7 2050 (dOf s 0 7)) ∧
    (∀ s ∈ [s_1, s_8, s_5, s_6], (dOf s 0 7).target = 2) ∧
    (2 < (dOf s_1 0 7).arg 24 1 ∨ 1000 < (dOf s_1 0 7).arg 26 2 ∨ 200 < (dOf s_1 0 7).arg 28 1) ∧
    (∀ s ∈ [s_8, s_5, s_6], ¬(2 < (dOf s 0 7).arg 24 1 ∨ 1000 < (dOf s 0 7).arg 26 2 ∨ 200 < (dOf s 0 7).arg 28 1)) ∧
    (s_8.hasCurve 2 = false) ∧
    (∀ s ∈ [s_5, s_6], s.hasCurve 2 = true) ∧
    ((dOf s_5 0 7).arg 24 1 = 2) ∧
    (s_5.modeRest 2 = false ∨ s_5.contactorClosed 2 = true) ∧
    ((dOf s_6 0 7).arg 24 1 ≠ 2 ∨ ¬(s_6.modeRest 2 = false ∨ s_6.contactorClosed 2 = true)) ∧
    (∀ s ∈ [s_23, s_20], 0 ∈ s.stallNums) ∧
    (s_23.domainOn 13 = true) ∧
    (∀ s ∈ [s_9, s_10], s.curve? 2 = some ((s.curve? 2).getD cv)) ∧
    (s_9.flowLow 2 ((s_9.curve? 2).getD cv) = some true) ∧
    (s_9.flag (F.HRN_Sn_COOL_STATE_FLOW_LOW 2) = false) ∧
    (s_10.flowLow 2 ((s_10.curve? 2).getD cv) = some false) ∧
    (s_10.flag (F.HRN_Sn_COOL_STATE_FLOW_LOW 2) = true) ∧
    (∀ s ∈ [s_20, s_23], s.Ready 0 7 2051 (dOf s 0 7)) ∧
    (∀ s ∈ [s_20, s_23], (dOf s 0 7).target < 8) ∧
    (15 < (dOf s_20 0 7).arg 24 1) ∧
    ((dOf s_23 0 7).arg 24 1 ≤ 15) := by
  unfold State.Ready; and_intros <;> decide +kernel

end Trough

end Sys2Proof.Tests.WHarness
end

