-- ==== Sys2Proof/Tests/WHayloft.lean ====
section
/-!
SUPPORT. Witnesses: states and operands that meet the hypotheses of the statements about the Hayloft. Each
docstring lists, for the clauses of the statement in order, the state that meets the hypotheses of each; the theorem says that it does.
-/
namespace Sys2Proof.Tests.WHayloft

open Sys2Proof.Machine
set_option maxRecDepth 100000
set_option Elab.async false

namespace Hayloft

def hr (s : State) (op off len : Nat) : State := s.cmd op 0 [(24,8,off)] len

def bp (s : State) : State := s.modHay fun h => { h with badPages := [3] }

def s_1 : State := hr R0 0xE01 4 64

def s_2 : State := hr (bp R0) 0xE01 4096 65536

def s_3b : State := hr R0 0xE01 (448*1048576-64) 64

def s_4 : State := hr R0 0xE02 4096 4000

def s_5 : State := hr (R0.set F.HAY_SPARE_NOW 4) 0xE02 4096 8192

def s_6 : State := hr R0 0xE02 4096 8192

def s_7 : State := (R0.withD 0 [{ mkD 3 7 0xE02 0 with phase := .taken }]).modHay fun h => { h with work := [⟨1, .host 0 3 4096 [1,2], 2, 1, false, some 5⟩] }

def lf (s : State) (l m fr n len : Nat) : State := s.cmd 0xE03 0 [(24,1,l),(25,1,m),(32,8,fr),(40,4,n)] len

def lg (s : State) : State := s.modHay fun h => { h with changelog := ⟨[[1],[2],[3]], 2, 2, 0⟩ }

def s_8 : State := lf R0 2 0 0 1 0

def s_9 : State := lf ((lg R0).setB (F.PDK_RIGHTS_SAFETY_ADMIN 0) false) 1 1 2 1 4000

def s_10 : State := lf (lg R0) 1 0 6 1 4000

def s_12 : State := lf (lg R0) 1 0 5 1 4000

def s_14 : State := lf (lg R0) 1 0 2 9 40000

def s_16 : State := R0.modHay fun h => { h with measuring := some 999000 }

def s_17 : State := R0.modHay fun h => { h with changelog := ⟨[[7]], 0, 0, 0⟩ }

def s_18 : State := R0.modHay fun h => { h with running := [⟨1, 3, 0, .rewrite, 2⟩, ⟨0, 4, 0, .leaf, 1⟩] }

def s_19 : State := (R0.modPwr fun w => { w with telemetry := [List.replicate 128 1, List.replicate 128 2] }).cmd 0xF04 0 [(24,1,2)] 256

def run (j : Job) : State := R0.modHay fun h => { h with running := [⟨1, 2, 1, j, 0⟩] }

def s_21 : State := run (.event [1,2])

def s_22 : State := run (.change ⟨2, 0, [], .nothing⟩ [3,4])

def s_24 : State := (run (.work 9 1)).modHay fun h => { h with work := [⟨9, .host 0 3 4096 (List.replicate 8192 5), 1, 1, true, none⟩] }

/-- Hayloft by clause: s_1, s_2, s_3b, s_4, s_5, s_6, s_7, s_21, s_22, s_24, s_8, s_9, s_10, s_12, s_14, s_5, s_16, s_5, s_17, s_5, s_5, s_5, s_18, s_18, s_19. -/
theorem wit_Hayloft :
    (∀ s ∈ [s_1, s_2, s_3b], s.Ready 0 7 3585 (dOf s 0 7)) ∧
    (∀ s ∈ [s_1, s_2, s_3b, s_4, s_5, s_6], s.hostWaits = false) ∧
    ((dOf s_1 0 7).arg 24 8 % 8 ≠ 0 ∨ (dOf s_1 0 7).length % 8 ≠ 0 ∨ (dOf s_1 0 7).length = 0 ∨ 1048576 < (dOf s_1 0 7).length ∨ 448 *
      1048576 < (dOf s_1 0 7).arg 24 8 + (dOf s_1 0 7).length) ∧
    (∀ s ∈ [s_2, s_3b], ¬((dOf s 0 7).arg 24 8 % 8 ≠ 0 ∨ (dOf s 0 7).length % 8 ≠ 0 ∨ (dOf s 0 7).length = 0 ∨ 1048576 < (dOf s 0 7).length
      ∨ 448 * 1048576 < (dOf s 0 7).arg 24 8 + (dOf s 0 7).length)) ∧
    (∃ g, g ∈ [] ++ s_2.hay.badPages ∧ (dOf s_2 0 7).arg 24 8 / 4096 ≤ g ∧ g ≤ ((dOf s_2 0 7).arg 24 8 + (dOf s_2 0 7).length - 1) / 4096) ∧
    (∀ (g : Nat), g ∈ [] ++ s_3b.hay.badPages → ¬((dOf s_3b 0 7).arg 24 8 / 4096 ≤ g ∧ g ≤ ((dOf s_3b 0 7).arg 24 8 + (dOf s_3b 0 7).length
      - 1) / 4096)) ∧
    (∀ s ∈ [s_4, s_5, s_6], s.Ready 0 7 3586 (dOf s 0 7)) ∧
    ((dOf s_4 0 7).arg 24 8 % 4096 ≠ 0 ∨ (dOf s_4 0 7).length % 4096 ≠ 0 ∨ (dOf s_4 0 7).length = 0 ∨ 1048576 < (dOf s_4 0 7).length ∨ 448 *
      1048576 < (dOf s_4 0 7).arg 24 8 + (dOf s_4 0 7).length) ∧
    (∀ s ∈ [s_5, s_6], ¬((dOf s 0 7).arg 24 8 % 4096 ≠ 0 ∨ (dOf s 0 7).length % 4096 ≠ 0 ∨ (dOf s 0 7).length = 0 ∨ 1048576 < (dOf s 0
      7).length ∨ 448 * 1048576 < (dOf s 0 7).arg 24 8 + (dOf s 0 7).length)) ∧
    (s_5.noSpare = true) ∧
    (s_6.noSpare = false) ∧
    (∀ s ∈ [s_7, s_5, s_17], s.domainOn 5 = true) ∧
    (List.find? (fun w => decide (w.id = 1)) s_7.hay.work = some ((List.find? (fun w => decide (w.id = 1)) s_7.hay.work).getD { id := 9, kind := WorkKind.host 0 3 4096 (List.replicate 8192 5), left := 2, done := 0, busy := true, held := none : Work })) ∧
    (((List.find? (fun w => decide (w.id = 1)) s_7.hay.work).getD { id := 9, kind := WorkKind.host 0 3 4096 (List.replicate 8192 5), left := 2, done := 0, busy := true, held := none : Work }).held
      ≠ none) ∧
    (((List.find? (fun w => decide (w.id = 1)) s_7.hay.work).getD { id := 9, kind := WorkKind.host 0 3 4096 (List.replicate 8192 5), left := 2, done := 0, busy := true, held := none : Work }).busy
      = false) ∧
    (((List.find? (fun w => decide (w.id = 1)) s_7.hay.work).getD { id := 9, kind := WorkKind.host 0 3 4096 (List.replicate 8192 5), left := 2, done := 0, busy := true, held := none : Work }).kind
      = WorkKind.host 0 3 4096 [1, 2]) ∧
    (List.find? (fun y => decide (y.num = 3 ∧ y.phase ≠ DescPhase.finished)) (s_7.pd 0).table = some ((List.find? (fun y => decide (y.num =
      3 ∧ y.phase ≠ DescPhase.finished)) (s_7.pd 0).table).getD noDesc)) ∧
    (∀ s ∈ [s_21, s_22, s_24, s_18], List.find? (fun y => decide (y.id = 1)) s.hay.running = some ((List.find? (fun y => decide (y.id = 1))
      s.hay.running).getD { id := 1, cls := 2, need := 1, job := Job.event [1, 2], fails := 0 : Store })) ∧
    (∀ s ∈ [s_21, s_22, s_24], s.logTurn ((List.find? (fun y => decide (y.id = 1)) s.hay.running).getD { id := 1, cls := 2, need := 1, job := Job.event [1, 2], fails := 0 : Store })
      = true) ∧
    (((List.find? (fun y => decide (y.id = 1)) s_21.hay.running).getD { id := 1, cls := 2, need := 1, job := Job.event [1, 2], fails := 0 : Store }).job
      = Job.event [1, 2]) ∧
    (((List.find? (fun y => decide (y.id = 1)) s_22.hay.running).getD { id := 1, cls := 2, need := 1, job := Job.event [1, 2], fails := 0 : Store }).job
      = Job.change { kind := 2, p := 0, body := [], act := ChangeAct.nothing : Change } [3, 4]) ∧
    (((List.find? (fun y => decide (y.id = 1)) s_24.hay.running).getD { id := 1, cls := 2, need := 1, job := Job.event [1, 2], fails := 0 : Store }).job
      = Job.work 9 1) ∧
    (List.find? (fun y => decide (y.id = 9)) s_24.hay.work = some ((List.find? (fun y => decide (y.id = 9)) s_24.hay.work).getD { id := 9, kind := WorkKind.host 0 3 4096 (List.replicate 8192 5), left := 2, done := 0, busy := true, held := none : Work })) ∧
    (((List.find? (fun y => decide (y.id = 9)) s_24.hay.work).getD { id := 9, kind := WorkKind.host 0 3 4096 (List.replicate 8192 5), left := 2, done := 0, busy := true, held := none : Work }).kind
      = WorkKind.host 0 3 4096 (List.replicate 8192 5)) ∧
    (∀ s ∈ [s_8, s_9, s_10, s_12, s_14], s.Ready 0 7 3587 (dOf s 0 7)) ∧
    (∀ s ∈ [s_8, s_9, s_10, s_12, s_14, s_5], s.listReads = false) ∧
    (1 < (dOf s_8 0 7).arg 24 1 ∨ 1 < (dOf s_8 0 7).arg 25 1 ∨ (dOf s_8 0 7).arg 40 4 = 0 ∨ 4096 < (dOf s_8 0 7).arg 40 4 ∨ bitOf ((dOf s_8
      0 7).arg 25 1) 0 = true ∧ (if (dOf s_8 0 7).arg 24 1 = 0 then 3 else 5) = 3) ∧
    (∀ s ∈ [s_9, s_10, s_12, s_14], ¬(1 < (dOf s 0 7).arg 24 1 ∨ 1 < (dOf s 0 7).arg 25 1 ∨ (dOf s 0 7).arg 40 4 = 0 ∨ 4096 < (dOf s 0
      7).arg 40 4 ∨ bitOf ((dOf s 0 7).arg 25 1) 0 = true ∧ (if (dOf s 0 7).arg 24 1 = 0 then 3 else 5) = 3)) ∧
    (bitOf ((dOf s_9 0 7).arg 25 1) 0 = true) ∧
    (s_9.hasRight 0 4 = false) ∧
    (∀ s ∈ [s_10, s_12, s_14], bitOf ((dOf s 0 7).arg 25 1) 0 = false ∨ s.hasRight 0 4 = true) ∧
    ((s_10.region (if (dOf s_10 0 7).arg 24 1 = 0 then 3 else 5)).base + (s_10.region (if (dOf s_10 0 7).arg 24 1 = 0 then 3 else
      5)).items.length < (dOf s_10 0 7).arg 32 8 ∨ (dOf s_10 0 7).arg 32 8 < (s_10.region (if (dOf s_10 0 7).arg 24 1 = 0 then 3 else
      5)).base) ∧
    ((dOf s_12 0 7).arg 32 8 = (s_12.region (if (dOf s_12 0 7).arg 24 1 = 0 then 3 else 5)).base + (s_12.region (if (dOf s_12 0 7).arg 24 1
      = 0 then 3 else 5)).items.length) ∧
    ((if (dOf s_14 0 7).arg 24 1 = 0 then 3 else 5) = 5) ∧
    ((s_14.region 5).base ≤ (dOf s_14 0 7).arg 32 8) ∧
    ((dOf s_14 0 7).arg 32 8 < (s_14.region (if (dOf s_14 0 7).arg 24 1 = 0 then 3 else 5)).base + (s_14.region (if (dOf s_14 0 7).arg 24 1
      = 0 then 3 else 5)).items.length) ∧
    ((dOf s_14 0 7).arg 40 4 * 3608 ≤ (dOf s_14 0 7).length) ∧
    (∀ (b : List Nat), b ∈ (s_14.region 5).items → b ≠ []) ∧
    (s_5.get F.PWR_STATE_SUPPLY = 0) ∧
    (s_5.hay.running = []) ∧
    (s_16.hay.measuring = some (s_16.hay.measuring.getD 4096)) ∧
    (s_17.regionBusy 5 = false) ∧
    (s_17.region 5 = { items := (s_17.region 5).items, base := 0, nand := 0, mark := 0 : Region }) ∧
    ((s_17.region 5).items.length = 1) ∧
    (s_17.admits 3 (storeNeed 3 2) = true) ∧
    (s_5.admits 3 (storeNeed 3 1) = true) ∧
    (3 ≤ ((List.find? (fun y => decide (y.id = 1)) s_18.hay.running).getD { id := 1, cls := 2, need := 1, job := Job.event [1, 2], fails := 0 : Store }).cls) ∧
    (s_18.pwr.falling = false) ∧
    (s_18.pwr.final = false) ∧
    (2 ≤ ((List.find? (fun y => decide (y.id = 1)) s_18.hay.running).getD { id := 1, cls := 2, need := 1, job := Job.event [1, 2], fails := 0 : Store }).fails) ∧
    (List.find? (fun y => decide (y.id = 0)) s_18.hay.running = some ((List.find? (fun y => decide (y.id = 0)) s_18.hay.running).getD { id := 1, cls := 2, need := 1, job := Job.event [1, 2], fails := 0 : Store })) ∧
    (3 ≤ ((List.find? (fun y => decide (y.id = 0)) s_18.hay.running).getD { id := 1, cls := 2, need := 1, job := Job.event [1, 2], fails := 0 : Store }).cls) ∧
    (((List.find? (fun y => decide (y.id = 0)) s_18.hay.running).getD { id := 1, cls := 2, need := 1, job := Job.event [1, 2], fails := 0 : Store }).fails
      < 2) ∧
    (s_19.Ready 0 7 3844 (dOf s_19 0 7)) := by
  unfold State.Ready; and_intros <;> decide +kernel

end Hayloft

end Sys2Proof.Tests.WHayloft
end

