-- ==== Sys2Proof/Tests/WLanes.lean ====
section
/-!
SUPPORT. Witnesses: states and operands that meet the hypotheses of the statements about the control lanes. Each
docstring lists, for the clauses of the statement in order, the state that meets the hypotheses of each; the theorem says that it does.
-/
namespace Sys2Proof.Tests.WLanes

open Sys2Proof.Machine
set_option maxRecDepth 100000
set_option Elab.async false

namespace ControlLanes

def H : State :=
  let s := (R0.set F.GLB_LANE_STATUS_B_STATE 1).setB F.GLB_LANE_STATUS_HEALTHY_STANDBY true
  { s with lan := { s.lan with selfOk := [true, true] } }

def T (s : State) : State := s.withD 0 [{ mkD 3 7 0x0002 0 (prm []) with phase := .taken }]

def lan (s : State) (f : Lan → Lan) : State := s.modLan f

def s_2 : State := H

def s_5 : State := lan H fun l => { l with control := false, takeover := some 1 }

def s_6 : State := H.set F.GLB_LANE_STATUS_B_STATE 3

def s_7 : State := lan H fun l => { l with snapWait := true }

def s_9 : State := lan (T H) fun l => { l with snapWait := true, handover := some ⟨0, some (0, 3), 2, 999000⟩ }

def s_10 : State := lan H fun l => { l with holdoff := some 5 }

def s_11 : State := lan (T H) fun l => { l with handover := some ⟨0, some (0, 3), 0, 0⟩ }

def s_12 : State := lan R0 fun l => { l with noSince := some 5 }

def s_13 : State := H.cmd 2 0

def s_14 : State := R0.cmd 2 0

def s_15 : State := lan (H.cmd 2 0) fun l => { l with handover := some ⟨1, none, 0, 0⟩ }

def s_16 : State := H.cmd 3 0

def fs (s : State) : State := s.set F.TCK_STAGED 0x8000

def s_17 : State := fs (R0.cmd 3 0)

def s_18 : State := lan (fs (H.cmd 3 0)) fun l => { l with handover := some ⟨1, none, 0, 0⟩ }

def s_19 : State := fs (H.cmd 3 0)

def fwr (s : State) (n : Nat) : State := lan (((T s).set F.GLB_FW_STATE_STEP n)) fun l => { l with fw := some ⟨0, 3, 60, 1, 0⟩ }

def slots (s : State) (a b : FwSlot) : State := { s with tck := { s.tck with fw := [a, b] } }

def s_20 : State := ((fwr H 1).set F.GLB_LANE_STATUS_B_STATE 3).set F.GLB_FW_STATE_SLOT_B 1

def s_21 : State := ((fwr (H.set (F.TCK_RBi 0) 5) 1).set F.GLB_LANE_STATUS_B_STATE 3).set F.GLB_FW_STATE_SLOT_B 1

def s_22 : State := ((fwr (slots H FwSlot.init { FwSlot.init with snapWrite := 7, snapMin := 7, snapMax := 8 }) 1).set F.GLB_LANE_STATUS_B_STATE 3).set F.GLB_FW_STATE_SLOT_B 1

def s_23 : State := fwr (slots H FwSlot.init { FwSlot.init with rb := 9, version := 77 }) 4

def s_24 : State := fwr H 5

def pre (s : State) : State := (s.set F.GLB_BOOT_STATUS_PHASE 6).set F.GLB_BOOT_STATUS_HISTORY 0x7F

def s_28 : State := pre (H.set F.GLB_LANE_STATUS_B_STATE 3)

/-- ControlLanes by clause: s_21, s_21, s_21, s_5, s_6, s_28, s_7, s_9, s_10, s_11, s_9, s_12, s_15, s_14, s_13, s_16, s_18, s_17, s_19, s_21, s_21, s_20, s_22,
      s_20, s_23, s_24, s_24, s_21, s_21, s_21, s_2, s_21, s_21. -/
theorem wit_ControlLanes :
    (∀ s ∈ [s_21, s_7, s_9, s_2], s.lan.control = true) ∧
    (s_21.pwr.cold = false) ∧
    (Instr.laneHeartbeatTimeout = Instr.laneHeartbeatTimeout ∧ s_21.lan.beat + 100000 ≤ s_21.chrono ∧ 0 = 0 ∨ Instr.laneHeartbeatTimeout =
      Instr.laneFaultReport s_21.activeLane ∧ s_21.domainOn 6 = true ∧ 0 = 1) ∧
    (∀ s ∈ [s_21, s_6, s_28, s_2], s.domainOn 6 = true) ∧
    (s_21.isOut s_21.standbyLane = false) ∧
    (s_21.lan.losses.length = 2) ∧
    (s_5.lan.takeover = some (s_5.lan.takeover.getD 0)) ∧
    (s_5.lan.control = false) ∧
    (∀ s ∈ [s_5, s_28], s.pwr.reset = false) ∧
    (s_6.inRun = true) ∧
    (∀ s ∈ [s_6, s_21, s_20, s_22], s.laneState s.standbyLane = 3) ∧
    (∀ s ∈ [s_6, s_28], s.get F.GLB_FW_STATE_STEP ≠ 1) ∧
    (∀ s ∈ [s_6, s_28], s.get F.GLB_FW_STATE_STEP ≠ 5) ∧
    (s_28.inRun = false) ∧
    (s_28.pwr.resetLow = false) ∧
    (s_28.laneState 1 = 3) ∧
    (∀ s ∈ [s_7, s_9], s.lan.snapWait = true) ∧
    (∀ s ∈ [s_7, s_9, s_10, s_2], s.lan.fw = none) ∧
    (∀ s ∈ [s_7, s_10, s_2], s.lan.handover = none) ∧
    (∀ s ∈ [s_9, s_11], s.lan.handover = some (s.lan.handover.getD handover0)) ∧
    ((s_9.lan.handover.getD handover0).phase = 2) ∧
    ((s_9.lan.handover.getD handover0).why = 0) := by
  and_intros <;> decide +kernel

/-- ControlLanes, further hypotheses of the same clauses. -/
theorem wit_ControlLanes_2 :
    ((s_9.lan.handover.getD handover0).desc = some (0, 3)) ∧
    (∀ s ∈ [s_9, s_10, s_13, s_19, s_2], s.standbyOk = true) ∧
    (s_9.tck.switch = none) ∧
    (s_9.laneSlot s_9.activeLane = s_9.tck.fwActive) ∧
    (3 < (s_9.pd 0).nextNum) ∧
    (List.find? (fun y => decide (y.num = 3 ∧ y.phase ≠ DescPhase.finished)) (s_9.pd 0).table = some ((List.find? (fun y => decide (y.num =
      3 ∧ y.phase ≠ DescPhase.finished)) (s_9.pd 0).table).getD noDesc)) ∧
    (s_10.lan.holdoff ≠ none) ∧
    ((s_11.lan.handover.getD handover0).phase = 0) ∧
    ((s_9.lan.handover.getD handover0).why ≠ 2) ∧
    (s_12.lan.noSince ≠ none) ∧
    (s_12.lan.noStandby = false) ∧
    (∀ s ∈ [s_15, s_14, s_13], s.Ready 0 7 2 (dOf s 0 7)) ∧
    (∀ s ∈ [s_15, s_18], s.lan.handover ≠ none ∨ s.lan.fw ≠ none) ∧
    (∀ s ∈ [s_14, s_13, s_17, s_19], ¬(s.lan.handover ≠ none ∨ s.lan.fw ≠ none)) ∧
    (∀ s ∈ [s_14, s_17], s.standbyOk = false) ∧
    (∀ s ∈ [s_16, s_18, s_17, s_19], s.Ready 0 7 3 (dOf s 0 7)) ∧
    (s_16.fwStaged = false) ∧
    (∀ s ∈ [s_18, s_17, s_19], s.fwStaged = true) ∧
    (∀ s ∈ [s_21, s_20, s_22, s_23, s_24], s.lan.fw = some (s.lan.fw.getD fwRun0)) ∧
    (∀ s ∈ [s_21, s_20, s_22, s_23, s_24], s.tck.fwActive ≤ 1) ∧
    (∀ s ∈ [s_21, s_20, s_22, s_23, s_24], (s.lan.fw.getD fwRun0).slot ≤ 1) ∧
    (∀ s ∈ [s_21, s_20, s_22, s_23, s_24], List.find? (fun y => decide (y.num = (s.lan.fw.getD fwRun0).num ∧ y.phase ≠ DescPhase.finished))
      (s.pd (s.lan.fw.getD fwRun0).p).table = some ((List.find? (fun y => decide (y.num = (s.lan.fw.getD fwRun0).num ∧ y.phase ≠
      DescPhase.finished)) (s.pd (s.lan.fw.getD fwRun0).p).table).getD noDesc)) := by
  unfold State.Ready; and_intros <;> decide +kernel

/-- ControlLanes, further hypotheses of the same clauses. -/
theorem wit_ControlLanes_3 :
    (∀ s ∈ [s_21, s_20, s_22], s.get F.GLB_FW_STATE_STEP = 1) ∧
    (∀ s ∈ [s_21, s_20, s_22], s.laneSlot s.standbyLane = (s.lan.fw.getD fwRun0).slot) ∧
    (false = false) ∧
    (true = true) ∧
    ((s_21.fwSlot (s_21.lan.fw.getD fwRun0).slot).rb < s_21.get (F.TCK_RBi 0)) ∧
    (∀ s ∈ [s_20, s_22], ¬(s.fwSlot (s.lan.fw.getD fwRun0).slot).rb < s.get (F.TCK_RBi 0)) ∧
    (s_22.compatible (s_22.laneSlot s_22.activeLane) (s_22.lan.fw.getD fwRun0).slot = false) ∧
    (s_20.compatible (s_20.laneSlot s_20.activeLane) (s_20.lan.fw.getD fwRun0).slot = true) ∧
    (s_23.get F.GLB_FW_STATE_STEP = 4) ∧
    (s_24.get F.GLB_FW_STATE_STEP = 5) ∧
    (s_21.get F.GLB_FW_STATE_STEP = 1 ∨ s_21.get F.GLB_FW_STATE_STEP = 2 ∨ s_21.get F.GLB_FW_STATE_STEP = 5) ∧
    (s_21.hasRight 3 2 = false) ∧
    (Instr.laneResetWrite 3 1 ∈ [Instr.laneResetWrite 3 1, Instr.laneReadmitWrite 3 1]) ∧
    (∀ s ∈ [s_21, s_2], s.hasRight 0 2 = true) ∧
    (bitOf 2 s_21.activeLane = false) ∧
    (bitOf 2 s_21.standbyLane = true) ∧
    (bitOf 1 s_2.activeLane = true) ∧
    (bitOf 1 s_2.standbyLane = false) ∧
    (bitOf 128 7 = true) ∧
    (bitOf 256 8 = true) := by
  and_intros <;> decide +kernel

end ControlLanes

end Sys2Proof.Tests.WLanes
end

