-- ==== Sys2Proof/Tests/WLink.lean ====
section
/-!
SUPPORT. Witnesses: states and operands that meet the hypotheses of the statements about the stall links. Each
docstring lists, for the clauses of the statement in order, the state that meets the hypotheses of each; the theorem says that it does.
-/
namespace Sys2Proof.Tests.WLink

open Sys2Proof.Machine
set_option maxRecDepth 100000
set_option Elab.async false

def lk (s : State) (n st : Nat) : State := s.setLink n st

def ml (s : State) (n : Nat) (f : Slk → Slk) : State := s.modLink n f

namespace LinkTraining

def tr : State := lk R0 2 Link.training

def s_1 : State := ml tr 2 fun l => { l with validRun := 16 }

def s_2 : State := ml tr 2 fun l => { l with step := 1, turn := 700 }

def s_3 : State := ml tr 2 fun l => { l with step := 2, echoes := 16 }

def s_4 : State := ml tr 2 fun l => { l with step := 3 }

def s_5 : State := ml (lk R0 2 Link.identify) 2 fun l => { l with identRun := 8 }

/-- LinkTraining by clause: s_1, s_2, s_3, s_4, s_5. -/
theorem wit_LinkTraining :
    (∀ s ∈ [s_1, s_2, s_3, s_4, s_5], s.slk.length = 48) ∧
    (∀ s ∈ [s_1, s_2, s_3, s_4], s.linkState 2 = Link.training) ∧
    ((s_1.link 2).step = 0) ∧
    (16 ≤ (s_1.link 2).validRun) ∧
    ((s_2.link 2).step = 1) ∧
    ((s_3.link 2).step = 2) ∧
    (16 ≤ (s_3.link 2).echoes) ∧
    ((s_4.link 2).step = 3) ∧
    (s_5.linkState 2 = Link.identify) ∧
    (8 ≤ (s_5.link 2).identRun) := by
  and_intros <;> decide +kernel

end LinkTraining

namespace LinkKeying

def kr : List Nat := [2] ++ List.replicate 6488 0

def fp0 (l : Slk) : Slk := { l with ident := { l.ident with fp := List.replicate 32 0 }, offer := List.replicate 1228 7 }

def s_1 : State := ml (lk R0 2 Link.keying) 2 fun l => fp0 { l with mgmtIn := [kr], mgmt := some [1] }

def s_2 : State := ml (lk R0 2 Link.keying) 2 fun l => fp0 { l with response := some kr }

def s_3 : State := ml (lk R0 2 Link.keying) 2 fun l => { l with keyFailed := true }

def s_4 : State := lk R0 2 Link.run

def s_5 : State := ml (lk R0 2 Link.run) 2 fun l => { l with newKeys := some ([1,2,3], 5, true), rekeying := true }

def s_6 : State := ml (lk R0 2 Link.run) 2 fun l => { l with newKeys := some ([1,2,3], 5, false), rekeying := true }

def s_7 : State := ml (lk R0 2 Link.run) 2 fun l => fp0 { l with response := some kr, rekeying := true, keys := some (List.replicate 96 3) }

def s_9 : State := ml (lk R0 2 Link.run) 2 fun l => { l with response := some kr, rekeying := true, keys := some (List.replicate 96 3) }

/-- LinkKeying by clause: s_1, s_2, s_7, s_9, s_3, s_4, s_5, s_6. -/
theorem wit_LinkKeying :
    (∀ s ∈ [s_1, s_2, s_7, s_9, s_3, s_4, s_5, s_6], s.slk.length = 48) ∧
    (List.find? (fun x => decide (byteAt x 0 = 2)) (s_1.link 2).mgmtIn = some ((List.find? (fun x => decide (byteAt x 0 = 2)) (s_1.link
      2).mgmtIn).getD kr)) ∧
    (s_1.awaits 2 1 = true) ∧
    (s_1.linkState 2 = Link.keying ∨ (s_1.link 2).rekeying = true) ∧
    (∀ s ∈ [s_2, s_7, s_9], (s.link 2).response = some ((s.link 2).response.getD kr)) ∧
    (∀ s ∈ [s_2, s_7, s_9], s.sigBusy 1 = false) ∧
    (∀ s ∈ [s_2, s_4], (s.link 2).rekeying = false) ∧
    (∀ s ∈ [s_7, s_6], (s.link 2).rekeying = true) ∧
    (s_3.linkState 2 = Link.keying) ∧
    ((s_3.link 2).keyFailed = true) ∧
    (s_4.linkState 2 = Link.run) ∧
    ((s_5.link 2).newKeys = some ([1, 2, 3], 5, true)) ∧
    ((s_6.link 2).newKeys = some ([1, 2, 3], 5, false)) := by
  and_intros <;> decide +kernel

end LinkKeying

namespace LinkAdmission

def ack (ty : Nat) (body : List Nat) : List Nat := [ty, 1] ++ le 2 body.length ++ le 8 1 ++ body ++ List.replicate 16 0

def kb : List Nat := le 8 5 ++ List.replicate 8 9

def kk : State := ml (lk R0 2 Link.keying) 2 fun l => { l with mgmtIn := [ack 4 kb], mgmt := some ([3, 1] ++ kb), keys := some (List.replicate 96 3) }

def s_2 : State := kk

def cf (e r : Nat) : State := ml (lk R0 2 Link.configuring) 2 fun l => { l with mgmtIn := [ack 17 (le 4 e ++ [r, 0, 0, 0])], mgmt := some [16, 1], keys := some (List.replicate 96 3) }

def s_3 : State := cf 0 0

def s_4 : State := cf 0 1

def s_5 : State := ml (cf 0 2) 2 fun l => { l with attempts := 5 }

def s_6 : State := let s := ml (lk R0 2 Link.configuring) 2 fun l => { l with accepted := true }; { s with hay := { s.hay with running := [⟨1, 2, 1, .stallRec 2 ⟨7, 0, [], 3⟩, 0⟩] } }

def s_7 : State := ml (lk R0 2 Link.run) 2 fun l => { l with mgmtIn := [ack 4 kb], mgmt := some ([3, 1] ++ kb), keys := some (List.replicate 96 3), rekeying := true, newKeys := some ([1], 9, false) }

/-- LinkAdmission by clause: s_2, s_7, s_3, s_4, s_5, s_6, s_7, s_5. -/
theorem wit_LinkAdmission :
    (∀ s ∈ [s_2, s_7, s_3, s_4, s_5, s_6], 2 < s.variant.links) ∧
    (∀ s ∈ [s_2, s_7, s_3, s_4, s_5, s_6], s.slk.length = 48) ∧
    (∀ s ∈ [s_2, s_7, s_3, s_4, s_5, s_6], s.stallRec.length = 48) ∧
    (∀ s ∈ [s_2, s_7], List.find? (fun x => decide (byteAt x 0 = 4)) (s.link 2).mgmtIn = some ((List.find? (fun x => decide (byteAt x 0 =
      4)) (s.link 2).mgmtIn).getD (ack 4 kb))) ∧
    (∀ s ∈ [s_2, s_7], s.awaits 2 3 = true) ∧
    (∀ s ∈ [s_2, s_5], (s.link 2).rekeying = false) ∧
    (s_2.linkState 2 = Link.keying) ∧
    ((s_7.link 2).rekeying = true) ∧
    ((s_7.link 2).newKeys = some ([1], 9, false)) ∧
    (∀ s ∈ [s_3, s_4, s_5], List.find? (fun x => decide (byteAt x 0 = 17)) (s.link 2).mgmtIn = some ((List.find? (fun x => decide (byteAt x
      0 = 17)) (s.link 2).mgmtIn).getD (ack 4 kb))) ∧
    (∀ s ∈ [s_3, s_4, s_5], s.awaits 2 16 = true) ∧
    (∀ s ∈ [s_3, s_4, s_5], s.linkState 2 = Link.configuring) ∧
    (s_3.admits 2 (storeNeed 2 1) = true) ∧
    (List.find? (fun x => (Job.recOf 2 x.job).isSome) s_6.hay.running = some ((List.find? (fun x => (Job.recOf 2 x.job).isSome)
      s_6.hay.running).getD { id := 1, cls := 2, need := 1, job := Job.stallRec 2 { epoch := 7, type := 0, fp := [], sealW := 3 : RecEntry }, fails := 0 : Store })) ∧
    (((List.find? (fun x => (Job.recOf 2 x.job).isSome) s_6.hay.running).getD { id := 1, cls := 2, need := 1, job := Job.stallRec 2 { epoch := 7, type := 0, fp := [], sealW := 3 : RecEntry }, fails := 0 : Store }).job
      = Job.stallRec 2 { epoch := 7, type := 0, fp := [], sealW := 3 : RecEntry }) ∧
    ({ epoch := 7, type := 0, fp := [], sealW := 3 : RecEntry }.epoch < 2 ^ 32) ∧
    (∀ s ∈ [s_7, s_5], (s.link 2).mgmt.isSome = true) ∧
    ((s_7.link 2).attempts < 5) ∧
    (5 ≤ (s_5.link 2).attempts) ∧
    ((s_5.link 2).disable = []) := by
  and_intros <;> decide +kernel

end LinkAdmission

namespace LinkLoss

def s_2 : State := lk R0 2 Link.quarantine

def s_3 : State := lk R0 2 Link.keying

def s_4 : State := ml (lk R0 2 Link.lost) 2 fun l => { l with validRun := 100, before := Link.run }

def s_5 : State := ml ((lk R0 2 Link.training).withD 0 [{ mkD 3 7 0x0203 2 with phase := .taken }]) 2 fun l => { l with retrain := [(0, 3, true), (1, 4, true)] }

/-- LinkLoss by clause: s_2, s_3, s_4, s_4, s_5. -/
theorem wit_LinkLoss :
    (∀ s ∈ [s_2, s_3, s_4, s_5], 2 < s.variant.links) ∧
    (∀ s ∈ [s_2, s_3, s_4, s_5], s.slk.length = 48) ∧
    (∀ s ∈ [s_2, s_3, s_4, s_5], s.haltS.length = 48) ∧
    (∀ s ∈ [s_2, s_3, s_4, s_5], (s.link 2).disable = []) ∧
    (s_2.linkState 2 = Link.run ∨ s_2.linkState 2 = Link.quarantine) ∧
    (s_3.linkState 2 = Link.identify ∨ s_3.linkState 2 = Link.keying ∨ s_3.linkState 2 = Link.configuring) ∧
    (s_4.linkState 2 = Link.lost) ∧
    (100 ≤ (s_4.link 2).validRun) ∧
    ((s_4.link 2).before = Link.run) ∧
    ((s_5.link 2).retrain = [(0, 3, true), (1, 4, true)]) ∧
    ((s_5.pd 0).table.find? (fun x => decide (x.num = 3 ∧ x.phase ≠ DescPhase.finished)) = some (wOf s_5 0 3)) := by
  and_intros <;> decide +kernel

end LinkLoss

namespace LinkFrames

def s_2 : State := ml (lk R0 2 Link.run) 2 fun l => { l with invalidRun := 2 }

def s_3 : State := let s := lk R0 2 Link.run; { s with wlk := modAt s.wlk 2 fun w => { w with out_ := .hold } }

def s_4 : State := let s := lk R0 2 Link.run; { s with wlk := modAt s.wlk 2 fun w => { w with late := true, misses := 2 } }

/-- LinkFrames by clause: s_4, s_4, s_2, s_4, s_4, s_3, s_4. -/
theorem wit_LinkFrames :
    (∀ s ∈ [s_4, s_2, s_3], 2 < s.variant.links) ∧
    (∀ s ∈ [s_4, s_2, s_3], s.slk.length = 48) ∧
    (∀ s ∈ [s_4, s_2, s_3], s.wlk.length = 48) ∧
    (s_4.domainOn 3 = true) ∧
    (∀ s ∈ [s_4, s_2], s.domainOn 8 = true) ∧
    (∀ s ∈ [s_4, s_2], s.linkState 2 ≠ Link.off) ∧
    ((s_4.link 2).invalidRun < 2) ∧
    ((s_2.link 2).invalidRun = 2) ∧
    (∀ s ∈ [s_2, s_3, s_4], s.linkState 2 = Link.run) ∧
    (frameCrcOk [] = false) ∧
    (∀ s ∈ [s_3, s_4], s.domainOn 9 = true) ∧
    ((s_3.walk 2).late = false) ∧
    ((s_3.walk 2).out_ = Block.hold) ∧
    ((s_4.walk 2).late = true) := by
  and_intros <;> decide +kernel

end LinkFrames

namespace LinkOpcodes

def W (s : State) : State := (s.setB F.TCK_WIN_STATE_OPEN true).set F.TCK_WIN_STATE_OWNER 0

def ty (s : State) : State := { s with types := [ty0] }

def cl (s : State) : State := ml s 2 fun l => { l with status := 8 }

def s_1 : State := cl (R0.cmd 0x0201 2)

def s_2 : State := lk (R0.cmd 0x0201 2) 2 Link.keying

def s_3 : State := R0.cmd 0x0201 2

def s_5 : State := R0.cmd 0x0202 2

def s_6 : State := W (lk (R0.cmd 0x0202 2 [(24,1,5)]) 2 Link.quarantine)

def s_7 : State := W (lk (R0.cmd 0x0202 2 [(24,1,0)]) 2 Link.quarantine)

def s_9 : State := lk (R0.cmd 0x0203 2) 2 Link.run

def s_12 : State := lk (R0.cmd 0x0203 2) 2 Link.off

def s_10 : State := (lk (R0.cmd 0x0204 2) 2 Link.run).setB (F.SLK_Sn_CTRL_ENABLE 2) true

def s_11 : State := lk (ty (R0.cmd 0x0201 2 [(24,4,9),(28,1,0)])) 2 Link.run

/-- LinkOpcodes by clause: s_1, s_2, s_3, s_11, s_5, s_6, s_7, s_12, s_9, s_10. -/
theorem wit_LinkOpcodes :
    (∀ s ∈ [s_1, s_2, s_3, s_11, s_5, s_6, s_7, s_12, s_9, s_10], s.slk.length = 48) ∧
    (∀ s ∈ [s_1, s_2, s_3, s_11, s_5, s_6, s_7, s_12, s_9, s_10], s.stallRec.length = 48) ∧
    (∀ s ∈ [s_1, s_2, s_3, s_11, s_5, s_6, s_7, s_12, s_9, s_10], (dOf s 0 7).target < 48) ∧
    (∀ s ∈ [s_1, s_2, s_3, s_11, s_5, s_6, s_7, s_12, s_9, s_10], (dOf s 0 7).target < s.variant.links) ∧
    (∀ s ∈ [s_1, s_2, s_3, s_11], s.Ready 0 7 513 (dOf s 0 7)) ∧
    (s_1.contactorClosed (dOf s_1 0 7).target = true) ∧
    (∀ s ∈ [s_2, s_3, s_11], s.contactorClosed (dOf s 0 7).target = false) ∧
    (s_2.linkState (dOf s_2 0 7).target = Link.keying) ∧
    (∀ s ∈ [s_3, s_11], s.linkState (dOf s 0 7).target < 2 ∨ 4 < s.linkState (dOf s 0 7).target) ∧
    ((dOf s_3 0 7).arg 24 4 = s_3.get (F.SLK_Sn_EPOCH_REC (dOf s_3 0 7).target) ∨ s_3.types.length ≤ (dOf s_3 0 7).arg 28 1) ∧
    ((dOf s_11 0 7).arg 24 4 ≠ s_11.get (F.SLK_Sn_EPOCH_REC (dOf s_11 0 7).target)) ∧
    ((dOf s_11 0 7).arg 28 1 < s_11.types.length) ∧
    (∀ s ∈ [s_5, s_6, s_7], s.Ready 0 7 514 (dOf s 0 7)) ∧
    (s_5.ownsWindow 0 = false) := by
  unfold State.Ready; and_intros <;> decide +kernel

/-- LinkOpcodes, further hypotheses of the same clauses. -/
theorem wit_LinkOpcodes_2 :
    (∀ s ∈ [s_6, s_7], s.ownsWindow 0 = true) ∧
    (∀ s ∈ [s_6, s_7], 2 ≤ s.linkState (dOf s 0 7).target ∧ s.linkState (dOf s 0 7).target ≠ Link.lost) ∧
    ((dOf s_6 0 7).arg 24 1 ≠ s_6.get (F.SLK_Sn_SEAL_REPORTED (dOf s_6 0 7).target)) ∧
    ((dOf s_7 0 7).arg 24 1 = s_7.get (F.SLK_Sn_SEAL_REPORTED (dOf s_7 0 7).target)) ∧
    (s_7.changelogFull = false) ∧
    (s_7.stagingUsed + 3608 ≤ 4194304) ∧
    (s_7.admits 2 (storeNeed 2 1) = true) ∧
    (∀ s ∈ [s_12, s_9], s.Ready 0 7 515 (dOf s 0 7)) ∧
    (∀ s ∈ [s_12, s_9, s_10], s.linkEnergised (dOf s 0 7).target = false) ∧
    (∀ s ∈ [s_12, s_9, s_10], (s.link (dOf s 0 7).target).disable = []) ∧
    (s_12.linkState (dOf s_12 0 7).target = Link.off) ∧
    (s_9.linkState (dOf s_9 0 7).target ≠ Link.off) ∧
    (s_10.Ready 0 7 516 (dOf s_10 0 7)) := by
  unfold State.Ready; and_intros <;> decide +kernel

end LinkOpcodes

end Sys2Proof.Tests.WLink
end

