-- ==== Sys2Proof/Tests/WRegisters.lean ====
section
/-!
SUPPORT. Witnesses: states and operands that meet the hypotheses of the statements about register accesses. Each
docstring lists, for the clauses of the statement in order, the state that meets the hypotheses of each; the theorem says that it does.
-/
namespace Sys2Proof.Tests.WRegisters

open Sys2Proof.Machine
set_option maxRecDepth 100000
set_option Elab.async false

namespace UnusableAccess

def s_1 : State := (R0.rings).set F.PWR_DOMAINS 0

def s_2 : State := (R0.rings).set F.PWR_DOMAINS 0x1F

/-- UnusableAccess by clause: s_2, s_2, s_1, s_2. -/
theorem wit_UnusableAccess :
    (s_2.domainOn 4 = true) ∧
    (Instr.registerWrite 0 2 0 ∈ [Instr.registerWrite 0 2 0, Instr.wideLoRead 0 2]) ∧
    (s_1.domainOn (domainOf 2) = false) ∧
    (s_1.offAccess 2 = false) ∧
    (s_2.domainOn (domainOf 196608) = false) ∧
    (s_2.offAccess 196608 = true) ∧
    (Instr.offDomainRegisterAccess 0 196608 0 true ∈ [Instr.offDomainRegisterAccess 0 196608 0 true] ++ if true = false ∧ s_2.domainOn 4 =
      true ∧ 196608 % 4 = 0 then [Instr.wideLoRead 0 196608] else []) := by
  and_intros <;> decide +kernel

end UnusableAccess

namespace SetupWriteRights

def s_1 : State := [0,1,2,3].foldl (fun s b => s.setB (match b with | 0 => F.PDK_RIGHTS_OPERATE 0 | 1 => F.PDK_RIGHTS_BILL 0 | 2 => F.PDK_RIGHTS_SERVICE 0 | _ => F.PDK_RIGHTS_SAFETY_ADMIN 0) false) R0

/-- SetupWriteRights by clause: s_1. -/
theorem wit_SetupWriteRights :
    (s_1.domainOn 4 = true) ∧
    (s_1.domainOn (domainOf 0) = true) ∧
    (s_1.absent 0 = false) ∧
    (regRowAt 0 = some ((regRowAt 0).getD row0)) ∧
    (isRwp 0 = false) ∧
    (s_1.mayWrite 0 0 = false) := by
  and_intros <;> decide +kernel

end SetupWriteRights

namespace SetupWriteTakes

def s_1 : State := R0

/-- SetupWriteTakes by clause: s_1, s_1, s_1, s_1. -/
theorem wit_SetupWriteTakes :
    (s_1.domainOn 4 = true) ∧
    (s_1.domainOn 5 = true) ∧
    (s_1.hasRight 0 2 = true) := by
  and_intros <;> decide +kernel

end SetupWriteTakes

namespace Locks

def s_1 : State := R0

/-- Locks by clause: s_1, s_1, s_1. -/
theorem wit_Locks :
    (lockFld 0 = some ((lockFld 0).getD F.GLB_BOOT_COUNT)) ∧
    (setupRight 0 = some ((setupRight 0).getD 0)) ∧
    (s_1.domainOn 4 = true) ∧
    (s_1.domainOn (domainOf (0 * 65536)) = true) ∧
    (s_1.hasRight 0 ((setupRight 0).getD 0) = true) ∧
    (s_1.anyRight 0 = true) := by
  and_intros <;> decide +kernel

end Locks

namespace RwpWriteLogged

def s_1 : State := ((R0.setB F.TCK_WIN_STATE_OPEN true).set F.TCK_WIN_STATE_OWNER 0).setB F.TCK_STATUS_WINDOW_OPEN true

/-- RwpWriteLogged by clause: s_1, s_1. -/
theorem wit_RwpWriteLogged :
    (s_1.domainOn 4 = true) ∧
    (s_1.domainOn (domainOf 1032) = true) ∧
    (s_1.absent 1032 = false) ∧
    (regRowAt 1032 = some ((regRowAt 1032).getD row0)) ∧
    (((regRowAt 1032).getD row0).has Access.rwp = true) ∧
    (rowAllowed ((regRowAt 1032).getD row0) (100 % 2 ^ 32) = true) ∧
    (rwpFits 1032 (100 % 2 ^ 32) = true) ∧
    (s_1.ownsWindow 0 = true) ∧
    (s_1.hasRight 0 4 = true) ∧
    (∀ (b : Nat), rwpRight 1032 = some b → s_1.hasRight 0 b = true) ∧
    (s_1.changelogFull = false) ∧
    (s_1.stagingUsed + 3608 ≤ 4194304) ∧
    (s_1.admits 2 (storeNeed 2 1) = true) ∧
    (s_1.ownsWindow 1 = false) := by
  and_intros <;> decide +kernel

end RwpWriteLogged

namespace WideRead

def sh (s : State) : State := s.modPd 0 fun d => { d with shadows := [(12, 77), (20, 77), (44, 77), (65796, 77), (65804, 77), (66052, 77), (66060, 77), (66180, 77), (66188, 77), (135196, 77), (331788, 77), (331800, 77), (393232, 77), (393240, 77), (393260, 77), (393268, 77), (397328, 77), (397336, 77), (458804, 77), (458812, 77), (720920, 77), (720928, 77), (786456, 77), (852004, 77), (852016, 77), (917564, 77), (917572, 77)] }

def s_2 : State := sh R0

/-- WideRead by clause: s_2, s_2. -/
theorem wit_WideRead :
    (s_2.pdk.length = 4) ∧
    (s_2.domainOn 4 = true) ∧
    (s_2.domainOn (domainOf 8) = true) ∧
    (regRowAt 8 = some ((regRowAt 8).getD row0)) ∧
    (((regRowAt 8).getD row0).hi = some 12) ∧
    (((regRowAt 8).getD row0).off ≤ 12) ∧
    (((regRowAt 8).getD row0).isHi 8 = false) ∧
    (regRowAt (8 + (12 - ((regRowAt 8).getD row0).off)) = some ((regRowAt 8).getD row0)) ∧
    (((regRowAt 8).getD row0).isHi (8 + (12 - ((regRowAt 8).getD row0).off)) = true) ∧
    (8 + (12 - ((regRowAt 8).getD row0).off) < 2097152) ∧
    ((8 + (12 - ((regRowAt 8).getD row0).off)) % 4 = 0) ∧
    (s_2.domainOn (domainOf (8 + (12 - ((regRowAt 8).getD row0).off))) = true) ∧
    (List.find? (fun x => decide (x.fst = 8 + (12 - ((regRowAt 8).getD row0).off))) (s_2.pd 0).shadows = some (8 + (12 - ((regRowAt 8).getD
      row0).off), 77)) := by
  and_intros <;> decide +kernel

end WideRead

end Sys2Proof.Tests.WRegisters
end

