-- ==== Sys2Proof/Tests/WWalker.lean ====
section
/-!
SUPPORT. Witnesses: states and operands that meet the hypotheses of the statements about the Walker. Each
docstring lists, for the clauses of the statement in order, the state that meets the hypotheses of each; the theorem says that it does.
-/
namespace Sys2Proof.Tests.WWalker

open Sys2Proof.Machine
set_option maxRecDepth 100000
set_option Elab.async false

def tyA : StallType := { ty0 with phases := 3, period := 4, dt := 0, minPulse := 200, maxDuty := 9500, twoStep := 100, iRated := 5000, vRated := 10000, iPhMax := 2000, phArm := 50, kpI := 65536, kiI := 1000, kpV := 65536, kiV := 1000, kb := 100, vm := 8000, xiLim := 60000, iPre := 20 }

def wk (s : State) (f : Wlk → Wlk) : State := { s with wlk := modAt s.wlk 2 f }

def W0 : State := ({ (R0.setLink 2 Link.run) with types := [tyA] }.set (F.WLK_Sn_TYPE_P 2) 4).set (F.WLK_Sn_SLOT_SLOT 2) 2

def smp (v : Bool) : Sample := { sample0 with valid := v }

namespace WalkerPeriod

def s_2 : State := W0.modLink 2 fun l => { l with samples := [smp false] }

def s_3 : State := W0.modLink 2 fun l => { l with samples := [smp true] }

def s_4 : State := wk ((s_3).withD 0 [{ mkD 3 7 0x402 2 with phase := .taken }]) fun w => { w with tuneWait := [(0, 3)] }

/-- WalkerPeriod by clause: s_4, s_2, s_4, s_4. -/
theorem wit_WalkerPeriod :
    (∀ s ∈ [s_4, s_2], s.linkState 2 = Link.run) ∧
    (∀ s ∈ [s_4, s_2], 2 < s.variant.links) ∧
    (∀ s ∈ [s_4, s_2], s.wlk.length = 48) ∧
    (∀ s ∈ [s_4, s_2], s.domainOn 9 = true) ∧
    (∀ s ∈ [s_4, s_2], s.walkerTurn 2 = true) ∧
    (∀ s ∈ [s_4, s_2], s.walkerFull = false) ∧
    (∀ s ∈ [s_4, s_2], (s.typesAt s.startCycle)[s.get (F.WLK_Sn_TYPE_TYPE 2)]? = some ((s.typesAt s.startCycle)[s.get (F.WLK_Sn_TYPE_TYPE
      2)]?.getD tyA)) ∧
    ((s_2.link 2).samples = [smp false]) ∧
    ((smp false).valid = false) ∧
    ((s_4.link 2).samples = [smp true]) ∧
    ((smp true).valid = true) ∧
    (s_4.mode 2 = 0 ∨ s_4.mode 2 = 5) ∧
    ((s_4.walk 2).ramp = none) ∧
    ((s_4.walk 2).twoStep = false) ∧
    ((s_4.halt 2).stop ≠ StopKind.emergency) ∧
    ((s_4.link 2).phState = List.replicate 6 0) ∧
    ((s_4.walk 2).endPrev = List.replicate 6 none) ∧
    ((s_4.walk 2).tuneWait = [(0, 3)]) ∧
    (List.find? (fun y => decide (y.num = 3 ∧ y.phase ≠ DescPhase.finished)) (s_4.pd 0).table = some ((List.find? (fun y => decide (y.num =
      3 ∧ y.phase ≠ DescPhase.finished)) (s_4.pd 0).table).getD noDesc)) := by
  and_intros <;> decide +kernel

end WalkerPeriod

namespace ModeTimers

def md (s : State) (m st : Nat) : State := (s.set (F.WLK_Sn_MODE_MODE 2) m).set (F.WLK_Sn_MODE_STATE 2) st

def s_2 : State := (md W0 2 1).setB (F.HLT_Sn_STATE_PERMIT 2) true

def s_4 : State := (md W0 3 2).set (F.WLK_Sn_PHASE_ACTIVE 2) 7

def s_6 : State := (((md W0 3 2).set (F.WLK_Sn_PHASE_ACTIVE 2) 3).setB (F.WLK_Sn_DEGRADE_DEGRADED 2) true)

def s_7 : State := wk (W0.modLink 2 fun l => { l with status := 0x1004 }) fun w => { w with twoStep := true }

def s_9 : State := wk (W0.withD 0 [{ mkD 3 7 0x401 2 with phase := .taken }]) fun w => { w with stops := [(0, 3, 5, false)] }

/-- ModeTimers by clause: s_2, s_2, s_4, s_4, s_6, s_7, s_9. -/
theorem wit_ModeTimers :
    (∀ s ∈ [s_2, s_4, s_6, s_7, s_9], 2 < s.variant.links) ∧
    (∀ s ∈ [s_2, s_4, s_6, s_7, s_9], s.wlk.length = 48) ∧
    (∀ s ∈ [s_2, s_4, s_6, s_7, s_9], s.haltS.length = 48) ∧
    (s_2.mode 2 = 1 ∨ s_2.mode 2 = 2) ∧
    (s_2.get (F.WLK_Sn_MODE_STATE 2) = 1) ∧
    ((s_2.walk 2).closed = false) ∧
    (∀ s ∈ [s_2, s_7], s.contactorClosed 2 = false) ∧
    (s_4.mode 2 = 3) ∧
    (s_4.hkVal 2 9 = none) ∧
    (bitOf (s_4.get (F.WLK_Sn_PHASE_ACTIVE 2)) 0 = true) ∧
    (s_6.flag (F.WLK_Sn_DEGRADE_DEGRADED 2) = true) ∧
    (s_6.flag (F.WLK_Sn_DEGRADE_BLOCKED 2) = false) ∧
    ((s_7.walk 2).twoStep = true) ∧
    ((s_7.walk 2).allOff = 0) ∧
    (s_7.twoStepDone 2 = true) ∧
    (s_7.switchesOff 2 = true) ∧
    ((s_9.walk 2).stops = [(0, 3, 5, false)]) ∧
    (List.find? (fun x => decide (x.num = (0, 3, 5, false).snd.fst ∧ x.phase ≠ DescPhase.finished)) (s_9.pd (0, 3, 5, false).fst).table =
      some ((List.find? (fun x => decide (x.num = (0, 3, 5, false).snd.fst ∧ x.phase ≠ DescPhase.finished)) (s_9.pd (0, 3, 5,
      false).fst).table).getD noDesc)) := by
  and_intros <;> decide +kernel

end ModeTimers

namespace ModeRequests

def md (s : State) (m st : Nat) : State := (s.set (F.WLK_Sn_MODE_MODE 2) m).set (F.WLK_Sn_MODE_STATE 2) st

def s_2 : State := (md W0 0 0).setB (F.WLK_Sn_DEGRADE_BLOCKED 2) true

def s_3 : State := md W0 2 2

def s_5 : State := md W0 5 0

def s_6 : State := W0.cmd 0x401 2 [(24,1,2)]

def s_7 : State := W0.cmd 0x401 2 [(24,1,1)]

def s_8 : State := (md (W0.cmd 0x401 2 [(24,1,1)]) 3 2)

def s_10 : State := (md (W0.cmd 0x401 2 [(24,1,0)]) 3 2).set (F.SLK_Sn_STATE_STATE 2) 7

def s_11 : State := W0.cmd 0x402 2 [(24,4,0x01000000)]

def s_12 : State := W0.cmd 0x402 2 [(24,4,0x00FFFFFF), (48,4,0xFFFFFFFF)]

def s_13 : State := s_12.set (F.SLK_Sn_STATE_STATE 2) 0

/-- ModeRequests by clause: s_11, s_2, s_11, s_3, s_10, s_5, s_6, s_7, s_10, s_8, s_11, s_13, s_12. -/
theorem wit_ModeRequests :
    (∀ s ∈ [s_11, s_2, s_3, s_10, s_5, s_6, s_7, s_8, s_13, s_12], 2 < s.variant.links) ∧
    (∀ s ∈ [s_11, s_2, s_3, s_10, s_5, s_6, s_7, s_8, s_13, s_12], s.wlk.length = 48) ∧
    (s_11.modeLegal 2 0 = false) ∧
    (∀ s ∈ [s_2, s_11], s.modeLegal 2 1 = true) ∧
    (1 = 1 ∨ 1 = 2 ∨ 1 = 3) ∧
    (s_2.flag (F.WLK_Sn_DEGRADE_BLOCKED 2) = true) ∧
    (∀ s ∈ [s_11, s_3], s.flag (F.WLK_Sn_DEGRADE_BLOCKED 2) = false) ∧
    (1 = 1 ∨ 1 = 2) ∧
    (s_11.mode 2 ≠ 1) ∧
    (s_3.mode 2 = 2) ∧
    (s_3.get (F.WLK_Sn_MODE_STATE 2) = 2) ∧
    (s_3.flag F.WLK_STATUS_OVERBOOK = false) ∧
    (s_10.mode 2 = 1 ∨ s_10.mode 2 = 2 ∨ s_10.mode 2 = 3) := by
  and_intros <;> decide +kernel

/-- ModeRequests, further hypotheses of the same clauses. -/
theorem wit_ModeRequests_2 :
    (s_5.mode 2 = 5) ∧
    (∀ s ∈ [s_6, s_7, s_10, s_8], s.Ready 0 7 1025 (dOf s 0 7)) ∧
    (∀ s ∈ [s_6, s_7, s_10, s_8, s_11, s_13, s_12], (dOf s 0 7).target = 2) ∧
    (1 < (dOf s_6 0 7).arg 24 1) ∧
    (∀ s ∈ [s_7, s_10, s_8], (dOf s 0 7).arg 24 1 ≤ 1) ∧
    (s_7.mode 2 = 0 ∨ s_7.mode 2 = 5) ∧
    (∀ s ∈ [s_10, s_8], s.mode 2 ≠ 0) ∧
    (∀ s ∈ [s_10, s_8], s.mode 2 ≠ 5) ∧
    (∀ s ∈ [s_10, s_13], s.linkState 2 ≠ Link.run) ∧
    (∀ s ∈ [s_8, s_12], s.linkState 2 = Link.run) ∧
    (∀ s ∈ [s_11, s_13, s_12], s.Ready 0 7 1026 (dOf s 0 7)) ∧
    (∃ i, i < 7 ∧ 16777215 < (dOf s_11 0 7).arg (24 + 4 * i) 4 ∧ (dOf s_11 0 7).arg (24 + 4 * i) 4 ≠ 4294967295) ∧
    (∀ s ∈ [s_13, s_12], ∀ (i : Nat), i < 7 → (dOf s 0 7).arg (24 + 4 * i) 4 ≤ 16777215 ∨ (dOf s 0 7).arg (24 + 4 * i) 4 = 4294967295) := by
  unfold State.Ready; and_intros <;> decide +kernel

end ModeRequests

end Sys2Proof.Tests.WWalker
end

