-- ==== Sys2Proof/Tests/WYard.lean ====
section
/-!
SUPPORT. Witnesses: states and operands that meet the hypotheses of the statements about the Yardmaster. Each
docstring lists, for the clauses of the statement in order, the state that meets the hypotheses of each; the theorem says that it does.
-/
namespace Sys2Proof.Tests.WYard

open Sys2Proof.Machine
set_option maxRecDepth 100000
set_option Elab.async false

def nd (kind index parent : Nat) : TreeNode := { node0 with kind := kind, index := index, parent := parent, imp := 5000, exp := 3000, iLim := 2000, weight := 10, cap := 2000, rampUp := 100, rampDown := 100, derate := 0xFFFF, cabMask := if kind = 2 then 4 else 0, reportMs := 100 }

def treeS (s : State) : State := s.modYms fun y => { y with tree := { nodes := [nd 0 0 0xFFFF, nd 3 0 0, nd 4 2 1, nd 2 2 0], vEstMin := 2000, emergRamp := 100 } }

def T0 : State := treeS R0

def fs (n : Nat) (dis : Bool) (dem floor tier : Nat) : FStall := { fstall0 with stall := n, node := 2, active := true, discharge := dis, dem := dem, floor := floor, vEst := 4000, weight := 3, tier := tier, rampUp := 100, rampDown := 100, ceil := 2000 }

def fz (sol : Bool) : Frozen := { at_ := 900000, stalls := [fs 2 false 500 100 0], imp := [5000, 5000, 5000, 5000], exp := [3000, 3000, 3000, 3000], iLim := [2000, 2000, 2000, 2000], priv := [none, none, none, none], solving := sol, epoch := 3, nodes := T0.treeNodes, avail := [0, 0, 0, 700], store := [0, 0, 0, 0], taper := [false, false, false, false], clamped := [], limited := [] }

namespace YardmasterBoundary

def s_3 : State := (T0.setB F.YMS_CYCLE_CFG_SOLVE_EN true).modYms fun y => { y with staged := y.staged.set 2 (some 700), cabs := y.cabs.set 2 { Cab.init with ready := true, enable := [(0, 9)] } }

/-- YardmasterBoundary by clause: s_3. -/
theorem wit_YardmasterBoundary :
    (s_3.domainOn 3 = true) ∧
    (s_3.domainOn 9 = true) := by
  and_intros <;> decide +kernel

end YardmasterBoundary

namespace SolveOutcomes

def s_1 : State := T0.modYms fun y => { y with frozen := some (fz true), asks := [⟨0, 3, false, 2, true, false, false, 0, false, .none, NodeLim.init, Policy.init, NodeLim.init⟩] }

def s_3 : State := T0.modYms fun y => { y with frozen := some (fz false), emerg := some ⟨0, 1, [(1, 2), (0, 3)]⟩ }

def s_4 : State := ((T0.modYms fun y => { y with frozen := some (fz false), emRamp := [2] }).setS (F.YMS_Sn_GRANT_APPLIED 2) 900).setS (F.YMS_Sn_GRANT_TARGET 2) 100

/-- SolveOutcomes by clause: s_1, s_1, s_3, s_3, s_4. -/
theorem wit_SolveOutcomes :
    (∀ s ∈ [s_1, s_3, s_4], s.yms.frozen = some (s.yms.frozen.getD (fz true))) ∧
    ((s_1.yms.frozen.getD (fz true)).solving = true) ∧
    (s_1.domainOn 9 = true) ∧
    (s_3.yms.emerg = some (s_3.yms.emerg.getD emerg0)) ∧
    (s_4.yms.emRamp = [2]) := by
  and_intros <;> decide +kernel

end SolveOutcomes

namespace TargetsWithinDemand

def mk (k : Nat) : State :=
  let st : List FStall := (List.range 4).map fun i =>
    { (fs i ((k * 7 + i * 3) % 5 = 1) ((k * 131 + i * 977) % 1500) 0 ((k + i) % 4)) with floor := min ((k * 131 + i * 977) % 1500) ((k * 37 + i * 211) % 300), node := 2 + i, weight := 1 + (k + i) % 5, vEst := 1 + (k * 997 + i * 313) % 9000, ceil := (k * 53 + i * 701) % 2500, rampUp := (k*17+i*5) % 400, rampDown := (k * 29 + i * 3) % 400 }
  let nodes := [nd 0 0 0xFFFF, nd 3 0 0] ++ (List.range 4).map fun i => { (nd 4 i 1) with iLim := 100 + (k * 91) % 3000 }
  let lim := (List.range 6).map fun i => (k * 311 + i * 57) % 3000
  let f : Frozen := { at_ := 900000, stalls := st, imp := lim, exp := lim.reverse, iLim := lim.map (· * 2), priv := (List.range 6).map fun i => if i % 2 = k % 2 then some ((k * 41 + i * 313) % 2500, (k * 77 + i * 99) % 900) else none, solving := true, epoch := 1, nodes := nodes, avail := [0,0,0,0,0,0], store := [0,0,(k * 13) % 900,0,0,0], taper := List.replicate 6 (k % 3 = 0), clamped := [], limited := [] }
  let s := R0.modYms fun y => { y with tree := { nodes := nodes, vEstMin := 2000, emergRamp := 100 }, frozen := some f }
  (List.range 4).foldl (fun s i => (s.setS (F.YMS_Sn_GRANT_APPLIED i) (((k * 71 + i * 111) % 1000 : Nat) - 300 : Int)).setS (F.YMS_Sn_GRANT_TARGET i) (((k * 71 + i * 111) % 1000 : Nat) - 300 : Int)) s

/-- TargetsWithinDemand by clause: mk 0. -/
theorem wit_TargetsWithinDemand :
    ((mk 0).yms.frozen = some ((mk 0).yms.frozen.getD (fz true))) ∧
    (((mk 0).yms.frozen.getD (fz true)).solving = true) ∧
    ((mk 0).domainOn 9 = true) ∧
    (∀ (x : FStall), x ∈ ((mk 0).yms.frozen.getD (fz true)).stalls → x.stall < 48 ∧ 0 < x.vEst ∧ 0 < x.weight ∧ x.floor ≤ x.dem ∧ x.dem ≤
      32767) ∧
    ((List.map FStall.stall ((mk 0).yms.frozen.getD (fz true)).stalls).Nodup) := by
  and_intros <;> decide +kernel

end TargetsWithinDemand

namespace Cabinets

def c2 (s : State) (v : Nat) (k : Cab) : State := (s.setCab 2 v 0).modYms fun y => { y with cabs := y.cabs.set 2 k }

def tk (s : State) (op : Nat) : State := s.withD 0 [{ mkD 3 7 op 2 with phase := .taken }]

def s_2 : State := c2 (tk T0 0x302) 2 { Cab.init with enable := [(0, 3)] }

def s_3 : State := c2 (tk T0 0x303) 4 { Cab.init with retire := [(0, 3)] }

def s_4 : State := c2 (T0.cmd 0x302 2) 0 Cab.init

def s_6 : State := c2 (T0.cmd 0x302 2) 1 Cab.init

def s_8 : State := c2 (T0.cmd 0x302 2) 4 { Cab.init with retire := [(1, 9)] }

def s_9 : State := c2 (T0.cmd 0x303 2 [(24,4,5000)]) 0 Cab.init

def s_10 : State := c2 (T0.cmd 0x303 2 [(24,4,5000)]) 2 { Cab.init with enable := [(1, 9)] }

def s_11 : State := c2 (T0.cmd 0x303 2 [(24,4,5000)]) 3 Cab.init

def s_12 : State := c2 (T0.cmd 0x303 2 [(24,4,5000)]) 4 { Cab.init with retire := [(1, 9)] }

def s_13 : State := c2 (T0.cmd 0x302 2) 2 { Cab.init with enable := [(1, 9)] }

/-- Cabinets by clause: s_8, s_2, s_3, s_4, s_6, s_13, s_8, s_9, s_10, s_11, s_12. -/
theorem wit_Cabinets :
    (∀ s ∈ [s_8, s_2, s_3, s_4, s_6, s_13, s_9, s_10, s_11, s_12], s.yms.cabs.length = 16) ∧
    (s_8.cabState 2 = 3 ∨ s_8.cabState 2 = 4) ∧
    (∀ s ∈ [s_2, s_3], (s.pd 0).table.find? (fun x => decide (x.num = 3 ∧ x.phase ≠ DescPhase.finished)) = some (wOf s 0 3)) ∧
    (∀ s ∈ [s_2, s_10], s.cabState 2 = 2) ∧
    ((s_2.cab 2).enable = [(0, 3)]) ∧
    (∀ s ∈ [s_3, s_8], s.cabState 2 = 4) ∧
    ((s_3.cab 2).retire = [(0, 3)]) ∧
    ((s_3.cab 2).cancel = []) ∧
    (∀ s ∈ [s_4, s_6, s_13, s_8], s.Ready 0 7 770 (dOf s 0 7)) ∧
    (∀ s ∈ [s_4, s_6, s_13, s_8, s_9, s_10, s_11, s_12], (dOf s 0 7).target = 2) ∧
    (∀ s ∈ [s_4, s_9], s.cabState 2 = 0) ∧
    (s_6.cabState 2 = 1 ∨ s_6.cabState 2 = 5) ∧
    (s_13.cabState 2 = 2 ∨ s_13.cabState 2 = 3) ∧
    (∀ s ∈ [s_9, s_10, s_11, s_12], s.Ready 0 7 771 (dOf s 0 7)) ∧
    (¬(0, (dOf s_10 0 7).num) ∈ (s_10.cab 2).enable) ∧
    (s_11.cabState 2 = 3) ∧
    (s_12.cabState 2 = 1 ∨ s_12.cabState 2 = 4 ∨ s_12.cabState 2 = 5) := by
  unfold State.Ready; and_intros <;> decide +kernel

end Cabinets

namespace PolicyAndThrottle

def s_1 : State := T0.cmd 0x301 5 [(24,1,2),(25,1,7)]

def s_2 : State := T0.cmd 0x301 2 [(24,1,2),(25,1,7)]

def s_3 : State := T0.cmd 0x304 95

def s_4 : State := T0.cmd 0x304 0 [(32,2,9)]

def s_5 : State := (T0.cmd 0x304 0 [(24,4,9000),(28,4,0xFFFFFFFF)]).modYms fun y => { y with lims := List.replicate 4 NodeLim.init }

def s_7 : State := T0.cmd 0x305 0xFFFF [] 100

def s_9 : State := T0.modYms fun y => { y with throttle := y.throttle.set 2 { Throttle.init with grace := true, satisfied := true } }

/-- PolicyAndThrottle by clause: s_3, s_1, s_2, s_3, s_4, s_5, s_7, s_9. -/
theorem wit_PolicyAndThrottle :
    (2 < s_3.variant.links) ∧
    (2 < s_3.yms.req.length) ∧
    (∀ s ∈ [s_1, s_2], s.Ready 0 7 769 (dOf s 0 7)) ∧
    (s_1.stallNode? (dOf s_1 0 7).target = none) ∧
    ((s_2.stallNode? (dOf s_2 0 7).target).isSome = true) ∧
    ((dOf s_2 0 7).target < s_2.yms.policy.length) ∧
    ((dOf s_2 0 7).arg 24 1 < 4) ∧
    (1 ≤ (dOf s_2 0 7).arg 25 1) ∧
    (∀ s ∈ [s_3, s_4, s_5], s.Ready 0 7 772 (dOf s 0 7)) ∧
    (s_3.treeNodes.length ≤ (dOf s_3 0 7).target) ∧
    (∀ s ∈ [s_4, s_5], s.treeNodes[(dOf s 0 7).target]? = some (s.treeNodes[(dOf s 0 7).target]?.getD node0)) ∧
    ((s_4.treeNodes[(dOf s_4 0 7).target]?.getD node0).kind ≠ 3) ∧
    ((dOf s_4 0 7).arg 32 2 ≠ 0) ∧
    ((dOf s_4 0 7).arg 32 2 ≠ 65535) ∧
    ((dOf s_5 0 7).arg 32 2 = 0) ∧
    ((dOf s_5 0 7).target < s_5.yms.lims.length) ∧
    ((dOf s_5 0 7).arg 24 4 ≠ 4294967295) ∧
    ((dOf s_5 0 7).arg 28 4 = 4294967295) ∧
    (s_7.Ready 0 7 773 (dOf s_7 0 7)) ∧
    (2 < s_9.yms.throttle.length) ∧
    ((s_9.yms.throttle.getD 2 Throttle.init).grace = true) ∧
    (s_9.flag (F.YMS_Sn_THROTTLE_ENFORCED 2) = false) := by
  unfold State.Ready; and_intros <;> decide +kernel

end PolicyAndThrottle

end Sys2Proof.Tests.WYard
end

