-- ==== Sys2Proof/Tests/Wf.lean ====
section
/-!
SUPPORT. The smoke test of WellFormed.lean: for each of its checks an ill-formed command, which the check refuses; and for each command
with a check a well-formed one, which passes.
-/
namespace Sys2Proof.Tests

set_option maxRecDepth 100000

def hk0 : HkIn :=
  { die := List.replicate 8 0, vaux := 0, vauxLow := 0, vhold := 0, vcore := 0, vio33 := 0, vio18 := 0, vbat := 0, watts := 0, afe := List.replicate 4 []
    gpio := 0, climit := 0, bstLow := 0 }
def fd0 : FeederIn := { samples := List.replicate 25 (List.replicate 4 (0, 0)), held := [], freq := 50 }
def frame0 : CanFrame := { id := 1, ide := false, fdf := false, brs := false, esi := false, rtr := false, dlc := 0, data := [] }

/-! The checks of the records that commands carry. -/

theorem test_wf_doorbell : ∀ d ∈ [(⟨15, 0, 0⟩ : Doorbell), ⟨0, 4294967296, 0⟩, ⟨0, 0, 4294967296⟩], d.wf = false := by decide
theorem test_wf_slot : ∀ x ∈ [(⟨8, 0, List.replicate 64 0⟩ : SqSlot), ⟨0, 0, List.replicate 63 0⟩, ⟨0, 0, List.replicate 64 256⟩], x.wf = false := by
  decide
theorem test_wf_feeder : ∀ f ∈ [{ fd0 with samples := [] }, { fd0 with samples := List.replicate 25 [] }, { fd0 with held := [4] }], f.wf = false := by
  decide
theorem test_wf_frame :
    ∀ f ∈ [{ frame0 with id := 2048 }, { frame0 with id := 536870912, ide := true }, { frame0 with dlc := 16 },
      { frame0 with data := List.replicate 65 0 }, { frame0 with data := [256] }, { frame0 with brs := true },
      { frame0 with fdf := true, rtr := true }], f.wf = false := by
  decide

/-! Each check of a command's operands, by an operand just outside it. -/

theorem test_wf_bad_1 : ∀ c ∈ ([
    .doorbellPoll 4 [] [], .doorbellPoll 1 [⟨15, 0, 0⟩] [], .doorbellPoll 1 [] [⟨8, 0, List.replicate 64 0⟩], .descriptorStart 4 1,
      .descriptorStart 1 65536, .interruptCoalesceTimeout 4 8, .interruptCoalesceTimeout 1 7, .interruptCoalesceTimeout 1 13,
      .ringDmaError 4 1, .ringDmaError 1 15, .ringEnableWrite 4 1 1, .ringEnableWrite 1 13 1, .ringEnableWrite 1 1 4294967296,
      .ringDisableWrite 4 1 1, .ringDisableWrite 1 13 1, .ringDisableWrite 1 1 4294967296, .pdkNudge 4 1 [] [],
      .pdkNudge 1 4294967296 [] [], .pdkNudge 1 1 [⟨15, 0, 0⟩] [], .pdkNudge 1 1 [] [⟨8, 0, List.replicate 64 0⟩], .paddockFlr 4,
      .portPerst 4, .bar0UnsupportedAccess 4, .offDomainRegisterAccess 4 4 1 true, .offDomainRegisterAccess 1 0x200000 1 true,
      .offDomainRegisterAccess 1 2 1 true, .offDomainRegisterAccess 1 4 4294967296 true, .registerWrite 4 4 1,
      .registerWrite 1 0x200000 1, .registerWrite 1 2 1, .registerWrite 1 4 4294967296, .rwpRegisterWrite 4 4 1,
      .rwpRegisterWrite 1 0x200000 1, .rwpRegisterWrite 1 2 1, .rwpRegisterWrite 1 4 4294967296, .lockRegisterWrite 4 4 1,
      .lockRegisterWrite 1 0x200000 1, .lockRegisterWrite 1 2 1, .lockRegisterWrite 1 4 4294967296, .glbLockAllWrite 4 1,
      .glbLockAllWrite 1 4294967296, .wideLoRead 4 4, .wideLoRead 1 0x200000, .wideLoRead 1 2, .gpioSetWrite 4 1,
      .gpioSetWrite 1 4294967296, .gpioClearWrite 4 1, .gpioClearWrite 1 4294967296, .pwrWakeNow 4 1, .pwrWakeNow 1 4294967296,
      .laneResetWrite 4 1, .laneResetWrite 1 4294967296, .laneReadmitWrite 4 1, .laneReadmitWrite 1 4294967296,
      .auxEnableClearWrite 4 1 1, .auxEnableClearWrite 1 4 1, .auxEnableClearWrite 1 1 4294967296, .lswEnableClearWrite 4 1 1,
      .lswEnableClearWrite 1 16 1, .lswEnableClearWrite 1 1 4294967296] : List Instr), c.wf = false := by decide

theorem test_wf_bad_2 : ∀ c ∈ ([
    .canModeWrite 4 1 1, .canModeWrite 1 8 1, .canModeWrite 1 1 4294967296, .cvuConfigWrite 4 1 1 1, .cvuConfigWrite 1 8 1 1,
      .cvuConfigWrite 1 1 4 1, .cvuConfigWrite 1 1 1 4294967296, .cvuAliveCfgWrite 4 1 1, .cvuAliveCfgWrite 1 8 1,
      .cvuAliveCfgWrite 1 1 4294967296, .droRxEnableWrite 4 1, .droRxEnableWrite 1 4294967296, .canRxEnableWrite 4 1,
      .canRxEnableWrite 1 4294967296, .nop 4 1, .nop 1 65536, .laneHandover 4 1, .laneHandover 1 65536, .fwActivate 4 1,
      .fwActivate 1 65536, .charterLoad 4 1 [] true, .charterLoad 1 65536 [] true, .charterLoad 1 1 [256] true, .stallConfig 4 1,
      .stallConfig 1 65536, .sealAck 4 1, .sealAck 1 65536, .linkRetrain 4 1, .linkRetrain 1 65536, .linkDisable 4 1,
      .linkDisable 1 65536, .stallPolicy 4 1, .stallPolicy 1 65536, .cabinetEnable 4 1, .cabinetEnable 1 65536, .cabinetRetire 4 1,
      .cabinetRetire 1 65536, .nodeLimit 4 1, .nodeLimit 1 65536, .allocQuery 4 1, .allocQuery 1 65536, .stallStop 4 1,
      .stallStop 1 65536, .loopTune 4 1, .loopTune 1 65536, .calApply 4 1, .calApply 1 65536, .checkpointNow 4 1, .checkpointNow 1 65536,
      .pulseInputMode 4 1, .pulseInputMode 1 65536, .timeSet 4 1, .timeSet 1 65536, .readingTake 4 1, .readingTake 1 65536,
      .recordFetch 4 1, .recordFetch 1 65536, .prepayCredit 4 1, .prepayCredit 1 65536, .prepayDebit 4 1] : List Instr), c.wf = false := by decide

theorem test_wf_bad_3 : ∀ c ∈ ([
    .prepayDebit 1 65536, .prepayQuery 4 1, .prepayQuery 1 65536, .sessionAuthorize 4 1 [], .sessionAuthorize 1 65536 [],
      .sessionAuthorize 1 1 [256], .sessionStop 4 1, .sessionStop 1 65536, .sessionQuery 4 1, .sessionQuery 1 65536, .tunnelSend 4 1 [],
      .tunnelSend 1 65536 [], .tunnelSend 1 1 [256], .allowLookup 4 1 true, .allowLookup 1 65536 true, .bridgeSet 4 1,
      .bridgeSet 1 65536, .coolingSet 4 1, .coolingSet 1 65536, .hrnFaultClear 4 1, .hrnFaultClear 1 65536, .auxSet 4 1, .auxSet 1 65536,
      .lswSet 4 1, .lswSet 1 65536, .lswFaultClear 4 1, .lswFaultClear 1 65536, .canSend 4 1 [], .canSend 1 65536 [], .canSend 1 1 [256],
      .canRecover 4 1, .canRecover 1 65536, .safetyProofTest 4 1, .safetyProofTest 1 65536, .serviceClear 4 1, .serviceClear 1 65536,
      .imageStage 4 1 [] true, .imageStage 1 65536 [] true, .imageStage 1 1 [256] true, .epochSwitch 4 1, .epochSwitch 1 65536,
      .changeWindowOpen 4 1 () true, .changeWindowOpen 1 65536 () true, .changeWindowClose 4 1, .changeWindowClose 1 65536,
      .sign 4 1 [] true, .sign 1 65536 [] true, .sign 1 1 [256] true, .keyGenerate 4 1, .keyGenerate 1 65536, .attest 4 1 true,
      .attest 1 65536 true, .lifecycleSet 4 1 [] true, .lifecycleSet 1 65536 [] true, .lifecycleSet 1 1 [256] true, .hostRead 4 1 [],
      .hostRead 1 65536 [], .hostRead 1 1 [114688], .hostWrite 4 1 [], .hostWrite 1 65536 []] : List Instr), c.wf = false := by decide

theorem test_wf_bad_4 : ∀ c ∈ ([
    .hostWrite 1 1 [256], .logFetch 4 1, .logFetch 1 65536, .powerState 4 1, .powerState 1 65536, .deviceReset 4 1,
      .deviceReset 1 65536, .outputAdopt 4 1, .outputAdopt 1 65536, .telemetryRead 4 1, .telemetryRead 1 65536, .checkJob 4 1 [],
      .checkJob 1 65536 [], .checkJob 1 1 [256], .powerOnResetRelease (some 0) true (true, true) (true, true) (true, true) 1,
      .railUndervoltage 3, .thermalShutdown 8 0 1, .auxReleaseDelayExpiry 4, .laneRequestSlotWrite 48 true true 1 1,
      .laneRequestSlotWrite 1 true true 65536 1, .laneRequestSlotWrite 1 true true 1 65536, .laneModeRequest 48 1 1,
      .laneModeRequest 1 6 1, .laneModeRequest 1 1 65536, .laneSessionBind 48, .laneFaultReport 2, .laneRebootReady 2 true,
      .edgeBlockLatch 48, .walkerPeriodCompute 48 0, .uplinkFrameReceive 48 1 [], .uplinkFrameReceive 1 3 [],
      .uplinkFrameReceive 1 1 [256], .linkLostEntry 48 1, .linkLostEntry 1 2, .linkLostRecover 48, .linkLostTimeout 48,
      .linkTrainLock 48, .linkMeasureDone 48 1 1, .linkTrimEchoed 48, .linkStep3Done 48, .linkIdentDone 48, .keyResponseReceive 48,
      .keyingVerifyDone 48 () (), .keyConfirmAckReceive 48 (), .configAckReceive 48 (), .linkRecordCommitted 48, .mgmtRetryTimeout 48,
      .keyingRetryTimer 48, .rekeyTimer 48, .keySwitch 48, .weighbridgeMsCommit 0 [] [],
      .weighbridgeMsCommit 0 [] (List.replicate 4 { fd0 with samples := [] }), .cabinetSilenceTimeout 16, .cabinetEnableTimeout 16,
      .cabinetDrainEnd 16, .throttleGraceExpiry 48, .housekeepingRound { hk0 with die := [] }, .housekeepingRound { hk0 with afe := [] },
      .pulseOutputStart 4, .s0InputEdge 4 1] : List Instr), c.wf = false := by decide

theorem test_wf_bad_5 : ∀ c ∈ ([
    .pulseCompareTimeout 4, .sessionMeteringOpen 48, .sessionMeteringClose 48, .tamperEdge 2 true true 1, .modeTimeout 48,
      .contactorCloseTimeout 48, .ffLostTimeout 48, .phaseLost 48 1 1, .phaseLost 1 6 1, .phaseLost 1 1 2, .phaseDegradedLimit 48,
      .twoStepComplete 48, .estopChannelOpen 4 1, .estopChannelOpen 1 2, .estopDiscrepancyTimeout 4, .estopLoopClose 4 1,
      .estopLoopClose 1 4, .estopResetPulse 32 1, .estopRearmTimeout 4, .edmMismatch 4, .halterSampleTrip 48, .sustainedOverTimeout 48,
      .stopPermitWithdrawal 48, .stopEnd 48, .contactorWeldTimeout 48, .sensorLossTimeout 48 1, .sensorLossTimeout 1 2,
      .sensorDegradedLimit 48, .sensorLockoutRelease 48, .coolantFlowLow 48, .coolantFlowRelease 48, .hallEdge 6 1, .hallEdge 1 8,
      .hallInvalidTimeout 6, .rotorStallTimeout 6, .directInputEdge 5 1 true, .directInputEdge 6 6 true, .bothOnRejection 8 1,
      .bothOnRejection 1 3, .bootstrapRefreshTimer 8 1, .bootstrapRefreshTimer 1 3, .bootstrapUndervoltage 8 1,
      .bootstrapUndervoltage 1 3, .harnessOvercurrent 8 1, .harnessOvercurrent 1 6, .desatTrip 8 1, .desatTrip 1 6, .vmotOvervoltage 2 1,
      .vmotOvervoltage 1 1024, .vmotUndervoltage 2 1, .vmotUndervoltage 1 1024, .vmotUvRecovery 2 1, .vmotUvRecovery 1 1024,
      .chopperOn 2 1, .chopperOn 1 1024, .chopperOff 2 1, .chopperOff 1 1024, .chopOverloadTimeout 2, .auxStartTestEnd 4 1 1 1,
      .auxStartTestEnd 1 1 65536 1] : List Instr), c.wf = false := by decide

theorem test_wf_bad_6 : ∀ c ∈ ([
    .auxStartTestEnd 1 1 1 65536, .auxTargetReached 4 1 1, .auxTargetReached 1 65536 1, .auxTargetReached 1 1 65536,
      .auxRampOffEnd 4 1 1, .auxRampOffEnd 1 65536 1, .auxRampOffEnd 1 1 65536, .auxShortDetect 4 1 1, .auxShortDetect 1 65536 1,
      .auxShortDetect 1 1 65536, .auxHiccupRestart 4 1 1, .auxHiccupRestart 1 65536 1, .auxHiccupRestart 1 1 65536,
      .auxOvervoltage 4 1 1, .auxOvervoltage 1 65536 1, .auxOvervoltage 1 1 65536, .auxOvBrake 4 1 1, .auxOvBrake 1 65536 1,
      .auxOvBrake 1 1 65536, .auxBrakeEnd 4 1 1, .auxBrakeEnd 1 65536 1, .auxBrakeEnd 1 1 65536, .auxVinUndervoltage 4 1 1,
      .auxVinUndervoltage 1 65536 1, .auxVinUndervoltage 1 1 65536, .auxVinRecovery 4 1 1, .auxVinRecovery 1 65536 1,
      .auxVinRecovery 1 1 65536, .auxPgoodLoss 4 1 1, .auxPgoodLoss 1 65536 1, .auxPgoodLoss 1 1 65536, .auxSetTimeout 4,
      .lsinEdge 16 true, .lswClamp 16, .lswInrushTrip 16, .lswInrushWindowEnd 16, .lswOvercurrentTrip 16, .lswGroupOt 4 1,
      .lswGroupOt 1 65536, .lswGroupUv 4 1, .lswGroupUv 1 65536, .lswGroupUvRecovery 4 1, .lswGroupUvRecovery 1 65536,
      .lswGroupDisturbEnd 4, .lswOpenLoad 16, .lswShortSupply 16 true, .lswSetUvTimeout 16, .canFrameReceive 8 frame0 1 true,
      .canFrameReceive 1 { frame0 with dlc := 16 } 1 true, .canFrameReceive 1 frame0 (2 ^ 64) true, .canFrameAcknowledged 8 1 1,
      .canFrameAcknowledged 1 (2 ^ 64) 1, .canArbitrationLoss 8 1 true, .canArbitrationLoss 1 (2 ^ 64) true, .canTxTimeout 8 1 1 none,
      .canTxTimeout 1 4 1 none, .canTxTimeout 1 1 1 (some (2 ^ 64)), .canErrorStateChange 8 1 1, .canErrorStateChange 1 512 1,
      .canErrorStateChange 1 1 512] : List Instr), c.wf = false := by decide

theorem test_wf_bad_7 : ∀ c ∈ ([
    .canRecoveryDone 8, .canRecoverTimeout 8, .canRateDetectResult 8 1, .canRateDetectResult 1 9, .canRateDetectTimeout 8,
      .droMessageReceive 48 .lost, .droTimerExpiry 128 1, .droTimerExpiry 1 16, .droStallResult 128 1, .droStallResult 1 11,
      .authLookupDone 128 true, .authHostTimeout 128, .lingerExpiry 128, .tcpRetransmitTimeout 128, .serviceUnlock [256],
      .nandMigration 0, .nandMigration 4, .nandMigration 6, .nandScrub 8 1 1 true, .wakeEvent 5, .linkRetrainTimeout 48,
      .stallStopTimeout 48, .bridgeRampEnd 8, .lswCurrentSample 16 1 1 1, .lswCurrentSample 1 4096 1 1, .lswCurrentSample 1 1 65536 1,
      .lswCurrentSample 1 1 1 65536, .pulseOutputEnd 4, .safetyProofTestEnd 8] : List Instr), c.wf = false := by decide

/-! Operands inside every check. -/

theorem test_wf_good_1 : ∀ c ∈ ([
    .doorbellPoll 1 [] [], .descriptorStart 1 1, .interruptCoalesceTimeout 1 8, .ringDmaError 1 1, .ringEnableWrite 1 1 1,
      .ringDisableWrite 1 1 1, .pdkNudge 1 1 [] [], .paddockFlr 1, .portPerst 1, .bar0UnsupportedAccess 1,
      .offDomainRegisterAccess 1 4 1 true, .registerWrite 1 4 1, .rwpRegisterWrite 1 4 1, .lockRegisterWrite 1 4 1, .glbLockAllWrite 1 1,
      .wideLoRead 1 4, .gpioSetWrite 1 1, .gpioClearWrite 1 1, .pwrWakeNow 1 1, .laneResetWrite 1 1, .laneReadmitWrite 1 1,
      .auxEnableClearWrite 1 1 1, .lswEnableClearWrite 1 1 1, .canModeWrite 1 1 1, .cvuConfigWrite 1 1 1 1, .cvuAliveCfgWrite 1 1 1,
      .droRxEnableWrite 1 1, .canRxEnableWrite 1 1, .nop 1 1, .laneHandover 1 1, .fwActivate 1 1, .charterLoad 1 1 [] true,
      .stallConfig 1 1, .sealAck 1 1, .linkRetrain 1 1, .linkDisable 1 1, .stallPolicy 1 1, .cabinetEnable 1 1, .cabinetRetire 1 1,
      .nodeLimit 1 1, .allocQuery 1 1, .stallStop 1 1, .loopTune 1 1, .calApply 1 1, .checkpointNow 1 1, .pulseInputMode 1 1,
      .timeSet 1 1, .readingTake 1 1, .recordFetch 1 1, .prepayCredit 1 1, .prepayDebit 1 1, .prepayQuery 1 1, .sessionAuthorize 1 1 [],
      .sessionStop 1 1, .sessionQuery 1 1, .tunnelSend 1 1 [], .allowLookup 1 1 true, .bridgeSet 1 1, .coolingSet 1 1, .hrnFaultClear 1 1] : List Instr), c.wf = true := by decide

theorem test_wf_good_2 : ∀ c ∈ ([
    .auxSet 1 1, .lswSet 1 1, .lswFaultClear 1 1, .canSend 1 1 [], .canRecover 1 1, .safetyProofTest 1 1, .serviceClear 1 1,
      .imageStage 1 1 [] true, .epochSwitch 1 1, .changeWindowOpen 1 1 () true, .changeWindowClose 1 1, .sign 1 1 [] true,
      .keyGenerate 1 1, .attest 1 1 true, .lifecycleSet 1 1 [] true, .hostRead 1 1 [], .hostWrite 1 1 [], .logFetch 1 1, .powerState 1 1,
      .deviceReset 1 1, .outputAdopt 1 1, .telemetryRead 1 1, .checkJob 1 1 [],
      .powerOnResetRelease none true (true, true) (true, true) (true, true) 1, .railUndervoltage 1, .thermalShutdown 1 0 1,
      .auxReleaseDelayExpiry 1, .laneRequestSlotWrite 1 true true 1 1, .laneModeRequest 1 1 1, .laneSessionBind 1, .laneFaultReport 1,
      .laneRebootReady 1 true, .edgeBlockLatch 1, .walkerPeriodCompute 1 0, .uplinkFrameReceive 1 1 [], .linkLostEntry 1 1,
      .linkLostRecover 1, .linkLostTimeout 1, .linkTrainLock 1, .linkMeasureDone 1 1 1, .linkTrimEchoed 1, .linkStep3Done 1,
      .linkIdentDone 1, .keyResponseReceive 1, .keyingVerifyDone 1 () (), .keyConfirmAckReceive 1 (), .configAckReceive 1 (),
      .linkRecordCommitted 1, .mgmtRetryTimeout 1, .keyingRetryTimer 1, .rekeyTimer 1, .keySwitch 1,
      .weighbridgeMsCommit 0 [] (List.replicate 4 fd0), .cabinetSilenceTimeout 1, .cabinetEnableTimeout 1, .cabinetDrainEnd 1,
      .throttleGraceExpiry 1, .housekeepingRound hk0, .pulseOutputStart 1, .s0InputEdge 1 1] : List Instr), c.wf = true := by decide

theorem test_wf_good_3 : ∀ c ∈ ([
    .pulseCompareTimeout 1, .sessionMeteringOpen 1, .sessionMeteringClose 1, .tamperEdge 1 true true 1, .modeTimeout 1,
      .contactorCloseTimeout 1, .ffLostTimeout 1, .phaseLost 1 1 1, .phaseDegradedLimit 1, .twoStepComplete 1, .estopChannelOpen 1 1,
      .estopDiscrepancyTimeout 1, .estopLoopClose 1 1, .estopResetPulse 1 1, .estopRearmTimeout 1, .edmMismatch 1, .halterSampleTrip 1,
      .sustainedOverTimeout 1, .stopPermitWithdrawal 1, .stopEnd 1, .contactorWeldTimeout 1, .sensorLossTimeout 1 1,
      .sensorDegradedLimit 1, .sensorLockoutRelease 1, .coolantFlowLow 1, .coolantFlowRelease 1, .hallEdge 1 1, .hallInvalidTimeout 1,
      .rotorStallTimeout 1, .directInputEdge 6 1 true, .bothOnRejection 1 1, .bootstrapRefreshTimer 1 1, .bootstrapUndervoltage 1 1,
      .harnessOvercurrent 1 1, .desatTrip 1 1, .vmotOvervoltage 1 1, .vmotUndervoltage 1 1, .vmotUvRecovery 1 1, .chopperOn 1 1,
      .chopperOff 1 1, .chopOverloadTimeout 1, .auxStartTestEnd 1 1 1 1, .auxTargetReached 1 1 1, .auxRampOffEnd 1 1 1,
      .auxShortDetect 1 1 1, .auxHiccupRestart 1 1 1, .auxOvervoltage 1 1 1, .auxOvBrake 1 1 1, .auxBrakeEnd 1 1 1,
      .auxVinUndervoltage 1 1 1, .auxVinRecovery 1 1 1, .auxPgoodLoss 1 1 1, .auxSetTimeout 1, .lsinEdge 1 true, .lswClamp 1,
      .lswInrushTrip 1, .lswInrushWindowEnd 1, .lswOvercurrentTrip 1, .lswGroupOt 1 1, .lswGroupUv 1 1] : List Instr), c.wf = true := by decide

theorem test_wf_good_4 : ∀ c ∈ ([
    .lswGroupUvRecovery 1 1, .lswGroupDisturbEnd 1, .lswOpenLoad 1, .lswShortSupply 1 true, .lswSetUvTimeout 1,
      .canFrameReceive 1 frame0 1 true, .canFrameAcknowledged 1 1 1, .canArbitrationLoss 1 1 true, .canTxTimeout 1 1 1 none,
      .canErrorStateChange 1 1 1, .canRecoveryDone 1, .canRecoverTimeout 1, .canRateDetectResult 1 1, .canRateDetectTimeout 1,
      .droMessageReceive 1 .lost, .droTimerExpiry 1 1, .droStallResult 1 1, .authLookupDone 1 true, .authHostTimeout 1, .lingerExpiry 1,
      .tcpRetransmitTimeout 1, .serviceUnlock [], .nandMigration 1, .nandScrub 1 1 1 true, .wakeEvent 1, .linkRetrainTimeout 1,
      .stallStopTimeout 1, .bridgeRampEnd 1, .lswCurrentSample 1 1 1 1, .pulseOutputEnd 1, .safetyProofTestEnd 1] : List Instr), c.wf = true := by decide

end Sys2Proof.Tests
end

