-- ==== Sys2Proof/Tests/Slice0.lean ====
section
/-!
SUPPORT. Tests whose expected values are the spec's own (its worked examples, its check values, its reset values), and the witnesses of
the statements about every command.
-/
namespace Sys2Proof.Tests

open Sys2Proof.Machine
set_option maxRecDepth 100000
set_option Elab.async false

/-- The next state of a command. -/
def next (c : Instr) (s : State) : State := match exec c s with
  | .next t => t
  | _ => s

/-! ### The queue and the idle step -/

theorem test_idle : step R0 = .next { R0 with chrono := 1000001 } := by rfl
theorem test_idle_cold : step State.reset = .next State.reset := by rfl
/-- The next state of a step. -/
def stepped (s : State) : State := match step s with
  | .next t => t
  | _ => s

theorem test_fifo : (stepped { R0 with pending := [.legalTickAdvance, .paddockFlr 2] }).pending = [.paddockFlr 2] := by decide +kernel
theorem test_no_words : ∀ n < 64, decodeTableWord n 0 = none := by decide

/-! ### Check values and alive counters (R424, R425 and the worked example of 11_can_check.md) -/

theorem test_crc32c : crc32c checkString = 0xE3069283 := by decide +kernel
theorem test_check_reset : State.reset.get (F.CVU_Un_CHECK 7) = 0xE3069283 := by decide +kernel
theorem test_crc32 : crcOut 32 (crcReg 32 0x04C11DB7 0xFFFFFFFF true checkString) 0xFFFFFFFF true = 0xCBF43926 := by decide +kernel
theorem test_crc16 : crcOut 16 (crcReg 16 0x1021 0xFFFF false checkString) 0 false = 0x29B1 := by decide +kernel
theorem test_crc8 : crcOut 8 (crcReg 8 0x1D 0xFF false checkString) 0xFF false = 0x4B := by decide +kernel

/-- The outcomes of counters in turn, with M = 16, MAX_DELTA 2, SYNC_COUNT 3. -/
def aliveRun : List Nat → Alive → List AliveRes
  | [], _ => []
  | c :: cs, a => (a.check c 16 2 3).1 :: aliveRun cs (a.check c 16 2 3).2.2

theorem test_alive : aliveRun [6, 7, 9, 9, 14, 15, 0] { phase := .valid, ref := 5, n := 3 } =
    [.ok, .ok, .okSkip, .again, .wrong, .resync, .ok] := by
  decide

/-- A cabinet report's AVAIL_OUT in kW with SCALE 10.0: raw 6,000 is 60,000 units of 0.1 kW. -/
theorem test_signal_power :
    (CanSignal.power { start := 16, len := 16, big := false, signed := false, scale := 0x000A0000 } [0, 0, 0x70, 0x17]) = 60000 := by
  decide +kernel

/-! ### The solve (the worked example of 04_yardmaster.md: C2 trips at dawn) -/

def depotNodes : List TreeNode :=
  [{ node0 with kind := 0, parent := 255 }, { node0 with kind := 1 }, { node0 with kind := 2, parent := 1 }, { node0 with kind := 3, parent := 2 }] ++
    List.replicate 12 { node0 with kind := 4, parent := 3 }
def depotNet : Net :=
  { nodes := depotNodes, cap := [2000000000, 2000000000, 1200000000, 1800000000].map (Q.ofInt ·) ++ List.replicate 12 (Q.ofInt 100000000000)
    iLim := [], store := List.replicate 16 (Q.ofInt 0), lossy := true }
def depotStalls : List FStall := (List.range 12).map fun k =>
  { fstall0 with stall := k, node := k + 4, active := true, vEst := if k < 8 then 8000 else 7500, tier := k / 4, weight := 1 }
def fours (l : List Int) : List Q := (l.map fun x => List.replicate 4 (Q.ofInt x)).flatten

theorem test_depot_floors :
    (floorPass depotNet depotStalls (fours [80000000, 0, 15000000])).1 = fours [80000000, 0, 15000000] := by decide +kernel
theorem test_depot_resolve :
    fillAll depotNet depotStalls (fours [120000000, 120000000, 150000000]) (fours [80000000, 0, 15000000]) =
      fours [120000000, 120000000, 60000000] := by
  decide +kernel

/-! ### Edges (the worked example of 05_walker.md: S20 loses phase 2) -/

theorem test_theta : thetaOf 200000 3 1 = 66667 ∧ thetaOf 200000 3 2 = 133333 := by decide
theorem test_edges_phase0 : phaseEdges 200000 4400 2 0 160400 0 none = ([⟨0, 0, 1⟩, ⟨4, 400, 2⟩], 0, none) := by decide
theorem test_edges_phase1 : phaseEdges 200000 4400 2 66667 160400 0 (some 10400) = ([⟨0, 10400, 2⟩, ⟨1, 26667, 1⟩], 0, some 27067) := by decide
theorem test_edges_phase2 : offEdges 200000 4400 1 0 (some 60400) = [⟨1, 20400, 0⟩] := by decide
theorem test_edges_phase3 : phaseEdges 200000 4400 2 133333 160400 0 (some 110400) = ([⟨2, 30400, 2⟩, ⟨3, 13333, 1⟩], 0, some 93733) := by
  decide

/-! ### Hold-up energy (the worked example of 14_hayloft.md) -/

def holdup (c v : Nat) : State := (R0.set F.HAY_HOLDUP_C c).set F.HAY_HOLDUP_E_VHOLD v

/-- A full journal is admitted at 840 µF and 13.5 V; 827 µF is the least that admits it. -/
theorem test_holdup : (holdup 840 135).admits 1 (storeNeed 1 1024) = true ∧ (holdup 827 135).admits 1 (storeNeed 1 1024) = true ∧
    (holdup 826 135).admits 1 (storeNeed 1 1024) = false := by decide +kernel
/-- With a NAND erase beside it the store is refused: 60.6 mJ. -/
theorem test_holdup_erase : (holdup 840 135).admits 1 (storeNeed 1 1024 + storeNeed 4 1) = false := by decide +kernel

/-! ### Bridges (the worked example of 09_cooling_harness.md) -/

def pump : State := (R0.set (F.HRN_HBb_CFG_PWM_KHZ 3) 40).set (F.HRN_HBb_TIMING_DT 3) 25

theorem test_delivered_capped : pump.delivered 3 9900 = 9760 := by decide +kernel
theorem test_delivered_uv : pump.delivered 3 9700 = 9700 := by decide +kernel

/-! ### Regulators (the worked example of 10_aux_loads.md) -/

/-- AUX2 in SLEW from 5.000 V to 12.000 V at 1.00 V/ms, 3 ms on, with a second AUX_SET for 6.000 V at 0.50 V/ms waiting. -/
def fan : State :=
  let s := ((((R0.setB (F.AUXn_CFG_ENABLE 2) true).set (F.AUXn_DIV_RATIO 2) 40960).set (F.AUXn_STATE_PHASE 2) 5).set (F.AUXn_TARGET_TARGET 2)
    12000).set (F.AUXn_STATE_MODE 2) 1
  let s := s.modAux 2 fun a => { a with slew := 100, slewFrom := 5000, slewAt := 1000000, wanted := true, wait := some (0, 3) }
  { s with chrono := 1750000 }.withD 0 [{ mkD 3 7 0x0901 2 with phase := .taken }, mkD 4 8 0x0901 2 (prm [(24, 1, 1), (26, 2, 50), (28, 4, 6000)])]

theorem test_fan_reference : fan.auxRef 2 = 8000 := by decide +kernel
theorem test_fan_superseded :
    fan.rings.out = [] ∧ (next (.auxSet 0 8) fan.rings).out.any (isCqe 0 7 0x42 8000) = true := by decide +kernel
theorem test_fan_turns : { next (.auxSet 0 8) fan with chrono := 2750000 }.auxRef 2 = 6000 := by decide +kernel

/-! ### Registers (the worked example of 17_registers.md; reset values of the chapters' register tables) -/

/-- P0 writes the site ceiling while P2 owns the change window: discarded, with the offset in PDK_DENY_STATUS of P0. -/
def ceiling : State := ((R0.set F.YMS_SITE_IMPORT_CEIL 0x2BF20).setB F.TCK_WIN_STATE_OPEN true).set F.TCK_WIN_STATE_OWNER 2

theorem test_ceiling_denied : (next (.rwpRegisterWrite 0 0x30040 0x347D8) ceiling).get (F.PDK_DENY_STATUS_OFFSET 0) = 0x30040 ∧
    (next (.rwpRegisterWrite 0 0x30040 0x347D8) ceiling).readWord 0 0x30040 = 0x2BF20 := by decide +kernel

/-- PWR_SUPPLY_CFG 18.0, 16.0, 14.0 V; AUX1_RATE; CAN3_NBT; WBG_CKPT_CFG; YMS_CYCLE_CFG; GLB_TETHER_SLACK_MIN. -/
theorem test_reset_words :
    [0xF000C, 0x91048, 0xB10C4, 0x5000C, 0x30000, 0x420].map (fun off => R0.readWord 0 off) =
      [180 * 65536 + 160 * 256 + 140, 100 * 65536 + 100, 31 * 2 ^ 25 + 126 * 65536 + 31 * 512, 250, 2 ^ 31 + 10 * 256, 0x7FFFFFFF] := by
  decide +kernel

/-! ### Witnesses of the statements about every command -/

theorem wit_StepKeepsInv : R0.Inv ∧ ∃ t, step R0 = .next t :=
  ⟨by unfold State.Inv; and_intros <;> decide +kernel, _, test_idle⟩

theorem wit_IdleTick : R0.pending = [] ∧ R0.domainOn 3 = true ∧ State.reset.pending = [] ∧ State.reset.domainOn 3 = false := by
  and_intros <;> decide +kernel

/-- HostOnlyStoreWrites and CommandFrames: a command that is not STORE_COMPLETE and its next state. -/
theorem wit_command : (∀ id, Instr.legalTickAdvance ≠ .storeComplete id) ∧ ∃ t, exec .legalTickAdvance R0 = .next t :=
  ⟨fun _ h => (by cases h), _, rfl⟩

/-- EdgesApart: the Walker of an idle stall whose phase 0 ends a pulse that wrapped sends that edge. -/
def edgeS : State := WWalker.wk WWalker.WalkerPeriod.s_3 fun w => { w with endPrev := some 60400 :: List.replicate 5 none }

theorem wit_EdgesApart :
    (2 < edgeS.variant.links ∧ edgeS.wlk.length = 48 ∧ edgeS.linkState 2 = Link.run ∧ edgeS.domainOn 9 = true ∧
      edgeS.stallType? 2 = some WWalker.tyA) ∧
    ((edgeS.link 2).samples = [WWalker.smp true] ∧ (WWalker.smp true).valid = true) ∧
    ((next (.walkerPeriodCompute 2 5) edgeS).walk 2).out_ = .edges ([⟨1, 20400, 0⟩] :: List.replicate 5 []) := by
  and_intros <;> decide +kernel
theorem wit_EdgesApart_next : exec (.walkerPeriodCompute 2 5) edgeS = .next (next (.walkerPeriodCompute 2 5) edgeS) := rfl

end Sys2Proof.Tests
end

section
/-!
PROOFS. Bit-mapped register fields: the bits of a field after one of them is set.
-/
namespace Sys2Proof.PaddockLaws

open Sys2Proof.Machine

theorem bitOf_eq_testBit (v i : Nat) : bitOf v i = v.testBit i := by
  rw [Nat.testBit_eq_decide_div_mod_eq]; rfl

/-- A field of `w` bits holds the bits below `w` of what is written. -/
theorem bitOf_mod_two_pow {v w i : Nat} (hi : i < w) : bitOf (v % 2 ^ w) i = bitOf v i := by
  simp [bitOf_eq_testBit, Nat.testBit_mod_two_pow, hi]

theorem bitOf_setBitOf_self (v i : Nat) : bitOf (setBitOf v i true) i = true := by
  unfold setBitOf
  split
  · next h => simpa using h
  · next h =>
    have hdiv : (v + 2 ^ i) / 2 ^ i = v / 2 ^ i + 1 := Nat.add_div_right _ (Nat.two_pow_pos i)
    simp only [bitOf, beq_iff_eq, if_true, hdiv] at h ⊢
    omega

theorem two_pow_above (i k : Nat) : 2 ^ (i + k + 1) = 2 ^ i * (2 * 2 ^ k) := by
  rw [Nat.pow_succ, Nat.pow_add, Nat.mul_assoc, Nat.mul_comm (2 ^ k) 2]

/-- Adding the place value of a bit that is clear carries nowhere. -/
theorem bitOf_add_two_pow_ne {v i j : Nat} (hi : bitOf v i = false) (hj : j ≠ i) : bitOf (v + 2 ^ i) j = bitOf v j := by
  simp only [bitOf, beq_eq_false_iff_ne] at hi ⊢
  rcases Nat.lt_or_gt_of_ne hj with h | h
  · obtain ⟨k, rfl⟩ := Nat.exists_eq_add_of_lt h
    rw [two_pow_above, Nat.add_mul_div_left _ _ (Nat.two_pow_pos j), Nat.add_mul_mod_self_left]
  · obtain ⟨k, rfl⟩ := Nat.exists_eq_add_of_lt h
    have hup : (v / 2 ^ i + 1) / 2 = v / 2 ^ i / 2 := by omega
    rw [two_pow_above, ← Nat.div_div_eq_div_mul, ← Nat.div_div_eq_div_mul,
      ← Nat.div_div_eq_div_mul v, ← Nat.div_div_eq_div_mul (v / 2 ^ i), Nat.add_div_right _ (Nat.two_pow_pos i), hup]

/-- Setting a bit clears none. -/
theorem bitOf_setBitOf_of_bitOf {v j : Nat} (i : Nat) (h : bitOf v j = true) : bitOf (setBitOf v i true) j = true := by
  by_cases hj : j = i
  · subst hj; exact bitOf_setBitOf_self v j
  · unfold setBitOf
    split
    · simpa using h
    · next hi => simpa [bitOf_add_two_pow_ne (by simpa using hi) hj] using h

/-- A bit that is set in a register field reads set. -/
theorem bitOf_get_setBit_self (s : State) (f : Fld) {i : Nat} (hi : i < f.w) : bitOf ((s.setBit f i true).get f) i = true := by
  rw [State.setBit, Laws.get_set_self, bitOf_mod_two_pow hi, bitOf_setBitOf_self]

theorem get_set_of_reg_ne {f g : Fld} (s : State) (v : Nat) (h : (g.reg % 0x10000).beq (f.reg % 0x10000) = false) :
    (s.set f v).get g = s.get g := Laws.get_set_ne s v (Laws.key_ne_reg (Nat.ne_of_beq_eq_false h))

theorem get_set_of_lo_ne {f g : Fld} (s : State) (v : Nat) (h : (g.lo % 32).beq (f.lo % 32) = false) :
    (s.set f v).get g = s.get g := Laws.get_set_ne s v (Laws.key_ne_lo (Nat.ne_of_beq_eq_false h))

theorem flag_setB_true (s : State) (f : Fld) (hw : f.w = 1) : (s.setB f true).flag f = true := by
  simp [State.flag, State.setB, b2n, hw]

end Sys2Proof.PaddockLaws
end

section
/-!
PROOFS. What the delivery of events keeps (R75, R76, R81): no ring stops or runs again, the paddock's registers keep their values but for
the pending bits, the producer index of the event ring and the count of lost events, and no pending bit is cleared.
-/
namespace Sys2Proof.PaddockLaws

open Sys2Proof.Machine Sys2Proof.Laws

/-- Does a field of the PDK window lie in a register that the delivery of an event writes: PDK_EVT_LOST, PDK_EQ_PROD or PDK_MSIX_PBA? -/
def isEventReg (f : Fld) : Bool := f.reg % 0x10000 == 0x20 || f.reg % 0x10000 == 0x294 || f.reg % 0x10000 == 0x9000

/-- `t` comes from `s` by nothing that stops a ring, writes another PDK register than those of `isEventReg`, or clears a pending bit. -/
structure EventKeeps (s t : State) : Prop where
  stopped : ∀ q j, ((t.pd q).ring j).stopped = ((s.pd q).ring j).stopped
  regs : ∀ f : Fld, f.win % 256 = 1 → isEventReg f = false → t.get f = s.get f
  pending : ∀ q v, v < 16 → bitOf (s.get (F.PDK_MSIX_PBA q)) v = true → bitOf (t.get (F.PDK_MSIX_PBA q)) v = true

variable {s t u : State}

theorem EventKeeps.refl (s : State) : EventKeeps s s := ⟨fun _ _ => rfl, fun _ _ _ => rfl, fun _ _ _ h => h⟩

theorem EventKeeps.trans (h : EventKeeps s t) (h' : EventKeeps t u) : EventKeeps s u where
  stopped q j := (h'.stopped q j).trans (h.stopped q j)
  regs f hw hr := (h'.regs f hw hr).trans (h.regs f hw hr)
  pending q v hv hp := h'.pending q v hv (h.pending q v hv hp)

theorem EventKeeps.emit (h : EventKeeps s t) (o : Out) : EventKeeps s (t.emit o) :=
  h.trans ⟨fun _ _ => rfl, fun _ _ _ => rfl, fun _ _ _ h => h⟩

/-- What is outside the paddocks and their window keeps all of it. -/
theorem EventKeeps.within {m : Nat} (h : EventKeeps s t) (hu : Within m t u) (hp : m.testBit 2 = false) (hw : m.testBit 33 = false) :
    EventKeeps s u :=
  h.trans
    { stopped := fun q j => by rw [State.pd, hu.pdk hp]; rfl
      regs := fun f hf _ => hu.get f (by rw [hf]; exact hw)
      pending := fun q v _ hb => by rw [hu.get (F.PDK_MSIX_PBA q) hw]; exact hb }

theorem getD_of_length_le {α : Type} {l : List α} {j : Nat} (d : α) (h : l.length ≤ j) : l.getD j d = d := by
  rw [List.getD_eq_getElem?_getD, List.getElem?_eq_none h, Option.getD_none]

/-- A view of the entries that an update keeps, seen anywhere in the list. -/
theorem getD_modAt_view {α β : Type} (g : α → β) (l : List α) (i j : Nat) (f : α → α) (d : α) (hf : ∀ a, g (f a) = g a) :
    g ((modAt l i f).getD j d) = g (l.getD j d) := by
  by_cases hj : j = i
  · subst hj
    by_cases hl : j < l.length
    · rw [getD_modAt_self _ _ _ _ hl, hf]
    · have hle : l.length ≤ j := Nat.le_of_not_lt hl
      rw [getD_of_length_le d (by rw [length_modAt]; exact hle), getD_of_length_le d hle]
  · rw [getD_modAt_ne _ _ _ _ _ hj]

theorem modRing_stopped (d : Pdk) (r j : Nat) {f : Ring → Ring} (hf : ∀ x, (f x).stopped = x.stopped) :
    ((d.modRing r f).ring j).stopped = (d.ring j).stopped := getD_modAt_view Ring.stopped d.rings r j f Ring.init hf

theorem EventKeeps.modPd (h : EventKeeps s t) (p : Nat) {f : Pdk → Pdk} (hf : ∀ d j, ((f d).ring j).stopped = (d.ring j).stopped) :
    EventKeeps s (t.modPd p f) :=
  h.trans
    { stopped := fun q j => getD_modAt_view (fun d => (d.ring j).stopped) t.pdk p q f Pdk.init fun d => hf d j
      regs := fun _ _ _ => rfl
      pending := fun _ _ _ hb => hb }

/-- A write to the count of lost events or to the producer index. -/
theorem EventKeeps.set (h : EventKeeps s t) (f : Fld) (v : Nat) (hf : f.reg % 0x10000 = 0x20 ∨ f.reg % 0x10000 = 0x294) :
    EventKeeps s (t.set f v) :=
  h.trans
    { stopped := fun _ _ => rfl
      regs := fun g _ hg => get_set_ne t v (key_ne_reg fun he => by
        rcases hf with hf | hf <;> simp [isEventReg, he, hf] at hg)
      pending := fun q i _ hb => by
        have hne : (F.PDK_MSIX_PBA q).reg % 0x10000 ≠ f.reg % 0x10000 := by rcases hf with hf | hf <;> simp [hf, F.PDK_MSIX_PBA]
        rw [get_set_ne t v (key_ne_reg hne)]; exact hb }

/-- Setting a pending bit leaves the others. -/
theorem EventKeeps.setPending (h : EventKeeps s t) (p v : Nat) : EventKeeps s (t.setBit (F.PDK_MSIX_PBA p) v true) :=
  h.trans
    { stopped := fun _ _ => rfl
      regs := fun g _ hg => get_set_ne t _ (key_ne_reg fun he => by simp [isEventReg, he, F.PDK_MSIX_PBA] at hg)
      pending := fun q i hi hb => by
        by_cases hq : q = p
        · subst hq
          rw [State.setBit, get_set_self, bitOf_mod_two_pow (w := (F.PDK_MSIX_PBA q).w) hi]
          exact bitOf_setBitOf_of_bitOf v hb
        · have hk : (F.PDK_MSIX_PBA q).key ≠ (F.PDK_MSIX_PBA p).key := by
            simp only [Fld.key, Fld.off, F.PDK_MSIX_PBA]; omega
          rw [State.setBit, get_set_ne t _ hk]; exact hb }

theorem EventKeeps.signal (h : EventKeeps s t) (p v : Nat) : EventKeeps s (t.signal p v) := by
  unfold State.signal
  split
  · exact h.setPending p v
  · exact h.emit _

theorem EventKeeps.coalesce (h : EventKeeps s t) (p r : Nat) : EventKeeps s (t.coalesce p r) := by
  have hunsig : ∀ n, EventKeeps s (t.modPd p (·.modRing r fun x => { x with unsig := n })) := fun n =>
    h.modPd p fun d j => modRing_stopped d r j fun _ => rfl
  unfold State.coalesce
  extract_lets cnt us v n
  split
  · exact (hunsig 0).signal _ _
  · exact hunsig _

theorem EventKeeps.eqWrite (h : EventKeeps s t) (p : Nat) (e : Ev) : EventKeeps s (t.eqWrite p e) := by
  unfold State.eqWrite
  extract_lets prod size ph s1 s2 s3 s4
  have h2 : EventKeeps s s2 := (h.emit _).modPd p fun _ _ => rfl
  have h3 : EventKeeps s s3 := h2.set (F.PDK_EQ_PROD p) _ (.inr rfl)
  exact (h3.emit _).coalesce p 12

theorem EventKeeps.eqLost (h : EventKeeps s t) (p : Nat) : EventKeeps s (t.eqLost p) := by
  unfold State.eqLost
  split
  · exact (h.eqWrite p _).modPd p fun _ _ => rfl
  · exact h

theorem EventKeeps.deliver (h : EventKeeps s t) (p : Nat) (e : Ev) : EventKeeps s (t.deliver p e) := by
  unfold State.deliver
  dsimp only
  split
  · exact h
  · split
    · exact (h.eqLost p).eqWrite p e
    · refine EventKeeps.set ?_ (F.PDK_EVT_LOST p) _ (.inl rfl)
      exact (h.eqLost p).modPd p fun _ _ => rfl

theorem EventKeeps.logEvent (h : EventKeeps s t) (e : Ev) (force : Bool) : EventKeeps s (t.logEvent e force) :=
  h.within (logEvent_within t e force) rfl rfl

theorem EventKeeps.foldl {l : List Nat} {f : State → Nat → State} (hf : ∀ u q, EventKeeps s u → EventKeeps s (f u q))
    (h : EventKeeps s t) : EventKeeps s (l.foldl f t) := by
  induction l generalizing t with
  | nil => exact h
  | cons q l ih => exact ih (hf t q h)

theorem EventKeeps.raisePdk (h : EventKeeps s t) (p code sev : Nat) (pay : List Nat) : EventKeeps s (t.raisePdk p code sev pay) := by
  unfold State.raisePdk
  refine EventKeeps.logEvent (EventKeeps.foldl (fun u q hu => ?_) h) _ _
  split
  · exact hu.deliver q _
  · exact hu

end Sys2Proof.PaddockLaws
end

section
/-!
PROOFS. Signalling a vector and the errors of a ring (R81, R90).
-/
namespace Sys2Proof.PaddockLaws

open Sys2Proof.Machine Sys2Proof.Laws

variable {s : State} {p v : Nat}

theorem signal_of_unmasked (h : s.get (F.PDK_MSIX_CTRL p v) % 2 = 0) : s.signal p v = s.emit (.msix p v) := by
  simp [State.signal, h]

theorem signal_of_masked (h : s.get (F.PDK_MSIX_CTRL p v) % 2 = 1) : s.signal p v = s.setBit (F.PDK_MSIX_PBA p) v true := by
  simp [State.signal, h]

/-- The error bits that a failed host read of ring `r` sets (R90). -/
def dmaErrorBits (s : State) (p r : Nat) : State :=
  (((s.setBit (F.PDK_RING_ERR_RING p) r true).setB (F.PDK_STATUS_RING_ERR p) true).setB (F.PDK_RING_ERR_DMA p) true).setB
    (F.PDK_STATUS_DMA_ERR p) true

theorem ringError_dma (s : State) (p r : Nat) :
    s.ringError p r 2 =
      if r < 13 then ((dmaErrorBits s p r).signal p 15).raisePdk p 0x0104 3 [r, 2] else (dmaErrorBits s p r).signal p 15 := rfl

theorem dmaErrorBits_pdk (s : State) (p r : Nat) : (dmaErrorBits s p r).pdk = s.pdk := by
  rw [dmaErrorBits, setB_pdk, setB_pdk, setB_pdk, setBit_pdk]

theorem dmaErrorBits_out (s : State) (p r : Nat) : (dmaErrorBits s p r).out = s.out := by
  rw [dmaErrorBits, setB_out, setB_out, setB_out, setBit_out]

theorem dmaErrorBits_ctrl15 (s : State) (p r : Nat) : (dmaErrorBits s p r).get (F.PDK_MSIX_CTRL p 15) = s.get (F.PDK_MSIX_CTRL p 15) := by
  simp only [dmaErrorBits, State.setB, State.setBit]
  rw [get_set_of_reg_ne _ _ (by rfl), get_set_of_reg_ne _ _ (by rfl), get_set_of_reg_ne _ _ (by rfl), get_set_of_reg_ne _ _ (by rfl)]

theorem dmaErrorBits_dma (s : State) (p r : Nat) : (dmaErrorBits s p r).flag (F.PDK_RING_ERR_DMA p) = true := by
  rw [State.flag, dmaErrorBits, State.setB, get_set_of_reg_ne _ _ (by rfl)]
  exact flag_setB_true _ _ rfl

theorem dmaErrorBits_status (s : State) (p r : Nat) : (dmaErrorBits s p r).flag (F.PDK_STATUS_DMA_ERR p) = true :=
  flag_setB_true _ _ rfl

theorem dmaErrorBits_ring (s : State) (p : Nat) {r : Nat} (hr : r < 13) :
    bitOf ((dmaErrorBits s p r).get (F.PDK_RING_ERR_RING p)) r = true := by
  simp only [dmaErrorBits, State.setB]
  rw [get_set_of_reg_ne _ _ (by rfl), get_set_of_lo_ne _ _ (by rfl), get_set_of_reg_ne _ _ (by rfl)]
  exact bitOf_get_setBit_self s _ hr

/-- After the error bits and the signal of vector 15 a DMA error of a ring only delivers an event. -/
theorem ringError_dma_keeps (s : State) (p r : Nat) :
    EventKeeps (dmaErrorBits s p r) (s.ringError p r 2) ∧ EventKeeps ((dmaErrorBits s p r).signal p 15) (s.ringError p r 2) ∧
      ((dmaErrorBits s p r).signal p 15).out <+: (s.ringError p r 2).out := by
  have h0 := EventKeeps.refl (dmaErrorBits s p r)
  have h1 := EventKeeps.refl ((dmaErrorBits s p r).signal p 15)
  rw [ringError_dma]
  split
  · exact ⟨(h0.signal p 15).raisePdk _ _ _ _, h1.raisePdk _ _ _ _, (raisePdk_within _ _ _ _ _).out⟩
  · exact ⟨h0.signal p 15, h1, List.prefix_rfl⟩

/-- A DMA error sets PDK_RING_ERR.DMA and PDK_STATUS.DMA_ERR, and the ring's bit where it has one (R90). -/
theorem ringError_dma_flags (s : State) (p r : Nat) :
    (s.ringError p r 2).flag (F.PDK_RING_ERR_DMA p) = true ∧ (s.ringError p r 2).flag (F.PDK_STATUS_DMA_ERR p) = true ∧
      (r < 13 → bitOf ((s.ringError p r 2).get (F.PDK_RING_ERR_RING p)) r = true) := by
  have hk := (ringError_dma_keeps s p r).1.regs
  refine ⟨?_, ?_, fun hr => ?_⟩
  · rw [State.flag, hk _ rfl (by rfl)]; exact dmaErrorBits_dma s p r
  · rw [State.flag, hk _ rfl (by rfl)]; exact dmaErrorBits_status s p r
  · rw [hk _ rfl (by rfl)]; exact dmaErrorBits_ring s p hr

/-- A DMA error signals vector 15: the message leaves, or waits in the pending bits while the vector is masked (R80, R90). -/
theorem ringError_dma_signals (s : State) (p r : Nat) :
    (s.get (F.PDK_MSIX_CTRL p 15) % 2 = 0 → .msix p 15 ∈ (s.ringError p r 2).out.drop s.out.length) ∧
      (s.get (F.PDK_MSIX_CTRL p 15) % 2 = 1 → bitOf ((s.ringError p r 2).get (F.PDK_MSIX_PBA p)) 15 = true) := by
  obtain ⟨-, hkeeps, hout⟩ := ringError_dma_keeps s p r
  rw [← dmaErrorBits_ctrl15 s p r]
  constructor
  · intro h
    rw [signal_of_unmasked h, emit_out, dmaErrorBits_out] at hout
    exact mem_drop_of_prefix (List.prefix_append _ _) hout (by simp)
  · intro h
    refine hkeeps.pending p 15 (by decide) ?_
    rw [signal_of_masked h]
    exact bitOf_get_setBit_self _ (F.PDK_MSIX_PBA p) (by decide : 15 < 16)

theorem ringError_dma_stopped (s : State) (p r q j : Nat) :
    (((s.ringError p r 2).pd q).ring j).stopped = ((s.pd q).ring j).stopped := by
  rw [(ringError_dma_keeps s p r).1.stopped q j, State.pd, dmaErrorBits_pdk, State.pd]

/-- The ring's stop that RING_DMA_ERROR makes before its error bits. -/
def stopRing (s : State) (p r : Nat) : State := s.modPd p (·.modRing r fun x => { x with stopped := true })

theorem stopRing_self {r : Nat} (hp : p < s.pdk.length) (hr : r < (s.pd p).rings.length) :
    (((stopRing s p r).pd p).ring r).stopped = true := by
  rw [stopRing, pd_modPd _ _ _ hp, Pdk.ring, Pdk.modRing, getD_modAt_self _ _ _ _ hr]

theorem stopRing_ne_ring {r j : Nat} (hp : p < s.pdk.length) (hj : j ≠ r) : ((stopRing s p r).pd p).ring j = (s.pd p).ring j := by
  rw [stopRing, pd_modPd _ _ _ hp]; exact getD_modAt_ne _ _ _ _ _ hj

theorem stopRing_ne_paddock {r q : Nat} (hq : q ≠ p) : (stopRing s p r).pd q = s.pd q := pd_modPd_ne _ _ _ _ hq

theorem exec_ringDmaError {r : Nat} (h : s.ringEnabled p r = true) :
    exec (.ringDmaError p r) s = .next ((stopRing s p r).ringError p r 2) := by
  show execRingDmaError p r s = _
  simp [execRingDmaError, h, stopRing]

theorem exec_interruptCoalesceTimeout {r : Nat} (h8 : 8 ≤ r) (h12 : r ≤ 12) (hu : ((s.pd p).ring r).unsig ≠ 0) :
    exec (.interruptCoalesceTimeout p r) s =
      .next ((s.modPd p (·.modRing r fun x => { x with unsig := 0 })).signal p (s.vectorOf p r)) := by
  show execInterruptCoalesceTimeout p r s = _
  simp [execInterruptCoalesceTimeout, hu, Nat.not_lt.mpr h8, Nat.not_lt.mpr h12]

end Sys2Proof.PaddockLaws

namespace Sys2Proof

open Sys2Proof.Machine Sys2Proof.Laws Sys2Proof.PaddockLaws

/-- Settles O13: what follows the ring's stop, the error bits and the signal is the delivery of RING_ERROR, which keeps them. -/
theorem ringEvents : Obligations.RingEvents := by
  intro s p ring hp _ hring
  constructor
  · intro hen
    obtain ⟨hdma, hstatus, hbit⟩ := ringError_dma_flags (stopRing s p ring) p ring
    obtain ⟨hmsix, hpba⟩ := ringError_dma_signals (stopRing s p ring) p ring
    have hstop := ringError_dma_stopped (stopRing s p ring) p ring
    refine ⟨_, exec_ringDmaError hen, ?_, hdma, hbit, hstatus, hmsix, hpba, fun j hj => ?_, fun q hq j => ?_⟩
    · rw [hstop, stopRing_self hp hring]
    · rw [hstop, stopRing_ne_ring hp hj]
    · rw [hstop, stopRing_ne_paddock hq]
  · intro h8 h12 hunsig hctrl
    refine ⟨_, exec_interruptCoalesceTimeout h8 h12 hunsig, ?_, ?_⟩
    · rw [signal_of_unmasked (by simpa using hctrl)]; simp
    · rw [State.pd, signal_pdk, ← State.pd, pd_modPd _ _ _ hp, Pdk.ring, Pdk.modRing, getD_modAt_self _ _ _ _ hring]

end Sys2Proof
end

section
/-!
PROOFS. Accesses that BAR0 does not take and accesses to a domain that is off (R46, R86, R574).
-/
namespace Sys2Proof.PaddockLaws

open Sys2Proof.Machine Sys2Proof.Laws

variable {s : State} {p off : Nat}

/-- The record that `State.eqWrite` sends for an event (R56, R76). -/
def eventRecord (s : State) (p : Nat) (e : Ev) : Out :=
  let prod := s.get (F.PDK_EQ_PROD p)
  let size := 2 ^ s.get (F.PDK_EQ_CFG_SIZE_LOG2 p)
  .eqe p (prod % size) (e.bytes (128 * ((prod / size + 1) % 2)) (s.pd p).evSeq s.chrono)

theorem isEqe_eventRecord (s : State) (p : Nat) {e : Ev} (hcode : e.code < 65536) : isEqe p e.code (eventRecord s p e) = true := by
  have hhigh : e.code / 256 % 256 = e.code / 256 := Nat.mod_eq_of_lt (by omega)
  simp [eventRecord, isEqe, Ev.bytes, le, hhigh]

theorem eqWrite_out (s : State) (p : Nat) (e : Ev) : s.out ++ [eventRecord s p e] <+: (s.eqWrite p e).out := by
  unfold State.eqWrite
  extract_lets prod size ph s1 s2 s3 s4
  exact List.IsPrefix.trans (List.prefix_append (s.out ++ [eventRecord s p e]) _) (coalesce_within s4 p 12).out

/-- An event for which the ring has room is written to it (R76). -/
theorem deliver_writes {e : Ev} (hen : s.flag (F.PDK_EQ_CFG_ENABLE p) = true) (hroom : s.eqRoom p = true)
    (hlost : (s.pd p).lostSince = 0) (hcode : e.code < 65536) : ∃ o ∈ (s.deliver p e).out.drop s.out.length, isEqe p e.code o = true := by
  have hd : s.deliver p e = s.eqWrite p e := by simp [State.deliver, State.eqLost, hen, hroom, hlost]
  rw [hd]
  exact ⟨eventRecord s p e, mem_drop_of_prefix (List.prefix_append _ _) (eqWrite_out s p e) (by simp), isEqe_eventRecord s p hcode⟩

/-- GLB_OFFDOM_STATUS after an access to a domain that is off: captured, or OVERFLOW set when a capture stands (R86, R579). -/
def offDomainCapture (s : State) (p off : Nat) (write : Bool) : State :=
  if s.flag F.GLB_OFFDOM_STATUS_VALID then s.setB F.GLB_OFFDOM_STATUS_OVERFLOW true
  else (((s.setB F.GLB_OFFDOM_STATUS_VALID true).set F.GLB_OFFDOM_STATUS_PADDOCK p).setB F.GLB_OFFDOM_STATUS_WRITE write).set
    F.GLB_OFFDOM_STATUS_OFFSET off

theorem offDomain_eq (s : State) (p off : Nat) (write : Bool) :
    s.offDomain p off write = (offDomainCapture s p off write).raiseOwn p 0x0002 2 (le 4 off ++ [p]) := rfl

theorem offDomainCapture_within (s : State) (p off : Nat) (write : Bool) : Within 0x100000000 s (offDomainCapture s p off write) := by
  have h0 := Within.refl 0x100000000 s
  unfold offDomainCapture
  split
  · exact h0.setB 0 rfl rfl
  · exact (((h0.setB 0 rfl rfl).set 0 rfl rfl).setB 0 rfl rfl).set 0 rfl rfl

theorem offDomain_get_glb (s : State) (p off : Nat) (write : Bool) (f : Fld) (hf : f.win = 0) :
    (s.offDomain p off write).get f = (offDomainCapture s p off write).get f :=
  (raiseOwn_within _ _ _ _ _).get f (by rw [hf]; rfl)

/-- The first access is captured with offset and paddock. -/
theorem offDomain_first (write : Bool) (hv : s.flag F.GLB_OFFDOM_STATUS_VALID = false) :
    (s.offDomain p off write).flag F.GLB_OFFDOM_STATUS_VALID = true ∧
      (s.offDomain p off write).get F.GLB_OFFDOM_STATUS_OFFSET = off % 2 ^ 21 ∧
      (s.offDomain p off write).get F.GLB_OFFDOM_STATUS_PADDOCK = p % 2 ^ 2 := by
  have hc : offDomainCapture s p off write =
      (((s.setB F.GLB_OFFDOM_STATUS_VALID true).set F.GLB_OFFDOM_STATUS_PADDOCK p).setB F.GLB_OFFDOM_STATUS_WRITE write).set
        F.GLB_OFFDOM_STATUS_OFFSET off := if_neg (by simp [hv])
  refine ⟨?_, ?_, ?_⟩
  · rw [State.flag, offDomain_get_glb _ _ _ _ _ rfl, hc, get_set_of_lo_ne _ _ (by rfl), State.setB, get_set_of_lo_ne _ _ (by rfl),
      get_set_of_lo_ne _ _ (by rfl)]
    exact flag_setB_true s _ rfl
  · rw [offDomain_get_glb _ _ _ _ _ rfl, hc]
    exact get_set_self _ _ _
  · rw [offDomain_get_glb _ _ _ _ _ rfl, hc, get_set_of_lo_ne _ _ (by rfl), State.setB, get_set_of_lo_ne _ _ (by rfl)]
    exact get_set_self _ _ _

/-- A further access sets OVERFLOW and leaves what was captured. -/
theorem offDomain_further (write : Bool) (hv : s.flag F.GLB_OFFDOM_STATUS_VALID = true) :
    (s.offDomain p off write).flag F.GLB_OFFDOM_STATUS_OVERFLOW = true ∧
      ∀ f : Fld, f.win = 0 → f.lo % 32 ≠ 30 → (s.offDomain p off write).get f = s.get f := by
  have hc : offDomainCapture s p off write = s.setB F.GLB_OFFDOM_STATUS_OVERFLOW true := if_pos hv
  constructor
  · rw [State.flag, offDomain_get_glb _ _ _ _ _ rfl, hc]
    exact flag_setB_true s _ rfl
  · intro f hf hlo
    rw [offDomain_get_glb _ _ _ _ _ hf, hc]
    exact get_set_ne _ _ (key_ne_lo hlo)

theorem offDomain_valid (s : State) (p off : Nat) (write : Bool) : (s.offDomain p off write).flag F.GLB_OFFDOM_STATUS_VALID = true := by
  cases hv : s.flag F.GLB_OFFDOM_STATUS_VALID
  · exact (offDomain_first write hv).1
  · rw [State.flag, (offDomain_further write hv).2 _ rfl (by decide)]; exact hv

/-- The mask of an access to a domain that is off names the windows GLB, PDK and HAY alone. -/
theorem offDomain_mask {w : Nat} (h0 : w ≠ 0) (h1 : w ≠ 1) (h14 : w ≠ 0xE) : (0x400300080004 : Nat).testBit (32 + w) = false := by
  have hlow : ∀ v < 15, v ≠ 0 → v ≠ 1 → v ≠ 0xE → (0x400300080004 : Nat).testBit (32 + v) = false := by decide
  by_cases hw : w < 15
  · exact hlow w hw h0 h1 h14
  · exact Nat.testBit_lt_two_pow (Nat.lt_of_lt_of_le (by decide) (Nat.pow_le_pow_right (by decide) (by omega : 47 ≤ 32 + w)))

/-- The paddock's event ring receives OFF_DOMAIN_ACCESS when it has room. -/
theorem offDomain_event (off : Nat) (write : Bool) (hen : s.flag (F.PDK_EQ_CFG_ENABLE p) = true) (hroom : s.eqRoom p = true)
    (hlost : (s.pd p).lostSince = 0) : ∃ o ∈ (s.offDomain p off write).out.drop s.out.length, isEqe p 0x0002 o = true := by
  have hw := offDomainCapture_within s p off write
  have hpd : (offDomainCapture s p off write).pd p = s.pd p := by rw [State.pd, hw.pdk rfl, State.pd]
  have hget : ∀ f : Fld, f.win = 1 → (offDomainCapture s p off write).get f = s.get f := fun f hf => hw.get f (by rw [hf]; rfl)
  obtain ⟨o, ho, hcode⟩ := deliver_writes (s := offDomainCapture s p off write) (e := ⟨0x0002, 2, 0xFFFF, le 4 off ++ [p]⟩)
    (by rw [State.flag, hget _ rfl]; exact hen)
    (by rw [State.eqRoom, hget _ rfl, hget _ rfl, hpd]; exact hroom) (by rw [hpd]; exact hlost) (by decide : 2 < 65536)
  refine ⟨o, ?_, hcode⟩
  have hdeliver := mem_drop_of_later hw.out (deliver_within _ _ _).out ho
  exact mem_drop_of_prefix (hw.out.trans (deliver_within _ _ _).out) (logEvent_within _ _ _).out hdeliver

/-- What a read of a powered-off register answers; a write answers nothing. -/
def offAnswer (s : State) (p off : Nat) (write : Bool) : State := if write then s else s.emit (.readData p off 0xFFFFFFFF)

theorem offAnswer_within (s : State) (p off : Nat) (write : Bool) : Within 0 s (offAnswer s p off write) :=
  Within.ite (Within.refl 0 s) (emit_within s _)

theorem offAnswer_get (s : State) (p off : Nat) (write : Bool) (f : Fld) : (offAnswer s p off write).get f = s.get f :=
  (offAnswer_within s p off write).get f (Nat.zero_testBit _)

theorem offAnswer_flag (s : State) (p off : Nat) (write : Bool) (f : Fld) : (offAnswer s p off write).flag f = s.flag f :=
  congrArg (· != 0) (offAnswer_get s p off write f)

theorem offAnswer_pd (s : State) (p off : Nat) (write : Bool) (q : Nat) : (offAnswer s p off write).pd q = s.pd q := by
  rw [State.pd, (offAnswer_within s p off write).pdk rfl, State.pd]

theorem offAnswer_eqRoom (s : State) (p off : Nat) (write : Bool) (q : Nat) : (offAnswer s p off write).eqRoom q = s.eqRoom q := by
  simp only [State.eqRoom, offAnswer_pd, offAnswer_get]

theorem exec_offDomainRegisterAccess (val : Nat) (write : Bool) (hoff : off < 0x200000) (hd : s.domainOn (domainOf off) = false)
    (ha : s.offAccess off = true) :
    exec (.offDomainRegisterAccess p off val write) s = .next ((offAnswer s p off write).offDomain p off write) := by
  show execOffDomainRegisterAccess p off val write s = _
  simp [execOffDomainRegisterAccess, hd, ha, Nat.mod_eq_of_lt hoff, offAnswer]

theorem exec_wideLoRead_offDomain (hp : p < 4) (hoff : off < 0x200000) (h4 : s.domainOn 4 = true) (hal : off % 4 = 0)
    (hd : s.domainOn (domainOf off) = false) (ha : s.offAccess off = true) :
    exec (.wideLoRead p off) s = .next ((offAnswer s p off false).offDomain p off false) := by
  show execWideLoRead p off s = _
  simp [execWideLoRead, hd, ha, h4, hal, Nat.not_le.mpr hoff, show ¬ 3 < p by omega, offAnswer]

/-- Both commands that reach a register whose domain is off answer a read and then capture the access (R86). -/
theorem exec_offAccess (val : Nat) (write : Bool) (hp : p < 4) (hoff : off < 0x200000) (hd : s.domainOn (domainOf off) = false)
    (ha : s.offAccess off = true) :
    ∀ c ∈ [Instr.offDomainRegisterAccess p off val write] ++
        (if write = false ∧ s.domainOn 4 = true ∧ off % 4 = 0 then [Instr.wideLoRead p off] else []),
      exec c s = .next ((offAnswer s p off write).offDomain p off write) := by
  intro c hc
  rcases List.mem_append.mp hc with hoffd | hread
  · obtain rfl := List.mem_singleton.mp hoffd
    exact exec_offDomainRegisterAccess val write hoff hd ha
  · split at hread
    · next hcond =>
      obtain ⟨rfl, h4, hal⟩ := hcond
      obtain rfl := List.mem_singleton.mp hread
      exact exec_wideLoRead_offDomain hp hoff h4 hal hd ha
    · cases hread

/-- An unaligned access is answered with Unsupported Request (R46). -/
theorem exec_unaligned (val : Nat) (hp : p < 4) (h4 : s.domainOn 4 = true) (hal : off % 4 ≠ 0) :
    ∀ c ∈ [Instr.registerWrite p off val, .wideLoRead p off], exec c s = .next { s with out := s.out ++ [.unsupported p] } := by
  have hp3 : ¬ 3 < p := by omega
  intro c hc
  simp only [List.mem_cons, List.not_mem_nil, or_false] at hc
  rcases hc with rfl | rfl
  · show execRegisterWrite p off val s = _
    simp [execRegisterWrite, hp3, hal, h4, State.emit]
  · show execWideLoRead p off s = _
    simp [execWideLoRead, hp3, hal, h4, State.emit]

/-- Where nothing is assigned or the stall is absent, a read answers 0 and nothing is captured (R3, R574). -/
theorem exec_offDomain_unassigned (p val : Nat) (write : Bool) (hd : s.domainOn (domainOf off) = false) (ha : s.offAccess off = false) :
    exec (.offDomainRegisterAccess p off val write) s = .next (if write then s else { s with out := s.out ++ [.readData p off 0] }) := by
  show execOffDomainRegisterAccess p off val write s = _
  simp [execOffDomainRegisterAccess, hd, ha, State.emit]

end Sys2Proof.PaddockLaws

namespace Sys2Proof

open Sys2Proof.Machine Sys2Proof.Laws Sys2Proof.PaddockLaws

/-- Settles O53: both commands answer and then go through the one capture of R86; the other clauses are the commands' early exits. -/
theorem unusableAccess : Obligations.UnusableAccess := by
  intro s p off val write hp hoff
  refine ⟨rfl, fun h4 hal => exec_unaligned val hp h4 hal, fun hd ha => exec_offDomain_unassigned p val write hd ha, fun hd ha c hc => ?_⟩
  have hans := offAnswer_within s p off write
  have hoffd := offDomain_within (offAnswer s p off write) p off write
  refine ⟨_, exec_offAccess val write hp hoff hd ha c hc, offDomain_valid (offAnswer s p off write) p off write, ?_, ?_, ?_, ?_, ?_⟩
  · rintro rfl
    exact mem_drop_of_prefix hans.out hoffd.out (by simp [offAnswer])
  · intro f h0 h1 h14
    rw [hoffd.get f (offDomain_mask h0 h1 h14), offAnswer_get]
  · intro hv
    rw [← offAnswer_flag s p off write] at hv
    obtain ⟨-, hoffset, hpaddock⟩ := offDomain_first (p := p) (off := off) write hv
    exact ⟨hoffset.trans (Nat.mod_eq_of_lt hoff), hpaddock.trans (Nat.mod_eq_of_lt hp)⟩
  · intro hv
    rw [← offAnswer_flag s p off write] at hv
    obtain ⟨hover, hkeep⟩ := offDomain_further (p := p) (off := off) write hv
    exact ⟨hover, by rw [hkeep _ rfl (by decide), offAnswer_get], by rw [hkeep _ rfl (by decide), offAnswer_get]⟩
  · intro hen hroom hlost
    rw [← offAnswer_flag s p off write] at hen
    rw [← offAnswer_eqRoom s p off write] at hroom
    rw [← offAnswer_pd s p off write] at hlost
    obtain ⟨o, ho, hcode⟩ := offDomain_event off write hen hroom hlost
    exact ⟨o, mem_drop_of_later hans.out hoffd.out ho, hcode⟩

end Sys2Proof
end

section
/-!
PROOFS. Every command answers a next state and stays within a mask of what it may touch; only STORE_COMPLETE reaches the bytes of HOST
(R511, R529). One line per command: its own `_within` lemma.
-/
set_option Elab.async false -- the kernel evaluations wait for each other: keep them in one thread
namespace Sys2Proof.CommandLaws

open Sys2Proof.Machine Sys2Proof.Laws

/-- The outcome `o` of a command on `s` is a next state within some mask, which leaves the bytes of HOST alone unless `host` holds. -/
def Completes (host : Prop) (s : State) (o : Host.Outcome State Fault Refusal) : Prop :=
  ∃ t, o = .next t ∧ ∃ m, Within m s t ∧ (host ∨ m.testBit 24 = false)

variable {s : State} {m : Nat} {o : Host.Outcome State Fault Refusal}

theorem completes_of {host : Prop} (h : ∃ t, o = .next t ∧ Within m s t) (hm : m.testBit 24 = false) : Completes host s o :=
  let ⟨t, ho, hw⟩ := h
  ⟨t, ho, m, hw, .inr hm⟩

theorem completes_of_host {host : Prop} (h : ∃ t, o = .next t ∧ Within m s t) (hh : host) : Completes host s o :=
  let ⟨t, ho, hw⟩ := h
  ⟨t, ho, m, hw, .inl hh⟩

/-- Every command of the table completes, and only STORE_COMPLETE may write HOST. -/
theorem exec_completes (c : Instr) (s : State) : Completes (∃ id, c = .storeComplete id) s (exec c s) := by
  cases c with
  | doorbellPoll p dbs slots => exact completes_of (execDoorbellPoll_within p dbs slots s) rfl
  | descriptorStart p tag => exact completes_of (execDescriptorStart_within p tag s) rfl
  | interruptCoalesceTimeout p ring => exact completes_of (execInterruptCoalesceTimeout_within p ring s) rfl
  | ringDmaError p ring => exact completes_of (execRingDmaError_within p ring s) rfl
  | ringEnableWrite p ring val => exact completes_of (execRingEnableWrite_within p ring val s) rfl
  | ringDisableWrite p ring val => exact completes_of (execRingDisableWrite_within p ring val s) rfl
  | pdkNudge p mask dbs slots => exact completes_of (execPdkNudge_within p mask dbs slots s) rfl
  | paddockFlr p => exact completes_of (execPaddockFlr_within p s) rfl
  | portPerst p => exact completes_of (execPortPerst_within p s) rfl
  | bar0UnsupportedAccess p => exact completes_of (execBar0UnsupportedAccess_within p s) rfl
  | offDomainRegisterAccess p off val write => exact completes_of (execOffDomainRegisterAccess_within p off val write s) rfl
  | registerWrite p off val => exact completes_of (execRegisterWrite_within p off val s) rfl
  | rwpRegisterWrite p off val => exact completes_of (execRwpRegisterWrite_within p off val s) rfl
  | lockRegisterWrite p off val => exact completes_of (execLockRegisterWrite_within p off val s) rfl
  | glbLockAllWrite p val => exact completes_of (execGlbLockAllWrite_within p val s) rfl
  | wideLoRead p off => exact completes_of (execWideLoRead_within p off s) rfl
  | gpioSetWrite p val => exact completes_of (execGpioSetWrite_within p val s) rfl
  | gpioClearWrite p val => exact completes_of (execGpioClearWrite_within p val s) rfl
  | pwrWakeNow p val => exact completes_of (execPwrWakeNow_within p val s) rfl
  | laneResetWrite p val => exact completes_of (execLaneResetWrite_within p val s) rfl
  | laneReadmitWrite p val => exact completes_of (execLaneReadmitWrite_within p val s) rfl
  | auxEnableClearWrite p n val => exact completes_of (execAuxEnableClearWrite_within p n val s) rfl
  | lswEnableClearWrite p c val => exact completes_of (execLswEnableClearWrite_within p c val s) rfl
  | canModeWrite p n val => exact completes_of (execCanModeWrite_within p n val s) rfl
  | cvuConfigWrite p u k val => exact completes_of (execCvuConfigWrite_within p u k val s) rfl
  | cvuAliveCfgWrite p u val => exact completes_of (execCvuAliveCfgWrite_within p u val s) rfl
  | droRxEnableWrite p val => exact completes_of (execDroRxEnableWrite_within p val s) rfl
  | canRxEnableWrite p val => exact completes_of (execCanRxEnableWrite_within p val s) rfl
  | nop p tag => exact completes_of (execNop_within p tag s) rfl
  | laneHandover p tag => exact completes_of (execLaneHandover_within p tag s) rfl
  | fwActivate p tag => exact completes_of (execFwActivate_within p tag s) rfl
  | charterLoad p tag img keyBad => exact completes_of (execCharterLoad_within p tag img keyBad s) rfl
  | stallConfig p tag => exact completes_of (execStallConfig_within p tag s) rfl
  | sealAck p tag => exact completes_of (execSealAck_within p tag s) rfl
  | linkRetrain p tag => exact completes_of (execLinkRetrain_within p tag s) rfl
  | linkDisable p tag => exact completes_of (execLinkDisable_within p tag s) rfl
  | stallPolicy p tag => exact completes_of (execStallPolicy_within p tag s) rfl
  | cabinetEnable p tag => exact completes_of (execCabinetEnable_within p tag s) rfl
  | cabinetRetire p tag => exact completes_of (execCabinetRetire_within p tag s) rfl
  | nodeLimit p tag => exact completes_of (execNodeLimit_within p tag s) rfl
  | allocQuery p tag => exact completes_of (execAllocQuery_within p tag s) rfl
  | stallStop p tag => exact completes_of (execStallStop_within p tag s) rfl
  | loopTune p tag => exact completes_of (execLoopTune_within p tag s) rfl
  | calApply p tag => exact completes_of (execCalApply_within p tag s) rfl
  | checkpointNow p tag => exact completes_of (execCheckpointNow_within p tag s) rfl
  | pulseInputMode p tag => exact completes_of (execPulseInputMode_within p tag s) rfl
  | timeSet p tag => exact completes_of (execTimeSet_within p tag s) rfl
  | readingTake p tag => exact completes_of (execReadingTake_within p tag s) rfl
  | recordFetch p tag => exact completes_of (execRecordFetch_within p tag s) rfl
  | prepayCredit p tag => exact completes_of (execPrepayCredit_within p tag s) rfl
  | prepayDebit p tag => exact completes_of (execPrepayDebit_within p tag s) rfl
  | prepayQuery p tag => exact completes_of (execPrepayQuery_within p tag s) rfl
  | sessionAuthorize p tag data => exact completes_of (execSessionAuthorize_within p tag data s) rfl
  | sessionStop p tag => exact completes_of (execSessionStop_within p tag s) rfl
  | sessionQuery p tag => exact completes_of (execSessionQuery_within p tag s) rfl
  | tunnelSend p tag data => exact completes_of (execTunnelSend_within p tag data s) rfl
  | allowLookup p tag uncorr => exact completes_of (execAllowLookup_within p tag uncorr s) rfl
  | bridgeSet p tag => exact completes_of (execBridgeSet_within p tag s) rfl
  | coolingSet p tag => exact completes_of (execCoolingSet_within p tag s) rfl
  | hrnFaultClear p tag => exact completes_of (execHrnFaultClear_within p tag s) rfl
  | auxSet p tag => exact completes_of (execAuxSet_within p tag s) rfl
  | lswSet p tag => exact completes_of (execLswSet_within p tag s) rfl
  | lswFaultClear p tag => exact completes_of (execLswFaultClear_within p tag s) rfl
  | canSend p tag data => exact completes_of (execCanSend_within p tag data s) rfl
  | canRecover p tag => exact completes_of (execCanRecover_within p tag s) rfl
  | safetyProofTest p tag => exact completes_of (execSafetyProofTest_within p tag s) rfl
  | serviceClear p tag => exact completes_of (execServiceClear_within p tag s) rfl
  | imageStage p tag img keyBad => exact completes_of (execImageStage_within p tag img keyBad s) rfl
  | epochSwitch p tag => exact completes_of (execEpochSwitch_within p tag s) rfl
  | changeWindowOpen p tag proof keyBad => exact completes_of (execChangeWindowOpen_within p tag proof keyBad s) rfl
  | changeWindowClose p tag => exact completes_of (execChangeWindowClose_within p tag s) rfl
  | sign p tag data keyBad => exact completes_of (execSign_within p tag data keyBad s) rfl
  | keyGenerate p tag => exact completes_of (execKeyGenerate_within p tag s) rfl
  | attest p tag keyBad => exact completes_of (execAttest_within p tag keyBad s) rfl
  | lifecycleSet p tag img keyBad => exact completes_of (execLifecycleSet_within p tag img keyBad s) rfl
  | hostRead p tag bad => exact completes_of (execHostRead_within p tag bad s) rfl
  | hostWrite p tag data => exact completes_of (execHostWrite_within p tag data s) rfl
  | logFetch p tag => exact completes_of (execLogFetch_within p tag s) rfl
  | powerState p tag => exact completes_of (execPowerState_within p tag s) rfl
  | deviceReset p tag => exact completes_of (execDeviceReset_within p tag s) rfl
  | outputAdopt p tag => exact completes_of (execOutputAdopt_within p tag s) rfl
  | telemetryRead p tag => exact completes_of (execTelemetryRead_within p tag s) rfl
  | checkJob p tag data => exact completes_of (execCheckJob_within p tag data s) rfl
  | powerOnResetRelease haltCause vbat ckpts slots lanes wall => exact completes_of (execPowerOnResetRelease_within haltCause vbat ckpts slots lanes wall s) rfl
  | bootRunReached slotA slotB laneA laneB acked => exact completes_of (execBootRunReached_within slotA slotB laneA laneB acked s) rfl
  | vauxBelowWarn vaux => exact completes_of (execVauxBelowWarn_within vaux s) rfl
  | vauxBelowCommit vaux => exact completes_of (execVauxBelowCommit_within vaux s) rfl
  | vauxRecovery vaux lowest => exact completes_of (execVauxRecovery_within vaux lowest s) rfl
  | railUndervoltage rail => exact completes_of (execRailUndervoltage_within rail s) rfl
  | thermalShutdown sensor temp vaux => exact completes_of (execThermalShutdown_within sensor temp vaux s) rfl
  | auxReleaseDelayExpiry n => exact completes_of (execAuxReleaseDelayExpiry_within n s) rfl
  | laneRequestSlotWrite n active discharge i v => exact completes_of (execLaneRequestSlotWrite_within n active discharge i v s) rfl
  | laneModeRequest n mode vTarget => exact completes_of (execLaneModeRequest_within n mode vTarget s) rfl
  | laneSessionBind n => exact completes_of (execLaneSessionBind_within n s) rfl
  | laneFaultReport lane => exact completes_of (execLaneFaultReport_within lane s) rfl
  | laneTakeoverComplete gap => exact completes_of (execLaneTakeoverComplete_within gap s) rfl
  | laneRebootReady lane ok => exact completes_of (execLaneRebootReady_within lane ok s) rfl
  | tetherSnapshotAck slack => exact completes_of (execTetherSnapshotAck_within slack s) rfl
  | fwStandbyVerified sigOk selfOk => exact completes_of (execFwStandbyVerified_within sigOk selfOk s) rfl
  | fwOldLaneRebooted ok => exact completes_of (execFwOldLaneRebooted_within ok s) rfl
  | linkCycleStart vhold => exact completes_of (execLinkCycleStart_within vhold s) rfl
  | edgeBlockLatch n => exact completes_of (execEdgeBlockLatch_within n s) rfl
  | walkerPeriodCompute n slack => exact completes_of (execWalkerPeriodCompute_within n slack s) rfl
  | uplinkFrameReceive n sync bytes => exact completes_of (execUplinkFrameReceive_within n sync bytes s) rfl
  | linkLostEntry n why => exact completes_of (execLinkLostEntry_within n why s) rfl
  | linkLostRecover n => exact completes_of (execLinkLostRecover_within n s) rfl
  | linkLostTimeout n => exact completes_of (execLinkLostTimeout_within n s) rfl
  | linkTrainLock n => exact completes_of (execLinkTrainLock_within n s) rfl
  | linkMeasureDone n total pipe => exact completes_of (execLinkMeasureDone_within n total pipe s) rfl
  | linkTrimEchoed n => exact completes_of (execLinkTrimEchoed_within n s) rfl
  | linkStep3Done n => exact completes_of (execLinkStep3Done_within n s) rfl
  | linkIdentDone n => exact completes_of (execLinkIdentDone_within n s) rfl
  | keyResponseReceive n => exact completes_of (execKeyResponseReceive_within n s) rfl
  | keyingVerifyDone n fp sig => exact completes_of (execKeyingVerifyDone_within n fp sig s) rfl
  | keyConfirmAckReceive n tag => exact completes_of (execKeyConfirmAckReceive_within n tag s) rfl
  | configAckReceive n tag => exact completes_of (execConfigAckReceive_within n tag s) rfl
  | linkRecordCommitted n => exact completes_of (execLinkRecordCommitted_within n s) rfl
  | mgmtRetryTimeout n => exact completes_of (execMgmtRetryTimeout_within n s) rfl
  | keyingRetryTimer n => exact completes_of (execKeyingRetryTimer_within n s) rfl
  | rekeyTimer n => exact completes_of (execRekeyTimer_within n s) rfl
  | keySwitch n => exact completes_of (execKeySwitch_within n s) rfl
  | weighbridgeMsCommit slack overs fd => exact completes_of (execWeighbridgeMsCommit_within slack overs fd s) rfl
  | solveComplete slack => exact completes_of (execSolveComplete_within slack s) rfl
  | solveDeadlineExpiry ticks => exact completes_of (execSolveDeadlineExpiry_within ticks s) rfl
  | emergencyResolveComplete ticks => exact completes_of (execEmergencyResolveComplete_within ticks s) rfl
  | emergencyResolveFallback ticks => exact completes_of (execEmergencyResolveFallback_within ticks s) rfl
  | cabinetSilenceTimeout c => exact completes_of (execCabinetSilenceTimeout_within c s) rfl
  | cabinetEnableTimeout c => exact completes_of (execCabinetEnableTimeout_within c s) rfl
  | cabinetDrainEnd c => exact completes_of (execCabinetDrainEnd_within c s) rfl
  | throttleGraceExpiry n => exact completes_of (execThrottleGraceExpiry_within n s) rfl
  | housekeepingRound hk => exact completes_of (execHousekeepingRound_within hk s) rfl
  | storeComplete id => exact completes_of_host (execStoreComplete_within id s) ⟨id, rfl⟩
  | pulseOutputStart k => exact completes_of (execPulseOutputStart_within k s) rfl
  | s0InputEdge k at_ => exact completes_of (execS0InputEdge_within k at_ s) rfl
  | pulseCompareTimeout k => exact completes_of (execPulseCompareTimeout_within k s) rfl
  | sessionMeteringOpen n => exact completes_of (execSessionMeteringOpen_within n s) rfl
  | sessionMeteringClose n => exact completes_of (execSessionMeteringClose_within n s) rfl
  | readingSign keyBad => exact completes_of (execReadingSign_within keyBad s) rfl
  | tamperEdge input high vbat wall => exact completes_of (execTamperEdge_within input high vbat wall s) rfl
  | modeTimeout n => exact completes_of (execModeTimeout_within n s) rfl
  | contactorCloseTimeout n => exact completes_of (execContactorCloseTimeout_within n s) rfl
  | ffLostTimeout n => exact completes_of (execFfLostTimeout_within n s) rfl
  | phaseLost n k cause => exact completes_of (execPhaseLost_within n k cause s) rfl
  | phaseDegradedLimit n => exact completes_of (execPhaseDegradedLimit_within n s) rfl
  | twoStepComplete n => exact completes_of (execTwoStepComplete_within n s) rfl
  | estopChannelOpen k ch => exact completes_of (execEstopChannelOpen_within k ch s) rfl
  | estopDiscrepancyTimeout k => exact completes_of (execEstopDiscrepancyTimeout_within k s) rfl
  | estopLoopClose k mask => exact completes_of (execEstopLoopClose_within k mask s) rfl
  | estopResetPulse g len => exact completes_of (execEstopResetPulse_within g len s) rfl
  | estopRearmTimeout k => exact completes_of (execEstopRearmTimeout_within k s) rfl
  | estopInputTest followed => exact completes_of (execEstopInputTest_within followed s) rfl
  | safeOutReadbackFault a b => exact completes_of (execSafeOutReadbackFault_within a b s) rfl
  | edmMismatch k => exact completes_of (execEdmMismatch_within k s) rfl
  | halterOscCheck dev => exact completes_of (execHalterOscCheck_within dev s) rfl
  | halterSampleTrip n => exact completes_of (execHalterSampleTrip_within n s) rfl
  | sustainedOverTimeout n => exact completes_of (execSustainedOverTimeout_within n s) rfl
  | stopPermitWithdrawal n => exact completes_of (execStopPermitWithdrawal_within n s) rfl
  | stopEnd n => exact completes_of (execStopEnd_within n s) rfl
  | contactorWeldTimeout n => exact completes_of (execContactorWeldTimeout_within n s) rfl
  | sensorLossTimeout n i => exact completes_of (execSensorLossTimeout_within n i s) rfl
  | sensorDegradedLimit n => exact completes_of (execSensorDegradedLimit_within n s) rfl
  | sensorLockoutRelease n => exact completes_of (execSensorLockoutRelease_within n s) rfl
  | coolantFlowLow n => exact completes_of (execCoolantFlowLow_within n s) rfl
  | coolantFlowRelease n => exact completes_of (execCoolantFlowRelease_within n s) rfl
  | hallEdge b hall => exact completes_of (execHallEdge_within b hall s) rfl
  | hallInvalidTimeout b => exact completes_of (execHallInvalidTimeout_within b s) rfl
  | rotorStallTimeout b => exact completes_of (execRotorStallTimeout_within b s) rfl
  | directInputEdge b sw level => exact completes_of (execDirectInputEdge_within b sw level s) rfl
  | bothOnRejection b half => exact completes_of (execBothOnRejection_within b half s) rfl
  | bootstrapRefreshTimer b half => exact completes_of (execBootstrapRefreshTimer_within b half s) rfl
  | bootstrapUndervoltage b half => exact completes_of (execBootstrapUndervoltage_within b half s) rfl
  | harnessOvercurrent b sw => exact completes_of (execHarnessOvercurrent_within b sw s) rfl
  | desatTrip b sw => exact completes_of (execDesatTrip_within b sw s) rfl
  | vmotOvervoltage g v => exact completes_of (execVmotOvervoltage_within g v s) rfl
  | vmotUndervoltage g v => exact completes_of (execVmotUndervoltage_within g v s) rfl
  | vmotUvRecovery g v => exact completes_of (execVmotUvRecovery_within g v s) rfl
  | chopperOn g v => exact completes_of (execChopperOn_within g v s) rfl
  | chopperOff g v => exact completes_of (execChopperOff_within g v s) rfl
  | chopOverloadTimeout g => exact completes_of (execChopOverloadTimeout_within g s) rfl
  | auxStartTestEnd n vsw vout vin => exact completes_of (execAuxStartTestEnd_within n vsw vout vin s) rfl
  | auxTargetReached n vout vin => exact completes_of (execAuxTargetReached_within n vout vin s) rfl
  | auxRampOffEnd n vout vin => exact completes_of (execAuxRampOffEnd_within n vout vin s) rfl
  | auxShortDetect n vout vin => exact completes_of (execAuxShortDetect_within n vout vin s) rfl
  | auxHiccupRestart n vout vin => exact completes_of (execAuxHiccupRestart_within n vout vin s) rfl
  | auxOvervoltage n vout vin => exact completes_of (execAuxOvervoltage_within n vout vin s) rfl
  | auxOvBrake n vout vin => exact completes_of (execAuxOvBrake_within n vout vin s) rfl
  | auxBrakeEnd n vout vin => exact completes_of (execAuxBrakeEnd_within n vout vin s) rfl
  | auxVinUndervoltage n vout vin => exact completes_of (execAuxVinUndervoltage_within n vout vin s) rfl
  | auxVinRecovery n vout vin => exact completes_of (execAuxVinRecovery_within n vout vin s) rfl
  | auxPgoodLoss n vout vin => exact completes_of (execAuxPgoodLoss_within n vout vin s) rfl
  | auxSetTimeout n => exact completes_of (execAuxSetTimeout_within n s) rfl
  | lsinEdge c level => exact completes_of (execLsinEdge_within c level s) rfl
  | lswClamp c => exact completes_of (execLswClamp_within c s) rfl
  | lswInrushTrip c => exact completes_of (execLswInrushTrip_within c s) rfl
  | lswInrushWindowEnd c => exact completes_of (execLswInrushWindowEnd_within c s) rfl
  | lswOvercurrentTrip c => exact completes_of (execLswOvercurrentTrip_within c s) rfl
  | lswGroupOt g temp => exact completes_of (execLswGroupOt_within g temp s) rfl
  | lswGroupUv g lsv => exact completes_of (execLswGroupUv_within g lsv s) rfl
  | lswGroupUvRecovery g lsv => exact completes_of (execLswGroupUvRecovery_within g lsv s) rfl
  | lswGroupDisturbEnd g => exact completes_of (execLswGroupDisturbEnd_within g s) rfl
  | lswOpenLoad c => exact completes_of (execLswOpenLoad_within c s) rfl
  | lswShortSupply c present => exact completes_of (execLswShortSupply_within c present s) rfl
  | lswSetUvTimeout c => exact completes_of (execLswSetUvTimeout_within c s) rfl
  | canFrameReceive n frame sof err => exact completes_of (execCanFrameReceive_within n frame sof err s) rfl
  | canFrameAcknowledged n sof delay => exact completes_of (execCanFrameAcknowledged_within n sof delay s) rfl
  | canArbitrationLoss n sof err => exact completes_of (execCanArbitrationLoss_within n sof err s) rfl
  | canTxTimeout n p num sof => exact completes_of (execCanTxTimeout_within n p num sof s) rfl
  | canErrorStateChange n tec rec_ => exact completes_of (execCanErrorStateChange_within n tec rec_ s) rfl
  | canRecoveryDone n => exact completes_of (execCanRecoveryDone_within n s) rfl
  | canRecoverTimeout n => exact completes_of (execCanRecoverTimeout_within n s) rfl
  | canRateDetectResult n k => exact completes_of (execCanRateDetectResult_within n k s) rfl
  | canRateDetectTimeout n => exact completes_of (execCanRateDetectTimeout_within n s) rfl
  | droMessageReceive n view => exact completes_of (execDroMessageReceive_within n view s) rfl
  | droTimerExpiry i k => exact completes_of (execDroTimerExpiry_within i k s) rfl
  | droStallResult i code => exact completes_of (execDroStallResult_within i code s) rfl
  | authLookupDone i uncorr => exact completes_of (execAuthLookupDone_within i uncorr s) rfl
  | authHostTimeout i => exact completes_of (execAuthHostTimeout_within i s) rfl
  | lingerExpiry i => exact completes_of (execLingerExpiry_within i s) rfl
  | tcpRetransmitTimeout i => exact completes_of (execTcpRetransmitTimeout_within i s) rfl
  | serviceUnlock img => exact completes_of (execServiceUnlock_within img s) rfl
  | holdupMeasurementEnd dv iStore => exact completes_of (execHoldupMeasurementEnd_within dv iStore s) rfl
  | nandMigration r => exact completes_of (execNandMigration_within r s) rfl
  | nandScrub region page bits uncorr => exact completes_of (execNandScrub_within region page bits uncorr s) rfl
  | nandProgramFail id die block => exact completes_of (execNandProgramFail_within id die block s) rfl
  | wearLevelMove hi lo mean => exact completes_of (execWearLevelMove_within hi lo mean s) rfl
  | wakeEvent source => exact completes_of (execWakeEvent_within source s) rfl
  | ppsEdge qualifies err => exact completes_of (execPpsEdge_within qualifies err s) rfl
  | linkRetrainTimeout n => exact completes_of (execLinkRetrainTimeout_within n s) rfl
  | stallStopTimeout n => exact completes_of (execStallStopTimeout_within n s) rfl
  | bridgeRampEnd b => exact completes_of (execBridgeRampEnd_within b s) rfl
  | lswCurrentSample c sample temp lsv => exact completes_of (execLswCurrentSample_within c sample temp lsv s) rfl
  | pulseOutputEnd k => exact completes_of (execPulseOutputEnd_within k s) rfl
  | holdupWaitTimeout id => exact completes_of (execHoldupWaitTimeout_within id s) rfl
  | safetyProofTestEnd failed => exact completes_of (execSafetyProofTestEnd_within failed s) rfl
  | canRxRingDelivery => exact completes_of (execCanRxRingDelivery_within s) rfl
  | vauxBelowReset => exact completes_of (execVauxBelowReset_within s) rfl
  | thermalShutdownExit => exact completes_of (execThermalShutdownExit_within s) rfl
  | resetNAssert => exact completes_of (execResetNAssert_within s) rfl
  | deviceResetEffect => exact completes_of (execDeviceResetEffect_within s) rfl
  | holdWindowExpiry => exact completes_of (execHoldWindowExpiry_within s) rfl
  | lswReleaseStep => exact completes_of (execLswReleaseStep_within s) rfl
  | laneHeartbeat => exact completes_of (execLaneHeartbeat_within s) rfl
  | laneHeartbeatTimeout => exact completes_of (execLaneHeartbeatTimeout_within s) rfl
  | revertHoldoffExpiry => exact completes_of (execRevertHoldoffExpiry_within s) rfl
  | handoverDrainEnd => exact completes_of (execHandoverDrainEnd_within s) rfl
  | handoverAckTimeout => exact completes_of (execHandoverAckTimeout_within s) rfl
  | noStandbyLimit => exact completes_of (execNoStandbyLimit_within s) rfl
  | fwProbationExpiry => exact completes_of (execFwProbationExpiry_within s) rfl
  | allocationBoundary => exact completes_of (execAllocationBoundary_within s) rfl
  | emergencyRampStep => exact completes_of (execEmergencyRampStep_within s) rfl
  | legalTickAdvance => exact completes_of (execLegalTickAdvance_within s) rfl
  | timeSlewEnd => exact completes_of (execTimeSlewEnd_within s) rfl
  | checkpointStoreStart => exact completes_of (execCheckpointStoreStart_within s) rfl
  | finalStoreStart => exact completes_of (execFinalStoreStart_within s) rfl
  | billingBoundary => exact completes_of (execBillingBoundary_within s) rfl
  | tariffFreezeEnd => exact completes_of (execTariffFreezeEnd_within s) rfl
  | friendlyWindowEnd => exact completes_of (execFriendlyWindowEnd_within s) rfl
  | halterChannelMismatch => exact completes_of (execHalterChannelMismatch_within s) rfl
  | halterSupplyFail => exact completes_of (execHalterSupplyFail_within s) rfl
  | proofTestDue => exact completes_of (execProofTestDue_within s) rfl
  | troughEvaluation => exact completes_of (execTroughEvaluation_within s) rfl
  | allowMergeLeaf => exact completes_of (execAllowMergeLeaf_within s) rfl
  | changeWindowExpiry => exact completes_of (execChangeWindowExpiry_within s) rfl
  | windowLockoutEnd => exact completes_of (execWindowLockoutEnd_within s) rfl
  | epochSwitchBoundary => exact completes_of (execEpochSwitchBoundary_within s) rfl
  | holdupMeasurementStart => exact completes_of (execHoldupMeasurementStart_within s) rfl
  | holdupWeak => exact completes_of (execHoldupWeak_within s) rfl
  | powerEntryCheck => exact completes_of (execPowerEntryCheck_within s) rfl
  | quietEntry => exact completes_of (execQuietEntry_within s) rfl
  | hibernateEntry => exact completes_of (execHibernateEntry_within s) rfl
  | wakeTimer => exact completes_of (execWakeTimer_within s) rfl
  | wakeReplay => exact completes_of (execWakeReplay_within s) rfl
  | ppsAbsenceTimeout => exact completes_of (execPpsAbsenceTimeout_within s) rfl
  | resetNRelease => exact completes_of (execResetNRelease_within s) rfl
  | fwStepTimeout => exact completes_of (execFwStepTimeout_within s) rfl
  | timeSetAtChronobase => exact completes_of (execTimeSetAtChronobase_within s) rfl

/-- The idle tick moves the Chronobase and nothing else. -/
theorem idle_within (s : State) : Within 1 s s.idle := by
  unfold State.idle
  split
  · exact Within.chronoUpd
  · exact Within.refl 1 s

/-- Taking the front command off the queue leaves the registers and HOST as they were. -/
theorem step_within {t : State} (s : State) (h : step s = .next t) : ∃ m u, u.regs = s.regs ∧ u.hay = s.hay ∧ Within m u t := by
  unfold step at h
  split at h
  · next c rest _ =>
    obtain ⟨t', ht, m, hw, -⟩ := exec_completes c { s with pending := rest }
    obtain rfl : t' = t := by rw [ht] at h; exact Host.Outcome.next.inj h
    exact ⟨m, { s with pending := rest }, rfl, rfl, hw⟩
  · obtain rfl : s.idle = t := Host.Outcome.next.inj h
    exact ⟨1, s, rfl, rfl, idle_within s⟩

/-- A state of a device in RUN that lists a register of window 17, which holds none (R573). -/
def strayWindow : State := { State.reset with regs := [(35651584, 1)], pwr := { Pwr.init with cold := false } }

/-- The field that `strayWindow` lists. -/
def strayField : Fld := ⟨0, 17, 0, 0, 1⟩

end Sys2Proof.CommandLaws

namespace Sys2Proof

open Sys2Proof.Machine Sys2Proof.Laws Sys2Proof.CommandLaws

/-- Settles O1: both sides are the same arm of `step`. -/
theorem stepRunsFront : Obligations.StepRunsFront := fun _ _ _ => rfl

/-- Settles O2: an empty queue leaves `State.idle`, which asks for domain 3. -/
theorem idleTick : Obligations.IdleTick := by
  intro s hp
  have hstep : step s = .next s.idle := by unfold step; rw [hp]
  exact ⟨fun hd => by rw [hstep, State.idle, if_pos hd], fun hd => by rw [hstep, State.idle, if_neg (by simp [hd])]⟩

/-- Settles O3: what every command's mask lemma says of the queue, the order code and what has left the block. -/
theorem everyCommandCompletes : Obligations.EveryCommandCompletes := by
  intro c s
  obtain ⟨t, ht, m, hw, -⟩ := exec_completes c s
  exact ⟨t, ht, hw.pending, hw.variant, hw.out⟩

/-- Settles O4: a command and the idle tick alike keep both canonical forms. -/
theorem stepKeepsInv : Obligations.StepKeepsInv := by
  intro s t ⟨hregs, hhost⟩ hst
  obtain ⟨m, u, hr, hh, hw⟩ := step_within s hst
  exact ⟨hw.wf (show sparseWf resetOf u.regs = true from hr ▸ hregs), hw.host (hh ▸ hhost)⟩

/-- Settles O5: reset lists no register and no byte of HOST. -/
theorem resetInv : Obligations.ResetInv := ⟨⟨rfl, rfl⟩, rfl, rfl⟩

/-- Settles O6: no mask but STORE_COMPLETE's has the bit of HOST's bytes. -/
theorem hostOnlyStoreWrites : Obligations.HostOnlyStoreWrites := by
  intro c s t hc ht a
  obtain ⟨t', ht', m, hw, hm⟩ := exec_completes c s
  obtain rfl : t' = t := by rw [ht'] at ht; exact Host.Outcome.next.inj ht
  rw [hw.bytes (hm.resolve_left fun ⟨id, h⟩ => hc id h)]

/-- Refutes O59: a Cold reset (here VAUX_BELOW_RESET) drops every listed register that is not of class K or A, also one listed in a window
that has no registers and that no command is said to reach. -/
theorem not_commandFrames : ¬ Obligations.CommandFrames := by
  intro h
  have hframe := (h .vauxBelowReset strayWindow (strayWindow.goCold 2 0) rfl).1 strayField (by decide)
  exact absurd hframe (by decide +kernel)

end Sys2Proof
end

section
/-!
PROOFS. Answers: what stays answered when more happens, what stays in flight, and what a block's command finds when it takes a
descriptor from the front of its queue (R64, R66, R73). Commands that answer a descriptor go through these lemmas.
-/
set_option Elab.async false -- the kernel evaluations wait for each other: keep them in one thread
namespace Sys2Proof.CommandLaws

open Sys2Proof.Machine Sys2Proof.Laws

/-! ### Events leave the paddocks' tables alone -/

/-- A paddock without what the delivery of an event counts: event numbers, lost events, unsignalled records (R76, R81). -/
def pdkCore (d : Pdk) : Pdk := { d with rings := d.rings.map fun x => { x with unsig := 0 }, evSeq := 0, lostSince := 0 }

/-- `t` comes from `s` by nothing that touches a paddock beyond `pdkCore`, or takes back what left the block. -/
structure Quiet (s t : State) : Prop where
  out : s.out <+: t.out
  core : ∀ q, pdkCore (t.pd q) = pdkCore (s.pd q)
  len : t.pdk.length = s.pdk.length

variable {s t u : State} {p q num tag st r m : Nat} {d : Desc}

theorem Quiet.refl (s : State) : Quiet s s := ⟨List.prefix_refl _, fun _ => rfl, rfl⟩

theorem Quiet.trans (h : Quiet s t) (h' : Quiet t u) : Quiet s u :=
  ⟨h.out.trans h'.out, fun q => (h'.core q).trans (h.core q), h'.len.trans h.len⟩

/-- What is outside the paddocks is quiet. -/
theorem Quiet.within (h : Quiet s t) (hu : Within m t u) (hm : m.testBit 2 = false) : Quiet s u :=
  h.trans ⟨hu.out, fun q => by rw [State.pd, hu.pdk hm, State.pd], by rw [hu.pdk hm]⟩

theorem Quiet.table (h : Quiet s t) (q : Nat) : (t.pd q).table = (s.pd q).table := (congrArg Pdk.table (h.core q) :)
theorem Quiet.held (h : Quiet s t) (q : Nat) : (t.pd q).held = (s.pd q).held := (congrArg Pdk.held (h.core q) :)
theorem Quiet.orphans (h : Quiet s t) (q : Nat) : (t.pd q).orphans = (s.pd q).orphans := (congrArg Pdk.orphans (h.core q) :)
theorem Quiet.nextNum (h : Quiet s t) (q : Nat) : (t.pd q).nextNum = (s.pd q).nextNum := (congrArg (fun d : Pdk => d.nextNum) (h.core q) :)

/-- A view of a ring that does not look at `unsig`, read off `pdkCore`. -/
theorem ring_pdkCore (d : Pdk) (j : Nat) : (pdkCore d).ring j = { d.ring j with unsig := 0 } := by
  simp only [Pdk.ring, pdkCore, List.getD_eq_getElem?_getD, List.getElem?_map]
  cases d.rings[j]? <;> rfl

theorem Quiet.ring (h : Quiet s t) (q j : Nat) : { (t.pd q).ring j with unsig := 0 } = { (s.pd q).ring j with unsig := 0 } := by
  rw [← ring_pdkCore, ← ring_pdkCore, h.core q]

theorem Quiet.hostSeq (h : Quiet s t) (q j : Nat) : ((t.pd q).ring j).hostSeq = ((s.pd q).ring j).hostSeq := (congrArg Ring.hostSeq (h.ring q j) :)
theorem Quiet.hostIdx (h : Quiet s t) (q j : Nat) : ((t.pd q).ring j).hostIdx = ((s.pd q).ring j).hostIdx := (congrArg Ring.hostIdx (h.ring q j) :)
theorem Quiet.stopped (h : Quiet s t) (q j : Nat) : ((t.pd q).ring j).stopped = ((s.pd q).ring j).stopped := (congrArg Ring.stopped (h.ring q j) :)
theorem Quiet.prod (h : Quiet s t) (q j : Nat) : ((t.pd q).ring j).prod = ((s.pd q).ring j).prod := (congrArg Ring.prod (h.ring q j) :)

theorem pdkCore_modRing_unsig (d : Pdk) (j n : Nat) : pdkCore (d.modRing j fun x => { x with unsig := n }) = pdkCore d := by
  have hmap : ∀ (l : List Ring) (j : Nat), (modAt l j fun x => { x with unsig := n }).map (fun x => { x with unsig := 0 }) =
      l.map (fun x : Ring => { x with unsig := 0 }) := by
    intro l
    induction l with
    | nil => intro j; rfl
    | cons a l ih =>
      intro j
      cases j with
      | zero => rfl
      | succ j => simpa [modAt] using ih j
  simp only [pdkCore, Pdk.modRing, hmap]

theorem Quiet.modPd (h : Quiet s t) (p : Nat) {f : Pdk → Pdk} (hf : ∀ d, pdkCore (f d) = pdkCore d) : Quiet s (t.modPd p f) :=
  h.trans ⟨List.prefix_refl _, fun q => PaddockLaws.getD_modAt_view pdkCore t.pdk p q f Pdk.init hf, length_modPd _ _ _⟩

theorem Quiet.signal (h : Quiet s t) (p v : Nat) : Quiet s (t.signal p v) := h.within (signal_within t p v) rfl
theorem Quiet.emit (h : Quiet s t) (o : Out) : Quiet s (t.emit o) := h.within (emit_within t o) (Nat.zero_testBit _)
theorem Quiet.set (h : Quiet s t) (f : Fld) (v : Nat) : Quiet s (t.set f v) := h.trans ⟨List.prefix_refl _, fun _ => rfl, rfl⟩

theorem Quiet.coalesce (h : Quiet s t) (p r : Nat) : Quiet s (t.coalesce p r) := by
  have hunsig : ∀ n, Quiet s (t.modPd p (·.modRing r fun x => { x with unsig := n })) := fun n =>
    h.modPd p fun d => pdkCore_modRing_unsig d r n
  unfold State.coalesce
  extract_lets cnt us v n
  split
  · exact (hunsig 0).signal _ _
  · exact hunsig _

theorem Quiet.eqWrite (h : Quiet s t) (p : Nat) (e : Ev) : Quiet s (t.eqWrite p e) := by
  unfold State.eqWrite
  extract_lets prod size ph s1 s2 s3 s4
  have h2 : Quiet s s2 := (h.emit _).modPd p fun _ => rfl
  have h3 : Quiet s s3 := h2.set (F.PDK_EQ_PROD p) _
  exact (h3.emit _).coalesce p 12

theorem Quiet.eqLost (h : Quiet s t) (p : Nat) : Quiet s (t.eqLost p) := by
  unfold State.eqLost
  split
  · exact (h.eqWrite p _).modPd p fun _ => rfl
  · exact h

theorem Quiet.deliver (h : Quiet s t) (p : Nat) (e : Ev) : Quiet s (t.deliver p e) := by
  unfold State.deliver
  dsimp only
  split
  · exact h
  · split
    · exact (h.eqLost p).eqWrite p e
    · exact ((h.eqLost p).modPd p (f := fun d => { d with evSeq := (d.evSeq + 1) % 65536, lostSince := d.lostSince + 1 })
        fun _ => rfl).set (F.PDK_EVT_LOST p) _

theorem Quiet.foldl {α : Type} {l : List α} {f : State → α → State} (hf : ∀ u a, Quiet s u → Quiet s (f u a)) (h : Quiet s t) :
    Quiet s (l.foldl f t) := by
  induction l generalizing t with
  | nil => exact h
  | cons a l ih => exact ih (hf t a h)

theorem Quiet.logEvent (h : Quiet s t) (e : Ev) (force : Bool) : Quiet s (t.logEvent e force) := h.within (logEvent_within t e force) rfl

theorem Quiet.raise (h : Quiet s t) (code sev src : Nat) (pay : List Nat) : Quiet s (t.raise code sev src pay) := by
  unfold State.raise
  refine Quiet.logEvent (Quiet.foldl (fun u q hu => ?_) h) _ _
  split
  · exact hu.deliver q _
  · exact hu

theorem Quiet.raisePdk (h : Quiet s t) (p code sev : Nat) (pay : List Nat) : Quiet s (t.raisePdk p code sev pay) := by
  unfold State.raisePdk
  refine Quiet.logEvent (Quiet.foldl (fun u q hu => ?_) h) _ _
  split
  · exact hu.deliver q _
  · exact hu

theorem Quiet.raiseOwn (h : Quiet s t) (p code sev : Nat) (pay : List Nat) : Quiet s (t.raiseOwn p code sev pay) := by
  unfold State.raiseOwn
  exact (h.deliver p _).logEvent _ _

theorem Quiet.ringError (h : Quiet s t) (p r cause : Nat) : Quiet s (t.ringError p r cause) := by
  unfold State.ringError
  extract_lets s1 s2
  have h1 : Quiet s s1 := (h.set (F.PDK_RING_ERR_RING p) _).set (F.PDK_STATUS_RING_ERR p) _
  have h2 : Quiet s s2 := by
    unfold s2
    split
    · exact h1.set (F.PDK_RING_ERR_INDEX_RANGE p) _
    · split
      · exact h1.set (F.PDK_RING_ERR_CFG p) _
      · exact (h1.set (F.PDK_RING_ERR_DMA p) _).set (F.PDK_STATUS_DMA_ERR p) _
  split
  · exact (h2.signal p 15).raisePdk p _ _ _
  · exact h2.signal p 15

/-! ### What was answered stays answered -/

/-- `u` comes later than `t`: nothing that left the block is taken back, and a completion held is written or still held. -/
structure Later (t u : State) : Prop where
  out : t.out <+: u.out
  held : ∀ p c, c ∈ (t.pd p).held →
    (∃ o ∈ u.out.drop t.out.length, isCqe p c.tag c.status c.result o = true) ∨ c ∈ (u.pd p).held

theorem Later.refl (s : State) : Later s s := ⟨List.prefix_refl _, fun _ _ h => .inr h⟩

theorem Later.trans (h : Later s t) (h' : Later t u) : Later s u where
  out := h.out.trans h'.out
  held p c hc := by
    rcases h.held p c hc with ⟨o, ho, hq⟩ | hc'
    · exact .inl ⟨o, mem_drop_of_prefix h.out h'.out ho, hq⟩
    · rcases h'.held p c hc' with ⟨o, ho, hq⟩ | hc''
      · exact .inl ⟨o, mem_drop_of_later h.out h'.out ho, hq⟩
      · exact .inr hc''

theorem Later.ofQuiet (h : Quiet s t) : Later s t := ⟨h.out, fun p _ hc => .inr (h.held p ▸ hc)⟩

theorem Later.within (h : Later s t) (hu : Within m t u) (hm : m.testBit 2 = false) : Later s u :=
  h.trans (.ofQuiet ((Quiet.refl t).within hu hm))

theorem Later.quiet (h : Later s t) (hu : Quiet t u) : Later s u := h.trans (.ofQuiet hu)

/-- A paddock that holds a completion is there. -/
theorem pd_lt_of_held {c : Cpl} (h : c ∈ (s.pd p).held) : p < s.pdk.length := by
  apply Classical.byContradiction
  intro hn
  rw [State.pd, PaddockLaws.getD_of_length_le _ (Nat.le_of_not_lt hn)] at h
  simp [Pdk.init] at h

/-- An update of a paddock that holds the completions it held, or more. -/
theorem Later.modPd (h : Later s t) (p : Nat) {f : Pdk → Pdk} (hf : ∀ d, ∀ c ∈ d.held, c ∈ (f d).held) : Later s (t.modPd p f) := by
  refine h.trans ⟨List.prefix_refl _, fun q c hc => .inr ?_⟩
  by_cases hq : q = p
  · subst hq
    rw [pd_modPd _ _ _ (pd_lt_of_held hc)]
    exact hf _ _ hc
  · rw [pd_modPd_ne _ _ _ _ hq]; exact hc

/-- Writing a completion record leaves every held list alone. -/
theorem cqWrite_held (s : State) (p : Nat) (c : Cpl) (q : Nat) : ((s.cqWrite p c).pd q).held = (s.pd q).held := by
  unfold State.cqWrite
  extract_lets prod size ph s1 s2 s3 s4 s5 s6
  have h4 : (s4.pd q).held = (s.pd q).held :=
    PaddockLaws.getD_modAt_view Pdk.held s3.pdk p q _ Pdk.init fun _ => rfl
  have h5 : (s5.pd q).held = (s.pd q).held := h4
  have h6 : (s6.pd q).held = (s.pd q).held := by
    unfold s6
    split
    · rw [((Quiet.refl s5).raisePdk _ _ _ _).held]; exact h5
    · exact h5
  rw [((Quiet.refl s6).coalesce _ _).held, h6]

theorem flushHeld_held (p : Nat) (l : List Cpl) (s : State) (q : Nat) : ((flushHeld p l s).2.pd q).held = (s.pd q).held := by
  induction l generalizing s with
  | nil => rfl
  | cons c l ih =>
    unfold flushHeld
    split
    · rw [ih, cqWrite_held]
    · exact ih s

theorem Later.flush (h : Later s t) (p : Nat) : Later s (t.flush p) := by
  refine h.trans ⟨(flush_within t p).out, fun q c hc => ?_⟩
  by_cases hq : q = p
  · subst hq
    have hl : q < t.pdk.length := pd_lt_of_held hc
    refine (flushHeld_new q _ t c hc).imp id fun hin => ?_
    rw [State.flush, pd_modPd _ _ _ (by simpa using hl)]
    exact hin
  · refine .inr ?_
    rw [State.flush, pd_modPd_ne _ _ _ _ hq, flushHeld_held]
    exact hc

theorem Later.completeD (h : Later s t) (p : Nat) (d : Desc) (st r : Nat) (buf : Bool) : Later s (t.completeD p d st r buf) := by
  unfold State.completeD
  exact (h.modPd p fun d c hc => List.mem_append_left _ hc).flush p

theorem Later.finish (h : Later s t) (p num st r : Nat) (buf : Bool) : Later s (t.finish p num st r buf) := by
  unfold State.finish
  split
  · exact h.completeD _ _ _ _ _
  · exact h.modPd p fun _ _ hc => hc

theorem Later.foldl {α : Type} {l : List α} {f : State → α → State} (hf : ∀ u a, Later s u → Later s (f u a)) (h : Later s t) :
    Later s (l.foldl f t) := by
  induction l generalizing t with
  | nil => exact h
  | cons a l ih => exact ih (hf t a h)

/-- What was answered stays answered. -/
theorem Ended.later (h : s.Ended t p tag st r) (hs : s.out <+: t.out) (hu : Later t u) : s.Ended u p tag st r := by
  rcases h with ⟨o, ho, hc⟩ | ⟨c, hc, rfl, rfl, rfl⟩
  · exact .inl ⟨o, mem_drop_of_prefix hs hu.out ho, hc⟩
  · rcases hu.held p c hc with ⟨o, ho, hq⟩ | hc'
    · exact .inl ⟨o, mem_drop_of_later hs hu.out ho, hq⟩
    · exact .inr ⟨c, hc', rfl, rfl, rfl⟩

/-- An answer given after `t` is new since an earlier `s`. -/
theorem Ended.earlier (h : t.Ended u p tag st r) (hs : s.out <+: t.out) (hu : t.out <+: u.out) : s.Ended u p tag st r :=
  h.imp (fun ⟨o, ho, hc⟩ => ⟨o, mem_drop_of_later hs hu ho, hc⟩) id

/-! ### Descriptors in flight -/

/-- The descriptor with this fetch number is in flight and not finished. -/
abbrev InFlight (s : State) (p num : Nat) (d : Desc) : Prop :=
  (s.pd p).table.find? (fun x => decide (x.num = num ∧ x.phase ≠ .finished)) = some d

theorem InFlight.congr (h : InFlight s p num d) (ht : (t.pd p).table = (s.pd p).table) : InFlight t p num d := by
  rw [InFlight, ht]; exact h

theorem InFlight.quiet (h : InFlight s p num d) (ht : Quiet s t) : InFlight t p num d := h.congr (ht.table p)

theorem InFlight.within (h : InFlight s p num d) (ht : Within m s t) (hm : m.testBit 2 = false) : InFlight t p num d :=
  h.quiet ((Quiet.refl s).within ht hm)

/-- Finishing a descriptor in flight answers it. -/
theorem InFlight.answered (h : InFlight t p num d) (hs : s.out <+: t.out) {st r : Nat} {buf : Bool} :
    s.Ended (t.finish p num st r buf) p d.tag st (r % 2 ^ 32) :=
  Ended.earlier (finish_ended h) hs (finish_within t p num st r buf).out

/-! ### Taking a descriptor from the front of its queue -/

variable {op : Nat}

/-- The descriptor as its block takes it. -/
abbrev takenDesc (d : Desc) : Desc := { d with phase := .taken }

/-- What taking `d` does to its paddock. -/
def takeUp (d : Desc) (x : Pdk) : Pdk :=
  let up := fun (y : Desc) => if y.num = d.num then takenDesc d else y
  { x with table := x.table.map up, orphans := x.orphans.map up }

/-- The state with `d` taken, for a block that is not the Drover. -/
abbrev taken (s : State) (p : Nat) (d : Desc) : State := s.modPd p (takeUp d)

theorem ready_tag (h : s.Ready p tag op d) : d.tag = tag := by
  have := List.find?_some h.1
  simp only [decide_eq_true_eq] at this
  exact this.1

theorem ready_lt (h : s.Ready p tag op d) : p < s.pdk.length := pd_lt h.2.2.2.2

/-- A block that is not the Drover takes what stands ready. -/
theorem ready_take (h : s.Ready p tag op d) (f : Desc → State → State) (hop : op / 256 ≠ 7) :
    s.take p tag op f = f (takenDesc d) (taken s p d) := by
  have hb : d.block ≠ 7 := by rw [Desc.block, h.2.1]; exact hop
  rw [take_ready h, takenState, if_neg hb]
  rfl

theorem ready_inFlight (h : s.Ready p tag op d) : InFlight (taken s p d) p d.num (takenDesc d) := by
  have ht : ((taken s p d).pd p).table = ((takenState s p d).pd p).table := by
    rw [takenState]
    split <;> rfl
  rw [InFlight, ht]
  exact takenState_find h

theorem Later.taken (h : Later s t) (p : Nat) (d : Desc) : Later s (taken t p d) := h.modPd p fun _ _ hc => hc

/-- The taken descriptor that finishes at once is answered. -/
theorem ready_answered (h : s.Ready p tag op d) (hs : InFlight t p d.num (takenDesc d)) (ho : s.out <+: t.out) (st r : Nat)
    (buf : Bool := false) : s.Ended (t.finish p d.num st r buf) p tag st (r % 2 ^ 32) := by
  have := hs.answered (s := s) ho (st := st) (r := r) (buf := buf)
  rwa [show (takenDesc d).tag = tag from (ready_tag h :)] at this

end Sys2Proof.CommandLaws
end

section
/-!
PROOFS. Doorbell records and fetching (R55-R57, R60-R65): what a poll does when host memory answers with no descriptors, and with one.
-/
set_option Elab.async false -- the kernel evaluations wait for each other: keep them in one thread
namespace Sys2Proof.CommandLaws

open Sys2Proof.Machine Sys2Proof.Laws Sys2Proof.PaddockLaws

variable {s t u : State} {p r j i : Nat}

/-! ### Rings of an updated paddock -/

theorem ring_modRing_self (d : Pdk) {r : Nat} (f : Ring → Ring) (h : r < d.rings.length) : (d.modRing r f).ring r = f (d.ring r) :=
  getD_modAt_self _ _ _ _ h

theorem ring_modRing_ne (d : Pdk) (f : Ring → Ring) (h : j ≠ r) : (d.modRing r f).ring j = d.ring j := getD_modAt_ne _ _ _ _ _ h

theorem modRing_prod (d : Pdk) (r j : Nat) {f : Ring → Ring} (hf : ∀ x, (f x).prod = x.prod) :
    ((d.modRing r f).ring j).prod = (d.ring j).prod := getD_modAt_view Ring.prod d.rings r j f Ring.init hf

theorem modRing_length (d : Pdk) (r : Nat) (f : Ring → Ring) : (d.modRing r f).rings.length = d.rings.length := length_modAt _ _ _

/-! ### The error bits of a ring -/

/-- The registers of PDK beyond the error bits, and what the delivery of an event writes, stand after an error of a ring. -/
theorem ringError_eventKeeps (s : State) (p r cause : Nat) : ∃ b : State,
    EventKeeps b (s.ringError p r cause) ∧ (cause = 0 → b.flag (F.PDK_RING_ERR_INDEX_RANGE p) = true) ∧
      (cause = 1 → b.flag (F.PDK_RING_ERR_CFG p) = true) ∧
      ∀ f : Fld, f.reg % 0x10000 ≠ 0x28 → f.reg % 0x10000 ≠ 0x8 → b.get f = s.get f := by
  unfold State.ringError
  extract_lets s1 s2
  refine ⟨s2, ?_, ?_, ?_, ?_⟩
  · split
    · exact ((EventKeeps.refl s2).signal p 15).raisePdk p _ _ _
    · exact (EventKeeps.refl s2).signal p 15
  · rintro rfl
    exact flag_setB_true _ _ rfl
  · rintro rfl
    exact flag_setB_true _ _ rfl
  · intro f h28 h8
    have h1 : s1.get f = s.get f := by
      unfold s1
      rw [State.setB, get_set_ne _ _ (key_ne_reg h8), State.setBit, get_set_ne _ _ (key_ne_reg h28)]
    have h2 : s2.get f = s1.get f := by
      unfold s2
      split
      · exact get_set_ne _ _ (key_ne_reg h28)
      · split
        · exact get_set_ne _ _ (key_ne_reg h28)
        · rw [State.setB, get_set_ne _ _ (key_ne_reg h8)]
          exact get_set_ne _ _ (key_ne_reg h28)
    rw [h2, h1]

theorem ringError_indexRange (s : State) (p r : Nat) : (s.ringError p r 0).flag (F.PDK_RING_ERR_INDEX_RANGE p) = true := by
  obtain ⟨b, hk, h0, -, -⟩ := ringError_eventKeeps s p r 0
  rw [State.flag, hk.regs _ rfl rfl]
  exact h0 rfl

theorem ringError_cfg (s : State) (p r : Nat) : (s.ringError p r 1).flag (F.PDK_RING_ERR_CFG p) = true := by
  obtain ⟨b, hk, -, h1, -⟩ := ringError_eventKeeps s p r 1
  rw [State.flag, hk.regs _ rfl rfl]
  exact h1 rfl

theorem ringError_get (s : State) (p r cause : Nat) (f : Fld) (hw : f.win % 256 = 1) (he : isEventReg f = false)
    (h28 : f.reg % 0x10000 ≠ 0x28) (h8 : f.reg % 0x10000 ≠ 0x8) : (s.ringError p r cause).get f = s.get f := by
  obtain ⟨b, hk, -, -, hb⟩ := ringError_eventKeeps s p r cause
  rw [hk.regs f hw he, hb f h28 h8]

/-! ### Flushing held completions -/

/-- `t` comes from `s` by nothing that touches a ring beyond its unsignalled records, or a PDK register beyond producer indices, the
in-flight count and what the delivery of an event writes. -/
structure FlushKeeps (s t : State) : Prop where
  ring : ∀ q j, { (t.pd q).ring j with unsig := 0 } = { (s.pd q).ring j with unsig := 0 }
  regs : ∀ f : Fld, f.win % 256 = 1 → isEventReg f = false → f.reg % 0x10000 % 32 ≠ 0x14 → t.get f = s.get f

theorem FlushKeeps.refl (s : State) : FlushKeeps s s := ⟨fun _ _ => rfl, fun _ _ _ _ => rfl⟩

theorem FlushKeeps.trans (h : FlushKeeps s t) (h' : FlushKeeps t u) : FlushKeeps s u where
  ring q j := (h'.ring q j).trans (h.ring q j)
  regs f hw he hr := (h'.regs f hw he hr).trans (h.regs f hw he hr)

theorem FlushKeeps.ofEvent (hq : Quiet s t) (he : EventKeeps s t) : FlushKeeps s t := ⟨hq.ring, fun f hw hr _ => he.regs f hw hr⟩

theorem FlushKeeps.set (s : State) (f : Fld) (v : Nat) (hf : f.reg % 0x10000 % 32 = 0x14) : FlushKeeps s (s.set f v) :=
  ⟨fun _ _ => rfl, fun _ _ _ hg => get_set_ne s v (key_ne_reg fun he => hg (he ▸ hf))⟩

theorem FlushKeeps.modPd (s : State) (p : Nat) {f : Pdk → Pdk} (hf : ∀ d, (f d).rings = d.rings) : FlushKeeps s (s.modPd p f) :=
  ⟨fun q j => getD_modAt_view (fun d => { d.ring j with unsig := 0 }) s.pdk p q f Pdk.init fun d => by simp only [Pdk.ring, hf],
    fun _ _ _ _ => rfl⟩

theorem cqProd_mod (p j : Nat) : (F.PDK_CQj_PROD p j).reg % 0x10000 % 32 = 0x14 := by simp only [F.PDK_CQj_PROD]; omega

theorem FlushKeeps.cqWrite (s : State) (p : Nat) (c : Cpl) : FlushKeeps s (s.cqWrite p c) := by
  unfold State.cqWrite
  extract_lets prod size ph s1 s2 s3 s4 s5 s6
  have h1 : FlushKeeps s s1 := ⟨fun _ _ => rfl, fun _ _ _ _ => rfl⟩
  have h2 : FlushKeeps s s2 := h1.trans (FlushKeeps.set s1 _ _ (cqProd_mod p c.cq))
  have h3 : FlushKeeps s s3 := h2.trans ⟨fun _ _ => rfl, fun _ _ _ _ => rfl⟩
  have h4 : FlushKeeps s s4 := h3.trans (FlushKeeps.modPd s3 p fun _ => rfl)
  have h5 : FlushKeeps s s5 := h4.trans (FlushKeeps.set s4 _ _ rfl)
  have h6 : FlushKeeps s s6 := by
    unfold s6
    split
    · exact h5.trans (.ofEvent ((Quiet.refl s5).raisePdk _ _ _ _) ((EventKeeps.refl s5).raisePdk _ _ _ _))
    · exact h5
  exact h6.trans (.ofEvent ((Quiet.refl s6).coalesce _ _) ((EventKeeps.refl s6).coalesce _ _))

theorem FlushKeeps.flushHeld (p : Nat) (l : List Cpl) (s : State) : FlushKeeps s (flushHeld p l s).2 := by
  induction l generalizing s with
  | nil => exact .refl s
  | cons c l ih =>
    unfold Machine.flushHeld
    split
    · exact (FlushKeeps.cqWrite s p c).trans (ih _)
    · exact ih s

theorem FlushKeeps.flush (h : FlushKeeps s t) (p : Nat) : FlushKeeps s (t.flush p) :=
  (h.trans (FlushKeeps.flushHeld p _ t)).trans (FlushKeeps.modPd _ p fun _ => rfl)

theorem FlushKeeps.hostSeq (h : FlushKeeps s t) (q j : Nat) : ((t.pd q).ring j).hostSeq = ((s.pd q).ring j).hostSeq :=
  (congrArg Ring.hostSeq (h.ring q j) :)
theorem FlushKeeps.hostIdx (h : FlushKeeps s t) (q j : Nat) : ((t.pd q).ring j).hostIdx = ((s.pd q).ring j).hostIdx :=
  (congrArg Ring.hostIdx (h.ring q j) :)
theorem FlushKeeps.stopped (h : FlushKeeps s t) (q j : Nat) : ((t.pd q).ring j).stopped = ((s.pd q).ring j).stopped :=
  (congrArg Ring.stopped (h.ring q j) :)

/-! ### The checks of fetch -/

/-- Does the paddock hold the right that the opcode needs, if it needs one? -/
def rightHeld (s : State) (p : Nat) (r : OpRow) : Bool :=
  match r.right with
  | some b => s.hasRight p b
  | none => true

theorem rightHeld_iff {r : OpRow} : rightHeld s p r = true ↔ ∀ b, r.right = some b → s.hasRight p b = true := by
  unfold rightHeld
  cases r.right <;> simp

/-- The checks of fetch for a known opcode, in order. -/
theorem fetchStatus_of_row {d : Desc} {r : OpRow} (hop : opRow? d.opcode = some r) :
    s.fetchStatus p d =
      if !(decide (d.flags < 16) && decide (d.prio < 4) && d.bufOk && s.paramOk d) then some 0x03
      else if (s.pd p).table.any fun x => x.tag = d.tag then some 0x08
      else if !(rightHeld s p r) then some 0x02
      else if !(targetOk s.variant r.target d.target) || s.handleBad d then some 0x04
      else if s.domainOn r.domain = false then some 0x0D
      else none := by
  unfold State.fetchStatus
  rw [hop]
  rfl

/-! ### A doorbell record -/

theorem pollRecord_seen {d : Doorbell} (h : d.seq = ((s.pd p).ring d.ring).hostSeq) : s.pollRecord p d = s := by
  simp [State.pollRecord, h]

/-- The record of a doorbell is remembered. -/
abbrev heard (s : State) (p : Nat) (d : Doorbell) : State :=
  s.modPd p (·.modRing d.ring fun x => { x with hostSeq := d.seq, hostIdx := d.index })

theorem heard_indexBad (s : State) (p : Nat) (d : Doorbell) (r idx : Nat) : (heard s p d).indexBad p r idx = s.indexBad p r idx := by
  have hprod : (((heard s p d).pd p).ring r).prod = ((s.pd p).ring r).prod :=
    getD_modAt_view (fun x => (x.ring r).prod) s.pdk p p
      (·.modRing d.ring fun x => { x with hostSeq := d.seq, hostIdx := d.index }) Pdk.init fun x =>
        modRing_prod x d.ring r (f := fun x => { x with hostSeq := d.seq, hostIdx := d.index }) fun _ => rfl
  have hdev : (heard s p d).devIndex p r = s.devIndex p r := by
    simp only [State.devIndex, hprod]; rfl
  simp only [State.indexBad, hdev]; rfl

/-- The ring as its doorbell record leaves it. -/
theorem heard_ring {d : Doorbell} (hp : p < s.pdk.length) (hr : d.ring < (s.pd p).rings.length) :
    ((heard s p d).pd p).ring d.ring = { (s.pd p).ring d.ring with hostSeq := d.seq, hostIdx := d.index } := by
  rw [pd_modPd _ _ _ hp, ring_modRing_self _ _ hr]

/-- What follows a record in range: held completions of a CQ, EVENTS_LOST of the event ring (R73, R76). -/
def heardInRange (s : State) (p : Nat) (d : Doorbell) : State :=
  if d.ring < 8 then s else if d.ring < 12 then s.flush p else if d.ring = 12 then s.eqLost p else s

theorem heardInRange_flushKeeps (s : State) (p : Nat) (d : Doorbell) : FlushKeeps s (heardInRange s p d) := by
  unfold heardInRange
  split
  · exact .refl s
  · split
    · exact (FlushKeeps.refl s).flush p
    · split
      · exact .ofEvent ((Quiet.refl s).eqLost p) ((EventKeeps.refl s).eqLost p)
      · exact .refl s

/-- A ring stops on an index out of range. -/
def indexStop (s : State) (p r : Nat) : State := (s.modPd p (·.modRing r fun x => { x with stopped := true })).ringError p r 0

theorem pollRecord_new {d : Doorbell} (hen : s.ringEnabled p d.ring = true) (hst : ((s.pd p).ring d.ring).stopped = false)
    (hq : d.seq ≠ ((s.pd p).ring d.ring).hostSeq) :
    s.pollRecord p d =
      if s.indexBad p d.ring d.index = true then indexStop (heard s p d) p d.ring else heardInRange (heard s p d) p d := by
  have hguard : ¬ (s.ringEnabled p d.ring = false ∨ ((s.pd p).ring d.ring).stopped = true ∨ d.seq = ((s.pd p).ring d.ring).hostSeq) := by
    simp [hen, hst, hq]
  simp only [State.pollRecord, if_neg hguard]
  rw [heard_indexBad]
  rfl

/-! ### A poll -/

theorem poll_of_running (hp : p < 4) (hpd : s.pdk.length = 4) (hrun : s.inRun = true) (h4 : s.domainOn 4 = true) (which : Nat → Bool)
    (d : Doorbell) (hw : which d.ring = true) (slots : List SqSlot) :
    s.poll p which [d] slots =
      (((List.range 8).map fun k => (((s.pollRecord p d).pd p).rr + k) % 8).filter which).foldl (fun t i => t.passSq p slots i)
        (s.pollRecord p d) := by
  have hguard : ¬ ((s.inRun = false ∧ s.get F.PWR_STATE_STATE ≠ 2) ∨ s.domainOn 4 = false ∨ s.pdk.length ≤ p) := by
    simp [hrun, h4, hpd, hp]
  simp only [State.poll, if_neg hguard, List.filter_cons, hw, List.filter_nil, List.foldl_cons, List.foldl_nil, if_true]

/-- Nothing is fetched where host memory answers with nothing. -/
theorem passSq_nil (s : State) (p i : Nat) : s.passSq p [] i = s := by
  simp [State.passSq, fetchSq]

theorem poll_without_slots (hp : p < 4) (hpd : s.pdk.length = 4) (hrun : s.inRun = true) (h4 : s.domainOn 4 = true) (which : Nat → Bool)
    (d : Doorbell) (hw : which d.ring = true) : s.poll p which [d] [] = s.pollRecord p d := by
  rw [poll_of_running hp hpd hrun h4 which d hw]
  generalize (((List.range 8).map fun k => (((s.pollRecord p d).pd p).rr + k) % 8).filter which) = l
  induction l with
  | nil => rfl
  | cons i l ih => rw [List.foldl_cons, passSq_nil]; exact ih

end Sys2Proof.CommandLaws

namespace Sys2Proof

open Sys2Proof.Machine Sys2Proof.Laws Sys2Proof.CommandLaws

/-- Settles O7: without descriptors to fetch, both commands are the handling of the one record. -/
theorem doorbellTaken : Obligations.DoorbellTaken := by
  intro s p d mask hp hpd hrings hrun h4 hd hen hst c hc
  have hexec : exec c s = .next (s.pollRecord p d) := by
    rcases List.mem_append.mp hc with hpoll | hnudge
    · obtain rfl := List.mem_singleton.mp hpoll
      exact congrArg _ (poll_without_slots hp hpd hrun h4 _ d rfl)
    · split at hnudge
      · next hm =>
        obtain rfl := List.mem_singleton.mp hnudge
        exact congrArg _ (poll_without_slots hp hpd hrun h4 _ d (by simpa using hm))
      · cases hnudge
  rw [hexec]
  have hring := heard_ring (s := s) (p := p) (d := d) (hpd ▸ hp) (by rw [hrings]; exact hd)
  refine ⟨fun hq => by rw [pollRecord_seen hq], fun hq => ⟨_, rfl, ?_⟩⟩
  rw [pollRecord_new hen hst hq]
  cases hbad : s.indexBad p d.ring d.index with
  | true =>
    rw [if_pos rfl, indexStop]
    have hquiet := (Quiet.refl ((heard s p d).modPd p (·.modRing d.ring fun x => { x with stopped := true }))).ringError p d.ring 0
    have hstop : (((heard s p d).modPd p (·.modRing d.ring fun x => { x with stopped := true })).pd p).ring d.ring =
        { (s.pd p).ring d.ring with hostSeq := d.seq, hostIdx := d.index, stopped := true } := by
      rw [pd_modPd _ _ _ (by rw [length_modPd, hpd]; exact hp), ring_modRing_self _ _ ?_, hring]
      rw [pd_modPd _ _ _ (hpd ▸ hp), modRing_length, hrings]
      exact hd
    exact ⟨by rw [hquiet.hostSeq, hstop], by rw [hquiet.hostIdx, hstop],
      fun _ => ⟨by rw [hquiet.stopped, hstop], ringError_indexRange _ _ _⟩, nofun⟩
  | false =>
    rw [if_neg (by simp)]
    have hkeep := heardInRange_flushKeeps (heard s p d) p d
    exact ⟨by rw [hkeep.hostSeq, hring], by rw [hkeep.hostIdx, hring], nofun, fun _ => by rw [hkeep.stopped, hring, hst]⟩

/-- Settles O8: the checks of R65 in their order, each with the ones before it passed. -/
theorem fetchChecksInOrder : Obligations.FetchChecksInOrder := by
  intro s p d
  refine ⟨fun hop => by simp only [State.fetchStatus, hop], fun r hop => ?_⟩
  intro shape tagFree right target on
  have hshape : (!(decide (d.flags < 16) && decide (d.prio < 4) && d.bufOk && s.paramOk d)) = true ↔ ¬ shape := by
    simp only [shape, Bool.not_eq_true', ← Bool.not_eq_true, Bool.and_eq_true, decide_eq_true_eq, and_assoc]
  have htag : ((s.pd p).table.any fun x => x.tag = d.tag) = true ↔ ¬ tagFree := by simp [tagFree]
  have hright : (!(rightHeld s p r)) = true ↔ ¬ right := by
    rw [Bool.not_eq_true', ← Bool.not_eq_true, rightHeld_iff]
  have htarget : (!(targetOk s.variant r.target d.target) || s.handleBad d) = true ↔ ¬ target := by
    simp only [target]; cases targetOk s.variant r.target d.target <;> simp
  have hon : s.domainOn r.domain = false ↔ ¬ on := by simp [on]
  rw [fetchStatus_of_row hop]
  simp only [hshape, htag, hright, htarget, hon]
  refine ⟨fun h => if_pos h, fun h h' => ?_, fun h h' h'' => ?_, fun h h' h'' h3 => ?_, fun h h' h'' h3 h4 => ?_, fun h h' h'' h3 h4 => ?_⟩
  · rw [if_neg (Classical.not_not.2 h), if_pos h']
  · rw [if_neg (Classical.not_not.2 h), if_neg (Classical.not_not.2 h'), if_pos h'']
  · rw [if_neg (Classical.not_not.2 h), if_neg (Classical.not_not.2 h'), if_neg (Classical.not_not.2 h''), if_pos h3]
  · rw [if_neg (Classical.not_not.2 h), if_neg (Classical.not_not.2 h'), if_neg (Classical.not_not.2 h''), if_neg (Classical.not_not.2 h3), if_pos h4]
  · rw [if_neg (Classical.not_not.2 h), if_neg (Classical.not_not.2 h'), if_neg (Classical.not_not.2 h''), if_neg (Classical.not_not.2 h3), if_neg (Classical.not_not.2 h4)]

end Sys2Proof
end

section
/-!
PROOFS. A poll that fetches one descriptor (R60-R65): one queue has something to fetch, every other passes by.
-/
set_option Elab.async false -- the kernel evaluations wait for each other: keep them in one thread
namespace Sys2Proof.CommandLaws

open Sys2Proof.Machine Sys2Proof.Laws Sys2Proof.PaddockLaws

variable {s t u : State} {p i j : Nat}

/-- Nothing is left to fetch from SQ `j`. -/
abbrev Idle (s : State) (p j : Nat) : Prop := ((s.pd p).ring j).hostIdx = s.get (F.PDK_SQi_CONS p j)

theorem fetchSq_idle (h : Idle s p j) (slots : List SqSlot) (k : Nat) : fetchSq p j slots k s = s := by
  cases k with
  | zero => rfl
  | succ k => simp only [fetchSq, show ((s.pd p).ring j).hostIdx = s.get (F.PDK_SQi_CONS p j) from h, true_or, or_true, if_true]

theorem passSq_idle (h : Idle s p j) (slots : List SqSlot) : s.passSq p slots j = s := by
  simp only [State.passSq, fetchSq_idle h, if_true]

theorem foldl_passSq_idle {slots : List SqSlot} {l : List Nat} (h : ∀ j ∈ l, Idle s p j) :
    l.foldl (fun t i => t.passSq p slots i) s = s := by
  induction l with
  | nil => rfl
  | cons j l ih =>
    rw [List.foldl_cons, passSq_idle (h j (List.mem_cons_self ..))]
    exact ih fun k hk => h k (List.mem_cons_of_mem _ hk)

/-- A round over queues of which only SQ `i` has something to fetch, and nothing more once it was passed. -/
theorem foldl_passSq_one {slots : List SqSlot} {l : List Nat} (hi : i ∈ l) (h : ∀ j ∈ l, j ≠ i → Idle s p j)
    (h' : ∀ j ∈ l, Idle (s.passSq p slots i) p j) : l.foldl (fun t i => t.passSq p slots i) s = s.passSq p slots i := by
  induction l with
  | nil => cases hi
  | cons j l ih =>
    rw [List.foldl_cons]
    by_cases hj : j = i
    · subst hj
      exact foldl_passSq_idle fun k hk => h' k (List.mem_cons_of_mem _ hk)
    · rw [passSq_idle (h j (List.mem_cons_self ..) hj)]
      exact ih ((List.mem_cons.mp hi).resolve_left (Ne.symm hj)) (fun k hk => h k (List.mem_cons_of_mem _ hk))
        fun k hk => h' k (List.mem_cons_of_mem _ hk)

/-! ### Fetching one descriptor -/

/-- What the descriptor knows of the one before it in its queue, when that one has CHAIN (R68). -/
def chainDep (s : State) (p i : Nat) : Option Nat :=
  match (s.pd p).last.getD i none with
  | some y => if y.chain then some y.num else none
  | none => none

def chainOk (s : State) (p i : Nat) : Option Bool :=
  match (s.pd p).last.getD i none with
  | some y => if y.chain then y.ok else none
  | none => none

/-- The descriptor that SQ `i` fetches next. -/
def nextDesc (s : State) (p i : Nat) (bytes : List Nat) : Desc := descOf i (s.pd p).nextNum bytes (chainDep s p i) (chainOk s p i)

/-- A descriptor joins the in-flight table. -/
def joinTable (i : Nat) (d : Desc) (x : Pdk) : Pdk :=
  { x with table := x.table ++ [d], last := modAt x.last i fun _ => some ⟨d.num, d.chain, none⟩ }

/-- The state with the descriptor counted. -/
def joined (s : State) (p i : Nat) (bytes : List Nat) : State :=
  (s.inc (F.PDK_SQi_CONS p i)).countFetch.modPd p (joinTable i (nextDesc s p i bytes))

/-- A descriptor that passes the checks of fetch joins the table, and nothing more. -/
theorem fetchOne_of_passes {bytes : List Nat} (h : s.fetchStatus p (nextDesc s p i bytes) = none) : ∃ n m,
    s.fetchOne p i bytes = ((joined s p i bytes).set (F.PDK_INFLIGHT_COUNT p) n).set (F.PDK_INFLIGHT_HIGH p) m := by
  unfold State.fetchOne
  extract_lets l dep depOk d st s1 s2 n s3
  have hst : st = none := h
  rw [hst]
  exact ⟨_, _, rfl⟩

theorem pd_countFetch (s : State) (q : Nat) (hq : q < s.pdk.length) : s.countFetch.pd q = { s.pd q with nextNum := (s.pd q).nextNum + 1 } := by
  simp [State.pd, State.countFetch, List.getD_eq_getElem?_getD, hq]

theorem pd_joined (hp : p < s.pdk.length) (bytes : List Nat) :
    (joined s p i bytes).pd p =
      joinTable i (nextDesc s p i bytes) { s.pd p with nextNum := (s.pd p).nextNum + 1 } := by
  have hl : p < (s.inc (F.PDK_SQi_CONS p i)).countFetch.pdk.length := by
    simpa [State.countFetch, State.inc, State.set] using hp
  rw [joined, pd_modPd _ _ _ hl, pd_countFetch _ _ (by simpa [State.inc, State.set] using hp)]
  rfl

theorem get_joined_self (bytes : List Nat) :
    (joined s p i bytes).get (F.PDK_SQi_CONS p i) = (s.get (F.PDK_SQi_CONS p i) + 1) % 2 ^ 32 :=
  get_set_self s (F.PDK_SQi_CONS p i) _

theorem cons_key_ne (hi : i < 8) (hj : j < 8) (h : j ≠ i) : (F.PDK_SQi_CONS p j).key ≠ (F.PDK_SQi_CONS p i).key := by
  simp only [Fld.key, Fld.off, F.PDK_SQi_CONS]; omega

theorem get_joined_ne (hi : i < 8) (hj : j < 8) (h : j ≠ i) (bytes : List Nat) :
    (joined s p i bytes).get (F.PDK_SQi_CONS p j) = s.get (F.PDK_SQi_CONS p j) :=
  get_set_ne s _ (cons_key_ne hi hj h)

theorem cons_ne_inflight (hi : i < 8) : (F.PDK_SQi_CONS p i).reg % 0x10000 ≠ 0x14 := by
  simp only [F.PDK_SQi_CONS]; omega

/-- What fetching one descriptor that passes the checks leaves of its paddock. -/
theorem fetchOne_view (hp : p < s.pdk.length) (hi : i < 8) {bytes : List Nat} (h : s.fetchStatus p (nextDesc s p i bytes) = none) :
    ((s.fetchOne p i bytes).pd p).table = (s.pd p).table ++ [nextDesc s p i bytes] ∧
      ((s.fetchOne p i bytes).pd p).rings = (s.pd p).rings ∧
      (s.fetchOne p i bytes).get (F.PDK_SQi_CONS p i) = (s.get (F.PDK_SQi_CONS p i) + 1) % 2 ^ 32 ∧
      ∀ j < 8, j ≠ i → (s.fetchOne p i bytes).get (F.PDK_SQi_CONS p j) = s.get (F.PDK_SQi_CONS p j) := by
  obtain ⟨n, m, he⟩ := fetchOne_of_passes h
  have hpd : (s.fetchOne p i bytes).pd p = (joined s p i bytes).pd p := by rw [he]; rfl
  have hget : ∀ j < 8, (s.fetchOne p i bytes).get (F.PDK_SQi_CONS p j) = (joined s p i bytes).get (F.PDK_SQi_CONS p j) := by
    intro j hj
    have hne := key_ne_reg (f := F.PDK_INFLIGHT_COUNT p) (cons_ne_inflight (p := p) hj)
    have hne' := key_ne_reg (f := F.PDK_INFLIGHT_HIGH p) (cons_ne_inflight (p := p) hj)
    rw [he, get_set_ne _ _ hne', get_set_ne _ _ hne]
  refine ⟨by rw [hpd, pd_joined hp]; rfl, by rw [hpd, pd_joined hp]; rfl, ?_, fun j hj hji => ?_⟩
  · rw [hget i hi, get_joined_self]
  · rw [hget j hj, get_joined_ne hi hj hji]

/-- The queue that a poll pass leaves next in turn is in no view of the table, the rings or a register. -/
theorem passSq_after {o : Out} {n : Nat} (h : t = (u.modPd p fun d => { d with rr := n }).emit o) :
    (t.pd p).table = (u.pd p).table ∧ (t.pd p).rings = (u.pd p).rings ∧ ∀ f, t.get f = u.get f := by
  subst h
  exact ⟨getD_modAt_view Pdk.table u.pdk p p (fun d => { d with rr := n }) Pdk.init fun _ => rfl,
    getD_modAt_view Pdk.rings u.pdk p p (fun d => { d with rr := n }) Pdk.init fun _ => rfl, fun _ => rfl⟩

/-- A queue that owes one descriptor, with host memory answering: the pass fetches it and goes on. -/
theorem passSq_of_one (hen : s.ringEnabled p i = true) (hst : ((s.pd p).ring i).stopped = false) (ht : (s.pd p).table = [])
    (hr : s.pwr.reset = false) {bytes : List Nat} {slot : Nat} (hslot : slot = s.get (F.PDK_SQi_CONS p i) % s.ringSize p i)
    (hne : ¬ Idle s p i) (hdone : Idle (s.fetchOne p i bytes) p i)
    (hmove : (s.fetchOne p i bytes).get (F.PDK_SQi_CONS p i) ≠ s.get (F.PDK_SQi_CONS p i)) :
    ∃ o, s.passSq p [⟨i, slot, bytes⟩] i = ((s.fetchOne p i bytes).modPd p fun d => { d with rr := (i + 1) % 8 }).emit o := by
  have hguard : ¬ (s.ringEnabled p i = false ∨ ((s.pd p).ring i).stopped = true ∨ Idle s p i ∨ 64 ≤ (s.pd p).table.length ∨
      s.pwr.reset = true) := by
    simp [hen, hst, hne, ht, hr]
  have hfetch : fetchSq p i [⟨i, slot, bytes⟩] 8 s = s.fetchOne p i bytes := by
    rw [fetchSq, if_neg hguard]
    simp only [hslot, and_self, decide_true, List.find?_cons_of_pos]
    exact fetchSq_idle hdone _ _
  unfold State.passSq
  rw [hfetch]
  simp only [if_neg hmove]
  exact ⟨_, rfl⟩

/-- The queues in the order of a pass are the eight of the paddock, from any of them on. -/
theorem mem_roundRobin {rr i : Nat} : i ∈ (((List.range 8).map fun k => (rr + k) % 8).filter fun _ => true) ↔ i < 8 := by
  rw [List.filter_eq_self.mpr fun _ _ => rfl]
  constructor
  · intro hi
    obtain ⟨k, -, rfl⟩ := List.mem_map.mp hi
    exact Nat.mod_lt _ (by decide)
  · intro hi
    exact List.mem_map.mpr ⟨(8 * (rr + 1) + i - rr) % 8, List.mem_range.mpr (Nat.mod_lt _ (by decide)), by omega⟩

end Sys2Proof.CommandLaws

namespace Sys2Proof

open Sys2Proof.Machine Sys2Proof.Laws Sys2Proof.CommandLaws

/-- Settles O9: after the doorbell record only SQ `i` owes a descriptor, and the pass fetches it. -/
theorem fetchOneDescriptor : Obligations.FetchOneDescriptor := by
  intro s p i seq bytes hp hpd hrings hrun h4 hreset hi hen hst htable hseq hsize hlt cons next slot hidle hpass
  have hpl : p < s.pdk.length := hpd ▸ hp
  let d : Doorbell := ⟨i, next, seq⟩
  let h := heard s p d
  have hhpd : h.pd p = (s.pd p).modRing i fun x => { x with hostSeq := seq, hostIdx := next } := pd_modPd _ _ _ hpl
  have hring : (h.pd p).ring i = { (s.pd p).ring i with hostSeq := seq, hostIdx := next } :=
    heard_ring (d := d) hpl (by rw [hrings]; exact Nat.lt_trans hi (by decide))
  have hnext : next ≠ cons := by simp only [next, cons]; omega
  have hgood : s.indexBad p i next = false := by
    have hpow : 2 ^ 4 ≤ s.ringSize p i := by
      simp only [State.ringSize, if_pos hi]
      exact Nat.pow_le_pow_right (by decide) hsize
    simp only [State.indexBad, if_pos hi, State.devIndex, decide_eq_false_iff_not, next, cons]
    omega
  have hpoll : s.pollRecord p d = h := by
    rw [pollRecord_new hen hst hseq, if_neg (by rw [hgood]; decide), heardInRange, if_pos hi]
  have hstatus : h.fetchStatus p (nextDesc h p i bytes) = none := by
    have hsame : h.fetchStatus p (nextDesc h p i bytes) = s.fetchStatus p (nextDesc h p i bytes) := by
      have htab : (h.pd p).table = (s.pd p).table := by rw [hhpd]; rfl
      unfold State.fetchStatus
      rw [htab]; rfl
    have hnum : (h.pd p).nextNum = (s.pd p).nextNum := by rw [hhpd]; rfl
    rw [hsame, nextDesc, hnum]
    exact hpass _ _
  obtain ⟨hftab, hfrings, hfcons, hfother⟩ := fetchOne_view (s := h) (bytes := bytes) (by rw [length_modPd]; exact hpl) hi hstatus
  have hfidx : ∀ j, (((h.fetchOne p i bytes).pd p).ring j) = (h.pd p).ring j := fun j => by simp only [Pdk.ring, hfrings]
  have hdone : Idle (h.fetchOne p i bytes) p i := by
    rw [Idle, hfidx, hring, hfcons]
    rfl
  obtain ⟨o, hone⟩ := passSq_of_one (s := h) (bytes := bytes) (slot := slot) hen (by rw [hring]; exact hst) (by rw [hhpd]; exact htable)
    hreset (by simp only [slot, State.ringSize, if_pos hi]; rfl) (by rw [Idle, hring]; exact hnext) hdone (by rw [hfcons]; exact hnext)
  obtain ⟨htab, hrings', hget⟩ := passSq_after hone
  have hidle : ∀ j < 8, j ≠ i → Idle h p j := fun j hj hji => by
    rw [Idle, hhpd, ring_modRing_ne _ _ hji]
    exact hidle j hj hji
  have hafter : ∀ j < 8, Idle (h.passSq p [⟨i, slot, bytes⟩] i) p j := fun j hj => by
    have hsame : ((h.passSq p [⟨i, slot, bytes⟩] i).pd p).ring j = ((h.fetchOne p i bytes).pd p).ring j := by simp only [Pdk.ring, hrings']
    show Ring.hostIdx _ = State.get _ _
    rw [hsame, hget]
    by_cases hji : j = i
    · exact hji ▸ hdone
    · rw [hfidx, hfother j hj hji]; exact hidle j hj hji
  have hexec : exec (.doorbellPoll p [⟨i, next, seq⟩] [⟨i, slot, bytes⟩]) s = .next (h.passSq p [⟨i, slot, bytes⟩] i) := by
    show Host.Outcome.next _ = _
    rw [poll_of_running hp hpd hrun h4 _ d rfl, hpoll]
    exact congrArg _ (foldl_passSq_one (mem_roundRobin.mpr hi) (fun j hj => hidle j (mem_roundRobin.mp hj)) fun j hj =>
      hafter j (mem_roundRobin.mp hj))
  have htable' : (h.pd p).table = [] := by rw [hhpd]; exact htable
  have hnum : (h.pd p).nextNum = (s.pd p).nextNum := by rw [hhpd]; rfl
  refine ⟨_, hexec, (hget _).trans hfcons, chainDep h p i, chainOk h p i, ?_⟩
  rw [htab, hftab, htable', nextDesc, hnum]
  rfl

end Sys2Proof
end

section
/-!
PROOFS. Starting descriptors (R66-R68, R88), writes to a ring's configuration (R53, R58, R59) and FLR (R82, R550).
-/
set_option Elab.async false -- the kernel evaluations wait for each other: keep them in one thread
namespace Sys2Proof.CommandLaws

open Sys2Proof.Machine Sys2Proof.Laws Sys2Proof.PaddockLaws

variable {s t u : State} {p r : Nat}

/-! ### The configuration of a ring -/

/-- The configuration registers of rings 0 to 12, 0x10 from the ring's base, keep their values. -/
def CfgKeeps (s t : State) : Prop := ∀ f : Fld, f.win % 256 = 1 → f.reg % 0x10000 % 32 = 0x10 → t.get f = s.get f

theorem CfgKeeps.trans (h : CfgKeeps s t) (h' : CfgKeeps t u) : CfgKeeps s u := fun f hw hf => (h' f hw hf).trans (h f hw hf)

/-- No register that the delivery of an event writes is a ring's configuration. -/
theorem not_eventReg_of_cfg {f : Fld} (h : f.reg % 0x10000 % 32 = 0x10) : isEventReg f = false := by
  simp only [isEventReg, Bool.or_eq_false_iff, beq_eq_false_iff_ne]
  omega

theorem CfgKeeps.ofEvent (h : EventKeeps s t) : CfgKeeps s t := fun f hw hf => h.regs f hw (not_eventReg_of_cfg hf)

theorem CfgKeeps.ofFlush (h : FlushKeeps s t) : CfgKeeps s t := fun f hw hf => h.regs f hw (not_eventReg_of_cfg hf) (by omega)

theorem CfgKeeps.set (h : CfgKeeps s t) (g : Fld) (v : Nat) (hg : g.reg % 0x10000 % 32 ≠ 0x10) : CfgKeeps s (t.set g v) :=
  h.trans fun _ _ hf => get_set_ne t v (key_ne_reg fun he => hg (he ▸ hf))

theorem CfgKeeps.ringError (s : State) (p r cause : Nat) : CfgKeeps s (s.ringError p r cause) := fun f hw hf =>
  ringError_get s p r cause f hw (not_eventReg_of_cfg hf) (by omega) (by omega)

theorem sqCfg_mod (i : Nat) : (0x110 + 0x20 * i) % 0x10000 % 32 = 0x10 := by omega
theorem eqCfg_mod : 0x290 % 0x10000 % 32 = 0x10 := by decide
theorem cqCfg_mod (j : Nat) : (0x210 + 0x20 * j) % 0x10000 % 32 = 0x10 := by omega

theorem CfgKeeps.ringEnabled (h : CfgKeeps s t) (hr : r < 13) : t.ringEnabled p r = s.ringEnabled p r := by
  have hne13 : r ≠ 13 := by omega
  have hne14 : r ≠ 14 := by omega
  simp only [State.ringEnabled, State.flag, h (F.PDK_SQi_CFG_ENABLE p r) rfl (sqCfg_mod r),
    h (F.PDK_CQj_CFG_ENABLE p (r - 8)) rfl (cqCfg_mod _), h (F.PDK_EQ_CFG_ENABLE p) rfl eqCfg_mod, if_neg hne13, if_neg hne14]

theorem CfgKeeps.ringSize (h : CfgKeeps s t) (hr : r < 13) : t.ringSize p r = s.ringSize p r := by
  have hne13 : ¬ r = 13 := by omega
  rcases Nat.lt_or_ge r 12 with hlt | hge
  · simp only [State.ringSize, h (F.PDK_SQi_CFG_SIZE_LOG2 p r) rfl (sqCfg_mod r),
      h (F.PDK_CQj_CFG_SIZE_LOG2 p (r - 8)) rfl (cqCfg_mod _), if_pos hlt]
  · obtain rfl : r = 12 := by omega
    simp [State.ringSize, h (F.PDK_EQ_CFG_SIZE_LOG2 p) rfl eqCfg_mod]

/-- Restarting a ring keeps every ring's configuration. -/
theorem ringRestart_cfgKeeps (s : State) (p r : Nat) : CfgKeeps s (s.ringRestart p r) := by
  have hmod : ∀ (u : State) (f : Pdk → Pdk), CfgKeeps u (u.modPd p f) := fun u f _ _ _ => rfl
  unfold State.ringRestart
  dsimp only
  split
  · exact ((hmod s _).set (F.PDK_SQi_CONS p r) 0 (by simp only [F.PDK_SQi_CONS]; omega)).trans (hmod _ _)
  · split
    · exact (hmod s _).set (F.PDK_CQj_PROD p (r - 8)) 0 (by simp only [F.PDK_CQj_PROD]; omega)
    · exact (((hmod s _).set (F.PDK_EQ_PROD p) 0 (by decide : 0x294 % 0x10000 % 32 ≠ 0x10)).set (F.PDK_EVT_LOST p) 0 (by decide : 0x20 % 0x10000 % 32 ≠ 0x10)).trans (hmod _ _)

theorem ringStarted_cfgKeeps (s : State) (p r : Nat) : CfgKeeps s (s.ringStarted p r) := by
  unfold State.ringStarted State.heldRun
  split
  · exact fun _ _ _ => rfl
  · split
    · exact .ofFlush ((FlushKeeps.refl s).flush p)
    · split
      · exact .ofEvent (((EventKeeps.refl s).modPd p (f := fun d => { d with runHeld := none }) fun _ _ => rfl).deliver p _)
      · exact fun _ _ _ => rfl

/-- The fields that a write of `val` to the configuration of ring `r` sets; the size only while the ring is disabled. -/
def cfgSet (s : State) (p r val : Nat) (was : Bool) : State :=
  if r < 8 then
    let s := (s.set (F.PDK_SQi_CFG_CQ p r) (bitsOf val 17 16)).setB (F.PDK_SQi_CFG_ENABLE p r) (bitOf val 31)
    if was then s else s.set (F.PDK_SQi_CFG_SIZE_LOG2 p r) (bitsOf val 15 12)
  else if r < 12 then
    let s := (s.set (F.PDK_CQj_CFG_VECTOR p (r - 8)) (bitsOf val 27 24)).set (F.PDK_CQj_CFG_COALESCE_US p (r - 8)) (bitsOf val 23 16)
    let s := (s.set (F.PDK_CQj_CFG_COALESCE_CNT p (r - 8)) (val % 256)).setB (F.PDK_CQj_CFG_ENABLE p (r - 8)) (bitOf val 31)
    if was then s else s.set (F.PDK_CQj_CFG_SIZE_LOG2 p (r - 8)) (bitsOf val 15 12)
  else
    let s := (s.set (F.PDK_EQ_CFG_VECTOR p) (bitsOf val 27 24)).set (F.PDK_EQ_CFG_COALESCE_US p) (bitsOf val 23 16)
    let s := (s.set (F.PDK_EQ_CFG_COALESCE_CNT p) (val % 256)).setB (F.PDK_EQ_CFG_ENABLE p) (bitOf val 31)
    if was then s else s.set (F.PDK_EQ_CFG_SIZE_LOG2 p) (bitsOf val 15 12)

/-- A write to a ring's configuration (R53, R58, R609). -/
theorem cfgWrite_eq (s : State) (p r val : Nat) :
    s.cfgWrite p r val =
      if 8 ≤ r ∧ bitsOf val 27 24 = 15 then s.ringError p r 1
      else if (!s.ringEnabled p r && (decide (bitsOf val 15 12 < 4) || decide (12 < bitsOf val 15 12))) = true then
        if bitOf val 31 then s.ringError p r 1 else s
      else if (bitOf val 31 && !s.ringEnabled p r) = true then
        ((cfgSet s p r val (s.ringEnabled p r)).ringRestart p r).ringStarted p r
      else cfgSet s p r val (s.ringEnabled p r) := rfl

theorem flag_setB (s : State) (f : Fld) (b : Bool) (hw : f.w = 1) : (s.setB f b).flag f = b := by
  cases b <;> simp [State.flag, State.setB, b2n, hw]

theorem cfgSet_pdk (s : State) (p r val : Nat) (was : Bool) : (cfgSet s p r val was).pdk = s.pdk := by
  unfold cfgSet
  split
  · cases was <;> rfl
  · split
    · cases was <;> rfl
    · cases was <;> rfl

theorem cfgSet_enabled (hr : r < 13) (val : Nat) (was : Bool) : (cfgSet s p r val was).ringEnabled p r = bitOf val 31 := by
  unfold cfgSet State.ringEnabled
  split
  · cases was
    · exact (congrArg (· != 0) (get_set_of_lo_ne _ _ (by rfl))).trans (flag_setB _ _ _ rfl)
    · exact flag_setB _ _ _ rfl
  · split
    · cases was
      · exact (congrArg (· != 0) (get_set_of_lo_ne _ _ (by rfl))).trans (flag_setB _ _ _ rfl)
      · exact flag_setB _ _ _ rfl
    · rw [if_pos (by omega : r = 12)]
      cases was
      · exact (congrArg (· != 0) (get_set_of_lo_ne _ _ (by rfl))).trans (flag_setB _ _ _ rfl)
      · exact flag_setB _ _ _ rfl

theorem cfgSet_size (hr : r < 13) (val : Nat) : (cfgSet s p r val false).ringSize p r = 2 ^ bitsOf val 15 12 := by
  have hk : bitsOf val 15 12 % 2 ^ 4 = bitsOf val 15 12 := Nat.mod_eq_of_lt (Nat.mod_lt _ (by decide))
  unfold cfgSet State.ringSize
  refine congrArg (2 ^ ·) ?_
  split
  · exact (get_set_self _ _ _).trans hk
  · split
    · exact (get_set_self _ _ _).trans hk
    · rw [if_pos (by omega : r = 12)]
      exact (get_set_self _ _ _).trans hk

/-! ### The value of a write, with ENABLE forced -/

theorem setBitOf_31_mod (v : Nat) (b : Bool) : setBitOf v 31 b % 2 ^ 31 = v % 2 ^ 31 := by
  unfold setBitOf bitOf
  cases b
  · split
    · next h =>
      simp only [beq_iff_eq] at h
      simp only [Bool.false_eq_true, if_false]
      omega
    · rfl
  · split
    · rfl
    · simp

theorem bitOf_setBitOf_31 (v : Nat) (b : Bool) : bitOf (setBitOf v 31 b) 31 = b := by
  cases b
  · unfold setBitOf
    split
    · next h =>
      simp only [bitOf, beq_iff_eq, Bool.false_eq_true, if_false, beq_eq_false_iff_ne] at h ⊢
      omega
    · next h => simpa using h
  · exact bitOf_setBitOf_self v 31

theorem cfgValue_size (val : Nat) (b : Bool) : bitsOf (setBitOf (val % 2 ^ 32) 31 b) 15 12 = bitsOf val 15 12 := by
  have := setBitOf_31_mod (val % 2 ^ 32) b
  simp only [bitsOf]
  omega

theorem cfgValue_vector (val : Nat) (b : Bool) : bitsOf (setBitOf (val % 2 ^ 32) 31 b) 27 24 = bitsOf val 27 24 := by
  have := setBitOf_31_mod (val % 2 ^ 32) b
  simp only [bitsOf]
  omega

theorem exec_ringEnableWrite (val : Nat) (h4 : s.domainOn 4 = true) (hr : r < 13) :
    exec (.ringEnableWrite p r val) s = .next (s.cfgWrite p r (setBitOf (val % 2 ^ 32) 31 true)) := by
  show Host.Outcome.next _ = _
  rw [if_neg (by simp [h4]; omega)]

theorem exec_ringDisableWrite (val : Nat) (h4 : s.domainOn 4 = true) (hr : r < 13) :
    exec (.ringDisableWrite p r val) s = .next (s.cfgWrite p r (setBitOf (val % 2 ^ 32) 31 false)) := by
  show Host.Outcome.next _ = _
  rw [if_neg (by simp [h4]; omega)]

/-! ### FLR -/

theorem EventKeeps.raise (h : EventKeeps s t) (code sev src : Nat) (pay : List Nat) : EventKeeps s (t.raise code sev src pay) := by
  unfold State.raise
  refine EventKeeps.logEvent (EventKeeps.foldl (fun u q hu => ?_) h) _ _
  split
  · exact hu.deliver q _
  · exact hu

theorem closeWindow_keeps (s : State) (how : Nat) : Quiet s (s.closeWindow how) ∧ EventKeeps s (s.closeWindow how) := by
  unfold State.closeWindow
  extract_lets p s1
  split
  · have hw : Within 0x200000000002 s s1.newNonce :=
      (newNonce_within s1).step (.setB 13 (.set 13 (.setB 13 (.refl _ s) rfl rfl) rfl rfl) rfl rfl) rfl
    exact ⟨(((Quiet.refl s).within hw rfl).raise _ _ _ _).within (closeEntry_within _ p) rfl,
      (EventKeeps.raise ((EventKeeps.refl s).within hw rfl rfl) _ _ _ _).within (closeEntry_within _ p) rfl rfl⟩
  · exact ⟨.refl s, .refl s⟩

theorem regFind_filter (d : Nat) (q : Nat → Bool) (l : List (Nat × Nat)) (k : Nat) :
    regFind d (l.filter fun e => q e.1) k = if q k then regFind d l k else d := by
  induction l with
  | nil => simp [regFind]
  | cons e l ih =>
    obtain ⟨a, v⟩ := e
    rw [List.filter_cons]
    by_cases ha : a = k
    · subst ha
      cases hq : q a <;> simp [regFind, ih, hq]
    · cases hq : q a <;> simp [regFind, ih, ha]

/-- Clearing registers returns the picked fields to their reset values and leaves the others. -/
theorem get_clearRegs (s : State) (which : Nat → Retention → Bool) (f : Fld) :
    (s.clearRegs which).get f = if which f.key (retOf f.key) then resetOf f.key else s.get f := by
  have h := regFind_filter (resetOf f.key) (fun k => !(which k (retOf k))) s.regs f.key
  rw [State.get, State.clearRegs]
  refine h.trans ?_
  cases which f.key (retOf f.key) <;> simp [State.get]

theorem ofPaddock_key (p : Nat) (f : Fld) (hp : f.page = p) (hw : f.win % 256 = 1) : ofPaddock p f.key = true := by
  simp only [ofPaddock, Fld.key, Fld.off, hp, hw, decide_eq_true_eq]
  omega

/-- The registers of PDK after an FLR of their own paddock. -/
theorem flr_get {f : Fld} (hp : f.page = p) (hw : f.win % 256 = 1) (he : isEventReg f = false) :
    (s.flr p).get f =
      if retOf f.key = .p then resetOf f.key else if retOf f.key = .dp then resetOf f.key else s.get f := by
  have hclear : ∀ u : State, ((u.clearDp p).clearRegs fun key ret => decide (ret = .p) && ofPaddock p key).get f =
      if retOf f.key = .p then resetOf f.key else if retOf f.key = .dp then resetOf f.key else u.get f := by
    intro u
    rw [get_clearRegs, State.clearDp, get_clearRegs]
    simp only [ofPaddock_key p f hp hw, Bool.true_or, Bool.and_true, decide_eq_true_eq]
  unfold State.flr
  extract_lets d0 s1 s2 s3
  have h3 : s3.get f = _ := hclear s1
  split
  · rw [(closeWindow_keeps s3 1).2.regs f hw he, h3]; rfl
  · exact h3

/-- What an FLR leaves of its paddock beyond what events count. -/
theorem flr_pd (hp : p < s.pdk.length) : ((s.flr p).pd p).table = [] ∧ ((s.flr p).pd p).held = [] := by
  unfold State.flr
  extract_lets d0 s1 s2 s3
  have h3 : (s3.pd p).table = [] ∧ (s3.pd p).held = [] := by
    have hpd : s3.pd p = s1.pd p := rfl
    rw [hpd, show s1.pd p = _ from pd_modPd _ _ _ hp]
    exact ⟨rfl, rfl⟩
  split
  · rw [(closeWindow_keeps s3 1).1.table, (closeWindow_keeps s3 1).1.held]; exact h3
  · exact h3

/-- The enables of the rings are D, P settings that reset to zero; the vector masks are class P and reset to zero; rights are neither. -/
theorem pdk_retention : ∀ p < 4,
    (∀ i < 8, retOf (F.PDK_SQi_CFG_ENABLE p i).key = .dp ∧ resetOf (F.PDK_SQi_CFG_ENABLE p i).key = 0) ∧
    (∀ j < 4, retOf (F.PDK_CQj_CFG_ENABLE p j).key = .dp ∧ resetOf (F.PDK_CQj_CFG_ENABLE p j).key = 0) ∧
    (retOf (F.PDK_EQ_CFG_ENABLE p).key = .dp ∧ resetOf (F.PDK_EQ_CFG_ENABLE p).key = 0) ∧
    (∀ v < 16, retOf (F.PDK_MSIX_CTRL p v).key = .p ∧ resetOf (F.PDK_MSIX_CTRL p v).key = 0) ∧
    ∀ f ∈ [F.PDK_RIGHTS_OPERATE p, F.PDK_RIGHTS_BILL p, F.PDK_RIGHTS_SERVICE p, F.PDK_RIGHTS_OBSERVE p, F.PDK_RIGHTS_SAFETY_ADMIN p],
      retOf f.key ≠ .p ∧ retOf f.key ≠ .dp := by decide +kernel

end Sys2Proof.CommandLaws

namespace Sys2Proof

open Sys2Proof.Machine Sys2Proof.Laws Sys2Proof.PaddockLaws Sys2Proof.CommandLaws

/-- Settles O10: the branches of DESCRIPTOR_START in their order, and NOP at the front of its queue. -/
theorem descriptorStart : Obligations.DescriptorStart := by
  refine ⟨fun s p tag d hfind => ?_, fun s p tag x hready => ?_⟩
  · have hmem := List.mem_of_find?_eq_some hfind
    have hd : d.tag = tag ∧ d.phase = .fetched := by simpa using List.find?_some hfind
    have hexec : exec (.descriptorStart p tag) s = execDescriptorStart p tag s := rfl
    have hended : ∀ st, s.Ended (s.completeD p d st 0 false) p tag st 0 := fun st =>
      hd.1 ▸ completeD_ended s p d st 0 false (pd_lt hmem)
    simp only [hexec, execDescriptorStart, hfind]
    refine ⟨fun hheld => by simp [hheld], fun hheld hfence hdep hepoch => ?_, fun hheld hfence hdep hok => ?_,
      fun hheld hfence hdep h0 hepoch => ?_⟩
    · have hgo : ¬ (s.startsHeld = true ∨ s.fenceDone p d = false ∨ (d.dep.isSome = true ∧ d.depOk.isNone = true)) := by
        rcases hdep with h | h <;> simp [hheld, hfence, h]
      have hchain : ¬ (d.dep.isSome = true ∧ d.depOk = some false) := by rcases hdep with h | h <;> simp [h]
      have hep : ¬ (d.epoch ≠ 0 ∧ d.epoch ≠ s.get F.TCK_EPOCH) := by rcases hepoch with h | h <;> simp [h]
      rw [if_neg hgo, if_neg hchain, if_neg hep]
      refine ⟨_, rfl, rfl, { d with phase := .queued, started := true, aux := s.startNum, at_ := s.chrono }, ?_, hd.1, rfl, rfl, rfl⟩
      show _ ∈ ((s.modPd p _).pd p).table
      rw [pd_modPd _ _ _ (pd_lt hmem)]
      exact List.mem_map.mpr ⟨d, hmem, if_pos rfl⟩
    · have hgo : ¬ (s.startsHeld = true ∨ s.fenceDone p d = false ∨ (d.dep.isSome = true ∧ d.depOk.isNone = true)) := by
        simp [hheld, hfence, hok]
      rw [if_neg hgo, if_pos ⟨Option.isSome_iff_ne_none.mpr hdep, hok⟩]
      exact ⟨_, rfl, hended 0x07⟩
    · have hgo : ¬ (s.startsHeld = true ∨ s.fenceDone p d = false ∨ (d.dep.isSome = true ∧ d.depOk.isNone = true)) := by
        rcases hdep with h | h <;> simp [hheld, hfence, h]
      have hchain : ¬ (d.dep.isSome = true ∧ d.depOk = some false) := by rcases hdep with h | h <;> simp [h]
      rw [if_neg hgo, if_neg hchain, if_pos ⟨h0, hepoch⟩]
      exact ⟨_, rfl, hended 0x0E⟩
  · refine ⟨_, rfl, ?_⟩
    rw [ready_take hready _ (by decide)]
    exact ready_answered hready (ready_inFlight hready) (List.prefix_refl _) 0 0

/-- Settles O11: the two outcomes of a configuration write with ENABLE set on a disabled ring. -/
theorem ringEnable : Obligations.RingEnable := by
  intro s p ring val hp h4 hr hoff hvec
  rw [exec_ringEnableWrite val h4 hr, cfgWrite_eq, cfgValue_vector, cfgValue_size, bitOf_setBitOf_31, hoff,
    if_neg fun h => hvec h.1 h.2]
  refine ⟨fun ⟨hlo, hhi⟩ => ?_, fun hbad => ?_⟩
  · rw [if_neg (by simp; omega), if_pos (show (true && !false) = true from rfl)]
    have hkeep := (ringRestart_cfgKeeps (cfgSet s p ring (setBitOf (val % 2 ^ 32) 31 true) false) p ring).trans (ringStarted_cfgKeeps _ p ring)
    refine ⟨_, rfl, ?_, ?_⟩
    · rw [hkeep.ringEnabled hr, cfgSet_enabled hr, bitOf_setBitOf_31]
    · rw [hkeep.ringSize hr, cfgSet_size hr, cfgValue_size]
  · rw [if_pos (by simpa using hbad), if_pos rfl]
    exact ⟨_, rfl, by rw [(CfgKeeps.ringError s p ring 1).ringEnabled hr, hoff], ringError_cfg s p ring⟩

/-- Settles O12: the two outcomes of a configuration write with ENABLE clear. -/
theorem ringDisable : Obligations.RingDisable := by
  intro s p ring val hp h4 hr
  rw [exec_ringDisableWrite val h4 hr, cfgWrite_eq, cfgValue_vector, cfgValue_size, bitOf_setBitOf_31]
  refine ⟨fun hvec => ?_, fun h8 hvec => ?_⟩
  · rw [if_neg fun h => hvec h.1 h.2]
    split
    · next hbad =>
      have hoff : s.ringEnabled p ring = false := by
        cases hs : s.ringEnabled p ring with
        | false => rfl
        | true => simp [hs] at hbad
      exact ⟨s, rfl, hoff, rfl⟩
    · refine ⟨_, rfl, ?_, ?_⟩
      · rw [if_neg (by simp), cfgSet_enabled hr, bitOf_setBitOf_31]
      · rw [if_neg (by simp), State.pd, cfgSet_pdk, State.pd]
  · rw [if_pos ⟨h8, hvec⟩]
    exact ⟨_, rfl, (CfgKeeps.ringError s p ring 1).ringEnabled hr, ringError_cfg s p ring⟩

/-- Settles O14: both resets are the one FLR; its registers by their retention classes. -/
theorem functionReset : Obligations.FunctionReset := by
  intro s p hp hpd c hc
  have hexec : exec c s = .next (s.flr p) := by
    simp only [List.mem_cons, List.not_mem_nil, or_false] at hc
    rcases hc with rfl | rfl <;> rfl
  obtain ⟨hsq, hcq, heq, hmsix, hrights⟩ := pdk_retention p hp
  have hzero : ∀ f : Fld, f.page = p → f.win % 256 = 1 → isEventReg f = false → (retOf f.key = .dp ∨ retOf f.key = .p) →
      resetOf f.key = 0 → (s.flr p).get f = 0 := by
    intro f hpage hw he hret h0
    rw [flr_get hpage hw he]
    rcases hret with hret | hret <;> simp [hret, h0]
  have hkeep : ∀ f ∈ [F.PDK_RIGHTS_OPERATE p, F.PDK_RIGHTS_BILL p, F.PDK_RIGHTS_SERVICE p, F.PDK_RIGHTS_OBSERVE p,
      F.PDK_RIGHTS_SAFETY_ADMIN p], (s.flr p).flag f = s.flag f := by
    intro f hf
    obtain ⟨hnp, hndp⟩ := hrights f hf
    simp only [List.mem_cons, List.not_mem_nil, or_false] at hf
    rcases hf with rfl | rfl | rfl | rfl | rfl <;>
      rw [State.flag, flr_get (p := p) (by rfl) (by rfl) (by rfl), if_neg hnp, if_neg hndp, State.flag]
  obtain ⟨htable, hheld⟩ := flr_pd (s := s) (hpd ▸ hp : p < s.pdk.length)
  refine ⟨_, hexec, htable, hheld, fun i hi => ?_, fun j hj => ?_, ?_, fun b hb => ?_, fun v hv => ?_⟩
  · obtain ⟨hret, h0⟩ := hsq i hi
    simp only [State.flag, hzero (F.PDK_SQi_CFG_ENABLE p i) rfl rfl (not_eventReg_of_cfg (sqCfg_mod i)) (.inl hret) h0]; rfl
  · obtain ⟨hret, h0⟩ := hcq j hj
    simp only [State.flag, hzero (F.PDK_CQj_CFG_ENABLE p j) rfl rfl (not_eventReg_of_cfg (cqCfg_mod j)) (.inl hret) h0]; rfl
  · simp only [State.flag, hzero (F.PDK_EQ_CFG_ENABLE p) rfl rfl rfl (.inl heq.1) heq.2]; rfl
  · have hnum : b = 0 ∨ b = 1 ∨ b = 2 ∨ b = 3 ∨ b = 4 := by omega
    rcases hnum with rfl | rfl | rfl | rfl | rfl <;> exact hkeep _ (by simp)
  · obtain ⟨hret, h0⟩ := hmsix v hv
    refine hzero (F.PDK_MSIX_CTRL p v) rfl rfl ?_ (.inr hret) h0
    simp only [isEventReg, F.PDK_MSIX_CTRL, Bool.or_eq_false_iff, beq_eq_false_iff_ne]
    omega

end Sys2Proof
end

section
/-!
PROOFS. Modes and stops of a stall (R199-R217, R441-R445) beside the paddocks: what leaves the block stays, no completion is lost, and a
waiting LOOP_TUNE keeps waiting.
-/
set_option Elab.async false -- the kernel evaluations wait for each other: keep them in one thread
namespace Sys2Proof.CommandLaws

open Sys2Proof.Machine Sys2Proof.Laws Sys2Proof.PaddockLaws

/-- `t` comes from `s` by events and by changes outside the paddocks that leave the waiting LOOP_TUNEs alone. -/
structure ModeKeeps (s t : State) : Prop where
  quiet : Quiet s t
  tune : ∀ k, (t.walk k).tuneWait = (s.walk k).tuneWait

variable {s t u : State} {n m : Nat}

theorem ModeKeeps.refl (s : State) : ModeKeeps s s := ⟨.refl s, fun _ => rfl⟩

theorem ModeKeeps.trans (h : ModeKeeps s t) (h' : ModeKeeps t u) : ModeKeeps s u :=
  ⟨h.quiet.trans h'.quiet, fun k => (h'.tune k).trans (h.tune k)⟩

theorem ModeKeeps.within (h : ModeKeeps s t) (hu : Within m t u) (hp : m.testBit 2 = false) (hw : m.testBit 4 = false) : ModeKeeps s u :=
  ⟨h.quiet.within hu hp, fun k => by rw [State.walk, hu.wlk hw]; exact h.tune k⟩

theorem ModeKeeps.set (h : ModeKeeps s t) (f : Fld) (v : Nat) : ModeKeeps s (t.set f v) := ⟨h.quiet.set f v, h.tune⟩

theorem ModeKeeps.raise (h : ModeKeeps s t) (code sev src : Nat) (pay : List Nat) : ModeKeeps s (t.raise code sev src pay) :=
  ⟨h.quiet.raise _ _ _ _, fun k => by rw [State.walk, (raise_within t code sev src pay).wlk rfl]; exact h.tune k⟩

/-- A view of every stall's Walker that an update of one keeps. -/
theorem walk_modWalk_view {β : Type} (g : Wlk → β) (s : State) (n k : Nat) {f : Wlk → Wlk} (hf : ∀ w, g (f w) = g w) :
    g ((s.modWalk n f).walk k) = g (s.walk k) := getD_modAt_view g s.wlk n k f Wlk.init hf

/-- The Walker of a stall after an update, or that of a stall the device has not. -/
theorem walk_modWalk (s : State) (n : Nat) (f : Wlk → Wlk) :
    (s.modWalk n f).walk n = f (s.walk n) ∨ (s.modWalk n f).walk n = Wlk.init := by
  by_cases h : n < s.wlk.length
  · exact .inl (getD_modAt_self _ _ _ _ h)
  · exact .inr (getD_of_length_le _ (Nat.le_trans (Nat.le_of_eq (length_modAt s.wlk n f)) (Nat.le_of_not_lt h)))

theorem walk_modWalk_self {s : State} {n : Nat} (f : Wlk → Wlk) (h : n < s.wlk.length) : (s.modWalk n f).walk n = f (s.walk n) :=
  getD_modAt_self _ _ _ _ h

theorem ModeKeeps.modWalk (h : ModeKeeps s t) (n : Nat) {f : Wlk → Wlk} (hf : ∀ w, (f w).tuneWait = w.tuneWait) :
    ModeKeeps s (t.modWalk n f) :=
  h.trans ⟨⟨List.prefix_refl _, fun _ => rfl, rfl⟩, fun k => walk_modWalk_view (fun w => w.tuneWait) t n k hf⟩

theorem ModeKeeps.modHalt (h : ModeKeeps s t) (n : Nat) (f : Halt → Halt) : ModeKeeps s (t.modHalt n f) :=
  h.trans ⟨⟨List.prefix_refl _, fun _ => rfl, rfl⟩, fun _ => rfl⟩

theorem ModeKeeps.ite {c : Prop} [Decidable c] {a b : State} (ha : ModeKeeps s a) (hb : ModeKeeps s b) : ModeKeeps s (if c then a else b) := by
  split
  · exact ha
  · exact hb

theorem ModeKeeps.forAll (h : ModeKeeps s t) (l : List Nat) {f : Nat → State → State} (hf : ∀ u k, ModeKeeps s u → ModeKeeps s (f k u)) :
    ModeKeeps s (forAll l f t) := by
  unfold Machine.forAll
  induction l generalizing t with
  | nil => exact h
  | cons k l ih => exact ih (hf t k h)

theorem ModeKeeps.setMode (h : ModeKeeps s t) (n m st : Nat) : ModeKeeps s (t.setMode n m st) := by
  have hset : ModeKeeps s ((t.set (F.WLK_Sn_MODE_MODE n) m).set (F.WLK_Sn_MODE_STATE n) st) := (h.set _ _).set _ _
  unfold State.setMode
  refine .ite ?_ (.ite (((hset.set _ _).set _ _).set _ _) hset)
  unfold State.sessionRest
  refine ModeKeeps.set (.ite ?_ hset) _ _
  unfold State.block
  exact .ite hset (((ModeKeeps.ite ((hset.set _ _).set _ _) hset).set _ _).set _ _ |>.raise _ _ _ _)

theorem ModeKeeps.failMode (h : ModeKeeps s t) (n cause : Nat) : ModeKeeps s (t.failMode n cause) := by
  have hr : ModeKeeps s ((t.set (F.WLK_Sn_MODE_CAUSE n) cause).raise 0x0404 2 n [t.mode n, cause]) := (h.set _ _).raise _ _ _ _
  unfold State.failMode
  refine .ite ?_ (.ite (hr.modWalk n fun _ => rfl) hr)
  exact ((hr.setMode n 4 1).modWalk n (f := fun w => { w with requested := false, failed := true }) fun _ => rfl).modWalk n fun _ => rfl

theorem ModeKeeps.stopStall (h : ModeKeeps s t) (n : Nat) (kind : StopKind) (cause : Nat) : ModeKeeps s (t.stopStall n kind cause) := by
  unfold State.stopStall
  extract_lets cur takes i s1 s2 s3 s4 m s5
  have h3 : ModeKeeps s s3 := .ite (((h.modHalt n _).set (F.HLT_Sn_STATE_CAUSE n) cause).set _ _)
    (((h.modHalt n _).set (F.HLT_Sn_STATE_CAUSE n) cause).set _ _)
  have h4 : ModeKeeps s s4 := h3.raise _ _ _ _
  have h5 : ModeKeeps s s5 :=
    .ite (h4.failMode n 8) (.ite (h4.modWalk n fun _ => rfl) (.ite ((h4.setMode n 5 0).raise _ _ _ _) h4))
  exact .ite h (.ite (h5.modWalk n fun _ => rfl) (.ite h5 (h5.modWalk n fun _ => rfl)))

theorem ModeKeeps.phaseLost (h : ModeKeeps s t) (n k cause : Nat) : ModeKeeps s (t.phaseLost n k cause) := by
  unfold State.phaseLost
  extract_lets again s1 left s2 s3 s4 s5 s6 s7 s8
  have h3 : ModeKeeps s s3 :=
    (((h.set (F.WLK_Sn_PHASE_ACTIVE n) _).set (F.WLK_Sn_PHASE_LOST n) _).modWalk n
      (f := fun w => { w with openCnt := List.replicate 6 0, senseCnt := 0 }) fun _ => rfl).within (refreshCeil_within _ n) rfl rfl
  have h5 : ModeKeeps s s5 := (h3.raise _ _ _ _).set _ _
  have h8 : ModeKeeps s s8 := ((((h5.set _ _).set _ _).set _ _).set _ _).raise _ _ _ _
  exact .ite h (.ite ((h5.set _ _).stopStall n _ _) (h8.modHalt n _))

theorem ModeKeeps.senseUnplaced (h : ModeKeeps s t) (n : Nat) : ModeKeeps s (t.senseUnplaced n) := by
  unfold State.senseUnplaced
  exact ((h.modWalk n (f := fun w => { w with senseCnt := 0 }) fun _ => rfl).set _ _).stopStall n _ _

theorem ModeKeeps.phaseChecks (h : ModeKeeps s t) (n : Nat) (ty : StallType) (m : Means) : ModeKeeps s (t.phaseChecks n ty m) := by
  unfold State.phaseChecks
  extract_lets act np low off s1 opened d
  have h1 : ModeKeeps s s1 := h.modWalk n fun _ => rfl
  refine .ite (h.modWalk n fun _ => rfl) (.ite ?_ (.ite (.ite ?_ (.ite ?_ ?_)) h1))
  · exact h1.forAll _ fun u k hu => hu.phaseLost n k 0
  · exact h1.phaseLost n _ 1
  · exact h1.senseUnplaced n
  · exact h1.phaseLost n _ 1

theorem ModeKeeps.rampReached (h : ModeKeeps s t) (n : Nat) : ModeKeeps s (t.rampReached n) := by
  unfold State.rampReached
  extract_lets w s1 s2
  have h1 : ModeKeeps s s1 := h.modWalk n fun _ => rfl
  refine .ite (h1.setMode n 0 0) ?_
  split
  · exact (h1.setMode n 5 _).raise _ _ _ _
  · exact h1.setMode n 5 _

theorem ModeKeeps.dropClose (h : ModeKeeps s t) (n : Nat) (low : Bool) : ModeKeeps s (t.dropClose n low) := by
  unfold State.dropClose
  exact .ite (h.modWalk n fun _ => rfl) h

theorem ModeKeeps.twoStepPeriod (h : ModeKeeps s t) (n : Nat) : ModeKeeps s (t.twoStepPeriod n).2 := by
  unfold State.twoStepPeriod
  extract_lets em tw s1 s2 em2 tw2 send s3 s4
  have h1 : ModeKeeps s s1 := .ite (h.modHalt n _) h
  have h2 : ModeKeeps s s2 := .ite (h1.modWalk n fun _ => rfl) h1
  have h4 : ModeKeeps s s4 := (h2.modHalt n _).modWalk n fun _ => rfl
  split
  · exact h
  · split
    · exact h2
    · exact .ite h4 (h4.trans ⟨⟨List.prefix_refl _, fun _ => rfl, rfl⟩, fun _ => rfl⟩)

theorem ModeKeeps.controlLaw (h : ModeKeeps s t) (n : Nat) (ty : StallType) (m : Means) : ModeKeeps s (t.controlLaw n ty m).2 := by
  unfold State.controlLaw
  extract_lets
  rename_i vin s1 _ _ _ _ _ _ _ _ _ _ s2 s3 s4
  have h1 : ModeKeeps s s1 := by
    show ModeKeeps s (t.vIn n ty).2
    unfold State.vIn
    extract_lets
    split
    · exact h.trans ⟨⟨List.prefix_refl _, fun _ => rfl, rfl⟩, fun _ => rfl⟩
    · exact h
  have h2 : ModeKeeps s s2 := h1.modWalk n fun _ => rfl
  exact (((h2.set _ _).set _ _).set _ _).set _ _

theorem ModeKeeps.buildEdges (h : ModeKeeps s t) (n : Nat) (ty : StallType) (act lens : List Nat) :
    ModeKeeps s (t.buildEdges n ty act lens) := by
  unfold State.buildEdges
  exact h.modWalk n fun _ => rfl

end Sys2Proof.CommandLaws
end

section
/-!
PROOFS. The Walker's period (R193-R215): the edges that a computed period sends, and what a late, a held and a resting period leave.
-/
set_option Elab.async false -- the kernel evaluations wait for each other: keep them in one thread
namespace Sys2Proof.CommandLaws

open Sys2Proof.Machine Sys2Proof.Laws Sys2Proof.PaddockLaws

variable {s t u : State} {n g : Nat} {ty : StallType}

/-! ### Edges of a phase -/

/-- At most two edges, no STATE 0b11, and two lie at least `g` apart, in 250 ps. -/
def EdgesOk (g : Nat) (e : List Edge) : Prop :=
  e.length ≤ 2 ∧ (∀ x ∈ e, x.st < 3) ∧ ∀ a b, e = [a, b] → 40000 * a.cyc + a.off + g ≤ 40000 * b.cyc + b.off

theorem edgesOk_nil (g : Nat) : EdgesOk g [] := ⟨by simp, by simp, by simp⟩

theorem edgesOk_one (g t st : Nat) (h : st < 3) : EdgesOk g [edgeAt t st] := ⟨by simp, by simpa [edgeAt] using h, by simp⟩

theorem edgesOk_two {g t t' st st' : Nat} (h : st < 3) (h' : st' < 3) (hg : t + g ≤ t') : EdgesOk g [edgeAt t st, edgeAt t' st'] := by
  refine ⟨by simp, by simpa [edgeAt] using ⟨h, h'⟩, ?_⟩
  intro a b hab
  obtain ⟨rfl, rfl⟩ : edgeAt t st = a ∧ edgeAt t' st' = b := by simpa using hab
  simp only [edgeAt, Nat.div_add_mod]
  exact hg

/-- A pulse too short is carried until it reaches `g` (R207). -/
theorem pulse_len (g len carry : Nat) :
    (if len < g then (if g ≤ carry + len then (carry + len, 0) else (0, carry + len)) else (len, 0)).1 = 0 ∨
      g ≤ (if len < g then (if g ≤ carry + len then (carry + len, 0) else (0, carry + len)) else (len, 0)).1 := by
  split
  · split
    · next h => exact .inr h
    · exact .inl rfl
  · next h => exact .inr (Nat.le_of_not_lt h)

/-- The edges of an active phase (R207): a pulse that is sent is at least `g` long, and starts at least `g` after the last. -/
theorem phaseEdges_ok (T g off theta len carry : Nat) (endPrev : Option Nat) (hoff : off < 3) :
    EdgesOk g (phaseEdges T g off theta len carry endPrev).1 := by
  unfold phaseEdges
  extract_lets r len' carry'
  have hlen : len' = 0 ∨ g ≤ len' := pulse_len g len carry
  clear_value len' carry'
  cases endPrev with
  | some e =>
    dsimp only
    split
    · next h => exact edgesOk_two hoff (by decide) h.2.2
    · exact edgesOk_one g e off hoff
  | none =>
    dsimp only
    split
    · exact edgesOk_nil g
    · next hne =>
      split
      · exact edgesOk_two (by decide) hoff (Nat.add_le_add_left (hlen.resolve_left hne) theta)
      · exact edgesOk_one g theta 1 (by decide)

theorem offEdges_ok (T g st since : Nat) (endPrev : Option Nat) : EdgesOk g (offEdges T g st since endPrev) := by
  unfold offEdges
  cases endPrev with
  | some e => exact edgesOk_one g e 0 (by decide)
  | none =>
    dsimp only
    split
    · exact edgesOk_nil g
    · exact edgesOk_one g _ 0 (by decide)

/-- Every phase of a block has edges as they should be. -/
def BlockOk (g : Nat) (b : Block) : Prop := ∀ es, b = .edges es → ∀ e ∈ es, EdgesOk g e

theorem blockOk_none (g : Nat) : BlockOk g .none := nofun

theorem blockOk_init (g : Nat) : BlockOk g Wlk.init.out_ := nofun

theorem blockOk_allOff (g : Nat) : BlockOk g allOffBlock := by
  rintro es h e he
  obtain rfl : List.replicate 6 [⟨0, 0, 0⟩] = es := by simpa [allOffBlock] using h
  rw [List.eq_of_mem_replicate he]
  exact edgesOk_one g 0 0 (by decide)

/-- The distance two edges of a phase keep: DT + MIN_PULSE, in 250 ps. -/
abbrev edgeGap (ty : StallType) : Nat := (ty.dtNs + ty.minPulse) * 4

theorem buildEdges_ok (s : State) (n : Nat) (ty : StallType) (act lens : List Nat) :
    BlockOk (edgeGap ty) ((s.buildEdges n ty act lens).walk n).out_ := by
  unfold State.buildEdges
  extract_lets T g off w l rs
  have hrs : ∀ r ∈ rs, EdgesOk g r.1 := by
    intro r hr
    obtain ⟨k, -, rfl⟩ := List.mem_map.mp hr
    split
    · refine phaseEdges_ok _ _ _ _ _ _ _ ?_
      show (if ty.topology = 0 then 0 else 2) < 3
      split <;> decide
    · exact offEdges_ok _ _ _ _ _
  rcases walk_modWalk s n fun w => { w with
    out_ := .edges (rs.map fun r => r.1), carry := rs.map fun r => r.2.1, endPrev := rs.map fun r => r.2.2 } with h | h
  · rw [h]
    rintro es hes e he
    obtain rfl : rs.map (fun r => r.1) = es := by simpa using hes
    obtain ⟨r, hr, rfl⟩ := List.mem_map.mp he
    exact hrs r hr
  · rw [h]
    exact blockOk_init _

/-- A period of a two-step off sends the all-off block or nothing (R212, R442). -/
theorem twoStepPeriod_ok (s : State) (n g : Nat) (h : (s.twoStepPeriod n).1 = true) : BlockOk g ((s.twoStepPeriod n).2.walk n).out_ := by
  revert h
  unfold State.twoStepPeriod
  extract_lets em tw s1 s2 em2 tw2 send s3 s4
  have h4 : BlockOk g (s4.walk n).out_ := by
    rcases walk_modWalk s3 n fun w => { w with
      out_ := if send then allOffBlock else .none
      allOff := if tw2 && decide (1 < w.allOff) then w.allOff - 1 else w.allOff } with h | h
    · rw [h]
      show BlockOk g (if send = true then allOffBlock else .none)
      split
      · exact blockOk_allOff g
      · exact blockOk_none g
    · rw [h]
      exact blockOk_init g
  split
  · exact nofun
  · split
    · exact nofun
    · intro _
      show BlockOk g (State.walk (if send = true then s4 else _) n).out_
      split
      · exact h4
      · exact h4

theorem blockOk_ite {c : Prop} [Decidable c] {a b : State} (ha : BlockOk g (a.walk n).out_) (hb : BlockOk g (b.walk n).out_) :
    BlockOk g ((if c then a else b).walk n).out_ := by
  split
  · exact ha
  · exact hb

theorem computePeriod_ok (s : State) (n : Nat) (ty : StallType) : BlockOk (edgeGap ty) ((s.computePeriod n ty).walk n).out_ := by
  unfold State.computePeriod
  extract_lets ws s1 s2 m s3 s4 s5 t s6 s7 act
  split
  · next h => exact twoStepPeriod_ok s5 n _ h
  · exact blockOk_ite (buildEdges_ok _ n ty _ _) (buildEdges_ok _ n ty _ _)

/-! ### Taking a period up -/

/-- A period is taken up in its cycle, with its slack recorded (R33, R194). -/
def pickUp (s : State) (n : Nat) (slack : Int) : State :=
  (slackMin s F.WLK_SLACK_MIN slack).modWalk n fun w => { w with computed := some (s.chrono / 2500) }

/-- A ramp counts its periods. -/
abbrev rampStep (w : Wlk) : Wlk := { w with ramp := w.ramp.map fun r => (r.1, r.2 + 1) }

/-- What is done with a period of stall `n` that is computed in time (R195, R196). -/
def periodWork (s : State) (n : Nat) (ty : StallType) : State :=
  match (s.link n).samples with
  | x :: _ => if x.valid then s.computePeriod n ty else s.modWalk n fun w => { w with out_ := .hold, late := false }
  | [] => s.modWalk n fun w => { w with out_ := .hold, late := false }

theorem periodWork_of_valid {x : Sample} {rest : List Sample} (h : (s.link n).samples = x :: rest) (hx : x.valid = true) :
    periodWork s n ty = s.computePeriod n ty := by simp [periodWork, h, hx]

theorem periodWork_of_invalid {x : Sample} {rest : List Sample} (h : (s.link n).samples = x :: rest) (hx : x.valid = false) :
    periodWork s n ty = s.modWalk n fun w => { w with out_ := .hold, late := false } := by simp [periodWork, h, hx]

variable {slack : Int}

theorem slackMin_eq (s : State) (f : Fld) (slack : Int) : slackMin s f slack = s ∨ slackMin s f slack = s.setS f slack := by
  unfold slackMin
  split
  · exact .inr rfl
  · exact .inl rfl

/-- Taking a period up leaves all but WLK_SLACK_MIN and the cycle of the period. -/
theorem pickUp_within (s : State) (n : Nat) (slack : Int) : Within 0x1000000010 s (pickUp s n slack) := by
  refine (Within.step (modWalk_within _ n _) ?_ rfl)
  rcases slackMin_eq s F.WLK_SLACK_MIN slack with h | h <;> rw [h]
  · exact .refl _ s
  · exact .setS 4 (.refl _ s) rfl rfl

theorem pickUp_wlk (s : State) (n : Nat) (slack : Int) :
    (pickUp s n slack).wlk = modAt s.wlk n fun w => { w with computed := some (s.chrono / 2500) } := by
  unfold pickUp
  rcases slackMin_eq s F.WLK_SLACK_MIN slack with h | h <;> rw [h] <;> rfl

theorem pickUp_walk (h : n < s.wlk.length) : (pickUp s n slack).walk n = { s.walk n with computed := some (s.chrono / 2500) } := by
  rw [State.walk, pickUp_wlk]
  exact getD_modAt_self _ _ _ _ h

theorem pickUp_length (s : State) (n : Nat) (slack : Int) : (pickUp s n slack).wlk.length = s.wlk.length := by
  rw [pickUp_wlk, length_modAt]

theorem pickUp_link (s : State) (n : Nat) (slack : Int) (k : Nat) : (pickUp s n slack).link k = s.link k := by
  rw [State.link, (pickUp_within s n slack).slk rfl, State.link]

/-- A period whose turn has come is taken up, and computed unless it is late (R194, R195). -/
theorem exec_walkerPeriodCompute (hturn : s.walkerTurn n = true) (h9 : s.domainOn 9 = true) (hfull : s.walkerFull = false)
    (hty : (s.typesAt s.startCycle)[s.get (F.WLK_Sn_TYPE_TYPE n)]? = some ty) :
    exec (.walkerPeriodCompute n slack) s =
      .next ((if slack < 0 then (pickUp s n slack).modWalk n fun w => { w with late := true, lateBy := slack }
        else periodWork (pickUp s n slack) n ty).modWalk n rampStep) := by
  have hchrono : (slackMin s F.WLK_SLACK_MIN slack).chrono = s.chrono := by
    rcases slackMin_eq s F.WLK_SLACK_MIN slack with h | h <;> rw [h] <;> rfl
  show execWalkerPeriodCompute n slack s = _
  unfold execWalkerPeriodCompute
  rw [if_neg (by simp [hturn, h9]), hty]
  simp only [hfull, Bool.false_eq_true, if_false, false_or, hchrono]
  rfl

end Sys2Proof.CommandLaws

namespace Sys2Proof

open Sys2Proof.Machine Sys2Proof.Laws Sys2Proof.CommandLaws

/-- Settles O27: every edge list of a block comes from `phaseEdges`, `offEdges` or the all-off block. -/
theorem edgesApart : Obligations.EdgesApart := by
  intro s t n slack ty es hn h48 hwlk h9 hturn hfull hty hslack ⟨x, rest, hx, hvalid⟩ hexec hout
  rw [exec_walkerPeriodCompute hturn h9 hfull hty, if_neg (Int.not_lt.mpr hslack),
    periodWork_of_valid (x := x) (rest := rest) (by rw [pickUp_link]; exact hx) hvalid] at hexec
  obtain rfl := Host.Outcome.next.inj hexec
  rw [walk_modWalk_view (fun w => w.out_) _ n n (f := rampStep) fun _ => rfl] at hout
  exact computePeriod_ok _ n ty es hout

end Sys2Proof
end

section
/-!
PROOFS. A computed period of the Walker (R196-R215, R223): what a stall at rest sends, and that the LOOP_TUNEs it lets go are answered.
-/
set_option Elab.async false -- the kernel evaluations wait for each other: keep them in one thread
namespace Sys2Proof.CommandLaws

open Sys2Proof.Machine Sys2Proof.Laws Sys2Proof.PaddockLaws

variable {s t u : State} {n m : Nat} {ty : StallType}

/-! ### A stall at rest -/

/-- IDLE or STOPPED, all phases off, and no stop runs. -/
structure AtRest (s : State) (n : Nat) : Prop where
  mode : s.mode n = 0 ∨ s.mode n = 5
  ramp : (s.walk n).ramp = none
  twoStep : (s.walk n).twoStep = false
  stop : (s.halt n).stop ≠ .emergency
  phState : (s.link n).phState = List.replicate 6 0
  endPrev : (s.walk n).endPrev = List.replicate 6 none

/-- What does not reach the Walker, the Halter's stalls, the links or WLK's registers leaves a stall at rest. -/
theorem AtRest.within (h : AtRest s n) (hu : Within m s t) (hw : m.testBit 4 = false) (hh : m.testBit 5 = false) (hl : m.testBit 3 = false)
    (hr : m.testBit 36 = false) : AtRest t n := by
  obtain ⟨h1, h2, h3, h4, h5, h6⟩ := h
  have hmode : t.mode n = s.mode n := hu.get (F.WLK_Sn_MODE_MODE n) hr
  have hwalk : t.walk n = s.walk n := by rw [State.walk, hu.wlk hw, State.walk]
  have hhalt : t.halt n = s.halt n := by rw [State.halt, hu.haltS hh, State.halt]
  have hlink : t.link n = s.link n := by rw [State.link, hu.slk hl, State.link]
  exact ⟨hmode ▸ h1, hwalk ▸ h2, hwalk ▸ h3, hhalt ▸ h4, hlink ▸ h5, hwalk ▸ h6⟩

theorem AtRest.set (h : AtRest s n) (f : Fld) (v : Nat) (hf : (F.WLK_Sn_MODE_MODE n).key ≠ f.key) : AtRest (s.set f v) n := by
  obtain ⟨h1, h2, h3, h4, h5, h6⟩ := h
  refine ⟨?_, h2, h3, h4, h5, h6⟩
  rwa [State.mode, get_set_ne s v hf]

theorem AtRest.modWalk (h : AtRest s n) (k : Nat) {f : Wlk → Wlk}
    (hf : ∀ w, (f w).ramp = w.ramp ∧ (f w).twoStep = w.twoStep ∧ (f w).endPrev = w.endPrev) : AtRest (s.modWalk k f) n := by
  obtain ⟨h1, h2, h3, h4, h5, h6⟩ := h
  have hview := walk_modWalk_view (fun w => (w.ramp, w.twoStep, w.endPrev)) s k n (f := f) fun w => by
    obtain ⟨hr, ht, he⟩ := hf w
    simp only [hr, ht, he]
  simp only [Prod.mk.injEq] at hview
  obtain ⟨hr, ht, he⟩ := hview
  exact ⟨h1, hr.trans h2, ht.trans h3, h4, h5, he.trans h6⟩

theorem AtRest.finishes (h : AtRest s n) {α : Type} (l : List α) (p num st r : α → Nat) :
    AtRest (l.foldl (fun t d => t.finish (p d) (num d) (st d) (r d)) s) n :=
  h.within (m := 0x400200080004) (Within.foldl l (fun _ u hu => (finish_within u _ _ _ _ _).step hu rfl) (.refl _ s)) rfl rfl rfl rfl

theorem AtRest.stopsDone (h : AtRest s n) (k : Nat) : AtRest (s.stopsDone k) n := by
  unfold State.stopsDone
  extract_lets ws s1
  have h1 : AtRest s1 n := h.modWalk k fun _ => ⟨rfl, rfl, rfl⟩
  exact h1.within (m := 0x400200080004) (Within.foldl ws (fun _ u hu => (finish_within u _ _ _ _ _).step hu rfl) (.refl _ s1)) rfl rfl rfl rfl

theorem AtRest.modeProgress (h : AtRest s n) (ty : StallType) (m : Means) : AtRest (s.modeProgress n ty m) n := by
  unfold State.modeProgress
  extract_lets md open_ s1
  have h1 : AtRest s1 n := by
    unfold s1
    split
    · exact h.stopsDone n
    · exact h
  have hmd : md = 0 ∨ md = 5 := h.mode
  rw [if_neg (by omega), if_neg (by omega)]
  exact h1

theorem AtRest.dropClose (h : AtRest s n) (low : Bool) : AtRest (s.dropClose n low) n := by
  unfold State.dropClose
  extract_lets w two late
  split
  · exact h.modWalk n fun _ => ⟨rfl, rfl, rfl⟩
  · exact h

theorem AtRest.twoStepPeriod (h : AtRest s n) : s.twoStepPeriod n = (false, s) := by
  simp [State.twoStepPeriod, h.twoStep, h.stop]

theorem AtRest.phaseChecks (h : AtRest s n) (ty : StallType) (m : Means) : AtRest (s.phaseChecks n ty m) n := by
  unfold State.phaseChecks
  extract_lets act np low off s1 opened d
  have hmode := h.mode
  rw [if_pos (.inl (by omega))]
  exact h.modWalk n fun _ => ⟨rfl, rfl, rfl⟩

theorem AtRest.drives (h : AtRest s n) (ty : StallType) : s.drives n ty = false := by
  have hmode := h.mode
  simp only [State.drives, h.ramp, Option.isSome_none, Bool.false_eq_true, if_false, Bool.or_eq_false_iff, Bool.and_eq_false_imp,
    decide_eq_false_iff_not, decide_eq_true_eq]
  exact ⟨by omega, fun hm => by omega⟩

theorem getD_replicate_of_lt {α : Type} (a d : α) {n i : Nat} (h : i < n) : (List.replicate n a).getD i d = a := by
  rw [List.getD_eq_getElem?_getD, List.getElem?_replicate, if_pos h]
  rfl

/-- With every phase off and none driven, no phase gets an edge. -/
theorem AtRest.buildEdges (h : AtRest s n) (ty : StallType) (hn : n < s.wlk.length) :
    ((s.buildEdges n ty [] []).walk n).out_ = .edges (List.replicate 6 []) := by
  unfold State.buildEdges
  extract_lets T g off w l rs
  rw [walk_modWalk_self _ hn]
  have hrs : rs.map (fun r => r.1) = (List.range 6).map fun _ => [] := by
    simp only [rs, List.map_map]
    refine List.map_congr_left fun k hk => ?_
    have hoff : l.phState.getD k 0 = 0 ∧ w.endPrev.getD k none = none := by
      simp only [l, w, h.phState, h.endPrev]
      have hk6 : k < 6 := List.mem_range.mp hk
      exact ⟨getD_replicate_of_lt 0 0 hk6, getD_replicate_of_lt none none hk6⟩
    simp only [Function.comp, List.findIdx?_nil, hoff.1, hoff.2, offEdges, true_or, if_true]
  simp only [hrs]
  rfl

theorem ite_length {c : Prop} [Decidable c] {a b : State} {l : Nat} (ha : a.wlk.length = l) (hb : b.wlk.length = l) :
    (if c then a else b).wlk.length = l := by
  split
  · exact ha
  · exact hb

theorem stopsDone_length (s : State) (n : Nat) : (s.stopsDone n).wlk.length = s.wlk.length := by
  unfold State.stopsDone
  extract_lets ws s1
  have hw : Within 0x400200080004 s1 (ws.foldl (fun t d => t.finish d.1 d.2.1 0x00
      ((t.chrono - d.2.2.1) / 250 % 2 ^ 31 + (if d.2.2.2 then 2 ^ 31 else 0))) s1) :=
    Within.foldl ws (fun _ u hu => (finish_within u _ _ _ _ _).step hu rfl) (.refl _ s1)
  rw [hw.wlk rfl]
  exact length_modAt _ _ _

theorem AtRest.modeProgress_length (h : AtRest s n) (ty : StallType) (m : Means) : (s.modeProgress n ty m).wlk.length = s.wlk.length := by
  unfold State.modeProgress
  extract_lets md open_ s1
  have hmd : md = 0 ∨ md = 5 := h.mode
  rw [if_neg (by omega), if_neg (by omega)]
  exact ite_length (stopsDone_length s n) rfl

theorem AtRest.phaseChecks_length (h : AtRest s n) (ty : StallType) (m : Means) : (s.phaseChecks n ty m).wlk.length = s.wlk.length := by
  unfold State.phaseChecks
  extract_lets act np low off s1 opened d
  have hmode := h.mode
  rw [if_pos (.inl (by omega))]
  exact length_modAt _ _ _

theorem dropClose_length (s : State) (n : Nat) (low : Bool) : (s.dropClose n low).wlk.length = s.wlk.length := by
  unfold State.dropClose
  extract_lets w two late
  split
  · exact length_modAt _ _ _
  · rfl

/-- What a period with no phase driven sends and shows. -/
def undrivenPeriod (s : State) (n : Nat) (ty : StallType) : State :=
  (((s.set (F.WLK_Sn_DUTY_FF n) 0).set (F.WLK_Sn_DUTY_D n) 0).set (F.WLK_Sn_CURRENT_I_CMD n) 0).buildEdges n ty [] []

theorem modeReg_ne {f : Fld} (hf : f.reg % 0x10000 ≠ (F.WLK_Sn_MODE_MODE n).reg % 0x10000) : (F.WLK_Sn_MODE_MODE n).key ≠ f.key :=
  key_ne_reg (Ne.symm hf)

theorem AtRest.undriven (h : AtRest s n) (ty : StallType) (hn : n < s.wlk.length) :
    ((undrivenPeriod s n ty).walk n).out_ = .edges (List.replicate 6 []) ∧ (undrivenPeriod s n ty).get (F.WLK_Sn_DUTY_D n) = 0 ∧
      (undrivenPeriod s n ty).get (F.WLK_Sn_CURRENT_I_CMD n) = 0 := by
  have h' : AtRest (((s.set (F.WLK_Sn_DUTY_FF n) 0).set (F.WLK_Sn_DUTY_D n) 0).set (F.WLK_Sn_CURRENT_I_CMD n) 0) n :=
    ((h.set (F.WLK_Sn_DUTY_FF n) 0 (modeReg_ne (by simp only [F.WLK_Sn_DUTY_FF, F.WLK_Sn_MODE_MODE]; omega))).set (F.WLK_Sn_DUTY_D n) 0
      (modeReg_ne (by simp only [F.WLK_Sn_DUTY_D, F.WLK_Sn_MODE_MODE]; omega))).set (F.WLK_Sn_CURRENT_I_CMD n) 0
      (modeReg_ne (by simp only [F.WLK_Sn_CURRENT_I_CMD, F.WLK_Sn_MODE_MODE]; omega))
  refine ⟨h'.buildEdges ty hn, ?_, get_set_self _ (F.WLK_Sn_CURRENT_I_CMD n) 0⟩
  exact (get_set_ne _ _ (key_ne_reg (by simp only [F.WLK_Sn_DUTY_D, F.WLK_Sn_CURRENT_I_CMD]; omega))).trans
    (get_set_self _ (F.WLK_Sn_DUTY_D n) 0)

/-- A computed period of a stall at rest drives no phase. -/
theorem AtRest.computePeriod (h : AtRest s n) (ty : StallType) (hn : n < s.wlk.length) :
    ∃ v, s.computePeriod n ty = undrivenPeriod v n ty ∧ AtRest v n ∧ n < v.wlk.length := by
  unfold State.computePeriod
  extract_lets ws s1 s2 m s3 s4 s5 t s6 s7 act r s8 s9
  have h1 : AtRest s1 n := h.modWalk n fun _ => ⟨rfl, rfl, rfl⟩
  have hfold : Within 0x400200080004 s1 s2 := Within.foldl ws (fun _ u hu => (finish_within u _ _ _ _ _).step hu rfl) (.refl _ s1)
  have h2 : AtRest s2 n := h1.within hfold rfl rfl rfl rfl
  have h3 : AtRest s3 n :=
    (h2.set (F.WLK_Sn_CURRENT_I_OUT n) _ (modeReg_ne (by simp only [F.WLK_Sn_CURRENT_I_OUT, F.WLK_Sn_MODE_MODE]; omega))).set
      (F.WLK_Sn_VOLTAGE_V_OUT n) _ (modeReg_ne (by simp only [F.WLK_Sn_VOLTAGE_V_OUT, F.WLK_Sn_MODE_MODE]; omega))
  have h4 : AtRest s4 n := h3.modWalk n fun _ => ⟨rfl, rfl, rfl⟩
  have h5 : AtRest s5 n := (h4.modeProgress ty m).dropClose m.low
  have hl4 : s4.wlk.length = s.wlk.length :=
    (length_modAt _ _ _).trans ((congrArg List.length (hfold.wlk rfl : s2.wlk = s1.wlk)).trans (length_modAt _ _ _))
  have hl5 : s5.wlk.length = s4.wlk.length := (dropClose_length _ n _).trans (h4.modeProgress_length ty m)
  have ht : t = (false, s5) := h5.twoStepPeriod
  have h6 : s6 = s5 := congrArg Prod.snd ht
  have h7 : AtRest s7 n := AtRest.phaseChecks (h6.symm ▸ h5) ty m
  have hl7 : s7.wlk.length = s6.wlk.length := AtRest.phaseChecks_length (h6.symm ▸ h5) ty m
  have h9 : s9 = undrivenPeriod s7 n ty := if_neg (by simp [h7.drives])
  refine ⟨s7, ?_, h7, by rw [hl7, h6, hl5, hl4]; exact hn⟩
  rw [if_neg (by rw [ht]; exact Bool.false_ne_true), h9]

/-! ### LOOP_TUNEs -/

/-- A completion of a waiting opcode leaves the Walker alone. -/
theorem finish_wlk (s : State) (p num st r : Nat) (buf : Bool) : (s.finish p num st r buf).wlk = s.wlk :=
  (finish_within s p num st r buf).wlk rfl

theorem stopsDone_later (s : State) (n : Nat) : Later s (s.stopsDone n) ∧ ∀ k, ((s.stopsDone n).walk k).tuneWait = (s.walk k).tuneWait := by
  unfold State.stopsDone
  extract_lets ws s1
  have h1 : ModeKeeps s s1 := (ModeKeeps.refl s).modWalk n fun _ => rfl
  refine ⟨Later.foldl (fun u d hu => hu.finish d.1 d.2.1 _ _ _) (.ofQuiet h1.quiet), fun k => ?_⟩
  have hw : Within 0x400200080004 s1 (ws.foldl (fun t d => t.finish d.1 d.2.1 0x00
      ((t.chrono - d.2.2.1) / 250 % 2 ^ 31 + (if d.2.2.2 then 2 ^ 31 else 0))) s1) :=
    Within.foldl ws (fun _ u hu => (finish_within u _ _ _ _ _).step hu rfl) (.refl _ s1)
  rw [State.walk, hw.wlk rfl]
  exact h1.tune k

theorem modeProgress_later (s : State) (n : Nat) (ty : StallType) (m : Means) :
    Later s (s.modeProgress n ty m) ∧ ∀ k, ((s.modeProgress n ty m).walk k).tuneWait = (s.walk k).tuneWait := by
  unfold State.modeProgress
  extract_lets md open_ s1 vt step s2 k ok since s3
  have h1 : Later s s1 ∧ ∀ k, (s1.walk k).tuneWait = (s.walk k).tuneWait := by
    unfold s1
    split
    · exact stopsDone_later s n
    · exact ⟨.refl s, fun _ => rfl⟩
  have hkeep : ∀ u, ModeKeeps s1 u → Later s u ∧ ∀ k, (u.walk k).tuneWait = (s.walk k).tuneWait := fun u hu =>
    ⟨h1.1.quiet hu.quiet, fun k => (hu.tune k).trans (h1.2 k)⟩
  have h2 : ModeKeeps s1 s2 := (ModeKeeps.refl s1).modWalk n fun _ => rfl
  have h3 : ModeKeeps s1 s3 := h2.modWalk n fun _ => rfl
  refine hkeep _ (.ite (.ite (.ite (.refl s1) ?_) ?_) (.ite ((ModeKeeps.refl s1).rampReached n) (.refl s1)))
  · exact (ModeKeeps.refl s1).modWalk n fun _ => rfl
  · exact .ite (h3.set _ _) h3

/-- The rest of a computed period, once the waiting LOOP_TUNEs were let go. -/
theorem computePeriod_answers {p num : Nat} {d : Desc} (hwait : (s.walk n).tuneWait = [(p, num)]) (hd : InFlight s p num d)
    (hn : n < s.wlk.length) (ty : StallType) :
    s.Ended (s.computePeriod n ty) p d.tag 0x00 0 ∧ ((s.computePeriod n ty).walk n).tuneWait = [] := by
  unfold State.computePeriod
  extract_lets ws s1 s2 m s3 s4 s5 t s6 s7 act s8
  have hws : ws = [(p, num)] := hwait
  have hs2 : s2 = s1.finish p num 0x00 0 := by
    show List.foldl _ s1 ws = _
    rw [hws]; rfl
  have hended : s.Ended s2 p d.tag 0x00 0 := hs2 ▸ InFlight.answered (s := s) (t := s1) hd (List.prefix_refl _)
  have hout : s.out <+: s2.out := hs2 ▸ (finish_within s1 p num 0x00 0 false).out
  have htune : (s2.walk n).tuneWait = [] := by
    rw [hs2, State.walk, finish_wlk, ← State.walk, show s1.walk n = _ from walk_modWalk_self _ hn]
  have h4 : ModeKeeps s2 s4 := (((ModeKeeps.refl s2).set (F.WLK_Sn_CURRENT_I_OUT n) _).set (F.WLK_Sn_VOLTAGE_V_OUT n) _).modWalk n fun _ => rfl
  obtain ⟨hlater, hmode⟩ := modeProgress_later s4 n ty m
  have hrest : ∀ u, ModeKeeps (s4.modeProgress n ty m) u → s.Ended u p d.tag 0x00 0 ∧ (u.walk n).tuneWait = [] := fun u hu =>
    ⟨Ended.later hended hout ((Later.ofQuiet h4.quiet).trans (hlater.quiet hu.quiet)),
      (hu.tune n).trans ((hmode n).trans ((h4.tune n).trans htune))⟩
  have h6 : ModeKeeps (s4.modeProgress n ty m) s6 := ((ModeKeeps.refl _).dropClose n m.low).twoStepPeriod n
  have h7 : ModeKeeps (s4.modeProgress n ty m) s7 := h6.phaseChecks n ty m
  refine hrest _ (.ite h6 (.ite ?_ ?_))
  · exact (h7.controlLaw n ty m).buildEdges n ty act _
  · exact (((h7.set _ _).set _ _).set _ _).buildEdges n ty [] []

end Sys2Proof.CommandLaws

namespace Sys2Proof

open Sys2Proof.Machine Sys2Proof.Laws Sys2Proof.CommandLaws

/-- Settles O26: the period taken up is late, held, or computed; the last by the case of the stall. -/
theorem walkerPeriod : Obligations.WalkerPeriod := by
  intro s n slack ty _ _ h48 hwlk h9 hturn hfull hty
  have hlen : n < (pickUp s n slack).wlk.length := by rw [pickUp_length, hwlk]; exact h48
  have hwalk := pickUp_walk (s := s) (slack := slack) (show n < s.wlk.length by rw [hwlk]; exact h48)
  have hexec := exec_walkerPeriodCompute (slack := slack) hturn h9 hfull hty
  have hup := pickUp_within s n slack
  refine ⟨fun hlate => ?_, fun x rest hslack hx => ?_⟩
  · rw [if_pos hlate] at hexec
    refine ⟨_, hexec, ?_⟩
    rw [walk_modWalk_self _ ((length_modAt _ _ _).symm ▸ hlen), walk_modWalk_self _ hlen, hwalk]
    exact ⟨rfl, rfl, rfl, rfl⟩
  rw [if_neg (Int.not_lt.mpr hslack)] at hexec
  refine ⟨fun hinvalid => ?_, fun hvalid => ?_⟩
  · rw [periodWork_of_invalid (x := x) (rest := rest) (by rw [pickUp_link]; exact hx) hinvalid] at hexec
    refine ⟨_, hexec, ?_⟩
    rw [walk_modWalk_self _ ((length_modAt _ _ _).symm ▸ hlen), walk_modWalk_self _ hlen, hwalk]
    exact ⟨rfl, rfl, rfl, rfl⟩
  rw [periodWork_of_valid (x := x) (rest := rest) (by rw [pickUp_link]; exact hx) hvalid] at hexec
  refine ⟨fun hmode hramp htwo hstop hph hend => ?_, fun p num d hwait hd => ?_⟩
  · have hrest : AtRest (pickUp s n slack) n := by
      refine ⟨?_, by rw [hwalk]; exact hramp, by rw [hwalk]; exact htwo, ?_, by rw [pickUp_link]; exact hph, by rw [hwalk]; exact hend⟩
      · have hget : (pickUp s n slack).mode n = s.mode n := by
          rw [State.mode]
          unfold pickUp
          rcases slackMin_eq s F.WLK_SLACK_MIN slack with h | h <;> rw [h]
          · rfl
          · exact get_set_ne s _ (key_ne_reg (by simp only [F.WLK_Sn_MODE_MODE, F.WLK_SLACK_MIN]; omega))
        rw [hget]; exact hmode
      · rw [State.halt, hup.haltS rfl]; exact hstop
    obtain ⟨v, hv, hrest', hlen'⟩ := hrest.computePeriod ty hlen
    obtain ⟨hout, hd, hicmd⟩ := hrest'.undriven ty hlen'
    rw [hv] at hexec
    refine ⟨_, hexec, ?_, hd, hicmd⟩
    rw [walk_modWalk_view (fun w => w.out_) _ n n (f := rampStep) fun _ => rfl]
    exact hout
  · obtain ⟨hended, htune⟩ := computePeriod_answers (s := pickUp s n slack) (p := p) (num := num) (d := d) (by rw [hwalk]; exact hwait)
      (InFlight.within (s := s) hd hup rfl) hlen ty
    refine ⟨_, hexec, ?_, ?_⟩
    · exact Ended.earlier hended hup.out (computePeriod_within (pickUp s n slack) n ty).out
    · rw [walk_modWalk_view (fun w => w.tuneWait) _ n n (f := rampStep) fun _ => rfl]
      exact htune

end Sys2Proof
end

section
/-!
PROOFS. The fractions of the Yardmaster's solve as rational numbers: what the operations on `Q` compute, over positive denominators.
-/
set_option Elab.async false -- the kernel evaluations wait for each other: keep them in one thread
namespace Sys2Proof.SolveLaws

open Sys2Proof.Machine

/-! ### Rational numbers -/

section
variable {x y z v : Rat}

theorem div_le_iff_rat (hy : 0 < y) : x / y ≤ z ↔ x ≤ z * y := by rw [← Rat.not_lt, Rat.lt_div_iff hy, Rat.not_lt]

theorem le_div_iff_rat (hy : 0 < y) : z ≤ x / y ↔ z * y ≤ x := by rw [← Rat.not_lt, Rat.div_lt_iff hy, Rat.not_lt]

theorem div_nonneg_rat (hx : 0 ≤ x) (hy : 0 < y) : 0 ≤ x / y := (le_div_iff_rat hy).mpr (by rw [Rat.zero_mul]; exact hx)

theorem div_le_one_rat (hy : 0 < y) (h : x ≤ y) : x / y ≤ 1 := (div_le_iff_rat hy).mpr (by rw [Rat.one_mul]; exact h)

theorem le_max_right_rat (x y : Rat) : y ≤ max x y := by
  rw [Rat.max_def]
  split
  · exact Rat.le_refl
  · next h => exact Rat.le_of_lt (Rat.not_le.mp h)

theorem max_le_rat (hx : x ≤ z) (hy : y ≤ z) : max x y ≤ z := by
  rw [Rat.max_def]
  split
  · exact hy
  · exact hx

theorem le_min_rat (hx : z ≤ x) (hy : z ≤ y) : z ≤ min x y := by
  rw [Rat.min_def]
  split
  · exact hx
  · exact hy

theorem min_le_left_rat (x y : Rat) : min x y ≤ x := by
  rw [Rat.min_def]
  split
  · exact Rat.le_refl
  · next h => exact Rat.le_of_lt (Rat.not_le.mp h)

theorem min_le_right_rat (x y : Rat) : min x y ≤ y := by
  rw [Rat.min_def]
  split
  · next h => exact h
  · exact Rat.le_refl

theorem lt_of_le_of_lt_rat (h : x ≤ y) (h' : y < z) : x < z := Rat.not_le.mp fun hn => Rat.not_le.mpr h' (Rat.le_trans hn h)

theorem mul_le_left_rat (hx : 0 ≤ x) (hy : y ≤ 1) : x * y ≤ x := by
  have h := Rat.mul_le_mul_of_nonneg_left hy hx
  rwa [Rat.mul_one] at h

/-- A common factor cancels. -/
theorem cancel_rat (x y : Rat) (hz : z ≠ 0) : x * z / (y * z) = x / y := by
  rw [Rat.div_def, Rat.div_def, Rat.inv_mul_rev, Rat.mul_assoc, ← Rat.mul_assoc z, Rat.mul_inv_cancel z hz, Rat.one_mul]

theorem div_add_rat (x z : Rat) (hy : y ≠ 0) (hv : v ≠ 0) : x / y + z / v = (x * v + z * y) / (y * v) := by
  rw [← cancel_rat x y hv, ← cancel_rat z v hy, Rat.mul_comm v y, Rat.div_def, Rat.div_def, Rat.div_def, Rat.add_mul]

theorem div_sub_rat (x z : Rat) (hy : y ≠ 0) (hv : v ≠ 0) : x / y - z / v = (x * v - z * y) / (y * v) := by
  rw [← cancel_rat x y hv, ← cancel_rat z v hy, Rat.mul_comm v y, Rat.div_def, Rat.div_def, Rat.div_def, Rat.sub_eq_add_neg, Rat.sub_eq_add_neg,
    Rat.add_mul, Rat.neg_mul]

theorem div_mul_rat (x y z v : Rat) : x / y * (z / v) = x * z / (y * v) := by
  rw [Rat.div_def, Rat.div_def, Rat.div_def, Rat.inv_mul_rev, Rat.mul_comm v⁻¹, Rat.mul_assoc, Rat.mul_assoc, ← Rat.mul_assoc y⁻¹,
    Rat.mul_comm y⁻¹ z, Rat.mul_assoc]

theorem div_div_rat (x y z v : Rat) : x / y / (z / v) = x * v / (y * z) := by
  rw [← div_mul_rat, Rat.div_def (x / y), Rat.div_def z, Rat.inv_mul_rev, Rat.inv_inv, Rat.div_def v]

theorem mul_div_rat (x y z : Rat) : x * y / z = x * (y / z) := by rw [Rat.div_def, Rat.div_def, Rat.mul_assoc]

end

/-! ### Fractions -/

/-- The number that a fraction stands for. -/
def qVal (q : Q) : Rat := (q.num : Rat) / (q.den : Rat)

/-- The fraction is a proper one. -/
abbrev Proper (q : Q) : Prop := 0 < q.den

variable {a b c : Q}

theorem proper_ofInt (i : Int) : Proper (Q.ofInt i) := Nat.one_pos

@[simp] theorem qVal_ofInt (i : Int) : qVal (Q.ofInt i) = i := by
  rw [qVal, Q.ofInt, Rat.div_def, show (((1 : Nat) : Rat)) = 1 from rfl, Rat.inv_eq_of_mul_eq_one (Rat.mul_one 1), Rat.mul_one]

theorem qVal_ofNat (n : Nat) : qVal (Q.ofInt n) = (n : Rat) := by rw [qVal_ofInt, Rat.intCast_natCast]

theorem qVal_zero : qVal (Q.ofInt 0) = 0 := by rw [qVal_ofInt, Rat.intCast_zero]

theorem qVal_zero_nonneg : 0 ≤ qVal (Q.ofInt 0) := qVal_zero ▸ Rat.le_refl

theorem qVal_one : qVal (Q.ofInt 1) = 1 := by rw [qVal_ofInt, Rat.intCast_one]

theorem proper_norm (h : Proper a) : Proper (Q.norm a) := by
  unfold Q.norm
  extract_lets g
  split
  · exact h
  · exact Nat.div_pos (Nat.le_of_dvd h (Nat.gcd_dvd_right _ _)) (by omega)

@[simp] theorem qVal_norm (a : Q) : qVal (Q.norm a) = qVal a := by
  unfold Q.norm qVal
  extract_lets g
  split
  · rfl
  · next hg1 =>
    have hg : (g : Rat) ≠ 0 := fun h => by have := Rat.natCast_eq_zero_iff.mp h; omega
    have hden : (((a.den / g : Nat) : Rat)) * g = a.den := by rw [← Rat.natCast_mul, Nat.div_mul_cancel (Nat.gcd_dvd_right _ _)]
    have hnum : (((a.num / (g : Int) : Int) : Rat)) * g = a.num := by
      rw [← Rat.intCast_natCast, ← Rat.intCast_mul, Int.ediv_mul_cancel (Int.ofNat_dvd_left.mpr (Nat.gcd_dvd_left _ _))]
    rw [← cancel_rat _ _ hg, hden, hnum]

theorem den_pos (h : Proper a) : (0 : Rat) < a.den := Rat.natCast_pos.mpr h

theorem den_ne (h : Proper a) : (a.den : Rat) ≠ 0 := fun h0 => by have := Rat.natCast_eq_zero_iff.mp h0; omega

theorem proper_add (ha : Proper a) (hb : Proper b) : Proper (a.add b) := proper_norm (Nat.mul_pos ha hb)

theorem qVal_add (ha : Proper a) (hb : Proper b) : qVal (a.add b) = qVal a + qVal b := by
  rw [Q.add, qVal_norm, qVal, qVal, qVal, div_add_rat _ _ (den_ne ha) (den_ne hb)]
  simp only [Rat.intCast_add, Rat.intCast_mul, Rat.intCast_natCast, Rat.natCast_mul]

theorem proper_sub (ha : Proper a) (hb : Proper b) : Proper (a.sub b) := proper_norm (Nat.mul_pos ha hb)

theorem qVal_sub (ha : Proper a) (hb : Proper b) : qVal (a.sub b) = qVal a - qVal b := by
  rw [Q.sub, qVal_norm, qVal, qVal, qVal, div_sub_rat _ _ (den_ne ha) (den_ne hb)]
  simp only [Rat.intCast_sub, Rat.intCast_mul, Rat.intCast_natCast, Rat.natCast_mul]

theorem proper_mul (ha : Proper a) (hb : Proper b) : Proper (a.mul b) := proper_norm (Nat.mul_pos ha hb)

theorem qVal_mul (a b : Q) : qVal (a.mul b) = qVal a * qVal b := by
  rw [Q.mul, qVal_norm, qVal, qVal, qVal, div_mul_rat]
  simp only [Rat.intCast_mul, Rat.natCast_mul]

theorem proper_div (ha : Proper a) : Proper (a.div b) := by
  unfold Q.div
  split
  · exact Nat.one_pos
  · next h =>
    have hpos : 0 < b.num.natAbs := Int.natAbs_pos.mpr h
    split <;> exact proper_norm (Nat.mul_pos ha hpos)

theorem qVal_div (a b : Q) : qVal (a.div b) = qVal a / qVal b := by
  unfold Q.div
  split
  · next h =>
    have hb : qVal b = 0 := by rw [qVal, h, Rat.intCast_zero, Rat.div_def, Rat.zero_mul]
    rw [hb, Rat.div_def (qVal a), Rat.inv_zero, Rat.mul_zero]
    exact qVal_ofInt 0
  · split
    · next _ h =>
      have habs : ((b.num.natAbs : Nat) : Rat) = (b.num : Rat) := by rw [← Rat.intCast_natCast, Int.natAbs_of_nonneg (Int.le_of_lt h)]
      rw [qVal_norm, qVal, qVal, qVal, div_div_rat]
      simp only [Rat.intCast_mul, Rat.natCast_mul, Rat.intCast_natCast, habs]
    · next hne h =>
      have habs : ((b.num.natAbs : Nat) : Rat) = -(b.num : Rat) := by
        rw [← Rat.intCast_natCast, Int.ofNat_natAbs_of_nonpos (Int.not_lt.mp h), Rat.intCast_neg]
      have hminus : (-1 : Rat) ≠ 0 := by decide
      rw [qVal_norm, qVal, qVal, qVal, div_div_rat, ← cancel_rat (_ * _) _ hminus]
      simp only [Rat.intCast_mul, Rat.natCast_mul, Rat.intCast_natCast, Rat.intCast_neg, habs, Rat.mul_neg, Rat.mul_one]

theorem lt_iff (ha : Proper a) (hb : Proper b) : a.lt b = true ↔ qVal a < qVal b := by
  have hswap : (b.num : Rat) / b.den * a.den = b.num * a.den / b.den := by
    rw [Rat.div_def, Rat.div_def, Rat.mul_assoc, Rat.mul_assoc, Rat.mul_comm (b.den : Rat)⁻¹]
  rw [Q.lt, decide_eq_true_eq, qVal, qVal, Rat.div_lt_iff (den_pos ha), hswap, Rat.lt_div_iff (den_pos hb), ← Rat.intCast_lt_intCast]
  simp only [Rat.intCast_mul, Rat.intCast_natCast]

theorem le_iff (ha : Proper a) (hb : Proper b) : a.le b = true ↔ qVal a ≤ qVal b := by
  rw [← Rat.not_lt, ← lt_iff hb ha, Q.le, Q.lt, decide_eq_true_eq, decide_eq_true_eq, Int.not_lt]

theorem proper_min (ha : Proper a) (hb : Proper b) : Proper (a.min b) := by
  unfold Q.min
  split
  · exact ha
  · exact hb

theorem proper_max (ha : Proper a) (hb : Proper b) : Proper (a.max b) := by
  unfold Q.max
  split
  · exact hb
  · exact ha

theorem qVal_min (ha : Proper a) (hb : Proper b) : qVal (a.min b) = min (qVal a) (qVal b) := by
  unfold Q.min
  split
  · next h => rw [Rat.min_def, if_pos ((le_iff ha hb).mp h)]
  · next h => rw [Rat.min_def, if_neg fun hn => h ((le_iff ha hb).mpr hn)]

theorem qVal_max (ha : Proper a) (hb : Proper b) : qVal (a.max b) = max (qVal a) (qVal b) := by
  unfold Q.max
  split
  · next h => rw [Rat.max_def, if_pos ((le_iff ha hb).mp h)]
  · next h => rw [Rat.max_def, if_neg fun hn => h ((le_iff ha hb).mpr hn)]

theorem floor_nonneg (ha : Proper a) (h : 0 ≤ qVal a) : 0 ≤ a.floor := by
  rw [qVal, le_div_iff_rat (den_pos ha), Rat.zero_mul, Rat.intCast_nonneg] at h
  exact Int.ediv_nonneg h (Int.natCast_nonneg _)

theorem floor_le {i : Int} (ha : Proper a) (h : qVal a ≤ i) : a.floor ≤ i := by
  rw [qVal, div_le_iff_rat (den_pos ha), ← Rat.intCast_natCast, ← Rat.intCast_mul, Rat.intCast_le_intCast] at h
  exact Int.ediv_le_of_le_mul (Int.natCast_pos.mpr ha) h

/-! ### Lists of fractions -/

abbrev AllProper (l : List Q) : Prop := ∀ q ∈ l, Proper q

/-- The entry of a list of powers, zero beyond it. -/
abbrev qAt (l : List Q) (k : Nat) : Q := l.getD k (Q.ofInt 0)

variable {l g w : List Q} {k : Nat}

theorem AllProper.at (h : AllProper l) (k : Nat) : Proper (qAt l k) := by
  rw [qAt, List.getD_eq_getElem?_getD]
  cases hk : l[k]? with
  | none => exact proper_ofInt 0
  | some q => exact h q (List.mem_of_getElem? hk)

theorem AllProper.sum (h : AllProper l) : Proper (Q.sum l) := by
  unfold Q.sum
  suffices hacc : ∀ acc, Proper acc → Proper (l.foldl Q.add acc) from hacc _ Nat.one_pos
  induction l with
  | nil => exact fun _ hacc => hacc
  | cons q l ih =>
    exact fun acc hacc => ih (fun x hx => h x (List.mem_cons_of_mem _ hx)) _ (proper_add hacc (h q (List.mem_cons_self ..)))

theorem qAt_map_range {n : Nat} (f : Nat → Q) (hk : k < n) : qAt ((List.range n).map f) k = f k := by
  simp [qAt, List.getD_eq_getElem?_getD, hk]

theorem allProper_map {α : Type} {l : List α} {f : α → Q} (h : ∀ x ∈ l, Proper (f x)) : AllProper (l.map f) := by
  intro q hq
  obtain ⟨x, hx, rfl⟩ := List.mem_map.mp hq
  exact h x hx

theorem along_length (x : Q) (h : w.length = g.length) : (along g w x).length = g.length := by
  simp [along, h]

theorem along_at (x : Q) (hg : k < g.length) (hw : k < w.length) : qAt (along g w x) k = (qAt g k).add (x.mul (qAt w k)) := by
  simp only [along, qAt, List.getD_eq_getElem?_getD, List.getElem?_zipWith, List.getElem?_eq_getElem hg, List.getElem?_eq_getElem hw,
    Option.getD_some]

theorem allProper_along {x : Q} (hg : AllProper g) (hw : AllProper w) (hx : Proper x) : AllProper (along g w x) := by
  intro q hq
  obtain ⟨i, hi, rfl⟩ := List.mem_iff_getElem.mp hq
  simp only [along, List.getElem_zipWith]
  exact proper_add (hg _ (List.getElem_mem _)) (proper_mul hx (hw _ (List.getElem_mem _)))

/-! ### Loads are fractions -/

/-- The limits of a net are fractions. -/
structure NetProper (net : Net) : Prop where
  cap : AllProper net.cap
  store : AllProper net.store

variable {net : Net} {st : List FStall}

theorem powerAt_proper (hg : AllProper g) (i : Nat) : Proper (powerAt st g i) := by
  unfold powerAt
  split
  · exact hg.at _
  · exact proper_ofInt 0

theorem rawLoad_proper (hg : AllProper g) (hl : AllProper l) (i : Nat) : Proper (rawLoad net st g i l) := by
  unfold rawLoad
  split
  · exact proper_ofInt 0
  · extract_lets kids own
    have hkids : AllProper kids := allProper_map fun k _ => by
      split
      · split
        · exact hl.at k
        · exact proper_ofInt 0
      · exact proper_ofInt 0
    have hown : Proper own := by
      unfold own
      split
      · exact powerAt_proper hg i
      · exact hkids.sum
    split
    · exact proper_mul hown (by decide : 0 < 1000)
    · exact hown

theorem nodeLoad_proper (hn : NetProper net) (i : Nat) {raw : Q} (hr : Proper raw) : Proper (nodeLoad net i raw) := by
  unfold nodeLoad
  split
  · split
    · exact proper_max (proper_sub hr (hn.store.at i)) (proper_ofInt 0)
    · exact hr
  · exact hr

theorem loadsFrom_proper (hn : NetProper net) (hg : AllProper g) (n : Nat) {l : List Q} (hl : AllProper l) :
    AllProper (loadsFrom net st g n l) := by
  induction n generalizing l with
  | zero => exact hl
  | succ n ih => exact ih (List.forall_mem_cons.mpr ⟨nodeLoad_proper hn n (rawLoad_proper hg hl n), hl⟩)

theorem loads_proper (hn : NetProper net) (hg : AllProper g) : AllProper (loads net st g) := loadsFrom_proper hn hg _ (List.forall_mem_nil _)

theorem busCurrent_proper (hg : AllProper g) (i : Nat) : Proper (busCurrent net st g i) := by
  unfold busCurrent
  refine AllProper.sum (allProper_map fun k _ => ?_)
  split
  · split
    · exact proper_div (hg.at k)
    · exact proper_ofInt 0
  · exact proper_ofInt 0

/-- Amounts used and limits are fractions. -/
theorem usage_proper (hn : NetProper net) (hg : AllProper g) {u : Q × Q} (hu : u ∈ usage net st g) : Proper u.1 ∧ Proper u.2 := by
  unfold usage at hu
  rcases List.mem_append.mp hu with h | h
  · obtain ⟨i, -, rfl⟩ := List.mem_map.mp h
    exact ⟨(loads_proper hn hg).at i, hn.cap.at i⟩
  · obtain ⟨i, -, rfl⟩ := List.mem_map.mp h
    exact ⟨busCurrent_proper hg i, proper_ofInt _⟩

/-! ### The step of a fill -/

/-- A step between zero and `upper`. -/
def StepIn (upper : Rat) (x : Q) : Prop := Proper x ∧ 0 ≤ qVal x ∧ qVal x ≤ upper

/-- In increasing order. -/
abbrev Rising (l : List Q) : Prop := l.Pairwise fun a b => qVal a ≤ qVal b

theorem mem_insertQ {x y : Q} : y ∈ insertQ x l ↔ y = x ∨ y ∈ l := by
  induction l with
  | nil => simp [insertQ]
  | cons a l ih =>
    unfold insertQ
    split
    · simp
    · simp only [List.mem_cons, ih]
      exact or_left_comm

theorem rising_insertQ {x : Q} (hx : Proper x) (hl : AllProper l) (h : Rising l) : Rising (insertQ x l) := by
  induction l with
  | nil => simp [insertQ]
  | cons a l ih =>
    obtain ⟨hal, hrest⟩ := List.pairwise_cons.mp h
    have ha : Proper a := hl a (List.mem_cons_self ..)
    unfold insertQ
    split
    · next hle =>
      have hxa : qVal x ≤ qVal a := (le_iff hx ha).mp hle
      exact List.pairwise_cons.mpr ⟨fun b hb => (List.mem_cons.mp hb).elim (fun e => e ▸ hxa) fun hb => Rat.le_trans hxa (hal b hb), h⟩
    · next hle =>
      have hax : qVal a ≤ qVal x := Rat.le_of_lt (Rat.not_le.mp fun hn => hle ((le_iff hx ha).mpr hn))
      refine List.pairwise_cons.mpr ⟨fun b hb => ?_, ih (fun q hq => hl q (List.mem_cons_of_mem _ hq)) hrest⟩
      rcases mem_insertQ.mp hb with rfl | hb
      · exact hax
      · exact hal b hb

variable {up : Rat}

theorem foldl_min_in {cs : List Q} {c : Q} (hc : StepIn up c) (hcs : ∀ x ∈ cs, StepIn up x) : StepIn up (cs.foldl Q.min c) := by
  induction cs generalizing c with
  | nil => exact hc
  | cons x cs ih =>
    refine ih ?_ fun y hy => hcs y (List.mem_cons_of_mem _ hy)
    unfold Q.min
    split
    · exact hc
    · exact hcs x (List.mem_cons_self ..)

/-- Where a rising constraint meets its limit between two steps lies between them. -/
theorem cut_in {lo hi u v lim : Q} (hlo : StepIn up lo) (hhi : StepIn up hi) (hle : qVal lo ≤ qVal hi) (hu : Proper u) (hv : Proper v)
    (hlim : Proper lim) (huv : u.lt v = true) (hlv : lim.lt v = true) :
    StepIn up ((lo.add ((hi.sub lo).mul ((lim.sub u).div (v.sub u)))).max lo) := by
  obtain ⟨hlop, hlo0, -⟩ := hlo
  obtain ⟨hhip, -, hhi1⟩ := hhi
  have hlohi : qVal lo ≤ up := Rat.le_trans hle hhi1
  have hfrac : Proper ((lim.sub u).div (v.sub u)) := proper_div (proper_sub hlim hu)
  have hmul : Proper ((hi.sub lo).mul ((lim.sub u).div (v.sub u))) := proper_mul (proper_sub hhip hlop) hfrac
  refine ⟨proper_max (proper_add hlop hmul) hlop, ?_, ?_⟩
  · rw [qVal_max (proper_add hlop hmul) hlop]
    exact Rat.le_trans hlo0 (le_max_right_rat _ _)
  · rw [qVal_max (proper_add hlop hmul) hlop, qVal_add hlop hmul, qVal_mul, qVal_sub hhip hlop, qVal_div, qVal_sub hlim hu, qVal_sub hv hu]
    have huv' := (lt_iff hu hv).mp huv
    have hlv' := (lt_iff hlim hv).mp hlv
    have hone : (qVal lim - qVal u) / (qVal v - qVal u) ≤ 1 := div_le_one_rat (by grind) (by grind)
    have hgap : (qVal hi - qVal lo) * ((qVal lim - qVal u) / (qVal v - qVal u)) ≤ qVal hi - qVal lo :=
      mul_le_left_rat (by grind) hone
    exact max_le_rat (by grind) hlohi

theorem walkSteps_in (hn : NetProper net) (hg : AllProper g) (hw : AllProper w) {l : List Q} {lo : Q} (hlo : StepIn up lo)
    (hl : ∀ x ∈ l, StepIn up x) (hr : Rising (lo :: l)) : StepIn up (walkSteps net st g w lo l) := by
  induction l generalizing lo with
  | nil => exact hlo
  | cons hi l ih =>
    obtain ⟨hfirst, hrest⟩ := List.pairwise_cons.mp hr
    have hhi : StepIn up hi := hl hi (List.mem_cons_self ..)
    unfold walkSteps
    extract_lets a b cuts
    have hcuts : ∀ x ∈ cuts, StepIn up x := by
      intro x hx
      obtain ⟨e, he, hcut⟩ := List.mem_filterMap.mp hx
      obtain ⟨hea, heb⟩ := List.of_mem_zip (a := e.1) (b := e.2) he
      obtain ⟨hu, hlim⟩ := usage_proper hn (allProper_along hg hw hlo.1) hea
      obtain ⟨hv, -⟩ := usage_proper hn (allProper_along hg hw hhi.1) heb
      dsimp only at hcut
      split at hcut
      · next hcond =>
        obtain ⟨huv, hlv⟩ := Bool.and_eq_true_iff.mp hcond
        obtain rfl := Option.some.inj hcut
        exact cut_in hlo hhi (hfirst hi (List.mem_cons_self ..)) hu hv hlim huv hlv
      · cases hcut
    clear_value cuts
    cases cuts with
    | nil => exact ih hhi (fun x hx => hl x (List.mem_cons_of_mem _ hx)) hrest
    | cons c cs => exact foldl_min_in (hcuts c (List.mem_cons_self ..)) fun x hx => hcuts x (List.mem_cons_of_mem _ hx)

/-- A load bends between zero and the whole step. -/
theorem bends_in {upper : Q} (hn : NetProper net) (hg : AllProper g) (hw : AllProper w) (hu : Proper upper) (h0 : 0 ≤ qVal upper) :
    ∀ x ∈ bends net st g w upper, StepIn (qVal upper) x := by
  have hfree : NetProper { net with store := [] } := ⟨hn.cap, List.forall_mem_nil _⟩
  intro x hx
  unfold bends at hx
  obtain ⟨i, -, hbend⟩ := List.mem_filterMap.mp hx
  have hp := (loads_proper (st := st) hfree hg).at i
  have hq := (loads_proper (st := st) hfree (allProper_along hg hw hu)).at i
  have hs := hn.store.at i
  dsimp only at hbend
  split at hbend
  · split at hbend
    · split at hbend
      · next hcond =>
        obtain ⟨hps, hsq⟩ := Bool.and_eq_true_iff.mp hcond
        obtain rfl := Option.some.inj hbend
        have hps' := (lt_iff hp hs).mp hps
        have hsq' := (lt_iff hs hq).mp hsq
        refine ⟨proper_mul hu (proper_div (proper_sub hs hp)), ?_, ?_⟩
        · rw [qVal_mul, qVal_div, qVal_sub hs hp, qVal_sub hq hp]
          exact Rat.mul_nonneg h0 (div_nonneg_rat (by grind) (by grind))
        · rw [qVal_mul, qVal_div, qVal_sub hs hp, qVal_sub hq hp]
          exact mul_le_left_rat h0 (div_le_one_rat (by grind) (by grind))
      · cases hbend
    · cases hbend
  · cases hbend

/-- The step of a fill lies between zero and the step asked for. -/
theorem maxStep_in {upper : Q} (hn : NetProper net) (hg : AllProper g) (hw : AllProper w) (hu : Proper upper) (h0 : 0 ≤ qVal upper) :
    StepIn (qVal upper) (maxStep net st g w upper) := by
  unfold maxStep
  have hzero : StepIn (qVal upper) (Q.ofInt 0) := ⟨proper_ofInt 0, qVal_zero_nonneg, by rw [qVal_zero]; exact h0⟩
  have hsorted : ∀ bs : List Q, (∀ x ∈ bs, StepIn (qVal upper) x) → ∀ l, (∀ x ∈ l, StepIn (qVal upper) x) → Rising l →
      (∀ x ∈ bs.foldl (fun l x => insertQ x l) l, StepIn (qVal upper) x) ∧ Rising (bs.foldl (fun l x => insertQ x l) l) := by
    intro bs
    induction bs with
    | nil => exact fun _ l hl hr => ⟨hl, hr⟩
    | cons b bs ih =>
      intro hbs l hl hr
      refine ih (fun x hx => hbs x (List.mem_cons_of_mem _ hx)) _ (fun x hx => ?_)
        (rising_insertQ (hbs b (List.mem_cons_self ..)).1 (fun q hq => (hl q hq).1) hr)
      rcases mem_insertQ.mp hx with rfl | hx
      · exact hbs x (List.mem_cons_self ..)
      · exact hl x hx
  obtain ⟨hall, hrise⟩ := hsorted _ (bends_in (st := st) hn hg hw hu h0) [upper]
    (List.forall_mem_singleton.mpr ⟨hu, h0, Rat.le_refl⟩) (List.pairwise_singleton _ _)
  exact walkSteps_in hn hg hw hzero hall (List.pairwise_cons.mpr ⟨fun x hx => by rw [qVal_zero]; exact (hall x hx).2.1, hrise⟩)

end Sys2Proof.SolveLaws
end

section
/-!
PROOFS. The solve keeps every stall within its demand (R164-R166, R171): floors, fills, export and the clamp.
-/
set_option Elab.async false -- the kernel evaluations wait for each other: keep them in one thread
namespace Sys2Proof.SolveLaws

open Sys2Proof.Machine

variable {net : Net} {st : List FStall} {d f g w : List Q} {k : Nat}

/-! ### Filling towards the demands (R164, R165) -/

/-- Powers of the stalls between zero and `d`. -/
structure Levels (st : List FStall) (d g : List Q) : Prop where
  length : g.length = st.length
  proper : AllProper g
  within : ∀ k < st.length, 0 ≤ qVal (qAt g k) ∧ qVal (qAt g k) ≤ qVal (qAt d k)

theorem along_within {x : Q} (hg : Levels st d g) (hw : AllProper w) (hlen : w.length = st.length) (hx : Proper x)
    (h : ∀ k < st.length, 0 ≤ qVal (qAt g k) + qVal x * qVal (qAt w k) ∧ qVal (qAt g k) + qVal x * qVal (qAt w k) ≤ qVal (qAt d k)) :
    Levels st d (along g w x) where
  length := (along_length x (hlen.trans hg.length.symm)).trans hg.length
  proper := allProper_along hg.proper hw hx
  within k hk := by
    rw [along_at x (hg.length ▸ hk) (hlen ▸ hk), qVal_add (hg.proper.at k) (proper_mul hx (hw.at k)), qVal_mul]
    exact h k hk

/-- The least of some rooms. -/
theorem foldl_min_room {room : Nat → Q} {ks : List Nat} {m : Q} (hm : Proper m ∧ 0 ≤ qVal m) (hr : ∀ k ∈ ks, Proper (room k) ∧ 0 ≤ qVal (room k)) :
    let u := ks.foldl (fun m k => m.min (room k)) m
    Proper u ∧ 0 ≤ qVal u ∧ qVal u ≤ qVal m ∧ ∀ k ∈ ks, qVal u ≤ qVal (room k) := by
  induction ks generalizing m with
  | nil => exact ⟨hm.1, hm.2, Rat.le_refl, fun _ hk => absurd hk List.not_mem_nil⟩
  | cons a ks ih =>
    obtain ⟨hap, ha0⟩ := hr a (List.mem_cons_self ..)
    have hmin := qVal_min hm.1 hap
    obtain ⟨hp, h0, hle, hall⟩ := ih (m := m.min (room a)) ⟨proper_min hm.1 hap, by rw [hmin]; exact le_min_rat hm.2 ha0⟩
      fun k hk => hr k (List.mem_cons_of_mem _ hk)
    rw [hmin] at hle
    exact ⟨hp, h0, Rat.le_trans hle (min_le_left_rat _ _), List.forall_mem_cons.mpr ⟨Rat.le_trans hle (min_le_right_rat _ _), hall⟩⟩

/-- A stall that a fill of its tier raises (R164). -/
def fills (net : Net) (st : List FStall) (d : List Q) (tier : Nat) (g : List Q) (k : Nat) : Bool :=
  match st[k]? with
  | some x => decide (x.tier = tier) && (qAt g k).lt (qAt d k) && !underFull net st g k
  | none => false

/-- The weight of a stall as a fraction. -/
def weightAt (st : List FStall) (k : Nat) : Q :=
  match st[k]? with
  | some x => Q.ofInt x.weight
  | none => Q.ofInt 0

/-- How far the fill may go before stall `k` reaches its demand. -/
def roomAt (st : List FStall) (d g : List Q) (k : Nat) : Q := ((qAt d k).sub (qAt g k)).div (weightAt st k)

/-- The stalls that a round raises, the weights it raises them by, and the most that none of them passes its demand with. -/
def raised (net : Net) (st : List FStall) (d : List Q) (tier : Nat) (g : List Q) : List Nat :=
  (List.range st.length).filter (fills net st d tier g)

def raiseBy (net : Net) (st : List FStall) (d : List Q) (tier : Nat) (g : List Q) : List Q :=
  (List.range st.length).map fun k => if fills net st d tier g k then weightAt st k else Q.ofInt 0

def raiseMost (net : Net) (st : List FStall) (d : List Q) (tier : Nat) (g : List Q) (k0 : Nat) : Q :=
  (raised net st d tier g).foldl (fun m k => m.min (roomAt st d g k)) (roomAt st d g k0)

/-- One round of a fill. -/
theorem fillTier_succ (net : Net) (st : List FStall) (d : List Q) (tier n : Nat) (g : List Q) :
    fillTier net st d tier (n + 1) g =
      match raised net st d tier g with
      | [] => g
      | k0 :: _ => fillTier net st d tier n
          (along g (raiseBy net st d tier g) (maxStep net st g (raiseBy net st d tier g) (raiseMost net st d tier g k0))) := by
  rw [fillTier]
  rfl

theorem weightAt_proper (k : Nat) : Proper (weightAt st k) := by
  unfold weightAt
  split <;> exact proper_ofInt _

theorem weightAt_pos (hw : ∀ x ∈ st, 0 < x.weight) (hk : k < st.length) : 0 < qVal (weightAt st k) := by
  have hx := hw st[k] (List.getElem_mem hk)
  rw [weightAt, List.getElem?_eq_getElem hk]
  dsimp only
  rw [qVal_ofNat]
  exact Rat.natCast_pos.mpr hx

theorem raiseBy_proper (tier : Nat) : AllProper (raiseBy net st d tier g) := allProper_map fun k _ => by
  split
  · exact weightAt_proper k
  · exact proper_ofInt 0

theorem qVal_roomAt (hd : AllProper d) (hg : AllProper g) (k : Nat) :
    qVal (roomAt st d g k) = (qVal (qAt d k) - qVal (qAt g k)) / qVal (weightAt st k) := by
  rw [roomAt, qVal_div, qVal_sub (hd.at k) (hg.at k)]

theorem raiseBy_at (hk : k < st.length) (tier : Nat) :
    qAt (raiseBy net st d tier g) k = if fills net st d tier g k then weightAt st k else Q.ofInt 0 := qAt_map_range _ hk

/-- The most a round raises by is no more than any raised stall has room for. -/
theorem raiseMost_le (hw : ∀ x ∈ st, 0 < x.weight) (hd : AllProper d) (hg : Levels st d g) (tier : Nat) {k0 : Nat}
    (hk0 : k0 ∈ raised net st d tier g) :
    Proper (raiseMost net st d tier g k0) ∧ 0 ≤ qVal (raiseMost net st d tier g k0) ∧
      ∀ k ∈ raised net st d tier g, qVal (raiseMost net st d tier g k0) ≤ qVal (roomAt st d g k) := by
  have hroom : ∀ k ∈ raised net st d tier g, Proper (roomAt st d g k) ∧ 0 ≤ qVal (roomAt st d g k) := by
    intro k hk
    have hk' : k < st.length := List.mem_range.mp (List.mem_filter.mp hk).1
    refine ⟨proper_div (proper_sub (hd.at k) (hg.proper.at k)), ?_⟩
    rw [qVal_roomAt hd hg.proper]
    exact div_nonneg_rat ((Rat.le_iff_sub_nonneg _ _).mp (hg.within k hk').2) (weightAt_pos hw hk')
  obtain ⟨hup, hu0, -, hule⟩ := foldl_min_room (hroom k0 hk0) hroom
  exact ⟨hup, hu0, hule⟩

/-- A round of a fill raises no stall beyond its demand. -/
theorem fillRound_within (hn : NetProper net) (hw : ∀ x ∈ st, 0 < x.weight) (hd : AllProper d) (hg : Levels st d g) (tier : Nat) {k0 : Nat}
    (hk0 : k0 ∈ raised net st d tier g) :
    Levels st d (along g (raiseBy net st d tier g) (maxStep net st g (raiseBy net st d tier g) (raiseMost net st d tier g k0))) := by
  obtain ⟨hup, hu0, hule⟩ := raiseMost_le hw hd hg tier hk0
  obtain ⟨hsp, hs0, hsu⟩ := maxStep_in (st := st) hn hg.proper (raiseBy_proper (st := st) (d := d) (g := g) (net := net) tier) hup hu0
  refine along_within hg (raiseBy_proper tier) (by simp [raiseBy]) hsp fun k hk => ?_
  rw [raiseBy_at hk]
  obtain ⟨hlo, hhi⟩ := hg.within k hk
  split
  · next hact =>
    have hwt := weightAt_pos hw hk
    have hle := Rat.le_trans hsu (hule k (List.mem_filter.mpr ⟨List.mem_range.mpr hk, hact⟩))
    rw [qVal_roomAt hd hg.proper, le_div_iff_rat hwt] at hle
    exact ⟨Rat.add_nonneg hlo (Rat.mul_nonneg hs0 (Rat.le_of_lt hwt)), by grind⟩
  · rw [qVal_zero, Rat.mul_zero, Rat.add_zero]
    exact ⟨hlo, hhi⟩

theorem fillTier_within (hn : NetProper net) (hw : ∀ x ∈ st, 0 < x.weight) (hd : AllProper d) (hg : Levels st d g) (tier n : Nat) :
    Levels st d (fillTier net st d tier n g) := by
  induction n generalizing g with
  | zero => exact hg
  | succ n ih =>
    rw [fillTier_succ]
    split
    · exact hg
    · next k0 t hks => exact ih (fillRound_within hn hw hd hg tier (hks ▸ List.mem_cons_self ..))

theorem fillAll_within (hn : NetProper net) (hw : ∀ x ∈ st, 0 < x.weight) (hd : AllProper d) (hg : Levels st d g) :
    Levels st d (fillAll net st d g) := by
  unfold fillAll
  generalize List.range 4 = ts
  induction ts generalizing g with
  | nil => exact hg
  | cons t ts ih => exact ih (fillTier_within hn hw hd hg t _)

/-! ### Floors (R164) -/

/-- The floors of the tiers below `t` have been given, scaled; the others not. -/
structure FloorsTo (st : List FStall) (f : List Q) (t : Nat) (g : List Q) : Prop where
  length : g.length = st.length
  proper : AllProper g
  given : ∀ k x, st[k]? = some x → (x.tier < t → 0 ≤ qVal (qAt g k) ∧ qVal (qAt g k) ≤ qVal (qAt f k)) ∧ (t ≤ x.tier → qVal (qAt g k) = 0)

/-- The floors of one tier. -/
def tierFloors (st : List FStall) (f : List Q) (t : Nat) : List Q :=
  (List.range st.length).map fun k => match st[k]? with
    | some x => if x.tier = t then qAt f k else Q.ofInt 0
    | none => Q.ofInt 0

theorem tierFloors_proper (hf : AllProper f) (t : Nat) : AllProper (tierFloors st f t) := allProper_map fun k _ => by
  split
  · split
    · exact hf.at k
    · exact proper_ofInt 0
  · exact proper_ofInt 0

theorem tierFloors_at {x : FStall} (hx : st[k]? = some x) (t : Nat) : qAt (tierFloors st f t) k = if x.tier = t then qAt f k else Q.ofInt 0 := by
  have hk : k < st.length := (List.getElem?_eq_some_iff.mp hx).1
  rw [tierFloors, qAt_map_range _ hk, hx]

theorem floorsTo_succ (hn : NetProper net) (hf : AllProper f) (h0 : ∀ k < st.length, 0 ≤ qVal (qAt f k)) {t : Nat} (h : FloorsTo st f t g) :
    FloorsTo st f (t + 1) (if (tierFloors st f t).all (fun x => x.num = 0) then g
      else along g (tierFloors st f t) (maxStep net st g (tierFloors st f t) (Q.ofInt 1))) := by
  obtain ⟨hlen, hp, hgiven⟩ := h
  split
  · refine ⟨hlen, hp, fun k x hx => ⟨fun ht => ?_, fun ht => (hgiven k x hx).2 (Nat.le_of_succ_le ht)⟩⟩
    rcases Nat.lt_or_eq_of_le (Nat.le_of_lt_succ ht) with hlt | heq
    · exact (hgiven k x hx).1 hlt
    · rw [(hgiven k x hx).2 (Nat.le_of_eq heq.symm)]
      exact ⟨Rat.le_refl, h0 k (List.getElem?_eq_some_iff.mp hx).1⟩
  · have hwp := tierFloors_proper (st := st) hf t
    have hwl : (tierFloors st f t).length = g.length := by simp [tierFloors, hlen]
    obtain ⟨hsp, hs0, hs1⟩ := maxStep_in (st := st) (upper := Q.ofInt 1) hn hp hwp (proper_ofInt 1) (by rw [qVal_one]; decide)
    refine ⟨(along_length _ hwl).trans hlen, allProper_along hp hwp hsp, fun k x hx => ?_⟩
    have hk : k < st.length := (List.getElem?_eq_some_iff.mp hx).1
    rw [along_at _ (hlen ▸ hk) (by rw [hwl, hlen]; exact hk), qVal_add (hp.at k) (proper_mul hsp (hwp.at k)), qVal_mul, tierFloors_at hx]
    obtain ⟨hbelow, habove⟩ := hgiven k x hx
    by_cases ht : x.tier = t
    · rw [if_pos ht, habove (Nat.le_of_eq ht.symm), Rat.zero_add]
      refine ⟨fun _ => ⟨Rat.mul_nonneg hs0 (h0 k hk), by rw [Rat.mul_comm]; exact mul_le_left_rat (h0 k hk) (by rwa [qVal_one] at hs1)⟩, fun hlt => ?_⟩
      omega
    · rw [if_neg ht, qVal_zero, Rat.mul_zero, Rat.add_zero]
      exact ⟨fun hlt => hbelow (by omega), fun hle => habove (by omega)⟩

/-- Pass 1 up to a tier: the powers and each tier's fraction. -/
def floorsUpTo (net : Net) (st : List FStall) (f : List Q) (n : Nat) : List Q × List (Option Q) :=
  (List.range n).foldl (fun acc t =>
    if (tierFloors st f t).all fun x => x.num = 0 then (acc.1, acc.2 ++ [none])
    else (along acc.1 (tierFloors st f t) (maxStep net st acc.1 (tierFloors st f t) (Q.ofInt 1)),
      acc.2 ++ [some (maxStep net st acc.1 (tierFloors st f t) (Q.ofInt 1))])) ((List.range st.length).map fun _ => Q.ofInt 0, [])

theorem floorPass_eq (net : Net) (st : List FStall) (f : List Q) : floorPass net st f = floorsUpTo net st f 4 := rfl

theorem floorsUpTo_given (hn : NetProper net) (hf : AllProper f) (h0 : ∀ k < st.length, 0 ≤ qVal (qAt f k)) (n : Nat) :
    FloorsTo st f n (floorsUpTo net st f n).1 := by
  unfold floorsUpTo
  induction n with
  | zero =>
    refine ⟨by simp, allProper_map fun _ _ => proper_ofInt 0, fun k x hx => ⟨fun h => absurd h (Nat.not_lt_zero _), fun _ => ?_⟩⟩
    have hk : k < st.length := (List.getElem?_eq_some_iff.mp hx).1
    rw [List.range_zero, List.foldl_nil, qAt_map_range _ hk, qVal_zero]
  | succ n ih =>
    rw [List.range_succ, List.foldl_append, List.foldl_cons, List.foldl_nil]
    have hstep := floorsTo_succ hn hf h0 ih
    split at hstep
    · next h => rw [if_pos h]; exact hstep
    · next h => rw [if_neg h]; exact hstep

/-- After pass 1 every stall has at most its floor. -/
theorem floorPass_within (hn : NetProper net) (hf : AllProper f) (h0 : ∀ k < st.length, 0 ≤ qVal (qAt f k))
    (hle : ∀ k < st.length, qVal (qAt f k) ≤ qVal (qAt d k)) : Levels st d (floorPass net st f).1 := by
  rw [floorPass_eq]
  obtain ⟨hlen, hp, hgiven⟩ := floorsUpTo_given (net := net) hn hf h0 4
  refine ⟨hlen, hp, fun k hk => ?_⟩
  obtain ⟨hbelow, habove⟩ := hgiven k st[k] (List.getElem?_eq_getElem hk)
  rcases Nat.lt_or_ge st[k].tier 4 with ht | ht
  · exact ⟨(hbelow ht).1, Rat.le_trans (hbelow ht).2 (hle k hk)⟩
  · rw [habove ht]
    exact ⟨Rat.le_refl, Rat.le_trans (h0 k hk) (hle k hk)⟩

/-! ### Export (R166) -/

variable {e : List Q}

/-- Scaling down leaves every power between zero and what it was. -/
theorem scaleBelow_within (below : Nat → Bool) {sum c : Q} (hs : Proper sum) (hc : Proper c) (hc0 : 0 ≤ qVal c) (he : Levels st d e) :
    Levels st d (scaleBelow below sum c e) := by
  unfold scaleBelow
  split
  · next hlt =>
    have hlt' := (lt_iff hc hs).mp hlt
    refine ⟨by simp [he.length], allProper_map fun k _ => ?_, fun k hk => ?_⟩
    · split
      · exact proper_div (proper_mul (he.proper.at k) hc)
      · exact he.proper.at k
    · rw [qAt_map_range _ (he.length ▸ hk)]
      obtain ⟨hlo, hhi⟩ := he.within k hk
      split
      · have hspos : 0 < qVal sum := lt_of_le_of_lt_rat hc0 hlt'
        rw [qVal_div, qVal_mul, mul_div_rat]
        exact ⟨Rat.mul_nonneg hlo (div_nonneg_rat hc0 hspos),
          Rat.le_trans (mul_le_left_rat hlo (div_le_one_rat hspos (Rat.le_of_lt hlt'))) hhi⟩
      · exact ⟨hlo, hhi⟩
  · exact he

theorem exportAt_within (hcap : ∀ q ∈ net.cap, Proper q ∧ 0 ≤ qVal q) (n : Nat) (he : Levels st d e) : Levels st d (exportAt net st n e) := by
  induction n generalizing e with
  | zero => exact he
  | succ n ih =>
    unfold exportAt
    extract_lets below sum e' i
    have hsum : Proper sum := AllProper.sum (allProper_map fun k _ => by
      split
      · exact he.proper.at k
      · exact proper_ofInt 0)
    have hc : Proper (net.cap.getD n (Q.ofInt 0)) ∧ 0 ≤ qVal (net.cap.getD n (Q.ofInt 0)) := by
      rw [List.getD_eq_getElem?_getD]
      cases hk : net.cap[n]? with
      | none => exact ⟨proper_ofInt 0, qVal_zero_nonneg⟩
      | some q => exact hcap q (List.mem_of_getElem? hk)
    have he' : Levels st d e' := scaleBelow_within below hsum hc.1 hc.2 he
    refine ih ?_
    split
    · exact he'
    · exact scaleBelow_within below (busCurrent_proper he'.proper n) (proper_ofInt _) (by rw [qVal_ofNat]; exact Rat.natCast_nonneg) he'

/-! ### Targets (R164-R166) -/

/-- A target between zero and the stall's demand, in its direction. -/
def TargetOk (x : FStall) (v : Int) : Prop :=
  (x.discharge = false → 0 ≤ v ∧ v ≤ x.dem) ∧ (x.discharge = true → -(x.dem : Int) ≤ v ∧ v ≤ 0)

/-- The targets of all stalls are within their demands. -/
def TargetsOk (st : List FStall) (t : List Int) : Prop := t.length = st.length ∧ ∀ k x, st[k]? = some x → TargetOk x (t.getD k 0)

/-- The power of `i` tenths of an ampere at a stall. -/
theorem qVal_watt (x : FStall) (i : Nat) : qVal (x.watt i) = (i : Rat) * (x.vEst : Rat) := by
  rw [FStall.watt, qVal_ofNat, Rat.natCast_mul]

/-- A power below that of the demand is a current below it, rounded down. -/
theorem floor_current {x : FStall} {q : Q} (hq : Proper q) (hv : 0 < x.vEst) (h0 : 0 ≤ qVal q) (h1 : qVal q ≤ qVal (x.watt x.dem)) :
    0 ≤ (q.div (Q.ofInt x.vEst)).floor ∧ (q.div (Q.ofInt x.vEst)).floor ≤ x.dem := by
  have hv' : (0 : Rat) < x.vEst := Rat.natCast_pos.mpr hv
  have hval : qVal (q.div (Q.ofInt x.vEst)) = qVal q / x.vEst := by rw [qVal_div, qVal_ofNat]
  rw [qVal_watt] at h1
  refine ⟨floor_nonneg (proper_div hq) (hval ▸ div_nonneg_rat h0 hv'), floor_le (proper_div hq) ?_⟩
  rw [hval, Rat.intCast_natCast]
  exact (div_le_iff_rat hv').mpr h1

/-- The import power of stall `k` for a list of currents: none where it discharges. -/
def importWatt (st : List FStall) (l : List Nat) (k : Nat) : Q :=
  match st[k]? with
  | some x => if x.discharge then Q.ofInt 0 else x.watt (l.getD k 0)
  | none => Q.ofInt 0

/-- The export power of stall `k` for a list of currents: none where it charges. -/
def exportWatt (st : List FStall) (l : List Nat) (k : Nat) : Q :=
  match st[k]? with
  | some x => if x.discharge then x.watt (l.getD k 0) else Q.ofInt 0
  | none => Q.ofInt 0

/-- The powers that a solve gives for import and for export. -/
def solveImport (fz : Frozen) (d f : List Nat) : List Q :=
  fillAll fz.importNet fz.stalls ((List.range fz.stalls.length).map (importWatt fz.stalls d))
    (floorPass fz.importNet fz.stalls ((List.range fz.stalls.length).map (importWatt fz.stalls f))).1

def solveExport (fz : Frozen) (d : List Nat) : List Q :=
  exportAt fz.exportNet fz.stalls fz.importNet.nodes.length ((List.range fz.stalls.length).map (exportWatt fz.stalls d))

theorem solve_targets (fz : Frozen) (d f : List Nat) : (fz.solve d f).1 =
    (List.range fz.stalls.length).map fun k => match fz.stalls[k]? with
      | some x => if x.discharge then -(((qAt (solveExport fz d) k).div (Q.ofInt x.vEst)).floor)
                  else ((qAt (solveImport fz d f) k).div (Q.ofInt x.vEst)).floor
      | none => 0 := rfl

theorem importNet_proper (fz : Frozen) : NetProper fz.importNet :=
  ⟨allProper_map fun i _ => by split <;> exact proper_ofInt _, allProper_map fun _ _ => proper_ofInt _⟩

theorem exportNet_cap (fz : Frozen) : ∀ q ∈ fz.exportNet.cap, Proper q ∧ 0 ≤ qVal q := by
  intro q hq
  obtain ⟨c, -, rfl⟩ := List.mem_map.mp hq
  refine ⟨proper_ofInt _, ?_⟩
  rw [qVal_ofNat]
  exact Rat.natCast_nonneg

theorem importWatt_proper (st : List FStall) (l : List Nat) (k : Nat) : Proper (importWatt st l k) := by
  unfold importWatt
  split
  · split <;> exact proper_ofInt _
  · exact proper_ofInt 0

theorem exportWatt_proper (st : List FStall) (l : List Nat) (k : Nat) : Proper (exportWatt st l k) := by
  unfold exportWatt
  split
  · split <;> exact proper_ofInt _
  · exact proper_ofInt 0

theorem qVal_importWatt {x : FStall} (hx : st[k]? = some x) (l : List Nat) :
    qVal (importWatt st l k) = if x.discharge then 0 else (l.getD k 0 : Rat) * x.vEst := by
  unfold importWatt
  rw [hx]
  dsimp only
  split
  · exact qVal_zero
  · exact qVal_watt x _

theorem qVal_exportWatt {x : FStall} (hx : st[k]? = some x) (l : List Nat) :
    qVal (exportWatt st l k) = if x.discharge then (l.getD k 0 : Rat) * x.vEst else 0 := by
  unfold exportWatt
  rw [hx]
  dsimp only
  split
  · exact qVal_watt x _
  · exact qVal_zero

theorem getD_map {α : Type} {l : List α} {x : α} (hx : l[k]? = some x) (h : α → Nat) : (l.map h).getD k 0 = h x := by
  simp [List.getD_eq_getElem?_getD, hx]

variable {fz : Frozen}

theorem solveImport_within (hok : ∀ x ∈ fz.stalls, 0 < x.weight ∧ x.floor ≤ x.dem) :
    Levels fz.stalls ((List.range fz.stalls.length).map (importWatt fz.stalls (fz.stalls.map FStall.dem)))
      (solveImport fz (fz.stalls.map FStall.dem) (fz.stalls.map FStall.floor)) := by
  have hdp := allProper_map (l := List.range fz.stalls.length) fun k _ => importWatt_proper fz.stalls (fz.stalls.map FStall.dem) k
  have hfp := allProper_map (l := List.range fz.stalls.length) fun k _ => importWatt_proper fz.stalls (fz.stalls.map FStall.floor) k
  have hview : ∀ k < fz.stalls.length, ∃ x ∈ fz.stalls, fz.stalls[k]? = some x := fun k hk =>
    ⟨fz.stalls[k], List.getElem_mem hk, List.getElem?_eq_getElem hk⟩
  refine fillAll_within (importNet_proper fz) (fun x hx => (hok x hx).1) hdp
    (floorPass_within (importNet_proper fz) hfp (fun k hk => ?_) fun k hk => ?_)
  · obtain ⟨x, -, hx⟩ := hview k hk
    rw [qAt_map_range _ hk, qVal_importWatt hx]
    split
    · exact Rat.le_refl
    · exact Rat.mul_nonneg Rat.natCast_nonneg Rat.natCast_nonneg
  · obtain ⟨x, hmem, hx⟩ := hview k hk
    rw [qAt_map_range _ hk, qAt_map_range _ hk, qVal_importWatt hx, qVal_importWatt hx, getD_map hx, getD_map hx]
    split
    · exact Rat.le_refl
    · have hle : (x.floor : Rat) ≤ x.dem := Rat.natCast_le_natCast.mpr (hok x hmem).2
      exact Rat.mul_le_mul_of_nonneg_right hle Rat.natCast_nonneg

theorem solveExport_within : Levels fz.stalls ((List.range fz.stalls.length).map (exportWatt fz.stalls (fz.stalls.map FStall.dem)))
    (solveExport fz (fz.stalls.map FStall.dem)) := by
  refine exportAt_within (exportNet_cap fz) _ ⟨by simp, allProper_map fun k _ => exportWatt_proper _ _ k, fun k hk => ⟨?_, Rat.le_refl⟩⟩
  rw [qAt_map_range _ hk, qVal_exportWatt (List.getElem?_eq_getElem hk)]
  split
  · exact Rat.mul_nonneg Rat.natCast_nonneg Rat.natCast_nonneg
  · exact Rat.le_refl

/-- A solve over demands and floors within them gives targets within the demands. -/
theorem solve_targetsOk (hok : ∀ x ∈ fz.stalls, 0 < x.vEst ∧ 0 < x.weight ∧ x.floor ≤ x.dem) :
    TargetsOk fz.stalls (fz.solve (fz.stalls.map FStall.dem) (fz.stalls.map FStall.floor)).1 := by
  rw [solve_targets]
  refine ⟨by simp, fun k x hx => ?_⟩
  have hk : k < fz.stalls.length := (List.getElem?_eq_some_iff.mp hx).1
  obtain ⟨hv, -, -⟩ := hok x (List.mem_of_getElem? hx)
  have hval : ∀ F : Nat → Int, ((List.range fz.stalls.length).map F).getD k 0 = F k := fun F => by
    simp [List.getD_eq_getElem?_getD, hk]
  rw [hval, hx]
  dsimp only
  refine ⟨fun hdis => ?_, fun hdis => ?_⟩
  · have hlev := solveImport_within (fz := fz) fun y hy => (hok y hy).2
    obtain ⟨h0, h1⟩ := hlev.within k hk
    rw [qAt_map_range _ hk, qVal_importWatt hx, hdis, getD_map hx, if_neg Bool.false_ne_true] at h1
    rw [hdis]
    exact floor_current (hlev.proper.at k) hv h0 (by rw [qVal_watt]; exact h1)
  · have hlev := solveExport_within (fz := fz)
    obtain ⟨h0, h1⟩ := hlev.within k hk
    rw [qAt_map_range _ hk, qVal_exportWatt hx, hdis, getD_map hx, if_pos rfl] at h1
    rw [hdis]
    obtain ⟨hlo, hhi⟩ := floor_current (hlev.proper.at k) hv h0 (by rw [qVal_watt]; exact h1)
    exact ⟨Int.neg_le_neg hhi, Int.neg_nonpos_of_nonneg hlo⟩

end Sys2Proof.SolveLaws
end

section
/-!
PROOFS. A register field whose window a command does not reach keeps its value.
-/
set_option Elab.async false -- the kernel evaluations wait for each other: keep them in one thread
namespace Sys2Proof.CommandLaws

open Sys2Proof.Machine Sys2Proof.Laws

variable {s t : State} {m : Nat} {f : Fld}

theorem get_outside (w : Nat) (h : Within m s t) (hf : f.win = w) (hm : m.testBit (32 + w % 256) = false) : t.get f = s.get f :=
  h.get f (hf ▸ hm)

theorem flag_outside (w : Nat) (h : Within m s t) (hf : f.win = w) (hm : m.testBit (32 + w % 256) = false) : t.flag f = s.flag f := by
  rw [State.flag, get_outside w h hf hm, State.flag]

theorem getS_outside (w : Nat) (h : Within m s t) (hf : f.win = w) (hm : m.testBit (32 + w % 256) = false) : t.getS f = s.getS f := by
  rw [State.getS, get_outside w h hf hm, State.getS]

end Sys2Proof.CommandLaws
end

section
/-!
PROOFS. The clamp of a solve's targets (R171) and what the end of a scheduled solve writes (R164-R168, R187).
-/
namespace Sys2Proof.SolveLaws

open Sys2Proof.Machine Sys2Proof.Laws Sys2Proof.CommandLaws

variable {fz : Frozen} {s t u : State}

/-! ### The clamp -/

/-- An amount scaled by a ceiling below the sum, rounded down, lies between zero and itself. -/
theorem clamp_amount {v : Int} {c : Nat} {sum : Q} (hv : 0 < v) (hs : Proper sum) (hc : (Q.ofInt (c : Nat)).lt sum = true) :
    0 ≤ (((Q.ofInt v).mul (Q.ofInt (c : Nat))).div sum).floor ∧ (((Q.ofInt v).mul (Q.ofInt (c : Nat))).div sum).floor ≤ v := by
  have hlt := (lt_iff (proper_ofInt _) hs).mp hc
  rw [qVal_ofNat] at hlt
  have hc0 : (0 : Rat) ≤ c := Rat.natCast_nonneg
  have hspos : 0 < qVal sum := lt_of_le_of_lt_rat hc0 hlt
  have hv0 : (0 : Rat) ≤ v := Rat.intCast_nonneg.mpr (Int.le_of_lt hv)
  have hproper := proper_div (proper_mul (proper_ofInt v) (proper_ofInt (c : Nat))) (b := sum)
  have hval : qVal (((Q.ofInt v).mul (Q.ofInt (c : Nat))).div sum) = v * (c / qVal sum) := by
    rw [qVal_div, qVal_mul, qVal_ofInt, qVal_ofNat, mul_div_rat]
  refine ⟨floor_nonneg hproper (hval ▸ Rat.mul_nonneg hv0 (div_nonneg_rat hc0 hspos)), floor_le hproper (hval ▸ ?_)⟩
  exact mul_le_left_rat hv0 (div_le_one_rat hspos (Rat.le_of_lt hlt))

/-- One stall's target as the clamp leaves it: those of one direction below a node are scaled. -/
def clamped (below : FStall → Bool) (pos : Bool) (sum : Q) (c : Nat) (x : FStall) (v : Int) : Int :=
  if below x && decide (if pos then 0 < v else v < 0) then
    (if pos then (((Q.ofInt v).mul (Q.ofInt (c : Nat))).div sum).floor
     else -((((Q.ofInt (-v)).mul (Q.ofInt (c : Nat))).div sum).floor))
  else v

theorem clamped_ok (below : FStall → Bool) (pos : Bool) {sum : Q} {c : Nat} {x : FStall} {v : Int} (hs : Proper sum)
    (hc : (Q.ofInt (c : Nat)).lt sum = true) (h : TargetOk x v) : TargetOk x (clamped below pos sum c x v) := by
  obtain ⟨hchg, hdis⟩ := h
  cases pos with
  | true =>
    show TargetOk x (if (below x && decide (0 < v)) = true then _ else v)
    split
    · next hcond =>
      have hsign := of_decide_eq_true (Bool.and_eq_true_iff.mp hcond).2
      obtain ⟨h0, h1⟩ := clamp_amount (v := v) hsign hs hc
      exact ⟨fun hd => ⟨h0, Int.le_trans h1 (hchg hd).2⟩, fun hd => absurd (hdis hd).2 (Int.not_le.mpr hsign)⟩
    · exact ⟨hchg, hdis⟩
  | false =>
    show TargetOk x (if (below x && decide (v < 0)) = true then _ else v)
    split
    · next hcond =>
      have hsign := of_decide_eq_true (Bool.and_eq_true_iff.mp hcond).2
      obtain ⟨h0, h1⟩ := clamp_amount (v := -v) (Int.neg_pos_of_neg hsign) hs hc
      refine ⟨fun hd => absurd (hchg hd).1 (Int.not_le.mpr hsign), fun hd => ⟨?_, Int.neg_nonpos_of_nonneg h0⟩⟩
      exact Int.le_trans (hdis hd).1 (by have := Int.neg_le_neg h1; rwa [Int.neg_neg] at this)
    · exact ⟨hchg, hdis⟩

theorem zipWith_targetsOk {st : List FStall} {t : List Int} {h : FStall → Int → Int} (ht : TargetsOk st t)
    (hh : ∀ x v, TargetOk x v → TargetOk x (h x v)) : TargetsOk st (List.zipWith h st t) := by
  obtain ⟨hlen, hok⟩ := ht
  refine ⟨by simp [hlen], fun k x hx => ?_⟩
  have hk : k < st.length := (List.getElem?_eq_some_iff.mp hx).1
  have hkt : k < t.length := hlen ▸ hk
  have hv : (List.zipWith h st t).getD k 0 = h x (t.getD k 0) := by
    rw [List.getD_eq_getElem?_getD, List.getElem?_zipWith, hx, List.getD_eq_getElem?_getD, List.getElem?_eq_getElem hkt]
    rfl
  rw [hv]
  exact hh x _ (hok k x hx)

theorem importOf_proper (st : List FStall) (t : List Int) : AllProper (importOf st t) := by
  intro q hq
  obtain ⟨i, hi, rfl⟩ := List.mem_iff_getElem.mp hq
  simp only [importOf, List.getElem_zipWith]
  split <;> exact proper_ofInt _

theorem exportOf_proper (st : List FStall) (t : List Int) : AllProper (exportOf st t) := by
  intro q hq
  obtain ⟨i, hi, rfl⟩ := List.mem_iff_getElem.mp hq
  simp only [exportOf, List.getElem_zipWith]
  split <;> exact proper_ofInt _

theorem exportNet_proper (fz : Frozen) : NetProper fz.exportNet :=
  ⟨fun q hq => (exportNet_cap fz q hq).1, List.forall_mem_nil _⟩

theorem clampNode_ok (i : Nat) {acc : List Int × State} (h : TargetsOk fz.stalls acc.1) : TargetsOk fz.stalls (State.clampNode fz i acc).1 := by
  unfold State.clampNode
  split
  · exact h
  · split
    · exact h
    · next q _ =>
      have hl : Proper ((loads fz.importNet fz.stalls (importOf fz.stalls acc.1)).getD i (Q.ofInt 0)) :=
        (loads_proper (importNet_proper fz) (importOf_proper _ _)).at i
      have he : Proper ((loads fz.exportNet fz.stalls (exportOf fz.stalls acc.1)).getD i (Q.ofInt 0)) :=
        (loads_proper (exportNet_proper fz) (exportOf_proper _ _)).at i
      extract_lets st l e below scale acc'
      have hscale : ∀ (pos : Bool) (sum : Q) (c : Nat) (a : List Int × State), Proper sum → (Q.ofInt (c * 10000 : Nat)).lt sum = true →
          TargetsOk fz.stalls a.1 → TargetsOk fz.stalls (scale pos sum c a).1 := fun pos sum c a hs hc ha =>
        zipWith_targetsOk (h := clamped below pos sum (c * 10000)) ha fun _ _ hv => clamped_ok below pos hs hc hv
      have hacc : TargetsOk fz.stalls acc'.1 := by
        unfold acc'
        split
        · next hc => exact hscale true l q.1 acc hl hc h
        · exact h
      split
      · next hc => exact hscale false e q.2 acc' he hc hacc
      · exact hacc

theorem clampAll_ok {t : List Int} (h : TargetsOk fz.stalls t) : TargetsOk fz.stalls (s.clampAll fz t).1 := by
  unfold State.clampAll
  suffices hfold : ∀ (l : List Nat) (a : List Int × State), TargetsOk fz.stalls a.1 →
      TargetsOk fz.stalls (l.foldl (fun a i => State.clampNode fz i a) a).1 from hfold _ (t, s) h
  intro l
  induction l with
  | nil => exact fun _ ha => ha
  | cons i l ih => exact fun a ha => ih _ (clampNode_ok i ha)

theorem granted_ok {t : List Int} (h : TargetsOk fz.stalls t) : TargetsOk fz.stalls (s.granted t) := by
  unfold State.granted
  split
  · refine ⟨by simpa using h.1, fun k x _ => ?_⟩
    have hzero : (t.map fun _ => (0 : Int)).getD k 0 = 0 := by
      rw [List.getD_eq_getElem?_getD, List.getElem?_map]
      cases t[k]? <;> rfl
    rw [hzero]
    exact ⟨fun _ => ⟨Int.le_refl _, Int.natCast_nonneg _⟩, fun _ => ⟨Int.neg_nonpos_of_nonneg (Int.natCast_nonneg _), Int.le_refl _⟩⟩
  · exact h

/-! ### Targets in their registers -/

theorem toSigned_ofSigned_16 {i : Int} (h0 : -32768 ≤ i) (h1 : i ≤ 32767) : toSigned 16 (ofSigned 16 i % 2 ^ 16) = i := by
  unfold toSigned ofSigned
  simp only [Nat.reducePow, Nat.reduceSub]
  split <;> omega

theorem getS_setS_target (s : State) (n : Nat) {i : Int} (h0 : -32768 ≤ i) (h1 : i ≤ 32767) :
    (s.setS (F.YMS_Sn_GRANT_TARGET n) i).getS (F.YMS_Sn_GRANT_TARGET n) = i := by
  rw [State.getS, State.setS, get_set_self]
  exact toSigned_ofSigned_16 h0 h1

theorem targetKey_ne {n m : Nat} (hn : n < 48) (hm : m < 48) (h : n ≠ m) : (F.YMS_Sn_GRANT_TARGET n).key ≠ (F.YMS_Sn_GRANT_TARGET m).key := by
  simp only [Fld.key, Fld.off, F.YMS_Sn_GRANT_TARGET]; omega

/-- Setting the targets of other stalls leaves a stall's. -/
theorem foldl_setS_ne {l : List (FStall × Int)} {n : Nat} (hn : n < 48) (hl : ∀ q ∈ l, q.1.stall < 48 ∧ q.1.stall ≠ n) (s : State) :
    (l.foldl (fun s q => s.setS (F.YMS_Sn_GRANT_TARGET q.1.stall) q.2) s).getS (F.YMS_Sn_GRANT_TARGET n) =
      s.getS (F.YMS_Sn_GRANT_TARGET n) := by
  induction l generalizing s with
  | nil => rfl
  | cons q l ih =>
    obtain ⟨hq, hne⟩ := hl q (List.mem_cons_self ..)
    rw [List.foldl_cons, ih fun x hx => hl x (List.mem_cons_of_mem _ hx)]
    simp only [State.getS, State.setS]
    rw [get_set_ne _ _ (targetKey_ne hn hq (Ne.symm hne))]

/-- Setting the targets of distinct stalls gives each its own. -/
theorem foldl_setS_self {l : List (FStall × Int)} (hl : ∀ q ∈ l, q.1.stall < 48 ∧ -32768 ≤ q.2 ∧ q.2 ≤ 32767)
    (hnd : (l.map fun q => q.1.stall).Nodup) (s : State) : ∀ q ∈ l,
    (l.foldl (fun s q => s.setS (F.YMS_Sn_GRANT_TARGET q.1.stall) q.2) s).getS (F.YMS_Sn_GRANT_TARGET q.1.stall) = q.2 := by
  induction l generalizing s with
  | nil => exact fun q hq => absurd hq (List.not_mem_nil)
  | cons a l ih =>
    obtain ⟨hnot, hnd'⟩ := List.nodup_cons.mp hnd
    intro q hq
    rw [List.foldl_cons]
    rcases List.mem_cons.mp hq with rfl | hq
    · obtain ⟨h48, h0, h1⟩ := hl q (List.mem_cons_self ..)
      rw [foldl_setS_ne h48 fun x hx => ⟨(hl x (List.mem_cons_of_mem _ hx)).1, fun he => hnot (List.mem_map.mpr ⟨x, hx, he⟩)⟩]
      exact getS_setS_target s _ h0 h1
    · exact ih (fun x hx => hl x (List.mem_cons_of_mem _ hx)) hnd' _ q hq

/-- The targets of all stalls keep their values. -/
def TargetsKept (s t : State) : Prop := ∀ n, t.get (F.YMS_Sn_GRANT_TARGET n) = s.get (F.YMS_Sn_GRANT_TARGET n)

theorem TargetsKept.trans (h : TargetsKept s t) (h' : TargetsKept t u) : TargetsKept s u := fun n => (h' n).trans (h n)

theorem TargetsKept.set (h : TargetsKept s t) (f : Fld) (v : Nat) (hf : f.reg % 0x10000 % 0x20 ≠ 0) : TargetsKept s (t.set f v) :=
  h.trans fun n => get_set_ne t v (key_ne_reg fun he => hf (by rw [← he]; simp only [F.YMS_Sn_GRANT_TARGET]; omega))

theorem TargetsKept.finish (h : TargetsKept s t) (p num st r : Nat) : TargetsKept s (t.finish p num st r) :=
  h.trans fun _ => get_outside 3 (finish_within t p num st r false) rfl rfl

theorem TargetsKept.refreshPolicy (h : TargetsKept s t) (n : Nat) : TargetsKept s (t.refreshPolicy n) := by
  have h0 : (0x1008 + 0x20 * n) % 0x10000 % 0x20 ≠ 0 := by omega
  have h1 : (0x100C + 0x20 * n) % 0x10000 % 0x20 ≠ 0 := by omega
  unfold State.refreshPolicy
  split
  · exact ((((h.set _ _ h0).set _ _ h0).set _ _ h0).set _ _ h1).set _ _ h1
  · split
    · exact h
    · exact ((((h.set _ _ h0).set _ _ h0).set _ _ h0).set _ _ h1).set _ _ h1

theorem TargetsKept.withdraw (h : TargetsKept s t) (a : Ask) : TargetsKept s (t.withdraw a) := by
  unfold State.withdraw
  split
  · exact h
  · exact TargetsKept.refreshPolicy (t := t.modYms fun y => { y with
      policy := modAt y.policy a.target fun _ => (withdrawPolicy a a.oldPolicy t.yms.asks).1
      asks := (withdrawPolicy a a.oldPolicy t.yms.asks).2 }) h _

theorem TargetsKept.asksFrom (h : TargetsKept s t) (fz : Frozen) (k : Nat) : TargetsKept s (State.asksFrom fz k t) := by
  induction k generalizing t with
  | zero => exact h
  | succ k ih =>
    unfold State.asksFrom
    split
    · next a _ =>
      refine ih ?_
      unfold State.askDone
      have h' : TargetsKept s (t.modYms fun y => { y with asks := y.asks.eraseP Ask.used }) := h
      extract_lets res
      split
      · split
        · exact h'.finish _ _ _ _
        · exact (h'.withdraw a).finish _ _ _ _
      · exact h'.finish _ _ _ _
    · exact h

/-- Every stall of the solve shows its target. -/
theorem putTargets_target {ts : List Int} (hlt : ∀ x ∈ fz.stalls, x.stall < 48 ∧ x.dem ≤ 32767) (hnd : (fz.stalls.map FStall.stall).Nodup)
    (hok : TargetsOk fz.stalls ts) (short : List Bool) :
    ∀ x ∈ fz.stalls, TargetOk x ((s.putTargets fz ts short).getS (F.YMS_Sn_GRANT_TARGET x.stall)) := by
  intro x hx
  have hgr := granted_ok (s := s) hok
  unfold State.putTargets
  extract_lets t' s1 r
  have htok : TargetsOk fz.stalls t' := hgr
  have hkept : TargetsKept s1 ((s1.set F.YMS_SITE_LOAD (r.load.getD 0 0)).modYms fun y => { y with rec_ := r, solved := some fz }) :=
    TargetsKept.set (fun _ => rfl) F.YMS_SITE_LOAD _ (by decide)
  obtain ⟨k, hk, rfl⟩ := List.mem_iff_getElem.mp hx
  have hkt : k < t'.length := by rw [htok.1]; exact hk
  have hpair : (fz.stalls[k], t'[k]) ∈ List.zip fz.stalls t' := by
    rw [List.mem_iff_getElem]
    exact ⟨k, by rw [List.length_zip]; exact Nat.lt_min.mpr ⟨hk, hkt⟩, List.getElem_zip⟩
  have hrange : ∀ q ∈ List.zip fz.stalls t', q.1.stall < 48 ∧ -32768 ≤ q.2 ∧ q.2 ≤ 32767 := by
    intro q hq
    obtain ⟨i, hi, rfl⟩ := List.mem_iff_getElem.mp hq
    have his : i < fz.stalls.length := by simp at hi; omega
    have hit : i < t'.length := by simp at hi; omega
    obtain ⟨h48, hdem⟩ := hlt fz.stalls[i] (List.getElem_mem his)
    have hi' := htok.2 i fz.stalls[i] (List.getElem?_eq_getElem his)
    rw [List.getD_eq_getElem?_getD, List.getElem?_eq_getElem hit, Option.getD_some] at hi'
    obtain ⟨hchg, hdis⟩ := hi'
    simp only [List.getElem_zip]
    cases hd : fz.stalls[i].discharge with
    | false => have := hchg hd; omega
    | true => have := hdis hd; omega
  have hnd' : ((List.zip fz.stalls t').map fun q => q.1.stall).Nodup := by
    have hmap : (List.zip fz.stalls t').map (fun q => q.1.stall) = fz.stalls.map FStall.stall := by
      rw [show (fun q : FStall × Int => q.1.stall) = FStall.stall ∘ Prod.fst from rfl, ← List.map_map, List.map_fst_zip (Nat.le_of_eq htok.1.symm)]
    rw [hmap]; exact hnd
  have hset := foldl_setS_self hrange hnd' s (fz.stalls[k], t'[k]) hpair
  have hval := htok.2 k fz.stalls[k] (List.getElem?_eq_getElem hk)
  rw [List.getD_eq_getElem?_getD, List.getElem?_eq_getElem hkt, Option.getD_some] at hval
  rw [State.getS, hkept]
  show TargetOk _ (s1.getS _)
  rw [show s1.getS (F.YMS_Sn_GRANT_TARGET fz.stalls[k].stall) = t'[k] from hset]
  exact hval

/-- What the solve of frozen inputs gives. -/
abbrev solveOf (fz : Frozen) : List Int × List (Option Q) := fz.solve (fz.stalls.map FStall.dem) (fz.stalls.map FStall.floor)

/-- The state in which a solve that ended in time is clamped: its slack kept, the solve over, and scaled floors reported (R33, R164). -/
def solveEnd (s : State) (fz : Frozen) (slack : Int) : State :=
  ((slackMin s F.YMS_SLACK_MIN slack).modYms fun y => { y with frozen := some { fz with solving := false }, flags := y.flags % 2 }).floorShort
    (solveOf fz).2

/-- The targets after the clamp, with the state that reports it. -/
def solveClamp (s : State) (fz : Frozen) (slack : Int) : List Int × State := (solveEnd s fz slack).clampAll fz (solveOf fz).1

/-- The tiers whose floors were scaled. -/
def solveShort (fz : Frozen) : List Bool := (solveOf fz).2.map fun k => match k with
  | some q => q.lt (Q.ofInt 1)
  | none => false

/-- The state with the targets of a solve in force. -/
def solvePut (s : State) (fz : Frozen) (slack : Int) : State :=
  ((solveClamp s fz slack).2.endRamps fz (solveClamp s fz slack).1).putTargets fz (solveClamp s fz slack).1 (solveShort fz)

/-- A solve that ended in time over frozen inputs: its targets, then the setpoints staged and the descriptors answered. -/
theorem exec_solveComplete {slack : Int} (hfz : s.yms.frozen = some fz) (hsolve : fz.solving = true) (hslack : 0 ≤ slack)
    (h9 : s.domainOn 9 = true) :
    exec (.solveComplete slack) s =
      .next ((((solvePut s fz slack).inc F.YMS_CNT_SOLVE).stage fz (solveClamp s fz slack).1).asksDone fz) := by
  have hyms : (slackMin s F.YMS_SLACK_MIN slack).yms.frozen = some fz := by
    rcases slackMin_eq s F.YMS_SLACK_MIN slack with h | h <;> rw [h] <;> exact hfz
  have hgo : ¬ (fz.solving = false ∨ slack < 0) := by simp [hsolve, hslack]
  have hexec : exec (.solveComplete slack) s = execSolveComplete slack s := rfl
  rw [hexec, execSolveComplete, if_neg (by simp [h9])]
  simp only [hyms, if_neg hgo]
  rfl

theorem solvePut_kept (s : State) (fz : Frozen) (slack : Int) : TargetsKept (solvePut s fz slack)
    ((((solvePut s fz slack).inc F.YMS_CNT_SOLVE).stage fz (solveClamp s fz slack).1).asksDone fz) := by
  have hinc : TargetsKept (solvePut s fz slack) ((solvePut s fz slack).inc F.YMS_CNT_SOLVE) :=
    TargetsKept.set (fun _ => rfl) F.YMS_CNT_SOLVE _ (by decide)
  exact TargetsKept.asksFrom (t := ((solvePut s fz slack).inc F.YMS_CNT_SOLVE).stage fz (solveClamp s fz slack).1) hinc fz _

end Sys2Proof.SolveLaws

namespace Sys2Proof

open Sys2Proof.Machine Sys2Proof.SolveLaws

/-- Settles O23: the solve's targets are within the demands, the clamp brings them closer to zero, and nothing written later changes them. -/
theorem targetsWithinDemand : Obligations.TargetsWithinDemand := by
  intro s fz slack hfz hsolve hslack h9 hok hnd
  refine ⟨_, exec_solveComplete hfz hsolve hslack h9, fun x hx => ?_⟩
  have htargets : TargetsOk fz.stalls (solveClamp s fz slack).1 := clampAll_ok (solve_targetsOk fun y hy => by
    obtain ⟨-, hv, hw, hf, -⟩ := hok y hy
    exact ⟨hv, hw, hf⟩)
  have hx' : TargetOk x ((solvePut s fz slack).getS (F.YMS_Sn_GRANT_TARGET x.stall)) := putTargets_target (fun y hy => by
    obtain ⟨h48, -, -, -, hdem⟩ := hok y hy
    exact ⟨h48, hdem⟩) hnd htargets _ x hx
  rw [State.getS, solvePut_kept s fz slack x.stall]
  exact hx'

end Sys2Proof
end

section
/-!
PROOFS. The accumulators of the Weighbridge (O30): the counterexample and what it evaluates to.
-/
set_option Elab.async false -- the kernel evaluations wait for each other: keep them in one thread
namespace Sys2Proof.CommandLaws

open Sys2Proof.Machine Sys2Proof.Laws

/-- A metering device whose FWD register of channel 51 lists a value of 65 bits, more than its field holds. -/
def wideAccumulator : State :=
  { State.reset with
    regs := [((F.WBG_Mc_FWD 51).key, 2 ^ 64)], pwr := { Pwr.init with cold := false, boot := none }
    chrono := 250000 }

/-- No link of `wideAccumulator` holds more than 100 samples. -/
theorem wideAccumulator_msPast (n : Nat) : (wideAccumulator.link n).msPast.length ≤ 100 := by
  have hlinks : ∀ x ∈ wideAccumulator.slk ++ [Slk.init], x.msPast.length ≤ 100 := by decide +kernel
  have hlink : wideAccumulator.link n = (wideAccumulator.slk[n]?).getD Slk.init := List.getD_eq_getElem?_getD
  rw [hlink]
  cases hn : wideAccumulator.slk[n]? with
  | none => exact hlinks _ (List.mem_append_right _ (List.mem_singleton_self _))
  | some x => exact hlinks _ (List.mem_append_left _ (List.mem_of_getElem? hn))

end Sys2Proof.CommandLaws

namespace Sys2Proof

open Sys2Proof.Machine Sys2Proof.Laws Sys2Proof.CommandLaws

/-- Refutes O30: a channel that registers nothing keeps its accumulator, which in `wideAccumulator` stands at 2^96 and not below it. -/
theorem not_energyConserved : ¬ Obligations.EnergyConserved := by
  intro h
  obtain ⟨t, ht, -, hfwd, -⟩ := h wideAccumulator 0 [] [] 51 (by decide +kernel) (by decide +kernel) (by decide) wideAccumulator_msPast
  have hexec : exec (.weighbridgeMsCommit 0 [] []) wideAccumulator = .next ((wideAccumulator.setS F.WBG_SLACK_MIN
      (min 0 (wideAccumulator.getS F.WBG_SLACK_MIN))).commitMs [] []) := by
    have hexec : exec (.weighbridgeMsCommit 0 [] []) wideAccumulator = execWeighbridgeMsCommit 0 [] [] wideAccumulator := rfl
    rw [hexec, execWeighbridgeMsCommit, if_neg (by decide +kernel)]
  rw [hexec] at ht
  obtain rfl := Host.Outcome.next.inj ht
  exact absurd hfwd (by decide +kernel)

end Sys2Proof
end

section
/-!
PROOFS. Reading a register field back after writes of other fields, and what an event leaves as it was.
`(disch := first | exact id rfl | exact key_ne_stride rfl rfl rfl)` settles the side conditions of the lemmas here: fields of
different windows or bits by evaluation, fields of one indexed family by their offsets.
-/
set_option Elab.async false -- the kernel evaluations wait for each other: keep them in one thread
namespace Sys2Proof.CommandLaws

open Sys2Proof.Machine Sys2Proof.Laws

variable {s t u : State} {f g : Fld} {n m : Nat}

/-- Registers of two families of the same stride at different offsets never meet. -/
theorem key_ne_stride {a b k i j : Nat} (hf : f.reg = a + k * i) (hg : g.reg = b + k * j)
    (h : ((0x10000 % k).beq 0 && !((a % k).beq (b % k))) = true) : g.key ≠ f.key := by
  simp only [Bool.and_eq_true, Bool.not_eq_true'] at h
  have hdvd : k ∣ 0x10000 := Nat.dvd_of_mod_eq_zero (Nat.eq_of_beq_eq_true h.1)
  refine key_ne_reg fun he => Nat.ne_of_beq_eq_false h.2 ?_
  have hk := congrArg (· % k) he
  simp only [hf, hg, Nat.mod_mod_of_dvd _ hdvd, Nat.add_mul_mod_self_left] at hk
  exact hk.symm

theorem get_set_win (v : Nat) (h : (g.win % 256).beq (f.win % 256) = false) : (s.set f v).get g = s.get g :=
  get_set_ne s v (key_ne_win (Nat.ne_of_beq_eq_false h))

theorem get_set_lo (v : Nat) (h : (g.lo % 32).beq (f.lo % 32) = false) : (s.set f v).get g = s.get g :=
  get_set_ne s v (key_ne_lo (Nat.ne_of_beq_eq_false h))

theorem get_set_reg (v : Nat) (h : (g.reg % 0x10000).beq (f.reg % 0x10000) = false) : (s.set f v).get g = s.get g :=
  get_set_ne s v (key_ne_reg (Nat.ne_of_beq_eq_false h))

theorem get_set_key (v : Nat) (h : g.key ≠ f.key) : (s.set f v).get g = s.get g := get_set_ne s v h

/-! ### Updates of one stall's parts -/

@[simp] theorem get_modLink (f : Slk → Slk) (g : Fld) : (s.modLink n f).get g = s.get g := rfl
@[simp] theorem get_modWalk (f : Wlk → Wlk) (g : Fld) : (s.modWalk n f).get g = s.get g := rfl
@[simp] theorem get_modHalt (f : Halt → Halt) (g : Fld) : (s.modHalt n f).get g = s.get g := rfl
@[simp] theorem get_modRec (f : StallRec → StallRec) (g : Fld) : (s.modRec n f).get g = s.get g := rfl
@[simp] theorem link_set (f : Fld) (v : Nat) : (s.set f v).link n = s.link n := rfl
@[simp] theorem walk_set (f : Fld) (v : Nat) : (s.set f v).walk n = s.walk n := rfl
@[simp] theorem halt_set (f : Fld) (v : Nat) : (s.set f v).halt n = s.halt n := rfl
@[simp] theorem link_modWalk (f : Wlk → Wlk) : (s.modWalk m f).link n = s.link n := rfl
@[simp] theorem halt_modWalk (f : Wlk → Wlk) : (s.modWalk m f).halt n = s.halt n := rfl
@[simp] theorem link_modHalt (f : Halt → Halt) : (s.modHalt m f).link n = s.link n := rfl
@[simp] theorem walk_modHalt (f : Halt → Halt) : (s.modHalt m f).walk n = s.walk n := rfl
@[simp] theorem walk_modLink (f : Slk → Slk) : (s.modLink m f).walk n = s.walk n := rfl
@[simp] theorem halt_modLink (f : Slk → Slk) : (s.modLink m f).halt n = s.halt n := rfl

theorem halt_modHalt_self (f : Halt → Halt) (h : n < s.haltS.length) : (s.modHalt n f).halt n = f (s.halt n) := getD_modAt_self _ _ _ _ h
theorem halt_modHalt_ne (f : Halt → Halt) (h : m ≠ n) : (s.modHalt n f).halt m = s.halt m := getD_modAt_ne _ _ _ _ _ h
theorem link_modLink_self (f : Slk → Slk) (h : n < s.slk.length) : (s.modLink n f).link n = f (s.link n) := getD_modAt_self _ _ _ _ h
theorem link_modLink_ne (f : Slk → Slk) (h : m ≠ n) : (s.modLink n f).link m = s.link m := getD_modAt_ne _ _ _ _ _ h
@[simp] theorem haltS_length (f : Halt → Halt) : (s.modHalt n f).haltS.length = s.haltS.length := length_modAt _ _ _
@[simp] theorem wlk_length (f : Wlk → Wlk) : (s.modWalk n f).wlk.length = s.wlk.length := length_modAt _ _ _
@[simp] theorem slk_length (f : Slk → Slk) : (s.modLink n f).slk.length = s.slk.length := length_modAt _ _ _

/-! ### Events -/

theorem get_raise (code sev src : Nat) (pay : List Nat) (h : ((f.win % 256).beq 1 || (f.win % 256).beq 14) = false) :
    (s.raise code sev src pay).get f = s.get f := by
  simp only [Bool.or_eq_false_iff] at h
  refine (raise_within s code sev src pay).get f ?_
  have h1 := Nat.ne_of_beq_eq_false h.1
  have h14 := Nat.ne_of_beq_eq_false h.2
  have hw : ∀ w < 256, w ≠ 1 → w ≠ 14 → Nat.testBit 0x400200080004 (32 + w) = false := by decide +kernel
  exact hw _ (Nat.mod_lt _ (by decide)) h1 h14

@[simp] theorem raise_slk (code sev src : Nat) (pay : List Nat) : (s.raise code sev src pay).slk = s.slk :=
  (raise_within s code sev src pay).slk rfl
@[simp] theorem raise_wlk (code sev src : Nat) (pay : List Nat) : (s.raise code sev src pay).wlk = s.wlk :=
  (raise_within s code sev src pay).wlk rfl
@[simp] theorem raise_haltS (code sev src : Nat) (pay : List Nat) : (s.raise code sev src pay).haltS = s.haltS :=
  (raise_within s code sev src pay).haltS rfl
@[simp] theorem raise_hlt (code sev src : Nat) (pay : List Nat) : (s.raise code sev src pay).hlt = s.hlt :=
  (raise_within s code sev src pay).hlt rfl
@[simp] theorem raise_variant (code sev src : Nat) (pay : List Nat) : (s.raise code sev src pay).variant = s.variant :=
  (raise_within s code sev src pay).variant
@[simp] theorem raise_chrono (code sev src : Nat) (pay : List Nat) : (s.raise code sev src pay).chrono = s.chrono :=
  (raise_within s code sev src pay).chrono rfl
@[simp] theorem link_raise (code sev src : Nat) (pay : List Nat) : (s.raise code sev src pay).link n = s.link n := by
  rw [State.link, raise_slk, State.link]
@[simp] theorem walk_raise (code sev src : Nat) (pay : List Nat) : (s.raise code sev src pay).walk n = s.walk n := by
  rw [State.walk, raise_wlk, State.walk]
@[simp] theorem halt_raise (code sev src : Nat) (pay : List Nat) : (s.raise code sev src pay).halt n = s.halt n := by
  rw [State.halt, raise_haltS, State.halt]

end Sys2Proof.CommandLaws
end

section
/-!
PROOFS. The shared operations of modes and stops (R199-R217, R441-R445): which registers they write, and what they make of the
stall's mode and stop.
-/
set_option Elab.async false -- the kernel evaluations wait for each other: keep them in one thread
namespace Sys2Proof.CommandLaws

open Sys2Proof.Machine Sys2Proof.Laws

variable {s t u : State} {f g : Fld} {n m st cause : Nat} {l l' : List Fld}

/-- Beyond what the delivery of events writes, `t` differs from `s` at most in the registers of `l`. -/
def Changes (l : List Fld) (s t : State) : Prop :=
  ∀ f : Fld, f.win % 256 ≠ 1 → f.win % 256 ≠ 14 → (∀ g ∈ l, f.key ≠ g.key) → t.get f = s.get f

theorem Changes.refl (l : List Fld) (s : State) : Changes l s s := fun _ _ _ _ => rfl

theorem Changes.trans (h : Changes l s t) (h' : Changes l t u) : Changes l s u := fun f h1 h14 hf =>
  (h' f h1 h14 hf).trans (h f h1 h14 hf)

theorem Changes.mono (h : Changes l s t) (hl : ∀ g ∈ l, g ∈ l') : Changes l' s t := fun f h1 h14 hf =>
  h f h1 h14 fun g hg => hf g (hl g hg)

theorem Changes.set (h : Changes l s t) (v : Nat) (hg : g ∈ l) : Changes l s (t.set g v) :=
  h.trans fun _ _ _ hf => get_set_ne t v (hf g hg)

theorem Changes.raise (h : Changes l s t) (code sev src : Nat) (pay : List Nat) : Changes l s (t.raise code sev src pay) :=
  h.trans fun _ h1 h14 _ => get_raise code sev src pay (Bool.or_eq_false_iff.mpr
    ⟨Bool.eq_false_iff.mpr fun hb => h1 (Nat.eq_of_beq_eq_true hb),
      Bool.eq_false_iff.mpr fun hb => h14 (Nat.eq_of_beq_eq_true hb)⟩)

theorem Changes.same (h : Changes l s t) (hu : ∀ f, u.get f = t.get f) : Changes l s u := h.trans fun f _ _ _ => hu f

theorem Changes.ite {c : Prop} [Decidable c] {a b : State} (ha : Changes l s a) (hb : Changes l s b) : Changes l s (if c then a else b) := by
  split
  · exact ha
  · exact hb

/-- What the end of a session writes. -/
def restFlds (n : Nat) : List Fld :=
  [F.WLK_Sn_DEGRADE_REMAIN n, F.WLK_Sn_DEGRADE_BLOCKED n, F.HLT_Sn_DEGRADE_PHASE_LEFT n, F.HLT_Sn_LATCH_BLOCKED n,
    F.HLT_Sn_DEGRADE_SENSOR_LEFT n]

/-- What a change of mode writes. -/
def modeFlds (n : Nat) : List Fld :=
  [F.WLK_Sn_MODE_MODE n, F.WLK_Sn_MODE_STATE n, F.HRN_Sn_COOL_FLOOR_MODE n, F.HRN_Sn_COOL_FLOOR_PUMP n, F.HRN_Sn_COOL_FLOOR_VALVE n] ++
    restFlds n

/-- What the start of a stop writes. -/
def stopFlds (n : Nat) : List Fld :=
  [F.HLT_Sn_STATE_CAUSE n, F.HLT_Sn_CNT_STOP_EMERG n, F.HLT_Sn_CNT_STOP_ORDERLY n, F.WLK_Sn_MODE_CAUSE n] ++ modeFlds n

theorem block_changes (s : State) (n cause : Nat) : Changes (restFlds n) s (s.block n cause) := by
  unfold State.block
  refine .ite (.refl _ s) (Changes.raise ?_ _ _ _ _)
  have hrest : ∀ u, Changes (restFlds n) s u →
      Changes (restFlds n) s ((u.setB (F.WLK_Sn_DEGRADE_BLOCKED n) true).setB (F.HLT_Sn_LATCH_BLOCKED n) true) := fun u hu =>
    (hu.set _ (by simp [restFlds])).set _ (by simp [restFlds])
  exact hrest _ (.ite (((Changes.refl _ s).set _ (by simp [restFlds])).set _ (by simp [restFlds])) (.refl _ s))

theorem sessionRest_changes (s : State) (n : Nat) : Changes (restFlds n) s (s.sessionRest n) := by
  unfold State.sessionRest
  exact (Changes.ite (block_changes s n _) (.refl _ s)).set _ (by simp [restFlds])

theorem setMode_changes (s : State) (n m st : Nat) : Changes (modeFlds n) s (s.setMode n m st) := by
  have hset : Changes (modeFlds n) s ((s.set (F.WLK_Sn_MODE_MODE n) m).set (F.WLK_Sn_MODE_STATE n) st) :=
    ((Changes.refl _ s).set _ (by simp [modeFlds])).set _ (by simp [modeFlds])
  unfold State.setMode
  refine .ite (hset.trans ((sessionRest_changes _ n).mono fun g hg => List.mem_append_right _ hg)) (.ite ?_ hset)
  exact ((hset.set _ (by simp [modeFlds])).set _ (by simp [modeFlds])).set _ (by simp [modeFlds])

theorem failMode_changes (s : State) (n cause : Nat) : Changes (stopFlds n) s (s.failMode n cause) := by
  have hr : Changes (stopFlds n) s ((s.set (F.WLK_Sn_MODE_CAUSE n) cause).raise 0x0404 2 n [s.mode n, cause]) :=
    ((Changes.refl _ s).set _ (by simp [stopFlds])).raise _ _ _ _
  unfold State.failMode
  refine .ite ?_ (.ite (hr.same fun _ => rfl) hr)
  exact (hr.trans ((setMode_changes _ n 4 1).mono fun g hg => List.mem_append_right _ hg)).same fun _ => rfl

theorem refreshCeil_get (s : State) (n : Nat) (hf : f.win % 256 ≠ 12) : (s.refreshCeil n).get f = s.get f := by
  refine (refreshCeil_within s n).get f ?_
  have hw : ∀ w < 256, w ≠ 12 → Nat.testBit 0x100000000020 (32 + w) = false := by decide +kernel
  exact hw _ (Nat.mod_lt _ (by decide)) hf

/-! ### The stages of a stop -/

/-- A stop begins: its kind, cause, count and event. -/
def stopBegun (s : State) (n : Nat) (kind : StopKind) (cause : Nat) : State :=
  let i := s.absI n
  let s := s.modHalt n fun h => { h with stop := kind, stopAt := s.chrono, withdrawn := false, allOff := 0 }
  let s := s.set (F.HLT_Sn_STATE_CAUSE n) cause
  let s := if kind = .emergency then s.incSat (F.HLT_Sn_CNT_STOP_EMERG n) else s.incSat (F.HLT_Sn_CNT_STOP_ORDERLY n)
  s.raise 0x0C01 (if kind = .emergency then 3 else 2) n
    ([cause, if kind = .emergency then 1 else 0] ++ le 2 (min i 65535))

/-- What a stop makes of the mode. -/
def stopMode (s : State) (n : Nat) (kind : StopKind) : State :=
  if s.mode n = 1 ∨ s.mode n = 2 ∨ s.mode n = 3 then s.failMode n 8
  else if s.mode n = 4 then s.modWalk n fun w => { w with requested := false }
  else if s.mode n = 0 then (s.setMode n 5 0).raise 0x0405 1 n [if kind = .emergency then 2 else 1]
  else s

/-- What a stop that began in mode `m` makes of the control loop. -/
def stopLoop (s : State) (n m : Nat) (kind : StopKind) : State :=
  if kind = .emergency then
    s.modWalk n fun w => { w with xv := 0, xi := 0, ramp := none, carry := List.replicate 6 0, stopAt := s.chrono,
                                  endPrev := List.replicate 6 none,
                                  stopWhy := if m = 0 ∨ m = 5 then w.stopWhy else some 2 }
  else if m = 0 ∨ m = 5 then s
  else s.modWalk n fun w => { w with stopWhy := some 1 }

/-- Does a stop take (R444): over none, over an orderly one if it is an emergency, and for HALT_SAFE always? -/
def stopTakes (s : State) (n : Nat) (kind : StopKind) (cause : Nat) : Bool :=
  decide (cause = 0x15) || decide ((s.halt n).stop = .none) || (decide ((s.halt n).stop = .orderly) && decide (kind = .emergency))

theorem stopStall_of_takes {kind : StopKind} (ht : stopTakes s n kind cause = true) (hn : s.hasStall n = true) :
    s.stopStall n kind cause =
      stopLoop (stopMode (stopBegun s n kind cause) n kind) n ((stopBegun s n kind cause).mode n) kind := by
  unfold State.stopStall
  simp only [stopTakes] at ht
  simp only [ht, hn, Bool.not_true, Bool.or_self, Bool.false_eq_true, if_false]
  rfl

theorem stopStall_of_not_takes {kind : StopKind} (ht : stopTakes s n kind cause = false) : s.stopStall n kind cause = s := by
  unfold State.stopStall
  simp only [stopTakes] at ht
  simp only [ht, Bool.not_false, Bool.true_or, if_true]

theorem stopBegun_changes (s : State) (n : Nat) (kind : StopKind) (cause : Nat) : Changes (stopFlds n) s (stopBegun s n kind cause) := by
  unfold stopBegun
  extract_lets i s1 s2 s3
  have h2 : Changes (stopFlds n) s s2 := Changes.set (t := s1) (fun _ _ _ _ => rfl) _ (by simp [stopFlds])
  have h3 : Changes (stopFlds n) s s3 := .ite (h2.set _ (by simp [stopFlds])) (h2.set _ (by simp [stopFlds]))
  exact h3.raise _ _ _ _

theorem stopMode_changes (s : State) (n : Nat) (kind : StopKind) : Changes (stopFlds n) s (stopMode s n kind) := by
  unfold stopMode
  refine .ite (failMode_changes s n 8) (.ite (fun _ _ _ _ => rfl) (.ite (Changes.raise ?_ _ _ _ _) (.refl _ s)))
  exact (setMode_changes s n 5 0).mono fun g hg => List.mem_append_right _ hg

theorem stopLoop_get (s : State) (n m : Nat) (kind : StopKind) (f : Fld) : (stopLoop s n m kind).get f = s.get f := by
  unfold stopLoop
  split
  · rfl
  · split <;> rfl

theorem stopStall_changes (s : State) (n : Nat) (kind : StopKind) (cause : Nat) : Changes (stopFlds n) s (s.stopStall n kind cause) := by
  cases ht : stopTakes s n kind cause with
  | false => rw [stopStall_of_not_takes ht]; exact .refl _ s
  | true =>
    cases hn : s.hasStall n with
    | true =>
      rw [stopStall_of_takes ht hn]
      exact ((stopBegun_changes s n kind cause).trans (stopMode_changes _ n kind)).same (stopLoop_get _ n _ kind)
    | false => unfold State.stopStall; simp only [hn, Bool.not_false, Bool.or_true, if_true]; exact .refl _ s

/-! ### What a stop makes of the Halter and of the mode -/

theorem stopBegun_halt {kind : StopKind} (h : n < s.haltS.length) :
    (stopBegun s n kind cause).halt n = { s.halt n with stop := kind, stopAt := s.chrono, withdrawn := false, allOff := 0 } := by
  unfold stopBegun
  extract_lets i s1 s2 s3
  have h3 : s3.halt n = s1.halt n := by unfold s3; split <;> rfl
  rw [halt_raise, h3]
  exact halt_modHalt_self _ h

theorem stopBegun_halt_ne {kind : StopKind} (h : m ≠ n) : (stopBegun s n kind cause).halt m = s.halt m := by
  unfold stopBegun
  extract_lets i s1 s2 s3
  have h3 : s3.halt m = s1.halt m := by unfold s3; split <;> rfl
  rw [halt_raise, h3]
  exact halt_modHalt_ne _ h

theorem stopMode_haltS (s : State) (n : Nat) (kind : StopKind) : (stopMode s n kind).haltS = s.haltS := by
  unfold stopMode
  split
  · exact (failMode_within s n 8).haltS rfl
  · split
    · rfl
    · split
      · rw [raise_haltS]; exact (setMode_within s n 5 0).haltS rfl
      · rfl

theorem stopLoop_haltS (s : State) (n m : Nat) (kind : StopKind) : (stopLoop s n m kind).haltS = s.haltS := by
  unfold stopLoop
  split
  · rfl
  · split <;> rfl

theorem stopStall_halt {kind : StopKind} (ht : stopTakes s n kind cause = true) (hn : s.hasStall n = true) (h : n < s.haltS.length) :
    (s.stopStall n kind cause).halt n = { s.halt n with stop := kind, stopAt := s.chrono, withdrawn := false, allOff := 0 } := by
  rw [stopStall_of_takes ht hn, State.halt, stopLoop_haltS, stopMode_haltS]
  exact stopBegun_halt h

theorem stopStall_halt_ne {kind : StopKind} (h : m ≠ n) : (s.stopStall n kind cause).halt m = s.halt m := by
  cases ht : stopTakes s n kind cause with
  | false => rw [stopStall_of_not_takes ht]
  | true =>
    cases hn : s.hasStall n with
    | true =>
      rw [stopStall_of_takes ht hn, State.halt, stopLoop_haltS, stopMode_haltS]
      exact stopBegun_halt_ne h
    | false => unfold State.stopStall; simp only [hn, Bool.not_false, Bool.or_true, if_true]

/-- Whatever ran before, a stop runs afterwards. -/
theorem stopStall_stops {kind : StopKind} (hk : kind ≠ .none) (hn : s.hasStall n = true) (h : n < s.haltS.length) :
    ((s.stopStall n kind cause).halt n).stop ≠ .none := by
  cases ht : stopTakes s n kind cause with
  | true => rw [stopStall_halt ht hn h]; exact hk
  | false =>
    rw [stopStall_of_not_takes ht]
    intro hs
    simp [stopTakes, hs] at ht

/-- An emergency stop runs after the start of one. -/
theorem stopStall_emergency (hn : s.hasStall n = true) (h : n < s.haltS.length) :
    ((s.stopStall n .emergency cause).halt n).stop = .emergency := by
  cases ht : stopTakes s n .emergency cause with
  | true => rw [stopStall_halt ht hn h]
  | false =>
    rw [stopStall_of_not_takes ht]
    cases hs : (s.halt n).stop with
    | emergency => rfl
    | _ => simp [stopTakes, hs] at ht

theorem stopBegun_cause {kind : StopKind} (s : State) (n cause : Nat) :
    (stopBegun s n kind cause).get (F.HLT_Sn_STATE_CAUSE n) = cause % 256 := by
  unfold stopBegun
  extract_lets i s1 s2 s3
  have h3 : s3.get (F.HLT_Sn_STATE_CAUSE n) = s2.get (F.HLT_Sn_STATE_CAUSE n) := by
    unfold s3
    split <;> exact get_set_key _ (key_ne_stride rfl rfl rfl)
  rw [get_raise _ _ _ _ rfl, h3]
  exact get_set_self _ _ _

/-- Neither the mode nor the event of its change touches the cause of a stop. -/
theorem stateCause_far : ∀ n < 48, ∀ g ∈ F.WLK_Sn_MODE_CAUSE n :: modeFlds n, (F.HLT_Sn_STATE_CAUSE n).key ≠ g.key := by decide +kernel

theorem failMode_changes_mode (s : State) (n cause : Nat) : Changes (F.WLK_Sn_MODE_CAUSE n :: modeFlds n) s (s.failMode n cause) := by
  have hr : Changes (F.WLK_Sn_MODE_CAUSE n :: modeFlds n) s ((s.set (F.WLK_Sn_MODE_CAUSE n) cause).raise 0x0404 2 n [s.mode n, cause]) :=
    ((Changes.refl _ s).set _ (by simp)).raise _ _ _ _
  unfold State.failMode
  refine .ite ?_ (.ite (hr.same fun _ => rfl) hr)
  exact (hr.trans ((setMode_changes _ n 4 1).mono fun g hg => List.mem_cons_of_mem _ hg)).same fun _ => rfl

theorem stopMode_changes_mode (s : State) (n : Nat) (kind : StopKind) :
    Changes (F.WLK_Sn_MODE_CAUSE n :: modeFlds n) s (stopMode s n kind) := by
  unfold stopMode
  refine .ite (failMode_changes_mode s n 8) (.ite (fun _ _ _ _ => rfl) (.ite (Changes.raise ?_ _ _ _ _) (.refl _ s)))
  exact (setMode_changes s n 5 0).mono fun g hg => List.mem_cons_of_mem _ hg

theorem stopStall_cause {kind : StopKind} (ht : stopTakes s n kind cause = true) (hn : s.hasStall n = true) (h48 : n < 48) :
    (s.stopStall n kind cause).get (F.HLT_Sn_STATE_CAUSE n) = cause % 256 := by
  rw [stopStall_of_takes ht hn, stopLoop_get,
    stopMode_changes_mode _ n kind _ (by decide : 12 % 256 ≠ 1) (by decide : 12 % 256 ≠ 14) (stateCause_far n h48)]
  exact stopBegun_cause s n cause

/-! ### Modes -/

theorem restFlds_mode : ∀ n < 48, ∀ g ∈ restFlds n, (F.WLK_Sn_MODE_MODE n).key ≠ g.key := by decide +kernel

theorem setMode_mode (s : State) (h48 : n < 48) : (s.setMode n m st).mode n = m % 8 := by
  have hset : ((s.set (F.WLK_Sn_MODE_MODE n) m).set (F.WLK_Sn_MODE_STATE n) st).get (F.WLK_Sn_MODE_MODE n) = m % 8 := by
    rw [get_set_lo _ rfl]; exact get_set_self _ _ _
  unfold State.setMode State.mode
  dsimp only
  split
  · rw [sessionRest_changes _ n _ (by decide : 4 % 256 ≠ 1) (by decide : 4 % 256 ≠ 14) (restFlds_mode n h48)]
    exact hset
  · split
    · rw [get_set_win _ rfl, get_set_win _ rfl, get_set_win _ rfl]; exact hset
    · exact hset

theorem failMode_mode (h48 : n < 48) (hm : s.mode n = 1 ∨ s.mode n = 2 ∨ s.mode n = 3) : (s.failMode n cause).mode n = 4 := by
  unfold State.failMode
  dsimp only
  rw [if_pos hm]
  exact setMode_mode _ h48

theorem failMode_cause (h48 : n < 48) : (s.failMode n cause).get (F.WLK_Sn_MODE_CAUSE n) = cause % 256 := by
  have hset : ((s.set (F.WLK_Sn_MODE_CAUSE n) cause).raise 0x0404 2 n [s.mode n, cause]).get (F.WLK_Sn_MODE_CAUSE n) = cause % 256 := by
    rw [get_raise _ _ _ _ rfl]; exact get_set_self _ _ _
  have hfar : ∀ n < 48, ∀ g ∈ modeFlds n, (F.WLK_Sn_MODE_CAUSE n).key ≠ g.key := by decide +kernel
  unfold State.failMode
  dsimp only
  split
  · exact (setMode_changes _ n 4 1 _ (by decide : 4 % 256 ≠ 1) (by decide : 4 % 256 ≠ 14) (hfar n h48)).trans hset
  · split <;> exact hset

theorem failMode_walk (h : n < s.wlk.length) (hm : s.mode n = 1 ∨ s.mode n = 2 ∨ s.mode n = 3) :
    ((s.failMode n cause).walk n).failed = true := by
  unfold State.failMode
  dsimp only
  rw [if_pos hm, State.startRamp, walk_modWalk_self, walk_modWalk_self]
  · rw [(setMode_within _ n 4 1).wlk rfl, raise_wlk]; exact h
  · rw [wlk_length, (setMode_within _ n 4 1).wlk rfl, raise_wlk]; exact h

end Sys2Proof.CommandLaws
end

section
/-!
PROOFS. The Walker's timers and lost phases (O28).
-/
set_option Elab.async false -- the kernel evaluations wait for each other: keep them in one thread
namespace Sys2Proof.CommandLaws

open Sys2Proof.Machine Sys2Proof.Laws Sys2Proof.PaddockLaws

variable {s t u : State} {n k cause : Nat}

theorem bitOf_sub_two_pow_self {v i : Nat} (h : bitOf v i = true) : bitOf (v - 2 ^ i) i = false := by
  simp only [bitOf, beq_iff_eq, beq_eq_false_iff_ne] at h ⊢
  have hdiv : (v - 2 ^ i * 1) / 2 ^ i = v / 2 ^ i - 1 := Nat.sub_mul_div v (2 ^ i) 1
  rw [Nat.mul_one] at hdiv
  omega

theorem two_pow_le_of_bitOf {v i : Nat} (h : bitOf v i = true) : 2 ^ i ≤ v := by
  simp only [bitOf, beq_iff_eq] at h
  rcases Nat.lt_or_ge v (2 ^ i) with hlt | hle
  · rw [Nat.div_eq_of_lt hlt] at h
    exact absurd h (by decide)
  · exact hle

theorem bitOf_setBitOf (v i j : Nat) (b : Bool) : bitOf (setBitOf v i b) j = if j = i then b else bitOf v j := by
  split
  · next hj =>
    subst hj
    cases b with
    | true => exact bitOf_setBitOf_self v j
    | false =>
      unfold setBitOf
      split
      · next h => exact bitOf_sub_two_pow_self h
      · next h => simpa using h
  · next hj =>
    unfold setBitOf
    split
    · next h =>
      cases b with
      | true => rfl
      | false =>
        have hv : v - 2 ^ i + 2 ^ i = v := Nat.sub_add_cancel (two_pow_le_of_bitOf h)
        have hne := bitOf_add_two_pow_ne (bitOf_sub_two_pow_self h) hj
        rw [hv] at hne
        exact hne.symm
    · next h =>
      cases b with
      | true => exact bitOf_add_two_pow_ne (by simpa using h) hj
      | false => rfl

theorem bitOf_get_setBit (s : State) (f : Fld) {i j : Nat} (b : Bool) (hj : j < f.w) :
    bitOf ((s.setBit f i b).get f) j = if j = i then b else bitOf (s.get f) j := by
  rw [State.setBit, get_set_self, bitOf_mod_two_pow hj, bitOf_setBitOf]

/-! ### A lost phase -/

/-- The state in which a lost phase is off, reported, and the stall degraded. -/
def phaseOff (s : State) (n k cause : Nat) : State :=
  let s := (s.setBit (F.WLK_Sn_PHASE_ACTIVE n) k false).setBit (F.WLK_Sn_PHASE_LOST n) k true
  let left := (s.activePhases n).length
  let s := s.modWalk n fun w => { w with openCnt := List.replicate 6 0, senseCnt := 0 }
  let s := s.refreshCeil n
  let s := s.raise 0x0402 3 n ([k, cause, left] ++ le 2 (s.get (F.HLT_Sn_CEIL_I n)))
  s.setB (F.WLK_Sn_DEGRADE_DEGRADED n) true

/-- The state in which the degraded time of a stall starts. -/
def phaseDegraded (s : State) (n : Nat) : State :=
  let s := (s.set (F.WLK_Sn_DEGRADE_CAUSE n) 1).set (F.WLK_Sn_DEGRADE_REMAIN n) 1800
  let s := (s.setB (F.HLT_Sn_DEGRADE_PHASE_MODE n) true).set (F.HLT_Sn_DEGRADE_PHASE_LEFT n) 1800
  let s := s.raise 0x0C03 2 n ([2, 0] ++ le 2 (s.get (F.HLT_Sn_CEIL_I n)))
  s.modHalt n fun h => { h with phaseAt := s.chrono }

/-- The state in which the phase is out of the active list. -/
abbrev phaseDropped (s : State) (n k : Nat) : State :=
  (s.setBit (F.WLK_Sn_PHASE_ACTIVE n) k false).setBit (F.WLK_Sn_PHASE_LOST n) k true

theorem phaseLost_of_active (h : bitOf (s.get (F.WLK_Sn_PHASE_ACTIVE n)) k = true) :
    s.phaseLost n k cause =
      if s.flag (F.WLK_Sn_DEGRADE_DEGRADED n) ∨ ((phaseDropped s n k).activePhases n).length = 0 then
        ((phaseOff s n k cause).set (F.WLK_Sn_DEGRADE_CAUSE n) 2).stopStall n .orderly 0x11
      else phaseDegraded (phaseOff s n k cause) n := by
  unfold State.phaseLost
  rw [if_neg (by simp [h])]
  rfl

theorem phaseDropped_active (s : State) (n k j : Nat) (hj : j < 6) :
    bitOf ((phaseDropped s n k).get (F.WLK_Sn_PHASE_ACTIVE n)) j = if j = k then false else bitOf (s.get (F.WLK_Sn_PHASE_ACTIVE n)) j := by
  rw [phaseDropped, State.setBit, get_set_lo _ rfl]
  exact bitOf_get_setBit s (F.WLK_Sn_PHASE_ACTIVE n) false hj

theorem activePhases_eq_zero : ((s.activePhases n).length = 0) ↔ ∀ j < 6, bitOf (s.get (F.WLK_Sn_PHASE_ACTIVE n)) j = false := by
  rw [List.length_eq_zero_iff, State.activePhases, List.filter_eq_nil_iff]
  simp

theorem phaseDropped_none_left : ((phaseDropped s n k).activePhases n).length = 0 ↔
    ∀ j < 6, j ≠ k → bitOf (s.get (F.WLK_Sn_PHASE_ACTIVE n)) j = false := by
  rw [activePhases_eq_zero]
  refine forall₂_congr fun j hj => ?_
  rw [phaseDropped_active s n k j hj]
  by_cases hjk : j = k <;> simp [hjk]

/-- The registers of WLK before the loss is reported stand in `phaseOff`, but for DEGRADED. -/
theorem phaseOff_get (s : State) (n k cause : Nat) {f : Fld} (hf : f.win = 4) (hk : f.key ≠ (F.WLK_Sn_DEGRADE_DEGRADED n).key) :
    (phaseOff s n k cause).get f = (phaseDropped s n k).get f := by
  unfold phaseOff
  extract_lets s1 left s2 s3 s4
  rw [State.setB, get_set_ne _ _ hk]
  unfold s4
  rw [get_raise _ _ _ _ (by rw [hf]; rfl), refreshCeil_get _ _ (by rw [hf]; decide)]
  rfl

theorem phaseOff_degraded (s : State) (n k cause : Nat) : (phaseOff s n k cause).flag (F.WLK_Sn_DEGRADE_DEGRADED n) = true :=
  flag_setB _ _ _ rfl

theorem refreshCeil_haltS_length (s : State) (n : Nat) : (s.refreshCeil n).haltS.length = s.haltS.length := by
  unfold State.refreshCeil
  dsimp only
  split
  · exact haltS_length _
  · rfl

theorem phaseOff_halts (s : State) (n k cause : Nat) :
    (phaseOff s n k cause).haltS.length = s.haltS.length ∧ (phaseOff s n k cause).variant = s.variant := by
  unfold phaseOff
  extract_lets s1 left s2 s3 s4
  have h3 : s3.haltS.length = s.haltS.length ∧ s3.variant = s.variant :=
    ⟨(refreshCeil_haltS_length s2 n).trans rfl, (refreshCeil_within s2 n).variant.trans rfl⟩
  rw [setB_haltS, setB_variant]
  unfold s4
  rw [raise_haltS, raise_variant]
  exact h3

/-- The bits of PHASE and DEGRADED stay when a stop or the degraded time starts. -/
theorem phaseFlds_far : ∀ n < 48, ∀ f ∈ [F.WLK_Sn_PHASE_ACTIVE n, F.WLK_Sn_PHASE_LOST n, F.WLK_Sn_DEGRADE_DEGRADED n, F.WLK_Sn_DEGRADE_CAUSE n],
    ∀ g ∈ stopFlds n, f.key ≠ g.key := by decide +kernel

theorem stopStall_phase {kind : StopKind} (s : State) (cause : Nat) (h48 : n < 48) :
    ∀ f ∈ [F.WLK_Sn_PHASE_ACTIVE n, F.WLK_Sn_PHASE_LOST n, F.WLK_Sn_DEGRADE_DEGRADED n, F.WLK_Sn_DEGRADE_CAUSE n],
      (s.stopStall n kind cause).get f = s.get f := by
  intro f hf
  have hw : f.win = 4 := by
    simp only [List.mem_cons, List.not_mem_nil, or_false] at hf
    rcases hf with rfl | rfl | rfl | rfl <;> rfl
  exact stopStall_changes s n kind cause f (by rw [hw]; decide) (by rw [hw]; decide) (phaseFlds_far n h48 f hf)

theorem phaseDegraded_get (s : State) (n : Nat) {f : Fld} (hf : f.win = 4) (hc : f.key ≠ (F.WLK_Sn_DEGRADE_CAUSE n).key)
    (hr : f.key ≠ (F.WLK_Sn_DEGRADE_REMAIN n).key) : (phaseDegraded s n).get f = s.get f := by
  unfold phaseDegraded
  extract_lets s1 s2 s3
  rw [get_modHalt]
  unfold s3
  rw [get_raise _ _ _ _ (by rw [hf]; rfl)]
  unfold s2
  rw [State.setB, get_set_win _ (by rw [hf]; rfl), get_set_win _ (by rw [hf]; rfl)]
  exact (get_set_ne _ _ hr).trans (get_set_ne _ _ hc)

theorem phaseDegraded_time (s : State) (n : Nat) : (phaseDegraded s n).get (F.WLK_Sn_DEGRADE_REMAIN n) = 1800 ∧
    (phaseDegraded s n).flag (F.HLT_Sn_DEGRADE_PHASE_MODE n) = true := by
  unfold phaseDegraded State.flag
  extract_lets s1 s2 s3
  rw [get_modHalt, get_modHalt]
  unfold s3
  rw [get_raise _ _ _ _ rfl, get_raise _ _ _ _ rfl]
  unfold s2
  rw [State.setB, get_set_win _ rfl, get_set_win _ rfl, get_set_lo (f := F.HLT_Sn_DEGRADE_PHASE_LEFT n) _ rfl]
  exact ⟨get_set_self _ _ _, congrArg (· != 0) (get_set_self _ _ _)⟩

/-- A lost phase: what it leaves in the registers of the stall, and what follows (R215, R216). -/
theorem phaseLost_spec (hn : s.hasStall n = true) (h48 : n < 48) (hh : s.haltS.length = 48) (hk : k < 6)
    (h : bitOf (s.get (F.WLK_Sn_PHASE_ACTIVE n)) k = true) :
    bitOf ((s.phaseLost n k cause).get (F.WLK_Sn_PHASE_ACTIVE n)) k = false ∧
    bitOf ((s.phaseLost n k cause).get (F.WLK_Sn_PHASE_LOST n)) k = true ∧
    (s.phaseLost n k cause).flag (F.WLK_Sn_DEGRADE_DEGRADED n) = true ∧
    ((s.flag (F.WLK_Sn_DEGRADE_DEGRADED n) = false ∧ ∃ j < 6, j ≠ k ∧ bitOf (s.get (F.WLK_Sn_PHASE_ACTIVE n)) j = true) →
      (s.phaseLost n k cause).get (F.WLK_Sn_DEGRADE_REMAIN n) = 1800 ∧ (s.phaseLost n k cause).flag (F.HLT_Sn_DEGRADE_PHASE_MODE n) = true) ∧
    ((s.flag (F.WLK_Sn_DEGRADE_DEGRADED n) = true ∨ ∀ j < 6, j ≠ k → bitOf (s.get (F.WLK_Sn_PHASE_ACTIVE n)) j = false) →
      (s.phaseLost n k cause).get (F.WLK_Sn_DEGRADE_CAUSE n) = 2 ∧ ((s.phaseLost n k cause).halt n).stop ≠ .none) := by
  have hactive : bitOf ((phaseDropped s n k).get (F.WLK_Sn_PHASE_ACTIVE n)) k = false := by
    rw [phaseDropped_active s n k k hk, if_pos rfl]
  have hlost : bitOf ((phaseDropped s n k).get (F.WLK_Sn_PHASE_LOST n)) k = true :=
    bitOf_get_setBit_self _ (F.WLK_Sn_PHASE_LOST n) hk
  have hoffA := phaseOff_get s n k cause (f := F.WLK_Sn_PHASE_ACTIVE n) rfl (key_ne_stride rfl rfl rfl)
  have hoffL := phaseOff_get s n k cause (f := F.WLK_Sn_PHASE_LOST n) rfl (key_ne_stride rfl rfl rfl)
  rw [phaseLost_of_active h]
  split
  · next hstop =>
    have hget := stopStall_phase (kind := .orderly) ((phaseOff s n k cause).set (F.WLK_Sn_DEGRADE_CAUSE n) 2) 0x11 h48
    obtain ⟨hlen, hvar⟩ := phaseOff_halts s n k cause
    refine ⟨?_, ?_, ?_, fun ⟨hd, j, hj, hjk, hb⟩ => ?_, fun _ => ⟨?_, ?_⟩⟩
    · rw [hget _ (by simp), get_set_key _ (key_ne_stride rfl rfl rfl), hoffA]; exact hactive
    · rw [hget _ (by simp), get_set_key _ (key_ne_stride rfl rfl rfl), hoffL]; exact hlost
    · rw [State.flag, hget _ (by simp), get_set_lo _ rfl]; exact phaseOff_degraded s n k cause
    · rcases hstop with hs | hs
      · rw [hd] at hs; exact absurd hs (by decide)
      · rw [phaseDropped_none_left.mp hs j hj hjk] at hb; exact absurd hb (by decide)
    · rw [hget _ (by simp)]; exact get_set_self _ _ _
    · exact stopStall_stops (by decide) (by rw [State.hasStall, set_variant, hvar]; exact hn) (by rw [set_haltS, hlen, hh]; exact h48)
  · next hgo =>
    obtain ⟨htime, hmode⟩ := phaseDegraded_time (phaseOff s n k cause) n
    refine ⟨?_, ?_, ?_, fun _ => ⟨htime, hmode⟩, fun hor => ?_⟩
    · rw [phaseDegraded_get _ n rfl (key_ne_stride rfl rfl rfl) (key_ne_stride rfl rfl rfl), hoffA]; exact hactive
    · rw [phaseDegraded_get _ n rfl (key_ne_stride rfl rfl rfl) (key_ne_stride rfl rfl rfl), hoffL]; exact hlost
    · rw [State.flag, phaseDegraded_get _ n rfl (key_ne_lo (by decide : 31 % 32 ≠ 16 % 32)) (key_ne_lo (by decide : 31 % 32 ≠ 0 % 32))]; exact phaseOff_degraded s n k cause
    · exact absurd (hor.imp id phaseDropped_none_left.mpr) hgo

/-! ### The end of the degraded time -/

theorem block_remain (s : State) (h : s.get (F.WLK_Sn_DEGRADE_REMAIN n) = 0) :
    (s.block n cause).get (F.WLK_Sn_DEGRADE_REMAIN n) = 0 := by
  unfold State.block
  split
  · exact h
  · rw [get_raise _ _ _ _ rfl, State.setB, State.setB, get_set_win _ rfl, get_set_lo _ rfl]
    split
    · rw [get_set_win _ rfl, get_set_self, h, Nat.zero_min, Nat.zero_mod]
    · exact h

theorem block_blocked (s : State) (n cause : Nat) : (s.block n cause).flag (F.WLK_Sn_DEGRADE_BLOCKED n) = true := by
  unfold State.block
  split
  · next h => exact h
  · rw [State.flag, get_raise _ _ _ _ rfl, State.setB, State.setB, get_set_win _ rfl]
    exact flag_setB _ _ true rfl

theorem sessionRest_remain (s : State) (h : s.get (F.WLK_Sn_DEGRADE_REMAIN n) = 0) :
    (s.sessionRest n).get (F.WLK_Sn_DEGRADE_REMAIN n) = 0 := by
  unfold State.sessionRest
  rw [get_set_win _ rfl]
  split
  · exact block_remain s h
  · exact h

theorem setMode_remain (s : State) (m st : Nat) (h : s.get (F.WLK_Sn_DEGRADE_REMAIN n) = 0) :
    (s.setMode n m st).get (F.WLK_Sn_DEGRADE_REMAIN n) = 0 := by
  have hset : ((s.set (F.WLK_Sn_MODE_MODE n) m).set (F.WLK_Sn_MODE_STATE n) st).get (F.WLK_Sn_DEGRADE_REMAIN n) = 0 := by
    rw [get_set_key _ (key_ne_stride rfl rfl rfl), get_set_key _ (key_ne_stride rfl rfl rfl), h]
  unfold State.setMode
  dsimp only
  split
  · exact sessionRest_remain _ hset
  · split
    · rw [get_set_win _ rfl, get_set_win _ rfl, get_set_win _ rfl]; exact hset
    · exact hset

theorem failMode_remain (s : State) (h : s.get (F.WLK_Sn_DEGRADE_REMAIN n) = 0) :
    (s.failMode n cause).get (F.WLK_Sn_DEGRADE_REMAIN n) = 0 := by
  have hset : ((s.set (F.WLK_Sn_MODE_CAUSE n) cause).raise 0x0404 2 n [s.mode n, cause]).get (F.WLK_Sn_DEGRADE_REMAIN n) = 0 := by
    rw [get_raise _ _ _ _ rfl, get_set_key _ (key_ne_stride rfl rfl rfl), h]
  unfold State.failMode
  dsimp only
  split
  · exact setMode_remain _ 4 1 hset
  · split <;> exact hset

/-- No time of the degraded running comes back with a stop. -/
theorem stopStall_remain {kind : StopKind} (s : State) (h : s.get (F.WLK_Sn_DEGRADE_REMAIN n) = 0) :
    (s.stopStall n kind cause).get (F.WLK_Sn_DEGRADE_REMAIN n) = 0 := by
  have hbegun : (stopBegun s n kind cause).get (F.WLK_Sn_DEGRADE_REMAIN n) = 0 := by
    unfold stopBegun
    extract_lets i s1 s2 s3
    have h3 : s3.get (F.WLK_Sn_DEGRADE_REMAIN n) = s2.get (F.WLK_Sn_DEGRADE_REMAIN n) := by
      unfold s3
      split <;> exact get_set_win _ rfl
    rw [get_raise _ _ _ _ rfl, h3]
    exact (get_set_win _ rfl).trans h
  cases ht : stopTakes s n kind cause with
  | false => rw [stopStall_of_not_takes ht]; exact h
  | true =>
    cases hn : s.hasStall n with
    | false => unfold State.stopStall; simp only [hn, Bool.not_false, Bool.or_true, if_true]; exact h
    | true =>
      rw [stopStall_of_takes ht hn, stopLoop_get]
      unfold stopMode
      split
      · exact failMode_remain _ hbegun
      · split
        · exact hbegun
        · split
          · rw [get_raise _ _ _ _ rfl]; exact setMode_remain _ 5 0 hbegun
          · exact hbegun

end Sys2Proof.CommandLaws

namespace Sys2Proof

open Sys2Proof.Machine Sys2Proof.Laws Sys2Proof.CommandLaws

/-- Settles O28: a failed mode and a stop by their rules, a lost phase by `phaseLost_spec`, the timers by what they write. -/
theorem modeTimers : Obligations.ModeTimers := by
  intro s n hn h48 hw hh
  have hstall : s.hasStall n = true := by simpa [State.hasStall] using hn
  refine ⟨fun hm hst => ?_, fun hm hc hcc => ?_, fun hm hv => ?_, fun k cause hk hb => ?_, fun hd hbl => ?_, fun h2 ha htd hso hcc => ?_,
    fun w rest d hs hd => ?_⟩
  · have hm3 : s.mode n = 1 ∨ s.mode n = 2 ∨ s.mode n = 3 := by omega
    refine ⟨s.failMode n 1, ?_, failMode_mode h48 hm3, failMode_cause h48, failMode_walk (by omega) hm3⟩
    have hexec : exec (.modeTimeout n) s = execModeTimeout n s := rfl
    rw [hexec, execModeTimeout]
    dsimp only
    rw [if_pos ⟨hm, hst⟩]
  · have hm3 : s.mode n = 1 ∨ s.mode n = 2 ∨ s.mode n = 3 := by omega
    refine ⟨s.failMode n (if s.flag (F.HLT_Sn_STATE_PERMIT n) then 3 else 2), ?_, failMode_mode h48 hm3, ?_⟩
    · have hexec : exec (.contactorCloseTimeout n) s = execContactorCloseTimeout n s := rfl
      rw [hexec, execContactorCloseTimeout]
      dsimp only
      rw [if_pos ⟨hm, hc, hcc⟩]
    · rw [failMode_cause h48]
      split <;> rfl
  · refine ⟨s.failMode n 7, ?_, failMode_mode h48 (.inr (.inr hm)), failMode_cause h48⟩
    have hexec : exec (.ffLostTimeout n) s = execFfLostTimeout n s := rfl
    rw [hexec, execFfLostTimeout, if_pos ⟨hm, hv⟩]
  · exact ⟨s.phaseLost n k cause, rfl, phaseLost_spec hstall h48 hh hk hb⟩
  · have hexec : exec (.phaseDegradedLimit n) s = execPhaseDegradedLimit n s := rfl
    rw [hexec, execPhaseDegradedLimit, if_pos ⟨hd, hbl⟩]
    refine ⟨_, rfl, block_blocked _ n 0, ?_, block_remain _ (stopStall_remain _ ?_)⟩
    · rw [State.halt, (block_within _ n 0).haltS rfl]
      exact stopStall_stops (by decide) (by rw [State.hasStall, set_variant, set_variant, raise_variant]; exact hstall)
        (by rw [set_haltS, set_haltS, raise_haltS, hh]; exact h48)
    · rw [get_set_win _ rfl]; exact get_set_self _ _ _
  · have hexec : exec (.twoStepComplete n) s = execTwoStepComplete n s := rfl
    rw [hexec, execTwoStepComplete, if_pos ⟨h2, ha, htd, hso, hcc⟩]
    by_cases hrun : s.linkState n = Link.run
    · rw [if_pos hrun]
      refine ⟨_, rfl, fun _ => ?_, fun hno => absurd hrun hno⟩
      rw [walk_modWalk_self _ (by omega)]
      exact ⟨h2, Nat.le_succ 2⟩
    · rw [if_neg hrun]
      refine ⟨_, rfl, fun hno => absurd hno hrun, fun _ => ?_⟩
      rw [walk_modWalk_self _ (by omega)]
  · have hexec : exec (.stallStopTimeout n) s = execStallStopTimeout n s := rfl
    rw [hexec, execStallStopTimeout, hs]
    refine ⟨_, rfl, InFlight.answered (s := s) (t := s.modWalk n fun w => { w with stops := rest }) (st := 6) (r := 0) hd (List.prefix_refl _), ?_⟩
    rw [State.walk, (finish_within _ w.1 w.2.1 6 0 false).wlk rfl]
    exact congrArg (fun x : Wlk => x.stops) (walk_modWalk_self _ (by omega))

end Sys2Proof
end

section
/-!
PROOFS. The Halter's site-wide effects (R446-R455): what the loops and HALT_SAFE write, and the emergency stops they make.
-/
set_option Elab.async false -- the kernel evaluations wait for each other: keep them in one thread
namespace Sys2Proof.CommandLaws

open Sys2Proof.Machine Sys2Proof.Laws Sys2Proof.PaddockLaws

variable {s t u : State} {f g : Fld} {n m k cause : Nat} {l : List Nat}

/-! ### The stops of many stalls -/

/-- One emergency stop more leaves the running ones. -/
theorem stopStall_keeps_emergency (hm : m < s.haltS.length) (hn : (s.halt n).stop = .emergency) :
    ((s.stopStall m .emergency cause).halt n).stop = .emergency := by
  by_cases hnm : n = m
  · subst hnm
    cases hs : s.hasStall n with
    | true => exact stopStall_emergency hs hm
    | false => unfold State.stopStall; simp only [hs, Bool.not_false, Bool.or_true, if_true]; exact hn
  · rw [stopStall_halt_ne hnm]; exact hn

theorem stopStall_haltS_length (s : State) (n : Nat) (kind : StopKind) (cause : Nat) :
    (s.stopStall n kind cause).haltS.length = s.haltS.length := by
  cases ht : stopTakes s n kind cause with
  | false => rw [stopStall_of_not_takes ht]
  | true =>
    cases hn : s.hasStall n with
    | false => unfold State.stopStall; simp only [hn, Bool.not_false, Bool.or_true, if_true]
    | true =>
      rw [stopStall_of_takes ht hn, stopLoop_haltS, stopMode_haltS]
      unfold stopBegun
      extract_lets i s1 s2 s3
      have h3 : s3.haltS = s1.haltS := by unfold s3; split <;> rfl
      rw [raise_haltS, h3]
      exact length_modAt _ _ _

theorem stopStall_variant (s : State) (n : Nat) (kind : StopKind) (cause : Nat) : (s.stopStall n kind cause).variant = s.variant :=
  (stopStall_within s n kind cause).variant

/-- Emergency stops of a list of stalls. -/
theorem stops_emergency (hl : ∀ m ∈ l, s.hasStall m = true ∧ m < s.haltS.length) (hn : n ∈ l ∨ (s.halt n).stop = .emergency) :
    ((forAll l (fun m u => u.stopStall m .emergency cause) s).halt n).stop = .emergency := by
  unfold forAll
  induction l generalizing s with
  | nil => exact hn.resolve_left List.not_mem_nil
  | cons m l ih =>
    obtain ⟨hm, hlt⟩ := hl m List.mem_cons_self
    rw [List.foldl_cons]
    refine ih (fun x hx => ?_) ?_
    · rw [State.hasStall, stopStall_variant, stopStall_haltS_length]
      exact hl x (List.mem_cons_of_mem _ hx)
    · rcases hn with hin | he
      · rcases List.mem_cons.mp hin with rfl | hin
        · exact .inr (stopStall_emergency hm hlt)
        · exact .inl hin
      · exact .inr (stopStall_keeps_emergency hlt he)

theorem stops_changes (l : List Nat) (cause : Nat) (s : State) :
    Changes (l.flatMap stopFlds) s (forAll l (fun m u => u.stopStall m .emergency cause) s) := by
  unfold forAll
  induction l generalizing s with
  | nil => exact .refl _ s
  | cons m l ih =>
    rw [List.foldl_cons]
    refine Changes.trans ((stopStall_changes s m .emergency cause).mono fun g hg => ?_) ((ih _).mono fun g hg => ?_)
    · rw [List.flatMap_cons]; exact List.mem_append_left _ hg
    · rw [List.flatMap_cons]; exact List.mem_append_right _ hg

/-- The cause of a stall's stop is not what the stop of another stall writes. -/
theorem stateCause_far_stops : ∀ n < 48, ∀ m < 48, n ≠ m → ∀ g ∈ stopFlds m, (F.HLT_Sn_STATE_CAUSE n).key ≠ g.key := by
  decide +kernel

/-- The stops of HALT_SAFE all show its cause (R444). -/
theorem stops_cause (hl : ∀ m ∈ l, s.hasStall m = true ∧ m < 48) (h48 : n < 48) (hnl : n ∈ l) :
    (forAll l (fun m u => u.stopStall m .emergency 0x15) s).get (F.HLT_Sn_STATE_CAUSE n) = 0x15 := by
  have hgen : ∀ (l : List Nat) (s : State), (∀ m ∈ l, s.hasStall m = true ∧ m < 48) →
      (n ∈ l ∨ s.get (F.HLT_Sn_STATE_CAUSE n) = 0x15) →
      (forAll l (fun m u => u.stopStall m .emergency 0x15) s).get (F.HLT_Sn_STATE_CAUSE n) = 0x15 := by
    intro l
    unfold forAll
    induction l with
    | nil => exact fun s _ hn => hn.resolve_left List.not_mem_nil
    | cons m l ih =>
      intro s hl hn
      obtain ⟨hm, hlt⟩ := hl m List.mem_cons_self
      rw [List.foldl_cons]
      refine ih _ (fun x hx => ?_) ?_
      · rw [State.hasStall, stopStall_variant]
        exact hl x (List.mem_cons_of_mem _ hx)
      · by_cases hnm : n = m
        · subst hnm
          exact .inr (stopStall_cause (by simp [stopTakes]) hm h48)
        · refine hn.imp (fun hin => (List.mem_cons.mp hin).resolve_left hnm) fun hc => ?_
          rw [stopStall_changes s m .emergency 0x15 _ (by decide : 12 % 256 ≠ 1) (by decide : 12 % 256 ≠ 14)
            (stateCause_far_stops n h48 m hlt hnm)]
          exact hc
  exact hgen l s hl (.inl hnl)

/-! ### The site-wide effects -/

/-- What the site-wide effects write in the Halter's window. -/
def actFlds : List Fld :=
  [F.HLT_STATUS_OPEN, F.HLT_STATUS_DISCREP, F.HLT_STATUS_AWAIT, F.HLT_SAFE_OUT_A_ON, F.HLT_SAFE_OUT_B_ON, F.HLT_SAFE_OUT_A_READ,
    F.HLT_SAFE_OUT_B_READ]

/-- The Halter's registers with the effects shown: loops, safety outputs and their readback. -/
def actShown (s : State) : State :=
  let s := s.showLoops.refreshSafeOut
  (s.setB F.HLT_SAFE_OUT_A_READ (s.flag F.HLT_SAFE_OUT_A_ON)).setB F.HLT_SAFE_OUT_B_READ (s.flag F.HLT_SAFE_OUT_B_ON)

theorem showLoops_changes (s : State) : Changes actFlds s s.showLoops := by
  unfold State.showLoops
  exact (((Changes.refl _ s).set _ (by simp [actFlds])).set _ (by simp [actFlds])).set _ (by simp [actFlds])

theorem actShown_changes (s : State) : Changes actFlds s (actShown s) := by
  unfold actShown State.refreshSafeOut
  extract_lets on s1
  have h1 : Changes actFlds s s1 := ((showLoops_changes s).set _ (by simp [actFlds])).set _ (by simp [actFlds])
  exact (h1.set _ (by simp [actFlds])).set _ (by simp [actFlds])

theorem foldl_get {α : Type} {l : List α} {F : State → α → State} (f : Fld) (hF : ∀ u a, (F u a).get f = u.get f) (s : State) :
    (l.foldl F s).get f = s.get f := by
  induction l generalizing s with
  | nil => rfl
  | cons a l ih => exact (ih _).trans (hF s a)

/-- Beyond what it shows, the effects leave the Halter's window alone. -/
theorem actLoops_get (s : State) (hf : f.win = 12) : s.actLoops.get f = (actShown s).get f := by
  unfold State.actLoops
  extract_lets s1 s2 off was s3 s4
  have h3 : s3.get f = s2.get f := get_modHlt s2 _ f
  have h2 : s2.get f = (actShown s).get f := rfl
  clear_value s3 s2
  have h4 : s4.get f = s3.get f := by
    unfold s4
    split
    · exact get_outside 12 (harnessStop_within s3) hf rfl
    · split
      · exact foldl_get f (fun u b => get_outside 12 (showBridge_within u b) hf rfl) s3
      · rfl
  have hgroup : ∀ (u : State) (g : Nat), (if u.wantDrop g then u.lswDrop g else u.lswUndrop g).get f = u.get f := fun u g => by
    split
    · exact get_outside 12 (lswDrop_within u g) hf rfl
    · exact get_outside 12 (lswUndrop_within u g) hf rfl
  exact ((foldl_get f hgroup s4).trans h4).trans (h3.trans h2)

theorem actLoops_kept (s : State) (hf : f.win = 12) (hfar : ∀ g ∈ actFlds, f.key ≠ g.key) : s.actLoops.get f = s.get f := by
  rw [actLoops_get s hf]
  exact actShown_changes s f (by rw [hf]; decide) (by rw [hf]; decide) hfar

/-- The state of a loop. -/
def loopFlds (k : Nat) : List Fld :=
  [F.HLT_ESTOPk_STATE_DISCREPANCY k, F.HLT_ESTOPk_STATE_AWAIT_RESET k, F.HLT_ESTOPk_STATE_B_CLOSED k, F.HLT_ESTOPk_STATE_A_CLOSED k]

theorem loopFlds_far : ∀ k < 4, ∀ f ∈ loopFlds k, f.win = 12 ∧ ∀ g ∈ actFlds, f.key ≠ g.key := by decide +kernel

theorem actLoops_loop (s : State) (hk : k < 4) : ∀ f ∈ loopFlds k, s.actLoops.get f = s.get f := fun f hf =>
  actLoops_kept s (loopFlds_far k hk f hf).1 (loopFlds_far k hk f hf).2

theorem showLoops_loop (s : State) (hk : k < 4) : ∀ f ∈ loopFlds k, s.showLoops.get f = s.get f := fun f hf =>
  showLoops_changes s f (by rw [(loopFlds_far k hk f hf).1]; decide) (by rw [(loopFlds_far k hk f hf).1]; decide) (loopFlds_far k hk f hf).2

/-- A loop's state by its fields. -/
theorem loopOpen_congr (h : ∀ f ∈ loopFlds k, t.get f = s.get f) : t.loopOpen k = s.loopOpen k := by
  simp only [State.loopOpen, State.flag, h _ (by simp [loopFlds] : F.HLT_ESTOPk_STATE_A_CLOSED k ∈ loopFlds k),
    h _ (by simp [loopFlds] : F.HLT_ESTOPk_STATE_B_CLOSED k ∈ loopFlds k),
    h _ (by simp [loopFlds] : F.HLT_ESTOPk_STATE_DISCREPANCY k ∈ loopFlds k)]

theorem loopActs_congr (h : ∀ f ∈ loopFlds k, t.get f = s.get f) (hm : t.loopMap k = s.loopMap k) : t.loopActs k = s.loopActs k := by
  rw [State.loopActs, State.loopActs, loopOpen_congr h, hm, State.flag, State.flag,
    h _ (by simp [loopFlds] : F.HLT_ESTOPk_STATE_AWAIT_RESET k ∈ loopFlds k)]

/-- With a cause that stands, both safety outputs are de-energised (R449). -/
theorem actLoops_safeOut_off (s : State) (hoff : s.haltSafe = true ∨ ∃ k < 4, (s.loopMap k).safeOut = true ∧ s.loopActs k = true) :
    s.actLoops.flag F.HLT_SAFE_OUT_A_ON = false ∧ s.actLoops.flag F.HLT_SAFE_OUT_B_ON = false := by
  have hon : (s.showLoops.flag F.HLT_STATUS_SELFTEST_OK && !s.showLoops.haltSafe && decide (s.showLoops.get F.PWR_STATE_STATE ≠ 2) &&
      (List.range 4).all fun k => !((s.showLoops.loopMap k).safeOut && s.showLoops.loopActs k)) = false := by
    rcases hoff with hs | ⟨k, hk, hso, ha⟩
    · have hhs : s.showLoops.haltSafe = true := by
        rw [State.haltSafe, State.flag, showLoops_changes s _ (by decide) (by decide) (by decide)]; exact hs
      simp [hhs]
    · have hact : s.showLoops.loopActs k = true := (loopActs_congr (showLoops_loop s hk) rfl).trans ha
      rw [Bool.and_eq_false_iff]
      refine .inr (List.all_eq_false.mpr ⟨k, List.mem_range.mpr hk, ?_⟩)
      have hmap : (s.showLoops.loopMap k).safeOut = true := hso
      simp [hmap, hact]
  rw [State.flag, State.flag, actLoops_get s rfl, actLoops_get s rfl]
  unfold actShown State.refreshSafeOut
  rw [hon]
  extract_lets on s1
  have hA : s1.get F.HLT_SAFE_OUT_A_ON = 0 := by
    unfold s1; rw [State.setB, State.setB, get_set_lo _ rfl]; exact get_set_self _ _ _
  have hB : s1.get F.HLT_SAFE_OUT_B_ON = 0 := get_set_self _ _ _
  rw [State.setB, State.setB, get_set_lo _ rfl, get_set_lo _ rfl, get_set_lo _ rfl, get_set_lo _ rfl, hA, hB]
  exact ⟨rfl, rfl⟩

theorem actLoops_haltS (s : State) : s.actLoops.haltS = s.haltS := (actLoops_within s).haltS rfl

end Sys2Proof.CommandLaws
end

section
/-!
PROOFS. The Halter's commands (O43-O46).
-/
set_option Elab.async false -- the kernel evaluations wait for each other: keep them in one thread
namespace Sys2Proof.CommandLaws

open Sys2Proof.Machine Sys2Proof.Laws Sys2Proof.PaddockLaws

variable {s t u : State} {f g : Fld} {n m k cause : Nat} {l : List Nat}

/-! ### HALT_SAFE -/

theorem haltSafe_far : ∀ f ∈ [F.HLT_STATUS_HALT_SAFE, F.HLT_FAULT_CAUSE], f.win = 12 ∧ (∀ g ∈ actFlds, f.key ≠ g.key) ∧
    ∀ n < 48, ∀ g ∈ stopFlds n, f.key ≠ g.key := by decide +kernel

theorem stateCause_far_act : ∀ n < 48, ∀ g ∈ actFlds, (F.HLT_Sn_STATE_CAUSE n).key ≠ g.key := by decide +kernel

theorem mem_stops_far (h48 : ∀ n ∈ l, n < 48) (hf : ∀ n < 48, ∀ g ∈ stopFlds n, f.key ≠ g.key) : ∀ g ∈ l.flatMap stopFlds, f.key ≠ g.key := by
  intro g hg
  obtain ⟨n, hn, hin⟩ := List.mem_flatMap.mp hg
  exact hf n (h48 n hn) g hin

/-- What HALT_SAFE shows beyond the Halter's window. -/
def haltSafeShown (s : State) (cause : Nat) : State :=
  (((s.set F.GLB_BOOT_STATUS_PHASE 14).setBit F.GLB_BOOT_STATUS_HISTORY 14 true).set F.GLB_BOOT_STATUS_FAIL_CAUSE 4).raise 0x0C05 4 0xFFFF [cause]

theorem haltSafeShown_get (s : State) (cause : Nat) (hf : f.win = 12) : (haltSafeShown s cause).get f = s.get f := by
  unfold haltSafeShown
  rw [get_raise _ _ _ _ (by rw [hf]; rfl), get_set_win _ (by rw [hf]; rfl), State.setBit, get_set_win _ (by rw [hf]; rfl),
    get_set_win _ (by rw [hf]; rfl)]

/-- The state in which HALT_SAFE stands with its cause. -/
abbrev haltSafeSet (s : State) (cause : Nat) : State := (s.setB F.HLT_STATUS_HALT_SAFE true).set F.HLT_FAULT_CAUSE cause

theorem enterHaltSafe_eq (h : s.haltSafe = false) :
    s.enterHaltSafe cause = haltSafeShown (((haltSafeSet s cause).stopAll .emergency 0x15).actLoops) cause := by
  unfold State.enterHaltSafe
  rw [if_neg (by simp [h])]
  rfl

/-- HALT_SAFE with its cause and its effects (R454). -/
theorem enterHaltSafe_spec (h : s.haltSafe = false) (hlen : s.haltS.length = 48) (hlinks : s.variant.links ≤ 48) (hc : cause < 256) :
    (s.enterHaltSafe cause).haltSafe = true ∧ (s.enterHaltSafe cause).get F.HLT_FAULT_CAUSE = cause ∧
    (s.enterHaltSafe cause).get F.GLB_BOOT_STATUS_PHASE = 14 ∧
    (∀ n < s.variant.links, ((s.enterHaltSafe cause).halt n).stop = .emergency ∧
      (s.enterHaltSafe cause).get (F.HLT_Sn_STATE_CAUSE n) = 0x15) ∧
    (s.enterHaltSafe cause).flag F.HLT_SAFE_OUT_A_ON = false ∧ (s.enterHaltSafe cause).flag F.HLT_SAFE_OUT_B_ON = false := by
  have hkept : ∀ f ∈ [F.HLT_STATUS_HALT_SAFE, F.HLT_FAULT_CAUSE],
      ((haltSafeSet s cause).stopAll .emergency 0x15).get f = (haltSafeSet s cause).get f := fun f hf => by
    obtain ⟨hw, -, hstop⟩ := haltSafe_far f hf
    exact stops_changes _ 0x15 _ f (by rw [hw]; decide) (by rw [hw]; decide)
      (mem_stops_far (fun n hn => Nat.lt_of_lt_of_le (List.mem_range.mp hn) hlinks) hstop)
  have hact : ∀ f ∈ [F.HLT_STATUS_HALT_SAFE, F.HLT_FAULT_CAUSE],
      ((haltSafeSet s cause).stopAll .emergency 0x15).actLoops.get f = (haltSafeSet s cause).get f := fun f hf =>
    (actLoops_kept _ (haltSafe_far f hf).1 (haltSafe_far f hf).2.1).trans (hkept f hf)
  have hset : (haltSafeSet s cause).get F.HLT_STATUS_HALT_SAFE = 1 := by
    rw [haltSafeSet, get_set_lo _ rfl]; exact get_set_self _ _ _
  have hcause : (haltSafeSet s cause).get F.HLT_FAULT_CAUSE = cause := (get_set_self _ _ _).trans (Nat.mod_eq_of_lt hc)
  have hsafe : ((haltSafeSet s cause).stopAll .emergency 0x15).haltSafe = true := by
    rw [State.haltSafe, State.flag, hkept _ (by simp), hset]; rfl
  obtain ⟨hA, hB⟩ := actLoops_safeOut_off _ (.inl hsafe)
  have hstalls : ∀ m ∈ (haltSafeSet s cause).stallNums, (haltSafeSet s cause).hasStall m = true ∧ m < 48 := fun m hm => by
    have hlt : m < s.variant.links := List.mem_range.mp hm
    exact ⟨decide_eq_true hlt, Nat.lt_of_lt_of_le hlt hlinks⟩
  rw [enterHaltSafe_eq h]
  refine ⟨?_, ?_, ?_, fun n hn => ⟨?_, ?_⟩, ?_, ?_⟩
  · rw [State.haltSafe, State.flag, haltSafeShown_get _ _ rfl, hact _ (by simp), hset]; rfl
  · rw [haltSafeShown_get _ _ rfl, hact _ (by simp), hcause]
  · unfold haltSafeShown
    rw [get_raise _ _ _ _ rfl, get_set_lo _ rfl, State.setBit, get_set_lo _ rfl]
    exact get_set_self _ _ _
  · unfold haltSafeShown
    rw [halt_raise, halt_set, State.setBit, halt_set, halt_set, State.halt, actLoops_haltS]
    refine stops_emergency (s := haltSafeSet s cause) (fun m hm => ⟨(hstalls m hm).1, ?_⟩) (.inl (List.mem_range.mpr hn))
    have hlen' : (haltSafeSet s cause).haltS.length = 48 := hlen
    rw [hlen']
    exact (hstalls m hm).2
  · rw [haltSafeShown_get _ _ rfl, actLoops_kept _ rfl (stateCause_far_act n (Nat.lt_of_lt_of_le hn hlinks))]
    exact stops_cause hstalls (Nat.lt_of_lt_of_le hn hlinks) (List.mem_range.mpr hn)
  · rw [State.flag, haltSafeShown_get _ _ rfl]; exact hA
  · rw [State.flag, haltSafeShown_get _ _ rfl]; exact hB

/-! ### E-stop loops -/

theorem loopFlds_far_stops : ∀ k < 4, ∀ f ∈ loopFlds k, ∀ n < 48, ∀ g ∈ stopFlds n, f.key ≠ g.key := by decide +kernel

theorem loopStops_loop (s : State) (hk : k < 4) (hlinks : s.variant.links ≤ 48) : ∀ f ∈ loopFlds k, (s.loopStops k).get f = s.get f := by
  intro f hf
  have hw := (loopFlds_far k hk f hf).1
  refine stops_changes _ 1 s f (by rw [hw]; decide) (by rw [hw]; decide) (mem_stops_far (fun n hn => ?_) (loopFlds_far_stops k hk f hf))
  exact Nat.lt_of_lt_of_le (List.mem_range.mp (List.mem_filter.mp hn).1) hlinks

theorem loopEvent_get (s : State) (k what : Nat) (hf : f.win = 12) : (s.loopEvent k what).get f = s.get f :=
  get_raise _ _ _ _ (by rw [hf]; rfl)

/-- An opened loop acts: its stops and the safety outputs. -/
theorem loopOpened_spec (hk : k < 4) (hlen : s.haltS.length = 48) (hlinks : s.variant.links ≤ 48) (hm : (s.loopMap k).mode = 1)
    (ho : s.loopOpen k = true) :
    (s.loopOpened k).loopOpen k = true ∧
    (∀ n < s.variant.links, bitOf (s.loopMap k).stalls n = true → ((s.loopOpened k).halt n).stop = .emergency) ∧
    ((s.loopMap k).safeOut = true → (s.loopOpened k).flag F.HLT_SAFE_OUT_A_ON = false ∧ (s.loopOpened k).flag F.HLT_SAFE_OUT_B_ON = false) := by
  have heq : s.loopOpened k = (((s.setB (F.HLT_ESTOPk_STATE_AWAIT_RESET k) false).loopStops k).actLoops).loopEvent k 0 := if_pos hm
  have hset : (s.setB (F.HLT_ESTOPk_STATE_AWAIT_RESET k) false).loopOpen k = s.loopOpen k := by
    simp only [State.loopOpen, State.flag, State.setB, get_set_lo (f := F.HLT_ESTOPk_STATE_AWAIT_RESET k) (g := F.HLT_ESTOPk_STATE_A_CLOSED k) _ rfl,
      get_set_lo (f := F.HLT_ESTOPk_STATE_AWAIT_RESET k) (g := F.HLT_ESTOPk_STATE_B_CLOSED k) _ rfl,
      get_set_lo (f := F.HLT_ESTOPk_STATE_AWAIT_RESET k) (g := F.HLT_ESTOPk_STATE_DISCREPANCY k) _ rfl]
  have hstops : ((s.setB (F.HLT_ESTOPk_STATE_AWAIT_RESET k) false).loopStops k).loopOpen k = true :=
    ((loopOpen_congr (loopStops_loop (s.setB (F.HLT_ESTOPk_STATE_AWAIT_RESET k) false) hk hlinks)).trans hset).trans ho
  have hmap : ((s.setB (F.HLT_ESTOPk_STATE_AWAIT_RESET k) false).loopStops k).loopMap k = s.loopMap k := by
    rw [State.loopMap, (loopStops_within _ k).hlt rfl]; rfl
  refine ⟨?_, fun n hn hb => ?_, fun hso => ?_⟩
  · rw [heq, loopOpen_congr (t := State.loopEvent _ k 0) fun f hf => loopEvent_get _ k 0 (loopFlds_far k hk f hf).1,
      loopOpen_congr (actLoops_loop _ hk), hstops]
  · have hin : n ∈ (s.setB (F.HLT_ESTOPk_STATE_AWAIT_RESET k) false).stallNums.filter fun n => bitOf (s.loopMap k).stalls n :=
      List.mem_filter.mpr ⟨List.mem_range.mpr hn, hb⟩
    rw [heq, State.loopEvent, halt_raise, State.halt, actLoops_haltS]
    refine stops_emergency (fun m hm' => ?_) (.inl hin)
    have hlt : m < s.variant.links := List.mem_range.mp (List.mem_filter.mp hm').1
    exact ⟨decide_eq_true hlt, by rw [setB_haltS, hlen]; exact Nat.lt_of_lt_of_le hlt hlinks⟩
  · have hact : ((s.setB (F.HLT_ESTOPk_STATE_AWAIT_RESET k) false).loopStops k).loopActs k = true := by
      rw [State.loopActs, hmap, hm, hstops]; rfl
    rw [heq, State.flag, State.flag, loopEvent_get _ k 0 rfl, loopEvent_get _ k 0 rfl]
    exact actLoops_safeOut_off _ (.inr ⟨k, hk, hmap ▸ hso, hact⟩)

/-- A loop re-arms, and no other does away with that. -/
theorem rearm_await (s : State) (hk : k < 4) : (s.rearm k).flag (F.HLT_ESTOPk_STATE_AWAIT_RESET k) = false := by
  unfold State.rearm
  rw [State.flag, loopEvent_get _ k 2 rfl, actLoops_loop _ hk _ (by simp [loopFlds])]
  exact flag_setB s (F.HLT_ESTOPk_STATE_AWAIT_RESET k) false rfl

theorem rearm_await_kept (s : State) (hk : k < 4) (hmk : m ≠ k) (hm : m < 4) :
    (s.rearm m).flag (F.HLT_ESTOPk_STATE_AWAIT_RESET k) = s.flag (F.HLT_ESTOPk_STATE_AWAIT_RESET k) := by
  have hfar : ∀ k < 4, ∀ m < 4, m ≠ k → (F.HLT_ESTOPk_STATE_AWAIT_RESET k).key ≠ (F.HLT_ESTOPk_STATE_AWAIT_RESET m).key := by decide
  unfold State.rearm
  rw [State.flag, loopEvent_get _ m 2 rfl, actLoops_loop _ hk _ (by simp [loopFlds]), State.setB, get_set_key _ (hfar k hk m hm hmk)]
  rfl

theorem rearms_await {l : List Nat} (hl : ∀ m ∈ l, m < 4) (hk : k < 4) (h : k ∈ l ∨ s.flag (F.HLT_ESTOPk_STATE_AWAIT_RESET k) = false) :
    (forAll l (fun k s => s.rearm k) s).flag (F.HLT_ESTOPk_STATE_AWAIT_RESET k) = false := by
  unfold forAll
  induction l generalizing s with
  | nil => exact h.resolve_left List.not_mem_nil
  | cons m l ih =>
    rw [List.foldl_cons]
    refine ih (fun x hx => hl x (List.mem_cons_of_mem _ hx)) ?_
    by_cases hmk : m = k
    · subst hmk; exact .inr (rearm_await s hk)
    · rw [rearm_await_kept s hk hmk (hl m List.mem_cons_self)]
      exact h.imp (fun hin => (List.mem_cons.mp hin).resolve_left (Ne.symm hmk)) id

/-- The channels of a loop by their flags. -/
theorem loopOpen_false_iff : s.loopOpen k = false ↔ s.flag (F.HLT_ESTOPk_STATE_A_CLOSED k) = true ∧
    s.flag (F.HLT_ESTOPk_STATE_B_CLOSED k) = true ∧ s.flag (F.HLT_ESTOPk_STATE_DISCREPANCY k) = false := by
  simp [State.loopOpen, and_assoc]

/-! ### Ceilings and sensors -/

theorem ceilNow_le (s : State) (n : Nat) : s.ceilNow n ≤ 30000 := by
  have hrow : ∀ w < 16, ∀ r, profileRow w = some r → r.1 ≤ 30000 := by decide +kernel
  unfold State.ceilNow
  split
  · exact Nat.zero_le _
  · next r hr =>
    have hr1 := hrow _ (Nat.mod_lt _ (by decide)) r hr
    extract_lets np fp fs
    have hfp : fp.1 ≤ fp.2 := by
      unfold fp
      split
      · exact Nat.le_refl _
      · exact Nat.sub_le _ _
    have hfs : fs.1 ≤ fs.2 := by
      unfold fs
      split
      · exact Nat.le_succ 1
      · exact Nat.le_refl _
    refine Nat.le_trans (Nat.div_le_of_le_mul ?_) hr1
    calc r.1 * fp.1 * fs.1 ≤ r.1 * fp.2 * fs.2 := Nat.mul_le_mul (Nat.mul_le_mul_left _ hfp) hfs
      _ = fp.2 * fs.2 * r.1 := by rw [Nat.mul_assoc, Nat.mul_comm]

/-- What the ceiling is computed from. -/
theorem ceilNow_congr (h : ∀ f ∈ [F.SLK_Sn_SEAL_COMMITTED n, F.WLK_Sn_TYPE_PHASES n, F.WLK_Sn_PHASE_LOST n], t.get f = s.get f)
    (h0 : (t.halt n).lost0 = (s.halt n).lost0) (h1 : (t.halt n).lost1 = (s.halt n).lost1) : t.ceilNow n = s.ceilNow n := by
  simp only [State.ceilNow, State.sealWord, State.lostPhases, h _ (by simp : F.SLK_Sn_SEAL_COMMITTED n ∈ _),
    h _ (by simp : F.WLK_Sn_TYPE_PHASES n ∈ _), h _ (by simp : F.WLK_Sn_PHASE_LOST n ∈ _), h0, h1]
  rfl

/-- One lost sensor halves the ceiling (R437). -/
theorem ceilNow_half (h : ∀ f ∈ [F.SLK_Sn_SEAL_COMMITTED n, F.WLK_Sn_TYPE_PHASES n, F.WLK_Sn_PHASE_LOST n], t.get f = s.get f)
    (hs : ((s.halt n).lost0 != (s.halt n).lost1) = false) (ht : ((t.halt n).lost0 != (t.halt n).lost1) = true) :
    2 * t.ceilNow n ≤ s.ceilNow n := by
  simp only [State.ceilNow, State.sealWord, State.lostPhases, h _ (by simp : F.SLK_Sn_SEAL_COMMITTED n ∈ _),
    h _ (by simp : F.WLK_Sn_TYPE_PHASES n ∈ _), h _ (by simp : F.WLK_Sn_PHASE_LOST n ∈ _), hs, ht]
  split
  · exact Nat.le_refl _
  · simp only [if_true, Bool.false_eq_true, if_false, Nat.mul_one]
    rw [← Nat.div_div_eq_div_mul]
    exact Nat.mul_div_le _ 2

/-- The current ceiling that a refresh shows. -/
theorem refreshCeil_ceil (s : State) (n : Nat) : (s.refreshCeil n).get (F.HLT_Sn_CEIL_I n) = s.ceilNow n := by
  unfold State.refreshCeil
  dsimp only
  rw [get_set_key _ (key_ne_stride rfl rfl rfl), get_set_key _ (key_ne_stride rfl rfl rfl), get_set_lo _ rfl, get_set_self]
  exact Nat.mod_eq_of_lt (Nat.lt_of_le_of_lt (ceilNow_le s n) (show 30000 < 2 ^ 16 by decide))

/-- The lost sensors stand when the ceilings are shown. -/
theorem refreshCeil_lost (s : State) (n : Nat) : ((s.refreshCeil n).halt n).lost0 = (s.halt n).lost0 ∧
    ((s.refreshCeil n).halt n).lost1 = (s.halt n).lost1 := by
  have hview : ∀ {β : Type} (v : Halt → β) (f : Halt → Halt), (∀ h, v (f h) = v h) → v ((s.modHalt n f).halt n) = v (s.halt n) :=
    fun v f hf => getD_modAt_view v s.haltS n n f Halt.init hf
  unfold State.refreshCeil
  dsimp only
  split
  · exact ⟨hview (fun h => h.lost0) _ fun _ => rfl, hview (fun h => h.lost1) _ fun _ => rfl⟩
  · exact ⟨rfl, rfl⟩

end Sys2Proof.CommandLaws
end

section
/-!
PROOFS. The Halter's obligations: E-stop loops, HALT_SAFE, stops of a stall and cable sensors (O43-O46).
-/
set_option Elab.async false -- the kernel evaluations wait for each other: keep them in one thread
namespace Sys2Proof.CommandLaws

open Sys2Proof.Machine Sys2Proof.Laws Sys2Proof.PaddockLaws

variable {s t u : State} {n k ch : Nat}

/-- The state in which channel `ch` of loop `k` is open. -/
def channelOpen (s : State) (k ch : Nat) : State :=
  let s := s.setB (if ch = 0 then F.HLT_ESTOPk_STATE_A_CLOSED k else F.HLT_ESTOPk_STATE_B_CLOSED k) false
  if !s.flag (F.HLT_ESTOPk_STATE_A_CLOSED k) && !s.flag (F.HLT_ESTOPk_STATE_B_CLOSED k) then
    s.modHlt fun h => { h with bothOpen := modAt h.bothOpen k fun _ => true } else s

theorem channelOpen_maps (s : State) (k ch : Nat) : (channelOpen s k ch).haltS = s.haltS ∧ (channelOpen s k ch).variant = s.variant ∧
    (channelOpen s k ch).loopMap k = s.loopMap k := by
  unfold channelOpen
  extract_lets s1
  split <;> exact ⟨rfl, rfl, rfl⟩

theorem channelOpen_loop (s : State) (k ch : Nat) : (channelOpen s k ch).loopOpen k = true := by
  have hbase : (s.setB (if ch = 0 then F.HLT_ESTOPk_STATE_A_CLOSED k else F.HLT_ESTOPk_STATE_B_CLOSED k) false).loopOpen k = true := by
    unfold State.loopOpen
    split
    · rw [flag_setB _ _ _ rfl]; rfl
    · rw [flag_setB _ _ _ rfl]; simp
  unfold channelOpen
  extract_lets s1
  split <;> exact hbase

theorem exec_estopChannelOpen (hk : k < 4) (hch : ch < 2) (ho : s.loopOpen k = false) :
    exec (.estopChannelOpen k ch) s = .next ((channelOpen s k ch).loopOpened k) := by
  have hexec : exec (.estopChannelOpen k ch) s = execEstopChannelOpen k ch s := rfl
  rw [hexec, execEstopChannelOpen, if_neg (by omega), ho]
  rfl

/-- The state in which both channels of loop `k` have closed together. -/
def channelsClosed (s : State) (k : Nat) : State :=
  let s := (s.setB (F.HLT_ESTOPk_STATE_A_CLOSED k) true).setB (F.HLT_ESTOPk_STATE_B_CLOSED k) true
  if s.hlt.bothOpen.getD k false = true then s.setB (F.HLT_ESTOPk_STATE_DISCREPANCY k) false else s

theorem channelsClosed_loop (s : State) (k : Nat)
    (h : s.flag (F.HLT_ESTOPk_STATE_DISCREPANCY k) = false ∨ s.hlt.bothOpen.getD k false = true) :
    (channelsClosed s k).loopOpen k = false := by
  have hA : ((s.setB (F.HLT_ESTOPk_STATE_A_CLOSED k) true).setB (F.HLT_ESTOPk_STATE_B_CLOSED k) true).flag (F.HLT_ESTOPk_STATE_A_CLOSED k) = true := by
    rw [State.flag, State.setB, get_set_lo _ rfl]; exact flag_setB _ _ true rfl
  have hB : ((s.setB (F.HLT_ESTOPk_STATE_A_CLOSED k) true).setB (F.HLT_ESTOPk_STATE_B_CLOSED k) true).flag (F.HLT_ESTOPk_STATE_B_CLOSED k) = true :=
    flag_setB _ _ true rfl
  rw [loopOpen_false_iff]
  unfold channelsClosed
  dsimp only
  split
  · refine ⟨?_, ?_, flag_setB _ _ false rfl⟩
    · rw [State.flag, State.setB, get_set_lo _ rfl]; exact hA
    · rw [State.flag, State.setB, get_set_lo _ rfl]; exact hB
  · next hno =>
    refine ⟨hA, hB, ?_⟩
    rw [State.flag, State.setB, get_set_lo _ rfl, State.setB, get_set_lo _ rfl]
    exact h.resolve_right hno

theorem channelsClosed_map (s : State) (k : Nat) : (channelsClosed s k).loopMap k = s.loopMap k := by
  unfold channelsClosed
  dsimp only
  split <;> rfl

theorem exec_estopLoopClose (hk : k < 4) (hm : (s.loopMap k).mode = 1) (ho : s.loopOpen k = true)
    (h : s.flag (F.HLT_ESTOPk_STATE_DISCREPANCY k) = false ∨ s.hlt.bothOpen.getD k false = true) :
    exec (.estopLoopClose k 3) s = .next ((((((channelsClosed s k).modHlt fun h => { h with
      bothOpen := modAt h.bothOpen k (fun _ => false), closedAt := modAt h.closedAt k fun _ => (channelsClosed s k).chrono }).setB
        (F.HLT_ESTOPk_STATE_AWAIT_RESET k) true).actLoops).loopEvent k 1)) := by
  have hexec : exec (.estopLoopClose k 3) s = .next (
      if s.loopOpen k = true ∧ (channelsClosed s k).loopOpen k = false then
        if (((channelsClosed s k).modHlt fun h => { h with bothOpen := modAt h.bothOpen k (fun _ => false)
                                                           closedAt := modAt h.closedAt k fun _ => (channelsClosed s k).chrono }).loopMap k).mode = 1 then
          ((((channelsClosed s k).modHlt fun h => { h with
            bothOpen := modAt h.bothOpen k (fun _ => false), closedAt := modAt h.closedAt k fun _ => (channelsClosed s k).chrono }).setB
              (F.HLT_ESTOPk_STATE_AWAIT_RESET k) true).actLoops).loopEvent k 1
        else ((channelsClosed s k).modHlt fun h => { h with
          bothOpen := modAt h.bothOpen k (fun _ => false), closedAt := modAt h.closedAt k fun _ => (channelsClosed s k).chrono }).showLoops
      else (channelsClosed s k).showLoops) := by
    have hdef : exec (.estopLoopClose k 3) s = execEstopLoopClose k 3 s := rfl
    rw [hdef, execEstopLoopClose, if_neg (by omega)]
    simp only [channelsClosed, show bitOf 3 0 = true from rfl, show bitOf 3 1 = true from rfl, if_true, show 3 % 4 = 3 from rfl, true_and]
    rfl
  have hmap : (((channelsClosed s k).modHlt fun h => { h with
      bothOpen := modAt h.bothOpen k (fun _ => false)
      closedAt := modAt h.closedAt k fun _ => (channelsClosed s k).chrono }).loopMap k).mode = 1 :=
    (congrArg LoopMap.mode (channelsClosed_map s k)).trans hm
  rw [hexec, if_pos ⟨ho, channelsClosed_loop s k h⟩, if_pos hmap]

/-- The safety outputs as driven are not what their pins read. -/
theorem safeOut_read (s : State) (a b : Bool) (ch : Nat) :
    ((s.setB F.HLT_SAFE_OUT_A_READ a).setB F.HLT_SAFE_OUT_B_READ b).safeOut ch = s.safeOut ch := by
  have hon : ∀ f : Fld, (f.lo % 32).beq 4 = false → (f.lo % 32).beq 5 = false →
      ((s.setB F.HLT_SAFE_OUT_A_READ a).setB F.HLT_SAFE_OUT_B_READ b).get f = s.get f := fun f h4 h5 => by
    rw [State.setB, State.setB, get_set_lo _ h5, get_set_lo _ h4]
  have hproof : ((s.setB F.HLT_SAFE_OUT_A_READ a).setB F.HLT_SAFE_OUT_B_READ b).proofOff ch = s.proofOff ch := rfl
  unfold State.safeOut State.flag
  rw [hproof]
  split
  · rw [hon _ rfl rfl]
  · rw [hon _ rfl rfl]

end Sys2Proof.CommandLaws

namespace Sys2Proof

open Sys2Proof.Machine Sys2Proof.Laws Sys2Proof.PaddockLaws Sys2Proof.CommandLaws

/-- Settles O43: an opened loop by `loopOpened_spec`, the closing and the re-arming by the loop's registers. -/
theorem estopLoops : Obligations.EstopLoops := by
  intro s k hk hlen hlinks hm
  refine ⟨fun ch hch ho => ?_, fun hne hd => ?_, fun ho hd => ?_, fun len hlo hhi hen ha ho hat => ?_, fun hen ha ho => ?_⟩
  · obtain ⟨hh, hv, hmap⟩ := channelOpen_maps s k ch
    have hspec := loopOpened_spec hk (by rw [hh]; exact hlen) (by rw [hv]; exact hlinks) (by rw [hmap]; exact hm) (channelOpen_loop s k ch)
    rw [hv, hmap] at hspec
    exact ⟨_, exec_estopChannelOpen hk hch ho, hspec⟩
  · have hexec : exec (.estopDiscrepancyTimeout k) s = execEstopDiscrepancyTimeout k s := rfl
    rw [hexec, execEstopDiscrepancyTimeout, if_pos ⟨hk, hne, hd⟩]
    dsimp only
    have hmap : ¬ (((s.setB (F.HLT_ESTOPk_STATE_DISCREPANCY k) true).modHlt fun h => { h with
        bothOpen := modAt h.bothOpen k fun _ => false }).loopMap k).mode = 0 := by
      have hmode : (((s.setB (F.HLT_ESTOPk_STATE_DISCREPANCY k) true).modHlt fun h => { h with
        bothOpen := modAt h.bothOpen k fun _ => false }).loopMap k).mode = 1 := hm
      rw [hmode]; decide
    rw [if_neg hmap]
    have hflag : (State.loopEvent (State.showLoops ((s.setB (F.HLT_ESTOPk_STATE_DISCREPANCY k) true).modHlt fun h => { h with
        bothOpen := modAt h.bothOpen k fun _ => false })) k 3).flag (F.HLT_ESTOPk_STATE_DISCREPANCY k) = true := by
      rw [State.flag, loopEvent_get _ k 3 rfl, showLoops_loop _ hk _ (by simp [loopFlds]), get_modHlt]
      exact flag_setB s _ true rfl
    refine ⟨_, rfl, hflag, ?_⟩
    rw [State.loopOpen, hflag, Bool.or_true]
  · refine ⟨_, exec_estopLoopClose hk hm ho hd, ?_, ?_⟩
    · rw [loopOpen_congr (t := State.loopEvent _ k 1) fun f hf => loopEvent_get _ k 1 (loopFlds_far k hk f hf).1,
        loopOpen_congr (actLoops_loop _ hk), loopOpen_false_iff]
      obtain ⟨hA, hB, hD⟩ := loopOpen_false_iff.mp (channelsClosed_loop s k hd)
      refine ⟨?_, ?_, ?_⟩
      · rw [State.flag, State.setB, get_set_lo _ rfl]; exact hA
      · rw [State.flag, State.setB, get_set_lo _ rfl]; exact hB
      · rw [State.flag, State.setB, get_set_lo _ rfl]; exact hD
    · rw [State.flag, loopEvent_get _ k 1 rfl, actLoops_loop _ hk _ (by simp [loopFlds])]
      exact flag_setB _ _ true rfl
  · have hexec : exec (.estopResetPulse (s.loopMap k).resetGpio len) s = execEstopResetPulse (s.loopMap k).resetGpio len s := rfl
    rw [hexec, execEstopResetPulse, if_neg (by omega)]
    refine ⟨_, rfl, rearms_await (fun m hm' => List.mem_range.mp (List.mem_filter.mp hm').1) hk (.inl ?_)⟩
    exact List.mem_filter.mpr ⟨List.mem_range.mpr hk, by simpa [hm, hen, ha, ho] using hat⟩
  · have hexec : exec (.estopRearmTimeout k) s = execEstopRearmTimeout k s := rfl
    rw [hexec, execEstopRearmTimeout, if_pos ⟨hk, hm, hen, ha, ho⟩]
    exact ⟨_, rfl, rearm_await s hk⟩

/-- Settles O44: each failure ends in `State.enterHaltSafe` with its cause. -/
theorem haltSafe : Obligations.HaltSafe := by
  intro s dev a b k hs hlen hlinks
  have hspec : ∀ (u : State) (cause : Nat) (c : Instr), u.haltSafe = false → u.haltS = s.haltS → u.variant = s.variant → cause < 256 →
      exec c s = .next (u.enterHaltSafe cause) →
      ∃ t, exec c s = .next t ∧ t.haltSafe = true ∧ t.get F.HLT_FAULT_CAUSE = cause ∧ t.get F.GLB_BOOT_STATUS_PHASE = 14 ∧
        (∀ n < s.variant.links, (t.halt n).stop = .emergency ∧ t.get (F.HLT_Sn_STATE_CAUSE n) = 0x15) ∧
        t.flag F.HLT_SAFE_OUT_A_ON = false ∧ t.flag F.HLT_SAFE_OUT_B_ON = false := by
    intro u cause c hu hh hv hc he
    have h := enterHaltSafe_spec hu (by rw [hh]; exact hlen) (by rw [hv]; exact hlinks) hc
    rw [hv] at h
    exact ⟨_, he, h⟩
  refine ⟨fun e he => ?_, rfl, fun hdev => ?_⟩
  · simp only [List.mem_append, List.mem_cons, List.not_mem_nil, or_false] at he
    rcases he with (((rfl | rfl | rfl) | hosc) | hread) | hedm
    · exact hspec s 5 _ hs rfl rfl (by decide) rfl
    · exact hspec s 1 _ hs rfl rfl (by decide) rfl
    · exact hspec s 3 _ hs rfl rfl (by decide) rfl
    · split at hosc
      · next hdev =>
        obtain rfl := List.mem_singleton.mp hosc
        refine hspec s 2 _ hs rfl rfl (by decide) ?_
        have hexec : exec (.halterOscCheck dev) s = execHalterOscCheck dev s := rfl
        rw [hexec, execHalterOscCheck, if_pos hdev]
      · exact absurd hosc List.not_mem_nil
    · split at hread
      · next hpins =>
        obtain rfl := List.mem_singleton.mp hread
        have hout := safeOut_read s a b
        refine hspec ((s.setB F.HLT_SAFE_OUT_A_READ a).setB F.HLT_SAFE_OUT_B_READ b) 4 _ ?_ rfl rfl (by decide) ?_
        · rw [State.haltSafe, State.flag, State.setB, State.setB, get_set_lo _ rfl, get_set_lo _ rfl]; exact hs
        · have hexec : exec (.safeOutReadbackFault a b) s = execSafeOutReadbackFault a b s := rfl
          rw [hexec, execSafeOutReadbackFault]
          dsimp only
          rw [if_pos (by rw [hout, hout]; exact hpins)]
      · exact absurd hread List.not_mem_nil
    · split at hedm
      · next hloop =>
        obtain rfl := List.mem_singleton.mp hedm
        refine hspec s 6 _ hs rfl rfl (by decide) ?_
        have hexec : exec (.edmMismatch k) s = execEdmMismatch k s := rfl
        rw [hexec, execEdmMismatch]
        dsimp only
        rw [if_pos hloop]
      · exact absurd hedm List.not_mem_nil
  · have hexec : exec (.halterOscCheck dev) s = execHalterOscCheck dev s := rfl
    rw [hexec, execHalterOscCheck, if_neg (by omega)]

/-- Settles O45: a stop that starts by `stopStall_halt` and `stopStall_cause`, a running one by what its commands write. -/
theorem stallStops : Obligations.StallStops := by
  intro s n hn h48 hlen
  have hstall : s.hasStall n = true := decide_eq_true hn
  have hlt : n < s.haltS.length := by omega
  refine ⟨fun hs hov => ?_, fun hs hsus => ?_, fun hs hdue => ?_, fun hs hw hcc => ?_, fun hs hc htd hso hul hcc ha => ?_, fun hw hcc => ?_⟩
  · have ht : stopTakes s n .emergency 0x07 = true := by simp [stopTakes, hs]
    have hstop : ((s.stopStall n .emergency 0x07).halt n).stop = .emergency := by rw [stopStall_halt ht hstall hlt]
    have hexec : exec (.halterSampleTrip n) s = .next (s.stopStall n .emergency 0x07) := by
      have hdef : exec (.halterSampleTrip n) s = execHalterSampleTrip n s := rfl
      rw [hdef, execHalterSampleTrip]
      dsimp only
      rw [if_pos hov]
      split
      · rw [stopStall_of_not_takes]
        simp [stopTakes, hstop]
      · rfl
    exact ⟨_, hexec, hstop, stopStall_cause ht hstall h48⟩
  · have ht : stopTakes s n .orderly 0x09 = true := by simp [stopTakes, hs]
    have hexec : exec (.sustainedOverTimeout n) s = execSustainedOverTimeout n s := rfl
    rw [hexec, execSustainedOverTimeout, if_pos hsus]
    refine ⟨_, rfl, ?_, stopStall_cause ht hstall h48⟩
    rw [stopStall_halt ht hstall hlt]
  · have hexec : exec (.stopPermitWithdrawal n) s = execStopPermitWithdrawal n s := rfl
    have hd : s.withdrawDue n = true := by simpa [State.withdrawDue] using hdue
    rw [hexec, execStopPermitWithdrawal, if_pos ⟨hs, hd⟩]
    refine ⟨_, rfl, ?_⟩
    rw [halt_modHalt_self _ hlt]
    exact ⟨rfl, rfl⟩
  · have hexec : exec (.stopEnd n) s = execStopEnd n s := rfl
    rw [hexec, execStopEnd, hs]
    dsimp only
    rw [if_pos ⟨hw, hcc⟩]
    refine ⟨_, rfl, ?_⟩
    rw [halt_modHalt_self _ hlt]
  · have hexec : exec (.stopEnd n) s = execStopEnd n s := rfl
    rw [hexec, execStopEnd, hs]
    dsimp only
    rw [if_pos (by simp [hc, htd, hso, hul, hcc, ha])]
    by_cases hrun : s.linkState n = Link.run
    · rw [if_pos hrun]
      refine ⟨_, rfl, fun _ => ?_, fun hno => absurd hrun hno⟩
      rw [halt_modHalt_self _ hlt]
      exact ⟨hs, Nat.le_succ 2⟩
    · rw [if_neg hrun]
      refine ⟨_, rfl, fun hno => absurd hno hrun, fun _ => ?_⟩
      rw [halt_modHalt_self _ hlt]
  · have hexec : exec (.contactorWeldTimeout n) s = execContactorWeldTimeout n s := rfl
    have hfar : ∀ n < 48, ∀ g ∈ stopFlds n, (F.HLT_Sn_LATCH_WELD n).key ≠ g.key := by decide +kernel
    rw [hexec, execContactorWeldTimeout, if_pos ⟨hw, hcc⟩]
    refine ⟨_, rfl, ?_, stopStall_emergency hstall hlt⟩
    rw [State.flag, stopStall_changes _ n .emergency 0x0A _ (by decide : 12 % 256 ≠ 1) (by decide : 12 % 256 ≠ 14) (hfar n h48)]
    exact flag_setB s _ true rfl

end Sys2Proof
end

section
/-!
PROOFS. Cable sensors (O46) and the Halter's opcodes (O47).
-/
set_option Elab.async false -- the kernel evaluations wait for each other: keep them in one thread
namespace Sys2Proof.CommandLaws

open Sys2Proof.Machine Sys2Proof.Laws Sys2Proof.PaddockLaws

variable {s t u : State} {n i : Nat}

/-- What the ceilings of a stall are computed from. -/
def ceilSources (n : Nat) : List Fld := [F.SLK_Sn_SEAL_COMMITTED n, F.WLK_Sn_TYPE_PHASES n, F.WLK_Sn_PHASE_LOST n]

theorem ceilSources_win : ∀ f ∈ ceilSources n, (f.win % 256).beq 12 = false ∧ ((f.win % 256).beq 1 || (f.win % 256).beq 14) = false := by
  intro f hf
  simp only [ceilSources, List.mem_cons, List.not_mem_nil, or_false] at hf
  rcases hf with rfl | rfl | rfl <;> exact ⟨rfl, rfl⟩

theorem refreshCeil_sources (s : State) (n : Nat) : ∀ f ∈ ceilSources n, (s.refreshCeil n).get f = s.get f := fun f hf =>
  refreshCeil_get s n (Nat.ne_of_beq_eq_false (ceilSources_win f hf).1)

/-- The Halter's own registers are no source of a ceiling. -/
theorem set_sources {g : Fld} (s : State) (v : Nat) (hg : g.win = 12) : ∀ f ∈ ceilSources n, (s.set g v).get f = s.get f := fun f hf =>
  get_set_win v (by rw [hg]; exact (ceilSources_win f hf).1)

/-- The state in which cable sensor `i` is lost alone. -/
def oneLost (s : State) (n i : Nat) : State :=
  let s := s.modHalt n fun h => if i = 0 then { h with lost0 := true } else { h with lost1 := true }
  let s := s.modHalt n fun h => { h with sensorAt := some s.chrono }
  if s.flag (F.HLT_Sn_DEGRADE_SENSOR_MODE n) = false ∧ s.get (F.HLT_Sn_DEGRADE_SENSOR_LEFT n) = 0 then
    s.set (F.HLT_Sn_DEGRADE_SENSOR_LEFT n) 300 else s

theorem oneLost_halt (hlt : n < s.haltS.length) (hi : i ≤ 1) (h0 : (s.halt n).lost0 = false) (h1 : (s.halt n).lost1 = false) :
    (((oneLost s n i).halt n).lost0 != ((oneLost s n i).halt n).lost1) = true := by
  have hset : ∀ u : State, (if u.flag (F.HLT_Sn_DEGRADE_SENSOR_MODE n) = false ∧ u.get (F.HLT_Sn_DEGRADE_SENSOR_LEFT n) = 0 then
      u.set (F.HLT_Sn_DEGRADE_SENSOR_LEFT n) 300 else u).halt n = u.halt n := fun u => by split <;> rfl
  unfold oneLost
  rw [hset, halt_modHalt_self _ (by rw [haltS_length]; exact hlt), halt_modHalt_self _ hlt]
  rcases Nat.le_one_iff_eq_zero_or_eq_one.mp hi with rfl | rfl <;> simp [h0, h1]

theorem oneLost_sources (s : State) (n i : Nat) : ∀ f ∈ ceilSources n, (oneLost s n i).get f = s.get f := by
  intro f hf
  unfold oneLost
  extract_lets s1 s2
  split
  · exact set_sources s2 300 rfl f hf
  · rfl

/-- A sensor lost alone: half the ceiling and the single-sensor mode (R452). -/
theorem sensorLost_one (hlt : n < s.haltS.length) (hi : i ≤ 1) (hmap : bitOf (s.link n).ident.hkMap i = true)
    (h0 : (s.halt n).lost0 = false) (h1 : (s.halt n).lost1 = false) :
    s.sensorLost n i = (((oneLost s n i).setB (F.HLT_Sn_DEGRADE_SENSOR_MODE n) true).refreshCeil n).degradedEvent n 1 0 := by
  have hboth : (((s.modHalt n fun h => if i = 0 then { h with lost0 := true } else { h with lost1 := true }).halt n).lost0 &&
      ((s.modHalt n fun h => if i = 0 then { h with lost0 := true } else { h with lost1 := true }).halt n).lost1) = false := by
    rw [halt_modHalt_self _ hlt]
    rcases Nat.le_one_iff_eq_zero_or_eq_one.mp hi with rfl | rfl <;> simp [h0, h1]
  have hgo : ¬ (bitOf (s.link n).ident.hkMap i = false ∨ (if i = 0 then (s.halt n).lost0 else (s.halt n).lost1) = true) := by
    simp [hmap, h0, h1]
  unfold State.sensorLost
  dsimp only
  rw [if_neg hgo, hboth]
  rfl

/-- What a refresh of the ceilings writes. -/
def ceilFlds (n : Nat) : List Fld := [F.HLT_Sn_CEIL_I n, F.HLT_Sn_CEIL_V n, F.HLT_Sn_PROFILE_SEAL n, F.HLT_Sn_PROFILE_PROFILE n]

theorem refreshCeil_changes (s : State) (n : Nat) : Changes (ceilFlds n) s (s.refreshCeil n) := by
  unfold State.refreshCeil
  extract_lets c old s1 v
  have h1 : Changes (ceilFlds n) s s1 := .ite (fun _ _ _ _ => rfl) (.refl _ s)
  exact (((h1.set _ (by simp [ceilFlds])).set _ (by simp [ceilFlds])).set _ (by simp [ceilFlds])).set _ (by simp [ceilFlds])

/-- The sensor mode and its lockout are no ceilings. -/
theorem sensorFlds_far : ∀ n < 48, ∀ f ∈ [F.HLT_Sn_DEGRADE_SENSOR_MODE n, F.HLT_Sn_LATCH_LOCKOUT n], f.win = 12 ∧
    ∀ g ∈ ceilFlds n, f.key ≠ g.key := by decide +kernel

theorem refreshCeil_sensor (s : State) (h48 : n < 48) : ∀ f ∈ [F.HLT_Sn_DEGRADE_SENSOR_MODE n, F.HLT_Sn_LATCH_LOCKOUT n],
    (s.refreshCeil n).get f = s.get f := fun f hf =>
  refreshCeil_changes s n f (by rw [(sensorFlds_far n h48 f hf).1]; decide) (by rw [(sensorFlds_far n h48 f hf).1]; decide)
    (sensorFlds_far n h48 f hf).2

/-- The state in which the sensor mode and the lockout have ended. -/
def sensorsBack (s : State) (n : Nat) : State :=
  ((((s.sensorTick n).modHalt n fun h => { h with lost0 := false, lost1 := false, sensorsLost := false, sensorAt := none }).setB
    (F.HLT_Sn_LATCH_LOCKOUT n) false).setB (F.HLT_Sn_DEGRADE_SENSOR_MODE n) false).refreshCeil n

theorem degradedEvent_get (s : State) (n kind what : Nat) {f : Fld} (h : ((f.win % 256).beq 1 || (f.win % 256).beq 14) = false) :
    (s.degradedEvent n kind what).get f = s.get f := get_raise _ _ _ _ h

theorem degradedEvent_halt (s : State) (n kind what m : Nat) : (s.degradedEvent n kind what).halt m = s.halt m := halt_raise _ _ _ _

theorem sensorTick_lengths (s : State) (n : Nat) : (s.sensorTick n).haltS.length = s.haltS.length := by
  unfold State.sensorTick
  split
  · dsimp only
    split
    · exact haltS_length _
    · exact haltS_length _
  · rfl

theorem sensorsBack_spec (s : State) (h48 : n < 48) (hlt : n < s.haltS.length) :
    (sensorsBack s n).flag (F.HLT_Sn_LATCH_LOCKOUT n) = false ∧ (sensorsBack s n).flag (F.HLT_Sn_DEGRADE_SENSOR_MODE n) = false ∧
    ((sensorsBack s n).halt n).lost0 = false ∧ ((sensorsBack s n).halt n).lost1 = false := by
  unfold sensorsBack
  have hl := refreshCeil_lost ((((s.sensorTick n).modHalt n fun h => { h with
    lost0 := false, lost1 := false, sensorsLost := false, sensorAt := none }).setB (F.HLT_Sn_LATCH_LOCKOUT n) false).setB
      (F.HLT_Sn_DEGRADE_SENSOR_MODE n) false) n
  rw [hl.1, hl.2, State.flag, State.flag, refreshCeil_sensor _ h48 _ (by simp), refreshCeil_sensor _ h48 _ (by simp)]
  refine ⟨?_, flag_setB _ _ false rfl, ?_, ?_⟩
  · rw [State.setB, get_set_key _ (key_ne_stride rfl rfl rfl)]; exact flag_setB _ (F.HLT_Sn_LATCH_LOCKOUT n) false rfl
  all_goals
    rw [State.setB, State.setB, halt_set, halt_set, halt_modHalt_self _ (by rw [sensorTick_lengths]; exact hlt)]

/-- Both a mode that is left and one that is not start from a session's rest or from none: no time is given back. -/
theorem stopStall_sensorLeft {kind : StopKind} {cause : Nat} (hm : s.mode n = 3)
    (h : s.get (F.HLT_Sn_DEGRADE_SENSOR_LEFT n) = 0) : (s.stopStall n kind cause).get (F.HLT_Sn_DEGRADE_SENSOR_LEFT n) = 0 := by
  have hbegun : (stopBegun s n kind cause).get (F.HLT_Sn_DEGRADE_SENSOR_LEFT n) = 0 ∧ (stopBegun s n kind cause).mode n = 3 := by
    unfold stopBegun State.mode
    extract_lets i s1 s2 s3
    have h3 : s3.get (F.HLT_Sn_DEGRADE_SENSOR_LEFT n) = s2.get (F.HLT_Sn_DEGRADE_SENSOR_LEFT n) ∧
        s3.get (F.WLK_Sn_MODE_MODE n) = s2.get (F.WLK_Sn_MODE_MODE n) := by
      unfold s3
      split
      · exact ⟨get_set_key _ (key_ne_stride rfl rfl rfl), get_set_win _ rfl⟩
      · exact ⟨get_set_key _ (key_ne_stride rfl rfl rfl), get_set_win _ rfl⟩
    rw [get_raise _ _ _ _ rfl, get_raise _ _ _ _ rfl, h3.1, h3.2]
    exact ⟨(get_set_key _ (key_ne_stride rfl rfl rfl)).trans h, (get_set_win _ rfl).trans hm⟩
  cases ht : stopTakes s n kind cause with
  | false => rw [stopStall_of_not_takes ht]; exact h
  | true =>
    cases hn : s.hasStall n with
    | false => unfold State.stopStall; simp only [hn, Bool.not_false, Bool.or_true, if_true]; exact h
    | true =>
      rw [stopStall_of_takes ht hn, stopLoop_get]
      generalize hb : stopBegun s n kind cause = b at hbegun
      unfold stopMode
      rw [if_pos (.inr (.inr hbegun.2))]
      unfold State.failMode
      dsimp only
      rw [if_pos (.inr (.inr hbegun.2)), State.startRamp, get_modWalk, get_modWalk]
      unfold State.setMode
      dsimp only
      rw [if_neg (by decide)]
      have hbase : ∀ u : State, u.get (F.HLT_Sn_DEGRADE_SENSOR_LEFT n) = 0 →
          ((u.set (F.WLK_Sn_MODE_MODE n) 4).set (F.WLK_Sn_MODE_STATE n) 1).get (F.HLT_Sn_DEGRADE_SENSOR_LEFT n) = 0 := fun u hu => by
        rw [get_set_win _ rfl, get_set_win _ rfl]; exact hu
      have hr : ((b.set (F.WLK_Sn_MODE_CAUSE n) 8).raise 0x0404 2 n [b.mode n, 8]).get (F.HLT_Sn_DEGRADE_SENSOR_LEFT n) = 0 := by
        rw [get_raise _ _ _ _ rfl, get_set_win _ rfl]; exact hbegun.1
      split
      · rw [get_set_win _ rfl, get_set_win _ rfl, get_set_win _ rfl]; exact hbase _ hr
      · exact hbase _ hr

end Sys2Proof.CommandLaws

namespace Sys2Proof

open Sys2Proof.Machine Sys2Proof.Laws Sys2Proof.PaddockLaws Sys2Proof.CommandLaws

/-- Settles O46: a lost sensor by `sensorLost_one`, the limit and the release by what they write. -/
theorem cableSensors : Obligations.CableSensors := by
  intro s n hn h48 hlen
  have hstall : s.hasStall n = true := decide_eq_true hn
  have hlt : n < s.haltS.length := by omega
  refine ⟨fun i hi hmap h0 h1 => ?_, fun hmode hlock => ?_, fun hvals => ?_⟩
  · have hexec : exec (.sensorLossTimeout n i) s = execSensorLossTimeout n i s := rfl
    rw [hexec, execSensorLossTimeout, if_pos ⟨hstall, hi⟩, sensorLost_one hlt hi hmap h0 h1]
    have hlost := oneLost_halt hlt hi h0 h1
    have hcl := refreshCeil_lost ((oneLost s n i).setB (F.HLT_Sn_DEGRADE_SENSOR_MODE n) true) n
    generalize hb : (oneLost s n i).setB (F.HLT_Sn_DEGRADE_SENSOR_MODE n) true = b at hcl
    have hbl : ((b.halt n).lost0 != (b.halt n).lost1) = true := by rw [← hb]; exact hlost
    have hbm : b.flag (F.HLT_Sn_DEGRADE_SENSOR_MODE n) = true := by rw [← hb]; exact flag_setB _ _ true rfl
    have hbs : ∀ f ∈ ceilSources n, b.get f = s.get f := fun f hf => by
      rw [← hb, State.setB, set_sources _ _ rfl f hf, oneLost_sources s n i f hf]
    have hts : ∀ f ∈ ceilSources n, ((b.refreshCeil n).degradedEvent n 1 0).get f = b.get f := fun f hf => by
      rw [degradedEvent_get _ n 1 0 (ceilSources_win f hf).2, refreshCeil_sources b n f hf]
    have htl : ((((b.refreshCeil n).degradedEvent n 1 0).halt n).lost0 != (((b.refreshCeil n).degradedEvent n 1 0).halt n).lost1) = true := by
      rw [degradedEvent_halt, hcl.1, hcl.2]; exact hbl
    refine ⟨_, rfl, ?_, htl, ?_, ?_⟩
    · rw [State.flag, degradedEvent_get _ n 1 0 rfl, refreshCeil_sensor b h48 _ (by simp)]
      exact hbm
    · rw [degradedEvent_get _ n 1 0 rfl, refreshCeil_ceil]
      exact (ceilNow_congr hts (by rw [degradedEvent_halt, hcl.1]) (by rw [degradedEvent_halt, hcl.2])).symm
    · exact Nat.le_succ_of_le (ceilNow_half (fun f hf => (hts f hf).trans (hbs f hf)) (by rw [h0, h1]; rfl) htl)
  · have hexec : exec (.sensorDegradedLimit n) s = execSensorDegradedLimit n s := rfl
    rw [hexec, execSensorDegradedLimit, if_pos ⟨hmode, hlock⟩]
    have hfar : ∀ n < 48, ∀ g ∈ stopFlds n, (F.HLT_Sn_LATCH_LOCKOUT n).key ≠ g.key := by decide +kernel
    refine ⟨_, rfl, ?_, ?_, fun hm => ?_⟩
    · rw [State.flag, degradedEvent_get _ n 1 2 rfl,
        stopStall_changes _ n .orderly 0x12 _ (by decide : 12 % 256 ≠ 1) (by decide : 12 % 256 ≠ 14) (hfar n h48)]
      exact flag_setB _ (F.HLT_Sn_LATCH_LOCKOUT n) true rfl
    · rw [degradedEvent_halt]
      exact stopStall_stops (by decide) hstall (by rw [haltS_length]; exact hlt)
    · rw [degradedEvent_get _ n 1 2 rfl]
      refine stopStall_sensorLeft ?_ ?_
      · rw [State.mode, get_modHalt, State.setB, get_set_win _ rfl, get_set_win _ rfl]; exact hm
      · rw [get_modHalt, State.setB, get_set_key _ (key_ne_stride rfl rfl rfl)]; exact get_set_self _ _ _
  · obtain ⟨hv0, hv1⟩ := hvals
    have hexec : exec (.sensorLockoutRelease n) s = execSensorLockoutRelease n s := rfl
    rw [hexec, execSensorLockoutRelease]
    dsimp only
    rw [if_pos ⟨hstall, by rw [hv0, Bool.or_true], by rw [hv1, Bool.or_true]⟩]
    have hspec := sensorsBack_spec s h48 hlt
    cases s.flag (F.HLT_Sn_DEGRADE_SENSOR_MODE n) with
    | false => exact ⟨_, rfl, hspec⟩
    | true =>
      refine ⟨(sensorsBack s n).degradedEvent n 1 1, rfl, ?_⟩
      rw [degradedEvent_halt, State.flag, State.flag, degradedEvent_get _ n 1 1 rfl, degradedEvent_get _ n 1 1 rfl]
      exact hspec

end Sys2Proof
namespace Sys2Proof.CommandLaws

open Sys2Proof.Machine Sys2Proof.Laws

/-- A descriptor in flight, with number 1 and TAG 0. -/
def oneDesc : Desc :=
  { sq := 0, num := 1, ord := 1, opcode := 0x0C01, flags := 0, prio := 0, tag := 0, target := 0, epoch := 0, length := 0
    bufaddr := 0, param := List.replicate 40 0, phase := .taken, dep := none, depOk := none, retried := false, started := true, aux := 0, at_ := 0 }

/-- In HALT_SAFE a proof test waits for its end, and bridge 0 holds the number of the same descriptor. -/
def sharedDescriptor : State :=
  { State.reset with
    regs := [(F.HLT_STATUS_HALT_SAFE.key, 1)]
    pdk := modAt State.reset.pdk 0 fun d => { d with table := [oneDesc] }
    hlt := { Hlt.init with proof := some (0, 1, 0) }
    hrn := { Hrn.init with bridges := modAt Hrn.init.bridges 0 fun b => { b with waits := [(0, 1, false)] } } }

end Sys2Proof.CommandLaws

namespace Sys2Proof

open Sys2Proof.Machine Sys2Proof.Laws Sys2Proof.CommandLaws

/-- Refutes O47: the effects that follow the end of a proof test stop the bridges, and in `sharedDescriptor` that completes the test's
descriptor with 0x10 before the test does. -/
theorem not_halterOpcodes : ¬ Obligations.HalterOpcodes := by
  intro h
  obtain ⟨t, ht, hended, -⟩ := ((h sharedDescriptor 0 0 oneDesc).2.1 1 0 0 rfl (by decide) (by decide) rfl).1 rfl
  obtain rfl := Host.Outcome.next.inj ht
  unfold State.Ended at hended
  exact absurd hended (by decide +kernel)

end Sys2Proof
end

section
/-!
PROOFS. The shared operations of the stall link (R121-R142): what they make of a link's state and of its registers.
-/
set_option Elab.async false -- the kernel evaluations wait for each other: keep them in one thread
namespace Sys2Proof.CommandLaws

open Sys2Proof.Machine Sys2Proof.Laws Sys2Proof.PaddockLaws

variable {s t u : State} {f : Fld} {n m st p num : Nat}

theorem variant_links_le (s : State) : s.variant.links ≤ 48 := by
  cases s.variant <;> decide

/-- What does not touch the links leaves each as it was. -/
theorem link_within (h : Within m s t) (hm : m.testBit 3 = false) (n : Nat) : t.link n = s.link n := by
  rw [State.link, h.slk hm, State.link]

theorem slk_length_within (h : Within m s t) (hm : m.testBit 3 = false) : t.slk.length = s.slk.length := by rw [h.slk hm]

/-- A view of a link that an update keeps. -/
theorem link_modLink_view {β : Type} (g : Slk → β) (s : State) (n k : Nat) {f : Slk → Slk} (hf : ∀ l, g (f l) = g l) :
    g ((s.modLink n f).link k) = g (s.link k) := getD_modAt_view g s.slk n k f Slk.init hf

/-- The state of a link is one of the registers that events and completions leave alone. -/
theorem linkState_within (h : Within m s t) (hm : m.testBit 34 = false) (n : Nat) : t.linkState n = s.linkState n :=
  get_outside 2 h rfl hm

/-! ### The state of a link -/

theorem setLink_get (s : State) (n st : Nat) (hf : f.win = 2) (hk : f.key ≠ (F.SLK_Sn_STATE_STATE n).key) :
    (s.setLink n st).get f = s.get f := by
  unfold State.setLink
  dsimp only
  split
  · rw [get_outside 2 (refreshSched_within _) hf rfl, get_modLink, get_set_ne _ _ hk]
  · rw [get_modLink, get_set_ne _ _ hk]

theorem setLink_state (s : State) (n st : Nat) : (s.setLink n st).linkState n = st % 16 := by
  unfold State.setLink
  dsimp only
  split
  · rw [linkState_within (refreshSched_within _) rfl]; exact get_set_self _ _ _
  · exact get_set_self _ _ _

theorem setLink_link (h : n < s.slk.length) (st : Nat) :
    (s.setLink n st).link n = { s.link n with validRun := 0, invalidRun := 0 } := by
  have hmod : ((s.set (F.SLK_Sn_STATE_STATE n) st).modLink n fun l => { l with validRun := 0, invalidRun := 0 }).link n =
      { s.link n with validRun := 0, invalidRun := 0 } := link_modLink_self _ h
  unfold State.setLink
  dsimp only
  split
  · rw [link_within (refreshSched_within _) rfl]; exact hmod
  · exact hmod

theorem setLink_length (s : State) (n st : Nat) : (s.setLink n st).slk.length = s.slk.length := by
  unfold State.setLink
  dsimp only
  split
  · rw [slk_length_within (refreshSched_within _) rfl]; exact slk_length _
  · exact slk_length _

/-- What the return to TRAINING makes of a link beyond its counts (R122, R131, R141). -/
def trainedLink (l : Slk) : Slk := { l with
    step := 0, trips := [], echoes := 0, identRun := 0, mgmt := none, attempts := 0, response := none, mgmtIn := [],
    newKeys := none, keyFailed := false, rekeying := false, accepted := false, commitWait := false, resume := 0
    latched := .none, lastAlive := none, since := 0,
    tun := l.tun.zipIdx.map fun x => if x.2 = 0 then { x.1 with rx := none, tx := [], txSent := 0 } else { x.1 with rx := none }
    phState := List.replicate 6 0, phLast := List.replicate 6 0, retrain := l.retrain.map fun x => (x.1, x.2.1, true) }

/-- The state of a link that has returned to TRAINING, before a LINK_DISABLE that waits takes it on. -/
def trainedState (s : State) (n : Nat) : State := (s.setLink n Link.training).modLink n trainedLink

theorem trainedState_link (h : n < s.slk.length) :
    (trainedState s n).link n = trainedLink { s.link n with validRun := 0, invalidRun := 0 } := by
  unfold trainedState
  rw [link_modLink_self _ (by rw [setLink_length]; exact h), setLink_link h]

theorem trainedState_state (s : State) (n : Nat) : (trainedState s n).linkState n = Link.training := setLink_state s n Link.training

theorem toTraining_eq (s : State) (n : Nat) :
    s.toTraining n = if ((trainedState s n).link n).disable.isEmpty then trainedState s n else (trainedState s n).disableNow n := rfl

theorem toTraining_quiet (h : n < s.slk.length) (hd : (s.link n).disable = []) : s.toTraining n = trainedState s n := by
  rw [toTraining_eq, trainedState_link h, if_pos (by simp [trainedLink, hd])]

/-! ### Management messages -/

theorem sendMgmt_link (h : n < s.slk.length) (type : Nat) (prot : Bool) (body : List Nat) :
    (s.sendMgmt n type prot body).link n = { s.link n with
      tun := modAt (s.link n).tun 0 fun t => { t with tx := t.tx ++ [[type, b2n prot] ++ body] }
      mgmt := some ([type, b2n prot] ++ body), attempts := 1 } := by
  unfold State.sendMgmt State.tunSend
  dsimp only
  rw [link_modLink_self _ (by rw [slk_length]; exact h), link_modLink_self _ h]

theorem awaits_of_mgmt {type : Nat} {prot : Bool} {body : List Nat} (h : (s.link n).mgmt = some ([type, b2n prot] ++ body)) :
    s.awaits n type = true := by
  unfold State.awaits
  rw [h]
  exact decide_eq_true rfl

theorem sendMgmt_awaits (h : n < s.slk.length) (type : Nat) (prot : Bool) (body : List Nat) :
    (s.sendMgmt n type prot body).awaits n type = true := by
  refine awaits_of_mgmt (prot := prot) (body := body) ?_
  rw [sendMgmt_link h]

theorem sendMgmt_get (s : State) (n type : Nat) (prot : Bool) (body : List Nat) (f : Fld) :
    (s.sendMgmt n type prot body).get f = s.get f := rfl

/-- What an offer leaves of the link besides the message that carries it. -/
theorem sendOffer_link (h : n < s.slk.length) :
    ∃ tun body, (s.sendOffer n).link n =
      { s.link n with tun := tun, mgmt := some ([1, b2n false] ++ body), attempts := 1, offer := body } := by
  unfold State.sendOffer
  extract_lets r body
  refine ⟨modAt (s.link n).tun 0 fun t => { t with tx := t.tx ++ [[1, b2n false] ++ body] }, body, ?_⟩
  have hsend := sendMgmt_link (s := r.2) (n := n) h 1 false body
  have hlen : (r.2.sendMgmt n 1 false body).slk.length = s.slk.length := by
    unfold State.sendMgmt State.tunSend
    dsimp only
    rw [slk_length, slk_length]
    rfl
  rw [link_modLink_self _ (by rw [hlen]; exact h), hsend]
  rfl

theorem sendOffer_awaits (h : n < s.slk.length) : (s.sendOffer n).awaits n 1 = true := by
  obtain ⟨tun, body, hl⟩ := sendOffer_link h
  exact awaits_of_mgmt (prot := false) (body := body) (by rw [hl])

theorem sendOffer_get (s : State) (n : Nat) (f : Fld) : (s.sendOffer n).get f = s.get f := rfl

/-- A link whose re-key, or whose keying, has failed (R128, R132). -/
theorem keyingFail_link (h : n < s.slk.length) (why : Nat) :
    (s.keyingFail n why).link n =
      if (s.link n).rekeying then
        { s.link n with rekeying := false, mgmt := none, attempts := 0, response := none, newKeys := none }
      else { s.link n with keyFailed := true, mgmt := none, attempts := 0, response := none } := by
  unfold State.keyingFail
  split
  · rw [link_raise, link_modLink_self _ h]
  · rw [link_raise, link_modLink_self _ h]

theorem keyingFail_length (s : State) (n why : Nat) : (s.keyingFail n why).slk.length = s.slk.length := by
  unfold State.keyingFail
  split
  · rw [raise_slk]; exact slk_length _
  · rw [raise_slk]; exact slk_length _

theorem rekeyBroken_length (s : State) (n : Nat) : (s.rekeyBroken n).slk.length = s.slk.length := by
  unfold State.rekeyBroken
  extract_lets done
  split
  · exact keyingFail_length s n 2
  · rfl

theorem mgmtAnswered_link (h : n < s.slk.length) :
    (s.mgmtAnswered n).link n = { s.link n with
      mgmt := none, attempts := 0
      tun := modAt (s.link n).tun 0 fun x => { x with tx := if x.txSent = 0 then [] else x.tx.take 1 } } := link_modLink_self _ h

theorem mgmtAnswered_length (s : State) (n : Nat) : (s.mgmtAnswered n).slk.length = s.slk.length := slk_length _

/-! ### CONFIG and QUARANTINE -/

theorem sendConfig_spec (h : n < s.slk.length) :
    (s.sendConfig n).linkState n = Link.configuring ∧ (s.sendConfig n).awaits n 16 = true := by
  unfold State.sendConfig
  extract_lets body fs
  refine ⟨setLink_state _ n Link.configuring, sendMgmt_awaits ?_ 16 true _⟩
  rw [slk_length, setLink_length, rekeyBroken_length]
  exact h

/-- A quarantined link shows its causes (R134). -/
theorem quarantine_spec (s : State) (n causes : Nat) (hc : causes < 128) :
    (s.quarantine n causes).linkState n = Link.quarantine ∧ (s.quarantine n causes).get (F.SLK_Sn_QCAUSE n) = causes := by
  unfold State.quarantine
  extract_lets s1 s2
  have h1 : s1.linkState n = Link.quarantine := by
    unfold s1 State.linkState
    rw [get_set_key _ (key_ne_stride rfl rfl rfl)]
    exact setLink_state _ n Link.quarantine
  have h2 : s1.get (F.SLK_Sn_QCAUSE n) = causes := (get_set_self _ _ _).trans (Nat.mod_eq_of_lt hc)
  refine ⟨(linkState_within (retrainDone_within _ n) rfl n).trans ((linkState_within (raise_within _ _ _ _ _) rfl n).trans h1), ?_⟩
  exact (get_outside 2 (retrainDone_within _ n) rfl rfl).trans ((get_outside 2 (raise_within _ _ _ _ _) rfl rfl).trans h2)

end Sys2Proof.CommandLaws
end

section
/-!
PROOFS. Training, keying and loss of a stall link (O15, O16, O18).
-/
set_option Elab.async false -- the kernel evaluations wait for each other: keep them in one thread
namespace Sys2Proof.CommandLaws

open Sys2Proof.Machine Sys2Proof.Laws Sys2Proof.PaddockLaws

variable {s t u : State} {n : Nat}

/-- A whole number is not rounded. -/
theorem rnd_exact (d : Nat) : (Config.rnd (128 * (d : Int)) 128).toNat = d := by
  have hdiv : (128 * (d : Int)) / ((128 : Nat) : Int) = d := by omega
  have hmod : (128 * (d : Int)) % ((128 : Nat) : Int) = 0 := by omega
  rw [Config.rnd, hdiv, hmod]
  simp

theorem roundTrips_delay (turn pipe d : Nat) :
    (Config.rnd (((64 * (turn + pipe + 2 * d) : Nat) : Int) - 64 * turn - 64 * pipe) 128).toNat = d := by
  have h : (((64 * (turn + pipe + 2 * d) : Nat) : Int) - 64 * turn - 64 * pipe) = 128 * (d : Int) := by omega
  rw [h, rnd_exact]

/-- What taking a management message leaves of the link. -/
theorem mgmtTake_of_find {type : Nat} {m : List Nat} (h : (s.link n).mgmtIn.find? (fun x => decide (byteAt x 0 = type)) = some m) :
    s.mgmtTake n type = (some m, s.modLink n fun l => { l with mgmtIn := l.mgmtIn.erase m }) := by
  unfold State.mgmtTake
  rw [h]

theorem exec_keyingVerifyDone {m : List Nat} (hr : (s.link n).response = some m) (hb : s.sigBusy 1 = false) :
    exec (.keyingVerifyDone n () ()) s = .next (
      if s.fpMatches n m = false then s.keyingFail n 1
      else if s.sigsValid n m = false then s.keyingFail n 0
      else
        let keys := s.linkKeys n m
        let re := (s.link n).rekeying
        let s := s.modLink n fun l => { l with
          response := none
          keys := if re then l.keys else some keys
          newKeys := if re then some (keys, 0, false) else none }
        let s := if re then s else s.set (F.SLK_Sn_KEYGEN n) ((s.get (F.SLK_Sn_KEYGEN n) + 1) % 256)
        s.sendMgmt n 0x03 true (s.confirmBody n)) := by
  have hexec : exec (.keyingVerifyDone n () ()) s = execKeyingVerifyDone n () () s := rfl
  rw [hexec, execKeyingVerifyDone]
  dsimp only
  rw [hr]
  dsimp only
  rw [if_neg (by rw [hb]; decide)]

end Sys2Proof.CommandLaws

namespace Sys2Proof

open Sys2Proof.Machine Sys2Proof.Laws Sys2Proof.PaddockLaws Sys2Proof.CommandLaws

/-- Settles O15: each step of the training by what its command writes. -/
theorem linkTraining : Obligations.LinkTraining := by
  intro s n h48 hlen
  have hlt : n < s.slk.length := by omega
  refine ⟨fun hst hstep hrun => ?_, fun d pipe hd hst hstep => ?_, fun hst hstep hecho => ?_, fun hst hstep => ?_, fun hst hrun => ?_⟩
  · have hexec : exec (.linkTrainLock n) s = execLinkTrainLock n s := rfl
    rw [hexec, execLinkTrainLock, if_pos ⟨hst, hstep, hrun⟩]
    exact ⟨_, rfl, by rw [link_modLink_self _ hlt]⟩
  · have hexec : exec (.linkMeasureDone n (64 * ((s.link n).turn + pipe + 2 * d)) pipe) s =
        execLinkMeasureDone n (64 * ((s.link n).turn + pipe + 2 * d)) pipe s := rfl
    rw [hexec, execLinkMeasureDone, if_pos ⟨hst, hstep⟩, roundTrips_delay]
    dsimp only
    have hdelay : min d 65535 % 2 ^ 16 = d := by omega
    by_cases hlong : 1900 < d
    · rw [if_pos hlong]
      refine ⟨_, rfl, ?_, ?_, fun hle => absurd hle (by omega), fun _ => ⟨?_, ?_⟩⟩
      · rw [State.linkState, get_modLink, State.setB, get_set_lo _ rfl, get_set_key _ (key_ne_stride rfl rfl rfl)]; exact hst
      · rw [get_modLink, State.setB, get_set_key _ (key_ne_stride rfl rfl rfl)]
        exact (get_set_self _ _ _).trans hdelay
      · exact flag_setB _ _ true rfl
      · rw [link_modLink_self]
        exact hlt
    · rw [if_neg hlong]
      refine ⟨_, rfl, ?_, ?_, fun _ => ⟨?_, ?_, ?_⟩, fun hgt => absurd hgt hlong⟩
      · rw [State.linkState, get_modLink, get_set_key _ (key_ne_stride rfl rfl rfl), State.setB, get_set_lo _ rfl,
          get_set_key _ (key_ne_stride rfl rfl rfl)]
        exact hst
      · rw [get_modLink, get_set_lo _ rfl, State.setB, get_set_key _ (key_ne_stride rfl rfl rfl)]
        exact (get_set_self _ _ _).trans hdelay
      · rw [get_modLink, get_set_self]
        exact Nat.mod_eq_of_lt (show 2000 - d < 2 ^ 16 by omega)
      · rw [link_modLink_self]
        exact hlt
      · rw [State.flag, get_modLink, get_set_key _ (key_ne_stride rfl rfl rfl)]
        exact flag_setB _ _ false rfl
  · have hexec : exec (.linkTrimEchoed n) s = execLinkTrimEchoed n s := rfl
    rw [hexec, execLinkTrimEchoed, if_pos ⟨hst, hstep, hecho⟩]
    exact ⟨_, rfl, by rw [link_modLink_self _ hlt]⟩
  · have hexec : exec (.linkStep3Done n) s = execLinkStep3Done n s := rfl
    rw [hexec, execLinkStep3Done, if_pos ⟨hst, hstep⟩]
    exact ⟨_, rfl, setLink_state s n Link.identify⟩
  · have hexec : exec (.linkIdentDone n) s = execLinkIdentDone n s := rfl
    rw [hexec, execLinkIdentDone, if_pos ⟨hst, hrun⟩]
    refine ⟨_, rfl, setLink_state s n Link.keying, ?_⟩
    obtain ⟨tun, body, hl⟩ := sendOffer_link (s := (s.setLink n Link.keying).modLink n fun l => { l with
      ctrDown := 0, ctrUp := 0, keys := none }) (n := n) (by rw [slk_length, setLink_length]; exact hlt)
    rw [hl]
    rfl

/-- Settles O16: what the keying's commands make of the link, each by the rule of the operation it runs. -/
theorem linkKeying : Obligations.LinkKeying := by
  intro s n h48 hlen
  have hlt : n < s.slk.length := by omega
  refine ⟨fun m hm ha hst => ?_, fun m hr hb => ⟨fun hfp hsig => ⟨fun hre => ?_, fun hre => ?_⟩, fun hbad => ?_⟩, fun hst hk => ?_,
    fun hst hre => ?_, fun k ms => ⟨fun hk => ?_, fun hk hre => ?_⟩⟩
  · have hexec : exec (.keyResponseReceive n) s = execKeyResponseReceive n s := rfl
    rw [hexec, execKeyResponseReceive, mgmtTake_of_find hm]
    dsimp only
    rw [if_pos ⟨ha, hst⟩]
    refine ⟨_, rfl, ?_⟩
    rw [link_modLink_self _ (by rw [mgmtAnswered_length, slk_length]; exact hlt),
      mgmtAnswered_link (by rw [slk_length]; exact hlt)]
    exact ⟨rfl, rfl⟩
  · rw [exec_keyingVerifyDone hr hb, if_neg (by rw [hfp]; decide), if_neg (by rw [hsig]; decide)]
    simp only [hre, Bool.false_eq_true, if_false]
    refine ⟨_, rfl, ?_, ?_, ?_⟩
    · rw [sendMgmt_link (by rw [set_slk, slk_length]; exact hlt), link_set, link_modLink_self _ hlt]
    · rw [sendMgmt_get, get_set_self, get_modLink]; exact Nat.mod_mod _ _
    · exact sendMgmt_awaits (by rw [set_slk, slk_length]; exact hlt) 3 true _
  · rw [exec_keyingVerifyDone hr hb, if_neg (by rw [hfp]; decide), if_neg (by rw [hsig]; decide)]
    simp only [hre, if_true]
    refine ⟨_, rfl, ?_, ?_, ?_, ?_⟩
    · rw [sendMgmt_link (by rw [slk_length]; exact hlt), link_modLink_self _ hlt]
    · rw [sendMgmt_link (by rw [slk_length]; exact hlt), link_modLink_self _ hlt]
      rfl
    · rw [sendMgmt_get, get_modLink]
    · exact sendMgmt_awaits (by rw [slk_length]; exact hlt) 3 true _
  · have hfail : ∃ why, exec (.keyingVerifyDone n () ()) s = .next (s.keyingFail n why) := by
      rw [exec_keyingVerifyDone hr hb]
      rcases Bool.eq_false_or_eq_true (s.fpMatches n m) with hfp | hfp
      · rw [if_neg (by rw [hfp]; decide), if_pos (hbad.resolve_left (by rw [hfp]; decide))]
        exact ⟨0, rfl⟩
      · rw [if_pos hfp]
        exact ⟨1, rfl⟩
    obtain ⟨why, hexec⟩ := hfail
    have hgen : (s.keyingFail n why).get (F.SLK_Sn_KEYGEN n) = s.get (F.SLK_Sn_KEYGEN n) := get_outside 2 (keyingFail_within s n why) rfl rfl
    refine ⟨_, hexec, ?_⟩
    rw [keyingFail_link hlt]
    split
    · next hre => exact ⟨rfl, rfl, rfl, hgen, fun hno => absurd hre (by rw [hno]; decide)⟩
    · next hre => exact ⟨rfl, rfl, by simpa using hre, hgen, fun _ => rfl⟩
  · have hexec : exec (.keyingRetryTimer n) s = execKeyingRetryTimer n s := rfl
    rw [hexec, execKeyingRetryTimer, if_pos ⟨hst, hk⟩]
    refine ⟨_, rfl, ?_, sendOffer_awaits (by rw [slk_length]; exact hlt)⟩
    obtain ⟨tun, body, hl⟩ := sendOffer_link (s := s.modLink n fun l => { l with keyFailed := false }) (n := n) (by rw [slk_length]; exact hlt)
    rw [hl, link_modLink_self _ hlt]
  · have hexec : exec (.rekeyTimer n) s = execRekeyTimer n s := rfl
    rw [hexec, execRekeyTimer, if_pos ⟨hst, hre⟩]
    refine ⟨_, rfl, ?_, sendOffer_awaits (by rw [slk_length]; exact hlt)⟩
    obtain ⟨tun, body, hl⟩ := sendOffer_link (s := s.modLink n fun l => { l with rekeying := true }) (n := n) (by rw [slk_length]; exact hlt)
    rw [hl, link_modLink_self _ hlt]
  · have hexec : exec (.keySwitch n) s = execKeySwitch n s := rfl
    rw [hexec, execKeySwitch, hk]
    dsimp only
    rw [if_pos rfl]
    refine ⟨_, rfl, ?_, ?_, ?_⟩
    · rw [link_set, link_modLink_self _ hlt]
    · rw [link_set, link_modLink_self _ hlt]
    · rw [get_set_self]; exact Nat.mod_mod _ _
  · have hexec : exec (.keySwitch n) s = execKeySwitch n s := rfl
    rw [hexec, execKeySwitch, hk]
    dsimp only
    rw [if_neg (by decide)]
    refine ⟨_, rfl, ?_⟩
    rw [keyingFail_link hlt, if_pos hre]
    exact ⟨rfl, rfl⟩

/-- Settles O18: a lost link and its return by `setLink_state`, the waiting LINK_RETRAIN by its completion. -/
theorem linkLoss : Obligations.LinkLoss := by
  intro s n why hn h48 hlen hhalt hd
  have hlt : n < s.slk.length := by omega
  have hstall : s.hasStall n = true := decide_eq_true hn
  refine ⟨fun hst => ?_, fun hst => ?_, fun hst hrun hb => ?_, fun hst => ?_, fun p num b rest d hr hf => ?_⟩
  · have hexec : exec (.linkLostEntry n why) s = execLinkLostEntry n why s := rfl
    rw [hexec, execLinkLostEntry, State.linkLost]
    dsimp only
    rw [if_pos hst]
    refine ⟨_, rfl, ?_, ?_, ?_⟩
    · exact (linkState_within (stopStall_within _ n .emergency 0x0E) rfl n).trans
        ((linkState_within (raise_within _ _ _ _ _) rfl n).trans (setLink_state _ n Link.lost))
    · rw [link_within (stopStall_within _ n .emergency 0x0E) rfl, link_raise, setLink_link (by rw [slk_length]; exact hlt),
        link_modLink_self _ hlt]
    · refine stopStall_emergency ?_ ?_
      · rw [State.hasStall, raise_variant, (setLink_within _ n Link.lost).variant]; exact hstall
      · rw [raise_haltS, (setLink_within _ n Link.lost).haltS rfl]
        exact Nat.lt_of_lt_of_eq h48 hhalt.symm
  · have hno : ¬ (s.linkState n = Link.run ∨ s.linkState n = Link.quarantine) := by
      intro hor
      simp only [Link.run, Link.quarantine, Link.identify, Link.keying, Link.configuring] at hor hst
      omega
    have hexec : exec (.linkLostEntry n why) s = execLinkLostEntry n why s := rfl
    rw [hexec, execLinkLostEntry, State.linkLost]
    dsimp only
    rw [if_neg hno, if_pos hst, toTraining_quiet hlt hd]
    exact ⟨_, rfl, trainedState_state s n⟩
  · have hexec : exec (.linkLostRecover n) s = execLinkLostRecover n s := rfl
    rw [hexec, execLinkLostRecover, if_pos ⟨hst, hrun⟩, hb]
    dsimp only
    rw [if_neg (by decide)]
    refine ⟨_, rfl, (linkState_within (refreshSched_within _) rfl n).trans (setLink_state s n Link.run), ?_⟩
    rw [link_within (refreshSched_within _) rfl, link_modLink_self _ (by rw [setLink_length]; exact hlt)]
  · have hexec : exec (.linkLostTimeout n) s = execLinkLostTimeout n s := rfl
    rw [hexec, execLinkLostTimeout, if_pos hst, toTraining_quiet hlt hd]
    exact ⟨_, rfl, trainedState_state s n⟩
  · have hexec : exec (.linkRetrainTimeout n) s = execLinkRetrainTimeout n s := rfl
    rw [hexec, execLinkRetrainTimeout, hr]
    refine ⟨_, rfl, InFlight.answered (s := s) (t := s.modLink n fun l => { l with retrain := rest }) (st := 6) (r := 0) hf
      (List.prefix_refl _), ?_⟩
    rw [link_within (finish_within _ p num 6 0 false) rfl]
    exact congrArg (fun l : Slk => l.retrain) (link_modLink_self _ hlt)

end Sys2Proof
end

section
/-!
PROOFS. Admission of a terminal (O17): the acknowledgements of KEY_CONFIRM and CONFIG, and the committed record.
-/
set_option Elab.async false -- the kernel evaluations wait for each other: keep them in one thread
namespace Sys2Proof.CommandLaws

open Sys2Proof.Machine Sys2Proof.Laws Sys2Proof.PaddockLaws

variable {s t u : State} {n : Nat} {m : List Nat}

/-- The state in which a protected message of the terminal is taken as the answer. -/
def ackTaken (s : State) (n : Nat) (m : List Nat) : State :=
  ((s.modLink n fun l => { l with mgmtIn := l.mgmtIn.erase m }).mgmtAnswered n).modLink n fun l => { l with ctrUp := leAt m 4 8 }

theorem ackTaken_length (s : State) (n : Nat) (m : List Nat) : (ackTaken s n m).slk.length = s.slk.length := by
  unfold ackTaken
  rw [slk_length, mgmtAnswered_length, slk_length]

theorem ackTaken_view {β : Type} (g : Slk → β) (hin : ∀ l x, g { l with mgmtIn := x } = g l)
    (hmgmt : ∀ l x, g { l with mgmt := none, attempts := 0, tun := x } = g l) (hctr : ∀ l x, g { l with ctrUp := x } = g l)
    (s : State) (n k : Nat) (m : List Nat) : g ((ackTaken s n m).link k) = g (s.link k) := by
  unfold ackTaken State.mgmtAnswered
  rw [link_modLink_view g _ n k (f := fun l => { l with ctrUp := leAt m 4 8 }) fun l => hctr l _,
    link_modLink_view g _ n k (f := fun l => { l with
      mgmt := none, attempts := 0, tun := modAt l.tun 0 fun x => { x with tx := if x.txSent = 0 then [] else x.tx.take 1 } }) fun l => hmgmt l _,
    link_modLink_view g _ n k (f := fun l => { l with mgmtIn := l.mgmtIn.erase m }) fun l => hin l _]

theorem ackTaken_rekeying (s : State) (n : Nat) (m : List Nat) : ((ackTaken s n m).link n).rekeying = (s.link n).rekeying :=
  ackTaken_view (fun l => l.rekeying) (fun _ _ => rfl) (fun _ _ => rfl) (fun _ _ => rfl) s n n m

theorem ackTaken_newKeys (s : State) (n : Nat) (m : List Nat) : ((ackTaken s n m).link n).newKeys = (s.link n).newKeys :=
  ackTaken_view (fun l => l.newKeys) (fun _ _ => rfl) (fun _ _ => rfl) (fun _ _ => rfl) s n n m

theorem ackTaken_causes (s : State) (n : Nat) (m : List Nat) : (ackTaken s n m).compareCauses n = s.compareCauses n := by
  have hident : ((ackTaken s n m).link n).ident = (s.link n).ident :=
    ackTaken_view (fun l => l.ident) (fun _ _ => rfl) (fun _ _ => rfl) (fun _ _ => rfl) s n n m
  have hrec : (ackTaken s n m).rec? n = s.rec? n := rfl
  have hseal : (ackTaken s n m).sealWord n = s.sealWord n := rfl
  have hepoch : (ackTaken s n m).get (F.SLK_Sn_EPOCH_REC n) = s.get (F.SLK_Sn_EPOCH_REC n) := rfl
  unfold State.compareCauses
  rw [hident, hrec, hseal, hepoch]

theorem compareCauses_lt (s : State) (n : Nat) : s.compareCauses n < 128 := by
  have hb : ∀ b : Bool, b2n b ≤ 1 := by decide
  unfold State.compareCauses
  extract_lets r id inv pend
  have hinv : inv ≤ 16 := by have := hb (bitOf id.sealW 7); omega
  split
  · have h1 := hb (!pend)
    have h2 := hb (pend && decide (r.nextFp ≠ id.fp))
    omega
  · have h1 := hb (decide ((if pend then r.nextFp else r.fp) ≠ id.fp))
    have h2 := hb (decide (s.sealWord n ≠ id.sealW))
    have h3 := hb (!pend && decide (id.epoch ≠ s.get (F.SLK_Sn_EPOCH_REC n)))
    omega

theorem exec_keyConfirmAck (hm : (s.link n).mgmtIn.find? (fun x => decide (byteAt x 0 = 4)) = some m) (ha : s.awaits n 3 = true)
    (ho : s.mgmtOpen n m = (s.link n).mgmt.map (List.drop 2)) :
    exec (.keyConfirmAckReceive n ()) s = .next (
      if ((ackTaken s n m).link n).rekeying then
        (ackTaken s n m).modLink n fun l => { l with newKeys := l.newKeys.map fun k => (k.1, k.2.1, true) }
      else if (ackTaken s n m).linkState n ≠ Link.keying then ackTaken s n m
      else if (ackTaken s n m).compareCauses n = 0 then (ackTaken s n m).sendConfig n
      else (ackTaken s n m).quarantine n ((ackTaken s n m).compareCauses n)) := by
  have hexec : exec (.keyConfirmAckReceive n ()) s = execKeyConfirmAckReceive n () s := rfl
  rw [hexec, execKeyConfirmAckReceive, mgmtTake_of_find hm]
  dsimp only
  rw [if_neg (by rw [ha]; simp [ho])]
  rfl

theorem exec_configAck {b : List Nat} (hm : (s.link n).mgmtIn.find? (fun x => decide (byteAt x 0 = 17)) = some m)
    (ho : s.mgmtOpen n m = some b) (ha : s.awaits n 16 = true) (he : leAt b 0 4 = s.cfgEpoch n) (hst : s.linkState n = Link.configuring) :
    exec (.configAckReceive n ()) s = .next (match byteAt b 4 with
      | 0 => (ackTaken s n m).commitRecord n
      | 2 => (ackTaken s n m).quarantine n 32
      | _ => (ackTaken s n m).quarantine n 64) := by
  have hexec : exec (.configAckReceive n ()) s = execConfigAckReceive n () s := rfl
  rw [hexec, execConfigAckReceive, mgmtTake_of_find hm]
  dsimp only
  rw [ho]
  dsimp only
  rw [if_neg (by rw [ha]; simp [he, hst])]
  rfl

/-- The record's store starts when it is admitted (R133). -/
theorem commitRecord_running (h : s.admits 2 (storeNeed 2 1) = true) :
    ∃ st ∈ (s.commitRecord n).hay.running, st.job = .stallRec n (s.recordNow n) := by
  unfold State.commitRecord State.tryStore
  rw [if_pos h]
  exact ⟨_, List.mem_append_right _ (List.mem_singleton_self _), rfl⟩

/-! ### The committed record -/

theorem recordCommitted_get (s : State) (n : Nat) (e : RecEntry) {f : Fld} (hf : f.win = 2)
    (hs : f.key ≠ (F.SLK_Sn_SEAL_COMMITTED n).key) :
    (s.recordCommitted n e).get f = (s.set (F.SLK_Sn_EPOCH_REC n) e.epoch).get f := by
  unfold State.recordCommitted
  extract_lets r s1 s2 s3 s4
  have h1 : s1.get f = (s.set (F.SLK_Sn_EPOCH_REC n) e.epoch).get f := get_set_win _ (by rw [hf]; rfl)
  have h2 : s2.get f = s1.get f := by
    unfold s2
    split
    · dsimp only
      split
      · rw [get_set_win _ (by rw [hf]; rfl), get_set_win _ (by rw [hf]; rfl), get_set_win _ (by rw [hf]; rfl)]
      · rw [get_set_win _ (by rw [hf]; rfl), get_set_win _ (by rw [hf]; rfl)]
    · rfl
  have h3 : s3.get f = s2.get f := by
    unfold s3
    split
    · rfl
    · exact get_set_ne _ _ hs
  exact (get_outside 2 (calUnbound_within s3 n e.fp) hf rfl).trans (h3.trans (h2.trans h1))

theorem enterRun_get (s : State) (n : Nat) {f : Fld} (hf : f.win = 2) :
    (s.enterRun n).get f = ((s.setLink n Link.run).set (F.SLK_Sn_QCAUSE n) 0).get f := by
  unfold State.enterRun
  extract_lets s1 s2 s3 s4 np lost s5 s6
  have h1 : s1.get f = (s.setLink n Link.run).get f := rfl
  have h2 : s2.get f = s1.get f := rfl
  have h3 : s3.get f = (s2.set (F.SLK_Sn_QCAUSE n) 0).get f := refreshCeil_get _ n (by rw [hf]; decide)
  have h4 : s4.get f = s3.get f := get_modWalk (s := s3) (n := n) _ f
  have h5 : s5.get f = s4.get f := get_set_win _ (by rw [hf]; rfl)
  have h6 : s6.get f = s5.get f := get_raise _ _ _ _ (by rw [hf]; rfl)
  rw [get_outside 2 (retrainDone_within _ n) hf rfl, get_outside 2 (refreshSched_within _) hf rfl, h6, h5, h4, h3]
  by_cases hk : f.key = (F.SLK_Sn_QCAUSE n).key
  · unfold State.get State.set
    rw [hk, regFind_put_self, regFind_put_self]
  · rw [get_set_ne _ _ hk, get_set_ne _ _ hk, h2, h1]

theorem recDurable_get_epoch (s : State) (n : Nat) {e : RecEntry} (he : e.epoch < 2 ^ 32) :
    (s.recDurable n e).get (F.SLK_Sn_EPOCH_REC n) = e.epoch := by
  have hrec : (s.recordCommitted n e).get (F.SLK_Sn_EPOCH_REC n) = e.epoch := by
    rw [recordCommitted_get s n e rfl (key_ne_stride rfl rfl rfl)]
    exact (get_set_self _ _ _).trans (Nat.mod_eq_of_lt he)
  unfold State.recDurable
  dsimp only
  split
  · rw [enterRun_get _ n rfl, get_set_key _ (key_ne_stride rfl rfl rfl), setLink_get _ n _ rfl (key_ne_stride rfl rfl rfl), hrec]
  · exact hrec

theorem recDurable_run (s : State) (n : Nat) (e : RecEntry) (hst : s.linkState n = Link.configuring) (ha : (s.link n).accepted = true) :
    (s.recDurable n e).linkState n = Link.run ∧ (s.recDurable n e).get (F.SLK_Sn_QCAUSE n) = 0 := by
  have hw := recordCommitted_within s n e
  have hstate : (s.recordCommitted n e).linkState n = Link.configuring := by
    rw [State.linkState, recordCommitted_get s n e rfl (key_ne_stride rfl rfl rfl), get_set_key _ (key_ne_stride rfl rfl rfl)]
    exact hst
  have hacc : ((s.recordCommitted n e).link n).accepted = true := by rw [link_within hw rfl]; exact ha
  unfold State.recDurable
  dsimp only
  rw [if_pos ⟨hstate, hacc⟩]
  refine ⟨?_, ?_⟩
  · rw [State.linkState, enterRun_get _ n rfl, get_set_key _ (key_ne_stride rfl rfl rfl)]
    exact setLink_state _ n Link.run
  · rw [enterRun_get _ n rfl, get_set_self]
    rfl

end Sys2Proof.CommandLaws

namespace Sys2Proof

open Sys2Proof.Machine Sys2Proof.Laws Sys2Proof.PaddockLaws Sys2Proof.CommandLaws

/-- Settles O17: the acknowledgements by `ackTaken`, the record by `State.recDurable`, the repetition by its count. -/
theorem linkAdmission : Obligations.LinkAdmission := by
  intro s n hn hlen hrec
  have h48 : n < 48 := Nat.lt_of_lt_of_le hn (variant_links_le s)
  have hlt : n < s.slk.length := by omega
  refine ⟨fun m hm ha ho => ⟨fun hre hst => ?_, fun k ms done hre hk => ?_⟩, fun m b hm ho ha he hst => ⟨fun hb hadm => ?_, fun hb => ?_, fun hb => ?_⟩,
    fun st e hf hj he => ?_, fun hm => ⟨fun hlt5 => ?_, fun hge hre hd => ?_⟩⟩
  · rw [exec_keyConfirmAck hm ha ho, if_neg (by rw [ackTaken_rekeying, hre]; decide), if_neg (by exact fun hno => hno hst), ackTaken_causes]
    by_cases hc : s.compareCauses n = 0
    · rw [if_pos hc]
      exact ⟨_, rfl, fun _ => sendConfig_spec (by rw [ackTaken_length]; exact hlt), fun hno => absurd hc hno⟩
    · rw [if_neg hc]
      exact ⟨_, rfl, fun hno => absurd hno hc, fun _ => quarantine_spec _ n _ (compareCauses_lt s n)⟩
  · rw [exec_keyConfirmAck hm ha ho, if_pos (by rw [ackTaken_rekeying, hre])]
    refine ⟨_, rfl, ?_⟩
    rw [link_modLink_self _ (by rw [ackTaken_length]; exact hlt)]
    dsimp only
    rw [ackTaken_newKeys, hk]
    rfl
  · rw [exec_configAck hm ho ha he hst, hb]
    exact ⟨_, rfl, commitRecord_running (s := ackTaken s n m) hadm⟩
  · rw [exec_configAck hm ho ha he hst, hb]
    exact ⟨_, rfl, quarantine_spec _ n 64 (by decide)⟩
  · rw [exec_configAck hm ho ha he hst, hb]
    exact ⟨_, rfl, quarantine_spec _ n 32 (by decide)⟩
  · have hrecOf : st.job.recOf n = some e := by rw [hj]; exact if_pos rfl
    have hexec : exec (.linkRecordCommitted n) s = .next ((s.modHay fun h => { h with
        running := s.hay.running.filter fun x => x.id ≠ st.id }).recDurable n e) := by
      have hdef : exec (.linkRecordCommitted n) s = execLinkRecordCommitted n s := rfl
      rw [hdef, execLinkRecordCommitted, hf]
      dsimp only
      rw [hrecOf]
    exact ⟨_, hexec, recDurable_get_epoch _ n he, fun hst ha => recDurable_run _ n e hst ha⟩
  · obtain ⟨m, hm⟩ := Option.isSome_iff_exists.mp hm
    have hexec : exec (.mgmtRetryTimeout n) s = execMgmtRetryTimeout n s := rfl
    rw [hexec, execMgmtRetryTimeout, hm]
    dsimp only
    rw [if_pos hlt5]
    refine ⟨_, rfl, ?_⟩
    rw [link_modLink_self _ (by rw [State.tunSend, slk_length]; exact hlt), State.tunSend, link_modLink_self _ hlt]
  · obtain ⟨m, hm⟩ := Option.isSome_iff_exists.mp hm
    have hexec : exec (.mgmtRetryTimeout n) s = execMgmtRetryTimeout n s := rfl
    rw [hexec, execMgmtRetryTimeout, hm]
    dsimp only
    rw [if_neg (by omega), if_neg (by rw [hre]; simp)]
    by_cases hst : s.linkState n = Link.keying
    · rw [if_pos hst, toTraining_quiet (by rw [keyingFail_length]; exact hlt)
        (by rw [keyingFail_link hlt, hre]; exact hd)]
      exact ⟨_, rfl, trainedState_state _ n⟩
    · rw [if_neg hst, toTraining_quiet hlt hd]
      exact ⟨_, rfl, trainedState_state _ n⟩

end Sys2Proof
end

section
/-!
PROOFS. The frames of the stall link (O19): the cycle's downlink, invalid uplink frames, the edge latch.
-/
set_option Elab.async false -- the kernel evaluations wait for each other: keep them in one thread
namespace Sys2Proof.CommandLaws

open Sys2Proof.Machine Sys2Proof.Laws Sys2Proof.PaddockLaws

variable {s t u : State} {f : Fld} {n m : Nat}

/-! ### Downlink -/

/-- Taking a fragment of the tunnel leaves a view of the links that does not look at the tunnel. -/
theorem tunSlot_view {β : Type} (g : Slk → β)
    (hseal : ∀ l a b c d, g { l with tun := a, ctrDown := b, mgmt := c, newKeys := d } = g l)
    (htun : ∀ l a b, g { l with tun := a, tunRr := b } = g l) (s : State) (n k : Nat) : g ((s.tunSlot n).2.link k) = g (s.link k) := by
  unfold State.tunSlot
  split
  · rfl
  · next c hc =>
    extract_lets s1 t1 m1 frag last hdr t2 s2
    have h1 : g (s1.link k) = g (s.link k) := by
      unfold s1
      split
      · exact link_modLink_view g s n k fun l => hseal l _ _ _ _
      · rfl
    have h2 : g (s2.link k) = g (s1.link k) := link_modLink_view g s1 n k fun l => htun l _ _
    dsimp only
    split
    · rw [link_within (sendLeft_within s2 n c) rfl]; exact h2.trans h1
    · exact h2.trans h1

/-- The state whose frame leaves: the ceiling step and the Halter's decisions taken, the frame sent. -/
def frameSent (s : State) (n : Nat) : State :=
  let s := (s.clampSet n).halterFrame n
  let st := s.linkState n
  let alive := (s.link n).aliveDown
  let cyc := s.cycleField
  if st = Link.off ∨ s.domainOn 8 = false then s
  else if st = Link.training then
    let l := s.link n
    let trim := if 2 ≤ l.step then s.get (F.SLK_Sn_LATENCY_LAT_TRIM n) else 0
    s.emit (.frame n (wrapFrame 2 alive ([l.step, 0] ++ le 2 cyc ++ le 2 trim ++ [0, 0] ++ (List.range 109).map Config.prbs7)))
  else
    let t := s.tunSlot n
    let c := t.2.cooling n
    let s := t.2.emit (.frame n (wrapFrame 1 alive (le 2 (t.2.command n) ++ le 2 cyc ++ blockBytes (t.2.frameBlock n) ++
      le 2 (t.2.halterWord n) ++ le 2 c.1 ++ [c.2, 0] ++ t.1)))
    if st = Link.run ∨ st = Link.lost then s.coolSent n else s

theorem sendFrame_eq (s : State) (n : Nat) :
    s.sendFrame n = (frameSent s n).modLink n fun l => { l with
      aliveDown := (l.aliveDown + 1) % 256, cyclePrev := l.cycle, cycle := ((s.clampSet n).halterFrame n).cycleField
      latched := .none, resume := l.resume - 1 } := rfl

theorem frameSent_view {β : Type} (g : Slk → β)
    (hseal : ∀ l a b c d, g { l with tun := a, ctrDown := b, mgmt := c, newKeys := d } = g l)
    (htun : ∀ l a b, g { l with tun := a, tunRr := b } = g l) (s : State) (n k : Nat) : g ((frameSent s n).link k) = g (s.link k) := by
  have h0 : ((s.clampSet n).halterFrame n).link k = s.link k :=
    (link_within (halterFrame_within _ n) rfl k).trans (link_within (clampSet_within s n) rfl k)
  unfold frameSent
  extract_lets s1 st alive cyc l trim t1 c s2
  have h1 : s1.link k = s.link k := h0
  have h2 : g (s2.link k) = g (s1.link k) := tunSlot_view g hseal htun s1 n k
  rw [← h1]
  split
  · rfl
  · split
    · rfl
    · split
      · rw [link_within (coolSent_within s2 n) rfl]; exact h2
      · exact h2

theorem tunSlot_length (s : State) (n : Nat) : (s.tunSlot n).2.slk.length = s.slk.length := by
  unfold State.tunSlot
  split
  · rfl
  · next c hc =>
    extract_lets s1 t1 m1 frag last hdr t2 s2
    have h1 : s1.slk.length = s.slk.length := by
      unfold s1
      split
      · exact slk_length _
      · rfl
    have h2 : s2.slk.length = s1.slk.length := slk_length _
    dsimp only
    split
    · rw [slk_length_within (sendLeft_within s2 n c) rfl, h2, h1]
    · rw [h2, h1]

theorem frameSent_length (s : State) (n : Nat) : (frameSent s n).slk.length = s.slk.length := by
  unfold frameSent
  extract_lets s1 st alive cyc l trim t1 c s2
  have h1 : s1.slk.length = s.slk.length :=
    (slk_length_within (halterFrame_within _ n) rfl).trans (slk_length_within (clampSet_within s n) rfl)
  have h2 : s2.slk.length = s1.slk.length := tunSlot_length s1 n
  split
  · exact h1
  · split
    · exact h1
    · split
      · rw [slk_length_within (coolSent_within s2 n) rfl, h2, h1]
      · rw [h2, h1]

theorem sendFrame_link_ne (s : State) (h : m ≠ n) : (s.sendFrame n).link m = (frameSent s n).link m := by
  rw [sendFrame_eq, link_modLink_ne _ h]

/-- A frame of the stall itself steps ALIVE and takes the cycle. -/
theorem sendFrame_self (h : n < s.slk.length) :
    ((s.sendFrame n).link n).aliveDown = ((s.link n).aliveDown + 1) % 256 ∧ ((s.sendFrame n).link n).cycle = s.cycleField := by
  have hcyc : ((s.clampSet n).halterFrame n).cycleField = s.cycleField := by
    unfold State.cycleField
    rw [(halterFrame_within _ n).chrono rfl, (clampSet_within s n).chrono rfl]
  rw [sendFrame_eq, link_modLink_self _ (by rw [frameSent_length]; exact h), hcyc]
  exact ⟨by rw [frameSent_view (fun l => l.aliveDown) (fun _ _ _ _ _ => rfl) (fun _ _ _ => rfl)], rfl⟩

theorem sendFrames_spec (l : List Nat) (hl : l.Nodup) (s : State) (h : n < s.slk.length) :
    (n ∉ l → ((forAll l (fun n t => t.sendFrame n) s).link n).aliveDown = (s.link n).aliveDown ∧
      ((forAll l (fun n t => t.sendFrame n) s).link n).cycle = (s.link n).cycle) ∧
    (n ∈ l → ((forAll l (fun n t => t.sendFrame n) s).link n).aliveDown = ((s.link n).aliveDown + 1) % 256 ∧
      ((forAll l (fun n t => t.sendFrame n) s).link n).cycle = s.cycleField) := by
  unfold forAll
  induction l generalizing s with
  | nil => exact ⟨fun _ => ⟨rfl, rfl⟩, fun hn => absurd hn List.not_mem_nil⟩
  | cons m l ih =>
    rw [List.foldl_cons]
    have hlen : (s.sendFrame m).slk.length = s.slk.length := by rw [sendFrame_eq, slk_length, frameSent_length]
    have hcyc : (s.sendFrame m).cycleField = s.cycleField := by
      unfold State.cycleField
      rw [(sendFrame_within s m).chrono rfl]
    obtain ⟨hout, hin⟩ := ih (List.nodup_cons.mp hl).2 (s.sendFrame m) (by rw [hlen]; exact h)
    by_cases hnm : n = m
    · subst hnm
      obtain ⟨ha, hc⟩ := hout (List.nodup_cons.mp hl).1
      obtain ⟨ha', hc'⟩ := sendFrame_self h
      exact ⟨fun hno => absurd List.mem_cons_self hno, fun _ => ⟨ha.trans ha', hc.trans hc'⟩⟩
    · have halive : ((s.sendFrame m).link n).aliveDown = (s.link n).aliveDown := by
        rw [sendFrame_link_ne s hnm]
        exact frameSent_view (fun l => l.aliveDown) (fun _ _ _ _ _ => rfl) (fun _ _ _ => rfl) s m n
      have hcycle : ((s.sendFrame m).link n).cycle = (s.link n).cycle := by
        rw [sendFrame_link_ne s hnm]
        exact frameSent_view (fun l => l.cycle) (fun _ _ _ _ _ => rfl) (fun _ _ _ => rfl) s m n
      rw [halive, hcycle] at hout
      rw [halive, hcyc] at hin
      exact ⟨fun hno => hout fun hx => hno (List.mem_cons_of_mem _ hx), fun hx => hin ((List.mem_cons.mp hx).resolve_left hnm)⟩

/-! ### Invalid uplink frames -/

/-- What a lost link leaves of its window: all but its state and its ENABLE. -/
theorem linkLost_get (s : State) (n why : Nat) (hf : f.win = 2) (hs : f.key ≠ (F.SLK_Sn_STATE_STATE n).key)
    (he : f.key ≠ (F.SLK_Sn_CTRL_ENABLE n).key) : (s.linkLost n why).get f = s.get f := by
  have hdis : ∀ u : State, (u.disableNow n).get f = u.get f := fun u => by
    unfold State.disableNow
    extract_lets ws s1
    have h1 : s1.get f = u.get f := by
      have h := setLink_get (u.setB (F.SLK_Sn_CTRL_ENABLE n) false) n Link.off hf hs
      exact (get_modLink _ _).trans (h.trans (get_set_ne _ _ he))
    exact (foldl_get f (fun v (x : Nat × Nat) => get_outside 2 (finish_within v x.1 x.2 0 0 false) hf rfl) s1).trans h1
  have htrain : (trainedState s n).get f = s.get f := (get_modLink _ _).trans (setLink_get s n Link.training hf hs)
  unfold State.linkLost
  dsimp only
  split
  · rw [get_outside 2 (stopStall_within _ n .emergency 0x0E) hf rfl, get_outside 2 (raise_within _ _ _ _ _) hf rfl,
      setLink_get _ n Link.lost hf hs, get_modLink]
  · split
    · rw [toTraining_eq]
      split
      · exact htrain
      · rw [hdis, htrain]
    · rfl

theorem linkLost_run (h : s.linkState n = Link.run) (why : Nat) : (s.linkLost n why).linkState n = Link.lost := by
  unfold State.linkLost
  dsimp only
  rw [if_pos (.inl h)]
  exact (linkState_within (stopStall_within _ n .emergency 0x0E) rfl n).trans
    ((linkState_within (raise_within _ _ _ _ _) rfl n).trans (setLink_state _ n Link.lost))

/-- The state with one invalid frame more counted. -/
def uplinkMissed (s : State) (n : Nat) : State :=
  let k := (s.link n).cyclePrev % 128
  let s := s.modLink n fun l => { l with
    since := l.since + 1, validRun := 0, invalidRun := l.invalidRun + 1, samples := (⟨false, 0, 0, []⟩ :: l.samples).take 16
    echoes := 0, identRun := 0
    tun := l.tun.map fun t => { t with rx := none } }
  s.modLink n (·.meter k none none (s.get (F.SLK_Sn_KEYGEN n)))

theorem uplinkInvalid_eq (s : State) (n : Nat) : s.uplinkInvalid n =
    if 3 ≤ ((uplinkMissed s n).link n).invalidRun then (uplinkMissed s n).linkLost n 0 else uplinkMissed s n := rfl

theorem meter_invalidRun (l : Slk) (k : Nat) (x : Option (List Nat)) (frag : Option Nat) (gen : Nat) :
    (l.meter k x frag gen).invalidRun = l.invalidRun := by
  unfold Slk.meter
  dsimp only
  split <;> rfl

theorem uplinkMissed_run (h : n < s.slk.length) : ((uplinkMissed s n).link n).invalidRun = (s.link n).invalidRun + 1 := by
  unfold uplinkMissed
  dsimp only
  rw [link_modLink_self _ (by rw [slk_length]; exact h), meter_invalidRun, link_modLink_self _ h]

theorem uplinkMissed_get (s : State) (n : Nat) (f : Fld) : (uplinkMissed s n).get f = s.get f := rfl

theorem uplinkInvalid_get (s : State) (n : Nat) (hf : f.win = 2) (hs : f.key ≠ (F.SLK_Sn_STATE_STATE n).key)
    (he : f.key ≠ (F.SLK_Sn_CTRL_ENABLE n).key) : (s.uplinkInvalid n).get f = s.get f := by
  rw [uplinkInvalid_eq]
  split
  · rw [linkLost_get _ n 0 hf hs he, uplinkMissed_get]
  · rfl

theorem exec_uplinkFrame (hn : s.hasStall n = true) (h8 : s.domainOn 8 = true) (hst : s.linkState n ≠ Link.off) (sync : Nat) (bytes : List Nat) :
    exec (.uplinkFrameReceive n sync bytes) s = .next (
      if sync = 1 then ((s.setB (F.SLK_Sn_STATE_CROSSED n) true).incSat (F.SLK_Sn_CNT_INVALID n)).uplinkInvalid n
      else if sync ≠ 0 then (s.incSat (F.SLK_Sn_CNT_INVALID n)).uplinkInvalid n
      else if frameCrcOk bytes = false then (s.incSat (F.SLK_Sn_CNT_CRC n)).uplinkInvalid n
      else if s.linkState n = Link.lost ∧ byteAt bytes 2 / 16 = 2 then s.toTraining n
      else if s.frameValid n bytes = false then (s.incSat (F.SLK_Sn_CNT_INVALID n)).uplinkInvalid n
      else
        let s := s.modLink n fun l => { l with
          lastAlive := some (byteAt bytes 3), since := 0, validRun := l.validRun + 1, invalidRun := 0 }
        let ty := byteAt bytes 2 / 16
        if ty = 2 then s.uplinkTrain n bytes else if ty = 3 then s.uplinkIdent n bytes else s.uplinkRun n bytes) := by
  have hexec : exec (.uplinkFrameReceive n sync bytes) s = execUplinkFrameReceive n sync bytes s := rfl
  rw [hexec, execUplinkFrameReceive, if_neg (by simp [hn, h8, hst])]

/-! ### The edge latch -/

theorem holdPeriod_latched (h : n < s.slk.length) : ((s.holdPeriod n).link n).latched = .hold := by
  unfold State.holdPeriod
  split <;> rw [link_modLink_self _ h]

theorem startTwoStep_misses (s : State) (n : Nat) : ((s.startTwoStep n).walk n).misses = (s.walk n).misses :=
  walk_modWalk_view (fun w => w.misses) s n n fun _ => rfl

theorem startRamp_misses (s : State) (n : Nat) : ((s.startRamp n).walk n).misses = (s.walk n).misses :=
  walk_modWalk_view (fun w => w.misses) s n n fun _ => rfl

theorem walk_within (h : Within m s t) (hm : m.testBit 4 = false) (n : Nat) : t.walk n = s.walk n := by
  rw [State.walk, h.wlk hm, State.walk]

theorem failMode_misses (s : State) (n cause : Nat) : ((s.failMode n cause).walk n).misses = (s.walk n).misses := by
  have hr : ((s.set (F.WLK_Sn_MODE_CAUSE n) cause).raise 0x0404 2 n [s.mode n, cause]).walk n = s.walk n := walk_raise _ _ _ _
  unfold State.failMode
  dsimp only
  split
  · rw [startRamp_misses, walk_modWalk_view (fun w => w.misses) _ n n (f := fun w => { w with requested := false, failed := true }) fun _ => rfl,
      walk_within (setMode_within _ n 4 1) rfl, hr]
  · split
    · rw [walk_modWalk_view (fun w => w.misses) _ n n (f := fun w => { w with requested := false, failed := true }) fun _ => rfl, hr]
    · rw [hr]

theorem stopStall_misses (s : State) (n : Nat) (kind : StopKind) (cause : Nat) :
    ((s.stopStall n kind cause).walk n).misses = (s.walk n).misses := by
  have hbegun : (stopBegun s n kind cause).walk n = s.walk n := by
    unfold stopBegun
    extract_lets i s1 s2 s3
    have h3 : s3.walk n = s2.walk n := by unfold s3; split <;> rfl
    rw [walk_raise, h3]
    rfl
  have hmode : ∀ u : State, ((stopMode u n kind).walk n).misses = (u.walk n).misses := fun u => by
    unfold stopMode
    split
    · exact failMode_misses u n 8
    · split
      · exact walk_modWalk_view (fun w => w.misses) u n n fun _ => rfl
      · split
        · rw [walk_raise, walk_within (setMode_within u n 5 0) rfl]
        · rfl
  have hloop : ∀ (u : State) (m : Nat), ((stopLoop u n m kind).walk n).misses = (u.walk n).misses := fun u m => by
    unfold stopLoop
    split
    · exact walk_modWalk_view (fun w => w.misses) u n n fun _ => rfl
    · split
      · rfl
      · exact walk_modWalk_view (fun w => w.misses) u n n fun _ => rfl
  cases ht : stopTakes s n kind cause with
  | false => rw [stopStall_of_not_takes ht]
  | true =>
    cases hn : s.hasStall n with
    | false => unfold State.stopStall; simp only [hn, Bool.not_false, Bool.or_true, if_true]
    | true => rw [stopStall_of_takes ht hn, hloop, hmode, hbegun]

/-- A missed period: HOLD_LAST is latched, and the miss counts (R195). -/
theorem walkerMiss_spec (hl : n < s.slk.length) (hw : n < s.wlk.length) :
    ((s.walkerMiss n).link n).latched = .hold ∧ ((s.walkerMiss n).walk n).misses = min ((s.walk n).misses + 1) 3 := by
  unfold State.walkerMiss
  extract_lets k third s1 s2 s3 s4
  have h1 : (s1.walk n).misses = k := by
    have := walk_modWalk_self (s := s) (fun w => { w with misses := k, late := false, out_ := .none }) hw
    exact congrArg Wlk.misses this
  have h3w : s3.walk n = s1.walk n := walk_raise _ _ _ _
  have h4w : s4.walk n = s3.walk n := walk_within (holdPeriod_within s3 n) rfl n
  have h3l : s3.slk.length = s.slk.length := congrArg List.length (raise_slk (s := s2) _ _ _ _)
  have h4l : (s4.link n).latched = .hold := holdPeriod_latched (by rw [h3l]; exact hl)
  have h4m : (s4.walk n).misses = min ((s.walk n).misses + 1) 3 := by rw [h4w, h3w]; exact h1
  split
  · exact ⟨by rw [link_within (stopStall_within s4 n .orderly 0x10) rfl]; exact h4l, by rw [stopStall_misses]; exact h4m⟩
  · split
    · exact ⟨h4l, by rw [startTwoStep_misses]; exact h4m⟩
    · exact ⟨h4l, h4m⟩

end Sys2Proof.CommandLaws

namespace Sys2Proof

open Sys2Proof.Machine Sys2Proof.Laws Sys2Proof.PaddockLaws Sys2Proof.CommandLaws

/-- Settles O19: the cycle's frames by `sendFrames_spec`, the uplink by `uplinkInvalid_eq`, the latch by what it stores. -/
theorem linkFrames : Obligations.LinkFrames := by
  intro s n hn h48 hlen hwlk
  have hlt : n < s.slk.length := by omega
  have hw : n < s.wlk.length := by omega
  have hstall : s.hasStall n = true := decide_eq_true hn
  refine ⟨fun vhold h3 => ?_, fun bytes h8 hst => ⟨fun hrun => ?_, fun hrun hst' => ?_, ?_, fun hcrc => ?_⟩, fun hst h9 => ⟨fun hl ho => ?_, fun hl => ?_⟩⟩
  · have hexec : exec (.linkCycleStart vhold) s = execLinkCycleStart vhold s := rfl
    rw [hexec, execLinkCycleStart, if_neg (by rw [h3]; decide)]
    obtain ⟨ha, hc⟩ := (sendFrames_spec (n := n) s.stallNums List.nodup_range s hlt).2 (List.mem_range.mpr hn)
    refine ⟨_, rfl, ?_, ?_, ?_⟩
    · rw [link_within (seeFinal_within _) rfl]; exact ha
    · rw [link_within (seeFinal_within _) rfl]; exact hc
    · rw [get_outside 14 (seeFinal_within _) rfl rfl, get_set_self]
      exact Nat.mod_eq_of_lt (show min vhold 65535 < 2 ^ 16 by omega)
  · rw [exec_uplinkFrame hstall h8 hst, if_neg (by decide), if_pos (by decide), uplinkInvalid_eq]
    have hmiss : ((uplinkMissed (s.incSat (F.SLK_Sn_CNT_INVALID n)) n).link n).invalidRun = (s.link n).invalidRun + 1 := uplinkMissed_run hlt
    rw [if_neg (by omega)]
    refine ⟨_, rfl, hmiss, ?_⟩
    rw [State.linkState, uplinkMissed_get]
    exact get_set_key _ (key_ne_stride rfl rfl rfl)
  · rw [exec_uplinkFrame hstall h8 hst, if_neg (by decide), if_pos (by decide), uplinkInvalid_eq]
    have hmiss : ((uplinkMissed (s.incSat (F.SLK_Sn_CNT_INVALID n)) n).link n).invalidRun = (s.link n).invalidRun + 1 := uplinkMissed_run hlt
    rw [if_pos (by omega)]
    refine ⟨_, rfl, linkLost_run ?_ 0⟩
    rw [State.linkState, uplinkMissed_get]
    exact (get_set_key _ (key_ne_stride rfl rfl rfl)).trans hst'
  · rw [exec_uplinkFrame hstall h8 hst, if_pos rfl]
    refine ⟨_, rfl, ?_⟩
    rw [State.flag, uplinkInvalid_get _ n rfl (key_ne_lo (by decide : 8 % 32 ≠ 0 % 32)) (key_ne_stride rfl rfl rfl), State.incSat, State.addSat,
      get_set_key _ (key_ne_stride rfl rfl rfl)]
    exact flag_setB s _ true rfl
  · rw [exec_uplinkFrame hstall h8 hst, if_neg (by decide), if_neg (by decide), if_pos hcrc]
    refine ⟨_, rfl, ?_⟩
    rw [uplinkInvalid_get _ n rfl (key_ne_stride rfl rfl rfl) (key_ne_stride rfl rfl rfl)]
    exact get_set_self _ _ _
  · have hexec : exec (.edgeBlockLatch n) s = execEdgeBlockLatch n s := rfl
    rw [hexec, execEdgeBlockLatch, if_neg (by rw [hst]; decide), if_neg (by rw [h9]; decide), if_neg (by rw [hl]; decide), ho]
    refine ⟨_, rfl, ?_, ?_⟩
    · rw [link_modWalk]; exact holdPeriod_latched hlt
    · rw [walk_modWalk_self _ (by rw [(holdPeriod_within s n).wlk rfl]; exact hw)]
  · have hexec : exec (.edgeBlockLatch n) s = execEdgeBlockLatch n s := rfl
    rw [hexec, execEdgeBlockLatch, if_neg (by rw [hst]; decide), if_neg (by rw [h9]; decide), if_pos hl]
    exact ⟨_, rfl, walkerMiss_spec hlt hw⟩

end Sys2Proof
end

section
/-!
PROOFS. The opcodes of the stall link (O20).
-/
set_option Elab.async false -- the kernel evaluations wait for each other: keep them in one thread
namespace Sys2Proof.CommandLaws

open Sys2Proof.Machine Sys2Proof.Laws Sys2Proof.PaddockLaws

variable {s t u : State} {f : Fld} {n m p tag : Nat} {d : Desc}

/-! ### The link's operations and the paddocks -/

theorem Quiet.refreshSched (h : Quiet s t) : Quiet s t.refreshSched := by
  unfold State.refreshSched
  extract_lets w was s1
  have h1 : Quiet s s1 := (h.set F.WLK_SCHED w).set F.WLK_STATUS_OVERBOOK _
  split
  · exact h1.raise _ _ _ _
  · exact h1

theorem Quiet.modLink (h : Quiet s t) (n : Nat) (g : Slk → Slk) : Quiet s (t.modLink n g) :=
  h.trans ⟨List.prefix_refl _, fun _ => rfl, rfl⟩

theorem Quiet.modRec (h : Quiet s t) (n : Nat) (g : StallRec → StallRec) : Quiet s (t.modRec n g) :=
  h.trans ⟨List.prefix_refl _, fun _ => rfl, rfl⟩

theorem Quiet.setLink (h : Quiet s t) (n st : Nat) : Quiet s (t.setLink n st) := by
  unfold State.setLink
  dsimp only
  have h1 : Quiet s ((t.set (F.SLK_Sn_STATE_STATE n) st).modLink n fun l => { l with validRun := 0, invalidRun := 0 }) :=
    (h.set _ _).modLink n _
  split
  · exact h1.refreshSched
  · exact h1

theorem Quiet.keyingFail (h : Quiet s t) (n why : Nat) : Quiet s (t.keyingFail n why) := by
  unfold State.keyingFail
  split
  · exact (h.modLink n _).raise _ _ _ _
  · exact (h.modLink n _).raise _ _ _ _

theorem Quiet.rekeyBroken (h : Quiet s t) (n : Nat) : Quiet s (t.rekeyBroken n) := by
  unfold State.rekeyBroken
  extract_lets done
  split
  · exact h.keyingFail n 2
  · exact h

theorem Quiet.sendMgmt (h : Quiet s t) (n type : Nat) (prot : Bool) (body : List Nat) : Quiet s (t.sendMgmt n type prot body) := by
  unfold State.sendMgmt State.tunSend
  exact (h.modLink n _).modLink n _

theorem Quiet.sendConfig (h : Quiet s t) (n : Nat) : Quiet s (t.sendConfig n) := by
  unfold State.sendConfig
  extract_lets body fs
  exact (((h.rekeyBroken n).setLink n Link.configuring).modLink n _).sendMgmt n 16 true _

theorem Quiet.quarantineExit (h : Quiet s t) (n : Nat) : Quiet s (t.quarantineExit n) := by
  unfold State.quarantineExit
  split
  · exact h.sendConfig n
  · exact h

theorem Quiet.trainedState (h : Quiet s t) (n : Nat) : Quiet s (trainedState t n) := (h.setLink n Link.training).modLink n trainedLink

theorem quarantineExit_stallRec (s : State) (n : Nat) : (s.quarantineExit n).stallRec = s.stallRec := by
  unfold State.quarantineExit
  split
  · exact (sendConfig_within s n).stallRec rfl
  · rfl

/-! ### STALL_CONFIG -/

/-- What STALL_CONFIG keeps of the record (R145). -/
def recAsked (d : Desc) (r : StallRec) : StallRec :=
  { r with nextEpoch := d.arg 24 4, nextType := d.arg 28 1, nextFp := (d.param.drop 8).take 32 }

/-- The state in which a STALL_CONFIG that was taken completes. -/
def configAsked (s : State) (d : Desc) (c : Nat) : State := (s.modRec d.target (recAsked d)).set (F.SLK_Sn_QCAUSE d.target) c

theorem configAsked_quiet (s : State) (d : Desc) (c : Nat) : Quiet s (configAsked s d c) :=
  ((Quiet.refl s).modRec d.target (recAsked d)).set _ c

/-! ### LINK_DISABLE -/

/-- The state in which a link is OFF, before its LINK_DISABLEs are answered (R147). -/
def linkOff (s : State) (n : Nat) : State :=
  ((s.setB (F.SLK_Sn_CTRL_ENABLE n) false).setLink n Link.off).modLink n fun l => { l with disable := [] }

theorem disableNow_one {num : Nat} (h : (s.link n).disable = [(p, num)]) : s.disableNow n = (linkOff s n).finish p num 0 0 := by
  unfold State.disableNow
  dsimp only
  rw [h]
  rfl

theorem linkOff_quiet (s : State) (n : Nat) : Quiet s (linkOff s n) :=
  (((Quiet.refl s).set (F.SLK_Sn_CTRL_ENABLE n) 0).setLink n Link.off).modLink n _

theorem linkOff_spec (s : State) (n : Nat) :
    (linkOff s n).linkState n = Link.off ∧ (linkOff s n).flag (F.SLK_Sn_CTRL_ENABLE n) = false := by
  refine ⟨setLink_state _ n Link.off, ?_⟩
  unfold linkOff
  rw [State.flag, get_modLink, setLink_get _ n Link.off rfl (key_ne_stride rfl rfl rfl)]
  exact flag_setB s _ false rfl

/-- The taken LINK_DISABLE of a stall that is not energised. -/
theorem disable_spec (h : s.Ready p tag 0x0204 d) (hlt : d.target < s.slk.length) (hdis : (s.link d.target).disable = []) :
    let u := (taken s p d).modLink d.target fun l => { l with disable := l.disable ++ [(p, d.num)] }
    (u.toTraining d.target).linkState d.target = Link.off ∧ (u.toTraining d.target).flag (F.SLK_Sn_CTRL_ENABLE d.target) = false ∧
      s.Ended (u.toTraining d.target) p tag 0x00 0 := by
  intro u
  have hu : (u.link d.target).disable = [(p, d.num)] := by
    unfold u
    have hlink : (taken s p d).link d.target = s.link d.target := rfl
    rw [link_modLink_self (s := taken s p d) _ hlt, hlink, hdis]
    rfl
  have hlen : d.target < u.slk.length := by unfold u; rw [slk_length]; exact hlt
  have htr : ((trainedState u d.target).link d.target).disable = [(p, d.num)] := by
    rw [trainedState_link hlen]
    exact hu
  have heq : u.toTraining d.target = (linkOff (trainedState u d.target) d.target).finish p d.num 0 0 := by
    rw [toTraining_eq, htr, if_neg (by simp), disableNow_one htr]
  have hq : Quiet (taken s p d) (linkOff (trainedState u d.target) d.target) :=
    (((Quiet.refl _).modLink d.target _).trainedState d.target).trans (linkOff_quiet _ d.target)
  obtain ⟨hstate, hen⟩ := linkOff_spec (trainedState u d.target) d.target
  rw [heq]
  refine ⟨(linkState_within (finish_within _ p d.num 0 0 false) rfl _).trans hstate, ?_, ready_answered h ((ready_inFlight h).quiet hq) hq.out 0 0⟩
  rw [flag_outside 2 (finish_within _ p d.num 0 0 false) rfl rfl]
  exact hen

/-- The taken LINK_RETRAIN of a stall that is not energised. -/
theorem retrain_spec (hlt : n < s.slk.length) (hdis : (s.link n).disable = []) (num : Nat) :
    let u := s.modLink n fun l => { l with retrain := l.retrain ++ [(p, num, false)] }
    (u.toTraining n).linkState n = Link.training ∧ (p, num, true) ∈ ((u.toTraining n).link n).retrain := by
  intro u
  have hlen : n < u.slk.length := by unfold u; rw [slk_length]; exact hlt
  have hlink : u.link n = { s.link n with retrain := (s.link n).retrain ++ [(p, num, false)] } := link_modLink_self _ hlt
  rw [toTraining_quiet hlen (by rw [hlink]; exact hdis)]
  refine ⟨trainedState_state u n, ?_⟩
  rw [trainedState_link hlen, hlink]
  exact List.mem_map.mpr ⟨(p, num, false), List.mem_append_right _ (List.mem_singleton_self _), rfl⟩

/-- A change of the link that leaves its status and its samples leaves the stall as energised as it was. -/
theorem modLink_energised {g : Slk → Slk} (hst : ∀ l, (g l).status = l.status) (hsm : ∀ l, (g l).samples = l.samples)
    (hid : ∀ l, (g l).ident = l.ident) (n : Nat) : (s.modLink m g).linkEnergised n = s.linkEnergised n := by
  have hstatus : ((s.modLink m g).link n).status = (s.link n).status := link_modLink_view Slk.status s m n hst
  have hsamples : ((s.modLink m g).link n).samples = (s.link n).samples := link_modLink_view Slk.samples s m n hsm
  have hident : ((s.modLink m g).link n).ident = (s.link n).ident := link_modLink_view Slk.ident s m n hid
  have habs : (s.modLink m g).absI n = s.absI n := by
    simp only [State.absI, State.sample?, hsamples, hident]
  have hstate : (s.modLink m g).linkState n = s.linkState n := get_modLink _ _
  rw [State.linkEnergised, State.linkEnergised, State.energised, State.energised, State.contactorClosed, State.contactorClosed, hstatus, habs,
    hstate]

/-! ### SEAL_ACK -/

/-- A change-log entry that nothing refuses starts its store (R500). -/
theorem logChange_starts {kind what : Nat} {body : List Nat} {act : ChangeAct} (hfull : s.changelogFull = false)
    (hstage : s.stagingUsed + 3608 ≤ 4194304) (hadm : s.admits 2 (storeNeed 2 1) = true) :
    (s.logChange kind p what body act).1 = 0 ∧
      ∃ st ∈ (s.logChange kind p what body act).2.hay.running, ∃ bytes, st.job = .change ⟨kind, p, body, act⟩ bytes := by
  have hadm' : (s.changeBytes kind p body).2.admits 2 (storeNeed 2 1) = true := hadm
  unfold State.logChange State.tryStore
  rw [if_neg (by rw [hfull]; decide), if_neg (by omega)]
  dsimp only
  rw [if_pos hadm']
  exact ⟨rfl, _, List.mem_append_right _ (List.mem_singleton_self _), _, rfl⟩

end Sys2Proof.CommandLaws

namespace Sys2Proof

open Sys2Proof.Machine Sys2Proof.Laws Sys2Proof.PaddockLaws Sys2Proof.CommandLaws

/-- Settles O20: each opcode by the branch its conditions choose, answered by `ready_answered`. -/
theorem linkOpcodes : Obligations.LinkOpcodes := by
  intro s p tag d hlen hrec h48 hn n
  have hlt : n < s.slk.length := Nat.lt_of_lt_of_eq h48 hlen.symm
  have he' {t : State} (ht : t.linkEnergised n = s.linkEnergised n) (he : s.linkEnergised n = false) : ¬ t.linkEnergised n = true := by
    rw [ht, he]; decide
  have how (ho : s.ownsWindow p = true) : ¬ (taken s p d).ownsWindow p = false := by
    rw [show (taken s p d).ownsWindow p = true from ho]; decide
  have hup (hst : 2 ≤ s.linkState n ∧ s.linkState n ≠ Link.lost) : ¬ ((taken s p d).linkState n = Link.off ∨
      (taken s p d).linkState n = Link.training ∨ (taken s p d).linkState n = Link.lost) := by
    rw [show (taken s p d).linkState n = s.linkState n from rfl]
    rintro (h0 | h1 | h2)
    · rw [h0] at hst; exact absurd hst.1 (by decide)
    · rw [h1] at hst; exact absurd hst.1 (by decide)
    · exact hst.2 h2
  refine ⟨fun h => ⟨fun hcc => ?_, fun hcc hst => ?_, fun hcc hst => ⟨fun hbad => ?_, fun hep hty => ?_⟩⟩, fun h => ⟨fun ho => ?_, fun ho hst => ⟨fun hv => ?_, fun hv hfull hstage hadm => ?_⟩⟩,
    fun h he hd => ⟨fun hst => ?_, fun hst => ?_⟩, fun h he hd => ?_⟩
  · have hexec : exec (.stallConfig p tag) s = execStallConfig p tag s := rfl
    rw [hexec, execStallConfig, ready_take h _ (by decide)]
    refine ⟨_, rfl, ?_, ?_⟩
    all_goals rw [if_pos (show (taken s p d).contactorClosed n = true from hcc)]
    · exact ready_answered h (ready_inFlight h) (List.prefix_refl _) 0x42 0
    · exact (finish_within _ p d.num 0x42 0 false).stallRec rfl
  · have hexec : exec (.stallConfig p tag) s = execStallConfig p tag s := rfl
    rw [hexec, execStallConfig, ready_take h _ (by decide)]
    have hno : ¬ (taken s p d).contactorClosed n = true := by rw [show (taken s p d).contactorClosed n = false from hcc]; decide
    refine ⟨_, rfl, ?_, ?_⟩
    all_goals rw [if_neg hno, if_pos (.inr (.inl (show (taken s p d).linkState n = Link.keying from hst)))]
    · exact ready_answered h (ready_inFlight h) (List.prefix_refl _) 5 0
    · exact (finish_within _ p d.num 5 0 false).stallRec rfl
  · have hexec : exec (.stallConfig p tag) s = execStallConfig p tag s := rfl
    rw [hexec, execStallConfig, ready_take h _ (by decide)]
    have hno : ¬ (taken s p d).contactorClosed n = true := by rw [show (taken s p d).contactorClosed n = false from hcc]; decide
    have hrun : ¬ ((taken s p d).linkState n = Link.identify ∨ (taken s p d).linkState n = Link.keying ∨
        (taken s p d).linkState n = Link.configuring) := by
      rw [show (taken s p d).linkState n = s.linkState n from rfl]
      simp only [Link.identify, Link.keying, Link.configuring]
      omega
    refine ⟨_, rfl, ?_, ?_⟩
    all_goals
      rw [if_neg hno, if_neg hrun, if_pos (show (takenDesc d).arg 24 4 = (taken s p d).get (F.SLK_Sn_EPOCH_REC n) ∨ (taken s p d).types.length ≤ (takenDesc d).arg 28 1
        from hbad)]
    · exact ready_answered h (ready_inFlight h) (List.prefix_refl _) 0x44 0
    · exact (finish_within _ p d.num 0x44 0 false).stallRec rfl
  · have hexec : exec (.stallConfig p tag) s = execStallConfig p tag s := rfl
    rw [hexec, execStallConfig, ready_take h _ (by decide)]
    have hno : ¬ (taken s p d).contactorClosed n = true := by rw [show (taken s p d).contactorClosed n = false from hcc]; decide
    have hrun : ¬ ((taken s p d).linkState n = Link.identify ∨ (taken s p d).linkState n = Link.keying ∨
        (taken s p d).linkState n = Link.configuring) := by
      rw [show (taken s p d).linkState n = s.linkState n from rfl]
      simp only [Link.identify, Link.keying, Link.configuring]
      omega
    have hgood : ¬ ((takenDesc d).arg 24 4 = (taken s p d).get (F.SLK_Sn_EPOCH_REC n) ∨ (taken s p d).types.length ≤ (takenDesc d).arg 28 1) :=
      fun hbad => hbad.elim hep (Nat.not_le.mpr hty)
    refine ⟨_, rfl, ?_⟩
    rw [if_neg hno, if_neg hrun, if_neg hgood]
    have hq := configAsked_quiet (taken s p d) d
    have hrec' (c : Nat) : (((configAsked (taken s p d) d c).finish p d.num 0 0).rec? n) = recAsked d (s.rec? n) := by
      rw [State.rec?, (finish_within _ p d.num 0 0 false).stallRec rfl]
      exact getD_modAt_self _ n _ _ (Nat.lt_of_lt_of_eq h48 hrec.symm)
    have hans := fun c => ready_answered h ((ready_inFlight h).quiet (hq c)) (hq c).out 0 0
    refine ⟨?_, ?_⟩
    · dsimp only
      split
      · exact Ended.later (hans _) ((hq _).out.trans (finish_within _ p d.num 0 0 false).out) (.ofQuiet ((Quiet.refl _).sendConfig n))
      · exact Ended.later (hans _) ((hq _).out.trans (finish_within _ p d.num 0 0 false).out) (.ofQuiet ((Quiet.refl _).quarantineExit n))
    · have hkept {t u : State} (heq : u.stallRec = t.stallRec) (ht : t.rec? n = recAsked d (s.rec? n)) :
          (u.rec? n).nextEpoch = d.arg 24 4 ∧ (u.rec? n).nextType = d.arg 28 1 := by
        rw [State.rec?, heq, ← State.rec?, ht]
        exact ⟨rfl, rfl⟩
      dsimp only
      split
      · exact hkept ((sendConfig_within _ n).stallRec rfl) (hrec' _)
      · exact hkept (quarantineExit_stallRec _ n) (hrec' _)
  · have hexec : exec (.sealAck p tag) s = execSealAck p tag s := rfl
    rw [hexec, execSealAck, ready_take h _ (by decide)]
    refine ⟨_, rfl, ?_⟩
    rw [if_pos (show (taken s p d).ownsWindow p = false from ho)]
    exact ready_answered h (ready_inFlight h) (List.prefix_refl _) 0x40 0
  · have hexec : exec (.sealAck p tag) s = execSealAck p tag s := rfl
    rw [hexec, execSealAck, ready_take h _ (by decide)]
    refine ⟨_, rfl, ?_⟩
    rw [if_neg (how ho), if_neg (hup hst), if_pos (show (takenDesc d).arg 24 1 ≠ (taken s p d).get (F.SLK_Sn_SEAL_REPORTED n) from hv)]
    exact ready_answered h (ready_inFlight h) (List.prefix_refl _) 0x41 0
  · have hexec : exec (.sealAck p tag) s = execSealAck p tag s := rfl
    rw [hexec, execSealAck, ready_take h _ (by decide)]
    refine ⟨_, rfl, ?_⟩
    have hsame : ¬ (takenDesc d).arg 24 1 ≠ (taken s p d).get (F.SLK_Sn_SEAL_REPORTED n) := fun hne => hne hv
    rw [if_neg (how ho), if_neg (hup hst), if_neg hsame]
    dsimp only
    obtain ⟨hzero, st, hrunning, bytes, hjob⟩ := logChange_starts (s := taken s p d) (kind := 3) (p := p) (what := 0x0202)
      (body := le 2 0x0202 ++ le 2 n ++ padTo 40 [(taken s p d).sealWord n] ++ padTo 40 [d.arg 24 1])
      (act := .sealAck p d.num n (d.arg 24 1)) hfull hstage hadm
    refine ⟨st, ?_, _, bytes, hjob⟩
    exact (if_pos hzero).symm ▸ hrunning
  · have hexec : exec (.linkRetrain p tag) s = execLinkRetrain p tag s := rfl
    rw [hexec, execLinkRetrain, ready_take h _ (by decide)]
    refine ⟨_, rfl, ?_⟩
    rw [if_pos (show (taken s p d).linkState n = Link.off from hst)]
    exact ready_answered h (ready_inFlight h) (List.prefix_refl _) 0x43 0
  · have hexec : exec (.linkRetrain p tag) s = execLinkRetrain p tag s := rfl
    rw [hexec, execLinkRetrain, ready_take h _ (by decide)]
    refine ⟨_, rfl, ?_⟩
    rw [if_neg (show ¬ (taken s p d).linkState n = Link.off from hst)]
    dsimp only
    rw [if_neg (he' (modLink_energised (s := taken s p d) (g := fun l => { l with retrain := l.retrain ++ [(p, d.num, false)] })
      (fun _ => rfl) (fun _ => rfl) (fun _ => rfl) n) he)]
    exact retrain_spec (s := taken s p d) hlt hd d.num
  · have hexec : exec (.linkDisable p tag) s = execLinkDisable p tag s := rfl
    rw [hexec, execLinkDisable, ready_take h _ (by decide)]
    refine ⟨_, rfl, ?_⟩
    dsimp only
    rw [if_neg (he' (modLink_energised (s := taken s p d) (g := fun l => { l with disable := l.disable ++ [(p, d.num)] })
      (fun _ => rfl) (fun _ => rfl) (fun _ => rfl) n) he)]
    exact disable_spec h hlt hd

end Sys2Proof
end

section
/-!
PROOFS. Cabinets (O24): a completion of one descriptor writes what its paddock holds (R73), and a held completion that bears the number of
a descriptor still in flight ends that one's in-flight state.
-/
set_option Elab.async false -- the kernel evaluations wait for each other: keep them in one thread
namespace Sys2Proof.CommandLaws

open Sys2Proof.Machine Sys2Proof.Laws

/-- A held completion that bears descriptor number 1. -/
def strayCpl : Cpl := { cq := 0, num := 1, tag := 9, status := 0, flags := 0, result := 0, onDone := false, chrono := 0 }

/-- Paddock 0 with these descriptors in flight and the completion `strayCpl` held for a CQ that has room. -/
def strayHeld (ds : List Desc) : State :=
  { State.reset with
    regs := [((F.PDK_CQj_CFG_ENABLE 0 0).key, 1)]
    pdk := modAt State.reset.pdk 0 fun d => { d with table := ds, held := [strayCpl] } }

/-- The CABINET_RETIRE with number 1 that waits to run. -/
def retireDesc : Desc := { oneDesc with opcode := 0x0303, phase := .queued }

/-- Cabinet 0 is ENABLING for descriptor 2 when the CABINET_RETIRE runs. -/
def enablingStray : State :=
  { strayHeld [retireDesc, { oneDesc with num := 2, ord := 2, tag := 5 }] with
    regs := [((F.PDK_CQj_CFG_ENABLE 0 0).key, 1), (F.YMS_CAB_STATE0.key, 2)]
    yms := { Yms.init with cabs := modAt Yms.init.cabs 0 fun c => { c with enable := [(0, 2)] } } }

end Sys2Proof.CommandLaws

namespace Sys2Proof

open Sys2Proof.Machine Sys2Proof.Laws Sys2Proof.CommandLaws

/-- Refutes O24: in `enablingStray` the completion of the withdrawn CABINET_ENABLE writes the held one that bears the number of the
CABINET_RETIRE, which is then no longer in flight and never answered. -/
theorem not_cabinets : ¬ Obligations.Cabinets := by
  intro h
  obtain ⟨-, -, -, hretire⟩ := h enablingStray 0 (by decide) rfl
  obtain ⟨t, ht, -, hended⟩ := (hretire 0 0 retireDesc (by unfold State.Ready; decide +kernel) rfl).2.1 (by decide +kernel) (by decide +kernel)
  obtain rfl := Host.Outcome.next.inj ht
  unfold State.Ended at hended
  exact absurd hended (by decide +kernel)

end Sys2Proof
end

section
/-!
PROOFS. Readings and prepay (O34).
-/
set_option Elab.async false -- the kernel evaluations wait for each other: keep them in one thread
namespace Sys2Proof.CommandLaws

open Sys2Proof.Machine Sys2Proof.Laws

/-- A RECORD_FETCH of one record from sequence number 0 on, with room for 3,760 bytes. -/
def fetchDesc : Desc :=
  { oneDesc with opcode := 0x0603, phase := .queued, length := 3760, param := List.replicate 16 0 ++ [1] ++ List.replicate 23 0 }

/-- READINGS holds one item of 3,761 bytes, and the head is beyond it. -/
def longReading : State :=
  { State.reset with
    regs := [(F.BIL_REC_SEQ.key, 1)]
    pdk := modAt State.reset.pdk 0 fun d => { d with table := [fetchDesc] }
    hay := { Hay.init with readings := { Hay.init.readings with base := 0, items := [List.replicate 3761 0] } } }

end Sys2Proof.CommandLaws

namespace Sys2Proof

open Sys2Proof.Machine Sys2Proof.Laws Sys2Proof.CommandLaws

/-- Refutes O34: the record of `longReading` is longer than the 3,760 bytes that the descriptor's buffer holds of it, so the buffer gets
only its front. -/
theorem not_readingsAndPrepay : ¬ Obligations.ReadingsAndPrepay := by
  intro h
  obtain ⟨-, hfetch, -⟩ := h longReading
  obtain ⟨t, ht, -, hbuf⟩ := ((hfetch 0 0 fetchDesc (by unfold State.Ready; decide +kernel) rfl).2 (by decide) (by decide) (by decide) (by decide)
    (by decide +kernel)).2.2 (by decide +kernel) (by decide +kernel) (by decide)
  obtain rfl := Host.Outcome.next.inj ht
  exact absurd hbuf (by decide +kernel)

end Sys2Proof
end

section
/-!
PROOFS. Statements about sessions, bridges, regulators and load switches that a state with a shared descriptor number, a held completion of
a descriptor still in flight or a register beyond its width makes fail (O35, O36, O38, O40, O41).
-/
set_option Elab.async false -- the kernel evaluations wait for each other: keep them in one thread
namespace Sys2Proof.CommandLaws

open Sys2Proof.Machine Sys2Proof.Laws

/-- Is `o` a completion record of this TAG in paddock `p`? -/
def completes? (p tag : Nat) : Out → Bool
  | .cqe p' _ _ tag' _ _ _ _ => decide (p' = p ∧ tag' = tag)
  | _ => false

/-- Has a completion of this TAG been written since `s`, or is one held? -/
def answers (s t : State) (p tag : Nat) : Bool :=
  (t.out.drop s.out.length).any (completes? p tag) || (t.pd p).held.any fun c => decide (c.tag = tag)

theorem answers_of_ended {s t : State} {p tag st r : Nat} (h : s.Ended t p tag st r) : answers s t p tag = true := by
  rw [answers, Bool.or_eq_true]
  rcases h with ⟨o, ho, hc⟩ | ⟨c, hc, htag, -, -⟩
  · refine .inl (List.any_eq_true.mpr ⟨o, ho, ?_⟩)
    cases o <;> simp_all [isCqe, completes?]
  · exact .inr (List.any_eq_true.mpr ⟨c, hc, decide_eq_true htag⟩)

/-- Two descriptors of paddock 0 in flight, the first still queued; its number is also that of the held completion. -/
def strayQueued (opcode : Nat) (param : List Nat) (regs : List (Nat × Nat)) : State :=
  { strayHeld [{ oneDesc with opcode := opcode, phase := .queued, param := param }, { oneDesc with num := 2, ord := 2, tag := 5 }] with
    regs := [((F.PDK_CQj_CFG_ENABLE 0 0).key, 1), (F.PWR_DOMAINS.key, 0xFFFF)] ++ regs
    pwr := { Pwr.init with cold := false } }

/-- A BRIDGE_SET to COAST where bridge 0 holds another one that waits. -/
def bridgeStray : State :=
  { strayQueued 0x0801 (2 :: List.replicate 39 0) [((F.HRN_HBb_CFG_ENABLE 0).key, 1)] with
    hrn := { Hrn.init with bridges := modAt Hrn.init.bridges 0 fun b => { b with waits := [(0, 2, false)] } } }

/-- An AUX_SET with STOP where regulator 0 holds another one that waits. -/
def auxStray : State :=
  { strayQueued 0x0901 (2 :: List.replicate 39 0) [((F.AUXn_CFG_ENABLE 0).key, 1)] with
    aux := modAt State.reset.aux 0 fun a => { a with wait := some (0, 2) } }

/-- An LSW_SET with MODE 0 where channel 0 holds another one that waits. -/
def lswStray : State :=
  { strayQueued 0x0A01 (List.replicate 40 0) [((F.LSW_Cn_CFG_ENABLE 0).key, 1)] with
    lsw := modAt State.reset.lsw 0 fun x => { x with wait := some (0, 2) } }

/-- A SESSION_AUTHORIZE that refuses, of a session for which a stop with the same descriptor number waits. -/
def refuseShared : State :=
  { State.reset with
    regs := [(F.PWR_DOMAINS.key, 0xFFFF)]
    pdk := modAt State.reset.pdk 0 fun d => { d with
      table := [{ oneDesc with opcode := 0x0701, phase := .queued, param := [0, 0, 0, 0, 1] ++ List.replicate 35 0 }] }
    pwr := { Pwr.init with cold := false }
    dro := { Dro.init with ctxs := modAt Dro.init.ctxs 0 fun c => { c with state := 2, auth := 1, chan := 3, stops := [(0, 1)] } } }

/-- The receive ring's owner is a paddock that there is not. -/
def ownerBeyond : State :=
  { State.reset with
    regs := [(F.PWR_DOMAINS.key, 0xFFFF), (F.DRO_RX_CFG_OWNER.key, 7), (F.DRO_RX_CFG_ENABLE.key, 1), ((F.DRO_Sn_CFG_TUNNEL_MODE 0).key, 1),
      ((F.SLK_Sn_STATE_STATE 0).key, Link.run)]
    slk := modAt State.reset.slk 0 fun l => { l with heldTun := [(0, [1], 0)] }
    pwr := { Pwr.init with cold := false } }

end Sys2Proof.CommandLaws

namespace Sys2Proof

open Sys2Proof.Machine Sys2Proof.Laws Sys2Proof.CommandLaws

/-- Refutes O35: in `ownerBeyond` the receive ring belongs to paddock 7, where no slot is taken. -/
theorem not_sessionTransport : ¬ Obligations.SessionTransport := by
  intro h
  obtain ⟨hmsg, -⟩ := h ownerBeyond 0 0 (by decide +kernel) (by decide +kernel) (by decide +kernel) (by decide +kernel) (by decide +kernel)
  obtain ⟨hhost, -⟩ := hmsg .lost 0 [1] 0 [] (by decide +kernel) (by decide +kernel) (by decide +kernel) (by decide)
  obtain ⟨t, ht, -, hprod⟩ := (hhost (by decide +kernel)).2 (by decide +kernel) (by decide) (by decide) (by decide +kernel) (by decide +kernel)
    (by decide +kernel)
  obtain rfl := Host.Outcome.next.inj ht
  exact absurd hprod (by decide +kernel)

/-- Refutes O36: in `refuseShared` the refusal ends the session, and the stop that waits for its end completes the descriptor of that
number with the close cause in RESULT. -/
theorem not_authorization : ¬ Obligations.Authorization := by
  intro h
  obtain ⟨-, -, -, hauth⟩ := h refuseShared 0 0 (by decide +kernel) (by decide +kernel) (by decide) (by decide) (by decide +kernel)
  obtain ⟨-, hsome⟩ := hauth 0 0 { oneDesc with opcode := 0x0701, phase := .queued, param := [0, 0, 0, 0, 1] ++ List.replicate 35 0 } []
    (by unfold State.Ready; decide +kernel)
  obtain ⟨t, ht, hended, -⟩ := ((hsome (by decide +kernel)).2 (by decide +kernel) (by decide +kernel) (by decide +kernel)).2.1 (by decide)
  obtain rfl := Host.Outcome.next.inj ht
  unfold State.Ended at hended
  exact absurd hended (by decide +kernel)

/-- Refutes O38: in `bridgeStray` the completion of the BRIDGE_SET that waits writes the held one, which ends the in-flight state of the
BRIDGE_SET to COAST. -/
theorem not_bridges : ¬ Obligations.Bridges := by
  intro h
  obtain ⟨hset, -⟩ := h bridgeStray 0 (by decide) (by decide +kernel) (by decide +kernel)
  obtain ⟨-, hgood⟩ := hset 0 0 { oneDesc with opcode := 0x0801, phase := .queued, param := 2 :: List.replicate 39 0 }
    (by unfold State.Ready; decide +kernel) rfl
  obtain ⟨-, hfree⟩ := (hgood (by decide)).2 (by decide +kernel)
  obtain ⟨-, hmatch⟩ := (hfree (by decide +kernel) (by decide +kernel)).2 (by decide +kernel)
  obtain ⟨t, r, ht, hended, -⟩ := (hmatch (by decide +kernel) (by decide +kernel)).1 (by decide)
  obtain rfl := Host.Outcome.next.inj ht
  exact absurd (answers_of_ended hended) (by decide +kernel)

/-- Refutes O40: in `auxStray` the completion of the AUX_SET that is superseded writes the held one, which ends the in-flight state of the
AUX_SET with STOP. -/
theorem not_regulators : ¬ Obligations.Regulators := by
  intro h
  obtain ⟨hset, -⟩ := h auxStray 0 (by decide) (by decide +kernel) (by decide +kernel)
  obtain ⟨-, hgood⟩ := hset 0 0 { oneDesc with opcode := 0x0901, phase := .queued, param := 2 :: List.replicate 39 0 }
    (by unfold State.Ready; decide +kernel) rfl (by decide +kernel)
  obtain ⟨-, -, hrun⟩ := hgood (by decide +kernel)
  obtain ⟨-, hstop, -⟩ := (hrun (.inl (by decide +kernel))).2 (by decide +kernel)
  obtain ⟨t, r, ht, hended, -⟩ := hstop (by decide)
  obtain rfl := Host.Outcome.next.inj ht
  exact absurd (answers_of_ended hended) (by decide +kernel)

/-- Refutes O41: in `lswStray` the completion of the LSW_SET that waits writes the held one, which ends the in-flight state of the LSW_SET
with MODE 0. -/
theorem not_loadSwitches : ¬ Obligations.LoadSwitches := by
  intro h
  obtain ⟨hset, -⟩ := h lswStray 0 (by decide) (by decide +kernel) (by decide +kernel)
  obtain ⟨-, hgood⟩ := hset 0 0 { oneDesc with opcode := 0x0A01, phase := .queued } (by unfold State.Ready; decide +kernel) rfl (by decide +kernel)
  obtain ⟨-, hlatch⟩ := ((((hgood (by decide)).2 (by decide +kernel)).2 (by decide +kernel)).2 (by decide +kernel))
  obtain ⟨t, ht, hended, -⟩ := (hlatch (by decide +kernel)).1 (by decide)
  obtain rfl := Host.Outcome.next.inj ht
  exact absurd (answers_of_ended hended) (by decide +kernel)

end Sys2Proof
end

section
/-!
PROOFS. Statements about the CAN receive ring, the epoch switch, the Device reset, the exit from HIBERNATE and the control lanes that a
register beyond its width or a device whose checkpoint slots all fail makes fail (O42, O48, O50, O51, O52).
-/
set_option Elab.async false -- the kernel evaluations wait for each other: keep them in one thread
namespace Sys2Proof.CommandLaws

open Sys2Proof.Machine Sys2Proof.Laws

/-- The CAN receive ring's owner is a paddock that there is not. -/
def canOwnerBeyond : State :=
  { State.reset with
    regs := [(F.PWR_DOMAINS.key, 0xFFFF), (F.CAN_RX_CFG_OWNER.key, 7), (F.CAN_RX_CFG_ENABLE.key, 1)]
    can := { Can.init with fifo := [⟨0, ⟨0, false, false, false, false, false, 0, []⟩, 0, none, false⟩] }
    pwr := { Pwr.init with cold := false } }

/-- A switch is pending to an epoch beyond the width of its register. -/
def epochBeyond : State :=
  { State.reset with
    regs := [(F.TCK_SWITCH_EPOCH.key, 2 ^ 32)]
    pdk := modAt State.reset.pdk 0 fun d => { d with table := [oneDesc] }
    tck := { State.reset.tck with switch := some (0, 1, 0) } }

/-- A lane is in control whose number is beyond the width of its field. -/
def laneBeyond : State :=
  { State.reset with
    regs := [(F.PWR_DOMAINS.key, 0xFFFF), (F.GLB_LANE_STATUS_ACTIVE.key, 2)]
    lan := { Lan.init with control := true }
    pwr := { Pwr.init with cold := false } }

/-- HIBERNATE with one checkpoint slot written, which does not verify. -/
def sleepsWithoutSlot : State :=
  { State.reset with
    regs := [(F.PWR_STATE_STATE.key, 2)]
    hay := { State.reset.hay with ckpt := some { Ckpt.shipped with ok := false } }
    pwr := { Pwr.init with cold := false } }

/-- The same with a Device reset requested. -/
def resetWithoutSlot : State := { sleepsWithoutSlot with pwr := { Pwr.init with cold := false, reset := true } }

theorem firstMeasure_slotsFail (s : State) : s.firstMeasure.slotsFail = s.slotsFail := by
  unfold State.firstMeasure
  split <;> rfl

theorem phases_phase (s : State) (ph : Nat) : (s.phases [ph]).get F.GLB_BOOT_STATUS_PHASE = ph % 16 := by
  change ((s.set F.GLB_BOOT_STATUS_PHASE ph).setBit F.GLB_BOOT_STATUS_HISTORY ph true).get F.GLB_BOOT_STATUS_PHASE = ph % 16
  rw [State.setBit, get_set_lo _ rfl]
  exact get_set_self s F.GLB_BOOT_STATUS_PHASE ph

theorem restoreOrFail_phase (s : State) (v : Bool) (h : s.slotsFail = true) : (s.restoreOrFail v).get F.GLB_BOOT_STATUS_PHASE = 15 := by
  rw [State.restoreOrFail, if_pos h, State.bootFail, get_set_lo _ rfl, phases_phase]

theorem resetWithoutSlot_phase : resetWithoutSlot.deviceEffect.get F.GLB_BOOT_STATUS_PHASE = 15 := by
  unfold State.deviceEffect
  dsimp only
  rw [if_pos (by decide +kernel), get_outside 0 (refreshHeld_within _) rfl rfl, get_outside 0 (actLoops_within _) rfl rfl]
  refine restoreOrFail_phase _ true ?_
  rw [firstMeasure_slotsFail]
  decide +kernel

theorem execDeviceResetEffect_resetWithoutSlot : exec .deviceResetEffect resetWithoutSlot = .next resetWithoutSlot.deviceEffect :=
  congrArg Host.Outcome.next (if_neg (by decide +kernel))

end Sys2Proof.CommandLaws

namespace Sys2Proof

open Sys2Proof.Machine Sys2Proof.Laws Sys2Proof.CommandLaws

/-- Refutes O42: in `canOwnerBeyond` the receive ring belongs to paddock 7, where no slot is taken. -/
theorem not_canAndCheckUnits : ¬ Obligations.CanAndCheckUnits := by
  intro h
  obtain ⟨hcan, -⟩ := h canOwnerBeyond 0 (by decide) (by decide +kernel)
  obtain ⟨-, -, -, -, -, -, -, hring, -⟩ := hcan (by decide +kernel)
  obtain ⟨t, ht, -, hprod⟩ := hring ⟨0, ⟨0, false, false, false, false, false, 0, []⟩, 0, none, false⟩ (by decide +kernel) (by decide +kernel)
    (by decide +kernel) (by decide +kernel) (by decide +kernel) (by decide +kernel)
  obtain rfl := Host.Outcome.next.inj ht
  exact absurd hprod (by decide +kernel)

/-- Refutes O48: in `epochBeyond` no table is refused, and TCK_EPOCH takes the epoch's low 32 bits. -/
theorem not_tackRoom : ¬ Obligations.TackRoom := by
  intro h
  obtain ⟨-, -, -, hboundary, -⟩ := h epochBeyond 0 0 oneDesc
  obtain ⟨-, hall⟩ := hboundary 0 1 0 oneDesc (by decide +kernel) (by decide +kernel)
  obtain ⟨t, ht, hepoch, -⟩ := hall (by decide +kernel)
  obtain rfl := Host.Outcome.next.inj ht
  exact absurd hepoch (by decide +kernel)

/-- Refutes O50: in `resetWithoutSlot` the Device reset restores the meters, as from HIBERNATE, finds no valid slot and stops at BOOT_FAIL. -/
theorem not_suppliesAndResets : ¬ Obligations.SuppliesAndResets := by
  rintro ⟨h, -⟩
  obtain ⟨-, -, -, -, -, heffect, -⟩ := h resetWithoutSlot (by decide +kernel)
  obtain ⟨t, ht, -, -, -, -, hphase⟩ := heffect (by decide +kernel) (by decide +kernel)
  obtain ⟨hphase, -⟩ := hphase (by decide +kernel) (by decide +kernel) (by decide +kernel)
  rw [execDeviceResetEffect_resetWithoutSlot] at ht
  obtain rfl := Host.Outcome.next.inj ht
  exact absurd (hphase.symm.trans resetWithoutSlot_phase) (by decide)

/-- Refutes O51: in `sleepsWithoutSlot` the exit from HIBERNATE finds no valid slot and stops at BOOT_FAIL. -/
theorem not_powerStates : ¬ Obligations.PowerStates := by
  rintro ⟨-, -, h, -⟩
  obtain ⟨-, hsleep, -⟩ := h sleepsWithoutSlot 0 (.wakeEvent 0) false (by decide +kernel) (.inl ⟨rfl, rfl⟩)
  obtain ⟨t, ht, -, -, -, -, hphase⟩ := hsleep (by decide +kernel) (by decide +kernel) (by decide +kernel)
  obtain rfl := Host.Outcome.next.inj ht
  exact absurd (hphase (by decide +kernel)) (by decide +kernel)

/-- Refutes O52: in `laneBeyond` the fault report of lane 2, the active one, changes nothing. -/
theorem not_controlLanes : ¬ Obligations.ControlLanes := by
  rintro ⟨h, -⟩
  obtain ⟨-, hlost, -⟩ := h laneBeyond
  obtain ⟨t, ht, hcontrol, -⟩ := hlost (.laneFaultReport 2) 1 rfl rfl (.inr ⟨by decide +kernel, by decide +kernel, rfl⟩)
  obtain rfl := Host.Outcome.next.inj ht
  exact absurd hcontrol (by decide +kernel)

end Sys2Proof
end

section
/-!
PROOFS. Access to registers: setup writes denied and taken, locks, wide reads (O54, O55, O56, O58).
-/
set_option Elab.async false -- the kernel evaluations wait for each other: keep them in one thread
namespace Sys2Proof.CommandLaws

open Sys2Proof.Machine Sys2Proof.Laws Sys2Proof.PaddockLaws

variable {s : State} {p off val : Nat}

/-! ### Setup writes -/

/-- What a setup write of `off` meets before rights and locks: power, presence, an assigned register. -/
structure Reaches (s : State) (off : Nat) (r : RegRow) : Prop where
  power : s.domainOn 4 = true
  present : s.absent off = false
  row : regRowAt off = some r
  domain : s.domainOn (domainOf off) = true
  lt : off < 0x200000

theorem Reaches.setupWrite_denied {r : RegRow} (h : Reaches s off r) (hm : s.mayWrite p off = false) (val : Nat)
    (f : RegRow → Nat → Nat → State → State) : s.setupWrite p off val f = s.deny p off := by
  unfold State.setupWrite
  rw [h.row, if_neg (by simp [h.power]), if_neg (by simp [h.present])]
  dsimp only
  rw [if_neg (by simp [h.domain]), if_pos hm, Nat.mod_eq_of_lt h.lt]

/-- A write of a register without RWL fields, of an allowed value, by a paddock with the right takes effect. -/
theorem Reaches.setupWrite_taken {r : RegRow} (h : Reaches s off r) (hm : s.mayWrite p off = true) (hl : r.has .rwl = false)
    (f : RegRow → Nat → Nat → State → State)
    (ha : rowAllowed r (mergeHalf r off (s.rowVal r (r.baseOf (keyOff p off))) val) = true) :
    s.setupWrite p off val f =
      f r (r.baseOf (keyOff p off)) (mergeHalf r off (s.rowVal r (r.baseOf (keyOff p off))) val) s := by
  unfold State.setupWrite
  rw [h.row, if_neg (by simp [h.power]), if_neg (by simp [h.present])]
  dsimp only
  rw [if_neg (by simp [h.domain]), if_neg (by simp [hm]), if_neg (by simp [hl]), if_pos ha]

theorem deny_offset (h : off < 0x200000) : (s.deny p off).get (F.PDK_DENY_STATUS_OFFSET p) = off := by
  rw [State.deny, ((EventKeeps.refl _).raisePdk p 0x0103 2 (le 4 off)).regs _ rfl rfl, get_set_self]
  exact Nat.mod_eq_of_lt h

theorem deny_valid : (s.deny p off).flag (F.PDK_DENY_STATUS_VALID p) = true := by
  rw [State.deny, State.flag, ((EventKeeps.refl _).raisePdk p 0x0103 2 (le 4 off)).regs _ rfl rfl, get_set_lo _ rfl]
  exact flag_setB_true s _ rfl

/-- A denied write changes registers of PDK and of the event log only. -/
theorem deny_get {f : Fld} (h1 : f.win % 256 ≠ 1) (h14 : f.win % 256 ≠ 0xE) : (s.deny p off).get f = s.get f := by
  have hmask : ∀ w < 256, w ≠ 1 → w ≠ 14 → Nat.testBit 0x400200080004 (32 + w) = false := by decide +kernel
  exact (deny_within s p off).get f (hmask _ (Nat.mod_lt _ (by decide)) h1 h14)

theorem rxCfgWrite_denied (hden : ∀ val f, s.setupWrite p off val f = s.deny p off) (dro : Bool)
    (hoff : off = if dro then 0x70028 else 0xB000C := by rfl) : s.rxCfgWrite p dro val = s.deny p off := by
  subst hoff
  unfold State.rxCfgWrite
  exact hden val _

/-- Whatever the window makes of its registers, a write without the right is denied. -/
theorem Reaches.windowWrite_denied {r : RegRow} (h : Reaches s off r) (hm : s.mayWrite p off = false) (h48 : off ≠ 0x48) (val : Nat) :
    s.windowWrite p off val = s.deny p off := by
  have hden := h.setupWrite_denied hm
  have hplain : s.plainWrite p off val = s.deny p off := hden val _
  have hlt := h.lt
  unfold State.windowWrite
  split
  case h_1 =>
    unfold State.glbWrite
    split
    case h_2 => exact absurd rfl h48
    case h_7 => exact hplain
    all_goals exact hden val _
  case h_2 hwin =>
    refine absurd hm ?_
    rw [State.mayWrite, Nat.mod_eq_of_lt hlt, hwin]
    simp [setupRight]
  case h_3 =>
    unfold State.slkWrite
    dsimp only
    split
    · exact hden val _
    · exact hplain
  case h_4 =>
    unfold State.wlkWrite
    dsimp only
    split
    · exact hden val _
    · exact hplain
  case h_5 hwin =>
    unfold State.droWrite
    dsimp only
    split
    next hk =>
      obtain rfl : off = 0x70028 := by omega
      exact rxCfgWrite_denied hden true
    next =>
      split
      · exact hden val _
      · split
        · exact hden val _
        · exact hplain
  case h_6 =>
    unfold State.hrnWrite
    dsimp only
    split
    · split <;> exact hden val _
    · split
      · exact hden val _
      · exact hplain
  case h_7 =>
    unfold State.auxWrite
    dsimp only
    split
    · split <;> exact hden val _
    · exact hplain
  case h_8 =>
    unfold State.lswWrite
    dsimp only
    split
    · exact hden val _
    · exact hplain
  case h_9 hwin =>
    by_cases hk : off % 0x10000 = 0x0C
    · obtain rfl : off = 0xB000C := by omega
      exact rxCfgWrite_denied hden false
    · unfold State.canWrite
      rw [if_neg hk]
      exact hden val _
  case h_10 => exact hden val _
  case h_11 => exact hplain

/-- REGISTER_WRITE without the right, of a register that is neither RWP nor one with rights of its own. -/
theorem Reaches.registerWrite_denied {r : RegRow} (h : Reaches s off r) (hp : p < 4) (hal : off % 4 = 0) (hm : s.mayWrite p off = false)
    (hrwp : isRwp off = false) (h48 : off ≠ 0x48) (h404 : off ≠ 0x404) (hwake : off ≠ 0xF0034) (val : Nat) :
    exec (.registerWrite p off val) s = .next (s.deny p off) := by
  refine congrArg Host.Outcome.next ?_
  rw [if_neg (by omega), if_neg (by have := h.lt; omega), hrwp, if_neg h404, if_neg hwake]
  have hnudge : off ≠ 0x10010 := fun he => by
    subst he
    exact absurd hm (by simp [State.mayWrite, setupRight])
  rw [if_neg hnudge, h.windowWrite_denied hm h48]
  split
  · exact h.setupWrite_denied hm val _
  · rfl

/-! ### Setup registers without behaviour of their own -/

theorem absent_of_no_object (h : objectOf off = none) : s.absent off = false := by rw [State.absent, h]

theorem registerWrite_window (hp : p < 4) (hal : off % 4 = 0) (hlt : off < 0x200000) (hlock : isLock off = false) (hrwp : isRwp off = false)
    (h404 : off ≠ 0x404) (hwake : off ≠ 0xF0034) (hnudge : off ≠ 0x10010) (val : Nat) :
    exec (.registerWrite p off val) s = .next (s.windowWrite p off (val % 2 ^ 32)) := by
  refine congrArg Host.Outcome.next ?_
  rw [if_neg (by omega), if_neg (by omega), hlock, hrwp, if_neg h404, if_neg hwake, if_neg hnudge]
  rfl

/-- PDK_EVT_BLOCK_MASK, HAY_CFG, and GLB_GPIO_SET or GLB_GPIO_CLEAR. -/
def blockMaskRow : RegRow := ⟨0x10018, none, 0, 1, [⟨0, 17, 131071, .rw, .dp, .any⟩]⟩
def hayCfgRow : RegRow := ⟨0xE0008, none, 0, 1, [⟨16, 5, 7, .rw, .k, .range 1 30 1⟩, ⟨0, 3, 1, .rw, .k, .range 0 4 1⟩]⟩
def gpioWriteRow (off : Nat) : RegRow := ⟨off, none, 0, 1, [⟨0, 32, 0, .wo, .n, .any⟩]⟩

theorem setupRows : regRowAt 0x10018 = some blockMaskRow ∧ regRowAt 0xE0008 = some hayCfgRow ∧ regRowAt 0x68 = some (gpioWriteRow 0x68) ∧
    regRowAt 0x6C = some (gpioWriteRow 0x6C) := by decide +kernel

theorem blockMask_taken (hp : p < 4) (hpower : s.domainOn 4 = true) :
    (s.windowWrite p 0x10018 val).get (F.PDK_EVT_BLOCK_MASK p) = val % 2 ^ 32 % 2 ^ 17 := by
  have h : Reaches s 0x10018 blockMaskRow := ⟨hpower, absent_of_no_object rfl, setupRows.1, hpower, by decide⟩
  have hplain : s.windowWrite p 0x10018 val = s.plainWrite p 0x10018 val := by simp [State.windowWrite, State.pdkWrite]
  have hfld : ∀ q < 4, (⟨0, 17, 131071, .rw, .dp, .any⟩ : FieldRow).fld (blockMaskRow.baseOf (keyOff q 0x10018)) =
      F.PDK_EVT_BLOCK_MASK q := by decide
  rw [hplain, State.plainWrite, h.setupWrite_taken (by simp [State.mayWrite, setupRight]) rfl _ rfl]
  change (s.set (FieldRow.fld _ _) _).get _ = _
  rw [hfld p hp, get_set_self]
  simp [mergeHalf, blockMaskRow, F.PDK_EVT_BLOCK_MASK]

theorem minSeverity_taken (hpower : s.domainOn 4 = true) (hdomain : s.domainOn 5 = true) (hright : s.hasRight p 2 = true) {days sev : Nat}
    (h1 : 1 ≤ days) (h30 : days ≤ 30) (h4 : sev ≤ 4) :
    (s.windowWrite p 0xE0008 (days * 65536 + sev)).get F.HAY_CFG_MIN_SEVERITY = sev := by
  have h : Reaches s 0xE0008 hayCfgRow := ⟨hpower, absent_of_no_object rfl, setupRows.2.1, hdomain, by decide⟩
  have hw : (days * 65536 + sev) % 2 ^ 32 = days * 65536 + sev := Nat.mod_eq_of_lt (by omega)
  have hdays : (days * 65536 + sev) / 65536 % 32 = days := by omega
  have hsev : (days * 65536 + sev) % 8 = sev := by omega
  have hallowed : rowAllowed hayCfgRow (days * 65536 + sev) = true := by
    simp [rowAllowed, hayCfgRow, Allowed.ok, hdays, hsev, h1, h30, h4, Nat.mod_one]
  have hplain : s.windowWrite p 0xE0008 (days * 65536 + sev) = s.plainWrite p 0xE0008 (days * 65536 + sev) := by simp [State.windowWrite]
  rw [hplain, State.plainWrite, h.setupWrite_taken (by simpa [State.mayWrite, setupRight] using hright) rfl _
    (by rw [mergeHalf]; dsimp only [hayCfgRow]; rw [hw]; exact hallowed), State.writeFields]
  have hfld : (⟨0, 3, 1, .rw, .k, .range 0 4 1⟩ : FieldRow).fld (hayCfgRow.baseOf (keyOff p 0xE0008)) = F.HAY_CFG_MIN_SEVERITY := by
    simp [keyOff, RegRow.baseOf, RegRow.isHi, hayCfgRow, FieldRow.fld, F.HAY_CFG_MIN_SEVERITY]
  rw [show hayCfgRow.fields = [⟨16, 5, 7, .rw, .k, .range 1 30 1⟩, ⟨0, 3, 1, .rw, .k, .range 0 4 1⟩] from rfl, List.foldl_cons,
    List.foldl_cons, List.foldl_nil]
  dsimp only
  rw [hfld, get_set_self, show mergeHalf hayCfgRow 0xE0008 _ (days * 65536 + sev) = (days * 65536 + sev) % 2 ^ 32 from rfl, hw]
  simp [F.HAY_CFG_MIN_SEVERITY]
  omega

/-- GLB_GPIO_SET and GLB_GPIO_CLEAR hold no value of their own. -/
theorem gpioWrite_taken (hoff : off = 0x68 ∨ off = 0x6C) (hpower : s.domainOn 4 = true) (hright : s.hasRight p 2 = true)
    (f : RegRow → Nat → Nat → State → State) : ∃ base w, s.setupWrite p off val f = f (gpioWriteRow off) base w s := by
  have hrow : regRowAt off = some (gpioWriteRow off) := by
    rcases hoff with rfl | rfl
    · exact setupRows.2.2.1
    · exact setupRows.2.2.2
  have hobj : objectOf off = none ∧ domainOf off = 4 ∧ off < 0x200000 ∧ setupRight (off % 0x200000 / 0x10000) = some 2 := by
    rcases hoff with rfl | rfl <;> decide
  obtain ⟨hobj, hdom, hlt, hsetup⟩ := hobj
  have h : Reaches s off (gpioWriteRow off) := ⟨hpower, absent_of_no_object hobj, hrow, hdom ▸ hpower, hlt⟩
  exact ⟨_, _, h.setupWrite_taken (by rw [State.mayWrite, hsetup]; exact hright) rfl f rfl⟩

/-! ### Locks -/

/-- The row of a LOCK register. -/
def lockRow (f : Fld) : RegRow := ⟨f.off, none, 0, 1, [⟨0, 1, 0, .rw, .d, .any⟩]⟩

theorem lockFld_lt {w : Nat} {f : Fld} (h : lockFld w = some f) : w < 17 := by
  rcases Nat.lt_or_ge w 17 with hlt | hge
  · exact hlt
  · have hnone : lockFld w = none := by
      unfold lockFld
      split
      any_goals omega
      rfl
    rw [hnone] at h
    cases h

/-- Where the LOCK registers stand. -/
theorem lockFld_place : ∀ w < 17, ∀ f ∈ (lockFld w).toList, isLock f.off = true ∧ objectOf f.off = none ∧ regRowAt f.off = some (lockRow f) ∧
    domainOf f.off = domainOf (w * 0x10000) ∧ f.off % 0x200000 / 0x10000 = w ∧ (∀ p < 4, keyOff p f.off = f.off) ∧ f.off < 0x200000 ∧
    (⟨0, 1, 0, .rw, .d, .any⟩ : FieldRow).fld f.off = f ∧ f.w = 1 ∧ f.win % 256 ≠ 1 ∧ f.key ≠ F.PWR_DOMAINS.key := by
  decide +kernel

theorem lockRow_taken (f : Fld) (v : Nat) : rowAllowed (lockRow f) v = true := by simp [rowAllowed, lockRow, Allowed.ok]

/-- By a paddock with the window's right, a write of 1 to a LOCK register sets it and a write of 0 does nothing. -/
theorem lockWrite_spec {w right : Nat} {f : Fld} (hp : p < 4) (hf : lockFld w = some f) (hright : setupRight w = some right)
    (hpower : s.domainOn 4 = true) (hdomain : s.domainOn (domainOf (w * 0x10000)) = true) (hmay : s.hasRight p right = true) :
    isLock f.off = true ∧ s.lockWrite p f.off 1 = s.set f 1 ∧ s.lockWrite p f.off 0 = s := by
  obtain ⟨hlock, hobj, hrow, hdom, hwin, hkey, hlt, hfld, -⟩ := lockFld_place w (lockFld_lt hf) f (by simp [hf])
  have h : Reaches s f.off (lockRow f) := ⟨hpower, absent_of_no_object hobj, hrow, by rw [hdom]; exact hdomain, hlt⟩
  have hm : s.mayWrite p f.off = true := by rw [State.mayWrite, hwin, hright]; exact hmay
  refine ⟨hlock, ?_, ?_⟩
  · rw [State.lockWrite, h.setupWrite_taken hm rfl _ (lockRow_taken f _)]
    change s.set ((⟨0, 1, 0, .rw, .d, .any⟩ : FieldRow).fld (keyOff p f.off)) 1 = s.set f 1
    rw [hkey p hp, hfld]
  · rw [State.lockWrite, h.setupWrite_taken hm rfl _ (lockRow_taken f _)]
    rfl

/-- One window's turn of GLB_LOCK_ALL. -/
def lockTurn (p : Nat) (s : State) (w : Nat) : State :=
  match lockFld w, setupRight w with
  | some f, some right => if s.domainOn (domainOf (w * 0x10000)) && s.hasRight p right then s.setB f true else s
  | _, _ => s

theorem lockTurn_cases (p : Nat) (s : State) (w : Nat) : lockTurn p s w = s ∨ ∃ f, lockFld w = some f ∧ lockTurn p s w = s.setB f true := by
  unfold lockTurn
  split
  next f right hf hright =>
    split
    · exact .inr ⟨f, hf, rfl⟩
    · exact .inl rfl
  next => exact .inl rfl

theorem setB_lock_domainOn {w : Nat} {f : Fld} (hf : lockFld w = some f) (d : Nat) : (s.setB f true).domainOn d = s.domainOn d := by
  obtain ⟨-, -, -, -, -, -, -, -, -, -, hkey⟩ := lockFld_place w (lockFld_lt hf) f (by simp [hf])
  rw [State.domainOn, State.setB, get_set_ne s _ hkey.symm]
  rfl

theorem setB_lock_hasRight {w : Nat} {f : Fld} (hf : lockFld w = some f) (b : Nat) : (s.setB f true).hasRight p b = s.hasRight p b := by
  obtain ⟨-, -, -, -, -, -, -, -, -, hwin, -⟩ := lockFld_place w (lockFld_lt hf) f (by simp [hf])
  have hget : ∀ g : Fld, g.win % 256 = 1 → (s.setB f true).flag g = s.flag g := fun g hg => by
    rw [State.flag, State.setB, get_set_ne s _ (key_ne_win (by omega)), State.flag]
  unfold State.hasRight
  split
  case h_6 => rfl
  all_goals exact hget _ rfl

theorem get_key_eq {f g : Fld} (h : g.key = f.key) : s.get g = s.get f := by rw [State.get, h, State.get]

theorem lockTurn_locked (w v : Nat) (h : s.locked v = true) : (lockTurn p s w).locked v = true := by
  obtain he | ⟨f, hf, he⟩ := lockTurn_cases p s w
  · rwa [he]
  · rw [he]
    unfold State.locked at h ⊢
    split at h
    next g hg =>
      by_cases hkey : g.key = f.key
      · obtain ⟨-, -, -, -, -, -, -, -, hone, -⟩ := lockFld_place w (lockFld_lt hf) f (by simp [hf])
        rw [State.flag, get_key_eq hkey, ← State.flag]
        exact flag_setB_true s f hone
      · rwa [State.flag, State.setB, get_set_ne s _ hkey, ← State.flag]
    next => exact h

theorem lockAll_locked {w right : Nat} {f : Fld} (hf : lockFld w = some f) (hright : setupRight w = some right)
    (hdomain : s.domainOn (domainOf (w * 0x10000)) = true) (hmay : s.hasRight p right = true) : (s.lockAll p).locked w = true := by
  suffices h : ∀ (l : List Nat) (u : State), u.domainOn (domainOf (w * 0x10000)) = true → u.hasRight p right = true →
      (w ∈ l ∨ u.locked w = true) → (l.foldl (lockTurn p) u).locked w = true from
    h (List.range 17) s hdomain hmay (.inl (List.mem_range.mpr (lockFld_lt hf)))
  intro l
  induction l with
  | nil => exact fun u _ _ hu => hu.resolve_left List.not_mem_nil
  | cons x l ih =>
    intro u hu hr hx
    refine ih _ ?_ ?_ ?_
    · obtain he | ⟨g, hg, he⟩ := lockTurn_cases p u x
      · rwa [he]
      · rwa [he, setB_lock_domainOn hg]
    · obtain he | ⟨g, hg, he⟩ := lockTurn_cases p u x
      · rwa [he]
      · rwa [he, setB_lock_hasRight hg]
    · rcases hx with hx | hx
      · rcases List.mem_cons.mp hx with rfl | hx
        · refine .inr ?_
          obtain ⟨-, -, -, -, -, -, -, -, hone, -⟩ := lockFld_place w (lockFld_lt hf) f (by simp [hf])
          rw [lockTurn, hf, hright]
          dsimp only
          rw [hu, hr, State.locked, hf]
          exact flag_setB_true u f hone
        · exact .inl hx
      · exact .inr (lockTurn_locked x w hx)

end Sys2Proof.CommandLaws

namespace Sys2Proof

open Sys2Proof.Machine Sys2Proof.Laws Sys2Proof.PaddockLaws Sys2Proof.CommandLaws

/-- Settles O54: every window's writes meet the check of rights first. -/
theorem setupWriteRights : Obligations.SetupWriteRights := by
  intro s p off val r hp hlt hal hpower hdomain hpresent hrow hrwp hmay h48 h404 hwake
  have h : Reaches s off r := ⟨hpower, hpresent, hrow, hdomain, hlt⟩
  exact ⟨_, h.registerWrite_denied hp hal hmay hrwp h48 h404 hwake val, deny_offset hlt, deny_valid, fun f h1 h14 => deny_get h1 h14⟩

/-- Settles O55, register by register. -/
theorem setupWriteTakes : Obligations.SetupWriteTakes := by
  intro s p val hp hval hpower
  refine ⟨⟨_, registerWrite_window hp rfl (by decide) (by decide +kernel) (by decide +kernel) (by decide) (by decide) (by decide) val, ?_⟩, ?_, ?_⟩
  · rw [blockMask_taken hp hpower, Nat.mod_mod, Nat.mod_eq_of_lt hval]
  · intro hdomain hright days sev h1 h30 h4
    refine ⟨_, registerWrite_window hp rfl (by decide) (by decide +kernel) (by decide +kernel) (by decide) (by decide) (by decide) _, ?_⟩
    rw [Nat.mod_eq_of_lt (by omega)]
    exact minSeverity_taken hpower hdomain hright h1 h30 h4
  · intro hright
    have hn : ¬ 3 < p := by omega
    refine ⟨⟨_, congrArg Host.Outcome.next (if_neg hn), ?_⟩, ⟨_, congrArg Host.Outcome.next (if_neg hn), ?_⟩⟩
    · obtain ⟨base, w, hset⟩ := gpioWrite_taken (val := val) (.inl rfl) hpower hright fun _ _ _ s =>
        s.set F.GLB_GPIO_OUT (s.get F.GLB_GPIO_OUT ||| val % 2 ^ 32)
      rw [show s.glbWrite p 0x68 val = _ from hset, get_set_self, Nat.mod_eq_of_lt hval]
      rfl
    · obtain ⟨base, w, hset⟩ := gpioWrite_taken (val := val) (.inr rfl) hpower hright fun _ _ _ s =>
        s.set F.GLB_GPIO_OUT (s.get F.GLB_GPIO_OUT - (s.get F.GLB_GPIO_OUT &&& val % 2 ^ 32))
      rw [show s.glbWrite p 0x6C val = _ from hset, get_set_self, Nat.mod_eq_of_lt hval]
      rfl

/-- Settles O56: a LOCK register has one field, which only the windows' own turns of GLB_LOCK_ALL write besides. -/
theorem locks : Obligations.Locks := by
  intro s p w right f hp hf hright hpower hdomain hmay
  obtain ⟨hlock, hone, hzero⟩ := lockWrite_spec hp hf hright hpower hdomain hmay
  have hc : ¬(3 < p ∨ isLock f.off = false) := by simp [hlock]; omega
  refine ⟨⟨_, congrArg Host.Outcome.next (if_neg hc), ?_⟩, ⟨_, congrArg Host.Outcome.next (if_neg hc), ?_⟩, fun hany => ⟨_, rfl, ?_⟩⟩
  · obtain ⟨-, -, -, -, -, -, -, -, hw, -⟩ := lockFld_place w (lockFld_lt hf) f (by simp [hf])
    rw [hone, State.locked, hf]
    exact flag_setB_true s f hw
  · rw [hzero]
    exact fun _ _ _ => rfl
  · rw [State.lockAllWrite, if_neg (by simp [hpower]; omega), if_neg (by simp [hany]), if_pos (by decide)]
    exact lockAll_locked hf hright hdomain hmay

/-- Settles O58: the shadow is what the read of the low half kept, and the read of the high half drops it. -/
theorem wideRead : Obligations.WideRead := by
  intro s p off h r hp hlen hlt hal hpower hdomain hrow hhi hle hlo
  have hp3 : ¬(3 < p ∨ s.domainOn 4 = false) := by simp [hpower]; omega
  refine ⟨⟨_, rfl, ?_⟩, fun v hrow' hhigh hlt' hal' hdomain' hshadow => ⟨_, rfl, ?_⟩⟩
  · rw [if_neg hp3, if_neg (by omega), if_neg (by simp [hdomain]), hrow]
    dsimp only
    rw [hhi]
    dsimp only
    rw [if_neg (by simp [hlo])]
    refine ⟨rfl, ?_, fun q hq hne => getD_modAt_ne _ _ _ _ _ hne⟩
    dsimp only [State.emit, State.pd, State.modPd]
    rw [getD_modAt_self _ _ _ _ (by omega)]
    exact List.mem_append_right _ (List.mem_map_of_mem (List.mem_cons_self ..))
  · rw [if_neg hp3, if_neg (by omega), if_neg (by simp [hdomain']), hrow']
    dsimp only
    rw [hhi]
    dsimp only
    rw [if_pos hhigh, State.readHi, hshadow]
    refine ⟨rfl, ?_⟩
    dsimp only [State.emit, State.pd, State.modPd]
    rw [getD_modAt_self _ _ _ _ (by omega)]
    exact fun x hx => of_decide_eq_true (List.mem_filter.mp hx).2

end Sys2Proof
end

section
/-!
PROOFS. Requests, policies, limits and throttles of the Yardmaster (O25).
-/
set_option Elab.async false -- the kernel evaluations wait for each other: keep them in one thread
namespace Sys2Proof.CommandLaws

open Sys2Proof.Machine Sys2Proof.Laws Sys2Proof.PaddockLaws

variable {s t u : State} {p tag op n : Nat} {d : Desc}

/-! ### Completions with a buffer -/

theorem Quiet.bufWrite (h : Quiet s t) (p : Nat) (d : Desc) (bytes : List Nat) : Quiet s (t.bufWrite p d bytes) := by
  unfold State.bufWrite
  split
  · exact h.emit _
  · exact h

/-- A descriptor in flight that finishes with bytes for its buffer is answered with their number. -/
theorem InFlight.finishBuf {num : Nat} (h : InFlight t p num d) (hnum : d.num = num) (hs : s.out <+: t.out) (bytes : List Nat) :
    s.Ended (t.finishBuf p d bytes) p d.tag (if bytes.length ≤ d.length then 0x00 else 0x01) (bytes.length % 2 ^ 32) := by
  subst hnum
  unfold State.finishBuf
  extract_lets wr w
  have hq : Quiet t w := by
    unfold w
    split
    · exact (Quiet.refl t).bufWrite p d bytes
    · exact Quiet.refl t
  exact (h.quiet hq).answered (hs.trans hq.out)

/-! ### ALLOC_QUERY -/

theorem queryStall_length (s : State) (fz : Frozen) (n : Nat) : (s.queryStall fz n).length = 16 := by
  unfold State.queryStall
  split
  · exact List.length_replicate
  · split
    · exact List.length_replicate
    · simp

theorem queryNode_length (s : State) (fz : Frozen) (i : Nat) : (s.queryNode fz i).length = 16 := by
  unfold State.queryNode
  split
  · exact List.length_replicate
  · simp

theorem length_flatten_map {α β : Type} {l : List α} {f : α → List β} {k : Nat} (h : ∀ a, (f a).length = k) :
    (l.map f).flatten.length = l.length * k := by
  induction l with
  | nil => exact (Nat.zero_mul k).symm
  | cons a l ih => rw [List.map_cons, List.flatten_cons, List.length_append, h, ih, List.length_cons, Nat.succ_mul, Nat.add_comm]

theorem queryBytes_length (s : State) : s.queryBytes.length = 2336 := by
  unfold State.queryBytes
  simp only [List.length_append, le_length, List.length_cons, List.length_nil, List.length_replicate,
    length_flatten_map fun n => queryStall_length s _ n, length_flatten_map fun i => queryNode_length s _ i, List.length_range]

/-! ### STALL_POLICY -/

/-- The policy registers show what the host set. -/
theorem refreshPolicy_get {tier weight : Nat} (hn : (s.stallNode? n).isSome = true)
    (ht : (s.yms.policy.getD n Policy.init).tier = some tier) (hw : (s.yms.policy.getD n Policy.init).weight = some weight) :
    (s.refreshPolicy n).get (F.YMS_Sn_POLICY0_TIER n) = tier % 4 ∧ (s.refreshPolicy n).get (F.YMS_Sn_POLICY0_WEIGHT n) = weight % 256 := by
  obtain ⟨i, hi⟩ := Option.isSome_iff_exists.mp hn
  obtain ⟨nd, hnd⟩ : ∃ nd, s.treeNodes[i]? = some nd := by
    rw [State.stallNode?, List.findIdx?_eq_some_iff_getElem] at hi
    obtain ⟨hlt, -⟩ := hi
    exact ⟨_, List.getElem?_eq_getElem hlt⟩
  unfold State.refreshPolicy
  rw [hi]
  dsimp only
  rw [hnd]
  dsimp only
  rw [ht, hw]
  have hfar : ∀ k : Nat, (0x1008 + 0x20 * k) % 0x10000 ≠ (0x100C + 0x20 * k) % 0x10000 := fun k => by omega
  constructor
  · rw [get_set_ne _ _ (key_ne_reg (hfar n)), get_set_ne _ _ (key_ne_reg (hfar n)), get_set_lo _ rfl, get_set_lo _ rfl]
    exact get_set_self _ (F.YMS_Sn_POLICY0_TIER n) tier
  · rw [get_set_ne _ _ (key_ne_reg (hfar n)), get_set_ne _ _ (key_ne_reg (hfar n)), get_set_lo _ rfl]
    exact get_set_self _ (F.YMS_Sn_POLICY0_WEIGHT n) weight

theorem leVal_lt : ∀ l : List Nat, leVal l < 256 ^ l.length
  | [] => Nat.one_pos
  | b :: l => by
    have ih := leVal_lt l
    rw [leVal, List.length_cons, Nat.pow_succ]
    omega

theorem arg_lt (d : Desc) (i n : Nat) : d.arg i n < 256 ^ n :=
  Nat.lt_of_lt_of_le (leVal_lt _) (Nat.pow_le_pow_right (by decide) (List.length_take_le _ _))

/-- What STALL_POLICY asks for. -/
def policyChange (d : Desc) : PolicyChange :=
  let sets := fun (unchanged : Nat) (v : Nat) => if v = unchanged then none else some (some v)
  { tier := sets 0xFF (d.arg 24 1), weight := sets 0 (d.arg 25 1), floor := sets 0xFFFF (d.arg 26 2), cap := sets 0xFFFF (d.arg 28 2)
    rampUp := if d.arg 30 2 = 0 then some none else sets 0xFFFF (d.arg 30 2) }

/-- The policy that STALL_POLICY leaves. -/
def policySet (s : State) (d : Desc) : State :=
  (s.modYms fun y => { y with
    policy := modAt y.policy d.target fun _ => (policyChange d).on (s.yms.policy.getD d.target Policy.init) }).refreshPolicy d.target

theorem policySet_get (hn : (s.stallNode? d.target).isSome = true) (hlen : d.target < s.yms.policy.length) (htier : d.arg 24 1 < 4)
    (hweight : 1 ≤ d.arg 25 1) :
    (policySet s d).get (F.YMS_Sn_POLICY0_TIER d.target) = d.arg 24 1 ∧
      (policySet s d).get (F.YMS_Sn_POLICY0_WEIGHT d.target) = d.arg 25 1 := by
  have hpol : ∀ q, ((modAt s.yms.policy d.target fun _ => q).getD d.target Policy.init) = q := fun q => getD_modAt_self _ _ _ _ hlen
  obtain ⟨ht, hw⟩ := refreshPolicy_get
    (s := s.modYms fun y => { y with
      policy := modAt y.policy d.target fun _ => (policyChange d).on (s.yms.policy.getD d.target Policy.init) })
    (n := d.target) (tier := d.arg 24 1) (weight := d.arg 25 1) hn
    (by
      change ((modAt s.yms.policy d.target _).getD d.target _).tier = _
      rw [hpol]
      simp [PolicyChange.on, policyChange, show d.arg 24 1 ≠ 255 by omega])
    (by
      change ((modAt s.yms.policy d.target _).getD d.target _).weight = _
      rw [hpol]
      simp [PolicyChange.on, policyChange, show d.arg 25 1 ≠ 0 by omega])
  exact ⟨ht.trans (Nat.mod_eq_of_lt htier), hw.trans (Nat.mod_eq_of_lt (arg_lt d 25 1))⟩

/-! ### THROTTLE_GRACE_EXPIRY -/

/-- The end of a grace time that was satisfied leaves ENFORCED as it was, the end of another sets it. -/
theorem graceEnd_spec (hlen : n < s.yms.throttle.length) (henf : s.flag (F.YMS_Sn_THROTTLE_ENFORCED n) = false) :
    let u := s.modYms fun y => { y with throttle := modAt y.throttle n fun t => { t with grace := false } }
    let t := if (s.yms.throttle.getD n Throttle.init).satisfied = true then u else u.enforce n
    (t.yms.throttle.getD n Throttle.init).grace = false ∧
      t.flag (F.YMS_Sn_THROTTLE_ENFORCED n) = !(s.yms.throttle.getD n Throttle.init).satisfied := by
  intro u
  have hu : (u.yms.throttle.getD n Throttle.init).grace = false := by
    change ((modAt s.yms.throttle n _).getD n _).grace = false
    rw [getD_modAt_self _ _ _ _ hlen]
  cases (s.yms.throttle.getD n Throttle.init).satisfied with
  | true => exact ⟨hu, henf⟩
  | false =>
    refine ⟨?_, ?_⟩
    · change ((State.raise _ _ _ _ _).yms.throttle.getD n _).grace = false
      rw [(raise_within _ _ _ _ _).yms rfl]
      exact hu
    · change (State.raise _ _ _ _ _).flag _ = true
      rw [State.flag, get_raise _ _ _ _ rfl]
      exact flag_setB_true u _ rfl

end Sys2Proof.CommandLaws

namespace Sys2Proof

open Sys2Proof.Machine Sys2Proof.Laws Sys2Proof.CommandLaws

/-- Settles O25, command by command. -/
theorem policyAndThrottle : Obligations.PolicyAndThrottle := by
  intro s
  refine ⟨fun n act dis i v hn hreq hi hv => ⟨_, rfl, ?_⟩, fun p tag d h => ⟨fun hnode => ?_, fun hnode hlen htier hweight => ?_⟩,
    fun p tag d h => ⟨fun hout => ?_, fun nd hnd => ⟨fun hkind h0 hff => ?_, fun h0 hlen himp hexp => ?_⟩⟩, fun p tag d h => ?_,
    fun n hlen hn hgrace henf => ⟨_, rfl, ?_⟩⟩
  · rw [if_neg (by simp [State.hasStall, hn]), (droSlot_within _ _).yms rfl]
    change (modAt s.yms.req n _).getD n Req.none = _
    rw [getD_modAt_self _ _ _ _ hreq, Nat.mod_eq_of_lt hi, Nat.mod_eq_of_lt hv]
  · have hexec : exec (.stallPolicy p tag) s = execStallPolicy p tag s := rfl
    rw [hexec, execStallPolicy, ready_take h _ (by decide)]
    refine ⟨_, rfl, ?_⟩
    dsimp only
    rw [show (taken s p d).stallNode? d.target = none from hnode]
    exact ready_answered h (ready_inFlight h) (List.prefix_refl _) 0x40 0
  · have hexec : exec (.stallPolicy p tag) s = execStallPolicy p tag s := rfl
    rw [hexec, execStallPolicy, ready_take h _ (by decide)]
    refine ⟨_, rfl, ?_⟩
    dsimp only
    obtain ⟨i, hi⟩ := Option.isSome_iff_exists.mp hnode
    rw [show (taken s p d).stallNode? d.target = some i from hi]
    dsimp only
    obtain ⟨htier', hweight'⟩ := policySet_get (s := taken s p d) (d := takenDesc d) hnode hlen htier hweight
    exact ⟨htier', hweight', _, List.mem_append_right _ (List.mem_singleton_self _), rfl, rfl, rfl, rfl, rfl⟩
  · have hexec : exec (.nodeLimit p tag) s = execNodeLimit p tag s := rfl
    rw [hexec, execNodeLimit, ready_take h _ (by decide)]
    refine ⟨_, rfl, ?_⟩
    dsimp only
    rw [show (taken s p d).treeNodes[d.target]? = none from List.getElem?_eq_none hout]
    exact ready_answered h (ready_inFlight h) (List.prefix_refl _) 0x04 0
  · have hexec : exec (.nodeLimit p tag) s = execNodeLimit p tag s := rfl
    rw [hexec, execNodeLimit, ready_take h _ (by decide)]
    refine ⟨_, rfl, ?_⟩
    dsimp only
    rw [show (taken s p d).treeNodes[d.target]? = some nd from hnd]
    dsimp only
    rw [if_pos (show nd.kind ≠ 3 ∧ (takenDesc d).arg 32 2 ≠ 0 ∧ (takenDesc d).arg 32 2 ≠ 0xFFFF from ⟨hkind, h0, hff⟩)]
    exact ready_answered h (ready_inFlight h) (List.prefix_refl _) 0x41 0
  · have hexec : exec (.nodeLimit p tag) s = execNodeLimit p tag s := rfl
    rw [hexec, execNodeLimit, ready_take h _ (by decide)]
    refine ⟨_, rfl, ?_⟩
    dsimp only
    rw [show (taken s p d).treeNodes[d.target]? = some nd from hnd]
    dsimp only
    rw [if_neg (show ¬(nd.kind ≠ 3 ∧ (takenDesc d).arg 32 2 ≠ 0 ∧ (takenDesc d).arg 32 2 ≠ 0xFFFF) from fun hc => hc.2.1 h0)]
    refine ⟨?_, _, List.mem_append_right _ (List.mem_singleton_self _), rfl, rfl, rfl, ?_⟩
    · change (modAt s.yms.lims d.target _).getD d.target _ = _
      rw [getD_modAt_self _ _ _ _ hlen, limitOf, limitOf, if_neg (show (takenDesc d).arg 24 4 ≠ _ from himp),
        if_pos (show (takenDesc d).arg 28 4 = _ from hexp), if_pos (.inr (.inl (show (takenDesc d).arg 32 2 = 0 from h0)))]
      rfl
    · rw [if_pos (.inr (.inl (show (takenDesc d).arg 32 2 = 0 from h0)))]
      simp [show (takenDesc d).arg 24 4 = d.arg 24 4 from rfl, show (takenDesc d).arg 28 4 = d.arg 28 4 from rfl, himp, hexp]
  · have hexec : exec (.allocQuery p tag) s = execAllocQuery p tag s := rfl
    rw [hexec, execAllocQuery, ready_take h _ (by decide)]
    refine ⟨_, rfl, ?_⟩
    have hend := (ready_inFlight h).finishBuf (s := s) rfl (List.prefix_refl _) (taken s p d).queryBytes
    rw [queryBytes_length] at hend
    rwa [show (takenDesc d).tag = tag from (ready_tag h :)] at hend
  · rw [if_neg (by omega), if_pos hgrace]
    exact graceEnd_spec hlen henf

end Sys2Proof
end

section
/-!
PROOFS. The opcodes of the Drover (O37): stopping and querying sessions, tunnel messages, lookups and the merge of the allow list.
-/
set_option Elab.async false -- the kernel evaluations wait for each other: keep them in one thread
namespace Sys2Proof.CommandLaws

open Sys2Proof.Machine Sys2Proof.Laws Sys2Proof.PaddockLaws

variable {s t u : State} {p tag op num n i : Nat} {d : Desc}

/-! ### Taking a descriptor of the Drover -/

/-- The state with `d` taken by the Drover, which also notes how long it waited (R344). -/
abbrev takenDro (s : State) (p : Nat) (d : Desc) : State := (taken s p d).resided d.at_

theorem ready_takeDro (h : s.Ready p tag op d) (f : Desc → State → State) (hop : op / 256 = 7) :
    s.take p tag op f = f (takenDesc d) (takenDro s p d) := by
  have hb : d.block = 7 := by rw [Desc.block, h.2.1]; exact hop
  rw [take_ready h, takenState, if_pos hb]
  rfl

theorem ready_inFlightDro (h : s.Ready p tag op d) : InFlight (takenDro s p d) p d.num (takenDesc d) :=
  (ready_inFlight h).quiet ((Quiet.refl _).set F.DRO_QRES_MAX _)

theorem takenDro_out (s : State) (p : Nat) (d : Desc) : s.out <+: (takenDro s p d).out := List.prefix_refl _

/-! ### The session record -/

theorem sessionRecord_length (s : State) (i : Nat) : (s.sessionRecord i).length = 256 := by
  unfold State.sessionRecord
  simp

/-! ### The end of a session -/

/-- What every turn of a fold keeps, the fold keeps. -/
theorem foldl_view {α β : Type} (g : State → β) {f : State → α → State} (hf : ∀ x a, g (f x a) = g x) (l : List α) (s : State) :
    g (l.foldl f s) = g s :=
  List.foldlRecOn l f (motive := fun x => g x = g s) rfl fun x hx a _ => (hf x a).trans hx

theorem ctx_modCtx_self (f : Ctx → Ctx) (h : i < s.dro.ctxs.length) : (s.modCtx i f).ctx i = f (s.ctx i) := getD_modAt_self _ _ _ _ h

theorem ctx_congr (h : t.dro.ctxs = s.dro.ctxs) (i : Nat) : t.ctx i = s.ctx i := by rw [State.ctx, h, State.ctx]

theorem ctx_within {m : Nat} (h : Within m s t) (hm : m.testBit 17 = false) (i : Nat) : t.ctx i = s.ctx i :=
  ctx_congr (by rw [h.dro hm]) i

theorem leafLost_ctxs (s : State) (h : Nat) : (s.leafLost h).dro.ctxs = s.dro.ctxs := by
  unfold State.leafLost
  split
  · rfl
  · rw [(raise_within _ _ _ _ _).dro rfl]
    rfl

theorem lookOp_ctxs (s : State) (p num : Nat) (uncorr : Bool) : (s.lookOp p num uncorr).dro.ctxs = s.dro.ctxs := by
  unfold State.lookOp
  split
  · rfl
  · extract_lets len hash r u res wr w
    have hu : u.dro.ctxs = s.dro.ctxs := by
      unfold u r State.lookupNow
      dsimp only
      split
      · exact leafLost_ctxs s _
      · rfl
    have hw : w.dro.ctxs = u.dro.ctxs := by
      unfold w State.bufWrite
      split
      · split <;> rfl
      · rfl
    rw [(finish_within _ _ _ _ _ _).dro rfl, hw, hu]

theorem lookServe_ctxs (l : List Look) : ∀ (s : State) (run : List Look), (s.lookServe run l).2.dro.ctxs = s.dro.ctxs := by
  induction l with
  | nil => exact fun _ _ => rfl
  | cons x l ih =>
    intro s run
    cases x with
    | ctx i => rw [State.lookServe]; split <;> exact ih s _
    | op p num u =>
      rw [State.lookServe]
      split
      · rw [ih, lookOp_ctxs]
      · exact ih s _

theorem lookPlaces_ctxs (s : State) : s.lookPlaces.dro.ctxs = s.dro.ctxs := lookServe_ctxs _ s []

/-- LINGER keeps the close cause. -/
theorem toLinger_ctx (hi : i < s.dro.ctxs.length) : ((s.toLinger i).ctx i).state = 6 ∧ ((s.toLinger i).ctx i).cause = (s.ctx i).cause := by
  have hfin : ∀ (x : State) (p num st r : Nat), (x.finish p num st r).dro.ctxs = x.dro.ctxs := fun x p num st r => by
    rw [(finish_within x p num st r false).dro rfl]
  unfold State.toLinger
  extract_lets c u v h w
  have hu : u.ctx i = _ := ctx_modCtx_self _ hi
  have hv : v.dro.ctxs = u.dro.ctxs := by unfold v; rw [(raise_within _ _ _ _ _).dro rfl]
  have hw : w.dro.ctxs = v.dro.ctxs := foldl_view (fun x => x.dro.ctxs) (fun x a => hfin x _ _ _ _) _ v
  rw [ctx_congr (((foldl_view (fun x => x.dro.ctxs) (fun x a => hfin x _ _ _ _) c.ctrls w).trans hw).trans hv) i, hu]
  exact ⟨rfl, rfl⟩

/-- The end of a live session that is not ENDING: ENDING or LINGER with this close cause. -/
theorem endCtx_ctx (hi : i < s.dro.ctxs.length) (hlive : (s.ctx i).live = true) (h5 : (s.ctx i).state ≠ 5) (cause msgId : Nat) :
    5 ≤ ((s.endCtx i cause msgId).ctx i).state ∧ ((s.endCtx i cause msgId).ctx i).cause = cause := by
  unfold State.endCtx
  extract_lets c n rest s1 s2 s3 s4 h s5 s6
  rw [if_neg (by simp [c, hlive, h5])]
  have h1 : (s1.ctx i).state = 5 ∧ (s1.ctx i).cause = cause := by
    rw [show s1.ctx i = _ from ctx_modCtx_self _ hi]
    exact ⟨rfl, rfl⟩
  have hlen : s1.dro.ctxs.length = s.dro.ctxs.length := length_modAt _ _ _
  have h2 : s2.dro.ctxs = s1.dro.ctxs := by
    unfold s2
    split
    · rw [(finish_within _ _ _ _ _ _).dro rfl]
    · rfl
  have h3 : s3.dro.ctxs = s2.dro.ctxs := by
    unfold s3
    split
    · rw [(raise_within _ _ _ _ _).dro rfl]
    · rfl
  have h4 : s4.dro.ctxs = s3.dro.ctxs := by unfold s4; split <;> rfl
  have h6 : s6.dro.ctxs = s1.dro.ctxs := by
    rw [show s6.dro.ctxs = s5.dro.ctxs from lookPlaces_ctxs s5, show s5.dro.ctxs = s4.dro.ctxs from rfl, h4, h3, h2]
  have hctx : s6.ctx i = s1.ctx i := ctx_congr h6 i
  split
  · rw [hctx, h1.1, h1.2]
    exact ⟨Nat.le_refl _, rfl⟩
  · obtain ⟨hstate, hcause⟩ := toLinger_ctx (s := s6) (i := i) (by rw [h6, hlen]; exact hi)
    rw [hstate, hcause, hctx, h1.2]
    exact ⟨by decide, rfl⟩

theorem byHandle_spec {h : Nat} (hb : s.byHandle h = some i) : i < s.variant.sessions ∧ i < 128 ∧ (s.ctx i).state ≠ 0 := by
  unfold State.byHandle at hb
  split at hb
  next hc =>
    obtain rfl := Option.some.inj hb
    exact ⟨hc.1, Nat.mod_lt _ (by decide), hc.2.2⟩
  next => cases hb

/-! ### ALLOW_LOOKUP -/

/-- Lookups of sessions hold their places or leave them; the state stays. -/
theorem lookServe_ctxOnly (l : List Look) (hl : (l.all fun x => match x with | .ctx _ => true | .op _ _ _ => false) = true) (m : List Look) :
    ∀ (s : State) (run : List Look), ∃ run', run'.length ≤ run.length + l.length ∧ s.lookServe run (l ++ m) = s.lookServe run' m := by
  induction l with
  | nil => exact fun s run => ⟨run, Nat.le_refl _, rfl⟩
  | cons x l ih =>
    intro s run
    rw [List.all_cons, Bool.and_eq_true] at hl
    cases x with
    | op p num u => exact absurd hl.1 Bool.false_ne_true
    | ctx i =>
      rw [List.cons_append, State.lookServe]
      split
      · obtain ⟨run', hlen, heq⟩ := ih hl.2 s (run ++ [.ctx i])
        exact ⟨run', by simp at hlen ⊢; omega, heq⟩
      · obtain ⟨run', hlen, heq⟩ := ih hl.2 s run
        exact ⟨run', by simp; omega, heq⟩

theorem lookup_outcome (s : State) (h : Nat) : (s.lookup h).1 ≤ 4 := by
  unfold State.lookup
  extract_lets overs cleared leaf lost old e today
  split
  · simp
  · cases e with
    | none => simp
    | some x =>
      dsimp only
      split
      · simp
      · split
        · simp
        · split <;> simp

theorem inFlight_descNum (h : InFlight s p num d) : s.descNum? p num = some d := by
  rw [State.descNum?, List.find?_append, h, Option.some_or]

/-- The state in which the taken ALLOW_LOOKUP asks for its place. -/
def lookAsked (s : State) (p : Nat) (d : Desc) : State :=
  (takenDro s p d).modDro fun x => { x with looks := s.dro.looks ++ [.op p d.num false] }

/-- The lookup of a descriptor in flight answers it with the outcome in bits 7:0. -/
theorem lookOp_answer (h : InFlight t p num d) (hs : s.out <+: t.out) :
    ∃ r, s.Ended (t.lookOp p num false) p d.tag 0x00 r ∧
      r % 256 = (t.lookup (beVal (if d.arg 25 1 = 0 then (d.param.drop 4).take 32
        else idHash (d.arg 24 1) ((d.param.drop 4).take (d.arg 25 1))))).1 := by
  unfold State.lookOp
  rw [inFlight_descNum h]
  dsimp -zeta only
  extract_lets len hash r u res wr w
  have hq : Quiet t w := by
    unfold w
    split
    · exact (Quiet.refl t).bufWrite p d _
    · exact Quiet.refl t
  refine ⟨_, (h.quiet hq).answered (hs.trans hq.out), ?_⟩
  have hle := lookup_outcome t (beVal hash)
  have hr : r.1 = t.lookup (beVal hash) := rfl
  change _ = (t.lookup (beVal hash)).1
  unfold res
  split
  · have hlow : ∀ a b c : Nat, a ≤ 4 → (a + 256 * b + 65536 * c) % 256 = a := fun a b c h => by omega
    rw [hr, Nat.mod_mod_of_dvd _ (by decide)]
    exact hlow _ _ _ hle
  · rw [hr, Nat.mod_mod_of_dvd _ (by decide)]
    exact Nat.mod_eq_of_lt (by omega)

/-! ### TUNNEL_SEND -/

theorem takenDro_tunnelMode (s : State) (p : Nat) (d : Desc) (n : Nat) :
    (takenDro s p d).flag (F.DRO_Sn_CFG_TUNNEL_MODE n) = s.flag (F.DRO_Sn_CFG_TUNNEL_MODE n) := by
  have hne : (F.DRO_Sn_CFG_TUNNEL_MODE n).reg % 0x10000 ≠ F.DRO_QRES_MAX.reg % 0x10000 := by
    simp only [F.DRO_Sn_CFG_TUNNEL_MODE, F.DRO_QRES_MAX]; omega
  rw [State.flag, takenDro, State.resided, get_set_ne _ _ (key_ne_reg hne)]
  rfl

/-- A KIND 0 message of an allowed length. -/
theorem tunnelLength_ok (h0 : d.arg 28 1 = 0) (h1 : 1 ≤ d.length) (h16 : d.length ≤ 16384) :
    ¬ if (takenDesc d).arg 28 1 = 2 then (takenDesc d).length ≠ 64 else (takenDesc d).length = 0 ∨ 16384 < (takenDesc d).length := by
  rw [if_neg (by rw [show (takenDesc d).arg 28 1 = 0 from h0]; decide)]
  change ¬(d.length = 0 ∨ 16384 < d.length)
  omega

theorem tunnelMode_iff {host : Bool} (h0 : d.arg 28 1 = 0) :
    (if (takenDesc d).arg 28 1 = 1 then host = true else host = false) ↔ host = false := by
  rw [if_neg (by rw [show (takenDesc d).arg 28 1 = 0 from h0]; decide)]

end Sys2Proof.CommandLaws

namespace Sys2Proof

open Sys2Proof.Machine Sys2Proof.Laws Sys2Proof.CommandLaws

/-- Settles O37, opcode by opcode. -/
theorem droverOpcodes : Obligations.DroverOpcodes := by
  intro s hlen
  refine ⟨fun p tag d h => ⟨fun hnone => ?_, fun i hi => ⟨fun h6 => ?_, fun h5 hstop => ?_⟩⟩, fun p tag d h => ⟨fun i hi => ?_, fun hff hnone => ?_⟩,
    fun p tag d data h => ⟨fun hbad => ?_, fun h0 h1 h16 => ⟨fun hmode => ?_, fun hmode => ?_⟩⟩, fun p tag d h hlooks hall => ?_,
    fun o hpower ho => ⟨fun hbusy hadm => ?_, fun hbusy hadm => ?_⟩⟩
  · have hexec : exec (.sessionStop p tag) s = execSessionStop p tag s := rfl
    rw [hexec, execSessionStop, ready_takeDro h _ rfl]
    refine ⟨_, rfl, ?_⟩
    rw [show (takenDro s p d).byHandle ((takenDesc d).arg 24 4) = none from hnone]
    exact ready_answered h (ready_inFlightDro h) (takenDro_out s p d) 0x40 0
  · have hexec : exec (.sessionStop p tag) s = execSessionStop p tag s := rfl
    rw [hexec, execSessionStop, ready_takeDro h _ rfl]
    refine ⟨_, rfl, ?_⟩
    rw [show (takenDro s p d).byHandle ((takenDesc d).arg 24 4) = some i from hi]
    dsimp only
    rw [show (takenDro s p d).ctx i = s.ctx i from rfl, if_pos (by simp [Ctx.live, h6])]
    exact ready_answered h (ready_inFlightDro h) (takenDro_out s p d) 0x00 _
  · have hexec : exec (.sessionStop p tag) s = execSessionStop p tag s := rfl
    rw [hexec, execSessionStop, ready_takeDro h _ rfl]
    refine ⟨_, rfl, ?_⟩
    obtain ⟨-, hi128, h0⟩ := byHandle_spec hi
    have hlive : (s.ctx i).live = true := by simp [Ctx.live]; omega
    rw [show (takenDro s p d).byHandle ((takenDesc d).arg 24 4) = some i from hi]
    dsimp only
    rw [show (takenDro s p d).ctx i = s.ctx i from rfl, if_neg (by simp [hlive])]
    have hctx : ((takenDro s p d).modCtx i fun c => { c with stops := c.stops ++ [(p, d.num)] }).ctx i =
        { s.ctx i with stops := (s.ctx i).stops ++ [(p, d.num)] } := ctx_modCtx_self (s := takenDro s p d) _ (Nat.lt_of_lt_of_eq hi128 hlen.symm)
    have hend := endCtx_ctx (s := (takenDro s p d).modCtx i fun c => { c with stops := c.stops ++ [(p, d.num)] }) (i := i)
      (Nat.lt_of_lt_of_eq hi128 ((length_modAt _ _ _).trans hlen).symm) (by rw [hctx]; exact hlive) (by rw [hctx]; exact Nat.ne_of_lt h5)
    cases hhost : (s.ctx i).host with
    | true => exact hend 1 0xFFFF
    | false =>
      rw [if_neg (by simp), if_pos (show (takenDesc d).arg 28 1 = 1 from hstop.resolve_left (by simp [hhost]))]
      exact hend 2 0xFFFF
  · have hexec : exec (.sessionQuery p tag) s = execSessionQuery p tag s := rfl
    rw [hexec, execSessionQuery, ready_takeDro h _ rfl]
    refine ⟨_, rfl, ?_⟩
    have hfound : (if (takenDesc d).arg 24 4 = 0xFFFFFFFF then (takenDro s p d).newestCtx (takenDesc d).target
        else (takenDro s p d).byHandle ((takenDesc d).arg 24 4)) = some i := by
      rcases hi with ⟨hff, hi⟩ | ⟨hff, hi⟩
      · rw [if_pos (show (takenDesc d).arg 24 4 = _ from hff)]; exact hi
      · rw [if_neg (show (takenDesc d).arg 24 4 ≠ _ from hff)]; exact hi
    rw [hfound]
    have hend := (ready_inFlightDro h).finishBuf (s := s) rfl (takenDro_out s p d) ((takenDro s p d).sessionRecord i)
    rw [sessionRecord_length] at hend
    rwa [show (takenDesc d).tag = tag from (ready_tag h :)] at hend
  · have hexec : exec (.sessionQuery p tag) s = execSessionQuery p tag s := rfl
    rw [hexec, execSessionQuery, ready_takeDro h _ rfl]
    refine ⟨_, rfl, ?_⟩
    rw [if_neg (show (takenDesc d).arg 24 4 ≠ _ from hff), show (takenDro s p d).byHandle ((takenDesc d).arg 24 4) = none from hnone]
    exact ready_answered h (ready_inFlightDro h) (takenDro_out s p d) 0x40 0
  · have hexec : exec (.tunnelSend p tag data) s = execTunnelSend p tag data s := rfl
    rw [hexec, execTunnelSend, ready_takeDro h _ rfl]
    refine ⟨_, rfl, ?_⟩
    dsimp only
    rw [if_pos (show if (takenDesc d).arg 28 1 = 2 then (takenDesc d).length ≠ 64 else (takenDesc d).length = 0 ∨ 16384 < (takenDesc d).length by
      rcases hbad with ⟨h2, hb⟩ | ⟨h2, hb⟩
      · rw [if_pos (show (takenDesc d).arg 28 1 = 2 from h2)]; exact hb
      · rw [if_neg (show (takenDesc d).arg 28 1 ≠ 2 from h2)]; exact hb)]
    exact ready_answered h (ready_inFlightDro h) (takenDro_out s p d) 0x43 0
  · have hexec : exec (.tunnelSend p tag data) s = execTunnelSend p tag data s := rfl
    rw [hexec, execTunnelSend, ready_takeDro h _ rfl]
    refine ⟨_, rfl, ?_⟩
    dsimp only
    rw [if_neg (tunnelLength_ok h0 h1 h16), if_pos (tunnelMode_iff h0 |>.mpr ((takenDro_tunnelMode s p d d.target).trans hmode))]
    exact ready_answered h (ready_inFlightDro h) (takenDro_out s p d) 0x42 0
  · have hexec : exec (.tunnelSend p tag data) s = execTunnelSend p tag data s := rfl
    rw [hexec, execTunnelSend, ready_takeDro h _ rfl]
    refine ⟨_, rfl, ?_⟩
    dsimp only
    rw [if_neg (tunnelLength_ok h0 h1 h16), if_neg (fun hc => Bool.false_ne_true ((tunnelMode_iff h0 |>.mp hc).symm.trans ((takenDro_tunnelMode s p d d.target).trans hmode))),
      if_neg (show (takenDesc d).arg 28 1 ≠ 2 by rw [show (takenDesc d).arg 28 1 = 0 from h0]; decide),
      if_pos (show (takenDesc d).arg 28 1 = 0 from h0)]
    exact ⟨_, List.mem_append_right _ (List.mem_singleton_self _), rfl, rfl, rfl, rfl⟩
  · have hexec : exec (.allowLookup p tag false) s = execAllowLookup p tag false s := rfl
    rw [hexec, execAllowLookup, ready_takeDro h _ rfl]
    obtain ⟨run, hrun, hserve⟩ := lookServe_ctxOnly s.dro.looks hall [.op p d.num false]
      (lookAsked s p d) []
    have hin : InFlight (lookAsked s p d) p d.num (takenDesc d) := (ready_inFlightDro h).congr rfl
    obtain ⟨r, hend, hr⟩ := lookOp_answer (s := s) hin (takenDro_out s p d)
    refine ⟨_, r, rfl, ?_, hr⟩
    rw [show (takenDesc d).tag = tag from (ready_tag h :)] at hend
    change s.Ended (State.lookServe (lookAsked s p d) [] (s.dro.looks ++ [.op p d.num false])).2 p tag 0x00 r
    rw [hserve, State.lookServe, if_pos (by simp at hrun; omega)]
    exact hend
  · refine ⟨_, rfl, ?_⟩
    rw [if_neg (by simp [hpower]), ho]
    dsimp only
    rw [if_pos hbusy, State.tryStore, if_pos hadm]
    refine ⟨?_, _, List.mem_append_right _ (List.mem_singleton_self _), rfl⟩
    change s.dro.overlay.map _ = _
    rw [ho]
    rfl
  · refine ⟨_, rfl, ?_⟩
    rw [if_neg (by simp [hpower]), ho]
    dsimp only
    rw [if_neg (by omega), if_pos hbusy, State.tryStore, if_pos hadm]
    refine ⟨?_, _, List.mem_append_right _ (List.mem_singleton_self _), rfl⟩
    change s.dro.overlay.map _ = _
    rw [ho]
    rfl

end Sys2Proof
end

section
/-!
PROOFS. Stall cooling and the clearing of Harness latches (O39).
-/
set_option Elab.async false -- the kernel evaluations wait for each other: keep them in one thread
namespace Sys2Proof.CommandLaws

open Sys2Proof.Machine Sys2Proof.Laws Sys2Proof.PaddockLaws

variable {s t u : State} {f g : Fld} {b n m : Nat}

/-! ### What bridges leave alone -/

/-- From `s` to `t` neither a stall's cooling registers nor the COOLING_SETs that wait change. -/
structure CoolKeeps (s t : State) : Prop where
  regs : ∀ f : Fld, f.win % 256 = 8 → 0x2000 ≤ f.reg % 0x10000 → t.get f = s.get f
  wait : t.hrn.coolWait = s.hrn.coolWait

theorem CoolKeeps.refl (s : State) : CoolKeeps s s := ⟨fun _ _ _ => rfl, rfl⟩

theorem CoolKeeps.trans (h : CoolKeeps s t) (h' : CoolKeeps t u) : CoolKeeps s u :=
  ⟨fun f hw hr => (h'.regs f hw hr).trans (h.regs f hw hr), h'.wait.trans h.wait⟩

theorem CoolKeeps.within {k : Nat} (h : CoolKeeps s t) (hu : Within k t u) (hh : k.testBit 11 = false) (hw : k.testBit 40 = false) :
    CoolKeeps s u :=
  h.trans ⟨fun f hf _ => hu.get f (by rw [hf]; exact hw), by rw [hu.hrn hh]⟩

theorem CoolKeeps.set (h : CoolKeeps s t) (g : Fld) (v : Nat) (hg : g.reg % 0x10000 < 0x2000) : CoolKeeps s (t.set g v) :=
  h.trans ⟨fun f _ hr => get_set_ne t v (key_ne_reg (by omega)), rfl⟩

theorem CoolKeeps.modHb (h : CoolKeeps s t) (b : Nat) (f : Bridge → Bridge) : CoolKeeps s (t.modHb b f) := h.trans ⟨fun _ _ _ => rfl, rfl⟩

theorem CoolKeeps.modRel (h : CoolKeeps s t) (f : Release → Release) : CoolKeeps s (t.modRel f) := h.trans ⟨fun _ _ _ => rfl, rfl⟩

theorem CoolKeeps.raise (h : CoolKeeps s t) (code sev src : Nat) (pay : List Nat) : CoolKeeps s (t.raise code sev src pay) :=
  h.within (raise_within t code sev src pay) rfl rfl

theorem CoolKeeps.finish (h : CoolKeeps s t) (p num st r : Nat) : CoolKeeps s (t.finish p num st r) :=
  h.within (finish_within t p num st r false) rfl rfl

theorem CoolKeeps.foldl {α : Type} {l : List α} {f : State → α → State} (hf : ∀ u a, CoolKeeps s u → CoolKeeps s (f u a)) (h : CoolKeeps s t) :
    CoolKeeps s (l.foldl f t) := List.foldlRecOn l f (motive := CoolKeeps s) h fun u hu a _ => hf u a hu

theorem CoolKeeps.releaseCheck (h : CoolKeeps s t) : CoolKeeps s t.releaseCheck := by
  unfold State.releaseCheck
  dsimp only
  split
  · exact (((h.modRel _).raise _ _ _ _).raise _ _ _ _ |>.raise _ _ _ _).foldl fun _ _ hu => hu.finish _ _ _ _
  · exact h

theorem CoolKeeps.bridgeReleased (h : CoolKeeps s t) (b : Nat) : CoolKeeps s (t.bridgeReleased b) := by
  unfold State.bridgeReleased
  split
  · exact (h.modRel _).releaseCheck
  · exact h

theorem CoolKeeps.bridgeDone (h : CoolKeeps s t) (b status : Nat) : CoolKeeps s (t.bridgeDone b status) :=
  (h.modHb b _).foldl fun _ _ hu => hu.finish _ _ _ _

theorem CoolKeeps.rebase (h : CoolKeeps s t) (b : Nat) : CoolKeeps s (t.rebase b) := h.modHb b _

theorem CoolKeeps.commutate (h : CoolKeeps s t) (b : Nat) : CoolKeeps s (t.commutate b) := by
  unfold State.commutate
  split
  · exact h.modHb b _
  · exact h.modHb b _

section
variable (hb : b < 8)
include hb

theorem CoolKeeps.showBridge (h : CoolKeeps s t) : CoolKeeps s (t.showBridge b) := by
  have h10 : (0x1010 + 0x40 * b) % 0x10000 < 0x2000 := by omega
  have h14 : (0x1014 + 0x40 * b) % 0x10000 < 0x2000 := by omega
  have h18 : (0x1018 + 0x40 * b) % 0x10000 < 0x2000 := by omega
  unfold State.showBridge
  extract_lets run d hb' hall x y z ramp s1 s2 s3 phases s4
  have h2 : CoolKeeps s s2 := (h.modHb b _).set _ _ h10
  have h3 : CoolKeeps s s3 := by
    unfold s3
    split
    · exact h2
    · exact (h2.set _ _ h14).set _ _ h14
  exact (((h3.set _ _ h18).set _ _ h18).set _ _ h18).set _ _ h18

theorem CoolKeeps.bridgeOff (h : CoolKeeps s t) (status : Nat) : CoolKeeps s (t.bridgeOff b status) :=
  (((((h.set (F.HRN_HBb_CMD_MODE b) 0 (by simp only [F.HRN_HBb_CMD_MODE]; omega)).modHb b _).showBridge hb).bridgeDone b status).bridgeReleased b)

theorem CoolKeeps.startBridge (h : CoolKeeps s t) : CoolKeeps s (t.startBridge b) := by
  unfold State.startBridge
  split
  · exact h
  · dsimp only
    have h1 := (h.set (F.HRN_HBb_CMD_MODE b) 1 (by simp only [F.HRN_HBb_CMD_MODE]; omega)).modHb b fun h => { h with
      applied := [0, 0, 0], rampFrom := [0, 0, 0], rampAt := t.chrono, toOff := false, pattern := none, lastEdge := t.chrono }
    split
    · exact h1.commutate b
    · exact h1

theorem CoolKeeps.atGoal (h : CoolKeeps s t) : CoolKeeps s (t.atGoal b) := by
  unfold State.atGoal
  extract_lets s1 hh s2
  have h1 : CoolKeeps s s1 := h.modHb b _
  have h2 : CoolKeeps s s2 := (h1.set _ _ (by simp only [F.HRN_HBb_CMD_DIRECTION]; omega)).commutate b
  split
  · exact h1.bridgeOff hb _
  · split
    · split
      · exact ((h2.modHb b _).showBridge hb).bridgeDone b 0
      · exact h2.showBridge hb
    · exact (h1.showBridge hb).bridgeDone b 0

theorem CoolKeeps.settle (h : CoolKeeps s t) : CoolKeeps s (t.settle b) := by
  unfold State.settle
  split
  · exact h.atGoal hb
  · exact h.showBridge hb

theorem CoolKeeps.troughBridge (h : CoolKeeps s t) : CoolKeeps s (t.troughBridge b) := by
  unfold State.troughBridge
  dsimp only
  split
  · exact h.showBridge hb
  · split
    · exact h.showBridge hb
    · exact (((h.startBridge hb).rebase b).modHb b _).settle hb

end

theorem CoolKeeps.troughBridges (h : CoolKeeps s t) : CoolKeeps s (forAll (List.range 8) (fun b u => u.troughBridge b) t) :=
  List.foldlRecOn _ _ (motive := CoolKeeps s) h fun _ hu _ hb => hu.troughBridge (List.mem_range.mp hb)

/-! ### One stall's evaluation -/

theorem hkInput_slk (h : t.slk = s.slk) (n code : Nat) : t.hkInput n code = s.hkInput n code := by
  have hval : ∀ i, t.hkVal n i = s.hkVal n i := fun i => by rw [State.hkVal, State.link, h, State.hkVal, State.link]
  have hint : ∀ i, t.hkInt n i = s.hkInt n i := fun i => by rw [State.hkInt, hval, State.hkInt]
  unfold State.hkInput
  simp only [hint]

/-- A register of the Harness that an evaluation of stall `m` does not write. -/
def NotOfStall (m : Nat) (f : Fld) : Prop :=
  f.win % 256 = 8 ∧ f.reg % 0x10000 ≠ (0x2008 + 0x10 * m) % 0x10000 ∧ f.reg % 0x10000 ≠ (0x200C + 0x10 * m) % 0x10000

theorem coolSensors_keeps (s : State) (m : Nat) :
    (∀ f, NotOfStall m f ∨ f.key ≠ (F.HRN_Sn_COOL_STATE_SENSOR_LOST m).key ∧ f.win % 256 = 8 → (s.coolSensors m).get f = s.get f) ∧
      (s.coolSensors m).hrn.curves = s.hrn.curves ∧ (s.coolSensors m).slk = s.slk := by
  unfold State.coolSensors
  extract_lets seen now s1 gone s2
  have hraise : ∀ (u : State) (i : Nat), (u.raise 0x0805 2 m [i]).hrn.curves = u.hrn.curves ∧ (u.raise 0x0805 2 m [i]).slk = u.slk :=
    fun u i => ⟨by rw [(raise_within u _ _ _ _).hrn rfl], raise_slk _ _ _ _⟩
  have h2 : (∀ f : Fld, f.win % 256 = 8 → s2.get f = s.get f) ∧ s2.hrn.curves = s.hrn.curves ∧ s2.slk = s.slk :=
    ⟨fun f hf => (foldl_view (fun u => u.get f) (fun u i => get_raise _ _ _ _ (by rw [hf]; rfl)) gone s1).trans rfl,
      (foldl_view (fun u => u.hrn.curves) (fun u i => (hraise u i).1) gone s1).trans rfl,
      (foldl_view (fun u => u.slk) (fun u i => (hraise u i).2) gone s1).trans rfl⟩
  have hset : ∀ (c : Bool) (f : Fld), NotOfStall m f ∨ f.key ≠ (F.HRN_Sn_COOL_STATE_SENSOR_LOST m).key ∧ f.win % 256 = 8 →
      (s2.setB (F.HRN_Sn_COOL_STATE_SENSOR_LOST m) c).get f = s.get f := fun c f hf => by
    rcases hf with ⟨hw, h8, -⟩ | ⟨hk, hw⟩
    · rw [State.setB, get_set_ne s2 _ (key_ne_reg h8), h2.1 f hw]
    · rw [State.setB, get_set_ne s2 _ hk, h2.1 f hw]
  split
  · exact ⟨hset true, h2.2⟩
  · split
    · exact ⟨hset false, h2.2⟩
    · exact ⟨fun f hf => h2.1 f (hf.elim (fun h => h.1) fun h => h.2), h2.2⟩

theorem showTrim_get (s : State) (m : Nat) (t : Int) (h : f.key ≠ (F.HRN_Sn_COOL_VALVE_TRIM m).key) : (s.showTrim m t).get f = s.get f := by
  unfold State.showTrim
  split
  · exact get_set_ne s _ h
  · exact get_set_ne _ _ h

theorem showTrim_curves (s : State) (m : Nat) (t : Int) : (s.showTrim m t).hrn.curves = s.hrn.curves := by
  unfold State.showTrim
  split <;> rfl

/-- The state in which a stall's evaluation looks for its curve. -/
def coolStart (s : State) (m : Nat) : State :=
  (s.setB (F.HRN_Sn_COOL_STATE_COOL_MISSING m) (bitOf (s.sealWord m) 6 && !s.hasCurve m)).modWalk m fun w => { w with iSum := 0, iCnt := 0 }

theorem coolStart_get (s : State) (m : Nat) (h : f.key ≠ (F.HRN_Sn_COOL_STATE_COOL_MISSING m).key) : (coolStart s m).get f = s.get f :=
  get_set_ne s _ h

theorem curve?_congr (he : t.get (F.HRN_Sn_COOL_CFG_ENTRY n) = s.get (F.HRN_Sn_COOL_CFG_ENTRY n)) (hc : t.hrn.curves = s.hrn.curves) :
    t.curve? n = s.curve? n := by rw [State.curve?, he, hc, State.curve?]

theorem cfgEntry_notOfStall (n m : Nat) : NotOfStall m (F.HRN_Sn_COOL_CFG_ENTRY n) := by
  refine ⟨rfl, ?_, ?_⟩ <;> simp only [F.HRN_Sn_COOL_CFG_ENTRY] <;> omega

theorem coolStart_curve? (s : State) (n m : Nat) : (coolStart s m).curve? n = s.curve? n :=
  curve?_congr (coolStart_get s m (key_ne_reg (cfgEntry_notOfStall n m).2.1)) rfl

theorem troughStall_none (h : s.curve? n = none) :
    s.troughStall n = (((coolStart s n).set (F.HRN_Sn_COOL_STATE_FLOW_TARGET n) 0).set (F.HRN_Sn_COOL_STATE_PUMP n)
      (if bitOf ((coolStart s n).sealWord n) 6 then 1000 else 0)).set (F.HRN_Sn_COOL_VALVE_VALVE n)
      (if bitOf ((coolStart s n).sealWord n) 6 then 200 else 0) := by
  unfold State.troughStall
  extract_lets s0 i s1
  rw [show s1.curve? n = none from (coolStart_curve? s n n).trans h]
  rfl

/-- With a curve, an evaluation ends by writing target, pump, valve and trim. -/
theorem troughStall_some {e : Curve} (h : s.curve? n = some e) : ∃ (u : State) (fl t : Int) (pump valve : Nat),
    s.troughStall n = (((u.set (F.HRN_Sn_COOL_STATE_FLOW_TARGET n) fl.toNat).set (F.HRN_Sn_COOL_STATE_PUMP n) pump).set
      (F.HRN_Sn_COOL_VALVE_VALVE n) valve).showTrim n t ∧
    (∀ f, NotOfStall n f → u.get f = s.get f) ∧ u.hrn.curves = s.hrn.curves ∧ (s.hkInput n e.tInput = none → fl = e.flowMax) := by
  obtain ⟨hregs, hcurves, hslk⟩ := coolSensors_keeps (coolStart s n) n
  unfold State.troughStall
  extract_lets s0 i s1
  rw [show s1.curve? n = some e from (coolStart_curve? s n n).trans h]
  dsimp -zeta only
  extract_lets fl ff trim r s4 out
  refine ⟨s4, fl, r.1, out.1, out.2, rfl, fun f hf => ?_, hcurves, fun hin => ?_⟩
  · exact (hregs f (.inl hf)).trans (coolStart_get s n (key_ne_reg hf.2.1))
  · unfold fl
    rw [show (State.coolSensors s1 n).hkInput n e.tInput = none from (hkInput_slk hslk n e.tInput).trans hin]

theorem troughStall_get (h : NotOfStall m f) : (s.troughStall m).get f = s.get f := by
  obtain ⟨hw, h8, hC⟩ := h
  cases hc : s.curve? m with
  | none =>
    rw [troughStall_none hc, get_set_ne _ _ (key_ne_reg hC), get_set_ne _ _ (key_ne_reg h8), get_set_ne _ _ (key_ne_reg h8)]
    exact coolStart_get s m (key_ne_reg h8)
  | some e =>
    obtain ⟨u, fl, t, pump, valve, heq, hu, -⟩ := troughStall_some hc
    rw [heq, showTrim_get _ _ _ (key_ne_reg hC), get_set_ne _ _ (key_ne_reg hC), get_set_ne _ _ (key_ne_reg h8), get_set_ne _ _ (key_ne_reg h8)]
    exact hu f ⟨hw, h8, hC⟩

theorem troughStall_curves (s : State) (m : Nat) : (s.troughStall m).hrn.curves = s.hrn.curves := by
  cases hc : s.curve? m with
  | none => rw [troughStall_none hc]; rfl
  | some e =>
    obtain ⟨u, fl, t, pump, valve, heq, -, hu, -⟩ := troughStall_some hc
    rw [heq, showTrim_curves]
    exact hu

/-- The cooling registers that an evaluation of a stall writes. -/
def coolOut (n : Nat) : List Fld := [F.HRN_Sn_COOL_STATE_FLOW_TARGET n, F.HRN_Sn_COOL_STATE_PUMP n, F.HRN_Sn_COOL_VALVE_VALVE n]

theorem coolOut_notOfStall (hn : n < 48) (hm : m < 48) (hne : n ≠ m) : ∀ f ∈ coolOut n, NotOfStall m f := by
  intro f hf
  simp only [coolOut, List.mem_cons, List.not_mem_nil, or_false] at hf
  rcases hf with rfl | rfl | rfl <;> refine ⟨rfl, ?_, ?_⟩ <;>
    simp only [F.HRN_Sn_COOL_STATE_FLOW_TARGET, F.HRN_Sn_COOL_STATE_PUMP, F.HRN_Sn_COOL_VALVE_VALVE] <;> omega

/-- What an evaluation of stall `n` shows, for the curve, input and seal that `s` has. -/
def CoolShown (s : State) (n : Nat) (t : State) : Prop :=
  (∀ e, s.curve? n = some e → s.hkInput n e.tInput = none → e.flowMax < 65536 → t.get (F.HRN_Sn_COOL_STATE_FLOW_TARGET n) = e.flowMax) ∧
  (s.curve? n = none → t.get (F.HRN_Sn_COOL_STATE_FLOW_TARGET n) = 0 ∧
    t.get (F.HRN_Sn_COOL_STATE_PUMP n) = (if bitOf (s.sealWord n) 6 then 1000 else 0) ∧
    t.get (F.HRN_Sn_COOL_VALVE_VALVE n) = if bitOf (s.sealWord n) 6 then 200 else 0)

theorem CoolShown.keep (h : CoolShown s n t) (hk : ∀ f ∈ coolOut n, u.get f = t.get f) : CoolShown s n u := by
  simp only [coolOut, List.forall_mem_cons] at hk
  obtain ⟨hflow, hpump, hvalve, -⟩ := hk
  rw [CoolShown, hflow, hpump, hvalve]
  exact h

theorem troughStall_shows (s : State) (n : Nat) : CoolShown s n (s.troughStall n) := by
  have hfar : ∀ k : Nat, (0x2008 + 0x10 * k) % 0x10000 ≠ (0x200C + 0x10 * k) % 0x10000 := fun k => by omega
  refine ⟨fun e he hin hlt => ?_, fun hc => ?_⟩
  · obtain ⟨u, fl, t, pump, valve, heq, -, -, hfl⟩ := troughStall_some he
    rw [heq, showTrim_get _ _ _ (key_ne_reg (hfar n)), get_set_ne _ _ (key_ne_reg (hfar n)), get_set_lo _ rfl, get_set_self, hfl hin]
    exact Nat.mod_eq_of_lt hlt
  · have hseal : (coolStart s n).sealWord n = s.sealWord n := coolStart_get s n (key_ne_win (by decide : (2 : Nat) % 256 ≠ 8 % 256))
    rw [troughStall_none hc, hseal]
    refine ⟨?_, ?_, ?_⟩
    · rw [get_set_ne _ _ (key_ne_reg (hfar n)), get_set_lo _ rfl, get_set_self]
      rfl
    · rw [get_set_ne _ _ (key_ne_reg (hfar n)), get_set_self]
      split <;> rfl
    · rw [get_set_self]
      split <;> rfl

/-- After every stall's evaluation each stall shows its own. -/
theorem troughStalls_show (hn : n < 48) (l : List Nat) (hl : ∀ m ∈ l, m < 48) (hmem : n ∈ l) :
    CoolShown s n (l.foldl (fun u m => u.troughStall m) s) := by
  have hinputs : ∀ (u : State) (m : Nat), (u.troughStall m).curve? n = u.curve? n ∧ (∀ c, (u.troughStall m).hkInput n c = u.hkInput n c) ∧
      (u.troughStall m).sealWord n = u.sealWord n := fun u m =>
    ⟨curve?_congr (troughStall_get (cfgEntry_notOfStall n m)) (troughStall_curves u m), fun c => hkInput_slk ((troughStall_within u m).slk rfl) n c,
      get_outside 2 (troughStall_within u m) rfl rfl⟩
  suffices h : ∀ u, (u.curve? n = s.curve? n ∧ (∀ c, u.hkInput n c = s.hkInput n c) ∧ u.sealWord n = s.sealWord n) → (n ∈ l ∨ CoolShown s n u) →
      CoolShown s n (l.foldl (fun u m => u.troughStall m) u) from h s ⟨rfl, fun _ => rfl, rfl⟩ (.inl hmem)
  clear hmem
  induction l with
  | nil => exact fun u _ h => h.resolve_left List.not_mem_nil
  | cons m l ih =>
    intro u hu h
    obtain ⟨hcurve, hin, hseal⟩ := hu
    obtain ⟨hcurve', hin', hseal'⟩ := hinputs u m
    refine ih (fun k hk => hl k (List.mem_cons_of_mem _ hk)) _ ⟨hcurve'.trans hcurve, fun c => (hin' c).trans (hin c), hseal'.trans hseal⟩ ?_
    by_cases hnm : n = m
    · subst hnm
      have hshow := troughStall_shows u n
      rw [CoolShown, hcurve, hseal] at hshow
      simp only [hin] at hshow
      exact .inr hshow
    · rcases h with h | h
      · exact .inl ((List.mem_cons.mp h).resolve_left hnm)
      · exact .inr (h.keep fun f hf => troughStall_get (coolOut_notOfStall hn (hl m List.mem_cons_self) hnm f hf))

end Sys2Proof.CommandLaws
end

section
/-!
PROOFS. The Harness's latches and the settling of O39.
-/
set_option Elab.async false -- the kernel evaluations wait for each other: keep them in one thread
namespace Sys2Proof.CommandLaws

open Sys2Proof.Machine Sys2Proof.Laws Sys2Proof.PaddockLaws

variable {s t u : State} {f g : Fld} {b n m : Nat}

/-! ### Clearing bits -/

/-- From `s` to `t` no bit of a register becomes set. -/
def BitsFall (s t : State) : Prop := ∀ (f : Fld) (i : Nat), bitOf (t.get f) i = true → bitOf (s.get f) i = true

theorem BitsFall.refl (s : State) : BitsFall s s := fun _ _ h => h

theorem BitsFall.trans (h : BitsFall s t) (h' : BitsFall t u) : BitsFall s u := fun f i hi => h f i (h' f i hi)

/-- A write of a value whose bits the field had. -/
theorem BitsFall.set (h : BitsFall s t) (g : Fld) {v : Nat} (hv : ∀ i, bitOf v i = true → bitOf (t.get g) i = true) : BitsFall s (t.set g v) := by
  refine h.trans fun f i hi => ?_
  by_cases hk : f.key = g.key
  · rw [get_key_eq hk, get_set_self, bitOf_eq_testBit, Nat.testBit_mod_two_pow, Bool.and_eq_true] at hi
    rw [get_key_eq hk]
    exact hv i (by rw [bitOf_eq_testBit]; exact hi.2)
  · rwa [get_set_ne t v hk] at hi

theorem BitsFall.clear (h : BitsFall s t) (g : Fld) : BitsFall s (t.setB g false) :=
  h.set g fun i hi => by simp [bitOf_eq_testBit, b2n] at hi

theorem BitsFall.clearIf (h : BitsFall s t) (c : Bool) (g : Fld) : BitsFall s (t.clearIf c g) := by
  unfold State.clearIf
  split
  · exact h.clear g
  · exact h

theorem BitsFall.clearBit (h : BitsFall s t) (g : Fld) (i : Nat) : BitsFall s (t.setBit g i false) :=
  h.set g fun j hj => by
    rw [bitOf_setBitOf] at hj
    split at hj
    · cases hj
    · exact hj

/-- A flag that was clear stays clear. -/
theorem BitsFall.flag (h : BitsFall s t) (hf : s.flag f = false) : t.flag f = false := by
  have h0 : s.get f = 0 := by simpa [State.flag] using hf
  have ht : t.get f = 0 := Nat.eq_of_testBit_eq fun i => by
    rw [Nat.zero_testBit, ← Bool.not_eq_true, ← bitOf_eq_testBit]
    intro hi
    have := h f i hi
    rw [h0, bitOf_eq_testBit, Nat.zero_testBit] at this
    cases this
  rw [State.flag, ht]
  rfl

theorem BitsFall.bit (h : BitsFall s t) {i : Nat} (hi : bitOf (s.get f) i = false) : bitOf (t.get f) i = false := by
  rw [← Bool.not_eq_true] at hi ⊢
  exact fun ht => hi (h f i ht)

theorem BitsFall.modHrn (h : BitsFall s t) (f : Hrn → Hrn) : BitsFall s (t.modHrn f) := h
theorem BitsFall.rebase (h : BitsFall s t) (b : Nat) : BitsFall s (t.rebase b) := h

theorem Quiet.modHrn (h : Quiet s t) (f : Hrn → Hrn) : Quiet s (t.modHrn f) := h.trans ⟨List.prefix_refl _, fun _ => rfl, rfl⟩
theorem Quiet.rebase (h : Quiet s t) (b : Nat) : Quiet s (t.rebase b) :=
  h.trans ⟨List.prefix_refl _, fun _ => rfl, rfl⟩

theorem clearIf_flag (s : State) (f : Fld) : (s.clearIf true f).flag f = false := by
  rw [State.clearIf, if_pos rfl, State.flag, State.setB, get_set_self]
  simp [b2n]

theorem setB_false_flag (s : State) (f : Fld) : (s.setB f false).flag f = false := clearIf_flag s f

/-! ### The bridges' registers shown -/

/-- A register of the Harness that showing a bridge's state and latches does not write. -/
def NotShown (f : Fld) : Prop := f.win % 256 = 8 ∧ (f.reg % 0x10000 % 0x40 = 4 ∨ f.reg % 0x10000 % 0x40 = 0x20 ∧ f.lo % 32 ≠ 0)

theorem latch_notShown (b lo w : Nat) (h : (lo % 32).beq 0 = false) : NotShown ⟨0, 0x8, 0x1020 + 0x40 * b, lo, w⟩ :=
  ⟨rfl, .inr ⟨by dsimp only; omega, Nat.ne_of_beq_eq_false h⟩⟩

theorem showBridge_get (hf : NotShown f) (s : State) (b : Nat) : (s.showBridge b).get f = s.get f := by
  have hne : ∀ (u : State) (g : Fld) (v : Nat), (g.reg % 0x10000 % 0x40 = 0x10 ∨ g.reg % 0x10000 % 0x40 = 0x14 ∨ g.reg % 0x10000 % 0x40 = 0x18) →
      (u.set g v).get f = u.get f := fun u g v hg => get_set_ne u v (key_ne_reg (by
    obtain ⟨-, h | ⟨h, -⟩⟩ := hf <;> omega))
  have h10 : (0x1010 + 0x40 * b) % 0x10000 % 0x40 = 0x10 := by omega
  have h14 : (0x1014 + 0x40 * b) % 0x10000 % 0x40 = 0x14 := by omega
  have h18 : (0x1018 + 0x40 * b) % 0x10000 % 0x40 = 0x18 := by omega
  unfold State.showBridge
  extract_lets run d hb' hall x y z ramp s1 s2 s3 phases s4
  have h2 : s2.get f = s.get f := hne s1 (F.HRN_HBb_CMD_DUTY b) _ (.inl h10)
  have h3 : s3.get f = s.get f := by
    unfold s3
    split
    · exact h2
    · rw [hne _ (F.HRN_HBb_CMD_VW_DUTY_W b) _ (.inr (.inl h14)), hne _ (F.HRN_HBb_CMD_VW_DUTY_V b) _ (.inr (.inl h14)), h2]
  have h4 : s4.get f = s.get f := by
    rw [show s4.get f = _ from hne _ (F.HRN_HBb_STATE_RAMPING b) _ (.inr (.inr h18)), State.setB,
      hne _ (F.HRN_HBb_STATE_RUNNING b) _ (.inr (.inr h18)), hne _ (F.HRN_HBb_STATE_PHASES b) _ (.inr (.inr h18)), h3]
  exact (hne s4 (F.HRN_HBb_STATE_HELD b) _ (.inr (.inr h18))).trans h4

theorem showLatch_get (hf : NotShown f) (s : State) (b : Nat) : (s.showLatch b).get f = s.get f := by
  rw [State.showLatch, showBridge_get hf]
  refine get_set_ne s _ ?_
  obtain ⟨-, h | ⟨-, h⟩⟩ := hf
  · exact key_ne_reg (by simp only [F.HRN_HBb_FAULT_LATCHED]; omega)
  · exact key_ne_lo h

theorem Quiet.showBridge (h : Quiet s t) (b : Nat) : Quiet s (t.showBridge b) := by
  unfold State.showBridge
  extract_lets run d hb' hall x y z ramp s1 s2 s3 phases s4
  have h1 : Quiet s s1 := h.trans ⟨List.prefix_refl _, fun _ => rfl, rfl⟩
  have h3 : Quiet s s3 := by
    unfold s3
    split
    · exact h1.set _ _
    · exact ((h1.set _ _).set _ _).set _ _
  exact (((h3.set _ _).set _ _).set _ _).set _ _

theorem Quiet.showLatch (h : Quiet s t) (b : Nat) : Quiet s (t.showLatch b) := (h.set _ _).showBridge b

/-! ### HRN_FAULT_CLEAR -/

/-- CLEAR bit 3: the chopper's overload, of the group and of its bridges. -/
def clearChop (c : Nat) (b : Nat) (s : State) : State :=
  if bitOf c 3 then
    forAll ((List.range 8).filter fun x => vmotGroup x = vmotGroup b) (fun x s => s.setB (F.HRN_HBb_FAULT_CHOP_OVERLOAD x) false)
      (s.setBit F.HRN_STATUS_CHOP_OVERLOAD (vmotGroup b) false)
  else s

/-- CLEAR bit 0: the bridge's own latches, but what is still there. -/
def clearLatches (c : Nat) (b : Nat) (overs bad : Bool) (s : State) : State :=
  if bitOf c 0 then
    let s := ((s.setB (F.HRN_HBb_FAULT_ROTOR_STALL b) false).setB (F.HRN_HBb_FAULT_OC_PERSIST b) false).setB (F.HRN_HBb_FAULT_DESAT b) false
    let s := (s.set (F.HRN_HBb_FAULT_SWITCH b) 0).setB (F.HRN_HBb_FAULT_CHOP_OVERLOAD b) false
    (s.clearIf (!overs) (F.HRN_HBb_FAULT_VMOT_OV b)).clearIf (!bad) (F.HRN_HBb_FAULT_HALL_INVALID b)
  else s

/-- CLEAR bit 1: the limit of a bootstrap under-voltage. -/
def clearBst (c : Nat) (b : Nat) (s : State) : State := if bitOf c 1 then (s.rebase b).setB (F.HRN_HBb_FAULT_BST_UV b) false else s

/-- CLEAR bit 2: the latch of all bridges. -/
def clearDevice (c : Nat) (s : State) : State :=
  if bitOf c 2 then (s.setB F.HRN_STATUS_DEVICE_LATCH false).modHrn fun h => { h with bothOn := [] } else s

theorem clearChop_spec (c b : Nat) (s : State) : Quiet s (clearChop c b s) ∧ BitsFall s (clearChop c b s) := by
  unfold clearChop
  split
  · have h := (BitsFall.refl s).clearBit F.HRN_STATUS_CHOP_OVERLOAD (vmotGroup b)
    exact ⟨Quiet.foldl (fun u x hu => hu.set _ _) ((Quiet.refl s).set _ _),
      List.foldlRecOn _ _ (motive := BitsFall s) h fun u hu x _ => hu.clear _⟩
  · exact ⟨Quiet.refl s, BitsFall.refl s⟩

theorem clearLatches_spec (c b : Nat) (overs bad : Bool) (s : State) :
    Quiet s (clearLatches c b overs bad s) ∧ BitsFall s (clearLatches c b overs bad s) := by
  unfold clearLatches
  split
  · have hz : ∀ (u : State) (i : Nat), bitOf 0 i = true → bitOf (u.get (F.HRN_HBb_FAULT_SWITCH b)) i = true := fun u i hi => by
      simp [bitOf_eq_testBit] at hi
    have hq : ∀ (u : State) (k : Bool) (g : Fld), Quiet s u → Quiet s (u.clearIf k g) := fun u k g hu => by
      unfold State.clearIf
      split
      · exact hu.set _ _
      · exact hu
    exact ⟨hq _ _ _ (hq _ _ _ ((((((Quiet.refl s).set _ _).set _ _).set _ _).set _ _).set _ _)),
      (((((((BitsFall.refl s).clear _).clear _).clear _).set _ (hz _)).clear _).clearIf _ _).clearIf _ _⟩
  · exact ⟨Quiet.refl s, BitsFall.refl s⟩

theorem clearBst_spec (c b : Nat) (s : State) : Quiet s (clearBst c b s) ∧ BitsFall s (clearBst c b s) := by
  unfold clearBst
  split
  · exact ⟨((Quiet.refl s).rebase b).set _ _, ((BitsFall.refl s).rebase b).clear _⟩
  · exact ⟨Quiet.refl s, BitsFall.refl s⟩

theorem clearDevice_spec (c : Nat) (s : State) : Quiet s (clearDevice c s) ∧ BitsFall s (clearDevice c s) := by
  unfold clearDevice
  split
  · exact ⟨((Quiet.refl s).set _ _).modHrn _, ((BitsFall.refl s).clear _).modHrn _⟩
  · exact ⟨Quiet.refl s, BitsFall.refl s⟩

theorem clearDevice_flag {c : Nat} (hc : bitOf c 2 = true) (s : State) : (clearDevice c s).flag F.HRN_STATUS_DEVICE_LATCH = false := by
  rw [clearDevice, if_pos hc]
  exact ((BitsFall.refl _).modHrn _).flag (setB_false_flag s _)

/-- The registers after HRN_FAULT_CLEAR, before the bridges' registers are brought up to date. -/
def faultCleared (c b : Nat) (overs bad : Bool) (s : State) : State := clearDevice c (clearBst c b (clearLatches c b overs bad (clearChop c b s)))

theorem faultCleared_quiet (c b : Nat) (overs bad : Bool) (s : State) : Quiet s (faultCleared c b overs bad s) :=
  (((clearChop_spec c b s).1.trans (clearLatches_spec c b overs bad _).1).trans (clearBst_spec c b _).1).trans (clearDevice_spec c _).1

/-- A flag that CLEAR bit 0 names is clear at the end. -/
theorem faultCleared_latch {c b : Nat} {overs bad : Bool} (s : State) (h : (clearLatches c b overs bad (clearChop c b s)).flag f = false) :
    (faultCleared c b overs bad s).flag f = false :=
  ((clearBst_spec c b _).2.trans (clearDevice_spec c _).2).flag h

theorem clearLatches_flags {c : Nat} (hc : bitOf c 0 = true) (b : Nat) (overs bad : Bool) (s : State) :
    let t := clearLatches c b overs bad s
    t.flag (F.HRN_HBb_FAULT_DESAT b) = false ∧ t.flag (F.HRN_HBb_FAULT_OC_PERSIST b) = false ∧ t.flag (F.HRN_HBb_FAULT_ROTOR_STALL b) = false ∧
      (overs = false → t.flag (F.HRN_HBb_FAULT_VMOT_OV b) = false) ∧ (bad = false → t.flag (F.HRN_HBb_FAULT_HALL_INVALID b) = false) := by
  intro t
  have hz : ∀ (u : State) (i : Nat), bitOf 0 i = true → bitOf (u.get (F.HRN_HBb_FAULT_SWITCH b)) i = true := fun u i hi => by
    simp [bitOf_eq_testBit] at hi
  have ht : ∃ u1 u2 u3 u4 u5 : State, u1 = s.setB (F.HRN_HBb_FAULT_ROTOR_STALL b) false ∧ u2 = u1.setB (F.HRN_HBb_FAULT_OC_PERSIST b) false ∧
      u3 = u2.setB (F.HRN_HBb_FAULT_DESAT b) false ∧ u4 = (u3.set (F.HRN_HBb_FAULT_SWITCH b) 0).setB (F.HRN_HBb_FAULT_CHOP_OVERLOAD b) false ∧
      u5 = u4.clearIf (!overs) (F.HRN_HBb_FAULT_VMOT_OV b) ∧ t = u5.clearIf (!bad) (F.HRN_HBb_FAULT_HALL_INVALID b) :=
    ⟨_, _, _, _, _, rfl, rfl, rfl, rfl, rfl, if_pos hc⟩
  obtain ⟨u1, u2, u3, u4, u5, h1, h2, h3, h4, h5, ht⟩ := ht
  have f5 : BitsFall u5 t := ht ▸ (BitsFall.refl u5).clearIf _ _
  have f4 : BitsFall u4 t := (h5 ▸ (BitsFall.refl u4).clearIf _ _ : BitsFall u4 u5).trans f5
  have f3 : BitsFall u3 t := (h4 ▸ ((BitsFall.refl u3).set _ (hz u3)).clear _ : BitsFall u3 u4).trans f4
  have f2 : BitsFall u2 t := (h3 ▸ (BitsFall.refl u2).clear _ : BitsFall u2 u3).trans f3
  have f1 : BitsFall u1 t := (h2 ▸ (BitsFall.refl u1).clear _ : BitsFall u1 u2).trans f2
  refine ⟨f3.flag (h3 ▸ setB_false_flag u2 _), f2.flag (h2 ▸ setB_false_flag u1 _), f1.flag (h1 ▸ setB_false_flag s _), fun ho => f5.flag ?_, fun hb => ?_⟩
  · rw [h5, ho]
    exact clearIf_flag u4 _
  · rw [ht, hb]
    exact clearIf_flag u5 _

theorem clearChop_flags {c : Nat} (hc : bitOf c 3 = true) (hb : b < 8) (s : State) :
    bitOf ((clearChop c b s).get F.HRN_STATUS_CHOP_OVERLOAD) (vmotGroup b) = false ∧
      (clearChop c b s).flag (F.HRN_HBb_FAULT_CHOP_OVERLOAD b) = false := by
  have hg : vmotGroup b < 2 := by unfold vmotGroup; split <;> decide
  have hfall : ∀ (l : List Nat) (u : State), BitsFall u (l.foldl (fun s x => s.setB (F.HRN_HBb_FAULT_CHOP_OVERLOAD x) false) u) := fun l u =>
    List.foldlRecOn _ _ (motive := BitsFall u) (BitsFall.refl u) fun v hv x _ => hv.clear _
  have hmem : b ∈ (List.range 8).filter fun x => vmotGroup x = vmotGroup b := by simp [hb]
  rw [clearChop, if_pos hc]
  refine ⟨(hfall _ _).bit ?_, ?_⟩
  · rw [bitOf_get_setBit s F.HRN_STATUS_CHOP_OVERLOAD false hg, if_pos rfl]
  · obtain ⟨l1, l2, hl⟩ := List.append_of_mem hmem
    rw [hl, forAll, List.foldl_append, List.foldl_cons]
    exact (hfall l2 _).flag (setB_false_flag _ _)

theorem hrnFaultClear_refused {p tag : Nat} {d : Desc} (h : s.Ready p tag 0x0803 d) (h15 : 15 < d.arg 24 1) :
    exec (.hrnFaultClear p tag) s = .next ((taken s p d).finish p d.num 0x40 0) := by
  have hexec : exec (.hrnFaultClear p tag) s = execHrnFaultClear p tag s := rfl
  rw [hexec, execHrnFaultClear, ready_take h _ (by decide)]
  exact congrArg Host.Outcome.next (if_pos h15)

theorem hrnFaultClear_eq {p tag : Nat} {d : Desc} (h : s.Ready p tag 0x0803 d) (h15 : d.arg 24 1 ≤ 15) :
    let overs := decide (s.get (F.HRN_VMOTg_CFG0_OV_TRIP (vmotGroup d.target)) < s.get (F.HRN_VMOTg_MEAS_V (vmotGroup d.target)))
    let bad := isHall d.target && (s.patternOf d.target (s.get (F.HRN_HBb_STATE_HALL d.target))).isNone
    exec (.hrnFaultClear p tag) s = .next ((forAll (List.range 8) (fun x s => s.showLatch x)
      (faultCleared (d.arg 24 1) d.target overs bad (taken s p d))).finish p d.num
      (if bitOf (d.arg 24 1) 0 && ((s.flag (F.HRN_HBb_FAULT_VMOT_OV d.target) && overs) || (s.flag (F.HRN_HBb_FAULT_HALL_INVALID d.target) && bad))
        then 0x45 else 0x00) 0) := by
  intro overs bad
  have hexec : exec (.hrnFaultClear p tag) s = execHrnFaultClear p tag s := rfl
  rw [hexec, execHrnFaultClear, ready_take h _ (by decide)]
  refine congrArg Host.Outcome.next ?_
  extract_lets b c g overs' bad' stuck s1 sa sb s2 s3 s4
  rw [if_neg (show ¬ 15 < c from Nat.not_lt.mpr h15)]
  have h1 : s1 = clearChop c b (taken s p d) := rfl
  have h2 : s2 = clearLatches c b overs bad s1 := rfl
  have h3 : s3 = clearBst c b s2 := rfl
  have h4 : s4 = clearDevice c s3 := rfl
  rw [h4, h3, h2, h1]
  rfl

/-- HRN_FAULT_CLEAR with an allowed CLEAR: what it clears, and its answer. -/
theorem faultClear_spec {p tag : Nat} {d : Desc} (h : s.Ready p tag 0x0803 d) (hb : d.target < 8) :
    let b := d.target
    let g := vmotGroup b
    let overs := decide (s.get (F.HRN_VMOTg_CFG0_OV_TRIP g) < s.get (F.HRN_VMOTg_MEAS_V g))
    let bad := isHall b && (s.patternOf b (s.get (F.HRN_HBb_STATE_HALL b))).isNone
    let high := s.get (F.HRN_VMOTg_CFG0_OV_TRIP g) < s.get (F.HRN_VMOTg_MEAS_V g)
    let wrong := b < 6 ∧ s.patternOf b (s.get (F.HRN_HBb_STATE_HALL b)) = none
    let stuck := bitOf (d.arg 24 1) 0 = true ∧
      ((s.flag (F.HRN_HBb_FAULT_VMOT_OV b) = true ∧ high) ∨ (s.flag (F.HRN_HBb_FAULT_HALL_INVALID b) = true ∧ wrong))
    let t := (forAll (List.range 8) (fun x s => s.showLatch x) (faultCleared (d.arg 24 1) b overs bad (taken s p d))).finish p d.num
      (if bitOf (d.arg 24 1) 0 && ((s.flag (F.HRN_HBb_FAULT_VMOT_OV b) && overs) || (s.flag (F.HRN_HBb_FAULT_HALL_INVALID b) && bad)) then 0x45
        else 0x00) 0
    (stuck → s.Ended t p tag 0x45 0) ∧ (¬ stuck → s.Ended t p tag 0x00 0) ∧
      (bitOf (d.arg 24 1) 0 = true → t.flag (F.HRN_HBb_FAULT_DESAT b) = false ∧ t.flag (F.HRN_HBb_FAULT_OC_PERSIST b) = false ∧
        t.flag (F.HRN_HBb_FAULT_ROTOR_STALL b) = false ∧ (¬ high → t.flag (F.HRN_HBb_FAULT_VMOT_OV b) = false) ∧
        (¬ wrong → t.flag (F.HRN_HBb_FAULT_HALL_INVALID b) = false)) ∧
      (bitOf (d.arg 24 1) 1 = true → t.flag (F.HRN_HBb_FAULT_BST_UV b) = false) ∧
      (bitOf (d.arg 24 1) 2 = true → t.flag F.HRN_STATUS_DEVICE_LATCH = false) ∧
      (bitOf (d.arg 24 1) 3 = true → bitOf (t.get F.HRN_STATUS_CHOP_OVERLOAD) g = false ∧ t.flag (F.HRN_HBb_FAULT_CHOP_OVERLOAD b) = false) := by
  intro b g overs bad high wrong stuck t
  have hbad : bad = true ↔ wrong := by simp [bad, wrong, isHall]
  have hstuck : (bitOf (d.arg 24 1) 0 && ((s.flag (F.HRN_HBb_FAULT_VMOT_OV b) && overs) || (s.flag (F.HRN_HBb_FAULT_HALL_INVALID b) && bad))) =
      true ↔ stuck := by
    simp only [stuck, Bool.and_eq_true, Bool.or_eq_true, hbad]
    simp only [overs, decide_eq_true_eq, high]
  have hq := faultCleared_quiet (d.arg 24 1) b overs bad (taken s p d)
  have hq' : Quiet (taken s p d) (forAll (List.range 8) (fun x s => s.showLatch x) (faultCleared (d.arg 24 1) b overs bad (taken s p d))) :=
    Quiet.foldl (fun u x hu => hu.showLatch x) hq
  have hget : ∀ f : Fld, NotShown f → t.get f = (faultCleared (d.arg 24 1) b overs bad (taken s p d)).get f := fun f hf => by
    have hfin : t.get f = (forAll (List.range 8) (fun x s => s.showLatch x) (faultCleared (d.arg 24 1) b overs bad (taken s p d))).get f :=
      (finish_within _ p d.num _ 0 false).get f (by rw [hf.1]; rfl)
    exact hfin.trans (foldl_view (fun u => u.get f) (fun u x => showLatch_get hf u x) _ _)
  have hflag : ∀ f : Fld, NotShown f → (faultCleared (d.arg 24 1) b overs bad (taken s p d)).flag f = false → t.flag f = false :=
    fun f hf h0 => by rwa [State.flag, hget f hf, ← State.flag]
  have hans : ∀ st, t = (forAll (List.range 8) (fun x s => s.showLatch x) (faultCleared (d.arg 24 1) b overs bad (taken s p d))).finish p d.num st 0 →
      s.Ended t p tag st 0 := fun st ht => by
    rw [ht]
    exact ready_answered h ((ready_inFlight h).quiet hq') hq'.out st 0
  refine ⟨fun hs => hans 0x45 (by unfold t; rw [if_pos (hstuck.mpr hs)]), fun hs => hans 0x00 (by unfold t; rw [if_neg (fun hc => hs (hstuck.mp hc))]),
    fun h0 => ?_, fun h1 => ?_, fun h2 => ?_, fun h3 => ?_⟩
  · obtain ⟨hdesat, hoc, hrotor, hov, hhall⟩ := clearLatches_flags h0 b overs bad (clearChop (d.arg 24 1) b (taken s p d))
    exact ⟨hflag _ (latch_notShown b _ _ rfl) (faultCleared_latch _ hdesat), hflag _ (latch_notShown b _ _ rfl) (faultCleared_latch _ hoc),
      hflag _ (latch_notShown b _ _ rfl) (faultCleared_latch _ hrotor),
      fun hh => hflag _ (latch_notShown b _ _ rfl) (faultCleared_latch _ (hov (decide_eq_false hh))),
      fun hw => hflag _ (latch_notShown b _ _ rfl) (faultCleared_latch _ (hhall (by rw [← Bool.not_eq_true]; exact fun hc => hw (hbad.mp hc))))⟩
  · refine hflag _ (latch_notShown b _ _ rfl) ((clearDevice_spec _ _).2.flag ?_)
    rw [clearBst, if_pos h1]
    exact setB_false_flag _ _
  · refine hflag _ ⟨rfl, .inl rfl⟩ ?_
    exact clearDevice_flag h2 _
  · obtain ⟨hbit, hchop⟩ := clearChop_flags h3 hb (taken s p d)
    have hfall := ((clearLatches_spec (d.arg 24 1) b overs bad (clearChop (d.arg 24 1) b (taken s p d))).2.trans (clearBst_spec (d.arg 24 1) b _).2).trans
      (clearDevice_spec (d.arg 24 1) _).2
    refine ⟨?_, hflag _ (latch_notShown b _ _ rfl) (hfall.flag hchop)⟩
    rw [hget _ ⟨rfl, .inl rfl⟩]
    exact hfall.bit hbit

/-! ### Throttles of a stall -/

theorem throttleArm_overs (s : State) (n ceil idx : Nat) :
    ((s.throttleArm n ceil idx).yms.throttle.getD n Throttle.init).overs = (s.yms.throttle.getD n Throttle.init).overs := by
  unfold State.throttleArm
  dsimp only
  rw [(raise_within _ _ _ _ _).yms rfl]
  exact getD_modAt_view Throttle.overs s.yms.throttle n n _ Throttle.init fun _ => rfl

theorem throttleRaise_overs (h : n < s.yms.throttle.length) (ceil idx : Nat) :
    idx ∈ ((s.throttleRaise n ceil idx).yms.throttle.getD n Throttle.init).overs := by
  unfold State.throttleRaise
  split
  next hc => exact List.contains_iff_mem.mp hc
  next =>
    rw [throttleArm_overs]
    change idx ∈ ((modAt s.yms.throttle n _).getD n Throttle.init).overs
    rw [getD_modAt_self _ _ _ _ h]
    exact List.mem_append_right _ (List.mem_singleton_self _)

theorem throttleDrop_overs (h : n < s.yms.throttle.length) (idx : Nat) :
    idx ∉ ((s.throttleDrop n idx).yms.throttle.getD n Throttle.init).overs := by
  unfold State.throttleDrop
  dsimp only
  split
  next hc => exact fun hmem => by rw [List.contains_iff_mem.mpr hmem] at hc; cases hc
  next =>
    split
    · unfold State.throttleRelease
      dsimp only
      rw [(raise_within _ _ _ _ _).yms rfl]
      change idx ∉ ((modAt s.yms.throttle n _).getD n Throttle.init).overs
      rw [getD_modAt_self _ _ _ _ h]
      exact List.not_mem_nil
    · change idx ∉ ((modAt s.yms.throttle n _).getD n Throttle.init).overs
      rw [getD_modAt_self _ _ _ _ h]
      simp

/-! ### COOLING_SET and the registers of a stall's cooling -/

theorem coolFloor_get (s : State) (n : Nat) {mode pump valve : Nat} (hm : mode < 4) (hp : pump < 1024) (hv : valve < 256) :
    let t := ((s.set (F.HRN_Sn_COOL_FLOOR_MODE n) mode).set (F.HRN_Sn_COOL_FLOOR_PUMP n) pump).set (F.HRN_Sn_COOL_FLOOR_VALVE n) valve
    t.get (F.HRN_Sn_COOL_FLOOR_MODE n) = mode ∧ t.get (F.HRN_Sn_COOL_FLOOR_PUMP n) = pump ∧ t.get (F.HRN_Sn_COOL_FLOOR_VALVE n) = valve := by
  refine ⟨?_, ?_, ?_⟩
  · rw [get_set_lo _ rfl, get_set_lo _ rfl, get_set_self]
    exact Nat.mod_eq_of_lt hm
  · rw [get_set_lo _ rfl, get_set_self]
    exact Nat.mod_eq_of_lt hp
  · rw [get_set_self]
    exact Nat.mod_eq_of_lt hv

theorem coolOut_place (hn : n < 48) : ∀ f ∈ coolOut n, f.win % 256 = 8 ∧ 0x2000 ≤ f.reg % 0x10000 := by
  intro f hf
  simp only [coolOut, List.mem_cons, List.not_mem_nil, or_false] at hf
  rcases hf with rfl | rfl | rfl <;> refine ⟨rfl, ?_⟩ <;>
    simp only [F.HRN_Sn_COOL_STATE_FLOW_TARGET, F.HRN_Sn_COOL_STATE_PUMP, F.HRN_Sn_COOL_VALVE_VALVE] <;> omega

/-- The COOLING_SETs that wait have their value in force. -/
def coolMarked (s : State) : State := s.modHrn fun h => { h with coolWait := h.coolWait.map fun w => (w.1, w.2.1, w.2.2.1, true) }

/-- After TROUGH_EVALUATION every stall's cooling is shown and no COOLING_SET waits for an evaluation. -/
theorem troughEvaluation_spec (h48 : n < 48) (hn : n ∈ s.stallNums) :
    let t := forAll (List.range 8) (fun b u => u.troughBridge b) (coolMarked (forAll s.stallNums (fun n s => s.troughStall n) s))
    (∀ w ∈ t.hrn.coolWait, w.2.2.2 = true) ∧ CoolShown s n t := by
  have hlinks : ∀ m ∈ s.stallNums, m < 48 := fun m hm => Nat.lt_of_lt_of_le (List.mem_range.mp hm) (variant_links_le s)
  have hshow : CoolShown s n (forAll s.stallNums (fun n s => s.troughStall n) s) := troughStalls_show h48 s.stallNums hlinks hn
  generalize forAll s.stallNums (fun n s => s.troughStall n) s = u at hshow
  have hkeep := (CoolKeeps.refl (coolMarked u)).troughBridges
  refine ⟨fun w hw => ?_, hshow.keep fun f hf => hkeep.regs f (coolOut_place h48 f hf).1 (coolOut_place h48 f hf).2⟩
  rw [hkeep.wait] at hw
  obtain ⟨x, -, rfl⟩ := List.mem_map.mp hw
  rfl

/-- With the Harness powered TROUGH_EVALUATION is the run over the stalls and the bridges. -/
theorem troughEvaluation_eq (hpower : s.domainOn 13 = true) :
    exec .troughEvaluation s =
      .next (forAll (List.range 8) (fun b u => u.troughBridge b) (coolMarked (forAll s.stallNums (fun n s => s.troughStall n) s))) := by
  have hexec : exec .troughEvaluation s = execTroughEvaluation s := rfl
  rw [hexec, execTroughEvaluation, if_neg (by simp [hpower])]
  unfold coolMarked
  rfl

/-- FLOW_LOW stands after the event and the throttle condition that come with it. -/
theorem coolantLow_spec (hlen : n < s.yms.throttle.length) (code sev src : Nat) (pay : List Nat) (ceil : Nat) :
    let t := ((s.setB (F.HRN_Sn_COOL_STATE_FLOW_LOW n) true).raise code sev src pay).throttleRaise n ceil 6
    t.flag (F.HRN_Sn_COOL_STATE_FLOW_LOW n) = true ∧ 6 ∈ (t.yms.throttle.getD n Throttle.init).overs := by
  have hyms : ((s.setB (F.HRN_Sn_COOL_STATE_FLOW_LOW n) true).raise code sev src pay).yms = s.yms := (raise_within _ _ _ _ _).yms rfl
  refine ⟨?_, throttleRaise_overs (by rw [hyms]; exact hlen) _ _⟩
  rw [flag_outside 8 (throttleRaise_within _ _ _ _) rfl rfl, State.flag, get_raise _ _ _ _ rfl]
  exact flag_setB_true s _ rfl

/-- COOLANT_FLOW_LOW of a channel below its threshold. -/
theorem coolantFlowLow_marks (hlen : n < s.yms.throttle.length) {e : Curve} (he : s.curve? n = some e)
    (hlow : s.flowLow n e = some true) (hflag : s.flag (F.HRN_Sn_COOL_STATE_FLOW_LOW n) = false) :
    ∃ t, exec (.coolantFlowLow n) s = .next t ∧
      t.flag (F.HRN_Sn_COOL_STATE_FLOW_LOW n) = true ∧ 6 ∈ (t.yms.throttle.getD n Throttle.init).overs := by
  have hexec : exec (.coolantFlowLow n) s = execCoolantFlowLow n s := rfl
  rw [hexec, execCoolantFlowLow, he]
  dsimp only
  rw [if_pos ⟨hlow, hflag⟩]
  exact ⟨_, rfl, coolantLow_spec hlen 0x0804 2 n _ e.flowCeil⟩

/-- COOLANT_FLOW_RELEASE of a channel whose flow has held. -/
theorem coolantFlowRelease_clears (hlen : n < s.yms.throttle.length) {e : Curve} (he : s.curve? n = some e)
    (hlow : s.flowLow n e = some false) (hflag : s.flag (F.HRN_Sn_COOL_STATE_FLOW_LOW n) = true) :
    ∃ t, exec (.coolantFlowRelease n) s = .next t ∧
      t.flag (F.HRN_Sn_COOL_STATE_FLOW_LOW n) = false ∧ 6 ∉ (t.yms.throttle.getD n Throttle.init).overs := by
  have hexec : exec (.coolantFlowRelease n) s = execCoolantFlowRelease n s := rfl
  rw [hexec, execCoolantFlowRelease, he]
  dsimp only
  rw [if_pos ⟨hlow, hflag⟩]
  have hyms : (s.setB (F.HRN_Sn_COOL_STATE_FLOW_LOW n) false).yms = s.yms := rfl
  refine ⟨_, rfl, ?_, throttleDrop_overs (by rw [hyms]; exact hlen) _⟩
  rw [flag_outside 8 (throttleDrop_within _ _ _) rfl rfl]
  exact setB_false_flag s _

end Sys2Proof.CommandLaws

namespace Sys2Proof

open Sys2Proof.Machine Sys2Proof.Laws Sys2Proof.CommandLaws

/-- Settles O39, command by command. -/
theorem trough : Obligations.Trough := by
  intro s n hn h48 hthr
  refine ⟨fun p tag d h htgt => ?_, fun hpower => ?_, fun e he => ⟨coolantFlowLow_marks (Nat.lt_of_lt_of_eq h48 hthr.symm) he, coolantFlowRelease_clears (Nat.lt_of_lt_of_eq h48 hthr.symm) he⟩,
    fun p tag d h hb => ?_⟩
  · subst htgt
    have hexec : exec (.coolingSet p tag) s = execCoolingSet p tag s := rfl
    rw [hexec, execCoolingSet, ready_take h _ (by decide)]
    refine ⟨fun hbad => ⟨_, rfl, ?_⟩, fun hgood => ⟨fun hcurve => ⟨_, rfl, ?_⟩, fun hcurve => ⟨fun h2 hen => ⟨_, rfl, ?_⟩, fun hmay => ⟨_, rfl, ?_⟩⟩⟩⟩
    all_goals dsimp only
    · rw [if_pos (show 2 < (takenDesc d).arg 24 1 ∨ 1000 < (takenDesc d).arg 26 2 ∨ 200 < (takenDesc d).arg 28 1 from hbad)]
      exact ready_answered h (ready_inFlight h) (List.prefix_refl _) 0x40 0
    · rw [if_neg (show ¬(2 < (takenDesc d).arg 24 1 ∨ 1000 < (takenDesc d).arg 26 2 ∨ 200 < (takenDesc d).arg 28 1) from hgood),
        if_pos (show (taken s p d).hasCurve d.target = false from hcurve)]
      exact ready_answered h (ready_inFlight h) (List.prefix_refl _) 0x47 0
    · rw [if_neg (show ¬(2 < (takenDesc d).arg 24 1 ∨ 1000 < (takenDesc d).arg 26 2 ∨ 200 < (takenDesc d).arg 28 1) from hgood),
        if_neg (show ¬(taken s p d).hasCurve d.target = false by rw [show (taken s p d).hasCurve d.target = true from hcurve]; decide),
        if_pos (show (takenDesc d).arg 24 1 = 2 ∧ ((taken s p d).modeRest d.target = false ∨ (taken s p d).contactorClosed d.target = true) from
          ⟨h2, hen⟩)]
      exact ready_answered h (ready_inFlight h) (List.prefix_refl _) 0x44 0
    · rw [if_neg (show ¬(2 < (takenDesc d).arg 24 1 ∨ 1000 < (takenDesc d).arg 26 2 ∨ 200 < (takenDesc d).arg 28 1) from hgood),
        if_neg (show ¬(taken s p d).hasCurve d.target = false by rw [show (taken s p d).hasCurve d.target = true from hcurve]; decide),
        if_neg (show ¬((takenDesc d).arg 24 1 = 2 ∧ ((taken s p d).modeRest d.target = false ∨ (taken s p d).contactorClosed d.target = true)) from
          fun hc => hmay.elim (fun hne => hne hc.1) fun hrest => hrest hc.2)]
      have hmode : d.arg 24 1 ≤ 2 := Nat.not_lt.mp fun h => hgood (.inl h)
      have hpump : d.arg 26 2 ≤ 1000 := Nat.not_lt.mp fun h => hgood (.inr (.inl h))
      have hvalve : d.arg 28 1 ≤ 200 := Nat.not_lt.mp fun h => hgood (.inr (.inr h))
      obtain ⟨h1, h2, h3⟩ := coolFloor_get (taken s p d) d.target (mode := d.arg 24 1) (pump := if d.arg 24 1 = 0 then 0 else d.arg 26 2)
        (valve := if d.arg 24 1 = 0 then 0 else d.arg 28 1) (by omega) (by split <;> omega) (by split <;> omega)
      exact ⟨h1, List.mem_append_right _ (List.mem_singleton_self _), fun h0 => ⟨h2.trans (if_neg h0), h3.trans (if_neg h0)⟩⟩
  · exact ⟨_, troughEvaluation_eq hpower, troughEvaluation_spec h48 hn⟩
  · refine ⟨fun h15 => ⟨_, hrnFaultClear_refused h h15, ?_⟩, fun h15 => ⟨_, hrnFaultClear_eq h h15, faultClear_spec h hb⟩⟩
    exact ready_answered h (ready_inFlight h) (List.prefix_refl _) 0x40 0

end Sys2Proof
end

section
/-!
PROOFS. Wall time, the legal tick, intervals and tariff switches (R263-R287) and the settling of O33.
-/
set_option Elab.async false -- the kernel evaluations wait for each other: keep them in one thread
namespace Sys2Proof.CommandLaws

open Sys2Proof.Machine Sys2Proof.Laws Sys2Proof.PaddockLaws

variable {s t u : State} {f g : Fld} {b n m : Nat}

/-! ### What leaves the clock alone -/

/-- From `s` to `t` the clock, its validity and the steps that wait stand, and no descriptor ends. -/
structure ClockKept (s t : State) : Prop where
  clk : t.bil.clk = s.bil.clk
  wait : t.bil.stepWait = s.bil.stepWait
  valid : t.flag F.BIL_TIME_STATUS_VALID = s.flag F.BIL_TIME_STATUS_VALID
  quiet : Quiet s t

theorem ClockKept.refl (s : State) : ClockKept s s := ⟨rfl, rfl, rfl, Quiet.refl s⟩

theorem ClockKept.trans (h : ClockKept s t) (h' : ClockKept t u) : ClockKept s u :=
  ⟨h'.clk.trans h.clk, h'.wait.trans h.wait, h'.valid.trans h.valid, h.quiet.trans h'.quiet⟩

theorem ClockKept.set (h : ClockKept s t) (f : Fld) (v : Nat) (hf : F.BIL_TIME_STATUS_VALID.key ≠ f.key) : ClockKept s (t.set f v) :=
  h.trans ⟨rfl, rfl, by rw [State.flag, get_set_ne t v hf, State.flag], (Quiet.refl t).set f v⟩

theorem ClockKept.raise (h : ClockKept s t) (code sev src : Nat) (pay : List Nat) : ClockKept s (t.raise code sev src pay) :=
  have hw := raise_within t code sev src pay
  h.trans ⟨by rw [hw.bil rfl], by rw [hw.bil rfl], flag_outside 6 hw rfl rfl, (Quiet.refl t).raise _ _ _ _⟩

theorem Quiet.modBil (h : Quiet s t) (g : Bil → Bil) : Quiet s (t.modBil g) := h.trans ⟨List.prefix_refl _, fun _ => rfl, rfl⟩

theorem ClockKept.modBil (h : ClockKept s t) (g : Bil → Bil) (hc : (g t.bil).clk = t.bil.clk) (hw : (g t.bil).stepWait = t.bil.stepWait) :
    ClockKept s (t.modBil g) :=
  h.trans ⟨hc, hw, rfl, List.prefix_refl _, fun _ => rfl, rfl⟩

theorem ClockKept.logEvent (h : ClockKept s t) (e : Ev) (force : Bool) : ClockKept s (t.logEvent e force) :=
  have hw := logEvent_within t e force
  h.trans ⟨by rw [hw.bil rfl], by rw [hw.bil rfl], flag_outside 6 hw rfl rfl, (Quiet.refl t).logEvent _ _⟩

theorem ClockKept.raiseLogged (h : ClockKept s t) (code sev src : Nat) (pay : List Nat) : ClockKept s (t.raiseLogged code sev src pay) := by
  unfold State.raiseLogged
  split
  · exact h.raise _ _ _ _
  · exact (h.raise _ _ _ _).logEvent _ _

theorem ClockKept.closeInterval (h : ClockKept s t) (fl new : Nat) : ClockKept s (t.closeInterval fl new).2 :=
  ((h.modBil _ rfl rfl).set F.BIL_TIME_STATUS_TIME_BACK _ (by decide)).raise _ _ _ _

theorem ClockKept.switchTariff (h : ClockKept s t) (k cause : Nat) : ClockKept s (t.switchTariff k cause) := by
  unfold State.switchTariff
  extract_lets old s1
  have h1 : ClockKept s s1 := (h.modBil _ rfl rfl).set F.BIL_LAST_SWITCH _ (by decide)
  split
  · exact h1
  · exact h1.raise _ _ _ _

theorem Quiet.addSplit (h : Quiet s t) (at_ : Nat) (ch : Option Nat) (steps : List Step) : Quiet s (t.addSplit at_ ch steps) := by
  unfold State.addSplit
  split
  · exact h.trans ⟨List.prefix_refl _, fun _ => rfl, rfl⟩
  · extract_lets to_ steps' s1 s2
    have h1 : Quiet s s1 := (h.set _ _).raise _ _ _ _
    have h2 : Quiet s s2 := Quiet.foldl (fun u c hu => hu.within (modMet_within u c _) rfl) h1
    exact h2.trans ⟨List.prefix_refl _, fun _ => rfl, rfl⟩

theorem addSplit_bil (s : State) (at_ : Nat) (ch : Option Nat) (steps : List Step) : (s.addSplit at_ ch steps).bil = s.bil :=
  (addSplit_within s at_ ch steps).bil rfl

theorem ClockKept.addSplit (h : ClockKept s t) (at_ : Nat) (ch : Option Nat) (steps : List Step) : ClockKept s (t.addSplit at_ ch steps) :=
  h.trans ⟨by rw [addSplit_bil], by rw [addSplit_bil], flag_outside 6 (addSplit_within t at_ ch steps) rfl rfl, (Quiet.refl t).addSplit _ _ _⟩

theorem ClockKept.refreshHeld (h : ClockKept s t) : ClockKept s t.refreshHeld := by
  unfold State.refreshHeld
  extract_lets held full s1 s2 s3
  have h1 : ClockKept s s1 := by
    unfold s1
    split
    · exact h.raise _ _ _ _
    · exact h
  have h2 : ClockKept s s2 := (h1.set F.BIL_STATUS_STORE_FULL _ (by decide)).set F.DRO_STATUS_HELD _ (by decide)
  have h3 : ClockKept s s3 := by
    unfold s3
    split
    · exact h2.raise _ _ _ _
    · exact h2
  exact h3.set F.BIL_STATUS_SESSIONS_HELD _ (by decide)

/-! ### Intervals and tariff switches -/

/-- Billing once the open interval has closed (R273). -/
def closedBil (s : State) (new : Nat) : Bil :=
  let b := s.bil
  let min' := if b.ivWall / 65536 / 86400 < s.wall / 65536 / 86400 then s.get F.BIL_INTERVAL_CFG_MINUTES else b.ivMin
  { b with
    ivWall := s.wall, ivTick := s.get F.BIL_TICK, ivAt := s.chrono, ivMin := min', ivEnd := nextBoundary min' s.wall, ivTariff := b.tariff
    ivFlags := setBitOf new 6 s.tamperOpen, lastEnd := s.wall, blockSeq := b.blockSeq + 1 }

theorem closeInterval_bil (s : State) (fl new : Nat) : (s.closeInterval fl new).2.bil = closedBil s new :=
  (raise_within _ _ _ _ _).bil rfl

theorem closeInterval_wall (s : State) (fl new : Nat) : (s.closeInterval fl new).2.wall = s.wall := by
  rw [State.wall, State.wallAt, closeInterval_bil, (closeInterval_within s fl new).chrono rfl]
  rfl

theorem switchTariff_bil (s : State) (k cause : Nat) : (s.switchTariff k cause).bil =
    { s.bil with tariff := k, ivTariff := if s.bil.ivAt = (s.chrono : Int) then k else s.bil.ivTariff, switched := s.wall } := by
  unfold State.switchTariff
  extract_lets old s1
  split
  · rfl
  · exact (raise_within _ _ _ _ _).bil rfl

theorem switchTariff_last (s : State) (k cause : Nat) : (s.switchTariff k cause).get F.BIL_LAST_SWITCH = s.wall % 2 ^ 64 := by
  unfold State.switchTariff
  extract_lets old s1
  have h1 : s1.get F.BIL_LAST_SWITCH = s.wall % 2 ^ 64 := get_set_self _ F.BIL_LAST_SWITCH _
  split
  · exact h1
  · exact (get_raise _ _ _ _ rfl).trans h1

theorem lastSwitch_some (hfrozen : s.bil.frozen = false) (hvalid : s.flag F.BIL_TIME_STATUS_VALID = true) :
    s.lastSwitch = calSwitch s.bil.calTab s.wall := by
  rw [State.lastSwitch, if_neg (by simp [hfrozen, hvalid])]

theorem newTariff_spec {x : Nat × Nat} (hx : s.lastSwitch = some x) :
    s.newTariff = some x.2 ∨ s.newTariff = none ∧ s.bil.tariff = x.2 := by
  rw [State.newTariff, hx]
  dsimp only
  split
  next h => exact .inr ⟨rfl, h.symm⟩
  next => exact .inl rfl

/-- A switch that the calendar has reached is due, or its tariff is the one in force already. -/
theorem dueTariff_spec {x : Nat × Nat} (hx : s.lastSwitch = some x) :
    s.dueTariff = some x.2 ∨ s.dueTariff = none ∧ s.bil.tariff = x.2 ∧ ¬ s.bil.switched < x.1 := by
  rw [State.dueTariff, hx]
  dsimp only
  split
  · exact .inl rfl
  next h =>
    rcases newTariff_spec hx with hn | ⟨hn, ht⟩
    · exact .inl hn
    · exact .inr ⟨hn, ht, h⟩

theorem ClockKept.applyTariff (h : ClockKept s t) (cause : Nat) : ClockKept s (t.applyTariff cause) := by
  unfold State.applyTariff
  split
  · exact (h.switchTariff _ _).addSplit _ _ _
  · exact h.modBil _ rfl rfl

theorem applyTariff_bil (s : State) (cause : Nat) : (s.applyTariff cause).bil.frozen = s.bil.frozen ∧
    ∀ x, s.lastSwitch = some x → (s.applyTariff cause).bil.tariff = x.2 := by
  unfold State.applyTariff
  split
  next k hk =>
    rw [addSplit_bil, switchTariff_bil]
    refine ⟨rfl, fun x hx => ?_⟩
    rcases newTariff_spec hx with hn | ⟨hn, -⟩
    · exact Option.some.inj (hk.symm.trans hn)
    · exact absurd (hk.symm.trans hn) (Option.some_ne_none k)
  next hk =>
    refine ⟨rfl, fun x hx => ?_⟩
    rcases newTariff_spec hx with hn | ⟨-, ht⟩
    · exact absurd (hk.symm.trans hn).symm (Option.some_ne_none _)
    · exact ht

theorem applyTariff_frozenFlag (s : State) (cause : Nat) :
    (s.applyTariff cause).flag F.BIL_STATUS_TIME_FROZEN = s.flag F.BIL_STATUS_TIME_FROZEN := by
  unfold State.applyTariff
  split
  · rw [flag_outside 6 (addSplit_within _ _ _ _) rfl rfl]
    unfold State.switchTariff
    extract_lets old s1
    have h1 : s1.flag F.BIL_STATUS_TIME_FROZEN = s.flag F.BIL_STATUS_TIME_FROZEN := by
      unfold s1
      rw [State.flag, get_set_reg _ rfl]
      rfl
    split
    · exact h1
    · exact (flag_outside 6 (raise_within _ _ _ _ _) rfl rfl).trans h1
  · rfl

/-! ### Steps of wall time -/

/-- From `s` to `t` wall time has been stepped to `new` at the Chronobase `at_`. -/
structure Stepped (s : State) (at_ new : Nat) (t : State) : Prop where
  clk : t.bil.clk = ⟨(new : Int) * wallUnit, at_, 0, 0⟩
  wait : t.bil.stepWait = s.bil.stepWait
  valid : t.flag F.BIL_TIME_STATUS_VALID = true
  quiet : Quiet s t

theorem Stepped.kept {at_ new : Nat} (h : Stepped s at_ new t) (hk : ClockKept t u) : Stepped s at_ new u :=
  ⟨hk.clk.trans h.clk, hk.wait.trans h.wait, hk.valid.trans h.valid, h.quiet.trans hk.quiet⟩

/-- A step changes the clock; then it answers, or captures its TIME record where it is above 2 s. -/
theorem timeStep_spec (s : State) (at_ new p num : Nat) :
    let delta := (new : Int) * wallUnit - s.bil.clk.fine at_
    ∃ u r, Stepped s at_ new u ∧ s.timeStep at_ new p num =
      if decide (twoSeconds < delta) || decide (delta < -twoSeconds) then u.capture r else u.finish p num 0x00 0 := by
  intro delta
  unfold State.timeStep
  extract_lets old big s1 s2 w frozen s3 c r q s4 s5 plain
  have h1 : Quiet s s1 := ⟨List.prefix_refl _, fun _ => rfl, rfl⟩
  have h2 : Stepped s at_ new s2 :=
    ⟨rfl, rfl, flag_setB_true _ F.BIL_TIME_STATUS_VALID rfl, (h1.set F.BIL_TIME_STATUS_SLEWING _).set F.BIL_TIME_STATUS_VALID _⟩
  have h3 : ClockKept s2 s3 := ((ClockKept.refl s2).modBil _ rfl rfl).set F.BIL_STATUS_TIME_FROZEN _ (by decide)
  have hr : ClockKept s2 r.2 := by
    unfold r
    split
    · exact h3
    · split
      · split
        · exact h3.closeInterval 8 8
        · dsimp only
          exact h3.modBil _ rfl rfl
      · refine ClockKept.set ?_ F.BIL_TIME_STATUS_TIME_BACK 1 (by decide)
        exact h3.modBil _ rfl rfl
  have hq : ClockKept s2 q.2 := by
    unfold q
    split
    · exact hr.switchTariff _ _
    · exact hr
  have h4 : ClockKept s2 s4 := by
    unfold s4
    split
    · exact hq
    · exact hq.addSplit _ _ _
  exact ⟨s5, _, h2.kept (h4.raiseLogged _ _ _ _).refreshHeld, rfl⟩

theorem capture_clock (s : State) (r : Reading) : (s.capture r).bil.clk = s.bil.clk ∧ (s.capture r).bil.stepWait = s.bil.stepWait ∧
    (s.capture r).flag F.BIL_TIME_STATUS_VALID = s.flag F.BIL_TIME_STATUS_VALID := by
  unfold State.capture State.captureIn
  split
  · refine ⟨rfl, rfl, ?_⟩
    have hget : (s.inc F.BIL_REC_SEQ).get F.BIL_TIME_STATUS_VALID = s.get F.BIL_TIME_STATUS_VALID := get_set_reg _ rfl
    exact congrArg (fun v => v != 0) hget
  · exact ⟨rfl, rfl, rfl⟩

/-- After a step, be it recorded or answered, the clock stands at the new time. -/
theorem timeStep_clock (s : State) (at_ new p num : Nat) :
    (s.timeStep at_ new p num).bil.clk = ⟨(new : Int) * wallUnit, at_, 0, 0⟩ ∧
      (s.timeStep at_ new p num).bil.stepWait = s.bil.stepWait ∧ (s.timeStep at_ new p num).flag F.BIL_TIME_STATUS_VALID = true := by
  obtain ⟨u, r, hu, heq⟩ := timeStep_spec s at_ new p num
  rw [heq]
  split
  · obtain ⟨hc, hw, hv⟩ := capture_clock u r
    exact ⟨hc.trans hu.clk, hw.trans hu.wait, hv.trans hu.valid⟩
  · have hf := finish_within u p num 0x00 0 false
    exact ⟨by rw [hf.bil rfl]; exact hu.clk, by rw [hf.bil rfl]; exact hu.wait, (flag_outside 6 hf rfl rfl).trans hu.valid⟩

/-! ### TIME_SET -/

/-- The instant that a TIME_SET names. -/
def timeAt (s : State) (d : Desc) : Nat := if d.arg 40 8 = 0 then s.chrono else d.arg 40 8

/-- What a TIME_SET adds to wall time. -/
def timeDelta (s : State) (d : Desc) : Int := (d.arg 24 8 : Int) * wallUnit - s.bil.clk.fine (timeAt s d)

/-- A TIME_SET that is refused (R268, R270, R271). -/
def timeBad (s : State) (d : Desc) : Bool :=
  decide (1 < d.arg 32 1) || (if d.arg 32 1 = 1 then decide (200 < d.arg 33 1) else decide (d.arg 33 1 ≠ 0)) ||
    decide (s.chrono + 250000000 < timeAt s d) || decide (timeAt s d + 250000000 < s.chrono) ||
    (s.bil.genesis && decide (d.arg 24 8 < s.bil.genesisWall)) ||
    (decide (d.arg 32 1 = 1) && (decide (5 * twoSeconds < timeDelta s d) || decide (timeDelta s d < -(5 * twoSeconds))))

/-- The clock with which a slew by `delta` at `ppm` starts. -/
def slewClock (s : State) (delta : Int) (ppm : Nat) : Clock :=
  ⟨s.bil.clk.fine s.chrono, s.chrono, if delta < 0 then -(ppm : Int) else if delta = 0 then 0 else ppm, delta⟩

theorem timeSet_refused {p tag : Nat} {d : Desc} (h : s.Ready p tag 0x0601 d) (hbad : timeBad s d = true) :
    ∃ t, exec (.timeSet p tag) s = .next t ∧ s.Ended t p tag 0x40 0 ∧ t.bil.clk = s.bil.clk := by
  have hexec : exec (.timeSet p tag) s = execTimeSet p tag s := rfl
  rw [hexec, execTimeSet, ready_take h _ (by decide)]
  refine ⟨_, congrArg Host.Outcome.next (if_pos hbad), ready_answered h (ready_inFlight h) (List.prefix_refl _) 0x40 0, ?_⟩
  rw [(finish_within _ _ _ _ _ _).bil rfl]
  rfl

theorem timeSet_slews {p tag : Nat} {d : Desc} (h : s.Ready p tag 0x0601 d) (hbad : timeBad s d = false) (hmode : d.arg 32 1 = 1) :
    ∃ t r, exec (.timeSet p tag) s = .next t ∧ s.Ended t p tag 0x00 r ∧ t.bil.clk.total = timeDelta s d ∧ t.bil.clk.at_ = s.chrono := by
  have hexec : exec (.timeSet p tag) s = execTimeSet p tag s := rfl
  rw [hexec, execTimeSet, ready_take h _ (by decide)]
  have hbad' : ¬ timeBad s d = true := by simp [hbad]
  let ppm := if d.arg 33 1 = 0 then 200 else d.arg 33 1
  let u := ((taken s p d).modBil fun b => { b with clk := slewClock s (timeDelta s d) ppm }).setB F.BIL_TIME_STATUS_SLEWING
    (decide (timeDelta s d ≠ 0))
  let left := (Config.rnd (((timeDelta s d).natAbs : Int) * 1000000) (65536 * 250000000000000 * ppm)).toNat
  have hu : InFlight u p d.num (takenDesc d) := (ready_inFlight h).congr rfl
  refine ⟨u.finish p d.num 0x00 left, left % 2 ^ 32, congrArg Host.Outcome.next ((if_neg hbad').trans (if_pos hmode)),
    ready_answered h hu (List.prefix_refl _) 0x00 left, ?_⟩
  rw [(finish_within _ _ _ _ _ _).bil rfl]
  exact ⟨rfl, rfl⟩

/-- A step ends the slew that runs (R271): the clock goes on from what it shows. -/
def stilled (s : State) : State :=
  (s.modBil fun b => { b with clk := ⟨b.clk.fine s.chrono, s.chrono, 0, 0⟩ }).setB F.BIL_TIME_STATUS_SLEWING false

theorem stilled_chrono (s : State) : (stilled s).chrono = s.chrono := by
  simp only [stilled, State.setB, State.set, State.modBil]

theorem stilled_quiet (s : State) : Quiet s (stilled s) := ((Quiet.refl s).modBil _).set F.BIL_TIME_STATUS_SLEWING _

theorem stilled_fine (s : State) : (stilled s).bil.clk.fine s.chrono = s.bil.clk.fine s.chrono := by
  show s.bil.clk.fine s.chrono + ((s.chrono : Int) - s.chrono) * 65536 * (1000000 + 0) = _
  rw [Int.sub_self, Int.zero_mul, Int.zero_mul, Int.add_zero]

/-- A step of at most 2 s at once. -/
theorem timeSet_steps {p tag : Nat} {d : Desc} (h : s.Ready p tag 0x0601 d) (hbad : timeBad s d = false) (hmode : d.arg 32 1 = 0)
    (hat : timeAt s d = s.chrono) (hlow : -twoSeconds ≤ timeDelta s d) (hhigh : timeDelta s d ≤ twoSeconds) :
    ∃ t, exec (.timeSet p tag) s = .next t ∧ s.Ended t p tag 0x00 0 ∧ t.flag F.BIL_TIME_STATUS_VALID = true ∧
      t.bil.clk = ⟨(d.arg 24 8 : Int) * wallUnit, s.chrono, 0, 0⟩ := by
  have hexec : exec (.timeSet p tag) s = execTimeSet p tag s := rfl
  rw [hexec, execTimeSet, ready_take h _ (by decide)]
  have hbad' : ¬ timeBad s d = true := by simp [hbad]
  have hmode' : ¬ d.arg 32 1 = 1 := by omega
  have hsmall : ¬ ((twoSeconds < timeDelta s d ∨ timeDelta s d < -twoSeconds) ∧
    ((taken s p d).get F.TCK_LIFECYCLE_STATE ≠ 3 ∨ (taken s p d).bil.genesis = false)) := by omega
  let v := stilled (taken s p d)
  have hv : Quiet (taken s p d) v := stilled_quiet _
  have hchrono : v.chrono = s.chrono := stilled_chrono _
  have hnow : ¬ v.chrono < timeAt s d := by rw [hchrono, hat]; exact Nat.lt_irrefl _
  have hdelta : (d.arg 24 8 : Int) * wallUnit - v.bil.clk.fine (timeAt s d) = timeDelta s d := by
    rw [timeDelta, hat]
    exact congrArg (_ - ·) (stilled_fine (taken s p d))
  obtain ⟨u, r, hu, heq⟩ := timeStep_spec v (timeAt s d) (d.arg 24 8) p d.num
  rw [hdelta, if_neg (by simp only [Bool.or_eq_true, decide_eq_true_eq]; omega)] at heq
  refine ⟨u.finish p d.num 0x00 0, ?_, ready_answered h ((ready_inFlight h).quiet (hv.trans hu.quiet)) (hv.trans hu.quiet).out 0x00 0, ?_, ?_⟩
  · rw [← heq]
    refine congrArg Host.Outcome.next ((if_neg hbad').trans ((if_neg hmode').trans ((if_neg hsmall).trans ?_)))
    exact if_neg hnow
  · exact (flag_outside 6 (finish_within _ _ _ _ _ _) rfl rfl).trans hu.valid
  · rw [(finish_within _ _ _ _ _ _).bil rfl, ← hat]
    exact hu.clk

/-! ### BILLING_BOUNDARY and TARIFF_FREEZE_END -/

/-- What BILLING_BOUNDARY does with the open interval: it closes, or stays (R272). -/
def boundaryClose (s : State) (close : Bool) : List Step × State :=
  if close then ([(s.closeInterval 0 0).1], (s.closeInterval 0 0).2) else ([], s)

/-- With the interval settled, the switch that is due, if any. -/
def boundarySwitch (r : List Step × State) : List Step × State :=
  match r.2.dueTariff with
  | some k => (r.1 ++ [r.2.tariffStep k], r.2.switchTariff k 0)
  | none => r

/-- The seal of the day and the split point leave all but the time of the last seal as the switch left it (R281). -/
theorem billingBoundary_eq (hmeters : s.metersOn = true) (hvalid : s.flag F.BIL_TIME_STATUS_VALID = true) :
    let y := (boundarySwitch (boundaryClose s (decide (s.bil.ivEnd ≤ s.wall) && !s.noInterval))).2
    ∃ t day, exec .billingBoundary s = .next t ∧ t.bil = { y.bil with lastSeal := day } ∧ t.get F.BIL_LAST_SWITCH = y.get F.BIL_LAST_SWITCH := by
  intro y
  have hexec : exec .billingBoundary s = execBillingBoundary s := rfl
  rw [hexec, execBillingBoundary, if_neg (by simp [hmeters, hvalid])]
  extract_lets w close midnight sealing c r q t
  have hq : q.2 = y := rfl
  clear_value y
  obtain ⟨day, hbil, hget⟩ : ∃ day, t.2.bil = { y.bil with lastSeal := day } ∧ t.2.get F.BIL_LAST_SWITCH = y.get F.BIL_LAST_SWITCH := by
    rw [← hq]
    unfold t
    split
    · exact ⟨midnight, rfl, rfl⟩
    · exact ⟨q.2.bil.lastSeal, rfl, rfl⟩
  refine ⟨_, day, rfl, ?_⟩
  split
  · exact ⟨hbil, hget⟩
  · exact ⟨(addSplit_bil _ _ _ _).trans hbil, (get_outside 6 (addSplit_within _ _ _ _) rfl rfl).trans hget⟩

/-- Closing the interval moves neither wall time nor the calendar. -/
theorem boundaryClose_switch (s : State) (close : Bool) :
    (boundaryClose s close).2.wall = s.wall ∧ (boundaryClose s close).2.lastSwitch = s.lastSwitch ∧
      (boundaryClose s close).2.bil.switched = s.bil.switched := by
  cases close with
  | false => exact ⟨rfl, rfl, rfl⟩
  | true =>
    show (s.closeInterval 0 0).2.wall = _ ∧ (s.closeInterval 0 0).2.lastSwitch = _ ∧ (s.closeInterval 0 0).2.bil.switched = _
    refine ⟨closeInterval_wall s 0 0, ?_, by rw [closeInterval_bil]; rfl⟩
    rw [State.lastSwitch, State.lastSwitch, ((ClockKept.refl s).closeInterval 0 0).valid, closeInterval_wall, closeInterval_bil]
    rfl

theorem boundarySwitch_bil (r : List Step × State) {x : Nat × Nat} (hx : r.2.lastSwitch = some x) :
    (boundarySwitch r).2.bil.tariff = x.2 ∧ (r.2.bil.switched < x.1 → (boundarySwitch r).2.get F.BIL_LAST_SWITCH = r.2.wall % 2 ^ 64) := by
  unfold boundarySwitch
  rcases dueTariff_spec hx with hk | ⟨hk, htariff, hdone⟩ <;> rw [hk] <;> dsimp only
  · rw [switchTariff_bil]
    exact ⟨rfl, fun _ => switchTariff_last _ _ _⟩
  · exact ⟨htariff, fun hnot => absurd hnot hdone⟩

/-- What a switch leaves of the interval. -/
theorem boundarySwitch_interval (r : List Step × State) :
    let b := (boundarySwitch r).2.bil
    b.blockSeq = r.2.bil.blockSeq ∧ b.ivWall = r.2.bil.ivWall ∧ b.lastEnd = r.2.bil.lastEnd ∧ b.ivEnd = r.2.bil.ivEnd ∧ b.ivMin = r.2.bil.ivMin := by
  unfold boundarySwitch
  cases r.2.dueTariff with
  | none => exact ⟨rfl, rfl, rfl, rfl, rfl⟩
  | some k =>
    dsimp only
    rw [switchTariff_bil]
    exact ⟨rfl, rfl, rfl, rfl, rfl⟩

/-- An interval that ends closes, and the next opens (R272, R273). -/
theorem boundary_closes (hmeters : s.metersOn = true) (hvalid : s.flag F.BIL_TIME_STATUS_VALID = true) (hend : s.bil.ivEnd ≤ s.wall)
    (hopen : s.noInterval = false) :
    ∃ t, exec .billingBoundary s = .next t ∧ t.bil.blockSeq = s.bil.blockSeq + 1 ∧ t.bil.ivWall = s.wall ∧ t.bil.lastEnd = s.wall ∧
      t.bil.ivEnd = nextBoundary t.bil.ivMin s.wall ∧
      (∀ x, s.bil.frozen = false → calSwitch s.bil.calTab s.wall = some x → t.bil.tariff = x.2) := by
  obtain ⟨t, day, ht, hbil, -⟩ := billingBoundary_eq hmeters hvalid
  obtain ⟨-, hlast, -⟩ := boundaryClose_switch s true
  obtain ⟨hseq, hwall, hlastEnd, hivEnd, hmin⟩ := boundarySwitch_interval (boundaryClose s true)
  rw [show (decide (s.bil.ivEnd ≤ s.wall) && !s.noInterval) = true by simp [hend, hopen]] at hbil
  have hclosed : (boundaryClose s true).2.bil = closedBil s 0 := closeInterval_bil s 0 0
  rw [hclosed] at hseq hwall hlastEnd hivEnd hmin
  refine ⟨t, ht, ?_⟩
  rw [hbil]
  refine ⟨hseq, hwall, hlastEnd, ?_, fun x hfrozen hx => ?_⟩
  · show (boundarySwitch (boundaryClose s true)).2.bil.ivEnd = nextBoundary (boundarySwitch (boundaryClose s true)).2.bil.ivMin s.wall
    rw [hivEnd, hmin]
    rfl
  · exact (boundarySwitch_bil _ (hlast.trans ((lastSwitch_some hfrozen hvalid).trans hx))).1

/-- Before its end the interval stays open. -/
theorem boundary_stays (hmeters : s.metersOn = true) (hvalid : s.flag F.BIL_TIME_STATUS_VALID = true) (hend : s.wall < s.bil.ivEnd) :
    ∃ t, exec .billingBoundary s = .next t ∧ t.bil.blockSeq = s.bil.blockSeq ∧
      (∀ x, s.bil.frozen = false → calSwitch s.bil.calTab s.wall = some x →
        t.bil.tariff = x.2 ∧ (s.bil.switched < x.1 → t.get F.BIL_LAST_SWITCH = s.wall % 2 ^ 64)) := by
  obtain ⟨t, day, ht, hbil, hget⟩ := billingBoundary_eq hmeters hvalid
  obtain ⟨hseq, -⟩ := boundarySwitch_interval (boundaryClose s false)
  rw [show (decide (s.bil.ivEnd ≤ s.wall) && !s.noInterval) = false by simp [Nat.not_le.mpr hend]] at hbil hget
  refine ⟨t, ht, by rw [hbil]; exact hseq, fun x hfrozen hx => ?_⟩
  obtain ⟨htariff, hswitch⟩ := boundarySwitch_bil (boundaryClose s false) ((lastSwitch_some hfrozen hvalid).trans hx)
  exact ⟨by rw [hbil]; exact htariff, fun hlate => hget.trans (hswitch hlate)⟩

/-- The state in which switching is no longer frozen. -/
def thawed (s : State) : State := (s.modBil fun b => { b with frozen := false }).setB F.BIL_STATUS_TIME_FROZEN false

theorem thawed_bil (s : State) : (thawed s).bil = { s.bil with frozen := false } := by
  simp only [thawed, State.setB, State.set, State.modBil]

theorem thawed_wall (s : State) : (thawed s).wall = s.wall := by
  simp only [State.wall, State.wallAt, thawed_bil]
  simp only [thawed, State.setB, State.set, State.modBil]

theorem thawed_valid (s : State) : (thawed s).flag F.BIL_TIME_STATUS_VALID = s.flag F.BIL_TIME_STATUS_VALID := by
  have hget : (thawed s).get F.BIL_TIME_STATUS_VALID = s.get F.BIL_TIME_STATUS_VALID := get_set_reg _ rfl
  rw [State.flag, hget, State.flag]

/-- A freeze that ends lets the calendar's tariff in (R275). -/
theorem freeze_ends (hmeters : s.metersOn = true) (hvalid : s.flag F.BIL_TIME_STATUS_VALID = true) (hfrozen : s.bil.frozen = true)
    (hpast : s.get F.BIL_LAST_SWITCH ≤ s.wall) :
    ∃ t, exec .tariffFreezeEnd s = .next t ∧ t.bil.frozen = false ∧ t.flag F.BIL_STATUS_TIME_FROZEN = false ∧
      ∀ x, calSwitch s.bil.calTab s.wall = some x → t.bil.tariff = x.2 := by
  have hexec : exec .tariffFreezeEnd s = execTariffFreezeEnd s := rfl
  rw [hexec, execTariffFreezeEnd, if_neg (by simp [hfrozen, hmeters, hvalid, hpast])]
  obtain ⟨hthawed, htariff⟩ := applyTariff_bil (thawed s) 2
  have hoff : (thawed s).bil.frozen = false := by rw [thawed_bil]
  have hflag : (thawed s).flag F.BIL_STATUS_TIME_FROZEN = false := flag_setB _ F.BIL_STATUS_TIME_FROZEN false rfl
  refine ⟨(thawed s).applyTariff 2, rfl, hthawed.trans hoff, (applyTariff_frozenFlag _ 2).trans hflag, fun x hx => htariff x ?_⟩
  rw [lastSwitch_some hoff ((thawed_valid s).trans hvalid), thawed_wall, thawed_bil]
  exact hx

end Sys2Proof.CommandLaws

namespace Sys2Proof

open Sys2Proof.Machine Sys2Proof.Laws Sys2Proof.CommandLaws Sys2Proof.PaddockLaws

/-- Settles O33, command by command. -/
theorem wallTime : Obligations.WallTime := by
  intro s
  refine ⟨⟨_, rfl, get_set_self _ F.BIL_TICK _⟩, fun p tag d h => ⟨fun hmode => ?_, fun hat hfar => ?_, fun hat hgenesis => ⟨?_, ?_⟩⟩,
    fun x rest hwait hdue => ?_, fun hslew => ?_, fun hmeters hvalid => ⟨boundary_closes hmeters hvalid, boundary_stays hmeters hvalid,
      freeze_ends hmeters hvalid⟩⟩
  · exact timeSet_refused h (by simp [timeBad, hmode])
  · exact timeSet_refused h (by rcases hfar with hfar | hfar <;> simp [timeBad, timeAt, hat, hfar])
  · intro hmode hrate hlow hhigh
    have hdelta : timeDelta s d = (d.arg 24 8 : Int) * wallUnit - s.bil.clk.fine s.chrono := by rw [timeDelta, timeAt, if_pos hat]
    rw [← hdelta] at hlow hhigh ⊢
    refine timeSet_slews h ?_ hmode
    have hnow : timeAt s d = s.chrono := if_pos hat
    simp only [timeBad, hmode, hnow, Bool.or_eq_false_iff, Bool.and_eq_false_iff, decide_eq_false_iff_not, if_true]
    omega
  · intro hmode hrate hlow hhigh
    have hnow : timeAt s d = s.chrono := if_pos hat
    have hdelta : timeDelta s d = (d.arg 24 8 : Int) * wallUnit - s.bil.clk.fine s.chrono := by rw [timeDelta, hnow]
    rw [← hdelta] at hlow hhigh
    refine timeSet_steps h ?_ hmode hnow hlow hhigh
    simp only [timeBad, hmode, hrate, hnow, Bool.or_eq_false_iff, Bool.and_eq_false_iff, decide_eq_false_iff_not]
    simp
    omega
  · have hexec : exec .timeSetAtChronobase s = execTimeSetAtChronobase s := rfl
    rw [hexec, execTimeSetAtChronobase, hwait]
    dsimp only
    rw [if_neg (Nat.not_lt.mpr hdue)]
    obtain ⟨hclk, hrest, hval⟩ := timeStep_clock (s.modBil fun b => { b with stepWait := rest }) x.1 x.2.1 x.2.2.1 x.2.2.2
    exact ⟨_, rfl, hrest, hclk, hval⟩
  · have hexec : exec .timeSlewEnd s = execTimeSlewEnd s := rfl
    rw [hexec, execTimeSlewEnd, if_pos hslew]
    exact ⟨_, rfl, flag_setB _ F.BIL_TIME_STATUS_SLEWING false rfl, rfl, rfl⟩

end Sys2Proof
end

section
/-!
PROOFS. Pulse outputs, S0 inputs and calibration (R240-R262) and the settling of O32.
-/
set_option Elab.async false -- the kernel evaluations wait for each other: keep them in one thread
namespace Sys2Proof.CommandLaws

open Sys2Proof.Machine Sys2Proof.Laws Sys2Proof.PaddockLaws

variable {s t u : State} {k : Nat}

/-! ### Pulse outputs -/

theorem pulseOutput_starts {due : Nat} {rest : List Nat} (hk : k < 4) (hlen : s.wbg.pulses.length = 4) (hmeters : s.metersOn = true)
    (hen : s.flag (F.WBG_POk_CFG_ENABLE k) = true) (hqueue : (s.wbg.pulses.getD k Pulse.init).queue = due :: rest)
    (hoff : (s.wbg.pulses.getD k Pulse.init).on = none) (hdue : due ≤ s.chrono)
    (hrest : ∀ e, (s.wbg.pulses.getD k Pulse.init).lastEnd = some e → e + s.get (F.WBG_POk_CFG_OFF_MS k) * 250000 ≤ s.chrono) :
    ∃ t, exec (.pulseOutputStart k) s = .next t ∧ (t.wbg.pulses.getD k Pulse.init).queue = rest ∧
      (t.wbg.pulses.getD k Pulse.init).on = some (s.chrono + s.get (F.WBG_POk_CFG_ON_MS k) * 250000) ∧
      t.get (F.WBG_POk_AHEAD k) = min (s.get (F.WBG_POk_AHEAD k) + 1) 65535 := by
  have hexec : exec (.pulseOutputStart k) s = execPulseOutputStart k s := rfl
  rw [hexec, execPulseOutputStart]
  extract_lets x free
  have hfree : free = true := by
    unfold free
    split
    next e he => exact decide_eq_true (hrest e he)
    next => rfl
  rw [show x.queue = due :: rest from hqueue]
  dsimp only
  rw [if_neg (by simp [hmeters, hen, hfree, show x.on = none from hoff]; omega)]
  have hpulse := getD_modAt_self s.wbg.pulses k (fun y : Pulse => { y with
    queue := rest, on := some (s.chrono + s.get (F.WBG_POk_CFG_ON_MS k) * 250000) }) Pulse.init (hlen.symm ▸ hk)
  refine ⟨_, rfl, (congrArg Pulse.queue hpulse :), (congrArg Pulse.on hpulse :), ?_⟩
  refine (get_set_self _ (F.WBG_POk_AHEAD k) _).trans (Nat.mod_eq_of_lt ?_)
  exact Nat.lt_of_le_of_lt (Nat.min_le_right _ _) (show 2 ^ 16 - 1 < 2 ^ 16 by decide)

theorem pulseOutput_ends {e : Nat} (hk : k < 4) (hlen : s.wbg.pulses.length = 4) (hon : (s.wbg.pulses.getD k Pulse.init).on = some e)
    (hend : e ≤ s.chrono) :
    ∃ t, exec (.pulseOutputEnd k) s = .next t ∧ (t.wbg.pulses.getD k Pulse.init).on = none ∧
      (t.wbg.pulses.getD k Pulse.init).lastEnd = some s.chrono := by
  have hexec : exec (.pulseOutputEnd k) s = execPulseOutputEnd k s := rfl
  rw [hexec, execPulseOutputEnd, hon]
  dsimp only
  rw [if_neg (Nat.not_lt.mpr hend)]
  have hpulse := getD_modAt_self s.wbg.pulses k (fun y : Pulse => { y with on := none, lastEnd := some s.chrono }) Pulse.init (hlen.symm ▸ hk)
  exact ⟨_, rfl, (congrArg Pulse.on hpulse :), (congrArg Pulse.lastEnd hpulse :)⟩

/-! ### S0 inputs -/

theorem compareEnd_count (s : State) (fin k : Nat) : (s.compareEnd fin k).get (F.WBG_S0k_COUNT k) = s.get (F.WBG_S0k_COUNT k) := by
  unfold State.compareEnd
  split
  · rfl
  · split
    · split
      · dsimp only
        rw [get_outside 5 (finish_within _ _ _ _ _ _) rfl rfl]
        exact get_set_lo _ rfl
      · rfl
    · rfl

theorem s0Input_counts (at_ : Nat) (hk : k < 4) (hlen : s.wbg.edges.length = 4) (hmeters : s.metersOn = true) :
    ∃ t, exec (.s0InputEdge k at_) s = .next t ∧ t.get (F.WBG_S0k_COUNT k) = (s.get (F.WBG_S0k_COUNT k) + 1) % 2 ^ 32 ∧
      (s.get (F.WBG_S0k_CFG_MODE k) = 2 → at_ ∈ t.wbg.edges.getD k []) := by
  have hexec : exec (.s0InputEdge k at_) s = execS0InputEdge k at_ s := rfl
  rw [hexec, execS0InputEdge, if_neg (by simp [hmeters]; omega)]
  extract_lets s1 m
  have hcount : s1.get (F.WBG_S0k_COUNT k) = (s.get (F.WBG_S0k_COUNT k) + 1) % 2 ^ 32 := get_set_self s (F.WBG_S0k_COUNT k) _
  have hm : m = s.get (F.WBG_S0k_CFG_MODE k) := get_set_lo _ rfl
  refine ⟨_, rfl, ?_⟩
  split
  next h2 =>
    have hedges := getD_modAt_self s.wbg.edges k (fun l => l ++ [at_]) [] (hlen.symm ▸ hk)
    refine ⟨hcount, fun _ => ?_⟩
    show at_ ∈ (modAt s.wbg.edges k fun l => l ++ [at_]).getD k []
    rw [hedges]
    exact List.mem_append_right _ (List.mem_singleton_self _)
  next h2 =>
    refine ⟨?_, fun hmode => absurd (hm.trans hmode) h2⟩
    split
    · exact hcount
    · exact (compareEnd_count _ _ _).trans hcount

theorem cmp_cleared (w : Wbg) (hk : k < w.cmp.length) : (modAt w.cmp k fun _ => none).getD k none = none := getD_modAt_self _ _ _ _ hk

theorem pulseCompare_times_out {x : Compare} {d : Desc} (hk : k < 4) (hlen : s.wbg.cmp.length = 4) (hx : s.wbg.cmp.getD k none = some x)
    (hclose : x.close = none) (hd : InFlight s x.p x.num d) :
    ∃ t, exec (.pulseCompareTimeout k) s = .next t ∧ s.Ended t x.p d.tag 0x06 0 ∧ t.wbg.cmp.getD k none = none ∧
      t.get (F.WBG_S0k_CFG_MODE k) = 0 := by
  have hexec : exec (.pulseCompareTimeout k) s = execPulseCompareTimeout k s := rfl
  rw [hexec, execPulseCompareTimeout, hx]
  dsimp only
  rw [if_neg (by rw [hclose]; decide), State.compareStop, show (s.set (F.WBG_S0k_CFG_MODE k) 0).wbg.cmp.getD k none = some x from hx]
  dsimp only
  let u := (s.set (F.WBG_S0k_CFG_MODE k) 0).modWbg fun w => { w with cmp := modAt w.cmp k fun _ => none }
  have hu : InFlight u x.p x.num d := hd.congr rfl
  have hfin := finish_within u x.p x.num 0x06 0 false
  refine ⟨_, rfl, hu.answered (List.prefix_refl _), ?_, ?_⟩
  · rw [hfin.wbg rfl]
    exact cmp_cleared s.wbg (hlen.symm ▸ hk)
  · rw [get_outside 5 hfin rfl rfl]
    exact get_set_self s (F.WBG_S0k_CFG_MODE k) 0

/-- What neither a channel's state nor SUBSTITUTE shows in stands. -/
theorem showSubstitute_view {β : Type} (g : State → β) (hmet : ∀ u c f, g (State.modMet u c f) = g u)
    (hset : ∀ u c v, g (State.set u (F.WBG_Mc_STATE_SUBSTITUTE c) v) = g u) (s : State) : g s.showSubstitute = g s := by
  unfold State.showSubstitute forAll
  refine foldl_view g (fun u f => ?_) _ s
  dsimp -zeta only
  extract_lets on s1 s2
  have h1 : g s1 = g u := by
    unfold s1
    split
    · exact hmet _ _ _
    · rfl
  have h2 : g s2 = g s1 := by
    unfold s2
    split
    · exact hmet _ _ _
    · rfl
  exact (hset _ _ _).trans (h2.trans h1)

theorem showSubstitute_mode (s : State) (k : Nat) : s.showSubstitute.get (F.WBG_S0k_CFG_MODE k) = s.get (F.WBG_S0k_CFG_MODE k) :=
  showSubstitute_view (fun t => t.get (F.WBG_S0k_CFG_MODE k)) (fun _ _ _ => rfl) (fun _ _ _ => get_set_lo _ rfl) s

theorem showSubstitute_cmp (s : State) : s.showSubstitute.wbg.cmp = s.wbg.cmp :=
  showSubstitute_view (fun t => t.wbg.cmp) (fun _ _ _ => rfl) (fun _ _ _ => rfl) s

/-- An input that takes its setting shows its mode. -/
theorem setInput_mode (s : State) (k : Nat) (b : List Nat) : (s.setInput k b).get (F.WBG_S0k_CFG_MODE k) = byteAt b 0 % 4 := by
  unfold State.setInput
  extract_lets s1 s2 s3
  have h2 : s2.get (F.WBG_S0k_CFG_MODE k) = byteAt b 0 % 4 := (get_set_lo _ rfl).trans (get_set_self s1 (F.WBG_S0k_CFG_MODE k) _)
  have h3 : s3.get (F.WBG_S0k_CFG_MODE k) = s2.get (F.WBG_S0k_CFG_MODE k) := (get_set_lo _ rfl).trans (get_set_lo _ rfl)
  exact (showSubstitute_mode _ k).trans (h3.trans h2)

/-- With no COMPARE to end, an input takes its setting and no descriptor ends. -/
theorem setInput_quiet (hcmp : s.wbg.cmp.getD k none = none) (b : List Nat) : Quiet s (s.setInput k b) := by
  have hstop : s.compareStop k 0x45 = s := by rw [State.compareStop, hcmp]
  unfold State.setInput
  rw [hstop]
  extract_lets s1 s2 s3
  have h2 : Quiet s s2 := ((Quiet.refl s).set (F.WBG_S0k_CFG_MODE k) _).set (F.WBG_S0k_CFG_CHANNEL k) _
  have h3 : Quiet s s3 := (h2.set (F.WBG_S0k_CFG_DIRECTION k) _).set (F.WBG_S0k_CONST k) _
  have h4 : Quiet s (s3.modWbg fun w => { w with edges := modAt w.edges k fun _ => [] }) := h3.trans ⟨List.prefix_refl _, fun _ => rfl, rfl⟩
  exact h4.within (showSubstitute_within _) rfl

theorem compareStop_cmpLength (s : State) (k st : Nat) : (s.compareStop k st).wbg.cmp.length = s.wbg.cmp.length := by
  unfold State.compareStop
  split
  · rw [(finish_within _ _ _ _ _ _).wbg rfl]
    exact length_modAt _ _ _
  · rfl

theorem setInput_cmpLength (s : State) (k : Nat) (b : List Nat) : (s.setInput k b).wbg.cmp.length = s.wbg.cmp.length := by
  unfold State.setInput
  extract_lets s1 s2 s3
  exact (congrArg List.length (showSubstitute_cmp _)).trans (compareStop_cmpLength s k 0x45)

/-! ### PULSE_INPUT_MODE -/

theorem cmp_started (w : Wbg) (x : Compare) (hk : k < w.cmp.length) : (modAt w.cmp k fun _ => some x).getD k none = some x :=
  getD_modAt_self _ _ _ _ hk

theorem leVal_singleton (v : Nat) : leVal [v] = v % 256 := by simp [leVal]

theorem arg_byte0 (d : Desc) : d.arg 24 1 = byteAt d.param 0 % 256 := by
  rw [Desc.arg, leAt, byteAt]
  cases d.param with
  | nil => rfl
  | cons b l => exact leVal_singleton b

/-- The checks of a PULSE_INPUT_MODE that are made first (R261). -/
def inputOk (d : Desc) : Bool :=
  decide (d.arg 24 1 ≤ 2) && decide (d.arg 25 1 ≤ 51) && decide (d.arg 26 1 ≤ 1) && decide (1 ≤ d.arg 28 4) &&
    decide (d.arg 28 4 ≤ 100000000) && (if d.arg 24 1 = 1 then decide (10 ≤ d.arg 32 4) && decide (d.arg 32 4 ≤ 100000) else decide (d.arg 32 4 = 0))

theorem inputMode_refused {p tag : Nat} {d : Desc} (h : s.Ready p tag 0x0503 d) (hok : inputOk d = false) :
    ∃ t, exec (.pulseInputMode p tag) s = .next t ∧ s.Ended t p tag 0x41 0 := by
  have hexec : exec (.pulseInputMode p tag) s = execPulseInputMode p tag s := rfl
  rw [hexec, execPulseInputMode, ready_take h _ (by decide)]
  exact ⟨_, congrArg Host.Outcome.next (if_pos hok), ready_answered h (ready_inFlight h) (List.prefix_refl _) 0x41 0⟩

theorem inputMode_stall {p tag : Nat} {d : Desc} (h : s.Ready p tag 0x0503 d) (hok : inputOk d = true) (hmode : d.arg 24 1 = 2)
    (hch : d.arg 25 1 < 48) : ∃ t, exec (.pulseInputMode p tag) s = .next t ∧ s.Ended t p tag 0x43 0 := by
  have hexec : exec (.pulseInputMode p tag) s = execPulseInputMode p tag s := rfl
  rw [hexec, execPulseInputMode, ready_take h _ (by decide)]
  have hok' : ¬ inputOk d = false := by simp [hok]
  exact ⟨_, congrArg Host.Outcome.next ((if_neg hok').trans (if_pos ⟨hmode, hch⟩)),
    ready_answered h (ready_inFlight h) (List.prefix_refl _) 0x43 0⟩

theorem inputMode_closed {p tag : Nat} {d : Desc} (h : s.Ready p tag 0x0503 d) (hok : inputOk d = true) (hmode : d.arg 24 1 = 2)
    (hch : 48 ≤ d.arg 25 1) (hwindow : s.ownsWindow p = false) :
    ∃ t, exec (.pulseInputMode p tag) s = .next t ∧ s.Ended t p tag 0x40 0 := by
  have hexec : exec (.pulseInputMode p tag) s = execPulseInputMode p tag s := rfl
  rw [hexec, execPulseInputMode, ready_take h _ (by decide)]
  have hok' : ¬ inputOk d = false := by simp [hok]
  have hch' : ¬ (d.arg 24 1 = 2 ∧ d.arg 25 1 < 48) := fun hboth => Nat.not_lt.mpr hch hboth.2
  exact ⟨_, congrArg Host.Outcome.next ((if_neg hok').trans ((if_neg hch').trans (if_pos ⟨.inl hmode, .inl hwindow⟩))),
    ready_answered h (ready_inFlight h) (List.prefix_refl _) 0x40 0⟩

theorem inputMode_logged {p tag : Nat} {d : Desc} (h : s.Ready p tag 0x0503 d) (hok : inputOk d = true) (hmode : d.arg 24 1 = 2)
    (hch : 48 ≤ d.arg 25 1) (hwindow : s.ownsWindow p = true) (hfull : s.changelogFull = false) (hstage : s.stagingUsed + 3608 ≤ 4194304)
    (hadm : s.admits 2 (storeNeed 2 1) = true) :
    ∃ t, exec (.pulseInputMode p tag) s = .next t ∧ ∃ st ∈ t.hay.running, ∃ body bytes,
      st.job = .change ⟨3, p, body, .input p d.num d.target d.param⟩ bytes := by
  have hexec : exec (.pulseInputMode p tag) s = execPulseInputMode p tag s := rfl
  rw [hexec, execPulseInputMode, ready_take h _ (by decide)]
  obtain ⟨hzero, st, hst, bytes, hjob⟩ := logChange_starts (s := taken s p d) (kind := 3) (p := p) (what := 0x0503)
    (body := opcodeBody 0x0503 d.target ((taken s p d).inputBytes d.target) d.param) (act := .input p d.num d.target d.param) hfull hstage hadm
  have hok' : ¬ inputOk d = false := by simp [hok]
  have hch' : ¬ (d.arg 24 1 = 2 ∧ d.arg 25 1 < 48) := fun hboth => Nat.not_lt.mpr hch hboth.2
  have hopen : ¬ ((d.arg 24 1 = 2 ∨ decide (s.get (F.WBG_S0k_CFG_MODE d.target) = 2) = true) ∧ (s.ownsWindow p = false ∨ d.arg 24 1 = 1)) := by
    simp [hwindow, hmode]
  refine ⟨_, congrArg Host.Outcome.next ((if_neg hok').trans ((if_neg hch').trans ((if_neg hopen).trans ((if_pos (.inl hmode)).trans
    (if_pos hzero))))), st, hst, _, bytes, hjob⟩

theorem inputMode_off {p tag : Nat} {d : Desc} (h : s.Ready p tag 0x0503 d) (hok : inputOk d = true) (hmode : d.arg 24 1 = 0)
    (hsub : s.get (F.WBG_S0k_CFG_MODE d.target) ≠ 2) (hcmp : s.wbg.cmp.getD d.target none = none) :
    ∃ t, exec (.pulseInputMode p tag) s = .next t ∧ s.Ended t p tag 0x00 0 ∧ t.get (F.WBG_S0k_CFG_MODE d.target) = 0 := by
  have hexec : exec (.pulseInputMode p tag) s = execPulseInputMode p tag s := rfl
  rw [hexec, execPulseInputMode, ready_take h _ (by decide)]
  have hok' : ¬ inputOk d = false := by simp [hok]
  have hch' : ¬ (d.arg 24 1 = 2 ∧ d.arg 25 1 < 48) := by omega
  have hnosub : ¬ (d.arg 24 1 = 2 ∨ decide (s.get (F.WBG_S0k_CFG_MODE d.target) = 2) = true) := by simp [hmode, hsub]
  have hone : ¬ d.arg 24 1 = 1 := by omega
  have hcmp' : (taken s p d).wbg.cmp.getD d.target none = none := hcmp
  have hquiet : Quiet (taken s p d) ((taken s p d).setInput d.target d.param) := setInput_quiet hcmp' d.param
  refine ⟨((taken s p d).setInput d.target d.param).finish p d.num 0x00 0, congrArg Host.Outcome.next ((if_neg hok').trans ((if_neg hch').trans ((if_neg fun hboth => hnosub hboth.1).trans
    ((if_neg hnosub).trans (if_neg hone))))), ready_answered h ((ready_inFlight h).quiet hquiet) hquiet.out 0x00 0, ?_⟩
  rw [get_outside 5 (finish_within _ _ _ _ _ _) rfl rfl, setInput_mode]
  have := arg_byte0 d
  omega

theorem inputMode_compares {p tag : Nat} {d : Desc} (h : s.Ready p tag 0x0503 d) (hok : inputOk d = true) (hmode : d.arg 24 1 = 1)
    (hsub : s.get (F.WBG_S0k_CFG_MODE d.target) ≠ 2) (hlen : d.target < s.wbg.cmp.length) :
    ∃ t, exec (.pulseInputMode p tag) s = .next t ∧ t.get (F.WBG_S0k_CFG_MODE d.target) = 1 ∧
      t.wbg.cmp.getD d.target none = some ⟨p, d.num, d.arg 32 4, 0, none, none, 0, []⟩ := by
  have hexec : exec (.pulseInputMode p tag) s = execPulseInputMode p tag s := rfl
  rw [hexec, execPulseInputMode, ready_take h _ (by decide)]
  have hok' : ¬ inputOk d = false := by simp [hok]
  have hch' : ¬ (d.arg 24 1 = 2 ∧ d.arg 25 1 < 48) := by omega
  have hnosub : ¬ (d.arg 24 1 = 2 ∨ decide (s.get (F.WBG_S0k_CFG_MODE d.target) = 2) = true) := by simp [hmode, hsub]
  let u := (taken s p d).setInput d.target d.param
  have hshown : u.get (F.WBG_S0k_CFG_MODE d.target) = byteAt d.param 0 % 4 := setInput_mode _ _ _
  have hlen' : d.target < u.wbg.cmp.length := Nat.lt_of_lt_of_eq hlen (setInput_cmpLength (taken s p d) _ _).symm
  refine ⟨u.modWbg fun w => { w with cmp := modAt w.cmp d.target fun _ => some ⟨p, d.num, d.arg 32 4, 0, none, none, 0, []⟩ },
    congrArg Host.Outcome.next ((if_neg hok').trans ((if_neg hch').trans ((if_neg fun hboth => hnosub hboth.1).trans
      ((if_neg hnosub).trans (if_pos hmode))))), ?_⟩
  clear_value u
  refine ⟨hshown.trans ?_, cmp_started _ _ hlen'⟩
  have := arg_byte0 d
  omega

/-! ### CAL_APPLY -/

theorem calApply_closed {p tag : Nat} {d : Desc} (h : s.Ready p tag 0x0501 d) (hwindow : s.ownsWindow p = false) :
    ∃ t, exec (.calApply p tag) s = .next t ∧ s.Ended t p tag 0x40 0 := by
  have hexec : exec (.calApply p tag) s = execCalApply p tag s := rfl
  rw [hexec, execCalApply, ready_take h _ (by decide)]
  exact ⟨_, congrArg Host.Outcome.next (if_pos hwindow), ready_answered h (ready_inFlight h) (List.prefix_refl _) 0x40 0⟩

theorem calApply_range {p tag : Nat} {d : Desc} (h : s.Ready p tag 0x0501 d) (hwindow : s.ownsWindow p = true)
    (hok : calOk d.target (d.arg 24 1) (calOf d.param) = false) : ∃ t, exec (.calApply p tag) s = .next t ∧ s.Ended t p tag 0x41 0 := by
  have hexec : exec (.calApply p tag) s = execCalApply p tag s := rfl
  rw [hexec, execCalApply, ready_take h _ (by decide)]
  have hw : ¬ s.ownsWindow p = false := by simp [hwindow]
  exact ⟨_, congrArg Host.Outcome.next ((if_neg hw).trans (if_pos hok)), ready_answered h (ready_inFlight h) (List.prefix_refl _) 0x41 0⟩

theorem calApply_noRecord {p tag : Nat} {d : Desc} (h : s.Ready p tag 0x0501 d) (hwindow : s.ownsWindow p = true)
    (hok : calOk d.target (d.arg 24 1) (calOf d.param) = true) (hstall : d.target < 48) (hrec : (s.rec? d.target).committed = false) :
    ∃ t, exec (.calApply p tag) s = .next t ∧ s.Ended t p tag 0x44 0 := by
  have hexec : exec (.calApply p tag) s = execCalApply p tag s := rfl
  rw [hexec, execCalApply, ready_take h _ (by decide)]
  have hw : ¬ s.ownsWindow p = false := by simp [hwindow]
  have hok' : ¬ calOk d.target (d.arg 24 1) (calOf d.param) = false := by simp [hok]
  exact ⟨_, congrArg Host.Outcome.next ((if_neg hw).trans ((if_neg hok').trans (if_pos ⟨hstall, hrec⟩))),
    ready_answered h (ready_inFlight h) (List.prefix_refl _) 0x44 0⟩

theorem calApply_energised {p tag : Nat} {d : Desc} (h : s.Ready p tag 0x0501 d) (hwindow : s.ownsWindow p = true)
    (hok : calOk d.target (d.arg 24 1) (calOf d.param) = true) (hstall : d.target < 48) (hrec : (s.rec? d.target).committed = true)
    (hclosed : s.contactorClosed d.target = true) : ∃ t, exec (.calApply p tag) s = .next t ∧ s.Ended t p tag 0x42 0 := by
  have hexec : exec (.calApply p tag) s = execCalApply p tag s := rfl
  rw [hexec, execCalApply, ready_take h _ (by decide)]
  have hw : ¬ s.ownsWindow p = false := by simp [hwindow]
  have hok' : ¬ calOk d.target (d.arg 24 1) (calOf d.param) = false := by simp [hok]
  have hrec' : ¬ (d.target < 48 ∧ (s.rec? d.target).committed = false) := by simp [hrec]
  exact ⟨_, congrArg Host.Outcome.next ((if_neg hw).trans ((if_neg hok').trans ((if_neg hrec').trans (if_pos ⟨hstall, hclosed⟩)))),
    ready_answered h (ready_inFlight h) (List.prefix_refl _) 0x42 0⟩

theorem calApply_logged {p tag : Nat} {d : Desc} (h : s.Ready p tag 0x0501 d) (hwindow : s.ownsWindow p = true)
    (hok : calOk d.target (d.arg 24 1) (calOf d.param) = true)
    (hfree : 48 ≤ d.target ∨ (s.rec? d.target).committed = true ∧ s.contactorClosed d.target = false) (hfull : s.changelogFull = false)
    (hstage : s.stagingUsed + 3608 ≤ 4194304) (hadm : s.admits 2 (storeNeed 2 1) = true) :
    ∃ t, exec (.calApply p tag) s = .next t ∧ ∃ st ∈ t.hay.running, ∃ body bytes,
      st.job = .change ⟨3, p, body, .cal p d.num d.target d.param⟩ bytes := by
  have hexec : exec (.calApply p tag) s = execCalApply p tag s := rfl
  rw [hexec, execCalApply, ready_take h _ (by decide)]
  obtain ⟨hzero, st, hst, bytes, hjob⟩ := logChange_starts (s := taken s p d) (kind := 3) (p := p) (what := 0x0501)
    (body := opcodeBody 0x0501 d.target (((s.met d.target).path (d.arg 24 1)).bytes (d.arg 24 1)) d.param)
    (act := .cal p d.num d.target d.param) hfull hstage hadm
  have hw : ¬ s.ownsWindow p = false := by simp [hwindow]
  have hok' : ¬ calOk d.target (d.arg 24 1) (calOf d.param) = false := by simp [hok]
  have hrec' : ¬ (d.target < 48 ∧ (s.rec? d.target).committed = false) := fun hboth => hfree.elim (Nat.not_le.mpr hboth.1)
    fun hrest => by simp [hrest.1] at hboth
  have hopen : ¬ (d.target < 48 ∧ s.contactorClosed d.target = true) := fun hboth => hfree.elim (Nat.not_le.mpr hboth.1)
    fun hrest => by simp [hrest.2] at hboth
  exact ⟨_, congrArg Host.Outcome.next ((if_neg hw).trans ((if_neg hok').trans ((if_neg hrec').trans ((if_neg hopen).trans (if_pos hzero))))),
    st, hst, _, bytes, hjob⟩

end Sys2Proof.CommandLaws

namespace Sys2Proof

open Sys2Proof.Machine Sys2Proof.Laws Sys2Proof.CommandLaws

/-- Settles O32, command by command. -/
theorem pulsesAndCalibration : Obligations.PulsesAndCalibration := by
  intro s hpulses hedges hcmp hmet
  refine ⟨fun k hk => ⟨fun due rest hmeters hen hqueue hoff hdue hrest => pulseOutput_starts hk hpulses hmeters hen hqueue hoff hdue hrest,
      fun e hon hend => pulseOutput_ends hk hpulses hon hend, fun at_ hmeters => s0Input_counts at_ hk hedges hmeters,
      fun x d hx hclose hd => pulseCompare_times_out hk hcmp hx hclose hd⟩,
    fun p tag d h htarget => ⟨fun hmode => ?_, fun hch hdir hlow hhigh hwin => ?_, fun hmode hch hdir hlow hhigh hwlow hwhigh hsub => ?_⟩,
    fun p tag d h => ⟨calApply_closed h, calApply_range h, fun hwindow hok => ⟨calApply_noRecord h hwindow hok, calApply_energised h hwindow hok,
      calApply_logged h hwindow hok⟩⟩⟩
  · exact inputMode_refused h (by simp [inputOk, Nat.not_le.mpr hmode])
  · have hok : d.arg 24 1 ≠ 1 → d.arg 24 1 ≤ 2 → inputOk d = true := fun hone htwo => by
      simp [inputOk, hone, htwo, hch, hdir, hlow, hhigh, hwin]
    refine ⟨fun hmode => ?_, fun hmode => ?_, fun hmode => ?_, fun hmode => ?_⟩
    · exact inputMode_stall h (hok (by omega) (by omega)) hmode
    · exact inputMode_closed h (hok (by omega) (by omega)) hmode
    · exact inputMode_off h (hok (by omega) (by omega)) hmode
    · exact inputMode_logged h (hok (by omega) (by omega)) hmode
  · exact inputMode_compares h (by simp [inputOk, hmode, hch, hdir, hlow, hhigh, hwlow, hwhigh]) hmode hsub (hcmp.symm ▸ htarget)

end Sys2Proof
end

section
/-!
PROOFS. Stores of the Weighbridge (R244-R247, R260) and the settling of O31.
-/
set_option Elab.async false -- the kernel evaluations wait for each other: keep them in one thread
namespace Sys2Proof.CommandLaws

open Sys2Proof.Machine Sys2Proof.Laws Sys2Proof.PaddockLaws

variable {s t u : State} {m : Nat}

/-! ### What a store's admission reads -/

/-- The hold-up check reads the power, the Hayloft and their registers only (R519). -/
theorem admits_within (h : Within m s t) (hpwr : m.testBit 22 = false) (hhay : m.testBit 19 = false) (hpwrRegs : m.testBit (32 + 15) = false)
    (hhayRegs : m.testBit (32 + 14) = false) (cls need : Nat) : t.admits cls need = s.admits cls need := by
  have hget : ∀ f : Fld, f.win = 15 ∨ f.win = 14 → t.get f = s.get f := fun f hf =>
    hf.elim (fun h15 => get_outside 15 h h15 hpwrRegs) fun h14 => get_outside 14 h h14 hhayRegs
  have hneed : t.runningNeed = s.runningNeed := by rw [State.runningNeed, h.hay hhay, State.runningNeed]
  have hcovers : ∀ total, t.holdupCovers total = s.holdupCovers total := fun total => by
    rw [State.holdupCovers, hget F.HAY_HOLDUP_E_VHOLD (.inr rfl), hget F.HAY_HOLDUP_C (.inr rfl), State.holdupCovers]
  rw [State.admits, h.pwr hpwr, hget F.PWR_DOMAINS (.inl rfl), hget F.PWR_STATE_SUPPLY (.inl rfl), hneed, hcovers, State.admits]

theorem edgeAt_at (s : State) (at_ : Nat) : (s.edgeAt at_).at_ = at_ := by
  unfold State.edgeAt
  split
  · split
    next h => exact h
    next => rfl
  · rfl

theorem tryStore_starts {cls n : Nat} (job : Job) (h : s.admits cls (storeNeed cls n) = true) :
    ∃ st ∈ (s.tryStore cls n job).2.hay.running, st.job = job := by
  rw [State.tryStore, if_pos h]
  exact ⟨_, List.mem_append_right _ (List.mem_singleton_self _), rfl⟩

/-! ### A store that starts -/

/-- The state that a store of boundary `at_` captures: its readings taken and taken again, the session numbers noted (R295, R304). -/
def captured (s : State) (at_ : Nat) : State :=
  ((s.bil.takes.filter fun x => x.at_ < at_).foldl (fun t x => t.captureTake at_ x)
    ((s.recapture at_).modBil fun b => { b with takes := b.takes.filter fun x => at_ ≤ x.at_ })).noteStarts

theorem captured_within (s : State) (at_ : Nat) : Within 0x4000018000 s (captured s at_) := by
  have hbil : Within 0x4000018000 s ((s.recapture at_).modBil fun b => { b with takes := b.takes.filter fun x => at_ ≤ x.at_ }) :=
    (modBil_within _ _).step ((recapture_within s at_).step (Within.refl 0x4000018000 s) rfl) rfl
  exact (noteStarts_within _).step (Within.foldl _ (fun x u hu => (captureTake_within u at_ x).step hu rfl) hbil) rfl

theorem ckptStart_starts (at_ kind : Nat) (h : s.admits 1 (storeNeed 1 (s.carried at_)) = true) :
    ∃ st ∈ (s.ckptStart at_ kind).hay.running, ∃ k, st.job = .ckpt k ∧ k.edge.at_ = at_ ∧ k.final = decide (kind = 2) := by
  unfold State.ckptStart
  extract_lets n due u r
  rw [if_pos h]
  have hu : u.admits 1 (storeNeed 1 n) = true := (admits_within (captured_within s at_) rfl rfl rfl rfl 1 _).trans h
  obtain ⟨st, hst, hjob⟩ := tryStore_starts (.ckpt (u.snapshot at_ n (decide (kind = 2)))) hu
  exact ⟨st, hst, _, hjob, edgeAt_at u at_, rfl⟩

/-! ### A store that is refused -/

/-- A refusal: CKPT_REFUSED stands, what waited is ended, the store is owed again or, the final one, reported by the GAP window (R246). -/
theorem ckptRefused_spec (s : State) (at_ kind need : Nat) :
    (s.ckptRefused at_ kind need).flag F.WBG_STATUS_CKPT_REFUSED = true ∧
      (s.ckptRefused at_ kind need).bil.ckRetry = (if kind = 2 then s.bil.ckRetry else some kind) ∧
      (s.ckptRefused at_ kind need).bil.ckWaits = (s.bil.ckWaits.filter fun x => at_ ≤ x.2.2) ∧
      (kind = 2 → (s.ckptRefused at_ kind need).pwr.gapCause = 1) := by
  unfold State.ckptRefused
  extract_lets s1 ends s2 s3
  have hraise := raise_within (s.setB F.WBG_STATUS_CKPT_REFUSED true) 0x0501 2 0xFFFF
    ([kind] ++ le 4 s.eHold ++ le 4 (Config.rnd (need : Nat) 1000).toNat)
  have hfin : Within 0x400200080004 s3 (ends.foldl (fun t x => t.finish x.1 x.2 0x20 0) s3) :=
    Within.foldl _ (fun x u hu => (finish_within u x.1 x.2 0x20 0 false).step hu rfl) (Within.refl _ s3)
  have hbil1 : s1.bil = s.bil := hraise.bil rfl
  have hflag1 : s1.flag F.WBG_STATUS_CKPT_REFUSED = true := (flag_outside 5 hraise rfl rfl).trans (flag_setB_true s F.WBG_STATUS_CKPT_REFUSED rfl)
  have hbil3 : s3.bil = s2.bil := by
    unfold s3
    split <;> rfl
  have hflag3 : s3.flag F.WBG_STATUS_CKPT_REFUSED = s2.flag F.WBG_STATUS_CKPT_REFUSED := by
    unfold s3
    split <;> rfl
  refine ⟨(flag_outside 5 hfin rfl rfl).trans (hflag3.trans hflag1), ?_, ?_, fun hkind => ?_⟩
  · rw [hfin.bil rfl, hbil3, ← hbil1]
    rfl
  · rw [hfin.bil rfl, hbil3, ← hbil1]
    rfl
  · rw [hfin.pwr rfl]
    unfold s3
    rw [if_pos hkind]
    rfl

theorem tryStore_refused_bil {cls n : Nat} {job : Job} (h : s.admits cls (storeNeed cls n) = false) : (s.tryStore cls n job).2.bil = s.bil := by
  rw [State.tryStore, if_neg (by simp [h])]
  rfl

theorem ckptStart_refused (at_ kind : Nat) (h : s.admits 1 (storeNeed 1 (s.carried at_)) = false) :
    (s.ckptStart at_ kind).flag F.WBG_STATUS_CKPT_REFUSED = true ∧
      (kind ≠ 2 → (s.ckptStart at_ kind).bil.ckRetry = some kind) ∧
      (∀ x ∈ (s.ckptStart at_ kind).bil.ckWaits, at_ ≤ x.2.2) ∧ (kind = 2 → (s.ckptStart at_ kind).pwr.gapCause = 1) := by
  unfold State.ckptStart
  extract_lets n due u r r'
  rw [if_neg (by simp [n, h])]
  obtain ⟨hflag, hretry, hwaits, hgap⟩ := ckptRefused_spec
    (r'.2.modBil fun b => { b with ckForced := b.ckForced.filter fun t => at_ ≤ t, ckAt := at_ / 250000 }) at_ kind (storeNeed 1 n)
  refine ⟨hflag, fun hkind => by rw [hretry, if_neg hkind], fun x hx => ?_, hgap⟩
  rw [hwaits] at hx
  exact of_decide_eq_true (List.mem_filter.mp hx).2

end Sys2Proof.CommandLaws

namespace Sys2Proof

open Sys2Proof.Machine Sys2Proof.Laws Sys2Proof.CommandLaws

/-- Settles O31, command by command. -/
theorem checkpoints : Obligations.Checkpoints := by
  intro s
  refine ⟨fun p tag d h => ?_, ?_⟩
  · have hexec : exec (.checkpointNow p tag) s = execCheckpointNow p tag s := rfl
    rw [hexec, execCheckpointNow, ready_take h _ (by decide)]
    exact ⟨_, rfl, List.mem_append_right _ (List.mem_singleton_self _)⟩
  · intro b n hmay
    refine ⟨fun hnew hgrid => ?_, fun hsupply hquiet => ?_⟩
    · have hexec : exec .checkpointStoreStart s = .next (s.ckptStart (b * 250000) 0) := by
        have hskip : ¬ (s.ckptMay b = false ∨ s.bil.ckAt = b) := by simp [hmay, hnew]
        exact congrArg Host.Outcome.next ((if_neg hskip).trans (if_pos hgrid))
      rw [hexec]
      refine ⟨fun hadm => ⟨_, rfl, ckptStart_starts _ 0 hadm⟩, fun hadm => ⟨_, rfl, ?_⟩⟩
      obtain ⟨hflag, hretry, hwaits, -⟩ := ckptStart_refused _ 0 hadm
      exact ⟨hflag, hretry (by decide), hwaits⟩
    · have hexec : exec .finalStoreStart s = .next (s.finalStore (b * 250000)) := by
        have hon : ¬ s.get F.PWR_STATE_SUPPLY ≠ 2 := fun hne => hne hsupply
        have hready : ¬ (!(s.stallNums.all fun n => s.quiet5A n) && decide (s.chrono < s.pwr.commitAt + 1500000)) = true := by
          simp only [Bool.and_eq_true, Bool.not_eq_true', decide_eq_true_eq, List.all_eq_false]
          rintro ⟨⟨m, hm, hloud⟩, hearly⟩
          rcases hquiet with hquiet | hlate
          · exact hloud (hquiet m (Nat.lt_of_lt_of_le (List.mem_range.mp hm) (variant_links_le s)))
          · omega
        have hidle : ¬ (s.ckptRuns = true ∧ s.bil.ckAt = b) := by
          rintro ⟨hruns, -⟩
          rw [State.ckptMay, hruns] at hmay
          simp at hmay
        exact congrArg Host.Outcome.next ((if_neg hon).trans ((if_neg hready).trans ((if_neg hidle).trans (if_pos hmay))))
      rw [hexec]
      refine ⟨fun hstored => ⟨_, rfl, by rw [State.finalStore, if_pos hstored]; rfl⟩, fun hstored => ?_⟩
      rw [State.finalStore, if_neg (by simp [hstored])]
      refine ⟨fun hadm => ⟨_, rfl, ckptStart_starts _ 2 hadm⟩, fun hadm => ⟨_, rfl, ?_⟩⟩
      obtain ⟨hflag, -, -, hgap⟩ := ckptStart_refused _ 2 hadm
      exact ⟨hflag, hgap rfl⟩

end Sys2Proof
end

section
/-!
PROOFS. The Yardmaster's allocation boundary (R27, R172-R175, R188) and the settling of O21.
-/
set_option Elab.async false -- the kernel evaluations wait for each other: keep them in one thread
namespace Sys2Proof.CommandLaws

open Sys2Proof.Machine Sys2Proof.Laws Sys2Proof.PaddockLaws Sys2Proof.SolveLaws

variable {s t u : State} {f g : Fld} {c n m : Nat}

/-! ### What the steps of a boundary leave alone -/

/-- From `s` to `t` the time, the registers of `R` and the view `V` of the Yardmaster stand. -/
structure Kept {β : Type} (V : Yms → β) (R : Fld → Prop) (s t : State) : Prop where
  chrono : t.chrono = s.chrono
  yms : V t.yms = V s.yms
  regs : ∀ f, R f → t.get f = s.get f

section
variable {β : Type} {V : Yms → β} {R : Fld → Prop}

theorem Kept.refl (s : State) : Kept V R s s := ⟨rfl, rfl, fun _ _ => rfl⟩

theorem Kept.trans (h : Kept V R s t) (h' : Kept V R t u) : Kept V R s u :=
  ⟨h'.chrono.trans h.chrono, h'.yms.trans h.yms, fun f hf => (h'.regs f hf).trans (h.regs f hf)⟩

theorem Kept.set (h : Kept V R s t) (f : Fld) (v : Nat) (hf : ∀ g, R g → g.key ≠ f.key) : Kept V R s (t.set f v) :=
  h.trans ⟨rfl, rfl, fun g hg => get_set_ne t v (hf g hg)⟩

theorem Kept.modYms (h : Kept V R s t) (w : Yms → Yms) (hw : ∀ y, V (w y) = V y) : Kept V R s (t.modYms w) := h.trans ⟨rfl, hw _, fun _ _ => rfl⟩

theorem Kept.modPwr (h : Kept V R s t) (w : Pwr → Pwr) : Kept V R s (t.modPwr w) := h.trans ⟨rfl, rfl, fun _ _ => rfl⟩

/-- What reaches neither the time, nor the Yardmaster, nor its window keeps them. -/
theorem Kept.within {k : Nat} (h : Kept V R s t) (hu : Within k t u) (hR : ∀ f, R f → f.win = 3) (h0 : k.testBit 0 = false)
    (h10 : k.testBit 10 = false) (h35 : k.testBit (32 + 3 % 256) = false) : Kept V R s u :=
  h.trans ⟨hu.chrono h0, congrArg V (hu.yms h10), fun f hf => get_outside 3 hu (hR f hf) h35⟩

theorem Kept.raise (h : Kept V R s t) (hR : ∀ f, R f → f.win = 3) (code sev src : Nat) (pay : List Nat) :
    Kept V R s (t.raise code sev src pay) := h.within (raise_within _ _ _ _ _) hR rfl rfl rfl

theorem Kept.foldl {α : Type} {l : List α} {w : State → α → State} (hw : ∀ u a, a ∈ l → Kept V R s u → Kept V R s (w u a)) (h : Kept V R s t) :
    Kept V R s (l.foldl w t) := by
  induction l generalizing t with
  | nil => exact h
  | cons a l ih => exact ih (fun u b hb => hw u b (List.mem_cons_of_mem _ hb)) (hw t a (List.mem_cons_self ..) h)

end

/-- A run over a list that names `n` once: before it `P` holds, from it on `Q` does. -/
theorem forAll_hit {P Q : State → Prop} {w : Nat → State → State} {l : List Nat} (hn : n ∈ l) (hnd : l.Nodup)
    (hP : ∀ u, ∀ m ∈ l, m ≠ n → P u → P (w m u)) (hhit : ∀ u, P u → Q (w n u)) (hQ : ∀ u, ∀ m ∈ l, m ≠ n → Q u → Q (w m u)) (h : P s) :
    Q (forAll l w s) := by
  unfold forAll
  induction l generalizing s with
  | nil => exact absurd hn List.not_mem_nil
  | cons a l ih =>
    obtain ⟨hnot, hnd'⟩ := List.nodup_cons.mp hnd
    rw [List.foldl_cons]
    rcases List.mem_cons.mp hn with rfl | hn'
    · exact List.foldlRecOn l _ (motive := Q) (hhit s h) fun u hu m hm =>
        hQ u m (List.mem_cons_of_mem _ hm) (fun he => hnot (he ▸ hm)) hu
    · have hne : a ≠ n := fun he => hnot (he ▸ hn')
      exact ih hn' hnd' (fun u m hm => hP u m (List.mem_cons_of_mem _ hm)) (fun u m hm => hQ u m (List.mem_cons_of_mem _ hm))
        (hP s a (List.mem_cons_self ..) hne h)

/-! ### The staged setpoints -/

/-- The setpoints alone change. -/
abbrev bareView (y : Yms) : Option Emerg × Tree × List Cab := (y.emerg, y.tree, y.cabs)

theorem applied_ne (hn : n < 48) (hm : m < 48) (h : m ≠ n) : (F.YMS_Sn_GRANT_APPLIED n).key ≠ (F.YMS_Sn_GRANT_APPLIED m).key := by
  simp only [Fld.key, Fld.off, F.YMS_Sn_GRANT_APPLIED]; omega

theorem setApplied_ceil (u : State) (m n : Nat) (x : Int) : (u.setS (F.YMS_Sn_GRANT_APPLIED m) x).allocCeil n = u.allocCeil n := by
  have hget : (u.setS (F.YMS_Sn_GRANT_APPLIED m) x).get (F.HLT_Sn_CEIL_I n) = u.get (F.HLT_Sn_CEIL_I n) := get_set_win _ rfl
  rw [State.allocCeil, hget]
  rfl

theorem modYms_getS (u : State) (w : Yms → Yms) (f : Fld) : (u.modYms w).getS f = u.getS f := rfl

/-- With what a setpoint is applied. -/
def Staged (s : State) (n : Nat) (u : State) : Prop := u.yms.staged = s.yms.staged ∧ u.allocCeil n = s.allocCeil n

theorem applyStaged_applied {v : Int} (hn : n < 48) (hv : s.yms.staged.getD n none = some v) (hc : s.allocCeil n ≤ 32767) :
    s.applyStaged.getS (F.YMS_Sn_GRANT_APPLIED n) = max (-(s.allocCeil n : Int)) (min v (s.allocCeil n)) := by
  have hset : ∀ (u : State) (m : Nat) (x : Int), Staged s n u → Staged s n (u.setS (F.YMS_Sn_GRANT_APPLIED m) x) := fun u m x hu =>
    ⟨hu.1, (setApplied_ceil u m n x).trans hu.2⟩
  unfold State.applyStaged
  rw [modYms_getS]
  refine forAll_hit (P := Staged s n) (Q := fun u => u.getS (F.YMS_Sn_GRANT_APPLIED n) = max (-(s.allocCeil n : Int)) (min v (s.allocCeil n)))
    (List.mem_range.mpr hn) List.nodup_range (fun u m _ _ hu => ?_) (fun u hu => ?_) (fun u m hm hne hu => ?_) ⟨rfl, rfl⟩
  · split
    · exact hset u m _ hu
    · exact hu
  · rw [show u.yms.staged.getD n none = some v by rw [hu.1]; exact hv]
    dsimp only
    rw [hu.2, State.getS, State.setS, get_set_self]
    exact toSigned_ofSigned_16 (by omega) (by omega)
  · split
    · rw [State.getS, State.setS, get_set_ne _ _ (applied_ne hn (List.mem_range.mp hm) hne)]
      exact hu
    · exact hu

/-- The registers that applying setpoints does not write. -/
def NotApplied (f : Fld) : Prop := f = F.YMS_CYCLE_CFG_SOLVE_EN ∨ f = F.YMS_CAB_STATE0 ∨ f = F.YMS_CAB_STATE1

theorem applyStaged_kept (s : State) : Kept bareView NotApplied s s.applyStaged := by
  unfold State.applyStaged forAll
  refine Kept.modYms (Kept.foldl (fun u m _ hu => ?_) (Kept.refl s)) _ fun _ => rfl
  dsimp -zeta only
  split
  · refine hu.set _ _ fun f hf => key_ne_lo ?_
    rcases hf with rfl | rfl | rfl <;> exact Nat.ne_of_beq_eq_false rfl
  · exact hu

/-! ### Cabinets -/

/-- Cutting a word to 32 bits leaves its first eight nibbles. -/
theorem nibble_mod (X : Nat) {j : Nat} (hj : j < 8) : X % 2 ^ 32 / 16 ^ j % 16 = X / 16 ^ j % 16 := by
  have hsplit : 16 ^ 8 = 16 ^ j * 16 ^ (8 - j) := by rw [← Nat.pow_add, Nat.add_sub_cancel' (Nat.le_of_lt hj)]
  have hpow : 2 ^ 32 = 16 ^ j * 16 ^ (8 - j) := hsplit
  have hdvd : 16 ^ 1 ∣ 16 ^ (8 - j) := Nat.pow_dvd_pow 16 (by omega)
  rw [hpow, Nat.mod_mul_right_div_self]
  exact Nat.mod_mod_of_dvd _ hdvd

/-- Below and above place `i` a word has the nibbles that it has without nibble `i`. -/
theorem nibble_of_split {P q v lo i j : Nat} (hP : P = 16 ^ i) (hlo : lo < P) (hv : v < 16) :
    (lo + P * (v + 16 * q)) / 16 ^ j % 16 = if j = i then v else if j < i then lo / 16 ^ j % 16 else q / 16 ^ (j - i - 1) % 16 := by
  have hpos : 0 < P := Nat.lt_of_le_of_lt (Nat.zero_le _) hlo
  rcases Nat.lt_trichotomy j i with hji | hji | hji
  · rw [if_neg (Nat.ne_of_lt hji), if_pos hji]
    have hsplit : P = 16 ^ j * (16 * 16 ^ (i - j - 1)) := by rw [hP, ← Nat.pow_succ', ← Nat.pow_add]; congr 1; omega
    rw [hsplit, Nat.mul_assoc, Nat.add_mul_div_left _ _ (Nat.pow_pos (by decide)), Nat.mul_assoc, Nat.add_mul_mod_self_left]
  · subst hji
    rw [if_pos rfl, ← hP, Nat.add_mul_div_left _ _ hpos, Nat.div_eq_of_lt hlo]
    omega
  · rw [if_neg (Nat.ne_of_gt hji), if_neg (Nat.lt_asymm hji)]
    have hsplit : 16 ^ j = P * 16 * 16 ^ (j - i - 1) := by rw [hP, ← Nat.pow_succ, ← Nat.pow_add]; congr 1; omega
    rw [hsplit, ← Nat.div_div_eq_div_mul, ← Nat.div_div_eq_div_mul, Nat.add_mul_div_left _ _ hpos, Nat.div_eq_of_lt hlo, Nat.zero_add,
      Nat.add_mul_div_left _ _ (by decide), Nat.div_eq_of_lt hv, Nat.zero_add]

/-- Writing one nibble of a word leaves the others. -/
theorem nibble_put (G : Nat) {v i j : Nat} (hj : j < 8) (hv : v < 16) :
    (G + v * 16 ^ i - G / 16 ^ i % 16 * 16 ^ i) % 2 ^ 32 / 16 ^ j % 16 = if j = i then v else G / 16 ^ j % 16 := by
  have hpos : 0 < 16 ^ i := Nat.pow_pos (by decide)
  have hlo : G % 16 ^ i < 16 ^ i := Nat.mod_lt _ hpos
  have hG : G = G % 16 ^ i + 16 ^ i * (G / 16 ^ i % 16 + 16 * (G / 16 ^ i / 16)) := by rw [Nat.mod_add_div, Nat.mod_add_div]
  have hX : G + v * 16 ^ i - G / 16 ^ i % 16 * 16 ^ i = G % 16 ^ i + 16 ^ i * (v + 16 * (G / 16 ^ i / 16)) := by
    conv => lhs; enter [1, 1]; rw [hG]
    rw [Nat.mul_add, Nat.mul_add, Nat.mul_comm v, Nat.mul_comm (G / 16 ^ i % 16)]
    omega
  have hold := nibble_of_split (j := j) (q := G / 16 ^ i / 16) rfl hlo (Nat.mod_lt (G / 16 ^ i) (by decide : 0 < 16))
  rw [← hG] at hold
  rw [nibble_mod _ hj, hX, nibble_of_split rfl hlo hv, hold]
  split <;> rfl

/-- The register that shows a cabinet's state. -/
def cabReg (c : Nat) : Fld := if c < 8 then F.YMS_CAB_STATE0 else F.YMS_CAB_STATE1

theorem cabReg_w (c : Nat) : (cabReg c).w = 32 := by
  unfold cabReg
  split <;> rfl

theorem cabReg_win (c : Nat) : (cabReg c).win = 3 := by
  unfold cabReg
  split <;> rfl

theorem cabState_eq (s : State) (c : Nat) : s.cabState c = s.get (cabReg c) / 16 ^ (c % 8) % 16 := by
  unfold State.cabState cabReg
  split <;> rfl

theorem putCab_eq (s : State) (c v : Nat) : s.putCab c v =
    s.set (cabReg c) (s.get (cabReg c) + v * 16 ^ (c % 8) - s.get (cabReg c) / 16 ^ (c % 8) % 16 * 16 ^ (c % 8)) := by
  rw [State.putCab, cabState_eq]
  rfl

theorem putCab_cabState {v : Nat} (hc : c < 16) (hm : m < 16) (hv : v < 16) :
    (s.putCab c v).cabState m = if m = c then v else s.cabState m := by
  rw [putCab_eq, cabState_eq, cabState_eq]
  by_cases hside : m < 8 ↔ c < 8
  · have hreg : cabReg m = cabReg c := by simp only [cabReg, hside]
    have hiff : m % 8 = c % 8 ↔ m = c := by omega
    rw [hreg, get_set_self, cabReg_w, nibble_put _ (Nat.mod_lt _ (by decide)) hv]
    simp only [hiff]
  · have hkey : (cabReg m).key ≠ (cabReg c).key := by
      unfold cabReg
      split <;> split
      · omega
      · decide
      · decide
      · omega
    rw [get_set_ne _ _ hkey, if_neg (by rintro rfl; exact hside Iff.rfl)]

/-- From `s` to `t` cabinet `m` and the number of cabinets stand. -/
structure CabSame (m : Nat) (s t : State) : Prop where
  state : t.cabState m = s.cabState m
  cab : t.cab m = s.cab m
  len : t.yms.cabs.length = s.yms.cabs.length

theorem CabSame.refl (m : Nat) (s : State) : CabSame m s s := ⟨rfl, rfl, rfl⟩

theorem CabSame.trans (h : CabSame m s t) (h' : CabSame m t u) : CabSame m s u :=
  ⟨h'.state.trans h.state, h'.cab.trans h.cab, h'.len.trans h.len⟩

theorem CabSame.of_regs (hyms : t.yms.cabs = s.yms.cabs) (hget : t.get (cabReg m) = s.get (cabReg m)) : CabSame m s t :=
  ⟨by rw [cabState_eq, cabState_eq, hget], by rw [State.cab, State.cab, hyms], by rw [hyms]⟩

theorem CabSame.within {k : Nat} (h : CabSame m s t) (hu : Within k t u) (h10 : k.testBit 10 = false) (h35 : k.testBit (32 + 3 % 256) = false) :
    CabSame m s u :=
  h.trans (.of_regs (by rw [hu.yms h10]) (get_outside 3 hu (cabReg_win m) h35))

theorem CabSame.modCab (h : CabSame m s t) (w : Cab → Cab) (hne : m ≠ c) : CabSame m s (t.modCab c w) :=
  h.trans ⟨rfl, getD_modAt_ne _ _ _ _ _ hne, length_modAt _ _ _⟩

theorem putCab_yms (s : State) (c v : Nat) : (s.putCab c v).yms = s.yms := rfl

theorem CabSame.setCab {v cause : Nat} (h : CabSame m s t) (hc : c < 16) (hm : m < 16) (hv : v < 16) (hne : m ≠ c) : CabSame m s (t.setCab c v cause) := by
  have hput : CabSame m t (t.putCab c v) := ⟨by rw [putCab_cabState hc hm hv, if_neg hne], rfl, rfl⟩
  exact (h.trans hput).within (raise_within _ _ _ _ _) rfl rfl

theorem CabSame.finishAll (h : CabSame m s t) (l : List (Nat × Nat)) (st r : Nat) : CabSame m s (t.finishAll l st r) :=
  h.within (finishAll_within t l st r) rfl rfl

/-- A boundary of one cabinet leaves the others. -/
theorem CabSame.cabBoundary (h : CabSame m s t) (hc : c < 16) (hm : m < 16) (hne : m ≠ c) : CabSame m s (t.cabBoundary c) := by
  unfold State.cabBoundary
  extract_lets k
  split
  · split
    · exact ((h.setCab hc hm (by decide) hne).modCab _ hne).finishAll _ _ _
    · exact h
  · split
    · exact h
    · exact (((h.setCab hc hm (by decide) hne).modCab _ hne).finishAll _ _ _).finishAll _ _ _
  · exact h

/-- An ENABLING cabinet that is READY becomes ACTIVE (R172). -/
theorem cabBoundary_joins (hc : c < 16) (hstate : s.cabState c = 2) (hready : (s.cab c).ready = true) (hlen : s.yms.cabs.length = 16) :
    (s.cabBoundary c).cabState c = 3 ∧ ((s.cabBoundary c).cab c).enable = [] := by
  unfold State.cabBoundary
  rw [hstate]
  dsimp only
  rw [if_pos hready]
  let j := (s.setCab c 3 0).modCab c fun x => { x with enable := [], ready := false }
  have hset : (s.setCab c 3 0).cabState c = 3 := by
    have hraise : CabSame c (s.putCab c 3) (s.setCab c 3 0) := (CabSame.refl c _).within (raise_within _ _ _ _ _) rfl rfl
    rw [hraise.state, putCab_cabState hc hc (by decide), if_pos rfl]
  have hlen' : c < (s.setCab c 3 0).yms.cabs.length := by
    rw [State.setCab, (raise_within _ _ _ _ _).yms rfl, putCab_yms, hlen]
    exact hc
  have hj : (j.cab c).enable = [] := congrArg Cab.enable (getD_modAt_self _ _ (fun x : Cab => { x with enable := [], ready := false }) _ hlen')
  have hfin := (CabSame.refl c j).finishAll (s.cab c).enable 0x00 0
  exact ⟨hfin.state.trans hset, (congrArg Cab.enable hfin.cab).trans hj⟩

theorem cabBoundaries_join (hc : c < 16) (hstate : s.cabState c = 2) (hready : (s.cab c).ready = true) (hlen : s.yms.cabs.length = 16) :
    (forAll (List.range 16) (fun c s => s.cabBoundary c) s).cabState c = 3 ∧
      ((forAll (List.range 16) (fun c s => s.cabBoundary c) s).cab c).enable = [] := by
  refine forAll_hit (P := CabSame c s) (Q := fun u => u.cabState c = 3 ∧ (u.cab c).enable = []) (List.mem_range.mpr hc) List.nodup_range
    (fun u m hm hne hu => hu.cabBoundary (List.mem_range.mp hm) hc hne.symm) (fun u hu => ?_) (fun u m hm hne hu => ?_) (CabSame.refl c s)
  · exact cabBoundary_joins hc (hu.state.trans hstate) ((congrArg Cab.ready hu.cab).trans hready) (hu.len.trans hlen)
  · have hsame := (CabSame.refl c u).cabBoundary (List.mem_range.mp hm) hc hne.symm
    exact ⟨hsame.state.trans hu.1, (congrArg Cab.enable hsame.cab).trans hu.2⟩

/-- The registers that the boundaries of the cabinets do not write. -/
def NotCab (f : Fld) : Prop := f = F.YMS_CYCLE_CFG_SOLVE_EN ∨ ∃ n, f = F.YMS_Sn_GRANT_APPLIED n

theorem notCab_win (f : Fld) (h : NotCab f) : f.win = 3 := by
  rcases h with rfl | ⟨n, rfl⟩ <;> rfl

theorem notCab_key (c : Nat) (f : Fld) (h : NotCab f) : f.key ≠ (cabReg c).key := by
  refine key_ne_lo ?_
  have hlo : (cabReg c).lo = 0 := by
    unfold cabReg
    split <;> rfl
  rw [hlo]
  rcases h with rfl | ⟨n, rfl⟩ <;> exact Nat.ne_of_beq_eq_false rfl

/-- Of the Yardmaster's own state the cabinets' boundaries leave the emergency and the tree. -/
abbrev treeView (y : Yms) : Option Emerg × Tree := (y.emerg, y.tree)

theorem cabBoundary_kept (h : Kept treeView NotCab s t) (c : Nat) : Kept treeView NotCab s (t.cabBoundary c) := by
  have hset : Kept treeView NotCab s (t.setCab c 3 0) := by
    unfold State.setCab
    rw [putCab_eq]
    exact (h.set _ _ (notCab_key c)).raise notCab_win _ _ _ _
  have hend : ∀ {u : State} (l : List (Nat × Nat)) (st : Nat), Kept treeView NotCab s u → Kept treeView NotCab s (u.finishAll l st 0) :=
    fun l st hu => hu.within (finishAll_within _ l st 0) notCab_win rfl rfl rfl
  unfold State.cabBoundary
  extract_lets k
  split
  · split
    · exact hend _ _ (hset.modYms _ fun _ => rfl)
    · exact h
  · split
    · exact h
    · exact hend _ _ (hend _ _ (hset.modYms _ fun _ => rfl))
  · exact h

/-! ### The rest of the boundary -/

/-- The registers that the rest of the boundary does not write. -/
def BoundaryReg (f : Fld) : Prop :=
  f = F.YMS_CYCLE_CFG_SOLVE_EN ∨ f = F.YMS_CAB_STATE0 ∨ f = F.YMS_CAB_STATE1 ∨ ∃ n, f = F.YMS_Sn_GRANT_APPLIED n

theorem boundaryReg_win (f : Fld) (h : BoundaryReg f) : f.win = 3 := by
  rcases h with rfl | rfl | rfl | ⟨n, rfl⟩ <;> rfl

/-- A field of a stall's block that lies neither at an applied setpoint nor at the first bit of a word that shows cabinets. -/
theorem boundaryReg_stall {a n : Nat} (h : f.reg = a + 0x20 * n)
    (hplace : f.lo = 31 ∧ a % 0x20 ≠ 0 ∨ f.lo = 0 ∧ a % 0x20 ≠ 0x10 ∧ a % 0x20 ≠ 0x14) : ∀ g, BoundaryReg g → g.key ≠ f.key := by
  intro g hg
  have hpast : ∀ b, b % 0x10000 % 0x20 ≠ a % 0x20 → b % 0x10000 ≠ f.reg % 0x10000 := fun b hb he => by rw [he, h] at hb; omega
  rcases hg with rfl | rfl | rfl | ⟨m, rfl⟩
  · rcases hplace with ⟨-, ha⟩ | ⟨hlo, -⟩
    · exact key_ne_reg (hpast _ ha.symm)
    · exact key_ne_lo (by rw [hlo]; exact Nat.ne_of_beq_eq_false rfl)
  · rcases hplace with ⟨hlo, -⟩ | ⟨-, ha, -⟩
    · exact key_ne_lo (by rw [hlo]; exact Nat.ne_of_beq_eq_false rfl)
    · exact key_ne_reg (hpast _ ha.symm)
  · rcases hplace with ⟨hlo, -⟩ | ⟨-, -, ha⟩
    · exact key_ne_lo (by rw [hlo]; exact Nat.ne_of_beq_eq_false rfl)
    · exact key_ne_reg (hpast _ ha.symm)
  · rcases hplace with ⟨hlo, -⟩ | ⟨hlo, -⟩ <;> exact key_ne_lo (by rw [hlo]; exact Nat.ne_of_beq_eq_false rfl)

section
variable (h : Kept bareView BoundaryReg s t)
include h

theorem throttleFreeze_kept (n : Nat) : Kept bareView BoundaryReg s (t.throttleFreeze n) := by
  unfold State.throttleFreeze
  split
  · exact h
  · split
    · exact h
    · split
      · exact h
      · extract_lets ok g s1
        have h1 : Kept bareView BoundaryReg s s1 := h.modYms _ fun _ => rfl
        split
        · exact (h1.set (F.YMS_Sn_THROTTLE_ENFORCED n) _ (boundaryReg_stall rfl (.inl ⟨rfl, by decide⟩))).raise boundaryReg_win _ _ _ _
        · exact h1

theorem throttleDevFreeze_kept : Kept bareView BoundaryReg s t.throttleDevFreeze := by
  have hdev : ∀ g, BoundaryReg g → g.key ≠ F.YMS_THROTTLE_DEV_ENFORCED.key := by
    rintro g (rfl | rfl | rfl | ⟨m, rfl⟩)
    · decide
    · decide
    · decide
    · exact key_ne_lo (Nat.ne_of_beq_eq_false rfl)
  unfold State.throttleDevFreeze
  split
  · exact h
  · extract_lets ok g s1
    have h1 : Kept bareView BoundaryReg s s1 := h.modYms _ fun _ => rfl
    split
    · exact (h1.set F.YMS_THROTTLE_DEV_ENFORCED _ hdev).raise boundaryReg_win _ _ _ _
    · exact h1

theorem Kept.ceilDerate (n v : Nat) : Kept bareView BoundaryReg s (t.set (F.YMS_Sn_CEIL_DERATE n) v) := h.set _ _ (boundaryReg_stall rfl (.inr ⟨rfl, by decide⟩))

theorem Kept.targets (l : List (FStall × Int)) :
    Kept bareView BoundaryReg s (l.foldl (fun s q => s.setS (F.YMS_Sn_GRANT_TARGET q.1.stall) q.2) t) :=
  Kept.foldl (fun _ q _ hu => hu.set (F.YMS_Sn_GRANT_TARGET q.1.stall) _ (boundaryReg_stall rfl (.inr ⟨rfl, by decide⟩))) h

theorem Kept.putTargets (fz : Frozen) (ts : List Int) (short : List Bool) : Kept bareView BoundaryReg s (t.putTargets fz ts short) := by
  have hload : ∀ g, BoundaryReg g → g.key ≠ F.YMS_SITE_LOAD.key := by
    rintro g (rfl | rfl | rfl | ⟨m, rfl⟩)
    · decide
    · decide
    · decide
    · exact key_ne_lo (Nat.ne_of_beq_eq_false rfl)
  unfold State.putTargets
  extract_lets ts' s1 r
  exact ((h.targets _).set F.YMS_SITE_LOAD _ hload).modYms _ fun _ => rfl

theorem Kept.stage (fz : Frozen) (ts : List Int) : Kept bareView BoundaryReg s (t.stage fz ts) := by
  unfold State.stage
  extract_lets a staged
  exact h.modYms _ fun _ => rfl

end

/-! ### The frozen inputs -/

/-- The stalls of the tree are among the frozen inputs. -/
theorem freeze_stall (h : (s.stallNode? n).isSome = true) : ∃ x ∈ s.freeze.stalls, x.stall = n := by
  obtain ⟨i, hi⟩ := Option.isSome_iff_exists.mp h
  obtain ⟨hlt, hnode, -⟩ := List.findIdx?_eq_some_iff_getElem.mp hi
  obtain ⟨hkind, hindex⟩ := of_decide_eq_true hnode
  have hget : s.treeNodes[i]? = some s.treeNodes[i] := List.getElem?_eq_getElem hlt
  refine ⟨s.freezeStall s.treeNodes[i].index i s.treeNodes[i], List.mem_filterMap.mpr ⟨i, List.mem_range.mpr hlt, ?_⟩, hindex⟩
  rw [hget]
  exact if_pos hkind

/-! ### The targets of an idle boundary -/

theorem zeroTarget (u : State) (n m : Nat) (h : u.get (F.YMS_Sn_GRANT_TARGET n) = 0) :
    (u.setS (F.YMS_Sn_GRANT_TARGET m) 0).get (F.YMS_Sn_GRANT_TARGET n) = 0 := by
  by_cases hkey : (F.YMS_Sn_GRANT_TARGET n).key = (F.YMS_Sn_GRANT_TARGET m).key
  · have hsame : ∀ t : State, t.get (F.YMS_Sn_GRANT_TARGET n) = t.get (F.YMS_Sn_GRANT_TARGET m) := fun t => by rw [State.get, State.get, hkey]
    rw [hsame, State.setS, get_set_self]
    rfl
  · rw [State.setS, get_set_ne _ _ hkey]
    exact h

/-- Setting zero targets makes every stall named zero. -/
theorem zeroTargets {l : List (FStall × Int)} (hl : ∀ q ∈ l, q.2 = 0) (u : State)
    (h : u.get (F.YMS_Sn_GRANT_TARGET n) = 0 ∨ ∃ q ∈ l, q.1.stall = n) :
    (l.foldl (fun s q => s.setS (F.YMS_Sn_GRANT_TARGET q.1.stall) q.2) u).get (F.YMS_Sn_GRANT_TARGET n) = 0 := by
  induction l generalizing u with
  | nil => exact h.elim id fun ⟨q, hq, _⟩ => absurd hq List.not_mem_nil
  | cons a l ih =>
    rw [List.foldl_cons, hl a (List.mem_cons_self ..)]
    refine ih (fun q hq => hl q (List.mem_cons_of_mem _ hq)) _ ?_
    rcases h with h | ⟨q, hq, rfl⟩
    · exact .inl (zeroTarget u n _ h)
    · rcases List.mem_cons.mp hq with rfl | hq
      · exact .inl ((get_set_self u (F.YMS_Sn_GRANT_TARGET q.1.stall) _).trans rfl)
      · exact .inr ⟨q, hq, rfl⟩

theorem putTargets_zero {fz : Frozen} (hn : ∃ x ∈ fz.stalls, x.stall = n) (short : List Bool) :
    (s.putTargets fz (fz.stalls.map fun _ => (0 : Int)) short).get (F.YMS_Sn_GRANT_TARGET n) = 0 := by
  have hgranted : s.granted (fz.stalls.map fun _ => (0 : Int)) = fz.stalls.map fun _ => 0 := by
    unfold State.granted
    split
    · rw [List.map_map]; rfl
    · rfl
  have hzip : List.zip fz.stalls (fz.stalls.map fun _ => (0 : Int)) = fz.stalls.map fun x => (x, 0) := by
    simpa using (List.zip_map' : (fz.stalls.map id).zip (fz.stalls.map fun _ => (0 : Int)) = _)
  obtain ⟨x, hx, hstall⟩ := hn
  unfold State.putTargets
  extract_lets ts s1 r
  have hkept : TargetsKept s1 ((s1.set F.YMS_SITE_LOAD (r.load.getD 0 0)).modYms fun y => { y with rec_ := r, solved := some fz }) :=
    TargetsKept.set (fun _ => rfl) F.YMS_SITE_LOAD _ (by decide)
  rw [hkept n]
  unfold s1 ts
  rw [hgranted, hzip]
  refine zeroTargets (fun q hq => ?_) s (.inr ⟨(x, 0), List.mem_map.mpr ⟨x, hx, rfl⟩, hstall⟩)
  obtain ⟨y, -, rfl⟩ := List.mem_map.mp hq
  rfl

/-! ### The boundary as a whole -/

/-- The state once the setpoints are applied; the zero grant of COMMIT ends once the supply has recovered (R536). -/
def setpointsApplied (s : State) : State :=
  s.applyStaged.modPwr fun w => { w with zeroGrant := s.applyStaged.pwr.zeroGrant && decide (s.applyStaged.get F.PWR_STATE_SUPPLY ≠ 0) }

theorem setpointsApplied_kept (s : State) : Kept bareView NotApplied s (setpointsApplied s) := (applyStaged_kept s).modPwr _

/-- The state once the cabinets have had their boundary too. -/
def boundaryCabs (s : State) : State := forAll (List.range 16) (fun c s => s.cabBoundary c) (setpointsApplied s)

theorem boundaryCabs_kept (s : State) : Kept treeView NotCab s.applyStaged (boundaryCabs s) :=
  Kept.foldl (fun _ c _ hu => cabBoundary_kept hu c) ((Kept.refl _).modPwr _)

/-- How a boundary ends: the inputs are frozen for a solve, or every target is zero. -/
def boundaryEnd (u : State) (fz : Frozen) : State :=
  if u.flag F.YMS_CYCLE_CFG_SOLVE_EN then
    u.modYms fun y => { y with frozen := some { fz with solving := y.emerg.isNone }, asks := y.asks.map fun a => { a with used := true } }
  else
    ((u.modYms fun y => { y with frozen := some { fz with solving := false } }).putTargets fz (fz.stalls.map fun _ => (0 : Int)) []).stage fz
      (fz.stalls.map fun _ => (0 : Int))

/-- The boundary ends over the inputs as they stand after the cabinets. -/
theorem ymsBoundary_eq (s : State) : ∃ u fz, Kept bareView BoundaryReg (boundaryCabs s) u ∧ s.ymsBoundary = boundaryEnd u fz ∧
    fz.at_ = s.chrono ∧ ∀ n, (s.stallNode? n).isSome = true → ∃ x ∈ fz.stalls, x.stall = n := by
  let d := (forAll (boundaryCabs s).stallNums (fun n s => s.throttleFreeze n) (boundaryCabs s)).throttleDevFreeze.modYms fun y =>
    { y with flags := setBitOf y.flags 0 false }
  have hd : Kept bareView BoundaryReg (boundaryCabs s) d :=
    (throttleDevFreeze_kept (Kept.foldl (fun _ n _ hu => throttleFreeze_kept hu n) (Kept.refl _))).modYms _ fun _ => rfl
  have hcabs := boundaryCabs_kept s
  have hstaged := applyStaged_kept s
  have htree : d.yms.tree = s.yms.tree :=
    ((congrArg (fun x => x.2.1) hd.yms).trans (congrArg Prod.snd hcabs.yms)).trans (congrArg (fun x => x.2.1) hstaged.yms)
  refine ⟨_, d.freeze, ?_, rfl, hd.chrono.trans (hcabs.chrono.trans hstaged.chrono), fun n hn => freeze_stall ?_⟩
  · refine Kept.foldl (fun u x _ hu => ?_) hd
    split
    · exact hu.ceilDerate _ _
    · exact hu
  · rw [State.stallNode?, State.treeNodes, htree]
    exact hn

section
variable (u : State) (fz : Frozen)

theorem boundaryEnd_kept : Kept bareView BoundaryReg u (boundaryEnd u fz) := by
  unfold boundaryEnd
  split
  · exact (Kept.refl u).modYms _ fun _ => rfl
  · refine Kept.stage (Kept.putTargets ?_ fz _ _) fz _
    exact (Kept.refl u).modYms _ fun _ => rfl

theorem putTargets_frozen (ts : List Int) (short : List Bool) : (u.putTargets fz ts short).yms.frozen = u.yms.frozen := by
  unfold State.putTargets
  extract_lets ts' s1 r
  have h1 : s1.yms.frozen = u.yms.frozen := by
    unfold s1
    refine foldl_view (fun t : State => t.yms.frozen) (fun x q => ?_) _ u
    rfl
  exact h1

theorem boundaryEnd_frozen : (boundaryEnd u fz).yms.frozen =
    some { fz with solving := u.flag F.YMS_CYCLE_CFG_SOLVE_EN && u.yms.emerg.isNone } := by
  unfold boundaryEnd
  split
  next h =>
    rw [h]
    rfl
  next h =>
    rw [show u.flag F.YMS_CYCLE_CFG_SOLVE_EN = false by simpa using h]
    exact putTargets_frozen _ _ _ _

theorem boundaryEnd_asks (h : u.flag F.YMS_CYCLE_CFG_SOLVE_EN = true) : ∀ a ∈ (boundaryEnd u fz).yms.asks, a.used = true := by
  rw [boundaryEnd, if_pos h]
  intro a ha
  obtain ⟨b, -, rfl⟩ := List.mem_map.mp ha
  rfl

variable {u fz} in
theorem boundaryEnd_zero (h : u.flag F.YMS_CYCLE_CFG_SOLVE_EN = false) (hn : ∃ x ∈ fz.stalls, x.stall = n) :
    (boundaryEnd u fz).getS (F.YMS_Sn_GRANT_TARGET n) = 0 := by
  rw [boundaryEnd, if_neg (by simp [h]), State.getS]
  exact congrArg (toSigned 16) (putTargets_zero hn [])

end

/-- Past the Yardmaster the allocation boundary reaches neither its state nor its window. -/
theorem allocationBoundary_eq (h3 : s.domainOn 3 = true) (h9 : s.domainOn 9 = true) :
    ∃ t, exec .allocationBoundary s = .next t ∧ t.yms = s.ymsBoundary.yms ∧ ∀ f : Fld, f.win = 3 → t.get f = s.ymsBoundary.get f := by
  have hexec : exec .allocationBoundary s = execAllocationBoundary s := rfl
  rw [hexec, execAllocationBoundary, if_neg (by simp [h3]), if_pos h9]
  extract_lets u s1 s2
  let R : Fld → Prop := fun f => f.win = 3
  have h1 : Kept id R u s1 := by
    unfold s1
    split
    · exact (Kept.refl u).within (captureSnapshot_within u) (fun _ hf => hf) rfl rfl rfl
    · exact Kept.refl u
  have h2 : Kept id R u s2 := by
    unfold s2
    split
    · exact h1.within (modWbg_within _ _) (fun _ hf => hf) rfl rfl rfl
    · exact h1
  have hmaps := h2.within (applyMaps_within s2) (fun _ hf => hf) rfl rfl rfl
  have hend := hmaps.within (retryStores_within _) (fun _ hf => hf) rfl rfl rfl
  exact ⟨_, rfl, hend.yms, hend.regs⟩

end Sys2Proof.CommandLaws

namespace Sys2Proof

open Sys2Proof.Machine Sys2Proof.Laws Sys2Proof.CommandLaws

/-- Settles O21: the boundary's steps one after another, each keeping what those before it made. -/
theorem yardmasterBoundary : Obligations.YardmasterBoundary := by
  intro s h3 h9
  obtain ⟨t, hexec, hyms, hregs⟩ := allocationBoundary_eq h3 h9
  obtain ⟨u, fz, hu, hend, hat, hstall⟩ := ymsBoundary_eq s
  rw [hend] at hyms hregs
  have hstaged := applyStaged_kept s
  have hcabs := boundaryCabs_kept s
  have hlate := hu.trans (boundaryEnd_kept u fz)
  have hsolve : u.flag F.YMS_CYCLE_CFG_SOLVE_EN = s.flag F.YMS_CYCLE_CFG_SOLVE_EN := by
    rw [State.flag, hu.regs _ (.inl rfl), hcabs.regs _ (.inl rfl), hstaged.regs _ (.inl rfl), State.flag]
  have hemerg : u.yms.emerg = s.yms.emerg := calc
    u.yms.emerg = (boundaryCabs s).yms.emerg := (Prod.mk.inj hu.yms).1
    _ = s.applyStaged.yms.emerg := (Prod.mk.inj hcabs.yms).1
    _ = s.yms.emerg := (Prod.mk.inj hstaged.yms).1
  refine ⟨t, hexec, ⟨_, (congrArg Yms.frozen hyms).trans (boundaryEnd_frozen u fz), hat, by rw [← hsolve, ← hemerg]⟩, fun n hn v hv hceil => ?_,
    fun c hc hstate hready hlen => ?_, fun hon a ha => ?_, fun hoff n hn hnode => ?_⟩
  · have happlied : t.get (F.YMS_Sn_GRANT_APPLIED n) = s.applyStaged.get (F.YMS_Sn_GRANT_APPLIED n) := by
      rw [hregs _ rfl, hlate.regs _ (.inr (.inr (.inr ⟨n, rfl⟩))), hcabs.regs _ (.inr ⟨n, rfl⟩)]
    rw [State.getS, happlied]
    exact applyStaged_applied hn hv hceil
  · have hreg : NotApplied (cabReg c) ∧ BoundaryReg (cabReg c) := by
      unfold cabReg
      split
      · exact ⟨.inr (.inl rfl), .inr (.inl rfl)⟩
      · exact ⟨.inr (.inr rfl), .inr (.inr (.inl rfl))⟩
    have hkept := setpointsApplied_kept s
    have hv : CabSame c s (setpointsApplied s) := .of_regs (Prod.mk.inj (Prod.mk.inj hkept.yms).2).2 (hkept.regs _ hreg.1)
    obtain ⟨hthree, hdone⟩ := cabBoundaries_join hc (hv.state.trans hstate) ((congrArg Cab.ready hv.cab).trans hready) (hv.len.trans hlen)
    have hlateCabs : (boundaryEnd u fz).yms.cabs = (boundaryCabs s).yms.cabs := (Prod.mk.inj (Prod.mk.inj hlate.yms).2).2
    have ht : CabSame c (boundaryCabs s) t := .of_regs ((congrArg Yms.cabs hyms).trans hlateCabs)
      ((hregs _ (cabReg_win c)).trans (hlate.regs _ hreg.2))
    exact ⟨ht.state.trans hthree, (congrArg Cab.enable ht.cab).trans hdone⟩
  · rw [hyms] at ha
    exact boundaryEnd_asks u fz (hsolve.trans hon) a ha
  · rw [State.getS, hregs _ rfl]
    exact boundaryEnd_zero (hsolve.trans hoff) (hstall n hnode)

end Sys2Proof
end
